-- ==== Sys2Proof/Word.lean ====
section
/-! DEFINITION. Words, bytes and the sparse tables in which the block keeps its indexed state. -/

namespace Sys2Proof

/-- A byte of a frame, a buffer or a data block. -/
abbrev Byte := BitVec 8

/-- Bits `hi:lo` of a number, as a number (R8: bit 0 is the least significant). -/
def bitsOf (w hi lo : Nat) : Nat := (w >>> lo) % 2 ^ (hi + 1 - lo)

/-- Bit `i` of a number. -/
def bitOf (w i : Nat) : Bool := w.testBit i

/-- The number whose only bit is bit `i` when `b` holds, else 0. -/
def bitIf (b : Bool) (i : Nat) : Nat := if b then 2 ^ i else 0

/-- A `Bool` as the dictionary and the registers encode it. -/
def boolNat (b : Bool) : Nat := if b then 1 else 0

/-- A counter that saturates at the largest value of its width (R453). -/
def satAdd (width a n : Nat) : Nat := min (a + n) (2 ^ width - 1)

/-- Ceiling division. -/
def ceilDiv (a b : Nat) : Nat := (a + b - 1) / b

/-- A table from numbers to values, listed by strictly rising key; a key that is
not listed holds the table's default, and no listed value equals it. -/
abbrev Tbl (α : Type) := List (Nat × α)

/-- The value at a key: the listed one, or the default. -/
def Tbl.get {α : Type} (d : α) : Tbl α → Nat → α
  | [], _ => d
  | (a, v) :: t, k => if a = k then v else Tbl.get d t k

/-- The table without a key. -/
def Tbl.erase {α : Type} (k : Nat) : Tbl α → Tbl α
  | [] => []
  | (a, v) :: t => if a = k then Tbl.erase k t else (a, v) :: Tbl.erase k t

/-- Insert a pair before the first larger key. -/
def Tbl.insertSorted {α : Type} (k : Nat) (v : α) : Tbl α → Tbl α
  | [] => [(k, v)]
  | (a, w) :: t => if k < a then (k, v) :: (a, w) :: t else (a, w) :: Tbl.insertSorted k v t

/-- Write a value at a key; writing the default removes the entry. -/
def Tbl.set {α : Type} [DecidableEq α] (d : α) (t : Tbl α) (k : Nat) (v : α) : Tbl α :=
  if v = d then Tbl.erase k t else Tbl.insertSorted k v (Tbl.erase k t)

/-- Change the value at a key. -/
def Tbl.modify {α : Type} [DecidableEq α] (d : α) (t : Tbl α) (k : Nat) (f : α → α) : Tbl α :=
  Tbl.set d t k (f (Tbl.get d t k))

/-- Every listed key is at least `lo`, keys rise strictly, no value is the default. -/
def Tbl.wfFrom {α : Type} [DecidableEq α] (d : α) : Nat → Tbl α → Bool
  | _, [] => true
  | lo, (a, v) :: t => decide (lo ≤ a) && !decide (v = d) && Tbl.wfFrom d (a + 1) t

/-- The canonical form of a table. -/
def Tbl.wf {α : Type} [DecidableEq α] (d : α) (t : Tbl α) : Bool := Tbl.wfFrom d 0 t

/-- The sum of a measure over the listed entries. -/
def Tbl.sum {α : Type} (f : Nat → α → Nat) : Tbl α → Nat
  | [] => 0
  | (k, v) :: t => f k v + Tbl.sum f t

/-- Apply a change to every listed entry that a test selects. -/
def Tbl.mapWhere {α : Type} [DecidableEq α] (d : α) (p : Nat → α → Bool) (f : α → α) :
    Tbl α → Tbl α
  | [] => []
  | (k, v) :: t =>
    let rest := Tbl.mapWhere d p f t
    if p k v then (if f v = d then rest else (k, f v) :: rest) else (k, v) :: rest

/-- A byte-addressed memory: unlisted bytes read 0. -/
abbrev Mem := Tbl Byte

/-- Read one byte. (DESIGN CHOICE, log entry 4) -/
def Mem.read (m : Mem) (a : Nat) : Byte := Tbl.get 0#8 m a

/-- Write one byte. -/
def Mem.write (m : Mem) (a : Nat) (b : Byte) : Mem := Tbl.set 0#8 m a b

/-- Write a run of bytes at rising addresses. -/
def Mem.writeList (m : Mem) (a : Nat) : List Byte → Mem
  | [] => m
  | b :: bs => Mem.writeList (Mem.write m a b) (a + 1) bs

/-- Read `n` bytes at rising addresses. -/
def Mem.readList (m : Mem) (a : Nat) : Nat → List Byte
  | 0 => []
  | n + 1 => Mem.read m a :: Mem.readList m (a + 1) n

/-- The canonical form of a memory. -/
abbrev Mem.wf (m : Mem) : Bool := Tbl.wf 0#8 m

end Sys2Proof
end

