-- ==== Sys2Proof/Syntax.lean ====
section
/-! DEFINITION. The commands of the block: one constructor per row of spec/opcode_table.json, with the
operands that the outside world (a host, the flash and DRAM parts, a timer, a pin) supplies to it. -/

namespace Sys2Proof

/-- A queue of R107: a function's standard queue, or a queue of a slice page. -/
inductive QKey where
  | std (port fn qid : Nat)
  | page (slice qid : Nat)
  deriving DecidableEq, Repr

/-- An access to a register area of a BAR (R81): `be` lists the byte enables from the lowest byte. -/
structure RegAccess where
  port : Nat
  fn : Nat
  bar : Nat
  off : Nat
  width : Nat
  contiguous : Bool
  value : Nat
  deriving DecidableEq, Repr

/-- A 64-byte submission entry, by its fields (R112). `rsvd` says that a field which the NVMe
specifications mark reserved for the opcode is not zero. -/
structure Sqe where
  opcode : Nat
  cid : Nat
  fuse : Nat
  psdt : Nat
  nsid : Nat
  cdw2 : Nat
  cdw3 : Nat
  mptr : Nat
  prp1 : Nat
  prp2 : Nat
  cdw10 : Nat
  cdw11 : Nat
  cdw12 : Nat
  cdw13 : Nat
  cdw14 : Nat
  cdw15 : Nat
  rsvd : Bool
  deriving DecidableEq, Repr

/-- The fields of configuration space that R89 to R98 give a meaning. -/
inductive CfgReg where
  | vendorId | deviceId | revisionId | classCode | subsystemVendorId | subsystemId
  | capabilityChain
  | vfEnable | atsEnable | pasidEnable | relaxedOrderingEnable | tag10Enable
  | maxPayloadSize | maxReadRequestSize | uncorrectableSeverity | uncorrectableStatus
  | other (offset : Nat)
  deriving DecidableEq, Repr

/-- Why a DMA request failed (R98). -/
inductive DmaFail where
  | unsupportedRequest | completerAbort | poisoned | ecrc | atsDenied
  deriving DecidableEq, Repr

/-- The result with which a data mover ends a descriptor step (R11, R122). -/
inductive StepResult where
  | done
  | error (sct sc : Nat)
  deriving DecidableEq, Repr

/-- A management path of R406. -/
inductive MPath where
  | twoWire
  | vdm (port : Nat)
  | fieldNet
  deriving DecidableEq, Repr

/-- The transport on which a dictionary request arrived (R39), with its session where it has one. -/
inductive DPath where
  | admin (tag : Nat)
  | mailbox (port : Nat)
  | mctp (path : MPath) (session : Option Nat)
  | bdp (source : Nat) (session : Option Nat)
  deriving DecidableEq, Repr

/-- The fields of a dictionary frame of R58 after its check. -/
structure DFrame where
  op : Nat
  final : Bool
  reqId : Nat
  index : Nat
  sub : Nat
  ty : Nat
  offset : Nat
  length : Nat
  value : List Byte
  deriving DecidableEq, Repr

/-- The data buffer of a Namespace Management create (R192); `otherZero` says that every field
which the PK9 does not honour is zero. -/
structure NsCreate where
  nsze : Nat
  ncap : Nat
  flbas : Nat
  dps : Nat
  nmic : Nat
  phndl : List Nat
  otherZero : Bool
  deriving DecidableEq, Repr

/-- The kind of a die operation of R177. -/
inductive DieOpKind where
  | read | program | erase
  deriving DecidableEq, Repr

/-- A DIE descriptor as it reaches its channel (R175): its class (0 Crisp to 3 Upkeep), its
deadline where the Media Manager sets one, the plane, block and page it acts on, and its owner. -/
structure DieOp where
  kind : DieOpKind
  cls : Nat
  deadline : Nat
  plane : Nat
  block : Nat
  page : Nat
  slc : Bool
  owner : Nat
  deriving DecidableEq, Repr

/-- What a decoder reports of one DRAM code word (R344). -/
inductive DramCode where
  | clean
  | corrected (device bytes : Nat)
  | uncorrectable (device : Nat)
  deriving DecidableEq, Repr

/-- Who reads a DRAM code word, as R375 tells the outcomes apart. -/
inductive DramUser where
  | writeBuffer (handle : Nat) (committed : Bool)
  | mapFrame (nsid page : Nat)
  | journalTail
  | staging (tag : Nat)
  | other
  deriving DecidableEq, Repr

/-- The place of a DRAM code word, as DRC_ECCLOG reports it (R365). -/
structure DramPlace where
  channel : Nat
  subch : Nat
  rank : Nat
  bg : Nat
  bank : Nat
  row : Nat
  column : Nat
  deriving DecidableEq, Repr

/-- What a scrubber finds in one line (R376). -/
inductive ScrubFind where
  | clean | corrected | uncorrectable
  deriving DecidableEq, Repr

/-- The SRAM arrays of R366. -/
inductive SramArray where
  | tagStore | streamBuffer (bank : Nat) | engineMemory (cluster : Nat) | lineCache | cmb (stop : Nat)
  | descriptorQueues (stop : Nat)
  deriving DecidableEq, Repr

/-- One sensor's sample of a round (R392, R393), in 0.125 °C; `none` is a broken sample. -/
abbrev Sample := Option Int

/-- A slot that a scan finds in the metadata of the codewords it covers (R289, R296). -/
structure ScanSlot where
  nsid : Nat
  lba : Nat
  seq : Nat
  atomLen : Nat
  atomIdx : Nat
  loc : Nat
  slot : Nat
  mode : Nat
  mark : Nat
  deriving DecidableEq, Repr

/-- What Bring-Up finds on the flash: the first JSEQ of a journal page in the replay span that no copy gives, whether
the root and its segments are readable, the slots of the superblocks that a scan covers, the time that map recovery
took, and the targets (channel, CE) that do not answer or differ from the profile (R294, R306). -/
structure Recovered where
  gap : Option Nat
  rootGood : Bool
  scan : List ScanSlot
  milliseconds : Nat
  badTargets : List (Nat × Nat)
  deriving DecidableEq, Repr

/-- The result of coding one block on a lane (R324, R328, R330): the coded image, whether the
encode ended within its time, and whether the residue check found a mismatch. -/
structure Coded where
  image : List Byte
  inTime : Bool
  residueBad : Bool
  deriving DecidableEq, Repr

/-- A firmware image as the checks of R433 and R434 see it. -/
structure FwImage where
  slot : Nat
  imageSeq : Nat
  svn : Nat
  stateFormat : Nat
  lowestFormat : Nat
  revision : List Byte
  digest : Nat
  headerGood : Bool
  signatureGood : Bool
  digestGood : Bool
  deriving DecidableEq, Repr

/-- An MCTP packet of R408. -/
structure McPacket where
  path : MPath
  source : Nat
  msgTag : Nat
  nullEid : Bool
  som : Bool
  eom : Bool
  msgType : Nat
  bytes : List Byte
  deriving DecidableEq, Repr

/-- What the requester's certificate chain shows at FINISH (R411). -/
inductive Chain where
  | manager | maker | stranger
  deriving DecidableEq, Repr

/-- One command of the block. (DESIGN CHOICE, log entry 6) -/
inductive Instr where
  -- host register accesses
  | sqTailDoorbell (w : RegAccess)
  | cqHeadDoorbell (w : RegAccess)
  | registerWrite (w : RegAccess)
  | readClearAccess (w : RegAccess)
  | dmbGo (port : Nat)
  | cmbWrite (port fn off : Nat) (data : List (Option Byte)) (poisoned : Bool)
  | poisonedTlpReceived (port fn : Nat)
  -- PCI Express
  | configRequest (port fn : Nat) (reg : CfgReg) (write : Option Nat)
  | busMasterEnableChange (port fn : Nat) (on : Bool)
  | d3hotTransition (port fn : Nat) (enter : Bool)
  | msixEnableChange (port fn : Nat) (enable mask : Bool)
  | linkUp (port speed width : Nat)
  | speedChangeRetry (port speed width : Nat)
  | l0pDecision (port width : Nat)
  | l1IdleEntry (port : Nat)
  | dmaReadCompletion (req : Nat) (data : List Byte)
  | dmaRequestFailure (req : Nat) (why : DmaFail)
  | completionTimeout (req : Nat)
  | atsInvalidationRequest (port fn itag : Nat) (pasid page : Option Nat)
  | invalidationComplete (port itag : Nat)
  | perstAssert (port : Nat)
  | hotReset (port : Nat)
  | linkDisable (port : Nat)
  | dlDown (port : Nat)
  | pfFunctionLevelReset (port : Nat)
  | vfFunctionLevelReset (port fn : Nat)
  | vfEnableCleared (port : Nat)
  | controllerReset (port fn : Nat)
  | controllerEnable (port fn : Nat) (crime : Bool)
  | nvmSubsystemReset (port : Nat)
  | shutdownNotification (port fn : Nat)
  -- the life of a command
  | entryFetch (q : QKey) (entries : List Sqe)
  | commandAdmission (q : QKey) (tag : Nat)
  | mapFillComplete (nsid page : Nat) (good : Bool)
  | bufferReturn (arena size count : Nat)
  | chainComplete (tag : Nat)
  | overlapResolved (tag : Nat)
  | stepComplete (tag : Nat) (result : StepResult)
  | completionPost (tag : Nat)
  -- admin commands
  | deleteIoSq (tag : Nat)
  | createIoSq (tag : Nat)
  | deleteIoCq (tag : Nat)
  | createIoCq (tag : Nat)
  | getLogPage (tag : Nat)
  | identify (tag : Nat)
  | abort (tag : Nat)
  | setFeatures (tag : Nat)
  | setFeaturesPowerManagement (tag : Nat)
  | setFeaturesHostMemoryBuffer (tag : Nat)
  | setFeaturesTimestamp (tag : Nat) (ms : Nat)
  | setFeaturesFdp (tag : Nat)
  | getFeatures (tag : Nat)
  | asyncEventRequest (tag : Nat)
  | namespaceCreate (tag : Nat) (d : NsCreate)
  | namespaceDelete (tag : Nat)
  | namespaceDeleteComplete (nsid : Nat)
  | namespaceAttach (tag : Nat) (ctrls : List Nat)
  | namespaceDetach (tag : Nat) (ctrls : List Nat)
  | firmwareImageDownload (tag : Nat) (image : FwImage)
  | firmwareCommitReplace (tag : Nat)
  | firmwareCommitActivateNext (tag : Nat)
  | firmwareCommitActivateNow (tag : Nat)
  | activationHandoff (holdUs : Nat)
  | directiveSend (tag : Nat)
  | directiveReceive (tag : Nat)
  | formatNvm (tag : Nat)
  | formatComplete (nsid : Nat)
  | sanitizeBlockErase (tag : Nat)
  | sanitizeCryptoErase (tag : Nat)
  | sanitizeExitFailure (tag : Nat)
  | sliceCreate (tag : Nat) (data : List Byte)
  | sliceBind (tag : Nat) (data : List Byte)
  | sliceUnbind (tag : Nat)
  | sliceReset (tag : Nat)
  | sliceDestroy (tag : Nat)
  | dirtyLogControl (tag : Nat) (data : List Byte)
  | dirtyLogFlush (tag : Nat)
  | queueRestart (tag : Nat)
  | dictionaryRead (tag : Nat)
  | dictionaryWrite (tag : Nat) (frame : List Byte)
  -- I/O commands
  | flush (tag : Nat)
  | write (tag : Nat)
  | read (tag : Nat)
  | writeUncorrectable (tag : Nat)
  | compare (tag : Nat)
  | writeZeroes (tag : Nat)
  | datasetManagement (tag : Nat) (ranges : List (Nat × Nat))
  | verify (tag : Nat)
  | copy (tag : Nat) (ranges : List (Nat × Nat))
  | zoneAppend (tag : Nat)
  | zoneClose (tag : Nat)
  | zoneFinish (tag : Nat)
  | zoneOpen (tag : Nat)
  | zoneReset (tag : Nat)
  | zoneOffline (tag : Nat)
  | flushExplicitZrwaRange (tag : Nat)
  | reportZones (tag : Nat)
  | zoneTableDecision (tag : Nat)
  | zoneResetSettled (tag : Nat)
  | zoneFinishRecommended (nsid zone : Nat)
  | zoneFinishedByController (nsid zone : Nat)
  | transformEncode (tag : Nat) (coded : List (List Byte))
  | transformDecode (tag : Nat)
  -- slices
  | sliceActionApply (slice keySlot : Nat)
  | generationHoldRelease (slice : Nat)
  | resetSequenceEnd (slice : Nat)
  | sliceDestroyComplete (slice : Nat)
  | dirtyLogPostTimer (slice word : Nat)
  | dirtyLogPostDone (slice word : Nat)
  -- scheduling
  | epochStart
  | dieDescriptorArrival (ch pos : Nat) (op : DieOp)
  | suspendMinRunReached (ch pos : Nat)
  | suspendLimitReached (ch pos : Nat)
  | dieOperationComplete (ch pos : Nat) (ok : Bool)
  | thermalPauseEnd (ch pos : Nat)
  | busTransferComplete (ch : Nat)
  | arbiterAgingLift (resource unit : Nat)
  | islandClockGateIdle (island : Nat)
  | islandPowerGateIdle (island : Nat)
  | islandWake (island : Nat) (pastRetention late : Bool)
  | powerGateEntryComplete (island : Nat)
  | engineEvent (engine : Nat)
  | engineEventTimeout (engine : Nat)
  | engineFailed (engine : Nat)
  -- map and journal
  | journalPageTimer
  | journalPageDurable
  | checkpointInterval
  | checkpointEndDurable
  | writebackProgramDone (nsid page slot : Nat) (ok : Bool)
  -- media management
  | programComplete (program : Nat) (ok : Bool)
  | eraseComplete (sb ch : Nat) (ok : Bool)
  | rowHoldExpiry (sb : Nat)
  | foldTask (sb : Nat)
  | foldIdleTimer
  | gcTask (group : Nat)
  | wearLevelHourly
  | idleClosure (sb : Nat)
  | refreshTask (sb : Nat)
  | patrolVisit (sb ch correctedBits : Nat) (failed : Bool)
  | hardDecodeDone (tag blk : Nat) (bits : Nat) (ok directed : Bool) (data : List Byte)
  | softDecodeDone (tag blk : Nat) (ok : Bool) (data : List Byte)
  | rebuildTask
  -- power loss
  | powerLossNotify
  | powerDisable
  | postWindowEnd
  | flushEnd
  | powerControlRelease (pwrdis : Bool)
  | flushRestartTimer
  -- flash channels
  | channelTrainingResult (ch : Nat) (pass : Bool)
  | retrainHoursTimer (ch : Nat)
  | retrain (ch : Nat)
  | retrainStepDone (ch : Nat) (ok last : Bool)
  | rbNHint (ch : Nat)
  | lunBusyTimeout (ch pos : Nat)
  | lunResetCheck (ch pos : Nat) (busy : Bool)
  | syncResetTimeout (ch : Nat)
  | sequencerParityError (ch : Nat) (zq : Bool)
  -- compression
  | blockEncodeDone (tag blk lane : Nat) (c : Coded)
  | slotDecodeDone (tag blk : Nat)
  | ocxonCodeDone (tag blk lane : Nat) (encode : Bool) (c : Coded)
  -- DRAM
  | trefiBoundary (ch rank : Nat) (completed : Bool)
  | realtimeBurstStaged (ch staged waiting : Nat)
  | dramReadComplete (place : DramPlace) (code : DramCode) (mirrorGood : Bool) (user : DramUser)
  | remirrorComplete
  | zqCalibrationTimer (ch : Nat) (ok : Bool)
  | dqsOscillatorTimer (ch drift16 : Nat) (ok : Bool)
  | dramTrainingResult (ch : Nat) (pass registersAgree : Bool)
  -- on-chip memory
  | mergeHoldExpiry (ch line : Nat) (find : ScrubFind) (mirrorGood : Bool)
  | sramScrubStep (arr : SramArray) (elem word : Nat) (find : ScrubFind) (overwritten : Bool)
  | dramScrubStep (place : DramPlace) (code : DramCode) (mirrorGood : Bool) (user : DramUser) (overwritten : Bool)
  -- modes and power
  | auxPowerOn
  | auxPowerLoss
  | mainPgTrue
  | mainPgFalse
  | bringUpComplete (found : Recovered)
  | maintRequest (path : DPath) (on : Bool)
  | maintenanceEntryDone
  | writeProtect (path : DPath) (on : Bool)
  | thermalSampleRound (samples : List Sample)
  | thermalHoldEnd
  | crystalQualified
  | crystalQualifyTimeout
  | slowCrystalFailure
  | refclkStop
  | refclkRestored
  -- reliability
  | aonHeartbeatLoss
  | fabricLinkCrcFailure (link : Nat)
  | softDecoderSelfTest (decoder : Nat) (pass : Bool)
  | portFailure (port : Nat) (loopback : Bool)
  -- the dictionary
  | readEntry (path : DPath) (f : DFrame)
  | writeEntry (path : DPath) (f : DFrame)
  | readWholeRecord (path : DPath) (f : DFrame)
  | writeWholeRecord (path : DPath) (f : DFrame)
  | nextIndex (path : DPath) (f : DFrame)
  | spdmRelay (source : Nat) (f : DFrame)
  | commitIndex (path : DPath) (index : Nat)
  | discardIndex (path : DPath) (index : Nat)
  | restoreIndex (path : DPath) (index : Nat)
  | commitBoundary (index : Nat)
  | commitResponseTimeout (index : Nat)
  | shadowTimeout (index : Nat)
  | logRecordDurable (ok : Bool)
  | tokenRefill
  | compactionComplete (ok : Bool)
  | ackSeq (path : DPath) (value : Nat)
  | timeNs (path : DPath) (value : Nat)
  | minSvn (path : DPath) (value : Nat)
  -- management ports
  | setDynamicAddress (addr : Nat)
  | mctpPacket (p : McPacket)
  | setEndpointId (path : MPath) (eid : Nat)
  | getMessageTypeSupport (path : MPath)
  | dictionaryFrameMessage (path : MPath) (session : Option Nat) (frame : List Byte)
  | readNvmeMiDataStructure (path : MPath) (kind : Nat)
  | subsystemHealthStatusPoll (path : MPath)
  | controllerHealthStatusPoll (path : MPath) (ctrl : Nat)
  | configurationGet (path : MPath) (item : Nat)
  | configurationSet (path : MPath) (item value : Nat)
  | nvmeMiReset (path : MPath)
  | nvmeMiAdminCommand (path : MPath) (session : Option Nat) (ctrl : Nat) (e : Sqe)
  | getVersion (path : MPath)
  | getCapabilities (path : MPath)
  | negotiateAlgorithms (path : MPath)
  | getDigests (path : MPath)
  | getCertificate (path : MPath) (slot : Nat)
  | challenge (path : MPath)
  | getMeasurements (path : MPath) (index : Nat)
  | keyExchange (path : MPath) (peer : Nat)
  | finish (path : MPath) (session : Nat) (chain : Chain)
  | heartbeat (path : MPath) (session : Nat)
  | keyUpdate (path : MPath) (session : Nat)
  | endSession (path : MPath) (session : Nat)
  | sessionIdleTimeout (session : Nat)
  | bdpDatagram (source udpPort : Nat) (session : Option Nat) (bytes : List Byte)
  | neighborSolicitation (target : Nat)
  | echoRequest (target : Nat) (payload : List Byte)
  | t1sLinkUp (unique : Bool)
  | telemetryPeriod (k : Nat)
  | telemetryEventPush (k : Nat)
  -- links, channels and figures, continued
  | perstDeassert (port : Nat)
  | linkRetrained (port speed width : Nat)
  | dramParityError (ch : Nat)
  | interruptCoalescingTimer (q : QKey)
  | powerEstimateInterval (milliwatt : Nat)
  -- without operands: compiled code takes no operands past the 244th constructor
  | stagingTimeout
  | compactionTimer
  | t1sLinkDown
  | compactionRetry
  | resetDynamicAddress
  | fabricCoreFailure
  | measurementIntervalEnd
  | ledActInterval
  deriving DecidableEq, Repr

end Sys2Proof
end

