-- ==== Sys2Proof/Config.lean ====
section
/-! DEFINITION. What the part fixes (counts, sizes, identity) and the values the spec leaves open, which are
opaque: nothing in the package can evaluate them. -/

namespace Sys2Proof.Config

/-- Flash channels (1000h.08, R65). -/
abbrev channels : Nat := 32
/-- LUN positions per channel (1000h.09, R65). -/
abbrev lunsPerChannel : Nat := 32
/-- Engines (1000h.0A, R65) and engine clusters (1000h.0B). -/
abbrev engines : Nat := 128
abbrev clusters : Nat := 16
/-- Slices (1000h.0C, R65). -/
abbrev slices : Nat := 4096
/-- DRAM channels (1000h.0D, R65). -/
abbrev dramChannels : Nat := 4
/-- Host command tags (R119) and I/O queue pairs (R107). -/
abbrev tags : Nat := 262144
abbrev ioQueuePairs : Nat := 16384
/-- Namespace identifiers (R190). -/
abbrev namespaces : Nat := 2048
/-- Entries of one range tracker (R124). -/
abbrev trackerRanges : Nat := 32768
/-- The fetch window of a submission queue (R110). -/
abbrev fetchWindow : Nat := 8
/-- Device-wide zone limits (R199). -/
abbrev activeZones : Nat := 4096
abbrev openZones : Nat := 4096
abbrev zrwas : Nat := 512
/-- RAS records held (A000h.01, R457). -/
abbrev rasRecords : Nat := 4096
/-- The persistence budget of R44, in tokens. -/
abbrev storeTokens : Nat := 8192
/-- A log area holds 4 MiB in units of 64 bytes (R52, R53); 75 % of it starts a compaction (R54). -/
abbrev logUnits : Nat := 65536
abbrev logCompact : Nat := 49152

/-- The value that fuses hold for an identity entry whose Default is BU: the PCI vendor ID, the serial
number, the MAC address (R65, R90, R417). (DESIGN CHOICE, log entry 8) -/
opaque pciVendorId : Nat
opaque serial : List Byte
opaque macAddress : Nat
/-- The digest of a byte string under SHA-384 or a public key, which the spec names and does not compute. -/
opaque digest : List Byte → Nat
/-- The life, in ms, that 10 ms at a hottest junction reading above 95 °C accrue, where the doubling of R451 gives no exact
value: the reading in 0.125 °C. (DESIGN CHOICE, log entry 9) -/
opaque lifeMs : Nat → Nat
/-- A signature of a maker token chains to the maker root (R430), by the token's bytes. -/
opaque tokenSigned : List Byte → Bool
/-- The contents of a configuration-space register that no rule gives (R91 gives no offset). -/
opaque configSpace : Nat → Nat → Nat → Nat
/-- The contents of the part of an NVMe data structure that no rule of the manual gives. -/
opaque nvmeField : Nat → Nat → Nat
/-- The feature value a controller holds before a host sets it, where the manual gives none (R116). -/
opaque featureDefault : Nat → Nat
/-- A value drawn by the deterministic random bit generator of R419, by draw number. -/
opaque drbg : Nat → Nat
/-- Installed DRAM outside the profile's capacity table (R343). -/
opaque installedDramGiB : Nat
/-- The bytes of an SPDM message that the manual names and does not lay out (R410, R411). -/
opaque spdmBytes : Nat → Nat → List Byte
/-- Identity of the certificate chain in the NOR identity sector (R425). -/
opaque deviceChain : Nat
/-- The digest of the ROM (R426). -/
opaque romDigest : Nat


/-- The DRAM channel of a map page's frame, and of a piece of the page directory, by its key, which the order of placement
decides (R226, R347). (DESIGN CHOICE, log entry 10) -/
opaque frameChannel : Nat → Nat
opaque directoryChannel : Nat → Nat

/-- The map home slot that Ochre programs the root of a checkpoint to, by checkpoint number (R238). -/
opaque rootSlot : Nat → Nat

end Sys2Proof.Config
end

