-- ==== Sys2Proof/Machine/State.lean ====
section
/-! DEFINITION. The state of the block as plain data: every register, queue, buffer, counter, mode and pin the
spec names, the queue of waiting commands, and the messages put on the block's outputs. Each structure's
`{}` is its value in a new device before aux power (the reset values of the spec's tables; a value the spec
does not give is named in the assumption log). -/

namespace Sys2Proof.Machine

/-- No command of the block ends in a fault: R9 gives an event that a state does not list the outcome
"unchanged, no action, counted", so this type has no reason to hold. (DESIGN CHOICE, log entry 11) -/
inductive Fault where
  deriving DecidableEq, Repr

/-- Why a command has no meaning. -/
inductive Refusal where
  /-- Raised by an arm of exec that has no meaning yet; safe (nothing is claimed of the command). -/
  | notModelled (mnemonic : String)
  deriving DecidableEq, Repr

/-! ### Messages on the outputs -/

/-- An NVMe status: status code type and status code (R135). -/
structure Status where
  sct : Nat := 0
  sc : Nat := 0
  deriving DecidableEq, Repr

/-- An asynchronous event (R113, R130, R131, R193, R212, R273, R396);
`page` says which admin queue of the controller it belongs to, the slice page's or the standard one. -/
structure AsyncEvent where
  ty : Nat
  info : Nat
  log : Nat
  page : Option Bool := none
  deriving DecidableEq, Repr

/-- A message that the block puts on one of its outputs. (DESIGN CHOICE, log entry 7) -/
inductive Out where
  | completion (q : QKey) (sqid cid sqhd : Nat) (phase : Bool) (st : Status) (dw0 dw1 : Nat)
  | interrupt (port fn addr data : Nat)
  | msix (port fn vector addr data : Nat)
  | readData (port value : Nat)
  | completerAbort (port : Nat)
  | configData (port value : Nat)
  | configRetry (port : Nat)
  | aer (port fn : Nat) (what : String)
  | dmaRead (req port fn : Nat) (pasid : Option Nat) (addr len : Nat)
  | atsRequest (req port fn : Nat) (pasid : Option Nat) (addr : Nat)
  | dmaWrite (port fn : Nat) (pasid : Option Nat) (relaxed : Bool) (addr : Nat) (data : List Byte)
  | dirtyPost (port : Nat) (addr bits : Nat)
  | ltr (port microseconds : Nat)
  | speedChange (port rate : Nat)
  | l0pRequest (port width : Nat)
  | l1Request (port : Nat)
  | invalidationCompletion (port itag : Nat)
  | hostData (tag : Nat) (fields : List (String × Nat))
  | hostBytes (tag : Nat) (data : List Byte)
  | dictResponse (path : DPath) (frame : List Byte)
  | dieCommand (ch pos : Nat) (what : String)
  | busTransfer (ch : Nat) (program : Bool)
  | mgmt (path : MPath) (what : String) (value : Nat)
  | udp (dest port : Nat) (data : List Byte)
  | ndp (target : Nat)
  | echo (target : Nat) (payload : List Byte)
  | led (activeMs : Nat)
  deriving DecidableEq, Repr

/-! ### The Always-On Domain: pins, clocks, straps, time -/

/-- Pins and clocks of R280, R385, R463 to R468, and the time that the model counts. -/
structure Aon where
  now : Nat := 0
  tsBase : Nat := 0
  tsAt : Nat := 0
  tsOrigin : Nat := 0
  auxOk : Bool := false
  mainPg : Bool := false
  pln : Bool := false
  pwrdis : Bool := false
  crystal25 : Bool := false
  crystal32 : Bool := true
  thermalHold : Bool := false
  holdNeedsPg : Bool := false
  strapDual : Bool := false
  strapRefsel : Bool := false
  strapSpi : Bool := false
  strapTest : Bool := false
  portDual : Bool := false
  refsel : Bool := false
  spiMode : Bool := false
  refclk0 : Bool := true
  pllOnRefclk : Bool := false
  pllsOn : Bool := false
  ledCompletion : Bool := false
  deriving DecidableEq, Repr

/-- The base modes of R384, with R385's Unpowered. -/
inductive Base where
  | unpowered | dormant | bringUp | service | readOnly | flush | maintenance
  deriving DecidableEq, Repr

/-- Modes and causes (R384 to R391, R400, R401, R447). -/
structure ModeSt where
  base : Base := .unpowered
  sustain : Nat := 0
  maintCauses : Nat := 0
  readonlyCauses : Nat := 0
  changes : Nat := 0
  lastCause : Nat := 0
  bringupEvent : Nat := 0
  maintReq : Bool := false
  maintEntry : Bool := false
  maintStopped : Bool := false
  entryCkpt : Bool := false
  drainWanted : Bool := false
  maintWaiters : List (DPath × Nat) := []
  fatal : Nat := 0
  mapReady : Bool := false
  rerun : Bool := false
  flushAt : Nat := 0
  flushCause : Nat := 0
  postWindow : Bool := false
  shutdownInFlush : Bool := false
  restartWait : Bool := false
  psInForce : Nat := 0
  psNext : Nat := 0
  powerMw : Nat := 0
  peakMw : Nat := 0
  energyMj : Nat := 0
  overMs : Nat := 0
  noImage : Bool := false
  deriving DecidableEq, Repr

/-! ### Registers of BAR4/5 that hold their own bits (R60, R82 to R84, R188, R279, R342, R365, R405, R418, R441)

`voted` holds the three copies of a voted field (R78) that an upset has made differ from its source, keyed
by register offset × 32 + lowest bit; an unlisted field's copies all equal the source. -/

structure Regs where
  accOffset : Nat := 0
  accKind : Nat := 0
  accBar : Nat := 0
  accPort : Nat := 0
  accFunc : Nat := 0
  accCount : Nat := 0
  accValid : Bool := false
  pwrEvent : BitVec 32 := 0
  wakeHold : BitVec 16 := 0
  rasSummary : BitVec 32 := 0
  rasInten : BitVec 16 := 0
  schStatus : BitVec 32 := 0
  medEvent : BitVec 32 := 0
  cmpEvent : BitVec 32 := 0
  drcEvent : BitVec 32 := 0
  eccLog : Nat := 0
  eccCount : Nat := 0
  eccValid : Bool := false
  eccRemirror : Bool := false
  thmEvent : BitVec 32 := 0
  lcsEvent : BitVec 32 := 0
  mgtEvent : BitVec 32 := 0
  dmbGo : Bool := false
  dmbResult : Nat := 0
  dmbBusy : Bool := false
  dmbPending : Bool := false
  dmbDone : Bool := false
  dmbLen : Nat := 0
  dmbBuf : Mem := []
  voted : Tbl (Option (Nat × Nat × Nat)) := []
  deriving DecidableEq, Repr

/-- A RAS record of R456, without its derived CRC. -/
structure RasRec where
  seq : Nat
  time : Nat
  unit : Nat
  inst : Nat
  kind : Nat
  severity : Nat
  cause : Nat
  detail : List Nat
  deriving DecidableEq, Repr

/-- Vermilion (R456 to R458), the Persistent Event log, and the count of unlisted events (R9). -/
structure Ras where
  ring : List RasRec := []
  lastSeq : Nat := 0
  ack : Nat := 0
  overwritten : Nat := 0
  failures : Nat := 0
  persistentEvents : List RasRec := []
  unlisted : Nat := 0
  noRoleDrops : Nat := 0
  lifeFrac : Nat := 0
  deriving DecidableEq, Repr

/-! ### PCI Express (R85 to R106) -/

/-- One entry of a port's address translation cache (R96). -/
structure AtcEntry where
  fn : Nat
  pasid : Option Nat
  page : Nat
  deriving DecidableEq, Repr

/-- An ATS invalidation in progress and the DMA requests it waits for (R96). -/
structure AtsInv where
  itag : Nat
  waits : List Nat
  deriving DecidableEq, Repr

/-- A port: its link, its controller memory buffer, its translation cache and its counters. -/
structure Port where
  perst : Bool := true
  linkUp : Bool := false
  rate : Nat := 0
  width : Nat := 0
  l0pWidth : Nat := 0
  l1 : Bool := false
  attempts : Nat := 0
  down : Bool := false
  retrain : Bool := false
  configReady : Bool := false
  ltrUs : Nat := 0
  atc : List AtcEntry := []
  invalidations : List AtsInv := []
  cmb : Mem := []
  cmbMarked : Tbl Bool := []
  dlDowns : Nat := 0
  lastReset : Nat := 0
  fencedDiscards : Nat := 0
  laneFault : Bool := false
  lowRate : Nat := 0
  dmaErrors : Nat := 0
  atsInvalidations : Nat := 0
  parityErrors : List Nat := []
  loopbackFails : Nat := 0
  failed : Bool := false
  stayDown : Bool := false
  deriving DecidableEq, Repr

/-- An MSI-X table entry of a function. -/
structure MsixEntry where
  addr : Nat := 0
  data : Nat := 0
  masked : Bool := true
  pending : Bool := false
  deriving DecidableEq, Repr

/-- A function: its configuration bits and its NVMe controller registers (R90 to R101, R108). -/
structure Func where
  here : Bool := false
  bme : Bool := false
  d3hot : Bool := false
  pasidEn : Bool := false
  atsEn : Bool := false
  roEn : Bool := false
  tag10 : Bool := false
  mps : Nat := 0
  mrrs : Nat := 2
  msixEn : Bool := false
  msixMask : Bool := false
  uncSeverity : Nat := 0
  uncStatus : Nat := 0
  ccEn : Bool := false
  crime : Bool := false
  rdy : Bool := false
  cfs : Bool := false
  shst : Nat := 0
  asq : Nat := 0
  acq : Nat := 0
  aqa : Nat := 0
  cc : Nat := 0
  intMask : Nat := 0
  cmbBase : Nat := 0
  msix : Tbl MsixEntry := []
  deriving DecidableEq, Repr

/-- What an outstanding DMA request is for; `stale` requests have lost their command, to a fence of the slice named or to an
earlier end of the command. -/
inductive DmaUse where
  | entries (q : QKey)
  | blockData (tag blk off : Nat)
  | list (tag : Nat)
  | infoData (tag off : Nat)
  | infoList (tag : Nat)
  | cqEntry (cq sq : QKey) (cid : Nat) (st : Status) (dw0 dw1 : Nat)
  | hostOut (tag addr : Nat) (data : List Byte)
  | stale (slice : Option Nat)
  deriving DecidableEq, Repr

/-- A non-posted request of the PK9 that waits for its completion (R93, R98). -/
structure Dma where
  port : Nat := 0
  fn : Nat := 0
  pasid : Option Nat := none
  addr : Nat := 0
  len : Nat := 0
  use : Option DmaUse := none
  deriving DecidableEq, Repr

/-! ### The dictionary and its store (R31 to R64) -/

/-- A dictionary value: every numeric type as its unsigned encoding, STR and DOMAIN as bytes. -/
inductive Val where
  | num (n : Nat)
  | bytes (l : List Byte)
  deriving DecidableEq, Repr

/-- A Staged record's shadow (R48). -/
structure Shadow where
  owner : Nat
  fields : List (Nat × Val)
  touched : Nat
  deriving DecidableEq, Repr

/-- A commit that is durable and waits for its boundary (R49). -/
structure PendingCommit where
  session : Nat
  path : Option DPath
  reqId : Nat
  fields : List (Nat × Val)
  durableAt : Nat
  answered : Bool
  action : Nat
  seq : Nat
  deriving DecidableEq, Repr

/-- A staging buffer of a session: what it has written so far of a DOMAIN entry or a whole record (R36, R37). -/
structure StageBuf where
  owner : Nat
  index : Nat
  sub : Nat
  data : List Byte
  touched : Nat
  deriving DecidableEq, Repr

/-- What a NOR append carries, to be answered when it is durable (R43, R49). -/
structure NorOp where
  seq : Nat
  index : Nat
  sub : Nat
  fields : List (Nat × Val)
  units : Nat
  session : Nat
  path : Option DPath
  reqId : Nat
  commit : Bool
  action : Nat
  deriving DecidableEq, Repr

/-- One copy of the persistent store (R52, R53): image, log, and the damage a fault left. -/
structure StoreCopy where
  valid : Bool := false
  imageSeq : Nat := 0
  image : Tbl (Option Val) := []
  log : List NorOp := []
  units : Nat := 0
  torn : Nat := 0
  deriving DecidableEq, Repr

/-- Per-session state of the commit entry (R51). -/
structure SessCommit where
  index : Nat := 0
  result : Nat := 0
  reason : Nat := 0
  deriving DecidableEq, Repr

/-- The dictionary (R31 to R64): values stored and in force (absent: the default), shadows, commits,
staging buffers, the store and its budget. Keys are index × 256 + subindex. -/
structure Dict where
  stored : Tbl (Option Val) := []
  inForce : Tbl (Option Val) := []
  shadows : List (Nat × Shadow) := []
  commits : List (Nat × PendingCommit) := []
  staging : List StageBuf := []
  sess : Tbl SessCommit := []
  abandoned : Nat := 0
  copyA : StoreCopy := { valid := true }
  copyB : StoreCopy := {}
  activeB : Bool := false
  systemImage : Tbl (Option Val) := []
  storeSeq : Nat := 0
  tokens : Nat := 8192
  refillAt : Nat := 0
  appends : List NorOp := []
  appendFailed : Bool := false
  compacting : Bool := false
  lastCompaction : Nat := 0
  retryAt : Option Nat := none
  compactions : Nat := 0
  lastLoad : Nat := 0
  discarded : Nat := 0
  norErrors : Nat := 0
  dup : List (Nat × Nat × Nat × List Byte) := []
  deriving DecidableEq, Repr

/-! ### Queues, commands and controllers (R107 to R136) -/

/-- An entry of a fetch window (R110): when it arrived, and whether its queue, its cluster, the mode and Guard were then as
R3 asks of a qualifying read. -/
structure WinEnt where
  e : Sqe
  since : Nat
  good : Bool
  deriving DecidableEq, Repr

/-- A submission queue. -/
structure Sq where
  live : Bool := false
  base : Nat := 0
  inCmb : Bool := false
  size : Nat := 0
  cqid : Nat := 0
  tail : Nat := 0
  head : Nat := 0
  lastDb : Nat := 0
  window : List WinEnt := []
  frozen : Bool := false
  fetchFail : Bool := false
  deleting : Option Nat := none
  deriving DecidableEq, Repr

/-- A completion queue; `held` are completions kept back while it is frozen. -/
structure Cq where
  live : Bool := false
  base : Nat := 0
  size : Nat := 0
  vector : Nat := 0
  ien : Bool := true
  tail : Nat := 0
  head : Nat := 0
  phase : Bool := true
  lastDb : Nat := 0
  frozen : Bool := false
  coalesced : Nat := 0
  held : List (QKey × Nat × Status × Nat × Nat) := []
  deriving DecidableEq, Repr

/-- The states of a tag (R122). -/
inductive TagSt where
  | free | build | wait | run | post | drain
  deriving DecidableEq, Repr

/-- The kinds of descriptor of R12. -/
inductive StepKind where
  | hostrd | hostwr | buf | xform | die | par | mapupd | cmpl | exc
  deriving DecidableEq, Repr

/-- A step of a plan: its segment and its kind (R11 to R13). -/
structure PStep where
  seg : Nat
  kind : StepKind
  deriving DecidableEq, Repr

/-- The place from which a block's data comes, as the map lookup found it (R28, R218, R232). -/
inductive Src where
  | none_ | flash (loc : Nat) | buffer (handle : Nat) | zeros | stale
  deriving DecidableEq, Repr

/-- The run-time state of one block of a command; `info` is its metadata (R191). -/
structure BlkRt where
  src : Src := .none_
  mode : Nat := 0
  slot : Nat := 3
  data : List Byte := []
  parts : List (Nat × List Byte) := []
  arrived : Bool := false
  ready : Bool := false
  failed : Bool := false
  wrong : Bool := false
  coded : List Byte := []
  info : List Byte := []
  invalid : Bool := false
  pi : Nat := 0
  tries : Nat := 0
  escalation : Nat := 0
  inJoin : Bool := false
  handle : Nat := 0
  deriving DecidableEq, Repr

/-- A tag context (R119) and the plan that it carries. -/
structure Tag where
  st : TagSt := .free
  slice : Nat := 0
  gen : Nat := 0
  q : QKey := .std 0 0 0
  sqe : Sqe := ⟨0, 0, 0, 0, 0, 0, 0, 0, 0, 0, 0, 0, 0, 0, 0, 0, false⟩
  cls : Nat := 1
  order : Nat := 0
  admin : Bool := false
  mi : Option MPath := none
  manager : Bool := false
  fenced : Bool := true
  built : Bool := false
  plan : List PStep := []
  stepsDone : Nat := 0
  committed : Bool := false
  status : Status := {}
  dw0 : Nat := 0
  dw1 : Nat := 0
  need : Nat := 0
  slba : Nat := 0
  nlb : Nat := 0
  passedZone : Bool := false
  zoneEpoch : Nat := 0
  mapTaken : Bool := false
  mode : Nat := 0
  blks : Tbl BlkRt := []
  buffers : List (Nat × Nat × Nat) := []
  ranges : List (Nat × Nat) := []
  stage : List Byte := []
  input : List Byte := []
  segs : Nat := 0
  startAt : Nat := 0
  issueAt : Nat := 0
  lastAt : Nat := 0
  qualifies : Bool := false
  waitsFill : Bool := false
  waitsStage : Bool := false
  inFlight : Bool := false
  listAt : Option (Nat × Nat) := none
  sg : List (Nat × Nat) := []
  outSg : List (Nat × Nat) := []
  infoAt : Option Nat := none
  infoParts : List (Nat × List Byte) := []
  result : List (String × Nat) := []
  deriving DecidableEq, Repr

/-- An Error Information entry (R112, R130, R131, R135). -/
structure ErrEntry where
  sqid : Nat
  cid : Nat
  status : Status
  nsid : Nat := 0
  lba : Nat := 0
  info : Nat := 0
  deriving DecidableEq, Repr

/-- A controller: slice n's is controller n + 1 (R147); a port's manager context is 4096 + port. -/
structure Ctrl where
  features : Tbl (Option Nat) := []
  aers : List Nat := []
  events : List AsyncEvent := []
  errors : List ErrEntry := []
  changedNs : List Nat := []
  aborts : Nat := 0
  ps : Nat := 0
  lastOperational : Nat := 0
  deriving DecidableEq, Repr

/-- Command statistics (R136). -/
structure CmdStats where
  commands : Nat := 0
  tagWaits : Nat := 0
  aborted : Nat := 0
  notAborted : Nat := 0
  freezes : Nat := 0
  fenced : Nat := 0
  deferred : Nat := 0
  idConflicts : Nat := 0
  nextOrder : Nat := 0
  nextReq : Nat := 0
  deriving DecidableEq, Repr

/-! ### Slices (R137 to R161) -/

/-- Slice states of R137, in the encoding of 3000h.01. -/
inductive SliceSt where
  | absent | created | bound | resetting | destroying
  deriving DecidableEq, Repr

/-- A slice outside its dictionary record: state, generation, fence, page registers, dirty log; `acting` is the action of
R141 that is in progress. -/
structure Slice where
  st : SliceSt := .absent
  gen : Nat := 0
  keySlot : Nat := 0xFFFF
  fenceOpen : Bool := false
  unbindPending : Bool := false
  destroyPending : Bool := false
  genHeld : Bool := false
  stale : Bool := false
  qerr : Bool := false
  drops : Nat := 0
  resets : Nat := 0
  lateDiscards : Nat := 0
  genHolds : Nat := 0
  intPending : Tbl Bool := []
  dlogMark : Nat := 0
  dlogActiveB : Bool := false
  dlogOutside : Nat := 0
  dlogMarkA : Nat := 0
  dlogGenA : Nat := 0
  dlogMarkB : Nat := 0
  dlogGenB : Nat := 0
  resetTags : List Nat := []
  acting : Nat := 0
  deriving DecidableEq, Repr

/-- A word of the dirty-log cache (R156). -/
structure DirtyWord where
  slice : Nat
  word : Nat
  bits : Nat
  since : Nat
  posting : Bool
  deriving DecidableEq, Repr

/-! ### Scheduling (R162 to R189) -/

/-- A port's pools of one epoch, in 1/256 unit (R166, R167). -/
structure PortPool where
  upkeep : Nat := 0
  crisp : Nat := 0
  standard : Nat := 0
  bulk : Nat := 0
  spill : Nat := 0
  crispUsed : Nat := 0
  deriving DecidableEq, Repr

/-- The Tenant Scheduler and the scheduling statistics (R163 to R173, R188, R189). -/
structure Sched where
  epoch : Nat := 0
  upkeepPct : Nat := 0
  credit : Tbl Int := []
  grant : Tbl Nat := []
  adminUsed : Tbl Nat := []
  pool0 : PortPool := {}
  pool1 : PortPool := {}
  waited : Tbl Bool := []
  samples : List Nat := []
  completions : Nat := 0
  turns : Tbl (Nat × Nat) := []
  p9999 : Nat := 0
  creditWaits : Nat := 0
  spillAdmits : Nat := 0
  suspends : Nat := 0
  spentWaits : Nat := 0
  forcedResumes : Nat := 0
  overdueIssues : Nat := 0
  pgWakes : Nat := 0
  lifted : List (Nat × Nat) := []
  deriving DecidableEq, Repr

/-- A die operation that waits in a LUN's queue, with its arrival and its deadline (R175). -/
structure WaitOp where
  op : DieOp
  arrival : Nat
  due : Nat
  deriving DecidableEq, Repr

/-- A die operation in progress or suspended (R176). -/
structure RunOp where
  w : WaitOp
  startedAt : Nat
  resumedAt : Nat
  busy : Nat
  suspends : Nat
  suspendedAt : Nat
  joined : List WaitOp
  deriving DecidableEq, Repr

/-- A LUN and its part of Woad (R175 to R179, R315). -/
structure Lun where
  failed : Bool := false
  retired : Bool := false
  queue : List WaitOp := []
  running : Option RunOp := none
  suspended : Option RunOp := none
  suspendWanted : Bool := false
  limitHit : Bool := false
  windowReads : Nat := 0
  crispSince : Nat := 0
  pausedUntil : Option Nat := none
  resetPending : Bool := false
  timeouts : List Nat := []
  failRun : Nat := 0
  failBlocks : List Nat := []
  rowHold : Bool := false
  deriving DecidableEq, Repr

/-- A transfer that waits for a channel bus (R178). -/
structure BusXfer where
  program : Bool
  cls : Nat
  due : Nat
  owner : Nat
  deriving DecidableEq, Repr

/-- Channel states of R307, in the encoding of 7000h.01. -/
inductive ChSt where
  | off | training | running | reduced | failed
  deriving DecidableEq, Repr

/-- A flash channel (R303 to R320). -/
structure Chan where
  st : ChSt := .off
  rate : Nat := 0
  failCause : Nat := 0
  trainings : Nat := 0
  codewords : Nat := 0
  hardFails : Nat := 0
  correctedBits : Nat := 0
  softDecodes : Nat := 0
  misdirected : Nat := 0
  timeouts : Nat := 0
  programFails : Nat := 0
  eraseFails : Nat := 0
  suspends : Nat := 0
  maxBits : Nat := 0
  retrainWanted : Bool := false
  retraining : Bool := false
  trainedAt : Nat := 0
  trainedTempQ : Int := 0
  zqTimes : List Nat := []
  parityTimes : List Nat := []
  busActive : Option BusXfer := none
  busWait : List BusXfer := []
  busyNs : Nat := 0
  busPct : Nat := 0
  deriving DecidableEq, Repr

/-- States of a clock island (R23), in the encoding of PWR_ISLENG. -/
inductive IslSt where
  | running | clockGated | powerGated | off
  deriving DecidableEq, Repr

/-- A clock island: clusters are 0 to 15, channel n is 16 + n. -/
structure Island where
  st : IslSt := .running
  entering : Bool := false
  wakeAfter : Bool := false
  wanted : Bool := false
  failed : Bool := false
  deriving DecidableEq, Repr

/-- An engine (R15 to R19): its queue of events, the event that runs, its commit buffer. -/
structure Engine where
  failed : Bool := false
  servesFor : Option Nat := none
  movedTo : Option Nat := none
  events : List Nat := []
  running : Option Nat := none
  startedAt : Nat := 0
  commitBuf : List Nat := []
  corrected : List Nat := []
  newImage : Bool := false
  deriving DecidableEq, Repr

/-! ### Namespaces, zones and the pool (R190 to R216) -/

/-- A namespace. -/
structure Ns where
  st : Nat := 0
  kind : Nat := 0
  nsze : Nat := 0
  lbaf : Nat := 0
  dps : Nat := 0
  nmic : Nat := 0
  owner : Option Nat := none
  attached : List Nat := []
  used : Nat := 0
  nuse : Nat := 0
  phndl : List Nat := []
  capExceeded : Nat := 0
  key : Option Nat := none
  compressedMap : Bool := false
  createSeq : Nat := 0
  workTag : Option Nat := none
  formatLbaf : Nat := 0
  formatSes : Nat := 0
  formatDps : Nat := 0
  changedZones : List Nat := []
  blocksCoded : Nat := 0
  granulesCoded : Nat := 0
  deriving DecidableEq, Repr

/-- Zone states of R204. -/
inductive ZoneSt where
  | empty | implicitOpen | explicitOpen | closed | full | readOnly | offline
  deriving DecidableEq, Repr

/-- A zone descriptor (R231) and the writes that its write pointer waits for (R201).
(DESIGN CHOICE, log entry 117) -/
structure Zone where
  st : ZoneSt := .empty
  adm : Nat := 0
  wp : Nat := 0
  programmed : Nat := 0
  inFlight : List (Nat × Nat) := []
  voids : List (Nat × Nat) := []
  zrwa : Bool := false
  zrwaWritten : List Nat := []
  finishedByController : Bool := false
  finishRecommended : Bool := false
  charge : Nat := 0
  packAt : Nat := 0
  units : List Nat := []
  lastWrite : Nat := 0
  extent : Nat := 0
  jseq : Nat := 0
  epochNo : Nat := 0
  deriving DecidableEq, Repr

/-- The pool and the placement settings of the device (R194, R208, R215). -/
structure Pool where
  inflight : Nat := 0
  capExceeded : Nat := 0
  fdpEnabled : Bool := false
  fdpConfig : Nat := 0
  fdpEvents : List Nat := []
  rotation : Nat := 0
  placed : Tbl Nat := []
  lastWriteAt : Nat := 0
  deriving DecidableEq, Repr

/-! ### Map, journal, write buffer (R217 to R243) -/

/-- A map entry (R217); an unlisted block is deallocated. -/
structure MEnt where
  loc : Nat := 0
  slot : Nat := 0
  mode : Nat := 0
  trim : Bool := true
  stale : Bool := false
  buf : Bool := false
  deriving DecidableEq, Repr

/-- A page of the directory (R222) with the state of its frame (R226, R227). -/
structure Page where
  home : Option Nat := none
  granules : Nat := 0
  version : Nat := 0
  null : Bool := true
  dirty : Bool := false
  pinned : Bool := false
  inDram : Bool := false
  inHmb : Bool := false
  referenced : Bool := false
  recJseq : Nat := 0
  copyRec : Nat := 0
  writingBack : Bool := false
  changedAfterCopy : Bool := false
  rebuilding : Bool := false
  lost : Bool := false
  indexed : Bool := false
  deriving DecidableEq, Repr

/-- What the durable part of the journal and the directory give: the entries, the zone descriptors and the
directory pages (R222, R235, R295). -/
structure Durable where
  ents : Tbl MEnt := []
  zones : Tbl Zone := []
  pages : Tbl Page := []
  deriving DecidableEq, Repr

/-- A fill of a map page (R224). -/
structure Fill where
  nsid : Nat
  page : Nat
  cls : Nat
  fromHmb : Bool
  prefetch : Bool
  waiters : List Nat
  deriving DecidableEq, Repr

/-- The translation unit: pages, fills, host-memory tier, detectors, statistics (R221 to R230, R242). -/
structure MapSt where
  base : Durable := {}
  ents : Tbl MEnt := []
  pages : Tbl Page := []
  fills : List Fill := []
  lines : List (Nat × Nat) := []
  hmb0 : Nat := 0
  hmb1 : Nat := 0
  detectors : List (Nat × Nat × Nat × Nat) := []
  freedHomes : List (Nat × Nat) := []
  hand : Nat := 0
  wbWanted : Bool := false
  lookups : Nat := 0
  lineHits : Nat := 0
  dramHits : Nat := 0
  hmbFills : Nat := 0
  flashFills : Nat := 0
  prefetches : Nat := 0
  writebacks : Nat := 0
  evictions : Nat := 0
  hmbCopies : Nat := 0
  checkFails : Nat := 0
  movesDropped : Nat := 0
  placementExc : Nat := 0
  pinRefused : Nat := 0
  deriving DecidableEq, Repr

/-- A journal record of R235 and R236; `ty` is its TYPE. -/
structure JRec where
  jseq : Nat
  ty : Nat
  nsid : Nat
  a : Nat
  b : Nat
  c : Nat
  d : Nat
  deriving DecidableEq, Repr

/-- The Sepia journal (R235 to R239, R243); `merged` is the first record and the length of the tail that the merge buffer
(R373) last wrote. -/
structure Jrn where
  next : Nat := 1
  durable : Nat := 0
  tail : List JRec := []
  tailSince : Nat := 0
  flushing : List (List JRec) := []
  log : List JRec := []
  bytesFromReplay : Nat := 0
  replayStart : Nat := 1
  ckptRunning : Bool := false
  ckptBegin : Nat := 0
  ckptEnd : Nat := 0
  ckptStart : Nat := 0
  ckptNo : Nat := 0
  lastCkptAt : Nat := 0
  changed : Bool := false
  checkpoints : Nat := 0
  merged : Nat × Nat := (0, 0)
  tailWaits : Nat := 0
  forced : Nat := 0
  over75 : Bool := false
  deriving DecidableEq, Repr

/-- A block of the write buffer (R29, R30, R283): its two copies and its program. -/
structure WbBlk where
  nsid : Nat := 0
  lba : Nat := 0
  image : List Byte := []
  info : List Byte := []
  slot : Nat := 3
  mode : Nat := 0
  mark : Nat := 0
  copyA : Bool := false
  copyB : Bool := false
  pair : Nat := 0
  slice : Nat := 0
  seq : Nat := 0
  atomLen : Nat := 1
  atomIdx : Nat := 0
  committed : Bool := false
  program : Option Nat := none
  programmed : Bool := false
  parity : Bool := false
  readers : Nat := 0
  deriving DecidableEq, Repr

/-- The write buffer. -/
structure Wbuf where
  blks : Tbl WbBlk := []
  next : Nat := 0
  pendingSlc : List Nat := []
  deriving DecidableEq, Repr

/-! ### Media (R244 to R279) -/

/-- What a superblock is allocated for (R248), with the flush reserve of R282. -/
inductive SbKind where
  | slc | dense | zone | mapHome | journal | system | reserve
  deriving DecidableEq, Repr

/-- Superblock states of R248. -/
inductive SbSt where
  | free | open_ | closed | draining
  deriving DecidableEq, Repr

/-- Why a page program runs. -/
inductive ProgKind where
  | host | fold | collect | refresh | rebuild | filler | parity | zoneData
  deriving DecidableEq, Repr

/-- One block that a program writes: the block, its source (a write-buffer handle or a flash location), its
destination and its slot. -/
structure ProgItem where
  nsid : Nat
  lba : Nat
  fromBuf : Bool
  src : Nat
  dest : Nat
  slot : Nat
  mode : Nat
  deriving DecidableEq, Repr

/-- A page of the open row of a superblock: under construction, then started, then programmed. -/
structure RowPage where
  kind : ProgKind := .host
  items : List ProgItem := []
  started : Bool := false
  done : Bool := false
  deriving DecidableEq, Repr

/-- A superblock. (DESIGN CHOICE, log entry 99) -/
structure Sb where
  st : SbSt := .free
  kind : SbKind := .slc
  valid : Nat := 0
  closedAt : Nat := 0
  lastProgram : Nat := 0
  rows : Nat := 0
  row : List RowPage := []
  rowOn : List Nat := []
  parityLeft : Nat := 0
  laneRow : Tbl Nat := []
  group : Nat := 0
  handle : Nat := 0
  rowSince : Nat := 0
  absentCh : List Nat := []
  lost : List (Nat × Nat) := []
  erasing : List Nat := []
  wear : Nat := 0
  reads : Tbl Nat := []
  savedReads : Tbl Nat := []
  step4 : List Nat := []
  refreshQueued : Bool := false
  refreshRaised : Bool := false
  programmed : Nat := 0
  filler : Bool := false
  readers : Nat := 0
  lastMoveJseq : Nat := 0
  deriving DecidableEq, Repr

/-- A page program in progress, of page `page` of the open row of its superblock. -/
structure Prog where
  live : Bool := false
  kind : ProgKind := .host
  sb : Nat := 0
  ch : Nat := 0
  page : Nat := 0
  items : List ProgItem := []
  deriving DecidableEq, Repr

/-- A move that waits for room in an open superblock of its kind, reclaim group and handle. -/
structure MoveWait where
  kind : ProgKind
  dest : SbKind
  group : Nat
  handle : Nat
  item : ProgItem
  deriving DecidableEq, Repr

/-- The Media Manager (R246 to R273, R278). -/
structure Media where
  sbs : Tbl Sb := []
  progs : Tbl Prog := []
  nextProg : Nat := 0
  grownBad : Nat := 0
  badTimes : List (Nat × Nat) := []
  retiredLuns : List Nat := []
  retiredBlocks : Nat := 0
  s0 : Nat := 0
  exhausted : Bool := false
  folding : Bool := false
  rebuildState : Nat := 0
  rebuildLeft : Nat := 0
  degraded : Bool := false
  readRefreshes : Nat := 0
  patrolRefreshes : Nat := 0
  recovered : Nat := 0
  unrecovered : Nat := 0
  patrolLapH : Nat := 0
  hostGranules : Nat := 0
  mediaGranules : Nat := 0
  stranded : Nat := 0
  fillerCloses : Nat := 0
  wearChecked : Nat := 0
  patrolSeen : List (Nat × Nat) := []
  patrolStart : Nat := 0
  moveWait : List MoveWait := []
  moved : List ProgItem := []
  initialised : Bool := false
  parityLost : Bool := false
  bad : Tbl Nat := []
  lastSpare : Nat := 0
  deriving DecidableEq, Repr

/-- The stop record (R292). -/
structure StopRec where
  cause : Nat
  jseqNext : Nat
  seqNext : Nat
  reserve : Option Nat
  deriving DecidableEq, Repr

/-- Power loss and recovery (R282 to R302), and the system area of R292 and R293. -/
structure Recov where
  seqNext : Nat := 1
  seqCeil : Nat := 0
  stop : Option StopRec := none
  stopValid : Bool := false
  startAppended : Bool := false
  nsTable : Tbl Ns := []
  sectionRecords : Nat := 0
  imageSeq : Nat := 0
  rewrites : Nat := 0
  sanitizeRecord : Nat := 0
  lastStop : Nat := 0
  lastRecovery : Nat := 0
  recoveryMs : Nat := 0
  recoveries : Nat := 0
  flushUs : Nat := 0
  unsafeStops : Nat := 0
  scans : Nat := 0
  flushes : Nat := 0
  recordsReplayed : Nat := 0
  started : Bool := false
  lossReport : List (Nat × Nat × Nat) := []
  deriving DecidableEq, Repr

/-! ### Compression, DRAM, on-chip memory (R321 to R383) -/

/-- The Compression Unit (R321 to R342): lane 32 is spare A and lane 33 spare B. -/
structure Cmp where
  failedLanes : List Nat := []
  firstMismatch : List Nat := []
  spareA : Option Nat := none
  spareB : Option Nat := none
  blocksCoded : Nat := 0
  blocksRaw : Nat := 0
  granulesOut : Nat := 0
  residueRetries : Nat := 0
  checkMismatches : Nat := 0
  jobs : Nat := 0
  jobOverflows : Nat := 0
  jobInvalid : Nat := 0
  stageWaits : Nat := 0
  slotInvalid : Nat := 0
  sliceBlocks : Tbl Nat := []
  sliceGranules : Tbl Nat := []
  sliceRaw : Tbl Nat := []
  unitMismatch : List Nat := []
  twinUsed : List Nat := []
  cryptoFailed : List Nat := []
  parityFailed : Bool := false
  softFailed : List Nat := []
  failedLinks : List Nat := []
  softQueue : List (Nat × Nat × Nat) := []
  softRun : List (Nat × Nat) := []
  deriving DecidableEq, Repr

/-- A rank of a DRAM channel (R345, R354, R355), keyed by channel × 4 + subchannel × 2 + rank. -/
structure Rank where
  owed : Nat := 0
  boundaries : Nat := 0
  deriving DecidableEq, Repr

/-- A DRAM channel (R343 to R365), its states encoded as in 7810h.01. -/
structure Dram where
  st : Nat := 0
  cause : Nat := 0
  rate : Nat := 6400
  corrected : Nat := 0
  uncorrectable : Nat := 0
  uncorrTimes : List Nat := []
  parityTimes : List Nat := []
  mirrorRepairs : Nat := 0
  marks : List (Nat × Nat) := []
  corrTimes : List (Nat × Nat) := []
  forcedRefreshes : Nat := 0
  maxOwed : Nat := 0
  neighbourRefreshes : Nat := 0
  rfm : Nat := 0
  panic : Bool := false
  panicSince : Nat := 0
  panicUs : Nat := 0
  drains : Nat := 0
  staged : Nat := 0
  zqFails : Nat := 0
  dqsFails : Nat := 0
  acts : List (Nat × Nat × Nat) := []
  raa : Tbl Nat := []
  retraining : Bool := false
  dqsDelay : Nat := 0
  deriving DecidableEq, Repr

/-- A request that waits for buffers (R378, R379). -/
structure BufReq where
  tag : Nat
  dram : Bool
  arena : Nat
  size : Nat
  count : Nat
  cls : Nat
  since : Nat
  deriving DecidableEq, Repr

/-- On-chip memory and the buffer pools (R366 to R383). Arenas 0 to 3 are the stream banks, 4 and 5 the
DRAM pairs; pool keys are arena × 6 + size, sizes 0 to 5 rising. -/
structure Onchip where
  failing : List (Nat × Nat) := []
  repairs : List (Nat × Nat) := []
  correctedWords : List (Nat × Nat × Nat × Nat) := []
  inUse : Tbl Nat := []
  withdrawn : Tbl Nat := []
  waitq : List BufReq := []
  tagsWithdrawn : Nat := 0
  setsDisabled : Nat := 0
  sramCorrected : Nat := 0
  sramUncorr : Nat := 0
  partialRefused : Nat := 0
  writebackCancelled : Nat := 0
  mergeFull : Nat := 0
  sramLapMs : Nat := 0
  dramLapS : Nat := 0
  scrubSteps : Tbl Nat := []
  lapStart : Tbl Nat := []
  lastStep : Tbl Nat := []
  lastLap : Tbl Nat := []
  grants : Nat := 0
  fallbacks : Nat := 0
  waits : Nat := 0
  waitsBy : Tbl Nat := []
  fallbacksBy : Tbl Nat := []
  badReturns : Nat := 0
  bitmapLost : Nat := 0
  repairsSkipped : Nat := 0
  macrosNoSpare : Nat := 0
  lapLate : Bool := false
  deriving DecidableEq, Repr

/-! ### Thermal (R392 to R405) -/

/-- A sensor. -/
structure Sensor where
  readingQ : Int := 0
  broken : Bool := false
  goodRun : Nat := 0
  breaks : Nat := 0
  deriving DecidableEq, Repr

/-- A thermal zone. -/
structure TZone where
  step : Nat := 0
  tempQ : Int := 0
  changedAt : Nat := 0
  warned : Bool := false
  deriving DecidableEq, Repr

/-- Umber. -/
structure Thermal where
  sensors : Tbl Sensor := []
  zones : Tbl TZone := []
  shutdowns : Nat := 0
  coolSince : Option Nat := none
  warn : Bool := false
  warnTimeNs : Nat := 0
  critTimeNs : Nat := 0
  lastRound : Nat := 0
  deriving DecidableEq, Repr

/-! ### Management ports (R406 to R418) -/

/-- An SPDM session (R411). -/
structure Session where
  id : Nat
  path : MPath
  peer : Nat
  role : Nat
  opened : Bool
  lastMsg : Nat
  keyNo : Nat
  deriving DecidableEq, Repr

/-- A message being reassembled (R408). -/
structure Reasm where
  path : MPath
  source : Nat
  msgTag : Nat
  msgType : Nat
  data : List Byte
  deriving DecidableEq, Repr

/-- A telemetry subscription outside its record (R415). -/
structure Telem where
  seq : Nat := 0
  lastEventPush : Option Nat := none
  sentBytes : Nat := 0
  sentGrams : Nat := 0
  secondAt : Nat := 0
  skipped : Nat := 0
  pendingEvent : Bool := false
  deriving DecidableEq, Repr

/-- The management ports. -/
structure Mgmt where
  i3c : Bool := false
  dynAddr : Nat := 0
  eids : Tbl Nat := []
  reasm : List Reasm := []
  sessions : List Session := []
  nextSession : Nat := 1
  mctpDrops : Nat := 0
  bdpDrops : Nat := 0
  authFails : Nat := 0
  smbusFreq : Nat := 1
  mtu : Tbl Nat := []
  healthChange : Nat := 0
  negotiated : Tbl Bool := []
  t1sUp : Bool := false
  plcaActive : Bool := false
  linkLocal : Bool := false
  bdpSecond : Nat := 0
  bdpTotal : Nat := 0
  bdpBy : Tbl Nat := []
  telem : Tbl Telem := []
  telemSecond : Nat := 0
  telemBytes : Nat := 0
  deriving DecidableEq, Repr

/-! ### Security, lifecycle, firmware (R419 to R441) -/

/-- Keys, sanitize, lifecycle fuses and firmware slots. -/
structure Sec where
  fuses : List Nat := []
  draws : Nat := 0
  wrappedKeys : Tbl (Option Nat) := []
  cryptoErases : Nat := 0
  sanitizes : Nat := 0
  erased : Bool := false
  sanRunning : Nat := 0
  sanErased : List (Nat × Nat) := []
  sanFailed : Bool := false
  sanAuse : Bool := false
  transition : Bool := false
  slot1 : Option FwImage := some ⟨1, 1, 0, 1, 1, [], 0, true, true, true⟩
  slot2 : Option FwImage := none
  acts : List (Nat × Nat) := []
  nextActSeq : Nat := 1
  slotInForce : Nat := 1
  nextSlot : Nat := 1
  minSvn : Nat := 0
  stagingOwner : Option Nat := none
  stagingPieces : List (Nat × Nat) := []
  stagingImage : Option FwImage := none
  actState : Nat := 0
  actSlot : Nat := 0
  actTag : Option Nat := none
  actEnginesLeft : Nat := 0
  actCluster : Nat := 0
  activations : Nat := 0
  lastHoldUs : Nat := 0
  aliasNo : Nat := 0
  deriving DecidableEq, Repr

/-! ### The machine -/

/-- The state of the block. Tables not described above are keyed as follows: `ports` by port, `funcs` by
port × 256 + function, `sqs` and `cqs` by the queue's code, `tags` by tag, `ctrls` by controller, `luns` by
channel × 32 + position, `zones` by NSID × 2^32 + zone, `nss` by NSID. -/
structure State where
  pending : List Instr := []
  out : List Out := []
  aon : Aon := {}
  mode : ModeSt := {}
  regs : Regs := {}
  ras : Ras := {}
  ports : Tbl Port := []
  funcs : Tbl Func := []
  dmas : Tbl Dma := []
  dmaWait : List Dma := []
  dict : Dict := {}
  sqs : Tbl Sq := []
  cqs : Tbl Cq := []
  tags : Tbl Tag := []
  ctrls : Tbl Ctrl := []
  cmds : CmdStats := {}
  slices : Tbl Slice := []
  dirty : List DirtyWord := []
  sched : Sched := {}
  luns : Tbl Lun := []
  chans : Tbl Chan := []
  islands : Tbl Island := []
  engines : Tbl Engine := []
  nss : Tbl Ns := []
  zones : Tbl Zone := []
  pool : Pool := {}
  map : MapSt := {}
  jrn : Jrn := {}
  wbuf : Wbuf := {}
  media : Media := {}
  recov : Recov := {}
  cmp : Cmp := {}
  drams : Tbl Dram := []
  ranks : Tbl Rank := []
  chip : Onchip := {}
  thermal : Thermal := {}
  mgmt : Mgmt := {}
  sec : Sec := {}
  deriving DecidableEq, Repr

/-- The block before aux power, as a new device: every structure at its initial value, and the two slices
that a new store holds (R140). Slice 1 is Created; it becomes Bound at a Bring-Up in dual-port mode.
(DESIGN CHOICE, log entry 2, DESIGN CHOICE, log entry 69) -/
def State.reset : State :=
  { slices := [(0, { st := .bound, keySlot := 0 }), (1, { st := .created, keySlot := 1 })] }

end Sys2Proof.Machine
end

