-- ==== Sys2Proof/Machine/DictTable.lean ====
section
/-! DEFINITION. The entries of the Brihar dictionary (R31 to R35, R65 and the entry tables of every chapter):
for each index, its subindices with type, access, default, range, change class and volatility. -/

namespace Sys2Proof.Machine

/-- The types of R35. -/
inductive DTy where
  | bool | u8 | u16 | u32 | u64 | i32 | enum | str | domain
  deriving DecidableEq, Repr

/-- The Access columns that occur (R38). -/
inductive DAcc where
  | monR | mgrW | mkrW | mgrWtenR | mgrRtenR | monRtenR | mgrR | mgrWmonR | mgrWtenW
  deriving DecidableEq, Repr

/-- The change classes that occur in the tables (R45). -/
inductive DCls where
  | live | boundary | staged | bringUp
  deriving DecidableEq, Repr

/-- The range or value list of an entry's Meaning (R35); `items` is a DOMAIN or STR made of items of a size. -/
inductive DChk where
  | any
  | range (lo hi : Int)
  | oneOf (l : List Nat)
  | mult (m lo hi : Nat)
  | zeroOr (lo hi : Nat)
  | aqa
  | mapCache
  | items (size most : Nat)
  deriving DecidableEq, Repr

/-- One entry. -/
structure DEnt where
  sub : Nat
  ty : DTy
  acc : DAcc
  dflt : Nat
  chk : DChk
  cls : DCls
  vol : Bool
  deriving DecidableEq, Repr

/-- The record at 1000h. -/
def t1000 : List DEnt := [
  ⟨0x01, .str, .monRtenR, 0, .any, .bringUp, false⟩,
  ⟨0x02, .u16, .monRtenR, 0, .any, .bringUp, false⟩,
  ⟨0x03, .str, .monRtenR, 0, .any, .bringUp, false⟩,
  ⟨0x04, .u8, .monRtenR, 9, .any, .bringUp, false⟩,
  ⟨0x05, .str, .monRtenR, 0, .any, .bringUp, false⟩,
  ⟨0x06, .str, .monRtenR, 0, .any, .bringUp, false⟩,
  ⟨0x07, .str, .monR, 0, .any, .bringUp, false⟩,
  ⟨0x08, .u8, .monR, 32, .any, .bringUp, false⟩,
  ⟨0x09, .u8, .monR, 32, .any, .bringUp, false⟩,
  ⟨0x0A, .u16, .monR, 128, .any, .bringUp, false⟩,
  ⟨0x0B, .u8, .monR, 16, .any, .bringUp, false⟩,
  ⟨0x0C, .u16, .monR, 4096, .any, .bringUp, false⟩,
  ⟨0x0D, .u8, .monR, 4, .any, .bringUp, false⟩,
  ⟨0x0E, .u8, .monR, 16, .any, .bringUp, false⟩,
  ⟨0x0F, .u8, .monR, 2, .any, .bringUp, false⟩,
  ⟨0x10, .u16, .monR, 256, .any, .bringUp, false⟩,
  ⟨0x11, .u8, .monR, 32, .any, .bringUp, false⟩,
  ⟨0x12, .u8, .monR, 2, .any, .bringUp, false⟩,
  ⟨0x13, .u8, .monR, 8, .any, .bringUp, false⟩]

/-- The record at 1100h. -/
def t1100 : List DEnt := [
  ⟨0x01, .bool, .mgrW, 1, .any, .boundary, false⟩,
  ⟨0x02, .u16, .mgrW, 49700, (.range 1024 65535), .bringUp, false⟩,
  ⟨0x03, .bool, .mgrW, 1, .any, .live, false⟩,
  ⟨0x04, .bool, .mgrW, 0, .any, .live, false⟩,
  ⟨0x05, .u16, .mgrW, 10000, (.range 1000 60000), .live, false⟩]

/-- The record at 1F00h. -/
def t1F00 : List DEnt := [
  ⟨0x01, .u16, .mgrWtenW, 0, .any, .live, true⟩,
  ⟨0x02, .u16, .mgrWtenW, 0, .any, .live, true⟩,
  ⟨0x03, .enum, .mgrRtenR, 0, .any, .bringUp, true⟩,
  ⟨0x04, .u8, .mgrRtenR, 0, .any, .bringUp, true⟩,
  ⟨0x05, .u16, .mgrW, 0, .any, .live, true⟩,
  ⟨0x06, .u32, .monR, 0, .any, .bringUp, false⟩]

/-- The record at 1F01h. -/
def t1F01 : List DEnt := [
  ⟨0x01, .enum, .monR, 0, .any, .bringUp, false⟩,
  ⟨0x02, .u64, .monR, 0, .any, .bringUp, false⟩,
  ⟨0x03, .u64, .monR, 0, .any, .bringUp, false⟩,
  ⟨0x04, .u8, .monR, 0, .any, .bringUp, false⟩,
  ⟨0x05, .u32, .monR, 0, .any, .bringUp, false⟩,
  ⟨0x06, .enum, .monR, 0, .any, .bringUp, false⟩,
  ⟨0x07, .u32, .monR, 0, .any, .bringUp, false⟩,
  ⟨0x08, .u16, .monR, 8192, .any, .bringUp, false⟩,
  ⟨0x09, .u32, .monR, 0, .any, .bringUp, false⟩]

/-- The record at 2000h. -/
def t2000 : List DEnt := [
  ⟨0x01, .enum, .mgrW, 0, (.range 0 2), .bringUp, false⟩,
  ⟨0x02, .enum, .mgrW, 6, (.range 3 6), .boundary, false⟩,
  ⟨0x03, .bool, .mgrW, 1, .any, .live, false⟩,
  ⟨0x04, .u32, .mgrW, 100, (.range 0 1000000), .live, false⟩,
  ⟨0x05, .u16, .mkrW, 0, .any, .bringUp, false⟩,
  ⟨0x06, .u16, .mkrW, 0, .any, .bringUp, false⟩]

/-- The record at 2001h. -/
def t2001 : List DEnt := [
  ⟨0x01, .enum, .monR, 0, .any, .bringUp, false⟩,
  ⟨0x02, .u8, .monR, 0, .any, .bringUp, false⟩,
  ⟨0x03, .u32, .monR, 0, .any, .bringUp, false⟩,
  ⟨0x04, .enum, .monR, 0, .any, .bringUp, false⟩,
  ⟨0x05, .u32, .monR, 0, .any, .bringUp, false⟩,
  ⟨0x06, .bool, .monR, 0, .any, .bringUp, false⟩,
  ⟨0x07, .u32, .monR, 0, .any, .bringUp, false⟩,
  ⟨0x08, .u32, .monR, 0, .any, .bringUp, false⟩,
  ⟨0x09, .u64, .monR, 0, .any, .bringUp, false⟩]

/-- The record at 2003h. -/
def t2003 : List DEnt := [
  ⟨0x01, .u8, .mgrW, 0, (.range 0 255), .staged, false⟩,
  ⟨0x02, .u16, .mgrW, 0, (.mult 16 0 512), .staged, false⟩]

/-- The record at 2008h. -/
def t2008 : List DEnt := [
  ⟨0x01, .u64, .monR, 0, .any, .bringUp, false⟩,
  ⟨0x02, .u32, .monR, 0, .any, .bringUp, false⟩,
  ⟨0x03, .u64, .monR, 0, .any, .bringUp, false⟩,
  ⟨0x04, .u32, .monR, 0, .any, .bringUp, false⟩,
  ⟨0x05, .u32, .monR, 0, .any, .bringUp, false⟩,
  ⟨0x06, .u32, .monR, 0, .any, .bringUp, false⟩,
  ⟨0x07, .u64, .monR, 0, .any, .bringUp, false⟩,
  ⟨0x08, .u32, .monR, 0, .any, .bringUp, false⟩,
  ⟨0x09, .u32, .monR, 0, .any, .bringUp, false⟩]

/-- Slice n, at 3000h + n (R141). -/
def t3000 : List DEnt := [
  ⟨0x01, .enum, .mgrRtenR, 0, .any, .bringUp, false⟩,
  ⟨0x02, .enum, .mgrW, 0, (.range 0 5), .staged, true⟩,
  ⟨0x03, .u8, .mgrWtenR, 0, (.range 0 1), .staged, false⟩,
  ⟨0x04, .u8, .mgrWtenR, 0, (.range 0 255), .staged, false⟩,
  ⟨0x05, .bool, .mgrWtenR, 0, .any, .staged, false⟩,
  ⟨0x06, .u32, .mgrWtenR, 0, (.range 0 0xFFFFF), .staged, false⟩,
  ⟨0x07, .bool, .mgrWtenR, 1, .any, .staged, false⟩,
  ⟨0x08, .u8, .mgrWtenR, 0, (.range 0 15), .staged, false⟩,
  ⟨0x09, .u8, .mgrWtenR, 0, (.range 0 7), .staged, false⟩,
  ⟨0x0A, .enum, .mgrWtenR, 1, (.range 0 2), .staged, false⟩,
  ⟨0x0B, .u16, .mgrWtenR, 100, (.range 1 65535), .staged, false⟩,
  ⟨0x0C, .u16, .mgrWtenR, 16, (.range 1 256), .staged, false⟩,
  ⟨0x0D, .u16, .mgrWtenR, 64, (.range 0 16384), .staged, false⟩,
  ⟨0x0E, .u32, .mgrWtenR, 4096, (.range 64 262144), .staged, false⟩,
  ⟨0x0F, .u16, .mgrR, 0xFFFF, .any, .bringUp, false⟩,
  ⟨0x10, .u16, .mgrRtenR, 0, .any, .bringUp, false⟩,
  ⟨0x11, .u64, .mgrW, 0, .any, .staged, false⟩,
  ⟨0x12, .u64, .mgrW, 0, .any, .staged, false⟩,
  ⟨0x13, .u32, .mgrW, 0x001F001F, .aqa, .staged, false⟩,
  ⟨0x14, .u64, .mgrW, 0, (.mult 4 0 0xFFFFFFFFFFFFFFFF), .staged, false⟩,
  ⟨0x15, .u32, .mgrW, 0, .any, .staged, false⟩,
  ⟨0x16, .bool, .mgrWtenR, 0, .any, .staged, false⟩,
  ⟨0x17, .u64, .mgrW, 0, (.mult 4 0 0xFFFFFFFFFFFFFFFF), .staged, false⟩,
  ⟨0x18, .u32, .mgrW, 0, .any, .staged, false⟩,
  ⟨0x19, .bool, .mgrWtenR, 0, .any, .staged, false⟩,
  ⟨0x1A, .u64, .mgrW, 0, (.mult 4 0 0xFFFFFFFFFFFFFFFF), .staged, false⟩,
  ⟨0x1B, .u32, .mgrW, 0, .any, .staged, false⟩,
  ⟨0x1C, .bool, .mgrWtenR, 0, .any, .staged, false⟩,
  ⟨0x1D, .u64, .mgrW, 0, (.mult 4 0 0xFFFFFFFFFFFFFFFF), .staged, false⟩,
  ⟨0x1E, .u32, .mgrW, 0, .any, .staged, false⟩,
  ⟨0x1F, .bool, .mgrWtenR, 0, .any, .staged, false⟩,
  ⟨0x20, .bool, .mgrW, 0, .any, .staged, false⟩,
  ⟨0x21, .u64, .mgrW, 0, (.mult 4096 0 0xFFFFFFFFFFFFFFFF), .staged, false⟩,
  ⟨0x22, .u64, .mgrW, 0, (.mult 4096 0 0xFFFFFFFFFFFFFFFF), .staged, false⟩,
  ⟨0x23, .u64, .mgrW, 0, (.mult 4096 0 0xFFFFFFFFFFFFFFFF), .staged, false⟩,
  ⟨0x24, .u32, .mgrW, 0, (.mult 64 0 2147483648), .staged, false⟩,
  ⟨0x25, .u32, .mgrR, 0, .any, .bringUp, false⟩,
  ⟨0x26, .enum, .mgrR, 0, .any, .bringUp, false⟩,
  ⟨0x27, .u32, .mgrRtenR, 0, .any, .bringUp, false⟩,
  ⟨0x28, .u64, .mgrRtenR, 0, .any, .bringUp, false⟩,
  ⟨0x29, .u64, .mgrR, 0, .any, .bringUp, false⟩,
  ⟨0x2A, .u32, .mgrR, 0, .any, .bringUp, false⟩,
  ⟨0x2B, .domain, .mgrRtenR, 0, .any, .bringUp, false⟩]

/-- The record at 4000h. -/
def t4000 : List DEnt := [
  ⟨0x01, .u32, .monR, 16000, .any, .bringUp, false⟩,
  ⟨0x02, .u16, .mgrW, 480, (.range 64 1024), .staged, false⟩,
  ⟨0x03, .u16, .mgrW, 240, (.range 32 512), .staged, false⟩,
  ⟨0x04, .u8, .mgrW, 40, (.range 0 90), .staged, false⟩,
  ⟨0x05, .u8, .mgrW, 5, (.range 1 50), .staged, false⟩,
  ⟨0x06, .u8, .mgrW, 2, (.range 1 8), .staged, false⟩,
  ⟨0x07, .u8, .mgrW, 10, (.range 5 50), .staged, false⟩,
  ⟨0x08, .u8, .mgrW, 50, (.range 10 80), .staged, false⟩,
  ⟨0x09, .u8, .mgrW, 2, (.range 1 16), .staged, false⟩,
  ⟨0x0A, .u8, .mgrW, 8, (.range 1 64), .staged, false⟩,
  ⟨0x0B, .u8, .mgrW, 4, (.range 0 64), .staged, false⟩]

/-- The record at 4001h. -/
def t4001 : List DEnt := [
  ⟨0x01, .u8, .mgrW, 8, (.range 0 8), .staged, false⟩,
  ⟨0x02, .u8, .mgrW, 16, (.range 0 16), .staged, false⟩,
  ⟨0x03, .u8, .mgrW, 16, (.range 1 64), .staged, false⟩,
  ⟨0x04, .u32, .mgrW, 2000, (.range 100 1000000), .staged, false⟩,
  ⟨0x05, .u32, .mgrW, 20000, (.range 100 10000000), .staged, false⟩]

/-- The record at 4002h. -/
def t4002 : List DEnt := [
  ⟨0x01, .u8, .mgrW, 8, (.range 0 8), .boundary, false⟩,
  ⟨0x02, .u32, .mgrW, 1000, (.range 100 1000000), .live, false⟩,
  ⟨0x03, .u32, .mgrW, 2000, (.range 100 10000000), .live, false⟩,
  ⟨0x04, .u32, .mgrW, 1000, (.range 100 1000000), .live, false⟩,
  ⟨0x05, .u32, .mgrW, 500, (.range 100 10000000), .live, false⟩]

/-- The record at 4003h. -/
def t4003 : List DEnt := [
  ⟨0x01, .u32, .monR, 0, .any, .bringUp, false⟩,
  ⟨0x02, .u32, .monR, 0, .any, .bringUp, false⟩,
  ⟨0x03, .u64, .monR, 0, .any, .bringUp, false⟩,
  ⟨0x04, .u64, .monR, 0, .any, .bringUp, false⟩,
  ⟨0x05, .u64, .monR, 0, .any, .bringUp, false⟩,
  ⟨0x06, .u32, .monR, 0, .any, .bringUp, false⟩,
  ⟨0x07, .u32, .monR, 0, .any, .bringUp, false⟩,
  ⟨0x08, .u64, .monR, 0, .any, .bringUp, false⟩,
  ⟨0x09, .u64, .monR, 0, .any, .bringUp, false⟩]

/-- The record at 5000h. -/
def t5000 : List DEnt := [
  ⟨0x01, .u16, .mgrW, 16, (.range 4 64), .bringUp, false⟩,
  ⟨0x02, .u16, .mgrW, 64, (.range 1 4096), .staged, false⟩,
  ⟨0x03, .u16, .mgrW, 64, (.range 1 4096), .staged, false⟩,
  ⟨0x04, .u32, .mgrW, 86400, (.range 3600 1296000), .staged, false⟩]

/-- The record at 5001h. -/
def t5001 : List DEnt := [
  ⟨0x01, .u64, .monR, 0, .any, .bringUp, false⟩,
  ⟨0x02, .u64, .monR, 0, .any, .bringUp, false⟩,
  ⟨0x03, .u64, .monR, 0, .any, .bringUp, false⟩,
  ⟨0x04, .u64, .monR, 0, .any, .bringUp, false⟩,
  ⟨0x05, .u64, .monR, 0, .any, .bringUp, false⟩,
  ⟨0x06, .u64, .monR, 0, .any, .bringUp, false⟩,
  ⟨0x07, .u64, .monR, 0, .any, .bringUp, false⟩,
  ⟨0x08, .u64, .monR, 0, .any, .bringUp, false⟩,
  ⟨0x09, .u16, .monR, 0, .any, .bringUp, false⟩,
  ⟨0x0A, .u16, .monR, 0, .any, .bringUp, false⟩,
  ⟨0x0B, .u16, .monR, 0, .any, .bringUp, false⟩,
  ⟨0x0C, .u32, .monR, 0, .any, .bringUp, false⟩,
  ⟨0x0D, .u64, .monR, 0, .any, .bringUp, false⟩]

/-- Namespace NSID, at 5800h + NSID − 1 (R216, R340). -/
def t5800 : List DEnt := [
  ⟨0x01, .enum, .mgrRtenR, 0, .any, .bringUp, false⟩,
  ⟨0x02, .enum, .mgrRtenR, 0, .any, .bringUp, false⟩,
  ⟨0x03, .u64, .mgrRtenR, 0, .any, .bringUp, false⟩,
  ⟨0x04, .u64, .mgrWtenR, 0, .any, .staged, false⟩,
  ⟨0x05, .u8, .mgrRtenR, 0, .any, .bringUp, false⟩,
  ⟨0x06, .u16, .mgrR, 0xFFFF, .any, .bringUp, false⟩,
  ⟨0x07, .u64, .mgrRtenR, 0, .any, .bringUp, false⟩,
  ⟨0x08, .u64, .mgrRtenR, 0, .any, .bringUp, false⟩,
  ⟨0x09, .u16, .mgrWtenR, 0, (.range 0 4096), .staged, false⟩,
  ⟨0x0A, .u16, .mgrWtenR, 0, (.range 0 4096), .staged, false⟩,
  ⟨0x0B, .u16, .mgrWtenR, 0, (.range 0 512), .staged, false⟩,
  ⟨0x0C, .domain, .mgrRtenR, 0, .any, .bringUp, false⟩,
  ⟨0x0D, .u32, .mgrRtenR, 0, .any, .bringUp, false⟩,
  ⟨0x20, .enum, .mgrWtenR, 0, (.range 0 2), .staged, false⟩,
  ⟨0x21, .u8, .mgrWtenR, 1, .any, .staged, false⟩,
  ⟨0x22, .enum, .mgrWtenR, 0, (.range 0 3), .staged, false⟩,
  ⟨0x23, .u16, .mgrWtenR, 0, .any, .staged, false⟩,
  ⟨0x24, .u64, .mgrRtenR, 0, .any, .bringUp, true⟩,
  ⟨0x25, .u64, .mgrRtenR, 0, .any, .bringUp, true⟩]

/-- The record at 6000h. -/
def t6000 : List DEnt := [
  ⟨0x01, .u16, .mgrW, 0, .mapCache, .bringUp, false⟩,
  ⟨0x02, .u16, .mgrW, 32, (.range 8 256), .bringUp, false⟩,
  ⟨0x03, .u16, .mgrW, 256, (.range 16 256), .bringUp, false⟩,
  ⟨0x04, .u8, .mgrW, 50, (.range 0 80), .bringUp, false⟩]

/-- The record at 6001h. -/
def t6001 : List DEnt := [
  ⟨0x01, .bool, .mgrW, 1, .any, .staged, false⟩,
  ⟨0x02, .u16, .mgrW, 512, (.range 0 512), .staged, false⟩,
  ⟨0x03, .u8, .mgrW, 4, (.range 0 32), .staged, false⟩,
  ⟨0x04, .u32, .mgrW, 4096, (.range 256 65536), .staged, false⟩,
  ⟨0x05, .u32, .mgrW, 300, (.range 10 3600), .staged, false⟩,
  ⟨0x06, .u8, .mgrW, 25, (.range 2 90), .staged, false⟩,
  ⟨0x07, .u8, .mgrW, 15, (.range 1 89), .staged, false⟩]

/-- The record at 6002h. -/
def t6002 : List DEnt := [
  ⟨0x01, .u64, .monR, 0, .any, .bringUp, false⟩,
  ⟨0x02, .u64, .monR, 0, .any, .bringUp, false⟩,
  ⟨0x03, .u64, .monR, 0, .any, .bringUp, false⟩,
  ⟨0x04, .u64, .monR, 0, .any, .bringUp, false⟩,
  ⟨0x05, .u64, .monR, 0, .any, .bringUp, false⟩,
  ⟨0x06, .u64, .monR, 0, .any, .bringUp, false⟩,
  ⟨0x07, .u64, .monR, 0, .any, .bringUp, false⟩,
  ⟨0x08, .u64, .monR, 0, .any, .bringUp, false⟩,
  ⟨0x09, .u64, .monR, 0, .any, .bringUp, false⟩,
  ⟨0x0A, .u32, .monR, 0, .any, .bringUp, false⟩,
  ⟨0x0B, .u64, .monR, 0, .any, .bringUp, false⟩,
  ⟨0x0C, .u32, .monR, 0, .any, .bringUp, false⟩,
  ⟨0x0D, .u32, .monR, 0, .any, .bringUp, false⟩,
  ⟨0x0E, .u32, .monR, 0, .any, .bringUp, false⟩,
  ⟨0x0F, .u32, .monR, 0, .any, .bringUp, false⟩,
  ⟨0x10, .u32, .monR, 0, .any, .bringUp, false⟩,
  ⟨0x11, .u32, .monR, 0, .any, .bringUp, false⟩,
  ⟨0x12, .u64, .monR, 0, .any, .bringUp, false⟩]

/-- The record at 6003h. -/
def t6003 : List DEnt := [
  ⟨0x01, .u64, .monR, 0, .any, .bringUp, false⟩,
  ⟨0x02, .u64, .monR, 0, .any, .bringUp, false⟩,
  ⟨0x03, .u64, .monR, 0, .any, .bringUp, false⟩,
  ⟨0x04, .u32, .monR, 0, .any, .bringUp, false⟩,
  ⟨0x05, .u8, .monR, 0, .any, .bringUp, false⟩,
  ⟨0x06, .u32, .monR, 0, .any, .bringUp, false⟩,
  ⟨0x07, .u64, .monR, 0, .any, .bringUp, false⟩,
  ⟨0x08, .u32, .monR, 0, .any, .bringUp, false⟩]

/-- The record at 6400h. -/
def t6400 : List DEnt := [
  ⟨0x01, .str, .mkrW, 0, (.items 1 32), .staged, false⟩,
  ⟨0x02, .enum, .mkrW, 0, (.range 1 3), .staged, false⟩,
  ⟨0x03, .u8, .mkrW, 0, (.oneOf [1, 2, 4]), .staged, false⟩,
  ⟨0x04, .u8, .mkrW, 0, (.oneOf [16, 32]), .staged, false⟩,
  ⟨0x05, .u16, .mkrW, 0, (.range 64 8192), .staged, false⟩,
  ⟨0x06, .u16, .mkrW, 0, (.range 64 4096), .staged, false⟩,
  ⟨0x07, .u8, .mkrW, 0, (.range 1 8), .staged, false⟩,
  ⟨0x08, .u8, .mkrW, 0, (.range 1 4), .staged, false⟩,
  ⟨0x09, .u16, .mkrW, 0, .any, .staged, false⟩,
  ⟨0x0A, .u16, .mkrW, 0, .any, .staged, false⟩,
  ⟨0x0B, .u16, .mkrW, 0, .any, .staged, false⟩,
  ⟨0x0C, .u16, .mkrW, 0, .any, .staged, false⟩,
  ⟨0x0D, .u16, .mkrW, 0, .any, .staged, false⟩,
  ⟨0x0E, .u16, .mkrW, 0, .any, .staged, false⟩,
  ⟨0x0F, .u16, .mkrW, 0, .any, .staged, false⟩,
  ⟨0x10, .u16, .mkrW, 0, .any, .staged, false⟩,
  ⟨0x11, .u16, .mkrW, 0, .any, .staged, false⟩,
  ⟨0x12, .u8, .mkrW, 0, .any, .staged, false⟩,
  ⟨0x13, .u8, .mkrW, 0, .any, .staged, false⟩,
  ⟨0x14, .u32, .mkrW, 0, .any, .staged, false⟩,
  ⟨0x15, .u32, .mkrW, 0, .any, .staged, false⟩,
  ⟨0x16, .u8, .mkrW, 0, .any, .staged, false⟩,
  ⟨0x17, .u8, .mkrW, 0, .any, .staged, false⟩,
  ⟨0x18, .u32, .mkrW, 0, .any, .staged, false⟩,
  ⟨0x19, .u32, .mkrW, 0, .any, .staged, false⟩,
  ⟨0x1A, .u32, .mkrW, 0, (.range 2592000 31536000), .staged, false⟩,
  ⟨0x1B, .u16, .mkrW, 0, .any, .staged, false⟩,
  ⟨0x1C, .u8, .mkrW, 0, (.oneOf [2, 4, 6]), .staged, false⟩,
  ⟨0x1D, .domain, .mkrW, 0, (.items 8 512), .staged, false⟩,
  ⟨0x1E, .bool, .mkrW, 0, .any, .staged, false⟩,
  ⟨0x1F, .bool, .mkrW, 0, .any, .staged, false⟩,
  ⟨0x20, .enum, .mkrW, 0, (.range 0 1), .staged, false⟩,
  ⟨0x30, .enum, .mkrW, 0, (.range 0 1), .staged, false⟩,
  ⟨0x31, .u16, .mkrW, 0, .any, .staged, false⟩,
  ⟨0x32, .u16, .mkrW, 0, .any, .staged, false⟩,
  ⟨0x33, .u16, .mkrW, 0, .any, .staged, false⟩,
  ⟨0x34, .u8, .mkrW, 0, (.range 0 7), .staged, false⟩,
  ⟨0x35, .u8, .mkrW, 0, (.range 0 7), .staged, false⟩,
  ⟨0x36, .domain, .mkrW, 0, (.items 4 128), .staged, false⟩,
  ⟨0x37, .domain, .mkrW, 0, (.items 6 0x1000000), .staged, false⟩,
  ⟨0x38, .u8, .mkrW, 0, (.range 2 16), .staged, false⟩,
  ⟨0x39, .u8, .mkrW, 0, (.range 5 40), .staged, false⟩,
  ⟨0x3A, .u16, .mkrW, 0, (.range 1 720), .staged, false⟩,
  ⟨0x3B, .u8, .mkrW, 0, (.range 4 20), .staged, false⟩]

/-- The record at 6401h. -/
def t6401 : List DEnt := [
  ⟨0x01, .u16, .mgrW, 30, (.range 10 200), .staged, false⟩,
  ⟨0x02, .u16, .mgrW, 30, (.range 0 500), .staged, false⟩,
  ⟨0x03, .enum, .mgrW, 0, (.range 0 1), .staged, false⟩,
  ⟨0x04, .u16, .mgrW, 20, (.range 0 200), .staged, false⟩]

/-- The record at 6402h. -/
def t6402 : List DEnt := [
  ⟨0x01, .u16, .mgrW, 64, (.range 4 4096), .staged, false⟩,
  ⟨0x02, .u16, .mgrW, 16, (.range 2 4095), .staged, false⟩,
  ⟨0x03, .u32, .mgrW, 60, (.range 0 86400), .staged, false⟩,
  ⟨0x04, .u8, .mgrW, 40, (.range 0 95), .staged, false⟩,
  ⟨0x05, .u8, .mgrW, 90, (.range 5 100), .staged, false⟩,
  ⟨0x06, .u32, .mgrW, 1000, (.range 100 100000), .staged, false⟩,
  ⟨0x07, .u32, .mgrW, 2000, (.range 100 100000), .staged, false⟩,
  ⟨0x08, .u8, .mgrW, 4, (.range 0 64), .staged, false⟩,
  ⟨0x09, .u16, .mgrW, 168, (.range 24 2160), .staged, false⟩,
  ⟨0x0A, .u8, .mgrW, 8, (.range 1 64), .staged, false⟩,
  ⟨0x0B, .u16, .mgrW, 3400, (.range 100 3400), .staged, false⟩,
  ⟨0x0C, .u8, .mgrW, 50, (.range 10 100), .staged, false⟩,
  ⟨0x0D, .u16, .mgrW, 32, (.range 4 1024), .staged, false⟩,
  ⟨0x0E, .u8, .mgrW, 10, (.range 1 50), .staged, false⟩]

/-- The record at 6403h. -/
def t6403 : List DEnt := [
  ⟨0x01, .u64, .monR, 0, .any, .bringUp, false⟩,
  ⟨0x02, .u64, .monR, 0, .any, .bringUp, false⟩,
  ⟨0x03, .u8, .monR, 0, .any, .bringUp, false⟩,
  ⟨0x04, .u8, .monR, 0, .any, .bringUp, false⟩,
  ⟨0x05, .u32, .monR, 0, .any, .bringUp, false⟩,
  ⟨0x06, .u8, .monR, 0, .any, .bringUp, false⟩,
  ⟨0x07, .u8, .monR, 0, .any, .bringUp, false⟩,
  ⟨0x08, .u32, .monR, 0, .any, .bringUp, false⟩,
  ⟨0x09, .domain, .monR, 0, .any, .bringUp, false⟩,
  ⟨0x0A, .u32, .monR, 0, .any, .bringUp, false⟩,
  ⟨0x0B, .u32, .monR, 0, .any, .bringUp, false⟩,
  ⟨0x0C, .u64, .monR, 0, .any, .bringUp, false⟩,
  ⟨0x0D, .u64, .monR, 0, .any, .bringUp, false⟩,
  ⟨0x0E, .u64, .monR, 0, .any, .bringUp, false⟩,
  ⟨0x0F, .u64, .monR, 0, .any, .bringUp, false⟩,
  ⟨0x10, .u32, .monR, 0, .any, .bringUp, false⟩,
  ⟨0x11, .u64, .monR, 0, .any, .bringUp, false⟩,
  ⟨0x12, .u64, .monR, 0, .any, .bringUp, false⟩,
  ⟨0x13, .enum, .monR, 0, .any, .bringUp, false⟩,
  ⟨0x14, .u64, .monR, 0, .any, .bringUp, false⟩,
  ⟨0x15, .u64, .monR, 0, .any, .bringUp, false⟩,
  ⟨0x16, .u32, .monR, 0, .any, .bringUp, false⟩]

/-- The record at 7000h. -/
def t7000 : List DEnt := [
  ⟨0x01, .enum, .monR, 0, .any, .bringUp, false⟩,
  ⟨0x02, .u16, .monR, 0, .any, .bringUp, false⟩,
  ⟨0x03, .enum, .monR, 0, .any, .bringUp, false⟩,
  ⟨0x04, .u32, .monR, 0, .any, .bringUp, false⟩,
  ⟨0x05, .u32, .monR, 0, .any, .bringUp, false⟩,
  ⟨0x06, .u32, .monR, 0, .any, .bringUp, false⟩,
  ⟨0x07, .u64, .monR, 0, .any, .bringUp, false⟩,
  ⟨0x08, .u64, .monR, 0, .any, .bringUp, false⟩,
  ⟨0x09, .u64, .monR, 0, .any, .bringUp, false⟩,
  ⟨0x0A, .u64, .monR, 0, .any, .bringUp, false⟩,
  ⟨0x0B, .u32, .monR, 0, .any, .bringUp, false⟩,
  ⟨0x0C, .u32, .monR, 0, .any, .bringUp, false⟩,
  ⟨0x0D, .u32, .monR, 0, .any, .bringUp, false⟩,
  ⟨0x0E, .u32, .monR, 0, .any, .bringUp, false⟩,
  ⟨0x0F, .u64, .monR, 0, .any, .bringUp, false⟩,
  ⟨0x10, .u8, .monR, 0, .any, .bringUp, false⟩,
  ⟨0x11, .u16, .monR, 0, .any, .bringUp, false⟩,
  ⟨0x12, .bool, .mgrWmonR, 0, .any, .live, false⟩]

/-- The record at 7400h. -/
def t7400 : List DEnt := [
  ⟨0x01, .enum, .mgrW, 1, (.range 0 2), .staged, false⟩,
  ⟨0x02, .enum, .mgrW, 0, (.range 0 2), .staged, false⟩,
  ⟨0x03, .u16, .mgrW, 512, (.range 16 4096), .staged, false⟩,
  ⟨0x04, .bool, .mgrW, 1, .any, .staged, false⟩]

/-- The record at 7401h. -/
def t7401 : List DEnt := [
  ⟨0x01, .u8, .monR, 32, .any, .bringUp, false⟩,
  ⟨0x02, .u8, .monR, 2, .any, .bringUp, false⟩,
  ⟨0x03, .u64, .monR, 0, .any, .bringUp, false⟩,
  ⟨0x04, .u64, .monR, 0, .any, .bringUp, false⟩,
  ⟨0x05, .u64, .monR, 0, .any, .bringUp, false⟩,
  ⟨0x06, .u32, .monR, 0, .any, .bringUp, false⟩,
  ⟨0x07, .u32, .monR, 0, .any, .bringUp, false⟩,
  ⟨0x08, .u64, .monR, 0, .any, .bringUp, false⟩,
  ⟨0x09, .u32, .monR, 0, .any, .bringUp, false⟩,
  ⟨0x0A, .u32, .monR, 0, .any, .bringUp, false⟩,
  ⟨0x0B, .u64, .monR, 0, .any, .bringUp, false⟩,
  ⟨0x0C, .u32, .monR, 0, .any, .bringUp, false⟩]

/-- The record at 7402h. -/
def t7402 : List DEnt := [
  ⟨0x01, .domain, .monR, 0, .any, .bringUp, true⟩]

/-- The record at 7800h. -/
def t7800 : List DEnt := [
  ⟨0x01, .u8, .mkrW, 16, (.oneOf [8, 16]), .bringUp, false⟩,
  ⟨0x02, .u8, .mkrW, 8, (.oneOf [4, 8]), .bringUp, false⟩,
  ⟨0x03, .u8, .mkrW, 1, (.oneOf [1, 2]), .bringUp, false⟩,
  ⟨0x04, .enum, .mkrW, 0, (.range 0 1), .bringUp, false⟩,
  ⟨0x05, .u16, .mkrW, 6400, (.oneOf [4800, 5600, 6400]), .bringUp, false⟩,
  ⟨0x06, .u16, .mkrW, 295, .any, .bringUp, false⟩,
  ⟨0x07, .u16, .mkrW, 130, .any, .bringUp, false⟩,
  ⟨0x08, .u8, .mkrW, 15, .any, .bringUp, false⟩,
  ⟨0x09, .bool, .mkrW, 0, .any, .bringUp, false⟩,
  ⟨0x0A, .u16, .mkrW, 0, .any, .bringUp, false⟩,
  ⟨0x0B, .u16, .mkrW, 0, .any, .bringUp, false⟩,
  ⟨0x0C, .u16, .mkrW, 0, .any, .bringUp, false⟩]

/-- The record at 7801h. -/
def t7801 : List DEnt := [
  ⟨0x01, .u8, .mgrW, 96, (.range 16 128), .staged, false⟩,
  ⟨0x02, .u8, .mgrW, 32, (.range 0 127), .staged, false⟩,
  ⟨0x03, .u8, .mgrW, 4, (.range 1 12), .staged, false⟩,
  ⟨0x04, .u8, .mgrW, 3, (.range 0 3), .staged, false⟩,
  ⟨0x05, .u16, .mgrW, 1024, (.range 256 8192), .staged, false⟩,
  ⟨0x06, .u16, .mgrW, 64, (.range 8 4096), .staged, false⟩]

/-- The record at 7810h. -/
def t7810 : List DEnt := [
  ⟨0x01, .enum, .monR, 0, .any, .bringUp, false⟩,
  ⟨0x02, .u16, .monR, 0, .any, .bringUp, false⟩,
  ⟨0x03, .u64, .monR, 0, .any, .bringUp, false⟩,
  ⟨0x04, .u32, .monR, 0, .any, .bringUp, false⟩,
  ⟨0x05, .u32, .monR, 0, .any, .bringUp, false⟩,
  ⟨0x06, .u8, .monR, 0, .any, .bringUp, false⟩,
  ⟨0x07, .u64, .monR, 0, .any, .bringUp, false⟩,
  ⟨0x08, .u8, .monR, 0, .any, .bringUp, false⟩,
  ⟨0x09, .u64, .monR, 0, .any, .bringUp, false⟩,
  ⟨0x0A, .u64, .monR, 0, .any, .bringUp, false⟩,
  ⟨0x0B, .u64, .monR, 0, .any, .bringUp, false⟩,
  ⟨0x0C, .u64, .monR, 0, .any, .bringUp, false⟩]

/-- The record at 7900h. -/
def t7900 : List DEnt := [
  ⟨0x01, .u8, .mgrW, 6, (.range 0 25), .staged, false⟩,
  ⟨0x02, .u16, .mgrW, 128, (.range 0 512), .staged, false⟩,
  ⟨0x03, .u32, .mgrW, 100, (.range 20 1000000), .staged, false⟩,
  ⟨0x04, .u32, .mgrW, 1000, (.range 100 1000000), .staged, false⟩,
  ⟨0x05, .bool, .mgrW, 1, .any, .staged, false⟩,
  ⟨0x06, .u16, .mgrW, 24, (.range 1 8760), .staged, false⟩]

/-- The record at 7901h. -/
def t7901 : List DEnt := [
  ⟨0x01, .u64, .monR, 0, .any, .bringUp, false⟩,
  ⟨0x02, .u32, .monR, 0, .any, .bringUp, false⟩,
  ⟨0x03, .u32, .monR, 0, .any, .bringUp, false⟩,
  ⟨0x04, .u64, .monR, 0, .any, .bringUp, false⟩,
  ⟨0x05, .u64, .monR, 0, .any, .bringUp, false⟩,
  ⟨0x06, .u32, .monR, 0, .any, .bringUp, false⟩,
  ⟨0x07, .u32, .monR, 0, .any, .bringUp, false⟩,
  ⟨0x08, .u64, .monR, 0, .any, .bringUp, false⟩,
  ⟨0x09, .u64, .monR, 0, .any, .bringUp, false⟩,
  ⟨0x0A, .u64, .monR, 0, .any, .bringUp, false⟩,
  ⟨0x0B, .u32, .monR, 0, .any, .bringUp, false⟩,
  ⟨0x0C, .u32, .monR, 0, .any, .bringUp, false⟩,
  ⟨0x0D, .u16, .monR, 0, .any, .bringUp, false⟩,
  ⟨0x0E, .u16, .monR, 0, .any, .bringUp, false⟩,
  ⟨0x0F, .bool, .monR, 0, .any, .bringUp, false⟩]

/-- The record at 7902h. -/
def t7902 : List DEnt := [
  ⟨0x01, .domain, .monR, 0, .any, .bringUp, false⟩]

/-- The record at 7903h. -/
def t7903 : List DEnt := [
  ⟨0x01, .domain, .monR, 0, .any, .bringUp, true⟩]

/-- The record at 8000h. -/
def t8000 : List DEnt := [
  ⟨0x01, .enum, .monR, 0, .any, .bringUp, false⟩,
  ⟨0x02, .bool, .monR, 0, .any, .bringUp, false⟩,
  ⟨0x03, .u32, .monR, 0, .any, .bringUp, false⟩,
  ⟨0x04, .bool, .mgrW, 0, .any, .boundary, false⟩,
  ⟨0x05, .bool, .mgrW, 0, .any, .live, true⟩,
  ⟨0x06, .u8, .monR, 0, .any, .bringUp, false⟩,
  ⟨0x07, .u8, .monR, 0, .any, .bringUp, false⟩,
  ⟨0x08, .u32, .monR, 0, .any, .bringUp, false⟩,
  ⟨0x09, .enum, .monR, 0, .any, .bringUp, false⟩,
  ⟨0x0A, .enum, .monR, 0, .any, .bringUp, false⟩]

/-- The record at 8001h. -/
def t8001 : List DEnt := [
  ⟨0x01, .u8, .monR, 0, .any, .bringUp, false⟩,
  ⟨0x02, .u32, .monR, 0, .any, .bringUp, false⟩,
  ⟨0x03, .u32, .monR, 0, .any, .bringUp, false⟩,
  ⟨0x04, .u64, .monR, 0, .any, .bringUp, false⟩,
  ⟨0x05, .u32, .monR, 0, .any, .bringUp, false⟩]

/-- The record at 8040h. -/
def t8040 : List DEnt := [
  ⟨0x01, .u32, .mgrW, 4096, (.range 512 16384), .staged, false⟩,
  ⟨0x02, .u16, .mgrW, 1000, (.range 0 5000), .staged, false⟩,
  ⟨0x03, .u32, .monR, 0, .any, .bringUp, false⟩,
  ⟨0x04, .u32, .monR, 0, .any, .bringUp, false⟩,
  ⟨0x05, .u32, .monR, 0, .any, .bringUp, false⟩,
  ⟨0x06, .u32, .monR, 0, .any, .bringUp, false⟩,
  ⟨0x07, .u32, .mkrW, 0, .any, .live, false⟩,
  ⟨0x08, .u8, .monR, 0, .any, .bringUp, false⟩]

/-- The record at 8041h. -/
def t8041 : List DEnt := [
  ⟨0x01, .enum, .monR, 0, .any, .bringUp, false⟩,
  ⟨0x02, .enum, .monR, 0, .any, .bringUp, false⟩,
  ⟨0x03, .u32, .monR, 0, .any, .bringUp, false⟩,
  ⟨0x04, .u32, .monR, 0, .any, .bringUp, false⟩,
  ⟨0x05, .u32, .monR, 0, .any, .bringUp, false⟩,
  ⟨0x06, .u32, .monR, 0, .any, .bringUp, false⟩,
  ⟨0x07, .u32, .monR, 0, .any, .bringUp, false⟩,
  ⟨0x08, .u64, .monR, 0, .any, .bringUp, false⟩,
  ⟨0x09, .u64, .monR, 0, .any, .bringUp, false⟩]

/-- The record at 8100h. -/
def t8100 : List DEnt := [
  ⟨0x01, .u8, .mgrW, 115, (.range 100 125), .staged, false⟩,
  ⟨0x02, .u8, .mgrW, 10, (.range 5 40), .staged, false⟩,
  ⟨0x03, .bool, .mgrW, 1, .any, .staged, false⟩,
  ⟨0x04, .u16, .mgrW, 1000, (.range 100 60000), .staged, false⟩,
  ⟨0x05, .u8, .mgrW, 16, (.range 4 255), .staged, false⟩,
  ⟨0x06, .u8, .monR, 10, .any, .bringUp, false⟩,
  ⟨0x07, .u32, .monR, 0, .any, .bringUp, false⟩]

/-- The record at 8110h. -/
def t8110 : List DEnt := [
  ⟨0x01, .bool, .mgrW, 1, .any, .staged, false⟩,
  ⟨0x02, .u32, .mgrW, 0x0003F000, .any, .staged, false⟩,
  ⟨0x03, .u32, .mgrW, 0xFFFFFFFF, .any, .staged, false⟩,
  ⟨0x04, .u8, .mgrW, 95, (.range 0 150), .staged, false⟩,
  ⟨0x05, .u8, .mgrW, 98, .any, .staged, false⟩,
  ⟨0x06, .u8, .mgrW, 2, (.range 1 10), .staged, false⟩,
  ⟨0x07, .u8, .mgrW, 115, .any, .staged, false⟩,
  ⟨0x08, .u8, .mgrW, 2, (.range 1 10), .staged, false⟩,
  ⟨0x09, .u8, .monR, 0, .any, .bringUp, false⟩,
  ⟨0x0A, .i32, .monR, 0, .any, .bringUp, false⟩]

/-- The record at 8120h. -/
def t8120 : List DEnt := [
  ⟨0x01, .enum, .monR, 0, .any, .bringUp, false⟩,
  ⟨0x02, .i32, .mgrW, 0, (.range (-80) 80), .staged, false⟩,
  ⟨0x03, .u16, .mgrW, 10080, (.range 9500 10500), .staged, false⟩,
  ⟨0x04, .u32, .mgrW, 10000, (.range 1000 1000000), .staged, false⟩,
  ⟨0x05, .u16, .mgrW, 3435, (.range 2000 6000), .staged, false⟩,
  ⟨0x06, .i32, .monR, 0, .any, .bringUp, false⟩,
  ⟨0x07, .bool, .monR, 0, .any, .bringUp, false⟩,
  ⟨0x08, .u32, .monR, 0, .any, .bringUp, true⟩]

/-- The record at 8800h. -/
def t8800 : List DEnt := [
  ⟨0x01, .u8, .mgrW, 0x1D, (.range 0x08 0x77), .bringUp, false⟩]

/-- The record at 8802h. -/
def t8802 : List DEnt := [
  ⟨0x01, .domain, .mgrWmonR, 0, (.items 1 2048), .live, false⟩,
  ⟨0x02, .domain, .mgrWmonR, 0, (.items 1 2048), .live, false⟩,
  ⟨0x03, .domain, .mgrWmonR, 0, (.items 1 2048), .live, false⟩,
  ⟨0x04, .domain, .mgrWmonR, 0, (.items 1 2048), .live, false⟩]

/-- The record at 8810h. -/
def t8810 : List DEnt := [
  ⟨0x01, .u64, .monR, 0, (.range 0 0xFFFFFFFFFFFF), .bringUp, false⟩,
  ⟨0x02, .bool, .mgrW, 1, .any, .bringUp, false⟩,
  ⟨0x03, .u8, .mgrW, 1, (.range 0 254), .bringUp, false⟩,
  ⟨0x04, .u8, .mgrW, 8, (.range 2 255), .bringUp, false⟩,
  ⟨0x05, .domain, .mgrW, 0, (.items 16 16), .bringUp, false⟩]

/-- The record at 8820h. -/
def t8820 : List DEnt := [
  ⟨0x01, .domain, .mgrW, 0, (.items 16 16), .staged, false⟩,
  ⟨0x02, .u16, .mgrW, 49701, (.range 1024 65535), .staged, false⟩,
  ⟨0x03, .domain, .mgrW, 0, (.items 2 64), .staged, false⟩,
  ⟨0x04, .u32, .mgrW, 0, (.zeroOr 100 3600000), .staged, false⟩,
  ⟨0x05, .bool, .mgrW, 0, .any, .staged, false⟩,
  ⟨0x06, .bool, .mgrW, 1, .any, .staged, false⟩,
  ⟨0x07, .u32, .monR, 0, .any, .bringUp, true⟩]

/-- The record at 8830h. -/
def t8830 : List DEnt := [
  ⟨0x01, .u8, .monR, 0, .any, .bringUp, false⟩,
  ⟨0x02, .u32, .monR, 0, .any, .bringUp, true⟩,
  ⟨0x03, .u32, .monR, 0, .any, .bringUp, true⟩,
  ⟨0x04, .u32, .monR, 0, .any, .bringUp, false⟩]

/-- The record at 9000h. -/
def t9000 : List DEnt := [
  ⟨0x01, .enum, .monR, 0, .any, .bringUp, false⟩,
  ⟨0x02, .u8, .monR, 0, .any, .bringUp, false⟩,
  ⟨0x03, .domain, .monR, 0, .any, .bringUp, false⟩,
  ⟨0x04, .u8, .monR, 0, .any, .bringUp, false⟩,
  ⟨0x05, .u16, .monR, 0, .any, .bringUp, false⟩,
  ⟨0x06, .bool, .monR, 0, .any, .bringUp, false⟩,
  ⟨0x07, .u32, .monR, 0, .any, .bringUp, false⟩,
  ⟨0x08, .u32, .monR, 0, .any, .bringUp, false⟩]

/-- The record at 9001h. -/
def t9001 : List DEnt := [
  ⟨0x01, .enum, .mgrW, 0, (.range 1 5), .staged, true⟩,
  ⟨0x02, .domain, .mgrW, 0, (.items 124 124), .staged, true⟩]

/-- The record at 9100h. -/
def t9100 : List DEnt := [
  ⟨0x01, .u8, .monR, 0, .any, .bringUp, false⟩,
  ⟨0x02, .u8, .monR, 0, .any, .bringUp, false⟩,
  ⟨0x03, .str, .monRtenR, 0, .any, .bringUp, false⟩,
  ⟨0x04, .str, .monRtenR, 0, .any, .bringUp, false⟩,
  ⟨0x05, .u8, .monR, 0, .any, .bringUp, false⟩,
  ⟨0x06, .u8, .monR, 0, .any, .bringUp, false⟩,
  ⟨0x07, .u8, .mgrWmonR, 0, .any, .live, false⟩,
  ⟨0x08, .u32, .monR, 0, .any, .bringUp, false⟩,
  ⟨0x09, .u32, .monR, 0, .any, .bringUp, false⟩,
  ⟨0x0A, .enum, .monR, 0, .any, .bringUp, false⟩,
  ⟨0x0B, .u8, .monR, 8, .any, .bringUp, false⟩]

/-- The record at A000h. -/
def tA000 : List DEnt := [
  ⟨0x01, .u16, .monR, 4096, .any, .bringUp, false⟩,
  ⟨0x02, .domain, .monR, 0, .any, .bringUp, false⟩,
  ⟨0x03, .u64, .mgrW, 0, .any, .live, true⟩,
  ⟨0x04, .u64, .monR, 0, .any, .bringUp, false⟩]

/-- The record at A001h. -/
def tA001 : List DEnt := [
  ⟨0x01, .u64, .mgrWmonR, 0, .any, .live, true⟩,
  ⟨0x02, .enum, .monR, 0, .any, .bringUp, false⟩,
  ⟨0x03, .u32, .monR, 0, .any, .bringUp, false⟩,
  ⟨0x04, .u16, .monR, 0, .any, .bringUp, false⟩,
  ⟨0x05, .u16, .monR, 0, .any, .bringUp, false⟩]

/-- The entries of an index (R32, R33: an index outside the tables does not exist). -/
def dictRec (i : Nat) : List DEnt :=
  if 0x3000 ≤ i ∧ i ≤ 0x3FFF then t3000
  else if 0x5800 ≤ i ∧ i ≤ 0x5FFF then t5800
  else if 0x7000 ≤ i ∧ i ≤ 0x701F then t7000
  else if 0x7810 ≤ i ∧ i ≤ 0x7813 then t7810
  else if 0x8110 ≤ i ∧ i ≤ 0x8117 then t8110
  else if 0x8120 ≤ i ∧ i ≤ 0x8131 then t8120
  else if 0x8820 ≤ i ∧ i ≤ 0x8823 then t8820
  else match i with
  | 0x1000 => t1000
  | 0x1100 => t1100
  | 0x1F00 => t1F00
  | 0x1F01 => t1F01
  | 0x2000 => t2000
  | 0x2001 => t2001
  | 0x2002 => t2001
  | 0x2003 => t2003
  | 0x2004 => t2003
  | 0x2008 => t2008
  | 0x4000 => t4000
  | 0x4001 => t4001
  | 0x4002 => t4002
  | 0x4003 => t4003
  | 0x5000 => t5000
  | 0x5001 => t5001
  | 0x6000 => t6000
  | 0x6001 => t6001
  | 0x6002 => t6002
  | 0x6003 => t6003
  | 0x6400 => t6400
  | 0x6401 => t6401
  | 0x6402 => t6402
  | 0x6403 => t6403
  | 0x7400 => t7400
  | 0x7401 => t7401
  | 0x7402 => t7402
  | 0x7800 => t7800
  | 0x7801 => t7801
  | 0x7900 => t7900
  | 0x7901 => t7901
  | 0x7902 => t7902
  | 0x7903 => t7903
  | 0x8000 => t8000
  | 0x8001 => t8001
  | 0x8040 => t8040
  | 0x8041 => t8041
  | 0x8100 => t8100
  | 0x8800 => t8800
  | 0x8802 => t8802
  | 0x8810 => t8810
  | 0x8830 => t8830
  | 0x9000 => t9000
  | 0x9001 => t9001
  | 0x9100 => t9100
  | 0xA000 => tA000
  | 0xA001 => tA001
  | _ => []

/-- One entry, by index and subindex. -/
def dictEnt (i sub : Nat) : Option DEnt := (dictRec i).find? (fun e => e.sub == sub)

/-- An index exists (R33). -/
def dictExists (i : Nat) : Bool := !(dictRec i).isEmpty

/-- A record is Staged when its fields are (R34). -/
def dictStaged (i : Nat) : Bool := (dictRec i).any (fun e => e.cls == .staged)

/-- The highest subindex in use at an index, the value of subindex 00h (R31). -/
def dictTop (i : Nat) : Nat := ((dictRec i).map (fun e => e.sub)).foldl max 0

/-- The thermal zones 1 to 7 differ from zone 0 in these defaults (R403). -/
def zoneDefault (sub : Nat) : Option Nat :=
  match sub with
  | 1 => some 0
  | 2 => some 0
  | 3 => some 0
  | 4 => some 70
  | 5 => some 75
  | 7 => some 85
  | _ => none

/-- The default of an entry (R42): the Default column, with the defaults that name the unit (R141, R403). -/
def dictDefault (i sub : Nat) : Nat :=
  let tbl := match dictEnt i sub with
    | some e => e.dflt
    | none => 0
  if 0x3000 ≤ i ∧ i ≤ 0x3FFF then
    if sub = 3 then (if i = 0x3001 then 1 else 0)
    else if sub = 7 then (if i ≤ 0x3001 then 1 else 0)
    else if sub = 9 then (i - 0x3000) % 8
    else tbl
  else if 0x8111 ≤ i ∧ i ≤ 0x8117 then (zoneDefault sub).getD tbl
  else tbl

/-- The size of a value of a type (R35); 0 for the types of varying length. -/
def DTy.size : DTy → Nat
  | .bool => 1
  | .u8 => 1
  | .u16 => 2
  | .u32 => 4
  | .u64 => 8
  | .i32 => 4
  | .enum => 2
  | .str => 0
  | .domain => 0

/-- The type codes of R35. -/
def DTy.code : DTy → Nat
  | .bool => 1
  | .u8 => 2
  | .u16 => 3
  | .u32 => 4
  | .u64 => 5
  | .i32 => 6
  | .enum => 7
  | .str => 8
  | .domain => 9

/-- The key of an entry in the value tables of `Dict`. -/
def dkey (i sub : Nat) : Nat := i * 256 + sub

/-- The value in force of an entry (R42, R45): the value the store or a commit put in force, else the default. -/
def State.cfgVal (s : State) (i sub : Nat) : Val :=
  match Tbl.get none s.dict.inForce (dkey i sub) with
  | some v => v
  | none =>
    match dictEnt i sub with
    | some e => if e.ty = .str ∨ e.ty = .domain then .bytes [] else .num (dictDefault i sub)
    | none => .num (dictDefault i sub)

/-- A numeric value in force. -/
def State.cfg (s : State) (i sub : Nat) : Nat :=
  match s.cfgVal i sub with
  | .num n => n
  | .bytes _ => 0

/-- A BOOL in force. -/
def State.cfgB (s : State) (i sub : Nat) : Bool := s.cfg i sub != 0

/-- The bytes of a STR or DOMAIN in force. -/
def State.cfgBytes (s : State) (i sub : Nat) : List Byte :=
  match s.cfgVal i sub with
  | .num _ => []
  | .bytes l => l

/-- An I32 in force as an integer (R35). -/
def State.cfgI (s : State) (i sub : Nat) : Int :=
  let n := s.cfg i sub
  if n < 2 ^ 31 then (n : Int) else (n : Int) - 2 ^ 32

/-- Put a value in force. -/
def State.putInForce (s : State) (i sub : Nat) (v : Option Val) : State :=
  { s with dict := { s.dict with inForce := Tbl.set none s.dict.inForce (dkey i sub) v } }

/-- Put a value into the store. -/
def State.putStored (s : State) (i sub : Nat) (v : Option Val) : State :=
  { s with dict := { s.dict with stored := Tbl.set none s.dict.stored (dkey i sub) v } }

/-- Put a value in force and in the store together, as a record that the block itself keeps (R137, R192). -/
def State.putCfg (s : State) (i sub n : Nat) : State :=
  (s.putInForce i sub (some (.num n))).putStored i sub (some (.num n))

end Sys2Proof.Machine
end

