-- ==== Sys2Proof/Machine/Ops.lean ====
section
/-! DEFINITION. The operations that every family of commands shares: reading and writing one unit of state,
time, the RAS collector, interrupts, error information, modes and Sustain. -/

namespace Sys2Proof

/-- A queue is an admin queue. -/
def QKey.isAdmin : QKey → Bool
  | .std _ _ q => q == 0
  | .page _ q => q == 0

/-- The admin queue of a physical function, which acts as Manager (R39, R146). -/
def QKey.isManager : QKey → Bool
  | .std _ 0 0 => true
  | _ => false

/-- The queue identifier. -/
def QKey.qid : QKey → Nat
  | .std _ _ q => q
  | .page _ q => q

/-- The queue of the same controller with another identifier. -/
def QKey.withQid : QKey → Nat → QKey
  | .std p f _, q => .std p f q
  | .page n _, q => .page n q

end Sys2Proof

namespace Sys2Proof.Machine

/-- The answer of a meaning. -/
abbrev Res := Host.Outcome State Fault Refusal

/-! ### Counting and output -/

/-- R9: an event that the table does not list for the state changes nothing and is counted by the RAS
collector. (DEDUCED, log entry 5) -/
def State.unlisted (s : State) : State :=
  { s with ras := { s.ras with unlisted := s.ras.unlisted + 1 } }

/-- Put a message on an output. -/
def State.emit (s : State) (o : Out) : State := { s with out := s.out ++ [o] }

/-- Perform a change when a condition holds; otherwise the event is not listed (R9). -/
def State.when (s : State) (b : Bool) (f : State → State) : State := if b then f s else s.unlisted

/-- Perform a change when a condition holds, else nothing. -/
def State.also (s : State) (b : Bool) (f : State → State) : State := if b then f s else s

/-- Perform a change for each member of a list, first to last. -/
def State.forEach {α : Type} (s : State) (l : List α) (f : α → State → State) : State :=
  l.foldl (fun s x => f x s) s

/-- Insert into a list after every member that may stand before it. -/
def insertBy {α : Type} (le : α → α → Bool) (x : α) : List α → List α
  | [] => [x]
  | y :: t => if le y x then y :: insertBy le x t else x :: y :: t

/-- A stable sort by a preorder. -/
def sortBy {α : Type} (le : α → α → Bool) (l : List α) : List α :=
  l.foldl (fun acc x => insertBy le x acc) []

/-! ### One unit of state -/

/-- The key of a function. -/
def fkey (p f : Nat) : Nat := p * 256 + f
/-- The code of a queue in the tables `sqs` and `cqs`. -/
def qcode : QKey → Nat
  | .std p f q => ((p * 256 + f) * 65536 + q) * 2
  | .page n q => (n * 256 + q) * 2 + 1
/-- The key of a block in the map. -/
def bkey (nsid lba : Nat) : Nat := nsid * 2 ^ 64 + lba
/-- The key of a map page. -/
def pkey (nsid page : Nat) : Nat := nsid * 2 ^ 56 + page
/-- The key of a zone. -/
def zkey (nsid z : Nat) : Nat := nsid * 2 ^ 32 + z
/-- The key of a LUN. -/
def lkey (ch pos : Nat) : Nat := ch * 32 + pos

def State.port (s : State) (p : Nat) : Port := Tbl.get {} s.ports p
def State.setPort (s : State) (p : Nat) (x : Port) : State := { s with ports := Tbl.set {} s.ports p x }
def State.func (s : State) (p f : Nat) : Func := Tbl.get {} s.funcs (fkey p f)
def State.setFunc (s : State) (p f : Nat) (x : Func) : State :=
  { s with funcs := Tbl.set {} s.funcs (fkey p f) x }
def State.sq (s : State) (q : QKey) : Sq := Tbl.get {} s.sqs (qcode q)
def State.setSq (s : State) (q : QKey) (x : Sq) : State := { s with sqs := Tbl.set {} s.sqs (qcode q) x }
def State.cq (s : State) (q : QKey) : Cq := Tbl.get {} s.cqs (qcode q)
def State.setCq (s : State) (q : QKey) (x : Cq) : State := { s with cqs := Tbl.set {} s.cqs (qcode q) x }
def State.tag (s : State) (t : Nat) : Tag := Tbl.get {} s.tags t
def State.setTag (s : State) (t : Nat) (x : Tag) : State := { s with tags := Tbl.set {} s.tags t x }
def State.ctrl (s : State) (c : Nat) : Ctrl := Tbl.get {} s.ctrls c
def State.setCtrl (s : State) (c : Nat) (x : Ctrl) : State := { s with ctrls := Tbl.set {} s.ctrls c x }
def State.slice (s : State) (n : Nat) : Slice := Tbl.get {} s.slices n
def State.setSlice (s : State) (n : Nat) (x : Slice) : State := { s with slices := Tbl.set {} s.slices n x }
def State.lun (s : State) (ch pos : Nat) : Lun := Tbl.get {} s.luns (lkey ch pos)
def State.setLun (s : State) (ch pos : Nat) (x : Lun) : State :=
  { s with luns := Tbl.set {} s.luns (lkey ch pos) x }
def State.chan (s : State) (n : Nat) : Chan := Tbl.get {} s.chans n
def State.setChan (s : State) (n : Nat) (x : Chan) : State := { s with chans := Tbl.set {} s.chans n x }
def State.island (s : State) (n : Nat) : Island := Tbl.get {} s.islands n
def State.setIsland (s : State) (n : Nat) (x : Island) : State :=
  { s with islands := Tbl.set {} s.islands n x }
def State.engine (s : State) (n : Nat) : Engine := Tbl.get {} s.engines n
def State.setEngine (s : State) (n : Nat) (x : Engine) : State :=
  { s with engines := Tbl.set {} s.engines n x }
def State.ns (s : State) (n : Nat) : Ns := Tbl.get {} s.nss n
def State.setNs (s : State) (n : Nat) (x : Ns) : State := { s with nss := Tbl.set {} s.nss n x }
def State.zone (s : State) (n z : Nat) : Zone := Tbl.get {} s.zones (zkey n z)
def State.setZone (s : State) (n z : Nat) (x : Zone) : State :=
  { s with zones := Tbl.set {} s.zones (zkey n z) x }
def State.ment (s : State) (n lba : Nat) : MEnt := Tbl.get {} s.map.ents (bkey n lba)
def State.setMent (s : State) (n lba : Nat) (x : MEnt) : State :=
  { s with map := { s.map with ents := Tbl.set {} s.map.ents (bkey n lba) x } }
def State.page (s : State) (n p : Nat) : Page := Tbl.get {} s.map.pages (pkey n p)
def State.setPage (s : State) (n p : Nat) (x : Page) : State :=
  { s with map := { s.map with pages := Tbl.set {} s.map.pages (pkey n p) x } }
def State.wblk (s : State) (h : Nat) : WbBlk := Tbl.get {} s.wbuf.blks h
def State.setWblk (s : State) (h : Nat) (x : WbBlk) : State :=
  { s with wbuf := { s.wbuf with blks := Tbl.set {} s.wbuf.blks h x } }
def State.sb (s : State) (k : Nat) : Sb := Tbl.get {} s.media.sbs k
def State.setSb (s : State) (k : Nat) (x : Sb) : State :=
  { s with media := { s.media with sbs := Tbl.set {} s.media.sbs k x } }
def State.prog (s : State) (k : Nat) : Prog := Tbl.get {} s.media.progs k
def State.setProg (s : State) (k : Nat) (x : Prog) : State :=
  { s with media := { s.media with progs := Tbl.set {} s.media.progs k x } }
def State.dram (s : State) (c : Nat) : Dram := Tbl.get {} s.drams c
def State.setDram (s : State) (c : Nat) (x : Dram) : State := { s with drams := Tbl.set {} s.drams c x }
def State.sensor (s : State) (k : Nat) : Sensor := Tbl.get {} s.thermal.sensors k
def State.setSensor (s : State) (k : Nat) (x : Sensor) : State :=
  { s with thermal := { s.thermal with sensors := Tbl.set {} s.thermal.sensors k x } }
def State.tzone (s : State) (z : Nat) : TZone := Tbl.get {} s.thermal.zones z
def State.setTzone (s : State) (z : Nat) (x : TZone) : State :=
  { s with thermal := { s.thermal with zones := Tbl.set {} s.thermal.zones z x } }

/-! ### Time (R453, R455) -/

/-- The timestamp in nanoseconds: 64 bits, counting from the value last set. -/
def State.timestamp (s : State) : Nat := (s.aon.tsBase + (s.aon.now - s.aon.tsAt)) % 2 ^ 64

/-- Whether a moment lies at least so many nanoseconds back. (DESIGN CHOICE, log entry 111) -/
def State.elapsed (s : State) (since ns : Nat) : Bool := since + ns ≤ s.aon.now

def usec : Nat := 1000
def msec : Nat := 1000000
def sec : Nat := 1000000000
def hour : Nat := 3600000000000

/-- R452: serial arithmetic on n-bit values: `a` is after `b`. -/
def serialAfter (n a b : Nat) : Bool :=
  let d := (a + 2 ^ n - b % 2 ^ n) % 2 ^ n
  0 < d && d < 2 ^ (n - 1)

/-! ### Slices, functions and ports (R68, R69, R97, R138, R141, R146) -/

def State.slPort (s : State) (n : Nat) : Nat := s.cfg (0x3000 + n) 3
def State.slFn (s : State) (n : Nat) : Nat := s.cfg (0x3000 + n) 4
def State.slPasid (s : State) (n : Nat) : Option Nat :=
  if s.cfgB (0x3000 + n) 5 then some (s.cfg (0x3000 + n) 6) else none
def State.slStdq (s : State) (n : Nat) : Bool := s.cfgB (0x3000 + n) 7
def State.slHome (s : State) (n : Nat) : Nat := s.cfg (0x3000 + n) 9
def State.slClass (s : State) (n : Nat) : Nat := s.cfg (0x3000 + n) 10

/-- R142: a Resetting slice keeps its binding. -/
def SliceSt.isBound : SliceSt → Bool
  | .bound => true
  | .resetting => true
  | _ => false

/-- The encoding of 3000h.01. -/
def SliceSt.code : SliceSt → Nat
  | .absent => 0
  | .created => 1
  | .bound => 2
  | .resetting => 3
  | .destroying => 4

/-- The bound slices, by number. -/
def State.boundSlices (s : State) : List Nat :=
  s.slices.filterMap (fun x => if x.2.st.isBound then some x.1 else none)

/-- The slices bound to a function. -/
def State.slicesOn (s : State) (p f : Nat) : List Nat :=
  s.boundSlices.filter (fun n => s.slPort n == p && s.slFn n == f)

/-- The slices bound to any function of a port. -/
def State.slicesOnPort (s : State) (p : Nat) : List Nat := s.boundSlices.filter (fun n => s.slPort n == p)

/-- The slice that owns a function's standard queues (R146). -/
def State.stdqSlice (s : State) (p f : Nat) : Option Nat := (s.slicesOn p f).find? (fun n => s.slStdq n)

/-- The controller of a queue: its slice's, or the manager context of a port (R146), or the context of a
function that has no slice. -/
def State.owner (s : State) : QKey → Nat
  | .page n _ => n
  | .std p f _ =>
    match s.stdqSlice p f with
    | some n => n
    | none => if f = 0 then 4096 + p else 8192 + fkey p f

/-- R97: the DMA and interrupt messages of a function are held. -/
def State.held (s : State) (p f : Nat) : Bool :=
  let x := s.func p f
  !x.bme || x.d3hot || (!x.pasidEn && (s.slicesOn p f).any (fun n => (s.slPasid n).isSome))

/-- R138: SLM_PSTATUS.READY. -/
def State.ready (s : State) (n : Nat) : Bool :=
  let f := s.func (s.slPort n) (s.slFn n)
  decide ((s.slice n).st = .bound) && f.here && f.bme && (s.slice n).fenceOpen

/-- The port and function of a queue's controller. -/
def State.qfunc (s : State) : QKey → Nat × Nat
  | .std p f _ => (p, f)
  | .page n _ => (s.slPort n, s.slFn n)

/-- Two ports are in use (R87). -/
def State.dual (s : State) : Bool := s.aon.portDual

/-! ### Interrupts (R84, R97, R152) -/

/-- Send an MSI-X vector of a function, or hold it pending under its mask, the function's MSI-X Enable and
Function Mask, and R97. -/
def State.msixSend (s : State) (p f v : Nat) : State :=
  let x := s.func p f
  let e := Tbl.get {} x.msix v
  if x.msixEn && !x.msixMask && !e.masked && !s.held p f then s.emit (.msix p f v e.addr e.data)
  else s.setFunc p f { x with msix := Tbl.set {} x.msix v { e with pending := true } }

/-- R152: send interrupt `k` of a slice, or hold its pending bit. -/
def State.sliceInterrupt (s : State) (n k : Nat) : State :=
  let i := 0x3000 + n
  let p := s.slPort n
  let f := s.slFn n
  let x := s.func p f
  let addr := s.cfg i (0x14 + 3 * k)
  if s.cfgB i (0x16 + 3 * k) || addr == 0 || s.held p f || !x.msixEn || x.msixMask then
    s.setSlice n { s.slice n with intPending := Tbl.set false (s.slice n).intPending k true }
  else
    (s.setSlice n { s.slice n with intPending := Tbl.set false (s.slice n).intPending k false }).emit
      (.interrupt p f addr (s.cfg i (0x15 + 3 * k)))

/-- Send the pending interrupts of a slice that are no longer held. -/
def State.sliceInterrupts (s : State) (n : Nat) : State :=
  s.forEach [0, 1, 2, 3] (fun k s => if Tbl.get false (s.slice n).intPending k then s.sliceInterrupt n k else s)

/-- Send the pending MSI-X vectors of a function that are no longer held. -/
def State.msixRelease (s : State) (p f : Nat) : State :=
  s.forEach (s.func p f).msix (fun e s =>
    if e.2.pending then
      let x := s.func p f
      if x.msixEn && !x.msixMask && !e.2.masked && !s.held p f then
        (s.setFunc p f { x with msix := Tbl.set {} x.msix e.1 { e.2 with pending := false } }).emit
          (.msix p f e.1 e.2.addr e.2.data)
      else s
    else s)

/-! ### The RAS collector (R84, R415, R456, R457) -/

/-- R415: an event on which subscriptions with ON_EVENT push. -/
def State.telemEvent (s : State) : State :=
  s.forEach [0, 1, 2, 3] (fun k s =>
    if s.cfgB (0x8820 + k) 5 then
      let x := Tbl.get {} s.mgmt.telem k
      { s with mgmt := { s.mgmt with telem := Tbl.set {} s.mgmt.telem k { x with pendingEvent := true } } }
    else s)

/-- Set a bit of RAS_SUMMARY. When it was 0, telemetry takes the event, and when its EN bit is 1 the
interrupt of R84 goes out on each port whose link is up. -/
def State.rasBit (s : State) (b : Nat) : State :=
  let was := s.regs.rasSummary.getLsbD b
  let s1 := { s with regs := { s.regs with rasSummary := s.regs.rasSummary ||| (1#32 <<< b) } }
  if was then s1
  else
    let s2 := s1.telemEvent
    if s.regs.rasInten.getLsbD b then
      s2.forEach [0, 1] (fun p s => if (s.port p).linkUp then s.msixSend p 0 2047 else s)
    else s2

/-- Append a RAS record (R456): the ring keeps the newest 4,096. (PRESUMED, log entry 12) -/
def State.rasRecord (s : State) (unit inst kind sev cause : Nat) (detail : List Nat) : State :=
  let r : RasRec := ⟨s.ras.lastSeq + 1, s.timestamp, unit, inst, kind, sev, cause, detail⟩
  let full := Config.rasRecords ≤ s.ras.ring.length
  let lost := full && (match s.ras.ring with
    | [] => false
    | o :: _ => decide (s.ras.ack < o.seq))
  { s with ras := { s.ras with
      ring := (if full then s.ras.ring.drop 1 else s.ras.ring) ++ [r]
      lastSeq := s.ras.lastSeq + 1
      overwritten := if lost then satAdd 64 s.ras.overwritten 1 else s.ras.overwritten
      failures := if 2 ≤ sev then satAdd 32 s.ras.failures 1 else s.ras.failures
      persistentEvents := if sev = 3 then s.ras.persistentEvents ++ [r] else s.ras.persistentEvents } }

/-- A failure or event that sets its RAS_SUMMARY bit and writes its record. -/
def State.rasReport (s : State) (unit inst kind sev cause : Nat) (detail : List Nat) : State :=
  (s.rasBit kind).rasRecord unit inst kind sev cause detail

/-- RAS_PENDING.COUNT (R457). -/
def State.rasPending (s : State) : Nat := min (s.ras.lastSeq - s.ras.ack) 0xFFFF

/-! ### Access log (R81, R82) -/

/-- Log an access: HIF_ACCLOG captures the first while VALID is 0 and then writes the RAS record. -/
def State.accLog (s : State) (kind bar port fn off : Nat) : State :=
  let r := s.regs
  let s1 := s.rasBit 10
  let cnt := satAdd 16 r.accCount 1
  if r.accValid then { s1 with regs := { s1.regs with accCount := cnt } }
  else
    { s1 with regs := { s1.regs with accCount := cnt, accValid := true, accOffset := off % 2 ^ 24, accKind := kind,
                                     accBar := bar, accPort := port, accFunc := fn } }.rasRecord
      0x0F 0 10 0 0 [off % 2 ^ 24, kind, bar, port, fn]

/-! ### Error information and asynchronous events (R112, R113, R130, R131) -/

/-- Add an Error Information entry; a controller holds 256 (R117). -/
def State.addError (s : State) (c : Nat) (e : ErrEntry) : State :=
  let x := s.ctrl c
  s.setCtrl c { x with errors := (e :: x.errors).take 256 }

/-- The bits of the Uncorrectable Error Status and Severity registers (the PCI Express layout). -/
def aerPoisoned : Nat := 12
def aerTimeout : Nat := 14
def aerAbort : Nat := 15
def aerEcrc : Nat := 19
def aerUnsupported : Nat := 20

/-- R98: report an error through AER: its status bit, and a message with the severity that the function's
Uncorrectable Error Severity register gives it. -/
def State.aerReport (s : State) (p f bit : Nat) (what : String) : State :=
  let x := s.func p f
  (s.setFunc p f { x with uncStatus := x.uncStatus ||| 2 ^ bit }).emit
    (.aer p f (what ++ (if x.uncSeverity.testBit bit then ", fatal" else ", non-fatal")))

/-! ### Modes (R384, R385, R388) -/

/-- The encoding of 8000h.01. -/
def Base.code : Base → Nat
  | .unpowered => 0
  | .dormant => 0
  | .bringUp => 1
  | .service => 2
  | .readOnly => 3
  | .flush => 4
  | .maintenance => 5

/-- Move to a base mode: PWR_EVENT.MODECHG, 8000h.08, 8000h.09 and the record of R385. -/
def State.transition (s : State) (b : Base) (cause : Nat) : State :=
  let old := s.mode.base.code
  let s1 := { s with
    mode := { s.mode with base := b, changes := satAdd 32 s.mode.changes 1, lastCause := cause }
    regs := { s.regs with pwrEvent := s.regs.pwrEvent ||| 1#32 } }
  (s1.rasRecord 0x0E 0 0x20 0 cause [old, b.code]).telemEvent

/-- The fast domain runs. -/
def State.awake (s : State) : Bool :=
  match s.mode.base with
  | .unpowered => false
  | .dormant => false
  | _ => true

/-- Service, Read-Only or Maintenance: the modes from which Flush starts (R280). -/
def State.inService (s : State) : Bool :=
  match s.mode.base with
  | .service => true
  | .readOnly => true
  | .maintenance => true
  | _ => false

/-- Set a Sustain cause (R388). -/
def State.sustainSet (s : State) (b : Nat) : State :=
  { s with mode := { s.mode with sustain := s.mode.sustain ||| 2 ^ b } }

/-- Clear a Sustain cause. -/
def State.sustainClear (s : State) (b : Nat) : State :=
  { s with mode := { s.mode with
      sustain := if s.mode.sustain.testBit b then s.mode.sustain - 2 ^ b else s.mode.sustain } }

/-- A zone is enabled (R394). -/
def State.zoneOn (s : State) (z : Nat) : Bool := s.cfgB (0x8110 + z) 1

/-- R384: Guard. -/
def State.guard (s : State) : Bool := (List.range 8).any (fun z => s.zoneOn z && (s.tzone z).step != 0)

/-- The deepest pause step in force (R83). -/
def State.deepest (s : State) : Nat :=
  (List.range 8).foldl (fun m z => if s.zoneOn z then max m (s.tzone z).step else m) 0

/-- The deepest step of the zones that hold a channel (R179, R394); none in Flush (R286). -/
def State.stepOf (s : State) (ch : Nat) : Nat :=
  if s.mode.base = .flush then 0
  else (List.range 8).foldl (fun m z =>
    if s.zoneOn z && (s.cfg (0x8110 + z) 3).testBit ch then max m (s.tzone z).step else m) 0

/-- Set a cause of Read-Only (8000h.07). -/
def State.readonlySet (s : State) (b : Nat) (on : Bool) : State :=
  let c := s.mode.readonlyCauses
  let c' := if on then c ||| 2 ^ b else (if c.testBit b then c - 2 ^ b else c)
  { s with mode := { s.mode with readonlyCauses := c' } }

/-- Set or clear a Maintenance cause (8000h.06). -/
def State.maintSet (s : State) (b : Nat) (on : Bool) : State :=
  let c := s.mode.maintCauses
  let c' := if on then c ||| 2 ^ b else (if c.testBit b then c - 2 ^ b else c)
  { s with mode := { s.mode with maintCauses := c' } }

/-! ### Configuration of the part -/

/-- Flash channels in service: Running or Reduced (R307). -/
def State.channelsUp (s : State) : List Nat :=
  (List.range Config.channels).filter (fun n => (s.chan n).st = .running || (s.chan n).st = .reduced)

/-- The media profile is committed (R275). -/
def State.profile (s : State) : Bool := !(s.cfgBytes 0x6400 1).isEmpty

/-- Granules of 1 KiB in one superblock row's data, and the other derived sizes are in Media. -/
def granule : Nat := 1024

/-- DRAM channel copies: a channel serves when it runs, at full or reduced rate (7810h.01). -/
def State.dramUp (s : State) (c : Nat) : Bool := (s.dram c).st == 2 || (s.dram c).st == 3

/-- A mirrored pair has both channels in service (R29, R446): pair 0 is channels 0 and 1, pair 1 is 2 and 3. -/
def State.pairUp (s : State) (p : Nat) : Bool := s.dramUp (2 * p) && s.dramUp (2 * p + 1)

end Sys2Proof.Machine
end

