-- ==== Sys2Proof/Machine/Derive.lean ====
section
/-! DEFINITION. The quantities that the spec derives from the state: geometry and capacity (R244, R245, R271,
R272), the pool (R194), wear and spare (R273), demand (R257), hold-up (R282, R287), the lifecycle state (R427,
R428) and the working engines and lanes. -/

namespace Sys2Proof.Machine

/-! ### The media profile and the geometry (R244, R245, R275) -/

def State.pf (s : State) (sub : Nat) : Nat := s.cfg 0x6400 sub
def State.positions (s : State) : Nat := s.pf 8 * s.pf 7
def State.blocksPerLun (s : State) : Nat := s.pf 6
def State.wordlines (s : State) : Nat := s.pf 5
def State.planes (s : State) : Nat := s.pf 3
def State.pageKib (s : State) : Nat := s.pf 4
/-- Bits of the dense cell mode: 3 TLC, 4 QLC, 5 PLC. -/
def State.denseBits (s : State) : Nat := if s.pf 2 = 0 then 0 else s.pf 2 + 2
def State.pagesPerBlock (s : State) : Nat := s.wordlines * s.denseBits
/-- Granules of one block in SLC mode. -/
def State.slcBlock (s : State) : Nat := s.wordlines * s.planes * s.pageKib
/-- Granules of one dense block (Cb of R272). -/
def State.denseBlock (s : State) : Nat := s.slcBlock * s.denseBits
/-- Raw capacity in granules. -/
def State.rawGranules (s : State) : Nat := Config.channels * s.positions * s.blocksPerLun * s.denseBlock
/-- Parity members of a row: 1 under stripe 31 + 1, 2 under 30 + 2 (R247). -/
def State.parityMembers (s : State) : Nat := if s.cfg 0x6401 3 = 1 then 2 else 1
/-- The number of superblocks (R246). -/
def State.superblocks (s : State) : Nat := s.positions * s.blocksPerLun

/-- R245: the mixed-radix flash address. -/
def State.locOf (s : State) (ch pos blk page plane gran : Nat) : Nat :=
  ((((ch * s.positions + pos) * s.blocksPerLun + blk) * s.pagesPerBlock + page) * s.planes + plane)
    * s.pageKib + gran

/-- The channel, LUN position and block of a flash address. -/
def State.locChannel (s : State) (loc : Nat) : Nat :=
  loc / (s.positions * s.blocksPerLun * s.pagesPerBlock * s.planes * s.pageKib)
def State.locPos (s : State) (loc : Nat) : Nat :=
  loc / (s.blocksPerLun * s.pagesPerBlock * s.planes * s.pageKib) % s.positions
def State.locBlock (s : State) (loc : Nat) : Nat :=
  loc / (s.pagesPerBlock * s.planes * s.pageKib) % s.blocksPerLun
def State.locPage (s : State) (loc : Nat) : Nat := loc / (s.planes * s.pageKib) % s.pagesPerBlock
def State.locPlane (s : State) (loc : Nat) : Nat := loc / s.pageKib % s.planes
/-- R246: the superblock of a flash address: one member block at the same place on every channel. -/
def State.locSb (s : State) (loc : Nat) : Nat := s.locPos loc * s.blocksPerLun + s.locBlock loc

/-- Members of a superblock that are present: its channel serves, its LUN is not retired, its block is good. -/
def State.members (s : State) (k : Nat) : List Nat :=
  (List.range Config.channels).filter (fun c =>
    !(s.sb k).absentCh.contains c && !(s.lun c (k / s.blocksPerLun)).retired
      && !((s.chan c).st = .failed))

/-- R247: the channel that takes a parity role: the named one, or the next present one above it, wrapping. -/
def State.parityAt (s : State) (k start : Nat) (taken : List Nat) : Option Nat :=
  ((List.range Config.channels).map (fun i => (start + i) % Config.channels)).find?
    (fun c => (s.members k).contains c && !taken.contains c)

/-- R247: the parity members of a superblock. -/
def State.parityOf (s : State) (k : Nat) : List Nat :=
  match s.parityAt k (k % Config.channels) [] with
  | none => []
  | some p =>
    if s.parityMembers = 1 then [p]
    else match s.parityAt k ((k + Config.channels / 2) % Config.channels) [p] with
      | none => [p]
      | some q => [p, q]

/-- R247: the data members of a superblock, in channel order. -/
def State.dataMembers (s : State) (k : Nat) : List Nat :=
  (s.members k).filter (fun c => !(s.parityOf k).contains c)

/-! ### Capacity and spares (R271, R272, R273) -/

def State.nSlc (s : State) : Nat := ceilDiv (s.cfg 0x6401 1 * s.positions * s.blocksPerLun) 1000
def State.nJournal (s : State) : Nat :=
  if s.slcBlock = 0 then 0 else ceilDiv (s.cfg 0x6000 2 * 2 ^ 20) (Config.channels * s.slcBlock)
def State.nMap (s : State) : Nat :=
  if s.slcBlock = 0 then 0
  else ceilDiv (ceilDiv (s.rawGranules / 4) 448 * 4) ((Config.channels - s.parityMembers) * s.slcBlock)
/-- A of R194, in granules. -/
def State.poolA (s : State) : Nat := s.cfg 0x5000 1 * 2 ^ 20
def State.slots (s : State) : Nat :=
  s.positions * (s.blocksPerLun - s.pf 9 - s.cfg 0x6401 4)
def State.denseCapacity (s : State) : Nat :=
  (s.slots - s.nSlc - s.nJournal - 2 - s.nMap) * (Config.channels - s.parityMembers) * s.denseBlock
/-- P of R271, in granules; no profile gives 0. -/
def State.poolP (s : State) : Nat :=
  if !s.profile || s.rawGranules / 64 = 0 then 0
  else
    let d := s.denseCapacity * (1000 - s.cfg 0x6401 2) / 1000
    (d - s.poolA) / (s.rawGranules / 64) * (s.rawGranules / 64)

/-- In-service blocks of a LUN (R272). -/
def State.goodBlocks (s : State) (ch pos : Nat) : Nat :=
  if (s.lun ch pos).retired then 0 else s.blocksPerLun - Tbl.get 0 s.media.bad (lkey ch pos)
/-- B_good of R272. -/
def State.bGood (s : State) : Nat :=
  (s.channelsUp.map (fun c => ((List.range s.positions).map (fun p => s.goodBlocks c p)).sum)).sum
/-- Map home superblocks in use beyond the first n_map. -/
def State.mapHomeExtra (s : State) : Nat :=
  ((s.media.sbs.filter (fun x => x.2.kind = .mapHome && !(x.2.st = .free))).length) - s.nMap
/-- X of R272: the lane rows, in zone superblocks that hold a zone, that no zone takes. -/
def State.strandedLanes (s : State) : Nat :=
  Tbl.sum (fun k x =>
    if x.kind = .zone ∧ s.zones.any (fun z => z.2.charge != 0 && s.locSb z.2.extent == k) = true then
      ((List.range s.planes).map (fun q => s.wordlines - Tbl.get 0 x.laneRow q)).sum
        * ((s.dataMembers k).length * s.denseBits * s.pageKib)
    else 0) s.media.sbs
/-- S of R272, in granules. -/
def State.spareS (s : State) : Int :=
  let n := s.channelsUp.length
  let fixed := (s.nSlc + s.nJournal + 2 + s.nMap) * n
  let room : Int := (s.bGood : Int) - (fixed : Int) - ((s.mapHomeExtra * n : Nat) : Int)
  if n = 0 then -((s.poolP + s.poolA : Nat) : Int)
  else (s.denseBlock : Int) * ((n - s.parityMembers : Nat) : Int) * room / (n : Int)
    - ((s.poolP + s.poolA : Nat) : Int) - (s.strandedLanes : Int)
/-- L of R272. -/
def State.lastReserve (s : State) : Nat := max s.poolA (s.poolP / 200)
/-- Available Spare (R273). -/
def State.availableSpare (s : State) : Nat :=
  let d : Int := (s.media.s0 : Int) - (s.lastReserve : Int)
  if d ≤ 0 then 0 else (100 * (s.spareS - (s.lastReserve : Int)) / d).toNat
/-- Mean wear and Percentage Used (R273). -/
def State.percentUsed (s : State) : Nat :=
  let rated := s.pf 0x14 * s.pf 0x16
  let tot := Tbl.sum (fun k x => x.wear * (s.members k).length) s.media.sbs
  if rated = 0 ∨ s.bGood = 0 then 0 else min 255 (100 * tot / (s.bGood * rated))

/-! ### The pool (R194) -/

def State.ncap (s : State) (n : Nat) : Nat := s.cfg (0x5800 + (n - 1)) 4
def State.resR (s : State) (n : Nat) : Nat := 4 * s.ncap n
/-- The namespaces that exist, by NSID. -/
def State.nsList (s : State) : List Nat := s.nss.filterMap (fun x => if x.2.st = 0 then none else some x.1)
def State.sumR (s : State) : Nat := (s.nsList.map (fun n => s.resR n)).sum
def State.overflow (s : State) (n : Nat) : Nat := (s.ns n).used - s.resR n
def State.sumO (s : State) : Nat := (s.nsList.map (fun n => s.overflow n)).sum
/-- F of R194. -/
def State.poolF (s : State) : Int := (s.poolP : Int) - (s.sumR : Int) - (s.sumO : Int)
/-- A namespace is thin (R192). -/
def State.thin (s : State) (n : Nat) : Bool := s.ncap n < (s.ns n).nsze
/-- LOGICAL_LIMIT and LOGICAL_USED of R215, in blocks. -/
def State.logicalLimit (s : State) : Nat := 4 * (s.rawGranules / 4)
def State.logicalUsed (s : State) : Nat :=
  ((s.nsList.filter (fun n => (s.ns n).kind != 1)).map (fun n => (s.ns n).nsze)).sum
/-- Metadata bytes of a block of a namespace (R191). -/
def State.infoBytes (s : State) (n : Nat) : Nat := match (s.ns n).lbaf % 3 with
  | 0 => 0
  | 1 => 8
  | _ => 16
/-- The protection information type of a namespace: 0 for none (DPS). -/
def State.piType (s : State) (n : Nat) : Nat := (s.ns n).dps % 8
/-- The zone size of an LBA format, in blocks (R191). -/
def zoneSize (lbaf : Nat) : Nat := 2 ^ (16 + lbaf / 3)
def State.zoneCount (s : State) (n : Nat) : Nat :=
  if (s.ns n).kind = 1 then (s.ns n).nsze / zoneSize (s.ns n).lbaf else 0
def ZoneSt.isOpen : ZoneSt → Bool
  | .implicitOpen => true
  | .explicitOpen => true
  | _ => false
def ZoneSt.isActive : ZoneSt → Bool
  | .implicitOpen => true
  | .explicitOpen => true
  | .closed => true
  | _ => false
/-- The listed zones of a namespace, with their numbers. -/
def State.zonesOf (s : State) (n : Nat) : List (Nat × Zone) :=
  s.zones.filterMap (fun x => if x.1 / 2 ^ 32 = n then some (x.1 % 2 ^ 32, x.2) else none)
/-- Blocks of a zone below its write pointer that are not voided (R198). -/
def Zone.nuse (z : Zone) : Nat := z.wp - (z.voids.map (fun v => min (v.1 + v.2) z.wp - min v.1 z.wp)).sum
/-- NUSE (R198). (DESIGN CHOICE, log entry 65) -/
def State.nuseOf (s : State) (n : Nat) : Nat :=
  if (s.ns n).kind = 1 then ((s.zonesOf n).map (fun z => z.2.nuse)).sum else (s.ns n).nuse
def State.activeZones (s : State) (n : Nat) : Nat := ((s.zonesOf n).filter (fun z => z.2.st.isActive)).length
def State.openZones (s : State) (n : Nat) : Nat := ((s.zonesOf n).filter (fun z => z.2.st.isOpen)).length
def State.zrwasOf (s : State) (n : Nat) : Nat := ((s.zonesOf n).filter (fun z => z.2.zrwa)).length
def State.allActive (s : State) : Nat := (s.zones.filter (fun z => z.2.st.isActive)).length
def State.allOpen (s : State) : Nat := (s.zones.filter (fun z => z.2.st.isOpen)).length
def State.allZrwa (s : State) : Nat := (s.zones.filter (fun z => z.2.zrwa)).length
def State.allZones (s : State) : Nat := (s.nsList.map (fun n => s.zoneCount n)).sum

/-! ### Superblocks and demand (R249, R257) -/

/-- A superblock belongs to the fixed SLC set when MIXED_MODE is false (R249). -/
def State.inSlcSet (s : State) (k : Nat) : Bool :=
  !s.cfgB 0x6400 0x1E && s.blocksPerLun != 0 &&
    (k % s.blocksPerLun) * s.positions + k / s.blocksPerLun < s.nSlc

/-- R246: a superblock with fewer than 16 data members is not allocated. -/
def State.allocatable (s : State) (k : Nat) : Bool := 16 ≤ (s.dataMembers k).length

/-- Superblocks of the SLC region that are allocated. -/
def State.slcUsed (s : State) : Nat :=
  (s.media.sbs.filter (fun x => x.2.kind = .slc && !(x.2.st = .free))).length

/-- SLC region fill, per cent. -/
def State.slcFill (s : State) : Nat := if s.nSlc = 0 then 0 else min 100 (100 * s.slcUsed / s.nSlc)

/-- Free superblocks: those that no kind holds. -/
def State.freeSbs (s : State) : Nat :=
  s.superblocks - (s.media.sbs.filter (fun x => !(x.2.st = .free))).length

/-- Free superblocks of a reclaim group of `g` LUN positions starting at `lo`. -/
def State.freeIn (s : State) (lo g : Nat) : Nat :=
  g * s.blocksPerLun -
    (s.media.sbs.filter (fun x => !(x.2.st = .free) && s.blocksPerLun != 0 &&
      lo ≤ x.1 / s.blocksPerLun && x.1 / s.blocksPerLun < lo + g)).length

/-- LUN positions in one reclaim group (R207). -/
def State.groupSize (s : State) : Nat :=
  if s.pool.fdpEnabled then max 1 (s.positions / 2 ^ s.pool.fdpConfig) else s.positions
def State.groupCount (s : State) : Nat := if s.pool.fdpEnabled then 2 ^ s.pool.fdpConfig else 1

/-- A term of R257 that runs linearly from 0 at `none_` to 100 at `full`, with `full < none_`. -/
def falling (x none_ full : Nat) : Nat :=
  if none_ ≤ x then 0 else if x ≤ full then 100 else 100 * (none_ - x) / (none_ - full)

/-- The garbage-collection term of a reclaim group (R257). -/
def State.gcTerm (s : State) (g : Nat) : Nat :=
  let gs := s.groupSize
  if s.positions = 0 then 0
  else
    let start := max 2 (ceilDiv (s.cfg 0x6402 1 * gs) s.positions)
    let urgent := max 2 (ceilDiv (s.cfg 0x6402 2 * gs) s.positions)
    falling (s.freeIn (g * gs) gs) start urgent

/-- The folding term of R257. -/
def State.foldTerm (s : State) : Nat :=
  let lo := s.cfg 0x6402 4
  let hi := s.cfg 0x6402 5
  let f := s.slcFill
  if f ≤ lo then 0 else if hi ≤ f then 100 else 100 * (f - lo) / (hi - lo)

/-- A refresh is queued (R263). -/
def State.refreshQueued (s : State) : Bool := s.media.sbs.any (fun x => x.2.refreshQueued)

/-- The upkeep demand d of R257. -/
def State.demand (s : State) : Nat :=
  let gc := ((List.range s.groupCount).map (fun g => s.gcTerm g)).foldl max 0
  max (max gc s.foldTerm)
    (max (if s.media.rebuildState = 1 then s.cfg 0x6402 12 else 0) (if s.refreshQueued then 50 else 0))

/-! ### Hold-up (R282, R287) -/

/-- W in bytes. -/
def State.holdW (s : State) : Nat := s.cfg 0x8040 1 * 2 ^ 20
/-- J in bytes. -/
def State.holdJ (s : State) : Nat :=
  s.cfg 0x6000 3 * 2 ^ 20 + s.holdW / 128 + 4 * (Config.channels * s.positions * s.blocksPerLun)
/-- The channels in service, in 1/3,600 of a channel: a Reduced channel counts by its rate (R309). -/
def State.holdN (s : State) : Nat :=
  (s.channelsUp.map (fun c => if (s.chan c).st = .reduced then (s.chan c).rate else 3600)).sum
/-- T in microseconds with n ÷ 3,600 channels: 1.05 × (W + J) ÷ ((n − k) × 3.6 GB/s) + 3 × TPROG_SLC_US. -/
def State.holdT (s : State) (n : Nat) : Nat :=
  if n ≤ 3600 * s.parityMembers then 0
  else ceilDiv (105 * 3600 * (s.holdW + s.holdJ)) ((n - 3600 * s.parityMembers) * 360000) + 3 * s.pf 12
/-- E in millijoules: 40 W × POST_WINDOW_US + 20 W × (T − POST_WINDOW_US). -/
def State.holdE (s : State) (n : Nat) : Nat :=
  ceilDiv (40 * s.cfg 0x8040 2 + 20 * (s.holdT n - s.cfg 0x8040 2)) 1000
/-- r of R282. -/
def State.reserveSbs (s : State) : Nat :=
  let cap := (Config.channels - s.parityMembers) * s.slcBlock * granule
  if cap = 0 then 0 else ceilDiv (s.holdW + s.holdJ) cap + 1

/-! ### The lifecycle (R427, R428) -/

/-- The state code of a valid fuse entry. -/
def fuseState (e : Nat) : Option Nat :=
  if 1 ≤ e % 16 ∧ e % 16 ≤ 5 ∧ e / 16 = 15 - e % 16 then some (e % 16) else none

/-- The lifecycle state: the code of the last valid entry, or 0 for Blank. -/
def State.lifecycle (s : State) : Nat := (s.sec.fuses.filterMap fuseState).getLastD 0

/-- R428: Blank, Maker and Returned are open. -/
def openState (c : Nat) : Bool := c == 0 || c == 1 || c == 4
def State.scanOpen (s : State) : Bool := openState s.lifecycle || s.lifecycle == 2
def State.debugOpen (s : State) : Bool := openState s.lifecycle
def State.voidEntries (s : State) : Nat := (s.sec.fuses.filter (fun e => (fuseState e).isNone)).length
/-- Host data commands are served in Maker, Provisioned, Deployed and Returned. -/
def State.hostDataServed (s : State) : Bool := s.lifecycle != 0 && s.lifecycle != 5

/-- Key pairs held (9000h.05). -/
def State.keysInUse (s : State) : Nat := (s.nss.filter (fun x => x.2.key.isSome)).length

/-! ### Engines (R16 to R19) -/

/-- The role of a cluster: 0 host, 1 channel, 2 upkeep, 3 steward, 4 spare. -/
def clusterRole (c : Nat) : Nat :=
  if c < 8 then 0 else if c < 12 then 1 else if c < 14 then 2 else if c = 14 then 3 else 4

/-- Free spare engines: engines of cluster 15 that have not failed and replace no engine. -/
def State.freeSpares (s : State) : List Nat :=
  ((List.range 8).map (fun i => 120 + i)).filter (fun e =>
    !(s.engine e).failed && (s.engine e).servesFor.isNone)

/-- A cluster has an engine of its role that works: one of its own, or a spare that replaces one. -/
def State.clusterWorks (s : State) (c : Nat) : Bool :=
  (List.range 8).any (fun i =>
    let e := 8 * c + i
    !(s.engine e).failed ||
      (match (s.engine e).movedTo with
       | some r => !(s.engine r).failed
       | none => false))

/-- A role has a working engine device-wide. -/
def State.roleWorks (s : State) (r : Nat) : Bool :=
  (List.range 15).any (fun c => clusterRole c == r && s.clusterWorks c)

/-! ### SMART critical warning (R273, R396, R212) -/

/-- R396: some enabled zone is at WARN_C, or a sensor of an enabled zone is broken. -/
def State.thermalWarn (s : State) : Bool :=
  (List.range 8).any (fun z => s.zoneOn z &&
    (decide (((s.cfg (0x8110 + z) 4 * 8 : Nat) : Int) ≤ (s.tzone z).tempQ) ||
     (List.range 18).any (fun k => (s.cfg (0x8110 + z) 2).testBit k && (s.sensor k).broken)))

/-- R273: some row has lost a member that no rebuild has restored, or S is negative. -/
def State.degradedNow (s : State) : Bool :=
  s.media.degraded || s.media.parityLost || (s.profile && decide (s.spareS < 0))

/-- The SMART critical warning bits that the manual gives. -/
def State.critical (s : State) : Nat :=
  bitIf (s.profile && s.availableSpare < s.cfg 0x6402 14) 0 ||| bitIf s.thermalWarn 1 |||
    bitIf s.degradedNow 2 ||| bitIf (s.mode.readonlyCauses != 0) 3

/-- The state of a DRAM channel as DRC_STATUS gives it: 0 running, 1 Reduced, 2 failed, 3 absent or still in training. -/
def State.dramState (s : State) (c : Nat) : Nat :=
  match (s.dram c).st with
  | 2 => 0
  | 3 => 1
  | 4 => 2
  | _ => 3

/-- The state code of an island (PWR_ISLENG). -/
def IslSt.code : IslSt → Nat
  | .running => 0
  | .clockGated => 1
  | .powerGated => 2
  | .off => 3

/-- The state code of a channel (7000h.01). -/
def ChSt.code : ChSt → Nat
  | .off => 0
  | .training => 1
  | .running => 2
  | .reduced => 3
  | .failed => 4

end Sys2Proof.Machine
end

