-- ==== Sys2Proof/Machine/Flags.lean ====
section
/-! DEFINITION. What the registers read: the device CSR space (R60, R73 to R84, R188, R279, R342, R365, R405, R418,
R441), the slice doorbell page (R70, R71), the NVMe controller registers and the controller memory buffer
(R67, R107 to R109), the read-clear bits of each register, and the voted fields (R78). -/

namespace Sys2Proof.Machine

/-! ### The controller memory buffer (R67, R109) -/

/-- The port's controller memory buffer, in bytes. -/
def State.cmbTotal (s : State) : Nat := if s.dual then 2 * 2 ^ 20 else 4 * 2 ^ 20
def State.cmbVfCount (s : State) (p : Nat) : Nat := s.cfg (0x2003 + p) 1
def State.cmbVfBytes (s : State) (p : Nat) : Nat := s.cfg (0x2003 + p) 2 * 1024
/-- A function's share, in bytes. -/
def State.cmbShare (s : State) (p f : Nat) : Nat :=
  if f = 0 then s.cmbTotal - s.cmbVfCount p * s.cmbVfBytes p
  else if f ≤ s.cmbVfCount p then s.cmbVfBytes p else 0
/-- Where a function's share starts in its port's buffer. -/
def State.cmbBase (s : State) (p f : Nat) : Nat :=
  if f = 0 then 0 else s.cmbShare p 0 + (f - 1) * s.cmbVfBytes p
/-- The offset of the window in BAR0/1 (R67). -/
def cmbWindow (f : Nat) : Nat := if f = 0 then 0x400000 else 0x80000
/-- The size of BAR0/1 and of BAR2/3 (R66). -/
def bar0Size (f : Nat) : Nat := if f = 0 then 0x800000 else 0x100000
def bar2Size (f : Nat) : Nat := if f = 0 then 0x1000000 else 0x10000

/-! ### Voted fields (R78) -/

/-- The voted fields: register offset, low bit and the value of their source. -/
def State.votedSource (s : State) (off lo : Nat) : Nat :=
  if off = 0 then (if lo = 0 then 9 else 0xC1)
  else if off = 4 then (if s.aon.portDual then 1 else 0)
  else if lo = 0 then s.lifecycle
  else if lo = 3 then boolNat s.scanOpen
  else boolNat s.debugOpen

/-- The low bits of the voted fields of a register. -/
def votedFields (off : Nat) : List Nat :=
  if off = 0 then [0, 8] else if off = 4 then [0] else if off = 0xA0000 then [0, 3, 4, 5, 6] else []

/-- Vote one field: two equal copies rewrite the third, three different ones reload from the source. -/
def State.voteField (s : State) (off lo : Nat) : State :=
  let k := off * 32 + lo
  match Tbl.get none s.regs.voted k with
  | none => s
  | some (a, b, c) =>
    let src := s.votedSource off lo
    let keep (v : Nat) : State :=
      { s with regs := { s.regs with
          voted := Tbl.set none s.regs.voted k (if v = src then none else some (v, v, v)) } }
    if a = b ∧ b = c then s
    else if a = b ∨ a = c then (keep a).rasBit 6
    else if b = c then (keep b).rasBit 6
    else (keep src).rasBit 7

/-- Vote every field of a register. -/
def State.vote (s : State) (off : Nat) : State := s.forEach (votedFields off) (fun lo s => s.voteField off lo)

/-- The value of a voted field after its vote. -/
def State.votedVal (s : State) (off lo : Nat) : Nat :=
  match Tbl.get none s.regs.voted (off * 32 + lo) with
  | some (a, _, _) => a
  | none => s.votedSource off lo

/-! ### The device CSR space -/

/-- HIF_LINKn (R82). A port below 8 GT/s reads SPEED 0 and UP 0 (R86). -/
def State.linkWord (s : State) (p : Nat) : Nat :=
  let x := s.port p
  let up := x.linkUp && 3 ≤ x.rate
  if p = 1 && !s.dual then 0
  else (if up then x.rate else 0) + (if x.linkUp then (if x.l0pWidth = 0 then x.width else x.l0pWidth) else 0) * 16
    + bitIf up 10 + bitIf (x.l0pWidth != 0) 11 + bitIf x.down 16 + bitIf x.retrain 17

/-- HIF_ACCLOG (R82). -/
def State.accLow (s : State) : Nat :=
  s.regs.accOffset + s.regs.accKind * 2 ^ 24 + s.regs.accBar * 2 ^ 28 + s.regs.accPort * 2 ^ 31
def State.accHigh (s : State) : Nat :=
  s.regs.accCount + bitIf s.regs.accValid 16 + s.regs.accFunc * 2 ^ 17

/-- PWR_MODE (R83); Dormant and Unpowered have no reader, and the field holds its reset value.
(DEDUCED, log entry 15) -/
def State.pwrMode (s : State) : Nat :=
  (if s.awake then s.mode.base.code else 1) + bitIf s.guard 4 + bitIf (s.mode.sustain != 0) 5 + s.deepest * 64

/-- PWR_ISLENG and PWR_ISLCH: two bits per island from island `lo`. -/
def State.islands32 (s : State) (lo : Nat) : Nat :=
  ((List.range 16).map (fun i => (s.island (lo + i)).st.code * 4 ^ i)).sum

/-- SCH_STATUS (R188). -/
def State.schStatus (s : State) : Nat := s.sched.upkeepPct % 256 + s.regs.schStatus.toNat

/-- MED_STATUS (R279). -/
def State.medStatus (s : State) : Nat :=
  s.availableSpare % 256 + bitIf (s.mode.readonlyCauses.testBit 0) 8 + bitIf (s.media.rebuildState == 1) 9
    + bitIf (s.demand == 100) 10 + bitIf s.degradedNow 11

/-- CMP_WORK: lane n, or the spare serving in its place, is working (R342). -/
def State.laneWorks (s : State) (n : Nat) : Bool :=
  if !s.cmp.failedLanes.contains n then true
  else (decide (s.cmp.spareA = some n) && !s.cmp.failedLanes.contains 32)
    || (decide (s.cmp.spareB = some n) && !s.cmp.failedLanes.contains 33)
def State.cmpWork (s : State) : Nat := ((List.range 32).map (fun n => bitIf (s.laneWorks n) n)).sum
/-- CMP_SPARE (R342). -/
def State.cmpSpare (s : State) : Nat :=
  bitIf (s.cmp.spareA.isNone && !s.cmp.failedLanes.contains 32) 0
    + bitIf (s.cmp.spareB.isNone && !s.cmp.failedLanes.contains 33) 1
    + (s.cmp.spareA.getD 0) * 2 ^ 8 + bitIf s.cmp.spareA.isSome 13
    + (s.cmp.spareB.getD 0) * 2 ^ 16 + bitIf s.cmp.spareB.isSome 21

/-- DRC_STATUS (R365). -/
def State.drcStatus (s : State) : Nat :=
  ((List.range 4).map (fun c => s.dramState c * 4 ^ c + bitIf (s.dram c).panic (8 + c))).sum
    + bitIf (s.pairUp 0) 12 + bitIf (s.pairUp 1) 13 + bitIf s.regs.eccRemirror 14

/-- A temperature in 0.125 °C as 16 bits of two's complement. -/
def temp16 (q : Int) : Nat := (q % (2 ^ 16 : Int)).toNat

/-- LCS_STATE and LCS_STATUS (R441). -/
def State.lcsState (s : State) : Nat :=
  s.votedVal 0xA0000 0 + s.votedVal 0xA0000 3 * 8 + s.votedVal 0xA0000 4 * 16 + s.votedVal 0xA0000 5 * 32
    + s.votedVal 0xA0000 6 * 64 + (s.sec.fuses.length % 64) * 2 ^ 8
def State.lcsStatus (s : State) : Nat :=
  s.sec.slotInForce + s.sec.nextSlot * 4 + s.sec.actState * 16 + s.sec.actCluster * 64
    + s.freeSpares.length * 2 ^ 10 + bitIf s.mode.noImage 14 + bitIf s.sec.sanFailed 15

/-- MGT_STATUS (R418). -/
def State.mgtStatus (s : State) : Nat :=
  bitIf s.mgmt.i3c 0 + s.mgmt.dynAddr * 2 + bitIf (Tbl.get 0 s.mgmt.eids 0 != 0) 8 + bitIf s.mgmt.t1sUp 9
    + bitIf s.mgmt.plcaActive 10 + (s.mgmt.sessions.filter (fun x => x.opened)).length * 2 ^ 11

/-- The 32 bits at an aligned offset of BAR4/5, or `none` where no table defines a register (R74). The
mailbox buffer is read byte by byte in `csrByte`. -/
def State.csrWord (s : State) (off : Nat) : Option Nat :=
  if 0x90010 ≤ off ∧ off < 0x90058 then
    let k := (off - 0x90010) / 4
    some (temp16 (s.sensor k).readingQ + bitIf (s.sensor k).broken 16)
  else if 0x90060 ≤ off ∧ off < 0x90080 then some (temp16 (s.tzone ((off - 0x90060) / 4)).tempQ)
  else if 0xC1000 ≤ off ∧ off < 0xC3000 then
    some (((List.range 4).map (fun i => (Mem.read s.regs.dmbBuf (off - 0xC1000 + i)).toNat * 256 ^ i)).sum)
  else match off with
    | 0x00000 => some (s.votedVal 0 0 + s.votedVal 0 8 * 256)
    | 0x00004 => some (s.votedVal 4 0)
    | 0x00008 => some (s.linkWord 0)
    | 0x0000C => some (s.linkWord 1)
    | 0x00010 => some s.accLow
    | 0x00014 => some s.accHigh
    | 0x20000 => some s.sched.epoch
    | 0x20004 => some s.schStatus
    | 0x20008 => some (min s.sched.p9999 0xFFFF)
    | 0x40000 => some s.medStatus
    | 0x40004 => some s.regs.medEvent.toNat
    | 0x50000 => some s.cmpWork
    | 0x50004 => some s.cmpSpare
    | 0x50008 => some s.regs.cmpEvent.toNat
    | 0x60000 => some s.drcStatus
    | 0x60004 => some s.regs.drcEvent.toNat
    | 0x60008 => some (s.regs.eccLog % 2 ^ 32)
    | 0x6000C => some (s.regs.eccLog / 2 ^ 32 % 2 ^ 10 + bitIf s.regs.eccValid 10 + s.regs.eccCount * 2 ^ 16)
    | 0x70000 => some s.regs.rasSummary.toNat
    | 0x70004 => some s.rasPending
    | 0x70008 => some (s.ras.lastSeq % 2 ^ 32)
    | 0x7000C => some (s.ras.lastSeq / 2 ^ 32 % 2 ^ 32)
    | 0x70010 => some s.regs.rasInten.toNat
    | 0x80000 => some s.pwrMode
    | 0x80004 => some s.regs.pwrEvent.toNat
    | 0x80008 => some (s.islands32 0)
    | 0x80010 => some (s.islands32 16)
    | 0x80014 => some (s.islands32 32)
    | 0x80018 => some s.regs.wakeHold.toNat
    | 0x90000 => some (((List.range 8).map (fun z => (s.tzone z).step * 8 ^ z)).sum)
    | 0x90004 => some (((List.range 18).map (fun k => bitIf (s.sensor k).broken k)).sum)
    | 0x90008 => some s.regs.thmEvent.toNat
    | 0xA0000 => some s.lcsState
    | 0xA0004 => some s.lcsStatus
    | 0xA0008 => some s.regs.lcsEvent.toNat
    | 0xB0000 => some s.mgtStatus
    | 0xB0004 => some s.regs.mgtEvent.toNat
    | 0xC0000 => some (boolNat s.regs.dmbGo)
    | 0xC0004 => some (s.regs.dmbResult + bitIf s.regs.dmbBusy 8 + bitIf s.regs.dmbPending 9 + bitIf s.regs.dmbDone 10)
    | 0xC0008 => some s.regs.dmbLen
    | _ => none

/-- The read-clear bits of a word of BAR4/5 (R79). -/
def csrRc (off : Nat) : Nat :=
  match off with
  | 0x00008 => 0x30000
  | 0x0000C => 0x30000
  | 0x00014 => 0x1FFFF
  | 0x20004 => 0x1F00
  | 0x40004 => 0x7F
  | 0x50008 => 0x1F
  | 0x60004 => 0x7F
  | 0x6000C => 0xFFFF0400
  | 0x70000 => 0x3FFF
  | 0x80004 => 0xF
  | 0x90008 => 0x7F
  | 0xA0008 => 0xFF
  | 0xB0004 => 0x1F
  | 0xC0004 => 0x400
  | _ => 0

/-- Clear bits of a 32-bit event register. -/
def clr32 (r : BitVec 32) (m : Nat) : BitVec 32 := r &&& ~~~(BitVec.ofNat 32 m)

/-- R79: clear exactly the read-clear bits that a read returned; `m` is a mask of bits of the word. A
counter field clears the bits returned, as a register of bits does. -/
def State.csrClear (s : State) (off m : Nat) : State :=
  let r := s.regs
  match off with
  | 0x00008 => s.setPort 0 { s.port 0 with down := (s.port 0).down && !m.testBit 16
                                           retrain := (s.port 0).retrain && !m.testBit 17 }
  | 0x0000C => s.setPort 1 { s.port 1 with down := (s.port 1).down && !m.testBit 16
                                           retrain := (s.port 1).retrain && !m.testBit 17 }
  | 0x00014 => { s with regs := { r with accCount := (BitVec.ofNat 16 r.accCount &&& ~~~(BitVec.ofNat 16 m)).toNat
                                         accValid := r.accValid && !m.testBit 16 } }
  | 0x20004 => { s with regs := { r with schStatus := clr32 r.schStatus m } }
  | 0x40004 => { s with regs := { r with medEvent := clr32 r.medEvent m } }
  | 0x50008 => { s with regs := { r with cmpEvent := clr32 r.cmpEvent m } }
  | 0x60004 => { s with regs := { r with drcEvent := clr32 r.drcEvent m } }
  | 0x6000C => { s with regs := { r with
      eccCount := (BitVec.ofNat 16 r.eccCount &&& ~~~(BitVec.ofNat 16 (m / 2 ^ 16))).toNat
      eccValid := r.eccValid && !m.testBit 10 } }
  | 0x70000 => { s with regs := { r with rasSummary := clr32 r.rasSummary m } }
  | 0x80004 => { s with regs := { r with pwrEvent := clr32 r.pwrEvent m } }
  | 0x90008 => { s with regs := { r with thmEvent := clr32 r.thmEvent m } }
  | 0xA0008 => { s with regs := { r with lcsEvent := clr32 r.lcsEvent m } }
  | 0xB0004 => { s with regs := { r with mgtEvent := clr32 r.mgtEvent m } }
  | 0xC0004 => { s with regs := { r with dmbDone := r.dmbDone && !m.testBit 10 } }
  | _ => s

/-- Read bytes `lo` to `lo + n − 1` of the CSR word at an aligned offset (R81): the bytes' value in place,
and the state after the vote and the clears. -/
def State.csrRead (s : State) (off lo n : Nat) : Nat × State :=
  let s1 := s.vote off
  let mask := (256 ^ n - 1) * 256 ^ lo
  match s1.csrWord off with
  | none => (0, s1)
  | some v => ((v &&& mask) / 256 ^ lo, s1.csrClear off (csrRc off &&& mask))

/-! ### The slice doorbell page (R68, R70, R71) -/

/-- The slice whose page lies at a page number of a function's BAR2/3, when that page is live. -/
def State.pageSlice (s : State) (p f page : Nat) : Option Nat :=
  if f = 0 then
    (s.slicesOn p 0).find? (fun n => n == page)
  else (s.slicesOn p f).find? (fun n => s.cfg (0x3000 + n) 8 == page)

/-- SLM_PSTATUS. -/
def State.pStatus (s : State) (n : Nat) : Nat :=
  bitIf (s.ready n) 0 + bitIf (decide ((s.slice n).st = .resetting)) 1 + bitIf (s.slice n).stale 2
    + bitIf (s.slice n).qerr 3 + bitIf (decide (s.mode.base = .readOnly)) 4

/-- The word at an aligned offset of a slice page. A read of a doorbell returns the last accepted value
and the current generation (R72). -/
def State.pageWord (s : State) (n off : Nat) : Nat :=
  if off = 0 then s.pStatus n
  else if off = 4 then (s.slice n).gen
  else if off = 8 then s.cfg (0x3000 + n) 12
  else if off = 12 then (s.slice n).drops
  else if 0x800 ≤ off then
    let q := QKey.page n ((off - 0x800) / 8)
    (if off % 8 = 0 then (s.sq q).lastDb else (s.cq q).lastDb) + (s.slice n).gen * 2 ^ 16
  else 0

/-- Read bytes of a slice page word, clearing STALE, QERR and DROPS as they are returned. -/
def State.pageRead (s : State) (n off lo cnt : Nat) : Nat × State :=
  let mask := (256 ^ cnt - 1) * 256 ^ lo
  let x := s.slice n
  let v := (s.pageWord n off &&& mask) / 256 ^ lo
  if off = 0 then
    (v, s.setSlice n { x with stale := x.stale && !mask.testBit 2, qerr := x.qerr && !mask.testBit 3 })
  else if off = 12 then
    (v, s.setSlice n { x with drops := (BitVec.ofNat 16 x.drops &&& ~~~(BitVec.ofNat 16 mask)).toNat })
  else (v, s)

/-! ### NVMe controller registers (R67, R100, R107, R108, R111) -/

/-- CSTS of a function's controller. -/
def State.csts (s : State) (p f : Nat) : Nat :=
  let x := s.func p f
  bitIf x.rdy 0 + bitIf x.cfs 1 + x.shst * 4

/-- CAP: MQES FFFFh, CQR 1, AMS 0, DSTRD 0, NSSRS 1, MPSMIN 0, CMBS 1, CRMS 11b; TO and MPSMAX are free values. -/
def capValue : Nat :=
  0xFFFF + 2 ^ 16 + (Config.nvmeField 0 24 % 256) * 2 ^ 24 + 2 ^ 36 + 2 ^ 37
    + (Config.nvmeField 0 52 % 16) * 2 ^ 52 + 2 ^ 57 + 3 * 2 ^ 59

/-- CRTO (R100): CRIMT 4; CRWMT is the full-scan bound of R297, in 500 ms units. -/
def State.crto (s : State) : Nat :=
  let n := if s.channelsUp.isEmpty then Config.channels else s.channelsUp.length
  (60 + ceilDiv (11 * 1024 * s.rawGranules * (Config.channels - s.parityMembers)) (10 * Config.channels * n * 1800000000))
    % 2 ^ 16 + 4 * 2 ^ 16

/-- The word at an aligned offset of the NVMe registers; offsets that the manual gives no content read the
free value of the NVMe specification's register. -/
def State.nvmeWord (s : State) (p f off : Nat) : Nat :=
  let x := s.func p f
  match off with
  | 0x00 => capValue % 2 ^ 32
  | 0x04 => capValue / 2 ^ 32
  | 0x0C => x.intMask
  | 0x10 => x.intMask
  | 0x14 => x.cc
  | 0x1C => s.csts p f
  | 0x20 => 0
  | 0x24 => x.aqa
  | 0x28 => x.asq % 2 ^ 32
  | 0x2C => x.asq / 2 ^ 32
  | 0x30 => x.acq % 2 ^ 32
  | 0x34 => x.acq / 2 ^ 32
  | 0x38 => cmbWindow f / 4096 * 2 ^ 12
  | 0x3C => 1 + s.cmbShare p f / 4096 * 2 ^ 12
  | 0x68 => s.crto
  | _ => Config.nvmeField 1 off

/-- The word at an aligned offset of BAR0/1 below the window; what a standard doorbell reads is the NVMe
specification's and is a free value. -/
def State.bar0Word (s : State) (p f off : Nat) : Nat :=
  if off < 0x1000 then s.nvmeWord p f off
  else if off < (if f = 0 then 0x40000 else 0x4000) then Config.nvmeField 2 off
  else 0

end Sys2Proof.Machine
end

