-- ==== Sys2Proof/Machine/Coder.lean ====
section
/-! DEFINITION. Byte order, CRC-32C, the slot decoder (R324 to R326), the Ocxon coder and decoder (R328, R329) and
the transform record (R336). -/

namespace Sys2Proof.Machine

/-! ### Bytes (R35, R77) -/

/-- A number as `k` bytes, lowest first. -/
def leBytes (k n : Nat) : List Byte := (List.range k).map (fun i => BitVec.ofNat 8 (n / 256 ^ i))

/-- The number whose bytes, lowest first, are given. -/
def fromLe : List Byte → Nat
  | [] => 0
  | b :: t => b.toNat + 256 * fromLe t

/-- A text as bytes. -/
def textBytes (l : List Nat) : List Byte := l.map (fun n => BitVec.ofNat 8 n)

/-- One bit of CRC-32C, reflected. -/
def crcBit (c : Nat) : Nat := if c % 2 = 1 then (c / 2) ^^^ 0x82F63B78 else c / 2

/-- CRC-32C over one byte. -/
def crcByte (c : Nat) (b : Byte) : Nat := (List.range 8).foldl (fun c _ => crcBit c) (c ^^^ b.toNat)

/-- CRC-32C of a byte string (R25, R37, R58). -/
def crc32c (l : List Byte) : Nat := (l.foldl crcByte 0xFFFFFFFF) ^^^ 0xFFFFFFFF

/-- A byte string followed by its CRC-32C. -/
def withCrc (l : List Byte) : List Byte := l ++ leBytes 4 (crc32c l)

/-- A byte string whose last four bytes are the CRC-32C of the rest, without them. -/
def checkCrc (l : List Byte) : Option (List Byte) :=
  let body := l.take (l.length - 4)
  if 4 ≤ l.length ∧ fromLe (l.drop (l.length - 4)) = crc32c body then some body else none

/-! ### Slot decoding (R324, R325): the output is kept newest first -/

/-- Copy `n` bytes from `d` bytes back, byte by byte. -/
def copyBack (d : Nat) : Nat → List Byte → List Byte
  | 0, out => out
  | n + 1, out => copyBack d n (out.getD (d - 1) 0#8 :: out)

/-- Decode a token stream; `fuel` bounds the tokens. -/
def slotTokens : Nat → List Byte → List Byte → Option (List Byte)
  | _, [], out => some out
  | 0, _, _ => none
  | fuel + 1, b :: rest, out =>
    let t := b.toNat
    if t < 64 then
      let n := t + 1
      if rest.length < n then none else slotTokens fuel (rest.drop n) ((rest.take n).reverse ++ out)
    else if t < 128 then
      match rest with
      | [] => none
      | x :: rest' =>
        let d := (t % 8) * 256 + x.toNat + 1
        if out.length < d then none else slotTokens fuel rest' (copyBack d ((t / 8) % 8 + 3) out)
    else if t < 192 then
      match rest with
      | x :: y :: rest' =>
        let d := x.toNat + (y.toNat % 16) * 256 + 1
        if 16 ≤ y.toNat ∨ out.length < d then none else slotTokens fuel rest' (copyBack d (t % 64 + 3) out)
      | _ => none
    else
      match rest with
      | x :: v :: rest' =>
        slotTokens fuel rest' (List.replicate ((t % 64) * 256 + x.toNat + 1) v ++ out)
      | _ => none

/-- Decode a slot-coded block: its header, its tokens and its padding (R325); 4,096 bytes or invalid. -/
def slotDecode (img : List Byte) : Option (List Byte) :=
  match img with
  | a :: b :: rest =>
    let h := a.toNat + 256 * b.toNat
    let t := h % 4096
    if h / 4096 = 1 ∧ t + 2 ≤ 3072 ∧ t ≤ rest.length ∧ (rest.drop t).all (fun x => x == 0#8) then
      match slotTokens (t + 1) (rest.take t) [] with
      | some out => if out.length = 4096 then some out.reverse else none
      | none => none
    else none
  | _ => none

/-- R326: the slot code of a coded length: 0, 1, 2 for 1, 2, 3 KiB, and 3 for raw. -/
def slotOf (c : Nat) : Nat := if c ≤ 1024 then 0 else if c ≤ 2048 then 1 else if c ≤ 3072 then 2 else 3

/-- The granules of a slot. -/
def slotGranules (slot : Nat) : Nat := slot % 4 + 1

/-! ### Ocxon mode (R328, R329) -/

/-- The bits of a byte string, bit 0 of the first byte first. -/
def bitsOfBytes : List Byte → List Bool
  | [] => []
  | b :: t => ((List.range 8).map (fun i => b.getLsbD i)) ++ bitsOfBytes t

/-- The number whose bits, lowest first, are given. -/
def natOfBits : List Bool → Nat
  | [] => 0
  | b :: t => boolNat b + 2 * natOfBits t

/-- The lowest `n` bits of a number, lowest first. -/
def bitsOfNat (n v : Nat) : List Bool := (List.range n).map (fun i => v.testBit i)

/-- Pack bits into bytes, the last one padded with zeros; `fuel` is the number of bytes at most. -/
def packBits : Nat → List Bool → List Byte
  | 0, _ => []
  | _, [] => []
  | n + 1, l => BitVec.ofNat 8 (natOfBits (l.take 8)) :: packBits n (l.drop 8)

/-- The significant bits of floor(S ÷ 16), capped at w − 1. -/
def riceK (w sum : Nat) : Nat := min (w - 1) (if sum / 16 = 0 then 0 else Nat.log2 (sum / 16) + 1)

/-- The prediction of a sample from the samples before it, newest first. -/
def ocxPred (w pred row : Nat) (back : List Nat) : Nat :=
  let x1 := back.getD 0 0
  let x2 := back.getD 1 0
  match pred with
  | 0 => 0
  | 1 => x1
  | 2 => (2 * x1 + 2 ^ w - x2) % 2 ^ w
  | _ => (x1 + back.getD (row - 1) 0) / 2

/-- The residue r as u (steps 1 and 2 of R328). -/
def ocxMap (w x p : Nat) : Nat :=
  let d := (x + 2 ^ w - p) % 2 ^ w
  if d < 2 ^ (w - 1) then 2 * d else 2 * (2 ^ w - d) - 1

/-- The sample from u and the prediction. -/
def ocxUnmap (w u p : Nat) : Nat :=
  if u % 2 = 0 then (p + u / 2) % 2 ^ w else (p + 2 ^ w - (u + 1) / 2) % 2 ^ w

/-- The code of one u (step 3 of R328). -/
def ocxEmit (w k u : Nat) : List Bool :=
  let q := u >>> k
  if q < 24 then List.replicate q true ++ [false] ++ bitsOfNat k u
  else List.replicate 24 true ++ bitsOfNat w u

/-- The one bits that lead a code, at most 24. -/
def leadOnes : Nat → List Bool → Nat
  | 0, _ => 0
  | n + 1, true :: t => leadOnes n t + 1
  | _, _ => 0

/-- Read one u: the value and the bits after it. -/
def ocxTake (w k : Nat) (l : List Bool) : Option (Nat × List Bool) :=
  let q := leadOnes 24 l
  if q < 24 then
    if l.length < q + 1 + k then none
    else some (q * 2 ^ k + natOfBits ((l.drop (q + 1)).take k), l.drop (q + 1 + k))
  else if l.length < 24 + w then none
  else some (natOfBits ((l.drop 24).take w), l.drop (24 + w))

/-- Decode `n` samples; `i` counts samples, `sum` is S of the current 16. -/
def ocxSamples (w pred row : Nat) : Nat → Nat → Nat → Nat → List Bool → List Nat → Option (List Nat × List Bool)
  | 0, _, _, _, l, back => some (back, l)
  | n + 1, i, k, sum, l, back =>
    match ocxTake w k l with
    | none => none
    | some (u, l') =>
      let x := ocxUnmap w u (ocxPred w pred row back)
      let s := sum + u
      if i % 16 = 15 then ocxSamples w pred row n (i + 1) (riceK w s) 0 l' (x :: back)
      else ocxSamples w pred row n (i + 1) k s l' (x :: back)

/-- The sample width of a WIDTH code. -/
def ocxWidth (c : Nat) : Nat := 8 * 2 ^ c

/-- Decode an Ocxon block: the header, exactly 4,096 × 8 ÷ w samples within L bytes, zero padding. -/
def ocxonDecode (img : List Byte) : Option (List Byte) :=
  match img with
  | h0 :: k0 :: w0 :: w1 :: l0 :: l1 :: rest =>
    let width := h0.toNat % 4
    let pred := h0.toNat / 4 % 8
    let w := ocxWidth width
    let row := w0.toNat + 256 * w1.toNat
    let len := l0.toNat + 256 * l1.toNat
    let n := 4096 * 8 / w
    if width < 3 ∧ pred < 4 ∧ h0.toNat / 32 = 0 ∧ k0.toNat < w ∧ len ≤ 3066 ∧ len ≤ rest.length
        ∧ (if pred = 3 then 1 ≤ row ∧ row ≤ n else row = 0) ∧ (rest.drop len).all (fun x => x == 0#8) then
      match ocxSamples w pred row n 0 k0.toNat 0 (bitsOfBytes (rest.take len)) [] with
      | some (back, left) =>
        if left.all (fun b => !b) ∧ left.length < 8 then
          some ((back.reverse.map (fun x => leBytes (w / 8) x)).flatten)
        else none
      | none => none
    else none
  | _ => none

/-- The samples of a block; `fuel` is their number. -/
def samplesOf (w : Nat) : Nat → List Byte → List Nat
  | 0, _ => []
  | n + 1, l => fromLe (l.take (w / 8)) :: samplesOf w n (l.drop (w / 8))

/-- Encode samples with k adapted after every 16. -/
def ocxStream (w pred row : Nat) : List Nat → Nat → Nat → Nat → List Nat → List Bool
  | [], _, _, _, _ => []
  | x :: t, i, k, sum, back =>
    let u := ocxMap w x (ocxPred w pred row back)
    let s := sum + u
    ocxEmit w k u ++
      (if i % 16 = 15 then ocxStream w pred row t (i + 1) (riceK w s) 0 (x :: back)
       else ocxStream w pred row t (i + 1) k s (x :: back))

/-- S of the first samples, from which K0 follows. -/
def ocxFirst (w pred row : Nat) : List Nat → List Nat → Nat
  | [], _ => 0
  | x :: t, back => ocxMap w x (ocxPred w pred row back) + ocxFirst w pred row t (x :: back)

/-- Encode a block with one predictor: the header and the stream, without slot padding. (DEDUCED, log entry 54) -/
def ocxonEncodeWith (width pred row : Nat) (data : List Byte) : List Byte :=
  let w := ocxWidth width
  let xs := samplesOf w (4096 * 8 / w) data
  let k0 := riceK w (ocxFirst w pred row (xs.take 16) [])
  let st := packBits 16384 (ocxStream w pred row xs 0 k0 0 [])
  [BitVec.ofNat 8 (width + 4 * pred), BitVec.ofNat 8 k0] ++ leBytes 2 (if pred = 3 then row else 0)
    ++ leBytes 2 st.length ++ st

/-- R329: no fixed predictor is auto, which keeps the shortest result and the lowest PRED on a tie. -/
def ocxonEncode (width : Nat) (pred : Option Nat) (row : Nat) (data : List Byte) : List Byte :=
  match pred with
  | some p => ocxonEncodeWith width p row data
  | none =>
    let a := ocxonEncodeWith width 1 0 data
    let b := ocxonEncodeWith width 2 0 data
    let ab := if a.length ≤ b.length then a else b
    if row = 0 then ab
    else
      let c := ocxonEncodeWith width 3 row data
      if ab.length ≤ c.length then ab else c

/-! ### Transform records (R336) -/

/-- A record of a transform job. -/
def xformRecord (kind : Nat) (image : List Byte) : List Byte :=
  leBytes 2 image.length ++ [BitVec.ofNat 8 kind, 0#8] ++ image

/-- The first record of a byte string: its kind, its image and what follows it. -/
def takeRecord (l : List Byte) : Option (Nat × List Byte × List Byte) :=
  match l with
  | a :: b :: k :: r :: rest =>
    let n := a.toNat + 256 * b.toNat
    if n = 0 ∨ 4096 < n ∨ 3 ≤ k.toNat ∨ r ≠ 0#8 ∨ rest.length < n ∨ (k = 0#8 ∧ n ≠ 4096) then none
    else some (k.toNat, rest.take n, rest.drop n)
  | _ => none

/-- The 4,096 bytes of a record, or invalid. -/
def recordBlock (kind : Nat) (image : List Byte) : Option (List Byte) :=
  match kind with
  | 0 => some image
  | 1 => slotDecode image
  | _ => ocxonDecode image

end Sys2Proof.Machine
end

