-- ==== Sys2Proof/Machine/Operands.lean ====
section
/-! DEFINITION. The operand forms of submission entries: fields of each command, which opcodes a queue supports
(R114, R115, R118), reserved fields (R112), ranges, zone actions, data pointers (R108, R115, R135). -/

namespace Sys2Proof

/-! ### Fields of I/O commands -/

/-- SLBA. -/
def Sqe.slba (e : Sqe) : Nat := e.cdw10 + e.cdw11 * 2 ^ 32
/-- The number of blocks of a command whose CDW12 holds a 0-based count. -/
def Sqe.nlb (e : Sqe) : Nat := e.cdw12 % 2 ^ 16 + 1
/-- DEAC of Write Zeroes. -/
def Sqe.deac (e : Sqe) : Bool := e.cdw12.testBit 25
/-- PRINFO: PRACT and PRCHK. -/
def Sqe.prinfo (e : Sqe) : Nat := e.cdw12 / 2 ^ 26 % 16
/-- DTYPE and DSPEC (R209). -/
def Sqe.dtype (e : Sqe) : Nat := e.cdw12 / 2 ^ 20 % 16
def Sqe.dspec (e : Sqe) : Nat := e.cdw13 / 2 ^ 16
/-- The action of Zone Management Send (R205). -/
def Sqe.zsa (e : Sqe) : Nat := e.cdw13 % 256
def Sqe.selectAll (e : Sqe) : Bool := e.cdw13.testBit 8
def Sqe.zrwaa (e : Sqe) : Bool := e.cdw13.testBit 9

/-! ### The commands by opcode -/

/-- The admin opcodes a queue supports (R114, R118): `mgr` for a physical function's admin queue. -/
def adminOpcode (mgr : Bool) (op : Nat) : Bool :=
  [0x00, 0x01, 0x02, 0x04, 0x05, 0x06, 0x08, 0x09, 0x0A, 0x0C, 0x19, 0x1A, 0xC2, 0xC6].contains op
    || (mgr && [0x0D, 0x10, 0x11, 0x15, 0x80, 0x84, 0xC0, 0xC1, 0xC3, 0xC4, 0xC5, 0xC8, 0xC9].contains op)

/-- The I/O opcodes (R115, R118). -/
def ioOpcode (op : Nat) : Bool :=
  [0x00, 0x01, 0x02, 0x04, 0x05, 0x08, 0x09, 0x0C, 0x19, 0x79, 0x7A, 0x7D, 0xC0].contains op

/-- The zone commands of R115. -/
def zoneOpcode (op : Nat) : Bool := [0x79, 0x7A, 0x7D].contains op

/-- The write-type commands that take a pool reservation (R195): Write, Write Uncorrectable, Write Zeroes with
DEAC 0, Copy and Zone Append. -/
def Sqe.reserves (e : Sqe) : Bool :=
  e.opcode == 0x01 || e.opcode == 0x04 || (e.opcode == 0x08 && !e.deac) || e.opcode == 0x19 || e.opcode == 0x7D

/-- The write-type commands of R124. -/
def Sqe.writeType (e : Sqe) : Bool :=
  e.opcode == 0x01 || e.opcode == 0x04 || e.opcode == 0x08 || (e.opcode == 0x09 && e.cdw11.testBit 2)
    || e.opcode == 0x19 || e.opcode == 0x7D

/-- The read-type commands of R124. -/
def Sqe.readType (e : Sqe) : Bool :=
  e.opcode == 0x02 || e.opcode == 0x05 || e.opcode == 0x0C || e.opcode == 0x19

/-- Commands that name a range of their own in SLBA and NLB. -/
def Sqe.ranged (e : Sqe) : Bool :=
  e.opcode == 0x01 || e.opcode == 0x02 || e.opcode == 0x04 || e.opcode == 0x05 || e.opcode == 0x08
    || e.opcode == 0x0C || e.opcode == 0x7D

/-- A command that moves data from or to the host, by its table's direction (R115, R118). -/
def Sqe.fromHost (e : Sqe) : Bool := e.opcode == 0x01 || e.opcode == 0x05 || e.opcode == 0x7D
def Sqe.toHost (e : Sqe) : Bool := e.opcode == 0x02

/-- R112: the bits of a vendor command's words that its own table does not name are zero. -/
def vendorReserved (admin : Bool) (e : Sqe) : Bool :=
  let rest := e.cdw13 == 0 && e.cdw14 == 0 && e.cdw15 == 0
  let z := e.cdw2 == 0 && e.cdw3 == 0 && rest
  let n12 := e.cdw12 == 0
  let n11 := e.cdw11 == 0
  if admin then
    match e.opcode with
    | 0xC0 => z && n12 && n11 && e.cdw10 / 2 ^ 12 % 2 ^ 19 == 0
    | 0xC1 => z && n12 && e.cdw11 / 2 == 0 && e.cdw10 / 2 ^ 12 == 0
    | 0xC2 => z && n12 && n11 && e.cdw10 / 2 ^ 12 == 0
    | 0xC3 => z && n12 && n11 && e.cdw10 / 2 ^ 12 == 0
    | 0xC4 => z && n12 && n11 && e.cdw10 / 2 ^ 12 == 0
    | 0xC5 => z && n12 && n11 && e.cdw10 / 2 ^ 12 == 0
    | 0xC6 => z && n12 && n11 && e.cdw10 / 2 ^ 17 == 0
    | 0xC8 => z && e.cdw12 / 2 ^ 16 == 0
    | 0xC9 => z && n12 && n11 && e.cdw10 == 0
    | _ => true
  else if e.opcode == 0xC0 then
    e.cdw2 / 2 ^ 25 == 0 && e.cdw3 / 2 ^ 21 == 0 && e.cdw3 / 2 ^ 5 % 8 == 0 && e.cdw10 / 8 == 0
      && e.cdw11 / 2 ^ 25 == 0
  else true

/-- R112: a reserved field of the entry is not zero, as the NVMe specifications (`rsvd`) or the vendor table say. -/
def Sqe.reservedBad (admin : Bool) (e : Sqe) : Bool := e.rsvd || !vendorReserved admin e

/-! ### Data pointers (R108, R115, R135) -/

/-- The host address of the `i`-th byte of a command's data where the entry itself gives it: contiguous
from PRP1 or the data block descriptor, then PRP2 for the second page; beyond that the scatter list. -/
def Sqe.addrAt (e : Sqe) (sg : List (Nat × Nat)) (i : Nat) : Nat :=
  if e.psdt = 0 then
    let first := 4096 - e.prp1 % 4096
    if i < first then e.prp1 + i
    else
      match sg.drop ((i - first) / 4096) with
      | (a, _) :: _ => a + (i - first) % 4096
      | [] => e.prp2 + (i - first)
  else if e.prp2 / 2 ^ 60 = 0 then e.prp1 + i
  else
    (sg.foldl (fun (acc : Option Nat × Nat) d =>
      match acc with
      | (some a, r) => (some a, r)
      | (none, r) => if r < d.2 then (some (d.1 + r), 0) else (none, r - d.2)) (none, i)).1.getD 0

/-- The list that a data pointer leads to, which has to be fetched before the data moves. -/
def Sqe.listOf (e : Sqe) (len : Nat) : Option (Nat × Nat) :=
  if len = 0 then none
  else if e.psdt = 0 then
    let first := 4096 - e.prp1 % 4096
    if first + 4096 < len then some (e.prp2, min (8 * ceilDiv (len - first) 4096) (4096 - e.prp2 % 4096)) else none
  else if e.prp2 / 2 ^ 60 = 2 ∨ e.prp2 / 2 ^ 60 = 3 then some (e.prp1, e.prp2 % 2 ^ 32) else none

/-- The entries of a fetched list: PRP entries of 8 bytes, or SGL descriptors of 16 bytes. -/
def listEntries (psdt : Nat) : Nat → List Byte → List (Nat × Nat)
  | 0, _ => []
  | n + 1, l =>
    if psdt = 0 then
      if l.length < 8 then [] else (Machine.fromLe (l.take 8), 4096) :: listEntries psdt n (l.drop 8)
    else if l.length < 16 then []
    else (Machine.fromLe (l.take 8), Machine.fromLe ((l.drop 8).take 4)) :: listEntries psdt n (l.drop 16)

end Sys2Proof

namespace Sys2Proof.Machine

/-- A host address lies in the function's controller memory buffer window (R108). -/
def State.isCmb (s : State) (p f addr : Nat) : Bool :=
  let b := (s.func p f).cmbBase
  b != 0 && decide (b ≤ addr) && decide (addr < b + (if f = 0 then 0x400000 else 0x80000))

/-- The status of a bad data pointer: PRP offsets are multiples of 4, a second PRP entry is page aligned,
keyed and Bit Bucket descriptors are refused, and no data pointer names the controller memory buffer. The
SGL descriptor's type is bits 127:124 of the pointer. -/
def State.dptrStatus (s : State) (p f len : Nat) (e : Sqe) : Option Status :=
  if len = 0 then none
  else if e.psdt = 0 then
    if e.prp1 % 4 ≠ 0 then some ⟨0, 0x13⟩
    else if s.isCmb p f e.prp1 then some ⟨0, 0x12⟩
    else
      let first := 4096 - e.prp1 % 4096
      if len ≤ first then none
      else if s.isCmb p f e.prp2 then some ⟨0, 0x12⟩
      else if len ≤ first + 4096 then (if e.prp2 % 4096 ≠ 0 then some ⟨0, 0x13⟩ else none)
      else if e.prp2 % 4 ≠ 0 then some ⟨0, 0x13⟩ else none
  else
    let ty := e.prp2 / 2 ^ 60
    let sub := e.prp2 / 2 ^ 56 % 16
    let n := e.prp2 % 2 ^ 32
    if ty = 0 then
      if sub ≠ 0 then some ⟨0, 0x11⟩
      else if s.isCmb p f e.prp1 then some ⟨0, 0x12⟩
      else if n < len then some ⟨0, 0x0F⟩ else none
    else if ty = 2 ∨ ty = 3 then
      if n = 0 ∨ n % 16 ≠ 0 then some ⟨0, 0x0D⟩
      else if s.isCmb p f e.prp1 then some ⟨0, 0x12⟩ else none
    else some ⟨0, 0x11⟩

/-! ### Classes and costs -/

/-- The class of a command's slice: 0 Crisp, 1 Standard, 2 Bulk; a manager context is Standard (R146). -/
def State.ctrlClass (s : State) (c : Nat) : Nat := if c < 4096 then s.slClass c else 1

end Sys2Proof.Machine
end

