-- ==== Sys2Proof/Machine/BufOps.lean ====
section
/-! DEFINITION. Gamboge's pools (R377 to R380) with the write-buffer bound of R283. -/

namespace Sys2Proof.Machine

/-- DRAM of one populated channel, in GiB (R343). -/
def State.dramPerChannel (s : State) : Nat :=
  s.cfg 0x7800 1 / 8 * (if s.cfg 0x7800 2 = 4 then 16 else 8) * s.cfg 0x7800 3
/-- Populated channels (R343). -/
def State.dramPopulated (s : State) : Nat := if s.cfg 0x7800 4 = 1 then 2 else 4
/-- Installed DRAM of R240: the channels in service at this Bring-Up. -/
def State.installedGiB (s : State) : Nat :=
  s.dramPerChannel *
    (s.dramPopulated - ((List.range s.dramPopulated).filter (fun c => (s.dram c).cause == 1)).length)
/-- MAP_CACHE_GIB as it acts: a value that the DRAM of this Bring-Up does not cover acts as 0 (R240). -/
def State.mapCacheGiB (s : State) : Nat :=
  let v := s.cfg 0x6000 1
  if v = 0 ∨ s.installedGiB < v + 12 then max 4 (s.installedGiB - 16) else v
/-- The mirrored allotment of one pair, in MiB (R347, R377). -/
def State.mirroredMiB (s : State) : Nat :=
  (s.installedGiB - s.mapCacheGiB) * 1024 / s.dramPopulated

/-- The buffers of a size in an arena (R377): sizes 0 to 5 are 256 B to 256 KiB. -/
def State.poolCount (s : State) (arena size : Nat) : Nat :=
  if arena < 4 then [4096, 1024, 1024, 128, 16, 3].getD size 0
  else if s.pairUp (arena - 4) then
    if size = 2 then (s.mirroredMiB - 544 - 840) * 256 else [65536, 16384, 0, 2048, 4096, 2080].getD size 0
  else 0

def bufKey (arena size : Nat) : Nat := arena * 6 + size
def State.bufUsed (s : State) (arena size : Nat) : Nat :=
  Tbl.get 0 s.chip.inUse (bufKey arena size) + Tbl.get 0 s.chip.withdrawn (bufKey arena size)
def State.bufFree (s : State) (arena size : Nat) : Nat := s.poolCount arena size - s.bufUsed arena size

/-- The free buffers that a class may take (R378). -/
def State.bufAvail (s : State) (arena size cls : Nat) : Nat :=
  let a := s.bufFree arena size
  let a := if cls = 3 then a else a - s.poolCount arena size * s.cfg 0x7900 1 / 100
  if size = 2 ∧ arena < 4 ∧ cls ≠ 0 then a - s.cfg 0x7900 2 else a

/-- The arenas of a memory, preferred first, then by fewer hops: the stream banks lie at neighbouring stops. -/
def arenaOrder (dram : Bool) (preferred : Nat) : List Nat :=
  if dram then (if preferred = 5 then [5, 4] else [4, 5])
  else preferred :: sortBy
    (fun a b => (if preferred ≤ a then a - preferred else preferred - a)
      ≤ (if preferred ≤ b then b - preferred else preferred - b))
    ((List.range 4).filter (fun a => a != preferred))

/-- The grant that R378 finds: the arena and the size. -/
def State.bufFind (s : State) (dram : Bool) (preferred size n cls : Nat) : Option (Nat × Nat) :=
  ((List.range (6 - size)).flatMap (fun d => (arenaOrder dram preferred).map (fun a => (a, size + d)))).find?
    (fun x => n ≤ s.bufAvail x.1 x.2 cls)

/-- Take `n` buffers of a size in an arena for a tag. -/
def State.bufTake (s : State) (t arena size n : Nat) (fallback : Bool) : State :=
  let x := s.tag t
  { s.setTag t { x with buffers := x.buffers ++ [(arena, size, n)] } with
    chip := { s.chip with
      inUse := Tbl.modify 0 s.chip.inUse (bufKey arena size) (fun v => v + n)
      grants := satAdd 64 s.chip.grants 1
      fallbacks := if fallback then satAdd 64 s.chip.fallbacks 1 else s.chip.fallbacks
      fallbacksBy := if fallback then Tbl.modify 0 s.chip.fallbacksBy (bufKey arena size) (fun v => satAdd 32 v 1)
                     else s.chip.fallbacksBy } }

/-- Bytes of acknowledged data not yet programmed, and of buffers granted to writes not yet committed (R283). -/
def State.wUsed (s : State) : Nat :=
  4096 * (s.wbuf.blks.filter (fun x => x.2.program.isNone && !x.2.programmed)).length

/-- Request buffers for a tag: granted under R378, or queued under R379. -/
def State.bufRequest (s : State) (t : Nat) (dram : Bool) (preferred size n cls : Nat) : State :=
  match s.bufFind dram preferred size n cls with
  | some (a, z) => s.bufTake t a z n (z != size)
  | none =>
    { s with chip := { s.chip with
        waitq := s.chip.waitq ++ [⟨t, dram, preferred, size, n, cls, s.aon.now⟩]
        waits := satAdd 64 s.chip.waits 1
        waitsBy := Tbl.modify 0 s.chip.waitsBy (bufKey preferred size) (fun v => satAdd 32 v 1) } }

/-- A waiting request's class for one pass: Crisp order after 50 µs (R379). -/
def State.waitClass (s : State) (r : BufReq) : Nat := if s.elapsed r.since (50 * usec) then 0 else r.cls

/-- R379: serve the waiting requests in class order, oldest first; a request that finds no grant blocks
every later one of its memory, except one that draws only on a reserve it may not use. -/
def State.bufServe (s : State) : State :=
  let order := sortBy (fun a b => s.waitClass a ≤ s.waitClass b) s.chip.waitq
  let go := order.foldl (fun (acc : State × List BufReq) r =>
    let s := acc.1
    let blocked := acc.2.any (fun b => b.dram == r.dram && b.cls ≤ r.cls
      && !(r.cls == 3 && b.cls != 3))
    match s.bufFind r.dram r.arena r.size r.count r.cls with
    | some (a, z) => if blocked then (s, acc.2 ++ [r]) else (s.bufTake r.tag a z r.count (z != r.size), acc.2)
    | none => (s, acc.2 ++ [r])) (s, [])
  { go.1 with chip := { go.1.chip with waitq := s.chip.waitq.filter (fun r => go.2.contains r) } }

/-- Return buffers to their pool, and serve the waiting requests; a return of free buffers is ignored,
reported and counted (R379, R380). -/
def State.bufReturn (s : State) (arena size n : Nat) : State :=
  if n ≤ Tbl.get 0 s.chip.inUse (bufKey arena size) then
    { s with chip := { s.chip with
        inUse := Tbl.modify 0 s.chip.inUse (bufKey arena size) (fun v => v - n) } }.bufServe
  else
    { s with chip := { s.chip with badReturns := satAdd 32 s.chip.badReturns 1 } }.rasRecord 0x06 arena 0 0 0
      [arena, size, n]

/-- Return every buffer that a tag holds, and withdraw its waiting requests. -/
def State.bufReturnAll (s : State) (t : Nat) : State :=
  let bs := (s.tag t).buffers
  let s1 := s.setTag t { s.tag t with buffers := [] }
  let s2 := { s1 with chip := { s1.chip with waitq := s1.chip.waitq.filter (fun r => r.tag != t) } }
  s2.forEach bs (fun b s => s.bufReturn b.1 b.2.1 b.2.2)

end Sys2Proof.Machine
end

