-- ==== Sys2Proof/Machine/TagOps.lean ====
section
/-! DEFINITION. The shared operations on queues, tags, the fence and the dirty-page log: committing a status
(R122, R123), ending a tag, posting completions (R94, R110, R116, R122, R152), overlap (R124), asynchronous
events (R113), the fence (R153, R155), dirty marks (R156), DMA requests (R93, R97) and the slice reset (R154). -/

namespace Sys2Proof.Machine

/-! ### Zones: settling a write (R200, R201) -/

/-- The zone of a command and its size. -/
def State.zsize (s : State) (n : Nat) : Nat := zoneSize (s.ns n).lbaf

/-- The reported write pointer: the lowest block not yet settled. -/
def Zone.lowest (z : Zone) : Nat := z.inFlight.foldl (fun m x => min m x.1) z.adm

/-- Settle a write of a zone at an offset, committed or voided. In a ZRWA, blocks that no write reached are voided as the
pointer passes them (R206). -/
def Zone.settle (z : Zone) (off n : Nat) (void : Bool) : Zone :=
  let z1 := { z with inFlight := z.inFlight.erase (off, n)
                     voids := if void && !z.zrwa then z.voids ++ [(off, n)] else z.voids }
  if z.zrwa then z1 else { z1 with wp := z1.lowest }

/-- R201: a write or append that passed the zone table settles, unless the zone was reset since.
(DESIGN CHOICE, log entry 62) -/
def State.zoneSettle (s : State) (t : Nat) (void : Bool) : State :=
  let x := s.tag t
  if x.passedZone then
    let n := x.sqe.nsid
    let zs := s.zsize n
    let z := s.zone n (x.slba / zs)
    if z.epochNo = x.zoneEpoch then s.setZone n (x.slba / zs) (z.settle (x.slba % zs) x.nlb void) else s
  else s

/-! ### Ending a tag (R122, R128, R155, R196) -/

/-- Return a tag's pool reservation (R196). -/
def State.poolRelease (s : State) (t : Nat) : State :=
  { s.setTag t { s.tag t with need := 0 } with
    pool := { s.pool with inflight := s.pool.inflight - (s.tag t).need } }

/-- Drop the write-buffer copies that a tag staged and did not commit. -/
def State.dropStaged (s : State) (t : Nat) : State :=
  let hs := (s.tag t).blks.filterMap (fun b => if b.2.handle = 0 then none else some b.2.handle)
  { s with wbuf := { s.wbuf with
      blks := s.wbuf.blks.filter (fun x => x.2.committed || !hs.contains x.1) } }

/-- A block of a command has not been read yet. -/
def BlkRt.unread (b : BlkRt) : Bool := !b.ready && !b.failed && b.coded.isEmpty

/-- R125, R260: a tag that ends releases the write-buffer copies and the superblocks that it still reads. -/
def State.dropReaders (s : State) (t : Nat) : State :=
  s.forEach ((s.tag t).blks.map (fun x => x.2)) (fun b s => match b.src with
    | .buffer h => s.setWblk h { s.wblk h with readers := (s.wblk h).readers - 1 }
    | .flash l => if !b.ready && !b.failed then s.setSb (s.locSb l) { s.sb (s.locSb l) with readers := (s.sb (s.locSb l)).readers - 1 } else s
    | _ => s)

/-- R122: commit a status. The first one committed is final; a status other than Success leaves the map
unchanged, voids the blocks of a zone write and returns the reservation. -/
def State.commitTag (s : State) (t : Nat) (st : Status) (dw0 : Nat := 0) (dw1 : Nat := 0) : State :=
  let x := s.tag t
  match x.st with
  | .build | .wait | .run =>
    let bad := !(st.sct == 0 && st.sc == 0)
    let s1 := if bad then ((s.zoneSettle t true).poolRelease t).dropStaged t else s
    s1.setTag t { s1.tag t with st := .post, status := st, dw0 := dw0, dw1 := dw1, committed := true }
  | _ => s

/-- An error status of an I/O command whose failure is logged (R135). -/
def State.failTag (s : State) (t : Nat) (sct sc : Nat) : State := s.commitTag t ⟨sct, sc⟩

/-- The success of a command. -/
def State.succeed (s : State) (t : Nat) (dw0 : Nat := 0) (dw1 : Nat := 0) : State :=
  s.commitTag t ⟨0, 0⟩ dw0 dw1

/-- A submission queue is gone: its entries, its window and its doorbell. -/
def State.dropSq (s : State) (q : QKey) : State := s.setSq q {}
/-- A completion queue is gone. -/
def State.dropCq (s : State) (q : QKey) : State := s.setCq q {}

/-- The tags that hold a command of a queue. -/
def State.tagsOfQueue (s : State) (q : QKey) : List Nat :=
  s.tags.filterMap (fun x => if x.2.st = .free then none else if x.2.q = q then some x.1 else none)

/-- The tags of a controller's slice. -/
def State.tagsOfSlice (s : State) (n : Nat) : List Nat :=
  s.tags.filterMap (fun x => if x.2.st = .free then none else if x.2.slice = n then some x.1 else none)

/-- What a request is for, by tag. -/
def DmaUse.tag? : DmaUse → Option Nat
  | .blockData t _ _ => some t
  | .list t => some t
  | .infoData t _ => some t
  | .infoList t => some t
  | .hostOut t _ _ => some t
  | _ => none

/-- The outstanding requests that a test selects have lost their command. -/
def State.dmaStale (s : State) (p : DmaUse → Bool) (slice : Option Nat) : State :=
  { s with dmas := s.dmas.map (fun (x : Nat × Dma) => (x.1, match x.2.use with
      | some u => if p u then { x.2 with use := some (.stale slice) } else x.2
      | none => x.2)) }

/-- R129: a queue that is being deleted goes when its last completion entry is written, and its delete command succeeds. -/
def State.deleteWatch (s : State) (q : QKey) : State :=
  match (s.sq q).deleting with
  | none => s
  | some d =>
    if (s.tagsOfQueue q).isEmpty && !(s.cq (q.withQid (s.sq q).cqid)).held.any (fun h => h.1 == q) then
      (s.dropSq q).commitTag d ⟨0, 0⟩
    else s

/-- Free a tag: return its buffers and forget its DMA requests and outstanding list. -/
def State.freeTag (s : State) (t : Nat) : State :=
  let q := (s.tag t).q
  let c := s.owner q
  let s0 := s.dmaStale (fun u => u.tag? == some t) (if (s.tag t).st = .drain then some (s.tag t).slice else none)
  let s1 := ((s0.dropReaders t).bufReturnAll t).setCtrl c
    { s.ctrl c with aers := (s.ctrl c).aers.filter (fun a => a != t) }
  let s2 := s1.setTag t {}
  s2.deleteWatch q

/-! ### DMA requests (R93, R95, R96, R97, R98) -/

/-- Outstanding requests of a function, and of a port. -/
def State.dmaOfFn (s : State) (p f : Nat) : Nat :=
  (s.dmas.filter (fun d => d.2.port == p && d.2.fn == f && d.2.use.isSome)).length
def State.dmaOfPort (s : State) (p : Nat) : Nat :=
  (s.dmas.filter (fun d => d.2.port == p && d.2.use.isSome)).length

/-- A request may go out: no hold of R97, and the limits of R93. -/
def State.dmaMay (s : State) (d : Dma) : Bool :=
  !s.held d.port d.fn
    && decide (s.dmaOfFn d.port d.fn < (if (s.func d.port d.fn).tag10 then 768 else 256))
    && decide (s.dmaOfPort d.port < 2048)

/-- Send the waiting requests that may go, in order. -/
def State.dmaPump (s : State) : State :=
  let go := s.dmaWait.foldl (fun (acc : State × List Dma) d =>
    let s := acc.1
    if s.dmaMay d then
      let r := s.cmds.nextReq
      ({ s with dmas := Tbl.set {} s.dmas r d, cmds := { s.cmds with nextReq := r + 1 } }.emit
        (match d.use with
         | some (.cqEntry _ _ _ _ _ _) => .atsRequest r d.port d.fn d.pasid d.addr
         | some (.hostOut _ _ _) => .atsRequest r d.port d.fn d.pasid d.addr
         | _ => .dmaRead r d.port d.fn d.pasid d.addr d.len), acc.2)
    else (s, acc.2 ++ [d])) ({ s with dmaWait := [] }, [])
  { go.1 with dmaWait := go.2 }

/-- Ask for a host read. -/
def State.dmaAsk (s : State) (d : Dma) : State := { s with dmaWait := s.dmaWait ++ [d] }.dmaPump

/-- Drop the requests of a tag that have not been issued (R128, R153). -/
def State.dmaCancel (s : State) (t : Nat) : State :=
  { s with dmaWait := s.dmaWait.filter (fun d => match d.use with
      | some u => u.tag? != some t
      | none => true) }

/-- R96: the translation of an address is at hand: ATS Enable is 0, or the cache holds the page. -/
def State.atcHit (s : State) (p f : Nat) (pasid : Option Nat) (addr : Nat) : Bool :=
  !(s.func p f).atsEn || (s.port p).atc.any (fun e => e.fn == f && e.pasid == pasid && e.page == addr / 4096)

/-- Every request of the block that waits or is outstanding. -/
def State.dmaAll (s : State) : List Dma := s.dmaWait ++ s.dmas.map (fun d => d.2)

/-- A request that satisfies a test waits or is outstanding. -/
def State.dmaAny (s : State) (t : DmaUse → Bool) : Bool :=
  s.dmaAll.any (fun d => match d.use with
    | some u => t u
    | none => false)

/-- The PASID of a queue's host accesses (R148): its slice's; the manager context has none. -/
def State.qpasid (s : State) (q : QKey) : Option Nat := if s.owner q < 4096 then s.slPasid (s.owner q) else none

/-! ### The fence and the dirty-page log (R153, R156) -/

/-- A DMA write or completion of an old generation is discarded and counted (R153). -/
def State.lateDiscard (s : State) (n : Nat) : State :=
  let p := s.slPort n
  let s1 := s.setSlice n { s.slice n with lateDiscards := satAdd 64 (s.slice n).lateDiscards 1 }
  s1.setPort p { s1.port p with fencedDiscards := satAdd 32 (s1.port p).fencedDiscards 1 }

/-- The fence passes a tag's traffic: its generation is the slice's and the fence is open (R153). The
standard admin queue and the manager context lie outside the fence (R146). -/
def State.passes (s : State) (t : Nat) : Bool :=
  let x := s.tag t
  !x.fenced || ((s.slice x.slice).fenceOpen && (s.slice x.slice).gen == x.gen)

/-- The base of the active dirty-log buffer. -/
def State.dlogBase (s : State) (n : Nat) : Nat :=
  if (s.slice n).dlogActiveB then s.cfg (0x3000 + n) 0x22 else s.cfg (0x3000 + n) 0x21

/-- Start posting one gathered word: the word at byte 64 + 8w of the active buffer takes its bits. -/
def State.dirtyPost (s : State) (n w : Nat) : State :=
  match s.dirty.find? (fun d => d.slice == n && d.word == w && !d.posting) with
  | none => s
  | some d =>
    let l := s.dirty.map (fun e => if e.slice = n ∧ e.word = w then { e with posting := true } else e)
    { s with dirty := l }.emit (.dirtyPost (s.slPort n) (s.dlogBase n + 64 + 8 * w) d.bits)

/-- R156: mark one page, gathering its word in the cache of 16,384; a full cache posts its oldest word.
(DESIGN CHOICE, log entry 105) -/
def State.dirtyBit (s : State) (n page : Nat) : State :=
  let w := page / 64
  let b := 2 ^ (page % 64)
  match s.dirty.find? (fun d => d.slice == n && d.word == w && !d.posting) with
  | some _ =>
    { s with dirty := s.dirty.map (fun e =>
        if e.slice = n ∧ e.word = w ∧ e.posting = false then { e with bits := e.bits ||| b } else e) }
  | none =>
    let s1 :=
      if 16384 ≤ s.dirty.length then
        match s.dirty.find? (fun d => !d.posting) with
        | some d => s.dirtyPost d.slice d.word
        | none => s
      else s
    { s1 with dirty := s1.dirty ++ [⟨n, w, b, s.aon.now, false⟩] }

/-- R156: mark the pages of a DMA write that fall in the tracked window; a write outside it is counted. -/
def State.dirtyMark (s : State) (n addr len : Nat) : State :=
  let i := 0x3000 + n
  if !s.cfgB i 0x20 || len == 0 then s
  else
    let base := s.cfg i 0x23
    let cnt := s.cfg i 0x24
    let pages := (List.range ((addr + len - 1) / 4096 - addr / 4096 + 1)).map (fun k => addr / 4096 + k)
    let inside := pages.filter (fun p => base / 4096 ≤ p && p < base / 4096 + cnt)
    if inside.isEmpty then s.setSlice n { s.slice n with dlogOutside := satAdd 64 (s.slice n).dlogOutside 1 }
    else s.forEach inside (fun p s => s.dirtyBit n (p - base / 4096))

/-- Post every gathered word of a slice at once and empty its part of the cache (R154, R158). -/
def State.dirtyPostAll (s : State) (n : Nat) : State :=
  let ds := s.dirty.filter (fun d => d.slice == n)
  let s1 := s.forEach ds (fun d s =>
    if d.posting then s else s.emit (.dirtyPost (s.slPort n) (s.dlogBase n + 64 + 8 * d.word) d.bits))
  { s1 with dirty := s1.dirty.filter (fun d => d.slice != n) }

/-- R157: write the header of the active buffer and close it. -/
def State.dlogClose (s : State) (n : Nat) : State :=
  let x := s.slice n
  let s1 := s.emit (.dmaWrite (s.slPort n) 0 none false (s.dlogBase n)
    (leBytes 4 x.dlogMark ++ leBytes 2 x.gen ++ List.replicate 58 0#8))
  if x.dlogActiveB then s1.setSlice n { x with dlogMarkB := x.dlogMark, dlogGenB := x.gen }
  else s1.setSlice n { x with dlogMarkA := x.dlogMark, dlogGenA := x.gen }

/-- Put a DMA data write of a tag on its port and mark the pages it writes (R94, R95, R156).
(DEDUCED, log entry 45) -/
def State.hostOut (s : State) (t addr : Nat) (data : List Byte) : State :=
  let x := s.tag t
  let pf := s.qfunc x.q
  let s1 := s.emit (.dmaWrite pf.1 pf.2 (s.qpasid x.q) (s.func pf.1 pf.2).roEn addr data)
  if x.slice < 4096 then s1.dirtyMark x.slice addr data.length else s1

/-- A DMA data write of a tag: through the fence (R153), after its translation where it needs one (R96). -/
def State.hostWrite (s : State) (t addr : Nat) (data : List Byte) : State :=
  let x := s.tag t
  let pf := s.qfunc x.q
  if !s.passes t then s.lateDiscard x.slice
  else if s.atcHit pf.1 pf.2 (s.qpasid x.q) addr then s.hostOut t addr data
  else s.dmaAsk { port := pf.1, fn := pf.2, pasid := s.qpasid x.q, addr := addr, use := some (.hostOut t addr data) }

/-! ### Completions and their interrupts (R94, R110, R116, R122, R152) -/

/-- The coalescing setting of a completion queue: Feature 08h's threshold and time, unless Feature 09h
disables it for the vector. Admin completion queues are not coalesced. -/
def State.coalesce (s : State) (q : QKey) (v : Nat) : Option Nat :=
  let c := s.ctrl (s.owner q)
  let f := (Tbl.get none c.features 8).getD 0
  let cd := ((Tbl.get none c.features (9 * 65536 + v)).getD 0).testBit 16
  if q.isAdmin || cd || f % 256 == 0 || f / 256 % 256 == 0 then none else some (f % 256 + 1)

/-- Send a completion queue's interrupt. -/
def State.cqInterrupt (s : State) (q : QKey) : State :=
  match q with
  | .page n _ => s.sliceInterrupt n (s.cq q).vector
  | .std p f _ => s.msixSend p f (s.cq q).vector

/-- The interrupt of one posted entry, at once or gathered (Feature 08h). -/
def State.cqNotify (s : State) (q : QKey) : State :=
  let x := s.cq q
  if !x.ien then s
  else match s.coalesce q x.vector with
    | none => s.cqInterrupt q
    | some k =>
      if k ≤ x.coalesced + 1 then (s.setCq q { x with coalesced := 0 }).cqInterrupt q
      else s.setCq q { x with coalesced := x.coalesced + 1 }

/-- A completion queue has a free slot. -/
def Cq.room (x : Cq) : Bool := x.size != 0 && (x.tail + 1) % x.size != x.head

/-- Write a completion entry: SQHD is the entry after the last one fetched (R110). -/
def State.cqWrite (s : State) (q : QKey) (cid : Nat) (st : Status) (dw0 dw1 : Nat) : State :=
  let cqk := q.withQid (s.sq q).cqid
  let x := s.cq cqk
  let s1 := s.setCq cqk { x with tail := if x.tail + 1 = x.size then 0 else x.tail + 1
                                 phase := if x.tail + 1 = x.size then !x.phase else x.phase }
  let s2 := { s1 with cmds := { s1.cmds with commands := satAdd 64 s1.cmds.commands 1 }
                      aon := { s1.aon with ledCompletion := true } }.emit
    (.completion cqk q.qid cid (s.sq q).head x.phase st dw0 dw1)
  let s3 := match q with
    | .page n _ => s2.dirtyMark n (x.base + 16 * x.tail) 16
    | .std p f _ =>
      match s2.stdqSlice p f with
      | some n => s2.dirtyMark n (x.base + 16 * x.tail) 16
      | none => s2
  s3.cqNotify cqk

/-- An entry of a completion queue waits for its translation. -/
def State.cqBusy (s : State) (cqk : QKey) : Bool :=
  s.dmaAny (fun u => match u with
    | .cqEntry c _ _ _ _ _ => c == cqk
    | _ => false)

/-- A completion queue takes an entry now: a free slot, not frozen, nothing before it, no hold of R97. -/
def State.cqOpen (s : State) (cqk : QKey) : Bool :=
  let x := s.cq cqk
  let pf := s.qfunc cqk
  x.room && !x.frozen && !s.held pf.1 pf.2 && !s.cqBusy cqk

/-- Send a completion entry, asking for the translation of its slot where that is not at hand. -/
def State.cqSend (s : State) (q : QKey) (cid : Nat) (st : Status) (dw0 dw1 : Nat) : State :=
  let cqk := q.withQid (s.sq q).cqid
  let pf := s.qfunc q
  let addr := (s.cq cqk).base + 16 * (s.cq cqk).tail
  if s.atcHit pf.1 pf.2 (s.qpasid q) addr then s.cqWrite q cid st dw0 dw1
  else s.dmaAsk { port := pf.1, fn := pf.2, pasid := s.qpasid q, addr := addr
                  use := some (.cqEntry cqk q cid st dw0 dw1) }

/-- A completion that belongs to no tag (R112, R121, R127): sent now, or held in order while its queue is
full or frozen or its function is held (R97, R131). -/
def State.cqPut (s : State) (q : QKey) (cid : Nat) (st : Status) (dw0 : Nat := 0) : State :=
  let cqk := q.withQid (s.sq q).cqid
  let x := s.cq cqk
  if s.cqOpen cqk && x.held.isEmpty then s.cqSend q cid st dw0 0
  else s.setCq cqk { x with held := x.held ++ [(q, cid, st, dw0, 0)] }

/-- Send the held completions of a queue, in order, while it takes them. -/
def State.cqRelease (s : State) (cqk : QKey) : State :=
  let go := (s.cq cqk).held.foldl (fun (acc : State × List (QKey × Nat × Status × Nat × Nat)) h =>
    let s := acc.1
    if acc.2.isEmpty && s.cqOpen cqk then (s.cqSend h.1 h.2.1 h.2.2.1 h.2.2.2.1 h.2.2.2.2, acc.2)
    else (s, acc.2 ++ [h])) (s, [])
  let s1 := go.1.setCq cqk { go.1.cq cqk with held := go.2 }
  s1.forEach ((s.cq cqk).held.map (fun h => h.1)).dedup (fun q s => s.deleteWatch q)

/-- R122: the last row of POST: the completion entry is written and the tag freed. -/
def State.postTag (s : State) (t : Nat) : State :=
  let x := s.tag t
  (s.cqSend x.q x.sqe.cid x.status x.dw0 x.dw1).freeTag t

/-- A tag may be posted: POST, no started step, all its data DMA out, and its completion queue takes an entry. -/
def State.postReady (s : State) (t : Nat) : Bool :=
  let x := s.tag t
  let cqk := x.q.withQid (s.sq x.q).cqid
  decide (x.st = .post) && !x.inFlight && (s.cq cqk).held.isEmpty && s.cqOpen cqk
    && !s.dmaAny (fun u => match u with
        | .hostOut k _ _ => k == t
        | _ => false)

/-! ### Asynchronous events (R113, R116, R130, R131) -/

/-- The dword 0 of an event. -/
def AsyncEvent.dword (e : AsyncEvent) : Nat := e.ty + e.info * 2 ^ 8 + e.log * 2 ^ 16

/-- An admin queue is a slice page's. -/
def QKey.onPage : QKey → Bool
  | .page _ _ => true
  | .std _ _ _ => false

/-- Raise an event in a controller: an outstanding Asynchronous Event Request takes it, or it waits. -/
def State.raise (s : State) (c : Nat) (e : AsyncEvent) : State :=
  let x := s.ctrl c
  match x.aers.find? (fun t => match e.page with
    | none => true
    | some b => QKey.onPage (s.tag t).q == b) with
  | some t => (s.setCtrl c { x with aers := x.aers.filter (fun a => a != t) }).commitTag t ⟨0, 0⟩ e.dword
  | none => s.setCtrl c { x with events := x.events ++ [e] }

/-- The controllers that exist: the bound slices, and the manager contexts of functions without one. -/
def State.controllers (s : State) : List Nat :=
  s.boundSlices ++ ([0, 1].filter (fun p => (s.stdqSlice p 0).isNone)).map (fun p => 4096 + p)

/-- Feature 0Bh of a controller enables a SMART/Health event for a critical warning bit. -/
def State.smartEnabled (s : State) (c bit : Nat) : Bool :=
  ((Tbl.get none (s.ctrl c).features 0x0B).getD 0).testBit bit

/-- Raise the SMART/Health event of a critical warning bit where Feature 0Bh enables it (R212, R273, R396). -/
def State.smartEvent (s : State) (bit : Nat) : State :=
  s.forEach s.controllers (fun c s =>
    if s.smartEnabled c bit then s.raise c ⟨1, if bit = 0 then 2 else if bit = 1 then 1 else 0, 2, none⟩ else s)

/-- R130: a deferred error: the blocks are marked lost by the caller; every controller whose slice has the
namespace attached gets the entry and the event. -/
def State.deferredError (s : State) (nsid lba count : Nat) : State :=
  let s1 := { s with cmds := { s.cmds with deferred := satAdd 32 s.cmds.deferred 1 } }
  s1.forEach (s.ns nsid).attached (fun c s =>
    (s.addError c ⟨0xFFFF, 0xFFFF, ⟨2, 0x81⟩, nsid, lba, count⟩).raise c ⟨0, 3, 1, none⟩)

/-! ### Overlap (R124) -/

/-- The blocks a command changes. -/
def Tag.writes (x : Tag) : List (Nat × Nat) :=
  if x.sqe.opcode = 0x09 then x.ranges
  else if x.sqe.writeType then [(x.slba, x.nlb)] else []

/-- The blocks whose map results a command takes. -/
def Tag.reads (x : Tag) : List (Nat × Nat) :=
  if x.sqe.opcode = 0x19 then x.ranges
  else if x.sqe.readType then [(x.slba, x.nlb)] else []

/-- Two lists of ranges share a block. -/
def rangesMeet (a b : List (Nat × Nat)) : Bool :=
  a.any (fun x => b.any (fun y => x.1 < y.1 + y.2 && y.1 < x.1 + x.2))

/-- A tag has not reached its commit point, its error or its abort. -/
def TagSt.uncommitted : TagSt → Bool
  | .build => true
  | .wait => true
  | .run => true
  | _ => false

/-- An earlier command of the same slice and namespace holds a later one back (R124), as does one whose ranges have not been
read yet. -/
def State.blocks (_s : State) (y x : Tag) : Bool :=
  !y.admin && y.slice == x.slice && y.gen == x.gen && y.sqe.nsid == x.sqe.nsid && decide (y.order < x.order)
    && y.st.uncommitted
    && (rangesMeet y.writes x.reads || rangesMeet y.writes x.writes
        || (!y.mapTaken && rangesMeet y.reads x.writes)
        || (!y.built && (y.sqe.opcode == 0x19 || (y.sqe.opcode == 0x09 && y.sqe.writeType))))

/-- An earlier overlap of a tag is unresolved. (DESIGN CHOICE, log entry 33) -/
def State.overlapped (s : State) (t : Nat) : Bool :=
  let x := s.tag t
  if x.admin then false
  else if x.sqe.opcode = 0 then
    s.tags.any (fun y => !y.2.admin && y.2.slice == x.slice && y.2.gen == x.gen && y.2.sqe.nsid == x.sqe.nsid
      && decide (y.2.order < x.order) && y.2.st.uncommitted && y.2.sqe.writeType)
  else s.tags.any (fun y => s.blocks y.2 x)

/-- Ranges that the tracker of a home cluster holds (R124). -/
def State.tracked (s : State) (cluster : Nat) : Nat :=
  (s.tags.filter (fun x => !x.2.admin && x.2.st.uncommitted && x.2.slice < 4096
    && s.slHome x.2.slice == cluster && (x.2.sqe.writeType || x.2.sqe.readType))).foldl
      (fun n x => n + max 1 x.2.ranges.length) 0

/-! ### Draining (R122, R154, R155) -/

/-- The fence closes on a tag: it drains; a tag with nothing started is free at once. A status already
committed is kept, and its completion entry is discarded. -/
def State.drainTag (s : State) (t : Nat) : State :=
  let x := s.tag t
  if x.st = .free ∨ x.st = .drain then s
  else
    let s1 := if x.st.uncommitted then ((s.zoneSettle t true).poolRelease t).dropStaged t
              else s.lateDiscard x.slice
    let s2 := (s1.dmaCancel t).setTag t { s1.tag t with st := .drain }
    if x.inFlight then s2
    else { s2.freeTag t with cmds := { (s2.freeTag t).cmds with fenced := satAdd 64 s2.cmds.fenced 1 } }

/-- The last started operation of a draining tag finishes (R122). -/
def State.drainEnd (s : State) (t : Nat) : State :=
  let s1 := (s.lateDiscard (s.tag t).slice).freeTag t
  { s1 with cmds := { s1.cmds with fenced := satAdd 64 s1.cmds.fenced 1 } }

/-- End a tag without a completion (R99, R146). -/
def State.dropTag (s : State) (t : Nat) : State :=
  let x := s.tag t
  if x.st = .free then s
  else
    let s1 := if x.st.uncommitted then ((s.zoneSettle t true).poolRelease t).dropStaged t else s
    (s1.dmaCancel t).freeTag t

/-! ### Slice reset (R137, R144, R145, R154) -/

/-- R145: set up admin queue 0 of a slice from ASQ, ACQ and AQA. -/
def State.setupAdmin (s : State) (n : Nat) : State :=
  let i := 0x3000 + n
  let asq := s.cfg i 0x11
  let aqa := s.cfg i 0x13
  let s1 := s.setSq (.page n 0) { live := true, base := asq / 4096 * 4096, inCmb := asq.testBit 0
                                  size := aqa % 4096 + 1, cqid := 0 }
  s1.setCq (.page n 0) { live := true, base := s.cfg i 0x12, size := aqa / 2 ^ 16 % 4096 + 1, vector := 0 }

/-- The page registers return to their reset values (R70). -/
def State.pageReset (s : State) (n : Nat) : State :=
  s.setSlice n { s.slice n with stale := false, qerr := false, drops := 0 }

/-- Delete the queues of a slice's page, and the standard I/O queues of its function when it owns them. -/
def State.dropSliceQueues (s : State) (n : Nat) : State :=
  let p := s.slPort n
  let f := s.slFn n
  let mine (k : Nat) : Bool :=
    let onPage := k % 2 == 1 && k / 2 / 256 == n
    let onStd := k % 2 == 0 && s.slStdq n && k / 2 / 65536 == p * 256 + f && k / 2 % 65536 != 0
    onPage || onStd
  { s with sqs := s.sqs.filter (fun x => !mine x.1), cqs := s.cqs.filter (fun x => !mine x.1) }

/-- Empty the fetch windows of a slice's fenced queues. -/
def State.dropWindows (s : State) (n : Nat) : State :=
  let p := s.slPort n
  let f := s.slFn n
  s.forEach s.sqs (fun x s =>
    let k := x.1
    let onPage := k % 2 == 1 && k / 2 / 256 == n
    let onStd := k % 2 == 0 && s.slStdq n && k / 2 / 65536 == p * 256 + f && k / 2 % 65536 != 0
    if onPage || onStd then { s with sqs := Tbl.set {} s.sqs k { x.2 with window := [] } } else s)

/-- R154: a tag of the slice carries a generation that the next one would compare as after. -/
def State.genBlocked (s : State) (n : Nat) : Bool :=
  s.tags.any (fun x => !(x.2.st = .free) && x.2.fenced && x.2.slice == n
    && decide (32768 ≤ ((s.slice n).gen + 1 + 65536 - x.2.gen % 65536) % 65536))

/-- The part of R154 that follows the increment: older tags drain, dirty words are posted, pending
interrupts go, the queues are deleted and admin queue 0 is set up again. -/
def State.resetBody (s : State) (n : Nat) : State :=
  let s1 := s.setSlice n { s.slice n with gen := ((s.slice n).gen + 1) % 65536, genHeld := false }
  let olds := (s1.tagsOfSlice n).filter (fun t => (s1.tag t).fenced && !((s1.slice n).resetTags.contains t))
  let s2 := s1.forEach olds (fun t s => s.drainTag t)
  let s3 := s2.forEach (s2.slice n).resetTags (fun t s =>
    s.setTag t { s.tag t with gen := (s.slice n).gen })
  let s4 := if s3.cfgB (0x3000 + n) 0x20 && (s3.port (s3.slPort n)).linkUp then s3.dirtyPostAll n
            else { s3 with dirty := s3.dirty.filter (fun d => d.slice != n) }
  let mine (q : QKey) : Bool := s.owner q == n && !(q.isAdmin && !QKey.onPage q)
  let theirs (u : DmaUse) : Bool := match u with
    | .entries q => mine q
    | .cqEntry _ q _ _ _ _ => mine q
    | _ => false
  let s5 := ({ s4.setSlice n { s4.slice n with intPending := [] } with
    dmaWait := s4.dmaWait.filter (fun d => match d.use with
      | some u => !theirs u
      | none => true) }).dmaStale theirs (some n)
  ((s5.dropSliceQueues n).setupAdmin n).pageReset n

/-- R154: a reset of a bound slice begins. `t` is the slice's own reset command, which is released under the
new generation (R144). A slice already resetting joins the reset in progress. -/
def State.sliceReset (s : State) (n : Nat) (t : Option Nat := none) : State :=
  let x := s.slice n
  let tags := match t with
    | some k => x.resetTags ++ [k]
    | none => x.resetTags
  match x.st with
  | .bound =>
    let s1 := (s.setSlice n { x with st := .resetting, fenceOpen := false, resetTags := tags }).dropWindows n
    if s1.genBlocked n then
      s1.setSlice n { s1.slice n with genHeld := true, genHolds := satAdd 32 (s1.slice n).genHolds 1 }
    else s1.resetBody n
  | .resetting => s.setSlice n { x with resetTags := tags }
  | _ => s

/-! ### Fetching submission entries (R110, R131) -/

/-- The queue of a code of the tables `sqs` and `cqs`. -/
def codeQ (k : Nat) : QKey :=
  if k % 2 = 1 then .page (k / 2 / 256) (k / 2 % 256)
  else .std (k / 2 / 65536 / 256) (k / 2 / 65536 % 256) (k / 2 % 65536)

/-- A fetch of entries of a queue waits or is outstanding. -/
def State.fetching (s : State) (q : QKey) : Bool :=
  s.dmaAny (fun u => match u with
    | .entries k => k == q
    | _ => false)

/-- The entries that one read may carry now: those between head and tail, up to the end of the ring, up to
the room of the fetch window, none while the queue or its completion queue is frozen. -/
def State.fetchCount (s : State) (q : QKey) : Nat :=
  let x := s.sq q
  if !x.live || x.frozen || x.deleting.isSome || (s.cq (q.withQid x.cqid)).frozen || x.size = 0 then 0
  else
    let n := min (min ((x.tail + x.size - x.head) % x.size) (x.size - x.head)) (Config.fetchWindow - x.window.length)
    if x.inCmb then n else min n ((4096 - (x.base + 64 * x.head) % 4096) / 64)

/-- Ask for the next entries of a queue in host memory. (DESIGN CHOICE, log entry 27) -/
def State.fetchAsk (s : State) (q : QKey) : State :=
  let n := s.fetchCount q
  if n = 0 || (s.sq q).inCmb || s.fetching q then s
  else
    let pf := s.qfunc q
    s.dmaAsk { port := pf.1, fn := pf.2, pasid := s.qpasid q, addr := (s.sq q).base + 64 * (s.sq q).head, len := 64 * n
               use := some (.entries q) }

/-- The hold of R97 on a function may have ended: its work resumes in order. -/
def State.releaseFn (s : State) (p f : Nat) : State :=
  let s1 := s.forEach (s.slicesOn p f) (fun n s => s.sliceInterrupts n)
  let s2 := (s1.msixRelease p f).dmaPump
  s2.forEach (s2.cqs.map (fun x => codeQ x.1)) (fun q s => if s.qfunc q = (p, f) then s.cqRelease q else s)

end Sys2Proof.Machine
end

