-- ==== Sys2Proof/Machine/SysOps.lean ====
section
/-! DEFINITION. Shared operations of the host interface: latency reports (R92), training results (R86, R88),
queue freezes (R131), failed requests (R98), and the resets of R99 with the controller they reset (R146). -/

namespace Sys2Proof.Machine

/-! ### Ports (R86 to R88, R92) -/

/-- The port exists in the port mode in force (R87). -/
def State.portExists (s : State) (p : Nat) : Bool := p == 0 || (p == 1 && s.dual)

/-- The lanes that the port's mode provides (R87). -/
def State.fullWidth (s : State) : Nat := if s.dual then 8 else 16

/-- A slice with Crisp class is bound to a function of the port. -/
def State.crispOn (s : State) (p : Nat) : Bool := (s.slicesOnPort p).any (fun n => s.slClass n == 0)

/-- R92: the LTR value, in microseconds. -/
def State.ltrValue (s : State) (p : Nat) : Nat := if s.crispOn p then 1 else s.cfg 0x2000 4

/-- R92: send an LTR message when the value that the port reports changes. -/
def State.ltrUpdate (s : State) (p : Nat) : State :=
  let x := s.port p
  if x.linkUp && x.ltrUs != s.ltrValue p then
    (s.setPort p { x with ltrUs := s.ltrValue p }).emit (.ltr p (s.ltrValue p))
  else s

/-- R92: the LTR messages of both ports. -/
def State.ltrAll (s : State) : State := (s.ltrUpdate 0).ltrUpdate 1

/-- R88: a training result against the lanes of the port's mode. -/
def State.laneCheck (s : State) (p width : Nat) : State :=
  let fault := decide (width < s.fullWidth)
  let s1 := s.setPort p { s.port p with laneFault := fault }
  if fault then
    let s2 := s1.sustainSet 2
    if (s.port p).laneFault then s2 else s2.rasRecord 0x0A p 5 2 0 [width]
  else if !(s1.port 0).laneFault && !(s1.port 1).laneFault then s1.sustainClear 2 else s1

/-- 2000h.02 as it stands for the next training of a port (R105). (DESIGN CHOICE, log entry 21) -/
def State.maxSpeed (s : State) : Nat :=
  match Tbl.get none s.dict.stored (dkey 0x2000 2) with
  | some (.num n) => n
  | _ => dictDefault 0x2000 2

/-- A Boundary entry's stored value comes in force (R45). -/
def State.entryBoundary (s : State) (i sub : Nat) : State :=
  s.putInForce i sub (Tbl.get none s.dict.stored (dkey i sub))

/-- R85, R86: the link reached a rate and a width; from 8 GT/s the port answers and carries commands. -/
def State.trained (s : State) (p speed width : Nat) : State :=
  let rate := min speed s.maxSpeed
  let s0 := s.entryBoundary 0x2000 2
  let x := s0.port p
  let good := decide (3 ≤ rate)
  let s1 := s0.setPort p { x with
    linkUp := true, rate := rate, width := width, l0pWidth := 0, l1 := false
    attempts := if good then 0 else x.attempts + 1
    loopbackFails := if good then 0 else x.loopbackFails
    lowRate := if good then x.lowRate else satAdd 32 x.lowRate 1
    configReady := good && decide (s.mode.base ≠ .flush) }
  let s2 := s1.laneCheck p width
  let s3 := if good then s2.setFunc p 0 { s2.func p 0 with here := true } else s2.emit (.speedChange p s.maxSpeed)
  s3.ltrUpdate p

/-! ### Frozen queues (R131) -/

/-- What a freeze adds besides the frozen queues: the counter, the Error Information entry and the event; a
slice's queue 0 is reported to the manager, and a controller's admin completion queue sets CSTS.CFS. -/
def State.freezeReport (s : State) (q : QKey) (cq : Bool) : State :=
  let c := s.owner q
  let s1 := { s with cmds := { s.cmds with freezes := satAdd 32 s.cmds.freezes 1 } }
  let s2 := s1.addError c { sqid := if cq then 0xFFFF else q.qid, cid := 0xFFFF
                            status := ⟨0, Config.nvmeField 3 0⟩, info := if cq then q.qid else 0 }
  let s3 := s2.raise c ⟨0, 4, 1, none⟩
  match q with
  | .page n 0 => s3.rasReport 0x10 n 13 2 0 [0, boolNat cq]
  | .std p f 0 => if cq then s3.setFunc p f { s3.func p f with cfs := true } else s3
  | _ => s3

/-- A submission entry fetch failed: its queue freezes. -/
def State.freezeSq (s : State) (q : QKey) : State :=
  (s.setSq q { s.sq q with frozen := true, fetchFail := true }).freezeReport q false

/-- A completion entry write failed: its queue and every queue feeding it freeze, and the entry is held in
its order. -/
def State.freezeCq (s : State) (q : QKey) (h : QKey × Nat × Status × Nat × Nat) : State :=
  let s1 := s.setCq q { s.cq q with frozen := true, held := h :: (s.cq q).held }
  let s2 := s1.forEach s1.sqs (fun x s =>
    let k := codeQ x.1
    if x.2.live && k.withQid x.2.cqid == q then s.setSq k { s.sq k with frozen := true } else s)
  s2.freezeReport q true

/-! ### Ends of DMA requests (R96, R98) -/

/-- A request has ended: invalidations no longer wait for it, and the next ones may go. -/
def State.dmaEnd (s : State) (r : Nat) : State :=
  let p := (Tbl.get {} s.dmas r).port
  let s1 := { s with dmas := Tbl.erase r s.dmas }
  (s1.setPort p { s1.port p with
    invalidations := (s1.port p).invalidations.map (fun v => { v with waits := v.waits.filter (fun k => k != r) }) }).dmaPump

/-- R96: the translation of a request's page enters the port's cache of 16,384 entries. -/
def State.atcFill (s : State) (d : Dma) : State :=
  if s.atcHit d.port d.fn d.pasid d.addr then s
  else
    let x := s.port d.port
    let keep := if 16384 ≤ x.atc.length then x.atc.drop 1 else x.atc
    s.setPort d.port { x with atc := keep ++ [⟨d.fn, d.pasid, d.addr / 4096⟩] }

/-- R98: a request failed: the AER report, the port's counter, and the end of what it was for. -/
def State.dmaFail (s : State) (r bit : Nat) (what : String) : State :=
  let d := Tbl.get {} s.dmas r
  let s1 := (s.aerReport d.port d.fn bit what).dmaEnd r
  let s2 := s1.setPort d.port { s1.port d.port with dmaErrors := satAdd 32 (s1.port d.port).dmaErrors 1 }
  match d.use with
  | some (.entries q) => s2.freezeSq q
  | some (.cqEntry cq q cid st dw0 dw1) => s2.freezeCq cq (q, cid, st, dw0, dw1)
  | some (.blockData t _ _) => (s2.dmaCancel t).commitTag t ⟨0, 4⟩
  | some (.list t) => (s2.dmaCancel t).commitTag t ⟨0, 4⟩
  | some (.infoData t _) => (s2.dmaCancel t).commitTag t ⟨0, 4⟩
  | some (.infoList t) => (s2.dmaCancel t).commitTag t ⟨0, 4⟩
  | some (.hostOut t _ _) => (s2.dmaCancel t).commitTag t ⟨0, 4⟩
  | some (.stale _) => s2
  | none => s2

/-! ### Resets (R99, R102, R146) -/

/-- End the commands of the standard admin queue of a function, without completions. -/
def State.dropStdAdmin (s : State) (p f : Nat) : State :=
  s.forEach (s.tagsOfQueue (.std p f 0)) (fun t s => s.dropTag t)

/-- Delete every standard queue of a function. -/
def State.dropStdQueues (s : State) (p f : Nat) : State :=
  let mine (k : Nat) : Bool := k % 2 == 0 && k / 2 / 65536 == p * 256 + f
  { s with sqs := s.sqs.filter (fun x => !mine x.1), cqs := s.cqs.filter (fun x => !mine x.1) }

/-- Drop every copy in the host-memory tier. -/
def State.hmbDrop (s : State) : State :=
  { s with map := { s.map with
      pages := s.map.pages.map (fun x => (x.1, { x.2 with inHmb := false }))
      fills := s.map.fills.map (fun f => { f with fromHmb := false }) } }

/-- R229: the host memory buffer of a port's physical function is no longer used. -/
def State.hmbEnd (s : State) (p : Nat) : State :=
  let s1 := s.hmbDrop
  if p = 0 then { s1 with map := { s1.map with hmb0 := 0 } } else { s1 with map := { s1.map with hmb1 := 0 } }

/-- The settings and events of a function's NVMe controller return to their defaults. -/
def State.ctrlClear (s0 : State) (p f : Nat) : State :=
  let s := if f = 0 then s0.hmbEnd p else s0
  let c := s.owner (.std p f 0)
  s.setCtrl c { s.ctrl c with features := [], aers := (s.ctrl c).aers.filter (fun t => QKey.onPage (s.tag t).q)
                              events := (s.ctrl c).events.filter (fun e => e.page == some true) }

/-- The reset of a function's NVMe controller (R99, R146). -/
def State.ctrlReset (s : State) (p f : Nat) : State :=
  let s1 := (s.ctrlClear p f).dropStdAdmin p f
  let s2 := match s1.stdqSlice p f with
    | some n => s1.sliceReset n
    | none => s1
  let s3 := s2.dropStdQueues p f
  let x := s3.func p f
  s3.setFunc p f { x with ccEn := false, crime := false, cc := x.cc / 2 * 2, rdy := false, cfs := false
                          shst := 0, intMask := 0 }

/-- Forget the requests of a function: they ended without effect, and a draining command that only
waited for them is free (R102). -/
def State.dmaForget (s : State) (p : Nat) (fs : Nat → Bool) : State :=
  let mine (d : Dma) : Bool := d.port == p && fs d.fn
  let lost := (s.dmas.filter (fun d => mine d.2)).map (fun d => d.1)
  let s1 := { s with dmas := s.dmas.filter (fun d => !mine d.2), dmaWait := s.dmaWait.filter (fun d => !mine d) }
  let s2 := s1.setPort p { s1.port p with
    invalidations := (s1.port p).invalidations.map (fun v =>
      { v with waits := v.waits.filter (fun k => !lost.contains k) }) }
  s2.forEach s2.tags (fun x s =>
    let t := x.1
    let g := s.tag t
    let pf := s.qfunc g.q
    let reading := match g.plan[g.stepsDone]? with
      | some st => st.kind == .hostrd
      | none => false
    if g.st = .drain ∧ pf.1 = p ∧ fs pf.2 = true ∧ reading = true then s.drainEnd t else s)

/-- Reset functions of a port: their slices, controllers, queues, configuration space and cache entries. -/
def State.funcsReset (s : State) (p : Nat) (fs : List Nat) (keep : Nat → Func → Func) : State :=
  let s1 := s.forEach fs (fun f s => s.forEach (s.slicesOn p f) (fun n s => s.sliceReset n))
  let s2 := s1.forEach fs (fun f s => (s.ctrlClear p f).dropStdAdmin p f)
  let s3 := s2.forEach fs (fun f s => s.dropStdQueues p f)
  let s4 := s3.dmaForget p (fun f => fs.contains f)
  let s5 := s4.forEach fs (fun f s => s.setFunc p f (keep f (s.func p f)))
  s5.setPort p { s5.port p with atc := (s5.port p).atc.filter (fun e => !fs.contains e.fn) }

/-- The functions of a port that hold any state. -/
def State.funcsOf (s : State) (p : Nat) : List Nat :=
  (0 :: (s.funcs.map (fun x => x.1)).filterMap (fun k => if k / 256 = p then some (k % 256) else none)
    ++ (s.slicesOnPort p).map (fun n => s.slFn n)).dedup

/-- R99: what is left of a function's configuration space after a port reset: nothing, or the sticky AER bits. -/
def funcAfter (sticky : Bool) (x : Func) : Func :=
  if sticky then { uncSeverity := x.uncSeverity, uncStatus := x.uncStatus } else {}

def State.mgtBit (s : State) (b : Nat) : State :=
  { s with regs := { s.regs with mgtEvent := s.regs.mgtEvent ||| (1#32 <<< b) } }

/-- R36, R411: the sessions that a test selects end, and their staging buffers are emptied and counted. -/
def State.sessionsEnd (s : State) (p : Session → Bool) : State :=
  let any := s.mgmt.sessions.any (fun x => p x && x.opened)
  let gone := (s.mgmt.sessions.filter p).map (fun x => 3 * 2 ^ 40 + x.id)
  let held := (s.dict.staging.filter (fun b => gone.contains b.owner)).length
  let s1 := { s with
    mgmt := { s.mgmt with sessions := s.mgmt.sessions.filter (fun x => !p x) }
    dict := { s.dict with staging := s.dict.staging.filter (fun b => !gone.contains b.owner)
                          abandoned := satAdd 32 s.dict.abandoned held } }
  if any then s1.mgtBit 1 else s1

/-- R408, R411: the VDM endpoint of a port at DL_Down. -/
def State.vdmDown (s : State) (p : Nat) : State :=
  let s1 := s.sessionsEnd (fun x => decide (x.path = .vdm p))
  { s1 with mgmt := { s1.mgmt with reasm := s1.mgmt.reasm.filter (fun r => !decide (r.path = .vdm p)) } }

/-- R99, R102: a port reset. `kind` is the code of 2001h.04. -/
def State.portReset (s : State) (p kind : Nat) (sticky : Bool) : State :=
  let x := s.port p
  let ns := s.slicesOnPort p
  let s1 := s.setPort p { x with linkUp := false, rate := 0, width := 0, l0pWidth := 0, l1 := false, attempts := 0
                                 down := x.down || x.linkUp, configReady := false, ltrUs := 0
                                 invalidations := [], cmb := [], cmbMarked := [], lastReset := kind
                                 stayDown := x.stayDown || decide (s.mode.base = .flush) }
  let s2 := { s1.vdmDown p with dirty := s1.dirty.filter (fun d => !ns.contains d.slice) }
  s2.funcsReset p (s2.funcsOf p) (fun _ y => funcAfter sticky y)

/-- R99, R102, R103: DL_Down on a port. -/
def State.linkLost (s : State) (p : Nat) : State :=
  let s1 := s.portReset p 4 true
  s1.setPort p { s1.port p with dlDowns := satAdd 32 (s1.port p).dlDowns 1 }

/-! ### Failures that end service (R447) -/

/-- R447: CSTS.CFS on every controller of both ports, admission stopped, every acknowledged block to be
programmed, and the cause at A001h.02. -/
def State.serviceEnd (s : State) (cause : Nat) : State :=
  let s1 := s.forEach s.funcs (fun x s =>
    let p := x.1 / 256
    let f := x.1 % 256
    if (s.func p f).here then s.setFunc p f { s.func p f with cfs := true, rdy := false } else s)
  { s1 with mode := { s1.mode with fatal := if s.mode.fatal = 0 then cause else s.mode.fatal, drainWanted := true } }

/-- R437: an activation that loses its last spare stops after the current group and leaves mixed images. -/
def State.activationStop (s : State) : State :=
  if s.sec.actState = 2 then
    let s1 := { s with sec := { s.sec with actState := 3, actTag := none, actEnginesLeft := 0 }
                       regs := { s.regs with lcsEvent := s.regs.lcsEvent ||| 8#32 } }
    match s.sec.actTag with
    | some t => s1.commitTag t ⟨1, 0x13⟩
    | none => s1
  else s

/-! ### Engines (R14 to R19, R443) -/

/-- The engine that does the work of an engine: itself, or the spare that replaces it. -/
def State.serving (s : State) (e : Nat) : Nat := ((s.engine e).movedTo).getD e

/-- An engine works, itself or through its spare. -/
def State.engineWorks (s : State) (e : Nat) : Bool :=
  !(s.engine e).failed || (match (s.engine e).movedTo with
    | some r => !(s.engine r).failed
    | none => false)

/-- Fewest Fabric hops between two clusters' stops (R20, R21): stops 20 to 23 hold four clusters each. -/
def clusterHops (a b : Nat) : Nat :=
  let d := if a / 4 ≤ b / 4 then b / 4 - a / 4 else a / 4 - b / 4
  min d (24 - d)

/-- R19, R443: the engines of the role that may take an engine's events, nearest first. -/
def State.survivors (s : State) (e : Nat) : List Nat :=
  let c := e / 8
  let own := (List.range 8).map (fun i => 8 * c + (e + 1 + i) % 8)
  let others := sortBy (fun a b => clusterHops c a < clusterHops c b || (clusterHops c a == clusterHops c b && a ≤ b))
    ((List.range 15).filter (fun k => k != c && clusterRole k == clusterRole c))
  (own ++ others.flatMap (fun k => (List.range 8).map (fun i => 8 * k + i))).filter (fun x => s.engineWorks x)

/-- Queue an event for an engine's work. -/
def State.engineAsk (s : State) (e kind : Nat) : State :=
  let r := if s.engineWorks e then s.serving e else s.serving ((s.survivors e).headD e)
  s.setEngine r { s.engine r with events := (s.engine r).events ++ [kind] }

/-- The engine that serves a channel (R16), and the home host engine of a slice (R17). -/
def channelEngine (ch : Nat) : Nat := (8 + ch / 8) * 8 + ch % 8
def State.hostEngine (s : State) (q : QKey) : Nat :=
  8 * (if s.owner q < 4096 then s.slHome (s.owner q) else s.owner q - 4096)

/-- R18, R19, R443: an engine fails. A free spare takes its role, its queue and the interrupted event;
without one the surviving engines of the role take its events; with none, service ends.
(DESIGN CHOICE, log entry 24) -/
def State.engineFail (s : State) (e : Nat) : State :=
  let owner := ((s.engine e).servesFor).getD e
  let evs := (s.engine e).events
  let s1 := s.setEngine e { s.engine e with failed := true, events := [], running := none, commitBuf := [] }
  let spare := s1.freeSpares.head?
  let s2 := match spare with
    | some r =>
      if 120 ≤ owner then s1
      else (s1.setEngine r { s1.engine r with servesFor := some owner, events := evs }).setEngine owner
        { s1.engine owner with movedTo := some r }
    | none => match (s1.survivors owner).head? with
      | some k =>
        let r := s1.serving k
        s1.setEngine r { s1.engine r with events := (s1.engine r).events ++ evs }
      | none => s1
  let role := clusterRole (owner / 8)
  let ends := decide (role < 4) && !s2.roleWorks role
  let s3 := (s2.sustainSet 0).rasReport 1 e 2 (if ends then 3 else 2) 0 [owner, (spare.getD 0)]
  let s4 := if s3.freeSpares.isEmpty then s3.activationStop else s3
  if ends then s4.serviceEnd 3 else s4

end Sys2Proof.Machine
end

