-- ==== Sys2Proof/Machine/DictStatus.lean ====
section
/-! DEFINITION. The values of the entries that no role writes, as the state gives them (R57, R65, R106, R136,
R141, R189, R190, R215, R242, R243, R278, R302, R320, R341, R364, R382, R383, R400, R401, R404, R418, R440,
R457, R458). -/

namespace Sys2Proof.Machine

/-- A text entry, from its character codes. -/
def txt (l : List Char) : Val := .bytes (l.map (fun c => BitVec.ofNat 8 c.toNat))

/-- An integer as the unsigned encoding of an I32 (R35). -/
def i32 (q : Int) : Nat := (q % (2 ^ 32 : Int)).toNat

/-- The sum of two-byte items. -/
def items2 (l : List Nat) : Val := .bytes ((l.map (fun x => leBytes 2 x)).flatten)

/-- 1000h. -/
def statusIdentity (sub : Nat) : Option Val :=
  match sub with
  | 1 => some (txt "Torvah Devices".toList)
  | 2 => some (.num Config.pciVendorId)
  | 3 => some (txt "Proaskir".toList)
  | 5 => some (txt "PK9".toList)
  | 6 => some (txt "C1".toList)
  | 7 => some (.bytes Config.serial)
  | _ => none

/-- 1F01h. -/
def State.statusStore (s : State) (sub : Nat) : Option Val :=
  let d := s.dict
  let c := if d.activeB then d.copyB else d.copyA
  match sub with
  | 1 => some (.num (boolNat d.activeB))
  | 2 => some (.num c.imageSeq)
  | 3 => some (.num d.storeSeq)
  | 4 => some (.num (100 * c.units / Config.logUnits))
  | 5 => some (.num d.compactions)
  | 6 => some (.num d.lastLoad)
  | 7 => some (.num d.discarded)
  | 8 => some (.num d.tokens)
  | 9 => some (.num d.norErrors)
  | _ => none

/-- 2001h and 2002h; port 1's record reads 0 in single-port mode (R106). -/
def State.statusPort (s : State) (p sub : Nat) : Option Val :=
  let x := s.port p
  if p = 1 && !s.dual then some (.num 0)
  else match sub with
    | 1 => some (.num (if x.linkUp && decide (3 ≤ x.rate) then x.rate else 0))
    | 2 => some (.num (if x.linkUp then x.width else 0))
    | 3 => some (.num x.dlDowns)
    | 4 => some (.num x.lastReset)
    | 5 => some (.num x.fencedDiscards)
    | 6 => some (.num (boolNat x.laneFault))
    | 7 => some (.num x.lowRate)
    | 8 => some (.num x.dmaErrors)
    | 9 => some (.num x.atsInvalidations)
    | _ => none

/-- 2008h. -/
def State.statusCmds (s : State) (sub : Nat) : Option Val :=
  let c := s.cmds
  match sub with
  | 1 => some (.num c.commands)
  | 2 => some (.num (s.tags.filter (fun x => !(x.2.st = .free))).length)
  | 3 => some (.num c.tagWaits)
  | 4 => some (.num c.aborted)
  | 5 => some (.num c.notAborted)
  | 6 => some (.num c.freezes)
  | 7 => some (.num c.fenced)
  | 8 => some (.num c.deferred)
  | 9 => some (.num c.idConflicts)
  | _ => none

/-- The attached namespaces of a slice, by NSID: the owner's item and the shared ones (3000h.2B). -/
def State.attachedTo (s : State) (n : Nat) : List Nat := s.nsList.filter (fun k => (s.ns k).attached.contains n)

/-- The read-only fields of 3000h + n. -/
def State.statusSlice (s : State) (n sub : Nat) : Option Val :=
  let x := s.slice n
  match sub with
  | 0x01 => some (.num x.st.code)
  | 0x0F => some (.num x.keySlot)
  | 0x10 => some (.num x.gen)
  | 0x25 => some (.num x.dlogMark)
  | 0x26 => some (.num (boolNat x.dlogActiveB))
  | 0x27 => some (.num x.resets)
  | 0x28 => some (.num x.lateDiscards)
  | 0x29 => some (.num x.dlogOutside)
  | 0x2A => some (.num x.genHolds)
  | 0x2B => some (.bytes (((s.attachedTo n).map (fun k =>
      leBytes 4 k ++ leBytes 4 (boolNat ((s.ns k).owner != some n)))).flatten))
  | _ => none

/-- 4003h. -/
def State.statusSched (s : State) (sub : Nat) : Option Val :=
  let x := s.sched
  match sub with
  | 1 => some (.num x.epoch)
  | 2 => some (.num x.p9999)
  | 3 => some (.num x.creditWaits)
  | 4 => some (.num x.spillAdmits)
  | 5 => some (.num x.suspends)
  | 6 => some (.num x.spentWaits)
  | 7 => some (.num x.forcedResumes)
  | 8 => some (.num x.overdueIssues)
  | 9 => some (.num x.pgWakes)
  | _ => none

/-- 5001h. -/
def State.statusPool (s : State) (sub : Nat) : Option Val :=
  match sub with
  | 0x01 => some (.num s.poolP)
  | 0x02 => some (.num s.sumR)
  | 0x03 => some (.num s.sumO)
  | 0x04 => some (.num s.poolF.toNat)
  | 0x05 => some (.num (-s.poolF).toNat)
  | 0x06 => some (.num s.pool.inflight)
  | 0x07 => some (.num s.logicalLimit)
  | 0x08 => some (.num s.logicalUsed)
  | 0x09 => some (.num s.allActive)
  | 0x0A => some (.num s.allOpen)
  | 0x0B => some (.num s.allZrwa)
  | 0x0C => some (.num s.allZones)
  | 0x0D => some (.num s.pool.capExceeded)
  | _ => none

/-- The read-only fields of 5800h + NSID − 1. -/
def State.statusNs (s : State) (n sub : Nat) : Option Val :=
  let x := s.ns n
  match sub with
  | 0x01 => some (.num x.st)
  | 0x02 => some (.num x.kind)
  | 0x03 => some (.num x.nsze)
  | 0x05 => some (.num x.lbaf)
  | 0x06 => some (.num (x.owner.getD 0xFFFF))
  | 0x07 => some (.num x.used)
  | 0x08 => some (.num (s.nuseOf n))
  | 0x0C => some (items2 x.phndl)
  | 0x0D => some (.num x.capExceeded)
  | 0x24 => some (.num x.blocksCoded)
  | 0x25 => some (.num x.granulesCoded)
  | _ => none

/-- The frames of the DRAM map cache (R222, R226). -/
def State.dramPages (s : State) : List (Nat × Page) := s.map.pages.filter (fun x => x.2.inDram)

/-- Map pages of a namespace (R222, R233): none for a zoned one without a compressed map. -/
def State.mapPages (s : State) (n : Nat) : Nat :=
  let x := s.ns n
  if x.kind = 1 then
    if x.compressedMap then x.nsze / zoneSize x.lbaf * ceilDiv (zoneSize x.lbaf) 448 else 0
  else ceilDiv x.nsze 448

/-- Pages in the directory (R222). -/
def State.directoryPages (s : State) : Nat := (s.nsList.map (fun n => s.mapPages n)).sum

/-- DRAM frames (R222): the map cache less the directory, at 8 bytes a page. -/
def State.frames (s : State) : Nat := (s.mapCacheGiB * 2 ^ 30 - 8 * s.directoryPages) / 4096

/-- 6002h. -/
def State.statusMap (s : State) (sub : Nat) : Option Val :=
  let m := s.map
  match sub with
  | 0x01 => some (.num m.lookups)
  | 0x02 => some (.num m.lineHits)
  | 0x03 => some (.num m.dramHits)
  | 0x04 => some (.num m.hmbFills)
  | 0x05 => some (.num m.flashFills)
  | 0x06 => some (.num m.prefetches)
  | 0x07 => some (.num m.writebacks)
  | 0x08 => some (.num m.evictions)
  | 0x09 => some (.num m.hmbCopies)
  | 0x0A => some (.num m.checkFails)
  | 0x0B => some (.num m.movesDropped)
  | 0x0C => some (.num m.placementExc)
  | 0x0D => some (.num m.pinRefused)
  | 0x0E => some (.num s.frames)
  | 0x0F => some (.num (m.pages.filter (fun x => x.2.dirty)).length)
  | 0x10 => some (.num (m.pages.filter (fun x => x.2.pinned)).length)
  | 0x11 => some (.num (m.pages.filter (fun x => x.2.inHmb)).length)
  | 0x12 => some (.num s.directoryPages)
  | _ => none

/-- The length of a journal record (R236). -/
def JRec.bytes (r : JRec) : Nat := if r.ty = 5 ∨ r.ty = 6 then 48 else 32

/-- The bytes of a list of journal records. -/
def recBytes (l : List JRec) : Nat := (l.map JRec.bytes).sum

/-- The bytes of records that are not yet durable (6003h.04). -/
def State.tailBytes (s : State) : Nat := recBytes s.jrn.tail + recBytes s.jrn.flushing.flatten

/-- 6003h. -/
def State.statusJrn (s : State) (sub : Nat) : Option Val :=
  let j := s.jrn
  match sub with
  | 1 => some (.num j.next)
  | 2 => some (.num j.durable)
  | 3 => some (.num j.replayStart)
  | 4 => some (.num s.tailBytes)
  | 5 => some (.num (min 100 (100 * j.bytesFromReplay / max 1 (s.cfg 0x6000 2 * 2 ^ 30))))
  | 6 => some (.num j.checkpoints)
  | 7 => some (.num j.tailWaits)
  | 8 => some (.num j.forced)
  | _ => none

/-- The wear of the superblocks in service. -/
def State.wears (s : State) : List Nat := (List.range s.superblocks).map (fun k => (s.sb k).wear)

/-- 6403h. -/
def State.statusMedia (s : State) (sub : Nat) : Option Val :=
  let m := s.media
  match sub with
  | 0x01 => some (.num s.spareS.toNat)
  | 0x02 => some (.num s.lastReserve)
  | 0x03 => some (.num s.availableSpare)
  | 0x04 => some (.num s.percentUsed)
  | 0x05 => some (.num s.freeSbs)
  | 0x06 => some (.num s.slcFill)
  | 0x07 => some (.num s.demand)
  | 0x08 => some (.num m.grownBad)
  | 0x09 => some (items2 m.retiredLuns)
  | 0x0A => some (.num (s.wears.foldl min (s.wears.headD 0)))
  | 0x0B => some (.num (s.wears.foldl max 0))
  | 0x0C => some (.num m.readRefreshes)
  | 0x0D => some (.num m.patrolRefreshes)
  | 0x0E => some (.num m.recovered)
  | 0x0F => some (.num m.unrecovered)
  | 0x10 => some (.num m.patrolLapH)
  | 0x11 => some (.num m.hostGranules)
  | 0x12 => some (.num m.mediaGranules)
  | 0x13 => some (.num m.rebuildState)
  | 0x14 => some (.num m.rebuildLeft)
  | 0x15 => some (.num m.stranded)
  | 0x16 => some (.num m.fillerCloses)
  | _ => none

/-- The read-only fields of 8040h. -/
def State.statusHold (s : State) (sub : Nat) : Option Val :=
  let n := s.holdN
  match sub with
  | 3 => some (.num (s.holdT n))
  | 4 => some (.num (s.holdE n))
  | 5 => some (.num (s.holdT (n - 3600)))
  | 6 => some (.num (s.holdE (n - 3600)))
  | 8 => some (.num s.reserveSbs)
  | _ => none

/-- 8041h. -/
def State.statusRecov (s : State) (sub : Nat) : Option Val :=
  let r := s.recov
  match sub with
  | 1 => some (.num r.lastStop)
  | 2 => some (.num r.lastRecovery)
  | 3 => some (.num r.recoveryMs)
  | 4 => some (.num r.flushUs)
  | 5 => some (.num r.unsafeStops)
  | 6 => some (.num r.scans)
  | 7 => some (.num r.flushes)
  | 8 => some (.num r.recordsReplayed)
  | 9 => some (.num r.seqNext)
  | _ => none

/-- 7000h + n. -/
def State.statusChan (s : State) (n sub : Nat) : Option Val :=
  let c := s.chan n
  let up (p : Nat) : Bool := decide (p < s.positions) && !(s.lun n p).failed && !(s.lun n p).retired
  match sub with
  | 0x01 => some (.num c.st.code)
  | 0x02 => some (.num c.rate)
  | 0x03 => some (.num c.failCause)
  | 0x04 => some (.num ((List.range 32).map (fun p =>
      bitIf (up p && (decide (c.st = .running) || decide (c.st = .reduced))) p)).sum)
  | 0x05 => some (.num ((List.range 32).map (fun p => bitIf (!up p) p)).sum)
  | 0x06 => some (.num c.trainings)
  | 0x07 => some (.num c.codewords)
  | 0x08 => some (.num c.hardFails)
  | 0x09 => some (.num c.correctedBits)
  | 0x0A => some (.num c.softDecodes)
  | 0x0B => some (.num c.misdirected)
  | 0x0C => some (.num c.timeouts)
  | 0x0D => some (.num c.programFails)
  | 0x0E => some (.num c.eraseFails)
  | 0x0F => some (.num c.suspends)
  | 0x10 => some (.num c.busPct)
  | 0x11 => some (.num c.maxBits)
  | _ => none

/-- 7401h and 7402h. -/
def State.statusCmp (s : State) (sub : Nat) : Option Val :=
  let c := s.cmp
  match sub with
  | 0x01 => some (.num ((List.range 32).filter (fun n => s.laneWorks n)).length)
  | 0x02 => some (.num ([32, 33].filter (fun l => !c.failedLanes.contains l
      && (if l = 32 then c.spareA else c.spareB).isNone)).length)
  | 0x03 => some (.num c.blocksCoded)
  | 0x04 => some (.num c.blocksRaw)
  | 0x05 => some (.num c.granulesOut)
  | 0x06 => some (.num c.residueRetries)
  | 0x07 => some (.num c.checkMismatches)
  | 0x08 => some (.num c.jobs)
  | 0x09 => some (.num c.jobOverflows)
  | 0x0A => some (.num c.jobInvalid)
  | 0x0B => some (.num c.stageWaits)
  | 0x0C => some (.num c.slotInvalid)
  | _ => none
def State.sliceStats (s : State) : Val :=
  .bytes ((List.range Config.slices).map (fun n => leBytes 8 (Tbl.get 0 s.cmp.sliceBlocks n)
    ++ leBytes 8 (Tbl.get 0 s.cmp.sliceGranules n) ++ leBytes 8 (Tbl.get 0 s.cmp.sliceRaw n))).flatten

/-- 7810h + n. (UNVERIFIED, log entry 118) -/
def State.statusDram (s : State) (n sub : Nat) : Option Val :=
  let d := s.dram n
  match sub with
  | 0x01 => some (.num (d.st + d.cause * 256))
  | 0x02 => some (.num (if s.dramUp n then d.rate else 0))
  | 0x03 => some (.num d.corrected)
  | 0x04 => some (.num d.uncorrectable)
  | 0x05 => some (.num d.mirrorRepairs)
  | 0x06 => some (.num ((List.range 4).map (fun k => bitIf (d.marks.any (fun m => m.1 == k)) k)).sum)
  | 0x07 => some (.num d.forcedRefreshes)
  | 0x08 => some (.num d.maxOwed)
  | 0x09 => some (.num d.neighbourRefreshes)
  | 0x0A => some (.num d.rfm)
  | 0x0B => some (.num d.panicUs)
  | 0x0C => some (.num d.drains)
  | _ => none

/-- 7901h. -/
def State.statusChip (s : State) (sub : Nat) : Option Val :=
  let c := s.chip
  match sub with
  | 0x01 => some (.num c.sramCorrected)
  | 0x02 => some (.num c.sramUncorr)
  | 0x03 => some (.num c.partialRefused)
  | 0x04 => some (.num c.writebackCancelled)
  | 0x05 => some (.num c.mergeFull)
  | 0x06 => some (.num c.sramLapMs)
  | 0x07 => some (.num c.dramLapS)
  | 0x08 => some (.num c.grants)
  | 0x09 => some (.num c.fallbacks)
  | 0x0A => some (.num c.waits)
  | 0x0B => some (.num c.badReturns)
  | 0x0C => some (.num c.bitmapLost)
  | 0x0D => some (.num c.repairsSkipped)
  | 0x0E => some (.num c.macrosNoSpare)
  | 0x0F => some (.num (boolNat c.lapLate))
  | _ => none

/-- 7902h.01: the items, then the row or column of each. The macro and the element are `m.1` and `m.2`, an element
being its row or column number, with 2^16 added for a column; the spare index is the item's order. -/
def State.fieldRepairs (s : State) : Val :=
  let r := s.chip.repairs
  .bytes (((r.zip (List.range r.length)).map (fun x =>
      leBytes 2 x.1.1 ++ [BitVec.ofNat 8 (x.1.2 / 2 ^ 16 * 128 + x.2 % 128), 0#8])).flatten
    ++ (r.map (fun x => leBytes 2 x.2)).flatten)

/-- 7903h.01: buffers, free, waits and fallbacks of each arena and size (R383). -/
def State.poolItems (s : State) : Val :=
  .bytes ((List.range 36).map (fun k =>
    let n := s.poolCount (k / 6) (k % 6)
    leBytes 4 n ++ leBytes 4 (s.bufFree (k / 6) (k % 6))
      ++ leBytes 4 (if n = 0 then 0 else Tbl.get 0 s.chip.waitsBy k)
      ++ leBytes 4 (if n = 0 then 0 else Tbl.get 0 s.chip.fallbacksBy k))).flatten

/-- The read-only fields of 8000h. -/
def State.statusMode (s : State) (sub : Nat) : Option Val :=
  let m := s.mode
  match sub with
  | 0x01 => some (.num m.base.code)
  | 0x02 => some (.num (boolNat s.guard))
  | 0x03 => some (.num m.sustain)
  | 0x05 => some (.num (boolNat m.maintReq))
  | 0x06 => some (.num m.maintCauses)
  | 0x07 => some (.num m.readonlyCauses)
  | 0x08 => some (.num m.changes)
  | 0x09 => some (.num m.lastCause)
  | 0x0A => some (.num m.bringupEvent)
  | _ => none

/-- 8001h. -/
def State.statusPower (s : State) (sub : Nat) : Option Val :=
  let m := s.mode
  match sub with
  | 1 => some (.num m.psInForce)
  | 2 => some (.num m.powerMw)
  | 3 => some (.num m.peakMw)
  | 4 => some (.num (m.energyMj / 1000))
  | 5 => some (.num m.overMs)
  | _ => none

/-- The kind of a sensor (R392). -/
def sensorKind (k : Nat) : Nat := if k < 8 then 0 else if k < 12 then 1 else 2

/-- 8100h, 8110h and 8120h. -/
def State.statusThermal (s : State) (i sub : Nat) : Option Val :=
  if i = 0x8100 then
    if sub = 6 then some (.num 10) else if sub = 7 then some (.num s.thermal.shutdowns) else none
  else if i < 0x8120 then
    if sub = 9 then some (.num (s.tzone (i - 0x8110)).step)
    else if sub = 0x0A then some (.num (i32 (s.tzone (i - 0x8110)).tempQ)) else none
  else
    let x := s.sensor (i - 0x8120)
    match sub with
    | 1 => some (.num (sensorKind (i - 0x8120)))
    | 6 => some (.num (i32 x.readingQ))
    | 7 => some (.num (boolNat x.broken))
    | 8 => some (.num x.breaks)
    | _ => none

/-- 8830h. -/
def State.statusMgmt (s : State) (sub : Nat) : Option Val :=
  match sub with
  | 1 => some (.num (s.mgmt.sessions.filter (fun x => x.opened)).length)
  | 2 => some (.num s.mgmt.mctpDrops)
  | 3 => some (.num s.mgmt.bdpDrops)
  | 4 => some (.num s.mgmt.authFails)
  | _ => none

/-- 9000h. -/
def State.statusLife (s : State) (sub : Nat) : Option Val :=
  match sub with
  | 1 => some (.num s.lifecycle)
  | 2 => some (.num s.sec.fuses.length)
  | 3 => some (.bytes ((List.range 32).map (fun k => BitVec.ofNat 8 (s.sec.fuses.getD k 0))))
  | 4 => some (.num s.voidEntries)
  | 5 => some (.num s.keysInUse)
  | 6 => some (.num (boolNat s.sec.erased))
  | 7 => some (.num s.sec.cryptoErases)
  | 8 => some (.num s.sec.sanitizes)
  | _ => none

/-- A firmware slot. (DESIGN CHOICE, log entry 68) -/
def State.fwSlot (s : State) (k : Nat) : Option FwImage := if k = 1 then s.sec.slot1 else s.sec.slot2

/-- 9100h. -/
def State.statusFw (s : State) (sub : Nat) : Option Val :=
  let rev (k : Nat) : Val := .bytes (match s.fwSlot k with
    | some f => f.revision
    | none => [])
  let svn (k : Nat) : Val := .num (match s.fwSlot k with
    | some f => f.svn
    | none => 0)
  match sub with
  | 0x01 => some (.num s.sec.slotInForce)
  | 0x02 => some (.num s.sec.nextSlot)
  | 0x03 => some (rev 1)
  | 0x04 => some (rev 2)
  | 0x05 => some (svn 1)
  | 0x06 => some (svn 2)
  | 0x07 => some (.num s.sec.minSvn)
  | 0x08 => some (.num s.sec.activations)
  | 0x09 => some (.num s.sec.lastHoldUs)
  | 0x0A => some (.num s.sec.actState)
  | 0x0B => some (.num s.freeSpares.length)
  | _ => none

/-- The 64 bytes of a RAS record (R456). -/
def RasRec.bytes (r : RasRec) : List Byte :=
  let body := leBytes 8 r.seq ++ leBytes 8 r.time ++ leBytes 2 r.unit ++ leBytes 2 r.inst ++ leBytes 1 r.kind
    ++ leBytes 1 r.severity ++ leBytes 2 r.cause
    ++ (((r.detail.map (fun x => leBytes 4 x)).flatten ++ List.replicate 32 0#8).take 32) ++ List.replicate 4 0#8
  withCrc body

/-- A000h.02: record s lies at offset (s mod 4,096) × 64 (R456, R457). -/
def State.ringBytes (s : State) : Val :=
  .bytes ((List.range Config.rasRecords).map (fun k =>
    match s.ras.ring.find? (fun r => r.seq % Config.rasRecords == k) with
    | some r => r.bytes
    | none => List.replicate 64 0#8)).flatten

/-- SEQ_NEXT in thousandths of 2^56 (R458). -/
def State.seqPermille (s : State) : Nat := s.recov.seqNext * 1000 / 2 ^ 56

/-- A000h and A001h. -/
def State.statusRas (s : State) (i sub : Nat) : Option Val :=
  if i = 0xA000 then
    match sub with
    | 2 => some s.ringBytes
    | 3 => some (.num s.ras.ack)
    | 4 => some (.num s.ras.overwritten)
    | _ => none
  else
    match sub with
    | 1 => some (.num s.timestamp)
    | 2 => some (.num s.mode.fatal)
    | 3 => some (.num s.ras.failures)
    | 4 => some (.num s.seqPermille)
    | 5 => some (.num (min (s.ras.lifeFrac / 788940000) 65535))
    | _ => none

/-- The value that the state gives an entry; `none` for the entries whose value is stored. -/
def State.statusVal (s : State) (i sub : Nat) : Option Val :=
  if 0x3000 ≤ i ∧ i ≤ 0x3FFF then s.statusSlice (i - 0x3000) sub
  else if 0x5800 ≤ i ∧ i ≤ 0x5FFF then s.statusNs (i - 0x5800 + 1) sub
  else if 0x7000 ≤ i ∧ i ≤ 0x701F then s.statusChan (i - 0x7000) sub
  else if 0x7810 ≤ i ∧ i ≤ 0x7813 then s.statusDram (i - 0x7810) sub
  else if 0x8100 ≤ i ∧ i ≤ 0x8131 then s.statusThermal i sub
  else if 0x8820 ≤ i ∧ i ≤ 0x8823 then
    (if sub = 7 then some (.num (Tbl.get {} s.mgmt.telem (i - 0x8820)).skipped) else none)
  else match i with
    | 0x1000 => statusIdentity sub
    | 0x1F00 => if sub = 6 then some (.num s.dict.abandoned) else none
    | 0x1F01 => s.statusStore sub
    | 0x2001 => s.statusPort 0 sub
    | 0x2002 => s.statusPort 1 sub
    | 0x2008 => s.statusCmds sub
    | 0x4003 => s.statusSched sub
    | 0x5001 => s.statusPool sub
    | 0x6002 => s.statusMap sub
    | 0x6003 => s.statusJrn sub
    | 0x6403 => s.statusMedia sub
    | 0x7401 => s.statusCmp sub
    | 0x7402 => some s.sliceStats
    | 0x7901 => s.statusChip sub
    | 0x7902 => some s.fieldRepairs
    | 0x7903 => some s.poolItems
    | 0x8000 => s.statusMode sub
    | 0x8001 => s.statusPower sub
    | 0x8040 => s.statusHold sub
    | 0x8041 => s.statusRecov sub
    | 0x8810 => if sub = 1 then some (.num Config.macAddress) else none
    | 0x8830 => s.statusMgmt sub
    | 0x9000 => s.statusLife sub
    | 0x9100 => s.statusFw sub
    | 0xA000 => s.statusRas i sub
    | 0xA001 => s.statusRas i sub
    | _ => none

end Sys2Proof.Machine
end

