-- ==== Sys2Proof/Machine/DictOps.lean ====
section
/-! DEFINITION. The engine of the dictionary (R31 to R59): frames, roles, reads, checks of written values, shadows,
staging buffers, the store's budget and appends, and the answers on every path. -/

namespace Sys2Proof.Machine

/-! ### Result codes (R64) -/

def rOk : Nat := 0
def rNoIndex : Nat := 1
def rNoSub : Nat := 2
def rDenied : Nat := 3
def rType : Nat := 4
def rRange : Nat := 5
def rQuiesced : Nat := 6
def rShadowBusy : Nat := 7
def rCommit : Nat := 8
def rRetry : Nat := 9
def rStore : Nat := 10
def rClosed : Nat := 11
def rOrder : Nat := 12
def rFrame : Nat := 13
def rMode : Nat := 14

/-! ### Sessions and roles (R38 to R40, R48) -/

/-- A role; a Tenant's is for one slice. -/
inductive Role where
  | nobody | tenant (slice : Nat) | monitor | manager | maker
  deriving DecidableEq, Repr

/-- The session of a path: an SPDM session, an admin queue, a mailbox, or an open path. -/
def State.sessionOf (s : State) : DPath → Nat
  | .admin t => 2 ^ 40 + 2 * (s.owner (s.tag t).q) + boolNat (QKey.onPage (s.tag t).q)
  | .mailbox p => 2 * 2 ^ 40 + p
  | .mctp _ (some k) => 3 * 2 ^ 40 + k
  | .mctp (.twoWire) none => 4 * 2 ^ 40
  | .mctp (.vdm p) none => 4 * 2 ^ 40 + 1 + p
  | .mctp (.fieldNet) none => 4 * 2 ^ 40 + 3
  | .bdp _ (some k) => 3 * 2 ^ 40 + k
  | .bdp src none => 5 * 2 ^ 40 + src

/-- The role of an SPDM session: 3 for a maker, 2 for a manager, else none. -/
def State.spdmRole (s : State) (k : Nat) : Role :=
  match s.mgmt.sessions.find? (fun x => x.id == k && x.opened) with
  | some x => if x.role = 3 then .maker else if x.role = 2 then .manager else .nobody
  | none => .nobody

/-- R39: the role of a path. -/
def State.roleOf (s : State) : DPath → Role
  | .admin t => if (s.tag t).manager then .manager else .tenant (s.owner (s.tag t).q)
  | .mailbox _ => .manager
  | .mctp _ (some k) => s.spdmRole k
  | .mctp _ none => .monitor
  | .bdp _ (some k) => s.spdmRole k
  | .bdp _ none => if s.cfgB 0x1100 4 then .monitor else .nobody

/-- R38: the role reads an entry of this Access column. -/
def DAcc.reads (a : DAcc) : Role → Bool
  | .nobody => false
  | .tenant _ => a == .mgrWtenR || a == .mgrRtenR || a == .monRtenR || a == .mgrWtenW
  | .monitor => a == .monR || a == .mkrW || a == .monRtenR || a == .mgrWmonR
  | .manager => true
  | .maker => true

/-- R38: the role writes an entry of this Access column. -/
def DAcc.writes (a : DAcc) : Role → Bool
  | .nobody => false
  | .tenant _ => a == .mgrWtenW
  | .monitor => false
  | .manager => a == .mgrW || a == .mgrWtenR || a == .mgrWmonR || a == .mgrWtenW
  | .maker => a == .mgrW || a == .mgrWtenR || a == .mgrWmonR || a == .mgrWtenW || a == .mkrW

/-- R38, R40: a role reaches an index that exists. -/
def State.roleReaches (s : State) (r : Role) (i : Nat) : Bool :=
  match r with
  | .nobody => false
  | .tenant n =>
    (decide (n < 4096) && i == 0x3000 + n) || i == 0x1000 || i == 0x1F00 || i == 0x9100
      || (decide (0x5800 ≤ i ∧ i ≤ 0x5FFF) && (s.ns (i - 0x5800 + 1)).attached.contains n)
  | _ => true

/-- R92 of the lifecycle table (R428) and R40: the index is closed. -/
def State.indexClosed (s : State) (i : Nat) : Bool :=
  (decide (0xF000 ≤ i) && !openState s.lifecycle)
    || (s.lifecycle == 5 && !(decide (0x1000 ≤ i ∧ i ≤ 0x10FF) || i == 0x9000))

/-- R33, R40: why a request for an index is refused before its subindex is looked at. -/
def State.indexRefused (s : State) (r : Role) (i : Nat) : Option Nat :=
  if s.indexClosed i then some rClosed
  else if !dictExists i || !s.roleReaches r i then some rNoIndex else none

/-- R41: what Dormant serves. -/
def dormantReads (i : Nat) : Bool :=
  decide (0x1000 ≤ i ∧ i ≤ 0x11FF) || decide (0x1F01 ≤ i ∧ i ≤ 0x1F0F) || decide (0x8000 ≤ i ∧ i ≤ 0x81FF)
    || decide (0x8800 ≤ i ∧ i ≤ 0x88FF) || decide (0x9000 ≤ i ∧ i ≤ 0x90FF) || decide (0xA000 ≤ i ∧ i ≤ 0xA0FF)
def dormantWrites (i : Nat) : Bool := decide (0x8000 ≤ i ∧ i ≤ 0x80FF) || decide (0x8800 ≤ i ∧ i ≤ 0x88FF)
/-- The record that the session's last commit named lies where Dormant serves it. -/
def State.sessIn (s : State) (sess : Nat) : Bool := dormantWrites (Tbl.get {} s.dict.sess sess).index

/-- R41: the mode refuses the request; `named` is the record that a write of 1F00h.01 or .02 names. -/
def State.modeRefuses (s : State) (write : Bool) (i sub named sess : Nat) : Bool :=
  match s.mode.base with
  | .flush => write
  | .dormant =>
    if i = 0x1F00 then
      if write then !((sub == 1 || sub == 2) && dormantWrites named) else !((sub == 3 || sub == 4) && s.sessIn sess)
    else if write then !dormantWrites i else !dormantReads i
  | _ => false

/-! ### Values (R35, R37) -/

/-- The bytes of a value as an entry's type encodes it. -/
def DEnt.encode (e : DEnt) : Val → List Byte
  | .num n => leBytes e.ty.size n
  | .bytes l => l

/-- The value that bytes of an entry's type hold, or a wrong length. -/
def DEnt.decode (e : DEnt) (l : List Byte) : Option Val :=
  match e.ty with
  | .str => if l.length ≤ 255 then some (.bytes l) else none
  | .domain => some (.bytes l)
  | t => if l.length = t.size then some (.num (fromLe l)) else none

/-- A number in the Range column, an I32 as an integer. -/
def DEnt.int (e : DEnt) (n : Nat) : Int :=
  if e.ty = .i32 ∧ 2 ^ 31 ≤ n then (n : Int) - 2 ^ 32 else (n : Int)

/-- R35: a value lies within its entry's range or value list. -/
def State.inRange (s : State) (e : DEnt) (v : Val) : Bool :=
  match v with
  | .num n =>
    (e.ty != .bool || decide (n ≤ 1)) &&
    (match e.chk with
     | .any => true
     | .range lo hi => decide (lo ≤ e.int n) && decide (e.int n ≤ hi)
     | .oneOf l => l.contains n
     | .mult m lo hi => n % m == 0 && decide (lo ≤ n) && decide (n ≤ hi)
     | .zeroOr lo hi => n == 0 || (decide (lo ≤ n) && decide (n ≤ hi))
     | .aqa => decide (1 ≤ n % 4096) && decide (1 ≤ n / 2 ^ 16 % 4096) && n / 4096 % 16 == 0 && n / 2 ^ 28 == 0
     | .mapCache => n == 0 || (decide (4 ≤ n) && decide (n + 12 ≤ s.installedGiB))
     | .items _ _ => true)
  | .bytes l =>
    match e.chk with
    | .items k most => l.length % k == 0 && decide (l.length ≤ most)
    | _ => if e.ty = .str then decide (l.length ≤ 64) else decide (l.length ≤ 0x1000000)

/-! ### Reading (R36, R37, R45, R47, R51) -/

/-- The shadow of a record. -/
def State.shadow (s : State) (i : Nat) : Option Shadow := (s.dict.shadows.find? (fun x => x.1 == i)).map (fun x => x.2)
/-- The commits of a record that wait, oldest first, and the last of them, which alone will be in force (R49). -/
def State.commitsOf (s : State) (i : Nat) : List PendingCommit :=
  (s.dict.commits.filter (fun x => x.1 == i)).map (fun x => x.2)
def State.pendingCommit (s : State) (i : Nat) : Option PendingCommit := (s.commitsOf i).getLast?
/-- A field of a list of written fields. -/
def fieldIn (l : List (Nat × Val)) (sub : Nat) : Option Val := (l.find? (fun x => x.1 == sub)).map (fun x => x.2)

/-- The value of an entry in the store, or its default. -/
def State.storedVal (s : State) (i sub : Nat) : Val :=
  match Tbl.get none s.dict.stored (dkey i sub) with
  | some v => v
  | none => match dictEnt i sub with
    | some e => if e.ty = .str ∨ e.ty = .domain then .bytes [] else .num (dictDefault i sub)
    | none => .num 0

/-- What a read of an entry returns, and whether it is not yet in force. (DEDUCED, log entry 73) -/
def State.readVal (s : State) (sess i : Nat) (e : DEnt) : Val × Bool :=
  if i = 0x1F00 ∧ e.sub ≠ 6 then
    let c := Tbl.get {} s.dict.sess sess
    (.num (match e.sub with
      | 1 => c.index
      | 3 => c.result
      | 4 => c.reason
      | _ => 0), false)
  else if 0x7000 ≤ i ∧ i ≤ 0x701F ∧ e.sub = 0x12 then
    (.num (boolNat ((s.chan (i - 0x7000)).retrainWanted || (s.chan (i - 0x7000)).retraining)), false)
  else match s.statusVal i e.sub with
    | some v => (v, false)
    | none =>
      match e.cls with
      | .staged =>
        match (s.pendingCommit i).bind (fun x => fieldIn x.fields e.sub) with
        | some v => (v, true)
        | none => match (s.shadow i).bind (fun x => fieldIn x.fields e.sub) with
          | some v => (v, true)
          | none => (s.cfgVal i e.sub, false)
      | .live => (s.cfgVal i e.sub, false)
      | _ => (s.storedVal i e.sub, !(s.storedVal i e.sub == s.cfgVal i e.sub))

/-- R37: the packed fields of a record as a role reads them, with their CRC-32C. -/
def State.packRecord (s : State) (sess : Nat) (r : Role) (i : Nat) : List Byte × Bool :=
  let one (e : DEnt) : List Byte × Bool :=
    if e.ty = .domain then ([], false)
    else if !e.acc.reads r then (if e.ty = .str then [0#8] else List.replicate e.ty.size 0#8, false)
    else
      let v := s.readVal sess i e
      let b := e.encode v.1
      (if e.ty = .str then BitVec.ofNat 8 b.length :: b else b, v.2)
  let l := (dictRec i).map one
  (withCrc (l.map (fun x => x.1)).flatten, l.any (fun x => x.2))

/-- R37: the fields of a packed value, or a wrong length; `l` is what is left of it. -/
def unpackFields : List DEnt → List Byte → Option (List (Nat × List Byte))
  | [], [] => some []
  | [], _ => none
  | e :: es, l =>
    if e.ty = .domain then unpackFields es l
    else
      let head : Nat × Nat := if e.ty = .str then (1, (l.headD 0#8).toNat) else (0, e.ty.size)
      if l.length < head.1 + head.2 then none
      else (unpackFields es (l.drop (head.1 + head.2))).map
        (fun t => (e.sub, (l.drop head.1).take head.2) :: t)

/-! ### Frames (R58) -/

/-- What the engine answers. -/
structure Ans where
  result : Nat := 0
  pending : Bool := false
  index : Nat := 0
  ty : Nat := 0
  value : List Byte := []
  seq : Nat := 0
  deriving DecidableEq, Repr

/-- The response frame of a request. -/
def respFrame (f : DFrame) (a : Ans) : List Byte :=
  let idx := if f.op = 5 ∧ a.result = 0 then a.index else f.index
  withCrc ([1#8, BitVec.ofNat 8 f.op, BitVec.ofNat 8 (4 + 2 * boolNat a.pending), BitVec.ofNat 8 a.result]
    ++ leBytes 4 f.reqId ++ leBytes 2 idx ++ [BitVec.ofNat 8 f.sub, BitVec.ofNat 8 a.ty] ++ leBytes 4 f.offset
    ++ leBytes 2 a.value.length ++ leBytes 2 0 ++ a.value)

/-- The most VALUE bytes that a transport carries (R61, R62). -/
def pathLimit : DPath → Nat
  | .bdp _ _ => 1024
  | _ => 4096

/-- The request that a frame's bytes spell; a bad frame keeps its REQID for the answer. (DEDUCED, log entry 114) -/
def parseFrame (bdp : Bool) (limit : Nat) (l : List Byte) : Except Nat DFrame :=
  let b (i : Nat) : Nat := (l.getD i 0#8).toNat
  let req := fromLe ((l.drop 4).take 4)
  let len := fromLe ((l.drop 16).take 2)
  let write := b 1 == 2 || b 1 == 4 || b 1 == 0x10
  match checkCrc l with
  | none => .error req
  | some body =>
    if body.length < 20 then .error req
    else if b 0 ≠ 1 ∨ 8 ≤ b 2 ∨ b 18 ≠ 0 ∨ b 19 ≠ 0 ∨ (write = true ∧ limit < len) then .error req
    else if !([1, 2, 3, 4, 5].contains (b 1) || (b 1 == 0x10 && bdp)) then .error req
    else if body.length ≠ 20 + (if write then len else 0) then .error req
    else .ok { op := b 1, final := (b 2) % 2 == 1, reqId := req, index := fromLe ((l.drop 8).take 2), sub := b 10
               ty := b 11, offset := fromLe ((l.drop 12).take 4), length := len, value := body.drop 20 }

/-! ### Answers on the paths (R59 to R62) -/

/-- R156: mark the pages of data that a command returns, where its entry itself gives their addresses. -/
def State.deliverMark (s : State) (t len : Nat) : State :=
  let x := s.tag t
  let e := x.sqe
  let first := if e.psdt = 0 then min len (4096 - e.prp1 % 4096) else len
  if 4096 ≤ x.slice then s
  else if e.psdt ≠ 0 ∧ e.prp2 / 2 ^ 60 ≠ 0 then s
  else
    let s1 := s.dirtyMark x.slice e.prp1 first
    if first < len ∧ len ≤ first + 4096 then s1.dirtyMark x.slice e.prp2 (len - first) else s1

/-- Deliver data to a command's data buffer, through the fence. (DESIGN CHOICE, log entry 85) -/
def State.deliver (s : State) (t : Nat) (data : List Byte) : State :=
  if s.passes t then (s.emit (.hostBytes t data)).deliverMark t data.length else s.lateDiscard (s.tag t).slice

/-- Keep an answered request of a session for the window of R62. -/
def State.remember (s : State) (p : DPath) (req : Nat) (frame : List Byte) : State :=
  match p with
  | .bdp _ (some k) =>
    let mine := s.dict.dup.filter (fun x => x.1 == k)
    let others := s.dict.dup.filter (fun x => x.1 != k)
    { s with dict := { s.dict with dup :=
        others ++ (if 256 ≤ mine.length then mine.drop 1 else mine) ++ [(k, req, s.aon.now, frame)] } }
  | _ => s

/-- Put a response frame into the mailbox (R60). -/
def State.mailboxAnswer (s : State) (result : Nat) (pending : Bool) (frame : List Byte) : State :=
  { s with regs := { s.regs with dmbGo := false, dmbBusy := false, dmbDone := true, dmbResult := result
                                 dmbPending := pending, dmbLen := frame.length
                                 dmbBuf := Mem.writeList s.regs.dmbBuf 0 frame } }

/-- The requester of a late answer is still there: its command, its mailbox request, or its session (R411). A request in
band carries the command's admission order as its REQID. -/
def State.pathLive (s : State) (p : DPath) (req : Nat) : Bool :=
  match p with
  | .admin t => (s.tag t).admin && (s.tag t).st.uncommitted && ((s.tag t).sqe.opcode == 0xC8 || (s.tag t).order == req)
  | .mailbox _ => s.regs.dmbBusy
  | .mctp _ (some k) => s.mgmt.sessions.any (fun x => x.id == k && x.opened)
  | .bdp _ (some k) => s.mgmt.sessions.any (fun x => x.id == k && x.opened)
  | _ => true

/-- Answer a request: in band a result other than OK completes the command with 7h/80h + result (R59), and Slice Create
returns its slice (R143). -/
def State.answer (s : State) (p : DPath) (f : DFrame) (a : Ans) : State :=
  let frame := respFrame f a
  if !s.pathLive p f.reqId then s
  else match p with
  | .admin t =>
    if a.result ≠ 0 then s.commitTag t ⟨7, 0x80 + a.result⟩
    else match (s.tag t).sqe.opcode with
      | 0xC8 => (s.deliver t frame).succeed t
      | 0xC9 => s.succeed t (a.seq % 2 ^ 32)
      | 0xC0 => s.succeed t (a.index - 0x3000)
      | _ => s.succeed t
  | .mailbox _ => s.mailboxAnswer a.result a.pending frame
  | _ => (s.emit (.dictResponse p frame)).remember p f.reqId frame

/-- The frame that an append answers. -/
def NorOp.frame (o : NorOp) : DFrame :=
  { op := if o.sub = 0xFF ∧ !o.commit then 4 else 2, final := false, reqId := o.reqId
    index := if o.commit then 0x1F00 else o.index, sub := if o.commit then 1 else o.sub
    ty := 0, offset := 0, length := 0, value := [] }

/-- Answer the request that an append carries; an internal append has none. -/
def State.answerOp (s : State) (o : NorOp) (result : Nat) (pending : Bool) : State :=
  match o.path with
  | none => s
  | some p => s.answer p o.frame { result := result, pending := pending, seq := o.seq }

/-! ### Per-session commit results (R51) -/

/-- RESULT, and with a rejection its REASON. -/
def State.setResult (s : State) (sess result : Nat) (reason : Option Nat) : State :=
  let c := Tbl.get {} s.dict.sess sess
  { s with dict := { s.dict with sess := Tbl.set {} s.dict.sess sess { c with result := result, reason := reason.getD c.reason } } }

def State.setNamed (s : State) (sess i : Nat) : State :=
  let c := Tbl.get {} s.dict.sess sess
  { s with dict := { s.dict with sess := Tbl.set {} s.dict.sess sess { c with index := i } } }

/-! ### Shadows and staging (R36, R48) -/

/-- Drop a record's shadow. -/
def State.dropShadow (s : State) (i : Nat) : State :=
  { s with dict := { s.dict with shadows := s.dict.shadows.filter (fun x => x.1 != i) } }

/-- Replace or add fields. -/
def mergeFields (old new : List (Nat × Val)) : List (Nat × Val) :=
  old.filter (fun x => !(new.any (fun y => y.1 == x.1))) ++ new

/-- Write fields into a record's shadow for a session, which then owns it. -/
def State.shadowWrite (s : State) (sess i : Nat) (fs : List (Nat × Val)) : State :=
  let old := match s.shadow i with
    | some x => x.fields
    | none => []
  { s with dict := { s.dict with
      shadows := s.dict.shadows.filter (fun x => x.1 != i) ++ [(i, ⟨sess, mergeFields old fs, s.aon.now⟩)] } }

/-- Another session owns the record's shadow. -/
def State.shadowTaken (s : State) (sess i : Nat) : Bool :=
  match s.shadow i with
  | some x => x.owner != sess
  | none => false

/-- The staging buffer of an entry, or of a whole record (subindex FFh). (DEDUCED, log entry 113) -/
def State.stageOf (s : State) (i sub : Nat) : Option StageBuf := s.dict.staging.find? (fun b => b.index == i && b.sub == sub)
/-- Empty the staging buffer of an entry. -/
def State.stageDrop (s : State) (i sub : Nat) : State :=
  { s with dict := { s.dict with staging := s.dict.staging.filter (fun b => !(b.index == i && b.sub == sub)) } }
/-- Keep the bytes written so far of an entry. -/
def State.stageKeep (s : State) (b : StageBuf) : State :=
  { s.stageDrop b.index b.sub with dict := { s.dict with staging := (s.stageDrop b.index b.sub).dict.staging ++ [b] } }

/-- R36, R37: collect a segment. The answer is the whole content at FINAL, nothing yet, or a result code. -/
def State.segment (s : State) (sess : Nat) (f : DFrame) : State × Except Nat (Option (List Byte)) :=
  let old := s.stageOf f.index f.sub
  let data := match old with
    | some b => b.data
    | none => []
  if old.any (fun b => b.owner != sess) then (s, .error rShadowBusy)
  else if f.offset ≠ data.length then (s.stageDrop f.index f.sub, .error rOrder)
  else if f.final then (s.stageDrop f.index f.sub, .ok (some (data ++ f.value)))
  else (s.stageKeep ⟨sess, f.index, f.sub, data ++ f.value, s.aon.now⟩, .ok none)

/-! ### The store's budget and log (R43, R44, R53, R55) -/

/-- The 64-byte units of a log record with values of so many bytes. (DESIGN CHOICE, log entry 77) -/
def logRecordUnits (n : Nat) : Nat := ceilDiv (17 + n) 64

/-- The size of the fields of an append. -/
def fieldsSize (fs : List (Nat × Val)) : Nat :=
  (fs.map (fun x => match x.2 with
    | .num _ => 8
    | .bytes l => l.length + 1)).sum

/-- The copy whose log is active. -/
def State.activeCopy (s : State) : StoreCopy := if s.dict.activeB then s.dict.copyB else s.dict.copyA
def State.setActiveCopy (s : State) (c : StoreCopy) : State :=
  if s.dict.activeB then { s with dict := { s.dict with copyB := c } } else { s with dict := { s.dict with copyA := c } }

/-- Units of the appends that wait. -/
def State.waitingUnits (s : State) : Nat := (s.dict.appends.map (fun o => o.units)).sum

/-- R44, R55: a persistent write is refused: the log takes no append, or the budget is empty. -/
def State.storeRefuses (s : State) (units : Nat) : Option Nat :=
  if s.dict.appendFailed || decide (Config.logUnits < (s.activeCopy).units + s.waitingUnits + units) then some rStore
  else if s.dict.tokens = 0 then some rRetry else none

/-- Append a record: it takes a token where `token` says so, and the next store sequence. -/
def State.append (s : State) (o : NorOp) (token : Bool) : State :=
  let seq := s.dict.storeSeq + 1
  { s with dict := { s.dict with
      storeSeq := seq, tokens := if token then s.dict.tokens - 1 else s.dict.tokens
      appends := s.dict.appends ++ [{ o with seq := seq }] } }

/-! ### In force -/

/-- Put fields of a record in force. -/
def State.forceFields (s : State) (i : Nat) (fs : List (Nat × Val)) : State :=
  s.forEach fs (fun x s => s.putInForce i x.1 (some x.2))

/-- The key of a field of an append; a restore of the whole dictionary names its fields by their keys (R51). -/
def NorOp.key (o : NorOp) (sub : Nat) : Nat := if o.index = 0xFFFF then sub else dkey o.index sub

/-- The persistent fields of an append, with their keys. -/
def NorOp.saved (o : NorOp) : List (Nat × Val) :=
  (o.fields.map (fun x => (o.key x.1, x.2))).filter (fun x => (dictEnt (x.1 / 256) (x.1 % 256)).any (fun e => !e.vol))

/-- Put the fields of an append into the stored content. -/
def State.storeFields (s : State) (o : NorOp) : State :=
  s.forEach o.saved (fun x s => s.putStored (x.1 / 256) (x.1 % 256) (some x.2))

/-- R43, R53: the log record of an append is durable in the active copy. -/
def State.logDurable (s : State) (o : NorOp) : State :=
  (s.setActiveCopy { s.activeCopy with log := s.activeCopy.log ++ [o], units := s.activeCopy.units + o.units }).storeFields o

/-- Return a record to its defaults. -/
def State.recordClear (s : State) (i : Nat) : State :=
  let keep (x : Nat × Option Val) : Bool := x.1 / 256 != i
  { s with dict := { s.dict with stored := s.dict.stored.filter keep, inForce := s.dict.inForce.filter keep
                                 shadows := s.dict.shadows.filter (fun x => x.1 != i) } }

/-- R157: the fields of a slice's dirty-page log come in force: turning it on makes buffer A active, turning it
off posts and closes the active buffer. -/
def State.dlogSwitch (s : State) (n : Nat) (was : Bool) : State :=
  let now := s.cfgB (0x3000 + n) 0x20
  if !was && now then s.setSlice n { s.slice n with dlogActiveB := false }
  else if was && !now then (s.dirtyPostAll n).dlogClose n else s

/-- What a record's fields do by coming in force: a slice's pending interrupts that are no longer masked, its dirty
log, and the LTR values; waiting buffer requests under new reserves (R381). -/
def State.inForceHook (s : State) (i : Nat) (wasLog : Bool) : State :=
  if 0x3000 ≤ i ∧ i ≤ 0x3FFF then
    (((s.dlogSwitch (i - 0x3000) wasLog).sliceInterrupts (i - 0x3000))).ltrAll
  else if i = 0x2000 then s.ltrAll
  else if i = 0x7900 then s.bufServe
  else s

/-- A slice's ACTION is no field that comes in force. -/
def fieldKept (i : Nat) (x : Nat × Val) : Bool := !(decide (0x3000 ≤ i ∧ i ≤ 0x3FFF) && x.1 == 2)

/-- R49, R51: a commit of a record is in force: its session's RESULT, and the response unless it has been sent. -/
def State.commitDone (s : State) (i : Nat) (c : PendingCommit) : State :=
  let s1 := s.setResult c.session 1 none
  match c.path with
  | some p =>
    if c.answered then s1
    else s1.answer p { op := 2, final := false, reqId := c.reqId, index := 0x1F00, sub := 1, ty := 0, offset := 0
                       length := 0, value := [] } { index := i, seq := c.seq }
  | none => s1

/-- R49: the fields of a commit come in force at once, and it and the commits it superseded are done. -/
def State.commitForce (s : State) (i : Nat) (c : PendingCommit) (done : List PendingCommit) (rest : List PendingCommit) : State :=
  let wasLog := s.cfgB i 0x20
  let s1 := { s with dict := { s.dict with
    commits := s.dict.commits.filter (fun (x : Nat × PendingCommit) => x.1 != i) ++ rest.map (fun c => (i, c)) } }
  ((s1.forceFields i (c.fields.filter (fieldKept i))).inForceHook i wasLog).forEach done (fun c s => s.commitDone i c)

/-- R49: the boundary of a record's pending commits: the last of them is put in force. A slice's fields wait while an action
of its record waits or runs (R141). -/
def State.boundary (s : State) (i : Nat) : State :=
  let cs := s.commitsOf i
  match cs.getLast? with
  | none => s
  | some c => if cs.any (fun c => c.action != 0) then s else s.commitForce i c cs []

/-- The boundaries of every record that waits and that a test selects. -/
def State.boundaries (s : State) (p : Nat → Bool) : State :=
  s.forEach (((s.dict.commits.map (fun x => x.1)).dedup).filter p) (fun i s => s.boundary i)

end Sys2Proof.Machine
end

