-- ==== Sys2Proof/Machine/MapOps.lean ====
section
/-! DEFINITION. The map, its tiers and the Sepia journal (R217 to R239): pages, lookups, fills, frames, write-back,
changes of entries, journal records, checkpoints, deallocation. -/

namespace Sys2Proof.Machine

/-! ### Pages and entries (R217, R219, R233) -/

/-- A namespace has a map (R231, R233): every kind but a zoned one without a compressed map. -/
def State.hasMap (s : State) (n : Nat) : Bool := (s.ns n).kind != 1 || (s.ns n).compressedMap

/-- The map pages of one zone of a compressed zoned namespace. -/
def State.zonePages (s : State) (n : Nat) : Nat := ceilDiv (s.zsize n) 448

/-- The page that maps a block. -/
def State.mapPage (s : State) (n lba : Nat) : Nat :=
  if (s.ns n).kind = 1 then lba / s.zsize n * s.zonePages n + lba % s.zsize n / 448 else lba / 448

/-- The first block that a page maps, and the number of blocks. -/
def State.pageFirst (s : State) (n p : Nat) : Nat :=
  if (s.ns n).kind = 1 then p / s.zonePages n * s.zsize n + 448 * (p % s.zonePages n) else 448 * p
def State.pageCount (s : State) (n p : Nat) : Nat :=
  if (s.ns n).kind = 1 then min 448 (s.zsize n - 448 * (p % s.zonePages n)) else min 448 ((s.ns n).nsze - 448 * p)

/-- The granules of the slot that an entry maps. -/
def MEnt.granules (e : MEnt) : Nat := if e.trim || e.stale then 0 else slotGranules e.slot

/-- An entry's slot lies on flash. -/
def MEnt.onFlash (e : MEnt) : Bool := !e.trim && !e.stale && !e.buf

/-- The listed entries of a namespace whose block satisfies a test. -/
def State.entsOf (s : State) (n : Nat) (p : Nat → Bool) : List (Nat × MEnt) :=
  s.map.ents.filterMap (fun x =>
    if x.1 / 2 ^ 64 = n ∧ p (x.1 % 2 ^ 64) then some (x.1 % 2 ^ 64, x.2) else none)

/-- The listed entries of a page. -/
def State.pageEnts (s : State) (n p : Nat) : List (Nat × MEnt) := s.entsOf n (fun l => s.mapPage n l == p)

/-- The pages that a run of blocks meets. -/
def State.pagesOf (s : State) (n lba cnt : Nat) : List Nat :=
  ((List.range cnt).map (fun i => s.mapPage n (lba + i))).dedup

/-! ### The journal (R235 to R239) -/

/-- The journal region, in bytes. -/
def State.jrnRegion (s : State) : Nat := s.cfg 0x6000 2 * 2 ^ 30

/-- The first record and the length of the tail, in bytes. -/
def State.tailMark (s : State) : Nat × Nat := ((s.jrn.tail.head?.map (fun r => r.jseq)).getD 0, recBytes s.jrn.tail)

/-- R373: the merge buffer holds the last line of the tail, which is not yet whole.
(DESIGN CHOICE, log entry 101) -/
def State.tailMerges (s : State) : Bool := recBytes s.jrn.tail % 64 != 0 && s.jrn.merged != s.tailMark

/-- R237, R239: a change that needs a record waits: the tail or the region is full. -/
def State.jrnHeld (s : State) : Bool :=
  decide (s.cfg 0x6000 3 * 2 ^ 20 ≤ s.tailBytes) || decide (s.jrnRegion ≤ s.jrn.bytesFromReplay)

/-- Count a change that waits under R237 or R239. -/
def State.jrnWait (s : State) : State := { s with jrn := { s.jrn with tailWaits := satAdd 64 s.jrn.tailWaits 1 } }

/-- Start the programs of the open journal page, padded to 16 KiB. -/
def State.closeTail (s : State) : State :=
  if s.jrn.tail.isEmpty then s
  else { s with jrn := { s.jrn with tail := [], flushing := s.jrn.flushing ++ [s.jrn.tail]
                                    bytesFromReplay := s.jrn.bytesFromReplay + 16384 } }

/-- Number records from a sequence value on. -/
def numberRecs : Nat → List JRec → List JRec
  | _, [] => []
  | k, r :: t => { r with jseq := k } :: numberRecs (k + 1) t

/-- Append the records of one decision: consecutive JSEQs, no record crossing a page (R237, R299). -/
def State.journal (s : State) (rs : List JRec) : State :=
  if rs.isEmpty then s
  else
    let s1 := if 16384 < recBytes s.jrn.tail + recBytes rs then s.closeTail else s
    let fresh := s1.jrn.tail.isEmpty
    let tail := s1.jrn.tail ++ numberRecs s.jrn.next rs
    let s2 := { s1 with jrn := { s1.jrn with
      tail := tail, next := s.jrn.next + rs.length, tailSince := if fresh then s.aon.now else s1.jrn.tailSince
      changed := s1.jrn.changed || rs.any (fun r => r.ty != 7 && r.ty != 8) } }
    if 16384 < recBytes tail + 32 then s2.closeTail else s2

/-- The entry word of R217 without its CHK. -/
def MEnt.word (e : MEnt) : Nat :=
  e.loc % 2 ^ 40 + e.slot % 4 * 2 ^ 40 + e.mode % 4 * 2 ^ 42 + bitIf e.trim 44 + bitIf e.stale 45 + bitIf e.buf 46

/-- CRC-8, polynomial 07h (R217). -/
def crc8Bit (c : Nat) : Nat := if 128 ≤ c then ((c * 2) ^^^ 0x107) % 256 else c * 2
def crc8Byte (c : Nat) (b : Byte) : Nat := (List.range 8).foldl (fun c _ => crc8Bit c) (c ^^^ b.toNat)
def crc8 (l : List Byte) : Nat := l.foldl crc8Byte 0

/-- A map entry with its CHK. -/
def MEnt.encode (e : MEnt) (nsid lba : Nat) : Nat :=
  e.word + crc8 (leBytes 7 e.word ++ leBytes 4 nsid ++ leBytes 8 lba) * 2 ^ 56

/-- A directory entry of R222, with its CHK. -/
def Page.encode (x : Page) (nsid p : Nat) : Nat :=
  let w := (x.home.getD 0xFFFFFFFF) % 2 ^ 32 + x.granules % 2 ^ 11 * 2 ^ 32 + x.version % 256 * 2 ^ 43
    + bitIf x.null 51 + bitIf x.dirty 52 + bitIf x.pinned 53 + (boolNat x.inHmb + 2 * boolNat x.inDram) * 2 ^ 54
  w + crc8 (leBytes 7 w ++ leBytes 4 nsid ++ leBytes 8 p) * 2 ^ 56

def mapRec (n lba : Nat) (e : MEnt) : JRec := ⟨0, 1, n, lba, e.encode n lba, 0, 0⟩
def trimRec (n lba cnt : Nat) : JRec := ⟨0, 2, n, lba, cnt, 0, 0⟩
def uncorrRec (n lba cnt : Nat) : JRec := ⟨0, 3, n, lba, cnt, 0, 0⟩
def pageRec (n p : Nat) (x : Page) : JRec := ⟨0, 4, n, p, x.encode n p, 0, 0⟩

/-- The NVMe encoding of a zone state (R231). -/
def ZoneSt.code : ZoneSt → Nat
  | .empty => 1
  | .implicitOpen => 2
  | .explicitOpen => 3
  | .closed => 4
  | .readOnly => 13
  | .full => 14
  | .offline => 15

/-- ATTR of a zone descriptor (R231). -/
def Zone.attr (z : Zone) (compressed : Bool) : Nat :=
  bitIf z.finishedByController 0 + bitIf z.finishRecommended 1 + bitIf z.zrwa 2 + bitIf (!z.voids.isEmpty) 3
    + bitIf compressed 4

def State.zoneRec (s : State) (n z : Nat) : JRec :=
  let x := s.zone n z
  ⟨0, 5, n, z + x.st.code * 2 ^ 32 + x.attr (s.ns n).compressedMap * 2 ^ 36, x.wp + x.programmed * 2 ^ 32, x.extent, x.charge⟩

/-- Append the ZONE record of a zone; the descriptor keeps its JSEQ. -/
def State.zoneJournal (s : State) (n z : Nat) : State :=
  (s.setZone n z { s.zone n z with jseq := s.jrn.next }).journal [s.zoneRec n z]

/-- An NS record: `op` is 0 create, 1 delete, 2 format. -/
def State.nsJournal (s : State) (n op : Nat) : State :=
  let x := s.ns n
  s.journal [⟨0, 6, n, x.kind + x.lbaf * 4 + op * 2 ^ 10, x.nsze, s.ncap n, 0⟩]

/-! ### What durable records give (R235, R295) -/

/-- The entry of a word of R217. -/
def MEnt.ofWord (w : Nat) : MEnt :=
  { loc := w % 2 ^ 40, slot := w / 2 ^ 40 % 4, mode := w / 2 ^ 42 % 4, trim := w.testBit 44, stale := w.testBit 45
    buf := w.testBit 46 }

/-- The durable part of a directory entry of R222. -/
def Page.ofWord (w : Nat) : Page :=
  { home := if w % 2 ^ 32 = 0xFFFFFFFF then none else some (w % 2 ^ 32), version := w / 2 ^ 43 % 256, null := w.testBit 51
    pinned := w.testBit 53 }

/-- The state of an NVMe code of R231. -/
def ZoneSt.ofCode (c : Nat) : ZoneSt :=
  if c = 2 then .implicitOpen else if c = 3 then .explicitOpen else if c = 4 then .closed else if c = 13 then .readOnly
  else if c = 14 then .full else if c = 15 then .offline else .empty

/-- The descriptor that a ZONE record gives. -/
def zoneOfRec (r : JRec) : Zone :=
  let at_ := r.a / 2 ^ 36
  { st := ZoneSt.ofCode (r.a / 2 ^ 32 % 16), adm := r.b % 2 ^ 32, wp := r.b % 2 ^ 32, programmed := r.b / 2 ^ 32
    finishedByController := at_.testBit 0, finishRecommended := at_.testBit 1, zrwa := at_.testBit 2
    extent := r.c, charge := r.d, jseq := r.jseq }

/-- Drop the entries of a run of blocks. -/
def entsDrop (t : Tbl MEnt) (n : Nat) (p : Nat → Bool) : Tbl MEnt :=
  t.filter (fun x => !(x.1 / 2 ^ 64 == n && p (x.1 % 2 ^ 64)))

/-- Apply one durable record. -/
def Durable.apply (d : Durable) (r : JRec) : Durable :=
  match r.ty with
  | 1 => { d with ents := Tbl.set {} d.ents (bkey r.nsid r.a) (MEnt.ofWord r.b) }
  | 2 => { d with ents := entsDrop d.ents r.nsid (fun l => decide (r.a ≤ l ∧ l < r.a + r.b)) }
  | 3 =>
    let put (t : Tbl MEnt) (i : Nat) : Tbl MEnt := Tbl.set {} t (bkey r.nsid (r.a + i)) { trim := false, stale := true, slot := 3 }
    { d with ents := (List.range r.b).foldl put d.ents }
  | 4 => { d with pages := Tbl.set {} d.pages (pkey r.nsid r.a) (Page.ofWord r.b) }
  | 5 => { d with zones := Tbl.set {} d.zones (zkey r.nsid (r.a % 2 ^ 32)) (zoneOfRec r) }
  | 6 => { d with ents := entsDrop d.ents r.nsid (fun _ => true)
                  zones := d.zones.filter (fun x => x.1 / 2 ^ 32 != r.nsid)
                  pages := d.pages.filter (fun x => x.1 / 2 ^ 56 != r.nsid) }
  | _ => d

/-! ### The system area (R291, R293) -/

/-- Rewrite the system area whole: both superblocks erased and given one new image. -/
def State.systemRewrite (s : State) : State :=
  { s with recov := { s.recov with imageSeq := s.recov.imageSeq + 1, rewrites := s.recov.rewrites + 1
                                   sectionRecords := 0, stopValid := false } }

/-- Pages of a system superblock beyond the last 64. -/
def State.systemPages (s : State) : Nat :=
  (Config.channels - s.parityMembers) * s.planes * s.wordlines - 64

/-- Append a section record to both system superblocks. -/
def State.section_ (s : State) : State :=
  let s1 := { s with recov := { s.recov with imageSeq := s.recov.imageSeq + 1
                                             sectionRecords := s.recov.sectionRecords + 1 } }
  if s1.profile && decide (s.systemPages ≤ s1.recov.sectionRecords) then s1.systemRewrite else s1

/-- R292: write the namespace table. -/
def State.nsTableWrite (s : State) : State :=
  { s with recov := { s.recov with nsTable := s.nss } }.section_

/-- R290, R291: draw program sequence numbers; the next ceiling is written before the counter passes it. -/
def State.seqDraw (s : State) (k : Nat) : State :=
  let next := s.recov.seqNext + k
  let s1 := if s.recov.seqCeil < next then
      { s with recov := { s.recov with seqCeil := (next / 2 ^ 32 + 1) * 2 ^ 32 } }.section_
    else s
  { s1 with recov := { s1.recov with seqNext := next % 2 ^ 56 } }

/-! ### Write-back (R227, R228) -/

/-- The dirty pages, lowest REC_JSEQ first. -/
def State.dirtyPages (s : State) : List (Nat × Page) :=
  sortBy (fun a b => a.2.recJseq ≤ b.2.recJseq) (s.map.pages.filter (fun x => x.2.dirty && !x.2.writingBack))

/-- The number of dirty frames. -/
def State.dirtyCount (s : State) : Nat := (s.map.pages.filter (fun x => x.2.dirty)).length

/-- R228: a map home slot that the directory no longer names. -/
def State.homeRelease (s : State) (h : Option Nat) : State :=
  match h with
  | some k => { s with map := { s.map with freedHomes := s.map.freedHomes ++ [(k, s.jrn.next)] } }
  | none => s

/-- Drop the lines of a page from the line cache. -/
def State.linesDrop (s : State) (k : Nat) : State :=
  { s with map := { s.map with lines := s.map.lines.filter (fun x => x.1 != k) } }

/-- A page turns NULL: its frame and its host-memory copy go, its HOME is released. -/
def State.pageNull (s : State) (n p : Nat) : State :=
  let x := s.page n p
  ((s.homeRelease x.home).linesDrop (pkey n p)).setPage n p { version := x.version }

/-- Steps 1 and 2 of R227: copy a dirty page; a copy of TRIM entries alone turns the page NULL at once. -/
def State.writebackStart (s : State) (n p : Nat) : State :=
  let x := s.page n p
  if (s.pageEnts n p).isEmpty && !x.pinned then
    let s1 := s.pageNull n p
    s1.journal [pageRec n p (s1.page n p)]
  else s.setPage n p { x with dirty := false, inHmb := false, writingBack := true, changedAfterCopy := false
                              copyRec := x.recJseq }

/-- R226, R227: start write-backs of the pages with the lowest REC_JSEQ until a count of dirty frames is left. -/
def State.writebackTo (s : State) : Nat → Nat → State
  | 0, _ => s
  | fuel + 1, left =>
    if s.dirtyCount ≤ left then s
    else match s.dirtyPages with
      | [] => s
      | x :: _ => (s.writebackStart (x.1 / 2 ^ 56) (x.1 % 2 ^ 56)).writebackTo fuel left

/-- R227: write-back starts above DIRTY_HIGH per cent of the frames and runs down to DIRTY_LOW. -/
def State.writebackPump (s : State) : State :=
  let s := s.boundary 0x6001
  let d := s.dirtyCount
  if s.cfg 0x6001 6 * s.frames < 100 * d then s.writebackTo d (s.cfg 0x6001 7 * s.frames / 100) else s

/-- Step 3 of R227. -/
def State.writebackDone (s : State) (n p slot : Nat) (ok : Bool) : State :=
  let x := s.page n p
  if ok then
    let y := { x with home := some slot, version := (x.version + 1) % 256, writingBack := false
                      dirty := x.changedAfterCopy, changedAfterCopy := false }
    let s1 := ((s.homeRelease x.home).setPage n p y).journal [pageRec n p y]
    { s1 with map := { s1.map with writebacks := satAdd 64 s1.map.writebacks 1 } }.writebackPump
  else s.setPage n p { x with dirty := true, recJseq := x.copyRec, changedAfterCopy := x.changedAfterCopy }

/-! ### Checkpoints (R238, R239) -/

/-- The lowest REC_JSEQ of a dirty page, or a bound. -/
def State.lowestRec (s : State) (b : Nat) : Nat :=
  (s.map.pages.filter (fun x => x.2.dirty || x.2.writingBack)).foldl
    (fun m x => min m (if x.2.dirty && !x.2.writingBack then x.2.recJseq else min x.2.recJseq x.2.copyRec)) b

/-- Begin a checkpoint: CKPT_BEGIN, the segments and the root, CKPT_END with the replay start. The valid
counts and the block read counters are saved with it (R248, R263). (DESIGN CHOICE, log entry 89) -/
def State.checkpoint (s : State) : State :=
  if s.jrn.ckptRunning then s
  else
    let b := s.jrn.next
    let no := s.jrn.ckptNo + 1
    let s1 := s.journal [⟨0, 7, 0, no, 0, 0, 0⟩]
    let r := s1.lowestRec b
    let e := s1.jrn.next
    let s2 := s1.journal [⟨0, 8, 0, r, Config.rootSlot no, 0, 0⟩]
    { s2 with
      jrn := { s2.jrn with ckptRunning := true, ckptBegin := b, ckptEnd := e, ckptStart := r, ckptNo := no }
      media := { s2.media with sbs := s2.media.sbs.map (fun x => (x.1, { x.2 with savedReads := x.2.reads })) } }

/-- R238, R239: what the journal's length asks for. -/
def State.jrnWatch (s : State) : State :=
  let high := decide (3 * s.jrnRegion ≤ 4 * s.jrn.bytesFromReplay)
  let s1 : State :=
    if high && !s.jrn.over75 then
      let s0 := { s with jrn := { s.jrn with over75 := true, forced := satAdd 32 s.jrn.forced 1 } }
      (s0.writebackTo s0.dirtyCount 0).checkpoint
    else { s with jrn := { s.jrn with over75 := high } }
  let s2 : State := s1.boundary 0x6001
  if decide (s2.cfg 0x6001 4 * 2 ^ 20 < s2.jrn.bytesFromReplay) then s2.checkpoint else s2

/-- CKPT_END is durable: the replay start moves; journal pages below it and slots released before b go. -/
def State.checkpointDone (s : State) : State :=
  let j := s.jrn
  let log := j.log.filter (fun r => decide (j.ckptStart ≤ r.jseq))
  { s with
    jrn := { j with ckptRunning := false, replayStart := j.ckptStart, log := log
                    bytesFromReplay := 16384 * ceilDiv (recBytes log) 16384 + 16384 * j.flushing.length
                    checkpoints := satAdd 32 j.checkpoints 1, lastCkptAt := s.aon.now
                    changed := (log ++ j.flushing.flatten ++ j.tail).any (fun r =>
                      decide (j.ckptEnd < r.jseq) && r.ty != 7 && r.ty != 8) }
    map := { s.map with base := (j.log.filter (fun (r : JRec) => decide (r.jseq < j.ckptStart))).foldl Durable.apply s.map.base
                        freedHomes := s.map.freedHomes.filter (fun x => decide (j.ckptBegin ≤ x.2)) } }.jrnWatch

/-! ### Frames (R226, R229) -/

/-- Host memory frames that Ochre may use. -/
def State.hmbFrames (s : State) : Nat :=
  if s.cfgB 0x6001 1 then min (s.map.hmb0 + s.map.hmb1) (s.cfg 0x6001 2 * 2 ^ 18) else 0
def State.hmbUsed (s : State) : Nat := (s.map.pages.filter (fun x => x.2.inHmb)).length

/-- A command that has not committed takes or changes entries of a page. -/
def State.pageWanted (s : State) (k : Nat) : Bool :=
  let n := k / 2 ^ 56
  let run := [(s.pageFirst n (k % 2 ^ 56), s.pageCount n (k % 2 ^ 56))]
  s.tags.any (fun x => x.2.st.uncommitted && !x.2.admin && x.2.sqe.nsid == n && x.2.built
    && (rangesMeet x.2.writes run || (!x.2.mapTaken && rangesMeet x.2.reads run)))

/-- A frame may be evicted. -/
def State.evictable (s : State) (k : Nat) (x : Page) : Bool :=
  x.inDram && !x.dirty && !x.pinned && !x.writingBack && !(s.map.fills.any (fun f => pkey f.nsid f.page == k))
    && !s.pageWanted k

/-- Evict a frame, posting a copy to the host-memory tier where it has room and none. -/
def State.evict (s : State) (k : Nat) : State :=
  let x := Tbl.get {} s.map.pages k
  let copy := !x.inHmb && decide (s.hmbUsed < s.hmbFrames)
  { s.linesDrop k with map := { (s.linesDrop k).map with
      pages := Tbl.set {} s.map.pages k { x with inDram := false, referenced := false, inHmb := x.inHmb || copy }
      hmbCopies := if copy then satAdd 64 s.map.hmbCopies 1 else s.map.hmbCopies
      evictions := satAdd 64 s.map.evictions 1
      hand := k } }

/-- The clock: clear referenced bits as it passes, and take the first evictable frame without one. -/
def State.clock (s : State) : List Nat → State × Bool
  | [] => (s, false)
  | k :: t =>
    let x := Tbl.get {} s.map.pages k
    if s.evictable k x && !x.referenced then (s.evict k, true)
    else State.clock { s with map := { s.map with pages := Tbl.set {} s.map.pages k { x with referenced := false } } } t

/-- Frames in use: resident pages and fills under way. -/
def State.framesUsed (s : State) : Nat := s.dramPages.length + s.map.fills.length

/-- Resident pages in clock order, behind the hand. -/
def State.clockOrder (s : State) : List Nat :=
  let l := s.dramPages.map (fun x => x.1)
  let r := l.filter (fun k => decide (s.map.hand < k)) ++ l.filter (fun k => decide (k ≤ s.map.hand))
  (r ++ r).take 512

/-- R226: find a frame. A scan that finds none is an exception, which starts write-back of the dirty frames. -/
def State.frameTake (s : State) : State × Bool :=
  if s.framesUsed < s.frames then (s, true)
  else
    let r := s.clock s.clockOrder
    if r.2 then r
    else
      let s1 := { r.1 with map := { r.1.map with placementExc := satAdd 32 r.1.map.placementExc 1 } }
      (s1.writebackTo s1.dirtyCount 0, false)

/-- R230: a prefetch takes a free frame, or an evictable one whose referenced bit is clear. -/
def State.frameTakeIdle (s : State) : State × Bool :=
  if s.framesUsed < s.frames then (s, true)
  else match s.clockOrder.find? (fun k =>
      let x := Tbl.get {} s.map.pages k
      s.evictable k x && !x.referenced) with
    | some k => (s.evict k, true)
    | none => (s, false)

/-! ### Lookups, fills and prefetch (R223, R224, R230) -/

/-- Start a fill, from the host-memory tier where it holds a copy. -/
def State.fillStart (s : State) (n p cls : Nat) (prefetch : Bool) (waiters : List Nat) : State :=
  let hmb := (s.page n p).inHmb
  { s with map := { s.map with
      fills := s.map.fills ++ [⟨n, p, cls, hmb, prefetch, waiters⟩]
      hmbFills := if hmb then satAdd 64 s.map.hmbFills 1 else s.map.hmbFills
      flashFills := if hmb then s.map.flashFills else satAdd 64 s.map.flashFills 1
      prefetches := if prefetch then satAdd 64 s.map.prefetches 1 else s.map.prefetches } }

/-- A page is in DRAM or is NULL. -/
def State.pageHere (s : State) (n p : Nat) : Bool := (s.page n p).null || ((s.page n p).inDram && !(s.page n p).rebuilding)

/-- Ask for a page on behalf of a tag: join the fill, start one, or wait for a frame or a fill entry. -/
def State.fillAsk (s : State) (n p cls t : Nat) : State :=
  if s.pageHere n p then s
  else if s.map.fills.any (fun f => f.nsid == n && f.page == p) then
    { s with map := { s.map with fills := s.map.fills.map (fun f =>
        if f.nsid = n ∧ f.page = p then { f with waiters := f.waiters ++ [t], cls := if cls = 0 then 0 else f.cls } else f) } }
  else if 4096 ≤ s.map.fills.length then s
  else
    let r := if (s.page n p).inDram then (s, true) else s.frameTake
    if r.2 then r.1.fillStart n p cls false [t] else r.1

/-- R230: note the page that a slice looked up, and fetch the pages that follow a sequential one. -/
def State.detect (s0 : State) (slice n p cls : Nat) : State :=
  let s := s0.boundary 0x6001
  let hit := s.map.detectors.any (fun d => d.1 == slice && d.2.1 == n && d.2.2.1 + 1 == p
    && decide (s.aon.now ≤ d.2.2.2 + msec))
  let others := s.map.detectors.filter (fun d => !(d.1 == slice && d.2.1 == n && (d.2.2.1 + 1 == p || d.2.2.1 == p)))
  let mine := others.filter (fun d => s.slHome d.1 == s.slHome slice)
  let kept := if 64 ≤ mine.length then others.erase (mine.headD (0, 0, 0, 0)) else others
  let s1 := { s with map := { s.map with detectors := kept ++ [(slice, n, p, s.aon.now)] } }
  if hit then
    s1.forEach (List.range (s1.cfg 0x6001 3)) (fun i s =>
      let q := p + 1 + i
      if s.pageHere n q || decide (s.mapPages n ≤ q) || s.map.fills.any (fun f => f.nsid == n && f.page == q)
          || decide (4096 ≤ s.map.fills.length) then s
      else
        let r := s.frameTakeIdle
        if r.2 then r.1.fillStart n q (if cls = 2 then 2 else 1) true [] else r.1)
  else s1

/-- Count the lookup of one block whose page is here, in the line cache or in DRAM.
(DESIGN CHOICE, log entry 88) -/
def State.lookup (s : State) (n lba : Nat) : State :=
  let map := s.hasMap n
  let p := s.mapPage n lba
  let k := if map then pkey n p else zkey n (lba / s.zsize n) + 2 ^ 80
  let ln := if map then (lba - s.pageFirst n p) / 7 else 0
  let m : MapSt := { s.map with lookups := satAdd 64 s.map.lookups 1 }
  let s1 := if map && !(s.page n p).null then s.setPage n p { s.page n p with referenced := true } else s
  if (map && (s.page n p).null) || s.map.lines.contains (k, ln) then
    { s with map := { m with lineHits := satAdd 64 m.lineHits 1, pages := s1.map.pages } }
  else
    let lines := if 131072 ≤ m.lines.length then m.lines.drop 1 else m.lines
    { s with map := { m with dramHits := satAdd 64 m.dramHits 1, lines := lines ++ [(k, ln)], pages := s1.map.pages } }

/-! ### Changes of entries (R196, R225, R248) -/

/-- Change a superblock's count of valid granules; a zone superblock counts the charges of its zones. -/
def State.validAdd (s : State) (e : MEnt) : State :=
  if e.onFlash && s.profile && !((s.sb (s.locSb e.loc)).kind = .zone) then
    let k := s.locSb e.loc
    s.setSb k { s.sb k with valid := (s.sb k).valid + e.granules }
  else s
def State.validSub (s : State) (e : MEnt) : State :=
  if e.onFlash && s.profile && !((s.sb (s.locSb e.loc)).kind = .zone) then
    let k := s.locSb e.loc
    s.setSb k { s.sb k with valid := (s.sb k).valid - e.granules }
  else s

/-- A page changes in DRAM: it is not NULL, holds a frame, and is dirty from a JSEQ on. -/
def State.pageDirty (s : State) (n p jseq : Nat) : State :=
  let x := s.page n p
  s.setPage n p { x with
    null := false, inDram := true, referenced := true, dirty := true
    recJseq := if x.dirty && !(x.writingBack && !x.changedAfterCopy) then x.recJseq else jseq
    changedAfterCopy := x.changedAfterCopy || x.writingBack }

/-- Put an entry in place: the counts of the page and of the superblocks follow. -/
def State.entryPut (s : State) (n lba jseq : Nat) (e : MEnt) : State :=
  let old := s.ment n lba
  let p := s.mapPage n lba
  let s1 := ((s.validSub old).validAdd e).setMent n lba e
  if s.hasMap n then
    let s2 := s1.pageDirty n p jseq
    s2.setPage n p { s2.page n p with granules := (s2.page n p).granules + e.granules - old.granules }
  else s1

/-- A host change of an entry: U_i and NUSE follow (R196, R198). -/
def State.hostPut (s : State) (n lba : Nat) (e : MEnt) : State :=
  let old := s.ment n lba
  let x := s.ns n
  let s1 := s.setNs n { x with used := x.used + e.granules - old.granules
                               nuse := x.nuse + boolNat (old.trim && !e.trim) - boolNat (!old.trim && e.trim) }
  s1.entryPut n lba s.jrn.next e

/-- A dropped move is counted (R225). -/
def State.moveDropped (s : State) : State :=
  { s with map := { s.map with movesDropped := satAdd 64 s.map.movesDropped 1 } }

/-- R225: a move of a block from a buffer handle or a flash location to a flash location. It is applied only
while the entry still names its source. The record is appended by the caller. -/
def State.moveFits (s : State) (n lba : Nat) (fromBuf : Bool) (src : Nat) : Bool :=
  let e := s.ment n lba
  !e.trim && !e.stale && e.buf == fromBuf && e.loc == src

/-- Set a run of blocks to TRIM entries (R234): pages wholly inside turn NULL, the others change in part. -/
def State.trimRun (s : State) (n lba cnt : Nat) : State :=
  let inside (l : Nat) : Bool := decide (lba ≤ l ∧ l < lba + cnt)
  let gone := s.entsOf n inside
  let whole := (s.pagesOf n lba cnt).filter (fun p =>
    decide (lba ≤ s.pageFirst n p ∧ s.pageFirst n p + s.pageCount n p ≤ lba + cnt))
  let s1 := s.forEach gone (fun x s => s.hostPut n x.1 {})
  (s1.forEach whole (fun p s => if (s.page n p).null then s else s.pageNull n p)).journal [trimRec n lba cnt]

/-- Set a run of blocks STALE (Write Uncorrectable, R130). (DESIGN CHOICE, log entry 90) -/
def State.staleRun (s : State) (n lba cnt : Nat) : State :=
  (s.forEach (List.range cnt) (fun i s => s.hostPut n (lba + i) { trim := false, stale := true, slot := 3 })).journal
    [uncorrRec n lba cnt]

/-- R130: acknowledged blocks found lost. -/
def State.loseRun (s : State) (n lba cnt : Nat) : State := (s.staleRun n lba cnt).deferredError n lba cnt

/-- A journal record since the replay start sets the block's entry. -/
def State.recorded (s : State) (n lba : Nat) : Bool :=
  (s.jrn.log ++ s.jrn.flushing.flatten ++ s.jrn.tail).any (fun r =>
    decide (s.jrn.replayStart ≤ r.jseq) && r.nsid == n &&
      ((r.ty == 1 && r.a == lba) || ((r.ty == 2 || r.ty == 3) && decide (r.a ≤ lba ∧ lba < r.a + r.b))))

/-- R300: a lost map page: every entry that no record sets is lost. -/
def State.pageLost (s : State) (n p : Nat) : State :=
  let ls := ((List.range (s.pageCount n p)).map (fun i => s.pageFirst n p + i)).filter (fun l => !s.recorded n l)
  let s1 := s.setPage n p { s.page n p with null := false, inDram := true, rebuilding := false, lost := true }
  s1.forEach ls (fun l s => s.loseRun n l 1)

/-- R220: a line or an entry failed its check. -/
def State.checkFailed (s : State) (n p : Nat) : State :=
  { s with map := { s.map with checkFails := satAdd 32 s.map.checkFails 1 } }.rasRecord 0x07 n 0 0 0 [n, p]

/-! ### Zone extents (R232, R253) -/

/-- Blocks in a unit of a zone: one wordline of one plane. (DESIGN CHOICE, log entry 63) -/
def State.unitBlocks (s : State) : Nat := s.denseBits * s.pageKib / 4

/-- The lanes that a zone of a size uses on a superblock of so many data members. -/
def State.laneWidth (s : State) (zs d : Nat) : Nat :=
  let lane := d * s.wordlines * s.unitBlocks
  if zs ≤ lane then 1 else if zs ≤ 2 * lane then 2 else 4

/-- The flash place of block b of a zone with an extent. -/
def State.zoneLoc (s : State) (n z b : Nat) : Nat :=
  let e := (s.zone n z).extent
  let k := s.locSb e
  let ds := s.dataMembers k
  let d := ds.length
  let w := s.laneWidth (s.zsize n) d
  let u := b / s.unitBlocks
  let g := 4 * (b % s.unitBlocks)
  let wl := s.locPage e / s.denseBits + u / (d * w)
  s.locOf (ds.getD (u % d) 0) (s.locPos e) (s.locBlock e) (wl * s.denseBits + g / s.pageKib)
    (s.locPlane e + u / d % w) (g % s.pageKib)

/-- The newest committed copy of a block in the write buffer. -/
def State.wbufOf (s : State) (n lba : Nat) : Option Nat :=
  (s.wbuf.blks.filter (fun x => x.2.committed && x.2.nsid == n && x.2.lba == lba)).foldl
    (fun (m : Option Nat) x => match m with
      | none => some x.1
      | some h => if (s.wblk h).seq ≤ x.2.seq then some x.1 else some h) none

/-- A block of a zone lies in a voided range. -/
def Zone.void (z : Zone) (b : Nat) : Bool := z.voids.any (fun v => decide (v.1 ≤ b ∧ b < v.1 + v.2))

/-- R218, R232, R233: where a block's data comes from, with the mode and the slot of its entry. -/
def State.locate (s : State) (n lba : Nat) : Src × Nat × Nat :=
  let e := s.ment n lba
  let byEntry : Src × Nat × Nat :=
    if e.stale then (.stale, 0, 3)
    else if e.trim then (.zeros, 0, 3)
    else if e.buf then (.buffer e.loc, e.mode, e.slot)
    else (.flash e.loc, e.mode, e.slot)
  if (s.ns n).kind ≠ 1 then byEntry
  else
    let z := s.zone n (lba / s.zsize n)
    let b := lba % s.zsize n
    let zr := z.zrwa && decide (z.wp ≤ b) && z.zrwaWritten.contains b
    if (s.ns n).compressedMap then (if b < z.wp ∨ zr then byEntry else (.zeros, 0, 3))
    else if z.void b then (.zeros, 0, 3)
    else if e.stale ∧ (b < z.wp ∨ zr) then (.stale, 0, 3)
    else if b < z.programmed then (.flash (s.zoneLoc n (lba / s.zsize n) b), 0, 3)
    else if b < z.wp ∨ zr then
      match s.wbufOf n lba with
      | some h => (.buffer h, 0, 3)
      | none => (.zeros, 0, 3)
    else (.zeros, 0, 3)

end Sys2Proof.Machine
end

