-- ==== Sys2Proof/Machine/ZoneOps.lean ====
section
/-! DEFINITION. The zone table (R199 to R206, R231 to R233, R253 to R255): charges, extents, state changes, the
write-pointer rules, and the window of a ZRWA. -/

namespace Sys2Proof.Machine

/-! ### Charges (R203) -/

/-- The charge of a zone follows into U_i and into the valid count of the superblock of its extent. -/
def State.setCharge (s : State) (n z c : Nat) : State :=
  let x := s.zone n z
  let y := s.ns n
  let s1 := (s.setNs n { y with used := y.used + c - x.charge }).setZone n z { x with charge := c }
  if s1.profile && !(x.charge == 0 && c == 0) then
    let k := s1.locSb x.extent
    s1.setSb k { s1.sb k with valid := (s1.sb k).valid + c - x.charge }
  else s1

/-- The granules of the written slots of a zone. -/
def State.zoneGranules (s : State) (n z : Nat) : Nat :=
  if (s.ns n).compressedMap then
    ((s.entsOf n (fun l => l / s.zsize n == z)).map (fun e => e.2.granules)).sum
  else 4 * (s.zone n z).nuse

/-- A zone's charge falls to the granules of its written slots. -/
def State.trimCharge (s : State) (n z : Nat) : State := s.setCharge n z (s.zoneGranules n z)

/-! ### State changes (R204): each is recorded in the journal -/

def State.zoneTo (s : State) (n z : Nat) (st : ZoneSt) : State :=
  (s.setZone n z { s.zone n z with st := st }).zoneJournal n z

/-- The changed-zone event: the zone joins the Changed Zone List and the controllers of its namespace hear of it. -/
def State.zoneChanged (s : State) (n z : Nat) : State :=
  let x := s.ns n
  let s1 := s.setNs n { x with changedZones := if x.changedZones.contains z then x.changedZones else x.changedZones ++ [z] }
  s1.forEach x.attached (fun c s => s.raise c ⟨2, 0xEF, 0xBF, none⟩)

/-- The blocks of a run that no write reached. -/
def unwritten (l : List Nat) (lo n : Nat) : List (Nat × Nat) :=
  ((List.range n).map (fun i => lo + i)).filterMap (fun b => if l.contains b then none else some (b, 1))

/-- R206: the write pointer of a ZRWA zone advances; blocks below it that no write reached are voided. -/
def State.zrwaAdvance (s : State) (n z w : Nat) : State :=
  let x := s.zone n z
  if w ≤ x.wp then s
  else s.setZone n z { x with
    wp := w, adm := max x.adm w, voids := x.voids ++ unwritten x.zrwaWritten x.wp (w - x.wp)
    zrwaWritten := x.zrwaWritten.filter (fun b => decide (w ≤ b)) }

/-- One past the highest block written in a ZRWA. -/
def Zone.zrwaEnd (x : Zone) : Nat := x.zrwaWritten.foldl (fun m b => max m (b + 1)) x.wp

/-- Flush and release a ZRWA. -/
def State.zrwaRelease (s : State) (n z : Nat) : State :=
  if (s.zone n z).zrwa then
    let s1 := s.zrwaAdvance n z (s.zone n z).zrwaEnd
    s1.setZone n z { s1.zone n z with zrwa := false, zrwaWritten := [] }
  else s

/-- Finish: the write pointer goes to the zone end, unwritten blocks read as deallocated, the charge is trimmed. -/
def State.zoneFinish (s : State) (n z : Nat) : State :=
  let zs := s.zsize n
  let s1 := s.zrwaRelease n z
  let x := s1.zone n z
  let s2 := s1.setZone n z { x with wp := zs, adm := zs, finishRecommended := false
                                    voids := if x.adm < zs then x.voids ++ [(x.adm, zs - x.adm)] else x.voids }
  (s2.trimCharge n z).zoneTo n z .full

/-- Release the pins of a zone's map pages, and turn them NULL when its data is gone. -/
def State.zoneUnpin (s : State) (n z : Nat) (drop : Bool) : State :=
  if (s.ns n).compressedMap then
    s.forEach ((List.range (s.zonePages n)).map (fun q => z * s.zonePages n + q)) (fun p s =>
      if drop then s.pageNull n p else s.setPage n p { s.page n p with pinned := false })
  else s

/-- The entries of a zone go. -/
def State.zoneForget (s : State) (n z : Nat) : State :=
  { s with map := { s.map with ents := s.map.ents.filter (fun x =>
      !(x.1 / 2 ^ 64 == n && x.1 % 2 ^ 64 / s.zsize n == z)) } }

/-- Write-buffer copies whose data is void: they are not programmed, and go once nothing reads them.
(DEDUCED, log entry 121) -/
def State.wbVoid (s : State) (p : Nat → WbBlk → Bool) : State :=
  let gone (x : Nat × WbBlk) : Bool := x.2.committed && p x.1 x.2
  { s with wbuf := { s.wbuf with
      blks := (s.wbuf.blks.filter (fun x => !gone x || x.2.readers != 0)).map (fun x =>
        if gone x then (x.1, { x.2 with committed := false, programmed := true, parity := true }) else x) } }

/-- The buffered data of a zone is void. -/
def State.zoneVoid (s : State) (n z : Nat) : State :=
  s.wbVoid (fun _ b => b.nsid == n && b.lba / s.zsize n == z)

/-- A block of a zone is written again: its older copy is void (R206). -/
def State.zoneRewrite (s : State) (h : Nat) : State :=
  let b := s.wblk h
  if (s.ns b.nsid).kind = 1 then
    s.wbVoid (fun k x => k != h && x.nsid == b.nsid && x.lba == b.lba && x.program.isNone)
  else s

/-- Reset: the zone is Empty, its data void, its charge, open room and ZRWA released (R200).
(DEDUCED, log entry 120) -/
def State.zoneReset (s : State) (n z : Nat) : State :=
  let s1 := ((s.setCharge n z 0).zoneForget n z).zoneVoid n z
  let s2 := s1.zoneUnpin n z true
  (s2.setZone n z { epochNo := (s.zone n z).epochNo + 1, extent := (s.zone n z).extent }).zoneJournal n z

/-- Close: an open zone with nothing written and no ZRWA is Empty again, else Closed. -/
def State.zoneClose (s : State) (n z : Nat) : State :=
  let x := s.zone n z
  if x.adm = 0 ∧ x.wp = 0 ∧ !x.zrwa then ((s.setCharge n z 0).zoneUnpin n z false).zoneTo n z .empty
  else s.zoneTo n z .closed

/-- R204: spare exhaustion moves an active zone to Read Only: its buffered data is programmed, its charge trimmed. -/
def State.zoneReadOnly (s : State) (n z : Nat) : State :=
  let s1 := (s.zrwaRelease n z).trimCharge n z
  (s1.zoneTo n z .readOnly).zoneChanged n z

/-- Offline: the charge falls to 0 and the data is no longer readable. -/
def State.zoneOffline (s : State) (n z : Nat) : State :=
  ((((s.setCharge n z 0).zoneUnpin n z true).zoneForget n z).zoneVoid n z).zoneTo n z .offline

/-! ### Room (R195, R203, R204) -/

/-- R195: the room of a namespace in the pool; thick and zoned namespaces are not limited by the caller. -/
def State.poolRoom (s : State) (n : Nat) : Int :=
  ((s.resR n - (s.ns n).used : Nat) : Int) + s.poolF + (s.poolA : Int)

/-- A request of the pool fits: a thick namespace always has room. -/
def State.poolFits (s : State) (n need : Nat) : Bool := !s.thin n || decide ((need : Int) ≤ s.poolRoom n)

/-- The Implicitly Opened zone of a namespace that was written least recently, other than a given one. -/
def State.closable (s : State) (n z : Nat) : Option Nat :=
  (((s.zonesOf n).filter (fun x => x.2.st = .implicitOpen && x.1 != z)).foldl
    (fun (m : Option (Nat × Zone)) x => match m with
      | none => some x
      | some b => if x.2.lastWrite < b.2.lastWrite then some x else some b) none).map (fun x => x.1)

/-- Open room for a zone: at hand, made by an implicit close, or none. -/
def State.openRoom (s : State) (n z : Nat) : State × Bool :=
  if s.openZones n < s.cfg (0x5800 + (n - 1)) 0x0A then (s, true)
  else match s.closable n z with
    | some v => (s.zoneClose n v, true)
    | none => (s, false)

/-- Active room for a zone. -/
def State.activeRoom (s : State) (n : Nat) : Bool := decide (s.activeZones n < s.cfg (0x5800 + (n - 1)) 9)

/-- R206: room for a ZRWA. -/
def State.zrwaRoom (s : State) (n : Nat) : Bool :=
  decide (s.zrwasOf n < s.cfg (0x5800 + (n - 1)) 0x0B) && decide (s.allZrwa < Config.zrwas)

/-- R233: frames pinned may not pass PIN_MAX_PCT of all. -/
def State.pinRoom (s : State) (n : Nat) : Bool :=
  !(s.ns n).compressedMap || decide (100 * ((s.map.pages.filter (fun x => x.2.pinned)).length + s.zonePages n)
    ≤ s.cfg 0x6000 4 * s.frames)

/-! ### Extents (R253, R255) -/

/-- The lanes of a lane set. -/
def lanes (q0 w : Nat) : List Nat := (List.range w).map (fun i => q0 + i)

/-- A lane set of a superblock holds an active zone. -/
def State.laneBusy (s : State) (k q0 w : Nat) : Bool :=
  s.zones.any (fun x => x.2.st.isActive && x.2.charge != 0 && s.locSb x.2.extent == k &&
    (let v := s.laneWidth (s.zsize (x.1 / 2 ^ 32)) (s.dataMembers k).length
     let p := s.locPlane x.2.extent
     decide (p < q0 + w) && decide (q0 < p + v)))

/-- The first free row of a lane set. -/
def State.laneRow (s : State) (k q0 w : Nat) : Nat :=
  (lanes q0 w).foldl (fun m q => max m (Tbl.get 0 (s.sb k).laneRow q)) 0

/-- The rows that a zone of a namespace occupies on a superblock. -/
def State.zoneRows (s : State) (n k : Nat) : Nat :=
  let d := (s.dataMembers k).length
  let w := s.laneWidth (s.zsize n) d
  if d * w * s.unitBlocks = 0 then 0 else ceilDiv (s.zsize n) (d * w * s.unitBlocks)

/-- A lane set of a zone superblock that takes a zone of a namespace: the first that R255 allows. -/
def State.laneFind (s : State) (n k : Nat) : Option Nat :=
  let w := s.laneWidth (s.zsize n) (s.dataMembers k).length
  ((List.range (s.planes / w)).map (fun i => i * w)).find? (fun q =>
    !s.laneBusy k q w && decide (s.laneRow k q w + s.zoneRows n k ≤ s.wordlines))

end Sys2Proof.Machine
end

