-- ==== Sys2Proof/Machine/MediaOps.lean ====
section
/-! DEFINITION. Flash media management (R246 to R273): retirement, spares, allocation, the packing of rows, programs and
their parity, moves, and the release of write-buffer copies (R30). -/

namespace Sys2Proof.Machine

/-! ### Reports of the media (R212, R272, R273, R279) -/

def State.medBit (s : State) (b : Nat) : State :=
  { s with regs := { s.regs with medEvent := s.regs.medEvent ||| (1#32 <<< b) } }

/-- R273: each critical warning bit that was set since a state raises its SMART/Health event. -/
def State.critWatch (s was : State) : State :=
  s.forEach [0, 1, 2, 3] (fun b s =>
    if s.critical.testBit b && !was.critical.testBit b then
      { s with mgmt := { s.mgmt with healthChange := s.mgmt.healthChange ||| 0x1000 } }.smartEvent b
    else s)

/-- R212: the active zones of the device. -/
def State.activeZoneList (s : State) : List (Nat × Nat) :=
  s.zones.filterMap (fun x => if x.2.st.isActive then some (x.1 / 2 ^ 32, x.1 % 2 ^ 32) else none)

/-- S has reached the last reserve (R272), or SEQ the bound at which the part acts as at spare exhaustion (R454). -/
def State.spareGone (s : State) : Bool :=
  decide (s.spareS ≤ (s.lastReserve : Int)) || decide (2 ^ 56 - 2 ^ 40 ≤ s.recov.seqNext)

/-- R273: Available Spare fell below its threshold since it was last looked at. -/
def State.spareWarns (s : State) : Bool :=
  let w := s.cfg 0x6402 14
  decide (s.availableSpare < w) && decide (w ≤ s.media.lastSpare)

/-- R212: Read-Only by spare exhaustion. -/
def State.exhaust (s : State) : State :=
  let s3 := ({ s with media := { s.media with exhausted := true } }.medBit 3).readonlySet 0 true
  let s4 := s3.forEach s3.activeZoneList (fun z s => s.zoneReadOnly z.1 z.2)
  match s4.mode.base with
  | .service => s4.transition .readOnly 13
  | _ => s4

/-- R272, R212: the spare against its warning and its last reserve. -/
def State.spareCheck (s : State) : State :=
  if !s.profile || !s.media.initialised then s
  else
    let s1 := s.also s.spareWarns (fun s => s.medBit 2)
    let s2 := { (s1.also (s.media.lastSpare != s.availableSpare) State.telemEvent) with
      media := { s1.media with lastSpare := s.availableSpare } }
    s2.also (!s2.media.exhausted && s2.spareGone) State.exhaust

/-! ### Retirement (R267 to R269) -/

/-- The place lies on a LUN that is retired. -/
def State.locLost (s : State) (l : Nat) : Bool := s.profile && (s.lun (s.locChannel l) (s.locPos l)).retired

/-- R270: what lost members leave to rebuild, in granules: slots that the map names, and their part of each zone. -/
def State.lostGranules (s : State) : Nat :=
  (s.map.ents.filter (fun x => x.2.onFlash && s.locLost x.2.loc)).foldl (fun m x => m + x.2.granules) 0
    + (s.zones.map (fun z =>
        let x := s.sb (s.locSb z.2.extent)
        if !s.profile || z.2.charge = 0 || (s.ns (z.1 / 2 ^ 32)).compressedMap then 0
        else z.2.charge * x.lost.length / max 1 ((s.dataMembers (s.locSb z.2.extent)).length + x.lost.length))).sum

/-- R269: a LUN is retired: Sustain, and a rebuild. -/
def State.lunRetire (s : State) (ch pos : Nat) : State :=
  if (s.lun ch pos).retired then s
  else
    let s1 := (s.setLun ch pos { s.lun ch pos with retired := true }).medBit 1
    let s2 := { s1 with media := { s1.media with
      retiredLuns := s1.media.retiredLuns ++ [ch * 32 + pos], rebuildState := 1
      grownBad := satAdd 32 s1.media.grownBad (s1.blocksPerLun - Tbl.get 0 s1.media.bad (lkey ch pos)) } }
    let rows (x : Sb) : Nat := if x.kind = .zone then s.wordlines else min x.rows (s.wordlines - 1)
    let hit (k : Nat) (x : Sb) : Bool := decide (x.st ≠ .free) && k / max 1 s.blocksPerLun == pos && !x.absentCh.contains ch
    let s2 : State := { s2 with media := { s2.media with sbs := s2.media.sbs.map (fun (x : Nat × Sb) =>
      (x.1, if hit x.1 x.2 then { x.2 with lost := x.2.lost ++ [(ch, rows x.2)] } else x.2)) } }
    let s3 := (s2.sustainSet 4).sustainSet 5
    let left := s3.lostGranules
    { s3 with media := { s3.media with rebuildLeft := left, degraded := s3.media.degraded || left != 0 } }

/-- The blocks of a LUN that retired within 24 hours. -/
def State.recentBad (s : State) (ch pos : Nat) : Nat :=
  (s.media.badTimes.filter (fun b => b.1 == lkey ch pos && !s.elapsed b.2 (24 * hour))).length

/-- R267, R268: a member block is retired and becomes absent; the defect list is written before the table. -/
def State.blockRetire (s : State) (k ch : Nat) : State :=
  if (s.sb k).absentCh.contains ch then s
  else
    let pos := if s.blocksPerLun = 0 then 0 else k / s.blocksPerLun
    let s1 := (s.setSb k { s.sb k with absentCh := (s.sb k).absentCh ++ [ch]
                                       erasing := (s.sb k).erasing.filter (fun c => c != ch) }).section_.section_
    let s2 := { s1 with media := { s1.media with
      bad := Tbl.modify 0 s1.media.bad (lkey ch pos) (fun n => n + 1)
      retiredBlocks := s1.media.retiredBlocks + 1, grownBad := satAdd 32 s1.media.grownBad 1
      badTimes := s1.media.badTimes ++ [(lkey ch pos, s.aon.now)] } }
    let s3 := s2.medBit 0
    if s3.cfg 0x6402 13 ≤ s3.recentBad ch pos then s3.lunRetire ch pos else s3

/-! ### Allocation (R246, R248, R249, R262) -/

/-- A superblock may be allocated for a kind in a reclaim group. -/
def State.mayAlloc (s : State) (kind : SbKind) (group k : Nat) : Bool :=
  let pos := if s.blocksPerLun = 0 then 0 else k / s.blocksPerLun
  let x := s.sb k
  decide (x.st = .free) && s.allocatable k && decide (x.wear < 2 ^ 22) &&
    (match kind with
     | .slc => s.cfgB 0x6400 0x1E || s.inSlcSet k
     | .reserve => s.cfgB 0x6400 0x1E || s.inSlcSet k
     | .dense => !s.inSlcSet k && decide (pos / s.groupSize = group)
     | _ => !s.inSlcSet k)

/-- Allocate the free superblock with the lowest wear that a test allows: Open, every member to be erased, its
erase counts written (R248, R261). -/
def State.sbAlloc (s : State) (kind : SbKind) (group handle : Nat) (ok : Nat → Bool) : State × Option Nat :=
  let best := ((List.range s.superblocks).filter (fun k => s.mayAlloc kind group k && ok k)).foldl
    (fun (m : Option Nat) k => match m with
      | none => some k
      | some b => if (s.sb k).wear < (s.sb b).wear then some k else some b) none
  match best with
  | none => (s, none)
  | some k =>
    let x := s.sb k
    let slc := kind == .slc || kind == .reserve
    ((s.setSb k { st := .open_, kind := kind, erasing := s.members k, group := group, handle := handle
                  wear := x.wear + (if slc then s.pf 0x17 else s.pf 0x16), absentCh := x.absentCh
                  lastProgram := s.aon.now }).section_, some k)

/-- Free superblocks of a kind are at hand. -/
def State.sbAny (s : State) (kind : SbKind) (group : Nat) : Bool :=
  (List.range s.superblocks).any (fun k => s.mayAlloc kind group k)

/-! ### Rows (R247, R249, R327) -/

/-- Wordlines that a superblock has, and page programs of a row on each plane of a member. -/
def State.sbBits (s : State) (k : Nat) : Nat :=
  match (s.sb k).kind with
  | .slc => 1
  | .reserve => 1
  | .mapHome => 1
  | .journal => 1
  | .system => 1
  | _ => s.denseBits

/-- The pages of the open row. -/
def State.rowPages (s : State) (k : Nat) : Nat := (s.sb k).rowOn.length * s.planes * s.sbBits k

/-- A superblock takes data: Open, every member erased, a row left. -/
def State.rowMay (s : State) (k : Nat) : Bool :=
  let x := s.sb k
  decide (x.st = .open_) && x.erasing.isEmpty && decide (x.rows < s.wordlines) && !x.filler && x.parityLeft == 0

/-- Granules used in a codeword of a page under construction. -/
def State.cwUsed (s : State) (p : RowPage) (c : Nat) : Nat :=
  (p.items.filter (fun i => i.dest % s.pageKib / 4 == c)).foldl (fun m i => m + slotGranules i.slot) 0

/-- R327: the first codeword of a page with room for a slot. -/
def State.cwFind (s : State) (p : RowPage) (slot : Nat) : Option Nat :=
  if p.started then none
  else (List.range (s.pageKib / 4)).find? (fun c => decide (s.cwUsed p c + slotGranules slot ≤ 4))

/-- The flash address of the first granule of page `i` of the open row. -/
def State.pageAt (s : State) (k i : Nat) : Nat :=
  let x := s.sb k
  let d := max 1 x.rowOn.length
  s.locOf (x.rowOn.getD (i % d) 0) (k / s.blocksPerLun) (k % s.blocksPerLun)
    (x.rows * s.sbBits k + i / (d * max 1 s.planes)) (i / d % max 1 s.planes) 0

/-- Start the program of page `i` of the open row, with filler where it is not full. -/
def State.pageStart (s : State) (k i : Nat) : State :=
  let x := s.sb k
  match x.row[i]? with
  | none => s
  | some p =>
    if p.started then s
    else
      let id := s.media.nextProg
      let s1 := s.setSb k { x with row := x.row.set i { p with started := true } }
      let s2 := s1.setProg id { live := true, kind := p.kind, sb := k, ch := x.rowOn.getD (i % max 1 x.rowOn.length) 0
                                page := i, items := p.items }
      { s2 with media := { s2.media with nextProg := id + 1
                                         mediaGranules := satAdd 64 s2.media.mediaGranules s.pageKib } }

/-- Start the program of a page that is full. -/
def State.pageFull (s : State) (k i : Nat) : State :=
  match (s.sb k).row[i]? with
  | some p => if (List.range (s.pageKib / 4)).all (fun c => decide (4 ≤ s.cwUsed p c)) then s.pageStart k i else s
  | none => s

/-- Put a slot into the open row of a superblock: the first page with a codeword that has room, else the next page. -/
def State.rowPut (s : State) (k : Nat) (kind : ProgKind) (it : ProgItem) : Option State :=
  let x := s.sb k
  let y := if x.row.isEmpty then { x with rowOn := s.dataMembers k, rowSince := s.aon.now } else x
  let s1 := s.setSb k y
  let found := ((List.range y.row.length).filterMap (fun i =>
    match y.row[i]? with
    | some p => (s.cwFind p it.slot).map (fun c => (i, c, p))
    | none => none)).head?
  match found with
  | some (i, c, p) =>
    let d := s1.pageAt k i + 4 * c + s.cwUsed p c
    some ((s1.setSb k { y with row := y.row.set i { p with items := p.items ++ [{ it with dest := d }] } }).pageFull k i)
  | none =>
    if y.row.length < s1.rowPages k then
      let i := y.row.length
      some ((s1.setSb k { y with row := y.row ++ [{ kind := kind, items := [{ it with dest := s1.pageAt k i }] }] }).pageFull k i)
    else none

/-- The open superblocks of a kind, group and handle that take data, those with an open row first, then those
whose LUN position has the least queued work. -/
def State.openSbs (s : State) (kind : SbKind) (group handle : Nat) : List Nat :=
  let l := (s.media.sbs.filter (fun x => x.2.kind = kind && x.2.group == group && x.2.handle == handle && s.rowMay x.1)).map
    (fun x => x.1)
  let work (k : Nat) : Nat := ((List.range Config.channels).map (fun c => (s.lun c (k / s.blocksPerLun)).queue.length)).sum
  l.filter (fun k => !(s.sb k).row.isEmpty) ++
    sortBy (fun a b => decide (work a ≤ work b)) (l.filter (fun k => (s.sb k).row.isEmpty))

/-- Put a slot into some open superblock. -/
def State.slotPut (s : State) (kind : ProgKind) (dest : SbKind) (group handle : Nat) (it : ProgItem) : Option State :=
  (s.openSbs dest group handle).findSome? (fun k => s.rowPut k kind it)

/-- A superblock of the kind is open and waits for its erases. -/
def State.openingSb (s : State) (kind : SbKind) (group handle : Nat) : Bool :=
  s.media.sbs.any (fun x => x.2.kind = kind && x.2.st = .open_ && x.2.group == group && x.2.handle == handle
    && !x.2.erasing.isEmpty)

/-- LUN positions that hold an open SLC superblock. -/
def State.slcPositions (s : State) : List Nat :=
  (s.media.sbs.filter (fun x => x.2.kind = .slc && x.2.st = .open_)).map (fun x => x.1 / s.blocksPerLun)

/-- Open another SLC superblock, at a LUN position that has none (R249). -/
def State.slcOpen (s : State) : State :=
  if s.openingSb .slc 0 0 || decide (s.nSlc ≤ s.slcUsed) then s
  else (s.sbAlloc .slc 0 0 (fun k => !s.slcPositions.contains (k / s.blocksPerLun))).1

/-- The write buffer's blocks that wait for a row, put into rows as rows take them (R249, R250). -/
def State.slcPump (s : State) : State :=
  if !s.profile then s
  else
    let go := s.wbuf.pendingSlc.foldl (fun (acc : State × List Nat) h =>
      let s := acc.1
      let b := s.wblk h
      match s.slotPut .host .slc 0 0 ⟨b.nsid, b.lba, true, h, 0, b.slot, b.mode⟩ with
      | some s1 => (s1, acc.2)
      | none => (s.slcOpen, acc.2 ++ [h])) (s, [])
    { go.1 with wbuf := { go.1.wbuf with pendingSlc := go.2 } }

/-- The waiting moves, put into rows as rows take them. -/
def State.movePump (s : State) : State :=
  let go := s.media.moveWait.foldl (fun (acc : State × List MoveWait) m =>
    let s := acc.1
    match s.slotPut m.kind m.dest m.group m.handle m.item with
    | some s1 => (s1, acc.2)
    | none =>
      let s1 := if s.openingSb m.dest m.group m.handle then s else (s.sbAlloc m.dest m.group m.handle (fun _ => true)).1
      (s1, acc.2 ++ [m])) (s, [])
  { go.1 with media := { go.1.media with moveWait := go.2 } }

/-- A member's slots that a superblock on it still holds valid, as map entries. -/
def State.validOn (s : State) (p : Nat → Bool) : List (Nat × Nat × MEnt) :=
  s.map.ents.filterMap (fun x => if x.2.onFlash && p x.2.loc then some (x.1 / 2 ^ 64, x.1 % 2 ^ 64, x.2) else none)

/-- R210: Feature 1Eh selects the events of the FDP Events log; its default is open.
(DESIGN CHOICE, log entry 108) -/
def State.fdpSelected (s : State) : Bool :=
  let set : List Nat := s.ctrls.flatMap (fun c => c.2.features.filterMap (fun f => if f.1 / 65536 = 0x1E then f.2 else none))
  if set.isEmpty then (Config.featureDefault 0x1E).testBit 0 else set.any (fun v => v.testBit 0)

/-- R209, R210: an event is added to the FDP Events log, where Feature 1Eh selects it. -/
def State.fdpEvent (s : State) (ev : Nat) : State :=
  if s.pool.fdpEnabled && s.fdpSelected then { s with pool := { s.pool with fdpEvents := s.pool.fdpEvents ++ [ev] } } else s

/-- A superblock holds data of an FDP-placed namespace outside the SLC region. -/
def State.fdpHeld (s : State) (k : Nat) : Bool :=
  decide ((s.sb k).kind = .dense) && (s.validOn (fun l => s.locSb l == k)).any (fun x => (s.ns x.1).kind == 2)

/-- A move of a block is already under way. -/
def State.moving (s : State) (loc : Nat) : Bool :=
  let hit (i : ProgItem) : Bool := !i.fromBuf && i.src == loc
  s.media.moveWait.any (fun m => hit m.item) || s.media.moved.any hit
    || s.media.sbs.any (fun x => x.2.row.any (fun p => p.items.any hit))

/-- Issue the move of a slot (R225, R259, R290): a new SEQ, and a place in a row now or later; with no free
superblock it stays where it is and is counted (R272). -/
def State.moveIssue (s : State) (kind : ProgKind) (dest : SbKind) (group handle n lba : Nat) (e : MEnt) : State :=
  if s.moving e.loc then s
  else if 2 ^ 56 - 1 < s.recov.seqNext + 1 then { s with media := { s.media with stranded := satAdd 64 s.media.stranded 1 } }
  else
    let it : ProgItem := ⟨n, lba, false, e.loc, 0, e.slot, e.mode⟩
    let s1 := s.seqDraw 1
    match s1.slotPut kind dest group handle it with
    | some s2 => s2
    | none =>
      let waits := { s1 with media := { s1.media with moveWait := s1.media.moveWait ++ [⟨kind, dest, group, handle, it⟩] } }
      if s1.openingSb dest group handle then waits
      else match s1.sbAlloc dest group handle (fun _ => true) with
        | (s2, some _) => { s2 with media := { s2.media with moveWait := s2.media.moveWait ++ [⟨kind, dest, group, handle, it⟩] } }
        | (s2, none) => { s2 with media := { s2.media with stranded := satAdd 64 s2.media.stranded 1 } }

/-- The reclaim group and handle of a block's data (R210, R251). -/
def State.placement (s : State) (n lba : Nat) : Nat × Nat :=
  let v := Tbl.get 0 s.pool.placed (bkey n lba)
  (v / 256, v % 256)

/-- Relocate the valid slots at places that a test selects, each to a superblock of a kind (R251, R258, R263, R270). -/
def State.relocate (s : State) (kind : ProgKind) (p : Nat → Bool) (dest : Nat → Option SbKind) : State :=
  s.forEach (s.validOn p) (fun x s =>
    let g := s.placement x.1 x.2.1
    match dest (s.locSb x.2.2.loc) with
    | some .slc => s.moveIssue kind .slc 0 0 x.1 x.2.1 x.2.2
    | some d => s.moveIssue kind d g.1 g.2 x.1 x.2.1 x.2.2
    | none => s)

/-- The kind of superblock that takes a slot again: an SLC slot goes to SLC, a dense one to dense. -/
def State.sameKind (s : State) (k : Nat) : Option SbKind :=
  match (s.sb k).kind with
  | .slc => some .slc
  | .reserve => some .slc
  | .dense => some .dense
  | _ => none

/-! ### Write-buffer copies (R30, R125) -/

/-- A copy that nothing needs goes. -/
def State.wbFree (s : State) (h : Nat) : State :=
  let b := s.wblk h
  if b.programmed && b.parity && b.readers == 0 then { s with wbuf := { s.wbuf with blks := Tbl.erase h s.wbuf.blks } } else s

/-- Free every copy that nothing needs. -/
def State.wbSweep (s : State) : State := s.forEach (s.wbuf.blks.map (fun x => x.1)) (fun h s => s.wbFree h)

/-! ### Applying moves (R225, R299) -/

/-- The blocks of the atomic group of a copy: one command of up to 32 blocks (R299). -/
def State.atom (s : State) (h : Nat) : List Nat :=
  let b := s.wblk h
  (s.wbuf.blks.filter (fun x => x.2.nsid == b.nsid && x.2.seq + b.atomIdx == b.seq + x.2.atomIdx && x.2.atomLen == b.atomLen
    && x.2.committed)).map (fun x => x.1)

/-- Every page that the moves of a group need is here. -/
def State.groupHere (s : State) (hs : List Nat) : Bool :=
  hs.all (fun h => !s.hasMap (s.wblk h).nsid || s.pageHere (s.wblk h).nsid (s.mapPage (s.wblk h).nsid (s.wblk h).lba))

/-- Apply the program moves of a group in one decision, with their MAP records. -/
def State.applyGroup (s : State) (hs : List Nat) : State :=
  let go := hs.foldl (fun (acc : State × List JRec) h =>
    let s := acc.1
    let b := s.wblk h
    let s1 := s.setWblk h { b with programmed := true }
    if !s.hasMap b.nsid then (s1, acc.2)
    else if s.moveFits b.nsid b.lba true h then
      let e : MEnt := { loc := b.program.getD 0, slot := b.slot, mode := b.mode, trim := false }
      (s1.entryPut b.nsid b.lba s.jrn.next e, acc.2 ++ [mapRec b.nsid b.lba e])
    else (s1.moveDropped, acc.2)) (s, [])
  (go.1.journal go.2).forEach hs (fun h s => s.wbFree h)

/-- Ask for the pages that waiting moves need (R225). -/
def State.movesFill (s : State) (n lba : Nat) : State :=
  let p := s.mapPage n lba
  if s.pageHere n p || s.map.fills.any (fun f => f.nsid == n && f.page == p) || decide (4096 ≤ s.map.fills.length) then s
  else
    let r := if (s.page n p).inDram then (s, true) else s.frameTake
    if r.2 then r.1.fillStart n p 3 false [] else r.1

/-- Apply one relocation (R225), or drop it. -/
def State.applyMove (s : State) (it : ProgItem) : State :=
  if s.moveFits it.nsid it.lba false it.src then
    let e : MEnt := { loc := it.dest, slot := it.slot, mode := it.mode, trim := false }
    let k := s.locSb it.src
    let jn := s.jrn.next
    let s1 := (s.entryPut it.nsid it.lba jn e).journal [mapRec it.nsid it.lba e]
    let s2 := s1.setSb k { s1.sb k with lastMoveJseq := jn }
    s2.forEach s2.wbuf.blks (fun x s => if x.2.program = some it.src then s.setWblk x.1 { x.2 with program := some it.dest } else s)
  else s.moveDropped

/-- Apply every move whose program has completed and whose page is here, unless the journal holds changes. -/
def State.movesApply (s : State) : State :=
  if s.jrnHeld then (if s.media.moved.isEmpty && !s.wbuf.blks.any (fun x => x.2.program.isSome && !x.2.programmed) then s else s.jrnWait)
  else
    let s1 := s.forEach (s.wbuf.blks.map (fun x => x.1)) (fun h s =>
      let b := s.wblk h
      if b.program.isSome && !b.programmed && b.committed then
        let g := s.atom h
        if g.all (fun k => (s.wblk k).program.isSome) then
          (if s.groupHere g then s.applyGroup g else s.forEach g (fun k s => s.movesFill (s.wblk k).nsid (s.wblk k).lba))
        else s
      else s)
    let go := s1.media.moved.foldl (fun (acc : State × List ProgItem) it =>
      let s := acc.1
      if s.pageHere it.nsid (s.mapPage it.nsid it.lba) then (s.applyMove it, acc.2)
      else (s.movesFill it.nsid it.lba, acc.2 ++ [it])) (s1, [])
    { go.1 with media := { go.1.media with moved := go.2 } }.writebackPump

/-! ### Freeing superblocks (R260) -/

/-- A superblock whose conditions all hold returns to Free; a block that needed step 4 twice within 7 days is retired
now that its refresh has completed (R265). -/
def State.sbFree (s : State) (k : Nat) : State :=
  let x := s.sb k
  if (x.st = .closed ∨ x.st = .draining) ∧ x.valid = 0 ∧ x.readers = 0 ∧ x.kind ≠ .reserve
      ∧ (x.lastMoveJseq = 0 ∨ x.lastMoveJseq < s.jrn.durable) then
    let twice := (x.step4.map (fun v => v % 32)).filter (fun c =>
      decide (2 ≤ (x.step4.filter (fun v => v % 32 == c && !s.elapsed (v / 32) (168 * hour))).length))
    let s1 := s.forEach twice.dedup (fun c s => s.blockRetire k c)
    s1.setSb k { wear := x.wear, absentCh := (s1.sb k).absentCh, step4 := x.step4.filter (fun v => !twice.contains (v % 32)) }
  else s

/-- A zone superblock whose lanes have no row left and that holds no active zone closes. -/
def State.laneClose (s : State) (k : Nat) : State :=
  let x := s.sb k
  if x.kind = .zone ∧ x.st = .open_ ∧ s.planes ≠ 0
      ∧ (List.range s.planes).all (fun q => decide (s.wordlines ≤ Tbl.get 0 x.laneRow q)) = true
      ∧ s.zones.any (fun z => z.2.st.isActive && z.2.charge != 0 && s.locSb z.2.extent == k) = false then
    s.setSb k { x with st := .closed, closedAt := s.aon.now }
  else s

def State.sbSweep (s0 : State) : State :=
  let s := s0.forEach ((s0.media.sbs.filter (fun x => x.2.kind = .zone && x.2.st = .open_)).map (fun x => x.1))
    (fun k s => s.laneClose k)
  s.forEach ((s.media.sbs.filter (fun x => x.2.st = .closed || x.2.st = .draining)).map (fun x => x.1)) (fun k s => s.sbFree k)

/-! ### Zone data (R253, R254) -/

/-- The blocks of unit u of a zone. -/
def State.unitRange (s : State) (u : Nat) : List Nat := (List.range s.unitBlocks).map (fun i => u * s.unitBlocks + i)

/-- The programs of units of a compressed zone: slots are packed into the extent in commit order (R327); a unit is
programmed once it is full, or when its zone is no longer active. -/
def State.zonePack (s : State) (n z : Nat) : Nat → State
  | 0 => s
  | fuel + 1 =>
    let x := s.zone n z
    let k := s.locSb x.extent
    let busy (h : Nat) : Bool := s.media.progs.any (fun p => p.2.items.any (fun i => i.fromBuf && i.src == h))
    let waits := sortBy (fun a b => decide (a.2.seq ≤ b.2.seq)) (s.wbuf.blks.filter (fun b =>
      b.2.committed && b.2.nsid == n && b.2.lba / s.zsize n == z && b.2.program.isNone && !busy b.1
      && (!x.zrwa || decide (b.2.lba % s.zsize n < x.wp))))
    let cap := 4 * s.unitBlocks
    let put := waits.foldl (fun (acc : Nat × List ProgItem × Bool) b =>
      let g := slotGranules b.2.slot
      let at_ := if acc.1 % 4 + g ≤ 4 then acc.1 else (acc.1 / 4 + 1) * 4
      if acc.2.2 || decide (cap < at_ + g) then (acc.1, acc.2.1, true)
      else
        let d := s.zoneLoc n z ((x.packAt + at_) / 4) + (x.packAt + at_) % 4
        (at_ + g, acc.2.1 ++ [⟨n, b.2.lba, true, b.1, d, b.2.slot, b.2.mode⟩], false)) (0, [], false)
    if (put.2.1.isEmpty || !(put.2.2 || decide (cap ≤ put.1) || !x.st.isActive)) then s
    else
      let id := s.media.nextProg
      let u := x.packAt / max 1 cap
      let s1 := s.setZone n z { x with units := x.units ++ [u], packAt := x.packAt + cap }
      let s2 := s1.setProg id { live := true, kind := .zoneData, sb := k, ch := s.locChannel (s.zoneLoc n z (u * s.unitBlocks))
                                page := u, items := put.2.1 }
      let s3 := { s2 with media := { s2.media with nextProg := id + 1
                                                   mediaGranules := satAdd 64 s2.media.mediaGranules cap } }
      s3.zonePack n z fuel

/-- Start the programs of a zone's units that are complete in the write buffer and whose extent is erased; a zone that
has become Read Only programs its partial page data too (R204). -/
def State.zonePump (s : State) (n z : Nat) : State :=
  let x := s.zone n z
  let k := s.locSb x.extent
  if !s.profile || s.unitBlocks = 0 || x.charge = 0 || !(s.sb k).erasing.isEmpty then s
  else if (s.ns n).compressedMap then s.zonePack n z s.wbuf.blks.length
  else
    let upto := if x.zrwa then x.wp else x.lowest
    let last := if x.st = .readOnly then ceilDiv upto s.unitBlocks else upto / s.unitBlocks
    s.forEach ((List.range last).filter (fun u => !x.units.contains u)) (fun u s =>
      let id := s.media.nextProg
      let items := (s.unitRange u).filterMap (fun b =>
        (s.wbufOf n (z * s.zsize n + b)).map (fun h =>
          (⟨n, z * s.zsize n + b, true, h, s.zoneLoc n z b, 3, 0⟩ : ProgItem)))
      let s1 := s.setZone n z { s.zone n z with units := (s.zone n z).units ++ [u] }
      let s2 := s1.setProg id { live := true, kind := .zoneData, sb := k, ch := s.locChannel (s.zoneLoc n z (u * s.unitBlocks))
                                page := u, items := items }
      { s2 with media := { s2.media with nextProg := id + 1
                                         mediaGranules := satAdd 64 s2.media.mediaGranules (4 * s.unitBlocks) } })

/-- A unit of a zone has been programmed. -/
def State.unitDone (s : State) (n z u : Nat) : Bool :=
  (s.zone n z).units.contains u && !s.media.progs.any (fun p => p.2.live && p.2.kind = .zoneData && p.2.page == u &&
    p.2.sb == s.locSb (s.zone n z).extent && p.2.items.any (fun i => i.nsid == n && i.lba / s.zsize n == z))

/-- PROGRAMMED: the zone offset below which every unit has been programmed. -/
def State.programmedTo (s : State) (n z : Nat) : Nat :=
  s.unitBlocks * ((List.range ((s.zone n z).units.length + 1)).find? (fun u => !s.unitDone n z u)).getD 0

/-- PROGRAMMED of a compressed zone: the lowest block that waits in the write buffer, or the write pointer. -/
def State.packedTo (s : State) (n z : Nat) : Nat :=
  (s.wbuf.blks.filter (fun b => b.2.committed && b.2.nsid == n && b.2.lba / s.zsize n == z && b.2.program.isNone)).foldl
    (fun m b => min m (b.2.lba % s.zsize n)) (s.zone n z).wp

/-- The units of the row that holds unit u of a zone. -/
def State.rowUnits (s : State) (n z u : Nat) : List Nat :=
  let d := (s.dataMembers (s.locSb (s.zone n z).extent)).length
  let w := s.laneWidth (s.zsize n) d
  (List.range (d * w)).map (fun i => u / (d * w) * (d * w) + i)

/-- Start a parity program that covers items (R247, R254). -/
def State.parityStart (s : State) (k ch : Nat) (items : List ProgItem) (interim : Bool := false) : State :=
  let id := s.media.nextProg
  let s1 := s.setProg id { live := true, kind := .parity, sb := k, ch := ch, page := boolNat interim, items := items }
  { s1 with media := { s1.media with nextProg := id + 1
                                     mediaGranules := satAdd 64 s1.media.mediaGranules s.pageKib } }

/-- The programmed copies of a zone that no parity page covers. -/
def State.uncovered (s : State) (k : Nat) : List ProgItem :=
  s.wbuf.blks.filterMap (fun x => match x.2.program with
    | some d => if x.2.parity || s.locSb d != k then none
                else some ⟨x.2.nsid, x.2.lba, true, x.1, d, x.2.slot, x.2.mode⟩
    | none => none)

/-! ### Completion of programs (R30, R267) -/

/-- Parity covers the copies that were programmed to these places. -/
def State.parityDone (s : State) (items : List ProgItem) : State :=
  (s.forEach s.wbuf.blks (fun x s => match x.2.program with
    | some d => if items.any (fun i => i.dest == d) then s.setWblk x.1 { x.2 with parity := true } else s
    | none => s)).wbSweep

/-- The row of a superblock ends; the last one closes it. -/
def State.rowEnd (s : State) (k : Nat) : State :=
  let x := s.sb k
  let rows := if x.filler then s.wordlines else x.rows + 1
  s.setSb k { x with row := [], rowOn := [], parityLeft := 0, rows := rows
                     st := if s.wordlines ≤ rows then .closed else x.st
                     closedAt := if s.wordlines ≤ rows then s.aon.now else x.closedAt }

/-- When every data page of the open row is programmed its parity follows. -/
def State.rowCheck (s : State) (k : Nat) : State :=
  let x := s.sb k
  let full := decide (s.rowPages k ≤ x.row.length) || x.filler
  if x.row.isEmpty || x.parityLeft != 0 || !full || !x.row.all (fun p => p.done) then s
  else
    let items := (x.row.map (fun p => p.items)).flatten
    let ps := s.parityOf k
    let s1 := s.setSb k { x with parityLeft := ps.length }
    if ps.isEmpty then (s1.parityDone items).rowEnd k else s1.forEach ps (fun p s => s.parityStart k p items)

/-- R293: the first program after a Bring-Up appends the START record, which retires the stop record. -/
def State.startRecord (s : State) : State :=
  if s.recov.startAppended then s
  else { s.section_ with recov := { s.section_.recov with startAppended := true, stopValid := false } }

/-- Data that a failed page held goes to another row: buffer copies wait again, moves are issued again. -/
def State.reissue (s : State) (kind : ProgKind) (dest : SbKind) (items : List ProgItem) : State :=
  s.forEach items (fun i s =>
    if i.fromBuf then { s with wbuf := { s.wbuf with pendingSlc := s.wbuf.pendingSlc ++ [i.src] } }
    else
      let g := if dest = .dense then s.placement i.nsid i.lba else (0, 0)
      { s with media := { s.media with moveWait := s.media.moveWait ++ [⟨kind, dest, g.1, g.2, { i with dest := 0 }⟩] } })

/-- Relocate what a retired member of a superblock still holds. -/
def State.relocateMember (s : State) (k ch : Nat) : State :=
  s.relocate .refresh (fun l => s.locSb l == k && s.locChannel l == ch) s.sameKind

/-- The pumps: rows, moves and their application. -/
def State.mediaPump (s : State) : State :=
  if s.mode.base = .flush then s.movesApply.sbSweep
  else
  let s1 := s.slcPump.movePump.movesApply
  (s1.forEach (s1.zones.map (fun x => x.1)) (fun k s => s.zonePump (k / 2 ^ 32) (k % 2 ^ 32))).sbSweep

/-- A data page of the open row is programmed. -/
def State.pageDone (s : State) (k i : Nat) (items : List ProgItem) : State :=
  let x := s.sb k
  let s1 := s.setSb k { x with
    row := (match x.row[i]? with
      | some p => x.row.set i { p with items := items, done := true }
      | none => x.row)
    lastProgram := s.aon.now }
  s1.rowCheck k

/-- The program of a copy, if the copy is still there. -/
def State.copyProgrammed (s : State) (h dest : Nat) (done : Bool) : State :=
  if s.wbuf.blks.any (fun x => x.1 == h) then
    s.setWblk h { s.wblk h with program := some dest, programmed := (s.wblk h).programmed || done }
  else s

/-- A page program of a row ends. -/
def State.rowProgram (s : State) (p : Prog) (ok : Bool) : State :=
  if ok then
    let s1 := s.forEach p.items (fun i s =>
      if i.fromBuf then s.copyProgrammed i.src i.dest false
      else { s with media := { s.media with moved := s.media.moved ++ [i] } })
    s1.pageDone p.sb p.page p.items
  else
    let kind := (s.sb p.sb).kind
    let s1 := (s.blockRetire p.sb p.ch).reissue p.kind kind p.items
    (s1.pageDone p.sb p.page []).relocateMember p.sb p.ch

/-- A parity program ends; an interim page of a zone row (page 1) that failed is programmed again. A failed one leaves its row without parity, and the row's data is written again. -/
def State.parityProgram (s : State) (p : Prog) (ok : Bool) : State :=
  let x := s.sb p.sb
  let left := x.parityLeft - 1
  let s1 := s.setSb p.sb { x with parityLeft := left, lastProgram := s.aon.now }
  let ends (s : State) : State := if left = 0 ∧ !x.row.isEmpty then s.rowEnd p.sb else s
  if p.page = 1 then (if ok then s.parityDone p.items else s.setSb p.sb { x with rowSince := s.aon.now })
  else if ok then (if left = 0 then ends (s1.parityDone p.items) else s1)
  else
    let s2 := s1.blockRetire p.sb p.ch
    let s3 := { s2 with media := { s2.media with parityLost := true } }
    let s4 := s3.forEach p.items (fun i s =>
      let e := s.ment i.nsid i.lba
      if i.fromBuf && x.kind != .zone && s.wbuf.blks.any (fun y => y.1 == i.src && !y.2.programmed) then
        { s.setWblk i.src { s.wblk i.src with program := none } with wbuf :=
          { (s.setWblk i.src { s.wblk i.src with program := none }).wbuf with pendingSlc := s.wbuf.pendingSlc ++ [i.src] } }
      else if s.media.moved.contains i then
        { s with media := { s.media with moved := s.media.moved.erase i } }.reissue .refresh ((s.sameKind p.sb).getD .slc) [i]
      else
      if e.onFlash && e.loc == i.dest then
        s.moveIssue .refresh ((s.sameKind p.sb).getD .slc) (s.placement i.nsid i.lba).1 (s.placement i.nsid i.lba).2 i.nsid i.lba e
      else s)
    ends s4

/-- A unit of a zone is programmed, or its program failed and the unit goes to a relocated extent's free row. -/
def State.zoneProgram (s : State) (p : Prog) (ok : Bool) : State :=
  match p.items with
  | [] => s
  | i :: _ =>
    let n := i.nsid
    let z := i.lba / s.zsize n
    if ok then
      let map := s.hasMap n
      let s1 := s.forEach p.items (fun i s =>
        s.copyProgrammed i.src i.dest !map)
      let s1 := if (s.uncovered p.sb).isEmpty then s1.setSb p.sb { s1.sb p.sb with rowSince := s.aon.now } else s1
      let w := if map then s1.packedTo n z else s1.programmedTo n z
      let s2 := if (s1.zone n z).programmed < w ∧ (s1.zone n z).charge ≠ 0 then
          (s1.setZone n z { s1.zone n z with programmed := w }).zoneJournal n z else s1
      let s3 := s2.setSb p.sb { s2.sb p.sb with lastProgram := s.aon.now }
      if (s3.rowUnits n z p.page).all (fun u => s3.unitDone n z u) then
        s3.forEach (s3.parityOf p.sb) (fun c s => s.parityStart p.sb c (s.uncovered p.sb))
      else s3
    else
      (s.blockRetire p.sb p.ch).setZone n z { s.zone n z with units := (s.zone n z).units.filter (fun u => u != p.page) }

/-- When no rewrite is left, every row has its parity again (R267). -/
def State.parityWatch (s : State) : State :=
  if s.media.parityLost && s.media.moveWait.isEmpty && s.media.moved.isEmpty
      && !s.media.progs.any (fun p => p.2.live && p.2.kind = .refresh)
      && !s.media.sbs.any (fun x => x.2.row.any (fun p => p.kind = .refresh)) then
    { s with media := { s.media with parityLost := false } }
  else s

/-- A program ended without a result and its block stays: its data goes elsewhere (R315). -/
def State.programAgain (s : State) (id : Nat) : State :=
  let p := s.prog id
  let s1 := { s with media := { s.media with progs := Tbl.erase id s.media.progs } }
  let s2 := match p.kind with
    | .parity => s1.parityStart p.sb p.ch p.items
    | .zoneData => match p.items with
      | [] => s1
      | i :: _ => s1.setZone i.nsid (i.lba / s.zsize i.nsid) { s1.zone i.nsid (i.lba / s.zsize i.nsid) with
          units := (s1.zone i.nsid (i.lba / s.zsize i.nsid)).units.filter (fun u => u != p.page) }
    | k => (s1.reissue k (s1.sb p.sb).kind p.items).pageDone p.sb p.page []
  s2.mediaPump

/-- PROGRAM_COMPLETE's effect. -/
def State.programEnd (s : State) (id : Nat) (ok : Bool) : State :=
  let p := s.prog id
  let s1 := { s with media := { s.media with progs := Tbl.erase id s.media.progs } }.startRecord
  let s2 := match p.kind with
    | .parity => s1.parityProgram p ok
    | .zoneData => s1.zoneProgram p ok
    | _ => s1.rowProgram p ok
  ((s2.mediaPump.parityWatch).spareCheck).critWatch s

/-! ### What Flush, shutdown and Maintenance wait for (R101, R284, R387) -/

/-- Every acknowledged block is programmed. -/
def State.bufferSettled (s : State) : Bool := !s.wbuf.blks.any (fun x => x.2.committed && !x.2.programmed)

/-- Every journal record is durable. -/
def State.journalSettled (s : State) : Bool := s.jrn.tail.isEmpty && s.jrn.flushing.isEmpty

/-- Program what waits in open rows and in the journal tail, without waiting for full pages. -/
def State.drain (s : State) : State :=
  let s1 := s.forEach ((s.media.sbs.filter (fun x => x.2.st = .open_ && !x.2.row.isEmpty)).map (fun x => x.1)) (fun k s =>
    s.forEach (List.range (s.sb k).row.length) (fun i s => s.pageStart k i))
  s1.closeTail

end Sys2Proof.Machine
end

