-- ==== Sys2Proof/Machine/ChipOps.lean ====
section
/-! DEFINITION. The macros of the SRAM and their failing elements (R366, R368 to R370). -/

namespace Sys2Proof.Machine

/-- The macro that holds a word of an array: macros are numbered in the order of R366's table.
(DESIGN CHOICE, log entry 97) -/
def macroOf (a : SramArray) (word : Nat) : Nat :=
  match a with
  | .tagStore => word / 32768 % 64
  | .streamBuffer b => 64 + 48 * (b % 4) + word / 32768 % 48
  | .engineMemory c => 256 + 16 * (c % 16) + word / 32768 % 16
  | .lineCache => 512 + word / 32768 % 32
  | .cmb p => 544 + 8 * (p % 2) + word / 32768 % 8
  | .descriptorQueues k => 560 + k % 16

/-- The pool and the buffers that a macro of a stream bank holds: the pools lie in rising size from the bank's start. -/
def macroBuffers (m : Nat) : Option (Nat × Nat) :=
  if m < 4 then some (0, 1024)
  else if m < 8 then some (1, 256)
  else if m < 24 then some (2, 64)
  else if m < 32 then some (3, 16)
  else if m < 36 then some (4, 4)
  else if m < 39 then some (5, 1)
  else none

/-- R370: what a failing element of a macro costs until it is repaired. -/
def State.macroWithdraw (s : State) (m : Nat) : State :=
  if m < 64 then { s with chip := { s.chip with tagsWithdrawn := s.chip.tagsWithdrawn + 4096 } }
  else if m < 256 then
    match macroBuffers ((m - 64) % 48) with
    | some (z, n) =>
      { s with chip := { s.chip with withdrawn := Tbl.modify 0 s.chip.withdrawn (bufKey ((m - 64) / 48) z) (fun v => v + n) } }
    | none => s
  else if 512 ≤ m ∧ m < 544 then { s with chip := { s.chip with setsDisabled := s.chip.setsDisabled + 1 } }
  else s

/-- R369, R370: an element of a macro is failing: it is recorded for repair, up to 256 records, without a token of
R44, and its macro is withdrawn with the first of its elements. (DESIGN CHOICE, log entry 103) -/
def State.elementFail (s : State) (m el : Nat) : State :=
  if s.chip.failing.contains (m, el) then s
  else
    let first := !s.chip.failing.any (fun x => x.1 == m)
    let s1 := { s with chip := { s.chip with failing := s.chip.failing ++ [(m, el)] } }
    let s2 := if s1.chip.repairs.length < 256 then
        { s1 with chip := { s1.chip with repairs := s1.chip.repairs ++ [(m, el)] } }.append
          ⟨0, 0x7902, 1, [], logRecordUnits 6, 0, none, 0, false, 0⟩ false
      else s1
    if first then s2.macroWithdraw m else s2

/-- R368: the field repairs that find no spare of their kind left: a macro has 4 spare rows and 2 spare columns. -/
def repairsSkipped (l : List (Nat × Nat)) : List (Nat × Nat) :=
  (l.foldl (fun (acc : List (Nat × Nat) × List (Nat × Nat)) r =>
    let col := decide (65536 ≤ r.2)
    let used := (acc.1.filter (fun x => x.1 == r.1 && decide (65536 ≤ x.2) == col)).length
    if used < (if col then 2 else 4) then (acc.1 ++ [r], acc.2) else (acc.1, acc.2 ++ [r])) ([], [])).2

/-- R368, R370: the SRAM at the start of Bring-Up: repairs are switched in, volatile counts return to 0, and every
element without a spare is handled for good. -/
def State.chipStart (s : State) : State :=
  let skipped := repairsSkipped s.chip.repairs
  let failing := s.chip.failing.filter (fun x => !s.chip.repairs.contains x || skipped.contains x)
  let ms := (failing.map (fun x => x.1)).dedup
  let s1 := { s with chip := { failing := failing, repairs := s.chip.repairs, repairsSkipped := skipped.length
                               macrosNoSpare := (ms.filter (fun m => decide (64 ≤ m ∧ m < 256) || decide (544 ≤ m))).length } }
  s1.forEach ms (fun m s =>
    if 256 ≤ m ∧ m < 512 then
      let e := (m - 256) / 2
      if (s.engine e).failed then s else s.engineFail e
    else s.macroWithdraw m)

end Sys2Proof.Machine
end

