-- ==== Sys2Proof/Machine/RecovOps.lean ====
section
/-! DEFINITION. Durable journal pages, the stop record, what Flush writes, and the recovery of the map at Bring-Up
(R236, R237, R282 to R302, R473). -/

namespace Sys2Proof.Machine

/-! ### Durable records (R237) -/

/-- The first journal page in progress becomes durable. -/
def State.pageDurable (s : State) : State :=
  match s.jrn.flushing with
  | [] => s
  | p :: rest =>
    { s with jrn := { s.jrn with flushing := rest, log := s.jrn.log ++ p
                                 durable := p.foldl (fun m r => max m r.jseq) s.jrn.durable } }

/-- Every record becomes durable (Flush). -/
def State.allDurable (s : State) : State :=
  let s1 := s.closeTail
  s1.forEach s1.jrn.flushing (fun _ s => s.pageDurable)

/-! ### The stop record (R292, R293) -/

/-- The superblocks of the reserve. -/
def State.reserveList (s : State) : List Nat :=
  (s.media.sbs.filter (fun x => x.2.kind = .reserve && x.2.st = .open_)).map (fun x => x.1)

/-- The first superblock of the flush reserve that has taken data. -/
def State.reserveUsed (s : State) : Option Nat :=
  ((s.media.sbs.filter (fun x => x.2.kind = .reserve && (x.2.rows != 0 || !x.2.row.isEmpty))).map (fun x => x.1)).head?

/-- Write the stop record: the newest section record, retired by the first program that follows. -/
def State.stopRecord (s : State) (cause : Nat) : State :=
  let s1 := s.section_
  { s1 with recov := { s1.recov with stop := some ⟨cause, s1.jrn.next, s1.recov.seqNext, s1.reserveUsed⟩, stopValid := true
                                     startAppended := false }
            media := { s1.media with sbs := s1.media.sbs.map (fun x => (x.1, { x.2 with savedReads := x.2.reads })) } }

/-! ### The flush reserve (R282) -/

/-- Allocate superblocks to the reserve until it holds r. -/
def State.reserveFill (s : State) : Nat → State
  | 0 => s
  | fuel + 1 =>
    if s.reserveSbs ≤ s.reserveList.length then s
    else match s.sbAlloc .reserve 0 0 (fun _ => true) with
      | (s1, some _) => s1.reserveFill fuel
      | (s1, none) => s1

/-! ### Programming in Flush (R284, R285) -/

/-- The open row of a reserve superblock is programmed with its parity. -/
def State.reserveRow (s : State) (k : Nat) : State :=
  let items := ((s.sb k).row.map (fun p => p.items)).flatten
  let s1 := s.forEach items (fun i s =>
    s.setWblk i.src { s.wblk i.src with program := some i.dest, programmed := true, parity := true })
  let s2 := { s1 with media := { s1.media with progs := s1.media.progs.filter (fun p => p.2.sb != k) } }
  s2.rowEnd k

/-- Program what the open rows of the reserve hold. -/
def State.reserveRows (s : State) : State :=
  s.forEach (s.reserveList.filter (fun k => !(s.sb k).row.isEmpty)) (fun k s => s.reserveRow k)

/-- Program one write-buffer block into the reserve. -/
def State.flushBlock (s : State) (h : Nat) : State :=
  let b := s.wblk h
  let it : ProgItem := ⟨b.nsid, b.lba, true, h, 0, b.slot, b.mode⟩
  match s.slotPut .host .reserve 0 0 it with
  | some s1 => s1
  | none =>
    let s1 := s.reserveRows
    match s1.slotPut .host .reserve 0 0 it with
    | some s2 => s2
    | none => s1

/-- R285: the record of a block that Flush has programmed. -/
def State.flushRecord (s : State) (h : Nat) : State :=
  let b := s.wblk h
  match b.program with
  | none => s
  | some d =>
    if !s.hasMap b.nsid then s
    else if s.moveFits b.nsid b.lba true h then
      let e : MEnt := { loc := d, slot := b.slot, mode := b.mode, trim := false }
      (s.entryPut b.nsid b.lba s.jrn.next e).journal [mapRec b.nsid b.lba e]
    else s

/-- The committed blocks that are not yet programmed and that a DRAM copy holds, in the order of their SEQ. -/
def State.flushList (s : State) : List Nat :=
  (sortBy (fun a b => decide (a.2.seq ≤ b.2.seq))
    (s.wbuf.blks.filter (fun x => x.2.committed && (x.2.copyA || x.2.copyB) && !x.2.programmed))).map (fun x => x.1)

/-- The committed blocks that Flush cannot read from either copy. -/
def State.flushLost (s : State) : List (Nat × Nat) :=
  s.wbuf.blks.filterMap (fun x =>
    if x.2.committed && !x.2.copyA && !x.2.copyB && !x.2.programmed then some (x.2.nsid, x.2.lba) else none)

/-- R284, R285: what Flush programs: the data, the records that make it reachable, and the stop record last.
(DESIGN CHOICE, log entry 92) -/
def State.flushPrograms (s : State) : State :=
  let hs := s.flushList
  let s1 := (s.forEach (hs.filter (fun h => (s.wblk h).program.isNone)) (fun h s => s.flushBlock h)).reserveRows
  let s2 := s1.forEach hs (fun h s => s.flushRecord h)
  let s3 := s2.forEach s2.flushLost (fun x s =>
    let s' := s.staleRun x.1 x.2 1
    { s' with recov := { s'.recov with lossReport := s'.recov.lossReport ++ [(x.1, x.2, 1)] } })
  let s4 := s3.forEach s3.activeZoneList (fun z s => if s.hasMap z.1 then s else s.zoneJournal z.1 z.2)
  s4.allDurable.stopRecord 2

/-- R101, R361, R387: zone data that fills no unit is programmed before a shutdown or a Maintenance entry completes, and
when one of its copies is gone. Data of a
compressed zone goes to the flush reserve with its MAP record; data of any other zone keeps its write-buffer copy and is
read back as R285 reads back what Flush programs (DESIGN CHOICE, log entry 112). -/
def State.drainZones (s : State) (sel : WbBlk → Bool) : State :=
  let waits := s.wbuf.blks.filter (fun x => sel x.2 && x.2.committed && !x.2.programmed && x.2.program.isNone && (s.ns x.2.nsid).kind == 1
    && !s.media.progs.any (fun p => p.2.items.any (fun i => i.fromBuf && i.src == x.1)))
  let hs := waits.map (fun x => x.1)
  let maps := hs.filter (fun h => s.hasMap (s.wblk h).nsid)
  let s1 := s.forEach (hs.filter (fun h => !s.hasMap (s.wblk h).nsid)) (fun h s =>
    s.setWblk h { s.wblk h with programmed := true })
  if maps.isEmpty then s1
  else ((s1.forEach maps (fun h s => s.flushBlock h)).reserveRows).forEach maps (fun h s => s.flushRecord h)

/-! ### Scans (R296) -/

/-- The slots of a scan that pass the first two tests of R296. -/
def State.scanEligible (s : State) (l : List ScanSlot) : List ScanSlot :=
  let a := l.filter (fun x => decide ((s.ns x.nsid).createSeq ≤ x.seq) && (s.ns x.nsid).st != 0)
  a.filter (fun x =>
    if (s.ns x.nsid).kind = 1 then
      let first := x.lba / s.zsize x.nsid * s.zsize x.nsid
      let newest := (a.filter (fun y => y.nsid == x.nsid && y.lba == first)).foldl (fun m y => max m y.seq) 0
      decide (newest ≤ x.seq)
    else true)

/-- Every block of a slot's atomic group is found in that group's slot or in a newer slot. -/
def groupFound (l : List ScanSlot) (x : ScanSlot) : Bool :=
  (List.range x.atomLen).all (fun i => l.any (fun y =>
    y.nsid == x.nsid && y.lba + x.atomIdx == x.lba + i && decide (x.seq + i ≤ y.seq + x.atomIdx)))

/-- The slots that a scan keeps: for each block the highest SEQ that passes. -/
def State.scanKeeps (s : State) (l : List ScanSlot) : List ScanSlot :=
  let a := s.scanEligible l
  let b := a.filter (groupFound a)
  b.filter (fun x => b.all (fun y => !(y.nsid == x.nsid && y.lba == x.lba) || decide (y.seq ≤ x.seq)))

/-- The entry of a kept slot: MARK 02h is uncorrectable. -/
def scanEnt (x : ScanSlot) : MEnt :=
  if x.mark = 2 then { trim := false, stale := true, slot := 3 }
  else { loc := x.loc, slot := x.slot, mode := x.mode, trim := false }

/-- The zones of a scan: the write pointer is one past the highest block kept, and the extent starts where the
zone's first block lies. -/
def State.scanZone (s : State) (keep : List ScanSlot) (n z : Nat) (old : Zone) : Zone :=
  let zs := s.zsize n
  let mine := keep.filter (fun x => x.nsid == n && x.lba / zs == z)
  let wp := mine.foldl (fun m x => max m (x.lba % zs + 1)) 0
  let ext := (mine.find? (fun x => x.lba % zs == 0)).map (fun x => x.loc)
  { old with st := if wp = 0 then .empty else if wp = zs then .full else .closed
             wp := wp, adm := wp, programmed := wp, extent := ext.getD old.extent }

/-- The map that a scan gives, on top of what replay gave. -/
def State.scanned (s : State) (d : Durable) (keep : List ScanSlot) : Durable :=
  let ents := keep.foldl (fun t x =>
    if s.hasMap x.nsid then Tbl.set {} t (bkey x.nsid x.lba) (scanEnt x) else t) d.ents
  let zs := ((keep.filter (fun x => (s.ns x.nsid).kind == 1)).map (fun x => (x.nsid, x.lba / s.zsize x.nsid))).dedup
  let zones := zs.foldl (fun t z =>
    Tbl.set {} t (zkey z.1 z.2) (s.scanZone keep z.1 z.2 (Tbl.get {} d.zones (zkey z.1 z.2)))) d.zones
  { d with ents := ents, zones := zones }

/-! ### Recovery (R294 to R297, R473) -/

/-- The records of the replay: from the replay start in JSEQ order, up to the first gap. -/
def State.replayRecs (s : State) (gap : Option Nat) : List JRec :=
  s.jrn.log.filter (fun r => decide (s.jrn.replayStart ≤ r.jseq) && (match gap with
    | none => true
    | some g => decide (r.jseq < g)))

/-- R294: the path. -/
def State.recoveryPath (s : State) (f : Recovered) : Nat :=
  if !f.rootGood then 4 else if f.gap.isSome then 3 else if s.recov.stopValid && s.recov.stop.isSome then 1 else 2

/-- The pages that indexed records set (R295), with their lowest JSEQ. -/
def State.indexPages (s : State) (rs : List JRec) : List (Nat × Nat × Nat) :=
  rs.foldl (fun acc r =>
    let ps := match r.ty with
      | 1 => [s.mapPage r.nsid r.a]
      | 2 => s.pagesOf r.nsid r.a r.b
      | 3 => s.pagesOf r.nsid r.a r.b
      | _ => []
    ps.foldl (fun acc p =>
      if !s.hasMap r.nsid || acc.any (fun x => x.1 == r.nsid && x.2.1 == p) then acc else acc ++ [(r.nsid, p, r.jseq)]) acc) []

/-- The granules that entries map on one page. -/
def State.pageGranules (s : State) (n p : Nat) : Nat := ((s.pageEnts n p).map (fun x => x.2.granules)).sum

/-- The pages of the directory after a recovery: a page with indexed records counts 1,792 granules until it is filled. -/
def State.recoverPages (s : State) (d : Durable) (idx : List (Nat × Nat × Nat)) : State :=
  let used := (s.map.ents.map (fun x => (x.1 / 2 ^ 64, s.mapPage (x.1 / 2 ^ 64) (x.1 % 2 ^ 64)))).dedup
  let known := d.pages.map (fun x => (x.1 / 2 ^ 56, x.1 % 2 ^ 56))
  let all := ((used.filter (fun x => s.hasMap x.1)) ++ known ++ idx.map (fun x => (x.1, x.2.1))).dedup
  let s0 := { s with map := { s.map with pages := [] } }
  s0.forEach all (fun x s =>
    let b := Tbl.get {} d.pages (pkey x.1 x.2)
    let i := idx.find? (fun y => y.1 == x.1 && y.2.1 == x.2)
    s.setPage x.1 x.2
      { home := b.home, version := b.version, null := b.null && !used.contains x && i.isNone
        pinned := (s.ns x.1).kind == 1 && b.pinned
        granules := if i.isSome then 1792 else s.pageGranules x.1 x.2
        dirty := i.isSome, indexed := i.isSome
        recJseq := match i with
          | some y => y.2.2
          | none => 0 })

/-- R204, R206, R253, R285: a zone after a power cycle. `whole` says that a Flush or a shutdown kept what was
acknowledged; else the data above PROGRAMMED is lost. -/
def State.recoverZone (s : State) (n z : Nat) (d old : Zone) (whole : Bool) : Zone :=
  let zs := s.zsize n
  let mapped := ((s.entsOf n (fun l => l / zs == z)).map (fun x => x.1 % zs + 1)).foldl max 0
  let top := if whole then d.wp else if (s.ns n).compressedMap then min d.wp mapped else min d.wp d.programmed
  let wp0 := if d.st.isActive then top else d.wp
  let high := old.zrwaWritten.foldl (fun m b => max m (b + 1)) 0
  let wp := if d.zrwa && whole && wp0 < high then min zs (4 * ceilDiv high 4) else wp0
  let empty := d.st.isOpen && wp == 0 && !d.zrwa
  { d with st := if empty then .empty else if d.st.isOpen then .closed else d.st
           wp := wp, adm := wp, charge := if empty then 0 else d.charge
           voids := (old.voids.filter (fun v => decide (v.1 < wp))).map (fun v => (v.1, min v.2 (wp - v.1)))
           packAt := old.packAt
           units := if (s.ns n).compressedMap then List.range (old.packAt / max 1 (4 * s.unitBlocks))
                    else if s.unitBlocks = 0 then [] else List.range (d.programmed / s.unitBlocks)
           epochNo := old.epochNo + 1 }

/-- The zones after a recovery. -/
def State.recoverZones (s : State) (d : Durable) (whole : Bool) : State :=
  let old := s.zones
  let s0 := { s with zones := [] }
  s0.forEach d.zones (fun x s =>
    let n := x.1 / 2 ^ 32
    if (s.ns n).st = 0 then s
    else s.setZone n (x.1 % 2 ^ 32) (s.recoverZone n (x.1 % 2 ^ 32) x.2 (Tbl.get {} old x.1) whole))

/-- The superblocks after a power cycle: valid counts from the map, rows in progress gone, read counters as R263
restores them. -/
def State.recoverSbs (s : State) (whole : Bool) : State :=
  let half (k : Nat) : Nat := (if s.sbBits k = 1 then s.pf 0x19 else s.pf 0x18) / 2
  let fix (k : Nat) (x : Sb) : Sb :=
    let touched := x.rows != 0 || !x.row.isEmpty
    let y := { x with
      valid := 0, row := [], rowOn := [], parityLeft := 0, erasing := [], readers := 0, refreshQueued := false
      refreshRaised := false, filler := false
      kind := if x.kind = .reserve ∧ touched = true then .slc else x.kind
      reads := if whole then x.savedReads
               else (List.range Config.channels).foldl (fun t c => Tbl.modify 0 t c (fun v => v + half k)) x.savedReads }
    if x.st = .open_ ∧ x.kind ≠ .zone ∧ touched = true then { y with st := .closed, closedAt := s.aon.now }
    else if x.st = .open_ ∧ x.kind ≠ .zone ∧ x.kind ≠ .reserve then { wear := x.wear, absentCh := x.absentCh, step4 := x.step4 }
    else y
  let sbs : Tbl Sb := (s.media.sbs.map (fun x => (x.1, fix x.1 x.2))).filter (fun x => !decide (x.2 = ({} : Sb)))
  let s1 : State := { s with media := { s.media with sbs := sbs } }
  let s2 := s1.forEach (s1.map.ents.map (fun x => x.2)) (fun e s => s.validAdd e)
  if s2.profile then
    s2.forEach (s2.zones.filter (fun z => z.2.charge != 0)) (fun z s =>
      s.setSb (s.locSb z.2.extent) { s.sb (s.locSb z.2.extent) with valid := (s.sb (s.locSb z.2.extent)).valid + z.2.charge })
  else s2

/-- R473: use and NUSE of a namespace from the recovered map. -/
def State.recoverUse (s : State) (n : Nat) : State :=
  let g := Tbl.sum (fun k x => if k / 2 ^ 56 = n then x.granules else 0) s.map.pages
  let c := ((s.zonesOf n).map (fun z => z.2.charge)).sum
  s.setNs n { s.ns n with st := 1, workTag := none, used := g + c, nuse := (s.entsOf n (fun _ => true)).length }

/-- R424: a sanitize to resume: no map is loaded. -/
def State.recoverNothing (s : State) : State :=
  let s1 := { s with map := { s.map with ents := [], pages := [], base := {} }, zones := [], jrn := { s.jrn with log := [] } }
  (s1.forEach s1.nsList (fun n s => s.recoverUse n)).recoverSbs true

/-- R294 to R297, R302, R473: the recovery of the map. -/
def State.recoverMap (s : State) (f : Recovered) : State :=
  let path := s.recoveryPath f
  let whole := path == 1
  let r := s.recov
  let stopped := r.stopValid && r.stop.isSome
  let stop := r.stop.getD ⟨0, s.jrn.durable + 1, r.seqCeil, none⟩
  let next := if whole then stop.jseqNext else s.jrn.durable + 1
  let seq := if stopped then stop.seqNext else r.seqCeil
  let recs := if path = 4 then [] else s.replayRecs f.gap
  let d0 := if path = 4 then {} else recs.foldl Durable.apply s.map.base
  let d := if 3 ≤ path then s.scanned d0 (s.scanKeeps f.scan) else d0
  let s1 := { s with
    map := { s.map with ents := d.ents.filter (fun x => (s.ns (x.1 / 2 ^ 64)).st != 0), fills := [], lines := [], detectors := [] }
    jrn := { s.jrn with next := next, tail := [], flushing := [], ckptRunning := false, durable := next - 1 }
    recov := { r with
      seqNext := seq, lastRecovery := path, recoveries := r.recoveries + 1, recoveryMs := f.milliseconds
      lastStop := if stopped then stop.cause else 3
      unsafeStops := if stopped then r.unsafeStops else satAdd 32 r.unsafeStops 1
      scans := if 3 ≤ path then satAdd 32 r.scans 1 else r.scans
      recordsReplayed := satAdd 64 0 recs.length } }
  let s2 := (s1.recoverZones d whole).recoverPages d (if 3 ≤ path then [] else s1.indexPages recs)
  let s3 := if 3 ≤ path then
      { s2 with
        map := { s2.map with base := { d with ents := s2.map.ents } }
        jrn := { s2.jrn with log := [], replayStart := next, bytesFromReplay := 0, changed := false
                             checkpoints := satAdd 32 s2.jrn.checkpoints 1, lastCkptAt := s2.aon.now } }
    else s2
  let s4 := s3.recoverSbs stopped
  s4.forEach s4.nsList (fun n s => s.recoverUse n)

/-- R296: the Persistent Event of a scan names the namespaces. -/
def State.scanEvent (s : State) (f : Recovered) : State :=
  if 3 ≤ s.recov.lastRecovery then s.rasRecord 0x07 0 0 3 0 ((f.scan.map (fun x => x.nsid)).dedup) else s

/-- Start the fills of pages with indexed records, while frames and fill entries are free (R473). -/
def State.indexFill (s : State) : State :=
  s.forEach ((s.map.pages.filter (fun x => x.2.indexed && !x.2.inDram)).map (fun x => x.1)) (fun k s =>
    if decide (4096 ≤ s.map.fills.length) || decide (s.frames ≤ s.framesUsed)
        || s.map.fills.any (fun x => pkey x.nsid x.page == k) then s
    else s.fillStart (k / 2 ^ 56) (k % 2 ^ 56) 3 false [])

end Sys2Proof.Machine
end

