-- ==== Sys2Proof/Machine/LifeOps.lean ====
section
/-! DEFINITION. Base modes and what each transition does (R41, R75, R101, R139, R140, R280 to R288, R384 to R389, R433,
R447, R463 to R468). -/

namespace Sys2Proof.Machine

def State.lcsBit (s : State) (b : Nat) : State :=
  { s with regs := { s.regs with lcsEvent := s.regs.lcsEvent ||| (1#32 <<< b) } }
def State.pwrBit (s : State) (b : Nat) : State :=
  { s with regs := { s.regs with pwrEvent := s.regs.pwrEvent ||| (1#32 <<< b) } }

/-! ### Values that return to their defaults at Bring-Up (R42) -/

/-- The volatile fields of one port's record. -/
def Port.volatile (x : Port) : Port :=
  { x with dlDowns := 0, lastReset := 0, fencedDiscards := 0, lowRate := 0, dmaErrors := 0, atsInvalidations := 0 }

/-- The volatile records return to their defaults; a value that a Monitor wrote in Dormant to MAINT_REQUEST is held. -/
def State.volatileClear (s : State) : State :=
  { s with
    ports := s.ports.map (fun x => (x.1, x.2.volatile))
    cmds := { nextOrder := s.cmds.nextOrder, nextReq := s.cmds.nextReq }
    sched := {}
    pool := { s.pool with inflight := 0, capExceeded := 0 }
    map := { s.map with lookups := 0, lineHits := 0, dramHits := 0, hmbFills := 0, flashFills := 0, prefetches := 0
                        writebacks := 0, evictions := 0, hmbCopies := 0, checkFails := 0, movesDropped := 0
                        placementExc := 0, pinRefused := 0 }
    jrn := { s.jrn with checkpoints := 0, tailWaits := 0, forced := 0 }
    media := { s.media with readRefreshes := 0, patrolRefreshes := 0, recovered := 0, unrecovered := 0, patrolLapH := 0
                            hostGranules := 0, mediaGranules := 0, stranded := 0, fillerCloses := 0 }
    cmp := { s.cmp with blocksCoded := 0, blocksRaw := 0, granulesOut := 0, residueRetries := 0, checkMismatches := 0
                        jobs := 0, jobOverflows := 0, jobInvalid := 0, stageWaits := 0, slotInvalid := 0
                        sliceBlocks := [], sliceGranules := [], sliceRaw := [] }
    nss := s.nss.map (fun x => (x.1, { x.2 with blocksCoded := 0, granulesCoded := 0, capExceeded := 0 }))
    thermal := { s.thermal with sensors := s.thermal.sensors.map (fun x => (x.1, { x.2 with breaks := 0 })) }
    mgmt := { s.mgmt with mctpDrops := 0, bdpDrops := 0, telem := s.mgmt.telem.map (fun x => (x.1, { x.2 with skipped := 0 })) }
    ras := { s.ras with ack := 0 }
    regs := { thmEvent := s.regs.thmEvent &&& 64#32 }
    mode := { s.mode with powerMw := 0, peakMw := 0, energyMj := 0, overMs := 0 } }

/-! ### The fast domain goes off (R389) -/

/-- A NOR append in progress finishes in Flush; its request receives no response (R284). -/
def State.appendFinish (s : State) : State :=
  match s.dict.appends with
  | [] => s
  | o :: _ =>
    let s1 := s.logDurable o
    { s1 with dict := { s1.dict with appends := [] } }

/-- A NOR append in progress is torn by a power loss; its units are discarded at the next load. -/
def State.appendTear (s : State) : State :=
  match s.dict.appends with
  | [] => s
  | o :: _ =>
    let s1 := s.setActiveCopy { s.activeCopy with torn := s.activeCopy.torn + o.units }
    { s1 with dict := { s1.dict with appends := [] } }

/-- What the fast domain and DRAM held is gone. The blocks of uncompressed zones that a completed Flush programmed
stay: Bring-Up reads them back into the write buffer (R285). -/
def State.fastOff (s : State) : State :=
  let kept := s.recov.stopValid
  { s with
    ports := (s.ports.map (fun x => (x.1, ({ perst := x.2.perst } : Port)))).filter (fun x => !decide (x.2 = ({} : Port)))
    funcs := [], dmas := [], dmaWait := [], sqs := [], cqs := [], tags := [], ctrls := [], dirty := [], chans := []
    islands := [], drams := [], ranks := []
    sched := {}
    luns := (s.luns.map (fun x => (x.1, ({ retired := x.2.retired } : Lun)))).filter (fun x => !decide (x.2 = ({} : Lun)))
    engines := s.engines.map (fun x => (x.1, { x.2 with events := [], running := none, startedAt := 0, commitBuf := [], newImage := false }))
    slices := s.slices.map (fun x => (x.1, { x.2 with fenceOpen := false, qerr := false, stale := false, drops := 0
                                                      intPending := [], resetTags := [], acting := 0 }))
    pool := { s.pool with inflight := 0 }
    map := { s.map with fills := [], lines := [], hmb0 := 0, hmb1 := 0, detectors := [] }
    wbuf := { blks := s.wbuf.blks.filter (fun x => kept && x.2.committed && !s.hasMap x.2.nsid), next := s.wbuf.next }
    media := { s.media with progs := [], moveWait := [], moved := [], folding := false }
    cmp := { s.cmp with softQueue := [], softRun := [] }
    sec := { s.sec with stagingOwner := none, stagingPieces := [], stagingImage := none, actState := 0, actTag := none
                        actEnginesLeft := 0, transition := false }
    dict := { s.dict with staging := [], dup := []
                          shadows := s.dict.shadows.filter (fun x => dormantWrites x.1)
                          commits := s.dict.commits.filter (fun x => dormantWrites x.1) }
    mode := { s.mode with mapReady := false, maintEntry := false, maintStopped := false, entryCkpt := false
                          drainWanted := false, maintWaiters := [], postWindow := false, restartWait := false, rerun := false
                          psInForce := 0, psNext := 0, fatal := 0 }
    aon := { s.aon with pllsOn := false } }

/-- Move to Dormant (R385). -/
def State.enterDormant (s : State) (cause : Nat) : State := ((((s.appendTear.transition .dormant cause).vdmDown 0).vdmDown 1).fastOff)

/-! ### Bring-Up (R56, R87, R139, R140, R307, R358, R362, R433) -/

/-- R433: an image that the ROM takes. -/
def State.slotValid (s : State) (k : Nat) : Bool :=
  match s.fwSlot k with
  | none => false
  | some f => f.headerGood && f.signatureGood && f.digestGood && decide (s.sec.minSvn ≤ f.svn)

/-- The highest activation sequence of a slot. -/
def State.actSeq (s : State) (k : Nat) : Nat := ((s.sec.acts.filter (fun a => a.1 == k)).map (fun a => a.2)).foldl max 0

/-- R433: the slot that the ROM loads. -/
def State.bootSlot (s : State) : Option Nat :=
  let seq (k : Nat) : Nat := match s.fwSlot k with
    | some f => f.imageSeq
    | none => 0
  match s.slotValid 1, s.slotValid 2 with
  | false, false => none
  | true, false => some 1
  | false, true => some 2
  | true, true =>
    if s.actSeq 1 = 0 ∧ s.actSeq 2 = 0 then some (if seq 1 < seq 2 then 2 else 1)
    else some (if s.actSeq 1 < s.actSeq 2 then 2 else 1)

/-- R56: the copy that is loaded, and how the load is reported; no copy and no system image gives the defaults. -/
def State.storeLoad (s : State) : State :=
  let d := s.dict
  let act := s.activeCopy
  let oth := if d.activeB then d.copyA else d.copyB
  let put (x : State) (l : Tbl (Option Val)) (code n : Nat) : State :=
    { x with dict := { x.dict with stored := l, inForce := l, lastLoad := code, discarded := n, appendFailed := false
                                   compacting := false, retryAt := none } }
  if act.valid && (!oth.valid || decide (oth.imageSeq ≤ act.imageSeq)) then
    put (s.setActiveCopy { act with torn := 0 }) d.stored (if act.torn = 0 then 0 else 1) act.torn
  else if oth.valid then
    let fs := oth.log.foldl (fun (t : Tbl (Option Val)) o =>
      o.saved.foldl (fun t x => Tbl.set none t x.1 (some x.2)) t) oth.image
    put { s with dict := { d with activeB := !d.activeB } } fs (if oth.torn = 0 then 2 else 1) oth.torn
  else
    let fresh (l : Tbl (Option Val)) : State :=
      { s with dict := { d with copyA := { valid := true, imageSeq := d.storeSeq, image := l }
                                copyB := { valid := true, imageSeq := d.storeSeq, image := l }, activeB := false } }
    if d.systemImage.isEmpty then
      let s1 := put (fresh []) [] 4 0
      { s1 with mode := { s1.mode with bringupEvent := 1 } }
    else put (fresh d.systemImage) d.systemImage 3 0

/-- R343, R362: the DRAM profile is one that the part supports. -/
def State.dramProfileGood (s : State) : Bool :=
  s.cfgB 0x7800 1 && decide (s.dramPerChannel * s.dramPopulated ≤ 128)
    && decide (s.cfg 0x7800 8 + s.cfg 0x7800 6 ≤ 310) && decide (s.cfg 0x7800 8 + s.cfg 0x7800 7 ≤ 310)
    && decide (s.cfg 0x7800 8 + s.cfg 0x7800 12 ≤ 310)

/-- The DRAM channels start training, unless the profile leaves DRAM unused. -/
def State.dramStart (s : State) : State :=
  let s1 := { s with drams := [], ranks := [] }
  if s1.dramProfileGood then
    s1.forEach (List.range s1.dramPopulated) (fun c s => s.setDram c { st := 1, rate := s.cfg 0x7800 5 })
  else { s1 with mode := { s1.mode with bringupEvent := if s1.mode.bringupEvent = 0 then 4 else s1.mode.bringupEvent } }

/-- R275, R307: every channel that is Off or failed starts training at the profile's rate; with no profile each
stays Off, and Bring-Up ends in Maintenance. -/
def State.chanStart (s : State) : State :=
  if s.profile then
    s.forEach (List.range Config.channels) (fun c s =>
      if (s.chan c).st = .off ∨ (s.chan c).st = .failed then s.setChan c { st := .training, rate := s.pf 0x31 } else s)
  else { s with mode := { s.mode with bringupEvent := if s.mode.bringupEvent = 0 then 2 else s.mode.bringupEvent } }

/-- R139, R140, R153: the slices at Bring-Up. Slice 1 of a new store is Bound where two ports are in use. -/
def State.sliceStart (s : State) : State :=
  let fix (n : Nat) (x : Slice) : Slice :=
    match x.st with
    | .resetting => { x with st := .bound, unbindPending := false, destroyPending := false, genHeld := false }
    | .destroying => { gen := x.gen }
    | .created => if n = 1 ∧ x.gen = 0 ∧ s.dual then { x with st := .bound } else x
    | _ => x
  let gone := (s.slices.filter (fun x => decide (x.2.st = .destroying))).map (fun x => x.1)
  let s0 := s.forEach gone (fun n s => s.recordClear (0x3000 + n))
  let s1 := { s0 with slices := (s0.slices.map (fun (x : Nat × Slice) => (x.1, fix x.1 x.2))).filter (fun x => !decide (x.2 = ({} : Slice))) }
  s1.forEach s1.boundSlices (fun n s =>
    let s2 := s.resetBody n
    s2.setSlice n { s2.slice n with fenceOpen := true })

/-- R87, R448: the port mode of this Bring-Up; a failed port is tested again. -/
def State.portStart (s : State) : State :=
  let p := s.cfg 0x2000 1
  { s with aon := { s.aon with portDual := if p = 0 then s.aon.strapDual else p == 2 }
           ports := s.ports.map (fun (x : Nat × Port) => (x.1, { x.2 with failed := false, parityErrors := [], loopbackFails := 0 })) }

/-- R388: the causes of Sustain that a Bring-Up may clear. -/
def State.sustainStart (s : State) : State :=
  let s1 := if (List.range Config.engines).any (fun e => (s.engine e).failed) then s else s.sustainClear 0
  let c := s1.cmp
  let s2 := if c.failedLanes.isEmpty && c.twinUsed.isEmpty && c.cryptoFailed.isEmpty && !c.parityFailed && c.softFailed.isEmpty
            then s1.sustainClear 1 else s1
  (s2.sustainClear 6).sustainClear 7

/-- R468: the straps as Bring-Up samples them. A test strap that the lifecycle does not open is recorded. -/
def State.strapStart (s : State) : State :=
  let a := s.aon
  let s1 := { s with aon := { a with refsel := a.strapRefsel, spiMode := a.strapSpi, pllsOn := true
                                     pllOnRefclk := a.strapRefsel && a.refclk0 } }
  if a.strapTest then s1.rasRecord 0x0F 0 0 1 0 [] else s1

/-- Begin Bring-Up (R385): nothing starts in scan test (R468) or without an image (R433). -/
def State.bringUpBegin (s : State) (cause : Nat) (rerun : Bool := false) : State :=
  if s.aon.strapTest && s.debugOpen then s
  else match s.bootSlot with
    | none => { s with mode := { s.mode with noImage := true } }
    | some k =>
      let s0 := if rerun then s else s.fastOff
      let s1 := (s0.volatileClear.strapStart).transition .bringUp cause
      let s2 := { s1 with
        sec := { s1.sec with slotInForce := k, aliasNo := s1.sec.aliasNo + 1 }
        mode := { s1.mode with noImage := false, bringupEvent := 0, maintCauses := 0, mapReady := false, rerun := rerun
                               maintStopped := false, fatal := 0 } }
      let s3 := s2.storeLoad.portStart.sliceStart.sustainStart
      ((s3.chipStart).dramStart).chanStart

/-- R385, R386, R398, R466: what MAIN_PG needs to begin Bring-Up. -/
def State.mayStart (s : State) : Bool :=
  decide (s.mode.base = .dormant) && s.aon.mainPg && !s.aon.pln && !s.aon.pwrdis && !s.aon.thermalHold
    && !s.aon.holdNeedsPg && s.aon.crystal25

/-- Begin Bring-Up from Dormant where every condition holds. -/
def State.tryStart (s : State) (cause : Nat) : State := if s.mayStart then s.bringUpBegin cause else s

/-! ### The end of Bring-Up (R294, R306, R385, R447) -/

/-- R447: a cause that ends service, as a Bring-Up finds it: every engine of a role, both Crypto Unit halves, or all
DRAM channels. -/
def State.fatalNow (s : State) : Nat :=
  if [0, 1, 2, 3].any (fun r => !s.roleWorks r) then 3
  else if s.cmp.cryptoFailed.length = 2 then 5
  else if s.mode.bringupEvent ≠ 4 ∧ ((List.range 4).any (fun c => s.dramUp c)) = false then 6
  else 0

/-- R306: the LUNs of a target that does not answer or differs from the profile. -/
def State.targetUnused (s : State) (t : Nat × Nat) : State :=
  s.forEach (List.range (s.pf 7)) (fun i s =>
    s.setLun t.1 (t.2 * s.pf 7 + i) { s.lun t.1 (t.2 * s.pf 7 + i) with failed := true })

/-- Ready controllers (R100). -/
def State.readyAll (s : State) : State :=
  s.forEach s.funcs (fun x s =>
    let p := x.1 / 256
    let f := x.1 % 256
    if (s.func p f).ccEn then s.setFunc p f { s.func p f with rdy := true } else s)

/-- R210: a power loss closes the open reclaim units before they are full. -/
def State.unitsCut (s : State) : State :=
  s.forEach (s.media.sbs.filter (fun x => decide (x.2.kind = SbKind.dense ∧ x.2.st = SbSt.open_ ∧ (x.2.rows ≠ 0 ∨ x.2.row ≠ [])))) (fun _ s => s.fdpEvent 0)

/-- The map is recovered and every namespace is ready. (DESIGN CHOICE, log entry 91) -/
def State.mapIn (s : State) (f : Recovered) : State :=
  if !s.profile || s.mode.rerun then s
  else
    let s1 := if s.recov.sanitizeRecord ≠ 0 then s.recoverNothing
              else if s.recov.started then (s.unitsCut.recoverMap f).scanEvent f else s
    let s2 := { s1 with recov := { s1.recov with started := true, lossReport := [], startAppended := false } }
    let s3 := s2.forEach s1.recov.lossReport (fun x s => s.deferredError x.1 x.2.1 x.2.2)
    s3.indexFill

/-- The first spare after the last commit of 6401h (R273), and the reserve of R282. -/
def State.spareStart (s : State) : State :=
  if !s.profile then s
  else
    let s1 := s.reserveFill 64
    if s1.media.initialised then s1
    else { s1 with media := { s1.media with initialised := true, s0 := s1.spareS.toNat, lastSpare := 100 } }

/-- The base mode in which Bring-Up ends, with its cause. -/
def State.bringUpEnd (s : State) : State :=
  if s.mode.maintCauses ≠ 0 then
    s.transition .maintenance (if s.mode.maintCauses.testBit 2 then s.mode.bringupEvent + 3
                               else if s.mode.maintCauses.testBit 1 then 8 else 16)
  else if s.mode.readonlyCauses ≠ 0 then s.transition .readOnly 3
  else s.transition .service 3

/-- The causes that hold at the end of Bring-Up. -/
def State.bringUpCauses (s : State) (f : Recovered) : State :=
  let many := s.profile && decide (Config.channels * s.pf 8 < 2 * f.badTargets.length)
  let s1 : State := if many && s.mode.bringupEvent == 0 then { s with mode := { s.mode with bringupEvent := 3 } } else s
  let s2 := s1.maintSet 2 (s1.mode.bringupEvent != 0)
  let s3 := s2.maintSet 1 (s2.recov.sanitizeRecord != 0)
  let s4 := s3.maintSet 0 s3.mode.maintReq
  s4.readonlySet 1 (s4.cfgB 0x8000 4)

/-- R240: DRAM that no longer covers the stored MAP_CACHE_GIB is recorded. (DESIGN CHOICE, log entry 119) -/
def State.mapCacheCheck (s : State) : State :=
  if s.dramProfileGood && s.cfg 0x6000 1 != 0 && decide (s.installedGiB < s.cfg 0x6000 1 + 12) then
    s.rasRecord 7 0 4 2 0 [s.cfg 0x6000 1, s.installedGiB] else s

/-! ### Flush (R280 to R286) -/

/-- R284: a LUN as Flush begins: queued reads and upkeep are dropped, an erase is ended by LUN reset, and a suspended
program resumes. -/
def flushLun (x : Lun) : Lun :=
  let keep (r : Option RunOp) : Option RunOp := match r with
    | some o => if o.w.op.kind = .erase then none else some o
    | none => none
  let run := keep x.running
  let sus := keep x.suspended
  { x with queue := x.queue.filter (fun w => w.op.kind == .program), suspendWanted := false, limitHit := false
           running := match run with
             | some r => some r
             | none => sus
           suspended := match run with
             | some _ => sus
             | none => none }

/-- R284: entries fetched but not admitted complete without a tag, where their port is up. -/
def State.windowsEnd (s : State) (st : Status) (sel : QKey → Sqe → Bool) : State :=
  s.forEach s.sqs (fun x s =>
    let q := codeQ x.1
    let go := (x.2.window.filter (fun w => sel q w.e)).map (fun w => w.e)
    let s1 := s.setSq q { s.sq q with window := (s.sq q).window.filter (fun w => !sel q w.e) }
    s1.forEach go (fun e s => if (s.port (s.qfunc q).1).linkUp then s.cqPut q e.cid st else s))

/-- R437: an activation stops after its current handoff. -/
def State.activationFlush (s : State) : State :=
  if s.sec.actState = 1 then { s with sec := { s.sec with actState := 0, actTag := none } }.lcsBit 3
  else if s.sec.actState = 2 then { s with sec := { s.sec with actState := 3, actTag := none, actEnginesLeft := 0 } }.lcsBit 3
  else s

/-- Flush begins (R284). -/
def State.flushStart (s : State) (cause : Nat) : State :=
  let s1 := (s.transition .flush cause).activationFlush
  let s2 := { s1 with
    mode := { s1.mode with flushAt := s.aon.now, flushCause := cause, postWindow := true, maintReq := false
                           maintEntry := false, maintStopped := false, entryCkpt := false, drainWanted := false
                           maintWaiters := [], maintCauses := 0 }
    luns := s1.luns.map (fun (x : Nat × Lun) => (x.1, flushLun x.2))
    media := { s1.media with moveWait := [], folding := false }
    chip := { s1.chip with waitq := [] }
    jrn := { s1.jrn with merged := s1.tailMark }
    drams := s1.drams.map (fun (x : Nat × Dram) => (x.1, { x.2 with
      panicSince := if x.2.panic then x.2.panicSince else s.aon.now, panic := x.2.panic || x.2.st == 2 || x.2.st == 3 })) }
  let ts : List Nat := (s2.tags.filter (fun x => x.2.st.uncommitted)).map (fun x => x.1)
  let s3 : State := s2.forEach ts (fun t s => (s.dmaCancel t).commitTag t ⟨0, 5⟩)
  s3.windowsEnd ⟨0, 5⟩ (fun _ _ => true)

/-- What the Always-On Domain holds is gone with aux power. (DEDUCED, log entry 13) -/
def State.auxGone (s : State) : State :=
  { s with
    aon := { s.aon with tsBase := 0, tsAt := s.aon.now, tsOrigin := 0, crystal25 := false, crystal32 := true, thermalHold := false
                        holdNeedsPg := false, ledCompletion := false }
    ras := { persistentEvents := s.ras.persistentEvents, lifeFrac := s.ras.lifeFrac }
    regs := {}
    thermal := { shutdowns := s.thermal.shutdowns }
    mgmt := { authFails := s.mgmt.authFails }
    mode := { s.mode with maintReq := false } }

/-- The Flush sequence has ended: Dormant, or Bring-Up after 10 ms (R286, R385). (DEDUCED, log entry 14) -/
def State.flushLeave (s : State) : State :=
  let s1 := s.enterDormant 21
  if s1.aon.auxOk then s1 else (s1.transition .unpowered 21).auxGone

/-- One of the conditions of R385 that send the end of Flush to Dormant. -/
def State.flushHeld (s : State) : Bool := s.aon.thermalHold || s.aon.pwrdis || s.aon.pln || !s.aon.mainPg || !s.aon.auxOk

/-- FLUSH_END's effect. -/
def State.flushDone (s : State) : State :=
  let s1 := s.flushPrograms.appendFinish
  let s2 := { s1 with
    recov := { s1.recov with flushUs := (s.aon.now - s.mode.flushAt) / usec, flushes := satAdd 32 s1.recov.flushes 1 }
    aon := { s1.aon with thermalHold := s1.aon.thermalHold || s1.mode.shutdownInFlush
                         holdNeedsPg := s1.aon.holdNeedsPg || (s1.mode.shutdownInFlush && !s.cfgB 0x8100 3) }
    mode := { s1.mode with shutdownInFlush := false, flushAt := s.aon.now, restartWait := true }
    islands := (List.range 48).map (fun k => (k, ({ st := .off } : Island))) }
  if s2.flushHeld then s2.flushLeave else s2

/-! ### Thermal shutdown, power and PLN_N on a base mode (R385, R386) -/

/-- An event that ends service goes to Flush, or to Dormant from Bring-Up; in Flush it is only recorded. -/
def State.powerEvent (s : State) (cause : Nat) : State :=
  if s.inService then s.flushStart cause
  else match s.mode.base with
    | .bringUp => s.enterDormant cause
    | .flush => if s.mode.restartWait then s.flushLeave else s
    | _ => s

/-! ### Shutdown and Maintenance (R101, R387, R400) -/

/-- A shutdown is in progress on some controller. -/
def State.shutting (s : State) : Bool := s.funcs.any (fun x => x.2.shst == 1)

/-- No I/O command holds a tag. (DESIGN CHOICE, log entry 104) -/
def State.ioIdle (s : State) : Bool := !s.tags.any (fun x => !(x.2.st = .free) && !x.2.admin)

/-- What shutdown, Maintenance entry and the end of service wait for, as far as it stands. -/
def State.settleWatch (s : State) : State :=
  if s.mode.base = .flush then s
  else
    let entering := s.mode.maintEntry && s.mode.maintStopped && s.ioIdle
    let s1 := if s.shutting || s.mode.drainWanted || entering then s.drain.drainZones (fun _ => true) else s
    if s1.bufferSettled && s1.journalSettled then
      let s2 := if s1.shutting then
          ({ s1 with funcs := s1.funcs.map (fun (x : Nat × Func) => (x.1, if x.2.shst = 1 then { x.2 with shst := 2 } else x.2)) }).stopRecord 1
        else s1
      if entering && !s2.mode.entryCkpt then
        let s3 := s2.checkpoint.closeTail
        { s3 with mode := { s3.mode with entryCkpt := true } }
      else s2
    else s1

/-- A Maintenance entry begins (R387). -/
def State.maintBegin (s : State) : State :=
  if s.mode.maintEntry || decide (s.mode.base = .maintenance) then s
  else { s with mode := { s.mode with maintEntry := true } }

/-- The last Maintenance cause has ended (R385); a sanitize that failed keeps the mode (R424). -/
def State.maintExit (s : State) : State :=
  if s.mode.maintCauses ≠ 0 ∨ s.sec.sanFailed = true then s
  else
    let s1 := { s with mode := { s.mode with maintEntry := false, entryCkpt := false } }
    match s1.mode.base with
    | .maintenance => s1.transition (if s1.mode.readonlyCauses ≠ 0 then .readOnly else .service) 20
    | _ => s1

/-- R387, R424: the status of an I/O entry while admission is stopped. -/
def State.maintStatus (s : State) : Status :=
  if s.sec.sanFailed then ⟨0, 0x1C⟩ else if s.mode.maintCauses.testBit 1 then ⟨0, 0x1D⟩ else ⟨0, 0x82⟩

/-- R387: at the epoch at which admission stops, I/O entries in a fetch window complete without a tag. -/
def State.maintWindows (s : State) : State :=
  if s.mode.maintStopped then s.windowsEnd s.maintStatus (fun q _ => !q.isAdmin) else s

/-- A write of MAINT_REQUEST (R387, R400): the answer, or none while the entry runs. -/
def State.maintRequest (s : State) (on : Bool) : State × Option Nat :=
  match s.mode.base with
  | .unpowered => (s, some rMode)
  | .flush => (s, some rMode)
  | .dormant => ({ s with mode := { s.mode with maintReq := on } }, some rOk)
  | .bringUp => ({ s with mode := { s.mode with maintReq := on } }, some rOk)
  | .maintenance =>
    if on then (({ s with mode := { s.mode with maintReq := true } }).maintSet 0 true, some rOk)
    else if s.sec.sanRunning ≠ 0 ∨ s.sec.transition = true then (s, some rMode)
    else
      let s1 := ({ s with mode := { s.mode with maintReq := false } }).maintSet 0 false
      if s1.mode.maintCauses.testBit 2 then (s1.bringUpBegin 20 true, some rOk) else (s1.maintExit, some rOk)
  | _ =>
    if on then ((({ s with mode := { s.mode with maintReq := true } }).maintSet 0 true).maintBegin, none)
    else
      let s1 := ({ s with mode := { s.mode with maintReq := false } }).maintSet 0 false
      (if s1.mode.maintCauses = 0 then s1.maintExit else s1, some rOk)

/-- WRITE_PROTECT as it comes in force (R212, R385): the cause, the flags and the base mode follow. -/
def State.protectForce (s : State) (on : Bool) : State :=
  let s1 := (s.readonlySet 1 on).critWatch s
  match s1.mode.base with
  | .service => if on then s1.transition .readOnly 14 else s1
  | .readOnly => if !on && s1.mode.readonlyCauses == 0 then s1.transition .service 15 else s1
  | _ => s1

/-- R212, R400: WRITE_PROTECT's boundary is the next command admission. -/
def State.protectBoundary (s : State) : State :=
  let was := s.cfgB 0x8000 4
  let s1 := s.entryBoundary 0x8000 4
  let now := s1.cfgB 0x8000 4
  if was == now then s1 else s1.protectForce now

end Sys2Proof.Machine
end

