-- ==== Sys2Proof/Machine/CmdOps.lean ====
section
/-! DEFINITION. Shared operations of host commands: the map pages a command needs (R218, R223, R224), its reads of the
map (R28, R125), zone extents and their relocation (R232, R253, R255), and ending a command's run. -/

namespace Sys2Proof.Machine

/-! ### Map pages of a command (R218, R223, R224, R234) -/

/-- Deallocating commands change whole pages without a fetch (R234). -/
def Sqe.trims (e : Sqe) : Bool := e.opcode == 0x09 || (e.opcode == 0x08 && e.deac)

/-- The pages that a run of blocks covers only in part. -/
def State.partPages (s : State) (n lba cnt : Nat) : List Nat :=
  (s.pagesOf n lba cnt).filter (fun p =>
    !(decide (lba ≤ s.pageFirst n p) && decide (s.pageFirst n p + s.pageCount n p ≤ lba + cnt)))

/-- The map pages that a command's lookups and changes need. -/
def State.needPages (s : State) (t : Nat) : List Nat :=
  let x := s.tag t
  let n := x.sqe.nsid
  if x.admin || !s.hasMap n then []
  else ((x.reads.flatMap (fun r => s.pagesOf n r.1 r.2)) ++
    (x.writes.flatMap (fun r => if Sqe.trims x.sqe then s.partPages n r.1 r.2 else s.pagesOf n r.1 r.2))).dedup

/-- Count the lookups of a command's blocks. -/
def State.lookupAll (s : State) (t : Nat) : State :=
  let x := s.tag t
  let runs := x.reads ++ (if Sqe.trims x.sqe then [] else x.writes)
  s.forEach runs (fun r s => s.forEach (List.range r.2) (fun i s => s.lookup x.sqe.nsid (r.1 + i)))

/-- Resolve a command's lookups: every page is here, or fills are asked for and the command waits in BUILD. -/
def State.mapResolve (s : State) (t : Nat) : State :=
  let x := s.tag t
  let n := x.sqe.nsid
  let ps := s.needPages t
  if ps.all (fun p => s.pageHere n p) then
    let s1 := if x.built then s.lookupAll t else s
    s1.setTag t { s1.tag t with waitsFill := false }
  else
    let s1 := s.forEach ps (fun p s => if s.pageHere n p then s else s.fillAsk n p x.cls t)
    s1.setTag t { s1.tag t with waitsFill := true }

/-- R230: the detectors see the pages that a command looks up. -/
def State.detectAll (s : State) (t : Nat) : State :=
  let x := s.tag t
  if x.slice < 4096 then s.forEach (s.needPages t) (fun p s => s.detect x.slice x.sqe.nsid p x.cls) else s

/-- Resolve every command that waits for a fill, oldest first. -/
def State.resolveWaiters (s : State) : State :=
  let ts := sortBy (fun a b => decide (a.2.order ≤ b.2.order)) (s.tags.filter (fun x => x.2.waitsFill && x.2.st.uncommitted))
  s.forEach (ts.map (fun x => x.1)) (fun t s => s.mapResolve t)

/-! ### Taking map results (R28, R125, R260) -/

/-- Take the map results of the blocks that a command reads: each block's place, and a hold on the write-buffer copy
or the superblock that it names. -/
def State.takeMap (s : State) (t : Nat) : State :=
  let x := s.tag t
  let n := x.sqe.nsid
  let ls := (x.reads.map (fun r => (List.range r.2).map (fun i => r.1 + i))).flatten
  let s1 := s.forEach (ls.zip (List.range ls.length)) (fun b s =>
    let w := s.locate n b.1
    let rt := Tbl.get {} (s.tag t).blks b.2
    let s2 := s.setTag t { s.tag t with blks := Tbl.set {} (s.tag t).blks b.2 { rt with src := w.1, mode := w.2.1, slot := w.2.2 } }
    match w.1 with
    | .buffer h => s2.setWblk h { s2.wblk h with readers := (s2.wblk h).readers + 1 }
    | .flash l => s2.setSb (s2.locSb l) { s2.sb (s2.locSb l) with readers := (s2.sb (s2.locSb l)).readers + 1 }
    | _ => s2)
  s1.setTag t { s1.tag t with mapTaken := true }

/-! ### Zone extents (R203, R232, R253, R255) -/

/-- Pin the map pages of a compressed zone (R233). -/
def State.zonePin (s : State) (n z : Nat) : State :=
  if (s.ns n).compressedMap then
    s.forEach ((List.range (s.zonePages n)).map (fun q => z * s.zonePages n + q)) (fun p s =>
      s.setPage n p { s.page n p with pinned := true, null := false, inDram := true })
  else s

/-- A place for a zone's extent: a lane set of an allocated zone superblock, or a newly allocated one. The answer is
the extent, where there is one. -/
def State.zonePlace (s : State) (n : Nat) (except : Nat → Bool) : State × Option Nat :=
  let ks := (s.media.sbs.filter (fun x => x.2.kind = .zone && x.2.st = .open_ && !except x.1)).map (fun x => x.1)
  let take (s : State) (k q : Nat) : State × Option Nat :=
    let w := s.laneWidth (s.zsize n) (s.dataMembers k).length
    let row := s.laneRow k q w
    let next := (lanes q w).foldl (fun t l => Tbl.set 0 t l (row + s.zoneRows n k)) (s.sb k).laneRow
    (s.setSb k { s.sb k with laneRow := next },
      some (s.locOf ((s.dataMembers k).headD 0) (k / max 1 s.blocksPerLun) (k % max 1 s.blocksPerLun)
        (row * s.denseBits) q 0))
  match ks.findSome? (fun k => (s.laneFind n k).map (fun q => (k, q))) with
  | some (k, q) => take s k q
  | none => match s.sbAlloc .zone 0 0 (fun k => decide (s.zoneRows n k ≤ s.wordlines)) with
    | (s1, some k) => take s1 k 0
    | (s1, none) => (s1, none)

/-- R232: relocate a zone's whole extent in one decision, with its ZONE record; the entries of a compressed zone that
lie in the extent follow. A zone that finds no place stays and is counted (R272). -/
def State.zoneRelocate (s : State) (n z : Nat) (except : Nat → Bool) : State :=
  let x := s.zone n z
  let old := s.locSb x.extent
  match (s.seqDraw 1).zonePlace n except with
  | (s1, none) => { s1 with media := { s1.media with stranded := satAdd 64 s1.media.stranded 1 } }
  | (s1, some e) =>
    let g := x.charge
    let s2 := s1.setSb old { s1.sb old with valid := (s1.sb old).valid - g }
    let moved (l : Nat) : Option Nat :=
      ((List.range (s2.zsize n)).find? (fun b => s1.zoneLoc n z b / 4 == l / 4)).map (fun b => b)
    let s3 := s2.setZone n z { s2.zone n z with extent := e }
    let s4 := s3.forEach (s3.entsOf n (fun l => l / s3.zsize n == z)) (fun m s =>
      if m.2.onFlash && s.locSb m.2.loc == old then
        match moved m.2.loc with
        | some b => s.setMent n m.1 { m.2 with loc := s.zoneLoc n z b + m.2.loc % 4 }
        | none => s
      else s)
    let k := s4.locSb e
    let s5 := (s4.setSb k { s4.sb k with valid := (s4.sb k).valid + g }).zoneJournal n z
    s5.setSb old { s5.sb old with lastMoveJseq := s5.jrn.next - 1 }

/-- The zones with data in the extents that a superblock holds. -/
def State.zonesIn (s : State) (k : Nat) : List (Nat × Nat) :=
  if s.profile then
    s.zones.filterMap (fun x => if x.2.charge != 0 && s.locSb x.2.extent == k then some (x.1 / 2 ^ 32, x.1 % 2 ^ 32) else none)
  else []

/-! ### Steps of a plan (R11, R122) -/

/-- The step of a plan that runs next. (DESIGN CHOICE, log entry 31) -/
def Tag.nextStep (x : Tag) : Option PStep := x.plan[x.stepsDone]?

/-- The step that runs next is of a kind. -/
def Tag.atKind (x : Tag) (k : StepKind) : Bool := match x.nextStep with
  | some p => p.kind == k
  | none => false

/-- The number of blocks a command moves or reads. -/
def Tag.blocks (x : Tag) : Nat :=
  if x.sqe.opcode = 0x19 then (x.ranges.map (fun r => r.2)).sum else x.nlb

end Sys2Proof.Machine
end

