-- ==== Sys2Proof/Machine/SanOps.lean ====
section
/-! DEFINITION. Keys, the emptying of a namespace, and sanitize (R193, R419 to R424). -/

namespace Sys2Proof.Machine

/-! ### Keys (R419, R421, R422) -/

/-- R421: the wrapped key table is rewritten with the system area. -/
def State.keyTableWrite (s : State) : State :=
  { s with sec := { s.sec with wrappedKeys := s.nss.filterMap (fun (x : Nat × Ns) => x.2.key.map (fun (k : Nat) => (x.1, some k))) } }.systemRewrite

/-- Zeroize the key pair of a namespace. (DESIGN CHOICE, log entry 100) -/
def State.keyErase (s : State) (n : Nat) : State :=
  if (s.ns n).key.isSome then
    ({ s.setNs n { s.ns n with key := none } with
       sec := { s.sec with cryptoErases := satAdd 32 s.sec.cryptoErases 1 } }).lcsBit 4
  else s

/-! ### A namespace without data (R193, R422, R424) -/

/-- Drop the write-buffer copies of a namespace. -/
def State.wbufDrop (s : State) (n : Nat) : State :=
  let gone := (s.wbuf.blks.filter (fun x => x.2.nsid == n)).map (fun x => x.1)
  { s with wbuf := { s.wbuf with blks := s.wbuf.blks.filter (fun x => x.2.nsid != n)
                                 pendingSlc := s.wbuf.pendingSlc.filter (fun h => !gone.contains h) } }

/-- Every map page of a namespace turns NULL, every zone is Empty, and its use of the pool is released. -/
def State.nsVoid (s : State) (n : Nat) : State :=
  let s1 := s.forEach (s.entsOf n (fun _ => true)) (fun x s => s.validSub x.2)
  let s2 := s1.forEach (s1.zonesOf n) (fun z s => s.setCharge n z.1 0)
  let homes := s2.map.pages.filterMap (fun x => if x.1 / 2 ^ 56 = n then x.2.home else none)
  let s3 := { s2 with
    map := { s2.map with
      ents := s2.map.ents.filter (fun x => x.1 / 2 ^ 64 != n)
      pages := s2.map.pages.filter (fun x => x.1 / 2 ^ 56 != n)
      fills := s2.map.fills.filter (fun f => f.nsid != n)
      lines := s2.map.lines.filter (fun x => x.1 / 2 ^ 56 != n && !(decide (2 ^ 80 ≤ x.1) && (x.1 - 2 ^ 80) / 2 ^ 32 == n))
      detectors := s2.map.detectors.filter (fun d => d.2.1 != n) }
    zones := (s2.zones.map (fun (x : Nat × Zone) =>
      (x.1, if x.1 / 2 ^ 32 = n then { epochNo := x.2.epochNo + 1 } else x.2))) }
  let s4 := s3.forEach homes (fun h s => s.homeRelease (some h))
  (s4.setNs n { s4.ns n with used := 0, nuse := 0, changedZones := [] }).wbufDrop n

/-! ### Sanitize (R424) -/

/-- Step 1: no key, no map, no zone, no buffered data; a checkpoint of the empty map completes. -/
def State.sanitizeNull (s : State) : State :=
  let s1 := (s.forEach s.nsList (fun n s => s.keyErase n)).keyTableWrite
  let s2 := { s1 with
    wbuf := { next := s1.wbuf.next }
    media := { s1.media with progs := [], moveWait := [], moved := [], folding := false }
    map := { s1.map with fills := [], lines := [], detectors := [], freedHomes := [] }
    jrn := { s1.jrn with tail := [], flushing := [], ckptRunning := false, bytesFromReplay := 0, replayStart := s1.jrn.next
                         durable := s1.jrn.next - 1, ckptNo := s1.jrn.ckptNo + 1, changed := false, over75 := false
                         checkpoints := satAdd 32 s1.jrn.checkpoints 1, lastCkptAt := s1.aon.now } }
  s2.recoverNothing

/-- A member that a Block Erase still has to erase. -/
def State.sanitizeLeft (s : State) (k ch : Nat) : Bool :=
  decide (k < s.superblocks) && decide ((s.sb k).kind ≠ .system ∨ (s.sb k).st = .free) && (s.members k).contains ch
    && !s.sec.sanErased.contains (k, ch)

/-- Some member is left. -/
def State.sanitizeMore (s : State) : Bool :=
  (List.range s.superblocks).any (fun k => (s.members k).any (fun c => s.sanitizeLeft k c))

/-- A sanitize has completed: SANITIZE_DONE where a record stands, and its Maintenance cause ends. -/
def State.sanitizeDone (s : State) : State :=
  let block := s.sec.sanRunning == 2
  let s1 := if block then ({ s with recov := { s.recov with sanitizeRecord := 0 } }).section_ else s
  let s2 := { s1 with sec := { s1.sec with
    sanRunning := 0, sanFailed := false, sanErased := [], sanitizes := satAdd 32 s1.sec.sanitizes 1
    erased := s1.sec.erased || (block && s1.keysInUse == 0) } }
  (((s2.lcsBit 5).maintSet 1 false).reserveFill 64).maintExit

/-- A sanitize has failed: its cause ends and the mode stays. -/
def State.sanitizeFail (s : State) : State :=
  (({ s with sec := { s.sec with sanRunning := 0, sanFailed := true } }).maintSet 1 false).lcsBit 7

/-- Every superblock outside the system area is Free again, its blocks to be erased. -/
def State.sanitizeFree (s : State) : State :=
  let fix (x : Sb) : Sb := if x.kind = .system ∧ x.st ≠ .free then x else { wear := x.wear, absentCh := x.absentCh, step4 := x.step4 }
  { s with media := { s.media with
      sbs := (s.media.sbs.map (fun (x : Nat × Sb) => (x.1, fix x.2))).filter (fun x => !decide (x.2 = ({} : Sb))) } }

/-- The accepted sanitize runs in Maintenance (R424): step 1, and for a Block Erase the record and step 2. -/
def State.sanitizeRun (s : State) : State :=
  if s.mode.base = .maintenance ∧ s.sec.sanRunning ≠ 0 then
    let s1 := s.sanitizeNull
    if s1.sec.sanRunning = 2 then
      let s2 := (({ s1 with recov := { s1.recov with sanitizeRecord := 1 }, sec := { s1.sec with sanErased := [] } }).section_).sanitizeFree
      if s2.sanitizeMore then s2 else s2.sanitizeDone
    else s1.sanitizeDone
  else s

/-- R424: a LUN in service that fails while the blocks are being erased fails the sanitize. -/
def State.sanitizeLun (s : State) : State :=
  if s.sec.sanRunning = 2 ∧ s.mode.base = .maintenance then s.sanitizeFail else s

/-- One member block of a Block Erase has been erased, or its erase failed and the block is retired. -/
def State.sanitizeErase (s : State) (k ch : Nat) (ok : Bool) : State :=
  let first := !s.sec.sanErased.any (fun x => x.1 == k)
  let w := if s.inSlcSet k then s.pf 0x17 else s.pf 0x16
  let s1 := if first then s.setSb k { s.sb k with wear := (s.sb k).wear + w } else s
  let s2 := if ok then { s1 with sec := { s1.sec with sanErased := s1.sec.sanErased ++ [(k, ch)] } } else s1.blockRetire k ch
  if s2.sanitizeMore then s2 else s2.sanitizeDone

end Sys2Proof.Machine
end

