-- ==== Sys2Proof/Machine/Sched.lean ====
section
/-! DEFINITION. Scheduling (R163 to R189): epochs and credit, the die scheduler, buses, clock islands and engines. -/

namespace Sys2Proof.Machine

/-! ### Epochs and credit (R163 to R167, R170 to R172) -/

/-- R165, R390: a port's budget of units per epoch, in 1/256 unit, scaled by the power state. -/
def State.portBudget (s : State) : Nat :=
  let b := 256 * (if s.dual then s.cfg 0x4000 3 else s.cfg 0x4000 2)
  match s.mode.psInForce with
  | 1 => b * 65 / 100
  | 2 => b * 35 / 100
  | _ => b

/-- Upkeep work is queued (R166): demand, media tasks, or acknowledged writes that wait for their programs (R162).
(DESIGN CHOICE, log entry 122) -/
def State.upkeepQueued (s : State) : Bool :=
  s.demand != 0 || !s.media.moveWait.isEmpty || s.wbuf.blks.any (fun x => x.2.committed && x.2.program.isNone && !x.2.programmed)

/-- The upkeep share in force, in per cent of the port budget. -/
def State.upkeepShare (s : State) : Nat :=
  if s.upkeepQueued then min (max s.demand (s.cfg 0x4000 7)) (s.cfg 0x4000 8) else 0

/-- An I/O entry of the slice waits in a fetch window. -/
def State.entryWaits (s : State) (n : Nat) : Bool :=
  s.sqs.any (fun x => x.2.live && !x.2.window.isEmpty && !(codeQ x.1).isAdmin && s.owner (codeQ x.1) == n)

def State.credit (s : State) (n : Nat) : Int := Tbl.get 0 s.sched.credit n
def State.setCredit (s : State) (n : Nat) (v : Int) : State :=
  { s with sched := { s.sched with credit := Tbl.set 0 s.sched.credit n v } }
def State.share (s : State) (n : Nat) : Nat := s.cfg (0x3000 + n) 11

/-- R166: the slices of a class on a port that take a grant, and those that do not. -/
def State.eligible (s : State) (p k : Nat) : List Nat :=
  (s.slicesOnPort p).filter (fun n => s.slClass n == k && (k == 0 || s.entryWaits n || decide (s.credit n ≤ 0)))
def State.ineligible (s : State) (p : Nat) : List Nat :=
  (s.slicesOnPort p).filter (fun n => s.slClass n != 0 && !(s.entryWaits n || decide (s.credit n ≤ 0)))

/-- R166: grant a class's pool; the answer is the sum of the grants. -/
def State.grantClass (s : State) (l : List Nat) (pool : Nat) : State × Nat :=
  let total := (l.map (fun n => s.share n)).sum
  l.foldl (fun (acc : State × Nat) n =>
    let s := acc.1
    let g := if total = 0 then 0 else pool * s.share n / total
    let c : Int := min (s.credit n + (g : Int)) ((s.cfg 0x4000 9 * g : Nat) : Int)
    let s1 := s.setCredit n c
    ({ s1 with sched := { s1.sched with grant := Tbl.set 0 s1.sched.grant n g } }, acc.2 + g)) (s, 0)

def State.portPool (s : State) (p : Nat) : PortPool := if p = 0 then s.sched.pool0 else s.sched.pool1
def State.setPortPool (s : State) (p : Nat) (x : PortPool) : State :=
  if p = 0 then { s with sched := { s.sched with pool0 := x } } else { s with sched := { s.sched with pool1 := x } }

/-- R165, R166: divide a port's budget and grant credit. -/
def State.portEpoch (s : State) (p : Nat) : State :=
  let b := s.portBudget
  if !(s.port p).linkUp then s.setPortPool p { upkeep := b }
  else
    let u := b * s.upkeepShare / 100
    let c := b * s.cfg 0x4000 4 / 100
    let f := b * s.cfg 0x4000 5 / 100
    let t := b - u - c - f
    let no := s.ineligible p
    let g0 := s.grantClass (s.eligible p 0) c
    let g1 := g0.1.grantClass (s.eligible p 1) t
    let g2 := g1.1.grantClass (s.eligible p 2) f
    let s1 := g2.1.forEach no (fun n s => s.setCredit n (min (s.credit n) 0))
    s1.setPortPool p { upkeep := u, crisp := c, standard := t, bulk := f, spill := b - u - (g0.2 + g1.2 + g2.2) }

/-- R133, R390: a state change takes effect at the epoch, and the commands that asked for it complete. -/
def State.psDone (s : State) : State :=
  s.forEach s.tags (fun x s =>
    if x.2.admin && decide (x.2.st = .run) && x.2.sqe.opcode == 0x09 && x.2.sqe.cdw10 % 256 == 2 then s.succeed x.1 else s)

/-! ### The die scheduler (R175 to R180) -/

def qUsec (n : Nat) : Nat := n * usec

/-- R175: the deadline of an operation that reaches its channel now. -/
def State.dieDue (s : State) (op : DieOp) : Nat :=
  match op.cls with
  | 0 => s.aon.now
  | 1 => s.aon.now + qUsec (s.cfg 0x4001 4)
  | 2 => s.aon.now + qUsec (s.cfg 0x4001 5)
  | _ => op.deadline

def WaitOp.crispRead (w : WaitOp) : Bool := w.op.kind == .read && w.op.cls == 0

/-- The waiting operation with the earliest deadline among those that a test selects. -/
def earliest (l : List WaitOp) (t : WaitOp → Bool) : Option WaitOp :=
  (l.filter t).foldl (fun (acc : Option WaitOp) w => match acc with
    | none => some w
    | some b => if w.due < b.due then some w else some b) none

/-- R176: the suspends that an operation may still take. -/
def State.suspendLimit (s : State) (k : DieOpKind) : Nat :=
  match k with
  | .program => min (s.cfg 0x4001 1) (s.pf 0x12)
  | .erase => min (s.cfg 0x4001 2) (s.pf 0x13)
  | .read => 0

/-- Words for a die command. -/
def dieWord : DieOpKind → String
  | .read => "read"
  | .program => "program"
  | .erase => "erase"

def State.schBit (s : State) (b : Nat) : State :=
  { s with regs := { s.regs with schStatus := s.regs.schStatus ||| (1#32 <<< b) } }

/-- R178: ask for the channel's bus. -/
def State.busAsk (s : State) (ch : Nat) (x : BusXfer) : State :=
  let c := s.chan ch
  match c.busActive with
  | none => (s.setChan ch { c with busActive := some x }).emit (.busTransfer ch x.program)
  | some _ => s.setChan ch { c with busWait := c.busWait ++ [x] }

/-- R3: the moment at which the first die command of a host read goes out. -/
def State.readIssued (s : State) (w : WaitOp) : State :=
  let x := s.tag w.op.owner
  if w.op.kind = .read ∧ w.op.cls < 3 ∧ x.st ≠ .free ∧ x.issueAt = 0 then s.setTag w.op.owner { x with issueAt := s.aon.now } else s

/-- Issue an operation, joined with others, to an idle or suspended LUN. -/
def State.dieIssue (s : State) (ch pos : Nat) (w : WaitOp) (joined : List WaitOp) : State :=
  let l := s.lun ch pos
  let gone := w :: joined
  let s1 := s.setLun ch pos { l with
    queue := l.queue.filter (fun x => !gone.contains x)
    running := some ⟨w, s.aon.now, s.aon.now, 0, 0, 0, joined⟩
    windowReads := if l.suspended.isSome then l.windowReads + 1 else l.windowReads
    crispSince := if w.crispRead then l.crispSince + 1 else l.crispSince }
  let s2 := s1.forEach gone (fun g s => s.readIssued g) |>.emit (.dieCommand ch pos (dieWord w.op.kind))
  if w.op.kind = .program then s2.busAsk ch ⟨true, w.op.cls, w.due, w.op.owner⟩ else s2

/-- Resume a suspended operation. -/
def State.dieResume (s : State) (ch pos : Nat) (r : RunOp) (forced : Bool) : State :=
  let l := s.lun ch pos
  let s1 := s.setLun ch pos { l with running := some { r with resumedAt := s.aon.now }, suspended := none
                                     windowReads := 0, limitHit := false, suspendWanted := false }
  let s2 := if forced then { s1 with sched := { s1.sched with forcedResumes := satAdd 32 s1.sched.forcedResumes 1 } }
            else s1
  s2.emit (.dieCommand ch pos "resume")

/-- Issue an overdue operation (R177, R188). -/
def State.dieOverdue (s : State) (ch pos : Nat) (w : WaitOp) : State :=
  let s1 := (s.dieIssue ch pos w []).schBit 12
  { s1 with sched := { s1.sched with overdueIssues := satAdd 64 s1.sched.overdueIssues 1 } }

/-- R390: the LUNs that may be busy, and the programs in progress, on one channel in a power state. -/
def psLimits : Nat → Option (Nat × Nat)
  | 1 => some (16, 8)
  | 2 => some (8, 4)
  | _ => none

/-- An operation in progress or suspended on a LUN. -/
def Lun.busyWith (l : Lun) (p : DieOpKind → Bool) : Bool :=
  (l.running.toList ++ l.suspended.toList).any (fun r => p r.w.op.kind)

/-- R390: the power state lets a LUN start an operation of a kind. -/
def State.psMay (s : State) (ch pos : Nat) (k : DieOpKind) : Bool :=
  match psLimits s.mode.psInForce with
  | none => true
  | some (luns, progs) =>
    let others := (List.range s.positions).filter (fun q => q != pos)
    ((s.lun ch pos).suspended.isSome || decide ((others.filter (fun q => (s.lun ch q).busyWith (fun _ => true))).length < luns))
      && (k != .program || decide ((others.filter (fun q => (s.lun ch q).busyWith (fun k => k == .program))).length < progs))

/-- R177: the choice at a LUN that is idle or has an operation suspended. -/
def State.woad (s0 : State) (ch pos : Nat) : State :=
  let s := s0.boundary 0x4001
  let l := s.lun ch pos
  let queue := l.queue.filter (fun w => s.psMay ch pos w.op.kind)
  let up := ((s.chan ch).st = .running || (s.chan ch).st = .reduced) && !(s.chan ch).retraining
  if l.running.isSome || l.pausedUntil.isSome || l.failed || l.resetPending || !up then s
  else
    let crisp := earliest queue WaitOp.crispRead
    let runLimit := s.cfg 0x4001 3
    let overdue (w : WaitOp) : Bool := decide (w.due < s.aon.now)
    let late := earliest queue (fun w => w.op.kind == .read && w.op.cls != 0 && overdue w)
    let lateFirst := late.isSome && decide (runLimit ≤ l.crispSince)
    let limit := match l.suspended with
      | some r => l.limitHit || s.elapsed r.suspendedAt (qUsec (s.pf 0x11) * 9 / 10)
      | none => false
    let resume := limit || decide (runLimit ≤ l.windowReads) || crisp.isNone
    match l.suspended, resume, lateFirst, late, crisp with
    | some r, true, _, _, _ => s.dieResume ch pos r (limit && crisp.isSome)
    | _, _, true, some w, _ =>
      let s1 := s.dieOverdue ch pos w
      s1.setLun ch pos { s1.lun ch pos with crispSince := 0 }
    | _, _, _, _, some w =>
      let mates := queue.filter (fun x => x.crispRead && x != w && x.op.block == w.op.block
        && x.op.page == w.op.page && x.op.slc == w.op.slc && x.op.plane != w.op.plane)
      s.dieIssue ch pos w (mates.foldl (fun acc x =>
        if acc.any (fun y => y.op.plane == x.op.plane) then acc else acc ++ [x]) [])
    | some _, _, _, _, none => s
    | none, _, _, _, none =>
      match earliest queue overdue with
      | some w => s.dieOverdue ch pos w
      | none =>
        match (List.range 4).findSome? (fun k => earliest queue (fun w => w.op.cls == k)) with
        | some w => s.dieIssue ch pos w []
        | none => s

/-- Every LUN of a channel chooses again. -/
def State.woadAll (s : State) (ch : Nat) : State := s.forEach (List.range s.positions) (fun p s => s.woad ch p)

/-- The LUNs that a limit of R390 held may choose again. -/
def State.woadFreed (s : State) (ch pos : Nat) : State :=
  if (psLimits s.mode.psInForce).isSome then (s.woad ch pos).woadAll ch else s.woad ch pos

/-- R176: suspend the operation in progress and choose again. -/
def State.dieSuspend (s : State) (ch pos : Nat) : State :=
  let l := s.lun ch pos
  match l.running with
  | none => s
  | some r =>
    let s1 := s.setLun ch pos { l with
      running := none, suspendWanted := false, windowReads := 0, limitHit := false
      suspended := some { r with suspends := r.suspends + 1, busy := r.busy + (s.aon.now - r.resumedAt)
                                 suspendedAt := s.aon.now } }
    let s2 := { s1 with sched := { s1.sched with suspends := satAdd 64 s1.sched.suspends 1 } }
    let s3 := s2.setChan ch { s2.chan ch with suspends := satAdd 64 (s2.chan ch).suspends 1 }
    (s3.emit (.dieCommand ch pos "suspend")).woad ch pos

/-- R176: what a Crisp read that arrives does to a running program or erase. -/
def State.crispArrives (s : State) (ch pos : Nat) : State :=
  let l := s.lun ch pos
  match l.running with
  | none => s
  | some r =>
    if r.w.op.kind = .read then s
    else if s.suspendLimit r.w.op.kind ≤ r.suspends then
      { s.schBit 11 with sched := { s.sched with spentWaits := satAdd 32 s.sched.spentWaits 1 } }
    else if s.elapsed r.resumedAt (qUsec (s.pf 0x10)) then s.dieSuspend ch pos
    else s.setLun ch pos { l with suspendWanted := true }

/-- Put a die operation into its LUN's queue, with its deadline (R175), and let Woad act. -/
def State.dieArrive (s : State) (ch pos : Nat) (op : DieOp) : State :=
  let l := s.lun ch pos
  let w : WaitOp := ⟨op, s.aon.now, s.dieDue op⟩
  let s1 := s.setLun ch pos { l with queue := l.queue ++ [w] }
  let s2 := if w.crispRead then s1.crispArrives ch pos else s1
  s2.woad ch pos

/-- A LUN takes operations: its channel serves and it is neither failed nor retired. -/
def State.lunServes (s : State) (ch pos : Nat) : Bool :=
  (decide ((s.chan ch).st = .running) || decide ((s.chan ch).st = .reduced))
    && decide (ch < Config.channels) && decide (pos < s.positions) && !(s.lun ch pos).failed && !(s.lun ch pos).retired

/-- DIE_DESCRIPTOR_ARRIVAL (R175, R176, R177). -/
def execDieDescriptorArrival (ch pos : Nat) (op : DieOp) (s : State) : Res :=
  .next (s.when (s.lunServes ch pos) (fun s => s.dieArrive ch pos op))

/-- SUSPEND_MIN_RUN_REACHED (R176). -/
def execSuspendMinRunReached (ch pos : Nat) (s : State) : Res :=
  .next (s.when ((s.lun ch pos).suspendWanted && (s.lun ch pos).running.isSome
    && (s.lun ch pos).queue.any WaitOp.crispRead) (fun s => s.dieSuspend ch pos))

/-- SUSPEND_LIMIT_REACHED (R177): the suspended operation resumes, or does so when the read in progress ends. -/
def execSuspendLimitReached (ch pos : Nat) (s : State) : Res :=
  .next (s.when (s.lun ch pos).suspended.isSome (fun s =>
    (s.setLun ch pos { s.lun ch pos with limitHit := true }).woad ch pos))

/-- R173, R179: the pause factor of a step, in quarters. -/
def pauseQuarters (step : Nat) : Nat := [0, 1, 2, 4, 12].getD step 12

/-- R263: reads of a member block; its counter saturates, and its limit queues a refresh once.
(DEDUCED, log entry 116) -/
def State.readsAdd (s : State) (k ch cnt : Nat) (slc : Bool) : State :=
  let x := s.sb k
  let n := satAdd 32 (Tbl.get 0 x.reads ch) cnt
  let limit := if slc then s.pf 0x19 else s.pf 0x18
  let hit := limit != 0 && decide (limit ≤ n) && !x.refreshRaised
  s.setSb k { x with reads := Tbl.set 0 x.reads ch n
                     refreshQueued := x.refreshQueued || hit, refreshRaised := x.refreshRaised || hit }

/-- R263: one read of a block. -/
def State.blockRead (s : State) (ch pos : Nat) (op : DieOp) : State := s.readsAdd (pos * s.blocksPerLun + op.block) ch 1 op.slc

/-- The operations of a multi-plane read that name different blocks: the read counts once on each (R263). -/
def blocksOnce (l : List WaitOp) : List WaitOp :=
  l.foldl (fun acc w => if acc.any (fun v => v.op.block == w.op.block) then acc else acc ++ [w]) []

/-- DIE_OPERATION_COMPLETE (R177, R178, R179, R263): `ok` is the die's pass status of a program or erase. -/
def execDieOperationComplete (ch pos : Nat) (ok : Bool) (s : State) : Res :=
  .next (s.when (s.lun ch pos).running.isSome (fun s =>
    let l := s.lun ch pos
    match l.running with
    | none => s
    | some r =>
      let busy := r.busy + (s.aon.now - r.resumedAt)
      let q := pauseQuarters (s.stepOf ch)
      let s1 := s.setLun ch pos { l with running := none, suspendWanted := false
                                         pausedUntil := if q = 0 then none else some (s.aon.now + q * busy / 4) }
      let c := s1.chan ch
      let s2 := match r.w.op.kind with
        | .read => (r.w :: r.joined).foldl (fun (s : State) (w : WaitOp) => s.busAsk ch ⟨false, w.op.cls, w.due, w.op.owner⟩)
            ((blocksOnce (r.w :: r.joined)).foldl (fun (s : State) (w : WaitOp) => s.blockRead ch pos w.op) s1)
        | .program => if ok then s1 else s1.setChan ch { c with programFails := satAdd 32 c.programFails 1 }
        | .erase => if ok then s1 else s1.setChan ch { c with eraseFails := satAdd 32 c.eraseFails 1 }
      s2.woadFreed ch pos))

/-- THERMAL_PAUSE_END (R179). -/
def execThermalPauseEnd (ch pos : Nat) (s : State) : Res :=
  .next (s.when (s.lun ch pos).pausedUntil.isSome (fun s =>
    (s.setLun ch pos { s.lun ch pos with pausedUntil := none }).woad ch pos))

/-- The waiting transfer of the highest class, earliest deadline first (R178). -/
def pickXfer (l : List BusXfer) : Option BusXfer :=
  l.foldl (fun (acc : Option BusXfer) x => match acc with
    | none => some x
    | some b => if x.cls < b.cls ∨ (x.cls = b.cls ∧ x.due < b.due) then some x else some b) none

/-- R3: the last data byte of a host read has left its die. -/
def State.readMoved (s : State) (ch : Nat) : State :=
  match (s.chan ch).busActive with
  | some b =>
    if !b.program && decide (b.cls < 3) && decide ((s.tag b.owner).st ≠ .free) then
      s.setTag b.owner { s.tag b.owner with lastAt := s.aon.now }
    else s
  | none => s

/-- BUS_TRANSFER_COMPLETE (R178): the next transfer goes, unless the channel waits to retrain (R308). -/
def execBusTransferComplete (ch : Nat) (s : State) : Res :=
  .next (s.when (s.chan ch).busActive.isSome (fun s =>
    let s := s.readMoved ch
    let c := s.chan ch
    let next := if c.retrainWanted then none else pickXfer c.busWait
    match next with
    | none => s.setChan ch { c with busActive := none, retraining := c.retraining || c.retrainWanted }
    | some x => (s.setChan ch { c with busActive := some x, busWait := c.busWait.erase x }).emit
        (.busTransfer ch x.program)))

/-- ARBITER_AGING_LIFT (R181): a unit of work that waited over 50 µs has Crisp order for one grant.
(DESIGN CHOICE, log entry 115) -/
def execArbiterAgingLift (resource unit : Nat) (s : State) : Res :=
  .next (s.when (s.awake && !s.sched.lifted.contains (resource, unit)) (fun s =>
    { s with sched := { s.sched with lifted := s.sched.lifted ++ [(resource, unit)] } }))

/-! ### The start of an epoch -/

/-- EPOCH_START (R141, R163, R165, R166, R171, R172, R257, R387, R390). -/
def execEpochStart (s : State) : Res :=
  .next (s.when s.awake (fun s =>
    let s1 := s.boundaries (fun i => decide (0x3000 ≤ i ∧ i ≤ 0x3FFF) || i == 0x4000)
    let s2 := { s1 with
      mode := { s1.mode with psInForce := s1.mode.psNext
                             maintStopped := s1.mode.maintEntry || decide (s1.mode.base = Base.maintenance) }
      sched := { s1.sched with epoch := (s1.sched.epoch + 1) % 2 ^ 32, adminUsed := [], grant := []
                               upkeepPct := s1.upkeepShare } }
    let s2 := s2.also (s.mode.psInForce != s2.mode.psInForce) (fun s => s.forEach (List.range Config.channels) (fun c s => s.woadAll c))
    let s3 := s2.psDone.maintWindows.settleWatch.portEpoch 0
    if s3.dual then s3.portEpoch 1 else s3))

/-! ### Clock islands (R23, R24, R185 to R187) -/

/-- Slices that are Bound and homed on a cluster, and those of them that are Crisp. -/
def State.homed (s : State) (c : Nat) (crisp : Bool) : Nat :=
  (s.boundSlices.filter (fun n => s.slHome n == c && (!crisp || s.slClass n == 0))).length

/-- R186: the reserved host clusters. -/
def State.reserved (s : State) : List Nat :=
  if 3 ≤ s.mode.psInForce ∨ s.mode.base = .flush then []
  else
    let before (a b : Nat) : Bool :=
      decide (s.homed b true < s.homed a true) ||
        (s.homed a true == s.homed b true && (decide (s.homed b false < s.homed a false) ||
          (s.homed a false == s.homed b false && decide (a ≤ b))))
    (sortBy before (List.range 8)).take (s.cfg 0x4002 1)

/-- R187: a LUN of the channel is within its retention deadline. -/
def State.retentionHeld (s : State) (ch : Nat) : Bool :=
  (List.range 32).any (fun p => (s.lun ch p).suspended.isSome || (s.lun ch p).rowHold)

/-- R187: the island has no event, no queued work and, for a channel, no LUN busy. -/
def State.islandIdle (s : State) (i : Nat) : Bool :=
  if i < 16 then (List.range 8).all (fun k => (s.engine (8 * i + k)).events.isEmpty)
  else (s.chan (i - 16)).busActive.isNone && (s.chan (i - 16)).busWait.isEmpty
    && (List.range 32).all (fun p => (s.lun (i - 16) p).running.isNone && (s.lun (i - 16) p).queue.isEmpty)

/-- R83, R186, R187, R390: the island may enter Power-gated. -/
def State.mayGate (s : State) (i : Nat) : Bool :=
  s.islandIdle i && if i < 16 then !s.reserved.contains i && !(decide (i < 15) && s.regs.wakeHold.getLsbD i) && i != 14
  else
    !s.retentionHeld (i - 16)
      && (decide (3 ≤ s.mode.psInForce) || !(s.boundSlices.any (fun n => s.slClass n == 0)))

/-- ISLAND_CLOCK_GATE_IDLE (R23, R187). -/
def execIslandClockGateIdle (island : Nat) (s : State) : Res :=
  .next (s.when (s.awake && decide (island < 48) && decide ((s.island island).st = .running)
      && !(s.island island).entering && s.islandIdle island) (fun s =>
    s.setIsland island { s.island island with st := .clockGated }))

/-- ISLAND_POWER_GATE_IDLE (R23, R24, R186, R187): the entry begins. -/
def execIslandPowerGateIdle (island : Nat) (s : State) : Res :=
  .next ((s.entryBoundary 0x4002 1).when (s.awake && decide (island < 48) && !(s.island island).entering
      && (decide ((s.island island).st = .running) || decide ((s.island island).st = .clockGated))
      && (s.entryBoundary 0x4002 1).mayGate island) (fun s =>
    s.setIsland island { s.island island with entering := true }))

/-- A wake from Power-gated: one of a host cluster is counted (R189). -/
def State.gatedWake (s : State) (i : Nat) : State :=
  let s1 := s.setIsland i { s.island i with st := .running, entering := false, wakeAfter := false }
  if i < 8 then { s1 with sched := { s1.sched with pgWakes := satAdd 64 s1.sched.pgWakes 1 } } else s1

/-- ISLAND_WAKE (R23, R24, R83): `past` says that an entry in progress has reached its retention point, `late` that
the wake exceeded its limit. -/
def execIslandWake (island : Nat) (pastRetention late : Bool) (s : State) : Res :=
  .next (s.when (s.awake && decide (island < 48) && !(s.island island).failed
      && (decide ((s.island island).st ≠ .running) || (s.island island).entering)) (fun s =>
    let x := s.island island
    let s1 :=
      if x.entering then
        if pastRetention then s.setIsland island { x with wakeAfter := true }
        else s.setIsland island { x with st := .running, entering := false }
      else if x.st = .powerGated then s.gatedWake island
      else s.setIsland island { x with st := .running }
    if late then { s1 with regs := { s1.regs with pwrEvent := s1.regs.pwrEvent ||| 8#32 } } else s1))

/-- POWER_GATE_ENTRY_COMPLETE (R23, R24, R390): the entry ends, and a wake that waited follows at once. In power state 4 an
idle island goes Off. -/
def execPowerGateEntryComplete (island : Nat) (s : State) : Res :=
  .next (s.when (s.island island).entering (fun s =>
    if (s.island island).wakeAfter then s.gatedWake island
    else s.setIsland island { s.island island with
      st := if s.mode.psInForce = 4 ∧ s.islandIdle island = true then .off else .powerGated, entering := false }))

/-! ### Engines (R15, R18) -/

/-- ENGINE_EVENT (R14, R15): the handler of the engine's first event ends, and its outputs are released. -/
def execEngineEvent (engine : Nat) (s : State) : Res :=
  .next (s.when (s.awake && !(s.engine engine).failed && !(s.engine engine).events.isEmpty) (fun s =>
    s.setEngine engine { s.engine engine with events := (s.engine engine).events.drop 1, running := none
                                              commitBuf := [] }))

/-- ENGINE_EVENT_TIMEOUT (R18): 4,096 cycles without an end fail the engine. -/
def execEngineEventTimeout (engine : Nat) (s : State) : Res :=
  .next (s.when (s.awake && decide (engine < Config.engines) && !(s.engine engine).failed
    && !(s.engine engine).events.isEmpty) (fun s => s.engineFail engine))

/-- ENGINE_FAILED (R18, R19, R388, R442, R443, R447). -/
def execEngineFailed (engine : Nat) (s : State) : Res :=
  .next (s.when (s.awake && decide (engine < Config.engines) && !(s.engine engine).failed) (fun s =>
    s.engineFail engine))

/-! ### Measurements (R184, R188) -/

/-- The p99.99 of the samples of an interval. -/
def p9999Of (l : List Nat) : Nat :=
  if l.isEmpty then 0 else (sortBy (fun a b => a ≤ b) l).getD (ceilDiv (9999 * l.length) 10000 - 1) 0

/-- MEASUREMENT_INTERVAL_END (R184, R188): the last full second's figures. -/
def execMeasurementIntervalEnd (s : State) : Res :=
  .next (s.when s.awake (fun s =>
    let s1 := { s with sched := { s.sched with
      p9999 := if 20000000 < s.sched.completions then 0 else p9999Of s.sched.samples, samples := [], completions := 0 } }
    s1.forEach (List.range Config.channels) (fun n s =>
      let c := s.chan n
      if c.st = .running ∨ c.st = .reduced then
        s.setChan n { c with busPct := min 100 (c.busyNs / 10000000), busyNs := 0 } else s)))

end Sys2Proof.Machine
end

