-- ==== Sys2Proof/Machine/Channels.lean ====
section
/-! DEFINITION. Flash channels (R303 to R309, R315 to R318): training, retraining, and the failure of a LUN or a channel. -/

namespace Sys2Proof.Machine

/-! ### Training (R303, R307, R308) -/

/-- The rates of R303, rising. -/
def flashRates : List Nat := [800, 1200, 1600, 2400, 3200, 3600]

/-- The next lower rate of R303. -/
def lowerRate (r : Nat) : Nat := (flashRates.filter (fun x => decide (x < r))).foldl max 0

/-- The reading of the junction sensor nearest a channel: J4 for channels 0 to 15, J5 for the others.
(DESIGN CHOICE, log entry 95) -/
def State.chanTempQ (s : State) (ch : Nat) : Int := (s.sensor (if ch < 16 then 16 else 17)).readingQ

/-- R307, R388: Sustain cause 3 is there while some channel is Reduced. -/
def State.reducedWatch (s : State) : State :=
  if (List.range Config.channels).any (fun c => decide ((s.chan c).st = .reduced)) then s.sustainSet 3 else s.sustainClear 3

/-- A training passed: the settings are recorded, and queued operations go. -/
def State.chanTrained (s : State) (ch : Nat) : State :=
  let c := s.chan ch
  let s1 := s.setChan ch { c with
    st := if c.rate = s.pf 0x31 then .running else .reduced, trainings := satAdd 32 c.trainings 1
    retrainWanted := false, retraining := false, trainedAt := s.aon.now, trainedTempQ := s.chanTempQ ch }
  s1.reducedWatch.woadAll ch

/-- R308, R320: a channel is to retrain; with an idle bus the decision is at hand. -/
def State.retrainAsk (s : State) (ch : Nat) : State :=
  let c := s.chan ch
  if (c.st = .running ∨ c.st = .reduced) ∧ c.retraining = false then
    s.setChan ch { c with retrainWanted := true, retraining := c.busActive.isNone }
  else s

/-- Give the bus of a channel to its next waiting transfer. -/
def State.busNext (s : State) (ch : Nat) : State :=
  let c := s.chan ch
  match c.busActive, pickXfer c.busWait with
  | none, some x => (s.setChan ch { c with busActive := some x, busWait := c.busWait.erase x }).emit (.busTransfer ch x.program)
  | _, _ => s

/-! ### Work in progress on a LUN that fails (R317) -/

/-- Reads of flash places that a test selects go to step 4 of R265. -/
def State.readsEscalate (s : State) (sel : Nat → Bool) : State :=
  let fix (b : BlkRt) : BlkRt := match b.src with
    | .flash l => if b.unread && sel l then { b with escalation := 4 } else b
    | _ => b
  { s with tags := s.tags.map (fun (x : Nat × Tag) =>
      if x.2.mapTaken && x.2.st.uncommitted then
        (x.1, { x.2 with blks := x.2.blks.map (fun (y : Nat × BlkRt) => (y.1, fix y.2)) }) else x) }

/-- The programs in progress on a LUN. -/
def State.progsOn (s : State) (ch pos : Nat) : List Nat :=
  s.media.progs.filterMap (fun x =>
    if x.2.live && x.2.ch == ch && x.2.sb / max 1 s.blocksPerLun == pos then some x.1 else none)

/-- The superblocks whose erase of a member on a LUN is in progress. -/
def State.erasesOn (s : State) (ch pos : Nat) : List Nat :=
  (s.media.sbs.filter (fun x => x.2.erasing.contains ch && x.1 / max 1 s.blocksPerLun == pos)).map (fun x => x.1)

/-- The program and erase failures of a channel are counted (R320). -/
def State.countProgramFail (s : State) (ch : Nat) : State :=
  s.setChan ch { s.chan ch with programFails := satAdd 32 (s.chan ch).programFails 1 }
def State.countEraseFail (s : State) (ch : Nat) : State :=
  s.setChan ch { s.chan ch with eraseFails := satAdd 32 (s.chan ch).eraseFails 1 }

/-- R317: the work in progress of a LUN that fails, and its retirement under R269. -/
def State.lunEnd (s : State) (ch pos : Nat) : State :=
  let l := s.lun ch pos
  let s1 := s.setLun ch pos { failed := true, retired := l.retired, timeouts := l.timeouts }
  let s2 := s1.readsEscalate (fun x => s.locChannel x == ch && s.locPos x == pos)
  let s3 := s2.forEach (s2.progsOn ch pos) (fun i s => (s.countProgramFail ch).programEnd i false)
  let s4 := s3.forEach (s3.erasesOn ch pos) (fun k s => (s.countEraseFail ch).blockRetire k ch)
  (s4.lunRetire ch pos).mediaPump

/-- R316 to R318: a channel fails. Causes are those of 7000h.03. -/
def State.chanFail (s : State) (ch cause : Nat) : State :=
  if (s.chan ch).st = .failed then s
  else
    let s1 := s.setChan ch { s.chan ch with st := .failed, failCause := cause, retrainWanted := false, retraining := false
                                            busActive := none, busWait := [] }
    let s2 := s1.forEach (List.range s.positions) (fun p s => s.lunEnd ch p)
    let s3 := s2.setIsland (16 + ch) { st := .off, failed := true }
    let s4 := s3.reducedWatch.rasReport 9 ch 5 2 cause [ch]
    s4.spareCheck.critWatch s

/-- The LUNs of a channel that failed under R315. -/
def State.failedLuns (s : State) (ch : Nat) : Nat :=
  ((List.range s.positions).filter (fun p => (s.lun ch p).failed && (s.lun ch p).retired)).length

/-- R315, R317, R318: a LUN fails; half of its channel's LUNs failed fail the channel (R316). Causes: 1 busy after its
reset, 2 three busy timeouts in 24 hours, 3 undecodable codewords. -/
def State.lunFail (s : State) (ch pos cause : Nat) : State :=
  if (s.lun ch pos).failed then s
  else
    let s1 := (s.lunEnd ch pos).sanitizeLun.rasReport 8 (lkey ch pos) 5 2 cause [ch, pos]
    let s2 := s1.spareCheck.critWatch s
    if s2.positions ≤ 2 * s2.failedLuns ch then s2.chanFail ch 5 else s2

/-! ### The commands -/

/-- CHANNEL_TRAINING_RESULT (R307, R316, R317). -/
def execChannelTrainingResult (ch : Nat) (pass : Bool) (s : State) : Res :=
  .next (s.when (decide ((s.chan ch).st = .training)) (fun s =>
    if pass then s.chanTrained ch
    else if s.pf 0x32 < (s.chan ch).rate ∧ lowerRate (s.chan ch).rate ≠ 0 then
      s.setChan ch { s.chan ch with rate := lowerRate (s.chan ch).rate }
    else s.chanFail ch 1))

/-- A channel carries operations. -/
def State.chanServes (s : State) (ch : Nat) : Bool :=
  decide ((s.chan ch).st = .running) || decide ((s.chan ch).st = .reduced)

/-- RETRAIN_HOURS_TIMER (R308): the hours of 6400h.3A since the last training. -/
def execRetrainHoursTimer (ch : Nat) (s : State) : Res :=
  .next (s.when (s.chanServes ch && !(s.chan ch).retrainWanted && s.elapsed (s.chan ch).trainedAt (s.pf 0x3A * hour))
    (fun s => s.retrainAsk ch))

/-- RETRAIN (R308, R320): a write of 01h to 7000h.12. -/
def execRetrain (ch : Nat) (s : State) : Res :=
  .next (s.when (s.chanServes ch) (fun s => s.retrainAsk ch))

/-- RETRAIN_STEP_DONE (R307, R308): the last step records the training; between steps the bus makes a decision. -/
def execRetrainStepDone (ch : Nat) (ok last : Bool) (s : State) : Res :=
  .next (s.when (s.chan ch).retraining (fun s =>
    if !ok then (s.setChan ch { s.chan ch with st := .training, retraining := false, retrainWanted := false }).reducedWatch
    else if last then (s.chanTrained ch).busNext ch
    else if (s.chan ch).busWait.isEmpty then s
    else (s.setChan ch { s.chan ch with retraining := false }).busNext ch))

/-- RB_N_HINT (R304): every busy LUN of the channel is polled at once by Read Status Enhanced. -/
def execRbNHint (ch : Nat) (s : State) : Res :=
  .next (s.when (s.chanServes ch) (fun s =>
    s.forEach (List.range s.positions) (fun p s =>
      if (s.lun ch p).running.isSome || (s.lun ch p).resetPending then s.emit (.dieCommand ch p "read status") else s)))

/-- The profile time of an operation, in microseconds (R275). -/
def State.profileTime (s : State) (op : DieOp) : Nat :=
  match op.kind with
  | .read => if op.slc then s.pf 0x0A else s.pf 0x0B
  | .program => if op.slc then s.pf 0x0C else s.pf 0x0D
  | .erase => s.pf 0x0E

/-- The operation in progress has kept its LUN busy beyond its timeout (R315). -/
def State.busyTooLong (s : State) (ch pos : Nat) : Bool :=
  match (s.lun ch pos).running with
  | some r => decide (s.pf 0x38 * s.profileTime r.w.op * usec < r.busy + (s.aon.now - r.resumedAt))
  | none => false

/-- LUN_BUSY_TIMEOUT (R315): the LUN is reset; the third timeout of 24 hours fails it. -/
def execLunBusyTimeout (ch pos : Nat) (s : State) : Res :=
  .next (s.when (s.lunServes ch pos && !(s.lun ch pos).resetPending && s.busyTooLong ch pos) (fun s =>
    let l := s.lun ch pos
    let ts := l.timeouts.filter (fun t => !s.elapsed t (24 * hour)) ++ [s.aon.now]
    let s1 := s.setLun ch pos { l with resetPending := true, timeouts := ts }
    let s2 := (s1.setChan ch { s1.chan ch with timeouts := satAdd 32 (s1.chan ch).timeouts 1 }).emit
      (.dieCommand ch pos "reset LUN")
    if 3 ≤ ts.length then s2.lunFail ch pos 2 else s2))

/-- What a successful reset leaves of an operation that it ended (R315, R317): a read goes to step 4; a program's data is
programmed elsewhere and an erase runs again, and no block is retired. (DEDUCED, log entry 106) -/
def State.opEnded (s : State) (ch pos : Nat) (r : RunOp) : State :=
  let ops := (r.w :: r.joined).map (fun w => w.op)
  match r.w.op.kind with
  | .read => s.readsEscalate (fun x => s.locChannel x == ch && s.locPos x == pos &&
      ops.any (fun o => o.block == s.locBlock x && o.plane == s.locPlane x && o.page == s.locPage x))
  | .program =>
    match (s.progsOn ch pos).find? (fun i => (s.prog i).sb % max 1 s.blocksPerLun == r.w.op.block) with
    | some i => (s.countProgramFail ch).programAgain i
    | none => s
  | .erase => s.dieArrive ch pos r.w.op

/-- LUN_RESET_CHECK (R315, R317): 10 ms after the reset. -/
def execLunResetCheck (ch pos : Nat) (busy : Bool) (s : State) : Res :=
  .next (s.when ((s.lun ch pos).resetPending && s.elapsed ((s.lun ch pos).timeouts.getLastD 0) (10 * msec)) (fun s =>
    if busy then s.lunFail ch pos 1
    else
      let l := s.lun ch pos
      let s1 := s.setLun ch pos { l with resetPending := false, running := none, suspended := none, suspendWanted := false
                                         limitHit := false, windowReads := 0 }
      let s2 := s1.forEach (l.running.toList ++ l.suspended.toList) (fun r s => s.opEnded ch pos r)
      s2.woad ch pos))

/-- SYNC_RESET_TIMEOUT (R316). -/
def execSyncResetTimeout (ch : Nat) (s : State) : Res :=
  .next (s.when (s.chanServes ch || decide ((s.chan ch).st = .training)) (fun s => s.chanFail ch 2))

/-- SEQUENCER_PARITY_ERROR (R316): the second error within an hour fails the channel; `zq` is a ZQ calibration out of
range, else a parity error of the command sequencer. -/
def execSequencerParityError (ch : Nat) (zq : Bool) (s : State) : Res :=
  .next (s.when (s.chanServes ch || decide ((s.chan ch).st = .training)) (fun s =>
    let c := s.chan ch
    let ts := (if zq then c.zqTimes else c.parityTimes).filter (fun t => !s.elapsed t hour) ++ [s.aon.now]
    let s1 := s.setChan ch (if zq then { c with zqTimes := ts } else { c with parityTimes := ts })
    if 2 ≤ ts.length then s1.chanFail ch (if zq then 3 else 4) else s1))

end Sys2Proof.Machine
end

