-- ==== Sys2Proof/Machine/Media.lean ====
section
/-! DEFINITION. Flash media management (R30, R246 to R270): programs, erases, folding, garbage collection, wear, closures,
refresh, patrol, the decoders with read escalation (R265, R311 to R313), and rebuild. -/

namespace Sys2Proof.Machine

/-- R391: upkeep runs in service, and in a non-operational power state only while Feature 11h has NOPPME 1. -/
def State.upkeepMay (s : State) : Bool :=
  s.inService && s.profile && (decide (s.mode.psInForce < 3) ||
    [0, 1].any (fun p => ((Tbl.get none (s.ctrl (s.owner (.std p 0 0))).features 0x11).getD 0).testBit 0))

/-! ### Programs and erases (R30, R247 to R249, R254, R267, R268) -/

/-- R267: the final parity page of a zone row failed: its zones move to other rows, which have their parity. -/
def State.rowAgain (s : State) (p : Prog) (ok : Bool) : State :=
  if p.kind = .parity ∧ ok = false ∧ p.page ≠ 1 ∧ (s.sb p.sb).kind = .zone then
    let zs := (p.items.map (fun i => (i.nsid, i.lba / s.zsize i.nsid))).dedup
    (s.forEach zs (fun z s => s.zoneRelocate z.1 z.2 (fun j => j == p.sb))).parityDone p.items
  else s

/-- PROGRAM_COMPLETE (R30, R225, R267, R293). -/
def execProgramComplete (program : Nat) (ok : Bool) (s : State) : Res :=
  .next (s.when (s.prog program).live (fun s => ((s.programEnd program ok).rowAgain (s.prog program) ok).settleWatch))

/-- R246, R248: an allocated superblock whose erases have ended is Open, or has too few members and leaves service. -/
def State.sbOpened (s : State) (k : Nat) : State :=
  if !(s.sb k).erasing.isEmpty || s.allocatable k then s
  else
    let s1 := s.forEach (s.members k) (fun c s => s.blockRetire k c)
    s1.setSb k { wear := (s1.sb k).wear, absentCh := (s1.sb k).absentCh }

/-- ERASE_COMPLETE (R248, R268, R269, R272, R424): the erase of a member that an allocation or a Block Erase asked for. -/
def execEraseComplete (sb ch : Nat) (ok : Bool) (s : State) : Res :=
  let block := s.sec.sanRunning == 2 && decide (s.mode.base = .maintenance) && s.sanitizeLeft sb ch
  .next (s.when (block || (s.sb sb).erasing.contains ch) (fun s =>
    let s1 := if block then s.sanitizeErase sb ch ok
      else
        let s0 := if ok then s.setSb sb { s.sb sb with erasing := (s.sb sb).erasing.filter (fun c => c != ch) }
                  else s.blockRetire sb ch
        (s0.sbOpened sb).mediaPump
    (s1.spareCheck.critWatch s).settleWatch))

/-- Fill a row of an SLC superblock with filler, and program what has not started (R249). -/
def State.rowFill (s : State) (k : Nat) : State :=
  let x := s.sb k
  let s1 := s.setSb k { x with row := x.row ++ List.replicate (s.rowPages k - x.row.length) { kind := .filler } }
  s1.forEach (List.range (s1.rowPages k)) (fun i s => s.pageStart k i)

/-- ROW_HOLD_EXPIRY (R249, R254): an SLC row is filled; a zone row gets an interim parity page. -/
def execRowHoldExpiry (sb : Nat) (s : State) : Res :=
  let s0 := s.boundary 0x6402
  let x := s0.sb sb
  let slc := decide (x.kind = .slc) && !x.row.isEmpty && !(decide (s0.rowPages sb ≤ x.row.length) && x.row.all (fun p => p.started))
  let zone := decide (x.kind = .zone) && !(s0.uncovered sb).isEmpty
  .next (s0.when ((slc || zone) && s0.inService && s0.elapsed x.rowSince (s0.cfg 0x6402 6 * usec)) (fun s =>
    if slc then s.rowFill sb else s.parityStart sb ((s.parityOf sb).headD 0) (s.uncovered sb) true))

/-! ### Folding and garbage collection (R251, R257, R258) -/

/-- The Closed superblocks of the SLC region, oldest close time first. -/
def State.foldOrder (s : State) : List Nat :=
  (sortBy (fun (a b : Nat × Sb) => decide (a.2.closedAt ≤ b.2.closedAt))
    (s.media.sbs.filter (fun x => x.2.kind = .slc && x.2.st = .closed))).map (fun x => x.1)

/-- Folding may run: the region is full enough, a fold is in progress, or no write came for 10 s. -/
def State.foldMay (s : State) : Bool :=
  decide (s.cfg 0x6402 4 ≤ s.slcFill) || s.media.folding || s.media.sbs.any (fun x => x.2.kind = .slc && x.2.st = .draining)

/-- Make a Closed superblock Draining. -/
def State.sbDrain (s : State) (k : Nat) : State :=
  if (s.sb k).st = .closed then s.setSb k { s.sb k with st := .draining } else s

/-- FOLD_TASK (R251). -/
def execFoldTask (sb : Nat) (s : State) : Res :=
  let s0 := s.boundary 0x6402
  .next (s0.when (s0.upkeepMay && s0.foldMay && s0.foldOrder.head? == some sb) (fun s =>
    let s1 := (s.sbDrain sb).relocate .fold (fun l => s.locSb l == sb) (fun _ => some .dense)
    let s2 := if s1.foldOrder.isEmpty then { s1 with media := { s1.media with folding := false } } else s1
    s2.mediaPump))

/-- FOLD_IDLE_TIMER (R251): no write for 10 s; folding goes on until the region is empty. -/
def execFoldIdleTimer (s : State) : Res :=
  .next (s.when (s.upkeepMay && !s.media.folding && s.slcUsed != 0 && s.elapsed s.pool.lastWriteAt (10 * Machine.sec)) (fun s =>
    { s with media := { s.media with folding := true } }))

/-- A zone on a superblock lies in a lane. -/
def State.zoneInLane (s : State) (k q : Nat) (z : Nat × Nat) : Bool :=
  let p := s.locPlane (s.zone z.1 z.2).extent
  decide (p ≤ q) && decide (q < p + s.laneWidth (s.zsize z.1) (s.dataMembers k).length)

/-- R258: fewer than half of the programmed rows of a lane belong to zones with data. -/
def State.laneSparse (s : State) (k q : Nat) : Bool :=
  decide (2 * (((s.zonesIn k).filter (s.zoneInLane k q)).map (fun z => s.zoneRows z.1 k)).sum < Tbl.get 0 (s.sb k).laneRow q)

/-- R258: a superblock is a candidate of its reclaim group. -/
def State.gcCandidate (s : State) (g k : Nat) (x : Sb) : Bool :=
  k / max 1 s.blocksPerLun / max 1 s.groupSize == g &&
    (match x.kind with
     | .dense => decide (x.st = .closed) && (s.gcTerm g == 100 || s.elapsed x.closedAt (s.cfg 0x6402 3 * Machine.sec))
     | .zone => decide (x.st ≠ .free) && (List.range s.planes).any (s.laneSparse k)
     | _ => false)

/-- The victim: fewest valid granules, then the earliest close time. -/
def State.gcVictim (s : State) (g : Nat) : Option Nat :=
  ((s.media.sbs.filter (fun x => s.gcCandidate g x.1 x.2)).foldl (fun (m : Option (Nat × Sb)) x => match m with
    | none => some x
    | some b => if x.2.valid < b.2.valid ∨ (x.2.valid = b.2.valid ∧ x.2.closedAt < b.2.closedAt) then some x else some b)
    none).map (fun x => x.1)

/-- Relocate every zone with data in a superblock by whole extent (R232). -/
def State.zonesOut (s : State) (k : Nat) (except : Nat → Bool) : State :=
  s.forEach (s.zonesIn k) (fun z s => s.zoneRelocate z.1 z.2 except)

/-- GC_TASK (R258, R259). -/
def execGcTask (group : Nat) (s : State) : Res :=
  let s0 := s.boundary 0x6402
  .next (s0.when (s0.upkeepMay && decide (group < s0.groupCount) && s0.gcTerm group != 0 && (s0.gcVictim group).isSome) (fun s =>
    match s.gcVictim group with
    | none => s
    | some k =>
      if (s.sb k).kind = .zone then
        (s.forEach ((s.zonesIn k).filter (fun z => (List.range s.planes).any (fun q => s.laneSparse k q && s.zoneInLane k q z)))
          (fun z s => s.zoneRelocate z.1 z.2 (fun j => j == k))).mediaPump
      else (((s.sbDrain k).relocate .collect (fun l => s.locSb l == k) (fun _ => some .dense)).also (s.fdpHeld k)
        (fun s => s.fdpEvent 0x80)).mediaPump))

/-! ### Wear and idle closure (R256, R262) -/

/-- The highest and lowest wear of in-service superblocks differ by more than WEAR_SPREAD. -/
def State.wearSpread (s : State) : Bool :=
  let ws := ((List.range s.superblocks).filter (fun k => s.allocatable k)).map (fun k => (s.sb k).wear)
  decide (s.cfg 0x6402 7 < ws.foldl max 0 - ws.foldl min (ws.headD 0))

/-- The least worn Closed superblock of a kind that levelling moves, earliest close time first. -/
def State.wearSource (s : State) : Option (Nat × Sb) :=
  (s.media.sbs.filter (fun x => x.2.st = .closed && (x.2.kind = .dense || x.2.kind = .slc || x.2.kind = .zone))).foldl
    (fun (m : Option (Nat × Sb)) x => match m with
      | none => some x
      | some b => if x.2.wear < b.2.wear ∨ (x.2.wear = b.2.wear ∧ x.2.closedAt < b.2.closedAt) then some x else some b) none

/-- The most worn Free superblock that a kind may take. -/
def State.wearTarget (s : State) (kind : SbKind) (group : Nat) : Option Nat :=
  ((List.range s.superblocks).filter (fun k => s.mayAlloc kind group k)).foldl (fun (m : Option Nat) k => match m with
    | none => some k
    | some b => if (s.sb b).wear < (s.sb k).wear then some k else some b) none

/-- One levelling move; the destination is opened for it alone, under handle 255. (DESIGN CHOICE, log entry 109) -/
def State.wearMove (s : State) : State :=
  match s.wearSource with
  | none => s
  | some (k, x) => match s.wearTarget x.kind x.group with
    | none => s
    | some d =>
      let s1 := ((s.sbDrain k).sbAlloc x.kind x.group 255 (fun j => j == d)).1
      if x.kind = .zone then s1.zonesOut k (fun j => j != d)
      else s1.forEach (s1.validOn (fun l => s1.locSb l == k)) (fun v s => s.moveIssue .collect x.kind x.group 255 v.1 v.2.1 v.2.2)

/-- The moves of one hour. (DESIGN CHOICE, log entry 96) -/
def State.wearMoves (s : State) : Nat → State
  | 0 => s
  | n + 1 => if s.wearSpread then s.wearMove.wearMoves n else s

/-- WEAR_LEVEL_HOURLY (R262). -/
def execWearLevelHourly (s : State) : Res :=
  let s0 := s.boundary 0x6402
  .next (s0.when (s0.upkeepMay && s0.elapsed s0.media.wearChecked hour) (fun s =>
    ((({ s with media := { s.media with wearChecked := s.aon.now } }).wearMoves (s.cfg 0x6402 8)).also
      (s.wearSpread && s.wearSource.any (fun (x : Nat × Sb) => s.fdpHeld x.1)) (fun s => s.fdpEvent 0x80)).mediaPump))

/-- An active zone holds a lane. -/
def State.laneHeld (s : State) (k q : Nat) : Bool := s.laneBusy k q 1

/-- R256: what may be closed: an Open superblock with a row left, or a lane of a zone superblock that no active zone holds. -/
def State.closable_ (s : State) (k : Nat) : Bool :=
  let x := s.sb k
  decide (x.st = .open_) && x.erasing.isEmpty && decide (x.kind ≠ .reserve) && !x.filler &&
    (decide (x.kind ≠ .zone) || (List.range s.planes).any (fun q => !s.laneHeld k q && decide (Tbl.get 0 x.laneRow q < s.wordlines)))

/-- Program filler into every remaining row. -/
def State.fillerClose (s : State) (k : Nat) : State :=
  let x := s.sb k
  let s0 := { s with media := { s.media with fillerCloses := satAdd 32 s.media.fillerCloses 1 } }.medBit 6
  let s1 := s0.also (decide (x.kind = SbKind.dense)) (fun s => s.fdpEvent 0)
  if x.kind = .zone then
    s1.setSb k { x with lastProgram := s.aon.now, laneRow := (List.range s.planes).foldl (fun t q =>
      if s.laneHeld k q then t else Tbl.set 0 t q s.wordlines) x.laneRow }
  else if x.row.isEmpty then s1.setSb k { x with rows := s.wordlines, st := .closed, closedAt := s.aon.now, lastProgram := s.aon.now }
  else (s1.setSb k { x with filler := true }).forEach (List.range x.row.length) (fun i s => s.pageStart k i)

/-- IDLE_CLOSURE (R256). -/
def execIdleClosure (sb : Nat) (s : State) : Res :=
  .next (s.when (s.upkeepMay && s.closable_ sb && s.elapsed (s.sb sb).lastProgram (s.pf 0x1A * Machine.sec / 2)) (fun s =>
    (s.fillerClose sb).mediaPump))

/-! ### Refresh and patrol (R263, R264) -/

/-- REFRESH_TASK (R263): every valid slot, or every zone extent with data, of a queued superblock is relocated. -/
def execRefreshTask (sb : Nat) (s : State) : Res :=
  .next (s.when (s.upkeepMay && (s.sb sb).refreshQueued) (fun s =>
    let x := s.sb sb
    let s1 := (s.setSb sb { x with refreshQueued := false }).sbDrain sb
    let s2 := if x.refreshRaised then { s1 with media := { s1.media with readRefreshes := satAdd 64 s1.media.readRefreshes 1 } } else s1
    let s3 := if x.kind = .zone then s2.zonesOut sb (fun j => j == sb)
              else (s2.relocate .refresh (fun l => s.locSb l == sb) s.sameKind).also (s.fdpHeld sb) (fun s => s.fdpEvent 0x80)
    s3.mediaPump))

/-- Every programmed block has been visited in this lap. -/
def State.lapDone (s : State) : Bool :=
  s.media.sbs.all (fun x => decide (x.2.st = .free) || (s.members x.1).all (fun c => s.media.patrolSeen.contains (x.1, c)))

/-- Queue a refresh of a superblock. -/
def State.refreshAsk (s : State) (k : Nat) : State := s.setSb k { s.sb k with refreshQueued := true }

/-- R264, R312: queue a refresh for retention, and count it. -/
def State.refreshRetention (s : State) (k : Nat) : State :=
  { s.refreshAsk k with media := { (s.refreshAsk k).media with
      patrolRefreshes := satAdd 64 s.media.patrolRefreshes (boolNat !(s.sb k).refreshQueued) } }

/-- PATROL_VISIT (R263, R264). -/
def execPatrolVisit (sb ch correctedBits : Nat) (failed : Bool) (s : State) : Res :=
  let s0 := s.boundary 0x6402
  .next (s0.when (s0.upkeepMay && decide ((s0.sb sb).st ≠ .free) && (s0.members sb).contains ch) (fun s =>
    let s1 := s.readsAdd sb ch (s.cfg 0x6402 0x0A) (s.sbBits sb == 1)
    let s2 := if s.pf 0x1B ≤ correctedBits ∨ failed = true then s1.refreshRetention sb else s1
    let seen := s2.media.patrolSeen
    let s3 := { s2 with media := { s2.media with
      patrolSeen := if seen.contains (sb, ch) then seen else seen ++ [(sb, ch)]
      patrolStart := if seen.isEmpty then s.aon.now else s2.media.patrolStart } }
    if s3.lapDone then
      { s3 with media := { s3.media with patrolSeen := [], patrolLapH := (s.aon.now - s3.media.patrolStart) / hour } }
    else s3))

/-! ### Decoders and read escalation (R265, R266, R311 to R313) -/

/-- A block of a command. -/
def State.blk (s : State) (t b : Nat) : BlkRt := Tbl.get {} (s.tag t).blks b
def State.setBlk (s : State) (t b : Nat) (x : BlkRt) : State :=
  s.setTag t { s.tag t with blks := Tbl.set {} (s.tag t).blks b x }

/-- A flash block's superblock is read no more for this block. -/
def State.readEnd (s : State) (l : Nat) : State :=
  let k := s.locSb l
  (s.setSb k { s.sb k with readers := (s.sb k).readers - 1 }).sbSweep

/-- The step of R265 that a decode belongs to: 1 hard, 2 retry, 3 soft, 4 reconstruction. A read whose member lies on a
retired LUN goes straight to step 4 (R266). -/
def State.stepNow (s : State) (t b l : Nat) : Nat :=
  if s.locLost l || (s.lun (s.locChannel l) (s.locPos l)).failed then 4
  else match (s.blk t b).escalation with
    | 0 => 1
    | n => n

/-- The codeword is decoded: its data, or its stored slot, is in stream SRAM. Recovery at steps 2 to 4 is counted, and at
steps 3 and 4 queues a refresh; step 4 is remembered for R265. -/
def State.decoded (s : State) (t b l step : Nat) (data : List Byte) : State :=
  let x := s.blk t b
  let m := data.length - s.infoBytes (s.tag t).sqe.nsid
  let s1 := s.setBlk t b { (if x.mode = 0 then { x with data := data.take m, ready := true }
    else { x with coded := data.take m }) with info := data.drop m }
  let k := s.locSb l
  let s2 := if 2 ≤ step then { s1 with media := { s1.media with recovered := satAdd 64 s1.media.recovered 1 } } else s1
  let s3 := if 3 ≤ step then s2.refreshAsk k else s2
  let s4 := if step = 4 then s3.setSb k { s3.sb k with step4 := (s3.sb k).step4 ++ [s.aon.now * 32 + s.locChannel l] }
    else s3.setLun (s.locChannel l) (s.locPos l) { s3.lun (s.locChannel l) (s.locPos l) with failRun := 0, failBlocks := [] }
  if x.mode = 0 then s4.readEnd l else s4

/-- Step 5: the block is unrecovered. -/
def State.unrecovered (s : State) (t b l : Nat) : State :=
  let s1 := s.setBlk t b { s.blk t b with failed := true }
  let s2 := { s1 with media := { s1.media with unrecovered := satAdd 64 s1.media.unrecovered 1 } }.medBit 4
  (s2.commitTag t ⟨2, 0x81⟩).readEnd l

/-- R315: a codeword that failed every step up to soft decode, or R311, counts against its LUN. -/
def State.codewordLost (s : State) (l : Nat) : State :=
  let ch := s.locChannel l
  let pos := s.locPos l
  let x := s.lun ch pos
  let blocks := if x.failBlocks.contains (s.locBlock l) then x.failBlocks else x.failBlocks ++ [s.locBlock l]
  let s1 := s.setLun ch pos { x with failRun := x.failRun + 1, failBlocks := blocks }
  if 64 ≤ x.failRun + 1 ∧ 4 ≤ blocks.length then s1.lunFail ch pos 3 else s1

/-- The class of a waiting codeword: after 50 µs it has Crisp order for a grant (R181, R313). -/
def State.softClass (s : State) (x : Nat × Nat × Nat) : Nat := if s.elapsed x.2.2 (50 * usec) then 0 else (s.tag x.1).cls

/-- Free soft decoders take the waiting codewords of the highest class, earliest first (R313). -/
def State.softPump (s : State) : Nat → State
  | 0 => s
  | n + 1 =>
    if 8 ≤ s.cmp.softRun.length + s.cmp.softFailed.length then s
    else
      let best := s.cmp.softQueue.foldl (fun (m : Option (Nat × Nat × Nat)) x => match m with
        | none => some x
        | some b => if s.softClass x < s.softClass b then some x else some b) none
      match best with
      | none => s
      | some x => State.softPump { s with cmp := { s.cmp with softQueue := s.cmp.softQueue.erase x
                                                              softRun := s.cmp.softRun ++ [(x.1, x.2.1)] } } n

/-- Step 4, or step 5 where the Parity Engine has failed. -/
def State.toParity (s : State) (t b l : Nat) : State :=
  if s.cmp.parityFailed then s.unrecovered t b l else s.setBlk t b { s.blk t b with escalation := 4 }

/-- Step 3: the soft reads of a codeword go to the pool, which holds 1,024 waiting codewords. -/
def State.toSoft (s : State) (t b l : Nat) : State :=
  if 8 ≤ s.cmp.softFailed.length then (s.toParity t b l).codewordLost l
  else
    let ch := s.locChannel l
    let s1 := s.setBlk t b { s.blk t b with escalation := 3 }
    let s2 := s1.setChan ch { s1.chan ch with softDecodes := satAdd 64 (s1.chan ch).softDecodes 1 }
    ({ s2 with cmp := { s2.cmp with softQueue := s2.cmp.softQueue ++ [(t, b, s.aon.now)] } }).softPump 8

/-- The entries of RETRY_TABLE. -/
def State.retryEntries (s : State) : Nat := (s.cfgBytes 0x6400 0x1D).length / 8

/-- What follows a failed hard decode of steps 1 and 2. -/
def State.hardFailed (s : State) (t b l : Nat) : State :=
  let x := s.blk t b
  if x.tries < s.retryEntries then s.setBlk t b { x with escalation := 2, tries := x.tries + 1 } else s.toSoft t b l

/-- A block of a command waits for a codeword from flash. -/
def State.readWaits (s : State) (t b : Nat) : Option Nat :=
  let x := s.blk t b
  match x.src with
  | .flash l => if (s.tag t).mapTaken && (s.tag t).st != .free && x.unread && s.profile then some l else none
  | _ => none

/-- The channel's counters of one hard decode (R312, R320). -/
def State.hardCount (s : State) (l bits : Nat) (ok directed : Bool) : State :=
  let ch := s.locChannel l
  let c := s.chan ch
  s.setChan ch { c with
    codewords := satAdd 64 c.codewords 1
    hardFails := if ok then c.hardFails else satAdd 64 c.hardFails 1
    correctedBits := if ok then satAdd 64 c.correctedBits bits else c.correctedBits
    maxBits := if ok then max c.maxBits bits else c.maxBits
    misdirected := if ok && !directed then satAdd 32 c.misdirected 1 else c.misdirected }

/-- HARD_DECODE_DONE (R265, R266, R311, R312, R317): `directed` says that the metadata names the block sought. While a block
is at step 4 the event carries the result of its reconstruction. (DESIGN CHOICE, log entry 98) -/
def execHardDecodeDone (tag blk bits : Nat) (ok directed : Bool) (data : List Byte) (s : State) : Res :=
  .next (match s.readWaits tag blk with
    | none => s.unlisted
    | some l =>
      let step := s.stepNow tag blk l
      if step = 3 then s.unlisted
      else if step = 4 then
        if ok && directed then s.decoded tag blk l 4 data else s.unrecovered tag blk l
      else
        let s1 := s.hardCount l bits ok directed
        let s2 := if ok && decide (s.pf 0x1B ≤ bits) then s1.refreshRetention (s.locSb l) else s1
        if ok && directed then s2.decoded tag blk l step data
        else
          let s3 := if ok && !(s2.blk tag blk).wrong then
              (s2.setBlk tag blk { s2.blk tag blk with wrong := true }).codewordLost l else s2
          s3.hardFailed tag blk l)

/-- SOFT_DECODE_DONE (R265, R313): the decoder goes to the next waiting codeword. -/
def execSoftDecodeDone (tag blk : Nat) (ok : Bool) (data : List Byte) (s : State) : Res :=
  .next (s.when (s.cmp.softRun.contains (tag, blk)) (fun s =>
    let s1 := ({ s with cmp := { s.cmp with softRun := s.cmp.softRun.erase (tag, blk) } }).softPump 8
    match s1.readWaits tag blk with
    | none => s1
    | some l =>
      if ok then s1.decoded tag blk l 3 data
      else
        let s2 := s1.toParity tag blk l
        if (s.blk tag blk).wrong then s2 else s2.codewordLost l))

/-! ### Rebuild (R270) -/

/-- Lost members of the row of a place, since the row was programmed. -/
def State.rowLost (s : State) (l : Nat) : Nat :=
  let k := s.locSb l
  ((s.sb k).lost.filter (fun x => decide (s.locPage l / max 1 (s.sbBits k) ≤ x.2))).length

/-- The slots on lost members whose rows lost too many members: each is a deferred error (R130). -/
def State.rebuildLost (s : State) : State :=
  s.forEach (s.validOn (fun l => s.locLost l && decide (s.parityMembers < s.rowLost l))) (fun x s => s.loseRun x.1 x.2.1 1)

/-- Zone superblocks with a lost member that hold data. -/
def State.zonesLost (s : State) : List Nat :=
  (s.media.sbs.filter (fun x => x.2.kind = .zone && !x.2.lost.isEmpty && !(s.zonesIn x.1).isEmpty)).map (fun x => x.1)

/-- Slots of a kind on lost members. -/
def State.slotsLost (s : State) (kinds : List SbKind) : Bool :=
  !(s.validOn (fun l => s.locLost l && kinds.contains (s.sb (s.locSb l)).kind && !s.moving l)).isEmpty

/-- The next class of a rebuild: SLC region, zone lane sets, then dense superblocks. -/
def State.rebuildStep (s : State) : State :=
  let take (ks : List SbKind) (d : SbKind) : State :=
    s.relocate .rebuild (fun l => s.locLost l && ks.contains (s.sb (s.locSb l)).kind) (fun _ => some d)
  if s.slotsLost [.slc, .reserve] then take [.slc, .reserve] .slc
  else if !s.zonesLost.isEmpty then s.forEach s.zonesLost (fun k s => s.zonesOut k (fun j => !(s.sb j).lost.isEmpty))
  else if s.slotsLost [.dense] then take [.dense] .dense
  else s

/-- A rebuild has restored every row that lost a member. -/
def State.rebuilt (s : State) : Bool :=
  (s.validOn (fun l => s.locLost l)).isEmpty && s.zonesLost.isEmpty

/-- REBUILD_TASK (R130, R270, R273, R388). -/
def execRebuildTask (s : State) : Res :=
  let s0 := s.boundary 0x6402
  .next (s0.when (s0.upkeepMay && s0.media.rebuildState == 1) (fun s =>
    let s1 := s.rebuildLost.rebuildStep.mediaPump.also
      (!s.slotsLost [.slc, .reserve] && s.zonesLost.isEmpty && s.slotsLost [.dense] && s.media.sbs.any (fun x => !x.2.lost.isEmpty && s.fdpHeld x.1))
      (fun s => s.fdpEvent 0x80)
    let s2 := { s1 with media := { s1.media with rebuildLeft := s1.lostGranules } }
    let s3 := if s2.rebuilt then
        ({ s2 with media := { s2.media with rebuildState := 2, degraded := false, rebuildLeft := 0 } }.medBit 5).sustainClear 5
      else s2
    s3.critWatch s))

end Sys2Proof.Machine
end

