-- ==== Sys2Proof/Machine/Power.lean ====
section
/-! DEFINITION. Power, modes, clocks and heat (R280 to R286, R385 to R401, R451, R462 to R468, R471). -/

namespace Sys2Proof.Machine

/-! ### Aux and main power (R385, R386, R455, R462 to R464) -/

/-- Dormant without aux power is Unpowered. -/
def State.auxCheck (s : State) : State :=
  if decide (s.mode.base = .dormant) && !s.aon.auxOk then (s.transition .unpowered s.mode.lastCause).auxGone else s

/-- AUX_POWER_ON (R385, R463): Unpowered to Dormant. -/
def execAuxPowerOn (s : State) : Res :=
  .next (s.when (!s.aon.auxOk) (fun s =>
    let s1 := { s with aon := { s.aon with auxOk := true } }
    match s.mode.base with
    | .unpowered => ({ s1 with aon := { s1.aon with tsAt := s.aon.now } }).transition .dormant 1
    | _ => s1))

/-- AUX_POWER_LOSS (R385, R455, R462): Dormant to Unpowered; with main power good the loss shows at the heartbeat. -/
def execAuxPowerLoss (s : State) : Res :=
  .next (s.when s.aon.auxOk (fun s =>
    let s1 := { s with aon := { s.aon with auxOk := false } }
    match s.mode.base with
    | .dormant => s1.auxCheck
    | .flush => if s.mode.restartWait then s1.flushLeave else s1
    | _ => s1))

/-- MAIN_PG_TRUE (R56, R385, R398, R464, R466): MAIN_PG high for 1 ms. -/
def execMainPgTrue (s : State) : Res :=
  .next (s.when (!s.aon.mainPg) (fun s => ({ s with aon := { s.aon with mainPg := true } }).tryStart 2))

/-- MAIN_PG_FALSE (R385, R386, R398, R464). -/
def execMainPgFalse (s : State) : Res :=
  .next (s.when s.aon.mainPg (fun s =>
    let s1 := { s with aon := { s.aon with mainPg := false, holdNeedsPg := false } }
    match s.mode.base with
    | .bringUp => (s1.enterDormant 12).auxCheck
    | .flush => if s.mode.restartWait then s1.flushLeave else s1
    | .dormant => s1
    | .unpowered => s1
    | _ => (s1.enterDormant 12).auxCheck))

/-- Every channel and every DRAM channel has ended its training. -/
def State.trainingsDone (s : State) : Bool :=
  !(List.range Config.channels).any (fun c => decide ((s.chan c).st = .training)) && !(List.range 4).any (fun c => (s.dram c).st == 1)

/-- BRING_UP_COMPLETE (R294, R306, R385, R424, R447): what the recovery found, and the mode that follows. -/
def execBringUpComplete (found : Recovered) (s : State) : Res :=
  .next (s.when (decide (s.mode.base = .bringUp) && s.mode.fatal == 0 && s.trainingsDone) (fun s =>
    let s1 := s.forEach found.badTargets (fun t s => s.targetUnused t)
    if s1.fatalNow ≠ 0 then s1.serviceEnd s1.fatalNow
    else
      let s2 := (((s1.mapIn found).spareStart).bringUpCauses found).mapCacheCheck
      let s3 := ({ s2 with mode := { s2.mode with mapReady := true, rerun := false } }).readyAll.bringUpEnd
      let s4 := { s3 with mode := { s3.mode with maintStopped := decide (s3.mode.base = Base.maintenance) } }
      if s4.recov.sanitizeRecord ≠ 0 then ({ s4 with sec := { s4.sec with sanRunning := 2 } }).sanitizeRun
      else s4))

/-- The Always-On Domain is powered. -/
def State.aonOn (s : State) : Bool := decide (s.mode.base ≠ .unpowered)

/-- POWER_LOSS_NOTIFY (R280, R284, R385): PLN_N low for 1 µs. -/
def execPowerLossNotify (s : State) : Res :=
  .next (s.when (s.aonOn && !s.aon.pln) (fun s =>
    let s1 := { s with aon := { s.aon with pln := true } }
    (if s.awake then s1.pwrBit 1 else s1).powerEvent 9))

/-- POWER_DISABLE (R280, R284, R385). -/
def execPowerDisable (s : State) : Res :=
  .next (s.when (s.aonOn && !s.aon.pwrdis) (fun s =>
    let s1 := { s with aon := { s.aon with pwrdis := true } }
    (if s.awake then s1.pwrBit 2 else s1).powerEvent 10))

/-- POST_WINDOW_END (R103, R284): the PCIe PHYs power down; host, upkeep and spare clusters go Off. -/
def execPostWindowEnd (s : State) : Res :=
  .next (s.when (decide (s.mode.base = .flush) && s.mode.postWindow && s.elapsed s.mode.flushAt (s.cfg 0x8040 2 * usec)) (fun s =>
    let down (p : Nat) (s : State) : State :=
      let s1 := if (s.port p).linkUp then s.linkLost p else s
      s1.setPort p { s1.port p with stayDown := true }
    let s1 := s.forEach [0, 1] down
    let s2 := s1.forEach [0, 1, 2, 3, 4, 5, 6, 7, 12, 13, 15] (fun k s => s.setIsland k { s.island k with st := .off, entering := false })
    { s2 with mode := { s2.mode with postWindow := false } }))

/-- FLUSH_END (R282 to R286, R292, R293). -/
def execFlushEnd (s : State) : Res :=
  .next (s.when (decide (s.mode.base = .flush) && !s.mode.postWindow && !s.mode.restartWait
    && !s.media.progs.any (fun p => p.2.live)) State.flushDone)

/-- POWER_CONTROL_RELEASE (R286, R385): `pwrdis` names the pin. In Flush the release is only recorded.
(DESIGN CHOICE, log entry 93) -/
def execPowerControlRelease (pwrdis : Bool) (s : State) : Res :=
  .next (s.when (s.aonOn && (if pwrdis then s.aon.pwrdis else s.aon.pln)) (fun s =>
    (if pwrdis then { s with aon := { s.aon with pwrdis := false } } else { s with aon := { s.aon with pln := false } }).tryStart 2))

/-- FLUSH_RESTART_TIMER (R286, R385): the rails are good and PLN_N is high 10 ms after Flush. -/
def execFlushRestartTimer (s : State) : Res :=
  .next (s.when (decide (s.mode.base = .flush) && s.mode.restartWait && s.elapsed s.mode.flushAt (10 * msec) && !s.flushHeld)
    (fun s => s.bringUpBegin 21))

/-- MAINTENANCE_ENTRY_DONE (R385, R387, R424): the drained entry's checkpoint is complete. -/
def execMaintenanceEntryDone (s : State) : Res :=
  .next (s.when (s.mode.maintEntry && s.mode.entryCkpt && !s.jrn.ckptRunning && s.inService) (fun s =>
    let ws := s.mode.maintWaiters
    let s1 := ({ s with mode := { s.mode with maintEntry := false, entryCkpt := false, maintWaiters := [] } }).transition .maintenance
      (if s.mode.maintCauses.testBit 1 then 17 else 16)
    (s1.forEach ws (fun w s => s.answer w.1 { op := 2, final := true, reqId := w.2, index := 0x8000, sub := 5, ty := 0, offset := 0
                                              length := 0, value := [] } {})).sanitizeRun))

/-! ### Heat (R392 to R399, R451) -/

def State.thmBit (s : State) (b : Nat) : State :=
  { s with regs := { s.regs with thmEvent := s.regs.thmEvent ||| (1#32 <<< b) } }

/-- A U32 that holds an I32. -/
def asI32 (n : Nat) : Int := if 2 ^ 31 ≤ n then (n : Int) - 2 ^ 32 else (n : Int)

/-- R393: a sample with its sensor's OFFSET, or broken. -/
def State.sampleOf (s : State) (k : Nat) (v : Sample) : Option Int :=
  match v with
  | none => none
  | some q =>
    let r := q + asI32 (s.cfg (0x8120 + k) 2)
    if -320 ≤ r ∧ r ≤ 1200 then some r else none

/-- R393: one sample of a sensor. -/
def State.sensorTake (s : State) (k : Nat) (v : Sample) : State :=
  let x := s.sensor k
  match s.sampleOf k v with
  | none =>
    if x.broken then s.setSensor k { x with goodRun := 0 }
    else ((s.setSensor k { x with broken := true, goodRun := 0, breaks := satAdd 32 x.breaks 1 }).thmBit 2).rasReport 0x0C k 11 2 0 [k]
  | some r =>
    if x.broken then
      if s.cfg 0x8100 5 ≤ x.goodRun + 1 then (s.setSensor k { x with broken := false, goodRun := 0, readingQ := r }).thmBit 3
      else s.setSensor k { x with goodRun := x.goodRun + 1, readingQ := r }
    else s.setSensor k { x with readingQ := r }

/-- The good junction sensors. -/
def State.junctionsGood (s : State) : List Nat := [12, 13, 14, 15, 16, 17].filter (fun k => !(s.sensor k).broken)

/-- A sensor belongs to a zone. -/
def State.inZone (s : State) (z k : Nat) : Bool := (s.cfg (0x8110 + z) 2).testBit k
def State.zonesOn (s : State) : List Nat := (List.range 8).filter (fun z => s.zoneOn z)

/-- R397: the limit of a junction sensor, in 0.125 °C. -/
def State.junctionLimit (s : State) (k : Nat) : Int :=
  8 * (((s.zonesOn.filter (fun z => s.inZone z k)).map (fun z => s.cfg (0x8110 + z) 7)).foldl min (s.cfg 0x8100 1) : Nat)

/-- Junction sensors at or above their limit. -/
def State.junctionsHot (s : State) : List Nat :=
  s.junctionsGood.filter (fun k => decide (s.junctionLimit k ≤ (s.sensor k).readingQ))

/-- The highest step whose entry point a temperature has reached (R394). -/
def State.stepFor (s : State) (z : Nat) (t : Int) : Nat :=
  ([1, 2, 3, 4].filter (fun k => decide ((8 * (s.cfg (0x8110 + z) 5 + (k - 1) * s.cfg (0x8110 + z) 6) : Nat) ≤ t))).foldl max 0

/-- R394, R395, R397, R399: one zone after a sample round. -/
def State.zoneTake (s : State) (z : Nat) : State :=
  let i := 0x8110 + z
  let x := s.tzone z
  let set := (List.range 18).filter (fun k => s.inZone z k)
  let goods := (set.filter (fun k => !(s.sensor k).broken)).map (fun k => (s.sensor k).readingQ)
  let t := match goods with
    | [] => x.tempQ
    | a :: l => l.foldl max a
  let shut : Int := (8 * s.cfg i 7 : Nat)
  let jHot := s.junctionsHot.any (fun k => set.contains k)
  let forced := set.any (fun k => (s.sensor k).broken) || decide (shut ≤ t) || jHot || decide (s.junctionsGood.length < 2)
  let up := s.stepFor z t
  let below : Int := (8 * (s.cfg i 5 + (x.step - 1) * s.cfg i 6) : Nat) - (8 * s.cfg i 8 : Nat)
  let step := if forced then 4 else if x.step < up then up
    else if 0 < x.step ∧ t < below ∧ s.elapsed x.changedAt (s.cfg 0x8100 4 * msec) = true then x.step - 1 else x.step
  let warn := decide (((8 * s.cfg i 4 : Nat) : Int) ≤ t)
  let critical := jHot || set.any (fun k => decide (k < 12) && !(s.sensor k).broken && decide (shut ≤ (s.sensor k).readingQ))
  let s1 := s.setTzone z { x with step := step, tempQ := t, warned := warn
                                  changedAt := if step = x.step then x.changedAt else s.aon.now }
  let s2 := if warn && !x.warned then s1.thmBit 0 else s1
  let s3 := if x.step < step then s2.thmBit 1 else s2
  if critical && x.step != 4 then s3.thmBit 4 else s3

/-- R388, R399: Sustain causes 8 and 9. -/
def State.sensorWatch (s : State) : State :=
  let bad := (List.range 18).any (fun k => (s.sensor k).broken && (decide (12 ≤ k) || s.zonesOn.any (fun z => s.inZone z k)))
  let few := decide (s.junctionsGood.length < 2)
  let s1 := if bad then s.sustainSet 8 else s.sustainClear 8
  if few then (if s1.mode.sustain.testBit 9 then s1 else (s1.sustainSet 9).thmBit 5) else s1.sustainClear 9

/-- R398: a thermal shutdown. (DESIGN CHOICE, log entry 94) -/
def State.thermalShutdown (s : State) : State :=
  let s1 := ({ s with thermal := { s.thermal with shutdowns := satAdd 32 s.thermal.shutdowns 1 } }).thmBit 6
  let hold (s : State) : State :=
    { s with aon := { s.aon with thermalHold := true, holdNeedsPg := !s.cfgB 0x8100 3 }, thermal := { s.thermal with coolSince := none } }
  match s.mode.base with
  | .bringUp => (hold s1).enterDormant 11
  | .flush => { s1 with mode := { s1.mode with shutdownInFlush := true } }
  | _ => (hold s1).flushStart 11

/-- R398: every good junction sensor is below its limit by the margin. -/
def State.junctionsCool (s : State) : Bool :=
  s.junctionsGood.all (fun k => decide ((s.sensor k).readingQ < s.junctionLimit k - (8 * s.cfg 0x8100 2 : Nat)))

/-- R451: the life, in ms, that 10 ms accrue. -/
def lifeStep (q : Int) : Nat :=
  if q ≤ 760 then 10
  else if (q - 760) % 80 = 0 then 10 * 2 ^ ((q - 760) / 80).toNat
  else Config.lifeMs q.toNat

/-- R396, R451: the times that a sample round adds. -/
def State.thermalTimes (s : State) (ns : Nat) : State :=
  let hot := (s.junctionsGood.map (fun k => (s.sensor k).readingQ)).foldl max (-320)
  let crit := s.zonesOn.any (fun z => decide (((8 * s.cfg (0x8110 + z) 7 : Nat) : Int) ≤ (s.tzone z).tempQ))
  let cool := if s.junctionsCool then some (s.thermal.coolSince.getD s.aon.now) else none
  { s with
    thermal := { s.thermal with
      warnTimeNs := if s.thermalWarn then s.thermal.warnTimeNs + ns else s.thermal.warnTimeNs
      critTimeNs := if crit then s.thermal.critTimeNs + ns else s.thermal.critTimeNs
      coolSince := cool, lastRound := s.aon.now }
    ras := { s.ras with lifeFrac := s.ras.lifeFrac + lifeStep hot * (ns / (10 * msec)) } }

/-- R308: channels whose junction sensor moved by RETRAIN_DELTA_C since their training. -/
def State.retrainHeat (s : State) : State :=
  s.forEach (List.range Config.channels) (fun c s =>
    let d := s.chanTempQ c - (s.chan c).trainedTempQ
    if s.chanServes c && s.profile && decide (8 * s.pf 0x39 ≤ d.natAbs) && !(s.chan c).retrainWanted then s.retrainAsk c else s)

/-- The time between sample rounds (R392). -/
def State.samplePeriod (s : State) : Nat := if s.awake then 10 * msec else 1000 * msec

/-- THERMAL_SAMPLE_ROUND (R308, R392 to R399, R402 to R404, R451). -/
def execThermalSampleRound (samples : List Sample) (s : State) : Res :=
  .next (s.when (s.aonOn && samples.length == 18) (fun s =>
    let s1 := s.boundaries (fun i => decide (0x8100 ≤ i ∧ i ≤ 0x8131))
    let s2 := s1.forEach (samples.zip (List.range 18)) (fun v s => s.sensorTake v.2 v.1)
    let s3 := (s2.forEach s2.zonesOn (fun z s => s.zoneTake z)).sensorWatch
    let s4 := (s3.thermalTimes s.samplePeriod).critWatch s
    if s4.awake && decide (2 ≤ s4.junctionsHot.length) then s4.thermalShutdown else s4.retrainHeat))

/-- THERMAL_HOLD_END (R385, R398): 60 s below the limits; the hold is over, and Bring-Up begins with AUTO_RESTART or
after MAIN_PG has gone false and true again. -/
def execThermalHoldEnd (s : State) : Res :=
  .next (s.when (s.aon.thermalHold && decide (s.mode.base = .dormant) && (match s.thermal.coolSince with
      | some t => s.elapsed t (60 * sec)
      | none => false)) (fun s =>
    ({ s with aon := { s.aon with thermalHold := false } }).tryStart 22))

/-! ### Clocks (R466, R467) -/

/-- CRYSTAL_QUALIFIED (R463, R466). -/
def execCrystalQualified (s : State) : Res :=
  .next (s.when (s.aonOn && !s.aon.crystal25) (fun s => ({ s with aon := { s.aon with crystal25 := true } }).tryStart 2))

/-- CRYSTAL_QUALIFY_TIMEOUT (R466): the PK9 stays in Dormant and keeps trying. -/
def execCrystalQualifyTimeout (s : State) : Res :=
  .next (s.when (decide (s.mode.base = .dormant) && !s.aon.crystal25) (fun s => s.rasRecord 0x0E 0 0x20 3 0 []))

/-- SLOW_CRYSTAL_FAILURE (R466). -/
def execSlowCrystalFailure (s : State) : Res :=
  .next (s.when (s.aonOn && s.aon.crystal32) (fun s =>
    ({ s with aon := { s.aon with crystal32 := false } }).rasRecord 0x0E 0 0x20 2 0 []))

/-- REFCLK_STOP (R467): the fast PLLs change to the crystal, and port 0 loses its link.
(DESIGN CHOICE, log entry 26) -/
def execRefclkStop (s : State) : Res :=
  .next (s.when (s.aonOn && s.aon.refclk0) (fun s =>
    let s1 := { s with aon := { s.aon with refclk0 := false, pllOnRefclk := false } }
    if s.awake && s.aon.refsel && (s.port 0).linkUp then s1.linkLost 0 else s1))

/-- REFCLK_RESTORED (R467). -/
def execRefclkRestored (s : State) : Res :=
  .next (s.when (s.aonOn && !s.aon.refclk0) (fun s =>
    { s with aon := { s.aon with refclk0 := true, pllOnRefclk := s.aon.refsel && s.aon.pllsOn } }))

/-! ### Power figures and indicators (R390, R391, R401, R471) -/

/-- MP of a power state, in milliwatts. -/
def mpOf (ps : Nat) : Nat := [40000, 30000, 20000, 8000, 4000].getD ps 40000

/-- POWER_ESTIMATE_INTERVAL (R391, R401): the average of the last 100 ms. -/
def execPowerEstimateInterval (milliwatt : Nat) (s : State) : Res :=
  .next (s.when s.awake (fun s =>
    { s with mode := { s.mode with
        powerMw := milliwatt, peakMw := max s.mode.peakMw milliwatt, energyMj := s.mode.energyMj + milliwatt / 10
        overMs := if mpOf s.mode.psInForce < milliwatt then satAdd 32 s.mode.overMs 100 else s.mode.overMs } }))

/-- LED_ACT_INTERVAL (R471). -/
def execLedActInterval (s : State) : Res :=
  .next (s.when s.aonOn (fun s =>
    if s.aon.ledCompletion then ({ s with aon := { s.aon with ledCompletion := false } }).emit (.led 50) else s))

end Sys2Proof.Machine
end

