-- ==== Sys2Proof/Machine/PiOps.lean ====
section
/-! DEFINITION. Protection information (R134), the blocks that a command moves, the data pieces of host buffers, and the
staging of a coded block in the write buffer (R29, R125, R323, R326). -/

namespace Sys2Proof.Machine

/-! ### Guards (R134; the CRCs of the NVM command set specification) -/

/-- One bit of the 16-bit guard's CRC: polynomial 8BB7h, highest bit first. -/
def guard16Bit (c : Nat) : Nat := if 0x8000 ≤ c then ((c * 2) ^^^ 0x18BB7) % 0x10000 else c * 2
def guard16 (l : List Byte) : Nat := l.foldl (fun c b => (List.range 8).foldl (fun c _ => guard16Bit c) (c ^^^ (b.toNat * 256))) 0

/-- One bit of the 64-bit guard's CRC, reflected. -/
def guard64Bit (c : Nat) : Nat := if c % 2 = 1 then (c / 2) ^^^ 0x9A6C9329AC4BC9B5 else c / 2
def guard64 (l : List Byte) : Nat :=
  (l.foldl (fun c b => (List.range 8).foldl (fun c _ => guard64Bit c) (c ^^^ b.toNat)) (2 ^ 64 - 1)) ^^^ (2 ^ 64 - 1)

/-- A number as `k` bytes, highest first, and back. -/
def beBytes (k n : Nat) : List Byte := (leBytes k n).reverse
def fromBe (l : List Byte) : Nat := fromLe l.reverse

/-- Bytes of the guard: the 16-byte form carries 64 bits. -/
def guardBytes (m : Nat) : Nat := if m = 16 then 8 else 2
/-- Bytes of the reference tag. -/
def refBytes (m : Nat) : Nat := if m = 16 then 6 else 4
/-- The guard of a block's data. (PRESUMED, log entry 48) -/
def guardOf (m : Nat) (data : List Byte) : Nat := if m = 16 then guard64 data else guard16 data

/-- The protection information of a block. -/
def piMake (m : Nat) (data : List Byte) (app ref : Nat) : List Byte :=
  beBytes (guardBytes m) (guardOf m data) ++ beBytes 2 app ++ beBytes (refBytes m) ref

/-- R134: the check of one block: 0, or the status code of the first failure in the order guard, application tag, reference
tag. `chk` is PRCHK. Application tag FFFFh turns the checks off, for type 3 together with a reference tag of ones. -/
def piCheck (m ty chk app mask ref : Nat) (data info : List Byte) : Nat :=
  let g := fromBe (info.take (guardBytes m))
  let a := fromBe ((info.drop (guardBytes m)).take 2)
  let r := fromBe ((info.drop (guardBytes m + 2)).take (refBytes m))
  if ty = 0 ∨ m = 0 then 0
  else if a = 0xFFFF ∧ (ty ≠ 3 ∨ r = 256 ^ refBytes m - 1) then 0
  else if chk.testBit 2 ∧ g ≠ guardOf m data then 0x82
  else if chk.testBit 1 ∧ a &&& mask ≠ app &&& mask then 0x83
  else if chk.testBit 0 ∧ ty ≠ 3 ∧ r ≠ ref then 0x84
  else 0

/-- PRACT, PRCHK, the application tag with its mask, and the initial reference tag of a command. -/
def Tag.pract (x : Tag) : Bool := x.sqe.cdw12.testBit 29
def Tag.prchk (x : Tag) : Nat := x.sqe.cdw12 / 2 ^ 26 % 8
def Tag.appTag (x : Tag) : Nat := x.sqe.cdw15 % 2 ^ 16
def Tag.appMask (x : Tag) : Nat := x.sqe.cdw15 / 2 ^ 16
def Tag.refTag (x : Tag) (m b ty : Nat) : Nat :=
  let first := x.sqe.cdw14 + (if m = 16 then x.sqe.cdw3 % 2 ^ 16 * 2 ^ 32 else 0)
  (if ty = 3 then first else first + b) % 256 ^ refBytes m

/-- The result of the check of one block of a command. -/
def State.piOf (s : State) (t b : Nat) (data info : List Byte) : Nat :=
  let x := s.tag t
  let n := x.sqe.nsid
  let m := s.infoBytes n
  piCheck m (s.piType n) x.prchk x.appTag x.appMask (x.refTag m b (s.piType n)) data info

/-- Metadata that a command moves between the host and each block: none with PRACT on a protected namespace. -/
def State.infoMoved (s : State) (t : Nat) : Nat :=
  let x := s.tag t
  if x.pract && s.piType x.sqe.nsid != 0 then 0 else s.infoBytes x.sqe.nsid

/-! ### Pieces of host buffers -/

/-- Cut a run of `len` bytes from offset `off` where a page of the host ends and into at most `most` bytes (R93); `fuel`
bounds the pieces. Each piece is its offset, its address and its length. -/
def pieces (addr : Nat → Nat) (most : Nat) : Nat → Nat → Nat → List (Nat × Nat × Nat)
  | 0, _, _ => []
  | f + 1, off, len =>
    if len = 0 then []
    else
      let a := addr off
      let n := min (min len most) (4096 - a % 4096)
      (off, a, n) :: pieces addr most f (off + n) (len - n)


/-- Bytes gathered as pieces, in the order of their offsets. -/
def joinParts (l : List (Nat × List Byte)) : List Byte := ((sortBy (fun a b => decide (a.1 ≤ b.1)) l).map (fun x => x.2)).flatten

/-! ### Staging (R29, R323, R326) -/

/-- Some lane of the Compression Unit works. -/
def State.lanesLeft (s : State) : Bool := (List.range 32).any (fun n => s.laneWorks n)

/-- The mirrored pair that a command's buffers lie in, while it is up, else one that is (R29, R361). -/
def State.pairFor (s : State) (t : Nat) : Option Nat :=
  let own := (s.tag t).buffers.filterMap (fun b => if 4 ≤ b.1 then some (b.1 - 4) else none)
  (own ++ [0, 1]).find? (fun p => s.pairUp p)

/-- A block leaves the transform pipe: both copies are written to a mirrored pair. With no pair left, or without the Parity
Engine, the write faults (R442, R446). -/
def State.stage (s : State) (t b slot mode : Nat) (image : List Byte) : State :=
  let x := s.tag t
  match s.pairFor t with
  | none => s.commitTag t ⟨2, 0x80⟩
  | some p =>
    if s.cmp.parityFailed then s.commitTag t ⟨2, 0x80⟩
    else
      let h := s.wbuf.next + 1
      let r := s.blk t b
      let s1 := s.setWblk h { nsid := x.sqe.nsid, lba := x.slba + b, image := image, info := r.info, slot := slot, mode := mode
                              copyA := true, copyB := true, pair := p, slice := x.slice }
      { s1 with wbuf := { s1.wbuf with next := h } }.setBlk t b { r with handle := h }

/-- The command stages blocks of its own: a write, an append, a copy, or zeroes that stay written. -/
def Tag.stages (x : Tag) : Bool :=
  x.sqe.opcode == 0x01 || x.sqe.opcode == 0x7D || x.sqe.opcode == 0x19 || (x.sqe.opcode == 0x08 && !x.sqe.deac)

/-- A block of a writing command is whole and checked, and waits for a lane. -/
def State.codable (s : State) (t b : Nat) : Bool :=
  let x := s.tag t
  let r := s.blk t b
  !x.admin && x.stages && x.built && x.st.uncommitted && r.arrived && !r.failed && r.handle == 0

/-- A block that bypasses the lanes is staged as it is (R323, R445). -/
def State.bypass (s : State) (t b : Nat) : State :=
  if s.codable t b && ((s.tag t).mode == 0 || !s.lanesLeft) then s.stage t b 3 0 (s.blk t b).data else s

/-- R134: the ingress failure of the lowest failing block ends the command, once every block below it is in. -/
def State.ingressWatch (s : State) (t : Nat) : State :=
  match ((List.range (s.tag t).nlb).map (fun b => s.blk t b)).find? (fun r => !r.arrived || r.pi != 0) with
  | some r => if r.arrived && r.pi != 0 then s.commitTag t ⟨2, r.pi⟩ else s
  | none => s

/-- All data and metadata of a block of a write or an append has arrived: the check at ingress, or the generation of
protection information, then the lanes. -/
def State.blockIn (s : State) (t b : Nat) (data info : List Byte) : State :=
  let x := s.tag t
  let n := x.sqe.nsid
  let m := s.infoBytes n
  let ty := s.piType n
  let made := x.pract && ty != 0
  let own := if made then piMake m data x.appTag (x.refTag m b ty) else info
  let c := if made then 0 else s.piOf t b data info
  let s1 := s.setBlk t b { s.blk t b with data := data, info := own, arrived := true, parts := [], pi := c, failed := c != 0 }
  (s1.bypass t b).ingressWatch t

end Sys2Proof.Machine
end

