-- ==== Sys2Proof/Machine/Compress.lean ====
section
/-! DEFINITION. The Compression Unit: lanes, residue and check failures, spares, coding and decoding of blocks (R27, R321 to
R333, R444, R445). -/

namespace Sys2Proof.Machine

def State.cmpBit (s : State) (b : Nat) : State :=
  { s with regs := { s.regs with cmpEvent := s.regs.cmpEvent ||| (1#32 <<< b) } }

/-! ### Lanes (R330, R331); lane 32 is spare A and lane 33 spare B -/

/-- The half of a lane: A at stop 10, B at stop 11. -/
def laneHalfA (l : Nat) : Bool := decide (l < 16) || l == 32

/-- A lane serves: it works, and a spare serves only in a failed lane's place. -/
def State.laneServes (s : State) (l : Nat) : Bool :=
  !s.cmp.failedLanes.contains l &&
    (decide (l < 32) || (l == 32 && s.cmp.spareA.isSome) || (l == 33 && s.cmp.spareB.isSome))

/-- A lane fails: its half's spare takes over, or the half runs with one lane fewer. -/
def State.laneFail (s : State) (l : Nat) : State :=
  let free := if laneHalfA l then s.cmp.spareA.isNone && !s.cmp.failedLanes.contains 32
              else s.cmp.spareB.isNone && !s.cmp.failedLanes.contains 33
  let c : Cmp := { s.cmp with failedLanes := s.cmp.failedLanes ++ [l]
                              firstMismatch := s.cmp.firstMismatch.filter (fun k => k != l) }
  let c := if free then (if laneHalfA l then { c with spareA := some l } else { c with spareB := some l }) else c
  let s1 := (({ s with cmp := c }.cmpBit 2).sustainSet 1).rasReport 2 l 3 2 0 [boolNat free]
  if free then s1 else s1.cmpBit 3

/-- A residue (`check` false) or check-decoder mismatch of a lane: the first is coded again on the same lane, the second
fails the lane (R27, R330). (DESIGN CHOICE, log entry 55) -/
def State.laneMismatch (s : State) (l : Nat) (check : Bool) : State :=
  let s1 := { s with cmp := { s.cmp with
    checkMismatches := if check then satAdd 32 s.cmp.checkMismatches 1 else s.cmp.checkMismatches } }.cmpBit (boolNat check)
  let s2 := s1.rasReport 2 l 9 1 0 [boolNat check]
  if s2.cmp.firstMismatch.contains l then s2.laneFail l
  else { s2 with cmp := { s2.cmp with residueRetries := satAdd 32 s2.cmp.residueRetries 1
                                      firstMismatch := s2.cmp.firstMismatch ++ [l] } }

/-- R27, R444: a mismatch of another residue-checked unit. The second one brings in its standby twin, and a second one of
the twin ends service (R447). -/
def State.unitMismatch (s : State) (u : Nat) : State :=
  let s1 := s.rasReport 2 (34 + u) 9 1 0 []
  if !s.cmp.unitMismatch.contains u then { s1 with cmp := { s1.cmp with unitMismatch := s1.cmp.unitMismatch ++ [u] } }
  else
    let s2 := { s1 with cmp := { s1.cmp with unitMismatch := s1.cmp.unitMismatch.filter (fun k => k != u) } }
    if s2.cmp.twinUsed.contains u then (s2.rasReport 2 (34 + u) 9 3 0 []).serviceEnd 4
    else (({ s2 with cmp := { s2.cmp with twinUsed := s2.cmp.twinUsed ++ [u] } }).sustainSet 1).rasReport 2 (34 + u) 3 2 0 []

/-! ### Coding a written block (R323, R326, R329) -/

/-- The lane has coded a block to an image of c bytes: its slot, the counts, and its place in the write buffer. -/
def State.coded (s : State) (t b lane mode : Nat) (image : List Byte) (inTime : Bool) : State :=
  let slot := if inTime then slotOf image.length else 3
  let c := s.cmp
  let s1 := { s with cmp := { c with
    firstMismatch := c.firstMismatch.filter (fun k => k != lane)
    blocksCoded := satAdd 64 c.blocksCoded 1
    blocksRaw := if slot = 3 then satAdd 64 c.blocksRaw 1 else c.blocksRaw
    granulesOut := satAdd 64 c.granulesOut (slotGranules slot) } }
  s1.stage t b slot mode (if slot = 3 then (s.blk t b).data else image)

/-- BLOCK_ENCODE_DONE (R27, R326, R330, R331, R444): lanes 34 and above stand for the other residue-checked units.
(DESIGN CHOICE, log entry 53) -/
def execBlockEncodeDone (tag blk lane : Nat) (c : Coded) (s : State) : Res :=
  .next (
    if 34 ≤ lane then
      if c.residueBad then s.unitMismatch (lane - 34)
      else { s with cmp := { s.cmp with unitMismatch := s.cmp.unitMismatch.filter (fun k => k != lane - 34) } }
    else s.when (s.codable tag blk && (s.tag tag).mode == 1 && s.laneServes lane) (fun s =>
      if c.residueBad then s.laneMismatch lane false
      else if c.inTime && c.image.length ≤ 3072 && slotDecode c.image != some ((s.blk tag blk).data) then
        s.laneMismatch lane true
      else s.coded tag blk lane 1 c.image c.inTime))

/-! ### Decoding a read block (R325, R328) -/

/-- A stored block is valid: its data is in stream SRAM, and its superblock is no longer read for it. -/
def State.slotGood (s : State) (t b : Nat) (data : List Byte) : State :=
  let x := s.blk t b
  let s1 := s.setBlk t b { x with data := data, ready := true }
  match x.src with
  | .flash l => s1.readEnd l
  | _ => s1

/-- A stored block is invalid: counted once for the read; a flash read goes to its next step, and a read that has none
left is unrecovered. (DESIGN CHOICE, log entry 56) -/
def State.slotBad (s : State) (t b : Nat) : State :=
  let x := s.blk t b
  let s1 := { s with cmp := { s.cmp with slotInvalid := if x.invalid then s.cmp.slotInvalid else satAdd 32 s.cmp.slotInvalid 1 } }.cmpBit 4
  let s2 := s1.setBlk t b { x with invalid := true, coded := [] }
  match x.src with
  | .flash l =>
    match s.stepNow t b l with
    | 1 => if s.retryEntries = 0 then s2.toSoft t b l else s2.setBlk t b { s2.blk t b with escalation := 2, tries := 1 }
    | 2 => s2.toSoft t b l
    | 3 => s2.toParity t b l
    | _ => s2.unrecovered t b l
  | _ => (s2.setBlk t b { s2.blk t b with failed := true }).commitTag t ⟨2, 0x81⟩

/-- A block of a read waits for a decoder of a mode. -/
def State.decodable (s : State) (t b mode : Nat) : Bool :=
  let r := s.blk t b
  decide ((s.tag t).st ≠ .free) && (s.tag t).mapTaken && r.mode == mode && !r.coded.isEmpty && !r.ready && !r.failed

/-- SLOT_DECODE_DONE (R325): the decoder judges the image that the Crypto Unit delivered to it. -/
def execSlotDecodeDone (tag blk : Nat) (s : State) : Res :=
  .next (s.when (s.decodable tag blk 1 && s.lanesLeft) (fun s =>
    let img := (s.blk tag blk).coded
    if (s.blk tag blk).slot = 3 then s.slotGood tag blk img
    else match slotDecode img with
      | some d => s.slotGood tag blk d
      | none => s.slotBad tag blk))

/-- The predictor setting of a namespace: none is auto. -/
def State.ocxSetting (s : State) (n : Nat) : Option Nat :=
  match s.cfg (0x5800 + (n - 1)) 0x22 with
  | 0 => none
  | p => some p

/-- OCXON_CODE_DONE (R328, R329, R330): `encode` says which way the block went. -/
def execOcxonCodeDone (tag blk lane : Nat) (encode : Bool) (c : Coded) (s : State) : Res :=
  .next (
    if encode then
      s.when (s.codable tag blk && (s.tag tag).mode == 2 && s.laneServes lane) (fun s =>
        let i := 0x5800 + ((s.tag tag).sqe.nsid - 1)
        let img := ocxonEncode (s.cfg i 0x21) (s.ocxSetting (s.tag tag).sqe.nsid) (s.cfg i 0x23) (s.blk tag blk).data
        if c.residueBad then s.laneMismatch lane false
        else if c.image != img then s.laneMismatch lane true
        else s.coded tag blk lane 2 img true)
    else
      s.when (s.decodable tag blk 2 && s.laneServes lane) (fun s =>
        let img := (s.blk tag blk).coded
        if c.residueBad then s.laneMismatch lane false
        else if (s.blk tag blk).slot = 3 then s.slotGood tag blk img
        else match ocxonDecode img with
          | some d => s.slotGood tag blk d
          | none => s.slotBad tag blk))

end Sys2Proof.Machine
end

