-- ==== Sys2Proof/Machine/Journal.lean ====
section
/-! DEFINITION. The Map Pager and the Sepia journal (R220, R224, R226, R227, R237 to R239, R300, R473). -/

namespace Sys2Proof.Machine

/-- A fill of a page is under way. -/
def State.fillOf (s : State) (n p : Nat) : Option Fill := s.map.fills.find? (fun f => f.nsid == n && f.page == p)

/-- Remove the fill of a page. -/
def State.fillDrop (s : State) (n p : Nat) : State :=
  { s with map := { s.map with fills := s.map.fills.filter (fun f => !(f.nsid == n && f.page == p)) } }

/-- The indexed records of a page are applied (R295): its granules, and U_i, fall to their exact values (R473). -/
def State.pageExact (s : State) (n p : Nat) : State :=
  let x := s.page n p
  if x.indexed then
    let g := s.pageGranules n p
    (s.setNs n { s.ns n with used := (s.ns n).used + g - x.granules }).setPage n p { x with indexed := false, granules := g }
  else s

/-- A good fill: the page is in DRAM, and what waits for it goes on in order. -/
def State.fillGood (s : State) (f : Fill) : State :=
  let s1 := (s.fillDrop f.nsid f.page).pageExact f.nsid f.page
  let s2 := s1.setPage f.nsid f.page { s1.page f.nsid f.page with inDram := true, rebuilding := false, referenced := !f.prefetch }
  (s2.resolveWaiters.movesApply).indexFill

/-- A fill that fails its check: the host-memory copy is followed by the flash home; a failed home loses the page. -/
def State.fillBad (s : State) (f : Fill) : State :=
  let s1 := s.checkFailed f.nsid f.page
  if f.fromHmb then
    let s2 := s1.setPage f.nsid f.page { s1.page f.nsid f.page with inHmb := false }
    { s2 with map := { s2.map with
        fills := s2.map.fills.map (fun g => if g.nsid = f.nsid ∧ g.page = f.page then { g with fromHmb := false } else g)
        flashFills := satAdd 64 s2.map.flashFills 1 } }
  else
    (((s1.fillDrop f.nsid f.page).pageExact f.nsid f.page).pageLost f.nsid f.page).resolveWaiters.movesApply

/-- R229: a Set Features that disables a host memory buffer completes once no read of a buffer is outstanding. -/
def State.hmbDone (s : State) : State :=
  if s.map.fills.any (fun f => f.fromHmb) then s
  else s.forEach (s.tags.filter (fun x => x.2.admin && decide (x.2.st = .run) && x.2.sqe.opcode == 0x09 && x.2.sqe.cdw10 % 256 == 0x0D))
    (fun x s => s.succeed x.1)

/-- MAP_FILL_COMPLETE (R220, R224, R225, R229, R295, R300). -/
def execMapFillComplete (nsid page : Nat) (good : Bool) (s : State) : Res :=
  .next (match s.fillOf nsid page with
    | none => s.unlisted
    | some f => (if good then s.fillGood f else s.fillBad f).hmbDone)

/-- JOURNAL_PAGE_TIMER (R237): 200 µs after a page's first record its programs start. -/
def execJournalPageTimer (s : State) : Res :=
  .next (s.when (!s.jrn.tail.isEmpty && s.elapsed s.jrn.tailSince (200 * usec)) State.closeTail)

/-- JOURNAL_PAGE_DURABLE (R237 to R239, R260): the records of the oldest page in progress are durable. -/
def execJournalPageDurable (s : State) : Res :=
  .next (s.when (!s.jrn.flushing.isEmpty) (fun s => (s.pageDurable.jrnWatch.mediaPump).settleWatch))

/-- CHECKPOINT_INTERVAL (R238). -/
def execCheckpointInterval (s : State) : Res :=
  let s1 := s.boundary 0x6001
  .next (if s1.inService && s1.jrn.changed && !s1.jrn.ckptRunning && s1.elapsed s1.jrn.lastCkptAt (s1.cfg 0x6001 5 * sec)
    then s1.checkpoint else s.unlisted)

/-- CHECKPOINT_END_DURABLE (R228, R238). -/
def execCheckpointEndDurable (s : State) : Res :=
  .next (s.when (s.jrn.ckptRunning && decide (s.jrn.ckptEnd ≤ s.jrn.durable)) (fun s => s.checkpointDone.settleWatch))

/-- WRITEBACK_PROGRAM_DONE (R227, R228). -/
def execWritebackProgramDone (nsid page slot : Nat) (ok : Bool) (s : State) : Res :=
  .next (s.when (s.page nsid page).writingBack (fun s => s.writebackDone nsid page slot ok))

end Sys2Proof.Machine
end

