-- ==== Sys2Proof/Machine/Dram.lean ====
section
/-! DEFINITION. The DRAM controller: refresh and panic, errors and marks, training, and channel failure (R343 to R365, R375,
R446). -/

namespace Sys2Proof.Machine

def State.drcBit (s : State) (b : Nat) : State :=
  { s with regs := { s.regs with drcEvent := s.regs.drcEvent ||| (1#32 <<< b) } }

/-- Events that lie within so many nanoseconds. -/
def State.recent (s : State) (l : List Nat) (ns : Nat) : List Nat := l.filter (fun t => !s.elapsed t ns)

/-! ### Channel failure (R360, R361, R446, R447) -/

/-- A frame of the map allotment is lost or fails its check: a clean page is fetched again, a dirty one is rebuilt from its
flash home and its journal records (R220). -/
def State.frameLost (s : State) (k : Nat) : State :=
  let x := Tbl.get {} s.map.pages k
  let n := k / 2 ^ 56
  let p := k % 2 ^ 56
  if !x.inDram then s
  else if x.dirty then
    let s1 := (s.linesDrop k).setPage n p { x with rebuilding := true, inHmb := false }
    if (s1.fillOf n p).isSome then s1 else s1.fillStart n p 1 false []
  else (s.linesDrop k).setPage n p { x with inDram := false, referenced := false }

/-- A directory entry is lost: its page is rebuilt. -/
def State.directoryLost (s : State) (k : Nat) : State :=
  let x := Tbl.get {} s.map.pages k
  let n := k / 2 ^ 56
  let p := k % 2 ^ 56
  if x.null then s
  else
    let s1 := (s.linesDrop k).setPage n p { x with rebuilding := true, inDram := true, inHmb := false }
    if (s1.fillOf n p).isSome then s1 else s1.fillStart n p 1 false []

/-- R361 step 2: the frames, and the 64 KiB pieces of the directory, that lie on a channel. -/
def State.framesLost (s : State) (c : Nat) : State :=
  let d := max 1 s.dramPopulated
  s.forEach (s.map.pages.map (fun x => x.1)) (fun k s =>
    if Config.directoryChannel (k / 8192) % d = c then s.directoryLost k
    else if Config.frameChannel k % d = c then s.frameLost k
    else s)

/-- R375: a write-buffer block is lost after its commit: filler of MARK 02h, an UNCORR record, and a deferred error. -/
def State.copyLost (s : State) (h : Nat) : State :=
  let b := s.wblk h
  let named := decide ((s.locate b.nsid b.lba).1 = Src.buffer h)
  let s1 := (s.setWblk h { b with copyA := false, copyB := false, mark := 2 }).rasReport 7 b.pair 1 2 0 [b.nsid, b.lba]
  let s2 := if named then s1.loseRun b.nsid b.lba 1 else s1
  s2.forEach (s2.tags.map (fun x => x.1)) (fun t s =>
    if (s.tag t).st.uncommitted && (s.tag t).blks.any (fun r => decide (r.2.src = Src.buffer h)) then s.commitTag t ⟨2, 0x81⟩ else s)

/-- A block of a write before its commit point lost both copies (R375). -/
def State.stagedLost (s : State) (h : Nat) : State :=
  s.forEach (s.tags.map (fun x => x.1)) (fun t s =>
    if (s.tag t).st.uncommitted && (s.tag t).blks.any (fun r => r.2.handle == h) then s.commitTag t ⟨2, 0x80⟩ else s)

/-- A copy of a write-buffer block has no good code word left. -/
def State.bothLost (s : State) (h : Nat) : State :=
  if (s.wblk h).committed then (if (s.wblk h).mark = 2 then s else s.copyLost h) else s.stagedLost h

/-- R361 steps 1 and 3: the copies on a channel are gone; blocks with one copy left are programmed first. -/
def State.copiesLost (s : State) (c : Nat) : State :=
  let hs := (s.wbuf.blks.filter (fun x => x.2.pair == c / 2)).map (fun x => x.1)
  let s1 := s.forEach hs (fun h s =>
    let b := s.wblk h
    let b := if c % 2 = 0 then { b with copyA := false } else { b with copyB := false }
    let s := s.setWblk h b
    if b.copyA || b.copyB || b.program.isSome then s else s.bothLost h)
  let one (h : Nat) : Bool := (s1.wblk h).copyA != (s1.wblk h).copyB
  { s1 with wbuf := { s1.wbuf with
      pendingSlc := s1.wbuf.pendingSlc.filter one ++ s1.wbuf.pendingSlc.filter (fun h => !one h) } }

/-- A DRAM channel fails with a cause of R360. -/
def State.dramFail (s : State) (c cause : Nat) : State :=
  if (s.dram c).st = 4 then s
  else
    let s1 := s.setDram c { s.dram c with st := 4, cause := cause, panic := false, retraining := false }
    let s2 := ((s1.drcBit 3).sustainSet 7).rasReport 7 c 4 2 cause []
    if s.mode.base = .bringUp then s2
    else
      let s3 := if s.jrn.tail.isEmpty then s2 else { s2 with jrn := { s2.jrn with merged := s2.tailMark } }
      let s4 := (s3.framesLost c).copiesLost c
      let s5 := if s4.mode.base = .flush then s4 else { s4 with regs := { s4.regs with eccRemirror := s4.pairUp 0 || s4.pairUp 1 } }
      if (List.range 4).any (fun k => s5.dramUp k) then
        s5.mediaPump.also (decide (s5.mode.base ≠ Base.flush)) (fun s => s.drainZones (fun b => b.copyA != b.copyB))
      else s5.serviceEnd 6

/-- REMIRROR_COMPLETE (R361): no block that only one copy holds is left to program, and the other structures of the broken
pair are copied. -/
def execRemirrorComplete (s : State) : Res :=
  .next (s.when (s.regs.eccRemirror && !s.wbuf.blks.any (fun x => x.2.committed && x.2.program.isNone && !x.2.programmed && x.2.copyA != x.2.copyB))
    (fun s => { s with regs := { s.regs with eccRemirror := false } }))

/-! ### Refresh, panic, row activity (R350, R354 to R357) -/

/-- The key of a rank of a subchannel, and of a bank. -/
def rankKey (c r : Nat) : Nat := c * 4 + r
def bankKey (p : DramPlace) : Nat := ((p.subch * 2 + p.rank) * 8 + p.bg) * 4 + p.bank

/-- R357: an RFM of a bank takes RAAIMT off its count. (PRESUMED, log entry 102) -/
def State.rfmIssue (s : State) (c b : Nat) : State :=
  let d := s.dram c
  s.setDram c { d with raa := Tbl.modify 0 d.raa b (fun v => v - s.cfg 0x7800 10), rfm := satAdd 64 d.rfm 1 }

/-- R356: the neighbours of a row are refreshed, and its count returns to 0. -/
def State.neighbours (s : State) (c b row : Nat) : State :=
  let d := s.dram c
  (s.setDram c { d with acts := d.acts.map (fun x => if x.1 = b ∧ x.2.1 = row then (b, row, 0) else x)
                        neighbourRefreshes := satAdd 64 d.neighbourRefreshes 1 }).drcBit 5

/-- R356, R357: an activate of a row counts in its bank's table of 32 entries and in its rolling count. -/
def State.activate (s : State) (p : DramPlace) : State :=
  let c := p.channel
  let b := bankKey p
  let d := s.dram c
  let mine := d.acts.filter (fun x => x.1 == b)
  let low := mine.foldl (fun (m : Nat × Nat × Nat) x => if x.2.2 < m.2.2 then x else m) (mine.headD (b, 0, 0))
  let old := mine.find? (fun x => x.2.1 == p.row)
  let count := match old with
    | some x => x.2.2 + 1
    | none => if mine.length < 32 then 1 else low.2.2 + 1
  let rest := match old with
    | some x => d.acts.erase x
    | none => if mine.length < 32 then d.acts else d.acts.erase low
  let s1 := s.setDram c { d with acts := rest ++ [(b, p.row, count)] }
  let s2 := if s.cfg 0x7801 5 ≤ count then s1.neighbours c b p.row else s1
  if !s2.cfgB 0x7800 9 then s2
  else
    let e := s2.dram c
    let s3 := s2.setDram c { e with raa := Tbl.modify 0 e.raa b (fun v => v + 1) }
    if s3.cfg 0x7800 11 ≤ Tbl.get 0 (s3.dram c).raa b then
      ((s3.rfmIssue c b).setDram c { (s3.rfmIssue c b).dram c with
        forcedRefreshes := satAdd 64 (s3.dram c).forcedRefreshes 1 }).drcBit 4
    else s3

/-- The banks of a rank whose rolling count has reached RAAIMT are managed at level 4. -/
def State.rfmRank (s : State) (c r : Nat) : State :=
  if !s.cfgB 0x7800 9 then s
  else s.forEach ((s.dram c).raa.filter (fun x => x.1 / 32 == r && decide (s.cfg 0x7800 10 ≤ x.2))) (fun x s => s.rfmIssue c x.1)

/-- TREFI_BOUNDARY (R354 to R357, R363): `completed` says that the refresh of the last boundary is complete. -/
def execTrefiBoundary (ch rank : Nat) (completed : Bool) (s : State) : Res :=
  .next (s.when (s.dramUp ch) (fun s =>
    let s1 := (s.boundary 0x7801).rfmRank ch rank
    let d := s1.dram ch
    let r := Tbl.get {} s1.ranks (rankKey ch rank)
    let top := s1.cfg 0x7801 4
    let owed := if d.panic then (if completed then r.owed else min top (r.owed + 1)) else (if completed then 0 else r.owed)
    let n := (r.boundaries + 1) % 8192
    let forced := decide (owed = top)
    let d1 := { d with
      maxOwed := max d.maxOwed owed
      forcedRefreshes := if forced then satAdd 64 d.forcedRefreshes 1 else d.forcedRefreshes
      acts := if n = 0 then d.acts.filter (fun x => x.1 / 32 != rank) else d.acts }
    let s2 := ({ s1 with ranks := Tbl.set {} s1.ranks (rankKey ch rank) { owed := owed, boundaries := n } }).setDram ch d1
    if forced then s2.drcBit 4 else s2))

/-- REALTIME_BURST_STAGED (R350): the whole bursts that the port's FIFO now holds, and the bursts that wait for the channel.
(DESIGN CHOICE, log entry 110) -/
def execRealtimeBurstStaged (ch staged waiting : Nat) (s : State) : Res :=
  .next (s.when (s.dramUp ch && decide (staged ≤ 16)) (fun s =>
    let d := s.dram ch
    let low := s.cfg 0x7801 3
    let flush := decide (s.mode.base = .flush)
    let on := flush || (if d.panic then decide (staged < low + 4) else decide (waiting ≠ 0 ∧ staged < low))
    let us := if d.panic && !on then (s.aon.now - d.panicSince) / usec else 0
    s.setDram ch { d with staged := staged, panic := on, panicSince := if d.panic then d.panicSince else s.aon.now
                          panicUs := satAdd 64 d.panicUs us }))

/-! ### Code words (R344 to R348, R371, R375) -/

/-- R345, R346: the device is marked; a second device of a marked rank fails the channel. -/
def State.deviceMark (s : State) (p : DramPlace) (device : Nat) : State :=
  let c := p.channel
  let r := p.subch * 2 + p.rank
  let d := s.dram c
  match d.marks.find? (fun m => m.1 == r) with
  | some m => if m.2 = device then s else s.dramFail c 4
  | none => ((s.setDram c { d with marks := d.marks ++ [(r, device)] }).drcBit 2).rasReport 7 c 0 1 0 [c, p.subch, p.rank, device]

/-- A corrected code word. -/
def State.dramCorrected (s : State) (p : DramPlace) (device bytes : Nat) : State :=
  let c := p.channel
  let k := (p.subch * 2 + p.rank) * 16 + device
  let d := s.dram c
  let times := (d.corrTimes.filter (fun x => !s.elapsed x.2 (24 * hour))) ++ [(k, s.aon.now)]
  let s1 := ((s.setDram c { d with corrected := satAdd 64 d.corrected 1, corrTimes := times }).drcBit 0).rasBit 0
  if 5 ≤ bytes ∨ s.cfg 0x7801 6 ≤ (times.filter (fun x => x.1 == k)).length then s1.deviceMark p device else s1

/-- R365: DRC_ECCLOG captures the first uncorrectable code word and counts them all. -/
def State.eccCapture (s : State) (p : DramPlace) (device : Nat) : State :=
  let r := s.regs
  let cnt := satAdd 16 r.eccCount 1
  if r.eccValid then { s with regs := { r with eccCount := cnt } }
  else { s with regs := { r with
    eccCount := cnt, eccValid := true
    eccLog := p.channel % 4 + p.subch % 2 * 2 ^ 2 + p.rank % 2 * 2 ^ 3 + p.bg % 8 * 2 ^ 4 + p.bank % 4 * 2 ^ 7
      + p.row % 2 ^ 18 * 2 ^ 9 + device % 32 * 2 ^ 27 + p.column % 2 ^ 10 * 2 ^ 32 } }

/-- The failure rules of R360 for an uncorrectable code word. -/
def State.uncorrRule (s : State) (p : DramPlace) : State :=
  let d := s.dram p.channel
  if d.marks.any (fun m => m.1 == p.subch * 2 + p.rank) then s.dramFail p.channel 3
  else if 4 ≤ d.uncorrTimes.length then s.dramFail p.channel 2
  else s

/-- R300: a record of the journal tail is lost from both copies: every dirty frame is written back and a checkpoint runs. -/
def State.tailLost (s : State) : State := (s.writebackTo s.dirtyCount 0).checkpoint

/-- R375: what the requester does with a bus error. -/
def State.busError (s : State) (u : DramUser) : State :=
  match u with
  | .writeBuffer h _ => s.bothLost h
  | .mapFrame n p =>
    let s1 := (s.checkFailed n p).frameLost (pkey n p)
    if (s1.page n p).inDram || (s1.fillOf n p).isSome then s1 else s1.fillStart n p 1 false []
  | .journalTail => s.tailLost
  | .staging t => s.commitTag t (if (s.tag t).committed then ⟨0, 4⟩ else ⟨0, 6⟩)
  | .other => s

/-- The user keeps its structure in the mirrored allotment (R347). -/
def mirroredUser : DramUser → Bool
  | .mapFrame _ _ => false
  | _ => true

/-- A code word that its decoder has judged. -/
def State.dramDecode (s : State) (p : DramPlace) (code : DramCode) (mirrorGood : Bool) (user : DramUser) : State :=
  match code with
  | .clean => s
  | .corrected device bytes => s.dramCorrected p device bytes
  | .uncorrectable device =>
    let c := p.channel
    let d := s.dram c
    let s1 := ((s.setDram c { d with uncorrectable := satAdd 32 d.uncorrectable 1
                                     uncorrTimes := s.recent d.uncorrTimes hour ++ [s.aon.now] }).drcBit 1).rasReport 7 c 1 1 0
      [c, p.subch, p.rank, p.bg, p.bank, p.row, p.column, device]
    let s2 := s1.eccCapture p device
    let s3 := if mirroredUser user && mirrorGood then
        s2.setDram c { s2.dram c with mirrorRepairs := satAdd 32 (s2.dram c).mirrorRepairs 1 }
      else s2.busError user
    s3.uncorrRule p

/-- DRAM_READ_COMPLETE (R344 to R348, R356, R360, R375): each read activates its row. -/
def execDramReadComplete (place : DramPlace) (code : DramCode) (mirrorGood : Bool) (user : DramUser) (s : State) : Res :=
  .next (s.when (s.dramUp place.channel) (fun s => (s.activate place).dramDecode place code mirrorGood user))

/-! ### Training and periodic steps (R358, R359, R360) -/

/-- R359: a second failure retrains the channel at its rate. -/
def State.dramRetrain (s : State) (c : Nat) : State :=
  (s.setDram c { s.dram c with retraining := true, zqFails := 0, dqsFails := 0 }).drcBit 6

/-- ZQ_CALIBRATION_TIMER (R359). -/
def execZqCalibrationTimer (ch : Nat) (ok : Bool) (s : State) : Res :=
  .next (s.when (s.dramUp ch && !(s.dram ch).retraining) (fun s =>
    let d := s.dram ch
    if ok then s.setDram ch { d with zqFails := 0 }
    else if d.zqFails = 0 then s.setDram ch { d with zqFails := 1 }
    else s.dramRetrain ch))

/-- DQS_OSCILLATOR_TIMER (R359): the drift in sixteenths of a unit interval. -/
def execDqsOscillatorTimer (ch drift16 : Nat) (ok : Bool) (s : State) : Res :=
  .next (s.when (s.dramUp ch && !(s.dram ch).retraining) (fun s =>
    let d := s.dram ch
    if ok then s.setDram ch { d with dqsFails := 0, dqsDelay := d.dqsDelay + drift16 }
    else if d.dqsFails = 0 then s.setDram ch { d with dqsFails := 1 }
    else s.dramRetrain ch))

/-- DRAM_TRAINING_RESULT (R358 to R360): a failed training steps down; registers that disagree with the profile fail the
channel. -/
def execDramTrainingResult (ch : Nat) (pass registersAgree : Bool) (s : State) : Res :=
  .next (
    let d := s.dram ch
    if d.retraining then
      if pass && registersAgree then s.setDram ch { d with retraining := false } else s.dramFail ch 1
    else s.when (d.st == 1) (fun s =>
      if pass && registersAgree then
        let full := decide (d.rate = s.cfg 0x7800 5)
        let s1 := s.setDram ch { d with st := if full then 2 else 3 }
        if full then s1 else s1.sustainSet 6
      else if pass then s.dramFail ch 1
      else if d.rate = 6400 then s.setDram ch { d with rate := 5600 }
      else if d.rate = 5600 then s.setDram ch { d with rate := 4800 }
      else s.dramFail ch 1))

/-- DRAM_PARITY_ERROR (R360). -/
def execDramParityError (ch : Nat) (s : State) : Res :=
  .next (s.when (s.dramUp ch) (fun s =>
    let d := s.dram ch
    let ts := s.recent d.parityTimes hour ++ [s.aon.now]
    let s1 := (s.setDram ch { d with parityTimes := ts }).rasRecord 7 ch 4 1 5 []
    if 2 ≤ ts.length then s1.dramFail ch 5 else s1))

end Sys2Proof.Machine
end

