-- ==== Sys2Proof/Machine/Onchip.lean ====
section
/-! DEFINITION. On-chip memory: the merge buffer and the scrubbers (R366 to R376, R381, R382). -/

namespace Sys2Proof.Machine

/-! ### The merge buffer (R372, R373) -/

/-- The channel that holds copy A of the journal tail: that of the first pair in service. -/
def State.tailChannel (s : State) : Nat := if s.pairUp 0 then 0 else if s.pairUp 1 then 2 else (List.range 4).foldr (fun c m => if s.dramUp c then c else m) 0

/-- MERGE_HOLD_EXPIRY (R372, R373): the last line of the journal tail is read, merged and written. -/
def execMergeHoldExpiry (ch line : Nat) (find : ScrubFind) (mirrorGood : Bool) (s : State) : Res :=
  .next (s.when (s.dramUp ch && ch == s.tailChannel && s.tailMerges && line == recBytes s.jrn.tail / 64) (fun s =>
    let s1 := { s with jrn := { s.jrn with merged := s.tailMark } }
    let d := s1.dram ch
    match find with
    | .clean => s1
    | .corrected => ((s1.setDram ch { d with corrected := satAdd 64 d.corrected 1 }).drcBit 0).rasBit 0
    | .uncorrectable =>
      let s2 := ((s1.setDram ch { d with uncorrectable := satAdd 32 d.uncorrectable 1 }).drcBit 1).rasBit 1
      if mirrorGood then s2.setDram ch { s2.dram ch with mirrorRepairs := satAdd 32 (s2.dram ch).mirrorRepairs 1 }
      else { s2 with chip := { s2.chip with partialRefused := satAdd 32 s2.chip.partialRefused 1 } }.tailLost))

/-! ### Scrubbers (R366, R369, R371, R374, R376) -/

/-- The scrubber of an array: its number and the lines it covers. DRAM subchannels follow from 64. -/
def scrubber : SramArray → Nat × Nat
  | .tagStore => (0, 262144)
  | .streamBuffer b => (1 + b % 4, 196608)
  | .engineMemory c => (5 + c % 16, 65536)
  | .lineCache => (21, 131072)
  | .cmb p => (22 + p % 2, 32768)
  | .descriptorQueues k => (24 + k % 24, 65536 / 24)

/-- The longest last lap of the scrubbers that a test selects. -/
def State.longestLap (s : State) (p : Nat → Bool) : Nat := (s.chip.lastLap.filter (fun x => p x.1)).foldl (fun m x => max m x.2) 0

/-- One step of scrubber k, which covers so many lines: a lap that ends is timed. -/
def State.scrubStep (s : State) (k lines : Nat) : State :=
  let c := s.chip
  let n := Tbl.get 0 c.scrubSteps k
  let c1 := { c with lastStep := Tbl.set 0 c.lastStep k s.aon.now, scrubSteps := Tbl.set 0 c.scrubSteps k (n + 1)
                     lapStart := if n = 0 then Tbl.set 0 c.lapStart k s.aon.now else c.lapStart }
  if n + 1 < lines then { s with chip := c1 }
  else
    let t := s.aon.now - Tbl.get 0 c1.lapStart k
    let s1 := { s with chip := { c1 with scrubSteps := Tbl.set 0 c1.scrubSteps k 0, lastLap := Tbl.set 0 c1.lastLap k t
                                         lapLate := c1.lapLate || decide (s.cfg 0x7900 6 * hour < t) } }
    { s1 with chip := { s1.chip with sramLapMs := min (s1.longestLap (fun k => decide (k < 64)) / msec) (2 ^ 32 - 1)
                                     dramLapS := min (s1.longestLap (fun k => decide (64 ≤ k)) / Machine.sec) (2 ^ 32 - 1) } }

/-- A scrubber may take a step: enabled, its least time has passed, and its island runs. -/
def State.scrubMay (s : State) (k sub : Nat) : Bool :=
  s.awake && s.cfgB 0x7900 5 && (Tbl.get 0 s.chip.lastStep k == 0 || s.elapsed (Tbl.get 0 s.chip.lastStep k) (s.cfg 0x7900 sub))

def State.arrayRuns (s : State) : SramArray → Bool
  | .engineMemory c => decide ((s.island c).st = .running)
  | _ => true

/-- R371, R374: a corrected word is written back, unless a later write reached it. -/
def State.writeBack (s : State) (overwritten : Bool) : State :=
  if overwritten then { s with chip := { s.chip with writebackCancelled := satAdd 64 s.chip.writebackCancelled 1 } } else s

/-- R369: a correction at a word of an element; the third distinct word within 24 hours, or a word corrected again after its
write-back, makes the element fail. -/
def State.sramCorrect (s : State) (m el word : Nat) (overwritten : Bool) : State :=
  let c := s.chip
  let again := c.correctedWords.any (fun x => x.1 == m && x.2.1 == el && x.2.2.1 == word * 2)
  let mine := c.correctedWords.filter (fun x => x.1 == m && x.2.1 == el && !s.elapsed x.2.2.2 (24 * hour))
  let words := (word :: mine.map (fun x => x.2.2.1 / 2)).dedup
  let s1 := { s with chip := { c with sramCorrected := satAdd 64 c.sramCorrected 1
                                      correctedWords := c.correctedWords ++ [(m, el, word * 2 + boolNat overwritten, s.aon.now)] } }
  let s2 := (s1.writeBack overwritten).rasBit 0
  if again || decide (3 ≤ words.length) then s2.elementFail m el else s2

/-- R18: a corrected error in an engine's local memory; the third within an hour fails the engine. -/
def State.engineCorrected (s : State) (e : Nat) : State :=
  let ts := s.recent (s.engine e).corrected hour ++ [s.aon.now]
  let s1 := s.setEngine e { s.engine e with corrected := ts }
  if 3 ≤ ts.length ∧ (s.engine e).failed = false then s1.engineFail e else s1

/-- R375: what an uncorrectable word of an array does to its user. -/
def State.sramLost (s : State) (a : SramArray) (word : Nat) : State :=
  match a with
  | .tagStore => s.commitTag (word / 8) ⟨0, 6⟩
  | .engineMemory c =>
    let e := c % 16 * 8 + word / 65536 % 8
    if (s.engine e).failed then s else s.engineFail e
  | .cmb p => s.setPort (p % 2) { s.port (p % 2) with cmbMarked := Tbl.set false (s.port (p % 2)).cmbMarked (word / 8) true }
  | .lineCache => { s with map := { s.map with checkFails := satAdd 32 s.map.checkFails 1 } }
  | _ => s

/-- SRAM_SCRUB_STEP (R18, R369 to R371, R374 to R376, R381): `elem` is the row, or 65,536 and the column, that the scrubbed
word lies in. -/
def execSramScrubStep (arr : SramArray) (elem word : Nat) (find : ScrubFind) (overwritten : Bool) (s : State) : Res :=
  let s0 := s.boundary 0x7900
  let k := scrubber arr
  .next (s0.when (s0.scrubMay k.1 3 && s0.arrayRuns arr) (fun s =>
    let s1 := s.scrubStep k.1 k.2
    let m := macroOf arr word
    match find with
    | .clean => s1
    | .corrected =>
      let s2 := s1.sramCorrect m elem word overwritten
      match arr with
      | .engineMemory c => s2.engineCorrected (c % 16 * 8 + word / 65536 % 8)
      | _ => s2
    | .uncorrectable =>
      let s2 := { s1 with chip := { s1.chip with sramUncorr := satAdd 32 s1.chip.sramUncorr 1 } }.rasReport 6 m 1 1 0 [elem, word]
      (s2.elementFail m elem).sramLost arr word))

/-- DRAM_SCRUB_STEP (R371, R374 to R376, R381). -/
def execDramScrubStep (place : DramPlace) (code : DramCode) (mirrorGood : Bool) (user : DramUser) (overwritten : Bool)
    (s : State) : Res :=
  let s0 := s.boundary 0x7900
  let k := 64 + place.channel * 2 + place.subch
  .next (s0.when (s0.dramUp place.channel && s0.scrubMay k 4) (fun s =>
    let s1 := (s.scrubStep k (s.dramPerChannel * 2 ^ 30 / 128)).dramDecode place code mirrorGood user
    match code with
    | .corrected _ _ => s1.writeBack overwritten
    | _ => s1))

end Sys2Proof.Machine
end

