-- ==== Sys2Proof/Machine/Mgmt.lean ====
section
/-! DEFINITION. The management ports (R406 to R418): the two-wire bus, MCTP, NVMe-MI, SPDM sessions, the field network and
telemetry. -/

namespace Sys2Proof.Machine

/-! ### Paths (R406, R408) -/

/-- The number of a path's MCTP endpoint. -/
def MPath.code : MPath → Nat
  | .twoWire => 0
  | .vdm p => 1 + p
  | .fieldNet => 3

/-- A path is served: aux power is within range, and a VDM path has its link. -/
def State.pathUp (s : State) (m : MPath) : Bool :=
  decide (s.mode.base ≠ .unpowered) &&
    (match m with
     | .twoWire => true
     | .vdm p => s.awake && (s.port p).linkUp
     | .fieldNet => s.mgmt.t1sUp)

/-- A path that carries MCTP. -/
def State.mctpUp (s : State) (m : MPath) : Bool := s.pathUp m && decide (m ≠ .fieldNet)

/-! ### The two-wire bus (R407) -/

/-- SET_DYNAMIC_ADDRESS: ENTDAA or SETDASA. -/
def execSetDynamicAddress (addr : Nat) (s : State) : Res :=
  .next (s.when (s.pathUp .twoWire) (fun s => { s with mgmt := { s.mgmt with i3c := true, dynAddr := addr } }))

/-- RESET_DYNAMIC_ADDRESS: RSTDAA. -/
def execResetDynamicAddress (s : State) : Res :=
  .next (s.when (s.pathUp .twoWire && s.mgmt.i3c) (fun s => { s with mgmt := { s.mgmt with i3c := false, dynAddr := 0 } }))

/-! ### MCTP (R408) -/

/-- A message or packet is dropped and counted at 8830h.02. -/
def State.mctpDrop (s : State) : State :=
  { s with mgmt := { s.mgmt with mctpDrops := satAdd 32 s.mgmt.mctpDrops 1 } }.mgtBit 3

/-- The message types of R408. -/
def mctpTypes : List Nat := [0x00, 0x04, 0x05, 0x06, 0x7E]

/-- The most payload bytes of a packet. -/
def State.packetLimit (s : State) (m : MPath) : Nat :=
  match m with
  | .twoWire => if s.mgmt.i3c then 256 else 64
  | _ => 256

/-- The message that a packet belongs to. -/
def sameMessage (p : McPacket) (r : Reasm) : Bool := decide (r.path = p.path) && r.source == p.source && r.msgTag == p.msgTag

/-- A packet's message without it. -/
def State.reasmDrop (s : State) (p : McPacket) : State :=
  { s with mgmt := { s.mgmt with reasm := s.mgmt.reasm.filter (fun r => !sameMessage p r) } }

/-- A message has grown by a packet: it ends, waits for more, or is too long. -/
def State.mctpGrow (s : State) (p : McPacket) (r : Reasm) : State :=
  let s1 := s.reasmDrop p
  if 4224 < r.data.length then s1.mctpDrop
  else if p.eom then s1.emit (.mgmt p.path "message received" r.msgType)
  else { s1 with mgmt := { s1.mgmt with reasm := s1.mgmt.reasm ++ [r] } }

/-- MCTP_PACKET (R407, R408). -/
def execMctpPacket (p : McPacket) (s : State) : Res :=
  .next (s.when (s.mctpUp p.path) (fun s =>
    let mine := s.mgmt.reasm.filter (fun r => decide (r.path = p.path))
    let old := mine.find? (sameMessage p)
    let noEid := Tbl.get 0 s.mgmt.eids (MPath.code p.path) == 0
    if decide (s.packetLimit p.path < p.bytes.length) then s.mctpDrop
    else if noEid && !(p.msgType == 0 && p.nullEid) then s.mctpDrop
    else if p.som then
      if !mctpTypes.contains p.msgType then s.mctpDrop
      else if old.isNone && decide (4 ≤ mine.length) then s.mctpDrop
      else s.mctpGrow p ⟨p.path, p.source, p.msgTag, p.msgType, p.bytes⟩
    else match old with
      | some r => s.mctpGrow p { r with data := r.data ++ p.bytes }
      | none => s.mctpDrop))

/-- SET_ENDPOINT_ID (R408): identifiers 8 to 254 are assigned. (PRESUMED, log entry 86) -/
def execSetEndpointId (path : MPath) (eid : Nat) (s : State) : Res :=
  .next (s.when (s.mctpUp path) (fun s =>
    if 8 ≤ eid ∧ eid ≤ 254 then
      { s with mgmt := { s.mgmt with eids := Tbl.set 0 s.mgmt.eids (MPath.code path) eid } }.emit (.mgmt path "Set Endpoint ID" eid)
    else s.emit (.mgmt path "Set Endpoint ID: invalid data" eid)))

/-- GET_MESSAGE_TYPE_SUPPORT (R408): the count of types and the types, as bytes. -/
def execGetMessageTypeSupport (path : MPath) (s : State) : Res :=
  .next (s.when (s.mctpUp path) (fun s =>
    s.emit (.mgmt path "Get Message Type Support" (fromLe ((mctpTypes.length :: mctpTypes).map (fun n => BitVec.ofNat 8 n))))))

/-! ### NVMe-MI (R409) -/

/-- READ_NVME_MI_DATA_STRUCTURE: kind 2 is the controller list (R147); the NVMe-MI specification gives the others, and their
contents are free values. -/
def execReadNvmeMiDataStructure (path : MPath) (kind : Nat) (s : State) : Res :=
  .next (s.when (s.mctpUp path) (fun s =>
    let ids := s.boundSlices.map (fun n => n + 1)
    s.emit (.mgmt path "NVMe-MI data structure"
      (if kind = 2 then fromLe (leBytes 2 ids.length ++ (ids.map (fun k => leBytes 2 k)).flatten) else Config.nvmeField 16 kind))))

/-- SUBSYSTEM_HEALTH_STATUS_POLL: the critical warnings, Percentage Used, and the composite controller status. -/
def execSubsystemHealthStatusPoll (path : MPath) (s : State) : Res :=
  .next (s.when (s.mctpUp path) (fun s =>
    s.emit (.mgmt path "subsystem health" (s.critical + min s.percentUsed 255 * 2 ^ 8 + s.mgmt.healthChange * 2 ^ 16))))

/-- A controller of R147 is present. -/
def State.ctrlHere (s : State) (c : Nat) : Bool := decide (c ≠ 0) && decide ((s.slice (c - 1)).st.isBound)

/-- CONTROLLER_HEALTH_STATUS_POLL: the controller's CSTS and the critical warnings. -/
def execControllerHealthStatusPoll (path : MPath) (ctrl : Nat) (s : State) : Res :=
  .next (s.when (s.mctpUp path) (fun s =>
    if s.ctrlHere ctrl then
      s.emit (.mgmt path "controller health" (s.csts (s.slPort (ctrl - 1)) (s.slFn (ctrl - 1)) + s.critical * 2 ^ 8))
    else s.emit (.mgmt path "controller health: invalid parameter" ctrl)))

/-- CONFIGURATION_GET: item 1 is the SMBus frequency (1 is 100 kHz, 2 is 400 kHz), 2 the health status change, 3 the MCTP
transmission unit. -/
def execConfigurationGet (path : MPath) (item : Nat) (s : State) : Res :=
  .next (s.when (s.mctpUp path) (fun s =>
    match item with
    | 1 => s.emit (.mgmt path "SMBus frequency" s.mgmt.smbusFreq)
    | 2 => s.emit (.mgmt path "health status change" s.mgmt.healthChange)
    | 3 => s.emit (.mgmt path "transmission unit" (Tbl.get 64 s.mgmt.mtu (MPath.code path)))
    | _ => s.emit (.mgmt path "configuration: invalid parameter" item)))

/-- CONFIGURATION_SET: a health status change clears the bits named. -/
def execConfigurationSet (path : MPath) (item value : Nat) (s : State) : Res :=
  .next (s.when (s.mctpUp path) (fun s =>
    let bad := s.emit (.mgmt path "configuration: invalid parameter" item)
    let done (s : State) : State := s.emit (.mgmt path "configuration set" item)
    match item with
    | 1 => if value = 1 ∨ value = 2 then done { s with mgmt := { s.mgmt with smbusFreq := value } } else bad
    | 2 => done { s with mgmt := { s.mgmt with healthChange := s.mgmt.healthChange - (s.mgmt.healthChange &&& value) } }
    | 3 =>
      if 64 ≤ value ∧ value ≤ s.packetLimit path then
        done { s with mgmt := { s.mgmt with mtu := Tbl.set 64 s.mgmt.mtu (MPath.code path) value } }
      else bad
    | _ => bad))

/-- NVME_MI_RESET (R99, R409): an NVM Subsystem Reset. -/
def execNvmeMiReset (path : MPath) (s : State) : Res :=
  .next (s.when (s.mctpUp path && s.awake) (fun s =>
    let s1 := s.emit (.mgmt path "Reset" 0)
    let s2 := s1.portReset 0 5 false
    if s2.dual then s2.portReset 1 5 false else s2))

/-- The lowest tag that no command holds. (DESIGN CHOICE, log entry 38) -/
def State.freeTagNo (s : State) : Nat :=
  ((List.range (s.tags.length + 1)).find? (fun t => decide ((s.tag t).st = .free))).getD 0

/-- The admin opcodes that the Monitor role may send (R409). -/
def miMonitor (op : Nat) : Bool := op == 0x02 || op == 0x06 || op == 0x0A

/-- NVME_MI_ADMIN_COMMAND (R39, R409): the command takes a tag of its own and runs with the rights of a physical function's
admin queue; the answer goes to the path. -/
def execNvmeMiAdminCommand (path : MPath) (session : Option Nat) (ctrl : Nat) (e : Sqe) (s : State) : Res :=
  .next (s.when (s.mctpUp path && s.awake) (fun s =>
    let role := s.roleOf (.mctp path session)
    let may := match role with
      | .monitor => miMonitor e.opcode
      | _ => adminOpcode true e.opcode
    if role = .nobody then { s with ras := { s.ras with noRoleDrops := s.ras.noRoleDrops + 1 } }
    else if !may || !s.ctrlHere ctrl then s.emit (.mgmt path "admin status" 1)
    else
      let n := ctrl - 1
      s.setTag s.freeTagNo { st := .build, slice := n, gen := (s.slice n).gen, q := .page n 0, sqe := e, admin := true
                             mi := some path, manager := true, fenced := false, order := s.cmds.nextOrder }))

/-! ### SPDM (R410, R411, R425, R426) -/

/-- An SPDM answer on a path. -/
def State.spdm (s : State) (m : MPath) (what : String) (v : Nat) : State := s.emit (.mgmt m what v)
def State.spdmError (s : State) (m : MPath) (code : Nat) : State := s.spdm m "ERROR" code

/-- GET_VERSION: version 1.2 alone. -/
def execGetVersion (path : MPath) (s : State) : Res :=
  .next (s.when (s.pathUp path) (fun s => s.spdm path "VERSION" 0x12))

/-- GET_CAPABILITIES: the flags are the SPDM specification's form of R410's table, a free value. -/
def execGetCapabilities (path : MPath) (s : State) : Res :=
  .next (s.when (s.pathUp path) (fun s => s.spdm path "CAPABILITIES" (fromLe (Config.spdmBytes 0x61 0))))

/-- NEGOTIATE_ALGORITHMS: the one set of R410. -/
def execNegotiateAlgorithms (path : MPath) (s : State) : Res :=
  .next (s.when (s.pathUp path) (fun s =>
    { s with mgmt := { s.mgmt with negotiated := Tbl.set false s.mgmt.negotiated (MPath.code path) true } }.spdm path "ALGORITHMS"
      (fromLe (Config.spdmBytes 0x63 0))))

/-- The chain of slot 0: the device identity with the Alias certificate in force (R425). -/
def State.chainBytes (s : State) : List Byte := leBytes 8 Config.deviceChain ++ leBytes 8 s.sec.aliasNo

/-- GET_DIGESTS (R425). -/
def execGetDigests (path : MPath) (s : State) : Res :=
  .next (s.when (s.pathUp path) (fun s => s.spdm path "DIGESTS" (Config.digest s.chainBytes)))

/-- GET_CERTIFICATE (R410, R425): slot 0 only. -/
def execGetCertificate (path : MPath) (slot : Nat) (s : State) : Res :=
  .next (s.when (s.pathUp path) (fun s =>
    if slot = 0 then s.spdm path "CERTIFICATE" (fromLe s.chainBytes) else s.spdmError path 1))

/-- CHALLENGE (R410). -/
def execChallenge (path : MPath) (s : State) : Res :=
  .next (s.when (s.pathUp path) (fun s => s.spdm path "CHALLENGE_AUTH" (Config.digest s.chainBytes)))

/-- The image in force, and the image of a slot. -/
def State.slotImage (s : State) (k : Nat) : Option FwImage := if k = 1 then s.sec.slot1 else if k = 2 then s.sec.slot2 else none
def State.imageNow (s : State) : Option FwImage := s.slotImage s.sec.slotInForce

/-- The bytes of a record as a role's whole-record read gives them. -/
def State.wholeRecord (s : State) (i : Nat) : List Byte := (s.packRecord 0 .monitor i).1

/-- A measurement block of R426. -/
def State.measurement (s : State) (k : Nat) : Nat :=
  match k with
  | 1 => Config.romDigest
  | 2 => (s.imageNow.map (fun m => m.digest)).getD 0
  | 3 => (s.imageNow.map (fun m => m.svn)).getD 0 + s.sec.minSvn * 2 ^ 32
  | 4 => s.lifecycle + fromLe (s.sec.fuses.map (fun e => BitVec.ofNat 8 e)) * 2 ^ 8
  | 5 => Config.digest (s.wholeRecord 0x9000 ++ s.wholeRecord 0x9100 ++ s.wholeRecord 0x8802)
  | 6 => Config.digest (s.wholeRecord 0x6400)
  | _ => s.sec.actState + (if s.sec.actState = 0 then 0 else (((s.slotImage s.sec.actSlot).map (fun m => m.digest)).getD 0) * 2 ^ 8)

/-- GET_MEASUREMENTS (R426): index 0 asks for the number of blocks and FFh for all of them. -/
def execGetMeasurements (path : MPath) (index : Nat) (s : State) : Res :=
  .next (s.when (s.pathUp path) (fun s =>
    if index = 0 then s.spdm path "MEASUREMENTS" 7
    else if index ≤ 7 then s.spdm path "MEASUREMENTS" (s.measurement index)
    else if index = 0xFF then s.forEach [1, 2, 3, 4, 5, 6, 7] (fun k s => s.spdm path "MEASUREMENTS" (s.measurement k))
    else s.spdmError path 1))

/-- KEY_EXCHANGE (R411, R428): at most 8 sessions, 4 on one path. -/
def execKeyExchange (path : MPath) (peer : Nat) (s : State) : Res :=
  .next (s.when (s.pathUp path) (fun s =>
    let l := s.mgmt.sessions
    if s.lifecycle = 5 ∨ Tbl.get false s.mgmt.negotiated (MPath.code path) = false then s.spdmError path 4
    else if 8 ≤ l.length ∨ 4 ≤ (l.filter (fun x => decide (x.path = path))).length then s.spdmError path 0x0A
    else
      { s with mgmt := { s.mgmt with sessions := l ++ [(⟨s.mgmt.nextSession, path, peer, 0, false, s.aon.now, 0⟩ : Session)]
                                     nextSession := s.mgmt.nextSession + 1 } }.spdm path "KEY_EXCHANGE_RSP" s.mgmt.nextSession))

/-- A session of a path, open or being opened. -/
def State.sessionOn (s : State) (m : MPath) (k : Nat) (opened : Bool) : Bool :=
  s.mgmt.sessions.any (fun x => x.id == k && decide (x.path = m) && x.opened == opened)

/-- A change of one session, which has carried a message. -/
def State.sessionSet (s : State) (k : Nat) (f : Session → Session) : State :=
  { s with mgmt := { s.mgmt with sessions := s.mgmt.sessions.map (fun x =>
      if x.id = k then { f x with lastMsg := s.aon.now } else x) } }

/-- FINISH (R411): the requester's chain decides the role; a stranger opens no session. -/
def execFinish (path : MPath) (session : Nat) (chain : Chain) (s : State) : Res :=
  .next (s.when (s.pathUp path && s.sessionOn path session false) (fun s =>
    match chain with
    | .stranger =>
      ({ s with mgmt := { s.mgmt with sessions := s.mgmt.sessions.filter (fun x => x.id != session)
                                      authFails := satAdd 32 s.mgmt.authFails 1 } }.mgtBit 2).spdmError path 6
    | c => ((s.sessionSet session (fun x => { x with opened := true, role := if c = Chain.maker then 3 else 2 })).mgtBit 0).spdm path
        "FINISH_RSP" session))

/-- HEARTBEAT (R411). -/
def execHeartbeat (path : MPath) (session : Nat) (s : State) : Res :=
  .next (s.when (s.pathUp path && s.sessionOn path session true) (fun s =>
    (s.sessionSet session (fun x => x)).spdm path "HEARTBEAT_ACK" session))

/-- KEY_UPDATE (R410). -/
def execKeyUpdate (path : MPath) (session : Nat) (s : State) : Res :=
  .next (s.when (s.pathUp path && s.sessionOn path session true) (fun s =>
    (s.sessionSet session (fun x => { x with keyNo := x.keyNo + 1 })).spdm path "KEY_UPDATE_ACK" session))

/-- END_SESSION (R411). -/
def execEndSession (path : MPath) (session : Nat) (s : State) : Res :=
  .next (s.when (s.pathUp path && s.sessionOn path session true) (fun s =>
    (s.sessionsEnd (fun x => x.id == session)).spdm path "END_SESSION_ACK" session))

/-- SESSION_IDLE_TIMEOUT (R411): 180 s without a message. -/
def execSessionIdleTimeout (session : Nat) (s : State) : Res :=
  .next (s.when (s.mgmt.sessions.any (fun x => x.id == session && s.elapsed x.lastMsg (180 * sec)))
    (fun s => s.sessionsEnd (fun x => x.id == session)))

/-! ### The field network (R413) -/

/-- The link-local address: fe80::/64 with the modified EUI-64 of the MAC address. -/
def linkLocalAddr : Nat :=
  let m := Config.macAddress % 2 ^ 48
  0xFE80 * 2 ^ 112 + ((m / 2 ^ 24) ^^^ 0x020000) * 2 ^ 40 + 0xFFFE * 2 ^ 24 + m % 2 ^ 24

/-- The static address, 0 for none. -/
def State.staticAddr (s : State) : Nat := fromLe (s.cfgBytes 0x8810 5).reverse

/-- An address of the port. -/
def State.ownAddr (s : State) (a : Nat) : Bool := (s.mgmt.linkLocal && a == linkLocalAddr) || (a != 0 && a == s.staticAddr)

/-- NEIGHBOR_SOLICITATION. -/
def execNeighborSolicitation (target : Nat) (s : State) : Res :=
  .next (s.when (s.pathUp .fieldNet) (fun s => if s.ownAddr target then s.emit (.ndp target) else s))

/-- ECHO_REQUEST. -/
def execEchoRequest (target : Nat) (payload : List Byte) (s : State) : Res :=
  .next (s.when (s.pathUp .fieldNet) (fun s => if s.ownAddr target then s.emit (.echo target payload) else s))

/-- T1S_LINK_UP: `unique` is the result of duplicate address detection. -/
def execT1sLinkUp (unique : Bool) (s : State) : Res :=
  .next (s.when (decide (s.mode.base ≠ .unpowered) && !s.mgmt.t1sUp) (fun s =>
    { s with mgmt := { s.mgmt with t1sUp := true, plcaActive := s.cfgB 0x8810 2, linkLocal := unique } }))

/-- T1S_LINK_DOWN. -/
def execT1sLinkDown (s : State) : Res :=
  .next (s.when s.mgmt.t1sUp (fun s => { s with mgmt := { s.mgmt with t1sUp := false, plcaActive := false, linkLocal := false } }))

/-! ### Telemetry (R415, R416) -/

/-- The destination of a subscription, 0 for none. -/
def State.telemDest (s : State) (k : Nat) : Nat := fromLe (s.cfgBytes (0x8820 + k) 1).reverse

/-- The indices of a list of two-byte items. -/
def indexList : List Byte → List Nat
  | a :: b :: t => (a.toNat + 256 * b.toNat) :: indexList t
  | _ => []

/-- The datagrams of one record: its packed bytes in runs of 1,024. -/
def recordFrames (req i : Nat) (data : List Byte) : List (List Byte) :=
  (List.range (max 1 (ceilDiv data.length 1024))).map (fun k =>
    respFrame { op := 3, final := false, reqId := req, index := i, sub := 0xFF, ty := 0, offset := 1024 * k, length := 0, value := [] }
      { value := (data.drop (1024 * k)).take 1024 })

/-- Send one datagram within the limits of R416; the answer is whether it went out. (DEDUCED, log entry 87) -/
def State.telemSend (s : State) (k dest port : Nat) (frame : List Byte) : State × Bool :=
  let x := Tbl.get {} s.mgmt.telem k
  let fresh := s.elapsed x.secondAt Machine.sec
  let x := if fresh then { x with secondAt := s.aon.now, sentBytes := 0, sentGrams := 0 } else x
  let all := s.elapsed s.mgmt.telemSecond Machine.sec
  let dev := if all then 0 else s.mgmt.telemBytes
  let n := frame.length
  if 200 ≤ x.sentGrams ∨ 65536 < x.sentBytes + n ∨ 262144 < dev + n then (s, false)
  else
    ({ s with mgmt := { s.mgmt with
        telem := Tbl.set {} s.mgmt.telem k { x with sentBytes := x.sentBytes + n, sentGrams := x.sentGrams + 1 }
        telemSecond := if all then s.aon.now else s.mgmt.telemSecond, telemBytes := dev + n } }.emit (.udp dest port frame), true)

/-- Push a subscription's list; a push that would exceed a limit is cut short. -/
def State.telemPush (s : State) (k : Nat) : State :=
  let i := 0x8820 + k
  let dest := s.telemDest k
  let secure := s.cfgB i 6
  let open_ := s.mgmt.sessions.filter (fun x => x.opened && decide (x.path = .fieldNet) && x.peer == dest)
  if dest = 0 || (secure && open_.isEmpty) then s
  else
    let role := if !secure then Role.monitor else if open_.any (fun x => x.role == 3) then Role.maker else Role.manager
    let x := Tbl.get {} s.mgmt.telem k
    let req := 2 ^ 31 + x.seq % 2 ^ 31
    let ids := (indexList (s.cfgBytes i 3)).filter (fun j =>
      (s.indexRefused role j).isNone && (decide (s.mode.base ≠ .dormant) || dormantReads j))
    let frames := (ids.map (fun j => recordFrames req j (s.packRecord 0 role j).1)).flatten
    let s1 := { s with mgmt := { s.mgmt with telem := Tbl.set {} s.mgmt.telem k { x with seq := x.seq + 1 } } }
    let go := frames.foldl (fun (acc : State × Bool) f => if acc.2 then acc.1.telemSend k dest (s.cfg i 2) f else acc) (s1, true)
    if go.2 then go.1
    else
      let y := Tbl.get {} go.1.mgmt.telem k
      { go.1 with mgmt := { go.1.mgmt with telem := Tbl.set {} go.1.mgmt.telem k { y with skipped := satAdd 32 y.skipped 1 } } }.mgtBit 4

/-- TELEMETRY_PERIOD (R415, R416). -/
def execTelemetryPeriod (k : Nat) (s : State) : Res :=
  let s0 := s.boundary (0x8820 + k)
  .next (s0.when (decide (k < 4) && s0.pathUp .fieldNet && s0.cfg (0x8820 + k) 4 != 0) (fun s => s.telemPush k))

/-- TELEMETRY_EVENT_PUSH (R415): at most one event push a second. -/
def execTelemetryEventPush (k : Nat) (s : State) : Res :=
  let x := Tbl.get {} s.mgmt.telem k
  let due := match x.lastEventPush with
    | some t => s.elapsed t sec
    | none => true
  .next (s.when (decide (k < 4) && s.pathUp .fieldNet && s.cfgB (0x8820 + k) 5 && x.pendingEvent && due) (fun s =>
    let y : Telem := { x with pendingEvent := false, lastEventPush := some s.aon.now }
    { s with mgmt := { s.mgmt with telem := Tbl.set {} s.mgmt.telem k y } }.telemPush k))

end Sys2Proof.Machine
end

