-- ==== Sys2Proof/Machine/FlowOps.lean ====
section
/-! DEFINITION. The life of a command between its plan and its completion: segments and their steps (R11, R13, R122, R125),
the movement of its data (R93, R94, R134), its commit point (R29, R123, R196, R201, R290) and the completion of its steps. -/

namespace Sys2Proof.Machine

/-! ### Transform jobs (R335) -/

def Sqe.outLimit (e : Sqe) : Nat := e.cdw2 % 2 ^ 25
def Sqe.inLen (e : Sqe) : Nat := e.cdw11 % 2 ^ 25
def Tag.isJob (x : Tag) : Bool := !x.admin && x.sqe.opcode == 0xC0
/-- The address of a byte of a job's output buffer, by its own PRPs. -/
def Tag.outAddr (x : Tag) (i : Nat) : Nat :=
  Sqe.addrAt { x.sqe with psdt := 0, prp1 := x.sqe.cdw12 + x.sqe.cdw13 * 2 ^ 32, prp2 := x.sqe.cdw14 + x.sqe.cdw15 * 2 ^ 32 } x.outSg i

/-! ### Segments (R13) -/

/-- Blocks of one segment. -/
def Tag.segSize (x : Tag) : Nat := if x.sqe.opcode = 0x19 ∨ x.isJob = true then 4 else 8
/-- The segments of a plan. -/
def Tag.segCount (x : Tag) : Nat := (x.plan.getLast?.map (fun p => p.seg + 1)).getD 1
/-- The blocks of a segment. -/
def Tag.segBlocks (x : Tag) (k : Nat) : List Nat :=
  (List.range (min x.segSize (x.blocks - k * x.segSize))).map (fun i => k * x.segSize + i)

/-- A plan: steps of each segment of `n` blocks, then the steps that only the last segment has. -/
def planOf (each : List StepKind) (n size : Nat) (last : List StepKind) : List PStep :=
  let c := max 1 (ceilDiv n size)
  (List.range c).flatMap (fun k => each.map (fun x => (⟨k, x⟩ : PStep))) ++ last.map (fun x => ⟨c - 1, x⟩)

/-! ### Host data of a command (R93, R115, R134) -/

/-- Max_Read_Request_Size and Max_Payload_Size, in bytes. -/
def Func.readMost (x : Func) : Nat := min 4096 (128 * 2 ^ x.mrrs)
def Func.writeMost (x : Func) : Nat := min 512 (128 * 2 ^ x.mps)

/-- Bytes of host data of a block of a command. -/
def Tag.blkBytes (x : Tag) (b : Nat) : Nat := if x.isJob then min 4096 (Sqe.inLen x.sqe - 4096 * b) else 4096

/-- The address of a byte of a command's metadata buffer. -/
def Tag.infoAddr (x : Tag) (i : Nat) : Nat := (x.infoAt.getD x.sqe.mptr) + i

/-- Ask for the host data of a segment, and for its metadata. -/
def State.askBlocks (s : State) (t k : Nat) : State :=
  let x := s.tag t
  let pf := s.qfunc x.q
  let f := s.func pf.1 pf.2
  let m := if x.isJob then 0 else s.infoMoved t
  let ask (s : State) (use : DmaUse) (addr len : Nat) : State :=
    s.dmaAsk { port := pf.1, fn := pf.2, pasid := s.qpasid x.q, addr := addr, len := len, use := some use }
  let s1 := s.forEach (x.segBlocks k) (fun b s =>
    s.forEach (pieces (x.sqe.addrAt x.sg) f.readMost 4096 (4096 * b) (x.blkBytes b)) (fun p s =>
      ask s (.blockData t b (p.1 - 4096 * b)) p.2.1 p.2.2))
  s1.forEach (pieces x.infoAddr f.readMost 4096 (m * (k * x.segSize)) (m * (x.segBlocks k).length)) (fun p s =>
    ask s (.infoData t p.1) p.2.1 p.2.2)

/-- A byte of gathered pieces. -/
def partByte (l : List (Nat × List Byte)) (i : Nat) : Option Byte :=
  l.findSome? (fun p => if p.1 ≤ i then p.2[i - p.1]? else none)

/-- The metadata of a block, once it is whole. -/
def State.infoOf (s : State) (t b : Nat) : Option (List Byte) :=
  let m := s.infoMoved t
  (List.range m).mapM (fun i => partByte (s.tag t).infoParts (m * b + i))

/-- A block whose host data and metadata are whole goes on: a write to its check, a Compare to wait for the stored block, a
job's block to its lane. -/
def State.blockTry (s : State) (t b : Nat) : State :=
  let x := s.tag t
  let r := s.blk t b
  if r.arrived || (r.parts.map (fun p => p.2.length)).sum != x.blkBytes b then s
  else if x.isJob then s.setBlk t b { r with data := joinParts r.parts, parts := [], arrived := true }
  else match s.infoOf t b with
    | none => s
    | some info =>
      if x.sqe.opcode = 0x05 then s.setBlk t b { r with arrived := true } else s.blockIn t b (joinParts r.parts) info

/-- Host data of a block has arrived. -/
def State.partIn (s : State) (t b off : Nat) (data : List Byte) : State :=
  (s.setBlk t b { s.blk t b with parts := (s.blk t b).parts ++ [(off, data)] }).blockTry t b

/-- Host metadata has arrived. -/
def State.infoIn (s : State) (t off : Nat) (data : List Byte) : State :=
  let s1 := s.setTag t { s.tag t with infoParts := (s.tag t).infoParts ++ [(off, data)] }
  s1.forEach (List.range (s1.tag t).blocks) (fun b s => if (s.blk t b).parts.isEmpty then s else s.blockTry t b)

/-! ### Stored data of a command (R28, R218, R325, R328, R442) -/

/-- The metadata of a deallocated block (R218): with protection information the guard of its zero data and tags of ones. The
manual gives no other metadata; it is a free value. (DESIGN CHOICE, log entry 49) -/
def State.zeroInfo (s : State) (n : Nat) : List Byte :=
  let m := s.infoBytes n
  if m = 0 then []
  else if s.piType n = 0 then (List.range m).map (fun i => BitVec.ofNat 8 (Config.nvmeField 9 i))
  else beBytes (guardBytes m) (guardOf m (List.replicate 4096 0#8)) ++ beBytes 2 0xFFFF ++ beBytes (refBytes m) (256 ^ refBytes m - 1)

/-- Feature 05h of the slice's controller sets DULBE for a namespace. -/
def State.dulbe (s : State) (c n : Nat) : Bool := ((Tbl.get none (s.ctrl c).features (5 * 65536 + n)).getD 0).testBit 16

/-- A block that does not come from flash: its buffer copy, zeros, or no data. A coded block without a lane left is
unrecovered for this command (R445). -/
def State.fillBlock (s : State) (t b : Nat) : State :=
  let x := s.tag t
  let r := s.blk t b
  let fail (s : State) (sct sc : Nat) : State := (s.setBlk t b { s.blk t b with failed := true }).commitTag t ⟨sct, sc⟩
  if r.ready || r.failed || !r.coded.isEmpty then s
  else
    match r.src with
    | .zeros =>
      if s.dulbe x.slice x.sqe.nsid && x.sqe.opcode != 0x19 then fail s 2 0x87
      else s.setBlk t b { r with data := List.replicate 4096 0#8, info := s.zeroInfo x.sqe.nsid, ready := true }
    | .stale => fail s 2 0x81
    | .buffer h =>
      let w := s.wblk h
      if w.mark = 2 then fail s 2 0x81
      else if w.mode = 0 ∨ w.slot = 3 then s.setBlk t b { r with data := w.image, info := w.info, ready := true }
      else if !s.lanesLeft then fail s 2 0x81
      else s.setBlk t b { r with coded := w.image, info := w.info, mode := w.mode, slot := w.slot }
    | .flash _ => if r.mode != 0 && !s.lanesLeft then fail s 2 0x81 else s
    | .none_ => s

/-- The blocks of a segment that do not come from flash. -/
def State.fillBlocks (s : State) (t k : Nat) : State := s.forEach ((s.tag t).segBlocks k) (fun b s => s.fillBlock t b)

/-! ### Checks at egress, Compare, and data to the host (R94, R134) -/

/-- The blocks of a segment before the first that fails its check, and that failure's code. -/
def State.egress (s : State) (t : Nat) : List Nat → List Nat × Nat
  | [] => ([], 0)
  | b :: l =>
    let c := s.piOf t b (s.blk t b).data (s.blk t b).info
    if c != 0 then ([], c)
    else
      let r := s.egress t l
      (b :: r.1, r.2)

/-- Compare: a block's stored data or metadata differs from the host's. -/
def State.differs (s : State) (t b : Nat) : Bool :=
  let r := s.blk t b
  joinParts r.parts != r.data || (s.infoMoved t != 0 && s.infoOf t b != some r.info)

/-- The writes of a run of bytes at a buffer offset. -/
def State.hostRun (s : State) (t : Nat) (addr : Nat → Nat) (off : Nat) (data : List Byte) : State :=
  let pf := s.qfunc (s.tag t).q
  s.forEach (pieces addr (s.func pf.1 pf.2).writeMost (data.length + 2) off data.length) (fun p s =>
    s.hostWrite t p.2.1 ((data.drop (p.1 - off)).take p.2.2))

/-- The data of a segment leaves for the host, block by block up to the first that fails its check. -/
def State.sendBlocks (s : State) (t k : Nat) : State :=
  let x := s.tag t
  let r := s.egress t (x.segBlocks k)
  let m := s.infoMoved t
  let s1 := s.forEach r.1 (fun b s =>
    let d := s.hostRun t (x.sqe.addrAt x.sg) (4096 * b) (s.blk t b).data
    if m = 0 then d else d.hostRun t x.infoAddr (m * b) (s.blk t b).info)
  if r.2 = 0 then s1 else s1.commitTag t ⟨2, r.2⟩

/-- R218, R333: the block of a Write Zeroes, or a source block of a Copy, enters the transform pipe as a written block.
Protection information is made anew where PRACT asks for it, and for zeroes; a Copy carries its other metadata along. -/
def State.enterPipe (s : State) (t b : Nat) : State :=
  let x := s.tag t
  let r := s.blk t b
  let n := x.sqe.nsid
  let m := s.infoBytes n
  let ty := s.piType n
  let fresh (d : List Byte) : List Byte := piMake m d x.appTag (x.refTag m b ty)
  if r.arrived then s
  else if x.sqe.opcode = 0x08 then
    let d := List.replicate 4096 0#8
    s.setBlk t b { r with data := d, info := if ty = 0 then List.replicate m 0#8 else fresh d, arrived := true }
  else if x.sqe.opcode = 0x19 && r.ready then
    s.setBlk t b { r with info := if x.pract && ty != 0 then fresh r.data else r.info, arrived := true }
  else s

/-! ### The commit of a write (R29, R196, R201, R203, R204, R206, R210, R290, R341) -/

/-- A zone whose every block has been admitted and has settled is Full. -/
def State.zoneFullWatch (s : State) (n z : Nat) : State :=
  let x := s.zone n z
  if x.st.isActive && x.adm == s.zsize n && x.inFlight.isEmpty && (!x.zrwa || x.wp == s.zsize n) then
    ((s.zrwaRelease n z).trimCharge n z).zoneTo n z .full
  else s

/-- Put an entry; the charge of its zone, not its slot, counts in a zoned namespace's use. -/
def State.putEnt (s : State) (n lba : Nat) (e : MEnt) : State :=
  if (s.ns n).kind = 1 then s.entryPut n lba s.jrn.next e else s.hostPut n lba e

/-- R341: the counts of a block committed through a lane. -/
def State.countCoded (s : State) (h : Nat) : State :=
  let w := s.wblk h
  let g := slotGranules w.slot
  let s0 := { s with media := { s.media with hostGranules := satAdd 64 s.media.hostGranules g } }
  if w.mode = 0 then s0
  else
    let c := s0.cmp
    let y := s0.ns w.nsid
    { s0.setNs w.nsid { y with blocksCoded := satAdd 64 y.blocksCoded 1, granulesCoded := satAdd 64 y.granulesCoded g } with
      cmp := { c with sliceBlocks := Tbl.modify 0 c.sliceBlocks w.slice (fun v => satAdd 64 v 1)
                      sliceGranules := Tbl.modify 0 c.sliceGranules w.slice (fun v => satAdd 64 v g)
                      sliceRaw := if w.slot = 3 then Tbl.modify 0 c.sliceRaw w.slice (fun v => satAdd 64 v 1) else c.sliceRaw } }

/-- R209: the entry of the placement handle list that a write names, where its identifier names one. -/
def State.placeNamed (s : State) (t : Nat) : Option Nat :=
  let x := s.tag t
  let e := Sqe.dspec x.sqe % 2 ^ (16 - s.pool.fdpConfig)
  if Sqe.dtype x.sqe == 2 && decide (Sqe.dspec x.sqe / 2 ^ (16 - s.pool.fdpConfig) < s.groupCount ∧ e < (s.ns x.sqe.nsid).phndl.length)
  then some e else none

/-- R209, R210: the reclaim group and handle of a write: those that its identifier names, else the next group of the rotation and
handle entry 0. (DEDUCED, log entry 107) -/
def State.placeOf (s : State) (t : Nat) : Nat × Nat :=
  let x := s.tag t
  let y := s.ns x.sqe.nsid
  if y.kind ≠ 2 then (0, 0)
  else match s.placeNamed t with
    | some e => (Sqe.dspec x.sqe / 2 ^ (16 - s.pool.fdpConfig), y.phndl.getD e 0)
    | none => (s.pool.rotation % s.groupCount, y.phndl.getD 0 0)

/-- R209: the rotation takes one group per command that names none; a placement identifier that names nothing is recorded.
(PRESUMED, log entry 44) -/
def State.placeWatch (s : State) (t : Nat) : State :=
  let x := s.tag t
  if (s.ns x.sqe.nsid).kind ≠ 2 ∨ (s.placeNamed t).isSome = true then s
  else
    let s1 : State := { s with pool := { s.pool with rotation := (s.pool.rotation + 1) % max 1 s.groupCount } }
    s1.also (Sqe.dtype x.sqe == 2) (fun s => s.fdpEvent 3)

/-- The staged blocks of a command become the newest copies: consecutive SEQ values, and every map entry at once. -/
def State.commitBlocks (s0 : State) (t : Nat) : State :=
  let s := s0.placeWatch t
  let x := s.tag t
  let n := x.sqe.nsid
  let cnt := x.blocks
  let base := s.recov.seqNext
  let whole := (s.ns n).kind != 1 && decide (cnt ≤ 32)
  let pl := s0.placeOf t
  let s1 := (s.seqDraw cnt).forEach (List.range cnt) (fun b s =>
    let h := (s.blk t b).handle
    let w := s.wblk h
    let s2 := ((s.setWblk h { w with committed := true, seq := (base + b) % 2 ^ 56, atomLen := if whole then cnt else 1
                                     atomIdx := if whole then b else 0 }).zoneRewrite h).countCoded h
    let s3 := if s2.hasMap n then
        s2.putEnt n (x.slba + b) { loc := h, slot := w.slot, mode := w.mode, trim := false, buf := true }
      else { s2 with map := { s2.map with ents := Tbl.erase (bkey n (x.slba + b)) s2.map.ents } }
    let s4 := if (s3.ns n).kind = 1 then s3
      else { s3 with wbuf := { s3.wbuf with pendingSlc := s3.wbuf.pendingSlc ++ [h] } }
    if (s4.ns n).kind = 2 then
      { s4 with pool := { s4.pool with placed := Tbl.set 0 s4.pool.placed (bkey n (x.slba + b)) (pl.1 * 256 + pl.2) } }
    else s4)
  s1

/-- The zone's side of a commit: its pointer, the time, and a ZRWA's written blocks; a block that the pointer passed while its
write was under way is not void. -/
def State.commitZone (s : State) (t : Nat) : State :=
  let x := s.tag t
  let n := x.sqe.nsid
  if (s.ns n).kind ≠ 1 then s
  else
    let z := x.slba / s.zsize n
    let off := x.slba % s.zsize n
    let y := s.zone n z
    if y.epochNo ≠ x.zoneEpoch then s
    else
      let ws := (List.range x.nlb).map (fun i => off + i)
      let s1 := s.setZone n z { y with lastWrite := s.timestamp, finishRecommended := false
                                       voids := y.voids.filter (fun v => !(v.2 == 1 && ws.contains v.1))
                                       zrwaWritten := if y.zrwa then (y.zrwaWritten ++ ws.filter (fun b => decide (y.wp ≤ b))).dedup
                                                      else y.zrwaWritten }
      (s1.zoneSettle t false).zoneFullWatch n z

/-- Blocks of Write Uncorrectable: STALE entries with their record; a zoned namespace programs marked filler. -/
def State.commitStale (s : State) (t : Nat) : State :=
  let x := s.tag t
  let n := x.sqe.nsid
  if s.hasMap n then
    (s.forEach (List.range x.nlb) (fun i s => s.putEnt n (x.slba + i) { trim := false, stale := true, slot := 3 })).journal
      [uncorrRec n x.slba x.nlb]
  else
    let base := s.recov.seqNext
    (s.seqDraw x.nlb).forEach (List.range x.nlb) (fun i s =>
      let h := s.wbuf.next + 1
      let s1 := s.setWblk h { nsid := n, lba := x.slba + i, mark := 2, copyA := true, copyB := true
                              pair := (s.pairFor t).getD 0, slice := x.slice, seq := (base + i) % 2 ^ 56, committed := true }
      ({ s1 with wbuf := { s1.wbuf with next := h } }.zoneRewrite h).setMent n (x.slba + i) { trim := false, stale := true, slot := 3 })

/-- A zone write that its zone was reset over commits without changing the map (R200). -/
def State.zoneGone (s : State) (t : Nat) : Bool :=
  let x := s.tag t
  (s.ns x.sqe.nsid).kind == 1 && x.passedZone && (s.zone x.sqe.nsid (x.slba / s.zsize x.sqe.nsid)).epochNo != x.zoneEpoch

/-- A map page that a command changes is here. -/
def State.pagesHere (s : State) (t : Nat) : Bool := (s.needPages t).all (fun p => s.pageHere (s.tag t).sqe.nsid p)

/-- The change of the map at a command's commit point, with the return of its reservation (R196). -/
def State.mapCommit (s : State) (t : Nat) : State :=
  let x := s.tag t
  let n := x.sqe.nsid
  let s1 := s.poolRelease t
  if s.zoneGone t then s1.dropStaged t
  else if x.sqe.opcode = 0x09 then
    if (s.ns n).kind = 1 then s1 else s1.forEach x.ranges (fun r s => s.trimRun n r.1 r.2)
  else if x.sqe.opcode = 0x08 && Sqe.deac x.sqe then (if (s.ns n).kind = 1 then s1 else s1.trimRun n x.slba x.nlb)
  else if x.sqe.opcode = 0x04 then (s1.commitStale t).commitZone t
  else (s1.commitBlocks t).commitZone t

/-! ### Steps (R11, R122, R125) -/

/-- Steps that a waiting write may take (R125). -/
def Tag.whileWaiting (x : Tag) (k : StepKind) : Bool :=
  x.stages && x.sqe.opcode != 0x19 && (k == .buf || k == .hostrd || k == .xform)

/-- The success of a command at its last step. -/
def State.finishTag (s : State) (t : Nat) : State :=
  let x := s.tag t
  if x.isJob then
    { s.succeed t x.stage.length with
      cmp := { s.cmp with jobs := satAdd 64 s.cmp.jobs 1 } }
  else if x.sqe.opcode = 0x7D then s.succeed t (x.slba % 2 ^ 32) (x.slba / 2 ^ 32)
  else s.succeed t

/-- The staged output of a job leaves for the host (R337). -/
def State.sendStage (s : State) (t : Nat) : State := s.hostRun t (s.tag t).outAddr 0 (s.tag t).stage

/-- Start the step that runs next, where its segment's chain is complete and no overlap holds it; the completion descriptor
ends the command. -/
def State.advance (s : State) (t : Nat) : State :=
  let x := s.tag t
  match x.nextStep with
  | none => s
  | some p =>
    if x.segs ≤ p.seg || x.inFlight then s
    else
      let may := match x.st with
        | .run => true
        | .wait => x.whileWaiting p.kind
        | _ => false
      if !may then s
      else if p.kind = .cmpl then s.finishTag t
      else
        let s1 := s.setTag t { x with inFlight := true }
        match p.kind with
        | .hostrd => s1.askBlocks t p.seg
        | .hostwr => if x.isJob then s1.sendStage t else s1.sendBlocks t p.seg
        | .die => s1.fillBlocks t p.seg
        | .xform => s1.forEach (x.segBlocks p.seg) (fun b s => (s.enterPipe t b).bypass t b)
        | _ => s1

/-- R125: a read takes its map results as it is released. -/
def State.releaseTag (s : State) (t : Nat) : State :=
  let x := s.tag t
  let s1 := s.setTag t { x with st := .run }
  (if x.reads.isEmpty || x.mapTaken then s1 else s1.takeMap t).advance t

/-- Every block of a segment satisfies a test. -/
def State.segAll (s : State) (t k : Nat) (p : BlkRt → Bool) : Bool := ((s.tag t).segBlocks k).all (fun b => p (s.blk t b))

/-- What a data mover has to have done when it reports a step. -/
def State.stepDone (s : State) (t : Nat) (p : PStep) : Bool :=
  let x := s.tag t
  match p.kind with
  | .buf => !s.chip.waitq.any (fun r => r.tag == t)
  | .hostrd => s.segAll t p.seg (fun r => r.arrived)
  | .die => s.segAll t p.seg (fun r => r.ready || (x.sqe.opcode != 0x19 && !r.coded.isEmpty))
  | .xform =>
    if x.isJob then (List.range x.blocks).all (fun b => (s.blk t b).ready)
    else if x.stages then s.segAll t p.seg (fun r => r.handle != 0)
    else s.segAll t p.seg (fun r => r.ready)
  | .hostwr => !s.dmaAny (fun u => match u with
      | .hostOut k _ _ => k == t
      | _ => false)
  | .mapupd => s.pagesHere t
  | _ => true

/-- What a completed step does beside: the checks of Compare and Verify, the output of a job, the change of the map. -/
def State.stepEffect (s : State) (t : Nat) (p : PStep) : State :=
  let x := s.tag t
  match p.kind with
  | .xform =>
    if x.isJob then
      s.setTag t { x with stage := ((List.range x.blocks).map (fun b => (s.blk t b).coded)).flatten, committed := true }
    else if x.sqe.opcode = 0x05 ∨ x.sqe.opcode = 0x0C then
      let r := s.egress t (x.segBlocks p.seg)
      let d := x.sqe.opcode == 0x05 && r.1.any (fun b => s.differs t b)
      if d then s.commitTag t ⟨2, 0x85⟩ else if r.2 = 0 then s else s.commitTag t ⟨2, r.2⟩
    else s
  | .mapupd => s.mapCommit t
  | _ => s

/-- The step after a completed one. -/
def State.stepNext (s : State) (t : Nat) (p : PStep) : State :=
  let s1 := s.stepEffect t p
  let x := s1.tag t
  if x.st.uncommitted then (s1.setTag t { x with stepsDone := x.stepsDone + 1, inFlight := false }).advance t
  else s1.setTag t { x with inFlight := false }

/-- After a commit of a map change: programs, and what waited for pages. -/
def State.commitPump (s : State) : State :=
  if s.profile then ((s.mediaPump).jrnWatch.writebackPump).critWatch s else s

/-! ### Lists of data pointers (R108, R115, R135) -/

/-- The entry that a job's output pointers spell. -/
def Sqe.outEntry (e : Sqe) : Sqe := { e with psdt := 0, prp1 := e.cdw12 + e.cdw13 * 2 ^ 32, prp2 := e.cdw14 + e.cdw15 * 2 ^ 32 }

/-- Host data bytes of a command, in its data buffer. -/
def Tag.dataLen (x : Tag) : Nat := if x.isJob then Sqe.inLen x.sqe else 4096 * x.nlb

/-- Ask for the next piece of the list segment that a tag reads; `second` is a job's output list, or a metadata descriptor. -/
def State.askList (s : State) (t : Nat) (second : Bool) : State :=
  let x := s.tag t
  match x.listAt with
  | none => s
  | some (a, l) =>
    let pf := s.qfunc x.q
    s.dmaAsk { port := pf.1, fn := pf.2, pasid := s.qpasid x.q, addr := a
               len := min l (min (s.func pf.1 pf.2).readMost (4096 - a % 4096))
               use := some (if second then .infoList t else .list t) }

/-- Start reading a list segment. -/
def State.listFrom (s : State) (t : Nat) (second : Bool) (at_ : Option (Nat × Nat)) : State :=
  (s.setTag t { s.tag t with listAt := at_, input := [] }).askList t second

/-- The second list of a command: a job's output list, or the descriptor of a metadata buffer. -/
def State.secondList (s : State) (t : Nat) : State :=
  let x := s.tag t
  if x.isJob then s.listFrom t true (Sqe.listOf (Sqe.outEntry x.sqe) (Sqe.outLimit x.sqe))
  else if x.sqe.psdt = 2 ∧ s.infoMoved t ≠ 0 then s.listFrom t true (some (x.sqe.mptr, 16))
  else s.setTag t { x with listAt := none, input := [] }

/-- The lists that a command needs before its data moves. -/
def State.startLists (s : State) (t : Nat) : State :=
  match Sqe.listOf (s.tag t).sqe (s.tag t).dataLen with
  | some at_ => s.listFrom t false (some at_)
  | none => s.secondList t

/-- PRP entries of a list page: a list that goes on holds the address of its next page in its last entry. -/
def State.prpList (s : State) (t : Nat) (second : Bool) (es : List (Nat × Nat)) : State :=
  let x := s.tag t
  let pf := s.qfunc x.q
  let e := if second then Sqe.outEntry x.sqe else x.sqe
  let len := if second then Sqe.outLimit x.sqe else x.dataLen
  let have_ := if second then x.outSg else x.sg
  let left := ceilDiv (len - (4096 - e.prp1 % 4096)) 4096 - have_.length
  let more := decide (es.length < left)
  let data := if more then es.dropLast else es.take left
  if es.any (fun d => d.1 % 4096 != 0) then s.commitTag t ⟨0, 0x13⟩
  else if es.any (fun d => s.isCmb pf.1 pf.2 d.1) then s.commitTag t ⟨0, 0x12⟩
  else
    let s1 := s.setTag t (if second then { x with outSg := have_ ++ data } else { x with sg := have_ ++ data })
    if more then
      let a := (es.getLast?.map (fun d => d.1)).getD 0
      s1.listFrom t second (some (a, min (8 * (left - data.length)) (4096 - a % 4096)))
    else if second then s1.setTag t { s1.tag t with listAt := none, input := [] }
    else s1.secondList t

/-- The SGL descriptors of a segment, with their type and subtype. -/
def sglDescs : Nat → List Byte → List (Nat × Nat × Nat)
  | 0, _ => []
  | n + 1, l => if l.length < 16 then []
    else (fromLe (l.take 8), fromLe ((l.drop 8).take 4), ((l.drop 15).headD 0#8).toNat) :: sglDescs n (l.drop 16)

/-- A segment of SGL descriptors: data blocks, and as its last one the next segment. -/
def State.sglList (s : State) (t : Nat) (ds : List (Nat × Nat × Nat)) : State :=
  let x := s.tag t
  let pf := s.qfunc x.q
  let next := ds.getLast?.bind (fun d => if d.2.2 / 16 = 2 ∨ d.2.2 / 16 = 3 then some d else none)
  let data := if next.isSome then ds.dropLast else ds
  if data.any (fun d => d.2.2 != 0) then s.commitTag t ⟨0, 0x11⟩
  else if ds.any (fun d => s.isCmb pf.1 pf.2 d.1) then s.commitTag t ⟨0, 0x12⟩
  else
    let s1 := s.setTag t { x with sg := x.sg ++ data.map (fun d => (d.1, d.2.1)) }
    match next with
    | some d => if d.2.1 = 0 ∨ d.2.1 % 16 ≠ 0 then s.commitTag t ⟨0, 0x0D⟩ else s1.listFrom t false (some (d.1, d.2.1))
    | none =>
      if ((s1.tag t).sg.map (fun d => d.2)).sum < x.dataLen then s.commitTag t ⟨0, 0x0F⟩ else s1.secondList t

/-- A piece of a list has arrived. -/
def State.listIn (s : State) (t : Nat) (second : Bool) (data : List Byte) : State :=
  let x := s.tag t
  match x.listAt with
  | none => s
  | some (a, l) =>
    let got := x.input ++ data
    let s1 := s.setTag t { x with input := got, listAt := some (a + data.length, l - data.length) }
    if data.length < l then s1.askList t second
    else if second ∧ x.isJob = false then
      match sglDescs 1 got with
      | d :: _ =>
        if d.2.2 ≠ 0 then s1.commitTag t ⟨0, 0x11⟩
        else s1.setTag t { s1.tag t with infoAt := some d.1, listAt := none, input := [] }
      | [] => s1
    else if x.sqe.psdt = 0 ∨ second then s1.prpList t second (listEntries 0 512 got)
    else s1.sglList t (sglDescs (got.length / 16) got)

end Sys2Proof.Machine
end

