-- ==== Sys2Proof/Machine/Host.lean ====
section
/-! DEFINITION. Accesses of the hosts to the register areas and the controller memory buffer window
(R66 to R81, R98, R108, R113). -/

namespace Sys2Proof.Machine

/-! ### Taking an access apart (R81) -/

/-- The part of an access that falls in one 32-bit register: its aligned offset, its first byte, its number
of bytes, and the bytes' value. -/
structure Piece where
  off : Nat
  lo : Nat
  n : Nat
  val : Nat
  deriving DecidableEq, Repr

/-- R81: the registers' parts of an access of up to 8 contiguous bytes, lower address first.
(DESIGN CHOICE, log entry 18) -/
def piecesFrom : Nat → Nat → Nat → Nat → List Piece
  | 0, _, _, _ => []
  | _, _, 0, _ => []
  | fuel + 1, off, width, v =>
    let n := min width (4 - off % 4)
    ⟨off / 4 * 4, off % 4, n, v % 256 ^ n⟩ :: piecesFrom fuel (off + n) (width - n) (v / 256 ^ n)

def accPieces (w : RegAccess) : List Piece := piecesFrom 3 w.off w.width w.value

/-- The bits that a part addresses. -/
def Piece.mask (p : Piece) : Nat := (256 ^ p.n - 1) * 256 ^ p.lo
/-- The part's value, in place. -/
def Piece.inPlace (p : Piece) : Nat := p.val * 256 ^ p.lo
/-- R80: RW: only the addressed bytes change. -/
def Piece.merge (p : Piece) (old : Nat) : Nat :=
  (BitVec.ofNat 32 old &&& ~~~(BitVec.ofNat 32 p.mask) ||| BitVec.ofNat 32 p.inPlace).toNat

/-- A host reaches the registers of a function: the fast domain runs, the function is present and its
port carries commands (R86, R102). (DESIGN CHOICE, log entry 16) -/
def State.reaches (s : State) (p f : Nat) : Bool :=
  s.awake && (s.func p f).here && (s.port p).linkUp && decide (3 ≤ (s.port p).rate)

/-- The size of a BAR pair (R66); a pair that is not implemented has size 0. -/
def barSize (bar f : Nat) : Nat :=
  match bar with
  | 0 => bar0Size f
  | 2 => bar2Size f
  | 4 => if f = 0 then 0x100000 else 0
  | _ => 0

/-- The access lies in a BAR of a function that a host reaches. -/
def State.lands (s : State) (w : RegAccess) : Bool :=
  s.reaches w.port w.fn && decide (w.off + w.width ≤ barSize w.bar w.fn)

/-- An offset of BAR0/1 lies in the controller memory buffer window. -/
def inCmbWindow (f off : Nat) : Bool := decide (cmbWindow f ≤ off)

/-- An offset of BAR0/1 is a standard doorbell (R67). -/
def stdDoorbell (f off : Nat) : Bool := decide (0x1000 ≤ off) && decide (off < (if f = 0 then 0x40000 else 0x4000))

/-- The offset is a doorbell: of BAR0/1, or of any page of BAR2/3. -/
def accBell (w : RegAccess) : Bool :=
  (w.bar == 0 && stdDoorbell w.fn w.off) || (w.bar == 2 && decide (0x800 ≤ w.off % 0x1000))

/-- R81: an access that is over 8 bytes, or has gaps in its byte enables, ends with Completer Abort. -/
def accBad (w : RegAccess) : Bool := decide (8 < w.width) || !w.contiguous

/-- R81: Completer Abort, logged and reported through AER. -/
def State.abortAccess (s : State) (w : RegAccess) : State :=
  ((s.accLog (if 8 < w.width then 1 else 2) w.bar w.port w.fn w.off).emit (.completerAbort w.port)).aerReport
    w.port w.fn aerAbort "Completer Abort"

/-! ### Doorbells (R67, R72, R81, R113) -/

/-- The asynchronous event of R113, to the admin completion queue that owns the doorbell. -/
def State.doorbellEvent (s : State) (q : QKey) (info : Nat) : State :=
  s.raise (s.owner q) ⟨0, info, 1, some (QKey.onPage q)⟩

/-- A legal new tail: within the queue, at or after the tail as the ring runs from the head. -/
def Sq.legalTail (x : Sq) (v : Nat) : Bool :=
  decide (v < x.size) && decide ((x.tail + x.size - x.head) % x.size ≤ (v + x.size - x.head) % x.size)

/-- A legal new head: within the queue, not past the tail. -/
def Cq.legalHead (x : Cq) (v : Nat) : Bool :=
  decide (v < x.size) && decide ((v + x.size - x.head) % x.size ≤ (x.tail + x.size - x.head) % x.size)

/-- The queue of a doorbell exists, and takes new entries. -/
def State.bellQueue (s : State) (q : QKey) (head : Bool) : Bool :=
  if head then (s.cq q).live else (s.sq q).live && (s.sq q).deleting.isNone

/-- The value is legal for the queue. -/
def State.bellValue (s : State) (q : QKey) (head : Bool) (v : Nat) : Bool :=
  if head then (s.cq q).legalHead v else (s.sq q).legalTail v

/-- Accept a doorbell value; room in a completion queue lets its held completions go. -/
def State.bellAccept (s : State) (q : QKey) (head : Bool) (v : Nat) : State :=
  if head then (s.setCq q { s.cq q with head := v, lastDb := v }).cqRelease q
  else (s.setSq q { s.sq q with tail := v, lastDb := v }).fetchAsk q

/-- Why R72 refuses a value, as the information of R113: the queue, or the value. -/
def State.bellFault (s : State) (q : QKey) (head : Bool) (v : Nat) : Option Nat :=
  if !s.bellQueue q head then some 0 else if !s.bellValue q head v then some 1 else none

/-- One part of a write to a doorbell of a live slice page. (DEDUCED, log entry 17) -/
def State.pageBell (s : State) (n p f : Nat) (x : Piece) : State :=
  let q := QKey.page n ((x.off % 0x1000 - 0x800) / 8)
  let head := x.off % 8 == 4
  let sl := s.slice n
  let dropped : State := s.setSlice n { sl with drops := satAdd 16 sl.drops 1 }
  if x.n ≠ 4 then
    let s1 := dropped.accLog 3 2 p f (x.off + x.lo)
    if sl.st = .resetting then s1
    else (s1.setSlice n { s1.slice n with qerr := true }).doorbellEvent q 1
  else if sl.st = .resetting then dropped
  else
    let stale := x.val / 2 ^ 16 != sl.gen
    match s.bellFault q head (x.val % 2 ^ 16) with
    | some info =>
      (dropped.setSlice n { dropped.slice n with stale := sl.stale || stale, qerr := true }).doorbellEvent q info
    | none =>
      if stale then dropped.setSlice n { dropped.slice n with stale := true }
      else s.bellAccept q head (x.val % 2 ^ 16)

/-- One part of a write to a standard doorbell. -/
def State.stdBell (s : State) (p f : Nat) (x : Piece) : State :=
  let q := QKey.std p f ((x.off - 0x1000) / 8)
  let head := x.off % 8 == 4
  if x.n ≠ 4 then (s.accLog 3 0 p f (x.off + x.lo)).doorbellEvent q 1
  else match s.bellFault q head (x.val % 2 ^ 16) with
    | some info => s.doorbellEvent q info
    | none => s.bellAccept q head (x.val % 2 ^ 16)

/-- One part of a doorbell write. -/
def State.bellPiece (s : State) (w : RegAccess) (x : Piece) : State :=
  if w.bar = 0 then s.stdBell w.port w.fn x
  else match s.pageSlice w.port w.fn (x.off / 0x1000) with
    | none => s.accLog 5 2 w.port w.fn (x.off + x.lo)
    | some n => s.pageBell n w.port w.fn x

/-- A doorbell write whose first byte lies in the doorbell `half` (0 tail, 4 head) of its queue. -/
def State.bellWrite (s : State) (w : RegAccess) (half : Nat) : State :=
  s.when (s.lands w && (accBell w) && w.off / 4 * 4 % 8 == half) (fun s =>
    if (accBad w) then s.abortAccess w else s.forEach (accPieces w) (fun x s => s.bellPiece w x))

/-- SQ_TAIL_DOORBELL (R67, R68, R71, R72, R81, R113). -/
def execSqTailDoorbell (w : RegAccess) (s : State) : Res := .next (s.bellWrite w 0)

/-- CQ_HEAD_DOORBELL (R67, R72, R81, R113). -/
def execCqHeadDoorbell (w : RegAccess) (s : State) : Res := .next (s.bellWrite w 4)

/-! ### Register writes (R67, R74 to R76, R80, R81) -/

/-- R80: WM: bits 15:0 change where the mask in bits 31:16 is 1; bits above the field are reserved. -/
def wm (old : BitVec 16) (v field : Nat) : BitVec 16 :=
  let m := BitVec.ofNat 16 (v / 2 ^ 16) &&& BitVec.ofNat 16 field
  (old &&& ~~~m) ||| (BitVec.ofNat 16 v &&& m)

/-- An offset that a table of BAR4/5 defines. -/
def State.csrDefined (s : State) (off : Nat) : Bool := (s.csrWord off).isSome

/-- One part of a write to BAR4/5. -/
def State.csrWrite (s : State) (p f : Nat) (x : Piece) : State :=
  let at_ := x.off + x.lo
  if s.mode.base = .flush then s.accLog 7 4 p f at_
  else if !s.csrDefined x.off then s.accLog 4 4 p f at_
  else if x.off = 0x80018 ∨ x.off = 0x70010 then
    if x.n ≠ 4 then s.accLog 3 4 p f at_
    else if x.off = 0x80018 then { s with regs := { s.regs with wakeHold := wm s.regs.wakeHold x.val 0x7FFF } }
    else { s with regs := { s.regs with rasInten := wm s.regs.rasInten x.val 0x3FFF } }
  else if x.off = 0xC0008 ∨ x.off = 0xC0000 ∨ 0xC1000 ≤ x.off then
    if s.regs.dmbBusy then s.accLog 8 4 p f at_
    else if x.off = 0xC0008 then { s with regs := { s.regs with dmbLen := x.merge s.regs.dmbLen % 2 ^ 13 } }
    else if x.off = 0xC0000 then s
    else { s with regs := { s.regs with dmbBuf := Mem.writeList s.regs.dmbBuf (at_ - 0xC1000) (leBytes x.n x.val) } }
  else s

/-- The write would set GO (its own row, DMB_GO). -/
def Piece.setsGo (x : Piece) : Bool := x.off == 0xC0000 && x.lo == 0 && x.val.testBit 0

/-- The write would change CC.EN or request a shutdown, or is the NSSR value: rows of their own. -/
def State.nvmeOwnRow (s : State) (p f : Nat) (x : Piece) : Bool :=
  let cc := s.func p f |>.cc
  (x.off == 0x14 && (bitOf (x.merge cc) 0 != bitOf cc 0 ||
      (bitsOf (x.merge cc) 15 14 != 0 && bitsOf cc 15 14 == 0)))
    || (x.off == 0x20 && f == 0 && x.n == 4 && x.val == 0x4E564D65)

/-- Bits 31:0 or 63:32 of a 64-bit register after a part of a write. -/
def mergeHalf (old : Nat) (high : Bool) (x : Piece) : Nat :=
  if high then old % 2 ^ 32 + x.merge (old / 2 ^ 32) * 2 ^ 32 else old / 2 ^ 32 * 2 ^ 32 + x.merge (old % 2 ^ 32)

/-- One part of a write to the NVMe registers of BAR0/1 (R67, R75, R107, R108). -/
def State.nvmeWrite (s : State) (p f : Nat) (x : Piece) : State :=
  let c := s.func p f
  match x.off with
  | 0x0C => s.setFunc p f { c with intMask := (BitVec.ofNat 32 c.intMask ||| BitVec.ofNat 32 x.inPlace).toNat }
  | 0x10 => s.setFunc p f { c with intMask := (BitVec.ofNat 32 c.intMask &&& ~~~(BitVec.ofNat 32 x.inPlace)).toNat }
  | 0x14 => s.setFunc p f { c with cc := x.merge c.cc }
  | 0x24 => s.setFunc p f { c with aqa := x.merge c.aqa }
  | 0x28 => s.setFunc p f { c with asq := mergeHalf c.asq false x }
  | 0x2C => s.setFunc p f { c with asq := mergeHalf c.asq true x }
  | 0x30 => s.setFunc p f { c with acq := mergeHalf c.acq false x }
  | 0x34 => s.setFunc p f { c with acq := mergeHalf c.acq true x }
  | _ => s

/-- One part of a write to a register area, by its access code. -/
def State.regPiece (s : State) (w : RegAccess) (x : Piece) : State :=
  match w.bar with
  | 0 => if x.off < 0x1000 then s.nvmeWrite w.port w.fn x else s
  | 2 => if (s.pageSlice w.port w.fn (x.off / 0x1000)).isNone then s.accLog 5 2 w.port w.fn (x.off + x.lo) else s
  | _ => s.csrWrite w.port w.fn x

/-- The access belongs to a row of its own: a doorbell, the buffer window, GO, CC.EN, CC.SHN or NSSR. -/
def State.ownRow (s : State) (w : RegAccess) : Bool :=
  (accBell w) || (w.bar == 0 && inCmbWindow w.fn w.off)
    || (!(accBad w) && w.bar == 4 && s.mode.base != .flush && !s.regs.dmbBusy && (accPieces w).any Piece.setsGo)
    || (!(accBad w) && w.bar == 0 && (accPieces w).any (fun x => s.nvmeOwnRow w.port w.fn x))

/-- REGISTER_WRITE (R68, R74, R76, R78, R80 to R84). -/
def execRegisterWrite (w : RegAccess) (s : State) : Res :=
  .next (s.when (s.lands w && !s.ownRow w) (fun s =>
    if (accBad w) then s.abortAccess w else s.forEach (accPieces w) (fun x s => s.regPiece w x)))

/-! ### Register reads (R67, R68, R71, R72, R74, R78, R79, R81) -/

/-- Read one part of a register area: the bytes' value and the state after the clears. -/
def State.readPiece (s : State) (w : RegAccess) (x : Piece) : Nat × State :=
  let mask := 256 ^ x.n - 1
  match w.bar with
  | 0 => (s.bar0Word w.port w.fn x.off / 256 ^ x.lo % (mask + 1), s)
  | 2 => match s.pageSlice w.port w.fn (x.off / 0x1000) with
    | none => (0, s)
    | some n => s.pageRead n (x.off % 0x1000) x.lo x.n
  | _ => s.csrRead x.off x.lo x.n

/-- Read the parts of an access, lower address first. -/
def State.readPieces (s : State) (w : RegAccess) : List Piece → Nat → Nat → Nat × State
  | [], _, acc => (acc, s)
  | x :: t, sh, acc =>
    let r := s.readPiece w x
    r.2.readPieces w t (sh + x.n) (acc + r.1 * 256 ^ sh)

/-- A read of the controller memory buffer window; offsets beyond the function's share read 0. -/
def State.cmbRead (s : State) (p f off n : Nat) : List Byte :=
  let share := s.cmbShare p f
  (List.range n).map (fun i => if off + i < share then Mem.read (s.port p).cmb (s.cmbBase p f + off + i) else 0#8)

/-- READ_CLEAR_ACCESS (R67, R71, R78, R79, R81, R82, R188, R279, R342, R365, R405, R418, R441). -/
def execReadClearAccess (w : RegAccess) (s : State) : Res :=
  .next (s.when (s.lands w) (fun s =>
    if w.bar == 0 && inCmbWindow w.fn w.off then
      s.emit (.readData w.port (fromLe (s.cmbRead w.port w.fn (w.off - cmbWindow w.fn) w.width)))
    else if (accBad w) then s.abortAccess w
    else
      let r := s.readPieces w (accPieces w) 0 0
      r.2.emit (.readData w.port r.1)))

/-! ### The controller memory buffer (R67, R81, R98) -/

/-- The 64-byte lines that a run of bytes touches. -/
def linesOf (a n : Nat) : List Nat :=
  if n = 0 then [] else (List.range ((a + n - 1) / 64 - a / 64 + 1)).map (fun k => a / 64 + k)

/-- CMB_WRITE (R67, R81, R98): bytes beyond the function's share are dropped and logged; a poisoned write
writes nothing and marks its lines; a full 64-byte write clears a line's mark. -/
def execCmbWrite (port fn off : Nat) (data : List (Option Byte)) (poisoned : Bool) (s : State) : Res :=
  .next (s.when (s.reaches port fn && decide (off + data.length ≤ barSize 0 fn - cmbWindow fn)) (fun s =>
    let share := s.cmbShare port fn
    let base := s.cmbBase port fn
    let live := (data.zip (List.range data.length)).filterMap (fun x => match x.1 with
      | some b => if off + x.2 < share then some (base + off + x.2, b) else none
      | none => none)
    let beyond := (data.zip (List.range data.length)).any (fun x => x.1.isSome && decide (share ≤ off + x.2))
    let s1 := s.also beyond (fun s => s.accLog 6 0 port fn (cmbWindow fn + max off share))
    let x := s1.port port
    let touched := (live.map (fun b => b.1 / 64)).dedup
    if poisoned then
      let s2 := s1.setPort port { x with
        cmbMarked := touched.foldl (fun m l => Tbl.set false m l true) x.cmbMarked }
      s2.aerReport port fn aerPoisoned "Poisoned TLP Received"
    else
      s1.setPort port { x with
        cmb := live.foldl (fun m b => Mem.write m b.1 b.2) x.cmb
        cmbMarked := touched.foldl (fun m l =>
          if (live.filter (fun b => b.1 / 64 == l)).length = 64 then Tbl.set false m l false else m) x.cmbMarked }))

/-- POISONED_TLP_RECEIVED (R98): a poisoned write to a register area is dropped and reported. -/
def execPoisonedTlpReceived (port fn : Nat) (s : State) : Res :=
  .next (s.when (s.reaches port fn) (fun s => s.aerReport port fn aerPoisoned "Poisoned TLP Received"))

end Sys2Proof.Machine
end

