-- ==== Sys2Proof/Machine/Pcie.lean ====
section
/-! DEFINITION. PCI Express (R85 to R104): configuration requests, holds, links, DMA requests that fail, address
translation, and the resets of R99. -/

namespace Sys2Proof.Machine

/-! ### Configuration space (R86, R90, R91, R100) -/

/-- The identifiers of the PCI Express structures of R91, in chain order, 16 bits each from bit 0 up.
(PRESUMED, log entry 19) -/
def capChain (f : Nat) : Nat :=
  let std := [0x01, 0x11, 0x10]
  let ext := if f = 0 then [0x01, 0x0E, 0x10, 0x0F, 0x1B, 0x18, 0x1E, 0x19, 0x25, 0x26, 0x2A, 0x31, 0x27, 0x2F, 0x03]
             else [0x01, 0x0E, 0x0F, 0x1B]
  (std ++ ext).foldr (fun x acc => x + acc * 2 ^ 16) 0

/-- VF Enable of a port: some virtual function is there. -/
def State.vfOn (s : State) (p : Nat) : Bool :=
  s.funcs.any (fun x => x.1 / 256 == p && x.1 % 256 != 0 && x.2.here)

/-- What a configuration read returns; R91 places no structure at a fixed offset, so other bytes are free. -/
def State.cfgSpace (s : State) (p f : Nat) : CfgReg → Nat
  | .vendorId => if f = 0 then Config.pciVendorId else 0xFFFF
  | .deviceId => if f = 0 then 0x9A09 else 0x9A19
  | .revisionId => 0xC1
  | .classCode => 0x010802
  | .subsystemVendorId => s.cfg 0x2000 5
  | .subsystemId => s.cfg 0x2000 6
  | .capabilityChain => capChain f
  | .vfEnable => boolNat (s.vfOn p)
  | .atsEnable => boolNat (s.func p f).atsEn
  | .pasidEnable => boolNat (s.func p f).pasidEn
  | .relaxedOrderingEnable => boolNat (s.func p f).roEn
  | .tag10Enable => boolNat (s.func p f).tag10
  | .maxPayloadSize => (s.func p f).mps
  | .maxReadRequestSize => (s.func p f).mrrs
  | .uncorrectableSeverity => (s.func p f).uncSeverity
  | .uncorrectableStatus => (s.func p f).uncStatus
  | .other o => Config.configSpace p f o

/-- The base of the buffer window after a write of half of BAR0/1. -/
def barWrite (f cmb v : Nat) (high : Bool) : Nat :=
  let size := bar0Size f
  let old := if cmb = 0 then 0 else cmb - cmbWindow f
  let base := if high then old % 2 ^ 32 + v % 2 ^ 32 * 2 ^ 32 else old / 2 ^ 32 * 2 ^ 32 + v % 2 ^ 32 / size * size
  if base = 0 then 0 else base + cmbWindow f

/-- A configuration write; a field that a host does not write is unchanged. (PRESUMED, log entry 20) -/
def State.cfgWrite (s : State) (p f v : Nat) (reg : CfgReg) : State :=
  let x := s.func p f
  match reg with
  | .vfEnable =>
    if v = 0 then s
    else s.forEach ((List.range 255).map (fun k => k + 1)) (fun k s =>
      if k ≤ v then s.setFunc p k { s.func p k with here := true } else s)
  | .atsEnable => s.setFunc p f { x with atsEn := v != 0 }
  | .pasidEnable => (s.setFunc p f { x with pasidEn := v != 0 }).releaseFn p f
  | .relaxedOrderingEnable => s.setFunc p f { x with roEn := v != 0 }
  | .tag10Enable => (s.setFunc p f { x with tag10 := v != 0 }).dmaPump
  | .maxPayloadSize => s.setFunc p f { x with mps := min v 2 }
  | .maxReadRequestSize => s.setFunc p f { x with mrrs := min v 5 }
  | .uncorrectableSeverity => s.setFunc p f { x with uncSeverity := v % 2 ^ 32 }
  | .uncorrectableStatus =>
    s.setFunc p f { x with uncStatus := (BitVec.ofNat 32 x.uncStatus &&& ~~~(BitVec.ofNat 32 v)).toNat }
  | .other o =>
    if o = 0x10 then s.setFunc p f { x with cmbBase := barWrite f x.cmbBase v false }
    else if o = 0x14 then s.setFunc p f { x with cmbBase := barWrite f x.cmbBase v true }
    else s
  | _ => s

/-- CONFIG_REQUEST (R86, R89 to R91, R100, R103): a port that is not ready answers with Request Retry Status.
A write that clears VF Enable is a row of its own. -/
def execConfigRequest (port fn : Nat) (reg : CfgReg) (write : Option Nat) (s : State) : Res :=
  .next (s.when (s.awake && s.portExists port && (s.port port).linkUp
      && !(reg == .vfEnable && write == some 0 && s.vfOn port)) (fun s =>
    if !(s.port port).configReady then s.emit (.configRetry port)
    else match write with
      | none => s.emit (.configData port (s.cfgSpace port fn reg))
      | some v => if (s.func port fn).here then s.cfgWrite port fn v reg else s.unlisted))

/-! ### Holds (R97, R138) -/

/-- BUS_MASTER_ENABLE_CHANGE (R97, R138): the hold ends or begins; held work keeps its tags. -/
def execBusMasterEnableChange (port fn : Nat) (on : Bool) (s : State) : Res :=
  .next (s.when ((s.func port fn).here && (s.func port fn).bme != on) (fun s =>
    (s.setFunc port fn { s.func port fn with bme := on }).releaseFn port fn))

/-- D3HOT_TRANSITION (R89, R97). -/
def execD3hotTransition (port fn : Nat) (enter : Bool) (s : State) : Res :=
  .next (s.when ((s.func port fn).here && (s.func port fn).d3hot != enter) (fun s =>
    (s.setFunc port fn { s.func port fn with d3hot := enter }).releaseFn port fn))

/-- MSIX_ENABLE_CHANGE (R97, R152). -/
def execMsixEnableChange (port fn : Nat) (enable mask : Bool) (s : State) : Res :=
  .next (s.when (s.func port fn).here (fun s =>
    (s.setFunc port fn { s.func port fn with msixEn := enable, msixMask := mask }).releaseFn port fn))

/-! ### Links (R85, R86, R88, R92, R105) -/

/-- A port may train: the fast domain runs, PERST# is released, the port has not failed, and Flush allows it. -/
def State.mayTrain (s : State) (p : Nat) : Bool :=
  s.awake && s.portExists p && !(s.port p).perst && !(s.port p).failed && !(s.port p).stayDown
    && (s.mode.base != .flush || s.mode.postWindow)

/-- LINK_UP (R85, R86, R88): the link first reaches L0, and the speed change directed at once gives this rate. -/
def execLinkUp (port speed width : Nat) (s : State) : Res :=
  .next (s.when (s.mayTrain port && !(s.port port).linkUp) (fun s => s.trained port speed width))

/-- SPEED_CHANGE_RETRY (R86): another attempt on a link below 8 GT/s. -/
def execSpeedChangeRetry (port speed width : Nat) (s : State) : Res :=
  .next (s.when (s.mayTrain port && (s.port port).linkUp && decide ((s.port port).rate < 3)) (fun s =>
    s.trained port speed width))

/-- LINK_RETRAINED (R85, R88): speed or width changed; a lower rate at full width is no fault. -/
def execLinkRetrained (port speed width : Nat) (s : State) : Res :=
  .next (s.when (s.mayTrain port && (s.port port).linkUp) (fun s =>
    let s1 := s.trained port speed width
    let differs := (s1.port port).rate != (s.port port).rate || width != (s.port port).width
    s1.setPort port { s1.port port with retrain := (s1.port port).retrain || differs }))

/-- L0P_DECISION (R89, R105): the port asks for a reduced width, or for its full width again. -/
def execL0pDecision (port width : Nat) (s : State) : Res :=
  .next (s.when (s.cfgB 0x2000 3 && (s.port port).linkUp && decide (3 ≤ (s.port port).rate)
      && [2, 4, 8, 16].contains width && decide (width ≤ (s.port port).width)) (fun s =>
    (s.setPort port { s.port port with l0pWidth := if width = (s.port port).width then 0 else width }).emit
      (.l0pRequest port width)))

/-- L1_IDLE_ENTRY (R92): the port has carried no TLP for the time in 2000h.04. -/
def execL1IdleEntry (port : Nat) (s : State) : Res :=
  .next (s.when ((s.port port).linkUp && !s.crispOn port && s.cfg 0x2000 4 != 0 && !(s.port port).l1) (fun s =>
    ((s.setPort port { s.port port with l1 := true }).emit (.l1Request port)).ltrUpdate port))

/-! ### Requests that fail, and translation (R96, R98) -/

/-- A request is outstanding. -/
def State.dmaLive (s : State) (r : Nat) : Bool := (Tbl.get {} s.dmas r).use.isSome

/-- The AER bit and the words of a failure. -/
def dmaFailKind : DmaFail → Nat × String
  | .unsupportedRequest => (aerUnsupported, "Unsupported Request")
  | .completerAbort => (aerAbort, "Completer Abort")
  | .poisoned => (aerPoisoned, "Poisoned TLP Received")
  | .ecrc => (aerEcrc, "ECRC Error")
  | .atsDenied => (aerUnsupported, "ATS translation with no access")

/-- DMA_REQUEST_FAILURE (R98, R131). -/
def execDmaRequestFailure (req : Nat) (why : DmaFail) (s : State) : Res :=
  .next (s.when (s.dmaLive req) (fun s => s.dmaFail req (dmaFailKind why).1 (dmaFailKind why).2))

/-- COMPLETION_TIMEOUT (R98, R131). -/
def execCompletionTimeout (req : Nat) (s : State) : Res :=
  .next (s.when (s.dmaLive req) (fun s => s.dmaFail req aerTimeout "Completion Timeout"))

/-- R96: an entry of the cache matches an invalidation; Global Invalidate names no PASID. -/
def AtcEntry.hit (e : AtcEntry) (fn : Nat) (pasid page : Option Nat) : Bool :=
  e.fn == fn && (pasid.isNone || e.pasid == pasid) && (match page with
    | none => true
    | some g => e.page == g)

/-- ATS_INVALIDATION_REQUEST (R96): matching entries go; the completion waits for every request that uses
a matching translation. At most 32 are outstanding per port. -/
def execAtsInvalidationRequest (port fn itag : Nat) (pasid page : Option Nat) (s : State) : Res :=
  .next (s.when ((s.func port fn).here && decide ((s.port port).invalidations.length < 32)) (fun s =>
    let x := s.port port
    let waits := (s.dmas.filter (fun d => d.2.port == port &&
      AtcEntry.hit ⟨d.2.fn, d.2.pasid, d.2.addr / 4096⟩ fn pasid page)).map (fun d => d.1)
    s.setPort port { x with atc := x.atc.filter (fun e => !e.hit fn pasid page)
                            invalidations := x.invalidations ++ [⟨itag, waits⟩] }))

/-- INVALIDATION_COMPLETE (R96). -/
def execInvalidationComplete (port itag : Nat) (s : State) : Res :=
  .next (s.when ((s.port port).invalidations.any (fun v => v.itag == itag && v.waits.isEmpty)) (fun s =>
    let x := s.port port
    (s.setPort port { x with invalidations := x.invalidations.filter (fun v => v.itag != itag)
                             atsInvalidations := satAdd 64 x.atsInvalidations 1 }).emit
      (.invalidationCompletion port itag)))

/-! ### Resets (R99, R100, R102) -/

/-- PERST_ASSERT (R99): a fundamental reset of the port; without main power only the pin is seen. -/
def execPerstAssert (port : Nat) (s : State) : Res :=
  .next (s.when (decide (port < 2)) (fun s =>
    let s1 := s.setPort port { s.port port with perst := true }
    if s.awake && s.portExists port then s1.portReset port 1 false else s1))

/-- HOT_RESET (R99). -/
def execHotReset (port : Nat) (s : State) : Res :=
  .next (s.when (s.awake && (s.port port).linkUp) (fun s => s.portReset port 2 true))

/-- LINK_DISABLE (R99). -/
def execLinkDisable (port : Nat) (s : State) : Res :=
  .next (s.when (s.awake && (s.port port).linkUp) (fun s => s.portReset port 3 true))

/-- PF_FUNCTION_LEVEL_RESET (R99): the physical function and its virtual functions, which go with VF Enable. -/
def execPfFunctionLevelReset (port : Nat) (s : State) : Res :=
  .next (s.when (s.awake && (s.func port 0).here) (fun s =>
    s.funcsReset port (s.funcsOf port) (fun f _ => if f = 0 then { here := true } else {})))

/-- VF_FUNCTION_LEVEL_RESET (R99). -/
def execVfFunctionLevelReset (port fn : Nat) (s : State) : Res :=
  .next (s.when (s.awake && fn != 0 && (s.func port fn).here) (fun s =>
    s.funcsReset port [fn] (fun _ _ => { here := true })))

/-- VF_ENABLE_CLEARED (R99): every virtual function of the port is removed. -/
def execVfEnableCleared (port : Nat) (s : State) : Res :=
  .next (s.when (s.awake && s.vfOn port) (fun s =>
    s.funcsReset port ((s.funcsOf port).filter (fun f => f != 0)) (fun _ _ => {})))

/-- CONTROLLER_RESET (R99, R146): CC.EN 1 to 0. -/
def execControllerReset (port fn : Nat) (s : State) : Res :=
  .next (s.when (s.reaches port fn && (s.func port fn).ccEn) (fun s => s.ctrlReset port fn))

/-- NVM_SUBSYSTEM_RESET (R99): both ports, as fundamental; only a physical function writes NSSR. -/
def execNvmSubsystemReset (port : Nat) (s : State) : Res :=
  .next (s.when (s.reaches port 0) (fun s =>
    let s1 := s.portReset 0 5 false
    if s.dual then s1.portReset 1 5 false else s1))

/-- R108: the admin queue bases break the rules of the controller memory buffer. -/
def State.badBases (s : State) (p f : Nat) : Bool :=
  let x := s.func p f
  s.isCmb p f x.acq || (s.isCmb p f x.asq &&
    decide (x.cmbBase + s.cmbShare p f < x.asq + 64 * (x.aqa % 4096 + 1)))

/-- R107, R108: the admin queues of a controller, from AQA, ASQ and ACQ. -/
def State.stdAdmin (s : State) (p f : Nat) : State :=
  let x := s.func p f
  let cmb := s.isCmb p f x.asq
  (s.setSq (.std p f 0) { live := true, base := if cmb then x.asq - x.cmbBase else x.asq, inCmb := cmb
                          size := x.aqa % 4096 + 1 }).setCq (.std p f 0)
    { live := true, base := x.acq, size := x.aqa / 2 ^ 16 % 4096 + 1 }

/-- CONTROLLER_ENABLE (R100, R108, R447): CC.EN 0 to 1. The controller is ready at once with CRIME or once every
map is in place; a wrong base, or a failure that ended service, sets CSTS.CFS and leaves it not ready. -/
def execControllerEnable (port fn : Nat) (crime : Bool) (s : State) : Res :=
  .next (s.when (s.reaches port fn && !(s.func port fn).ccEn) (fun s =>
    let x := s.func port fn
    let s1 := s.setFunc port fn { x with
      ccEn := true, crime := crime
      cc := x.cc / 2 * 2 % 2 ^ 24 + x.cc / 2 ^ 25 * 2 ^ 25 + 1 + bitIf crime 24 }
    if s.badBases port fn || s.mode.fatal != 0 then s1.setFunc port fn { s1.func port fn with cfs := true }
    else
      let s2 := s1.stdAdmin port fn
      s2.setFunc port fn { s2.func port fn with rdy := crime || s.mode.mapReady }))

end Sys2Proof.Machine
end

