-- ==== Sys2Proof/Machine/Cmd.lean ====
section
/-! DEFINITION. The life of a command outside its own work (R110 to R133, R162 to R173, R195, R212, R213, R378, R379): fetch,
parse, admission, release, steps, completion, coalesced interrupts, queue restart, and buffers. -/

namespace Sys2Proof.Machine

/-! ### The parser (R112, R114, R115, R118, R121, R428) -/

/-- The opcode is supported on its queue; a Tenant's dictionary commands need 1100h.01 (R63). -/
def State.opcodeOk (s : State) (q : QKey) (e : Sqe) : Bool :=
  if q.isAdmin then
    (if s.lifecycle = 5 then e.opcode == 0x06 || (e.opcode == 0x02 && (e.cdw10 % 256 == 1 || e.cdw10 % 256 == 2)) else true)
      && (adminOpcode q.isManager e.opcode
          || (!q.isManager && (e.opcode == 0xC8 || e.opcode == 0xC9) && s.cfgB 0x1100 1))
  else
    ioOpcode e.opcode
      && !(zoneOpcode e.opcode && (s.ns e.nsid).st != 0 && (s.ns e.nsid).kind != 1)

/-- The status with which the parser completes an entry, if it does. (DEDUCED, log entry 28) -/
def State.parseStatus (s : State) (q : QKey) (marked : Bool) (e : Sqe) : Option Status :=
  if marked then some ⟨0, 4⟩
  else if Sqe.reservedBad q.isAdmin e || e.fuse != 0 || (q.isAdmin && e.psdt != 0) then some ⟨0, 2⟩
  else if !s.opcodeOk q e then some ⟨0, 1⟩ else none

/-- A command of the same queue with the same identifier is still alive (R121). (PRESUMED, log entry 36) -/
def State.cidTaken (s : State) (q : QKey) (cid : Nat) : Bool :=
  (s.sq q).window.any (fun w => w.e.cid == cid) || s.tags.any (fun x => x.2.st != .free && x.2.q == q && x.2.sqe.cid == cid && x.2.mi.isNone)

/-- The home cluster of a queue's commands (R17, R146). -/
def State.homeOf (s : State) (q : QKey) : Nat := s.hostEngine q / 8

/-- R3: the queue, the cluster, the mode and Guard, as an entry arrives. -/
def State.arrivesGood (s : State) (q : QKey) : Bool :=
  let c := s.island (s.homeOf q)
  (s.sq q).inCmb && decide (s.mode.base = .service) && !s.guard && (decide (c.st = .running) || decide (c.st = .clockGated))

/-- R391: the power state of the physical functions: the lowest-numbered one set on either. -/
def State.psWanted (s : State) : Nat :=
  ([0, 1].filter (fun p => s.portExists p)).foldl (fun m p => min m (s.ctrl (s.owner (.std p 0 0))).ps) 4

/-- R133: an I/O command that arrives ends a non-operational state of its controller. -/
def State.psArrive (s : State) (c : Nat) : State :=
  let x := s.ctrl c
  if x.ps < 3 then s
  else
    let s1 := s.setCtrl c { x with ps := x.lastOperational }
    { s1 with mode := { s1.mode with psNext := s1.psWanted } }

/-- One fetched entry: completed at the parser, ended by the mode (R284, R387), or in its fetch window. -/
def State.entryIn (s : State) (q : QKey) (marked : Bool) (e : Sqe) : State :=
  match s.parseStatus q marked e with
  | some st => ((s.engineAsk (s.hostEngine q) 1).addError (s.owner q) { sqid := q.qid, cid := e.cid, status := st }).cqPut q e.cid st
  | none =>
    if s.cidTaken q e.cid then
      { s with cmds := { s.cmds with idConflicts := satAdd 32 s.cmds.idConflicts 1 } }.cqPut q e.cid ⟨0, 3⟩
    else if s.mode.base = .flush then (if s.mode.postWindow then s.cqPut q e.cid ⟨0, 5⟩ else s)
    else if s.mode.maintStopped && !q.isAdmin then s.cqPut q e.cid s.maintStatus
    else
      let s1 := s.setSq q { s.sq q with window := (s.sq q).window ++ [⟨e, s.aon.now, s.arrivesGood q⟩] }
      if q.isAdmin then s1 else s1.psArrive (s1.owner q)

/-- The line of the controller memory buffer that holds an entry of a queue has a mark (R98). -/
def State.lineMarked (s : State) (q : QKey) (i : Nat) : Bool :=
  let pf := s.qfunc q
  (s.sq q).inCmb && Tbl.get false (s.port pf.1).cmbMarked ((s.cmbBase pf.1 pf.2 + (s.sq q).base + 64 * i) / 64)

/-- The entries of one fetch, in queue order. -/
def State.entriesIn (s : State) (q : QKey) (l : List Sqe) : State :=
  s.forEach l (fun e s =>
    let x := s.sq q
    let s1 := s.setSq q { x with head := if x.head + 1 = x.size then 0 else x.head + 1 }
    s1.entryIn q (s.lineMarked q x.head) e)

/-- ENTRY_FETCH (R108, R110, R112, R121): the read of entries from host memory returns, or the pipeline reads them from the
controller memory buffer. -/
def execEntryFetch (q : QKey) (entries : List Sqe) (s : State) : Res :=
  .next (
    if (s.sq q).inCmb then
      s.when (s.awake && !entries.isEmpty && decide (entries.length ≤ s.fetchCount q) && !s.held (s.qfunc q).1 (s.qfunc q).2)
        (fun s => s.entriesIn q entries)
    else match s.dmas.find? (fun d => d.2.use == some (.entries q)) with
      | none => s.unlisted
      | some d =>
        if d.2.len ≠ 64 * entries.length ∨ (s.sq q).live = false then s.unlisted
        else ((s.dmaEnd d.1).entriesIn q entries).fetchAsk q)

/-! ### Admission: the checks that decide a status (R195, R212, R213, R100, R151, R428) -/

/-- Leave a commit's fields that a boundary reaches in force; the rest wait for theirs (R339). -/
def State.boundaryPart (s : State) (i : Nat) (sel : Nat → Bool) : State :=
  match s.pendingCommit i with
  | none => s
  | some c =>
    if c.fields.all (fun x => sel x.1) then s.boundary i
    else
      let s1 := s.forceFields i (c.fields.filter (fun x => sel x.1))
      { s1 with dict := { s1.dict with commits := s1.dict.commits.map (fun (x : Nat × PendingCommit) =>
          if x.1 = i then (i, { x.2 with fields := x.2.fields.filter (fun y => !sel y.1) }) else x) } }

/-- The records whose boundary is the next command admission (R63, R109, R212, R339), and a namespace's own (R216). -/
def State.admissionBoundary (s : State) (n : Nat) : State :=
  let s1 := (((s.boundary 0x2003).boundary 0x2004).entryBoundary 0x1100 1).protectBoundary
  let s2 := s1.boundaryPart 0x7400 (fun f => f == 3 || f == 4)
  if 1 ≤ n ∧ n ≤ Config.namespaces then s2.boundary (0x5800 + (n - 1)) else s2

/-- R212: what Read-Only forbids. -/
def Sqe.roForbids (e : Sqe) : Bool :=
  e.reserves || (e.opcode == 0x79 && (Sqe.zsa e == 0x02 || Sqe.zsa e == 0x03 || Sqe.zsa e == 0x04 || Sqe.zsa e == 0x11))

/-- The zone that a write names is Read Only. -/
def State.zoneIsRo (s : State) (e : Sqe) : Bool :=
  (s.ns e.nsid).kind == 1 && e.reserves && decide ((s.zone e.nsid (e.slba / s.zsize e.nsid)).st = .readOnly)

/-- Granules that a command reserves (R195); a Copy reserves when its source ranges are known.
(DESIGN CHOICE, log entry 34) -/
def Sqe.needs (e : Sqe) : Nat := if e.reserves && e.opcode != 0x19 then 4 * e.nlb else 0

/-- R39: the path of a Tenant: a page's queue, or a queue of a virtual function (DEDUCED for I/O queues, log entry 71). -/
def QKey.ofTenant : QKey → Bool
  | .page _ _ => true
  | .std _ f _ => f != 0

/-- The first failing check of an I/O command, in the order of R213; C0h of a Tenant follows R338.
(DEDUCED, log entry 29) -/
def State.admitStatus (s : State) (q : QKey) (c : Nat) (e : Sqe) : Option Status :=
  let n := e.nsid
  let y := s.ns n
  if !s.hostDataServed then some ⟨0, 0x0B⟩
  else if e.opcode = 0xC0 then (if QKey.ofTenant q && !s.cfgB 0x7400 4 then some ⟨0, 1⟩ else none)
  else if n = 0 ∨ Config.namespaces < n ∨ y.st = 0 ∨ y.st = 2 ∨ y.attached.contains c = false then some ⟨0, 0x0B⟩
  else if y.st = 3 then some ⟨0, 0x84⟩
  else if !s.mode.mapReady then some ⟨0, 0x82⟩
  else if (e.fromHost || e.toHost) && decide (512 < e.nlb) then some ⟨0, 2⟩
  else if e.ranged && decide (y.nsze < e.slba + (if e.opcode = 0x7D then 1 else e.nlb)) then some ⟨0, 0x80⟩
  else if s.mode.readonlyCauses ≠ 0 ∧ Sqe.roForbids e = true then
    (if s.mode.readonlyCauses.testBit 0 && s.zoneIsRo e then some ⟨1, 0xBA⟩ else some ⟨0, 0x20⟩)
  else if Sqe.needs e ≠ 0 ∧ y.kind ≠ 1 ∧ s.poolFits n (Sqe.needs e) = false then some ⟨0, 0x81⟩
  else none

/-- A completion with Capacity Exceeded is counted (R215, R216). -/
def State.countExceeded (s : State) (n : Nat) (st : Status) : State :=
  if st = ⟨0, 0x81⟩ then
    { s.setNs n { s.ns n with capExceeded := satAdd 32 (s.ns n).capExceeded 1 } with
      pool := { s.pool with capExceeded := satAdd 64 s.pool.capExceeded 1 } }
  else s

/-! ### Admission: what makes an entry wait (R111, R120, R124, R167, R168, R169, R195, R283, R379) -/

/-- R195: the reservation waits: the allowance is full, or a thin namespace has no room beside what is in flight. -/
def State.poolWaits (s : State) (n need : Nat) : Bool :=
  need != 0 && (decide (s.poolA < s.pool.inflight + need) ||
    (s.thin n && (s.ns n).kind != 1 && decide (s.poolRoom n - (s.pool.inflight : Int) < (need : Int))))

/-- Bytes of acknowledged data not yet programmed, and of buffers granted to writes not yet committed (R283). -/
def State.writeHeld (s : State) : Nat :=
  4096 * ((s.wbuf.blks.filter (fun x => x.2.committed && x.2.program.isNone && !x.2.programmed)).length +
    ((s.tags.filter (fun x => !x.2.admin && x.2.stages && x.2.st.uncommitted)).map (fun x => x.2.blocks)).sum)

/-- Blocks for which a write takes buffers. -/
def Sqe.stageBlocks (e : Sqe) : Nat :=
  if e.opcode == 0x01 || e.opcode == 0x7D || (e.opcode == 0x08 && !e.deac) then e.nlb else 0

/-- The pair that a write prefers (R378). -/
def State.pairWanted (s : State) : Nat := if s.bufFree 4 2 < s.bufFree 5 2 then 5 else 4

/-- A write finds no buffers: its entry stays in its window (R283, R379). -/
def State.writeWaits (s : State) (e : Sqe) (cls : Nat) : Bool :=
  let k := Sqe.stageBlocks e
  k != 0 && (decide (s.holdW < s.writeHeld + 4096 * k) || (s.bufFind true s.pairWanted 2 k cls).isNone)

/-- R111: the I/O queues of a slice that have entries. -/
def State.turnList (s : State) (c : Nat) : List Nat :=
  (s.sqs.filter (fun x => x.2.live && !x.2.window.isEmpty && !(codeQ x.1).isAdmin && s.owner (codeQ x.1) == c)).map (fun x => x.1)

/-- R111: commands that one queue gives in its turn: 2 to the Arbitration Burst. -/
def State.burst (s : State) (c : Nat) : Nat := 2 ^ ((Tbl.get none (s.ctrl c).features 1).getD 0 % 8)

/-- The queue whose turn it is. -/
def State.turnOf (s : State) (c : Nat) : Option Nat :=
  let l := s.turnList c
  let last := Tbl.get (0, 0) s.sched.turns c
  if l.contains last.1 && decide (0 < last.2) && decide (last.2 < s.burst c) then some last.1
  else match l.find? (fun k => decide (last.1 < k)) with
    | some k => some k
    | none => l.head?

/-- Note a command taken from a queue. -/
def State.turnTaken (s : State) (c k : Nat) : State :=
  let last := Tbl.get (0, 0) s.sched.turns c
  let cnt := if last.1 = k ∧ last.2 < s.burst c then last.2 + 1 else 1
  { s with sched := { s.sched with turns := Tbl.set (0, 0) s.sched.turns c (k, cnt) } }

/-- Admin commands that a controller may still have admitted in this epoch (R169). -/
def State.adminLeft (s : State) (c : Nat) : Bool := decide (Tbl.get 0 s.sched.adminUsed c < s.cfg 0x4000 0x0A)

/-- R111: an admin entry of the slice waits that may be admitted now. -/
def State.adminFirst (s : State) (c : Nat) : Bool :=
  s.adminLeft c && s.sqs.any (fun x => x.2.live && !x.2.window.isEmpty && (codeQ x.1).isAdmin && s.owner (codeQ x.1) == c)

/-- R119, R120, R146, R168: no tag for a controller. -/
def State.tagWaits (s : State) (c tag : Nat) : Bool :=
  let mine := (s.tags.filter (fun x => x.2.st != .free && x.2.slice == c)).length
  decide (Config.tags - s.chip.tagsWithdrawn ≤ tag) || decide ((s.tag tag).st ≠ .free)
    || (if c < 4096 then decide (s.cfg (0x3000 + c) 0x0E ≤ mine) else decide (64 ≤ mine))

/-! ### Costs and credit (R164, R167, R173) -/

/-- The channels that hold data of a namespace. -/
def State.nsChannels (s : State) (n : Nat) : List Nat :=
  if s.profile then
    (((s.entsOf n (fun _ => true)).filter (fun x => x.2.onFlash)).map (fun x => s.locChannel x.2.loc)
      ++ (s.zonesOf n).flatMap (fun z => if z.2.programmed = 0 then [] else s.dataMembers (s.locSb z.2.extent))).dedup
  else []

/-- R173: the deepest pause step that a namespace's data meets. -/
def State.nsStep (s : State) (n : Nat) : Nat := (s.nsChannels n).foldl (fun m c => max m (s.stepOf c)) 0

/-- R164: the cost of a command in units. -/
def State.costUnits (s : State) (e : Sqe) (copied : Nat) : Nat :=
  let wc := s.cfg 0x4000 6
  match e.opcode with
  | 0x02 => e.nlb
  | 0x05 => e.nlb
  | 0x0C => e.nlb
  | 0x01 => e.nlb * wc
  | 0x04 => e.nlb * wc
  | 0x7D => e.nlb * wc
  | 0x19 => copied * (1 + wc)
  | 0xC0 => ceilDiv (Sqe.inLen e) 4096 + ceilDiv (Sqe.outLimit e) 4096
  | _ => 1

/-- The cost in 1/256 unit, under thermal pacing. -/
def State.cost (s : State) (e : Sqe) (copied : Nat) : Nat :=
  256 * s.costUnits e copied * (4 + pauseQuarters (s.nsStep e.nsid)) / 4

/-- R167: which case admits a slice's entry. -/
def State.creditCase (s : State) (n : Nat) : Option Nat :=
  let p := s.slPort n
  let pool := s.portPool p
  let g := Tbl.get 0 s.sched.grant n
  let rank (k : Nat) : Bool := (s.slicesOnPort p).all (fun m =>
    m == k || !s.entryWaits m || decide (s.slClass k < s.slClass m)
      || (s.slClass k == s.slClass m && decide (s.credit k * (s.share m : Int) ≤ s.credit m * (s.share k : Int))))
  if 0 < s.credit n then some 1
  else if s.slClass n = 0 ∧ -((s.cfg 0x4000 0x0B * g : Nat) : Int) < s.credit n ∧ pool.crispUsed < pool.crisp then some 2
  else if 0 < pool.spill ∧ rank n = true then some 3 else none

/-- Charge a cost to a slice, under the case that admits it. -/
def State.charge (s : State) (n k cost : Nat) : State :=
  let p := s.slPort n
  let pool := s.portPool p
  let crisp := s.slClass n == 0
  let used := if crisp then pool.crispUsed + cost else pool.crispUsed
  let spilt := if k = 3 then min pool.spill cost else 0
  let s1 := (s.setCredit n (s.credit n - ((cost - spilt : Nat) : Int))).setPortPool p { pool with crispUsed := used, spill := pool.spill - spilt }
  let s2 := if crisp && decide (pool.crispUsed < pool.crisp) && decide (pool.crisp ≤ used) then s1.schBit 8 else s1
  let s3 := if k = 3 then { s2 with sched := { s2.sched with spillAdmits := satAdd 64 s2.sched.spillAdmits 1 } } else s2
  if k = 3 && spilt == pool.spill && (s3.slicesOnPort p).any (fun m => s3.entryWaits m) then s3.schBit 10 else s3

/-- An entry waits for credit or spill: counted once. -/
def State.creditWait (s : State) (q : QKey) (n : Nat) : State :=
  if Tbl.get false s.sched.waited (2 * qcode q) then s
  else
    let s1 := { s with sched := { s.sched with waited := Tbl.set false s.sched.waited (2 * qcode q) true
                                               creditWaits := satAdd 64 s.sched.creditWaits 1 } }
    if s1.slClass n = 0 then s1.schBit 9 else s1

/-- An entry waits for a tag: counted once (R136). -/
def State.tagWait (s : State) (q : QKey) : State :=
  if Tbl.get false s.sched.waited (2 * qcode q + 1) then s
  else { s with sched := { s.sched with waited := Tbl.set false s.sched.waited (2 * qcode q + 1) true }
                cmds := { s.cmds with tagWaits := satAdd 64 s.cmds.tagWaits 1 } }

/-! ### Admission (R119, R122, R167, R195, R419) -/

/-- Take the entry from its window into a tag, in BUILD. -/
def State.tagIn (s : State) (q : QKey) (t : Nat) (w : WinEnt) : State :=
  let c := s.owner q
  let e := w.e
  let s1 := s.setSq q { s.sq q with window := (s.sq q).window.drop 1 }
  let s2 := { s1 with
    cmds := { s1.cmds with nextOrder := s1.cmds.nextOrder + 1 }
    sched := { s1.sched with waited := Tbl.set false (Tbl.set false s1.sched.waited (2 * qcode q) false) (2 * qcode q + 1) false } }
  (s2.setTag t { st := .build, slice := c, gen := (s.slice c).gen, q := q, sqe := e, cls := s.ctrlClass c, order := s.cmds.nextOrder
                 admin := q.isAdmin, manager := q.isManager, fenced := !(q.isAdmin && !QKey.onPage q)
                 slba := if e.ranged then e.slba else 0, nlb := if e.ranged then e.nlb else 0, startAt := w.since
                 qualifies := w.good && e.opcode == 0x02 && e.nlb == 1
                 mode := if q.isAdmin then 0 else s.cfg (0x5800 + (e.nsid - 1)) 0x20 }).fetchAsk q

/-- R419: a namespace without a key gets one at its first write-type command. -/
def State.keyGenerate (s : State) (e : Sqe) : State :=
  if e.writeType && (s.ns e.nsid).key.isNone && (s.ns e.nsid).st == 1 then
    ({ s.setNs e.nsid { s.ns e.nsid with key := some s.sec.draws } with
       sec := { s.sec with draws := s.sec.draws + 1, erased := false } }).keyTableWrite
  else s

/-- The stream bank nearest a channel (R21, R378). -/
def bankNear (ch : Nat) : Nat :=
  (List.range 4).foldl (fun b k =>
    let d (k : Nat) : Nat := min (16 + k - (5 + ch / 8)) (24 - (16 + k - (5 + ch / 8)))
    if d k < d b then k else b) 0

/-- Ask for a command's buffers (R378): reads in stream SRAM, writes in DRAM. (DESIGN CHOICE, log entry 32) -/
def State.askBuffers (s0 : State) (t : Nat) : State :=
  let s := s0.boundary 0x7900
  let x := s.tag t
  let k := Sqe.stageBlocks x.sqe
  if k ≠ 0 then s.bufRequest t true s.pairWanted 2 k x.cls
  else if x.sqe.readType && x.sqe.opcode != 0x19 then
    let bank := match (s.locate x.sqe.nsid x.slba).1 with
      | .flash l => bankNear (s.locChannel l)
      | _ => 0
    s.bufRequest t false bank 2 x.nlb x.cls
  else s

/-- An I/O entry is admitted: its charge, its turn, its reservation and its buffers; or it fails at once. -/
def State.admitIo (s : State) (q : QKey) (t k : Nat) (w : WinEnt) : State :=
  let c := s.owner q
  let e := w.e
  let s1 := ((s.tagIn q t w).charge c k (s.cost e 0)).turnTaken c (qcode q)
  match s.admitStatus q c e with
  | some st => (s1.countExceeded e.nsid st).commitTag t st
  | none =>
    let need := Sqe.needs e
    let s2 := { s1.setTag t { s1.tag t with need := need } with
                pool := { s1.pool with inflight := s1.pool.inflight + need
                                       lastWriteAt := if e.writeType then s.aon.now else s1.pool.lastWriteAt } }
    (s2.keyGenerate e).askBuffers t

/-- Admission goes on in the base mode: Service, Read-Only and Maintenance, and Bring-Up for controllers that are ready
early (R100), unless a failure has ended service (R447). -/
def State.admits (s : State) : Bool := (s.inService || decide (s.mode.base = .bringUp)) && s.mode.fatal == 0

/-- COMMAND_ADMISSION (R111, R120, R124, R167, R168, R169, R195, R212, R213, R378, R419): `tag` is the free tag that the tag
store gives. An entry that has to wait stays in its window. (DESIGN CHOICE, log entry 30) -/
def execCommandAdmission (q : QKey) (tag : Nat) (s : State) : Res :=
  .next (match (s.sq q).window with
    | [] => s.unlisted
    | w :: _ =>
      if !s.admits then s.unlisted
      else
        let s0 := s.admissionBoundary (if q.isAdmin then 0 else w.e.nsid)
        let c := s0.owner q
        if s0.tagWaits c tag then s0.tagWait q
        else if q.isAdmin then
          if !s0.adminLeft c then s0
          else { s0.tagIn q tag w with sched := { (s0.tagIn q tag w).sched with
                   adminUsed := Tbl.modify 0 s0.sched.adminUsed c (fun v => v + 1) } }
        else if s0.adminFirst c || s0.turnOf c != some (qcode q) || s0.mode.maintStopped || decide (3 ≤ s0.mode.psInForce) then s0
        else if decide (Config.trackerRanges ≤ s0.tracked (s0.homeOf q)) then s0
        else if (s0.admitStatus q c w.e).isNone && (s0.poolWaits w.e.nsid (Sqe.needs w.e) || s0.writeWaits w.e (s0.ctrlClass c)) then s0
        else match s0.creditCase c with
          | none => s0.creditWait q c
          | some k => s0.admitIo q tag k w)

/-! ### Release (R13, R122, R124, R125) -/

/-- A write to a zone has passed the zone table. -/
def State.zonePassed (s : State) (t : Nat) : Bool :=
  let x := s.tag t
  !((s.ns x.sqe.nsid).kind == 1 && x.sqe.reserves && !x.admin) || x.passedZone

/-- The chain of the next segment names every buffer and every map result. -/
def State.chainReady (s : State) (t : Nat) : Bool :=
  let x := s.tag t
  let cur := (x.nextStep.map (fun p => p.seg)).getD 0
  x.built && !x.admin && x.st.uncommitted && !x.waitsFill && decide (x.segs < x.segCount) && decide (x.segs ≤ cur + 1)
    && !s.chip.waitq.any (fun r => r.tag == t) && s.zonePassed t
    && !s.dmaAny (fun u => match u with
        | .list k => k == t
        | .infoList k => k == t
        | _ => false)

/-- CHAIN_COMPLETE (R11, R13, R122, R124): the first segment's chain releases the command, or leaves it waiting behind an
overlap; a later one extends the plan that runs. -/
def execChainComplete (tag : Nat) (s : State) : Res :=
  .next (s.when (s.chainReady tag) (fun s =>
    let x := s.tag tag
    let s1 := s.setTag tag { x with segs := x.segs + 1 }
    if x.st = .build then
      (if s1.overlapped tag then (s1.setTag tag { s1.tag tag with st := .wait }).advance tag else s1.releaseTag tag)
    else s1.advance tag))

/-- OVERLAP_RESOLVED (R122, R124). -/
def execOverlapResolved (tag : Nat) (s : State) : Res :=
  .next (s.when (decide ((s.tag tag).st = .wait) && !s.overlapped tag) (fun s => s.releaseTag tag))

/-! ### Steps (R11, R122, R123, R225) -/

/-- STEP_COMPLETE (R11, R122, R123, R128): a started step ends. After the command's status is committed, or while it drains,
the step's end is all that is left of it. -/
def execStepComplete (tag : Nat) (result : StepResult) (s : State) : Res :=
  let x := s.tag tag
  .next (match x.nextStep with
    | none => s.unlisted
    | some p =>
      if !x.inFlight then s.unlisted
      else match x.st with
        | .post => s.setTag tag { x with inFlight := false }
        | .drain => s.drainEnd tag
        | _ => match result with
          | .error sct sc =>
            let s1 := s.failTag tag sct sc
            s1.setTag tag { s1.tag tag with inFlight := false }
          | .done =>
            if p.kind = .mapupd && s.jrnHeld then s.jrnWait
            else s.when (s.stepDone tag p) (fun s =>
              let s1 := s.stepNext tag p
              if p.kind = .mapupd then s1.commitPump else s1))

/-! ### Completion (R94, R122, R131, R135, R152) -/

/-- R135: the first failed block of a command and the run of failed blocks from it. -/
def State.failedRun (s : State) (t : Nat) : Option (Nat × Nat) :=
  let x := s.tag t
  let bad (b : Nat) : Bool := (s.blk t b).failed
  match (List.range x.blocks).find? bad with
  | none => none
  | some b => some (b, ((List.range (x.blocks - b)).takeWhile (fun i => bad (b + i))).length)

/-- The LBA of a block of a command: of a Copy's sources, or of its own range. -/
def Tag.lbaOf (x : Tag) (b : Nat) : Nat :=
  if x.sqe.opcode = 0x19 then ((x.ranges.flatMap (fun r => (List.range r.2).map (fun i => r.1 + i))).getD b 0) else x.slba + b

/-- The Error Information entry of an unrecovered read (R135). -/
def State.readError (s : State) (t : Nat) : State :=
  let x := s.tag t
  if x.status ≠ ⟨2, 0x81⟩ then s
  else match s.failedRun t with
    | some (b, k) => s.addError (s.owner x.q) ⟨x.q.qid, x.sqe.cid, x.status, x.sqe.nsid, x.lbaOf b, max 1 k⟩
    | none => s

/-- R2, R3: the controller-added latency of a qualifying read. -/
def State.sampleRead (s : State) (t : Nat) : State :=
  let x := s.tag t
  let s1 := { s with sched := { s.sched with completions := s.sched.completions + 1 } }
  if x.qualifies && x.issueAt != 0 && decide ((s.blk t 0).mode ≠ 2) then
    { s1 with sched := { s1.sched with samples := s1.sched.samples ++ [(x.issueAt - x.startAt) + (s.aon.now - x.lastAt)] } }
  else s1

/-- What the end of a write to a zone leaves to the zone. -/
def State.zoneEndWatch (s : State) (t : Nat) : State :=
  let x := s.tag t
  if x.passedZone then s.zoneFullWatch x.sqe.nsid (x.slba / s.zsize x.sqe.nsid) else s

/-- A port still posts: its link is up, and Flush has not closed posting (R284). -/
def State.portPosts (s : State) (t : Nat) : Bool :=
  (s.port (s.qfunc (s.tag t).q).1).linkUp && (decide (s.mode.base ≠ .flush) || s.mode.postWindow)

/-- COMPLETION_POST (R94, R122, R131, R152, R412): a command that a management path carries is answered there. -/
def execCompletionPost (tag : Nat) (s : State) : Res :=
  let x := s.tag tag
  .next (match x.mi with
    | some path => s.when (decide (x.st = .post) && !x.inFlight) (fun s =>
        ((s.emit (.mgmt path "admin status" (x.status.sct * 256 + x.status.sc))).emit (.mgmt path "admin dword 0" x.dw0)).freeTag tag)
    | none => s.when (s.postReady tag && s.portPosts tag) (fun s =>
        ((((s.readError tag).sampleRead tag).zoneEndWatch tag).postTag tag).settleWatch))

/-- INTERRUPT_COALESCING_TIMER (R116): the aggregation time of a completion queue has run out. -/
def execInterruptCoalescingTimer (q : QKey) (s : State) : Res :=
  .next (s.when (decide (0 < (s.cq q).coalesced)) (fun s => (s.setCq q { s.cq q with coalesced := 0 }).cqInterrupt q))

/-! ### Queue Restart (R132) -/

/-- An admin command in BUILD with an opcode. -/
def State.adm (s : State) (t op : Nat) : Bool :=
  let x := s.tag t
  x.admin && decide (x.st = .build) && !x.built && x.sqe.opcode == op

/-- Restart a frozen queue. -/
def State.restart (s : State) (q : QKey) (cq : Bool) : State :=
  if cq then
    let s1 := s.setCq q { s.cq q with frozen := false }
    let fed (x : Nat × Sq) : Bool := x.2.live && (codeQ x.1).withQid x.2.cqid == q
    let s2 := s1.forEach s1.sqs (fun x s =>
      if fed x && !(s.sq (codeQ x.1)).fetchFail then s.setSq (codeQ x.1) { s.sq (codeQ x.1) with frozen := false } else s)
    (s2.cqRelease q).forEach s2.sqs (fun x s => if fed x then s.fetchAsk (codeQ x.1) else s)
  else (s.setSq q { s.sq q with frozen := false, fetchFail := false }).fetchAsk q

/-- QUEUE_RESTART (R132). -/
def execQueueRestart (tag : Nat) (s : State) : Res :=
  .next (s.when (s.adm tag 0xC6) (fun s =>
    let e := (s.tag tag).sqe
    let cq := e.cdw10.testBit 16
    let q := (s.tag tag).q.withQid (e.cdw10 % 2 ^ 16)
    if !(if cq then (s.cq q).live && (s.cq q).frozen else (s.sq q).live && (s.sq q).frozen) then s.commitTag tag ⟨0, 0x0C⟩
    else (s.restart q cq).succeed tag))

/-! ### Returned buffers (R379, R380) -/

/-- The lowest tag that holds buffers of a pool. -/
def State.bufHolder (s : State) (arena size n : Nat) : Option Nat :=
  (s.tags.find? (fun x => x.2.buffers.any (fun b => b.1 == arena && b.2.1 == size && decide (n ≤ b.2.2)))).map (fun x => x.1)

/-- Take buffers off a list of holdings. -/
def dropBuffers (arena size n : Nat) : List (Nat × Nat × Nat) → List (Nat × Nat × Nat)
  | [] => []
  | b :: l =>
    if b.1 = arena ∧ b.2.1 = size ∧ n ≤ b.2.2 then (if b.2.2 = n then l else (arena, size, b.2.2 - n) :: l)
    else b :: dropBuffers arena size n l

/-- BUFFER_RETURN (R378, R379, R380, R381). -/
def execBufferReturn (arena size count : Nat) (s : State) : Res :=
  .next (s.when (s.awake && decide (0 < count)) (fun s0 =>
    let s := s0.boundary 0x7900
    let s1 := match s.bufHolder arena size count with
      | some t => s.setTag t { s.tag t with buffers := dropBuffers arena size count (s.tag t).buffers }
      | none => s
    s1.bufReturn arena size count))

end Sys2Proof.Machine
end

