-- ==== Sys2Proof/Machine/Admin.lean ====
section
/-! DEFINITION. Admin commands that every controller has (R107, R108, R113, R114, R116, R117, R127 to R129, R133, R146, R147,
R208, R209, R229, R391, R455). -/

namespace Sys2Proof.Machine

/-! ### Queues (R107, R108, R129, R145, R146) -/

/-- I/O queues of a kind that satisfy a test. -/
def ioQueues (live : List (Nat × Bool)) (p : QKey → Bool) : Nat :=
  (live.filter (fun x => x.2 && !(codeQ x.1).isAdmin && p (codeQ x.1))).length

def State.liveSqs (s : State) : List (Nat × Bool) := s.sqs.map (fun x => (x.1, x.2.live))
def State.liveCqs (s : State) : List (Nat × Bool) := s.cqs.map (fun x => (x.1, x.2.live))

/-- Queues of the same controller. -/
def QKey.sameCtrl : QKey → QKey → Bool
  | .std p f _, .std p' f' _ => p == p' && f == f'
  | .page n _, .page n' _ => n == n'
  | _, _ => false

/-- A queue identifier that a create may not name: R107's limits, given the queues of the kind that live. -/
def State.qidBad (s : State) (q : QKey) (live : List (Nat × Bool)) : Bool :=
  q.qid == 0 || decide (Config.ioQueuePairs ≤ ioQueues live (fun _ => true)) ||
    (match q with
     | .page n k => decide (s.cfg (0x3000 + n) 0x0C ≤ k)
     | .std p f k => !stdDoorbell f (0x1000 + 8 * k) ||
        (match s.stdqSlice p f with
         | some n => decide (s.cfg (0x3000 + n) 0x0D ≤ ioQueues live (fun x => QKey.sameCtrl x q))
         | none => true))

/-- A standard admin queue of a function without a STDQ slice creates no queues (R146). -/
def State.noStdq (s : State) : QKey → Bool
  | .page _ _ => false
  | .std p f _ => (s.stdqSlice p f).isNone

/-- CREATE_IO_CQ (R107, R108, R145, R146). -/
def execCreateIoCq (tag : Nat) (s : State) : Res :=
  .next (s.when (s.adm tag 0x05) (fun s =>
    let e := (s.tag tag).sqe
    let q := (s.tag tag).q.withQid (e.cdw10 % 2 ^ 16)
    let pf := s.qfunc q
    let v := e.cdw11 / 2 ^ 16
    let vectors := match q with
      | .page _ _ => 4
      | .std _ f _ => if f = 0 then 2048 else 256
    if s.noStdq q then s.commitTag tag ⟨0, 0x0C⟩
    else if s.qidBad q s.liveCqs || (s.cq q).live then s.commitTag tag ⟨1, 1⟩
    else if e.cdw10 / 2 ^ 16 = 0 then s.commitTag tag ⟨1, 2⟩
    else if !e.cdw11.testBit 0 then s.commitTag tag ⟨0, 2⟩
    else if vectors ≤ v then s.commitTag tag ⟨1, 8⟩
    else if s.isCmb pf.1 pf.2 e.prp1 then s.commitTag tag ⟨0, 0x12⟩
    else if e.prp1 % 4096 ≠ 0 then s.commitTag tag ⟨0, 0x13⟩
    else (s.setCq q { live := true, base := e.prp1, size := e.cdw10 / 2 ^ 16 + 1, vector := v, ien := e.cdw11.testBit 1 }).succeed tag))

/-- CREATE_IO_SQ (R107, R108, R146). -/
def execCreateIoSq (tag : Nat) (s : State) : Res :=
  .next (s.when (s.adm tag 0x01) (fun s =>
    let e := (s.tag tag).sqe
    let q := (s.tag tag).q.withQid (e.cdw10 % 2 ^ 16)
    let pf := s.qfunc q
    let size := e.cdw10 / 2 ^ 16 + 1
    let cqid := e.cdw11 / 2 ^ 16
    let cmb := s.isCmb pf.1 pf.2 e.prp1
    let base := if cmb then e.prp1 - (s.func pf.1 pf.2).cmbBase else e.prp1
    if s.noStdq q then s.commitTag tag ⟨0, 0x0C⟩
    else if s.qidBad q s.liveSqs || (s.sq q).live then s.commitTag tag ⟨1, 1⟩
    else if size = 1 then s.commitTag tag ⟨1, 2⟩
    else if !e.cdw11.testBit 0 then s.commitTag tag ⟨0, 2⟩
    else if cqid = 0 ∨ (s.cq (q.withQid cqid)).live = false then s.commitTag tag ⟨1, 0⟩
    else if e.prp1 % 4096 ≠ 0 then s.commitTag tag ⟨0, 0x13⟩
    else if cmb && decide (s.cmbShare pf.1 pf.2 < base + 64 * size) then s.commitTag tag ⟨0, 2⟩
    else (s.setSq q { live := true, base := base, inCmb := cmb, size := size, cqid := cqid }).succeed tag))

/-- DELETE_IO_CQ (R129). -/
def execDeleteIoCq (tag : Nat) (s : State) : Res :=
  .next (s.when (s.adm tag 0x04) (fun s =>
    let q := (s.tag tag).q.withQid ((s.tag tag).sqe.cdw10 % 2 ^ 16)
    if q.isAdmin || !(s.cq q).live then s.commitTag tag ⟨1, 1⟩
    else if s.sqs.any (fun x => x.2.live && (codeQ x.1).withQid x.2.cqid == q) then s.commitTag tag ⟨1, 0x0C⟩
    else (s.dropCq q).succeed tag))

/-- DELETE_IO_SQ (R129): every command without a status ends with 0h/08h, and the queue goes after their entries. -/
def execDeleteIoSq (tag : Nat) (s : State) : Res :=
  .next (s.when (s.adm tag 0x00) (fun s =>
    let q := (s.tag tag).q.withQid ((s.tag tag).sqe.cdw10 % 2 ^ 16)
    if q.isAdmin || !(s.sq q).live || (s.sq q).deleting.isSome then s.commitTag tag ⟨1, 1⟩
    else
      let ws := (s.sq q).window
      let s1 := s.setSq q { s.sq q with window := [], deleting := some tag }
      let s2 := s1.forEach ws (fun w s => s.cqPut q w.e.cid ⟨0, 8⟩)
      let s3 := s2.forEach (s2.tagsOfQueue q) (fun t s => (s.dmaCancel t).commitTag t ⟨0, 8⟩)
      let s4 := { s3 with dmaWait := s3.dmaWait.filter (fun d => d.use != some (DmaUse.entries q)) }.dmaStale (fun u => u == DmaUse.entries q) none
      (s4.setTag tag { s4.tag tag with built := true, st := .run }).deleteWatch q))

/-! ### Abort (R127, R128) -/

/-- Commands of a queue with an opcode that hold a tag. (DESIGN CHOICE, log entry 37) -/
def State.outstanding (s : State) (q : QKey) (op : Nat) : Nat :=
  (s.tags.filter (fun x => !(x.2.st = .free) && x.2.q == q && x.2.sqe.opcode == op)).length

/-- The answer of an Abort, with its count: bit 0 of dword 0 says "not aborted". -/
def State.abortAnswer (s : State) (t : Nat) (done : Bool) : State :=
  { s with cmds := { s.cmds with aborted := if done then satAdd 32 s.cmds.aborted 1 else s.cmds.aborted
                                 notAborted := if done then s.cmds.notAborted else satAdd 32 s.cmds.notAborted 1 } }.succeed t
    (if done then 0 else 1)

/-- ABORT (R114, R127, R128). -/
def execAbort (tag : Nat) (s : State) : Res :=
  .next (s.when (s.adm tag 0x08) (fun s =>
    let x := s.tag tag
    let q := x.q.withQid (x.sqe.cdw10 % 2 ^ 16)
    let cid := x.sqe.cdw10 / 2 ^ 16
    if 64 < s.outstanding x.q 0x08 then s.commitTag tag ⟨1, 3⟩
    else if q.isAdmin then s.abortAnswer tag false
    else match (s.sq q).window.find? (fun w => w.e.cid == cid) with
      | some _ =>
        let s1 := s.setSq q { s.sq q with window := (s.sq q).window.filter (fun w => w.e.cid != cid) }
        ((s1.cqPut q cid ⟨0, 7⟩).fetchAsk q).abortAnswer tag true
      | none => match s.tags.find? (fun y => y.2.st.uncommitted && !y.2.committed && y.2.q == q && y.2.sqe.cid == cid) with
        | some (k, _) => ((s.dmaCancel k).commitTag k ⟨0, 7⟩).abortAnswer tag true
        | none => s.abortAnswer tag false))

/-! ### Asynchronous events (R113, R114) -/

/-- ASYNC_EVENT_REQUEST (R114): the request takes an event that waits, or stays outstanding. -/
def execAsyncEventRequest (tag : Nat) (s : State) : Res :=
  .next (s.when (s.adm tag 0x0C) (fun s =>
    let x := s.tag tag
    let c := s.owner x.q
    if 16 < s.outstanding x.q 0x0C then s.commitTag tag ⟨1, 5⟩
    else
      let fits (e : AsyncEvent) : Bool := match e.page with
        | none => true
        | some b => b == QKey.onPage x.q
      match (s.ctrl c).events.find? fits with
      | some e => (s.setCtrl c { s.ctrl c with events := (s.ctrl c).events.erase e }).commitTag tag ⟨0, 0⟩ e.dword
      | none =>
        (s.setCtrl c { s.ctrl c with aers := (s.ctrl c).aers ++ [tag] }).setTag tag { x with built := true, st := .run }))

/-! ### Features (R116, R133, R208, R229, R391, R455) -/

/-- The feature identifiers of R116. -/
def featureIds : List Nat :=
  [0x01, 0x02, 0x04, 0x05, 0x07, 0x08, 0x09, 0x0A, 0x0B, 0x0D, 0x0E, 0x11, 0x16, 0x17, 0x18, 0x19, 0x1D, 0x1E]

/-- The table key of a feature's value: some features hold one value for each vector, namespace, sensor or group. -/
def featureKey (e : Sqe) : Nat :=
  match e.cdw10 % 256 with
  | 0x05 => 5 * 65536 + e.nsid
  | 0x09 => 9 * 65536 + e.cdw11 % 2 ^ 16
  | 0x04 => 4 * 65536 + e.cdw11 / 2 ^ 16 % 64
  | 0x18 => 0x18 * 65536 + e.cdw11 % 2 ^ 16
  | 0x1E => 0x1E * 65536 + e.cdw11 % 2 ^ 16
  | f => f

/-- The value of a feature that no host has set: zero for those whose value the block acts on, else the manual's gap. -/
def featureInit (fid : Nat) : Nat :=
  if [0x01, 0x02, 0x05, 0x07, 0x08, 0x09, 0x0B, 0x0D, 0x11, 0x1D].contains fid then 0 else Config.featureDefault fid

/-- Queue pairs that Feature 07h grants (R116). -/
def State.queueGrant (s : State) (q : QKey) : Nat :=
  match q with
  | .page n _ => s.cfg (0x3000 + n) 0x0C - 1
  | .std p f _ => match s.stdqSlice p f with
    | some n => s.cfg (0x3000 + n) 0x0D
    | none => 0

/-- A Set Features in BUILD whose identifier satisfies a test. -/
def State.setsFeature (s : State) (t : Nat) (p : Nat → Bool) : Bool := s.adm t 0x09 && p ((s.tag t).sqe.cdw10 % 256)

/-- SV of a Set Features is 1. -/
def Sqe.saves (e : Sqe) : Bool := e.cdw10.testBit 31

/-- Store the value of a feature. -/
def State.featurePut (s : State) (t key v : Nat) : State :=
  let c := s.owner (s.tag t).q
  s.setCtrl c { s.ctrl c with features := Tbl.set none (s.ctrl c).features key (some v) }

/-- SET_FEATURES (R116): the features without a row of their own, and the identifiers that are not supported. -/
def execSetFeatures (tag : Nat) (s : State) : Res :=
  .next (s.when (s.setsFeature tag (fun f => !([0x02, 0x0D, 0x0E, 0x1D].contains f))) (fun s =>
    let e := (s.tag tag).sqe
    let fid := e.cdw10 % 256
    if !featureIds.contains fid then s.commitTag tag ⟨0, 2⟩
    else if Sqe.saves e then s.commitTag tag ⟨1, 0x0D⟩
    else if fid = 0x07 then
      let g := s.queueGrant (s.tag tag).q
      let give (r : Nat) : Nat := min (r + 1) g - 1
      let v := give (e.cdw11 % 2 ^ 16) + give (e.cdw11 / 2 ^ 16) * 2 ^ 16
      if e.cdw11 % 2 ^ 16 = 0xFFFF ∨ e.cdw11 / 2 ^ 16 = 0xFFFF then s.commitTag tag ⟨0, 2⟩
      else (s.featurePut tag 7 v).succeed tag v
    else if fid = 0x05 ∧ e.nsid = 0xFFFFFFFF then
      let c := s.owner (s.tag tag).q
      (s.forEach (s.attachedTo c) (fun n s => s.featurePut tag (5 * 65536 + n) e.cdw11)).succeed tag
    else if fid = 0x1E then (s.featurePut tag (featureKey e) e.cdw12).succeed tag
    else (s.featurePut tag (featureKey e) e.cdw11).succeed tag))

/-- SET_FEATURES_POWER_MANAGEMENT (R133, R391): a physical function's power state is in force from the next epoch start, and
its command completes then. -/
def execSetFeaturesPowerManagement (tag : Nat) (s : State) : Res :=
  .next (s.when (s.setsFeature tag (fun f => f == 0x02)) (fun s =>
    let x := s.tag tag
    let ps := x.sqe.cdw11 % 32
    let c := s.owner x.q
    if Sqe.saves x.sqe then s.commitTag tag ⟨1, 0x0D⟩
    else if 4 < ps then s.commitTag tag ⟨0, 2⟩
    else
      let y := s.ctrl c
      let s1 := s.setCtrl c { y with ps := ps, lastOperational := if ps < 3 then ps else y.lastOperational }
      if [0, 1].any (fun p => s.owner (.std p 0 0) == c) then
        ({ s1 with mode := { s1.mode with psNext := s1.psWanted } }).setTag tag { x with built := true, st := .run }
      else s1.succeed tag))

/-- SET_FEATURES_HOST_MEMORY_BUFFER (R116, R229): of a physical function only. -/
def execSetFeaturesHostMemoryBuffer (tag : Nat) (s : State) : Res :=
  .next (s.when (s.setsFeature tag (fun f => f == 0x0D)) (fun s =>
    let x := s.tag tag
    let e := x.sqe
    let p := (s.qfunc x.q).1
    let now := if p = 0 then s.map.hmb0 else s.map.hmb1
    let put (s : State) (n : Nat) : State :=
      if p = 0 then { s with map := { s.map with hmb0 := n } } else { s with map := { s.map with hmb1 := n } }
    if !x.manager then s.commitTag tag ⟨0, 2⟩
    else if Sqe.saves e then s.commitTag tag ⟨1, 0x0D⟩
    else if e.cdw11.testBit 0 then
      if now ≠ 0 then s.commitTag tag ⟨0, 0x0C⟩
      else if e.cdw12 = 0 ∨ e.cdw15 = 0 ∨ 4096 < e.cdw15 ∨ e.cdw13 % 16 ≠ 0 then s.commitTag tag ⟨0, 2⟩
      else ((put s e.cdw12).featurePut tag 0x0D e.cdw11).succeed tag
    else
      let s1 := (put s 0).featurePut tag 0x0D e.cdw11
      let s2 := { s1 with map := { s1.map with pages := s1.map.pages.map (fun (y : Nat × Page) => (y.1, { y.2 with inHmb := false })) } }
      if s2.map.fills.any (fun f => f.fromHmb) then s2.setTag tag { x with built := true, st := .run } else s2.succeed tag))

/-- R455: the timestamp takes a value in nanoseconds. -/
def State.timeSet (s : State) (ns : Nat) : State := { s with aon := { s.aon with tsBase := ns % 2 ^ 64, tsAt := s.aon.now, tsOrigin := 1 } }

/-- SET_FEATURES_TIMESTAMP (R455): `ms` is the 48-bit value of the data buffer. -/
def execSetFeaturesTimestamp (tag ms : Nat) (s : State) : Res :=
  .next (s.when (s.setsFeature tag (fun f => f == 0x0E)) (fun s =>
    let x := s.tag tag
    let pf := s.qfunc x.q
    if Sqe.saves x.sqe then s.commitTag tag ⟨1, 0x0D⟩
    else match s.dptrStatus pf.1 pf.2 8 x.sqe with
      | some st => s.commitTag tag st
      | none => (s.timeSet (ms % 2 ^ 48 * msec)).succeed tag))

/-- SET_FEATURES_FDP (R116, R207, R208): the setting of endurance group 1. (DESIGN CHOICE, log entry 41) -/
def execSetFeaturesFdp (tag : Nat) (s : State) : Res :=
  .next (s.when (s.setsFeature tag (fun f => f == 0x1D)) (fun s =>
    let e := (s.tag tag).sqe
    let on := e.cdw12.testBit 0
    let idx := e.cdw12 / 2 ^ 8 % 256
    if e.cdw11 % 2 ^ 16 ≠ 1 ∨ (on = true ∧ 5 < idx) then s.commitTag tag ⟨0, 2⟩
    else if s.pool.fdpEnabled == on && (!on || s.pool.fdpConfig == idx) then s.succeed tag
    else if !s.nsList.isEmpty then s.commitTag tag ⟨1, 0x0E⟩
    else { s with pool := { s.pool with fdpEnabled := on, fdpConfig := if on then idx else 0 } }.succeed tag))

/-- The current value of a feature. (PRESUMED, log entry 40) -/
def State.featureNow (s : State) (t : Nat) (e : Sqe) : Nat :=
  let c := s.owner (s.tag t).q
  match e.cdw10 % 256 with
  | 0x02 => (s.ctrl c).ps
  | 0x1D => boolNat s.pool.fdpEnabled + s.pool.fdpConfig * 2 ^ 8
  | f => (Tbl.get none (s.ctrl c).features (featureKey e)).getD (featureInit f)

/-- GET_FEATURES (R116, R455). -/
def execGetFeatures (tag : Nat) (s : State) : Res :=
  .next (s.when (s.adm tag 0x0A) (fun s =>
    let x := s.tag tag
    let e := x.sqe
    let fid := e.cdw10 % 256
    let sel := e.cdw10 / 2 ^ 8 % 8
    let pf := s.qfunc x.q
    if !featureIds.contains fid || (fid == 0x0D && !x.manager) || decide (3 < sel) then s.commitTag tag ⟨0, 2⟩
    else if sel = 3 then s.succeed tag (if fid = 0x05 ∨ fid = 0x1E then 6 else 4)
    else if sel = 1 ∨ sel = 2 then s.succeed tag (featureInit fid)
    else if fid = 0x0E then
      match s.dptrStatus pf.1 pf.2 8 e with
      | some st => s.commitTag tag st
      | none => (s.deliver tag (leBytes 6 (s.timestamp / msec) ++ [BitVec.ofNat 8 (2 * s.aon.tsOrigin), 0#8])).succeed tag
    else s.succeed tag (s.featureNow tag e)))

/-! ### Directives (R114, R209) -/

/-- The fields of a directive command: its operation and its type. -/
def Sqe.dirOp (e : Sqe) : Nat := e.cdw11 % 256
def Sqe.dirType (e : Sqe) : Nat := e.cdw11 / 2 ^ 8 % 256

/-- DIRECTIVE_SEND: the Identify type may ask for the Data Placement type as it stands; that type has no send operation.
(PRESUMED, log entry 42) -/
def execDirectiveSend (tag : Nat) (s : State) : Res :=
  .next (s.when (s.adm tag 0x19) (fun s =>
    let e := (s.tag tag).sqe
    if Sqe.dirType e = 0 ∧ Sqe.dirOp e = 1 ∧ e.cdw12 / 2 ^ 8 % 256 = 2 ∧ e.cdw12.testBit 0 = s.pool.fdpEnabled then s.succeed tag
    else s.commitTag tag ⟨0, 2⟩))

/-- DIRECTIVE_RECEIVE: the Identify type returns the directives supported and enabled. -/
def execDirectiveReceive (tag : Nat) (s : State) : Res :=
  .next (s.when (s.adm tag 0x1A) (fun s =>
    let x := s.tag tag
    let e := x.sqe
    let pf := s.qfunc x.q
    let len := 4 * (e.cdw10 + 1)
    if Sqe.dirType e ≠ 0 ∨ Sqe.dirOp e ≠ 1 then s.commitTag tag ⟨0, 2⟩
    else match s.dptrStatus pf.1 pf.2 len e with
      | some st => s.commitTag tag st
      | none =>
        let on := 1 + 4 * boolNat s.pool.fdpEnabled
        (s.deliver tag (((leBytes 32 5) ++ leBytes 32 on ++ leBytes 4032 0).take len)).succeed tag))

/-! ### Identify (R107, R114, R147, R190, R191, R198, R199, R211, R229, R273, R390, R396) -/

/-- R147: the controller identifier of a queue's controller; a function without a slice reports 0. -/
def State.cntlid (s : State) (q : QKey) : Nat := if s.owner q < 4096 then s.owner q + 1 else 0

/-- The namespaces that a queue's controller sees: all for a Manager, else those attached to its slice; none when Retired. -/
def State.seenNs (s : State) (q : QKey) (attachedOnly : Bool) : List Nat :=
  if s.lifecycle = 5 then []
  else if q.isManager && !attachedOnly then s.nsList else s.attachedTo (s.owner q)

/-- The maximum power and latencies of a power state. -/
def psFields (ps : Nat) : List (String × Nat) :=
  [("MP mW", [40000, 30000, 20000, 8000, 4000].getD ps 0), ("ENLAT us", [0, 16, 16, 100, 2000].getD ps 0),
   ("EXLAT us", [0, 16, 16, 200, 10000].getD ps 0), ("RRT", ps), ("RRL", ps), ("RWT", ps), ("RWL", ps), ("NOPS", boolNat (decide (3 ≤ ps)))]

/-- R229: HMPRE. -/
def State.hmpre (s : State) : Nat := min (s.cfg 0x6001 2 * 2 ^ 18) s.directoryPages

/-- The lowest value of a dictionary entry over the enabled zones, + 273. -/
def State.zoneKelvin (s : State) (sub : Nat) : Nat :=
  let l := (List.range 8).filter (fun z => s.zoneOn z)
  match l with
  | [] => 0
  | z :: t => ((t.foldl (fun m k => min m (s.cfgI (0x8110 + k) sub)) (s.cfgI (0x8110 + z) sub)) + 273).toNat

/-- Identify Controller: the fields that the manual gives. (PRESUMED, log entry 39) -/
def State.identifyCtrl (s : State) (q : QKey) : List (String × Nat) :=
  [("VID", Config.pciVendorId), ("CNTLID", s.cntlid q), ("MDTS", 9), ("SQES", 0x66), ("CQES", 0x44), ("ACL", 63), ("AERL", 15),
   ("ELPE", 255), ("KAS", 0), ("FNA", 0), ("FWUG", 1), ("NPSS", 4), ("VWC", 0), ("FUSES", 0), ("AWUN", 0), ("AWUPF", 0),
   ("TNVMCAP", s.poolP * 1024), ("UNVMCAP", s.poolF.toNat * 1024), ("NN", Config.namespaces),
   ("WCTEMP", s.zoneKelvin 4), ("CCTEMP", s.zoneKelvin 7)]
    ++ (if q.isManager then [("HMPRE", s.hmpre), ("HMMIN", 0), ("HMMINDS", 1), ("HMMAXD", 4096)] else [])
    ++ (List.range 5).flatMap psFields

/-- Identify Namespace. -/
def State.identifyNs (s : State) (n : Nat) : List (String × Nat) :=
  let y := s.ns n
  [("NSZE", y.nsze), ("NCAP", s.ncap n), ("NUSE", s.nuseOf n), ("THINP", boolNat (s.thin n)),
   ("NSABP", boolNat (y.kind != 1)), ("NAWUN", 0), ("NAWUPF", 31), ("NABSN", 0), ("NABSPF", 0), ("NABO", 0), ("NLBAF", 17),
   ("FLBAS", y.lbaf), ("DPS", y.dps), ("NMIC", y.nmic), ("NVMCAP", max (s.resR n) y.used * 1024), ("RP", 0)]

/-- Identify of a zoned namespace (R199). -/
def State.identifyZns (s : State) (n : Nat) : List (String × Nat) :=
  let i := 0x5800 + (n - 1)
  [("ZOC", 0), ("OZCS", 3), ("MAR", s.cfg i 9 - 1), ("MOR", s.cfg i 0x0A - 1), ("RRL", 0), ("FRL", s.cfg 0x5000 4),
   ("ZSZE", s.zsize n), ("ZCAP", s.zsize n), ("MAXZRWA", s.cfg i 0x0B), ("ZRWAS", 256), ("ZRWAFG", 4), ("ZRWACAP", 1), ("ZDES", 0)]

/-- A list of numbers as fields. -/
def listFields (name : String) (l : List Nat) : List (String × Nat) := l.map (fun n => (name, n))

/-- Zoned namespaces are offered (R253). -/
def State.zonedOffered (s : State) : Bool := s.cfgB 0x6400 0x1F

/-- The answer of an Identify: its fields, or a status. -/
def State.identifyData (s : State) (q : QKey) (e : Sqe) : Except Status (List (String × Nat)) :=
  let cns := e.cdw10 % 256
  let csi := e.cdw11 / 2 ^ 24
  let n := e.nsid
  let seen := s.seenNs q (cns < 0x10)
  let one (f : Nat → List (String × Nat)) : Except Status (List (String × Nat)) :=
    if n = 0 ∨ Config.namespaces < n then .error ⟨0, 0x0B⟩
    else if seen.contains n then .ok (f n)
    else if q.isManager then .ok [] else .error ⟨0, 0x0B⟩
  match cns with
  | 0x00 => one s.identifyNs
  | 0x01 => .ok (s.identifyCtrl q)
  | 0x02 => .ok (listFields "NSID" (seen.filter (fun k => decide (n < k))))
  | 0x03 => one (fun k => [("NSID", k), ("CSI", if (s.ns k).kind = 1 then 2 else 0)])
  | 0x05 =>
    if csi = 0 then one (fun k => [("LBSTM", 0), ("NSID", k)])
    else if csi = 2 ∧ s.zonedOffered = true then one (fun k => if (s.ns k).kind = 1 then s.identifyZns k else [])
    else .error ⟨0, 2⟩
  | 0x06 => if csi = 0 then .ok [] else if csi = 2 ∧ s.zonedOffered = true then .ok [("ZASL", 8)] else .error ⟨0, 2⟩
  | 0x07 => .ok (listFields "NSID" (seen.filter (fun k => decide (n < k) && (decide ((s.ns k).kind = 1) == (csi == 2)))))
  | 0x10 => if q.isManager then .ok (listFields "NSID" (seen.filter (fun k => decide (n < k)))) else .error ⟨0, 2⟩
  | 0x11 => if q.isManager then one s.identifyNs else .error ⟨0, 2⟩
  | 0x12 => if q.isManager then one (fun k => listFields "CNTLID" ((s.ns k).attached.map (fun c => c + 1))) else .error ⟨0, 2⟩
  | 0x13 => if q.isManager then .ok (listFields "CNTLID" (s.boundSlices.map (fun c => c + 1))) else .error ⟨0, 2⟩
  | 0x1C => .ok [("IOCSC", if s.zonedOffered then 5 else 1)]
  | _ => .error ⟨0, 2⟩

/-- Deliver named fields to a command's data buffer, through the fence. -/
def State.deliverFields (s : State) (t len : Nat) (l : List (String × Nat)) : State :=
  if s.passes t then (s.emit (.hostData t l)).deliverMark t len else s.lateDiscard (s.tag t).slice

/-- IDENTIFY. -/
def execIdentify (tag : Nat) (s0 : State) : Res :=
  .next (s0.when (s0.adm tag 0x06) (fun s0 =>
    let s := s0.boundary 0x6001
    let x := s.tag tag
    let pf := s.qfunc x.q
    match s.dptrStatus pf.1 pf.2 4096 x.sqe with
    | some st => s.commitTag tag st
    | none => match s.identifyData x.q x.sqe with
      | .error st => s.commitTag tag st
      | .ok l => (s.deliverFields tag 4096 l).succeed tag))

/-! ### Log pages (R117, R132, R198, R207 to R210, R212, R273, R396, R424, R456) -/

/-- Log pages of a physical function only, and of every controller. -/
def logManager : List Nat := [0x03, 0x07, 0x08, 0x0D]
def logAll : List Nat := [0x01, 0x02, 0x04, 0x05, 0x09, 0x0F, 0x20, 0x21, 0x22, 0x23, 0x81, 0xBF, 0xC0]

/-- An Error Information entry as fields. -/
def ErrEntry.fields (e : ErrEntry) : List (String × Nat) :=
  [("SQID", e.sqid), ("CMDID", e.cid), ("STS", e.status.sct * 256 + e.status.sc), ("NSID", e.nsid), ("LBA", e.lba), ("CSI", e.info)]

/-- Kelvin of a reading in 0.125 °C. -/
def kelvin (q : Int) : Nat := (q / 8 + 273).toNat

/-- SMART / Health Information. -/
def State.smartFields (s : State) : List (String × Nat) :=
  let on := (List.range 8).filter (fun z => s.zoneOn z)
  [("Critical Warning", s.critical), ("Composite Temperature", (on.map (fun z => kelvin (s.tzone z).tempQ)).foldl max 0),
   ("Available Spare", s.availableSpare), ("Available Spare Threshold", s.cfg 0x6402 0x0E), ("Percentage Used", s.percentUsed),
   ("Unsafe Shutdowns", s.recov.unsafeStops), ("Warning Composite Temperature Time", s.thermal.warnTimeNs / (60 * Machine.sec)),
   ("Critical Composite Temperature Time", s.thermal.critTimeNs / (60 * Machine.sec))]
    ++ (List.range 8).map (fun z => ("Temperature Sensor", if s.zoneOn z then kelvin (s.tzone z).tempQ else 0))

/-- R132: the frozen queues of the requesting controller. -/
def State.frozenItems (s : State) (q : QKey) : List Nat :=
  (s.sqs.filter (fun x => x.2.live && x.2.frozen && QKey.sameCtrl (codeQ x.1) q)).map
      (fun x => (codeQ x.1).qid + 2 ^ 17 * boolNat x.2.fetchFail)
    ++ (s.cqs.filter (fun x => x.2.live && x.2.frozen && QKey.sameCtrl (codeQ x.1) q)).map (fun x => (codeQ x.1).qid + 2 ^ 16)

/-- The bytes of a page that the manual lays out; another page's fields. -/
def State.logData (s : State) (q : QKey) (e : Sqe) : List Byte × List (String × Nat) :=
  let c := s.owner q
  match e.cdw10 % 256 with
  | 0x01 => ([], (s.ctrl c).errors.flatMap ErrEntry.fields)
  | 0x02 => ([], s.smartFields)
  | 0x03 => ([], [("AFI", s.sec.slotInForce + s.sec.nextSlot * 16), ("slot 1 image", (s.sec.slot1.map (fun f => f.imageSeq)).getD 0),
      ("slot 2 image", (s.sec.slot2.map (fun f => f.imageSeq)).getD 0)])
  | 0x04 => ([], listFields "NSID" (s.ctrl c).changedNs)
  | 0x05 => ([], listFields "admin" ((List.range 256).filter (fun o => adminOpcode q.isManager o))
      ++ listFields "I/O" ((List.range 256).filter ioOpcode))
  | 0x09 => ([], [("Available Spare", s.availableSpare), ("Available Spare Threshold", s.cfg 0x6402 0x0E), ("Percentage Used", s.percentUsed)])
  | 0x0D => ((s.ras.persistentEvents.map (fun r => r.bytes)).flatten, [])
  | 0x20 => ([], (List.range 6).flatMap (fun i => [("NRG", 2 ^ i), ("NRUH", 128), ("RUHT", 1),
      ("RUNS", (32 - s.parityMembers) * s.denseBlock * 1024), ("RGIF", i)]))
  | 0x21 => ([], listFields "handle" ((s.nsList.flatMap (fun n => (s.ns n).phndl)).dedup))
  | 0x22 => ([], [("host bytes", s.media.hostGranules * 1024), ("media bytes", s.media.mediaGranules * 1024)])
  | 0x23 => ([], listFields "event" s.pool.fdpEvents)
  | 0x81 => ([], [("running", s.sec.sanRunning), ("failed", boolNat s.sec.sanFailed), ("completed", s.sec.sanitizes),
      ("erased", s.sec.sanErased.length)])
  | 0xBF => ([], listFields "zone" (s.ns e.nsid).changedZones)
  | 0xC0 => (leBytes 4 (s.frozenItems q).length ++ ((s.frozenItems q).map (fun n => leBytes 4 n)).flatten, [])
  | _ => ([], [])

/-- What reading a page changes: with RAE 0 the changed lists it returned are empty again.
(DESIGN CHOICE, log entry 43) -/
def State.logClear (s : State) (q : QKey) (e : Sqe) : State :=
  let c := s.owner q
  if e.cdw10.testBit 15 then s
  else match e.cdw10 % 256 with
    | 0x04 => s.setCtrl c { s.ctrl c with changedNs := [] }
    | 0xBF => s.setNs e.nsid { s.ns e.nsid with changedZones := [] }
    | _ => s

/-- GET_LOG_PAGE. -/
def execGetLogPage (tag : Nat) (s : State) : Res :=
  .next (s.when (s.adm tag 0x02) (fun s =>
    let x := s.tag tag
    let e := x.sqe
    let pf := s.qfunc x.q
    let lid := e.cdw10 % 256
    let len := 4 * (e.cdw10 / 2 ^ 16 + e.cdw11 % 2 ^ 16 * 2 ^ 16 + 1)
    let off := e.cdw12 + e.cdw13 * 2 ^ 32
    if !(logAll.contains lid || (x.manager && logManager.contains lid)) then s.commitTag tag ⟨1, 9⟩
    else if lid = 0xBF ∧ (s.ns e.nsid).kind ≠ 1 then s.commitTag tag ⟨1, 9⟩
    else if off % 4 ≠ 0 ∨ (lid = 0x02 ∧ e.nsid ≠ 0 ∧ e.nsid ≠ 0xFFFFFFFF) then s.commitTag tag ⟨0, 2⟩
    else if lid = 0xBF ∧ x.manager = false ∧ (s.ns e.nsid).attached.contains (s.owner x.q) = false then s.commitTag tag ⟨0, 0x0B⟩
    else match s.dptrStatus pf.1 pf.2 len e with
      | some st => s.commitTag tag st
      | none =>
        let d := s.logData x.q e
        let s1 := if d.1.isEmpty then s.deliverFields tag len d.2 else s.deliver tag ((d.1.drop off).take len)
        (s1.logClear x.q e).succeed tag))

end Sys2Proof.Machine
end

