-- ==== Sys2Proof/Machine/Io.lean ====
section
/-! DEFINITION. The I/O commands that are not zone commands (R28, R29, R115, R134, R195, R234, R333, R335 to R338): the checks
that follow admission, the plan of each command, and a transform job's coding. -/

namespace Sys2Proof.Machine

/-! ### Checks before a plan -/

/-- An I/O command in BUILD with an opcode. -/
def State.iot (s : State) (t op : Nat) : Bool :=
  let x := s.tag t
  !x.admin && decide (x.st = .build) && !x.built && x.sqe.opcode == op

/-- R135: PRINFO is not valid for the format; for type 1 the initial reference tag is that of the first block.
(PRESUMED, log entry 47) -/
def State.prBad (s : State) (t pr : Nat) : Bool :=
  let x := s.tag t
  let n := x.sqe.nsid
  let m := s.infoBytes n
  if s.piType n = 0 then pr != 0
  else s.piType n == 1 && (pr.testBit 0 || pr.testBit 3) && x.refTag m 0 1 != x.slba % 256 ^ refBytes m

/-- A run of blocks touches a zone that is Offline. (PRESUMED, log entry 61) -/
def State.runOffline (s : State) (n lba cnt : Nat) : Bool :=
  (s.ns n).kind == 1 && (List.range (cnt / s.zsize n + 2)).any (fun i =>
    let z := lba / s.zsize n + i
    decide (z * s.zsize n < lba + cnt) && decide ((s.zone n z).st = .offline))

/-- What the fields of a command with a range of its own get wrong; `data` is its data length in bytes.
(DEDUCED, log entry 46) -/
def State.ioStatus (s : State) (t data : Nat) : Option Status :=
  let x := s.tag t
  let e := x.sqe
  let pf := s.qfunc x.q
  if e.psdt = 3 then some ⟨0, 2⟩
  else if s.prBad t (Sqe.prinfo e) then some ⟨1, 0x81⟩
  else if e.readType && s.runOffline e.nsid x.slba x.nlb then some ⟨1, 0xBB⟩
  else match s.dptrStatus pf.1 pf.2 data e with
    | some st => some st
    | none => if data ≠ 0 ∧ s.infoMoved t ≠ 0 ∧ s.isCmb pf.1 pf.2 e.mptr = true then some ⟨0, 0x12⟩ else none

/-! ### Plans (R11 to R13) -/

/-- A plan is built: the lists of its data pointers, and its map pages. -/
def State.ioBuild (s : State) (t : Nat) (plan : List PStep) (data : Bool) : State :=
  let s1 := s.setTag t { s.tag t with built := true, plan := plan }
  let s2 := if data then s1.startLists t else s1
  if (s2.tag t).isJob then s2 else (s2.mapResolve t).detectAll t

/-- A command with a range of its own: its checks, or its plan. -/
def State.ioRun (s : State) (t : Nat) (plan : List PStep) (data : Bool) : State :=
  match s.ioStatus t (if data then 4096 * (s.tag t).nlb else 0) with
  | some st => s.commitTag t st
  | none => s.ioBuild t plan data

/-- FLUSH (R115): the command waits for the earlier writes of its slice on its namespace. -/
def execFlush (tag : Nat) (s : State) : Res :=
  .next (s.when (s.iot tag 0x00) (fun s => s.ioBuild tag [⟨0, .cmpl⟩] false))

/-- WRITE (R29, R115). -/
def execWrite (tag : Nat) (s : State) : Res :=
  .next (s.when (s.iot tag 0x01) (fun s =>
    s.ioRun tag (planOf [.buf, .hostrd, .xform] (s.tag tag).nlb 8 [.mapupd, .cmpl]) true))

/-- READ (R28, R115). -/
def execRead (tag : Nat) (s : State) : Res :=
  .next (s.when (s.iot tag 0x02) (fun s =>
    s.ioRun tag (planOf [.buf, .die, .xform, .hostwr] (s.tag tag).nlb 8 [.cmpl]) true))

/-- WRITE_UNCORRECTABLE (R115, R218). -/
def execWriteUncorrectable (tag : Nat) (s : State) : Res :=
  .next (s.when (s.iot tag 0x04) (fun s => s.ioBuild tag [⟨0, .mapupd⟩, ⟨0, .cmpl⟩] false))

/-- COMPARE (R115). -/
def execCompare (tag : Nat) (s : State) : Res :=
  .next (s.when (s.iot tag 0x05) (fun s =>
    s.ioRun tag (planOf [.buf, .hostrd, .die, .xform] (s.tag tag).nlb 8 [.cmpl]) true))

/-- WRITE_ZEROES (R115, R218, R234): with DEAC it deallocates; without it zero blocks pass through the transform pipe.
(DESIGN CHOICE, log entry 50) -/
def execWriteZeroes (tag : Nat) (s : State) : Res :=
  .next (s.when (s.iot tag 0x08) (fun s =>
    s.ioRun tag (if Sqe.deac (s.tag tag).sqe then [⟨0, .mapupd⟩, ⟨0, .cmpl⟩]
                 else planOf [.buf, .xform] (s.tag tag).nlb 8 [.mapupd, .cmpl]) false))

/-- VERIFY (R115). -/
def execVerify (tag : Nat) (s : State) : Res :=
  .next (s.when (s.iot tag 0x0C) (fun s =>
    s.ioRun tag (planOf [.buf, .die, .xform] (s.tag tag).nlb 8 [.cmpl]) false))

/-! ### Dataset Management and Copy (R115, R195, R234, R333) -/

/-- Some range leaves the namespace. -/
def State.rangesBad (s : State) (n : Nat) (l : List (Nat × Nat)) : Bool := l.any (fun r => decide ((s.ns n).nsze < r.1 + r.2))

/-- DATASET_MANAGEMENT (R115, R234): `ranges` are the ranges that the data buffer lists. -/
def execDatasetManagement (tag : Nat) (ranges : List (Nat × Nat)) (s : State) : Res :=
  .next (s.when (s.iot tag 0x09 && ranges.length == (s.tag tag).sqe.cdw10 % 256 + 1) (fun s =>
    let x := s.tag tag
    let pf := s.qfunc x.q
    match s.dptrStatus pf.1 pf.2 (16 * ranges.length) x.sqe with
    | some st => s.commitTag tag st
    | none =>
      if !x.sqe.cdw11.testBit 2 then s.succeed tag
      else if s.rangesBad x.sqe.nsid ranges then s.commitTag tag ⟨0, 0x80⟩
      else (s.setTag tag { x with ranges := ranges }).ioBuild tag [⟨0, .mapupd⟩, ⟨0, .cmpl⟩] false))

/-- What the fields of a Copy get wrong. -/
def State.copyStatus (s : State) (t : Nat) (ranges : List (Nat × Nat)) : Option Status :=
  let x := s.tag t
  let e := x.sqe
  let n := e.nsid
  let total := (ranges.map (fun r => r.2)).sum
  let pf := s.qfunc x.q
  if e.cdw12 / 2 ^ 8 % 16 ≠ 0 ∨ e.psdt = 3 then some ⟨0, 2⟩
  else if 128 < ranges.length ∨ 4096 < total then some ⟨1, 0x83⟩
  else match s.dptrStatus pf.1 pf.2 (32 * ranges.length) e with
    | some st => some st
    | none =>
      if s.prBad t (Sqe.prinfo e) || (s.piType n == 0 && e.cdw12 / 2 ^ 12 % 16 != 0) then some ⟨1, 0x81⟩
      else if s.rangesBad n ranges || s.rangesBad n [(e.slba, total)] then some ⟨0, 0x80⟩
      else if ranges.any (fun r => s.runOffline n r.1 r.2) then some ⟨1, 0xBB⟩
      else if (s.ns n).kind ≠ 1 ∧ s.poolFits n (4 * total) = false then some ⟨0, 0x81⟩ else none

/-- COPY (R115, R164, R195, R333): `ranges` are the source ranges that the data buffer lists. The cost and the reservation of a
Copy follow from them, so they are taken here; the command waits while the pool has no room.
(DESIGN CHOICE, log entry 35) -/
def execCopy (tag : Nat) (ranges : List (Nat × Nat)) (s : State) : Res :=
  .next (s.when (s.iot tag 0x19 && ranges.length == (s.tag tag).sqe.cdw12 % 256 + 1) (fun s =>
    let x := s.tag tag
    let n := x.sqe.nsid
    let total := (ranges.map (fun r => r.2)).sum
    let y : Tag := { x with slba := x.sqe.slba, nlb := total, ranges := ranges }
    let s0 := s.setTag tag y
    match s0.copyStatus tag ranges with
    | some st => (s.countExceeded n st).commitTag tag st
    | none =>
      if s.poolWaits n (4 * total) then s
      else
        let s1 := { s0.setTag tag { y with need := 4 * total } with
                    pool := { s0.pool with inflight := s0.pool.inflight + 4 * total } }
        let s2 := s1.charge x.slice 1 (s1.cost x.sqe total)
        (s2.bufRequest tag true s2.pairWanted 2 total x.cls).ioBuild tag (planOf [.buf, .die, .xform] total 4 [.mapupd, .cmpl]) false))

/-! ### Transform jobs (R335 to R338) -/

/-- Output space that jobs hold in the staging area. -/
def State.jobStage (s : State) : Nat :=
  ((s.tags.filter (fun x => x.2.isJob && x.2.built && !(x.2.st = .free))).map (fun x => Sqe.outLimit x.2.sqe)).sum

/-- WIDTH, PRED and W of a job. -/
def Sqe.jobWidth (e : Sqe) : Nat := e.cdw3 % 4
def Sqe.jobPred (e : Sqe) : Nat := e.cdw3 / 4 % 8
def Sqe.jobRow (e : Sqe) : Nat := e.cdw3 / 2 ^ 8 % 2 ^ 13
/-- OP and METHOD of a job. -/
def Sqe.jobDecode (e : Sqe) : Bool := e.cdw10.testBit 0
def Sqe.jobMethod (e : Sqe) : Nat := e.cdw10 / 2 % 4

/-- R328, R335: the Ocxon fields of an encode. (DEDUCED, log entry 52) -/
def Sqe.jobOcxBad (e : Sqe) : Bool :=
  decide (Sqe.jobWidth e = 3) || (decide (4 ≤ Sqe.jobPred e) && Sqe.jobPred e != 7)
    || (decide (Sqe.jobPred e = 3) && Sqe.jobRow e == 0)
    || ((Sqe.jobPred e == 3 || Sqe.jobPred e == 7) && decide (4096 * 8 / ocxWidth (Sqe.jobWidth e) < Sqe.jobRow e))

/-- What the fields of a job get wrong (R335, R337). -/
def State.jobStatus (s : State) (t : Nat) : Option Status :=
  let x := s.tag t
  let e := x.sqe
  let pf := s.qfunc x.q
  if Sqe.inLen e = 0 ∨ 2 ^ 24 < Sqe.inLen e ∨ Sqe.outLimit e = 0 ∨ 2 ^ 24 < Sqe.outLimit e then some ⟨7, 0xA2⟩
  else if e.nsid ≠ 0 ∨ e.psdt = 3 then some ⟨0, 2⟩
  else if Sqe.jobDecode e = false ∧ ((Sqe.jobMethod e ≠ 1 ∧ Sqe.jobMethod e ≠ 2) ∨ (Sqe.jobMethod e = 2 ∧ Sqe.jobOcxBad e = true)) then
    some ⟨0, 2⟩
  else if Sqe.jobDecode e = false ∧ Sqe.inLen e % 4096 ≠ 0 then some ⟨7, 0xA2⟩
  else match s.dptrStatus pf.1 pf.2 (Sqe.inLen e) e with
    | some st => some st
    | none => s.dptrStatus pf.1 pf.2 (Sqe.outLimit e) (Sqe.outEntry e)

/-- A job starts: its checks, its staging space, and its plan; a job that finds no staging space waits.
(DESIGN CHOICE, log entry 51) -/
def State.jobStart (s : State) (t : Nat) : State :=
  match s.jobStatus t with
  | some st => s.commitTag t st
  | none =>
    let x := s.tag t
    if !s.lanesLeft then s.commitTag t ⟨0, 1⟩
    else if s.cfg 0x7400 3 * 2 ^ 20 < s.jobStage + Sqe.outLimit x.sqe then
      if x.waitsStage then s
      else { s.setTag t { x with waitsStage := true } with cmp := { s.cmp with stageWaits := satAdd 64 s.cmp.stageWaits 1 } }
    else
      let n := ceilDiv (Sqe.inLen x.sqe) 4096
      (s.setTag t { x with nlb := n, waitsStage := false }).ioBuild t
        ([⟨0, .exc⟩, ⟨0, .buf⟩] ++ planOf [.hostrd] n 4 [.xform, .hostwr, .cmpl]) true

/-- The whole input of a job is here and its lanes may run. -/
def State.jobInput (s : State) (t : Nat) : Bool :=
  let x := s.tag t
  x.isJob && decide (x.st = .run) && x.inFlight && x.atKind .xform && (List.range x.blocks).all (fun b => (s.blk t b).arrived)
    && !(List.range x.blocks).all (fun b => (s.blk t b).ready)

/-- R336: the record of an input block, or none where the encoder's image is not a code of the block. An empty image says that
the block did not compress. -/
def State.jobRecord (s : State) (e : Sqe) (data image : List Byte) : Option (Nat × List Byte) :=
  if !s.lanesLeft then some (0, data)
  else if Sqe.jobMethod e = 2 then
    let img := ocxonEncode (Sqe.jobWidth e) (if Sqe.jobPred e = 7 then none else some (Sqe.jobPred e)) (Sqe.jobRow e) data
    some (if slotOf img.length = 3 then (0, data) else (2, img))
  else if image.isEmpty || slotOf image.length == 3 then some (0, data)
  else if slotDecode image == some data then some (1, image) else none

/-- The records of blocks in order; the index of the first one past the limit, or without a good image. -/
def jobRecords (limit : Nat) : Nat → Nat → List (Option (Nat × List Byte)) → Except (Nat × Bool) (List (Nat × List Byte))
  | _, _, [] => .ok []
  | i, _, none :: _ => .error (i, true)
  | i, len, some r :: l =>
    if limit < len + 4 + r.2.length then .error (i, false)
    else match jobRecords limit (i + 1) (len + 4 + r.2.length) l with
      | .ok rs => .ok (r :: rs)
      | .error e => .error e

/-- A job ends with an index: the output overflows (A0h), or its input is invalid (A1h). -/
def State.jobFail (s : State) (t i : Nat) (overflow : Bool) : State :=
  let c := s.cmp
  let s1 := { s with cmp := { c with
    jobOverflows := if overflow then satAdd 32 c.jobOverflows 1 else c.jobOverflows
    jobInvalid := if overflow then c.jobInvalid else satAdd 32 c.jobInvalid 1 } }
  let s2 := s1.commitTag t ⟨7, if overflow then 0xA0 else 0xA1⟩ i
  s2.setTag t { s2.tag t with inFlight := false }

/-- The output of a job's blocks, in order, has been staged. -/
def State.jobOut (s : State) (t : Nat) (outs : List (List Byte)) : State :=
  let n := (s.tag t).blocks
  s.forEach (List.range n) (fun b s => s.setBlk t b { s.blk t b with
    coded := if b + 1 = n then (outs.drop b).flatten else outs.getD b [], ready := true })

/-- TRANSFORM_ENCODE (R335 to R338, R341): in BUILD the job starts; with its whole input read, its blocks are coded. `coded`
holds the images of the slot encoder, which the manual leaves to the part, and each is judged by the decoder (R27). -/
def execTransformEncode (tag : Nat) (coded : List (List Byte)) (s : State) : Res :=
  .next (
    if s.iot tag 0xC0 then s.when (!Sqe.jobDecode (s.tag tag).sqe) (fun s => s.jobStart tag)
    else s.when (s.jobInput tag && !Sqe.jobDecode (s.tag tag).sqe) (fun s =>
      let e := (s.tag tag).sqe
      let rs := (List.range (s.tag tag).blocks).map (fun b => s.jobRecord e (s.blk tag b).data (coded.getD b []))
      match jobRecords (Sqe.outLimit e) 0 0 rs with
      | .error (_, true) => { s with cmp := { s.cmp with checkMismatches := satAdd 32 s.cmp.checkMismatches 1 } }.cmpBit 1
      | .error (i, false) => s.jobFail tag i true
      | .ok l =>
        let c := s.cmp
        { s with cmp := { c with
            blocksCoded := satAdd 64 c.blocksCoded l.length
            blocksRaw := satAdd 64 c.blocksRaw (l.filter (fun (r : Nat × List Byte) => r.1 == 0)).length } }.jobOut tag
          (l.map (fun (r : Nat × List Byte) => xformRecord r.1 r.2))))

/-- The blocks of the records of an input, in order; the index of the first that is invalid, or does not fit. -/
def jobBlocks (limit : Nat) : Nat → Nat → List Byte → Except (Nat × Bool) (List (List Byte))
  | 0, _, _ => .ok []
  | fuel + 1, i, l =>
    if l.isEmpty then .ok []
    else match takeRecord l with
      | none => .error (i, false)
      | some (k, img, rest) => match recordBlock k img with
        | none => .error (i, false)
        | some d =>
          if limit < 4096 * (i + 1) then .error (i, true)
          else match jobBlocks limit fuel (i + 1) rest with
            | .ok ds => .ok (d :: ds)
            | .error e => .error e

/-- TRANSFORM_DECODE (R335 to R338): in BUILD the job starts; with its whole input read, its records are decoded. -/
def execTransformDecode (tag : Nat) (s : State) : Res :=
  .next (
    if s.iot tag 0xC0 then s.when (Sqe.jobDecode (s.tag tag).sqe) (fun s => s.jobStart tag)
    else s.when (s.jobInput tag && Sqe.jobDecode (s.tag tag).sqe) (fun s =>
      let x := s.tag tag
      let inp := ((List.range x.blocks).map (fun b => (s.blk tag b).data)).flatten
      match jobBlocks (Sqe.outLimit x.sqe) (inp.length + 1) 0 inp with
      | .error (i, overflow) => s.jobFail tag i overflow
      | .ok ds => s.jobOut tag ds))

end Sys2Proof.Machine
end

