-- ==== Sys2Proof/Machine/Namespaces.lean ====
section
/-! DEFINITION. Namespace Management and Attachment, Format NVM and Sanitize (R149, R150, R190 to R194, R332, R387, R419 to
R424). -/

namespace Sys2Proof.Machine

/-! ### Create (R190 to R192, R332) -/

/-- The LBA format that FLBAS names: bits 3:0, with bits 6:5 above them. -/
def flbasFormat (f : Nat) : Nat := f % 16 + f / 32 % 4 * 16

/-- A format that a kind of namespace accepts. -/
def formatOk (zoned : Bool) (f : Nat) : Bool := if zoned then decide (f < 18) else decide (f < 3)

/-- Protection settings that a format carries: types 1 to 3 need metadata. -/
def dpsOk (dps f : Nat) : Bool := decide (dps < 16) && decide (dps % 8 ≤ 3) && (dps % 8 == 0 || f % 3 != 0)

/-- The kind of a namespace to be created. -/
def State.newKind (s : State) (csi : Nat) : Nat := if csi = 2 then 1 else if s.pool.fdpEnabled then 2 else 0

/-- Check 3 of R192. -/
def State.createFields (s : State) (d : NsCreate) (csi : Nat) : Bool :=
  let k := s.newKind csi
  let f := flbasFormat d.flbas
  d.otherZero && d.nsze != 0 && decide (d.ncap ≤ d.nsze) && decide (d.nmic < 2) && dpsOk d.dps f
    && (k != 1 || d.nsze % zoneSize f == 0)
    && (if k = 2 then decide (d.phndl.length ≤ 128) && decide d.phndl.Nodup && d.phndl.all (fun h => decide (h < 128)) else d.phndl.isEmpty)

/-- The lowest namespace identifier that is free. (DESIGN CHOICE, log entry 64) -/
def State.freeNsid (s : State) : Option Nat := ((List.range Config.namespaces).map (fun i => i + 1)).find? (fun n => (s.ns n).st == 0)

/-- The zoned namespaces. -/
def State.zonedList (s : State) : List Nat := s.nsList.filter (fun n => (s.ns n).kind == 1)

/-- A field of the records of all zoned namespaces, summed. -/
def State.zonedSum (s : State) (sub : Nat) : Nat := ((s.zonedList).map (fun n => s.cfg (0x5800 + (n - 1)) sub)).sum

/-- R222: the map pages of a namespace to be created. -/
def State.newPages (s : State) (d : NsCreate) (csi : Nat) : Nat :=
  if s.newKind csi = 1 then
    let zs := zoneSize (flbasFormat d.flbas)
    if s.cfg 0x7400 2 = 0 then 0 else d.nsze / zs * ceilDiv zs 448
  else ceilDiv d.nsze 448

/-- R222: the directory with a namespace more leaves 262,144 frames. -/
def State.directoryRoom (s : State) (d : NsCreate) (csi : Nat) : Bool :=
  decide (262144 ≤ (s.mapCacheGiB * 2 ^ 30 - 8 * (s.directoryPages + s.newPages d csi)) / 4096)

/-- Check 5 of R192, with R222. -/
def State.createRoom (s : State) (d : NsCreate) (csi : Nat) : Bool :=
  let zoned := csi == 2
  (if zoned then
     decide (s.allZones + d.nsze / zoneSize (flbasFormat d.flbas) ≤ 4194304)
       && decide (s.zonedSum 9 + s.cfg 0x5000 2 ≤ Config.activeZones) && decide (s.zonedSum 0x0A + s.cfg 0x5000 3 ≤ Config.openZones)
   else decide (s.logicalUsed + d.nsze ≤ s.logicalLimit))
    && decide ((4 * d.ncap : Int) ≤ s.poolF) && (s.mode.readonlyCauses == 0 || d.ncap == 0)
    && s.directoryRoom d csi

/-- The first check of R192 that fails. -/
def State.createStatus (s : State) (d : NsCreate) (csi : Nat) : Option Status :=
  if !(csi == 0 || (csi == 2 && !s.pool.fdpEnabled && s.zonedOffered)) then some ⟨0, 2⟩
  else if d.flbas.testBit 4 || !formatOk (csi == 2) (flbasFormat d.flbas) then some ⟨1, 0x0A⟩
  else if !s.createFields d csi then some ⟨0, 2⟩
  else if s.freeNsid.isNone then some ⟨1, 0x16⟩
  else if !s.createRoom d csi then some ⟨1, 0x15⟩ else none

/-- A namespace comes to exist. -/
def State.nsMake (s : State) (n : Nat) (d : NsCreate) (csi : Nat) : State :=
  let k := s.newKind csi
  let i := 0x5800 + (n - 1)
  let mode := s.cfg 0x7400 (if k = 1 then 2 else 1)
  let y : Ns := { st := 1, kind := k, nsze := d.nsze, lbaf := flbasFormat d.flbas, dps := d.dps, nmic := d.nmic
                  phndl := if k = 2 ∧ d.phndl.isEmpty = true then [0] else d.phndl
                  compressedMap := k == 1 && mode != 0, createSeq := s.recov.seqNext }
  let s1 := ((s.recordClear i).setNs n y).putCfg i 4 d.ncap
  let s2 := if k = 1 then (s1.putCfg i 9 (s.cfg 0x5000 2)).putCfg i 0x0A (s.cfg 0x5000 3) else s1
  ((s2.putCfg i 0x20 mode).nsJournal n 0).nsTableWrite

/-- SEL of Namespace Management and Attachment. -/
def Sqe.sel (e : Sqe) : Nat := e.cdw10 % 16

/-- NAMESPACE_CREATE (R192, R214, R339). -/
def execNamespaceCreate (tag : Nat) (d : NsCreate) (s0 : State) : Res :=
  .next (s0.when (s0.adm tag 0x0D && Sqe.sel (s0.tag tag).sqe == 0) (fun s0 =>
    let s := (s0.boundary 0x5000).boundaryPart 0x7400 (fun f => f == 1 || f == 2)
    let e := (s.tag tag).sqe
    let csi := e.cdw11 / 2 ^ 24
    let pf := s.qfunc (s.tag tag).q
    if s.jrnHeld then s.jrnWait
    else match s.dptrStatus pf.1 pf.2 4096 e with
      | some st => s.commitTag tag st
      | none => match s.createStatus d csi, s.freeNsid with
        | some st, _ => s.commitTag tag st
        | none, some n => (s.nsMake n d csi).succeed tag n
        | none, none => s))

/-! ### Delete (R193, R422) -/

/-- R193: a controller hears that a namespace was attached or detached, and lists it as changed. -/
def State.nsChanged (s : State) (c n : Nat) : State :=
  let x := s.ctrl c
  (s.setCtrl c { x with changedNs := if x.changedNs.contains n then x.changedNs else x.changedNs ++ [n] }).raise c ⟨2, 0, 4, none⟩

/-- No admitted I/O command of a namespace is left. -/
def State.nsIdle (s : State) (n : Nat) : Bool := !s.tags.any (fun x => !(x.2.st = .free) && !x.2.admin && x.2.sqe.nsid == n)

/-- The command for which a namespace is being worked on ends, once no other namespace waits for it. -/
def State.workEnd (s : State) (t op : Nat) : State :=
  let x := s.tag t
  if x.admin && x.built && decide (x.st = .run) && x.sqe.opcode == op && !s.nss.any (fun y => y.2.workTag == some t) then s.succeed t else s

/-- A delete of one namespace begins. -/
def State.nsDrop (s : State) (t n : Nat) : State :=
  let y := s.ns n
  (s.setNs n { y with st := 2, attached := [], workTag := some t }).forEach y.attached (fun c s => s.nsChanged c n)

/-- NAMESPACE_DELETE (R193). -/
def execNamespaceDelete (tag : Nat) (s : State) : Res :=
  .next (s.when (s.adm tag 0x0D && Sqe.sel (s.tag tag).sqe == 1) (fun s =>
    let x := s.tag tag
    let n := x.sqe.nsid
    let run (l : List Nat) : State := (s.forEach l (fun n s => s.nsDrop tag n)).setTag tag { x with built := true, st := .run }
    if n = 0xFFFFFFFF then
      let l := s.nsList.filter (fun k => (s.ns k).st == 1)
      if l.isEmpty then s.succeed tag else run l
    else if (s.ns n).st = 3 then s.commitTag tag ⟨0, 0x84⟩
    else if n = 0 ∨ Config.namespaces < n ∨ (s.ns n).st ≠ 1 then s.commitTag tag ⟨0, 0x0B⟩
    else run [n]))

/-- NAMESPACE_DELETE_COMPLETE (R193, R421, R422). -/
def execNamespaceDeleteComplete (nsid : Nat) (s0 : State) : Res :=
  .next (s0.when (decide ((s0.ns nsid).st = 2) && s0.nsIdle nsid) (fun s0 =>
    let s := s0.boundary (0x5800 + (nsid - 1))
    let t := (s.ns nsid).workTag
    if s.jrnHeld then s.jrnWait
    else
      let s1 := ((s.nsJournal nsid 1).keyErase nsid).nsVoid nsid
      let s2 := { s1 with zones := s1.zones.filter (fun x => x.1 / 2 ^ 32 != nsid) }
      let s3 := (((s2.setNs nsid {}).recordClear (0x5800 + (nsid - 1))).keyTableWrite).nsTableWrite
      (match t with
       | some k => s3.workEnd k 0x0D
       | none => s3).commitPump))

/-! ### Attachment (R149, R150, R193) -/

/-- The controller list names a slice that is Absent or Destroying, or none at all. -/
def State.listBad (s : State) (ctrls : List Nat) : Bool :=
  ctrls.isEmpty || ctrls.any (fun c => c == 0 || decide (Config.slices < c) || decide ((s.slice (c - 1)).st = .absent)
    || decide ((s.slice (c - 1)).st = .destroying))

/-- The status of an attachment to a namespace that is not there, or is being formatted. -/
def State.nsGone (s : State) (n : Nat) : Option Status :=
  if n = 0 ∨ Config.namespaces < n ∨ (s.ns n).st = 0 ∨ (s.ns n).st = 2 then some ⟨0, 0x0B⟩
  else if (s.ns n).st = 3 then some ⟨0, 0x84⟩ else none

/-- NAMESPACE_ATTACH (R149, R193): `ctrls` are the controller identifiers of the list. -/
def execNamespaceAttach (tag : Nat) (ctrls : List Nat) (s : State) : Res :=
  .next (s.when (s.adm tag 0x15 && Sqe.sel (s.tag tag).sqe == 0) (fun s =>
    let n := (s.tag tag).sqe.nsid
    let y := s.ns n
    let cs := (ctrls.map (fun c => c - 1)).dedup
    match s.nsGone n with
    | some st => s.commitTag tag st
    | none =>
      if s.listBad ctrls then s.commitTag tag ⟨1, 0x1C⟩
      else if cs.any (fun c => y.attached.contains c) || (y.nmic % 2 == 0 && decide (1 < y.attached.length + cs.length)) then
        s.commitTag tag ⟨1, 0x18⟩
      else
        let s1 := (s.setNs n { y with attached := y.attached ++ cs, owner := if y.owner.isSome then y.owner else cs.head? }).nsTableWrite
        (s1.forEach cs (fun c s => s.nsChanged c n)).succeed tag))

/-- NAMESPACE_DETACH (R149, R150, R193). -/
def execNamespaceDetach (tag : Nat) (ctrls : List Nat) (s : State) : Res :=
  .next (s.when (s.adm tag 0x15 && Sqe.sel (s.tag tag).sqe == 1) (fun s =>
    let n := (s.tag tag).sqe.nsid
    let y := s.ns n
    let cs := (ctrls.map (fun c => c - 1)).dedup
    let rest := y.attached.filter (fun c => !cs.contains c)
    match s.nsGone n with
    | some st => s.commitTag tag st
    | none =>
      if s.listBad ctrls then s.commitTag tag ⟨1, 0x1C⟩
      else if !cs.all (fun c => y.attached.contains c) then s.commitTag tag ⟨1, 0x1A⟩
      else if y.owner.any (fun o => cs.contains o) && !rest.isEmpty then s.commitTag tag ⟨7, 0x90⟩
      else
        let s1 := (s.setNs n { y with attached := rest }).nsTableWrite
        (s1.forEach cs (fun c s => s.nsChanged c n)).succeed tag))

/-! ### Format NVM (R114, R149, R191, R193, R422) -/

/-- The fields of a Format NVM. -/
def Sqe.fmtLbaf (e : Sqe) : Nat := e.cdw10 % 16 + e.cdw10 / 2 ^ 12 % 4 * 16
def Sqe.fmtMset (e : Sqe) : Bool := e.cdw10.testBit 4
def Sqe.fmtDps (e : Sqe) : Nat := e.cdw10 / 2 ^ 5 % 8 + 8 * boolNat (e.cdw10.testBit 8)
def Sqe.fmtSes (e : Sqe) : Nat := e.cdw10 / 2 ^ 9 % 8

/-- FORMAT_NVM. -/
def execFormatNvm (tag : Nat) (s : State) : Res :=
  .next (s.when (s.adm tag 0x80) (fun s =>
    let x := s.tag tag
    let e := x.sqe
    let n := e.nsid
    let y := s.ns n
    let zoned := y.kind == 1
    match s.nsGone n with
    | some st => s.commitTag tag st
    | none =>
      if Sqe.fmtMset e || !formatOk zoned (Sqe.fmtLbaf e) then s.commitTag tag ⟨1, 0x0A⟩
      else if 2 < Sqe.fmtSes e ∨ dpsOk (Sqe.fmtDps e) (Sqe.fmtLbaf e) = false ∨ (zoned = true ∧ y.nsze % zoneSize (Sqe.fmtLbaf e) ≠ 0) then
        s.commitTag tag ⟨0, 2⟩
      else (s.setNs n { y with st := 3, workTag := some tag, formatLbaf := Sqe.fmtLbaf e, formatSes := Sqe.fmtSes e
                               formatDps := Sqe.fmtDps e }).setTag tag { x with built := true, st := .run }))

/-- FORMAT_COMPLETE (R149, R193, R421, R422). -/
def execFormatComplete (nsid : Nat) (s0 : State) : Res :=
  .next (s0.when (decide ((s0.ns nsid).st = 3) && s0.nsIdle nsid) (fun s0 =>
    let s := s0.boundary (0x5800 + (nsid - 1))
    let y := s.ns nsid
    if s.jrnHeld then s.jrnWait
    else
      let s1 := if y.formatSes = 0 then s else (s.keyErase nsid).keyTableWrite
      let s2 := s1.nsVoid nsid
      let z := s2.ns nsid
      let s3 := s2.setNs nsid { z with st := 1, lbaf := y.formatLbaf, dps := y.formatDps, owner := z.attached.head?
                                       createSeq := s2.recov.seqNext, workTag := none, formatLbaf := 0, formatSes := 0, formatDps := 0 }
      let s4 := (s3.nsJournal nsid 2).nsTableWrite
      (match y.workTag with
       | some t => s4.workEnd t 0x80
       | none => s4).commitPump))

/-! ### Sanitize (R387, R423, R424) -/

def Sqe.sanact (e : Sqe) : Nat := e.cdw10 % 8

/-- A sanitize that R423 accepts adds its cause of Maintenance, completes, and runs there.
(DESIGN CHOICE, log entry 66) -/
def State.sanitizeAccept (s : State) (t kind : Nat) : State :=
  let e := (s.tag t).sqe
  if e.cdw10.testBit 9 then s.commitTag t ⟨0, 2⟩
  else if s.sec.transition || !s.inService then s.commitTag t ⟨0, 0x0C⟩
  else if s.sec.sanRunning ≠ 0 then s.commitTag t ⟨0, 0x1D⟩
  else
    let s1 := { s with sec := { s.sec with sanRunning := kind, sanAuse := e.cdw10.testBit 3 } }
    (((s1.maintSet 1 true).maintBegin).succeed t).sanitizeRun

/-- SANITIZE_BLOCK_ERASE (R423, R424); an action that is not supported ends here. -/
def execSanitizeBlockErase (tag : Nat) (s : State) : Res :=
  .next (s.when (s.adm tag 0x84 && Sqe.sanact (s.tag tag).sqe != 1 && Sqe.sanact (s.tag tag).sqe != 4) (fun s =>
    if Sqe.sanact (s.tag tag).sqe = 2 then s.sanitizeAccept tag 2 else s.commitTag tag ⟨0, 2⟩))

/-- SANITIZE_CRYPTO_ERASE (R423, R424). -/
def execSanitizeCryptoErase (tag : Nat) (s : State) : Res :=
  .next (s.when (s.adm tag 0x84 && Sqe.sanact (s.tag tag).sqe == 4) (fun s => s.sanitizeAccept tag 1))

/-- SANITIZE_EXIT_FAILURE (R423, R424): the failure state ends, and with it the hold on the mode. -/
def execSanitizeExitFailure (tag : Nat) (s : State) : Res :=
  .next (s.when (s.adm tag 0x84 && Sqe.sanact (s.tag tag).sqe == 1) (fun s =>
    if (s.tag tag).sqe.cdw10.testBit 9 then s.commitTag tag ⟨0, 2⟩
    else if s.sec.transition || decide (s.mode.base = .flush) then s.commitTag tag ⟨0, 0x0C⟩
    else
      let s1 := { s with sec := { s.sec with sanFailed := false } }
      (if s.sec.sanFailed then s1.maintExit else s1).succeed tag))

end Sys2Proof.Machine
end

