-- ==== Sys2Proof/Machine/Security.lean ====
section
/-! DEFINITION. Firmware: images, slots, activation records and hitless activation (R432 to R437). -/

namespace Sys2Proof.Machine

/-! ### Images and slots (R432 to R434) -/

/-- The other firmware slot. -/
def otherSlot (k : Nat) : Nat := 3 - k

/-- The fields of a Firmware Commit. -/
def Sqe.fwFs (e : Sqe) : Nat := e.cdw10 % 8
def Sqe.fwAction (e : Sqe) : Nat := e.cdw10 / 8 % 8

/-- FS 0 names the slot that is not in force. (DESIGN CHOICE, log entry 67) -/
def State.fwTarget (s : State) (t : Nat) : Nat :=
  let fs := Sqe.fwFs (s.tag t).sqe
  if fs = 0 then otherSlot s.sec.slotInForce else fs

/-- Two pieces of the staging area share a byte. -/
def piecesMeet (a b : Nat × Nat) : Bool := decide (a.1 < b.1 + b.2) && decide (b.1 < a.1 + a.2)

/-- The pieces cover the staging area from its start without a gap. -/
def staged (l : List (Nat × Nat)) : Bool :=
  !l.isEmpty && (l.map (fun p => p.2)).sum == (l.map (fun p => p.1 + p.2)).foldl max 0

/-- An image that the commands of R434 take: its own checks, its security version, and a state format that reads the one in
force. -/
def State.imageGood (s : State) (f : FwImage) : Bool :=
  let now := match s.fwSlot s.sec.slotInForce with
    | some g => g.stateFormat
    | none => f.lowestFormat
  f.headerGood && f.signatureGood && f.digestGood && decide (s.sec.minSvn ≤ f.svn) && decide (f.lowestFormat ≤ now)

/-- Append an activation record to a slot's log of 64 records, which is erased when it is full. -/
def State.actRecord (s : State) (k : Nat) : State :=
  let full := decide (64 ≤ (s.sec.acts.filter (fun a => a.1 == k)).length)
  let old := if full then s.sec.acts.filter (fun a => a.1 != k) else s.sec.acts
  { s with sec := { s.sec with acts := old ++ [(k, s.sec.nextActSeq)], nextActSeq := s.sec.nextActSeq + 1, nextSlot := k } }

/-- Write an image to a slot, with the next IMAGE_SEQ. -/
def State.slotWrite (s : State) (k : Nat) (f : FwImage) : State :=
  let seq (i : Nat) : Nat := match s.fwSlot i with
    | some g => g.imageSeq
    | none => 0
  let g : FwImage := { f with slot := k, imageSeq := max (seq 1) (seq 2) + 1 }
  if k = 1 then { s with sec := { s.sec with slot1 := some g } } else { s with sec := { s.sec with slot2 := some g } }

/-- FIRMWARE_IMAGE_DOWNLOAD (R434): one piece; `image` is what the pieces together spell. -/
def execFirmwareImageDownload (tag : Nat) (image : FwImage) (s : State) : Res :=
  .next (s.when (s.adm tag 0x11) (fun s =>
    let x := s.tag tag
    let e := x.sqe
    let pf := s.qfunc x.q
    let p := (4 * e.cdw11, 4 * (e.cdw10 + 1))
    if s.sec.stagingOwner.any (fun o => o != pf.1) then s.commitTag tag ⟨0, 0x0C⟩
    else if p.1 % 4096 ≠ 0 ∨ p.2 % 4096 ≠ 0 ∨ 2 ^ 24 < p.1 + p.2 then s.commitTag tag ⟨0, 2⟩
    else if s.sec.stagingPieces.any (fun q => piecesMeet p q) then s.commitTag tag ⟨0, 2⟩
    else match s.dptrStatus pf.1 pf.2 p.2 e with
      | some st => s.commitTag tag st
      | none => { s with sec := { s.sec with stagingOwner := some pf.1, stagingPieces := s.sec.stagingPieces ++ [p]
                                             stagingImage := some image } }.succeed tag))

/-- A Firmware Commit in BUILD whose action satisfies a test. -/
def State.fwCommit (s : State) (t : Nat) (p : Nat → Bool) : Bool := s.adm t 0x10 && p (Sqe.fwAction (s.tag t).sqe)

/-- FIRMWARE_COMMIT_REPLACE (R434); an action that is not supported ends here. -/
def execFirmwareCommitReplace (tag : Nat) (s : State) : Res :=
  .next (s.when (s.fwCommit tag (fun a => a != 2 && a != 3)) (fun s =>
    let k := s.fwTarget tag
    if Sqe.fwAction (s.tag tag).sqe ≠ 1 then s.commitTag tag ⟨0, 2⟩
    else if 2 < k ∨ k = s.sec.slotInForce then s.commitTag tag ⟨1, 6⟩
    else match s.sec.stagingImage with
      | some f =>
        if staged s.sec.stagingPieces && s.imageGood f then
          let s1 := (s.slotWrite k f).actRecord k
          { s1 with sec := { s1.sec with stagingOwner := none, stagingPieces := [], stagingImage := none } }.succeed tag
        else s.commitTag tag ⟨1, 7⟩
      | none => s.commitTag tag ⟨1, 7⟩))

/-- FIRMWARE_COMMIT_ACTIVATE_NEXT (R434). -/
def execFirmwareCommitActivateNext (tag : Nat) (s : State) : Res :=
  .next (s.when (s.fwCommit tag (fun a => a == 2)) (fun s =>
    let k := s.fwTarget tag
    if 2 < k then s.commitTag tag ⟨1, 6⟩
    else match s.fwSlot k with
      | some f => if s.imageGood f then (s.actRecord k).succeed tag else s.commitTag tag ⟨1, 7⟩
      | none => s.commitTag tag ⟨1, 7⟩))

/-! ### Hitless activation (R435 to R437) -/

/-- The order of the clusters. -/
def actOrder : List Nat := [12, 13, 8, 9, 10, 11, 0, 1, 2, 3, 4, 5, 6, 7, 14]

/-- The cluster after another in that order. -/
def actNext (c : Nat) : Option Nat := (actOrder.drop (actOrder.findIdx (fun k => k == c) + 1)).head?

/-- FIRMWARE_COMMIT_ACTIVATE_NOW (R434, R435): the activation starts; the command completes with its last handoff. -/
def execFirmwareCommitActivateNow (tag : Nat) (s : State) : Res :=
  .next (s.when (s.fwCommit tag (fun a => a == 3)) (fun s =>
    let k := s.fwTarget tag
    if 2 < k then s.commitTag tag ⟨1, 6⟩
    else if k = s.sec.slotInForce then s.succeed tag
    else if s.sec.actState = 1 ∨ s.sec.actState = 2 ∨ s.sec.sanRunning ≠ 0 ∨ s.sec.transition = true ∨ s.mode.base = .flush
        ∨ s.freeSpares.isEmpty = true then s.commitTag tag ⟨1, 0x13⟩
    else match s.fwSlot k with
      | some f =>
        if s.imageGood f then
          { s with sec := { s.sec with actState := 1, actSlot := k, actTag := some tag, actEnginesLeft := 8, actCluster := 12
                                       lastHoldUs := 0 } }.setTag tag { s.tag tag with built := true, st := .run }
        else s.commitTag tag ⟨1, 7⟩
      | none => s.commitTag tag ⟨1, 7⟩))

/-- The activation is complete: its record, the slot in force, the Alias key, and the commit's success. -/
def State.actDone (s : State) : State :=
  let k := s.sec.actSlot
  let s1 := s.actRecord k
  let s2 := { s1 with
    sec := { s1.sec with slotInForce := k, activations := satAdd 32 s1.sec.activations 1, aliasNo := s1.sec.aliasNo + 1, actState := 0
                         actTag := none, actEnginesLeft := 0 }
    engines := (s1.engines.map (fun (x : Nat × Engine) => (x.1, { x.2 with newImage := false }))).filter
      (fun x => !decide (x.2 = ({} : Engine))) }
  match s.sec.actTag with
  | some t => (s2.lcsBit 2).succeed t
  | none => s2.lcsBit 2

/-- ACTIVATION_HANDOFF (R435, R436): one group of as many engines as spares are free. -/
def execActivationHandoff (holdUs : Nat) (s : State) : Res :=
  .next (s.when ((s.sec.actState == 1 || s.sec.actState == 2) && s.awake) (fun s =>
    let c := s.sec.actCluster
    let left := s.sec.actEnginesLeft
    let g := min left (s.freeSpares.length)
    let s1 := s.forEach ((List.range g).map (fun i => 8 * c + (8 - left) + i)) (fun e s =>
      s.setEngine e { s.engine e with newImage := true })
    let s2 := { s1 with sec := { s1.sec with actState := 2, lastHoldUs := max s1.sec.lastHoldUs holdUs, actEnginesLeft := left - g } }
    if g = 0 then s1.activationStop
    else if left - g ≠ 0 then s2
    else match actNext c with
      | some k => { s2 with sec := { s2.sec with actCluster := k, actEnginesLeft := 8 } }
      | none => s2.actDone))

end Sys2Proof.Machine
end

