-- ==== Sys2Proof/Machine/Reliab.lean ====
section
/-! DEFINITION. Failures of units that no other family detects (R442, R447, R448): the Always-On heartbeat, Fabric links
and the Fabric core, soft decoders, and ports. -/

namespace Sys2Proof.Machine

/-- R442: lanes or residue-checked units of the part have failed. -/
def State.laneFailed (s : State) (unit inst sev : Nat) : State := (s.sustainSet 1).rasReport unit inst 3 sev 0 []

/-- R447: the Fabric core is lost. -/
def State.fabricLost (s : State) (inst : Nat) : State := (s.rasRecord 0x0B inst 8 3 0 []).serviceEnd 2

/-- AON_HEARTBEAT_LOSS (R447): the fast domain misses the 1 kHz heartbeat for 10 ms. -/
def execAonHeartbeatLoss (s : State) : Res :=
  .next (s.when s.awake (fun s => (s.rasRecord 0x0E 0 0x20 3 1 []).serviceEnd 1))

/-- The other ring's link of the same hop: links 0 to 23 are one ring's, 24 to 47 the other's.
(DESIGN CHOICE, log entry 23) -/
def otherLink (l : Nat) : Nat := (l + 24) % 48

/-- FABRIC_LINK_CRC_FAILURE (R442, R447): two flits of a link failed their CRC within 1 s. Its packets take the other
ring; with both links of a hop failed the Fabric core is lost. -/
def execFabricLinkCrcFailure (link : Nat) (s : State) : Res :=
  .next (s.when (s.awake && !s.cmp.failedLinks.contains link) (fun s =>
    let s1 := { s with cmp := { s.cmp with failedLinks := s.cmp.failedLinks ++ [link] } }
    let s2 := s1.rasReport 0x0B link 8 2 0 []
    if s.cmp.failedLinks.contains (otherLink link) then s2.fabricLost link else s2))

/-- FABRIC_CORE_FAILURE (R447): a stop's crossbar or the ring control fails. -/
def execFabricCoreFailure (s : State) : Res := .next (s.when s.awake (fun s => s.fabricLost 0))

/-- A decoder of the Soft-Decode Pool runs nothing: fewer reads decode than decoders work.
(DESIGN CHOICE, log entry 25) -/
def State.softIdle (s : State) (d : Nat) : Bool :=
  !s.cmp.softFailed.contains d && decide (s.cmp.softRun.length + s.cmp.softFailed.length < 8)

/-- SOFT_DECODER_SELF_TEST (R442): a failed known-answer decode takes the decoder out of the pool. -/
def execSoftDecoderSelfTest (decoder : Nat) (pass : Bool) (s : State) : Res :=
  .next (s.when (s.awake && s.softIdle decoder) (fun s =>
    if pass then s
    else { s with cmp := { s.cmp with softFailed := s.cmp.softFailed ++ [decoder] } }.laneFailed 5 decoder 2))

/-- R448: the port has failed: in dual-port mode its link is lost for good, in single-port mode service ends. -/
def State.portFail (s : State) (p : Nat) : State :=
  let s1 := s.setPort p { s.port p with failed := true }
  if s.dual then (s1.rasRecord 0x0A p 5 2 0 [p]).linkLost p
  else (s1.rasRecord 0x0A p 5 3 7 [p]).serviceEnd 7

/-- PORT_FAILURE (R448): a parity error of the port's logic, or a failed loopback check after a failed training attempt.
Two parity errors within an hour, or three failed checks in a row, fail the port. -/
def execPortFailure (port : Nat) (loopback : Bool) (s : State) : Res :=
  .next (s.when (s.awake && s.portExists port && !(s.port port).failed) (fun s =>
    let x := s.port port
    if loopback then
      let s1 := s.setPort port { x with loopbackFails := x.loopbackFails + 1 }
      if 3 ≤ x.loopbackFails + 1 then s1.portFail port else s1
    else
      let ts := s.recent x.parityErrors hour ++ [s.aon.now]
      let s1 := s.setPort port { x with parityErrors := ts }
      if 2 ≤ ts.length then s1.portFail port else s1))

end Sys2Proof.Machine
end

