-- ==== Sys2Proof/Machine/DictRules.lean ====
section
/-! DEFINITION. The commit of a Staged record: its cross-field rules with their reasons (R50), the commit of R49 up to its
log record, and what follows when that record is durable. -/

namespace Sys2Proof.Machine

/-- A rule's reason where it does not hold. -/
def rule (ok : Bool) (reason : Nat) : Option Nat := if ok then none else some reason

/-- The first reason of a list of rules. -/
def firstReason (l : List (Option Nat)) : Option Nat := (l.filterMap id).head?

/-! ### Rules over the record with its new values in force: `s` is the state before, `t` the state with the new values -/

/-- R109: the controller memory buffer of port `p`. -/
def State.cmbRule (t : State) (p : Nat) : Option Nat :=
  firstReason [rule (decide (t.cmbVfCount p * t.cmbVfBytes p + 64 * 1024 ≤ t.cmbTotal)) 3,
    rule (!t.sqs.any (fun x => x.2.live && x.2.inCmb && (t.qfunc (codeQ x.1)).1 == p)) 6]

/-- R174. -/
def State.schedRule (t : State) : Option Nat :=
  let c := t.cfg 0x4000
  firstReason [rule (decide (c 4 + c 8 + c 5 ≤ 100)) 3, rule (decide (c 7 ≤ c 8)) 3]

/-- R180: the media profile limits the suspends where there is one. (DESIGN CHOICE, log entry 76) -/
def State.woadRule (t : State) : Option Nat :=
  let c := t.cfg 0x4001
  firstReason [rule (decide (c 4 ≤ c 5)) 3, rule (!t.profile || (decide (c 1 ≤ t.pf 0x12) && decide (c 2 ≤ t.pf 0x13))) 4]

/-- The most samples of an Ocxon row at a WIDTH (R328, R340). -/
def ocxRowMost (width : Nat) : Nat := 4096 / 2 ^ width

/-- R340: the Ocxon fields of a namespace record. -/
def State.ocxRule (t : State) (i : Nat) : Option Nat :=
  let c := t.cfg i
  firstReason [rule (c 0x22 != 3 || (decide (1 ≤ c 0x23) && decide (c 0x23 ≤ ocxRowMost (c 0x21)))) 3,
    rule (c 0x22 != 0 || decide (c 0x23 ≤ ocxRowMost (c 0x21))) 3]

/-- R216, R334, R340: the record of namespace `n`. (DESIGN CHOICE, log entry 75) -/
def State.nsRule (s t : State) (n : Nat) : Option Nat :=
  let i := 0x5800 + (n - 1)
  let c := t.cfg i
  let y := t.ns n
  let zoned := decide (y.st ≠ 0) && y.kind == 1
  let anyZoned (l : List Nat) : Bool := l.all (fun v => if zoned then decide (1 ≤ v) else v == 0)
  firstReason [rule (decide (c 0x21 ≤ 2)) 2, rule (decide (c 4 ≤ y.nsze)) 3, rule (decide (c 0x0A ≤ c 9)) 3,
    rule (decide (t.activeZones n ≤ c 9) && decide (t.openZones n ≤ c 0x0A)) 3,
    rule (!zoned || (decide (t.zonedSum 9 ≤ Config.activeZones) && decide (t.zonedSum 0x0A ≤ Config.openZones)
      && decide (t.zonedSum 0x0B ≤ Config.zrwas))) 4,
    rule (decide (c 4 ≤ s.cfg i 4) || decide (0 ≤ t.poolF)) 5,
    rule (anyZoned [c 9, c 0x0A] && (zoned || c 0x0B == 0)) 3, rule (y.st == 1) 3,
    rule (!zoned || y.compressedMap || c 0x20 == 0) 4, t.ocxRule i]

/-- R241: 6000h.02 counts as it is stored. -/
def State.pagerRule (t : State) : Option Nat :=
  let c := t.cfg 0x6001
  let region := match t.storedVal 0x6000 2 with
    | .num n => n
    | .bytes _ => 0
  firstReason [rule (decide (c 7 < c 6)) 3, rule (decide (4 * c 4 ≤ 1024 * region)) 4]

/-- R275, R276: Maintenance with no namespace present. -/
def State.mediaMode (t : State) : Option Nat := rule (decide (t.mode.base = .maintenance) && t.nsList.isEmpty) 6

/-- R275, R319: the media profile. -/
def State.profileRule (t : State) : Option Nat :=
  let c := t.pf
  firstReason [t.mediaMode, rule (decide (t.rawGranules ≤ 2 ^ 40)) 3,
    rule (decide (c 0x14 * c 0x16 < 2 ^ 20) && decide (c 0x15 * c 0x17 < 2 ^ 20)) 3,
    rule (flashRates.contains (c 0x31) && flashRates.contains (c 0x32) && decide (c 0x32 ≤ c 0x31)) 3,
    rule (decide (1152 * c 4 ≤ c 0x33)) 3,
    rule (decide (t.cfg 0x4001 1 ≤ c 0x12) && decide (t.cfg 0x4001 2 ≤ c 0x13)) 4]

/-- R277. -/
def State.policyRule (t : State) : Option Nat :=
  let c := t.cfg 0x6402
  firstReason [rule (decide (c 2 < c 1)) 3, rule (decide (c 4 < c 5)) 3]

/-- E_worst of R287. -/
def State.holdWorst (s : State) : Nat := s.holdE (s.holdN - 3600)

/-- R288: a change that raises HOLDUP_WORST_MJ above the cap. -/
def State.overCap (s t : State) : Bool :=
  let cap := s.cfg 0x8040 7
  cap != 0 && decide (cap < t.holdWorst) && decide (s.holdWorst < t.holdWorst)

/-- R301, R288. -/
def State.flushRule (s t : State) : Option Nat :=
  firstReason [rule (decide (t.mapCacheGiB * 1024 + 2 * t.cfg 0x8040 1 + 4096 ≤ t.installedGiB * 1024)) 5, rule (!s.overCap t) 5]

/-- R403. -/
def State.zoneRule (t : State) (i : Nat) : Option Nat :=
  let c := t.cfg i
  firstReason [rule (decide (c 4 ≤ c 5)) 3, rule (decide (c 5 + 3 * c 6 < c 7)) 3, rule (decide (c 8 ≤ c 6)) 3,
    rule (c 1 == 0 || c 2 != 0) 3]

/-! ### The lifecycle request (R429, R430, R431) -/

/-- The states that R429 lets a state request. -/
def lifeAllowed (state target : Nat) : Bool :=
  match state, target with
  | 0, 1 => true
  | 1, 2 => true
  | 1, 3 => true
  | 2, 3 => true
  | 2, 4 => true
  | 3, 4 => true
  | 4, 2 => true
  | _, 5 => state != 0 && state != 5
  | _, _ => false

/-- R430: a valid maker token for a transition of this device now. (DESIGN CHOICE, log entry 84) -/
def State.tokenGood (s : State) (target : Nat) (l : List Byte) : Bool :=
  l.length == 124 && l.take 4 == leBytes 4 0x4B544D54
    && (l.drop 4).take 4 == [BitVec.ofNat 8 s.lifecycle, BitVec.ofNat 8 target, BitVec.ofNat 8 s.sec.fuses.length, 0#8]
    && (l.drop 8).take 20 == Config.serial && Config.tokenSigned l

/-- The maker condition of R429: the row Blank to Maker takes a Maker session alone. -/
def State.makerHolds (s : State) (r : Role) (target : Nat) (token : List Byte) : Bool :=
  let needs := s.lifecycle == 0 || (s.lifecycle == 1 && target == 2) || target == 4 || (s.lifecycle == 4 && target == 2)
    || (target == 5 && (s.lifecycle == 1 || s.lifecycle == 4))
  !needs || decide (r = .maker) || (s.lifecycle != 0 && s.tokenGood target token)

/-- The state precondition of R429. -/
def State.lifeReady (s : State) (target : Nat) : Bool :=
  match target with
  | 3 => [1, 2, 3, 4].any (fun k => !(s.cfgBytes 0x8802 k).isEmpty)
  | 5 => s.keysInUse == 0
  | 1 => true
  | 2 => s.lifecycle == 1 || s.sec.erased
  | _ => s.sec.erased

/-- R431: the request that the record now holds. -/
def State.lifeRule (s t : State) (r : Role) : Option Nat :=
  let target := t.cfg 0x9001 1
  firstReason [rule (decide (s.mode.base = .maintenance)) 6, rule (lifeAllowed s.lifecycle target) 3,
    rule (s.makerHolds r target (t.cfgBytes 0x9001 2)) 3, rule (s.lifeReady target) 4,
    rule (decide (s.sec.fuses.length < 31) || (target == 5 && decide (s.sec.fuses.length < 32))) 5]

/-- Step 2 and 3, 5 and 6 of R429. (DESIGN CHOICE, log entry 74) -/
def State.lifeWrite (s : State) (target : Nat) : State :=
  let s1 := { s with sec := { s.sec with fuses := s.sec.fuses ++ [target + (15 - target) * 16], transition := false } }
  (s1.sessionsEnd (fun _ => true)).lcsBit 0

/-! ### Slices (R137, R142) -/

/-- Bound in the sense of R142: Bound or Resetting. -/
def State.slBound (s : State) (n : Nat) : Bool := (s.slice n).st.isBound

/-- The other Bound slices. -/
def State.otherBound (s : State) (n : Nat) : List Nat := s.boundSlices.filter (fun m => m != n)

/-- The slice owns a namespace or has one attached. -/
def State.sliceHasNs (s : State) (n : Nat) : Bool := s.nss.any (fun x => x.2.owner == some n || x.2.attached.contains n)

/-- R137: the action is listed for the slice's state, and its condition holds. -/
def State.actionAllowed (s : State) (n action : Nat) : Bool :=
  match (s.slice n).st, action with
  | .absent, 1 => true
  | .created, 0 => true
  | .created, 2 => true
  | .created, 5 => !s.sliceHasNs n
  | .bound, 0 => true
  | .bound, 3 => true
  | .bound, 4 => true
  | .bound, 5 => !s.sliceHasNs n
  | .resetting, 0 => true
  | .resetting, 3 => true
  | .resetting, 4 => true
  | .resetting, 5 => !s.sliceHasNs n
  | _, _ => false

/-- R141, R142: ASQ, ACQ and AQA name queues in valid space. -/
def State.adminSpace (t : State) (n : Nat) : Bool :=
  let c := t.cfg (0x3000 + n)
  let sq := 64 * (c 0x13 % 4096 + 1)
  let cq := 16 * (c 0x13 / 2 ^ 16 % 4096 + 1)
  let base := c 0x11 / 4096 * 4096
  c 0x11 / 2 % 2 ^ 11 == 0 && c 0x12 % 4096 == 0 && decide (c 0x12 + cq ≤ 2 ^ 64)
    && decide (base + sq ≤ if (c 0x11).testBit 0 then t.cmbShare (t.slPort n) (t.slFn n) else 2 ^ 64)

/-- R142: the rules of a bind with another Bound slice, in order, with their statuses. -/
def State.bindRules (t : State) (n : Nat) : List (Bool × Nat × Status) :=
  let here := (t.otherBound n).filter (fun m => t.slPort m == t.slPort n && t.slFn m == t.slFn n)
  [(!here.any (fun m => t.slPasid m == t.slPasid n), 4, ⟨7, 0x92⟩),
   (here.isEmpty || ((t.slPasid n).isSome && here.all (fun m => (t.slPasid m).isSome)), 4, ⟨7, 0x92⟩),
   (t.slFn n == 0 || !here.any (fun m => t.cfg (0x3000 + m) 8 == t.cfg (0x3000 + n) 8), 4, ⟨7, 0x90⟩)]

/-- Rules of a bind and of an update. -/
def State.queueRules (t : State) (n : Nat) (counts : Bool) : List (Bool × Nat × Status) :=
  let here := (t.otherBound n).filter (fun m => t.slPort m == t.slPort n && t.slFn m == t.slFn n)
  let pairs (m : Nat) : Nat := t.cfg (0x3000 + m) 0x0C - 1 + (if t.slStdq m then t.cfg (0x3000 + m) 0x0D else 0)
  [(!t.slStdq n || !here.any (fun m => t.slStdq m), 4, ⟨7, 0x90⟩),
   (decide (((t.otherBound n).map pairs).sum + (if counts then pairs n else 0) ≤ Config.ioQueuePairs), 5, ⟨7, 0x91⟩)]

/-- A key slot that no slice holds. -/
def State.keySlotFree (s : State) (k : Nat) : Bool := decide (k < 4096) && !s.slices.any (fun x => x.2.keySlot == k)

/-- R142: the first rule that fails, with the status of a vendor command. -/
def State.sliceRule (s t : State) (n action : Nat) : Option (Nat × Status) :=
  let update := action == 0
  let bind := action == 2
  let bad : Status := ⟨0, 2⟩
  let l : List (Bool × Nat × Status) :=
    [(s.actionAllowed n action, 3, ⟨7, 0x90⟩),
     (!(action == 1 || bind || update) || decide (t.slPort n < if t.dual then 2 else 1), 3, bad),
     (!(update && s.slBound n) || t.slHome n == s.slHome n, 3, ⟨7, 0x90⟩),
     (!(bind || update) || t.adminSpace n, 3, bad),
     (!t.cfgB (0x3000 + n) 0x20 || t.cfg (0x3000 + n) 0x24 != 0, 3, bad)]
    ++ (if bind then t.bindRules n else []) ++ (if bind || update then t.queueRules n (bind || s.slBound n) else [])
    ++ [(action != 1 || (List.range 4096).any (fun k => s.keySlotFree k), 5, ⟨7, 0x91⟩),
        (decide (s.mode.base ≠ .flush), 6, ⟨7, 0x90⟩)]
  (l.find? (fun x => !x.1)).map (fun x => x.2)

/-! ### The commit (R49) -/

/-- The cross-field rules of a record (R50): `t` holds its new values in force. -/
def State.crossRules (s t : State) (r : Role) (i : Nat) : Option Nat :=
  if 0x5800 ≤ i ∧ i ≤ 0x5FFF then s.nsRule t (i - 0x5800 + 1)
  else if 0x8110 ≤ i ∧ i ≤ 0x8117 then t.zoneRule i
  else match i with
  | 0x2003 => t.cmbRule 0
  | 0x2004 => t.cmbRule 1
  | 0x4000 => t.schedRule
  | 0x4001 => t.woadRule
  | 0x5000 => rule (decide (t.cfg 0x5000 3 ≤ t.cfg 0x5000 2)) 3
  | 0x6001 => t.pagerRule
  | 0x6400 => t.profileRule
  | 0x6401 => t.mediaMode
  | 0x6402 => t.policyRule
  | 0x7801 => rule (decide (t.cfg 0x7801 2 < t.cfg 0x7801 1)) 3
  | 0x8040 => s.flushRule t
  | 0x9001 => s.lifeRule t r
  | _ => none

/-- The fields of a record that earlier commits hold and that are not in force yet, with the shadow's on top. -/
def State.committedFields (s : State) (i : Nat) (fs : List (Nat × Val)) : List (Nat × Val) :=
  let waiting := (s.dict.appends.filter (fun o => o.commit && o.index == i)).map (fun o => o.fields)
  let pend := (s.commitsOf i).map (fun c => c.fields)
  ((pend ++ waiting).foldl mergeFields []) |> (fun old => mergeFields (old.filter (fieldKept i)) fs)

/-- A value outside its range among the record's Staged fields (R49, R50). -/
def State.fieldOut (t : State) (i : Nat) : Bool :=
  (dictRec i).any (fun e => e.cls == .staged && !t.inRange e (t.cfgVal i e.sub))

/-- Why a commit is rejected: the reason of R50, and the status that R142 gives a vendor command. -/
def State.commitReason (s : State) (r : Role) (i : Nat) (fs : List (Nat × Val)) : Option (Nat × Status) :=
  let t := s.forceFields i fs
  let action := match fieldIn fs 2 with
    | some (.num n) => n
    | _ => 0
  if t.fieldOut i then some (2, ⟨7, 0x88⟩)
  else if 0x3000 ≤ i ∧ i ≤ 0x3FFF then s.sliceRule t (i - 0x3000) action
  else (s.crossRules t r i).map (fun k => (k, ⟨7, 0x88⟩))

/-- The 64-byte units of a whole record's log record (R53). -/
def State.recordUnits (s : State) (i : Nat) : Nat :=
  logRecordUnits ((s.packRecord 0 .maker i).1.length + ((dictRec i).map (fun e =>
    if e.ty = .domain ∧ e.cls = .staged then (s.cfgBytes i e.sub).length else 0)).sum)

/-- R49: the commit of a record by a session, up to its log record: none while it waits for that record, else a result and
the status of a vendor command. -/
def State.commitRec (s : State) (sess : Nat) (r : Role) (i : Nat) (path : Option DPath) (req : Nat) : State × Option (Nat × Status) :=
  match s.shadow i with
  | none => (s.setResult sess 1 none, some (rOk, {}))
  | some sh =>
    if sh.owner ≠ sess then (s, some (rShadowBusy, ⟨7, 0x80 + rShadowBusy⟩))
    else
      let fs := s.committedFields i sh.fields
      match s.commitReason r i fs with
      | some (k, st) => (s.setResult sess 2 (some k), some (rCommit, st))
      | none =>
        match s.storeRefuses (s.recordUnits i) with
        | some k => (s, some (k, ⟨7, 0x80 + k⟩))
        | none =>
          let action := match fieldIn fs 2 with
            | some (.num n) => if 0x3000 ≤ i ∧ i ≤ 0x3FFF then n else 0
            | _ => 0
          let s1 := s.append ⟨0, i, 0xFF, fs, s.recordUnits i, sess, path, req, true, action⟩ true
          (if i = 0x9001 then { s1 with sec := { s1.sec with transition := true } } else s1, none)

/-- The shadow of a committed record is clear, but for fields written since the commit. -/
def State.shadowSettle (s : State) (i : Nat) (fs : List (Nat × Val)) : State :=
  match s.shadow i with
  | none => s
  | some sh =>
    let left := sh.fields.filter (fun x => !(fieldIn fs x.1 == some x.2))
    if left.isEmpty then s.dropShadow i
    else { s with dict := { s.dict with shadows := s.dict.shadows.map (fun (x : Nat × Shadow) =>
      if x.1 = i then (i, { sh with fields := left }) else x) } }

/-- R276: P and S0 are derived again at the commit of the profile or the capacity record. -/
def State.capacityAgain (s : State) : State :=
  if s.profile then { s with media := { s.media with initialised := true, s0 := s.spareS.toNat, lastSpare := 100 } } else s

/-- A commit whose log record is durable (R49): it waits for its boundary, or the commit itself is its boundary. -/
def State.commitDurable (s : State) (o : NorOp) : State :=
  let c : PendingCommit := ⟨o.session, o.path, o.reqId, o.fields, s.aon.now, false, o.action, o.seq⟩
  let s1 := s.shadowSettle o.index o.fields
  let s2 := { s1 with dict := { s1.dict with
    commits := s1.dict.commits.filter (fun x => x.1 != o.index || !x.2.answered || x.2.action != 0) ++ [(o.index, c)] } }
  match o.index with
  | 0x6400 => (s2.boundary 0x6400).capacityAgain
  | 0x6401 => (s2.boundary 0x6401).capacityAgain
  | 0x9001 => (s2.boundary 0x9001).lifeWrite ((s2.forceFields 0x9001 o.fields).cfg 0x9001 1)
  | _ => s2

end Sys2Proof.Machine
end

