-- ==== Sys2Proof/Machine/SliceEv.lean ====
section
/-! DEFINITION. The events of a slice (R137, R141, R153 to R158): the action of a durable commit, the generation hold, the ends
of a reset and of a destroy, and the posts of the dirty-page log. -/

namespace Sys2Proof.Machine

/-- The oldest commit of a slice's record that carries an action (R141). -/
def State.actionOf (s : State) (n : Nat) : Option PendingCommit := (s.commitsOf (0x3000 + n)).find? (fun c => c.action != 0)

/-- The action in progress is complete (R141): its commit comes in force and its command completes; later commits stay. -/
def State.actionEnd (s : State) (n : Nat) : State :=
  let i := 0x3000 + n
  let cs := s.commitsOf i
  let before := cs.takeWhile (fun c => c.action == 0)
  let s1 := s.setSlice n { s.slice n with acting := 0 }
  match cs.drop before.length with
  | [] => s1
  | c :: rest => s1.commitForce i c (before ++ [c]) rest

/-- The event no longer fits the slice's state (R141): the fields stay to be put in force without the action, and a vendor
command completes with Slice State Conflict. -/
def State.actionConflict (s : State) (n : Nat) (c : PendingCommit) : State :=
  let i := 0x3000 + n
  let vendor := match c.path with
    | some (.admin t) => if [0xC0, 0xC1, 0xC2, 0xC3].contains (s.tag t).sqe.opcode && s.pathLive (.admin t) c.reqId then some t else none
    | _ => none
  let s1 := { s with dict := { s.dict with commits := s.dict.commits.map (fun (x : Nat × PendingCommit) =>
    if x.1 = i ∧ x.2.seq = c.seq then (i, { c with action := 0, answered := c.answered || vendor.isSome }) else x) } }
  match vendor with
  | some t => s1.commitTag t ⟨7, 0x90⟩
  | none => s1

/-- R137: create. -/
def State.sliceMake (s : State) (n k : Nat) : State :=
  (s.setSlice n { s.slice n with st := .created, gen := ((s.slice n).gen + 1) % 65536, keySlot := k }).actionEnd n

/-- R137, R145: bind. -/
def State.sliceJoin (s : State) (n : Nat) : State :=
  let s1 := (s.setSlice n { s.slice n with st := .bound, fenceOpen := true }).actionEnd n
  ((s1.setupAdmin n).pageReset n).ltrAll

/-- R137, R154: a reset, an unbind or a destroy of a Bound slice, or its joining of the reset in progress. -/
def State.sliceLeave (s : State) (n action : Nat) (c : PendingCommit) : State :=
  let own := match c.path with
    | some (.admin t) => if (s.tag t).fenced && (s.tag t).slice == n && s.pathLive (.admin t) c.reqId then some t else none
    | _ => none
  let s1 := s.sliceReset n own
  s1.setSlice n { s1.slice n with acting := action, unbindPending := (s1.slice n).unbindPending || action == 3
                                  destroyPending := (s1.slice n).destroyPending || action == 5 }

/-- The event of an action on the slice's state at that moment. (DESIGN CHOICE, log entry 72) -/
def State.actionApply (s : State) (n k : Nat) (c : PendingCommit) : State :=
  let t := s.forceFields (0x3000 + n) (c.fields.filter (fieldKept (0x3000 + n)))
  let binds := ((t.bindRules n) ++ (t.queueRules n true)).all (fun x => x.1)
  if !s.actionAllowed n c.action || (c.action == 2 && !binds) then s.actionConflict n c
  else match c.action with
  | 1 => if s.keySlotFree k then s.sliceMake n k else s.unlisted
  | 2 => s.sliceJoin n
  | 5 =>
    if (s.slice n).st = .created then s.setSlice n { s.slice n with st := .destroying, acting := 5 } else s.sliceLeave n 5 c
  | a => s.sliceLeave n a c

/-- SLICE_ACTION_APPLY (R137, R141): `keySlot` is the free key slot that a create takes. -/
def execSliceActionApply (slice keySlot : Nat) (s : State) : Res :=
  .next (match s.actionOf slice with
    | some c => s.when ((s.slice slice).acting == 0) (fun s => s.actionApply slice keySlot c)
    | none => s.unlisted)

/-- GENERATION_HOLD_RELEASE (R154): no tag holds the increment any longer. -/
def execGenerationHoldRelease (slice : Nat) (s : State) : Res :=
  .next (s.when ((s.slice slice).genHeld && !s.genBlocked slice) (fun s => s.resetBody slice))

/-- What the end of a reset leaves of the slice (R137). -/
def Slice.afterReset (x : Slice) : Slice :=
  let y := { x with resets := satAdd 32 x.resets 1, resetTags := [], unbindPending := false, destroyPending := false }
  if x.destroyPending then { y with st := .destroying, fenceOpen := false }
  else if x.unbindPending then { y with st := .created, fenceOpen := false }
  else { y with st := .bound, fenceOpen := true }

/-- RESET_SEQUENCE_END (R137, R154): the reset's and an unbind's requests complete; with new fields in force queue 0 is set up
from them. -/
def execResetSequenceEnd (slice : Nat) (s : State) : Res :=
  .next (s.when (decide ((s.slice slice).st = .resetting) && !(s.slice slice).genHeld) (fun s =>
    let a := (s.slice slice).acting
    let s1 := s.setSlice slice (s.slice slice).afterReset
    let live := decide ((s1.slice slice).st = .bound)
    let s2 := if live then s1 else s1.dropSliceQueues slice
    let s3 := if a = 4 ∨ a = 3 then s2.actionEnd slice else s2
    (if live && a == 4 then s3.setupAdmin slice else s3).ltrAll))

/-- SLICE_DESTROY_COMPLETE (R137, R172): the key slot and every field but GEN return to their defaults, the credit to 0. -/
def execSliceDestroyComplete (slice : Nat) (s : State) : Res :=
  .next (s.when (decide ((s.slice slice).st = .destroying) && (s.tagsOfSlice slice).isEmpty) (fun s =>
    let s1 := (s.actionEnd slice).recordClear (0x3000 + slice)
    ((s1.setSlice slice { gen := (s.slice slice).gen }).setCtrl slice {}).setCredit slice 0))

/-! ### The dirty-page log (R156) -/

/-- A gathered word of a slice that waits, or whose post is in progress. -/
def State.dirtyWord (s : State) (n w : Nat) (posting : Bool) : Option DirtyWord :=
  s.dirty.find? (fun d => d.slice == n && d.word == w && d.posting == posting)

/-- DIRTY_LOG_POST_TIMER (R156): 100 µs after the first bit entered a word. -/
def execDirtyLogPostTimer (slice word : Nat) (s : State) : Res :=
  .next (match s.dirtyWord slice word false with
    | some d => s.when (s.elapsed d.since (100 * usec)) (fun s => s.dirtyPost slice word)
    | none => s.unlisted)

/-- DIRTY_LOG_POST_DONE (R156): the word is written back, and its entry of the cache is free. -/
def execDirtyLogPostDone (slice word : Nat) (s : State) : Res :=
  .next (s.when (s.dirtyWord slice word true).isSome (fun s =>
    { s with dirty := s.dirty.filter (fun d => !(d.slice == slice && d.word == word && d.posting)) }))

end Sys2Proof.Machine
end

