-- ==== Sys2Proof/Machine/AdminSlice.lean ====
section
/-! DEFINITION. The vendor admin commands on slices (R142 to R144, R156 to R158): each runs one commit of the slice record on
behalf of the issuing session, and completes when its action is complete. -/

namespace Sys2Proof.Machine

/-- SLICE, ANY and UNBIND of R143. -/
def Sqe.slice (e : Sqe) : Nat := e.cdw10 % 4096
def Sqe.anySlice (e : Sqe) : Bool := e.cdw10.testBit 31
def Sqe.unbind (e : Sqe) : Bool := e.cdw11.testBit 0

/-- R37, R143: the fields of a slice record that a manager writes, of those that `sel` takes, from a packed record; or the
status of one that is badly packed or holds a value outside its range. (DESIGN CHOICE, log entry 70) -/
def State.slicePacked (s : State) (data : List Byte) (sel : Nat → Bool) : Except Status (List (Nat × Val)) :=
  match checkCrc data with
  | none => .error ⟨0, 2⟩
  | some body =>
    match unpackFields t3000 body with
    | none => .error ⟨0, 2⟩
    | some l =>
      let mine := t3000.filter (fun e => e.acc.writes .manager && e.sub != 2 && sel e.sub)
      let vals := mine.filterMap (fun e => (l.find? (fun x => x.1 == e.sub)).bind (fun x => (e.decode x.2).map (fun v => (e, v))))
      if vals.all (fun x => s.inRange x.1 x.2) then .ok (vals.map (fun x => (x.1.sub, x.2)))
      else .error ⟨7, 0x80 + rRange⟩

/-- The commit that a slice command runs on slice `n` with its fields and its action. -/
def State.sliceCommit (s : State) (t n : Nat) (fs : List (Nat × Val)) (action : Nat) : State :=
  let p : DPath := .admin t
  let i := 0x3000 + n
  let sess := s.sessionOf p
  if s.shadowTaken sess i then s.commitTag t ⟨7, 0x80 + rShadowBusy⟩
  else
    match (s.shadowWrite sess i (fs ++ [(2, .num action)])).commitRec sess (s.roleOf p) i (some p) (s.tag t).order with
    | (s1, none) => s1.setTag t { s1.tag t with built := true, st := .run }
    | (s1, some (_, st)) => s1.commitTag t st

/-- A slice command whose data buffer holds a packed record. -/
def State.sliceCommand (s : State) (t n : Nat) (data : List Byte) (sel : Nat → Bool) (action : Nat) : State :=
  let x := s.tag t
  let pf := s.qfunc x.q
  match s.dptrStatus pf.1 pf.2 data.length x.sqe with
  | some st => s.commitTag t st
  | none =>
    match s.slicePacked data sel with
    | .error st => s.commitTag t st
    | .ok fs => s.sliceCommit t n fs action

/-- The lowest Absent slice. -/
def State.absentSlice (s : State) : Option Nat := (List.range Config.slices).find? (fun n => decide ((s.slice n).st = .absent))

/-- SLICE_CREATE (R137, R143). -/
def execSliceCreate (tag : Nat) (data : List Byte) (s : State) : Res :=
  .next (s.when (s.adm tag 0xC0) (fun s =>
    let e := (s.tag tag).sqe
    match (if Sqe.anySlice e then s.absentSlice else some (Sqe.slice e)) with
    | none => (s.setResult (s.sessionOf (.admin tag)) 2 (some 5)).commitTag tag ⟨7, 0x91⟩
    | some n => s.sliceCommand tag n data (fun _ => true) 1))

/-- SLICE_BIND (R137, R143): C1h with UNBIND 0. -/
def execSliceBind (tag : Nat) (data : List Byte) (s : State) : Res :=
  .next (s.when (s.adm tag 0xC1 && !Sqe.unbind (s.tag tag).sqe) (fun s =>
    s.sliceCommand tag (Sqe.slice (s.tag tag).sqe) data (fun _ => true) 2))

/-- SLICE_UNBIND (R137, R143): C1h with UNBIND 1. -/
def execSliceUnbind (tag : Nat) (s : State) : Res :=
  .next (s.when (s.adm tag 0xC1 && Sqe.unbind (s.tag tag).sqe) (fun s => s.sliceCommit tag (Sqe.slice (s.tag tag).sqe) [] 3))

/-- SLICE_RESET (R137, R143, R144): on a slice's own admin queue it resets the issuing slice. -/
def execSliceReset (tag : Nat) (s : State) : Res :=
  .next (s.when (s.adm tag 0xC2) (fun s =>
    let x := s.tag tag
    s.sliceCommit tag (if x.manager then Sqe.slice x.sqe else s.owner x.q) [] 4))

/-- SLICE_DESTROY (R137, R143). -/
def execSliceDestroy (tag : Nat) (s : State) : Res :=
  .next (s.when (s.adm tag 0xC3) (fun s => s.sliceCommit tag (Sqe.slice (s.tag tag).sqe) [] 5))

/-- DIRTY_LOG_CONTROL (R143, R157): 3000h.20 to 3000h.24 of the data. -/
def execDirtyLogControl (tag : Nat) (data : List Byte) (s : State) : Res :=
  .next (s.when (s.adm tag 0xC4) (fun s =>
    s.sliceCommand tag (Sqe.slice (s.tag tag).sqe) data (fun k => decide (0x20 ≤ k) && decide (k ≤ 0x24)) 0))

/-- R158: a flush of a slice's log: the active buffer takes every gathered bit and its header, and the other becomes active. -/
def State.dlogFlush (s : State) (n : Nat) : State :=
  let s1 := s.dirtyPostAll n
  let s2 := (s1.setSlice n { s1.slice n with dlogMark := ((s1.slice n).dlogMark + 1) % 2 ^ 32 }).dlogClose n
  s2.setSlice n { s2.slice n with dlogActiveB := !(s2.slice n).dlogActiveB }

/-- DIRTY_LOG_FLUSH (R158). -/
def execDirtyLogFlush (tag : Nat) (s : State) : Res :=
  .next (s.when (s.adm tag 0xC5) (fun s =>
    let n := Sqe.slice (s.tag tag).sqe
    if !s.cfgB (0x3000 + n) 0x20 then s.commitTag tag ⟨7, 0x94⟩
    else if (s.slice n).st ≠ .bound then s.commitTag tag ⟨7, 0x90⟩
    else
      let s1 := s.dlogFlush n
      s1.succeed tag ((s1.slice n).dlogMark)))

end Sys2Proof.Machine
end

