-- ==== Sys2Proof/Machine/DictCmds.lean ====
section
/-! DEFINITION. The dictionary's requests on every path (R31 to R64): reads, writes by class, commits, discards and restores,
the persistent store's events, and the transports. -/

namespace Sys2Proof.Machine

/-! ### Reads (R31, R36, R37, R58) -/

/-- The bytes that a read of OFFSET and LENGTH takes from a content. -/
def readSlice (p : DPath) (f : DFrame) (data : List Byte) : List Byte :=
  (data.drop f.offset).take (if f.length = 0 then pathLimit p else min f.length (pathLimit p))

/-- OP 01h. -/
def State.readOp (s : State) (r : Role) (sess : Nat) (p : DPath) (f : DFrame) : Ans :=
  match s.indexRefused r f.index with
  | some k => { result := k }
  | none =>
    if f.sub = 0 then { ty := 2, value := leBytes 1 (dictTop f.index) }
    else match dictEnt f.index f.sub with
    | none => { result := rNoSub }
    | some e =>
      if !e.acc.reads r then { result := rDenied }
      else
        let v := s.readVal sess f.index e
        let b := e.encode v.1
        if e.ty ≠ .domain then { ty := e.ty.code, value := b, pending := v.2 }
        else if b.length < f.offset then { result := rRange }
        else { ty := 9, value := readSlice p f b, pending := v.2 }

/-- OP 03h: one snapshot. -/
def State.readRecordOp (s : State) (r : Role) (sess : Nat) (p : DPath) (f : DFrame) : Ans :=
  match s.indexRefused r f.index with
  | some k => { result := k }
  | none =>
    let v := s.packRecord sess r f.index
    if v.1.length < f.offset then { result := rRange } else { ty := 10, value := readSlice p f v.1, pending := v.2 }

/-- OP 05h: the role reaches the index and reads an entry of it. -/
def State.nextOp (s : State) (r : Role) (i : Nat) : Ans :=
  match (List.range' (i + 1) (65535 - i)).find? (fun j =>
    dictExists j && s.roleReaches r j && !s.indexClosed j && (dictRec j).any (fun e => e.acc.reads r)) with
  | some j => { index := j }
  | none => { result := rNoIndex }

/-! ### Writes by class (R44, R45) -/

/-- A request inside an SPDM session. -/
def DPath.inSpdm : DPath → Bool
  | .mctp _ k => k.isSome
  | .bdp _ k => k.isSome
  | _ => false

/-- Entries whose write acts at once and is kept nowhere in the store. -/
def actsAtOnce (i sub : Nat) : Bool :=
  (i == 0x8000 && sub == 5) || (i == 0xA000 && sub == 3) || (i == 0xA001 && sub == 1) || (i == 0x9100 && sub == 7)
    || (decide (0x7000 ≤ i ∧ i ≤ 0x701F) && sub == 0x12)

/-- A numeric value. -/
def Val.nat : Val → Nat
  | .num n => n
  | .bytes _ => 0

/-- R240, R288, R440, R457: the ranges that the state decides. -/
def State.rangeNow (s : State) (i sub : Nat) (v : Val) : Bool :=
  match i, sub with
  | 0xA000, 3 => decide (v.nat ≤ s.ras.lastSeq)
  | 0x9100, 7 => decide (s.sec.minSvn ≤ v.nat) && decide (v.nat ≤ match s.imageNow with
      | some x => x.svn
      | none => 0)
  | 0x6000, 2 => decide (4 * s.cfg 0x6001 4 ≤ 1024 * v.nat)
  | 0x6000, 3 => !s.overCap (s.putInForce 0x6000 3 (some v))
  | _, _ => true

/-- A value is one that the entry takes (R35). -/
def State.valueOk (s : State) (i : Nat) (e : DEnt) (v : Val) : Bool := s.inRange e v && s.rangeNow i e.sub v

/-- The effect of a write of `actsAtOnce`, with its result, none while a Maintenance entry runs (R387, R440, R457, R458). -/
def State.actWrite (s : State) (i sub : Nat) (v : Val) : State × Option Nat :=
  match i, sub with
  | 0x8000, _ =>
    let was := s.mode.maintWaiters
    let x := s.maintRequest (v.nat != 0)
    if v.nat = 0 ∧ x.2 = some rOk then
      (({ x.1 with mode := { x.1.mode with maintWaiters := [] } }).forEach was (fun w s =>
        s.answer w.1 { op := 2, final := true, reqId := w.2, index := 0x8000, sub := 5, ty := 0, offset := 0, length := 0, value := [] } {}),
       some rOk)
    else x
  | 0xA000, _ => ({ s with ras := { s.ras with ack := v.nat } }, some rOk)
  | 0xA001, _ => (s.timeSet v.nat, some rOk)
  | 0x9100, _ => ({ s with sec := { s.sec with minSvn := v.nat } }, some rOk)
  | c, _ => (if v.nat = 0 then s else s.retrainAsk (c - 0x7000), some rOk)

/-- Write checked fields of one index under their classes: Staged fields enter the shadow, persistent ones one log record,
and the rest act at once. The answer is none while it waits. -/
def State.writeFields (s : State) (sess : Nat) (p : DPath) (f : DFrame) (units : Nat) (l : List (DEnt × Val)) : State × Option Ans :=
  let i := f.index
  let staged := (l.filter (fun x => x.1.cls == .staged)).map (fun x => (x.1.sub, x.2))
  let acts := (l.filter (fun x => actsAtOnce i x.1.sub)).map (fun x => (x.1.sub, x.2))
  let kept := (l.filter (fun x => x.1.cls != .staged && !x.1.vol && !actsAtOnce i x.1.sub)).map (fun x => (x.1.sub, x.2))
  let refused := if kept.isEmpty then none else s.storeRefuses units
  if !staged.isEmpty && s.shadowTaken sess i then (s, some { result := rShadowBusy })
  else match refused with
  | some k => (s, some { result := k })
  | none =>
    let s1 := if staged.isEmpty then s else s.shadowWrite sess i staged
    let go := acts.foldl (fun (acc : State × Option Nat) x => let y := acc.1.actWrite i x.1 x.2; (y.1, if acc.2 = some rOk then y.2 else acc.2))
      (s1, some rOk)
    if !kept.isEmpty then (go.1.append ⟨0, i, f.sub, kept, units, sess, some p, f.reqId, false, 0⟩ true, none)
    else match go.2 with
      | some k => (go.1, some { result := k })
      | none => ({ go.1 with mode := { go.1.mode with maintWaiters := go.1.mode.maintWaiters ++ [(p, f.reqId)] } }, none)

/-! ### Commit, discard, restore (R48 to R51) -/

/-- A write of 1F00h.01. -/
def State.commitOp (s : State) (r : Role) (sess : Nat) (p : DPath) (req i : Nat) : State × Option Ans :=
  let s1 := s.setNamed sess i
  match s.indexRefused r i with
  | some k => (s1, some { result := k })
  | none =>
    if !(match r with
        | .tenant _ => false
        | _ => true) || (i == 0x9001 && !DPath.inSpdm p) then (s1, some { result := rDenied })
    else if !dictStaged i then (s1, some { result := rRange })
    else match s1.commitRec sess r i (some p) req with
      | (s2, some x) => (s2, some { result := x.1 })
      | (s2, none) => (s2, none)

/-- A write of 1F00h.02. -/
def State.discardOp (s : State) (r : Role) (i : Nat) : State × Option Ans :=
  match s.indexRefused r i with
  | some k => (s, some { result := k })
  | none =>
    match r with
    | .tenant _ => (s, some { result := rDenied })
    | _ => if !dictStaged i then (s, some { result := rRange }) else (s.dropShadow i, some {})

/-- The default of an entry (R42). -/
def defaultVal (i : Nat) (e : DEnt) : Val := if e.ty = .str ∨ e.ty = .domain then .bytes [] else .num (dictDefault i e.sub)

/-- The writable entries of an index at their defaults. -/
def defaultsOf (r : Role) (i : Nat) : List (DEnt × Val) := ((dictRec i).filter (fun e => e.acc.writes r)).map (fun e => (e, defaultVal i e))

/-- R51: the fields of a restore of the whole dictionary, by their keys: of every index outside 9000h to 91FFh that the store
holds, except a Staged record whose defaults a commit would reject. (DESIGN CHOICE, log entry 80) -/
def State.restoreAll (s : State) (r : Role) : List (Nat × Val) :=
  let ids := ((s.dict.stored.map (fun x => x.1 / 256)).dedup).filter (fun i => !decide (0x9000 ≤ i ∧ i ≤ 0x91FF))
  ids.flatMap (fun i =>
    let l := defaultsOf r i
    let bad := dictStaged i && (s.commitReason r i (l.map (fun x => (x.1.sub, x.2)))).isSome
    (l.filter (fun x => !x.1.vol && !(bad && x.1.cls == .staged))).map (fun x => (dkey i x.1.sub, x.2)))

/-- R51: a write of 1F00h.05. -/
def State.restoreOp (s : State) (r : Role) (sess : Nat) (p : DPath) (f : DFrame) (i : Nat) : State × Option Ans :=
  if i = 0xFFFF then
    if s.mode.base ≠ .maintenance then (s, some { result := rQuiesced })
    else
      let fs := s.restoreAll r
      let units := logRecordUnits (fieldsSize fs)
      match s.storeRefuses units with
      | some k => (s, some { result := k })
      | none => (s.append ⟨0, 0xFFFF, 0xFF, fs, units, sess, some p, f.reqId, false, 0⟩ true, none)
  else
    match s.indexRefused r i with
    | some k => (s, some { result := k })
    | none =>
      let l := (defaultsOf r i).filter (fun x => !(actsAtOnce i x.1.sub && (i == 0x9100 || decide (i ≤ 0x701F))))
      let rest := l.filter (fun x => x.1.cls != .staged)
      let staged := (l.filter (fun x => x.1.cls == .staged)).map (fun x => (x.1.sub, x.2))
      if l.isEmpty || (i == 0x9001 && !DPath.inSpdm p) then (s, some { result := rDenied })
      else if i = 0x1F00 then (s, some {})
      else if staged.isEmpty then s.writeFields sess p { f with index := i, sub := 0xFF } (s.recordUnits i) rest
      else if s.shadowTaken sess i then (s, some { result := rShadowBusy })
      else
        match (s.shadowWrite sess i staged).commitRec sess r i (some p) f.reqId with
        | (s1, some x) => (s1, some { result := x.1 })
        | (s1, none) =>
          let kept := (rest.filter (fun x => !x.1.vol)).map (fun x => (x.1.sub, x.2))
          (if kept.isEmpty then s1 else s1.append ⟨0, i, 0xFF, kept, s.recordUnits i, sess, none, 0, false, 0⟩ false, none)

/-! ### The write operations (R35 to R37, R45) -/

/-- A whole value for an entry, after its type. -/
def State.writeValue (s : State) (r : Role) (sess : Nat) (p : DPath) (f : DFrame) (e : DEnt) (data : List Byte) : State × Option Ans :=
  match e.decode data with
  | none => (s, some { result := rType })
  | some v =>
    if !s.valueOk f.index e v then (s, some { result := rRange })
    else if f.index = 0x1F00 then
      match f.sub with
      | 1 => s.commitOp r sess p f.reqId v.nat
      | 2 => s.discardOp r v.nat
      | _ => s.restoreOp r sess p f v.nat
    else s.writeFields sess p f (logRecordUnits data.length) [(e, v)]

/-- OP 02h. -/
def State.writeOp (s : State) (r : Role) (sess : Nat) (p : DPath) (f : DFrame) : State × Option Ans :=
  match s.indexRefused r f.index with
  | some k => (s, some { result := k })
  | none =>
    if f.sub = 0 then (s, some { result := rDenied })
    else match dictEnt f.index f.sub with
    | none => (s, some { result := rNoSub })
    | some e =>
      if !e.acc.writes r || (f.index == 0x9001 && !DPath.inSpdm p) then (s, some { result := rDenied })
      else if f.ty ≠ e.ty.code then (s, some { result := rType })
      else if e.ty ≠ .domain then s.writeValue r sess p f e f.value
      else if e.cls == .staged && s.shadowTaken sess f.index then (s, some { result := rShadowBusy })
      else match s.segment sess f with
        | (s1, .error k) => (s1, some { result := k })
        | (s1, .ok none) => (s1, some {})
        | (s1, .ok (some data)) => s1.writeValue r sess p f e data

/-- The fields of a packed record that the role writes, or why it is refused (R37). -/
def State.packedFields (s : State) (r : Role) (i : Nat) (data : List Byte) : Except Nat (List (DEnt × Val)) :=
  match unpackFields (dictRec i) (data.take (data.length - 4)) with
  | none => .error rType
  | some l =>
    if data.length < 4 then .error rType
    else if (checkCrc data).isNone then .error rFrame
    else
      let vals := ((dictRec i).filter (fun e => e.acc.writes r)).filterMap (fun e =>
        (l.find? (fun x => x.1 == e.sub)).bind (fun x => (e.decode x.2).map (fun v => (e, v))))
      if vals.all (fun x => s.valueOk i x.1 x.2) then .ok vals else .error rRange

/-- OP 04h. Only a record longer than one frame comes in segments (R37), so a first frame that is not full is the whole. -/
def State.writeRecordOp (s : State) (r : Role) (sess : Nat) (p : DPath) (f0 : DFrame) : State × Option Ans :=
  let f := { f0 with sub := 0xFF, final := f0.final || ((s.stageOf f0.index 0xFF).isNone && decide (f0.value.length < pathLimit p)) }
  match s.indexRefused r f.index with
  | some k => (s, some { result := k })
  | none =>
    if !(dictRec f.index).any (fun e => e.acc.writes r) || f.index == 0x1F00 || (f.index == 0x9001 && !DPath.inSpdm p) then
      (s, some { result := rDenied })
    else if dictStaged f.index && s.shadowTaken sess f.index then (s, some { result := rShadowBusy })
    else match s.segment sess f with
      | (s1, .error k) => (s1, some { result := k })
      | (s1, .ok none) => (s1, some {})
      | (s1, .ok (some data)) =>
        match s1.packedFields r f.index data with
        | .error k => (s1, some { result := k })
        | .ok l => s1.writeFields sess p f (s1.recordUnits f.index) l

/-! ### Serving a request on its path (R39, R41, R59 to R62) -/

/-- A request is performed: the mode first (R41), then by its OP. (DESIGN CHOICE, log entry 79) -/
def State.perform (s : State) (r : Role) (p : DPath) (f : DFrame) : State × Option Ans :=
  let sess := s.sessionOf p
  let write := f.op == 2 || f.op == 4
  if s.modeRefuses write f.index f.sub (fromLe f.value) sess then (s, some { result := rMode })
  else match f.op with
    | 1 => (s, some (s.readOp r sess p f))
    | 2 => s.writeOp r sess p f
    | 3 => (s, some (s.readRecordOp r sess p f))
    | 4 => s.writeRecordOp r sess p f
    | _ => (s, some (s.nextOp r f.index))

/-- R62: the stored response of a request that its session repeats within the window. -/
def State.repeated (s : State) (p : DPath) (req : Nat) : Option (List Byte) :=
  match p with
  | .bdp _ (some k) =>
    ((s.dict.dup.filter (fun x => x.1 == k && x.2.1 == req && !s.elapsed x.2.2.1 (s.cfg 0x1100 5 * msec))).getLast?).map (fun x => x.2.2.2)
  | _ => none

/-- A request arrives: the mailbox is busy, and a session has carried a message. -/
def State.arrive (s : State) (p : DPath) : State :=
  match p with
  | .mailbox _ => { s with regs := { s.regs with dmbGo := true, dmbBusy := true } }
  | .mctp _ (some k) => s.sessionSet k (fun x => x)
  | .bdp _ (some k) => s.sessionSet k (fun x => x)
  | _ => s

/-- A request waits for its answer: its command stays in RUN. -/
def State.hold (s : State) (p : DPath) : State :=
  match p with
  | .admin t => s.setTag t { s.tag t with built := true, st := .run }
  | _ => s

/-- A command's request carries its admission order, except a read, whose response frame it returns. -/
def State.named (s : State) (p : DPath) (f : DFrame) : DFrame :=
  match p with
  | .admin t => if (s.tag t).sqe.opcode = 0xC8 then f else { f with reqId := (s.tag t).order }
  | _ => f

/-- Serve a request; a path with no role has none, and it is counted (R39). -/
def State.serve (s : State) (p : DPath) (f0 : DFrame) : State :=
  let r := s.roleOf p
  let f := s.named p f0
  if r = .nobody then { s with ras := { s.ras with noRoleDrops := s.ras.noRoleDrops + 1 } }
  else match s.repeated p f.reqId with
  | some frame => (s.arrive p).emit (.dictResponse p frame)
  | none =>
    match (s.arrive p).perform r p f with
    | (s1, some a) => s1.answer p f a
    | (s1, none) => s1.hold p

/-- Answer a frame that is refused as a frame, by its REQID (R64). -/
def State.badFrame (s : State) (p : DPath) (req : Nat) : State :=
  if s.roleOf p = .nobody then { s with ras := { s.ras with noRoleDrops := s.ras.noRoleDrops + 1 } }
  else
    let f : DFrame := ⟨0, false, req, 0, 0, 0, 0, 0, []⟩
    (s.arrive p).answer p (s.named p f) { result := rFrame }

/-- The frame of a Dictionary Read (R59). (DESIGN CHOICE, log entry 81) -/
def State.readFrame (s : State) (t : Nat) : DFrame :=
  let e := (s.tag t).sqe
  { op := e.cdw10 / 2 ^ 24 % 256, final := false, reqId := 0, index := e.cdw10 % 2 ^ 16, sub := e.cdw10 / 2 ^ 16 % 256, ty := 0
    offset := e.cdw11, length := e.cdw12 % 2 ^ 16, value := [] }

/-- A path carries a request now. -/
def State.pathOpen (s : State) (p : DPath) (f : DFrame) : Bool :=
  match p with
  | .admin t => (s.adm t 0xC8 && f == s.readFrame t) || (s.adm t 0xC9 && (f.op == 2 || f.op == 4))
  | .mailbox q => s.awake && decide (s.mode.base ≠ .flush) && (s.port q).linkUp && !s.regs.dmbBusy
  | .mctp m k => s.mctpUp m && k.all (fun k => s.sessionOn m k true)
  | .bdp _ k => s.pathUp .fieldNet && s.cfgB 0x1100 3 && k.all (fun k => s.sessionOn .fieldNet k true)

/-- A row that is a frame with one OP. -/
def State.serveOp (s : State) (p : DPath) (f : DFrame) (op : Nat) : State :=
  s.when (s.pathOpen p f && f.op == op) (fun s => s.serve p f)

/-- READ_ENTRY (R36, R45, R47, R58). -/
def execReadEntry (path : DPath) (f : DFrame) (s : State) : Res := .next (s.serveOp path f 1)
/-- WRITE_ENTRY (R35, R36, R43, R44, R45). -/
def execWriteEntry (path : DPath) (f : DFrame) (s : State) : Res := .next (s.serveOp path f 2)
/-- READ_WHOLE_RECORD (R37, R58). -/
def execReadWholeRecord (path : DPath) (f : DFrame) (s : State) : Res := .next (s.serveOp path f 3)
/-- WRITE_WHOLE_RECORD (R37, R45). -/
def execWriteWholeRecord (path : DPath) (f : DFrame) (s : State) : Res := .next (s.serveOp path f 4)
/-- NEXT_INDEX (R58). -/
def execNextIndex (path : DPath) (f : DFrame) (s : State) : Res := .next (s.serveOp path f 5)

/-- The frame of a write of one entry. -/
def writeFrame (i sub ty size value : Nat) : DFrame :=
  { op := 2, final := true, reqId := 0, index := i, sub := sub, ty := ty, offset := 0, length := size, value := leBytes size value }

/-- A row that is a write of one entry. -/
def State.serveWrite (s : State) (p : DPath) (i sub ty size value : Nat) : State :=
  s.when (s.pathOpen p (writeFrame i sub ty size value)) (fun s => s.serve p (writeFrame i sub ty size value))

/-- COMMIT_INDEX (R49, R50, R429). -/
def execCommitIndex (path : DPath) (index : Nat) (s : State) : Res := .next (s.serveWrite path 0x1F00 1 3 2 index)
/-- DISCARD_INDEX (R51). -/
def execDiscardIndex (path : DPath) (index : Nat) (s : State) : Res := .next (s.serveWrite path 0x1F00 2 3 2 index)
/-- RESTORE_INDEX (R51). -/
def execRestoreIndex (path : DPath) (index : Nat) (s : State) : Res := .next (s.serveWrite path 0x1F00 5 3 2 index)
/-- MAINT_REQUEST (R387, R400). -/
def execMaintRequest (path : DPath) (on : Bool) (s : State) : Res := .next (s.serveWrite path 0x8000 5 1 1 (boolNat on))
/-- WRITE_PROTECT (R212, R400): durable first, in force at the next command admission. -/
def execWriteProtect (path : DPath) (on : Bool) (s : State) : Res := .next (s.serveWrite path 0x8000 4 1 1 (boolNat on))
/-- ACK_SEQ (R457). -/
def execAckSeq (path : DPath) (value : Nat) (s : State) : Res := .next (s.serveWrite path 0xA000 3 5 8 value)
/-- TIME_NS (R455, R458). -/
def execTimeNs (path : DPath) (value : Nat) (s : State) : Res := .next (s.serveWrite path 0xA001 1 5 8 value)
/-- MIN_SVN (R440). -/
def execMinSvn (path : DPath) (value : Nat) (s : State) : Res := .next (s.serveWrite path 0x9100 7 2 1 value)

/-! ### The transports -/

/-- The bytes of a request frame on a path that is open. -/
def State.serveBytes (s : State) (p : DPath) (bdp : Bool) (l : List Byte) : State :=
  match parseFrame bdp (pathLimit p) l with
  | .error req => s.badFrame p req
  | .ok f => s.serve p f

/-- DICTIONARY_READ (R59): C8h. -/
def execDictionaryRead (tag : Nat) (s : State) : Res :=
  .next (s.when (s.adm tag 0xC8) (fun s =>
    let f := s.readFrame tag
    if !s.cfgB 0x1100 1 && !(s.tag tag).manager then s.commitTag tag ⟨0, 1⟩
    else if !([1, 3, 5].contains f.op) then s.badFrame (.admin tag) 0
    else s.serve (.admin tag) f))

/-- DICTIONARY_WRITE (R59): C9h; `frame` is the data buffer. -/
def execDictionaryWrite (tag : Nat) (frame : List Byte) (s : State) : Res :=
  .next (s.when (s.adm tag 0xC9) (fun s =>
    if !s.cfgB 0x1100 1 && !(s.tag tag).manager then s.commitTag tag ⟨0, 1⟩
    else match parseFrame false 4096 frame with
      | .error req => s.badFrame (.admin tag) req
      | .ok f => if f.op = 2 ∨ f.op = 4 then s.serve (.admin tag) f else s.badFrame (.admin tag) f.reqId))

/-- The request frame in the mailbox buffer. -/
def State.mailboxFrame (s : State) : List Byte := (List.range s.regs.dmbLen).map (fun i => Mem.read s.regs.dmbBuf i)

/-- DMB_GO (R60). -/
def execDmbGo (port : Nat) (s : State) : Res :=
  .next (s.when (s.pathOpen (.mailbox port) (writeFrame 0 0 0 0 0)) (fun s => s.serveBytes (.mailbox port) false s.mailboxFrame))

/-- DICTIONARY_FRAME_MESSAGE (R61): a message of type 7Eh. -/
def execDictionaryFrameMessage (path : MPath) (session : Option Nat) (frame : List Byte) (s : State) : Res :=
  .next (s.when (s.pathOpen (.mctp path session) (writeFrame 0 0 0 0 0)) (fun s => s.serveBytes (.mctp path session) false frame))

/-- The session that an address of the field network holds. -/
def State.sessionFrom (s : State) (source : Nat) : Nat :=
  ((s.mgmt.sessions.find? (fun x => decide (x.path = .fieldNet) && x.peer == source)).map (fun x => x.id)).getD 0

/-- The SPDM request that a relay carries, by its request code (R410); FINISH brings its chain in its own row.
(PRESUMED, log entry 83) -/
def State.relay (s : State) (source : Nat) (l : List Byte) : Res :=
  let b (i : Nat) : Nat := (l.getD i 0#8).toNat
  let k := s.sessionFrom source
  match b 1 with
  | 0x81 => execGetDigests .fieldNet s
  | 0x82 => execGetCertificate .fieldNet (b 2 % 16) s
  | 0x83 => execChallenge .fieldNet s
  | 0x84 => execGetVersion .fieldNet s
  | 0xE0 => execGetMeasurements .fieldNet (b 3) s
  | 0xE1 => execGetCapabilities .fieldNet s
  | 0xE3 => execNegotiateAlgorithms .fieldNet s
  | 0xE4 => execKeyExchange .fieldNet source s
  | 0xE5 => .next s
  | 0xE8 => execHeartbeat .fieldNet k s
  | 0xE9 => execKeyUpdate .fieldNet k s
  | 0xEC => execEndSession .fieldNet k s
  | _ => .next (s.spdmError .fieldNet 7)

/-- SPDM_RELAY (R62, R410): OP 10h over BDP. -/
def execSpdmRelay (source : Nat) (f : DFrame) (s : State) : Res :=
  if s.pathOpen (.bdp source none) f && f.op == 0x10 then s.relay source f.value else .next s.unlisted

/-- R414: a datagram within the second's limits is counted, one beyond them is dropped.
(DESIGN CHOICE, log entry 82) -/
def State.bdpAdmit (s : State) (source : Nat) : State × Bool :=
  let m := s.mgmt
  let fresh := s.elapsed m.bdpSecond Machine.sec
  let total := if fresh then 0 else m.bdpTotal
  let by_ : Tbl Nat := if fresh then [] else m.bdpBy
  let mine := Tbl.get 0 by_ source
  if 500 ≤ mine ∨ 2000 ≤ total then ({ s with mgmt := { m with bdpDrops := satAdd 32 m.bdpDrops 1 } }, false)
  else ({ s with mgmt := { m with bdpSecond := if fresh then s.aon.now else m.bdpSecond, bdpTotal := total + 1
                                  bdpBy := Tbl.set 0 by_ source (mine + 1) } }, true)

/-- BDP_DATAGRAM (R62, R63, R413, R414): a datagram to another port, or while BDP is off, is silently dropped. -/
def execBdpDatagram (source udpPort : Nat) (session : Option Nat) (bytes : List Byte) (s : State) : Res :=
  if !s.pathUp .fieldNet then .next s.unlisted
  else if udpPort ≠ s.cfg 0x1100 2 ∨ s.cfgB 0x1100 3 = false then .next s
  else
    let x := s.bdpAdmit source
    let p : DPath := .bdp source session
    if !x.2 || !session.all (fun k => s.sessionOn .fieldNet k true) then .next x.1
    else match parseFrame true 1024 bytes with
      | .error req => .next (x.1.badFrame p req)
      | .ok f => if f.op = 0x10 then x.1.relay source f.value else .next (x.1.serve p f)

/-! ### Events of commits, shadows and staging buffers (R36, R48, R49) -/

/-- COMMIT_BOUNDARY (R49): the boundary of a record's pending commit. -/
def execCommitBoundary (index : Nat) (s : State) : Res :=
  .next (s.when (s.pendingCommit index).isSome (fun s => s.boundary index))

/-- A vendor slice command completes only when its action is complete (R141). -/
def State.slowPath (s : State) (p : Option DPath) : Bool :=
  match p with
  | some (.admin t) => (s.tag t).sqe.opcode != 0xC9
  | _ => false

/-- A commit that has waited 100 ms for its boundary without an answer. -/
def State.overdue (s : State) (c : PendingCommit) : Bool := !c.answered && s.elapsed c.durableAt (100 * msec)

/-- COMMIT_RESPONSE_TIMEOUT (R49): 100 ms after the log record, the response goes out with RESULT pending. -/
def execCommitResponseTimeout (index : Nat) (s : State) : Res :=
  let due := (s.commitsOf index).filter (fun c => s.overdue c)
  .next (s.when (!due.isEmpty) (fun s =>
    let s1 := { s with dict := { s.dict with commits := s.dict.commits.map (fun (x : Nat × PendingCommit) =>
      if x.1 = index ∧ s.overdue x.2 = true then (index, { x.2 with answered := !s.slowPath x.2.path }) else x) } }
    s1.forEach due (fun c s =>
      let s2 := s.setResult c.session 3 none
      match c.path with
      | some p =>
        if s.slowPath c.path then s2
        else s2.answer p (writeFrame 0x1F00 1 3 0 0 |> fun f => { f with reqId := c.reqId }) { index := index, seq := c.seq }
      | none => s2)))

/-- SHADOW_TIMEOUT (R48). -/
def execShadowTimeout (index : Nat) (s : State) : Res :=
  .next (s.when ((s.shadow index).any (fun x => s.elapsed x.touched (30 * sec))) (fun s =>
    let s1 := s.dropShadow index
    { s1 with dict := { s1.dict with abandoned := satAdd 32 s1.dict.abandoned 1 } }))

/-- STAGING_TIMEOUT (R36). -/
def execStagingTimeout (s : State) : Res :=
  let due := s.dict.staging.filter (fun b => s.elapsed b.touched (30 * sec))
  .next (s.when (!due.isEmpty) (fun s =>
    { s with dict := { s.dict with staging := s.dict.staging.filter (fun b => !s.elapsed b.touched (30 * sec))
                                   abandoned := satAdd 32 s.dict.abandoned due.length } }))

/-! ### The persistent store (R43, R44, R53 to R55) -/

/-- A NOR error: counted and recorded. -/
def State.norError (s : State) : State :=
  { s with dict := { s.dict with norErrors := satAdd 32 s.dict.norErrors 1 } }.rasReport 0x0D 0 12 2 0 []

/-- The fields of a durable write that come in force with it: those of class Live, and Staged ones in a restore (R45, R51). -/
def State.liveFields (s : State) (o : NorOp) : State :=
  let l := o.saved.filter (fun x => (dictEnt (x.1 / 256) (x.1 % 256)).any (fun e => e.cls == .live || e.cls == .staged))
  let ids := (l.map (fun x => x.1 / 256)).dedup
  ids.foldl (fun (s : State) i =>
    let was := s.cfgB i 0x20
    (s.forceFields i ((l.filter (fun x => x.1 / 256 == i)).map (fun x => (x.1 % 256, x.2)))).inForceHook i was) s

/-- An append is durable: a commit waits for its boundary, any other write is answered. A log 75 % full is compacted (R54). -/
def State.appendDone (s : State) (o : NorOp) : State :=
  let s1 := s.logDurable o
  let s2 := if o.commit then s1.commitDurable o else (s1.liveFields o).answerOp o rOk false
  if Config.logCompact ≤ s2.activeCopy.units ∧ s2.dict.retryAt = none then { s2 with dict := { s2.dict with compacting := true } } else s2

/-- R55: the append failed: every write that waits returns STORE, and the other copy is compacted into at once. -/
def State.appendFail (s : State) (l : List NorOp) : State :=
  let s1 := (s.setActiveCopy { s.activeCopy with torn := s.activeCopy.torn + (l.head?.map (fun o => o.units)).getD 0 }).norError
  let s2 := { s1 with dict := { s1.dict with appendFailed := true, compacting := true, retryAt := none }
                      sec := { s1.sec with transition := s1.sec.transition && !l.any (fun o => o.index == 0x9001) } }
  s2.forEach l (fun o s => s.answerOp o rStore false)

/-- LOG_RECORD_DURABLE (R43, R49, R55): `ok` is false at a NOR error. -/
def execLogRecordDurable (ok : Bool) (s : State) : Res :=
  .next (match s.dict.appends with
    | [] => s.unlisted
    | o :: rest =>
      if ok then { s with dict := { s.dict with appends := rest } }.appendDone o
      else { s with dict := { s.dict with appends := [] } }.appendFail (o :: rest))

/-- TOKEN_REFILL (R44): 10 tokens a second. (DESIGN CHOICE, log entry 78) -/
def execTokenRefill (s : State) : Res :=
  .next (s.when (decide (s.mode.base ≠ .unpowered) && s.elapsed s.dict.refillAt (100 * msec)) (fun s =>
    { s with dict := { s.dict with tokens := min Config.storeTokens (s.dict.tokens + 1), refillAt := s.aon.now } }))

/-- COMPACTION_TIMER (R54). -/
def execCompactionTimer (s : State) : Res :=
  .next (s.when (decide (s.mode.base ≠ .unpowered) && !s.dict.compacting && s.dict.retryAt.isNone
      && s.elapsed s.dict.lastCompaction (24 * hour))
    (fun s => { s with dict := { s.dict with compacting := true } }))

/-- R54: the other copy becomes the active one; the Media Manager writes the image into the system area where it runs. -/
def State.compacted (s : State) : State :=
  let c : StoreCopy := { valid := true, imageSeq := s.dict.storeSeq - s.dict.appends.length, image := s.dict.stored }
  let media := s.awake && s.profile && s.mode.mapReady
  let d := { s.dict with activeB := !s.dict.activeB, appendFailed := false, compacting := false, lastCompaction := s.aon.now
                         compactions := satAdd 32 s.dict.compactions 1
                         systemImage := if media then s.dict.stored else s.dict.systemImage }
  { s with dict := d }.setActiveCopy c

/-- R55: a compaction is abandoned; the copy it erased holds no image. -/
def State.compactFail (s : State) : State :=
  let s1 := if s.dict.activeB then { s with dict := { s.dict with copyA := {} } } else { s with dict := { s.dict with copyB := {} } }
  { s1 with dict := { s1.dict with compacting := false, retryAt := some s.aon.now } }.norError

/-- COMPACTION_COMPLETE (R54, R55): `ok` is false at a NOR error or a failed check. -/
def execCompactionComplete (ok : Bool) (s : State) : Res :=
  .next (s.when s.dict.compacting (fun s => if ok then s.compacted else s.compactFail))

/-- COMPACTION_RETRY (R55). -/
def execCompactionRetry (s : State) : Res :=
  .next (s.when (s.dict.retryAt.any (fun t => s.elapsed t (60 * sec))) (fun s =>
    { s with dict := { s.dict with compacting := true, retryAt := none } }))

end Sys2Proof.Machine
end

