-- ==== Sys2Proof/Machine/HostData.lean ====
section
/-! DEFINITION. Completions of DMA reads and translations (R93, R96, R97, R110, R115), link loss, PERST# and shutdown (R101,
R102, R463). -/

namespace Sys2Proof.Machine

/-- Data that a command asked for has come back; a command whose status is final, or that drains, takes none. -/
def State.dataIn (s : State) (t : Nat) (f : State → State) : State := if (s.tag t).st.uncommitted then f s else s

/-- DMA_READ_COMPLETION (R93, R96, R97, R153): data of a read of host memory, or the translation that a write waited for. The
entries of a submission queue have a row of their own. -/
def execDmaReadCompletion (req : Nat) (data : List Byte) (s : State) : Res :=
  let d := Tbl.get {} s.dmas req
  let whole := decide (data.length = d.len)
  .next (match d.use with
    | none => s.unlisted
    | some (.entries _) => s.unlisted
    | some (.cqEntry cq q cid st dw0 dw1) => (((s.dmaEnd req).atcFill d).cqWrite q cid st dw0 dw1).cqRelease cq
    | some (.hostOut t addr l) =>
      let s1 := (s.dmaEnd req).atcFill d
      if s1.passes t then s1.hostOut t addr l else s1.lateDiscard (s.tag t).slice
    | some (.blockData t b off) => s.when whole (fun s => (s.dmaEnd req).dataIn t (fun s => s.partIn t b off data))
    | some (.infoData t off) => s.when whole (fun s => (s.dmaEnd req).dataIn t (fun s => s.infoIn t off data))
    | some (.list t) => s.when whole (fun s => (s.dmaEnd req).dataIn t (fun s => s.listIn t false data))
    | some (.infoList t) => s.when whole (fun s => (s.dmaEnd req).dataIn t (fun s => s.listIn t true data))
    | some (.stale n) =>
      let s1 := s.dmaEnd req
      match n with
      | some k => s1.lateDiscard k
      | none => s1)

/-- DL_DOWN (R99, R102, R103). -/
def execDlDown (port : Nat) (s : State) : Res :=
  .next (s.when (s.awake && s.portExists port && (s.port port).linkUp) (fun s => s.linkLost port))

/-- SHUTDOWN_NOTIFICATION (R101): CC.SHN leaves 00b; shutdown processing is complete once every acknowledged write is
programmed and the journal is durable. -/
def execShutdownNotification (port fn : Nat) (s : State) : Res :=
  .next (s.when (s.reaches port fn && (s.func port fn).ccEn && (s.func port fn).shst == 0) (fun s =>
    let x := s.func port fn
    (s.setFunc port fn { x with shst := 1, cc := x.cc - bitsOf x.cc 15 14 * 2 ^ 14 + 2 ^ 14 }).settleWatch))

/-- PERST_DEASSERT (R85, R463): the port may train from now on. (DEDUCED, log entry 22) -/
def execPerstDeassert (port : Nat) (s : State) : Res :=
  .next (s.when (s.portExists port && (s.port port).perst) (fun s =>
    s.setPort port { s.port port with perst := false, attempts := 0 }))

end Sys2Proof.Machine
end

