-- ==== Sys2Proof/Machine/ZoneCmds.lean ====
section
/-! DEFINITION. The zone commands (R200 to R206, R213, R233, R255): the zone table's decision on a write, Zone Management Send
and Receive, and the changes that the PK9 makes by itself. -/

namespace Sys2Proof.Machine

/-! ### The decision on a write (R200 to R204, R206, R213) -/

/-- A command needs an activation, only open room, or nothing of a zone's state. -/
inductive ZoneNeed where
  | activate | open_ | nothing
  deriving DecidableEq, Repr

/-- Open room is at hand, or an implicit close makes it. -/
def State.openMay (s : State) (n z : Nat) : Bool :=
  decide (s.openZones n < s.cfg (0x5800 + (n - 1)) 0x0A) || (s.closable n z).isSome

/-- Checks 7 and 8 of R213 for a zone that becomes open: active room, open room, a ZRWA, the pool, and pin room; the flag says
that pin room is what fails. -/
def State.roomStatus (s : State) (n z : Nat) (need : ZoneNeed) (zrwa : Bool) : Option (Status × Bool) :=
  let act := need == .activate
  if act && !s.activeRoom n then some (⟨1, 0xBD⟩, false)
  else if need != .nothing && !s.openMay n z then some (⟨1, 0xBE⟩, false)
  else if zrwa && !s.zrwaRoom n then some (⟨1, 0xBD⟩, false)
  else if act && !s.poolFits n (4 * s.zsize n) then some (⟨0, 0x81⟩, false)
  else if act && !s.pinRoom n then some (⟨0, 0x81⟩, true)
  else none

/-- The refusal of an activation, with its counts (R215, R233). -/
def State.roomRefuse (s : State) (t : Nat) (r : Status × Bool) : State :=
  let s1 := s.countExceeded (s.tag t).sqe.nsid r.1
  let s2 := if r.2 then { s1 with map := { s1.map with pinRefused := satAdd 32 s1.map.pinRefused 1 } } else s1
  s2.commitTag t r.1

/-- Open a zone: room by an implicit close, and for an activation its extent, its charge and its pins. Nothing is answered
where no superblock takes the extent, and the command waits (R255). -/
def State.zoneEnter (s : State) (n z : Nat) (need : ZoneNeed) (st : ZoneSt) (zrwa : Bool) : Option State :=
  let s1 := if need = .nothing then s else (s.openRoom n z).1
  let placed : Option State :=
    if need = .activate then
      match s1.zonePlace n (fun _ => false) with
      | (_, none) => none
      | (s2, some e) => some ((((s2.setZone n z { s2.zone n z with extent := e, lastWrite := s2.timestamp }).setCharge n z (4 * s2.zsize n))).zonePin n z)
    else some s1
  placed.map (fun s2 =>
    (s2.setZone n z { s2.zone n z with zrwa := (s2.zone n z).zrwa || zrwa }).zoneTo n z st)

/-- The smallest multiple of 4 blocks that is at least a number. -/
def roundUp4 (k : Nat) : Nat := (k + 3) / 4 * 4

/-- Checks 4 to 6 of R213 on a write at an offset of a zone. -/
def State.writeStatus (s : State) (n z off cnt : Nat) (append : Bool) : Option Status :=
  let y := s.zone n z
  let zs := s.zsize n
  if y.st = .offline then some ⟨1, 0xBB⟩
  else if y.st = .readOnly then some ⟨1, 0xBA⟩
  else if y.st = .full then some ⟨1, 0xB9⟩
  else if append then
    if off ≠ 0 ∨ 256 < cnt then some ⟨0, 2⟩
    else if zs < y.adm + cnt then some ⟨1, 0xB8⟩
    else if y.zrwa then some ⟨1, 0xBC⟩ else none
  else if zs < off + cnt then some ⟨1, 0xB8⟩
  else if y.zrwa then (if off < y.wp ∨ y.wp + 512 < off + cnt then some ⟨1, 0xBC⟩ else none)
  else if off ≠ y.adm then some ⟨1, 0xBC⟩ else none

/-- What a write to a zone in a state needs. -/
def ZoneSt.writeNeed : ZoneSt → ZoneNeed
  | .empty => .activate
  | .closed => .open_
  | _ => .nothing

/-- A write passes the zone table: its range, the admission pointer, and the implicit flush of a ZRWA. -/
def State.zonePass (s : State) (t n z off : Nat) (append : Bool) : State :=
  let x := s.tag t
  let off := if append then (s.zone n z).adm else off
  let last := off + x.nlb
  let y := s.zone n z
  let s1 := if y.zrwa ∧ y.wp + 256 < last then s.zrwaAdvance n z (y.wp + roundUp4 (last - 256 - y.wp)) else s
  let y := s1.zone n z
  let s2 := s1.setZone n z { y with adm := max y.adm last, inFlight := y.inFlight ++ [(off, x.nlb)] }
  let s3 := s2.setTag t { x with slba := z * s.zsize n + off, passedZone := true, zoneEpoch := y.epochNo }
  s3.mapResolve t

/-- The zone table decides a write. (DEDUCED, log entry 57) -/
def State.zoneWrite (s : State) (t : Nat) : State :=
  let x := s.tag t
  let n := x.sqe.nsid
  let z := x.slba / s.zsize n
  let off := x.slba % s.zsize n
  let append := x.sqe.opcode == 0x7D
  match s.writeStatus n z off x.nlb append with
  | some st => s.commitTag t st
  | none =>
    let need := (s.zone n z).st.writeNeed
    match s.roomStatus n z need false with
    | some r => s.roomRefuse t r
    | none =>
      if need = .nothing then s.zonePass t n z off append
      else match s.zoneEnter n z need .implicitOpen false with
        | some s1 => s1.zonePass t n z off append
        | none => s

/-- The records whose boundary is a zone-table decision (R214, R216). -/
def State.zoneBoundary (s : State) (n : Nat) : State := (s.boundary 0x5000).boundary (0x5800 + (n - 1))

/-- A write of a zoned namespace has not reached the zone table. -/
def State.zoneWaits (s : State) (t : Nat) : Bool :=
  let x := s.tag t
  !x.admin && x.built && decide (x.st = .build) && x.sqe.reserves && (s.ns x.sqe.nsid).kind == 1 && !x.passedZone
    && !s.dmaAny (fun u => match u with
        | .list k => k == t
        | .infoList k => k == t
        | _ => false)

/-- The actions that Zone Management Send supports (R205). -/
def zoneActions : List Nat := [0x01, 0x02, 0x03, 0x04, 0x05, 0x11]

/-- ZONE_TABLE_DECISION (R200 to R206, R213): a write reaches the zone table; a Zone Management Send of an action that is not
supported ends. -/
def execZoneTableDecision (tag : Nat) (s : State) : Res :=
  .next (
    if s.iot tag 0x79 then
      s.when (!zoneActions.contains (Sqe.zsa (s.tag tag).sqe)) (fun s => s.commitTag tag ⟨0, 2⟩)
    else s.when (s.zoneWaits tag) (fun s =>
      if s.jrnHeld then s.jrnWait else ((s.zoneBoundary (s.tag tag).sqe.nsid).zoneWrite tag).commitPump))

/-- ZONE_APPEND (R202): the plan of an append; the zone table assigns its range. -/
def execZoneAppend (tag : Nat) (s : State) : Res :=
  .next (s.when (s.iot tag 0x7D) (fun s =>
    s.ioRun tag (planOf [.buf, .hostrd, .xform] (s.tag tag).nlb 8 [.mapupd, .cmpl]) true))

/-! ### Zone Management Send (R204 to R206) -/

/-- One zone's part of an action: nothing to do, a refusal, or the change. -/
inductive ZoneDo where
  | same | refuse (st : Status) (pin : Bool) | change (s : State) | wait

/-- Close. -/
def State.doClose (s : State) (n z : Nat) : ZoneDo :=
  match (s.zone n z).st with
  | .implicitOpen => .change (s.zoneClose n z)
  | .explicitOpen => .change (s.zoneClose n z)
  | .closed => .same
  | _ => .refuse ⟨1, 0xBF⟩ false

/-- Finish: decided once every write that passed the zone table has settled (R200). -/
def State.doFinish (s : State) (n z : Nat) : ZoneDo :=
  let y := s.zone n z
  if !y.inFlight.isEmpty then .wait
  else if y.st = .full then .same
  else if y.st = .empty then (if s.activeRoom n then .change (s.zoneFinish n z) else .refuse ⟨1, 0xBD⟩ false)
  else if y.st.isActive then .change (s.zoneFinish n z) else .refuse ⟨1, 0xBF⟩ false

/-- Open, with a ZRWA where ZRWAA asks for one in a zone that is Empty or Implicitly Opened. -/
def State.doOpen (s : State) (n z : Nat) (zrwaa : Bool) : ZoneDo :=
  let y := s.zone n z
  let go (need : ZoneNeed) (zrwa : Bool) : ZoneDo :=
    match s.roomStatus n z need zrwa with
    | some r => .refuse r.1 r.2
    | none => match s.zoneEnter n z need .explicitOpen zrwa with
      | some s1 => .change s1
      | none => .wait
  match y.st with
  | .empty => go .activate zrwaa
  | .implicitOpen => go .nothing zrwaa
  | .closed => go .open_ false
  | .explicitOpen => .same
  | _ => .refuse ⟨1, 0xBF⟩ false

/-- Reset. -/
def State.doReset (s : State) (n z : Nat) : ZoneDo :=
  match (s.zone n z).st with
  | .empty => .same
  | .readOnly => .refuse ⟨1, 0xBF⟩ false
  | .offline => .refuse ⟨1, 0xBF⟩ false
  | _ => .change (s.zoneReset n z)

/-- Offline. -/
def State.doOffline (s : State) (n z : Nat) : ZoneDo :=
  let y := s.zone n z
  if y.st ≠ .readOnly then .refuse ⟨1, 0xBF⟩ false
  else if !y.inFlight.isEmpty then .wait else .change (s.zoneOffline n z)

/-- A write that passed the zone table before the last Reset of its zone is not settled yet; `z` none stands for any zone. -/
def State.resetWaits (s : State) (n : Nat) (z : Option Nat) : Bool :=
  s.tags.any (fun x => x.2.passedZone && x.2.st.uncommitted && x.2.sqe.nsid == n && x.2.sqe.reserves &&
    (let k := x.2.slba / s.zsize n
     (z.isNone || z == some k) && x.2.zoneEpoch != (s.zone n k).epochNo))

/-- The zone that a Zone Management Send names, none for Select All. -/
def State.zmsZone (s : State) (t : Nat) : Option Nat :=
  let e := (s.tag t).sqe
  if Sqe.selectAll e then none else some (e.slba / s.zsize e.nsid)

/-- The end of an action: its success, or for a Reset the wait for the writes before it. -/
def State.zmsEnd (s : State) (t : Nat) : State :=
  let e := (s.tag t).sqe
  if Sqe.zsa e = 0x04 && s.resetWaits e.nsid (s.zmsZone t) then s.setTag t { s.tag t with built := true, st := .run }
  else s.succeed t

/-- The zones of a state that Select All takes for an action. -/
def zoneSelected (zsa : Nat) : ZoneSt → Bool
  | .implicitOpen => zsa != 0x03 && zsa != 0x05
  | .explicitOpen => zsa != 0x03 && zsa != 0x05
  | .closed => zsa == 0x02 || zsa == 0x03 || zsa == 0x04
  | .full => zsa == 0x04
  | .readOnly => zsa == 0x05
  | _ => false

/-- An action on every zone that Select All takes; a refusal or a wait for one of them leaves all unchanged.
(PRESUMED, log entry 59) -/
def State.zmsAll (s : State) (t : Nat) (act : State → Nat → ZoneDo) : State :=
  let e := (s.tag t).sqe
  let n := e.nsid
  let zs := ((s.zonesOf n).filter (fun y => zoneSelected (Sqe.zsa e) y.2.st)).map (fun y => y.1)
  match zs.foldl (fun (acc : Option (ZoneDo × State)) z => match acc with
      | some (.same, s1) => (match act s1 z with
        | .change s2 => some (.same, s2)
        | .same => some (.same, s1)
        | r => some (r, s1))
      | r => r) (some (.same, s)) with
  | some (.same, s1) => s1.zmsEnd t
  | some (.refuse st pin, _) => s.roomRefuse t (st, pin)
  | _ => s

/-- A Zone Management Send: its zone, its action, and its end. (DESIGN CHOICE, log entry 58) -/
def State.zms (s0 : State) (t : Nat) (act : State → Nat → ZoneDo) : State :=
  let e := (s0.tag t).sqe
  let n := e.nsid
  let s := s0.zoneBoundary n
  if s.jrnHeld then s.jrnWait
  else if Sqe.selectAll e then (s.zmsAll t act).commitPump
  else if (s.ns n).nsze ≤ e.slba then s.commitTag t ⟨0, 0x80⟩
  else if e.slba % s.zsize n ≠ 0 then s.commitTag t ⟨0, 2⟩
  else match act s (e.slba / s.zsize n) with
    | .same => s.zmsEnd t
    | .refuse st pin => s.roomRefuse t (st, pin)
    | .change s1 => (s1.zmsEnd t).commitPump
    | .wait => s

/-- A Zone Management Send of an action, in BUILD. -/
def State.zmsAt (s : State) (t zsa : Nat) : Bool := s.iot t 0x79 && Sqe.zsa (s.tag t).sqe == zsa

/-- ZONE_CLOSE (R204, R205). -/
def execZoneClose (tag : Nat) (s : State) : Res :=
  .next (s.when (s.zmsAt tag 0x01) (fun s => s.zms tag (fun s z => s.doClose (s.tag tag).sqe.nsid z)))

/-- ZONE_FINISH (R200, R204, R205). -/
def execZoneFinish (tag : Nat) (s : State) : Res :=
  .next (s.when (s.zmsAt tag 0x02) (fun s => s.zms tag (fun s z => s.doFinish (s.tag tag).sqe.nsid z)))

/-- ZONE_OPEN (R204, R205, R206). -/
def execZoneOpen (tag : Nat) (s : State) : Res :=
  .next (s.when (s.zmsAt tag 0x03) (fun s =>
    s.zms tag (fun s z => s.doOpen (s.tag tag).sqe.nsid z (Sqe.zrwaa (s.tag tag).sqe))))

/-- ZONE_RESET (R200, R204, R205): the zone is Empty at once; the command completes as ZONE_RESET_SETTLED says. -/
def execZoneReset (tag : Nat) (s : State) : Res :=
  .next (s.when (s.zmsAt tag 0x04) (fun s => s.zms tag (fun s z => s.doReset (s.tag tag).sqe.nsid z)))

/-- ZONE_OFFLINE (R200, R204, R205). -/
def execZoneOffline (tag : Nat) (s : State) : Res :=
  .next (s.when (s.zmsAt tag 0x05) (fun s => s.zms tag (fun s z => s.doOffline (s.tag tag).sqe.nsid z)))

/-- ZONE_RESET_SETTLED (R200): every write that reached the zone table before the Reset has committed or been voided. -/
def execZoneResetSettled (tag : Nat) (s : State) : Res :=
  let x := s.tag tag
  .next (s.when (!x.admin && x.built && decide (x.st = .run) && x.sqe.opcode == 0x79 && Sqe.zsa x.sqe == 0x04
      && !s.resetWaits x.sqe.nsid (s.zmsZone tag)) (fun s => s.succeed tag))

/-- FLUSH_EXPLICIT_ZRWA_RANGE (R205, R206). (PRESUMED, log entry 60) -/
def execFlushExplicitZrwaRange (tag : Nat) (s : State) : Res :=
  .next (s.when (s.zmsAt tag 0x11) (fun s0 =>
    let e := (s0.tag tag).sqe
    let n := e.nsid
    let s := s0.zoneBoundary n
    let z := e.slba / s.zsize n
    let off := e.slba % s.zsize n
    let y := s.zone n z
    if s.jrnHeld then s.jrnWait
    else if Sqe.selectAll e then s.commitTag tag ⟨0, 2⟩
    else if (s.ns n).nsze ≤ e.slba then s.commitTag tag ⟨0, 0x80⟩
    else if !y.st.isActive || !y.zrwa then s.commitTag tag ⟨1, 0xBF⟩
    else if off < y.wp ∨ (off + 1 - y.wp) % 4 ≠ 0 ∨ 256 < off + 1 - y.wp then s.commitTag tag ⟨0, 2⟩
    else ((((s.zrwaAdvance n z (off + 1)).zoneJournal n z).zoneFullWatch n z).succeed tag).commitPump))

/-! ### Zone Management Receive (R205) -/

/-- The state that a reporting option selects; option 0 takes every zone. -/
def reportTakes (opt : Nat) (st : ZoneSt) : Bool :=
  opt == 0 || st.code == [0, 1, 2, 3, 4, 0xE, 0xD, 0xF].getD opt 0

/-- A zone descriptor of a report: type, state, attributes, capacity, start and write pointer. -/
def State.zoneReport (s : State) (n z : Nat) : List Byte :=
  let y := s.zone n z
  let zs := s.zsize n
  [2#8, BitVec.ofNat 8 (y.st.code * 16),
   BitVec.ofNat 8 (boolNat y.finishedByController + 2 * boolNat y.finishRecommended + 8 * boolNat y.zrwa), 0#8]
    ++ leBytes 4 0 ++ leBytes 8 zs ++ leBytes 8 (z * zs) ++ leBytes 8 (z * zs + y.wp) ++ leBytes 32 0

/-- REPORT_ZONES (R205). -/
def execReportZones (tag : Nat) (s : State) : Res :=
  .next (s.when (s.iot tag 0x7A) (fun s =>
    let x := s.tag tag
    let e := x.sqe
    let n := e.nsid
    let pf := s.qfunc x.q
    let len := 4 * (e.cdw12 + 1)
    let opt := e.cdw13 / 2 ^ 8 % 256
    if e.cdw13 % 256 ≠ 0 ∨ 7 < opt ∨ e.psdt = 3 then s.commitTag tag ⟨0, 2⟩
    else if (s.ns n).nsze ≤ e.slba then s.commitTag tag ⟨0, 0x80⟩
    else match s.dptrStatus pf.1 pf.2 len e with
      | some st => s.commitTag tag st
      | none =>
        let first := e.slba / s.zsize n
        let zs := ((List.range (s.zoneCount n - first)).map (fun i => first + i)).filter (fun z => reportTakes opt (s.zone n z).st)
        let fit := zs.take ((len - 64) / 64)
        let count := if e.cdw13.testBit 16 then fit.length else zs.length
        let data := leBytes 8 count ++ leBytes 56 0 ++ (fit.map (fun z => s.zoneReport n z)).flatten
        (s.deliver tag (data.take len)).succeed tag))

/-! ### Changes that the PK9 makes (R204) -/

/-- An active zone without a write for so many finish hints. -/
def State.zoneIdle (s : State) (n z k : Nat) : Bool :=
  let y := s.zone n z
  (s.ns n).kind == 1 && y.st.isActive && decide (y.lastWrite + k * s.cfg 0x5000 4 * Machine.sec ≤ s.timestamp)

/-- ZONE_FINISH_RECOMMENDED (R204). -/
def execZoneFinishRecommended (nsid zone : Nat) (s : State) : Res :=
  .next (s.when (s.zoneIdle nsid zone 1 && !(s.zone nsid zone).finishRecommended) (fun s =>
    if s.jrnHeld then s.jrnWait
    else ((s.setZone nsid zone { s.zone nsid zone with finishRecommended := true }).zoneJournal nsid zone).zoneChanged nsid zone))

/-- ZONE_FINISHED_BY_CONTROLLER (R200, R204). -/
def execZoneFinishedByController (nsid zone : Nat) (s : State) : Res :=
  .next (s.when (s.zoneIdle nsid zone 2 && (s.zone nsid zone).inFlight.isEmpty) (fun s =>
    if s.jrnHeld then s.jrnWait
    else
      let s1 := s.setZone nsid zone { s.zone nsid zone with finishedByController := true }
      ((s1.zoneFinish nsid zone).zoneChanged nsid zone).commitPump))

end Sys2Proof.Machine
end

