-- ==== Sys2Proof/Machine/Dispatch.lean ====
section
/-! DEFINITION. One arm for each command of the table. -/

namespace Sys2Proof.Machine

/-- The effect of a command on everything but the queue. -/
def exec (i : Instr) (s : State) : Host.Outcome State Fault Refusal :=
  match i with
  | .sqTailDoorbell w => Sys2Proof.Machine.execSqTailDoorbell w s
  | .cqHeadDoorbell w => Sys2Proof.Machine.execCqHeadDoorbell w s
  | .registerWrite w => Sys2Proof.Machine.execRegisterWrite w s
  | .readClearAccess w => Sys2Proof.Machine.execReadClearAccess w s
  | .dmbGo port => Sys2Proof.Machine.execDmbGo port s
  | .cmbWrite port fn off data poisoned => Sys2Proof.Machine.execCmbWrite port fn off data poisoned s
  | .poisonedTlpReceived port fn => Sys2Proof.Machine.execPoisonedTlpReceived port fn s
  | .configRequest port fn reg write => Sys2Proof.Machine.execConfigRequest port fn reg write s
  | .busMasterEnableChange port fn on => Sys2Proof.Machine.execBusMasterEnableChange port fn on s
  | .d3hotTransition port fn enter => Sys2Proof.Machine.execD3hotTransition port fn enter s
  | .msixEnableChange port fn enable mask => Sys2Proof.Machine.execMsixEnableChange port fn enable mask s
  | .linkUp port speed width => Sys2Proof.Machine.execLinkUp port speed width s
  | .speedChangeRetry port speed width => Sys2Proof.Machine.execSpeedChangeRetry port speed width s
  | .l0pDecision port width => Sys2Proof.Machine.execL0pDecision port width s
  | .l1IdleEntry port => Sys2Proof.Machine.execL1IdleEntry port s
  | .dmaReadCompletion req data => Sys2Proof.Machine.execDmaReadCompletion req data s
  | .dmaRequestFailure req why => Sys2Proof.Machine.execDmaRequestFailure req why s
  | .completionTimeout req => Sys2Proof.Machine.execCompletionTimeout req s
  | .atsInvalidationRequest port fn itag pasid page => Sys2Proof.Machine.execAtsInvalidationRequest port fn itag pasid page s
  | .invalidationComplete port itag => Sys2Proof.Machine.execInvalidationComplete port itag s
  | .perstAssert port => Sys2Proof.Machine.execPerstAssert port s
  | .hotReset port => Sys2Proof.Machine.execHotReset port s
  | .linkDisable port => Sys2Proof.Machine.execLinkDisable port s
  | .dlDown port => Sys2Proof.Machine.execDlDown port s
  | .pfFunctionLevelReset port => Sys2Proof.Machine.execPfFunctionLevelReset port s
  | .vfFunctionLevelReset port fn => Sys2Proof.Machine.execVfFunctionLevelReset port fn s
  | .vfEnableCleared port => Sys2Proof.Machine.execVfEnableCleared port s
  | .controllerReset port fn => Sys2Proof.Machine.execControllerReset port fn s
  | .controllerEnable port fn crime => Sys2Proof.Machine.execControllerEnable port fn crime s
  | .nvmSubsystemReset port => Sys2Proof.Machine.execNvmSubsystemReset port s
  | .shutdownNotification port fn => Sys2Proof.Machine.execShutdownNotification port fn s
  | .entryFetch q entries => Sys2Proof.Machine.execEntryFetch q entries s
  | .commandAdmission q tag => Sys2Proof.Machine.execCommandAdmission q tag s
  | .mapFillComplete nsid page good => Sys2Proof.Machine.execMapFillComplete nsid page good s
  | .bufferReturn arena size count => Sys2Proof.Machine.execBufferReturn arena size count s
  | .chainComplete tag => Sys2Proof.Machine.execChainComplete tag s
  | .overlapResolved tag => Sys2Proof.Machine.execOverlapResolved tag s
  | .stepComplete tag result => Sys2Proof.Machine.execStepComplete tag result s
  | .completionPost tag => Sys2Proof.Machine.execCompletionPost tag s
  | .deleteIoSq tag => Sys2Proof.Machine.execDeleteIoSq tag s
  | .createIoSq tag => Sys2Proof.Machine.execCreateIoSq tag s
  | .deleteIoCq tag => Sys2Proof.Machine.execDeleteIoCq tag s
  | .createIoCq tag => Sys2Proof.Machine.execCreateIoCq tag s
  | .getLogPage tag => Sys2Proof.Machine.execGetLogPage tag s
  | .identify tag => Sys2Proof.Machine.execIdentify tag s
  | .abort tag => Sys2Proof.Machine.execAbort tag s
  | .setFeatures tag => Sys2Proof.Machine.execSetFeatures tag s
  | .setFeaturesPowerManagement tag => Sys2Proof.Machine.execSetFeaturesPowerManagement tag s
  | .setFeaturesHostMemoryBuffer tag => Sys2Proof.Machine.execSetFeaturesHostMemoryBuffer tag s
  | .setFeaturesTimestamp tag ms => Sys2Proof.Machine.execSetFeaturesTimestamp tag ms s
  | .setFeaturesFdp tag => Sys2Proof.Machine.execSetFeaturesFdp tag s
  | .getFeatures tag => Sys2Proof.Machine.execGetFeatures tag s
  | .asyncEventRequest tag => Sys2Proof.Machine.execAsyncEventRequest tag s
  | .namespaceCreate tag d => Sys2Proof.Machine.execNamespaceCreate tag d s
  | .namespaceDelete tag => Sys2Proof.Machine.execNamespaceDelete tag s
  | .namespaceDeleteComplete nsid => Sys2Proof.Machine.execNamespaceDeleteComplete nsid s
  | .namespaceAttach tag ctrls => Sys2Proof.Machine.execNamespaceAttach tag ctrls s
  | .namespaceDetach tag ctrls => Sys2Proof.Machine.execNamespaceDetach tag ctrls s
  | .firmwareImageDownload tag image => Sys2Proof.Machine.execFirmwareImageDownload tag image s
  | .firmwareCommitReplace tag => Sys2Proof.Machine.execFirmwareCommitReplace tag s
  | .firmwareCommitActivateNext tag => Sys2Proof.Machine.execFirmwareCommitActivateNext tag s
  | .firmwareCommitActivateNow tag => Sys2Proof.Machine.execFirmwareCommitActivateNow tag s
  | .activationHandoff holdUs => Sys2Proof.Machine.execActivationHandoff holdUs s
  | .directiveSend tag => Sys2Proof.Machine.execDirectiveSend tag s
  | .directiveReceive tag => Sys2Proof.Machine.execDirectiveReceive tag s
  | .formatNvm tag => Sys2Proof.Machine.execFormatNvm tag s
  | .formatComplete nsid => Sys2Proof.Machine.execFormatComplete nsid s
  | .sanitizeBlockErase tag => Sys2Proof.Machine.execSanitizeBlockErase tag s
  | .sanitizeCryptoErase tag => Sys2Proof.Machine.execSanitizeCryptoErase tag s
  | .sanitizeExitFailure tag => Sys2Proof.Machine.execSanitizeExitFailure tag s
  | .sliceCreate tag data => Sys2Proof.Machine.execSliceCreate tag data s
  | .sliceBind tag data => Sys2Proof.Machine.execSliceBind tag data s
  | .sliceUnbind tag => Sys2Proof.Machine.execSliceUnbind tag s
  | .sliceReset tag => Sys2Proof.Machine.execSliceReset tag s
  | .sliceDestroy tag => Sys2Proof.Machine.execSliceDestroy tag s
  | .dirtyLogControl tag data => Sys2Proof.Machine.execDirtyLogControl tag data s
  | .dirtyLogFlush tag => Sys2Proof.Machine.execDirtyLogFlush tag s
  | .queueRestart tag => Sys2Proof.Machine.execQueueRestart tag s
  | .dictionaryRead tag => Sys2Proof.Machine.execDictionaryRead tag s
  | .dictionaryWrite tag frame => Sys2Proof.Machine.execDictionaryWrite tag frame s
  | .flush tag => Sys2Proof.Machine.execFlush tag s
  | .write tag => Sys2Proof.Machine.execWrite tag s
  | .read tag => Sys2Proof.Machine.execRead tag s
  | .writeUncorrectable tag => Sys2Proof.Machine.execWriteUncorrectable tag s
  | .compare tag => Sys2Proof.Machine.execCompare tag s
  | .writeZeroes tag => Sys2Proof.Machine.execWriteZeroes tag s
  | .datasetManagement tag ranges => Sys2Proof.Machine.execDatasetManagement tag ranges s
  | .verify tag => Sys2Proof.Machine.execVerify tag s
  | .copy tag ranges => Sys2Proof.Machine.execCopy tag ranges s
  | .zoneAppend tag => Sys2Proof.Machine.execZoneAppend tag s
  | .zoneClose tag => Sys2Proof.Machine.execZoneClose tag s
  | .zoneFinish tag => Sys2Proof.Machine.execZoneFinish tag s
  | .zoneOpen tag => Sys2Proof.Machine.execZoneOpen tag s
  | .zoneReset tag => Sys2Proof.Machine.execZoneReset tag s
  | .zoneOffline tag => Sys2Proof.Machine.execZoneOffline tag s
  | .flushExplicitZrwaRange tag => Sys2Proof.Machine.execFlushExplicitZrwaRange tag s
  | .reportZones tag => Sys2Proof.Machine.execReportZones tag s
  | .zoneTableDecision tag => Sys2Proof.Machine.execZoneTableDecision tag s
  | .zoneResetSettled tag => Sys2Proof.Machine.execZoneResetSettled tag s
  | .zoneFinishRecommended nsid zone => Sys2Proof.Machine.execZoneFinishRecommended nsid zone s
  | .zoneFinishedByController nsid zone => Sys2Proof.Machine.execZoneFinishedByController nsid zone s
  | .transformEncode tag coded => Sys2Proof.Machine.execTransformEncode tag coded s
  | .transformDecode tag => Sys2Proof.Machine.execTransformDecode tag s
  | .sliceActionApply slice keySlot => Sys2Proof.Machine.execSliceActionApply slice keySlot s
  | .generationHoldRelease slice => Sys2Proof.Machine.execGenerationHoldRelease slice s
  | .resetSequenceEnd slice => Sys2Proof.Machine.execResetSequenceEnd slice s
  | .sliceDestroyComplete slice => Sys2Proof.Machine.execSliceDestroyComplete slice s
  | .dirtyLogPostTimer slice word => Sys2Proof.Machine.execDirtyLogPostTimer slice word s
  | .dirtyLogPostDone slice word => Sys2Proof.Machine.execDirtyLogPostDone slice word s
  | .epochStart => Sys2Proof.Machine.execEpochStart s
  | .dieDescriptorArrival ch pos op => Sys2Proof.Machine.execDieDescriptorArrival ch pos op s
  | .suspendMinRunReached ch pos => Sys2Proof.Machine.execSuspendMinRunReached ch pos s
  | .suspendLimitReached ch pos => Sys2Proof.Machine.execSuspendLimitReached ch pos s
  | .dieOperationComplete ch pos ok => Sys2Proof.Machine.execDieOperationComplete ch pos ok s
  | .thermalPauseEnd ch pos => Sys2Proof.Machine.execThermalPauseEnd ch pos s
  | .busTransferComplete ch => Sys2Proof.Machine.execBusTransferComplete ch s
  | .arbiterAgingLift resource unit => Sys2Proof.Machine.execArbiterAgingLift resource unit s
  | .islandClockGateIdle island => Sys2Proof.Machine.execIslandClockGateIdle island s
  | .islandPowerGateIdle island => Sys2Proof.Machine.execIslandPowerGateIdle island s
  | .islandWake island pastRetention late => Sys2Proof.Machine.execIslandWake island pastRetention late s
  | .powerGateEntryComplete island => Sys2Proof.Machine.execPowerGateEntryComplete island s
  | .engineEvent engine => Sys2Proof.Machine.execEngineEvent engine s
  | .engineEventTimeout engine => Sys2Proof.Machine.execEngineEventTimeout engine s
  | .engineFailed engine => Sys2Proof.Machine.execEngineFailed engine s
  | .journalPageTimer => Sys2Proof.Machine.execJournalPageTimer s
  | .journalPageDurable => Sys2Proof.Machine.execJournalPageDurable s
  | .checkpointInterval => Sys2Proof.Machine.execCheckpointInterval s
  | .checkpointEndDurable => Sys2Proof.Machine.execCheckpointEndDurable s
  | .writebackProgramDone nsid page slot ok => Sys2Proof.Machine.execWritebackProgramDone nsid page slot ok s
  | .programComplete program ok => Sys2Proof.Machine.execProgramComplete program ok s
  | .eraseComplete sb ch ok => Sys2Proof.Machine.execEraseComplete sb ch ok s
  | .rowHoldExpiry sb => Sys2Proof.Machine.execRowHoldExpiry sb s
  | .foldTask sb => Sys2Proof.Machine.execFoldTask sb s
  | .foldIdleTimer => Sys2Proof.Machine.execFoldIdleTimer s
  | .gcTask group => Sys2Proof.Machine.execGcTask group s
  | .wearLevelHourly => Sys2Proof.Machine.execWearLevelHourly s
  | .idleClosure sb => Sys2Proof.Machine.execIdleClosure sb s
  | .refreshTask sb => Sys2Proof.Machine.execRefreshTask sb s
  | .patrolVisit sb ch correctedBits failed => Sys2Proof.Machine.execPatrolVisit sb ch correctedBits failed s
  | .hardDecodeDone tag blk bits ok directed data => Sys2Proof.Machine.execHardDecodeDone tag blk bits ok directed data s
  | .softDecodeDone tag blk ok data => Sys2Proof.Machine.execSoftDecodeDone tag blk ok data s
  | .rebuildTask => Sys2Proof.Machine.execRebuildTask s
  | .powerLossNotify => Sys2Proof.Machine.execPowerLossNotify s
  | .powerDisable => Sys2Proof.Machine.execPowerDisable s
  | .postWindowEnd => Sys2Proof.Machine.execPostWindowEnd s
  | .flushEnd => Sys2Proof.Machine.execFlushEnd s
  | .powerControlRelease pwrdis => Sys2Proof.Machine.execPowerControlRelease pwrdis s
  | .flushRestartTimer => Sys2Proof.Machine.execFlushRestartTimer s
  | .channelTrainingResult ch pass => Sys2Proof.Machine.execChannelTrainingResult ch pass s
  | .retrainHoursTimer ch => Sys2Proof.Machine.execRetrainHoursTimer ch s
  | .retrain ch => Sys2Proof.Machine.execRetrain ch s
  | .retrainStepDone ch ok last => Sys2Proof.Machine.execRetrainStepDone ch ok last s
  | .rbNHint ch => Sys2Proof.Machine.execRbNHint ch s
  | .lunBusyTimeout ch pos => Sys2Proof.Machine.execLunBusyTimeout ch pos s
  | .lunResetCheck ch pos busy => Sys2Proof.Machine.execLunResetCheck ch pos busy s
  | .syncResetTimeout ch => Sys2Proof.Machine.execSyncResetTimeout ch s
  | .sequencerParityError ch zq => Sys2Proof.Machine.execSequencerParityError ch zq s
  | .blockEncodeDone tag blk lane c => Sys2Proof.Machine.execBlockEncodeDone tag blk lane c s
  | .slotDecodeDone tag blk => Sys2Proof.Machine.execSlotDecodeDone tag blk s
  | .ocxonCodeDone tag blk lane encode c => Sys2Proof.Machine.execOcxonCodeDone tag blk lane encode c s
  | .trefiBoundary ch rank completed => Sys2Proof.Machine.execTrefiBoundary ch rank completed s
  | .realtimeBurstStaged ch staged waiting => Sys2Proof.Machine.execRealtimeBurstStaged ch staged waiting s
  | .dramReadComplete place code mirrorGood user => Sys2Proof.Machine.execDramReadComplete place code mirrorGood user s
  | .remirrorComplete => Sys2Proof.Machine.execRemirrorComplete s
  | .zqCalibrationTimer ch ok => Sys2Proof.Machine.execZqCalibrationTimer ch ok s
  | .dqsOscillatorTimer ch drift16 ok => Sys2Proof.Machine.execDqsOscillatorTimer ch drift16 ok s
  | .dramTrainingResult ch pass registersAgree => Sys2Proof.Machine.execDramTrainingResult ch pass registersAgree s
  | .mergeHoldExpiry ch line find mirrorGood => Sys2Proof.Machine.execMergeHoldExpiry ch line find mirrorGood s
  | .sramScrubStep arr elem word find overwritten => Sys2Proof.Machine.execSramScrubStep arr elem word find overwritten s
  | .dramScrubStep place code mirrorGood user overwritten => Sys2Proof.Machine.execDramScrubStep place code mirrorGood user overwritten s
  | .auxPowerOn => Sys2Proof.Machine.execAuxPowerOn s
  | .auxPowerLoss => Sys2Proof.Machine.execAuxPowerLoss s
  | .mainPgTrue => Sys2Proof.Machine.execMainPgTrue s
  | .mainPgFalse => Sys2Proof.Machine.execMainPgFalse s
  | .bringUpComplete found => Sys2Proof.Machine.execBringUpComplete found s
  | .maintRequest path on => Sys2Proof.Machine.execMaintRequest path on s
  | .maintenanceEntryDone => Sys2Proof.Machine.execMaintenanceEntryDone s
  | .writeProtect path on => Sys2Proof.Machine.execWriteProtect path on s
  | .thermalSampleRound samples => Sys2Proof.Machine.execThermalSampleRound samples s
  | .thermalHoldEnd => Sys2Proof.Machine.execThermalHoldEnd s
  | .crystalQualified => Sys2Proof.Machine.execCrystalQualified s
  | .crystalQualifyTimeout => Sys2Proof.Machine.execCrystalQualifyTimeout s
  | .slowCrystalFailure => Sys2Proof.Machine.execSlowCrystalFailure s
  | .refclkStop => Sys2Proof.Machine.execRefclkStop s
  | .refclkRestored => Sys2Proof.Machine.execRefclkRestored s
  | .aonHeartbeatLoss => Sys2Proof.Machine.execAonHeartbeatLoss s
  | .fabricLinkCrcFailure link => Sys2Proof.Machine.execFabricLinkCrcFailure link s
  | .softDecoderSelfTest decoder pass => Sys2Proof.Machine.execSoftDecoderSelfTest decoder pass s
  | .portFailure port loopback => Sys2Proof.Machine.execPortFailure port loopback s
  | .readEntry path f => Sys2Proof.Machine.execReadEntry path f s
  | .writeEntry path f => Sys2Proof.Machine.execWriteEntry path f s
  | .readWholeRecord path f => Sys2Proof.Machine.execReadWholeRecord path f s
  | .writeWholeRecord path f => Sys2Proof.Machine.execWriteWholeRecord path f s
  | .nextIndex path f => Sys2Proof.Machine.execNextIndex path f s
  | .spdmRelay source f => Sys2Proof.Machine.execSpdmRelay source f s
  | .commitIndex path index => Sys2Proof.Machine.execCommitIndex path index s
  | .discardIndex path index => Sys2Proof.Machine.execDiscardIndex path index s
  | .restoreIndex path index => Sys2Proof.Machine.execRestoreIndex path index s
  | .commitBoundary index => Sys2Proof.Machine.execCommitBoundary index s
  | .commitResponseTimeout index => Sys2Proof.Machine.execCommitResponseTimeout index s
  | .shadowTimeout index => Sys2Proof.Machine.execShadowTimeout index s
  | .stagingTimeout => Sys2Proof.Machine.execStagingTimeout s
  | .logRecordDurable ok => Sys2Proof.Machine.execLogRecordDurable ok s
  | .tokenRefill => Sys2Proof.Machine.execTokenRefill s
  | .compactionTimer => Sys2Proof.Machine.execCompactionTimer s
  | .compactionComplete ok => Sys2Proof.Machine.execCompactionComplete ok s
  | .compactionRetry => Sys2Proof.Machine.execCompactionRetry s
  | .ackSeq path value => Sys2Proof.Machine.execAckSeq path value s
  | .timeNs path value => Sys2Proof.Machine.execTimeNs path value s
  | .minSvn path value => Sys2Proof.Machine.execMinSvn path value s
  | .setDynamicAddress addr => Sys2Proof.Machine.execSetDynamicAddress addr s
  | .resetDynamicAddress => Sys2Proof.Machine.execResetDynamicAddress s
  | .mctpPacket p => Sys2Proof.Machine.execMctpPacket p s
  | .setEndpointId path eid => Sys2Proof.Machine.execSetEndpointId path eid s
  | .getMessageTypeSupport path => Sys2Proof.Machine.execGetMessageTypeSupport path s
  | .dictionaryFrameMessage path session frame => Sys2Proof.Machine.execDictionaryFrameMessage path session frame s
  | .readNvmeMiDataStructure path kind => Sys2Proof.Machine.execReadNvmeMiDataStructure path kind s
  | .subsystemHealthStatusPoll path => Sys2Proof.Machine.execSubsystemHealthStatusPoll path s
  | .controllerHealthStatusPoll path ctrl => Sys2Proof.Machine.execControllerHealthStatusPoll path ctrl s
  | .configurationGet path item => Sys2Proof.Machine.execConfigurationGet path item s
  | .configurationSet path item value => Sys2Proof.Machine.execConfigurationSet path item value s
  | .nvmeMiReset path => Sys2Proof.Machine.execNvmeMiReset path s
  | .nvmeMiAdminCommand path session ctrl e => Sys2Proof.Machine.execNvmeMiAdminCommand path session ctrl e s
  | .getVersion path => Sys2Proof.Machine.execGetVersion path s
  | .getCapabilities path => Sys2Proof.Machine.execGetCapabilities path s
  | .negotiateAlgorithms path => Sys2Proof.Machine.execNegotiateAlgorithms path s
  | .getDigests path => Sys2Proof.Machine.execGetDigests path s
  | .getCertificate path slot => Sys2Proof.Machine.execGetCertificate path slot s
  | .challenge path => Sys2Proof.Machine.execChallenge path s
  | .getMeasurements path index => Sys2Proof.Machine.execGetMeasurements path index s
  | .keyExchange path peer => Sys2Proof.Machine.execKeyExchange path peer s
  | .finish path session chain => Sys2Proof.Machine.execFinish path session chain s
  | .heartbeat path session => Sys2Proof.Machine.execHeartbeat path session s
  | .keyUpdate path session => Sys2Proof.Machine.execKeyUpdate path session s
  | .endSession path session => Sys2Proof.Machine.execEndSession path session s
  | .sessionIdleTimeout session => Sys2Proof.Machine.execSessionIdleTimeout session s
  | .bdpDatagram source udpPort session bytes => Sys2Proof.Machine.execBdpDatagram source udpPort session bytes s
  | .neighborSolicitation target => Sys2Proof.Machine.execNeighborSolicitation target s
  | .echoRequest target payload => Sys2Proof.Machine.execEchoRequest target payload s
  | .t1sLinkUp unique => Sys2Proof.Machine.execT1sLinkUp unique s
  | .telemetryPeriod k => Sys2Proof.Machine.execTelemetryPeriod k s
  | .telemetryEventPush k => Sys2Proof.Machine.execTelemetryEventPush k s
  | .perstDeassert port => Sys2Proof.Machine.execPerstDeassert port s
  | .linkRetrained port speed width => Sys2Proof.Machine.execLinkRetrained port speed width s
  | .t1sLinkDown => Sys2Proof.Machine.execT1sLinkDown s
  | .dramParityError ch => Sys2Proof.Machine.execDramParityError ch s
  | .fabricCoreFailure => Sys2Proof.Machine.execFabricCoreFailure s
  | .interruptCoalescingTimer q => Sys2Proof.Machine.execInterruptCoalescingTimer q s
  | .measurementIntervalEnd => Sys2Proof.Machine.execMeasurementIntervalEnd s
  | .powerEstimateInterval milliwatt => Sys2Proof.Machine.execPowerEstimateInterval milliwatt s
  | .ledActInterval => Sys2Proof.Machine.execLedActInterval s

end Sys2Proof.Machine
end

