-- ==== Sys2Proof/Machine/Step.lean ====
section
/-! DEFINITION. One step: the command at the front of the queue, or an idle tick of the clock. -/

namespace Sys2Proof.Machine

/-- The state with a command at the front of its queue. (DESIGN CHOICE, log entry 3) -/
def State.push (s : State) (i : Instr) : State := { s with pending := i :: s.pending }

/-- What a step does on an empty queue: one nanosecond passes (DESIGN CHOICE). (DESIGN CHOICE, log entry 1) -/
def State.idle (s : State) : State := { s with aon := { s.aon with now := s.aon.now + 1 } }

/-- A step takes the command at the front of the queue and runs it with the rest of the queue. -/
def step (s : State) : Host.Outcome State Fault Refusal :=
  match s.pending with
  | [] => .next s.idle
  | i :: rest => exec i { s with pending := rest }

/-- The state with the command that a word spells at the front of its queue; unchanged where it spells none. -/
def State.withFetchWord (s : State) (nbits w : Nat) : State :=
  match decodeTableWord nbits w with
  | some i => s.push i
  | none => s

end Sys2Proof.Machine
end

