-- ==== Sys2Proof/Safety.lean ====
section
/-! DEFINITION. What counts as a safe run, in the terms that claims use: a step that ends neither in a fault nor in a refusal,
the states that a run of steps reaches, and which parts of the block each command may change. -/

namespace Sys2Proof

open Machine

/-- The step of a state answers a next state. -/
def Safe (s : State) : Prop := ∃ t, step s = .next t

/-- A run of steps leads from one state to another. -/
inductive Reaches : State → State → Prop where
  | refl (s : State) : Reaches s s
  | tail {s t u : State} : Reaches s t → step t = .next u → Reaches s u

/-- The state after n steps; a step that does not answer a next state leaves it. -/
def stepN : Nat → State → State
  | 0, s => s
  | n + 1, s => match step s with
    | .next t => stepN n t
    | _ => s

/-- The effects of a list of commands one after the other, on a state whose queue stays as it is. -/
def runList : List Instr → State → State
  | [], s => s
  | i :: l, s => match exec i s with
    | .next t => runList l t
    | _ => s

/-- Every addressed memory of the block is in canonical form: the controller memory buffer of every port (R83) and the
buffer of the dictionary mailbox (R62). -/
def MemoryCanonical (s : State) : Prop := (∀ p, Mem.wf (s.port p).cmb = true) ∧ Mem.wf s.regs.dmbBuf = true

/-- A command's tag has its status and waits for its completion to be posted. -/
def Posts (s : State) (tag : Nat) (st : Status) : Prop := (s.tag tag).st = .post ∧ (s.tag tag).status = st

/-- The answer of a dictionary request is out on its path: its command has its status, the mailbox holds the response, or the
response message has been sent. -/
def Answered (t : State) (path : DPath) (f : DFrame) (a : Ans) : Prop :=
  match path with
  | .admin k => Posts t k (if a.result = 0 then ⟨0, 0⟩ else ⟨7, 0x80 + a.result⟩)
  | .mailbox _ => t.regs.dmbBusy = false ∧ t.regs.dmbDone = true ∧ t.regs.dmbResult = a.result ∧ t.regs.dmbPending = a.pending ∧
      t.regs.dmbLen = (respFrame f a).length
  | p => Out.dictResponse p (respFrame f a) ∈ t.out

/-- The parts of the block's state, everything but the queue of waiting commands. -/
inductive Part where
  /-- Messages put on the block's links. -/
  | out
  /-- The always-on domain. -/
  | aon
  /-- Operating mode. -/
  | mode
  /-- CSRs and doorbell pages' registers. -/
  | regs
  /-- RAS records and counters. -/
  | ras
  /-- PCIe ports with their controller memory buffers. -/
  | ports
  /-- PCIe functions. -/
  | funcs
  /-- DMA requests in flight. -/
  | dmas
  /-- DMA requests that wait. -/
  | dmaWait
  /-- The dictionary and its store. -/
  | dict
  /-- Submission queues. -/
  | sqs
  /-- Completion queues. -/
  | cqs
  /-- Command tags. -/
  | tags
  /-- NVMe controllers. -/
  | ctrls
  /-- Command statistics. -/
  | cmds
  /-- Slices. -/
  | slices
  /-- Dirty-page log words. -/
  | dirty
  /-- The Tenant Scheduler. -/
  | sched
  /-- LUNs. -/
  | luns
  /-- Flash channels. -/
  | chans
  /-- Power islands. -/
  | islands
  /-- Channel engines. -/
  | engines
  /-- Namespaces. -/
  | nss
  /-- Zones. -/
  | zones
  /-- The pool's quantities. -/
  | pool
  /-- Map and translation. -/
  | map
  /-- The journal. -/
  | jrn
  /-- The write buffer. -/
  | wbuf
  /-- Flash media. -/
  | media
  /-- Power loss, flush and recovery. -/
  | recov
  /-- The Compression Unit. -/
  | cmp
  /-- DRAM channels. -/
  | drams
  /-- DRAM ranks. -/
  | ranks
  /-- On-chip memory and buffers. -/
  | chip
  /-- Thermal and power control. -/
  | thermal
  /-- Management ports. -/
  | mgmt
  /-- Security, lifecycle and firmware. -/
  | sec
  deriving DecidableEq, Repr

/-- Two states hold the same in a part. -/
def Part.same (p : Part) (s t : State) : Prop :=
  match p with
  | .out => t.out = s.out
  | .aon => t.aon = s.aon
  | .mode => t.mode = s.mode
  | .regs => t.regs = s.regs
  | .ras => t.ras = s.ras
  | .ports => t.ports = s.ports
  | .funcs => t.funcs = s.funcs
  | .dmas => t.dmas = s.dmas
  | .dmaWait => t.dmaWait = s.dmaWait
  | .dict => t.dict = s.dict
  | .sqs => t.sqs = s.sqs
  | .cqs => t.cqs = s.cqs
  | .tags => t.tags = s.tags
  | .ctrls => t.ctrls = s.ctrls
  | .cmds => t.cmds = s.cmds
  | .slices => t.slices = s.slices
  | .dirty => t.dirty = s.dirty
  | .sched => t.sched = s.sched
  | .luns => t.luns = s.luns
  | .chans => t.chans = s.chans
  | .islands => t.islands = s.islands
  | .engines => t.engines = s.engines
  | .nss => t.nss = s.nss
  | .zones => t.zones = s.zones
  | .pool => t.pool = s.pool
  | .map => t.map = s.map
  | .jrn => t.jrn = s.jrn
  | .wbuf => t.wbuf = s.wbuf
  | .media => t.media = s.media
  | .recov => t.recov = s.recov
  | .cmp => t.cmp = s.cmp
  | .drams => t.drams = s.drams
  | .ranks => t.ranks = s.ranks
  | .chip => t.chip = s.chip
  | .thermal => t.thermal = s.thermal
  | .mgmt => t.mgmt = s.mgmt
  | .sec => t.sec = s.sec

/-- Every part. -/
def Part.all : List Part :=
  [
   .out, .aon, .mode, .regs, .ras, .ports, .funcs, .dmas, .dmaWait, .dict, .sqs, .cqs, .tags, .ctrls, .cmds, .slices,
   .dirty, .sched, .luns, .chans, .islands, .engines, .nss, .zones, .pool, .map, .jrn, .wbuf, .media, .recov, .cmp,
   .drams, .ranks, .chip, .thermal, .mgmt, .sec]

/-- Every part but these. -/
def Part.but (l : List Part) : List Part := Part.all.filter (fun p => !l.contains p)

/-- The parts that a command may change; a part not listed is as it was, whatever the state and the operands. The lists are
upper bounds of the spec's effects of the command: what its own rules and those of the events that it sets off name. -/
def Instr.parts : Instr → List Part
  | .sqTailDoorbell ..
  | .cqHeadDoorbell .. =>
    [.out, .aon, .regs, .ras, .funcs, .dmas, .dmaWait, .sqs, .cqs, .tags, .ctrls, .cmds, .slices, .dirty, .zones,
    .pool, .wbuf, .mgmt]
  | .registerWrite .. =>
    [.out, .regs, .ras, .funcs, .mgmt]
  | .readClearAccess .. =>
    [.out, .regs, .ras, .ports, .funcs, .slices, .mgmt]
  | .dmbGo ..
  | .dictionaryRead ..
  | .dictionaryWrite ..
  | .powerControlRelease ..
  | .flushRestartTimer ..
  | .mainPgTrue ..
  | .maintRequest ..
  | .writeProtect ..
  | .thermalHoldEnd ..
  | .crystalQualified ..
  | .readEntry ..
  | .writeEntry ..
  | .readWholeRecord ..
  | .writeWholeRecord ..
  | .nextIndex ..
  | .commitIndex ..
  | .discardIndex ..
  | .restoreIndex ..
  | .ackSeq ..
  | .timeNs ..
  | .minSvn ..
  | .dictionaryFrameMessage ..
  | .bdpDatagram .. =>
    Part.but [.recov]
  | .cmbWrite .. =>
    [.out, .regs, .ras, .ports, .funcs, .mgmt]
  | .poisonedTlpReceived .. =>
    [.out, .ras, .funcs]
  | .configRequest ..
  | .busMasterEnableChange ..
  | .d3hotTransition ..
  | .msixEnableChange ..
  | .deleteIoSq ..
  | .abort ..
  | .queueRestart .. =>
    [.out, .aon, .ras, .funcs, .dmas, .dmaWait, .sqs, .cqs, .tags, .cmds, .slices, .dirty, .zones, .pool, .wbuf]
  | .linkUp ..
  | .speedChangeRetry ..
  | .linkRetrained .. =>
    [.out, .mode, .ras, .ports, .funcs, .dict]
  | .l0pDecision ..
  | .l1IdleEntry ..
  | .invalidationComplete .. =>
    [.out, .ras, .ports]
  | .dmaReadCompletion .. =>
    [.out, .aon, .ras, .ports, .funcs, .dmas, .dmaWait, .sqs, .cqs, .tags, .cmds, .slices, .dirty, .zones, .pool,
    .wbuf]
  | .dmaRequestFailure ..
  | .completionTimeout .. =>
    [.out, .regs, .ras, .ports, .funcs, .dmas, .dmaWait, .sqs, .cqs, .tags, .ctrls, .cmds, .zones, .pool, .wbuf,
    .mgmt]
  | .atsInvalidationRequest ..
  | .perstDeassert .. =>
    [.ras, .ports]
  | .perstAssert ..
  | .hotReset ..
  | .linkDisable ..
  | .dlDown ..
  | .nvmSubsystemReset ..
  | .nvmeMiReset .. =>
    [.out, .regs, .ras, .ports, .funcs, .dmas, .dmaWait, .dict, .sqs, .cqs, .tags, .ctrls, .cmds, .slices, .dirty,
    .zones, .pool, .map, .wbuf, .media, .chip, .mgmt]
  | .pfFunctionLevelReset ..
  | .vfFunctionLevelReset ..
  | .vfEnableCleared ..
  | .controllerReset .. =>
    [.out, .ras, .ports, .funcs, .dmas, .dmaWait, .sqs, .cqs, .tags, .ctrls, .cmds, .slices, .dirty, .zones, .pool,
    .map, .wbuf, .media, .chip]
  | .controllerEnable .. =>
    [.ras, .funcs, .sqs, .cqs]
  | .shutdownNotification .. =>
    [.mode, .ras, .funcs, .map, .jrn, .wbuf, .media, .recov]
  | .entryFetch .. =>
    [.out, .aon, .mode, .ras, .ports, .funcs, .dmas, .dmaWait, .sqs, .cqs, .ctrls, .cmds, .slices, .dirty, .engines]
  | .commandAdmission .. =>
    Part.but
      [.aon, .funcs, .cqs, .luns, .chans, .islands, .engines, .map, .jrn, .media, .cmp, .drams, .ranks, .thermal]
  | .mapFillComplete .. =>
    [.out, .regs, .ras, .ports, .dict, .tags, .ctrls, .cmds, .slices, .dirty, .nss, .zones, .pool, .map, .jrn, .wbuf,
    .media, .chip]
  | .bufferReturn ..
  | .identify ..
  | .commitBoundary .. =>
    [.out, .regs, .ras, .ports, .dict, .tags, .slices, .dirty, .zones, .pool, .wbuf, .chip]
  | .chainComplete ..
  | .overlapResolved .. =>
    [.out, .ras, .ports, .dmas, .dmaWait, .tags, .cmds, .slices, .dirty, .zones, .pool, .wbuf, .media, .cmp]
  | .stepComplete .. =>
    Part.but [.aon, .funcs, .cqs, .sched, .chans, .islands, .engines, .drams, .ranks, .thermal, .sec]
  | .completionPost .. =>
    Part.but [.regs, .ports, .dict, .luns, .chans, .islands, .engines, .cmp, .drams, .ranks, .thermal, .mgmt, .sec]
  | .createIoSq .. =>
    [.ras, .sqs, .tags, .zones, .pool, .wbuf]
  | .deleteIoCq ..
  | .createIoCq .. =>
    [.ras, .cqs, .tags, .zones, .pool, .wbuf]
  | .getLogPage .. =>
    [.out, .ras, .ports, .tags, .ctrls, .slices, .dirty, .nss, .zones, .pool, .wbuf]
  | .setFeatures ..
  | .asyncEventRequest .. =>
    [.ras, .tags, .ctrls, .zones, .pool, .wbuf]
  | .setFeaturesPowerManagement .. =>
    [.mode, .ras, .tags, .ctrls, .zones, .pool, .wbuf]
  | .setFeaturesHostMemoryBuffer .. =>
    [.ras, .tags, .ctrls, .zones, .pool, .map, .wbuf]
  | .setFeaturesTimestamp .. =>
    [.aon, .ras, .tags, .zones, .pool, .wbuf]
  | .setFeaturesFdp ..
  | .directiveSend ..
  | .zoneResetSettled .. =>
    [.ras, .tags, .zones, .pool, .wbuf]
  | .getFeatures ..
  | .directiveReceive ..
  | .reportZones .. =>
    [.out, .ras, .ports, .tags, .slices, .dirty, .zones, .pool, .wbuf]
  | .namespaceCreate .. =>
    [.out, .regs, .ras, .ports, .dict, .tags, .slices, .dirty, .nss, .zones, .pool, .jrn, .wbuf, .recov, .chip]
  | .namespaceDelete .. =>
    [.ras, .tags, .ctrls, .nss, .zones, .pool, .wbuf]
  | .namespaceDeleteComplete ..
  | .formatComplete .. =>
    [.out, .mode, .regs, .ras, .ports, .dict, .tags, .ctrls, .slices, .dirty, .luns, .nss, .zones, .pool, .map, .jrn,
    .wbuf, .media, .recov, .chip, .mgmt, .sec]
  | .namespaceAttach ..
  | .namespaceDetach .. =>
    [.ras, .tags, .ctrls, .nss, .zones, .pool, .wbuf, .recov]
  | .firmwareImageDownload ..
  | .firmwareCommitReplace ..
  | .firmwareCommitActivateNext ..
  | .firmwareCommitActivateNow .. =>
    [.ras, .tags, .zones, .pool, .wbuf, .sec]
  | .activationHandoff .. =>
    [.regs, .ras, .tags, .engines, .zones, .pool, .wbuf, .sec]
  | .formatNvm .. =>
    [.ras, .tags, .nss, .zones, .pool, .wbuf]
  | .sanitizeBlockErase ..
  | .sanitizeCryptoErase .. =>
    [.mode, .regs, .ras, .tags, .nss, .zones, .pool, .map, .jrn, .wbuf, .media, .recov, .mgmt, .sec]
  | .sanitizeExitFailure .. =>
    [.mode, .regs, .ras, .tags, .zones, .pool, .wbuf, .mgmt, .sec]
  | .sliceCreate ..
  | .sliceBind ..
  | .sliceUnbind ..
  | .sliceReset ..
  | .sliceDestroy ..
  | .dirtyLogControl .. =>
    [.ras, .dict, .tags, .zones, .pool, .wbuf, .sec]
  | .dirtyLogFlush .. =>
    [.out, .ras, .tags, .slices, .dirty, .zones, .pool, .wbuf]
  | .flush ..
  | .write ..
  | .read ..
  | .writeUncorrectable ..
  | .compare ..
  | .writeZeroes ..
  | .datasetManagement ..
  | .verify ..
  | .zoneAppend .. =>
    [.out, .regs, .ras, .ports, .dmas, .dmaWait, .dict, .tags, .cmds, .slices, .dirty, .zones, .pool, .map, .jrn,
    .wbuf, .chip]
  | .copy .. =>
    [.out, .regs, .ras, .ports, .dmas, .dmaWait, .dict, .tags, .cmds, .slices, .dirty, .sched, .nss, .zones, .pool,
    .map, .jrn, .wbuf, .chip]
  | .zoneClose ..
  | .zoneFinish ..
  | .zoneOpen ..
  | .zoneReset ..
  | .zoneOffline ..
  | .flushExplicitZrwaRange ..
  | .zoneTableDecision ..
  | .zoneFinishedByController .. =>
    [.out, .mode, .regs, .ras, .ports, .dict, .tags, .ctrls, .slices, .dirty, .luns, .nss, .zones, .pool, .map, .jrn,
    .wbuf, .media, .recov, .chip, .mgmt]
  | .zoneFinishRecommended .. =>
    [.ras, .tags, .ctrls, .nss, .zones, .pool, .jrn, .wbuf]
  | .transformEncode ..
  | .transformDecode .. =>
    [.out, .regs, .ras, .ports, .dmas, .dmaWait, .dict, .tags, .cmds, .slices, .dirty, .zones, .pool, .map, .jrn,
    .wbuf, .cmp, .chip]
  | .sliceActionApply .. =>
    [.out, .regs, .ras, .ports, .dmas, .dmaWait, .dict, .sqs, .cqs, .tags, .ctrls, .cmds, .slices, .dirty, .zones,
    .pool, .wbuf, .media, .chip]
  | .generationHoldRelease .. =>
    [.out, .ras, .ports, .dmas, .dmaWait, .sqs, .cqs, .tags, .ctrls, .cmds, .slices, .dirty, .zones, .pool, .wbuf,
    .media, .chip]
  | .resetSequenceEnd .. =>
    [.out, .regs, .ras, .ports, .dict, .sqs, .cqs, .tags, .slices, .dirty, .zones, .pool, .wbuf, .chip]
  | .sliceDestroyComplete .. =>
    [.out, .regs, .ras, .ports, .dict, .tags, .ctrls, .slices, .dirty, .sched, .zones, .pool, .wbuf, .chip]
  | .dirtyLogPostTimer .. =>
    [.out, .ras, .dirty]
  | .dirtyLogPostDone .. =>
    [.ras, .dirty]
  | .epochStart .. =>
    Part.but [.ctrls, .islands, .engines, .nss, .cmp, .drams, .ranks, .thermal, .mgmt, .sec]
  | .dieDescriptorArrival ..
  | .suspendMinRunReached ..
  | .suspendLimitReached ..
  | .thermalPauseEnd .. =>
    [.out, .regs, .ras, .ports, .dict, .tags, .slices, .dirty, .sched, .luns, .chans, .zones, .pool, .wbuf, .chip]
  | .dieOperationComplete .. =>
    [.out, .regs, .ras, .ports, .dict, .tags, .slices, .dirty, .sched, .luns, .chans, .zones, .pool, .wbuf, .media,
    .chip]
  | .busTransferComplete .. =>
    [.out, .ras, .tags, .chans]
  | .arbiterAgingLift .. =>
    [.ras, .sched]
  | .islandClockGateIdle .. =>
    [.ras, .islands]
  | .islandPowerGateIdle .. =>
    [.ras, .dict, .islands]
  | .islandWake .. =>
    [.regs, .ras, .sched, .islands]
  | .powerGateEntryComplete .. =>
    [.ras, .sched, .islands]
  | .engineEvent .. =>
    [.ras, .engines]
  | .engineEventTimeout ..
  | .engineFailed .. =>
    [.out, .mode, .regs, .ras, .funcs, .tags, .engines, .zones, .pool, .wbuf, .mgmt, .sec]
  | .journalPageTimer .. =>
    [.ras, .jrn]
  | .journalPageDurable .. =>
    [.out, .mode, .regs, .ras, .ports, .funcs, .dict, .tags, .slices, .dirty, .luns, .zones, .pool, .map, .jrn,
    .wbuf, .media, .recov, .chip]
  | .checkpointInterval .. =>
    [.out, .regs, .ras, .ports, .dict, .tags, .slices, .dirty, .zones, .pool, .jrn, .wbuf, .media, .chip]
  | .checkpointEndDurable .. =>
    [.out, .mode, .regs, .ras, .ports, .funcs, .dict, .tags, .slices, .dirty, .zones, .pool, .map, .jrn, .wbuf,
    .media, .recov, .chip]
  | .writebackProgramDone .. =>
    [.out, .regs, .ras, .ports, .dict, .tags, .slices, .dirty, .zones, .pool, .map, .jrn, .wbuf, .chip]
  | .programComplete .. =>
    [.out, .mode, .regs, .ras, .ports, .funcs, .dict, .tags, .ctrls, .slices, .dirty, .luns, .nss, .zones, .pool,
    .map, .jrn, .wbuf, .media, .recov, .chip, .mgmt]
  | .eraseComplete .. =>
    Part.but
      [.aon, .dmas, .dmaWait, .sqs, .cqs, .cmds, .sched, .chans, .islands, .engines, .cmp, .drams, .ranks, .thermal]
  | .rowHoldExpiry ..
  | .patrolVisit .. =>
    [.out, .regs, .ras, .ports, .dict, .tags, .slices, .dirty, .zones, .pool, .wbuf, .media, .chip]
  | .foldTask ..
  | .gcTask ..
  | .wearLevelHourly ..
  | .idleClosure ..
  | .refreshTask .. =>
    [.out, .mode, .regs, .ras, .ports, .dict, .tags, .slices, .dirty, .luns, .zones, .pool, .map, .jrn, .wbuf,
    .media, .recov, .chip]
  | .foldIdleTimer .. =>
    [.ras, .media]
  | .hardDecodeDone ..
  | .softDecodeDone ..
  | .slotDecodeDone ..
  | .ocxonCodeDone .. =>
    Part.but [.aon, .dmas, .dmaWait, .sqs, .cqs, .cmds, .sched, .engines, .drams, .ranks, .thermal]
  | .rebuildTask .. =>
    [.out, .mode, .regs, .ras, .ports, .dict, .tags, .ctrls, .cmds, .slices, .dirty, .luns, .nss, .zones, .pool,
    .map, .jrn, .wbuf, .media, .recov, .chip, .mgmt]
  | .powerLossNotify ..
  | .powerDisable ..
  | .thermalSampleRound .. =>
    Part.but [.nss, .recov]
  | .postWindowEnd .. =>
    Part.but [.aon, .sched, .luns, .chans, .engines, .nss, .jrn, .recov, .cmp, .drams, .ranks, .thermal, .sec]
  | .flushEnd .. =>
    Part.but [.out, .cmds, .chip]
  | .channelTrainingResult .. =>
    Part.but [.aon, .dmas, .dmaWait, .sqs, .cqs, .cmds, .engines, .cmp, .drams, .ranks, .thermal, .sec]
  | .retrainHoursTimer ..
  | .retrain .. =>
    [.ras, .chans]
  | .retrainStepDone .. =>
    [.out, .mode, .regs, .ras, .ports, .dict, .tags, .slices, .dirty, .sched, .luns, .chans, .zones, .pool, .wbuf,
    .chip]
  | .rbNHint ..
  | .getMessageTypeSupport ..
  | .readNvmeMiDataStructure ..
  | .subsystemHealthStatusPoll ..
  | .controllerHealthStatusPoll ..
  | .configurationGet ..
  | .getVersion ..
  | .getCapabilities ..
  | .getDigests ..
  | .getCertificate ..
  | .challenge ..
  | .getMeasurements ..
  | .neighborSolicitation ..
  | .echoRequest .. =>
    [.out, .ras]
  | .lunBusyTimeout .. =>
    Part.but [.aon, .dmas, .dmaWait, .sqs, .cqs, .cmds, .sched, .engines, .cmp, .drams, .ranks, .thermal]
  | .lunResetCheck .. =>
    Part.but [.aon, .dmas, .dmaWait, .sqs, .cqs, .cmds, .engines, .cmp, .drams, .ranks, .thermal]
  | .syncResetTimeout ..
  | .sequencerParityError .. =>
    Part.but [.aon, .dmas, .dmaWait, .sqs, .cqs, .cmds, .sched, .engines, .cmp, .drams, .ranks, .thermal, .sec]
  | .blockEncodeDone .. =>
    [.out, .mode, .regs, .ras, .funcs, .tags, .zones, .pool, .wbuf, .cmp, .mgmt]
  | .trefiBoundary .. =>
    [.out, .regs, .ras, .ports, .dict, .tags, .slices, .dirty, .zones, .pool, .wbuf, .drams, .ranks, .chip]
  | .realtimeBurstStaged .. =>
    [.ras, .drams]
  | .dramReadComplete ..
  | .dramTrainingResult ..
  | .dramScrubStep ..
  | .dramParityError .. =>
    Part.but [.aon, .dmas, .dmaWait, .sqs, .cqs, .sched, .chans, .islands, .engines, .cmp, .ranks, .thermal, .sec]
  | .remirrorComplete .. =>
    [.regs, .ras]
  | .zqCalibrationTimer ..
  | .dqsOscillatorTimer .. =>
    [.regs, .ras, .drams]
  | .mergeHoldExpiry .. =>
    [.out, .regs, .ras, .funcs, .map, .jrn, .media, .drams, .chip, .mgmt]
  | .sramScrubStep .. =>
    [.out, .mode, .regs, .ras, .ports, .funcs, .dict, .tags, .slices, .dirty, .engines, .zones, .pool, .map, .wbuf,
    .chip, .mgmt, .sec]
  | .auxPowerOn .. =>
    [.aon, .mode, .regs, .ras, .mgmt]
  | .auxPowerLoss ..
  | .mainPgFalse .. =>
    Part.but [.out, .cmds, .nss, .zones, .jrn, .recov, .chip]
  | .bringUpComplete .. =>
    [.mode, .regs, .ras, .funcs, .tags, .ctrls, .cmds, .luns, .nss, .zones, .pool, .map, .jrn, .wbuf, .media, .recov,
    .mgmt, .sec]
  | .maintenanceEntryDone .. =>
    [.out, .mode, .regs, .ras, .ports, .dict, .tags, .slices, .dirty, .nss, .zones, .pool, .map, .jrn, .wbuf, .media,
    .recov, .mgmt, .sec]
  | .crystalQualifyTimeout .. =>
    [.ras]
  | .slowCrystalFailure ..
  | .refclkRestored .. =>
    [.aon, .ras]
  | .refclkStop .. =>
    Part.but
      [.mode, .sched, .luns, .chans, .islands, .engines, .nss, .jrn, .recov, .cmp, .drams, .ranks, .thermal, .sec]
  | .aonHeartbeatLoss ..
  | .fabricCoreFailure .. =>
    [.mode, .ras, .funcs]
  | .fabricLinkCrcFailure ..
  | .softDecoderSelfTest .. =>
    [.out, .mode, .regs, .ras, .funcs, .cmp, .mgmt]
  | .portFailure .. =>
    Part.but
      [.aon, .sched, .luns, .chans, .islands, .engines, .nss, .jrn, .recov, .cmp, .drams, .ranks, .thermal, .sec]
  | .spdmRelay ..
  | .endSession .. =>
    [.out, .regs, .ras, .dict, .mgmt]
  | .commitResponseTimeout .. =>
    [.out, .regs, .ras, .ports, .dict, .tags, .slices, .dirty, .zones, .pool, .wbuf]
  | .shadowTimeout ..
  | .stagingTimeout ..
  | .tokenRefill ..
  | .compactionTimer ..
  | .compactionRetry .. =>
    [.ras, .dict]
  | .logRecordDurable .. =>
    [.out, .regs, .ras, .ports, .funcs, .dict, .tags, .slices, .dirty, .zones, .pool, .wbuf, .media, .chip, .mgmt,
    .sec]
  | .compactionComplete .. =>
    [.out, .regs, .ras, .funcs, .dict, .mgmt]
  | .setDynamicAddress ..
  | .resetDynamicAddress ..
  | .t1sLinkUp ..
  | .t1sLinkDown .. =>
    [.ras, .mgmt]
  | .mctpPacket ..
  | .finish ..
  | .telemetryEventPush .. =>
    [.out, .regs, .ras, .mgmt]
  | .setEndpointId ..
  | .configurationSet ..
  | .negotiateAlgorithms ..
  | .keyExchange ..
  | .heartbeat ..
  | .keyUpdate .. =>
    [.out, .ras, .mgmt]
  | .nvmeMiAdminCommand .. =>
    [.out, .ras, .tags]
  | .sessionIdleTimeout .. =>
    [.regs, .ras, .dict, .mgmt]
  | .telemetryPeriod .. =>
    [.out, .regs, .ras, .ports, .dict, .tags, .slices, .dirty, .zones, .pool, .wbuf, .chip, .mgmt]
  | .interruptCoalescingTimer .. =>
    [.out, .ras, .funcs, .cqs, .slices]
  | .measurementIntervalEnd .. =>
    [.ras, .sched, .chans]
  | .powerEstimateInterval .. =>
    [.mode, .ras]
  | .ledActInterval .. =>
    [.out, .aon, .ras]

end Sys2Proof
end

