-- ==== Sys2Proof/Certificates/Slice0/Obligations.lean ====
section
/-! DEFINITION. The statements for the provers. -/

set_option linter.all false

open Sys2Proof Sys2Proof.Machine

/-- What a step is: it runs the command at the front of the queue on the state with the rest of the queue; on an empty queue one nanosecond
passes and nothing else changes (the model's choice, log entry 1). -/
def Obligations.StepRunsTheFront : Prop :=
  (∀ (s : State) (i : Instr) (rest : List Instr), s.pending = i :: rest → step s = exec i { s with pending := rest })
  ∧ (∀ s : State, s.pending = [] → step s = .next { s with aon := { s.aon with now := s.aon.now + 1 } })

/-- The state after reset: unpowered (R385), the two slices of a new store (R140) with slice 1 not yet bound, an empty fuse history (R427),
event registers of reset value 0, no command waiting, and canonical memories. The values the spec does not give are the model's (log
entry 2). -/
def Obligations.ResetState : Prop :=
  State.reset.mode.base = .unpowered ∧ State.reset.pending = [] ∧ State.reset.sec.fuses = [] ∧
  (State.reset.slice 0).st = .bound ∧ (State.reset.slice 0).keySlot = 0 ∧ State.reset.slPort 0 = 0 ∧ State.reset.slFn 0 = 0 ∧
  State.reset.slStdq 0 = true ∧
  (State.reset.slice 1).st = .created ∧ (State.reset.slice 1).keySlot = 1 ∧ State.reset.slPort 1 = 1 ∧ State.reset.slFn 1 = 0 ∧
  State.reset.slStdq 1 = true ∧
  (∀ n, n ≠ 0 → n ≠ 1 → (State.reset.slice n).st = .absent) ∧
  State.reset.regs.thmEvent = 0#32 ∧ State.reset.regs.drcEvent = 0#32 ∧ State.reset.regs.lcsEvent = 0#32 ∧
  (∀ q, State.reset.sq q = {} ∧ State.reset.cq q = {}) ∧ (∀ n, State.reset.ns n = {}) ∧ (∀ t, State.reset.tag t = {}) ∧
  MemoryCanonical State.reset

/-- Every command completes from every state, whatever its operands, and leaves the queue of waiting commands; so every step answers a next
state. -/
def Obligations.EveryCommandCompletes : Prop :=
  (∀ (i : Instr) (s : State), ∃ t, exec i s = .next t ∧ t.pending = s.pending)
  ∧ (∀ s : State, Safe s ∧ ∃ t, step s = .next t ∧ t.pending = s.pending.tail)

/-- A queue of commands is taken first in, first out: each command runs on the state that the one before it left, and after as many steps
as commands the queue holds what came behind them. -/
def Obligations.QueueRunsInOrder : Prop :=
  (∀ (l m : List Instr) (s : State), s.pending = l ++ m → (stepN l.length s).pending = m ∧ Reaches s (stepN l.length s))
  ∧ (∀ (l m : List Instr) (i : Instr) (s : State), s.pending = l ++ i :: m →
    exec i { stepN l.length s with pending := m } = .next (stepN (l.length + 1) s))

/-- The frame of every step: a part of the state that the command at the front may not change is as it was, the queue loses that command
alone, and an idle step changes the always-on domain alone. -/
def Obligations.FrameOfEveryStep : Prop :=
  (∀ (i : Instr) (rest : List Instr) (s t : State), s.pending = i :: rest → step s = .next t →
    t.pending = rest ∧ ∀ p : Part, p ∉ i.parts → p.same s t)
  ∧ (∀ s t : State, s.pending = [] → step s = .next t → t.pending = [] ∧ ∀ p : Part, p ≠ .aon → p.same s t)

/-- The canonical form of the controller memory buffers and of the mailbox buffer is an invariant of every step, and of every run. -/
def Obligations.MemoriesStayCanonical : Prop :=
  (∀ s t : State, MemoryCanonical s → step s = .next t → MemoryCanonical t)
  ∧ (∀ s t : State, Reaches s t → MemoryCanonical s → MemoryCanonical t)

/-- The lifecycle history is a fuse array (R427): no command and no run takes back or changes an entry; the history only grows at its end. -/
def Obligations.FuseHistoryOnlyGrows : Prop :=
  (∀ s t : State, step s = .next t → s.sec.fuses <+: t.sec.fuses)
  ∧ (∀ s t : State, Reaches s t → s.sec.fuses <+: t.sec.fuses ∧ ∀ k, k < s.sec.fuses.length → t.sec.fuses[k]? = s.sec.fuses[k]?)

/-- A write to one tail doorbell, legal or not, reaches no queue but those of the function or the slice page it was written to, no
completion queue, and no slice but the one that owns the page (R7, R68, R72). -/
def Obligations.TailDoorbellIsolation : Prop :=
  ∀ (s : State) (w : RegAccess), w.off % 4 + w.width ≤ 4 →
    ∃ t, exec (.sqTailDoorbell w) s = .next t ∧ t.cqs = s.cqs ∧
      (∀ q, t.sq q ≠ s.sq q → (w.bar = 0 ∧ ∃ i, qcode q = qcode (.std w.port w.fn i)) ∨
        (w.bar ≠ 0 ∧ ∃ n i, s.pageSlice w.port w.fn (w.off / 0x1000) = some n ∧ qcode q = qcode (.page n i))) ∧
      (∀ n, t.slice n ≠ s.slice n → w.bar ≠ 0 ∧ s.pageSlice w.port w.fn (w.off / 0x1000) = some n)

/-- Register areas and doorbells: a legal tail or head is taken by its queue, of a function or of a live slice page whose
generation the value carries (R67, R68, R71, R72); a masked register changes only under its mask (R80, R82); a read answers
the register's value (R79, R81); a buffer write changes exactly its bytes, and a poisoned one none (R67, R98). -/
def Obligations.HostAccess : Prop :=
  -- SQ_TAIL_DOORBELL, standard doorbell
  (∀ (s : State) (p f q v : Nat),
    s.lands ⟨p, f, 0, 0x1000 + 8 * q, 4, true, v⟩ = true → stdDoorbell f (0x1000 + 8 * q) = true →
    (s.sq (.std p f q)).live = true → (s.sq (.std p f q)).deleting = none → (s.sq (.std p f q)).legalTail (v % 65536) = true →
    ∃ t, exec (.sqTailDoorbell ⟨p, f, 0, 0x1000 + 8 * q, 4, true, v⟩) s = .next t ∧
      t.sq (.std p f q) = { s.sq (.std p f q) with tail := v % 65536, lastDb := v % 65536 } ∧ t.cqs = s.cqs)
  -- SQ_TAIL_DOORBELL, slice page
  ∧ (∀ (s : State) (p f pg q v n : Nat),
    s.lands ⟨p, f, 2, 0x1000 * pg + 0x800 + 8 * q, 4, true, v⟩ = true → q < 256 → s.pageSlice p f pg = some n →
    (s.slice n).st ≠ .resetting → v / 65536 = (s.slice n).gen → v < 2 ^ 32 →
    (s.sq (.page n q)).live = true → (s.sq (.page n q)).deleting = none → (s.sq (.page n q)).legalTail (v % 65536) = true →
    ∃ t, exec (.sqTailDoorbell ⟨p, f, 2, 0x1000 * pg + 0x800 + 8 * q, 4, true, v⟩) s = .next t ∧
      t.sq (.page n q) = { s.sq (.page n q) with tail := v % 65536, lastDb := v % 65536 } ∧ t.cqs = s.cqs)
  -- CQ_HEAD_DOORBELL
  ∧ (∀ (s : State) (p f q v : Nat),
    s.lands ⟨p, f, 0, 0x1000 + 8 * q + 4, 4, true, v⟩ = true → stdDoorbell f (0x1000 + 8 * q + 4) = true →
    (s.cq (.std p f q)).live = true → (s.cq (.std p f q)).legalHead (v % 65536) = true → (s.cq (.std p f q)).held = [] →
    ∃ t, exec (.cqHeadDoorbell ⟨p, f, 0, 0x1000 + 8 * q + 4, 4, true, v⟩) s = .next t ∧
      t.cq (.std p f q) = { s.cq (.std p f q) with head := v % 65536, lastDb := v % 65536 } ∧ t.sqs = s.sqs)
  -- REGISTER_WRITE: the interrupt enables of the RAS collector
  ∧ (∀ (s : State) (p v : Nat), s.lands ⟨p, 0, 4, 0x70010, 4, true, v⟩ = true → s.mode.base ≠ .flush →
    exec (.registerWrite ⟨p, 0, 4, 0x70010, 4, true, v⟩) s
      = .next { s with regs := { s.regs with rasInten := wm s.regs.rasInten (v % 2 ^ 32) 0x3FFF } })
  -- READ_CLEAR_ACCESS: a read of the controller memory buffer window
  ∧ (∀ (s : State) (w : RegAccess), s.lands w = true → w.bar = 0 → inCmbWindow w.fn w.off = true →
    exec (.readClearAccess w) s
      = .next { s with out := s.out ++ [.readData w.port (fromLe (s.cmbRead w.port w.fn (w.off - cmbWindow w.fn) w.width))] })
  -- CMB_WRITE: one byte inside the function's share, and every other byte of that buffer as it was
  ∧ (∀ (s : State) (p f off : Nat) (b : Byte), s.reaches p f = true → off + 1 ≤ barSize 0 f - cmbWindow f → off < s.cmbShare p f →
    ∃ t, exec (.cmbWrite p f off [some b] false) s = .next t ∧
      Mem.read (t.port p).cmb (s.cmbBase p f + off) = b ∧
      (∀ a, a ≠ s.cmbBase p f + off → Mem.read (t.port p).cmb a = Mem.read (s.port p).cmb a) ∧
      (∀ p', p' ≠ p → (t.port p').cmb = (s.port p').cmb))
  ∧ (∀ (s : State) (p f off : Nat) (data : List (Option Byte)), s.reaches p f = true →
    off + data.length ≤ barSize 0 f - cmbWindow f →
    ∃ t, exec (.cmbWrite p f off data true) s = .next t ∧ (∀ p', (t.port p').cmb = (s.port p').cmb))
  -- POISONED_TLP_RECEIVED
  ∧ (∀ (s : State) (p f : Nat), s.reaches p f = true →
    ∃ t, exec (.poisonedTlpReceived p f) s = .next t ∧ (t.func p f).uncStatus = (s.func p f).uncStatus ||| 2 ^ 12 ∧
      t.regs = s.regs ∧ t.ports = s.ports)

/-- Ports and their links: a port that is not ready answers Request Retry Status (R86); a training gives rate and width, capped by
2000h.02 (R85, R86); L0p and L1 (R89, R92); the enables of a function change alone (R97, R138). -/
def Obligations.PortsAndLinks : Prop :=
  -- CONFIG_REQUEST
  (∀ (s : State) (p f : Nat) (r : CfgReg) (w : Option Nat), s.awake = true → s.portExists p = true → (s.port p).linkUp = true →
    (r = .vfEnable → w ≠ some 0) → (s.port p).configReady = false →
    exec (.configRequest p f r w) s = .next { s with out := s.out ++ [.configRetry p] })
  ∧ (∀ (s : State) (p : Nat), s.awake = true → s.portExists p = true → (s.port p).linkUp = true → (s.port p).configReady = true →
    exec (.configRequest p 0 .deviceId none) s = .next { s with out := s.out ++ [.configData p 0x9A09] })
  ∧ (∀ (s : State) (p f v : Nat), s.awake = true → s.portExists p = true → (s.port p).linkUp = true → (s.port p).configReady = true →
    (s.func p f).here = true →
    exec (.configRequest p f .atsEnable (some v)) s = .next (s.setFunc p f { s.func p f with atsEn := v != 0 }))
  -- BUS_MASTER_ENABLE_CHANGE, D3HOT_TRANSITION, MSIX_ENABLE_CHANGE
  ∧ (∀ (s : State) (p f : Nat) (on : Bool), (s.func p f).here = true → (s.func p f).bme ≠ on →
    ∃ t, exec (.busMasterEnableChange p f on) s = .next t ∧ (t.func p f).bme = on ∧
      (∀ p' f', fkey p' f' ≠ fkey p f → { t.func p' f' with msix := [] } = { s.func p' f' with msix := [] }))
  ∧ (∀ (s : State) (p f : Nat) (on : Bool), (s.func p f).here = true → (s.func p f).d3hot ≠ on →
    ∃ t, exec (.d3hotTransition p f on) s = .next t ∧ (t.func p f).d3hot = on)
  ∧ (∀ (s : State) (p f : Nat) (on mask : Bool), (s.func p f).here = true →
    ∃ t, exec (.msixEnableChange p f on mask) s = .next t ∧ (t.func p f).msixEn = on ∧ (t.func p f).msixMask = mask)
  -- LINK_UP, SPEED_CHANGE_RETRY, LINK_RETRAINED
  ∧ (∀ (s : State) (p speed width : Nat), s.mayTrain p = true → (s.port p).linkUp = false →
    ∃ t, exec (.linkUp p speed width) s = .next t ∧ (t.port p).linkUp = true ∧ (t.port p).rate = min speed s.maxSpeed ∧
      (t.port p).width = width ∧ ((t.port p).configReady = true ↔ 3 ≤ min speed s.maxSpeed ∧ s.mode.base ≠ .flush))
  ∧ (∀ (s : State) (p speed width : Nat), s.mayTrain p = true → (s.port p).linkUp = true → (s.port p).rate < 3 →
    ∃ t, exec (.speedChangeRetry p speed width) s = .next t ∧ (t.port p).linkUp = true ∧ (t.port p).rate = min speed s.maxSpeed ∧
      (t.port p).width = width ∧ (t.port p).lowRate = if 3 ≤ min speed s.maxSpeed then (s.port p).lowRate else satAdd 32 (s.port p).lowRate 1)
  ∧ (∀ (s : State) (p speed width : Nat), s.mayTrain p = true → (s.port p).linkUp = true →
    ∃ t, exec (.linkRetrained p speed width) s = .next t ∧ (t.port p).rate = min speed s.maxSpeed ∧ (t.port p).width = width ∧
      ((t.port p).retrain = true ↔ (s.port p).retrain = true ∨ min speed s.maxSpeed ≠ (s.port p).rate ∨ width ≠ (s.port p).width))
  -- L0P_DECISION, L1_IDLE_ENTRY
  ∧ (∀ (s : State) (p width : Nat), s.cfgB 0x2000 3 = true → (s.port p).linkUp = true → 3 ≤ (s.port p).rate →
    [2, 4, 8, 16].contains width = true → width ≤ (s.port p).width →
    exec (.l0pDecision p width) s = .next ((s.setPort p { s.port p with
      l0pWidth := if width = (s.port p).width then 0 else width }).emit (.l0pRequest p width)))
  ∧ (∀ (s : State) (p : Nat), (s.port p).linkUp = true → s.crispOn p = false → s.cfg 0x2000 4 ≠ 0 → (s.port p).l1 = false →
    ∃ t, exec (.l1IdleEntry p) s = .next t ∧ (t.port p).l1 = true ∧ (∀ p', p' ≠ p → t.port p' = s.port p'))

/-- A failed or overdue request counts on its port and freezes the queue whose entries it fetched (R98, R131); an invalidation
removes every entry of the translation cache that it matches, and completes (R96). -/
def Obligations.FailedRequests : Prop :=
  -- DMA_REQUEST_FAILURE, COMPLETION_TIMEOUT
  (∀ (s : State) (r : Nat) (why : DmaFail), (Tbl.get {} s.dmas r).use.isSome = true →
    ∃ t, exec (.dmaRequestFailure r why) s = .next t ∧
      (t.port (Tbl.get {} s.dmas r).port).dmaErrors = satAdd 32 (s.port (Tbl.get {} s.dmas r).port).dmaErrors 1 ∧
      (∀ q, (Tbl.get {} s.dmas r).use = some (.entries q) → (t.sq q).frozen = true))
  ∧ (∀ (s : State) (r : Nat), (Tbl.get {} s.dmas r).use.isSome = true →
    ∃ t, exec (.completionTimeout r) s = .next t ∧
      (t.port (Tbl.get {} s.dmas r).port).dmaErrors = satAdd 32 (s.port (Tbl.get {} s.dmas r).port).dmaErrors 1 ∧
      (∀ q, (Tbl.get {} s.dmas r).use = some (.entries q) → (t.sq q).frozen = true))
  -- ATS_INVALIDATION_REQUEST, INVALIDATION_COMPLETE
  ∧ (∀ (s : State) (p f itag : Nat) (pasid page : Option Nat), (s.func p f).here = true → (s.port p).invalidations.length < 32 →
    ∃ t, exec (.atsInvalidationRequest p f itag pasid page) s = .next t ∧
      (∀ e, e ∈ (t.port p).atc ↔ e ∈ (s.port p).atc ∧ e.hit f pasid page = false) ∧
      (∃ w, (t.port p).invalidations = (s.port p).invalidations ++ [⟨itag, w⟩]))
  ∧ (∀ (s : State) (p itag : Nat), (s.port p).invalidations.any (fun v => v.itag == itag && v.waits.isEmpty) = true →
    ∃ t, exec (.invalidationComplete p itag) s = .next t ∧ (∀ v ∈ (t.port p).invalidations, v.itag ≠ itag) ∧
      t.out = s.out ++ [.invalidationCompletion p itag])

/-- R99, R102, R108: what the resets of a port and of the subsystem leave of the port and its functions, and that they shut every
slice bound there. -/
def Obligations.LinkResets : Prop :=
  -- PERST_ASSERT, HOT_RESET, LINK_DISABLE, DL_DOWN
  (∀ (s : State) (p : Nat), p < 2 → ∃ t, exec (.perstAssert p) s = .next t ∧ (t.port p).perst = true ∧
    (s.awake = true → s.portExists p = true → (t.port p).linkUp = false ∧ (t.port p).lastReset = 1 ∧ (t.port p).cmb = [] ∧
      t.func p 0 = {} ∧ ∀ n, (s.slice n).st = .bound → s.slPort n = p → (t.slice n).st = .resetting ∧ (t.slice n).fenceOpen = false))
  ∧ (∀ (s : State) (p : Nat), s.awake = true → (s.port p).linkUp = true →
    ∃ t, exec (.hotReset p) s = .next t ∧ (t.port p).linkUp = false ∧ (t.port p).lastReset = 2 ∧ (t.port p).cmb = [] ∧
      (t.func p 0).here = false ∧ (t.func p 0).ccEn = false ∧
      ∀ n, (s.slice n).st = .bound → s.slPort n = p → (t.slice n).st = .resetting ∧ (t.slice n).fenceOpen = false)
  ∧ (∀ (s : State) (p : Nat), s.awake = true → (s.port p).linkUp = true →
    ∃ t, exec (.linkDisable p) s = .next t ∧ (t.port p).linkUp = false ∧ (t.port p).lastReset = 3 ∧ (t.port p).cmb = [] ∧
      (t.func p 0).here = false ∧ (t.func p 0).ccEn = false ∧
      ∀ n, (s.slice n).st = .bound → s.slPort n = p → (t.slice n).st = .resetting ∧ (t.slice n).fenceOpen = false)
  ∧ (∀ (s : State) (p : Nat), s.awake = true → s.portExists p = true → (s.port p).linkUp = true →
    ∃ t, exec (.dlDown p) s = .next t ∧ (t.port p).linkUp = false ∧ (t.port p).lastReset = 4 ∧ (t.port p).cmb = [] ∧
      (t.port p).dlDowns = satAdd 32 (s.port p).dlDowns 1 ∧ (t.func p 0).here = false ∧
      ∀ n, (s.slice n).st = .bound → s.slPort n = p → (t.slice n).st = .resetting ∧ (t.slice n).fenceOpen = false)
  -- NVM_SUBSYSTEM_RESET
  ∧ (∀ (s : State) (p : Nat), s.reaches p 0 = true → s.dual = false →
    ∃ t, exec (.nvmSubsystemReset p) s = .next t ∧ (t.port 0).linkUp = false ∧ (t.port 0).lastReset = 5 ∧ (t.port 0).cmb = [] ∧
      t.func 0 0 = {} ∧
      ∀ n, (s.slice n).st = .bound → s.slPort n = 0 → (t.slice n).st = .resetting ∧ (t.slice n).fenceOpen = false)

/-- R99, R100, R101, R108: what the resets of a function leave of it and of the slices bound to it; what enabling a controller, a
shutdown notification and releasing PERST# do. -/
def Obligations.FunctionResets : Prop :=
  -- PF_FUNCTION_LEVEL_RESET, VF_FUNCTION_LEVEL_RESET, VF_ENABLE_CLEARED
  (∀ (s : State) (p : Nat), s.awake = true → (s.func p 0).here = true →
    ∃ t, exec (.pfFunctionLevelReset p) s = .next t ∧ t.func p 0 = { here := true } ∧
      (t.port p).linkUp = (s.port p).linkUp ∧ (t.port p).cmb = (s.port p).cmb ∧
      (∀ e ∈ (t.port p).atc, e.fn ∉ s.funcsOf p) ∧
      ∀ n, (s.slice n).st = .bound → s.slPort n = p → (t.slice n).st = .resetting ∧ (t.slice n).fenceOpen = false)
  ∧ (∀ (s : State) (p f : Nat), s.awake = true → f ≠ 0 → (s.func p f).here = true →
    ∃ t, exec (.vfFunctionLevelReset p f) s = .next t ∧ t.func p f = { here := true } ∧ (t.port p).linkUp = (s.port p).linkUp ∧
      (∀ e ∈ (t.port p).atc, e.fn ≠ f) ∧
      ∀ n, (s.slice n).st = .bound → s.slPort n = p → s.slFn n = f → (t.slice n).st = .resetting ∧ (t.slice n).fenceOpen = false)
  ∧ (∀ (s : State) (p : Nat), s.awake = true → s.vfOn p = true →
    ∃ t, exec (.vfEnableCleared p) s = .next t ∧ (∀ f ∈ s.funcsOf p, f ≠ 0 → t.func p f = {}) ∧
      (t.port p).linkUp = (s.port p).linkUp ∧
      ∀ n, (s.slice n).st = .bound → s.slPort n = p → s.slFn n ∈ s.funcsOf p → s.slFn n ≠ 0 →
        (t.slice n).st = .resetting ∧ (t.slice n).fenceOpen = false)
  -- CONTROLLER_RESET, CONTROLLER_ENABLE
  ∧ (∀ (s : State) (p f : Nat), s.reaches p f = true → (s.func p f).ccEn = true →
    ∃ t, exec (.controllerReset p f) s = .next t ∧ (t.func p f).ccEn = false ∧ (t.func p f).rdy = false ∧ (t.func p f).cfs = false ∧
      (t.func p f).shst = 0 ∧ (t.port p).linkUp = (s.port p).linkUp ∧ (t.port p).cmb = (s.port p).cmb)
  ∧ (∀ (s : State) (p f : Nat) (crime : Bool), s.reaches p f = true → (s.func p f).ccEn = false →
    s.badBases p f = false → s.mode.fatal = 0 →
    ∃ t, exec (.controllerEnable p f crime) s = .next t ∧ (t.func p f).ccEn = true ∧ (t.func p f).crime = crime ∧
      (t.func p f).rdy = (crime || s.mode.mapReady) ∧ (t.func p f).cfs = (s.func p f).cfs ∧
      (t.sq (.std p f 0)).live = true ∧ (t.sq (.std p f 0)).size = (s.func p f).aqa % 4096 + 1 ∧
      (t.cq (.std p f 0)).live = true ∧ (t.cq (.std p f 0)).base = (s.func p f).acq)
  ∧ (∀ (s : State) (p f : Nat) (crime : Bool), s.reaches p f = true → (s.func p f).ccEn = false →
    s.badBases p f = true ∨ s.mode.fatal ≠ 0 →
    ∃ t, exec (.controllerEnable p f crime) s = .next t ∧ (t.func p f).cfs = true ∧ (t.func p f).rdy = (s.func p f).rdy ∧
      t.sqs = s.sqs ∧ t.cqs = s.cqs)
  -- SHUTDOWN_NOTIFICATION
  ∧ (∀ (s : State) (p f : Nat), s.reaches p f = true → (s.func p f).ccEn = true → (s.func p f).shst = 0 →
    ∃ t, exec (.shutdownNotification p f) s = .next t ∧ ((t.func p f).shst = 1 ∨ (t.func p f).shst = 2))
  -- PERST_DEASSERT
  ∧ (∀ (s : State) (p : Nat), s.portExists p = true → (s.port p).perst = true →
    exec (.perstDeassert p) s = .next (s.setPort p { s.port p with perst := false, attempts := 0 }))

/-- The life of a command before its work (R110 to R126): an entry enters its fetch window, admission takes it out of the window
under its order, a complete chain of a segment is counted, a resolved overlap lets it run. -/
def Obligations.FetchAndAdmission : Prop :=
  -- ENTRY_FETCH, from the controller memory buffer and from host memory
  (∀ (s : State) (q : QKey) (e : Sqe), s.awake = true → (s.sq q).inCmb = true → 1 ≤ s.fetchCount q →
    s.held (s.qfunc q).1 (s.qfunc q).2 = false → s.parseStatus q (s.lineMarked q (s.sq q).head) e = none → s.cidTaken q e.cid = false →
    s.mode.base ≠ .flush → (s.mode.maintStopped = false ∨ q.isAdmin = true) →
    ∃ t, exec (.entryFetch q [e]) s = .next t ∧
      (t.sq q).head = (if (s.sq q).head + 1 = (s.sq q).size then 0 else (s.sq q).head + 1) ∧
      ∃ w, (t.sq q).window = (s.sq q).window ++ [w] ∧ w.e = e ∧ w.since = s.aon.now)
  ∧ (∀ (s : State) (q : QKey) (e : Sqe) (r : Nat) (d : Dma), (s.sq q).inCmb = false → (s.sq q).live = true →
    s.dmas.find? (fun d => d.2.use == some (.entries q)) = some (r, d) → d.len = 64 →
    s.parseStatus q false e = none → s.cidTaken q e.cid = false →
    s.mode.base ≠ .flush → (s.mode.maintStopped = false ∨ q.isAdmin = true) →
    ∃ t, exec (.entryFetch q [e]) s = .next t ∧
      (t.sq q).head = (if (s.sq q).head + 1 = (s.sq q).size then 0 else (s.sq q).head + 1) ∧
      ∃ w, (t.sq q).window = (s.sq q).window ++ [w] ∧ w.e = e ∧ w.since = s.aon.now)
  -- COMMAND_ADMISSION, of an admin command and of an I/O command
  ∧ (∀ (s : State) (q : QKey) (tag : Nat) (w : WinEnt) (l : List WinEnt), (s.sq q).window = w :: l → s.admits = true → q.isAdmin = true →
    (s.admissionBoundary 0).tagWaits ((s.admissionBoundary 0).owner q) tag = false →
    (s.admissionBoundary 0).adminLeft ((s.admissionBoundary 0).owner q) = true →
    ∃ t, exec (.commandAdmission q tag) s = .next t ∧ (t.sq q).window = l ∧ (t.tag tag).st = .build ∧ (t.tag tag).sqe = w.e ∧
      (t.tag tag).q = q ∧ (t.tag tag).admin = true ∧ t.cmds.nextOrder = s.cmds.nextOrder + 1)
  ∧ (∀ (s : State) (q : QKey) (tag k : Nat) (w : WinEnt) (l : List WinEnt) (s0 : State), (s.sq q).window = w :: l → s.admits = true →
    q.isAdmin = false → s0 = s.admissionBoundary w.e.nsid → s0.tagWaits (s0.owner q) tag = false → s0.adminFirst (s0.owner q) = false →
    s0.turnOf (s0.owner q) = some (qcode q) → s0.mode.maintStopped = false → s0.mode.psInForce < 3 →
    s0.tracked (s0.homeOf q) < Config.trackerRanges →
    ((s0.admitStatus q (s0.owner q) w.e).isSome = true ∨
      s0.poolWaits w.e.nsid (Sqe.needs w.e) = false ∧ s0.writeWaits w.e (s0.ctrlClass (s0.owner q)) = false) →
    s0.creditCase (s0.owner q) = some k →
    ∃ t, exec (.commandAdmission q tag) s = .next t ∧ (t.sq q).window = l ∧ t.cmds.nextOrder = s.cmds.nextOrder + 1 ∧
      (∀ st, s0.admitStatus q (s0.owner q) w.e = some st → (t.tag tag).st = .post ∧ (t.tag tag).status = st))
  -- CHAIN_COMPLETE, OVERLAP_RESOLVED
  ∧ (∀ (s : State) (tag : Nat), s.chainReady tag = true → (s.tag tag).st ≠ .build →
    ∃ t, exec (.chainComplete tag) s = .next t ∧ (t.tag tag).segs = (s.tag tag).segs + 1 ∧ (t.tag tag).sqe = (s.tag tag).sqe ∧
      t.sqs = s.sqs ∧ t.cqs = s.cqs)
  ∧ (∀ (s : State) (tag : Nat), (s.tag tag).st = .wait → s.overlapped tag = false →
    ∃ t, exec (.overlapResolved tag) s = .next t ∧ ((t.tag tag).st = .run ∨ (t.tag tag).st = .post) ∧
      (t.tag tag).sqe = (s.tag tag).sqe ∧ t.sqs = s.sqs ∧ t.cqs = s.cqs)

/-- The rest of a command's life (R97, R113, R122 to R133, R377 to R380): a finished step is counted or its error becomes the status,
the completion frees the tag; with it buffers, gathered interrupts, the restart of a queue, and the data and map fills it waits for. -/
def Obligations.StepsAndCompletion : Prop :=
  -- STEP_COMPLETE
  (∀ (s : State) (tag : Nat) (p : PStep), (s.tag tag).nextStep = some p → (s.tag tag).inFlight = true → (s.tag tag).st = .run →
    p.kind ≠ .mapupd → p.kind ≠ .xform → s.stepDone tag p = true →
    ∃ t, exec (.stepComplete tag .done) s = .next t ∧ (t.tag tag).stepsDone = (s.tag tag).stepsDone + 1 ∧
      (t.tag tag).sqe = (s.tag tag).sqe)
  ∧ (∀ (s : State) (tag sct sc : Nat) (p : PStep), (s.tag tag).nextStep = some p → (s.tag tag).inFlight = true →
    (s.tag tag).st = .run → sct ≠ 0 ∨ sc ≠ 0 →
    ∃ t, exec (.stepComplete tag (.error sct sc)) s = .next t ∧ (t.tag tag).st = .post ∧ (t.tag tag).status = ⟨sct, sc⟩ ∧
      (t.tag tag).inFlight = false ∧ t.map = s.map)
  -- COMPLETION_POST
  ∧ (∀ (s : State) (tag : Nat), (s.tag tag).mi = none → s.postReady tag = true → s.portPosts tag = true →
    ∃ t, exec (.completionPost tag) s = .next t ∧ t.tag tag = {} ∧ t.sched.completions = s.sched.completions + 1)
  -- BUFFER_RETURN
  ∧ (∀ (s : State) (a z n : Nat), s.awake = true → 0 < n → (s.boundary 0x7900).chip.waitq = [] →
    n ≤ Tbl.get 0 (s.boundary 0x7900).chip.inUse (bufKey a z) →
    ∃ t, exec (.bufferReturn a z n) s = .next t ∧
      Tbl.get 0 t.chip.inUse (bufKey a z) = Tbl.get 0 (s.boundary 0x7900).chip.inUse (bufKey a z) - n)
  ∧ (∀ (s : State) (a z n : Nat), s.awake = true → Tbl.get 0 (s.boundary 0x7900).chip.inUse (bufKey a z) < n →
    ∃ t, exec (.bufferReturn a z n) s = .next t ∧ t.chip.inUse = (s.boundary 0x7900).chip.inUse ∧
      t.chip.badReturns = satAdd 32 (s.boundary 0x7900).chip.badReturns 1)
  -- QUEUE_RESTART, INTERRUPT_COALESCING_TIMER
  ∧ (∀ (s : State) (tag : Nat) (q : QKey), s.adm tag 0xC6 = true → (s.tag tag).sqe.cdw10.testBit 16 = false →
    q = (s.tag tag).q.withQid ((s.tag tag).sqe.cdw10 % 65536) → (s.sq q).live = true → (s.sq q).frozen = true →
    ∃ t, exec (.queueRestart tag) s = .next t ∧ (t.sq q).frozen = false ∧ (t.sq q).fetchFail = false ∧ (t.tag tag).st = .post ∧
      (t.tag tag).status = ⟨0, 0⟩)
  ∧ (∀ (s : State) (q : QKey), 0 < (s.cq q).coalesced →
    ∃ t, exec (.interruptCoalescingTimer q) s = .next t ∧ t.cq q = { s.cq q with coalesced := 0 })
  -- DMA_READ_COMPLETION: a part of a block's host data, and a late answer
  ∧ (∀ (s : State) (r tag b off : Nat) (data : List Byte) (d : Dma), Tbl.get {} s.dmas r = d → d.use = some (.blockData tag b off) →
    data.length = d.len → (s.tag tag).st.uncommitted = true → (s.blk tag b).arrived = false →
    (((s.blk tag b).parts ++ [(off, data)]).map (fun p => p.2.length)).sum ≠ (s.tag tag).blkBytes b →
    ∃ t, exec (.dmaReadCompletion r data) s = .next t ∧ (t.blk tag b).parts = (s.blk tag b).parts ++ [(off, data)])
  ∧ (∀ (s : State) (r n : Nat) (data : List Byte), (Tbl.get {} s.dmas r).use = some (.stale (some n)) →
    ∃ t, exec (.dmaReadCompletion r data) s = .next t ∧ t.tags = s.tags ∧
      (t.slice n).lateDiscards = satAdd 64 (s.slice n).lateDiscards 1)
  -- MAP_FILL_COMPLETE
  ∧ (∀ (s : State) (n p : Nat) (f : Fill), s.fillOf n p = some f → f.fromHmb = true →
    ∃ t, exec (.mapFillComplete n p false) s = .next t ∧ t.map.flashFills = satAdd 64 s.map.flashFills 1)

/-- R227, R228, R237 to R239: the journal's page closes 200 µs after its first record and becomes durable as a whole; a checkpoint
writes its two records and, once durable, moves the replay start; a write-back gives a page its new home. -/
def Obligations.JournalAndCheckpoints : Prop :=
  -- JOURNAL_PAGE_TIMER
  (∀ s : State, s.jrn.tail.isEmpty = false → s.elapsed s.jrn.tailSince (200 * usec) = true →
    ∃ t, exec .journalPageTimer s = .next t ∧ t.jrn.tail = [] ∧ t.jrn.flushing = s.jrn.flushing ++ [s.jrn.tail] ∧
      t.jrn.bytesFromReplay = s.jrn.bytesFromReplay + 16384 ∧ t.jrn.next = s.jrn.next ∧ t.map = s.map)
  -- JOURNAL_PAGE_DURABLE
  ∧ (∀ (s : State) (p : List JRec) (l : List (List JRec)), s.jrn.flushing = p :: l →
    ∃ u : State, exec .journalPageDurable s = .next u.jrnWatch.mediaPump.settleWatch ∧ u.jrn.flushing = l ∧ u.jrn.log = s.jrn.log ++ p ∧
      (∀ r ∈ p, r.jseq ≤ u.jrn.durable) ∧ s.jrn.durable ≤ u.jrn.durable ∧ u.map = s.map ∧ u.jrn.tail = s.jrn.tail)
  -- CHECKPOINT_INTERVAL
  ∧ (∀ s : State, (s.boundary 0x6001).inService = true → s.jrn.changed = true → s.jrn.ckptRunning = false →
    (s.boundary 0x6001).elapsed s.jrn.lastCkptAt ((s.boundary 0x6001).cfg 0x6001 5 * sec) = true →
    ∃ t, exec .checkpointInterval s = .next t ∧ t.jrn.ckptRunning = true ∧ t.jrn.ckptNo = s.jrn.ckptNo + 1 ∧
      t.jrn.ckptBegin = s.jrn.next ∧ t.jrn.ckptEnd = s.jrn.next + 1 ∧ t.jrn.next = s.jrn.next + 2 ∧ t.map = s.map)
  -- CHECKPOINT_END_DURABLE
  ∧ (∀ s : State, s.jrn.ckptRunning = true → s.jrn.ckptEnd ≤ s.jrn.durable →
    ∃ u : State, exec .checkpointEndDurable s = .next u.jrnWatch.settleWatch ∧ u.jrn.ckptRunning = false ∧
      u.jrn.replayStart = s.jrn.ckptStart ∧ u.jrn.checkpoints = satAdd 32 s.jrn.checkpoints 1 ∧ u.jrn.lastCkptAt = s.aon.now ∧
      (∀ r ∈ u.jrn.log, s.jrn.ckptStart ≤ r.jseq) ∧ (∀ x ∈ u.map.freedHomes, s.jrn.ckptBegin ≤ x.2))
  -- WRITEBACK_PROGRAM_DONE
  ∧ (∀ (s : State) (n p slot : Nat), (s.page n p).writingBack = true →
    ∃ u : State, exec (.writebackProgramDone n p slot true) s = .next u.writebackPump ∧ (u.page n p).home = some slot ∧
      (u.page n p).version = ((s.page n p).version + 1) % 256 ∧ (u.page n p).writingBack = false ∧
      (u.page n p).dirty = (s.page n p).changedAfterCopy ∧ u.map.writebacks = satAdd 64 s.map.writebacks 1 ∧
      u.jrn.next = s.jrn.next + 1)
  ∧ (∀ (s : State) (n p slot : Nat), (s.page n p).writingBack = true →
    ∃ t, exec (.writebackProgramDone n p slot false) s = .next t ∧ (t.page n p).dirty = true ∧
      (t.page n p).recJseq = (s.page n p).copyRec ∧ (t.page n p).home = (s.page n p).home ∧ t.jrn = s.jrn)

/-- R107, R108, R114, R127 to R129, R146: creating and deleting I/O queues, Abort, and an asynchronous event request. -/
def Obligations.AdminQueues : Prop :=
  -- CREATE_IO_CQ
  (∀ (s : State) (tag : Nat) (e : Sqe) (q : QKey), s.adm tag 0x05 = true → (s.tag tag).sqe = e →
    (s.tag tag).q.withQid (e.cdw10 % 65536) = q → s.noStdq q = false → s.qidBad q s.liveCqs = false → (s.cq q).live = false →
    e.cdw10 / 65536 ≠ 0 → e.cdw11.testBit 0 = true →
    e.cdw11 / 65536 < (match q with
      | .page _ _ => 4
      | .std _ f _ => if f = 0 then 2048 else 256) →
    s.isCmb (s.qfunc q).1 (s.qfunc q).2 e.prp1 = false → e.prp1 % 4096 = 0 →
    ∃ t, exec (.createIoCq tag) s = .next t ∧ Posts t tag ⟨0, 0⟩ ∧ t.sqs = s.sqs ∧
      t.cq q = { live := true, base := e.prp1, size := e.cdw10 / 65536 + 1, vector := e.cdw11 / 65536, ien := e.cdw11.testBit 1 })
  ∧ (∀ (s : State) (tag : Nat) (q : QKey), s.adm tag 0x05 = true → (s.tag tag).q.withQid ((s.tag tag).sqe.cdw10 % 65536) = q →
    s.noStdq q = false → s.qidBad q s.liveCqs = true ∨ (s.cq q).live = true →
    ∃ t, exec (.createIoCq tag) s = .next t ∧ Posts t tag ⟨1, 1⟩ ∧ t.cqs = s.cqs)
  -- CREATE_IO_SQ
  ∧ (∀ (s : State) (tag : Nat) (e : Sqe) (q : QKey), s.adm tag 0x01 = true → (s.tag tag).sqe = e →
    (s.tag tag).q.withQid (e.cdw10 % 65536) = q → s.noStdq q = false → s.qidBad q s.liveSqs = false → (s.sq q).live = false →
    e.cdw10 / 65536 ≠ 0 → e.cdw11.testBit 0 = true → e.cdw11 / 65536 ≠ 0 → (s.cq (q.withQid (e.cdw11 / 65536))).live = true →
    s.isCmb (s.qfunc q).1 (s.qfunc q).2 e.prp1 = false → e.prp1 % 4096 = 0 →
    ∃ t, exec (.createIoSq tag) s = .next t ∧ Posts t tag ⟨0, 0⟩ ∧ t.cqs = s.cqs ∧
      t.sq q = { live := true, base := e.prp1, inCmb := false, size := e.cdw10 / 65536 + 1, cqid := e.cdw11 / 65536 })
  ∧ (∀ (s : State) (tag : Nat) (e : Sqe) (q : QKey), s.adm tag 0x01 = true → (s.tag tag).sqe = e →
    (s.tag tag).q.withQid (e.cdw10 % 65536) = q → s.noStdq q = false → s.qidBad q s.liveSqs = false → (s.sq q).live = false →
    e.cdw10 / 65536 ≠ 0 → e.cdw11.testBit 0 = true → e.cdw11 / 65536 = 0 ∨ (s.cq (q.withQid (e.cdw11 / 65536))).live = false →
    ∃ t, exec (.createIoSq tag) s = .next t ∧ Posts t tag ⟨1, 0⟩ ∧ t.sqs = s.sqs)
  -- DELETE_IO_CQ
  ∧ (∀ (s : State) (tag : Nat) (q : QKey), s.adm tag 0x04 = true → (s.tag tag).q.withQid ((s.tag tag).sqe.cdw10 % 65536) = q →
    q.isAdmin = false → (s.cq q).live = true → (∀ x ∈ s.sqs, x.2.live = true → (codeQ x.1).withQid x.2.cqid ≠ q) →
    ∃ t, exec (.deleteIoCq tag) s = .next t ∧ Posts t tag ⟨0, 0⟩ ∧ t.cq q = {} ∧ t.sqs = s.sqs)
  ∧ (∀ (s : State) (tag : Nat) (q : QKey), s.adm tag 0x04 = true → (s.tag tag).q.withQid ((s.tag tag).sqe.cdw10 % 65536) = q →
    q.isAdmin = false → (s.cq q).live = true → (∃ x ∈ s.sqs, x.2.live = true ∧ (codeQ x.1).withQid x.2.cqid = q) →
    ∃ t, exec (.deleteIoCq tag) s = .next t ∧ Posts t tag ⟨1, 0x0C⟩ ∧ t.cqs = s.cqs)
  -- DELETE_IO_SQ
  ∧ (∀ (s : State) (tag : Nat) (q : QKey), s.adm tag 0x00 = true → (s.tag tag).q.withQid ((s.tag tag).sqe.cdw10 % 65536) = q →
    q.isAdmin = false → (s.sq q).live = true → (s.sq q).deleting = none →
    ∃ u : State, exec (.deleteIoSq tag) s = .next (u.deleteWatch q) ∧ (u.sq q).deleting = some tag ∧ (u.sq q).window = [] ∧
      (u.sq q).live = true ∧ (u.tag tag).st = .run)
  -- ABORT: of an admin queue, and of a command that is not found
  ∧ (∀ (s : State) (tag : Nat) (q : QKey), s.adm tag 0x08 = true → (s.tag tag).q.withQid ((s.tag tag).sqe.cdw10 % 65536) = q →
    s.outstanding (s.tag tag).q 0x08 ≤ 64 →
    q.isAdmin = true ∨ (s.sq q).window.find? (fun w => w.e.cid == (s.tag tag).sqe.cdw10 / 65536) = none ∧
      s.tags.find? (fun y => y.2.st.uncommitted && !y.2.committed && y.2.q == q && y.2.sqe.cid == (s.tag tag).sqe.cdw10 / 65536) = none →
    ∃ t, exec (.abort tag) s = .next t ∧ Posts t tag ⟨0, 0⟩ ∧ (t.tag tag).dw0 = 1 ∧
      t.cmds.notAborted = satAdd 64 s.cmds.notAborted 1 ∧ t.cmds.aborted = s.cmds.aborted ∧ t.sqs = s.sqs ∧ t.cqs = s.cqs)
  -- ABORT: of an entry that waits in its window, and of a command that holds a tag
  ∧ (∀ (s : State) (tag : Nat) (q : QKey) (w : WinEnt), s.adm tag 0x08 = true →
    (s.tag tag).q.withQid ((s.tag tag).sqe.cdw10 % 65536) = q → s.outstanding (s.tag tag).q 0x08 ≤ 64 → q.isAdmin = false →
    (s.sq q).window.find? (fun w => w.e.cid == (s.tag tag).sqe.cdw10 / 65536) = some w →
    ∃ t, exec (.abort tag) s = .next t ∧ Posts t tag ⟨0, 0⟩ ∧ (t.tag tag).dw0 = 0 ∧
      (t.sq q).window = (s.sq q).window.filter (fun w => w.e.cid != (s.tag tag).sqe.cdw10 / 65536))
  ∧ (∀ (s : State) (tag k : Nat) (q : QKey) (x : Tag), s.adm tag 0x08 = true →
    (s.tag tag).q.withQid ((s.tag tag).sqe.cdw10 % 65536) = q → s.outstanding (s.tag tag).q 0x08 ≤ 64 → q.isAdmin = false →
    (s.sq q).window.find? (fun w => w.e.cid == (s.tag tag).sqe.cdw10 / 65536) = none → k ≠ tag → s.tag k = x →
    s.tags.find? (fun y => y.2.st.uncommitted && !y.2.committed && y.2.q == q && y.2.sqe.cid == (s.tag tag).sqe.cdw10 / 65536) = some (k, x) →
    ∃ t, exec (.abort tag) s = .next t ∧ Posts t tag ⟨0, 0⟩ ∧ (t.tag tag).dw0 = 0 ∧ Posts t k ⟨0, 7⟩ ∧
      t.cmds.aborted = satAdd 64 s.cmds.aborted 1)
  -- ASYNC_EVENT_REQUEST: with an event that waits, without one, and beyond the limit
  ∧ (∀ (s : State) (tag : Nat) (ev : AsyncEvent), s.adm tag 0x0C = true → s.outstanding (s.tag tag).q 0x0C ≤ 16 →
    (s.ctrl (s.owner (s.tag tag).q)).events.find? (fun e => match e.page with
      | none => true
      | some b => b == QKey.onPage (s.tag tag).q) = some ev →
    ∃ t, exec (.asyncEventRequest tag) s = .next t ∧ Posts t tag ⟨0, 0⟩ ∧ (t.tag tag).dw0 = ev.dword ∧
      (t.ctrl (s.owner (s.tag tag).q)).events = (s.ctrl (s.owner (s.tag tag).q)).events.erase ev)
  ∧ (∀ (s : State) (tag : Nat), s.adm tag 0x0C = true → s.outstanding (s.tag tag).q 0x0C ≤ 16 →
    (s.ctrl (s.owner (s.tag tag).q)).events = [] →
    ∃ t, exec (.asyncEventRequest tag) s = .next t ∧ (t.tag tag).st = .run ∧
      (t.ctrl (s.owner (s.tag tag).q)).aers = (s.ctrl (s.owner (s.tag tag).q)).aers ++ [tag])
  ∧ (∀ (s : State) (tag : Nat), s.adm tag 0x0C = true → 16 < s.outstanding (s.tag tag).q 0x0C →
    ∃ t, exec (.asyncEventRequest tag) s = .next t ∧ Posts t tag ⟨1, 5⟩ ∧ t.ctrls = s.ctrls)

/-- R114, R116, R133, R207, R208, R229, R391, R455: Set Features. -/
def Obligations.SetFeatures : Prop :=
  -- SET_FEATURES: a stored value, queue pairs, an identifier that is not supported, SV set
  (∀ (s : State) (tag fid : Nat) (e : Sqe), s.adm tag 0x09 = true → (s.tag tag).sqe = e → e.cdw10 % 256 = fid → featureIds.contains fid = true →
    [0x02, 0x05, 0x07, 0x0D, 0x0E, 0x1D, 0x1E].contains fid = false → Sqe.saves e = false →
    ∃ t, exec (.setFeatures tag) s = .next t ∧ Posts t tag ⟨0, 0⟩ ∧
      (t.ctrl (s.owner (s.tag tag).q)).features = Tbl.set none (s.ctrl (s.owner (s.tag tag).q)).features (featureKey e) (some e.cdw11))
  ∧ (∀ (s : State) (tag : Nat) (e : Sqe), s.adm tag 0x09 = true → (s.tag tag).sqe = e → e.cdw10 % 256 = 0x07 → Sqe.saves e = false →
    e.cdw11 % 65536 ≠ 65535 → e.cdw11 / 65536 ≠ 65535 →
    ∃ t, exec (.setFeatures tag) s = .next t ∧ Posts t tag ⟨0, 0⟩ ∧
      (t.tag tag).dw0 = min (e.cdw11 % 65536 + 1) (s.queueGrant (s.tag tag).q) - 1
        + (min (e.cdw11 / 65536 + 1) (s.queueGrant (s.tag tag).q) - 1) * 65536)
  ∧ (∀ (s : State) (tag : Nat), s.adm tag 0x09 = true → featureIds.contains ((s.tag tag).sqe.cdw10 % 256) = false →
    ∃ t, exec (.setFeatures tag) s = .next t ∧ Posts t tag ⟨0, 2⟩ ∧ t.ctrls = s.ctrls)
  -- SET_FEATURES_POWER_MANAGEMENT
  ∧ (∀ (s : State) (tag ps c : Nat), s.adm tag 0x09 = true → (s.tag tag).sqe.cdw10 % 256 = 0x02 → Sqe.saves (s.tag tag).sqe = false →
    (s.tag tag).sqe.cdw11 % 32 = ps → ps ≤ 4 → s.owner (s.tag tag).q = c →
    ∃ t, exec (.setFeaturesPowerManagement tag) s = .next t ∧ (t.ctrl c).ps = ps ∧
      (t.ctrl c).lastOperational = (if ps < 3 then ps else (s.ctrl c).lastOperational) ∧
      (c ≠ s.owner (.std 0 0 0) → c ≠ s.owner (.std 1 0 0) → Posts t tag ⟨0, 0⟩ ∧ t.mode = s.mode) ∧
      (c = s.owner (.std 0 0 0) ∨ c = s.owner (.std 1 0 0) → (t.tag tag).st = .run ∧ t.mode.psNext = t.psWanted))
  ∧ (∀ (s : State) (tag : Nat), s.adm tag 0x09 = true → (s.tag tag).sqe.cdw10 % 256 = 0x02 → Sqe.saves (s.tag tag).sqe = false →
    4 < (s.tag tag).sqe.cdw11 % 32 →
    ∃ t, exec (.setFeaturesPowerManagement tag) s = .next t ∧ Posts t tag ⟨0, 2⟩ ∧ t.ctrls = s.ctrls)
  -- SET_FEATURES_HOST_MEMORY_BUFFER
  ∧ (∀ (s : State) (tag : Nat) (e : Sqe), s.adm tag 0x09 = true → (s.tag tag).sqe = e → e.cdw10 % 256 = 0x0D → (s.tag tag).manager = true →
    Sqe.saves e = false → e.cdw11.testBit 0 = true → (s.qfunc (s.tag tag).q).1 = 0 → s.map.hmb0 = 0 → e.cdw12 ≠ 0 → e.cdw15 ≠ 0 →
    e.cdw15 ≤ 4096 → e.cdw13 % 16 = 0 →
    ∃ t, exec (.setFeaturesHostMemoryBuffer tag) s = .next t ∧ Posts t tag ⟨0, 0⟩ ∧ t.map.hmb0 = e.cdw12 ∧ t.map.hmb1 = s.map.hmb1)
  ∧ (∀ (s : State) (tag : Nat) (e : Sqe), s.adm tag 0x09 = true → (s.tag tag).sqe = e → e.cdw10 % 256 = 0x0D → (s.tag tag).manager = true →
    Sqe.saves e = false → e.cdw11.testBit 0 = false → (s.qfunc (s.tag tag).q).1 = 0 →
    ∃ t, exec (.setFeaturesHostMemoryBuffer tag) s = .next t ∧ t.map.hmb0 = 0 ∧ (∀ y ∈ t.map.pages, y.2.inHmb = false) ∧
      (s.map.fills.any (fun f => f.fromHmb) = false → Posts t tag ⟨0, 0⟩) ∧
      (s.map.fills.any (fun f => f.fromHmb) = true → (t.tag tag).st = .run))
  -- SET_FEATURES_TIMESTAMP
  ∧ (∀ (s : State) (tag ms : Nat), s.adm tag 0x09 = true → (s.tag tag).sqe.cdw10 % 256 = 0x0E → Sqe.saves (s.tag tag).sqe = false →
    s.dptrStatus (s.qfunc (s.tag tag).q).1 (s.qfunc (s.tag tag).q).2 8 (s.tag tag).sqe = none →
    ∃ t, exec (.setFeaturesTimestamp tag ms) s = .next t ∧ Posts t tag ⟨0, 0⟩ ∧ t.aon.tsBase = ms % 2 ^ 48 * 1000000 ∧
      t.aon.tsAt = s.aon.now ∧ t.aon.tsOrigin = 1)
  -- SET_FEATURES_FDP
  ∧ (∀ (s : State) (tag : Nat) (e : Sqe), s.adm tag 0x09 = true → (s.tag tag).sqe = e → e.cdw10 % 256 = 0x1D → e.cdw11 % 65536 = 1 →
    e.cdw12.testBit 0 = true → e.cdw12 / 256 % 256 ≤ 5 → s.nsList = [] →
    ∃ t, exec (.setFeaturesFdp tag) s = .next t ∧ Posts t tag ⟨0, 0⟩ ∧ t.pool.fdpEnabled = true ∧
      t.pool.fdpConfig = e.cdw12 / 256 % 256)
  ∧ (∀ (s : State) (tag : Nat) (e : Sqe), s.adm tag 0x09 = true → (s.tag tag).sqe = e → e.cdw10 % 256 = 0x1D → e.cdw11 % 65536 = 1 →
    e.cdw12.testBit 0 = true → e.cdw12 / 256 % 256 ≤ 5 → s.nsList ≠ [] →
    s.pool.fdpEnabled = false ∨ s.pool.fdpConfig ≠ e.cdw12 / 256 % 256 →
    ∃ t, exec (.setFeaturesFdp tag) s = .next t ∧ Posts t tag ⟨1, 0x0E⟩ ∧ t.pool.fdpEnabled = s.pool.fdpEnabled)

/-- R114, R116, R117, R209, R455: Get Features, the directives, Identify and log pages. -/
def Obligations.IdentifyAndLogPages : Prop :=
  -- GET_FEATURES
  (∀ (s : State) (tag fid : Nat) (e : Sqe), s.adm tag 0x0A = true → (s.tag tag).sqe = e → e.cdw10 % 256 = fid →
    featureIds.contains fid = true → fid ≠ 0x0E → fid ≠ 0x0D → e.cdw10 / 256 % 8 = 0 →
    ∃ t, exec (.getFeatures tag) s = .next t ∧ Posts t tag ⟨0, 0⟩ ∧ (t.tag tag).dw0 = s.featureNow tag e ∧ t.ctrls = s.ctrls)
  ∧ (∀ (s : State) (tag : Nat) (e : Sqe), s.adm tag 0x0A = true → (s.tag tag).sqe = e → e.cdw10 % 256 = 0x0E → e.cdw10 / 256 % 8 = 0 →
    s.dptrStatus (s.qfunc (s.tag tag).q).1 (s.qfunc (s.tag tag).q).2 8 e = none → s.passes tag = true →
    ∃ t, exec (.getFeatures tag) s = .next t ∧ Posts t tag ⟨0, 0⟩ ∧
      Out.hostBytes tag (leBytes 6 (s.timestamp / 1000000) ++ [BitVec.ofNat 8 (2 * s.aon.tsOrigin), 0#8]) ∈ t.out)
  -- DIRECTIVE_SEND, DIRECTIVE_RECEIVE
  ∧ (∀ (s : State) (tag : Nat) (e : Sqe), s.adm tag 0x19 = true → (s.tag tag).sqe = e → Sqe.dirType e = 0 → Sqe.dirOp e = 1 →
    e.cdw12 / 256 % 256 = 2 →
    ∃ t, exec (.directiveSend tag) s = .next t ∧ t.pool.fdpEnabled = s.pool.fdpEnabled ∧
      (e.cdw12.testBit 0 = s.pool.fdpEnabled → Posts t tag ⟨0, 0⟩) ∧ (e.cdw12.testBit 0 ≠ s.pool.fdpEnabled → Posts t tag ⟨0, 2⟩))
  ∧ (∀ (s : State) (tag : Nat) (e : Sqe), s.adm tag 0x1A = true → (s.tag tag).sqe = e → Sqe.dirType e = 0 → Sqe.dirOp e = 1 →
    s.dptrStatus (s.qfunc (s.tag tag).q).1 (s.qfunc (s.tag tag).q).2 (4 * (e.cdw10 + 1)) e = none → s.passes tag = true →
    ∃ t, exec (.directiveReceive tag) s = .next t ∧ Posts t tag ⟨0, 0⟩ ∧
      Out.hostBytes tag ((leBytes 32 5 ++ leBytes 32 (if s.pool.fdpEnabled then 5 else 1) ++ leBytes 4032 0).take (4 * (e.cdw10 + 1))) ∈ t.out)
  -- IDENTIFY
  ∧ (∀ (s u : State) (tag : Nat) (l : List (String × Nat)), s.adm tag 0x06 = true → u = s.boundary 0x6001 → (u.tag tag).st = .build →
    u.dptrStatus (u.qfunc (u.tag tag).q).1 (u.qfunc (u.tag tag).q).2 4096 (u.tag tag).sqe = none →
    u.identifyData (u.tag tag).q (u.tag tag).sqe = .ok l → u.passes tag = true →
    ∃ t, exec (.identify tag) s = .next t ∧ Posts t tag ⟨0, 0⟩ ∧ Out.hostData tag l ∈ t.out ∧ t.nss = s.nss ∧ t.ctrls = s.ctrls)
  ∧ (∀ (s u : State) (tag : Nat) (st : Status), s.adm tag 0x06 = true → u = s.boundary 0x6001 → (u.tag tag).st = .build →
    u.dptrStatus (u.qfunc (u.tag tag).q).1 (u.qfunc (u.tag tag).q).2 4096 (u.tag tag).sqe = none →
    u.identifyData (u.tag tag).q (u.tag tag).sqe = .error st →
    ∃ t, exec (.identify tag) s = .next t ∧ Posts t tag st ∧ t.nss = s.nss ∧ t.ctrls = s.ctrls)
  -- GET_LOG_PAGE: the list of frozen queues, and a page that the queue may not read
  ∧ (∀ (s : State) (tag : Nat) (e : Sqe), s.adm tag 0x02 = true → (s.tag tag).sqe = e → e.cdw10 % 256 = 0xC0 →
    (e.cdw12 + e.cdw13 * 2 ^ 32) % 4 = 0 → s.passes tag = true →
    s.dptrStatus (s.qfunc (s.tag tag).q).1 (s.qfunc (s.tag tag).q).2 (4 * (e.cdw10 / 65536 + e.cdw11 % 65536 * 65536 + 1)) e = none →
    ∃ t, exec (.getLogPage tag) s = .next t ∧ Posts t tag ⟨0, 0⟩ ∧ t.ctrls = s.ctrls ∧
      Out.hostBytes tag (((leBytes 4 (s.frozenItems (s.tag tag).q).length ++
        ((s.frozenItems (s.tag tag).q).map (fun n => leBytes 4 n)).flatten).drop (e.cdw12 + e.cdw13 * 2 ^ 32)).take
          (4 * (e.cdw10 / 65536 + e.cdw11 % 65536 * 65536 + 1))) ∈ t.out)
  ∧ (∀ (s : State) (tag : Nat), s.adm tag 0x02 = true → logAll.contains ((s.tag tag).sqe.cdw10 % 256) = false →
    (s.tag tag).manager = false ∨ logManager.contains ((s.tag tag).sqe.cdw10 % 256) = false →
    ∃ t, exec (.getLogPage tag) s = .next t ∧ Posts t tag ⟨1, 9⟩ ∧ t.out = s.out ∧ t.ctrls = s.ctrls)

/-- R49, R137, R143, R158: a slice command sends one commit of the slice's record with its action to the store and waits; a record
that another session's shadow holds refuses it; the flush of the dirty-page log. -/
def Obligations.SliceCommands : Prop :=
  -- SLICE_RESET, SLICE_UNBIND, SLICE_DESTROY: no field, one action
  (∀ (s u : State) (tag n op action : Nat) (x : Instr), n < 4096 → s.adm tag op = true →
    (op = 0xC2 ∧ action = 4 ∧ x = .sliceReset tag ∧ n = (if (s.tag tag).manager then Sqe.slice (s.tag tag).sqe else s.owner (s.tag tag).q)) ∨
    (op = 0xC1 ∧ Sqe.unbind (s.tag tag).sqe = true ∧ action = 3 ∧ x = .sliceUnbind tag ∧ n = Sqe.slice (s.tag tag).sqe) ∨
    (op = 0xC3 ∧ action = 5 ∧ x = .sliceDestroy tag ∧ n = Sqe.slice (s.tag tag).sqe) →
    s.shadow (0x3000 + n) = none → u = s.shadowWrite (s.sessionOf (.admin tag)) (0x3000 + n) [(2, .num action)] →
    (u.commitReason (s.roleOf (.admin tag)) (0x3000 + n) (u.committedFields (0x3000 + n) [(2, .num action)]) = none →
      u.storeRefuses (u.recordUnits (0x3000 + n)) = none →
      ∃ (t : State) (o : NorOp), exec x s = .next t ∧ (t.tag tag).st = .run ∧ t.dict.appends = s.dict.appends ++ [o] ∧
        o.index = 0x3000 + n ∧ o.commit = true ∧ o.action = action ∧ o.path = some (.admin tag) ∧ t.slices = s.slices) ∧
    (∀ k st, u.commitReason (s.roleOf (.admin tag)) (0x3000 + n) (u.committedFields (0x3000 + n) [(2, .num action)]) = some (k, st) →
      ∃ t, exec x s = .next t ∧ Posts t tag st ∧ t.dict.appends = s.dict.appends ∧ t.slices = s.slices))
  -- SLICE_CREATE, SLICE_BIND, DIRTY_LOG_CONTROL: the fields of the packed record
  ∧ (∀ (s u : State) (tag n op action : Nat) (x : Instr) (data : List Byte) (sel : Nat → Bool) (fs : List (Nat × Val)),
    s.adm tag op = true → n = Sqe.slice (s.tag tag).sqe →
    (op = 0xC0 ∧ action = 1 ∧ Sqe.anySlice (s.tag tag).sqe = false ∧ x = .sliceCreate tag data ∧ sel = (fun _ => true)) ∨
    (op = 0xC1 ∧ Sqe.unbind (s.tag tag).sqe = false ∧ action = 2 ∧ x = .sliceBind tag data ∧ sel = (fun _ => true)) ∨
    (op = 0xC4 ∧ action = 0 ∧ x = .dirtyLogControl tag data ∧ sel = (fun k => decide (0x20 ≤ k) && decide (k ≤ 0x24))) →
    s.dptrStatus (s.qfunc (s.tag tag).q).1 (s.qfunc (s.tag tag).q).2 data.length (s.tag tag).sqe = none →
    s.slicePacked data sel = .ok fs → s.shadow (0x3000 + n) = none →
    u = s.shadowWrite (s.sessionOf (.admin tag)) (0x3000 + n) (fs ++ [(2, .num action)]) →
    u.commitReason (s.roleOf (.admin tag)) (0x3000 + n) (u.committedFields (0x3000 + n) (fs ++ [(2, .num action)])) = none →
    u.storeRefuses (u.recordUnits (0x3000 + n)) = none →
    ∃ (t : State) (o : NorOp), exec x s = .next t ∧ (t.tag tag).st = .run ∧ t.dict.appends = s.dict.appends ++ [o] ∧
      o.index = 0x3000 + n ∧ o.commit = true ∧ o.path = some (.admin tag) ∧
      (∀ y ∈ fs, fieldKept (0x3000 + n) y = true → y ∈ o.fields) ∧ t.slices = s.slices)
  -- a record of another session's shadow
  ∧ (∀ (s : State) (tag : Nat), s.adm tag 0xC3 = true →
    s.shadowTaken (s.sessionOf (.admin tag)) (0x3000 + Sqe.slice (s.tag tag).sqe) = true →
    ∃ t, exec (.sliceDestroy tag) s = .next t ∧ Posts t tag ⟨7, 0x87⟩ ∧ t.dict = s.dict)
  -- DIRTY_LOG_FLUSH
  ∧ (∀ (s : State) (tag n : Nat), s.adm tag 0xC5 = true → n = Sqe.slice (s.tag tag).sqe → s.cfgB (0x3000 + n) 0x20 = true →
    (s.slice n).st = .bound →
    ∃ t, exec (.dirtyLogFlush tag) s = .next t ∧ Posts t tag ⟨0, 0⟩ ∧ (t.tag tag).dw0 = ((s.slice n).dlogMark + 1) % 2 ^ 32 ∧
      (t.slice n).dlogActiveB = !(s.slice n).dlogActiveB ∧ (t.slice n).dlogMark = ((s.slice n).dlogMark + 1) % 2 ^ 32 ∧
      (∀ d ∈ t.dirty, d.slice ≠ n))
  ∧ (∀ (s : State) (tag n : Nat), s.adm tag 0xC5 = true → n = Sqe.slice (s.tag tag).sqe → s.cfgB (0x3000 + n) 0x20 = false →
    ∃ t, exec (.dirtyLogFlush tag) s = .next t ∧ Posts t tag ⟨7, 0x94⟩ ∧ t.slices = s.slices ∧ t.dirty = s.dirty)

/-- R137, R141, R142, R144, R154 to R157: what an action, the end of a generation hold, of a reset and of a destroy do to a slice, and
the posts of the dirty-page log. -/
def Obligations.SliceLife : Prop :=
  -- SLICE_ACTION_APPLY: create, bind, reset, destroy of a Created slice, and an action that no longer fits
  (∀ (s : State) (n k : Nat) (c : PendingCommit), s.actionOf n = some c → (s.slice n).acting = 0 → c.action = 1 →
    (s.slice n).st = .absent → s.keySlotFree k = true →
    ∃ u : State, exec (.sliceActionApply n k) s = .next (u.actionEnd n) ∧ (u.slice n).st = .created ∧
      (u.slice n).gen = ((s.slice n).gen + 1) % 65536 ∧ (u.slice n).keySlot = k)
  ∧ (∀ (s : State) (n k : Nat) (c : PendingCommit), s.actionOf n = some c → (s.slice n).acting = 0 → c.action = 2 →
    (s.slice n).st = .created →
    ((((s.forceFields (0x3000 + n) (c.fields.filter (fieldKept (0x3000 + n)))).bindRules n) ++
      ((s.forceFields (0x3000 + n) (c.fields.filter (fieldKept (0x3000 + n)))).queueRules n true)).all (fun x => x.1)) = true →
    ∃ u t : State, exec (.sliceActionApply n k) s = .next t ∧ t = (((u.actionEnd n).setupAdmin n).pageReset n).ltrAll ∧
      (u.slice n).st = .bound ∧ (u.slice n).fenceOpen = true ∧ (t.sq (.page n 0)).live = true ∧ (t.cq (.page n 0)).live = true)
  ∧ (∀ (s : State) (n k : Nat) (c : PendingCommit), s.actionOf n = some c → (s.slice n).acting = 0 → c.action = 4 →
    (s.slice n).st = .bound →
    ∃ t, exec (.sliceActionApply n k) s = .next t ∧ (t.slice n).st = .resetting ∧ (t.slice n).fenceOpen = false ∧
      (t.slice n).acting = 4)
  ∧ (∀ (s : State) (n k : Nat) (c : PendingCommit), s.actionOf n = some c → (s.slice n).acting = 0 → c.action = 5 →
    (s.slice n).st = .created → s.sliceHasNs n = false →
    ∃ t, exec (.sliceActionApply n k) s = .next t ∧ t.slice n = { s.slice n with st := .destroying, acting := 5 } ∧ t.dict = s.dict)
  ∧ (∀ (s : State) (n k : Nat) (c : PendingCommit), s.actionOf n = some c → (s.slice n).acting = 0 → s.actionAllowed n c.action = false →
    ∃ t, exec (.sliceActionApply n k) s = .next t ∧ t.slices = s.slices ∧
      (∀ x ∈ t.dict.commits, x.1 = 0x3000 + n → x.2.seq = c.seq → x.2.action = 0))
  -- GENERATION_HOLD_RELEASE
  ∧ (∀ (s : State) (n : Nat), (s.slice n).genHeld = true → s.genBlocked n = false →
    ∃ t, exec (.generationHoldRelease n) s = .next t ∧ (t.slice n).gen = ((s.slice n).gen + 1) % 65536 ∧
      (t.slice n).genHeld = false ∧ (t.slice n).st = (s.slice n).st ∧ (t.sq (.page n 0)).live = true ∧ (t.slice n).drops = 0)
  -- RESET_SEQUENCE_END: of a reset without a slice command, and of one
  ∧ (∀ (s : State) (n : Nat), (s.slice n).st = .resetting → (s.slice n).genHeld = false → (s.slice n).acting = 0 →
    ∃ t, exec (.resetSequenceEnd n) s = .next t ∧ t.slice n = (s.slice n).afterReset ∧
      (t.slice n).resets = satAdd 32 (s.slice n).resets 1 ∧ (t.slice n).resetTags = [] ∧
      (t.slice n).st = (if (s.slice n).destroyPending then .destroying else if (s.slice n).unbindPending then .created else .bound))
  ∧ (∀ (s : State) (n : Nat), (s.slice n).st = .resetting → (s.slice n).genHeld = false → (s.slice n).acting = 3 →
    (s.slice n).unbindPending = true → (s.slice n).destroyPending = false →
    ∃ u : State, exec (.resetSequenceEnd n) s = .next (u.actionEnd n).ltrAll ∧ (u.slice n).st = .created ∧
      (u.slice n).fenceOpen = false ∧ u.sq (.page n 0) = {})
  -- SLICE_DESTROY_COMPLETE
  ∧ (∀ (s : State) (n : Nat), (s.slice n).st = .destroying → s.tagsOfSlice n = [] →
    ∃ t, exec (.sliceDestroyComplete n) s = .next t ∧ t.slice n = { gen := (s.slice n).gen } ∧ t.ctrl n = {} ∧
      (∀ x ∈ t.dict.stored, x.1 / 256 ≠ 0x3000 + n) ∧ (∀ x ∈ t.dict.inForce, x.1 / 256 ≠ 0x3000 + n))
  -- DIRTY_LOG_POST_TIMER, DIRTY_LOG_POST_DONE
  ∧ (∀ (s : State) (n w : Nat) (d : DirtyWord), s.dirtyWord n w false = some d → s.elapsed d.since (100 * usec) = true →
    ∃ t, exec (.dirtyLogPostTimer n w) s = .next t ∧ (∀ e ∈ t.dirty, e.slice = n → e.word = w → e.posting = true) ∧
      t.out = s.out ++ [Out.dirtyPost (s.slPort n) (s.dlogBase n + 64 + 8 * w) d.bits])
  ∧ (∀ (s : State) (n w : Nat) (d : DirtyWord), s.dirtyWord n w true = some d →
    ∃ t, exec (.dirtyLogPostDone n w) s = .next t ∧ (∀ e ∈ t.dirty, e.slice = n → e.word = w → e.posting = false) ∧
      (∀ e ∈ s.dirty, e.slice ≠ n ∨ e.word ≠ w → e ∈ t.dirty) ∧ t.slices = s.slices)

/-- R36 to R41, R58, R59, R62: a request that a path carries is performed under the path's role and its answer goes back on the path;
a repeated request of a session gets its stored response; the two admin commands and the frames they refuse. -/
def Obligations.DictionaryInBand : Prop :=
  -- READ_ENTRY, WRITE_ENTRY, READ_WHOLE_RECORD, WRITE_WHOLE_RECORD, NEXT_INDEX and the rows that write one entry
  (∀ (s u : State) (path : DPath) (f : DFrame) (x : Instr) (o : Option Ans),
    (x = .readEntry path f ∧ f.op = 1) ∨ (x = .writeEntry path f ∧ f.op = 2) ∨ (x = .readWholeRecord path f ∧ f.op = 3) ∨
    (x = .writeWholeRecord path f ∧ f.op = 4) ∨ (x = .nextIndex path f ∧ f.op = 5) ∨
    (∃ i, x = .commitIndex path i ∧ f = writeFrame 0x1F00 1 3 2 i) ∨ (∃ i, x = .discardIndex path i ∧ f = writeFrame 0x1F00 2 3 2 i) ∨
    (∃ i, x = .restoreIndex path i ∧ f = writeFrame 0x1F00 5 3 2 i) ∨
    (∃ b, x = .maintRequest path b ∧ f = writeFrame 0x8000 5 1 1 (boolNat b)) ∨
    (∃ b, x = .writeProtect path b ∧ f = writeFrame 0x8000 4 1 1 (boolNat b)) ∨
    (∃ v, x = .ackSeq path v ∧ f = writeFrame 0xA000 3 5 8 v) ∨ (∃ v, x = .timeNs path v ∧ f = writeFrame 0xA001 1 5 8 v) ∨
    (∃ v, x = .minSvn path v ∧ f = writeFrame 0x9100 7 2 1 v) →
    s.pathOpen path f = true → s.roleOf path ≠ .nobody → s.repeated path (s.named path f).reqId = none →
    (s.arrive path).perform (s.roleOf path) path (s.named path f) = (u, o) →
    (∀ a, o = some a → u.pathLive path (s.named path f).reqId = true →
      ∃ t, exec x s = .next t ∧ Answered t path (s.named path f) a) ∧
    (o = none → ∃ t, exec x s = .next t ∧ t.dict = u.dict ∧ ∀ k, path = .admin k → (t.tag k).st = .run ∧ (t.tag k).built = true))
  -- a path without a role: no answer
  ∧ (∀ (s : State) (path : DPath) (f : DFrame), s.pathOpen path f = true → f.op = 1 → s.roleOf path = .nobody →
    ∃ t, exec (.readEntry path f) s = .next t ∧ t.ras.noRoleDrops = s.ras.noRoleDrops + 1 ∧ t.out = s.out ∧ t.dict = s.dict)
  -- a repeated request of a session gets its stored response
  ∧ (∀ (s : State) (src k : Nat) (f : DFrame) (frame : List Byte), s.pathOpen (.bdp src (some k)) f = true → f.op = 2 →
    s.roleOf (.bdp src (some k)) ≠ .nobody → s.repeated (.bdp src (some k)) f.reqId = some frame →
    ∃ t, exec (.writeEntry (.bdp src (some k)) f) s = .next t ∧ Out.dictResponse (.bdp src (some k)) frame ∈ t.out ∧ t.dict = s.dict)
  -- DICTIONARY_READ, DICTIONARY_WRITE
  ∧ (∀ (s u : State) (tag : Nat) (f : DFrame) (a : Ans), s.adm tag 0xC8 = true → s.readFrame tag = f → (s.tag tag).manager = true →
    f.op = 1 ∨ f.op = 3 ∨ f.op = 5 → f.length ≤ 4096 → s.perform .manager (.admin tag) f = (u, some a) →
    u.pathLive (.admin tag) f.reqId = true →
    ∃ t, exec (.dictionaryRead tag) s = .next t ∧ Answered t (.admin tag) f a)
  ∧ (∀ (s u : State) (tag : Nat) (frame : List Byte) (f : DFrame) (a : Ans), s.adm tag 0xC9 = true → (s.tag tag).manager = true →
    parseFrame false 4096 frame = .ok f → f.op = 2 ∨ f.op = 4 →
    s.perform .manager (.admin tag) { f with reqId := (s.tag tag).order } = (u, some a) → u.pathLive (.admin tag) (s.tag tag).order = true →
    ∃ t, exec (.dictionaryWrite tag frame) s = .next t ∧ Answered t (.admin tag) { f with reqId := (s.tag tag).order } a)
  ∧ (∀ (s : State) (tag : Nat) (frame : List Byte), s.adm tag 0xC9 = true → (s.tag tag).manager = false → s.cfgB 0x1100 1 = false →
    ∃ t, exec (.dictionaryWrite tag frame) s = .next t ∧ Posts t tag ⟨0, 1⟩ ∧ t.dict = s.dict)

/-- R38, R60 to R62, R410, R413, R414: the mailbox, the message of MCTP type 7Eh, the datagrams of the field network with their limits,
and the SPDM relay. -/
def Obligations.DictionaryOutOfBand : Prop :=
  -- DMB_GO
  (∀ (s u : State) (q : Nat) (f : DFrame) (a : Ans), s.pathOpen (.mailbox q) (writeFrame 0 0 0 0 0) = true →
    parseFrame false 4096 s.mailboxFrame = .ok f → (s.arrive (.mailbox q)).perform .manager (.mailbox q) f = (u, some a) →
    u.regs.dmbBusy = true →
    ∃ t, exec (.dmbGo q) s = .next t ∧ Answered t (.mailbox q) f a)
  ∧ (∀ (s : State) (q req : Nat), s.pathOpen (.mailbox q) (writeFrame 0 0 0 0 0) = true →
    parseFrame false 4096 s.mailboxFrame = .error req →
    ∃ t, exec (.dmbGo q) s = .next t ∧ t.regs.dmbDone = true ∧ t.regs.dmbBusy = false ∧ t.regs.dmbResult = 13 ∧ t.dict = s.dict)
  -- DICTIONARY_FRAME_MESSAGE
  ∧ (∀ (s u : State) (m : MPath) (k : Option Nat) (frame : List Byte) (f : DFrame) (a : Ans),
    s.pathOpen (.mctp m k) (writeFrame 0 0 0 0 0) = true → parseFrame false 4096 frame = .ok f → s.roleOf (.mctp m k) ≠ .nobody →
    (s.arrive (.mctp m k)).perform (s.roleOf (.mctp m k)) (.mctp m k) f = (u, some a) → u.pathLive (.mctp m k) f.reqId = true →
    ∃ t, exec (.dictionaryFrameMessage m k frame) s = .next t ∧ Out.dictResponse (.mctp m k) (respFrame f a) ∈ t.out)
  -- BDP_DATAGRAM: served, to another port, and beyond the second's limits
  ∧ (∀ (s u : State) (src : Nat) (k : Option Nat) (bytes : List Byte) (f : DFrame) (a : Ans), s.pathUp .fieldNet = true → s.cfgB 0x1100 3 = true →
    (s.bdpAdmit src).2 = true → k.all (fun k => s.sessionOn .fieldNet k true) = true → parseFrame true 1024 bytes = .ok f → f.op ≠ 0x10 →
    (s.bdpAdmit src).1.roleOf (.bdp src k) ≠ .nobody → (s.bdpAdmit src).1.repeated (.bdp src k) f.reqId = none →
    ((s.bdpAdmit src).1.arrive (.bdp src k)).perform ((s.bdpAdmit src).1.roleOf (.bdp src k)) (.bdp src k) f = (u, some a) →
    u.pathLive (.bdp src k) f.reqId = true →
    ∃ t, exec (.bdpDatagram src (s.cfg 0x1100 2) k bytes) s = .next t ∧ Out.dictResponse (.bdp src k) (respFrame f a) ∈ t.out)
  ∧ (∀ (s : State) (src port : Nat) (k : Option Nat) (bytes : List Byte), s.pathUp .fieldNet = true →
    port ≠ s.cfg 0x1100 2 ∨ s.cfgB 0x1100 3 = false → exec (.bdpDatagram src port k bytes) s = .next s)
  ∧ (∀ (s : State) (src : Nat) (k : Option Nat) (bytes : List Byte), s.pathUp .fieldNet = true → s.cfgB 0x1100 3 = true →
    s.elapsed s.mgmt.bdpSecond 1000000000 = false → 500 ≤ Tbl.get 0 s.mgmt.bdpBy src ∨ 2000 ≤ s.mgmt.bdpTotal →
    ∃ t, exec (.bdpDatagram src (s.cfg 0x1100 2) k bytes) s = .next t ∧ t.mgmt.bdpDrops = satAdd 32 s.mgmt.bdpDrops 1 ∧
      t.out = s.out ∧ t.dict = s.dict)
  -- SPDM_RELAY
  ∧ (∀ (s : State) (src : Nat) (f : DFrame), s.pathOpen (.bdp src none) f = true → f.op = 0x10 →
    ((f.value.getD 1 0#8).toNat = 0x84 → exec (.spdmRelay src f) s = exec (.getVersion .fieldNet) s) ∧
    ((f.value.getD 1 0#8).toNat = 0x81 → exec (.spdmRelay src f) s = exec (.getDigests .fieldNet) s) ∧
    ((f.value.getD 1 0#8).toNat = 0xE4 → exec (.spdmRelay src f) s = exec (.keyExchange .fieldNet src) s) ∧
    ((f.value.getD 1 0#8).toNat = 0xFF → ∃ t, exec (.spdmRelay src f) s = .next t ∧ t.out ≠ s.out ∧ t.mgmt = s.mgmt))

/-- R36, R37, R40, R41, R45, R47: what a read of an entry, of a whole record and of the next index answers, with its Pending mark and
its errors. -/
def Obligations.DictionaryReads : Prop :=
  -- a read of one entry
  (∀ (s : State) (r : Role) (p : DPath) (f : DFrame) (e : DEnt), f.op = 1 → s.modeRefuses false f.index f.sub (fromLe f.value) (s.sessionOf p) = false →
    s.indexRefused r f.index = none → f.sub ≠ 0 → dictEnt f.index f.sub = some e →
    (e.acc.reads r = false → s.perform r p f = (s, some { result := 3 })) ∧
    (e.acc.reads r = true → e.ty ≠ .domain →
      s.perform r p f = (s, some { ty := e.ty.code, value := e.encode (s.readVal (s.sessionOf p) f.index e).1
                                   pending := (s.readVal (s.sessionOf p) f.index e).2 })))
  -- what it reads of a Staged entry that the block does not report itself
  ∧ (∀ (s : State) (sess i : Nat) (e : DEnt), i ≠ 0x1F00 → ¬(0x7000 ≤ i ∧ i ≤ 0x701F ∧ e.sub = 0x12) → s.statusVal i e.sub = none →
    e.cls = .staged →
    (∀ c v, s.pendingCommit i = some c → fieldIn c.fields e.sub = some v → s.readVal sess i e = (v, true)) ∧
    (∀ sh v, s.pendingCommit i = none → s.shadow i = some sh → fieldIn sh.fields e.sub = some v → s.readVal sess i e = (v, true)) ∧
    (s.pendingCommit i = none → s.shadow i = none → s.readVal sess i e = (s.cfgVal i e.sub, false)))
  -- an index that does not exist, or that the role does not reach, and the next index
  ∧ (∀ (s : State) (r : Role) (p : DPath) (f : DFrame), f.op = 1 → s.modeRefuses false f.index f.sub (fromLe f.value) (s.sessionOf p) = false →
    s.indexClosed f.index = false → dictExists f.index = false ∨ s.roleReaches r f.index = false →
    s.perform r p f = (s, some { result := 1 }))
  ∧ (∀ (s : State) (r : Role) (p : DPath) (f : DFrame) (a : Ans), f.op = 5 → s.modeRefuses false f.index f.sub (fromLe f.value) (s.sessionOf p) = false →
    s.perform r p f = (s, some a) → a.result = 0 →
    f.index < a.index ∧ dictExists a.index = true ∧ s.roleReaches r a.index = true ∧ (dictRec a.index).any (fun e => e.acc.reads r) = true ∧
      ∀ j, f.index < j → j < a.index → dictExists j = true → s.roleReaches r j = true → s.indexClosed j = false →
        (dictRec j).any (fun e => e.acc.reads r) = false)
  -- a read of a whole record
  ∧ (∀ (s : State) (r : Role) (p : DPath) (f : DFrame), f.op = 3 → s.modeRefuses false f.index f.sub (fromLe f.value) (s.sessionOf p) = false →
    s.indexRefused r f.index = none → f.offset ≤ (s.packRecord (s.sessionOf p) r f.index).1.length →
    s.perform r p f = (s, some { ty := 10, value := readSlice p f (s.packRecord (s.sessionOf p) r f.index).1
                                 pending := (s.packRecord (s.sessionOf p) r f.index).2 }))

/-- R36, R43 to R45, R48 to R51, R58: what each changing request does when it is performed: a Staged field into the shadow, a
persistent one into the log with a token, a commit, a discard, a restore, and the entries with their own rules. -/
def Obligations.DictionaryWrites : Prop :=
  -- a write of a Staged entry, and of one that another session's shadow holds
  (∀ (s : State) (r : Role) (p : DPath) (f : DFrame) (e : DEnt) (v : Val), f.op = 2 →
    s.modeRefuses true f.index f.sub (fromLe f.value) (s.sessionOf p) = false → s.indexRefused r f.index = none → f.sub ≠ 0 →
    f.index ≠ 0x1F00 → (f.index == 0x9001 && !DPath.inSpdm p) = false → dictEnt f.index f.sub = some e → e.acc.writes r = true → f.ty = e.ty.code → e.ty ≠ .domain →
    e.decode f.value = some v → s.valueOk f.index e v = true → e.cls = .staged → actsAtOnce f.index e.sub = false →
    (s.shadowTaken (s.sessionOf p) f.index = true → s.perform r p f = (s, some { result := 7 })) ∧
    (s.shadowTaken (s.sessionOf p) f.index = false → ∃ (u : State) (sh : Shadow), s.perform r p f = (u, some {}) ∧
      u.shadow f.index = some sh ∧ sh.owner = s.sessionOf p ∧ sh.touched = s.aon.now ∧ fieldIn sh.fields e.sub = some v ∧
      u.dict.inForce = s.dict.inForce ∧ u.dict.stored = s.dict.stored))
  -- a write of a persistent entry that is not Staged
  ∧ (∀ (s : State) (r : Role) (p : DPath) (f : DFrame) (e : DEnt) (v : Val), f.op = 2 →
    s.modeRefuses true f.index f.sub (fromLe f.value) (s.sessionOf p) = false → s.indexRefused r f.index = none → f.sub ≠ 0 →
    f.index ≠ 0x1F00 → (f.index == 0x9001 && !DPath.inSpdm p) = false → dictEnt f.index f.sub = some e → e.acc.writes r = true → f.ty = e.ty.code → e.ty ≠ .domain →
    e.decode f.value = some v → s.valueOk f.index e v = true → e.cls ≠ .staged → e.vol = false → actsAtOnce f.index e.sub = false →
    (s.dict.appendFailed = true → s.perform r p f = (s, some { result := 10 })) ∧
    (∀ k, s.storeRefuses (logRecordUnits f.value.length) = some k → s.perform r p f = (s, some { result := k })) ∧
    (s.storeRefuses (logRecordUnits f.value.length) = none → ∃ (u : State) (o : NorOp), s.perform r p f = (u, none) ∧
      u.dict.appends = s.dict.appends ++ [o] ∧ o.fields = [(e.sub, v)] ∧ o.path = some p ∧ o.commit = false ∧
      u.dict.tokens = s.dict.tokens - 1 ∧ u.dict.storeSeq = s.dict.storeSeq + 1 ∧ u.dict.inForce = s.dict.inForce))
  -- a write of a whole record whose fields are Staged
  ∧ (∀ (s : State) (r : Role) (p : DPath) (f : DFrame) (l : List (DEnt × Val)), f.op = 4 →
    s.modeRefuses true f.index f.sub (fromLe f.value) (s.sessionOf p) = false → s.indexRefused r f.index = none → f.index ≠ 0x1F00 →
    (f.index == 0x9001 && !DPath.inSpdm p) = false → (dictRec f.index).any (fun e => e.acc.writes r) = true → s.shadowTaken (s.sessionOf p) f.index = false →
    s.stageOf f.index 0xFF = none → f.offset = 0 → f.final = true → s.packedFields r f.index f.value = .ok l →
    (∀ x ∈ l, x.1.cls = .staged ∧ actsAtOnce f.index x.1.sub = false) → l ≠ [] →
    ∃ (u : State) (sh : Shadow), s.perform r p f = (u, some {}) ∧ u.shadow f.index = some sh ∧ sh.owner = s.sessionOf p ∧
      (∀ x ∈ l, (x.1.sub, x.2) ∈ sh.fields) ∧ u.dict.inForce = s.dict.inForce)
  -- a commit: of no shadow, rejected by a rule, and sent to the store
  ∧ (∀ (s w : State) (r : Role) (p : DPath) (req i : Nat), i < 65536 → s.modeRefuses true 0x1F00 1 i (s.sessionOf p) = false →
    s.indexRefused r 0x1F00 = none → s.indexRefused r i = none → r = .manager ∨ r = .maker → (i == 0x9001 && !DPath.inSpdm p) = false →
    dictStaged i = true → w = s.setNamed (s.sessionOf p) i →
    (s.shadow i = none → ∃ u : State, s.perform r p { writeFrame 0x1F00 1 3 2 i with reqId := req } = (u, some {}) ∧
      (Tbl.get {} u.dict.sess (s.sessionOf p)).result = 1 ∧ (Tbl.get {} u.dict.sess (s.sessionOf p)).index = i ∧ u.dict.appends = s.dict.appends) ∧
    (∀ sh k st, s.shadow i = some sh → sh.owner = s.sessionOf p → w.commitReason r i (w.committedFields i sh.fields) = some (k, st) →
      ∃ u : State, s.perform r p { writeFrame 0x1F00 1 3 2 i with reqId := req } = (u, some { result := 8 }) ∧
        (Tbl.get {} u.dict.sess (s.sessionOf p)).result = 2 ∧ (Tbl.get {} u.dict.sess (s.sessionOf p)).reason = k ∧ u.shadow i = some sh) ∧
    (∀ sh, s.shadow i = some sh → sh.owner = s.sessionOf p → w.commitReason r i (w.committedFields i sh.fields) = none →
      w.storeRefuses (w.recordUnits i) = none →
      ∃ (u : State) (o : NorOp), s.perform r p { writeFrame 0x1F00 1 3 2 i with reqId := req } = (u, none) ∧
        u.dict.appends = s.dict.appends ++ [o] ∧ o.index = i ∧ o.commit = true ∧ o.fields = w.committedFields i sh.fields ∧
        o.path = some p ∧ o.reqId = req ∧ u.dict.inForce = s.dict.inForce))
  -- a discard
  ∧ (∀ (s : State) (r : Role) (p : DPath) (req i : Nat), i < 65536 → s.modeRefuses true 0x1F00 2 i (s.sessionOf p) = false →
    s.indexRefused r 0x1F00 = none → s.indexRefused r i = none → r = .manager ∨ r = .maker → dictStaged i = true →
    ∃ u : State, s.perform r p { writeFrame 0x1F00 2 3 2 i with reqId := req } = (u, some {}) ∧ u.shadow i = none ∧
      (∀ j, j ≠ i → u.shadow j = s.shadow j) ∧ u.dict.inForce = s.dict.inForce)
  -- a restore of the whole dictionary
  ∧ (∀ (s : State) (r : Role) (p : DPath) (req : Nat), r = .manager ∨ r = .maker → s.indexRefused r 0x1F00 = none →
    (s.mode.base = .service → s.perform r p { writeFrame 0x1F00 5 3 2 0xFFFF with reqId := req } = (s, some { result := 6 })) ∧
    (s.mode.base = .maintenance → s.storeRefuses (logRecordUnits (fieldsSize (s.restoreAll r))) = none →
      ∃ (u : State) (o : NorOp), s.perform r p { writeFrame 0x1F00 5 3 2 0xFFFF with reqId := req } = (u, none) ∧
        u.dict.appends = s.dict.appends ++ [o] ∧ o.fields = s.restoreAll r))
  -- ACK_SEQ, TIME_NS, MIN_SVN, MAINT_REQUEST
  ∧ (∀ (s : State) (r : Role) (p : DPath) (req v : Nat), r = .manager ∨ r = .maker → s.inService = true → s.lifecycle ≠ 5 → v < 2 ^ 64 →
    (v ≤ s.ras.lastSeq → ∃ u : State, s.perform r p { writeFrame 0xA000 3 5 8 v with reqId := req } = (u, some {}) ∧ u.ras.ack = v) ∧
    (s.ras.lastSeq < v → s.perform r p { writeFrame 0xA000 3 5 8 v with reqId := req } = (s, some { result := 5 })) ∧
    (∃ u : State, s.perform r p { writeFrame 0xA001 1 5 8 v with reqId := req } = (u, some {}) ∧ u.aon.tsBase = v ∧ u.aon.tsAt = s.aon.now) ∧
    (∀ x, s.imageNow = some x → v ≤ 255 → s.sec.minSvn ≤ v → v ≤ x.svn →
      ∃ u : State, s.perform r p { writeFrame 0x9100 7 2 1 v with reqId := req } = (u, some {}) ∧ u.sec.minSvn = v) ∧
    (v < s.sec.minSvn → v ≤ 255 → s.perform r p { writeFrame 0x9100 7 2 1 v with reqId := req } = (s, some { result := 5 })) ∧
    (s.mode.base = .service →
      ∃ u : State, s.perform r p { writeFrame 0x8000 5 1 1 1 with reqId := req } = (u, none) ∧ u.mode.maintReq = true ∧
        (p, req) ∈ u.mode.maintWaiters))

/-- R36, R43, R44, R48, R49, R53 to R55: the boundary and the response timeout of a commit, the timeouts of a shadow and of a staging
buffer, a log record that becomes durable or fails, the write budget, and compaction. -/
def Obligations.DictionaryStore : Prop :=
  -- COMMIT_BOUNDARY
  (∀ (s : State) (i : Nat) (c : PendingCommit), s.commitsOf i = [c] → c.action = 0 →
    ∃ t, exec (.commitBoundary i) s = .next t ∧ t.commitsOf i = [] ∧
      t.dict.inForce = (s.forceFields i (c.fields.filter (fieldKept i))).dict.inForce ∧
      (Tbl.get {} t.dict.sess c.session).result = 1 ∧ t.dict.stored = s.dict.stored)
  -- COMMIT_RESPONSE_TIMEOUT
  ∧ (∀ (s : State) (i : Nat) (c : PendingCommit), s.commitsOf i = [c] → c.answered = false →
    s.elapsed c.durableAt (100 * msec) = true → s.slowPath c.path = false →
    ∃ t, exec (.commitResponseTimeout i) s = .next t ∧ t.commitsOf i = [{ c with answered := true }] ∧
      (Tbl.get {} t.dict.sess c.session).result = 3 ∧ t.dict.inForce = s.dict.inForce)
  -- SHADOW_TIMEOUT, STAGING_TIMEOUT
  ∧ (∀ (s : State) (i : Nat) (sh : Shadow), s.shadow i = some sh → s.elapsed sh.touched (30 * sec) = true →
    ∃ t, exec (.shadowTimeout i) s = .next t ∧ t.shadow i = none ∧ (∀ j, j ≠ i → t.shadow j = s.shadow j) ∧
      t.dict.abandoned = satAdd 32 s.dict.abandoned 1 ∧ t.dict.inForce = s.dict.inForce)
  ∧ (∀ (s : State) (b : StageBuf), b ∈ s.dict.staging → s.elapsed b.touched (30 * sec) = true →
    ∃ t, exec .stagingTimeout s = .next t ∧ b ∉ t.dict.staging ∧
      (∀ c ∈ s.dict.staging, s.elapsed c.touched (30 * sec) = false → c ∈ t.dict.staging) ∧
      t.dict.abandoned = satAdd 32 s.dict.abandoned ((s.dict.staging.filter (fun c => s.elapsed c.touched (30 * sec))).length) ∧
      t.dict.shadows = s.dict.shadows)
  -- LOG_RECORD_DURABLE: a write, a commit, a NOR error
  ∧ (∀ (s : State) (o : NorOp) (l : List NorOp), s.dict.appends = o :: l → o.commit = false →
    ∃ t, exec (.logRecordDurable true) s = .next t ∧ t.dict.appends = l ∧ t.activeCopy.log = s.activeCopy.log ++ [o] ∧
      t.activeCopy.units = s.activeCopy.units + o.units ∧ t.dict.commits = s.dict.commits ∧
      (∀ p, o.path = some p → (∀ q, p ≠ .mailbox q) → (∀ k, p ≠ .admin k) → s.pathLive p o.reqId = true →
        Out.dictResponse p (respFrame o.frame { result := 0, seq := o.seq }) ∈ t.out))
  ∧ (∀ (s : State) (o : NorOp) (l : List NorOp), s.dict.appends = o :: l → o.commit = true → o.index ≠ 0x6400 → o.index ≠ 0x6401 →
    o.index ≠ 0x9001 →
    ∃ (t : State) (c : PendingCommit), exec (.logRecordDurable true) s = .next t ∧ t.dict.appends = l ∧
      t.pendingCommit o.index = some c ∧ c.fields = o.fields ∧ c.durableAt = s.aon.now ∧ c.path = o.path ∧ c.action = o.action ∧
      t.dict.inForce = s.dict.inForce ∧ t.activeCopy.log = s.activeCopy.log ++ [o])
  ∧ (∀ (s : State) (o : NorOp) (l : List NorOp), s.dict.appends = o :: l →
    ∃ t, exec (.logRecordDurable false) s = .next t ∧ t.dict.appends = [] ∧ t.dict.appendFailed = true ∧ t.dict.compacting = true ∧
      t.dict.norErrors = satAdd 32 s.dict.norErrors 1 ∧ t.dict.stored = s.dict.stored ∧ t.dict.inForce = s.dict.inForce)
  -- TOKEN_REFILL
  ∧ (∀ s : State, s.mode.base ≠ .unpowered → s.elapsed s.dict.refillAt (100 * msec) = true →
    ∃ t, exec .tokenRefill s = .next t ∧ t.dict.tokens = min Config.storeTokens (s.dict.tokens + 1) ∧ t.dict.refillAt = s.aon.now)
  -- COMPACTION_TIMER, COMPACTION_COMPLETE, COMPACTION_RETRY
  ∧ (∀ s : State, s.mode.base ≠ .unpowered → s.dict.compacting = false → s.dict.retryAt = none →
    s.elapsed s.dict.lastCompaction (24 * hour) = true →
    ∃ t, exec .compactionTimer s = .next t ∧ t.dict.compacting = true ∧ t.dict.stored = s.dict.stored)
  ∧ (∀ s : State, s.dict.compacting = true →
    ∃ t, exec (.compactionComplete true) s = .next t ∧ t.dict.activeB = (!s.dict.activeB) ∧ t.dict.compacting = false ∧
      t.dict.appendFailed = false ∧ t.activeCopy.image = s.dict.stored ∧ t.activeCopy.log = [] ∧ t.activeCopy.units = 0 ∧
      t.dict.compactions = satAdd 32 s.dict.compactions 1 ∧ t.dict.lastCompaction = s.aon.now ∧ t.dict.stored = s.dict.stored)
  ∧ (∀ s : State, s.dict.compacting = true →
    ∃ t, exec (.compactionComplete false) s = .next t ∧ t.dict.compacting = false ∧ t.dict.retryAt = some s.aon.now ∧
      t.dict.activeB = s.dict.activeB ∧ t.activeCopy = s.activeCopy ∧ t.dict.norErrors = satAdd 32 s.dict.norErrors 1)
  ∧ (∀ (s : State) (k : Nat), s.dict.retryAt = some k → s.elapsed k (60 * sec) = true →
    ∃ t, exec .compactionRetry s = .next t ∧ t.dict.compacting = true ∧ t.dict.retryAt = none)

/-- R115, R135, R195, R212, R213, R234: a host data command in BUILD either ends with the status of its first failing check or has the
plan that its command gives it. -/
def Obligations.IoCommands : Prop :=
  -- WRITE, READ, COMPARE, VERIFY, WRITE_ZEROES
  (∀ (s : State) (tag op : Nat) (x : Instr) (each last : List StepKind) (data : Bool), s.iot tag op = true →
    (op = 0x01 ∧ x = .write tag ∧ each = [.buf, .hostrd, .xform] ∧ last = [.mapupd, .cmpl] ∧ data = true) ∨
    (op = 0x02 ∧ x = .read tag ∧ each = [.buf, .die, .xform, .hostwr] ∧ last = [.cmpl] ∧ data = true) ∨
    (op = 0x05 ∧ x = .compare tag ∧ each = [.buf, .hostrd, .die, .xform] ∧ last = [.cmpl] ∧ data = true) ∨
    (op = 0x0C ∧ x = .verify tag ∧ each = [.buf, .die, .xform] ∧ last = [.cmpl] ∧ data = false) ∨
    (op = 0x08 ∧ x = .writeZeroes tag ∧ Sqe.deac (s.tag tag).sqe = false ∧ each = [.buf, .xform] ∧ last = [.mapupd, .cmpl] ∧ data = false) →
    (∀ st, s.ioStatus tag (if data then 4096 * (s.tag tag).nlb else 0) = some st →
      ∃ t, exec x s = .next t ∧ Posts t tag st ∧ t.map = s.map ∧ t.media = s.media) ∧
    (s.ioStatus tag (if data then 4096 * (s.tag tag).nlb else 0) = none →
      ∃ t, exec x s = .next t ∧ (t.tag tag).built = true ∧ (t.tag tag).plan = planOf each (s.tag tag).nlb 8 last ∧
        (t.tag tag).sqe = (s.tag tag).sqe ∧ (t.tag tag).stepsDone = (s.tag tag).stepsDone ∧ t.media = s.media))
  -- WRITE_ZEROES with DEAC, WRITE_UNCORRECTABLE, FLUSH
  ∧ (∀ (s : State) (tag : Nat), s.iot tag 0x08 = true → Sqe.deac (s.tag tag).sqe = true → s.ioStatus tag 0 = none →
    ∃ t, exec (.writeZeroes tag) s = .next t ∧ (t.tag tag).built = true ∧ (t.tag tag).plan = [⟨0, .mapupd⟩, ⟨0, .cmpl⟩] ∧ t.media = s.media)
  ∧ (∀ (s : State) (tag : Nat), s.iot tag 0x04 = true →
    ∃ t, exec (.writeUncorrectable tag) s = .next t ∧ (t.tag tag).built = true ∧ (t.tag tag).plan = [⟨0, .mapupd⟩, ⟨0, .cmpl⟩] ∧ t.media = s.media)
  ∧ (∀ (s : State) (tag : Nat), s.iot tag 0x00 = true →
    ∃ t, exec (.flush tag) s = .next t ∧ (t.tag tag).built = true ∧ (t.tag tag).plan = [⟨0, .cmpl⟩] ∧ t.media = s.media)
  -- DATASET_MANAGEMENT: without AD, with a range beyond the namespace, and with good ranges
  ∧ (∀ (s : State) (tag : Nat) (l : List (Nat × Nat)), s.iot tag 0x09 = true → l.length = (s.tag tag).sqe.cdw10 % 256 + 1 →
    s.dptrStatus (s.qfunc (s.tag tag).q).1 (s.qfunc (s.tag tag).q).2 (16 * l.length) (s.tag tag).sqe = none →
    ((s.tag tag).sqe.cdw11.testBit 2 = false →
      ∃ t, exec (.datasetManagement tag l) s = .next t ∧ Posts t tag ⟨0, 0⟩ ∧ t.map = s.map) ∧
    ((s.tag tag).sqe.cdw11.testBit 2 = true → (∃ r ∈ l, (s.ns (s.tag tag).sqe.nsid).nsze < r.1 + r.2) →
      ∃ t, exec (.datasetManagement tag l) s = .next t ∧ Posts t tag ⟨0, 0x80⟩ ∧ t.map = s.map) ∧
    ((s.tag tag).sqe.cdw11.testBit 2 = true → (∀ r ∈ l, r.1 + r.2 ≤ (s.ns (s.tag tag).sqe.nsid).nsze) →
      ∃ t, exec (.datasetManagement tag l) s = .next t ∧ (t.tag tag).built = true ∧ (t.tag tag).plan = [⟨0, .mapupd⟩, ⟨0, .cmpl⟩] ∧
        t.media = s.media))
  -- COPY
  ∧ (∀ (s u : State) (tag total : Nat) (l : List (Nat × Nat)), s.iot tag 0x19 = true → l.length = (s.tag tag).sqe.cdw12 % 256 + 1 →
    total = (l.map (fun r => r.2)).sum →
    u = s.setTag tag { s.tag tag with slba := (s.tag tag).sqe.slba, nlb := total, ranges := l } →
    (∀ st, u.copyStatus tag l = some st → ∃ t, exec (.copy tag l) s = .next t ∧ Posts t tag st ∧ t.map = s.map) ∧
    (u.copyStatus tag l = none → s.poolWaits (s.tag tag).sqe.nsid (4 * total) = true → exec (.copy tag l) s = .next s) ∧
    (u.copyStatus tag l = none → s.poolWaits (s.tag tag).sqe.nsid (4 * total) = false →
      ∃ t, exec (.copy tag l) s = .next t ∧ (t.tag tag).built = true ∧
        (t.tag tag).plan = planOf [.buf, .die, .xform] total 4 [.mapupd, .cmpl] ∧ (t.tag tag).nlb = total ∧
        (t.tag tag).slba = (s.tag tag).sqe.slba ∧ t.media = s.media))

/-- R11 to R13, R28, R29, R333, R335 to R338: a transform job is checked and staged, and coded when its whole input is here; its
records, its limits, and what a bad image or record makes of it. -/
def Obligations.TransformJobs : Prop :=
  -- a transform job in BUILD: its checks, its staging space, its plan
  (∀ (s : State) (tag n : Nat) (x : Instr), s.iot tag 0xC0 = true →
    ((∃ coded, x = .transformEncode tag coded) ∧ Sqe.jobDecode (s.tag tag).sqe = false) ∨
    (x = .transformDecode tag ∧ Sqe.jobDecode (s.tag tag).sqe = true) → n = ceilDiv (Sqe.inLen (s.tag tag).sqe) 4096 →
    (∀ st, s.jobStatus tag = some st → ∃ t, exec x s = .next t ∧ Posts t tag st ∧ t.cmp = s.cmp) ∧
    (s.jobStatus tag = none → s.lanesLeft = false → ∃ t, exec x s = .next t ∧ Posts t tag ⟨0, 1⟩ ∧ t.cmp = s.cmp) ∧
    (s.jobStatus tag = none → s.lanesLeft = true → s.cfg 0x7400 3 * 2 ^ 20 < s.jobStage + Sqe.outLimit (s.tag tag).sqe →
      (s.tag tag).waitsStage = false →
      ∃ t, exec x s = .next t ∧ (t.tag tag).waitsStage = true ∧ (t.tag tag).st = .build ∧ t.cmp.stageWaits = satAdd 64 s.cmp.stageWaits 1) ∧
    (s.jobStatus tag = none → s.lanesLeft = true → s.jobStage + Sqe.outLimit (s.tag tag).sqe ≤ s.cfg 0x7400 3 * 2 ^ 20 →
      ∃ t, exec x s = .next t ∧ (t.tag tag).built = true ∧ (t.tag tag).nlb = n ∧
        (t.tag tag).plan = [⟨0, .exc⟩, ⟨0, .buf⟩] ++ planOf [.hostrd] n 4 [.xform, .hostwr, .cmpl] ∧ t.media = s.media))
  -- TRANSFORM_ENCODE with its whole input: coded, past the limit, and with an image that the decoder refuses
  ∧ (∀ (s : State) (tag : Nat) (coded : List (List Byte)) (rs : List (Option (Nat × List Byte))), s.jobInput tag = true →
    Sqe.jobDecode (s.tag tag).sqe = false →
    rs = (List.range (s.tag tag).blocks).map (fun b => s.jobRecord (s.tag tag).sqe (s.blk tag b).data (coded.getD b [])) →
    (∀ l, jobRecords (Sqe.outLimit (s.tag tag).sqe) 0 0 rs = .ok l →
      ∃ t, exec (.transformEncode tag coded) s = .next t ∧ t.cmp.blocksCoded = satAdd 64 s.cmp.blocksCoded l.length ∧
        (∀ b, b < (s.tag tag).blocks → (t.blk tag b).ready = true) ∧ (t.tag tag).st = .run) ∧
    (∀ i, jobRecords (Sqe.outLimit (s.tag tag).sqe) 0 0 rs = .error (i, false) →
      ∃ t, exec (.transformEncode tag coded) s = .next t ∧ Posts t tag ⟨7, 0xA0⟩ ∧ (t.tag tag).dw0 = i ∧
        t.cmp.jobOverflows = satAdd 32 s.cmp.jobOverflows 1) ∧
    (∀ i, jobRecords (Sqe.outLimit (s.tag tag).sqe) 0 0 rs = .error (i, true) →
      ∃ t, exec (.transformEncode tag coded) s = .next t ∧ t.cmp.checkMismatches = satAdd 32 s.cmp.checkMismatches 1 ∧ t.tags = s.tags))
  -- TRANSFORM_DECODE with its whole input: decoded, and with a record that is invalid
  ∧ (∀ (s : State) (tag : Nat) (inp : List Byte), s.jobInput tag = true → Sqe.jobDecode (s.tag tag).sqe = true →
    inp = ((List.range (s.tag tag).blocks).map (fun b => (s.blk tag b).data)).flatten →
    (∀ ds, jobBlocks (Sqe.outLimit (s.tag tag).sqe) (inp.length + 1) 0 inp = .ok ds →
      ∃ t, exec (.transformDecode tag) s = .next t ∧ (∀ b, b < (s.tag tag).blocks → (t.blk tag b).ready = true) ∧ (t.tag tag).st = .run ∧
        t.cmp = s.cmp) ∧
    (∀ i, jobBlocks (Sqe.outLimit (s.tag tag).sqe) (inp.length + 1) 0 inp = .error (i, false) →
      ∃ t, exec (.transformDecode tag) s = .next t ∧ Posts t tag ⟨7, 0xA1⟩ ∧ (t.tag tag).dw0 = i ∧
        t.cmp.jobInvalid = satAdd 32 s.cmp.jobInvalid 1))

/-- R200 to R206, R213, R233: the zone table's decision on a write, an append and a Zone Management Send. -/
def Obligations.ZoneWrites : Prop :=
  -- ZONE_APPEND
  (∀ (s : State) (tag : Nat), s.iot tag 0x7D = true →
    (∀ st, s.ioStatus tag (4096 * (s.tag tag).nlb) = some st →
      ∃ t, exec (.zoneAppend tag) s = .next t ∧ Posts t tag st ∧ t.map = s.map ∧ t.jrn = s.jrn) ∧
    (s.ioStatus tag (4096 * (s.tag tag).nlb) = none →
      ∃ t, exec (.zoneAppend tag) s = .next t ∧ (t.tag tag).built = true ∧
        (t.tag tag).plan = planOf [.buf, .hostrd, .xform] (s.tag tag).nlb 8 [.mapupd, .cmpl] ∧ t.media = s.media))
  -- ZONE_TABLE_DECISION: an action that is not supported, a journal that is full, a refusal, and a write that passes
  ∧ (∀ (s : State) (tag : Nat), s.iot tag 0x79 = true → zoneActions.contains (Sqe.zsa (s.tag tag).sqe) = false →
    ∃ t, exec (.zoneTableDecision tag) s = .next t ∧ Posts t tag ⟨0, 2⟩ ∧ t.jrn = s.jrn)
  ∧ (∀ (s : State) (tag : Nat), s.iot tag 0x79 = false → s.zoneWaits tag = true → s.jrnHeld = true →
    ∃ t, exec (.zoneTableDecision tag) s = .next t ∧ t.zones = s.zones ∧ t.tags = s.tags ∧
      t.jrn.tailWaits = satAdd 64 s.jrn.tailWaits 1)
  ∧ (∀ (s w : State) (tag n z off : Nat) (x : Tag), s.iot tag 0x79 = false → s.zoneWaits tag = true → s.jrnHeld = false → n = (s.tag tag).sqe.nsid →
    w = s.zoneBoundary n → x = w.tag tag → x.st = .build → x.sqe.nsid = n → z = x.slba / w.zsize n → off = x.slba % w.zsize n →
    (∀ st, w.writeStatus n z off x.nlb (x.sqe.opcode == 0x7D) = some st →
      ∃ u : State, exec (.zoneTableDecision tag) s = .next u.commitPump ∧ Posts u tag st ∧ u.jrn = s.jrn) ∧
    (w.writeStatus n z off x.nlb (x.sqe.opcode == 0x7D) = none → (w.zone n z).st.writeNeed = .nothing →
      w.roomStatus n z .nothing false = none →
      ∃ u : State, exec (.zoneTableDecision tag) s = .next (u.mapResolve tag).commitPump ∧ (u.tag tag).passedZone = true ∧
        (u.zone n z).adm = max (w.zone n z).adm ((if x.sqe.opcode = 0x7D then (w.zone n z).adm else off) + x.nlb) ∧
        (u.zone n z).inFlight = (w.zone n z).inFlight ++ [(if x.sqe.opcode = 0x7D then (w.zone n z).adm else off, x.nlb)] ∧
        (u.tag tag).slba = z * w.zsize n + (if x.sqe.opcode = 0x7D then (w.zone n z).adm else off)) ∧
    (∀ r, w.writeStatus n z off x.nlb (x.sqe.opcode == 0x7D) = none → w.roomStatus n z (w.zone n z).st.writeNeed false = some r →
      ∃ u : State, exec (.zoneTableDecision tag) s = .next u.commitPump ∧ Posts u tag r.1 ∧ (u.zone n z).st = (w.zone n z).st))
  -- a Zone Management Send: its journal, its range, its zone
  ∧ (∀ (s w : State) (tag n zsa : Nat) (x : Instr), (zsa = 1 ∧ x = .zoneClose tag) ∨ (zsa = 2 ∧ x = .zoneFinish tag) ∨
    (zsa = 3 ∧ x = .zoneOpen tag) ∨ (zsa = 4 ∧ x = .zoneReset tag) ∨ (zsa = 5 ∧ x = .zoneOffline tag) → s.zmsAt tag zsa = true →
    n = (s.tag tag).sqe.nsid → w = s.zoneBoundary n → (w.tag tag).st = .build → Sqe.selectAll (s.tag tag).sqe = false →
    (w.jrnHeld = true → ∃ t, exec x s = .next t ∧ t.zones = w.zones ∧ t.tags = w.tags ∧ t.jrn.tailWaits = satAdd 64 w.jrn.tailWaits 1) ∧
    (w.jrnHeld = false → (w.ns n).nsze ≤ (s.tag tag).sqe.slba → ∃ t, exec x s = .next t ∧ Posts t tag ⟨0, 0x80⟩) ∧
    (w.jrnHeld = false → (s.tag tag).sqe.slba < (w.ns n).nsze → (s.tag tag).sqe.slba % w.zsize n ≠ 0 →
      ∃ t, exec x s = .next t ∧ Posts t tag ⟨0, 2⟩))

/-- R200 to R206, R213: what each Zone Management Send does to its zone, Zone Management Receive, and the changes that the PK9 makes by
itself. -/
def Obligations.ZoneManagement : Prop :=
  -- ZONE_CLOSE, ZONE_FINISH, ZONE_OPEN, ZONE_RESET, ZONE_OFFLINE on one zone
  (∀ (s w : State) (tag n z : Nat), s.zmsAt tag 1 = true → n = (s.tag tag).sqe.nsid → w = s.zoneBoundary n → (w.tag tag).st = .build →
    Sqe.selectAll (s.tag tag).sqe = false → w.jrnHeld = false → (s.tag tag).sqe.slba < (w.ns n).nsze → (s.tag tag).sqe.slba % w.zsize n = 0 →
    z = (s.tag tag).sqe.slba / w.zsize n → (w.tag tag).sqe = (s.tag tag).sqe →
    ((w.zone n z).st = .implicitOpen ∨ (w.zone n z).st = .explicitOpen →
      ∃ u : State, exec (.zoneClose tag) s = .next u.commitPump ∧ Posts u tag ⟨0, 0⟩ ∧
        (u.zone n z).st = (if (w.zone n z).adm = 0 ∧ (w.zone n z).wp = 0 ∧ (w.zone n z).zrwa = false then .empty else .closed) ∧
        (u.zone n z).wp = (w.zone n z).wp ∧ u.jrn.next = w.jrn.next + 1) ∧
    ((w.zone n z).st = .closed → ∃ t, exec (.zoneClose tag) s = .next t ∧ Posts t tag ⟨0, 0⟩ ∧ t.jrn = w.jrn) ∧
    ((w.zone n z).st = .empty ∨ (w.zone n z).st = .full ∨ (w.zone n z).st = .readOnly ∨ (w.zone n z).st = .offline →
      ∃ t, exec (.zoneClose tag) s = .next t ∧ Posts t tag ⟨1, 0xBF⟩ ∧ (t.zone n z).st = (w.zone n z).st))
  ∧ (∀ (s w : State) (tag n z : Nat), s.zmsAt tag 2 = true → n = (s.tag tag).sqe.nsid → w = s.zoneBoundary n → (w.tag tag).st = .build →
    Sqe.selectAll (s.tag tag).sqe = false → w.jrnHeld = false → (s.tag tag).sqe.slba < (w.ns n).nsze → (s.tag tag).sqe.slba % w.zsize n = 0 →
    z = (s.tag tag).sqe.slba / w.zsize n → (w.tag tag).sqe = (s.tag tag).sqe →
    ((w.zone n z).inFlight ≠ [] → exec (.zoneFinish tag) s = .next w) ∧
    ((w.zone n z).inFlight = [] → (w.zone n z).st.isActive = true ∨ ((w.zone n z).st = .empty ∧ w.activeRoom n = true) →
      ∃ u : State, exec (.zoneFinish tag) s = .next u.commitPump ∧ Posts u tag ⟨0, 0⟩ ∧ (u.zone n z).st = .full ∧
        (u.zone n z).wp = w.zsize n ∧ (u.zone n z).zrwa = false) ∧
    ((w.zone n z).inFlight = [] → (w.zone n z).st = .readOnly ∨ (w.zone n z).st = .offline →
      ∃ t, exec (.zoneFinish tag) s = .next t ∧ Posts t tag ⟨1, 0xBF⟩ ∧ (t.zone n z).st = (w.zone n z).st))
  ∧ (∀ (s w v : State) (tag n z : Nat) (need : ZoneNeed) (zr : Bool), s.zmsAt tag 3 = true → n = (s.tag tag).sqe.nsid → w = s.zoneBoundary n →
    (w.tag tag).st = .build → Sqe.selectAll (s.tag tag).sqe = false → w.jrnHeld = false → (s.tag tag).sqe.slba < (w.ns n).nsze →
    (s.tag tag).sqe.slba % w.zsize n = 0 → z = (s.tag tag).sqe.slba / w.zsize n → (w.tag tag).sqe = (s.tag tag).sqe →
    ((w.zone n z).st = .empty ∧ need = .activate ∧ zr = Sqe.zrwaa (s.tag tag).sqe) ∨
    ((w.zone n z).st = .implicitOpen ∧ need = .nothing ∧ zr = Sqe.zrwaa (s.tag tag).sqe) ∨
    ((w.zone n z).st = .closed ∧ need = .open_ ∧ zr = false) →
    (w.roomStatus n z need zr = none →
      w.zoneEnter n z need .explicitOpen zr = some v → (v.tag tag).st = .build → (v.tag tag).sqe = (s.tag tag).sqe →
      ∃ u : State, exec (.zoneOpen tag) s = .next u.commitPump ∧ Posts u tag ⟨0, 0⟩ ∧ (u.zone n z).st = .explicitOpen) ∧
    (∀ r, w.roomStatus n z need zr = some r →
      ∃ t, exec (.zoneOpen tag) s = .next t ∧ Posts t tag r.1 ∧ (t.zone n z).st = (w.zone n z).st))
  ∧ (∀ (s w : State) (tag n z : Nat), s.zmsAt tag 4 = true → n = (s.tag tag).sqe.nsid → w = s.zoneBoundary n → (w.tag tag).st = .build →
    Sqe.selectAll (s.tag tag).sqe = false → w.jrnHeld = false → (s.tag tag).sqe.slba < (w.ns n).nsze → (s.tag tag).sqe.slba % w.zsize n = 0 →
    z = (s.tag tag).sqe.slba / w.zsize n → (w.tag tag).sqe = (s.tag tag).sqe →
    (w.zone n z).st.isActive = true ∨ (w.zone n z).st = .full →
    ∃ u : State, exec (.zoneReset tag) s = .next u.commitPump ∧ (u.zone n z).st = .empty ∧ (u.zone n z).wp = 0 ∧ (u.zone n z).adm = 0 ∧
      (u.zone n z).charge = 0 ∧ (u.zone n z).epochNo = (w.zone n z).epochNo + 1 ∧
      ((w.zoneReset n z).resetWaits n (some z) = false → Posts u tag ⟨0, 0⟩) ∧
      ((w.zoneReset n z).resetWaits n (some z) = true → (u.tag tag).st = .run))
  ∧ (∀ (s w : State) (tag n z : Nat), s.zmsAt tag 5 = true → n = (s.tag tag).sqe.nsid → w = s.zoneBoundary n → (w.tag tag).st = .build →
    Sqe.selectAll (s.tag tag).sqe = false → w.jrnHeld = false → (s.tag tag).sqe.slba < (w.ns n).nsze → (s.tag tag).sqe.slba % w.zsize n = 0 →
    z = (s.tag tag).sqe.slba / w.zsize n → (w.tag tag).sqe = (s.tag tag).sqe →
    ((w.zone n z).st = .readOnly → (w.zone n z).inFlight = [] →
      ∃ u : State, exec (.zoneOffline tag) s = .next u.commitPump ∧ Posts u tag ⟨0, 0⟩ ∧ (u.zone n z).st = .offline ∧ (u.zone n z).charge = 0) ∧
    ((w.zone n z).st ≠ .readOnly → ∃ t, exec (.zoneOffline tag) s = .next t ∧ Posts t tag ⟨1, 0xBF⟩ ∧ (t.zone n z).st = (w.zone n z).st))
  -- ZONE_RESET_SETTLED
  ∧ (∀ (s : State) (tag : Nat), (s.tag tag).admin = false → (s.tag tag).built = true → (s.tag tag).st = .run → (s.tag tag).sqe.opcode = 0x79 →
    Sqe.zsa (s.tag tag).sqe = 4 → s.resetWaits (s.tag tag).sqe.nsid (s.zmsZone tag) = false →
    ∃ t, exec (.zoneResetSettled tag) s = .next t ∧ Posts t tag ⟨0, 0⟩ ∧ t.zones = s.zones)
  -- FLUSH_EXPLICIT_ZRWA_RANGE
  ∧ (∀ (s w : State) (tag n z off : Nat), s.zmsAt tag 0x11 = true → n = (s.tag tag).sqe.nsid → w = s.zoneBoundary n → (w.tag tag).st = .build →
    w.jrnHeld = false → Sqe.selectAll (s.tag tag).sqe = false → (s.tag tag).sqe.slba < (w.ns n).nsze →
    z = (s.tag tag).sqe.slba / w.zsize n → off = (s.tag tag).sqe.slba % w.zsize n → (w.zone n z).st.isActive = true →
    ((w.zone n z).zrwa = true → (w.zone n z).wp ≤ off → (off + 1 - (w.zone n z).wp) % 4 = 0 → off + 1 - (w.zone n z).wp ≤ 256 →
      ∃ u : State, exec (.flushExplicitZrwaRange tag) s = .next ((u.zoneFullWatch n z).succeed tag).commitPump ∧ (u.zone n z).wp = off + 1 ∧
        (u.zone n z).zrwa = true ∧ u.jrn.next = w.jrn.next + 1) ∧
    ((w.zone n z).zrwa = false → ∃ t, exec (.flushExplicitZrwaRange tag) s = .next t ∧ Posts t tag ⟨1, 0xBF⟩))
  -- REPORT_ZONES
  ∧ (∀ (s : State) (tag : Nat) (e : Sqe), s.iot tag 0x7A = true → (s.tag tag).sqe = e → e.cdw13 % 65536 = 0 → e.cdw13.testBit 16 = false →
    e.psdt ≠ 3 → e.slba < (s.ns e.nsid).nsze →
    s.dptrStatus (s.qfunc (s.tag tag).q).1 (s.qfunc (s.tag tag).q).2 (4 * (e.cdw12 + 1)) e = none → s.passes tag = true →
    ∃ t, exec (.reportZones tag) s = .next t ∧ Posts t tag ⟨0, 0⟩ ∧ t.zones = s.zones ∧
      ∃ rest, Out.hostBytes tag ((leBytes 8 (s.zoneCount e.nsid - e.slba / s.zsize e.nsid) ++ rest).take (4 * (e.cdw12 + 1))) ∈ t.out)
  -- ZONE_FINISH_RECOMMENDED, ZONE_FINISHED_BY_CONTROLLER
  ∧ (∀ (s : State) (n z : Nat), s.zoneIdle n z 1 = true → (s.zone n z).finishRecommended = false → s.jrnHeld = false →
    ∃ t, exec (.zoneFinishRecommended n z) s = .next t ∧ (t.zone n z).finishRecommended = true ∧ (t.zone n z).st = (s.zone n z).st ∧
      z ∈ (t.ns n).changedZones ∧ t.jrn.next = s.jrn.next + 1)
  ∧ (∀ (s : State) (n z : Nat), s.zoneIdle n z 2 = true → (s.zone n z).inFlight = [] → s.jrnHeld = false →
    ∃ u : State, exec (.zoneFinishedByController n z) s = .next u.commitPump ∧ (u.zone n z).st = .full ∧
      (u.zone n z).finishedByController = true ∧ (u.zone n z).wp = s.zsize n ∧ z ∈ (u.ns n).changedZones)

/-- R149, R150, R190 to R193: creating, deleting, attaching and detaching a namespace. -/
def Obligations.NamespaceCommands : Prop :=
  -- NAMESPACE_CREATE
  (∀ (s w : State) (tag n : Nat) (d : NsCreate) (csi : Nat), s.adm tag 0x0D = true → Sqe.sel (s.tag tag).sqe = 0 →
    w = (s.boundary 0x5000).boundaryPart 0x7400 (fun f => f == 1 || f == 2) → (w.tag tag).st = .build → csi = (w.tag tag).sqe.cdw11 / 2 ^ 24 →
    w.jrnHeld = false → w.dptrStatus (w.qfunc (w.tag tag).q).1 (w.qfunc (w.tag tag).q).2 4096 (w.tag tag).sqe = none →
    (∀ st, w.createStatus d csi = some st → ∃ t, exec (.namespaceCreate tag d) s = .next t ∧ Posts t tag st ∧ t.nss = w.nss ∧ t.jrn = w.jrn) ∧
    (w.createStatus d csi = none → w.freeNsid = some n →
      ∃ t, exec (.namespaceCreate tag d) s = .next t ∧ Posts t tag ⟨0, 0⟩ ∧ (t.tag tag).dw0 = n ∧ (t.ns n).st = 1 ∧ (t.ns n).kind = w.newKind csi ∧
        (t.ns n).nsze = d.nsze ∧ (t.ns n).lbaf = flbasFormat d.flbas ∧ (t.ns n).attached = [] ∧ (t.ns n).used = 0 ∧ (t.ns n).key = none ∧
        t.jrn.next = w.jrn.next + 1 ∧ t.recov.nsTable = t.nss))
  -- NAMESPACE_DELETE
  ∧ (∀ (s : State) (tag n : Nat), s.adm tag 0x0D = true → Sqe.sel (s.tag tag).sqe = 1 → n = (s.tag tag).sqe.nsid → n ≠ 0xFFFFFFFF →
    ((s.ns n).st = 1 → n ≠ 0 → n ≤ Config.namespaces →
      ∃ t, exec (.namespaceDelete tag) s = .next t ∧ (t.tag tag).st = .run ∧ (t.ns n).st = 2 ∧ (t.ns n).attached = [] ∧
        (t.ns n).workTag = some tag ∧ t.map = s.map) ∧
    ((s.ns n).st = 3 → ∃ t, exec (.namespaceDelete tag) s = .next t ∧ Posts t tag ⟨0, 0x84⟩ ∧ t.nss = s.nss) ∧
    ((s.ns n).st = 0 ∨ (s.ns n).st = 2 → ∃ t, exec (.namespaceDelete tag) s = .next t ∧ Posts t tag ⟨0, 0x0B⟩ ∧ t.nss = s.nss))
  -- NAMESPACE_DELETE_COMPLETE
  ∧ (∀ (s w : State) (n : Nat), (s.ns n).st = 2 → s.nsIdle n = true → w = s.boundary (0x5800 + (n - 1)) → w.jrnHeld = false →
    ∃ u : State, exec (.namespaceDeleteComplete n) s = .next u.commitPump ∧ u.ns n = {} ∧ (∀ x ∈ u.zones, x.1 / 2 ^ 32 ≠ n) ∧
      (∀ x ∈ u.map.pages, x.1 / 2 ^ 56 ≠ n) ∧ (∀ x ∈ u.map.ents, x.1 / 2 ^ 64 ≠ n) ∧ u.jrn.next = w.jrn.next + 1)
  -- NAMESPACE_ATTACH, NAMESPACE_DETACH
  ∧ (∀ (s : State) (tag n : Nat) (l cs : List Nat), s.adm tag 0x15 = true → Sqe.sel (s.tag tag).sqe = 0 → n = (s.tag tag).sqe.nsid →
    cs = (l.map (fun c => c - 1)).dedup → s.nsGone n = none →
    (s.listBad l = true → ∃ t, exec (.namespaceAttach tag l) s = .next t ∧ Posts t tag ⟨1, 0x1C⟩ ∧ t.nss = s.nss) ∧
    (s.listBad l = false → (∃ c ∈ cs, c ∈ (s.ns n).attached) → ∃ t, exec (.namespaceAttach tag l) s = .next t ∧ Posts t tag ⟨1, 0x18⟩ ∧ t.nss = s.nss) ∧
    (s.listBad l = false → (∀ c ∈ cs, c ∉ (s.ns n).attached) → (s.ns n).nmic % 2 = 1 ∨ (s.ns n).attached.length + cs.length ≤ 1 →
      ∃ t, exec (.namespaceAttach tag l) s = .next t ∧ Posts t tag ⟨0, 0⟩ ∧ (t.ns n).attached = (s.ns n).attached ++ cs ∧
        (∀ c ∈ cs, n ∈ (t.ctrl c).changedNs) ∧ t.recov.nsTable = t.nss))
  ∧ (∀ (s : State) (tag n : Nat) (l cs : List Nat), s.adm tag 0x15 = true → Sqe.sel (s.tag tag).sqe = 1 → n = (s.tag tag).sqe.nsid →
    cs = (l.map (fun c => c - 1)).dedup → s.nsGone n = none → s.listBad l = false →
    ((∃ c ∈ cs, c ∉ (s.ns n).attached) → ∃ t, exec (.namespaceDetach tag l) s = .next t ∧ Posts t tag ⟨1, 0x1A⟩ ∧ t.nss = s.nss) ∧
    ((∀ c ∈ cs, c ∈ (s.ns n).attached) → (∀ o, (s.ns n).owner = some o → o ∉ cs) →
      ∃ t, exec (.namespaceDetach tag l) s = .next t ∧ Posts t tag ⟨0, 0⟩ ∧ (∀ c ∈ cs, c ∉ (t.ns n).attached) ∧
        (∀ c ∈ (s.ns n).attached, c ∉ cs → c ∈ (t.ns n).attached) ∧ (∀ c ∈ cs, n ∈ (t.ctrl c).changedNs)))

/-- R419, R422 to R424: formatting a namespace, and sanitize. -/
def Obligations.FormatAndSanitize : Prop :=
  -- FORMAT_NVM, FORMAT_COMPLETE
  (∀ (s : State) (tag n : Nat) (e : Sqe), s.adm tag 0x80 = true → (s.tag tag).sqe = e → n = e.nsid → s.nsGone n = none →
    (Sqe.fmtMset e = true → ∃ t, exec (.formatNvm tag) s = .next t ∧ Posts t tag ⟨1, 0x0A⟩ ∧ t.nss = s.nss) ∧
    (Sqe.fmtMset e = false → formatOk ((s.ns n).kind == 1) (Sqe.fmtLbaf e) = true → Sqe.fmtSes e ≤ 2 → dpsOk (Sqe.fmtDps e) (Sqe.fmtLbaf e) = true →
      (s.ns n).kind ≠ 1 ∨ (s.ns n).nsze % zoneSize (Sqe.fmtLbaf e) = 0 →
      ∃ t, exec (.formatNvm tag) s = .next t ∧ (t.tag tag).st = .run ∧ (t.ns n).st = 3 ∧ (t.ns n).workTag = some tag ∧
        (t.ns n).formatLbaf = Sqe.fmtLbaf e ∧ (t.ns n).lbaf = (s.ns n).lbaf ∧ t.map = s.map))
  ∧ (∀ (s w : State) (n : Nat), (s.ns n).st = 3 → s.nsIdle n = true → w = s.boundary (0x5800 + (n - 1)) → w.jrnHeld = false →
    ∃ u : State, exec (.formatComplete n) s = .next u.commitPump ∧ (u.ns n).st = 1 ∧ (u.ns n).lbaf = (w.ns n).formatLbaf ∧
      (u.ns n).dps = (w.ns n).formatDps ∧ (u.ns n).workTag = none ∧ (u.ns n).used = 0 ∧ (u.ns n).nuse = 0 ∧
      ((w.ns n).formatSes ≠ 0 → (u.ns n).key = none) ∧ (∀ x ∈ u.map.ents, x.1 / 2 ^ 64 ≠ n))
  -- SANITIZE_BLOCK_ERASE, SANITIZE_CRYPTO_ERASE
  ∧ (∀ (s : State) (tag kind : Nat) (x : Instr), s.adm tag 0x84 = true →
    (Sqe.sanact (s.tag tag).sqe = 2 ∧ kind = 2 ∧ x = .sanitizeBlockErase tag) ∨ (Sqe.sanact (s.tag tag).sqe = 4 ∧ kind = 1 ∧ x = .sanitizeCryptoErase tag) →
    (s.tag tag).sqe.cdw10.testBit 9 = false → s.sec.transition = false →
    (s.mode.base = .service → s.sec.sanRunning = 0 → s.mode.maintEntry = false →
      ∃ t, exec x s = .next t ∧ Posts t tag ⟨0, 0⟩ ∧ t.sec.sanRunning = kind ∧ t.mode.maintCauses.testBit 1 = true ∧ t.mode.maintEntry = true) ∧
    (s.mode.base = .maintenance → s.inService = true → s.sec.sanRunning = 0 →
      ∃ u : State, exec x s = .next u.sanitizeRun ∧ Posts u tag ⟨0, 0⟩ ∧ u.sec.sanRunning = kind ∧ u.mode.maintCauses.testBit 1 = true) ∧
    (s.inService = true → s.sec.sanRunning ≠ 0 → ∃ t, exec x s = .next t ∧ Posts t tag ⟨0, 0x1D⟩ ∧ t.sec = s.sec))
  ∧ (∀ (s : State) (tag : Nat), s.adm tag 0x84 = true → Sqe.sanact (s.tag tag).sqe = 3 →
    ∃ t, exec (.sanitizeBlockErase tag) s = .next t ∧ Posts t tag ⟨0, 2⟩ ∧ t.sec = s.sec)
  -- SANITIZE_EXIT_FAILURE
  ∧ (∀ (s : State) (tag : Nat), s.adm tag 0x84 = true → Sqe.sanact (s.tag tag).sqe = 1 → (s.tag tag).sqe.cdw10.testBit 9 = false →
    s.sec.transition = false → s.mode.base ≠ .flush →
    ∃ t, exec (.sanitizeExitFailure tag) s = .next t ∧ Posts t tag ⟨0, 0⟩ ∧ t.sec.sanFailed = false ∧ t.sec.sanRunning = s.sec.sanRunning)

/-- R432 to R437: a piece of an image, the three actions of a Firmware Commit, and the handoffs of a hitless activation. -/
def Obligations.FirmwareCommands : Prop :=
  -- FIRMWARE_IMAGE_DOWNLOAD
  (∀ (s : State) (tag : Nat) (f : FwImage) (e : Sqe) (p : Nat × Nat), s.adm tag 0x11 = true → (s.tag tag).sqe = e →
    p = (4 * e.cdw11, 4 * (e.cdw10 + 1)) → (∀ o, s.sec.stagingOwner = some o → o = (s.qfunc (s.tag tag).q).1) → p.1 % 4096 = 0 → p.2 % 4096 = 0 →
    p.1 + p.2 ≤ 2 ^ 24 →
    ((∃ q ∈ s.sec.stagingPieces, piecesMeet p q = true) →
      ∃ t, exec (.firmwareImageDownload tag f) s = .next t ∧ Posts t tag ⟨0, 2⟩ ∧ t.sec = s.sec) ∧
    ((∀ q ∈ s.sec.stagingPieces, piecesMeet p q = false) →
      s.dptrStatus (s.qfunc (s.tag tag).q).1 (s.qfunc (s.tag tag).q).2 p.2 e = none →
      ∃ t, exec (.firmwareImageDownload tag f) s = .next t ∧ Posts t tag ⟨0, 0⟩ ∧ t.sec.stagingPieces = s.sec.stagingPieces ++ [p] ∧
        t.sec.stagingImage = some f ∧ t.sec.stagingOwner = some (s.qfunc (s.tag tag).q).1 ∧ t.sec.slotInForce = s.sec.slotInForce))
  ∧ (∀ (s : State) (tag : Nat) (f : FwImage) (o : Nat), s.adm tag 0x11 = true → s.sec.stagingOwner = some o → o ≠ (s.qfunc (s.tag tag).q).1 →
    ∃ t, exec (.firmwareImageDownload tag f) s = .next t ∧ Posts t tag ⟨0, 0x0C⟩ ∧ t.sec = s.sec)
  -- FIRMWARE_COMMIT_REPLACE
  ∧ (∀ (s : State) (tag k : Nat), s.adm tag 0x10 = true → Sqe.fwAction (s.tag tag).sqe = 1 → k = s.fwTarget tag →
    (2 < k ∨ k = s.sec.slotInForce → ∃ t, exec (.firmwareCommitReplace tag) s = .next t ∧ Posts t tag ⟨1, 6⟩ ∧ t.sec = s.sec) ∧
    (∀ f, 1 ≤ k → k ≤ 2 → k ≠ s.sec.slotInForce → s.sec.stagingImage = some f → staged s.sec.stagingPieces = true → s.imageGood f = true →
      ∃ t, exec (.firmwareCommitReplace tag) s = .next t ∧ Posts t tag ⟨0, 0⟩ ∧ (∃ g, t.fwSlot k = some g ∧ g.svn = f.svn ∧ g.slot = k) ∧
        t.sec.stagingPieces = [] ∧ t.sec.stagingImage = none ∧ t.sec.stagingOwner = none ∧ t.sec.nextSlot = k ∧
        t.sec.nextActSeq = s.sec.nextActSeq + 1 ∧ t.sec.slotInForce = s.sec.slotInForce) ∧
    (k ≤ 2 → k ≠ s.sec.slotInForce → s.sec.stagingImage = none →
      ∃ t, exec (.firmwareCommitReplace tag) s = .next t ∧ Posts t tag ⟨1, 7⟩ ∧ t.sec = s.sec))
  -- FIRMWARE_COMMIT_ACTIVATE_NEXT
  ∧ (∀ (s : State) (tag k : Nat), s.adm tag 0x10 = true → Sqe.fwAction (s.tag tag).sqe = 2 → k = s.fwTarget tag → k ≤ 2 →
    (∀ f, s.fwSlot k = some f → s.imageGood f = true →
      ∃ t, exec (.firmwareCommitActivateNext tag) s = .next t ∧ Posts t tag ⟨0, 0⟩ ∧ t.sec.nextSlot = k ∧
        t.sec.nextActSeq = s.sec.nextActSeq + 1 ∧ (k, s.sec.nextActSeq) ∈ t.sec.acts ∧ t.sec.slotInForce = s.sec.slotInForce) ∧
    (s.fwSlot k = none → ∃ t, exec (.firmwareCommitActivateNext tag) s = .next t ∧ Posts t tag ⟨1, 7⟩ ∧ t.sec = s.sec))
  -- FIRMWARE_COMMIT_ACTIVATE_NOW
  ∧ (∀ (s : State) (tag k : Nat), s.adm tag 0x10 = true → Sqe.fwAction (s.tag tag).sqe = 3 → k = s.fwTarget tag → k ≤ 2 →
    (k = s.sec.slotInForce → ∃ t, exec (.firmwareCommitActivateNow tag) s = .next t ∧ Posts t tag ⟨0, 0⟩ ∧ t.sec = s.sec) ∧
    (∀ f, k ≠ s.sec.slotInForce → s.sec.actState ≠ 1 → s.sec.actState ≠ 2 → s.sec.sanRunning = 0 → s.sec.transition = false →
      s.mode.base ≠ .flush → s.freeSpares ≠ [] → s.fwSlot k = some f → s.imageGood f = true →
      ∃ t, exec (.firmwareCommitActivateNow tag) s = .next t ∧ (t.tag tag).st = .run ∧ t.sec.actState = 1 ∧ t.sec.actSlot = k ∧
        t.sec.actTag = some tag ∧ t.sec.actEnginesLeft = 8 ∧ t.sec.actCluster = 12 ∧ t.sec.slotInForce = s.sec.slotInForce) ∧
    (k ≠ s.sec.slotInForce → s.freeSpares = [] →
      ∃ t, exec (.firmwareCommitActivateNow tag) s = .next t ∧ Posts t tag ⟨1, 0x13⟩ ∧ t.sec = s.sec))
  -- ACTIVATION_HANDOFF: within a cluster, to the next cluster, and the last one
  ∧ (∀ (s : State) (us g : Nat), s.sec.actState = 1 ∨ s.sec.actState = 2 → s.awake = true →
    g = min s.sec.actEnginesLeft s.freeSpares.length → 0 < g →
    (s.sec.actEnginesLeft ≠ g → ∃ t, exec (.activationHandoff us) s = .next t ∧ t.sec.actState = 2 ∧
      t.sec.actEnginesLeft = s.sec.actEnginesLeft - g ∧ t.sec.actCluster = s.sec.actCluster ∧ t.sec.lastHoldUs = max s.sec.lastHoldUs us ∧
      ∀ i, i < g → (t.engine (8 * s.sec.actCluster + (8 - s.sec.actEnginesLeft) + i)).newImage = true) ∧
    (∀ c, s.sec.actEnginesLeft = g → actNext s.sec.actCluster = some c →
      ∃ t, exec (.activationHandoff us) s = .next t ∧ t.sec.actCluster = c ∧ t.sec.actEnginesLeft = 8 ∧ t.sec.actState = 2 ∧
        t.sec.slotInForce = s.sec.slotInForce) ∧
    (s.sec.actEnginesLeft = g → actNext s.sec.actCluster = none →
      ∃ t, exec (.activationHandoff us) s = .next t ∧ t.sec.actState = 0 ∧ t.sec.slotInForce = s.sec.actSlot ∧
        t.sec.activations = satAdd 32 s.sec.activations 1 ∧ t.sec.aliasNo = s.sec.aliasNo + 1 ∧ t.sec.actTag = none ∧
        (∀ k, s.sec.actTag = some k → (s.tag k).st = .run → Posts t k ⟨0, 0⟩) ∧ ∀ e, (t.engine e).newImage = false))

/-- R141, R163 to R167, R175 to R179, R182: epochs and budgets, the operations of a die, its suspends and pauses, and the transfers of a
channel bus. -/
def Obligations.DieScheduling : Prop :=
  -- EPOCH_START
  (∀ s : State, s.awake = true → s.mode.base ≠ .flush →
    ∃ t, exec .epochStart s = .next t ∧ t.sched.epoch = (s.sched.epoch + 1) % 4294967296 ∧ t.mode.psInForce = s.mode.psNext ∧
      t.mode.maintStopped = (s.mode.maintEntry || decide (s.mode.base = .maintenance)) ∧ t.nss = s.nss ∧ t.sec = s.sec)
  -- a port's part of it: the division of the budget, and a port whose link is down
  ∧ (∀ (s : State) (p b : Nat), p < 2 → b = s.portBudget →
    ((s.port p).linkUp = false → (s.portEpoch p).portPool p = { upkeep := b } ∧ (s.portEpoch p).sched.credit = s.sched.credit) ∧
    ((s.port p).linkUp = true → ∃ spill, (s.portEpoch p).portPool p =
      { upkeep := b * s.upkeepShare / 100, crisp := b * s.cfg 0x4000 4 / 100, bulk := b * s.cfg 0x4000 5 / 100,
        standard := b - b * s.upkeepShare / 100 - b * s.cfg 0x4000 4 / 100 - b * s.cfg 0x4000 5 / 100, spill := spill }) ∧
    (∀ n, (s.port p).linkUp = true → s.eligible p 0 = [n] → 0 < s.share n →
      (s.portEpoch p).credit n = min (s.credit n + ((b * s.cfg 0x4000 4 / 100 : Nat) : Int))
        ((s.cfg 0x4000 9 * (b * s.cfg 0x4000 4 / 100) : Nat) : Int)))
  -- DIE_DESCRIPTOR_ARRIVAL
  ∧ (∀ (s : State) (ch pos : Nat) (op : DieOp), s.lunServes ch pos = true →
    ((s.lun ch pos).running = none ∨ op.kind ≠ .read ∨ op.cls ≠ 0 →
      ∃ u : State, exec (.dieDescriptorArrival ch pos op) s = .next (u.woad ch pos) ∧
        (u.lun ch pos).queue = (s.lun ch pos).queue ++ [⟨op, s.aon.now, s.dieDue op⟩]) ∧
    (∀ r, op.kind = .read → op.cls = 0 → (s.lun ch pos).running = some r → r.w.op.kind ≠ .read →
      (s.suspendLimit r.w.op.kind ≤ r.suspends → ∃ u : State, exec (.dieDescriptorArrival ch pos op) s = .next (u.woad ch pos) ∧
        (u.lun ch pos).running = some r ∧ u.sched.spentWaits = satAdd 32 s.sched.spentWaits 1 ∧
        u.regs.schStatus = s.regs.schStatus ||| 0x800#32) ∧
      (r.suspends < s.suspendLimit r.w.op.kind → s.elapsed r.resumedAt (qUsec (s.pf 0x10)) = true →
        ∃ u : State, exec (.dieDescriptorArrival ch pos op) s = .next ((u.woad ch pos).woad ch pos) ∧ (u.lun ch pos).running = none ∧
          (u.lun ch pos).suspended = some { r with suspends := r.suspends + 1, busy := r.busy + (s.aon.now - r.resumedAt),
                                                   suspendedAt := s.aon.now } ∧
          u.sched.suspends = satAdd 64 s.sched.suspends 1 ∧ Out.dieCommand ch pos "suspend" ∈ u.out) ∧
      (r.suspends < s.suspendLimit r.w.op.kind → s.elapsed r.resumedAt (qUsec (s.pf 0x10)) = false →
        ∃ u : State, exec (.dieDescriptorArrival ch pos op) s = .next (u.woad ch pos) ∧ (u.lun ch pos).running = some r ∧
          (u.lun ch pos).suspendWanted = true)))
  -- SUSPEND_MIN_RUN_REACHED, SUSPEND_LIMIT_REACHED
  ∧ (∀ (s : State) (ch pos : Nat) (r : RunOp), (s.lun ch pos).suspendWanted = true → (s.lun ch pos).running = some r →
    (s.lun ch pos).queue.any WaitOp.crispRead = true →
    ∃ u : State, exec (.suspendMinRunReached ch pos) s = .next (u.woad ch pos) ∧ (u.lun ch pos).running = none ∧
      (u.lun ch pos).suspended = some { r with suspends := r.suspends + 1, busy := r.busy + (s.aon.now - r.resumedAt),
                                               suspendedAt := s.aon.now } ∧
      (u.lun ch pos).suspendWanted = false ∧ u.sched.suspends = satAdd 64 s.sched.suspends 1)
  ∧ (∀ (s : State) (ch pos : Nat) (r : RunOp), (s.lun ch pos).suspended = some r → (s.lun ch pos).running = none →
    (s.lun ch pos).pausedUntil = none → (s.lun ch pos).failed = false → (s.lun ch pos).resetPending = false →
    (s.chan ch).st = .running → (s.chan ch).retraining = false →
    ∃ t, exec (.suspendLimitReached ch pos) s = .next t ∧ (t.lun ch pos).suspended = none ∧
      (t.lun ch pos).running = some { r with resumedAt := s.aon.now } ∧ Out.dieCommand ch pos "resume" ∈ t.out)
  -- DIE_OPERATION_COMPLETE
  ∧ (∀ (s : State) (ch pos q busy : Nat) (ok : Bool) (r : RunOp), (s.lun ch pos).running = some r → q = pauseQuarters (s.stepOf ch) →
    busy = r.busy + (s.aon.now - r.resumedAt) →
    (r.w.op.kind ≠ .read → ∃ u : State, exec (.dieOperationComplete ch pos ok) s = .next (u.woadFreed ch pos) ∧
      (u.lun ch pos).running = none ∧ (u.lun ch pos).pausedUntil = (if q = 0 then none else some (s.aon.now + q * busy / 4)) ∧
      (u.chan ch).programFails = (if ok = false ∧ r.w.op.kind = .program then satAdd 32 (s.chan ch).programFails 1
        else (s.chan ch).programFails) ∧
      (u.chan ch).eraseFails = (if ok = false ∧ r.w.op.kind = .erase then satAdd 32 (s.chan ch).eraseFails 1
        else (s.chan ch).eraseFails)) ∧
    (r.w.op.kind = .read → r.joined = [] → ∃ u : State, exec (.dieOperationComplete ch pos ok) s = .next (u.woadFreed ch pos) ∧
      (u.lun ch pos).running = none ∧ (u.lun ch pos).pausedUntil = (if q = 0 then none else some (s.aon.now + q * busy / 4)) ∧
      Tbl.get 0 (u.sb (pos * s.blocksPerLun + r.w.op.block)).reads ch =
        satAdd 32 (Tbl.get 0 (s.sb (pos * s.blocksPerLun + r.w.op.block)).reads ch) 1 ∧
      (∀ b, (s.chan ch).busActive = some b → (u.chan ch).busActive = some b ∧
        (u.chan ch).busWait = (s.chan ch).busWait ++ [⟨false, r.w.op.cls, r.w.due, r.w.op.owner⟩]) ∧
      ((s.chan ch).busActive = none → (u.chan ch).busActive = some ⟨false, r.w.op.cls, r.w.due, r.w.op.owner⟩)))
  -- THERMAL_PAUSE_END
  ∧ (∀ (s : State) (ch pos : Nat), (s.lun ch pos).pausedUntil.isSome = true →
    ∃ u : State, exec (.thermalPauseEnd ch pos) s = .next (u.woad ch pos) ∧ (u.lun ch pos).pausedUntil = none ∧
      (u.lun ch pos).queue = (s.lun ch pos).queue)
  -- BUS_TRANSFER_COMPLETE
  ∧ (∀ (s : State) (ch : Nat), (s.chan ch).busActive.isSome = true →
    ((s.chan ch).retrainWanted = true → ∃ t, exec (.busTransferComplete ch) s = .next t ∧ (t.chan ch).busActive = none ∧
      (t.chan ch).retraining = true ∧ (t.chan ch).busWait = (s.chan ch).busWait) ∧
    ((s.chan ch).retrainWanted = false → (s.chan ch).busWait = [] →
      ∃ t, exec (.busTransferComplete ch) s = .next t ∧ (t.chan ch).busActive = none) ∧
    ((s.chan ch).retrainWanted = false → (s.chan ch).busWait ≠ [] →
      ∃ t x, exec (.busTransferComplete ch) s = .next t ∧ (t.chan ch).busActive = some x ∧ x ∈ (s.chan ch).busWait ∧
        (t.chan ch).busWait = (s.chan ch).busWait.erase x ∧
        (∀ y ∈ (s.chan ch).busWait, x.cls < y.cls ∨ (x.cls = y.cls ∧ x.due ≤ y.due)) ∧ Out.busTransfer ch x.program ∈ t.out))

/-- R15, R17, R18, R23, R24, R184 to R189, R443: the aging of the arbiters, the clock islands, the engines and the measurements. -/
def Obligations.IslandsAndEngines : Prop :=
  -- ARBITER_AGING_LIFT
  (∀ (s : State) (a b : Nat), s.awake = true → (a, b) ∉ s.sched.lifted →
    ∃ t, exec (.arbiterAgingLift a b) s = .next t ∧ t.sched.lifted = s.sched.lifted ++ [(a, b)] ∧ t.sched.credit = s.sched.credit)
  -- ISLAND_CLOCK_GATE_IDLE, ISLAND_POWER_GATE_IDLE, ISLAND_WAKE, POWER_GATE_ENTRY_COMPLETE
  ∧ (∀ (s : State) (i : Nat), s.awake = true → i < 48 →
    ((s.island i).st = .running → (s.island i).entering = false → s.islandIdle i = true →
      ∃ t, exec (.islandClockGateIdle i) s = .next t ∧ (t.island i).st = .clockGated ∧ (∀ j, j ≠ i → t.island j = s.island j)) ∧
    ((s.island i).st = .running ∨ (s.island i).st = .clockGated → (s.island i).entering = false →
      (s.entryBoundary 0x4002 1).mayGate i = true →
      ∃ t, exec (.islandPowerGateIdle i) s = .next t ∧ (t.island i).entering = true ∧ (t.island i).st = (s.island i).st ∧
        (∀ j, j ≠ i → t.island j = s.island j)) ∧
    ((s.entryBoundary 0x4002 1).mayGate i = false → ∃ t, exec (.islandPowerGateIdle i) s = .next t ∧ t.islands = s.islands))
  ∧ (∀ (s : State) (i : Nat) (past late : Bool), s.awake = true → i < 48 → (s.island i).failed = false →
    ((s.island i).entering = true → past = true → ∃ t, exec (.islandWake i past late) s = .next t ∧
      (t.island i).wakeAfter = true ∧ (t.island i).entering = true) ∧
    ((s.island i).entering = true → past = false → ∃ t, exec (.islandWake i past late) s = .next t ∧
      (t.island i).st = .running ∧ (t.island i).entering = false) ∧
    ((s.island i).entering = false → (s.island i).st = .clockGated ∨ (s.island i).st = .powerGated →
      ∃ t, exec (.islandWake i past late) s = .next t ∧ (t.island i).st = .running ∧
        t.sched.pgWakes = (if (s.island i).st = .powerGated ∧ i < 8 then satAdd 64 s.sched.pgWakes 1 else s.sched.pgWakes) ∧
        t.regs.pwrEvent = (if late then s.regs.pwrEvent ||| 8#32 else s.regs.pwrEvent)))
  ∧ (∀ (s : State) (i : Nat), (s.island i).entering = true →
    ∃ t, exec (.powerGateEntryComplete i) s = .next t ∧ (t.island i).entering = false ∧
      (t.island i).st = (if (s.island i).wakeAfter then .running else if s.mode.psInForce = 4 ∧ s.islandIdle i = true then .off
        else .powerGated))
  -- ENGINE_EVENT, ENGINE_EVENT_TIMEOUT, ENGINE_FAILED
  ∧ (∀ (s : State) (e k : Nat) (l : List Nat), s.awake = true → (s.engine e).failed = false → (s.engine e).events = k :: l →
    ∃ t, exec (.engineEvent e) s = .next t ∧ (t.engine e).events = l ∧ (t.engine e).running = none ∧ (t.engine e).commitBuf = [] ∧
      (∀ j, j ≠ e → t.engine j = s.engine j))
  ∧ (∀ (s : State) (e owner : Nat) (x : Instr), s.awake = true → e < Config.engines → (s.engine e).failed = false →
    owner = ((s.engine e).servesFor).getD e →
    (x = .engineEventTimeout e ∧ (s.engine e).events ≠ []) ∨ x = .engineFailed e →
    ∃ t, exec x s = .next t ∧ (t.engine e).failed = true ∧
      (∀ r l, owner < 120 → s.freeSpares.filter (fun k => k != e) = r :: l → (t.engine e).events = [] ∧
        (t.engine r).servesFor = some owner ∧ (t.engine r).events = (s.engine e).events ∧ (t.engine owner).movedTo = some r))
  -- MEASUREMENT_INTERVAL_END
  ∧ (∀ s : State, s.awake = true →
    ∃ t, exec .measurementIntervalEnd s = .next t ∧
      t.sched.p9999 = (if 20000000 < s.sched.completions then 0 else p9999Of s.sched.samples) ∧ t.sched.samples = [] ∧
      t.sched.completions = 0 ∧
      (∀ ch, ch < Config.channels → (s.chan ch).st = .running ∨ (s.chan ch).st = .reduced →
        (t.chan ch).busPct = min 100 ((s.chan ch).busyNs / 10000000) ∧ (t.chan ch).busyNs = 0))

/-- R177, R390: what Woad does at a LUN that is idle or has an operation suspended, on a channel that serves. It chooses among the
waiting operations that the limits of the power state in force let start. -/
def Obligations.WoadChooses : Prop :=
  ∀ (s w : State) (ch pos : Nat) (l : Lun) (q : List WaitOp), w = s.boundary 0x4001 → l = w.lun ch pos →
    q = l.queue.filter (fun x => w.psMay ch pos x.op.kind) → l.running = none → l.pausedUntil = none →
    l.failed = false → l.resetPending = false → (w.chan ch).st = .running → (w.chan ch).retraining = false →
    -- a suspended operation resumes
    (∀ r, l.suspended = some r →
      l.limitHit = true ∨ w.elapsed r.suspendedAt (qUsec (w.pf 0x11) * 9 / 10) = true ∨ w.cfg 0x4001 3 ≤ l.windowReads ∨
        (∀ x ∈ q, x.crispRead = false) →
      ((s.woad ch pos).lun ch pos).running = some { r with resumedAt := w.aon.now } ∧
      ((s.woad ch pos).lun ch pos).suspended = none ∧ ((s.woad ch pos).lun ch pos).queue = l.queue) ∧
    -- an overdue read of another class, after RUN_LIMIT Crisp reads
    (∀ x ∈ q, l.suspended = none → w.cfg 0x4001 3 ≤ l.crispSince → x.op.kind = .read → x.op.cls ≠ 0 → x.due < w.aon.now →
      ∃ r, ((s.woad ch pos).lun ch pos).running = some r ∧ r.w ∈ q ∧ r.w.op.kind = .read ∧ r.w.op.cls ≠ 0 ∧
        r.w.due ≤ x.due ∧ ((s.woad ch pos).lun ch pos).crispSince = 0 ∧
        (s.woad ch pos).sched.overdueIssues = satAdd 64 w.sched.overdueIssues 1) ∧
    -- a Crisp read
    (∀ x ∈ q, l.suspended = none → x.crispRead = true →
      (∀ y ∈ q, y.op.kind = .read → y.op.cls ≠ 0 → w.aon.now ≤ y.due) →
      ∃ r, ((s.woad ch pos).lun ch pos).running = some r ∧ r.w ∈ q ∧ r.w.crispRead = true ∧ r.w.due ≤ x.due ∧
        (∀ y ∈ r.joined, y ∈ q ∧ y.crispRead = true ∧ y.op.block = r.w.op.block ∧ y.op.page = r.w.op.page ∧
          y.op.plane ≠ r.w.op.plane) ∧ r.w ∉ ((s.woad ch pos).lun ch pos).queue) ∧
    -- no Crisp read: an overdue operation before all others, else the highest class and in it the earliest deadline
    (∀ x ∈ q, l.suspended = none → l.crispSince < w.cfg 0x4001 3 → (∀ y ∈ q, y.crispRead = false ∧ y.op.cls < 4) →
      ∃ r, ((s.woad ch pos).lun ch pos).running = some r ∧ r.w ∈ q ∧ r.joined = [] ∧
        (x.due < w.aon.now → r.w.due ≤ x.due) ∧
        ((∀ y ∈ q, w.aon.now ≤ y.due) → r.w.op.cls < x.op.cls ∨ (r.w.op.cls = x.op.cls ∧ r.w.due ≤ x.due))) ∧
    -- nothing may start
    (q = [] → l.suspended = none → s.woad ch pos = w)

/-- R30, R246 to R252, R262 to R264, R267, R268: programs and erases end well or badly, and the end of an open row's hold. -/
def Obligations.ProgramsAndErases : Prop :=
  -- PROGRAM_COMPLETE: a page of moves, a page that failed, a parity page that ends its row, and the program of a zone's unit
  (∀ (s w : State) (id : Nat) (p : Prog) (ok : Bool), s.prog id = p → p.live = true →
    w = { s with media := { s.media with progs := Tbl.erase id s.media.progs } }.startRecord →
    ∃ u : State, exec (.programComplete id ok) s = .next (((((u.mediaPump.parityWatch).spareCheck).critWatch s).rowAgain p ok).settleWatch) ∧
      u.recov.startAppended = true ∧
      (p.kind ≠ .parity → p.kind ≠ .zoneData → ok = true → (∀ i ∈ p.items, i.fromBuf = false) →
        u.media.moved = w.media.moved ++ p.items) ∧
      (p.kind ≠ .parity → p.kind ≠ .zoneData → ok = true → ∀ i, p.items = [i] → i.fromBuf = true →
        i.src ∈ w.wbuf.blks.map (fun x => x.1) → (w.wblk i.src).programmed = false → (u.wblk i.src).program = some i.dest) ∧
      (p.kind ≠ .parity → ok = false → p.items ≠ [] → p.ch ∈ (u.sb p.sb).absentCh) ∧
      (p.kind = .parity → p.page ≠ 1 → ok = true → (w.sb p.sb).parityLeft = 1 → (w.sb p.sb).row ≠ [] → (w.sb p.sb).filler = false →
        (u.sb p.sb).rows = (w.sb p.sb).rows + 1 ∧ (u.sb p.sb).row = [] ∧ (u.sb p.sb).parityLeft = 0 ∧
        (u.sb p.sb).st = (if w.wordlines ≤ (w.sb p.sb).rows + 1 then .closed else (w.sb p.sb).st)) ∧
      (p.kind = .zoneData → ok = true → ∀ i, p.items = [i] → i.src ∈ w.wbuf.blks.map (fun x => x.1) →
        (u.wblk i.src).program = some i.dest) ∧
      (p.kind = .zoneData → ok = false → ∀ i l, p.items = i :: l → p.page ∉ (u.zone i.nsid (i.lba / s.zsize i.nsid)).units))
  -- ERASE_COMPLETE: of an allocation, and of a Block Erase
  ∧ (∀ (s : State) (k ch : Nat) (ok : Bool), ch ∈ (s.sb k).erasing → s.sec.sanRunning ≠ 2 →
    ∃ u : State, exec (.eraseComplete k ch ok) s = .next (((u.mediaPump.spareCheck).critWatch s).settleWatch) ∧
      (ok = true → s.allocatable k = true → (u.sb k).erasing = (s.sb k).erasing.filter (fun c => c != ch) ∧ (u.sb k).st = (s.sb k).st) ∧
      (ok = true → (s.sb k).erasing = [ch] → s.allocatable k = false → (u.sb k).st = .free ∧ (u.sb k).wear = (s.sb k).wear) ∧
      (ok = false → ch ∈ (u.sb k).absentCh))
  ∧ (∀ (s : State) (k ch : Nat) (ok : Bool), s.sec.sanRunning = 2 → s.mode.base = .maintenance → s.sanitizeLeft k ch = true →
    ∃ u : State, exec (.eraseComplete k ch ok) s = .next ((u.spareCheck.critWatch s).settleWatch) ∧
      (ok = true → u.sec.sanRunning = 2 → (k, ch) ∈ u.sec.sanErased) ∧ (ok = false → ch ∈ (u.sb k).absentCh) ∧
      (ok = true → u.sec.sanRunning ≠ 2 → u.sec.sanitizes = satAdd 32 s.sec.sanitizes 1))
  -- ROW_HOLD_EXPIRY: an SLC row and a zone row
  ∧ (∀ (s w : State) (k : Nat), w = s.boundary 0x6402 → w.inService = true → w.elapsed (w.sb k).rowSince (w.cfg 0x6402 6 * usec) = true →
    ((w.sb k).kind = .slc → (w.sb k).row ≠ [] → (w.sb k).row.length < w.rowPages k →
      ∃ t, exec (.rowHoldExpiry k) s = .next t ∧ (t.sb k).row.length = w.rowPages k ∧ (∀ p ∈ (t.sb k).row, p.started = true) ∧
        t.map = w.map) ∧
    ((w.sb k).kind = .zone → w.uncovered k ≠ [] →
      ∃ t, exec (.rowHoldExpiry k) s = .next t ∧ t.prog w.media.nextProg =
        { live := true, kind := .parity, sb := k, ch := (w.parityOf k).headD 0, page := 1, items := w.uncovered k } ∧
        t.media.nextProg = w.media.nextProg + 1))

/-- R253 to R260, R264, R269, R293: folding, garbage collection, wear levelling, closures, refresh, patrol and rebuild. -/
def Obligations.MediaTasks : Prop :=
  -- FOLD_TASK, FOLD_IDLE_TIMER
  (∀ (s w : State) (k : Nat), w = s.boundary 0x6402 → w.upkeepMay = true → w.foldMay = true → w.foldOrder.head? = some k →
    (w.sb k).st = .closed →
    ∃ u : State, exec (.foldTask k) s = .next u.mediaPump ∧ (u.sb k).st = .draining ∧ (u.sb k).row = (w.sb k).row ∧ u.map = w.map)
  ∧ (∀ s : State, s.upkeepMay = true → s.media.folding = false → s.slcUsed ≠ 0 → s.elapsed s.pool.lastWriteAt 10000000000 = true →
    ∃ t, exec .foldIdleTimer s = .next t ∧ t.media.folding = true ∧ t.media.sbs = s.media.sbs)
  -- GC_TASK, and the victim that it takes
  ∧ (∀ (s w : State) (g k : Nat), w = s.boundary 0x6402 → w.upkeepMay = true → g < w.groupCount → w.gcTerm g ≠ 0 →
    w.gcVictim g = some k →
    (∀ x ∈ w.media.sbs, w.gcCandidate g x.1 x.2 = true → ∃ y ∈ w.media.sbs, y.1 = k ∧ w.gcCandidate g y.1 y.2 = true ∧
      (y.2.valid < x.2.valid ∨ (y.2.valid = x.2.valid ∧ y.2.closedAt ≤ x.2.closedAt))) ∧
    ((w.sb k).kind = .dense → (w.sb k).st = .closed →
      ∃ u : State, exec (.gcTask g) s = .next u.mediaPump ∧ (u.sb k).st = .draining ∧ u.map = w.map) ∧
    ((w.sb k).kind = .zone → exec (.gcTask g) s = .next ((w.forEach
      ((w.zonesIn k).filter (fun z => (List.range w.planes).any (fun q => w.laneSparse k q && w.zoneInLane k q z)))
      (fun z v => v.zoneRelocate z.1 z.2 (fun j => j == k))).mediaPump)))
  -- WEAR_LEVEL_HOURLY
  ∧ (∀ s w : State, w = s.boundary 0x6402 → w.upkeepMay = true → w.elapsed w.media.wearChecked hour = true →
    ∃ u : State, exec .wearLevelHourly s = .next u.mediaPump ∧ u.media.wearChecked = w.aon.now ∧
      (w.wearSpread = false → u.media.sbs = w.media.sbs) ∧ (∀ k x, w.wearSource = some (k, x) → ∀ y ∈ w.media.sbs, y.2.st = .closed →
        y.2.kind = .dense ∨ y.2.kind = .slc ∨ y.2.kind = .zone → x.wear ≤ y.2.wear))
  -- IDLE_CLOSURE
  ∧ (∀ (s : State) (k : Nat), s.upkeepMay = true → s.closable_ k = true →
    s.elapsed (s.sb k).lastProgram (s.pf 0x1A * Machine.sec / 2) = true →
    ∃ u : State, exec (.idleClosure k) s = .next u.mediaPump ∧ u.media.fillerCloses = satAdd 32 s.media.fillerCloses 1 ∧
      ((s.sb k).kind ≠ .zone → (s.sb k).row = [] → (u.sb k).st = .closed ∧ (u.sb k).rows = s.wordlines ∧ (u.sb k).closedAt = s.aon.now) ∧
      ((s.sb k).kind ≠ .zone → (s.sb k).row ≠ [] → (u.sb k).filler = true ∧ (u.sb k).st = (s.sb k).st) ∧
      ((s.sb k).kind = .zone → (u.sb k).st = (s.sb k).st ∧
        ∀ q, q < s.planes → s.laneHeld k q = false → Tbl.get 0 (u.sb k).laneRow q = s.wordlines))
  -- REFRESH_TASK, PATROL_VISIT
  ∧ (∀ (s : State) (k : Nat), s.upkeepMay = true → (s.sb k).refreshQueued = true →
    ∃ u : State, exec (.refreshTask k) s = .next u.mediaPump ∧ (u.sb k).refreshQueued = false ∧
      ((s.sb k).kind ≠ .zone → (s.sb k).st = .closed → (u.sb k).st = .draining ∧ u.map = s.map) ∧
      u.media.readRefreshes = (if (s.sb k).refreshRaised then satAdd 64 s.media.readRefreshes 1 else s.media.readRefreshes))
  ∧ (∀ (s w : State) (k ch bits n limit : Nat) (failed hit : Bool), w = s.boundary 0x6402 → w.upkeepMay = true → (w.sb k).st ≠ .free →
    ch ∈ w.members k → n = satAdd 32 (Tbl.get 0 (w.sb k).reads ch) (w.cfg 0x6402 0x0A) →
    limit = (if w.sbBits k = 1 then w.pf 0x19 else w.pf 0x18) →
    hit = (limit != 0 && decide (limit ≤ n) && !(w.sb k).refreshRaised) →
    ∃ t, exec (.patrolVisit k ch bits failed) s = .next t ∧
      Tbl.get 0 (t.sb k).reads ch = n ∧ (t.sb k).refreshRaised = ((w.sb k).refreshRaised || hit) ∧
      (t.sb k).refreshQueued = ((w.sb k).refreshQueued || hit || failed || decide (w.pf 0x1B ≤ bits)) ∧
      t.media.patrolRefreshes = (if failed = true ∨ w.pf 0x1B ≤ bits
        then satAdd 64 w.media.patrolRefreshes (if ((w.sb k).refreshQueued || hit) = true then 0 else 1) else w.media.patrolRefreshes) ∧
      ((k, ch) ∈ t.media.patrolSeen ∨ t.media.patrolSeen = []))
  -- REBUILD_TASK
  ∧ (∀ s w v : State, w = s.boundary 0x6402 → w.upkeepMay = true → w.media.rebuildState = 1 → v = w.rebuildLost.rebuildStep.mediaPump →
    (v.rebuilt = true → ∃ u : State, exec .rebuildTask s = .next (u.critWatch w) ∧ u.media.rebuildState = 2 ∧ u.media.degraded = false ∧
      u.media.rebuildLeft = 0 ∧ u.regs.medEvent = v.regs.medEvent ||| 0x20#32) ∧
    (v.rebuilt = false → ∃ u : State, exec .rebuildTask s = .next (u.critWatch w) ∧ u.media.rebuildState = v.media.rebuildState ∧
      u.media.rebuildLeft = v.lostGranules))

/-- R265, R311 to R313, R315: a codeword that a block of a command waits for, from its first hard decode to the answer of step 5. -/
def Obligations.ReadEscalation : Prop :=
  (∀ (s : State) (tag blk bits l : Nat) (ok directed : Bool) (data : List Byte), s.readWaits tag blk = some l →
    -- steps 1 and 2: a codeword that decodes and is the one sought
    (s.stepNow tag blk l ≤ 2 → ok = true → directed = true →
      ∃ u : State, exec (.hardDecodeDone tag blk bits ok directed data) s = .next (if (s.blk tag blk).mode = 0 then u.readEnd l else u) ∧
        ((s.blk tag blk).mode = 0 → (u.blk tag blk).ready = true ∧
          (u.blk tag blk).data = data.take (data.length - s.infoBytes (s.tag tag).sqe.nsid)) ∧
        ((s.blk tag blk).mode ≠ 0 → (u.blk tag blk).coded = data.take (data.length - s.infoBytes (s.tag tag).sqe.nsid)) ∧
        (u.chan (s.locChannel l)).codewords = satAdd 64 (s.chan (s.locChannel l)).codewords 1 ∧
        (u.chan (s.locChannel l)).correctedBits = satAdd 64 (s.chan (s.locChannel l)).correctedBits bits ∧
        (u.sb (s.locSb l)).refreshQueued = ((s.sb (s.locSb l)).refreshQueued || decide (s.pf 0x1B ≤ bits)) ∧
        u.media.recovered = (if 2 ≤ s.stepNow tag blk l then satAdd 64 s.media.recovered 1 else s.media.recovered)) ∧
    -- a failed decode takes the next retry setting, and after the last one the soft path
    (s.stepNow tag blk l ≤ 2 → ok = false → (s.blk tag blk).tries < s.retryEntries →
      ∃ t, exec (.hardDecodeDone tag blk bits ok directed data) s = .next t ∧ (t.blk tag blk).escalation = 2 ∧
        (t.blk tag blk).tries = (s.blk tag blk).tries + 1 ∧
        (t.chan (s.locChannel l)).hardFails = satAdd 64 (s.chan (s.locChannel l)).hardFails 1) ∧
    (s.stepNow tag blk l ≤ 2 → ok = false → s.retryEntries ≤ (s.blk tag blk).tries →
      s.cmp.softFailed.length < 8 →
      ∃ u : State, exec (.hardDecodeDone tag blk bits ok directed data) s = .next (u.softPump 8) ∧ (u.blk tag blk).escalation = 3 ∧
        u.cmp.softQueue = s.cmp.softQueue ++ [(tag, blk, s.aon.now)] ∧
        (u.chan (s.locChannel l)).softDecodes = satAdd 64 (s.chan (s.locChannel l)).softDecodes 1) ∧
    -- a codeword that decodes but names another block
    (s.stepNow tag blk l ≤ 2 → ok = true → directed = false → bits < s.pf 0x1B → (s.blk tag blk).wrong = false →
      (s.lun (s.locChannel l) (s.locPos l)).failRun < 63 → (s.blk tag blk).tries < s.retryEntries →
      ∃ t, exec (.hardDecodeDone tag blk bits ok directed data) s = .next t ∧ (t.blk tag blk).wrong = true ∧
        (t.blk tag blk).escalation = 2 ∧ (t.chan (s.locChannel l)).misdirected = satAdd 32 (s.chan (s.locChannel l)).misdirected 1 ∧
        (t.lun (s.locChannel l) (s.locPos l)).failRun = (s.lun (s.locChannel l) (s.locPos l)).failRun + 1) ∧
    -- step 4: the reconstruction, and what step 5 answers
    (s.stepNow tag blk l = 4 → ok = true → directed = true →
      ∃ u : State, exec (.hardDecodeDone tag blk bits ok directed data) s = .next (if (s.blk tag blk).mode = 0 then u.readEnd l else u) ∧
        ((s.blk tag blk).mode = 0 → (u.blk tag blk).ready = true) ∧ u.media.recovered = satAdd 64 s.media.recovered 1 ∧
        (u.sb (s.locSb l)).refreshQueued = true) ∧
    (s.stepNow tag blk l = 4 → ok = false ∨ directed = false →
      ∃ u : State, exec (.hardDecodeDone tag blk bits ok directed data) s = .next ((u.commitTag tag ⟨2, 0x81⟩).readEnd l) ∧
        (u.blk tag blk).failed = true ∧ u.media.unrecovered = satAdd 64 s.media.unrecovered 1 ∧
        u.regs.medEvent = s.regs.medEvent ||| 0x10#32))
  -- step 3
  ∧ (∀ (s : State) (tag blk l : Nat) (ok : Bool) (data : List Byte), (tag, blk) ∈ s.cmp.softRun → s.readWaits tag blk = some l →
    (ok = true → ∃ u : State, exec (.softDecodeDone tag blk ok data) s = .next (if (s.blk tag blk).mode = 0 then u.readEnd l else u) ∧
      ((s.blk tag blk).mode = 0 → (u.blk tag blk).ready = true) ∧ u.media.recovered = satAdd 64 s.media.recovered 1 ∧
      (u.sb (s.locSb l)).refreshQueued = true) ∧
    (ok = false → s.cmp.parityFailed = false → (s.blk tag blk).wrong = false → (s.lun (s.locChannel l) (s.locPos l)).failRun < 63 →
      ∃ t, exec (.softDecodeDone tag blk ok data) s = .next t ∧ (t.blk tag blk).escalation = 4 ∧
        (t.lun (s.locChannel l) (s.locPos l)).failRun = (s.lun (s.locChannel l) (s.locPos l)).failRun + 1) ∧
    (ok = false → s.cmp.parityFailed = false → (s.blk tag blk).wrong = true →
      ∃ t, exec (.softDecodeDone tag blk ok data) s = .next t ∧ (t.blk tag blk).escalation = 4 ∧ t.luns = s.luns))

/-- R303 to R309, R315 to R318, R320: training and retraining of a channel, the timeout of a LUN and its reset, and the failure of a LUN
or a channel. -/
def Obligations.ChannelCommands : Prop :=
  -- CHANNEL_TRAINING_RESULT: passed, failed with a lower rate left
  (∀ (s : State) (ch : Nat), (s.chan ch).st = .training →
    (∃ u : State, exec (.channelTrainingResult ch true) s = .next (u.woadAll ch) ∧
      (u.chan ch).st = (if (s.chan ch).rate = s.pf 0x31 then .running else .reduced) ∧
      (u.chan ch).trainings = satAdd 32 (s.chan ch).trainings 1 ∧ (u.chan ch).retraining = false ∧ (u.chan ch).trainedAt = s.aon.now ∧
      (u.chan ch).trainedTempQ = s.chanTempQ ch ∧ ((s.chan ch).rate ≠ s.pf 0x31 → ch < Config.channels → u.mode.sustain.testBit 3 = true)) ∧
    (s.pf 0x32 < (s.chan ch).rate → lowerRate (s.chan ch).rate ≠ 0 →
      ∃ t, exec (.channelTrainingResult ch false) s = .next t ∧ (t.chan ch).rate = lowerRate (s.chan ch).rate ∧
        (t.chan ch).st = .training ∧ (∀ c, c ≠ ch → t.chan c = s.chan c)))
  -- SEQUENCER_PARITY_ERROR: the first within an hour
  ∧ (∀ (s : State) (ch : Nat) (zq : Bool), s.chanServes ch = true ∨ (s.chan ch).st = .training →
    (if zq then (s.chan ch).zqTimes else (s.chan ch).parityTimes).any (fun t => !s.elapsed t hour) = false →
    ∃ t, exec (.sequencerParityError ch zq) s = .next t ∧ (t.chan ch).st = (s.chan ch).st ∧
      (if zq then (t.chan ch).zqTimes else (t.chan ch).parityTimes) = [s.aon.now] ∧ t.luns = s.luns)
  -- RETRAIN_HOURS_TIMER, RETRAIN
  ∧ (∀ (s : State) (ch : Nat) (x : Instr), s.chanServes ch = true → (s.chan ch).retraining = false →
    (x = .retrain ch) ∨ (x = .retrainHoursTimer ch ∧ (s.chan ch).retrainWanted = false ∧
      s.elapsed (s.chan ch).trainedAt (s.pf 0x3A * hour) = true) →
    ∃ t, exec x s = .next t ∧ (t.chan ch).retrainWanted = true ∧ (t.chan ch).retraining = (s.chan ch).busActive.isNone ∧
      (t.chan ch).busActive = (s.chan ch).busActive ∧ (t.chan ch).busWait = (s.chan ch).busWait ∧ t.luns = s.luns)
  -- RETRAIN_STEP_DONE
  ∧ (∀ (s : State) (ch : Nat) (last : Bool), (s.chan ch).retraining = true →
    (∃ t, exec (.retrainStepDone ch false last) s = .next t ∧ (t.chan ch).st = .training ∧ (t.chan ch).retraining = false ∧
      (t.chan ch).retrainWanted = false) ∧
    (∃ u : State, exec (.retrainStepDone ch true true) s = .next ((u.woadAll ch).busNext ch) ∧ (u.chan ch).retraining = false ∧
      (u.chan ch).retrainWanted = false ∧ (u.chan ch).trainings = satAdd 32 (s.chan ch).trainings 1) ∧
    ((s.chan ch).busWait = [] → exec (.retrainStepDone ch true false) s = .next s) ∧
    ((s.chan ch).busWait ≠ [] → (s.chan ch).busActive = none →
      ∃ t x, exec (.retrainStepDone ch true false) s = .next t ∧ (t.chan ch).retraining = false ∧ (t.chan ch).busActive = some x ∧
        pickXfer (s.chan ch).busWait = some x ∧ (t.chan ch).busWait = (s.chan ch).busWait.erase x ∧
        (t.chan ch).retrainWanted = (s.chan ch).retrainWanted))
  -- RB_N_HINT
  ∧ (∀ (s : State) (ch : Nat), s.chanServes ch = true →
    ∃ t, exec (.rbNHint ch) s = .next t ∧ t.luns = s.luns ∧ t.chans = s.chans ∧
      (∀ p, p < s.positions → (s.lun ch p).running.isSome = true ∨ (s.lun ch p).resetPending = true →
        Out.dieCommand ch p "read status" ∈ t.out))
  -- LUN_BUSY_TIMEOUT: the LUN is reset, and the third within 24 hours fails it
  ∧ (∀ (s : State) (ch pos : Nat), s.lunServes ch pos = true → (s.lun ch pos).resetPending = false → s.busyTooLong ch pos = true →
    (((s.lun ch pos).timeouts.filter (fun t => !s.elapsed t (24 * hour))).length < 2 →
      ∃ t, exec (.lunBusyTimeout ch pos) s = .next t ∧ (t.lun ch pos).resetPending = true ∧ (t.lun ch pos).running = (s.lun ch pos).running ∧
        (t.lun ch pos).timeouts = (s.lun ch pos).timeouts.filter (fun t => !s.elapsed t (24 * hour)) ++ [s.aon.now] ∧
        (t.chan ch).timeouts = satAdd 32 (s.chan ch).timeouts 1 ∧ Out.dieCommand ch pos "reset LUN" ∈ t.out) ∧
    (2 ≤ ((s.lun ch pos).timeouts.filter (fun t => !s.elapsed t (24 * hour))).length →
      ∃ t, exec (.lunBusyTimeout ch pos) s = .next t ∧ (t.lun ch pos).failed = true ∧ (t.lun ch pos).retired = true ∧
        (t.lun ch pos).running = none))
  -- LUN_RESET_CHECK
  ∧ (∀ (s : State) (ch pos : Nat), (s.lun ch pos).resetPending = true →
    s.elapsed ((s.lun ch pos).timeouts.getLastD 0) 10000000 = true →
    ((s.lun ch pos).failed = false → ∃ t, exec (.lunResetCheck ch pos true) s = .next t ∧ (t.lun ch pos).failed = true ∧
      (t.lun ch pos).retired = true ∧ (t.lun ch pos).running = none) ∧
    ((s.lun ch pos).suspended = none → (∀ r, (s.lun ch pos).running = some r → r.w.op.kind ≠ .erase) →
      ∃ u : State, exec (.lunResetCheck ch pos false) s = .next (u.woad ch pos) ∧ (u.lun ch pos).resetPending = false ∧
        (u.lun ch pos).running = none ∧ (u.lun ch pos).queue = (s.lun ch pos).queue) ∧
    (∀ r, (s.lun ch pos).suspended = none → (s.lun ch pos).running = some r → r.w.op.kind = .erase →
      ∃ u : State, exec (.lunResetCheck ch pos false) s = .next ((u.dieArrive ch pos r.w.op).woad ch pos) ∧
        (u.lun ch pos).resetPending = false ∧ (u.lun ch pos).running = none ∧ u.media = s.media))

/-- R315, R317: a read that a LUN's reset ended goes to step 4 of R265. -/
def Obligations.ResetEscalatesReads : Prop :=
  ∀ (s : State) (ch pos tag blk l : Nat) (r : RunOp) (b : BlkRt), (s.lun ch pos).resetPending = true →
    s.elapsed ((s.lun ch pos).timeouts.getLastD 0) 10000000 = true → (s.lun ch pos).suspended = none →
    (s.lun ch pos).running = some r → r.w.op.kind = .read → r.joined = [] → (s.tag tag).mapTaken = true → (s.tag tag).st = .run →
    Tbl.get {} (s.tag tag).blks blk = b → b.src = .flash l → b.unread = true → s.locChannel l = ch → s.locPos l = pos →
    r.w.op.block = s.locBlock l → r.w.op.plane = s.locPlane l → r.w.op.page = s.locPage l →
    ∃ u : State, exec (.lunResetCheck ch pos false) s = .next (u.woad ch pos) ∧ (Tbl.get {} (u.tag tag).blks blk).escalation = 4

/-- R27, R323 to R331, R444, R445: what a lane's result does to a block and to the lane. -/
def Obligations.CompressionUnit : Prop :=
  -- the other residue-checked units: a good result, a first mismatch, the switch to the twin, the twin's second mismatch
  (∀ (s : State) (tag blk lane u : Nat) (c : Coded), 34 ≤ lane → u = lane - 34 →
    (c.residueBad = false → ∃ t, exec (.blockEncodeDone tag blk lane c) s = .next t ∧
      t.cmp.unitMismatch = s.cmp.unitMismatch.filter (fun k => k != u) ∧ t.tags = s.tags) ∧
    (c.residueBad = true → u ∉ s.cmp.unitMismatch → ∃ t, exec (.blockEncodeDone tag blk lane c) s = .next t ∧
      t.cmp.unitMismatch = s.cmp.unitMismatch ++ [u] ∧ t.cmp.twinUsed = s.cmp.twinUsed ∧ t.mode = s.mode) ∧
    (c.residueBad = true → u ∈ s.cmp.unitMismatch → u ∉ s.cmp.twinUsed → ∃ t, exec (.blockEncodeDone tag blk lane c) s = .next t ∧
      t.cmp.twinUsed = s.cmp.twinUsed ++ [u] ∧ t.mode.sustain.testBit 1 = true ∧ t.mode.fatal = s.mode.fatal) ∧
    (c.residueBad = true → u ∈ s.cmp.unitMismatch → u ∈ s.cmp.twinUsed → s.mode.fatal = 0 →
      ∃ t, exec (.blockEncodeDone tag blk lane c) s = .next t ∧ t.mode.fatal = 4 ∧ t.mode.drainWanted = true))
  -- BLOCK_ENCODE_DONE: a good image, one that does not compress or is late
  ∧ (∀ (s : State) (tag blk lane : Nat) (c : Coded), lane < 34 → s.codable tag blk = true → (s.tag tag).mode = 1 →
    s.laneServes lane = true → c.residueBad = false →
    (c.inTime = true → c.image.length ≤ 3072 → slotDecode c.image = some ((s.blk tag blk).data) →
      ∃ t, exec (.blockEncodeDone tag blk lane c) s = .next t ∧ t.cmp.blocksCoded = satAdd 64 s.cmp.blocksCoded 1 ∧
        t.cmp.granulesOut = satAdd 64 s.cmp.granulesOut (slotGranules (slotOf c.image.length)) ∧
        t.cmp.firstMismatch = s.cmp.firstMismatch.filter (fun k => k != lane) ∧
        (∀ p, s.pairFor tag = some p → s.cmp.parityFailed = false → slotOf c.image.length ≠ 3 →
          t.wblk (s.wbuf.next + 1) = { nsid := (s.tag tag).sqe.nsid, lba := (s.tag tag).slba + blk, image := c.image, info := (s.blk tag blk).info, slot := slotOf c.image.length, mode := 1, copyA := true, copyB := true, pair := p, slice := (s.tag tag).slice } ∧ (t.blk tag blk).handle = s.wbuf.next + 1)) ∧
    (c.inTime = false ∨ 3072 < c.image.length → ∃ t, exec (.blockEncodeDone tag blk lane c) s = .next t ∧
      t.cmp.blocksRaw = satAdd 64 s.cmp.blocksRaw 1 ∧
      (∀ p, s.pairFor tag = some p → s.cmp.parityFailed = false →
        (t.wblk (s.wbuf.next + 1)).slot = 3 ∧ (t.wblk (s.wbuf.next + 1)).image = (s.blk tag blk).data)))
  -- a mismatch of a lane: the first is coded again, the second fails the lane, and its half's spare takes over
  ∧ (∀ (s : State) (tag blk lane : Nat) (c : Coded) (x : Instr) (check : Bool), s.laneServes lane = true →
    (x = .blockEncodeDone tag blk lane c ∧ lane < 34 ∧ s.codable tag blk = true ∧ (s.tag tag).mode = 1 ∧
      ((c.residueBad = true ∧ check = false) ∨ (c.residueBad = false ∧ check = true ∧ c.inTime = true ∧ c.image.length ≤ 3072 ∧
        slotDecode c.image ≠ some ((s.blk tag blk).data)))) ∨
    (x = .ocxonCodeDone tag blk lane true c ∧ s.codable tag blk = true ∧ (s.tag tag).mode = 2 ∧ c.residueBad = true ∧ check = false) ∨
    (x = .ocxonCodeDone tag blk lane false c ∧ s.decodable tag blk 2 = true ∧ c.residueBad = true ∧ check = false) →
    (lane ∉ s.cmp.firstMismatch → ∃ t, exec x s = .next t ∧ t.cmp.firstMismatch = s.cmp.firstMismatch ++ [lane] ∧
      t.cmp.residueRetries = satAdd 32 s.cmp.residueRetries 1 ∧ t.cmp.failedLanes = s.cmp.failedLanes ∧ t.tags = s.tags ∧
      t.cmp.checkMismatches = (if check then satAdd 32 s.cmp.checkMismatches 1 else s.cmp.checkMismatches)) ∧
    (lane ∈ s.cmp.firstMismatch → ∃ t, exec x s = .next t ∧ t.cmp.failedLanes = s.cmp.failedLanes ++ [lane] ∧
      t.mode.sustain.testBit 1 = true ∧
      (laneHalfA lane = true → s.cmp.spareA = none → 32 ∉ s.cmp.failedLanes → t.cmp.spareA = some lane ∧ t.cmp.spareB = s.cmp.spareB) ∧
      (laneHalfA lane = false → s.cmp.spareB = none → 33 ∉ s.cmp.failedLanes → t.cmp.spareB = some lane ∧ t.cmp.spareA = s.cmp.spareA)))
  -- SLOT_DECODE_DONE, OCXON_CODE_DONE on the way out: a valid block, and an invalid one
  ∧ (∀ (s : State) (tag blk lane : Nat) (c : Coded) (x : Instr) (dec : List Byte → Option (List Byte)),
    (x = .slotDecodeDone tag blk ∧ s.decodable tag blk 1 = true ∧ s.lanesLeft = true ∧ dec = slotDecode) ∨
    (x = .ocxonCodeDone tag blk lane false c ∧ s.decodable tag blk 2 = true ∧ s.laneServes lane = true ∧ c.residueBad = false ∧
      dec = ocxonDecode) →
    (∀ d, ((s.blk tag blk).slot = 3 ∧ d = (s.blk tag blk).coded) ∨ ((s.blk tag blk).slot ≠ 3 ∧ dec (s.blk tag blk).coded = some d) →
      ∃ u : State, exec x s = .next (match (s.blk tag blk).src with | .flash l => u.readEnd l | _ => u) ∧
        (u.blk tag blk).data = d ∧ (u.blk tag blk).ready = true ∧ u.cmp.slotInvalid = s.cmp.slotInvalid) ∧
    ((s.blk tag blk).slot ≠ 3 → dec (s.blk tag blk).coded = none → ∀ l, (s.blk tag blk).src = .flash l → s.stepNow tag blk l = 1 →
      0 < s.retryEntries → ∃ t, exec x s = .next t ∧ (t.blk tag blk).invalid = true ∧ (t.blk tag blk).coded = [] ∧
        (t.blk tag blk).escalation = 2 ∧ (t.blk tag blk).tries = 1 ∧
        t.cmp.slotInvalid = (if (s.blk tag blk).invalid then s.cmp.slotInvalid else satAdd 32 s.cmp.slotInvalid 1)))
  -- OCXON_CODE_DONE on the way in: the image is recomputed
  ∧ (∀ (s : State) (tag blk lane i : Nat) (c : Coded), s.codable tag blk = true → (s.tag tag).mode = 2 → s.laneServes lane = true →
    c.residueBad = false → i = 0x5800 + ((s.tag tag).sqe.nsid - 1) →
    (c.image = ocxonEncode (s.cfg i 0x21) (s.ocxSetting (s.tag tag).sqe.nsid) (s.cfg i 0x23) (s.blk tag blk).data →
      ∃ t, exec (.ocxonCodeDone tag blk lane true c) s = .next t ∧ t.cmp.blocksCoded = satAdd 64 s.cmp.blocksCoded 1 ∧
        t.cmp.checkMismatches = s.cmp.checkMismatches) ∧
    (c.image ≠ ocxonEncode (s.cfg i 0x21) (s.ocxSetting (s.tag tag).sqe.nsid) (s.cfg i 0x23) (s.blk tag blk).data →
      ∃ t, exec (.ocxonCodeDone tag blk lane true c) s = .next t ∧ t.cmp.checkMismatches = satAdd 32 s.cmp.checkMismatches 1 ∧
        t.cmp.blocksCoded = s.cmp.blocksCoded))

/-- R344 to R348, R350, R354 to R357, R365: refresh, panic, and what a read makes of its code word. -/
def Obligations.DramTraffic : Prop :=
  -- TREFI_BOUNDARY
  (∀ (s w : State) (ch rank owed n : Nat) (done : Bool), s.dramUp ch = true → w = s.boundary 0x7801 →
    owed = (if (w.dram ch).panic then (if done then (Tbl.get {} w.ranks (rankKey ch rank)).owed
      else min (w.cfg 0x7801 4) ((Tbl.get {} w.ranks (rankKey ch rank)).owed + 1))
      else if done then 0 else (Tbl.get {} w.ranks (rankKey ch rank)).owed) →
    n = ((Tbl.get {} w.ranks (rankKey ch rank)).boundaries + 1) % 8192 →
    ∃ t, exec (.trefiBoundary ch rank done) s = .next t ∧ Tbl.get {} t.ranks (rankKey ch rank) = { owed := owed, boundaries := n } ∧
      (t.dram ch).maxOwed = max (w.dram ch).maxOwed owed ∧ (t.dram ch).st = (w.dram ch).st ∧
      (owed = w.cfg 0x7801 4 → (t.dram ch).forcedRefreshes = satAdd 64 (w.dram ch).forcedRefreshes 1 ∧
        t.regs.drcEvent = w.regs.drcEvent ||| 0x10#32) ∧
      (n = 0 → ∀ x ∈ (t.dram ch).acts, x.1 / 32 ≠ rank) ∧
      (w.cfgB 0x7800 9 = true → ∀ x ∈ (w.dram ch).raa, x.1 / 32 = rank → w.cfg 0x7800 10 ≤ x.2 → (w.dram ch).raa = [x] →
        (t.dram ch).rfm = satAdd 64 (w.dram ch).rfm 1 ∧ Tbl.get 0 (t.dram ch).raa x.1 = x.2 - w.cfg 0x7800 10))
  -- REALTIME_BURST_STAGED
  ∧ (∀ (s : State) (ch staged waiting : Nat), s.dramUp ch = true → staged ≤ 16 →
    ∃ t, exec (.realtimeBurstStaged ch staged waiting) s = .next t ∧ (t.dram ch).staged = staged ∧
      ((t.dram ch).panic = true ↔ s.mode.base = .flush ∨ ((s.dram ch).panic = true ∧ staged < s.cfg 0x7801 3 + 4) ∨
        ((s.dram ch).panic = false ∧ waiting ≠ 0 ∧ staged < s.cfg 0x7801 3)) ∧
      ((s.dram ch).panic = true → (t.dram ch).panic = false →
        (t.dram ch).panicUs = satAdd 64 (s.dram ch).panicUs ((s.aon.now - (s.dram ch).panicSince) / usec)))
  -- DRAM_READ_COMPLETE: a clean code word activates its row, whose neighbours are refreshed at the limit
  ∧ (∀ (s : State) (p : DramPlace) (good : Bool) (user : DramUser), s.dramUp p.channel = true →
    (∀ n, (s.dram p.channel).acts.find? (fun x => x.1 == bankKey p && x.2.1 == p.row) = some (bankKey p, p.row, n) →
      (n + 1 < s.cfg 0x7801 5 → ∃ t, exec (.dramReadComplete p .clean good user) s = .next t ∧
        (bankKey p, p.row, n + 1) ∈ (t.dram p.channel).acts ∧ (t.dram p.channel).neighbourRefreshes = (s.dram p.channel).neighbourRefreshes) ∧
      (s.cfg 0x7801 5 ≤ n + 1 → ∃ t, exec (.dramReadComplete p .clean good user) s = .next t ∧
        (bankKey p, p.row, 0) ∈ (t.dram p.channel).acts ∧
        (t.dram p.channel).neighbourRefreshes = satAdd 64 (s.dram p.channel).neighbourRefreshes 1 ∧ t.regs.drcEvent.getLsbD 5 = true)) ∧
    -- a corrected one
    (∀ device, s.cfg 0x7801 6 ≥ 2 → (∀ x ∈ (s.dram p.channel).corrTimes, x.1 ≠ (p.subch * 2 + p.rank) * 16 + device) →
      ∃ t, exec (.dramReadComplete p (.corrected device 4) good user) s = .next t ∧
        (t.dram p.channel).corrected = satAdd 64 (s.dram p.channel).corrected 1 ∧ (t.dram p.channel).marks = (s.dram p.channel).marks ∧
        t.regs.drcEvent.getLsbD 0 = true) ∧
    -- five bytes of one device mark it
    (∀ device, (s.dram p.channel).marks.find? (fun m => m.1 == p.subch * 2 + p.rank) = none →
      ∃ t, exec (.dramReadComplete p (.corrected device 5) good user) s = .next t ∧
        (t.dram p.channel).marks = (s.dram p.channel).marks ++ [(p.subch * 2 + p.rank, device)] ∧ t.regs.drcEvent.getLsbD 2 = true) ∧
    -- an uncorrectable one of an unmarked rank, the fourth of an hour not reached
    (∀ device, (s.dram p.channel).marks.any (fun m => m.1 == p.subch * 2 + p.rank) = false →
      (s.recent (s.dram p.channel).uncorrTimes hour).length < 3 → user = .other →
      ∃ t, exec (.dramReadComplete p (.uncorrectable device) good user) s = .next t ∧
        (t.dram p.channel).uncorrectable = satAdd 32 (s.dram p.channel).uncorrectable 1 ∧ (t.dram p.channel).st = (s.dram p.channel).st ∧
        t.regs.eccValid = true ∧ t.regs.eccCount = satAdd 16 s.regs.eccCount 1 ∧ (s.regs.eccValid = true → t.regs.eccLog = s.regs.eccLog) ∧
        (t.dram p.channel).mirrorRepairs = (if good then satAdd 32 (s.dram p.channel).mirrorRepairs 1 else (s.dram p.channel).mirrorRepairs)))

/-- R358, R359, R361: training, the periodic steps, the first parity error and the end of a remirror. -/
def Obligations.DramService : Prop :=
  -- DRAM_TRAINING_RESULT: a training that passed, and one that steps down
  (∀ (s : State) (ch : Nat) (agree : Bool), (s.dram ch).st = 1 → (s.dram ch).retraining = false →
    (∃ t, exec (.dramTrainingResult ch true true) s = .next t ∧
      (t.dram ch).st = (if (s.dram ch).rate = s.cfg 0x7800 5 then 2 else 3) ∧
      ((s.dram ch).rate ≠ s.cfg 0x7800 5 → t.mode.sustain.testBit 6 = true)) ∧
    ((s.dram ch).rate = 6400 → ∃ t, exec (.dramTrainingResult ch false agree) s = .next t ∧ (t.dram ch).rate = 5600 ∧ (t.dram ch).st = 1) ∧
    ((s.dram ch).rate = 5600 → ∃ t, exec (.dramTrainingResult ch false agree) s = .next t ∧ (t.dram ch).rate = 4800 ∧ (t.dram ch).st = 1))
  ∧ (∀ (s : State) (ch : Nat), (s.dram ch).retraining = true →
    ∃ t, exec (.dramTrainingResult ch true true) s = .next t ∧ (t.dram ch).retraining = false ∧ (t.dram ch).st = (s.dram ch).st ∧
      (t.dram ch).rate = (s.dram ch).rate)
  -- DRAM_PARITY_ERROR: the first within an hour
  ∧ (∀ (s : State) (ch : Nat), s.dramUp ch = true → s.recent (s.dram ch).parityTimes hour = [] →
    ∃ t, exec (.dramParityError ch) s = .next t ∧ (t.dram ch).st = (s.dram ch).st ∧ (t.dram ch).parityTimes = [s.aon.now])
  -- REMIRROR_COMPLETE
  ∧ (∀ s : State, s.regs.eccRemirror = true →
    s.wbuf.blks.any (fun x => x.2.committed && x.2.program.isNone && !x.2.programmed && x.2.copyA != x.2.copyB) = false →
    ∃ t, exec .remirrorComplete s = .next t ∧ t.regs.eccRemirror = false ∧ t.wbuf = s.wbuf)
  -- ZQ_CALIBRATION_TIMER, DQS_OSCILLATOR_TIMER: good, a first failure, a second one
  ∧ (∀ (s : State) (ch drift : Nat), s.dramUp ch = true → (s.dram ch).retraining = false →
    (∃ t, exec (.zqCalibrationTimer ch true) s = .next t ∧ (t.dram ch).zqFails = 0) ∧
    ((s.dram ch).zqFails = 0 → ∃ t, exec (.zqCalibrationTimer ch false) s = .next t ∧ (t.dram ch).zqFails = 1 ∧ (t.dram ch).retraining = false) ∧
    ((s.dram ch).zqFails ≠ 0 → ∃ t, exec (.zqCalibrationTimer ch false) s = .next t ∧ (t.dram ch).zqFails = 0 ∧ (t.dram ch).retraining = true ∧
      (t.dram ch).rate = (s.dram ch).rate ∧ t.regs.drcEvent.getLsbD 6 = true) ∧
    (∃ t, exec (.dqsOscillatorTimer ch drift true) s = .next t ∧ (t.dram ch).dqsFails = 0 ∧ (t.dram ch).dqsDelay = (s.dram ch).dqsDelay + drift) ∧
    ((s.dram ch).dqsFails = 0 → ∃ t, exec (.dqsOscillatorTimer ch drift false) s = .next t ∧ (t.dram ch).dqsFails = 1 ∧
      (t.dram ch).dqsDelay = (s.dram ch).dqsDelay ∧ (t.dram ch).retraining = false) ∧
    ((s.dram ch).dqsFails ≠ 0 → ∃ t, exec (.dqsOscillatorTimer ch drift false) s = .next t ∧ (t.dram ch).dqsFails = 0 ∧
      (t.dram ch).retraining = true))

/-- R366 to R376, R381, R18: the merge buffer and the scrubbers. -/
def Obligations.OnChipMemory : Prop :=
  -- MERGE_HOLD_EXPIRY
  (∀ (s : State) (ch line : Nat) (good : Bool), s.dramUp ch = true → ch = s.tailChannel → s.tailMerges = true →
    line = recBytes s.jrn.tail / 64 →
    (∃ t, exec (.mergeHoldExpiry ch line .clean good) s = .next t ∧ t.jrn.merged = s.tailMark ∧ t.drams = s.drams) ∧
    (∃ t, exec (.mergeHoldExpiry ch line .corrected good) s = .next t ∧ t.jrn.merged = s.tailMark ∧
      (t.dram ch).corrected = satAdd 64 (s.dram ch).corrected 1) ∧
    (∃ t, exec (.mergeHoldExpiry ch line .uncorrectable true) s = .next t ∧ t.jrn.merged = s.tailMark ∧
      (t.dram ch).uncorrectable = satAdd 32 (s.dram ch).uncorrectable 1 ∧ (t.dram ch).mirrorRepairs = satAdd 32 (s.dram ch).mirrorRepairs 1) ∧
    (∃ u : State, exec (.mergeHoldExpiry ch line .uncorrectable false) s = .next u.tailLost ∧ u.jrn.merged = s.tailMark ∧
      u.chip.partialRefused = satAdd 32 s.chip.partialRefused 1 ∧ (u.dram ch).mirrorRepairs = (s.dram ch).mirrorRepairs))
  -- SRAM_SCRUB_STEP: every find counts a step; clean, corrected, uncorrectable
  ∧ (∀ (s w : State) (a : SramArray) (el word m k : Nat) (over_ : Bool), w = s.boundary 0x7900 → k = (scrubber a).1 → m = macroOf a word →
    w.scrubMay k 3 = true → w.arrayRuns a = true →
    (∃ t, exec (.sramScrubStep a el word .clean over_) s = .next t ∧ Tbl.get 0 t.chip.lastStep k = w.aon.now ∧
      Tbl.get 0 t.chip.scrubSteps k = (if Tbl.get 0 w.chip.scrubSteps k + 1 < (scrubber a).2 then Tbl.get 0 w.chip.scrubSteps k + 1 else 0) ∧
      t.chip.failing = w.chip.failing) ∧
    ((∀ c, a ≠ .engineMemory c) → (∀ x ∈ w.chip.correctedWords, x.1 ≠ m ∨ x.2.1 ≠ el) →
      ∃ t, exec (.sramScrubStep a el word .corrected over_) s = .next t ∧ t.chip.sramCorrected = satAdd 64 w.chip.sramCorrected 1 ∧
        t.chip.failing = w.chip.failing ∧
        t.chip.writebackCancelled = (if over_ then satAdd 64 w.chip.writebackCancelled 1 else w.chip.writebackCancelled) ∧
        t.chip.correctedWords = w.chip.correctedWords ++ [(m, el, word * 2 + boolNat over_, w.aon.now)]) ∧
    ((∀ c, a ≠ .engineMemory c) → (m, el, word * 2, w.aon.now) ∈ w.chip.correctedWords →
      ∃ t, exec (.sramScrubStep a el word .corrected over_) s = .next t ∧ (m, el) ∈ t.chip.failing) ∧
    ((∀ c, a ≠ .engineMemory c) → ∀ x ∈ w.chip.correctedWords, ∀ y ∈ w.chip.correctedWords, x.1 = m → x.2.1 = el → y.1 = m → y.2.1 = el →
      w.elapsed x.2.2.2 (24 * hour) = false → w.elapsed y.2.2.2 (24 * hour) = false → x.2.2.1 / 2 ≠ y.2.2.1 / 2 → x.2.2.1 / 2 ≠ word →
      y.2.2.1 / 2 ≠ word → ∃ t, exec (.sramScrubStep a el word .corrected over_) s = .next t ∧ (m, el) ∈ t.chip.failing) ∧
    (∃ t, exec (.sramScrubStep a el word .uncorrectable over_) s = .next t ∧ (m, el) ∈ t.chip.failing ∧
      t.chip.sramUncorr = satAdd 32 w.chip.sramUncorr 1) ∧
    (∀ c e, a = .engineMemory c → e = c % 16 * 8 + word / 65536 % 8 →
      (∃ t, exec (.sramScrubStep a el word .uncorrectable over_) s = .next t ∧ (t.engine e).failed = true) ∧
      ((w.engine e).failed = false → 2 ≤ (w.recent (w.engine e).corrected hour).length →
        ∃ t, exec (.sramScrubStep a el word .corrected over_) s = .next t ∧ (t.engine e).failed = true) ∧
      ((w.recent (w.engine e).corrected hour) = [] →
        ∃ t, exec (.sramScrubStep a el word .corrected over_) s = .next t ∧ (t.engine e).corrected = [w.aon.now] ∧
          (t.engine e).failed = (w.engine e).failed)) ∧
    (∀ stop, a = .cmb stop → ∃ t, exec (.sramScrubStep a el word .uncorrectable over_) s = .next t ∧
      Tbl.get false (t.port (stop % 2)).cmbMarked (word / 8) = true))
  -- DRAM_SCRUB_STEP
  ∧ (∀ (s w : State) (p : DramPlace) (good over_ : Bool) (user : DramUser) (k lines : Nat), w = s.boundary 0x7900 →
    k = 64 + p.channel * 2 + p.subch → lines = w.dramPerChannel * 2 ^ 30 / 128 → w.dramUp p.channel = true → w.scrubMay k 4 = true →
    (∃ t, exec (.dramScrubStep p .clean good user over_) s = .next t ∧ Tbl.get 0 t.chip.lastStep k = w.aon.now ∧
      Tbl.get 0 t.chip.scrubSteps k = (if Tbl.get 0 w.chip.scrubSteps k + 1 < lines then Tbl.get 0 w.chip.scrubSteps k + 1 else 0) ∧
      t.drams = w.drams) ∧
    (∀ device, w.cfg 0x7801 6 ≥ 2 → (∀ x ∈ (w.dram p.channel).corrTimes, x.1 ≠ (p.subch * 2 + p.rank) * 16 + device) →
      ∃ t, exec (.dramScrubStep p (.corrected device 4) good user over_) s = .next t ∧
        (t.dram p.channel).corrected = satAdd 64 (w.dram p.channel).corrected 1 ∧
        t.chip.writebackCancelled = (if over_ then satAdd 64 w.chip.writebackCancelled 1 else w.chip.writebackCancelled)))

/-- R56, R385, R386, R398, R433, R462, R464, R466: aux power, MAIN_PG, and what begins a Bring-Up or leaves it waiting. -/
def Obligations.BringUpStarts : Prop :=
  -- AUX_POWER_ON, AUX_POWER_LOSS
  (∀ s : State, s.aon.auxOk = false →
    (s.mode.base = .unpowered → ∃ t, exec .auxPowerOn s = .next t ∧ t.mode.base = .dormant ∧ t.mode.lastCause = 1 ∧ t.aon.auxOk = true) ∧
    (s.mode.base ≠ .unpowered → ∃ t, exec .auxPowerOn s = .next t ∧ t.mode = s.mode ∧ t.aon.auxOk = true))
  ∧ (∀ s : State, s.aon.auxOk = true →
    (s.mode.base = .dormant → ∃ t, exec .auxPowerLoss s = .next t ∧ t.mode.base = .unpowered ∧ t.regs = {} ∧ t.aon.thermalHold = false ∧
      t.ras.ring = [] ∧ t.dict = s.dict ∧ t.media = s.media) ∧
    (s.awake = true → s.mode.base ≠ .flush → ∃ t, exec .auxPowerLoss s = .next t ∧ t.mode = s.mode ∧ t.aon.auxOk = false) ∧
    (s.mode.base = .flush → s.mode.restartWait = true → ∃ t, exec .auxPowerLoss s = .next t ∧ t.mode.base = .unpowered))
  -- what begins a Bring-Up: MAIN_PG, a crystal, the release of a power control, the end of a thermal hold, the restart after Flush
  ∧ (∀ (s : State) (a : Aon) (k cause : Nat) (pin : Bool) (x : Instr), ({ s with aon := a } : State).bootSlot = some k →
    (s.aon.strapTest && s.debugOpen) = false → a.strapTest = s.aon.strapTest →
    (x = .mainPgTrue ∧ s.aon.mainPg = false ∧ a = { s.aon with mainPg := true } ∧ ({ s with aon := a } : State).mayStart = true ∧ cause = 2) ∨
    (x = .crystalQualified ∧ s.aon.crystal25 = false ∧ a = { s.aon with crystal25 := true } ∧ ({ s with aon := a } : State).mayStart = true ∧ cause = 2) ∨
    (x = .powerControlRelease pin ∧ (if pin then s.aon.pwrdis else s.aon.pln) = true ∧
      a = (if pin then { s.aon with pwrdis := false } else { s.aon with pln := false }) ∧ ({ s with aon := a } : State).mayStart = true ∧ cause = 2) ∨
    (x = .thermalHoldEnd ∧ s.aon.thermalHold = true ∧ (∃ c, s.thermal.coolSince = some c ∧ s.elapsed c 60000000000 = true) ∧
      a = { s.aon with thermalHold := false } ∧ ({ s with aon := a } : State).mayStart = true ∧ cause = 22) ∨
    (x = .flushRestartTimer ∧ s.mode.base = .flush ∧ s.mode.restartWait = true ∧ s.elapsed s.mode.flushAt 10000000 = true ∧
      s.flushHeld = false ∧ a = s.aon ∧ cause = 21) →
    ∃ t, exec x s = .next t ∧ t.mode.base = .bringUp ∧ t.mode.lastCause = cause ∧ t.sec.slotInForce = k ∧ t.mode.mapReady = false ∧
      t.sec.aliasNo = s.sec.aliasNo + 1 ∧ t.zones = s.zones)
  -- the same, where a condition of R385 is missing
  ∧ (∀ s : State, s.mode.base ≠ .dormant →
    (s.aon.mainPg = false → ∃ t, exec .mainPgTrue s = .next t ∧ t.aon.mainPg = true ∧ t.mode = s.mode) ∧
    (s.mode.base ≠ .unpowered → s.aon.crystal25 = false → ∃ t, exec .crystalQualified s = .next t ∧ t.aon.crystal25 = true ∧ t.mode = s.mode) ∧
    (s.mode.base ≠ .unpowered → s.aon.pln = true → ∃ t, exec (.powerControlRelease false) s = .next t ∧ t.aon.pln = false ∧ t.mode = s.mode) ∧
    (s.mode.base ≠ .unpowered → s.aon.pwrdis = true → ∃ t, exec (.powerControlRelease true) s = .next t ∧ t.aon.pwrdis = false ∧ t.mode = s.mode))
  -- MAIN_PG_FALSE
  ∧ (∀ s : State, s.aon.mainPg = true →
    (s.mode.base = .dormant ∨ s.mode.base = .unpowered → ∃ t, exec .mainPgFalse s = .next t ∧ t.aon.mainPg = false ∧ t.aon.holdNeedsPg = false ∧ t.mode = s.mode) ∧
    (s.awake = true → s.mode.base ≠ .flush → s.aon.auxOk = true →
      ∃ t, exec .mainPgFalse s = .next t ∧ t.mode.base = .dormant ∧ t.mode.lastCause = 12 ∧ t.tags = [] ∧ t.funcs = [] ∧ t.chans = [] ∧
        t.zones = s.zones ∧ t.nss = s.nss) ∧
    (s.awake = true → s.mode.base ≠ .flush → s.aon.auxOk = false → ∃ t, exec .mainPgFalse s = .next t ∧ t.mode.base = .unpowered ∧ t.regs = {}))

/-- R280, R284 to R286, R294, R385, R387, R447: a power control starts Flush; Flush, Bring-Up and the entry of Maintenance end. -/
def Obligations.FlushAndBringUp : Prop :=
  -- POWER_LOSS_NOTIFY, POWER_DISABLE
  (∀ (s : State) (cause : Nat) (x : Instr), (x = .powerLossNotify ∧ s.aon.pln = false ∧ cause = 9) ∨
      (x = .powerDisable ∧ s.aon.pwrdis = false ∧ cause = 10) →
    (s.inService = true → ∃ t, exec x s = .next t ∧ t.mode.base = .flush ∧ t.mode.flushCause = cause ∧ t.mode.flushAt = s.aon.now ∧
      t.mode.postWindow = true ∧ t.mode.maintEntry = false ∧
      (∀ tag, (s.tag tag).st.uncommitted = true → (t.tag tag).st = .post ∧ (t.tag tag).status = ⟨0, 5⟩)) ∧
    (s.mode.base = .bringUp → ∃ t, exec x s = .next t ∧ t.mode.base = .dormant ∧ t.mode.lastCause = cause) ∧
    (s.mode.base = .dormant → ∃ t, exec x s = .next t ∧ t.mode = s.mode ∧ t.aon.pln = (s.aon.pln || cause == 9) ∧
      t.aon.pwrdis = (s.aon.pwrdis || cause == 10)))
  -- POST_WINDOW_END, FLUSH_END
  ∧ (∀ s : State, s.mode.base = .flush → s.mode.postWindow = true → s.elapsed s.mode.flushAt (s.cfg 0x8040 2 * usec) = true →
    ∃ t, exec .postWindowEnd s = .next t ∧ t.mode.postWindow = false ∧ (t.port 0).stayDown = true ∧ (t.port 1).stayDown = true ∧
      (∀ k, k < 8 ∨ k = 12 ∨ k = 13 ∨ k = 15 → (t.island k).st = .off))
  ∧ (∀ s : State, s.mode.base = .flush → s.mode.postWindow = false → s.mode.restartWait = false →
    s.media.progs.any (fun p => p.2.live) = false →
    (s.flushHeld = false → s.mode.shutdownInFlush = false → ∃ t, exec .flushEnd s = .next t ∧ t.mode.base = .flush ∧ t.mode.restartWait = true ∧
      t.mode.flushAt = s.aon.now ∧ t.recov.flushes = satAdd 32 s.recov.flushes 1 ∧
      t.recov.flushUs = (s.aon.now - s.mode.flushAt) / usec ∧ t.dict.appends = []) ∧
    (s.flushHeld = true → ∃ t, exec .flushEnd s = .next t ∧ t.mode.base = (if s.aon.auxOk then .dormant else .unpowered) ∧
      t.recov.flushes = satAdd 32 s.recov.flushes 1 ∧ t.tags = [] ∧ t.islands = []) ∧
    (s.mode.shutdownInFlush = true → s.aon.auxOk = true → ∃ t, exec .flushEnd s = .next t ∧ t.mode.base = .dormant ∧ t.aon.thermalHold = true))
  -- BRING_UP_COMPLETE
  ∧ (∀ (s : State) (f : Recovered), s.mode.base = .bringUp → s.mode.fatal = 0 → s.trainingsDone = true → f.badTargets = [] →
    (s.fatalNow ≠ 0 → ∃ t, exec (.bringUpComplete f) s = .next t ∧ t.mode.fatal = s.fatalNow ∧ t.mode.base = .bringUp) ∧
    (s.fatalNow = 0 → s.recov.sanitizeRecord = 0 → ∃ t, exec (.bringUpComplete f) s = .next t ∧ t.mode.mapReady = true ∧
      t.mode.base = (if t.mode.maintCauses ≠ 0 then .maintenance else if t.mode.readonlyCauses ≠ 0 then .readOnly else .service) ∧
      (s.mode.maintReq = true ∨ s.mode.bringupEvent ≠ 0 → t.mode.base = .maintenance)))
  -- MAINTENANCE_ENTRY_DONE
  ∧ (∀ s : State, s.mode.maintEntry = true → s.mode.entryCkpt = true → s.jrn.ckptRunning = false → s.inService = true →
    ∃ u : State, exec .maintenanceEntryDone s = .next u.sanitizeRun ∧ u.mode.base = .maintenance ∧ u.mode.maintEntry = false ∧
      u.mode.maintWaiters = [] ∧ u.mode.lastCause = (if s.mode.maintCauses.testBit 1 then 17 else 16))

/-- R384, R389 to R391, R398, R463, R466, R467: the crystals, the reference clock, the end of a hold that starts nothing, the power
estimate and the LED. -/
def Obligations.ClocksAndFigures : Prop :=
  -- THERMAL_HOLD_END outside the conditions of a start, CRYSTAL_QUALIFY_TIMEOUT, SLOW_CRYSTAL_FAILURE, REFCLK_STOP, REFCLK_RESTORED
  (∀ (s : State) (c : Nat), s.aon.thermalHold = true → s.mode.base = .dormant → s.thermal.coolSince = some c → s.elapsed c 60000000000 = true →
    ({ s with aon := { s.aon with thermalHold := false } } : State).mayStart = false →
    ∃ t, exec .thermalHoldEnd s = .next t ∧ t.aon.thermalHold = false ∧ t.mode = s.mode)
  ∧ (∀ s : State, s.mode.base = .dormant → s.aon.crystal25 = false →
    ∃ t, exec .crystalQualifyTimeout s = .next t ∧ t.mode = s.mode ∧ t.aon = s.aon ∧ t.ras.lastSeq = s.ras.lastSeq + 1 ∧
      t.ras.failures = satAdd 32 s.ras.failures 1)
  ∧ (∀ s : State, s.mode.base ≠ .unpowered → s.aon.crystal32 = true →
    ∃ t, exec .slowCrystalFailure s = .next t ∧ t.aon.crystal32 = false ∧ t.mode = s.mode ∧ t.ras.lastSeq = s.ras.lastSeq + 1)
  ∧ (∀ s : State, s.mode.base ≠ .unpowered → s.aon.refclk0 = true →
    ∃ t, exec .refclkStop s = .next t ∧ t.aon.refclk0 = false ∧ t.aon.pllOnRefclk = false ∧ t.mode = s.mode ∧
      (s.awake = true → s.aon.refsel = true → (s.port 0).linkUp = true → (t.port 0).dlDowns = satAdd 32 (s.port 0).dlDowns 1 ∧
        (t.port 0).linkUp = false) ∧
      (s.aon.refsel = false → t.ports = s.ports))
  ∧ (∀ s : State, s.mode.base ≠ .unpowered → s.aon.refclk0 = false →
    ∃ t, exec .refclkRestored s = .next t ∧ t.aon.refclk0 = true ∧ t.aon.pllOnRefclk = (s.aon.refsel && s.aon.pllsOn) ∧ t.ports = s.ports)
  -- POWER_ESTIMATE_INTERVAL, LED_ACT_INTERVAL
  ∧ (∀ (s : State) (mw : Nat), s.awake = true →
    ∃ t, exec (.powerEstimateInterval mw) s = .next t ∧ t.mode.powerMw = mw ∧ t.mode.peakMw = max s.mode.peakMw mw ∧
      t.mode.energyMj = s.mode.energyMj + mw / 10 ∧
      t.mode.overMs = (if mpOf s.mode.psInForce < mw then satAdd 32 s.mode.overMs 100 else s.mode.overMs) ∧ t.mode.base = s.mode.base)
  ∧ (∀ s : State, s.mode.base ≠ .unpowered →
    (s.aon.ledCompletion = true → ∃ t, exec .ledActInterval s = .next t ∧ t.aon.ledCompletion = false ∧ Out.led 50 ∈ t.out) ∧
    (s.aon.ledCompletion = false → exec .ledActInterval s = .next s))

/-- R392 to R399: what a sample round makes of a sensor, of a zone, and of the junction sensors. -/
def Obligations.Heat : Prop :=
  -- THERMAL_SAMPLE_ROUND: each sensor takes its sample, and two hot junction sensors shut the PK9 down
  (∀ (s w : State) (samples : List Sample), s.mode.base ≠ .unpowered → samples.length = 18 →
    w = s.boundaries (fun i => decide (0x8100 ≤ i ∧ i ≤ 0x8131)) →
    ∃ u : State, exec (.thermalSampleRound samples) s = .next (if u.awake && decide (2 ≤ u.junctionsHot.length) then u.thermalShutdown
        else u.retrainHeat) ∧ u.thermal.lastRound = s.aon.now ∧
      (∀ k, k < 18 →
        (∀ r, w.sampleOf k (samples.getD k none) = some r → (u.sensor k).readingQ = r ∧
          (u.sensor k).broken = ((w.sensor k).broken && decide ((w.sensor k).goodRun + 1 < w.cfg 0x8100 5))) ∧
        (w.sampleOf k (samples.getD k none) = none → (u.sensor k).broken = true ∧ (u.sensor k).readingQ = (w.sensor k).readingQ ∧
          (u.sensor k).breaks = (if (w.sensor k).broken then (w.sensor k).breaks else satAdd 32 (w.sensor k).breaks 1))))
  -- a zone after it
  ∧ (∀ (s : State) (z : Nat) (x : TZone) (l : List Nat), x = s.tzone z → l = (List.range 18).filter (fun k => s.inZone z k) →
    (l.any (fun k => (s.sensor k).broken) = true ∨ s.junctionsGood.length < 2 → ((s.zoneTake z).tzone z).step = 4) ∧
    (l ≠ [] → (∀ k ∈ l, (s.sensor k).broken = false ∧ (s.sensor k).readingQ < ((8 * s.cfg (0x8110 + z) 7 : Nat) : Int) ∧ k ∉ s.junctionsHot) →
      2 ≤ s.junctionsGood.length →
      (∀ k ∈ l, (s.sensor k).readingQ ≤ ((s.zoneTake z).tzone z).tempQ) ∧ (∃ k ∈ l, (s.sensor k).readingQ = ((s.zoneTake z).tzone z).tempQ) ∧
      (x.step < s.stepFor z ((s.zoneTake z).tzone z).tempQ → ((s.zoneTake z).tzone z).step = s.stepFor z ((s.zoneTake z).tzone z).tempQ) ∧
      (s.stepFor z ((s.zoneTake z).tzone z).tempQ ≤ x.step → 0 < x.step →
        ((s.zoneTake z).tzone z).tempQ < ((8 * (s.cfg (0x8110 + z) 5 + (x.step - 1) * s.cfg (0x8110 + z) 6) : Nat) : Int)
          - ((8 * s.cfg (0x8110 + z) 8 : Nat) : Int) →
        ((s.zoneTake z).tzone z).step = (if s.elapsed x.changedAt (s.cfg 0x8100 4 * msec) then x.step - 1 else x.step))))

/-- R442, R447, R448: the failures that no other command detects. -/
def Obligations.UnitFailures : Prop :=
  -- AON_HEARTBEAT_LOSS, FABRIC_CORE_FAILURE
  (∀ (s : State) (cause : Nat) (x : Instr), s.awake = true → s.mode.fatal = 0 →
    (x = .aonHeartbeatLoss ∧ cause = 1) ∨ (x = .fabricCoreFailure ∧ cause = 2) →
    ∃ t, exec x s = .next t ∧ t.mode.fatal = cause ∧ t.mode.drainWanted = true ∧ t.ras.lastSeq = s.ras.lastSeq + 1 ∧
      (∀ p f, (p, f) ∈ s.funcs.map (fun y => (y.1 / 256, y.1 % 256)) → (s.func p f).here = true →
        (t.func p f).cfs = true ∧ (t.func p f).rdy = false))
  -- FABRIC_LINK_CRC_FAILURE: the other link of the hop works, or has failed too
  ∧ (∀ (s : State) (l : Nat), s.awake = true → l ∉ s.cmp.failedLinks →
    ((l + 24) % 48 ∉ s.cmp.failedLinks → ∃ t, exec (.fabricLinkCrcFailure l) s = .next t ∧ t.cmp.failedLinks = s.cmp.failedLinks ++ [l] ∧
      t.mode = s.mode ∧ t.ras.lastSeq = s.ras.lastSeq + 1) ∧
    ((l + 24) % 48 ∈ s.cmp.failedLinks → s.mode.fatal = 0 → ∃ t, exec (.fabricLinkCrcFailure l) s = .next t ∧
      t.cmp.failedLinks = s.cmp.failedLinks ++ [l] ∧ t.mode.fatal = 2))
  -- SOFT_DECODER_SELF_TEST
  ∧ (∀ (s : State) (d : Nat), s.awake = true → s.softIdle d = true →
    exec (.softDecoderSelfTest d true) s = .next s ∧
    ∃ t, exec (.softDecoderSelfTest d false) s = .next t ∧ t.cmp.softFailed = s.cmp.softFailed ++ [d] ∧ t.mode.sustain.testBit 1 = true ∧
      t.cmp.softQueue = s.cmp.softQueue)
  -- PORT_FAILURE: an error that does not yet fail the port, and one that does
  ∧ (∀ (s : State) (p : Nat), s.awake = true → s.portExists p = true → (s.port p).failed = false →
    ((s.port p).loopbackFails < 2 → ∃ t, exec (.portFailure p true) s = .next t ∧
      (t.port p).loopbackFails = (s.port p).loopbackFails + 1 ∧ (t.port p).failed = false ∧ t.mode = s.mode) ∧
    (s.recent (s.port p).parityErrors hour = [] → ∃ t, exec (.portFailure p false) s = .next t ∧
      (t.port p).parityErrors = [s.aon.now] ∧ (t.port p).failed = false ∧ t.mode = s.mode) ∧
    (∀ x, (x = .portFailure p true ∧ 2 ≤ (s.port p).loopbackFails) ∨
        (x = .portFailure p false ∧ s.recent (s.port p).parityErrors hour ≠ []) →
      (s.dual = false → s.mode.fatal = 0 → ∃ t, exec x s = .next t ∧ (t.port p).failed = true ∧ t.mode.fatal = 7) ∧
      (s.dual = true → ∃ t, exec x s = .next t ∧ (t.port p).failed = true ∧ (t.port p).linkUp = false ∧ t.mode = s.mode ∧
        (t.port p).dlDowns = satAdd 32 (s.port p).dlDowns 1)))

/-- R406 to R408: the two-wire bus and MCTP: addresses, endpoints, and the packets of a message. -/
def Obligations.Mctp : Prop :=
  -- SET_DYNAMIC_ADDRESS, RESET_DYNAMIC_ADDRESS
  (∀ (s : State) (a : Nat), s.pathUp .twoWire = true →
    (∃ t, exec (.setDynamicAddress a) s = .next t ∧ t.mgmt.i3c = true ∧ t.mgmt.dynAddr = a ∧ t.mgmt.eids = s.mgmt.eids) ∧
    (s.mgmt.i3c = true → ∃ t, exec .resetDynamicAddress s = .next t ∧ t.mgmt.i3c = false ∧ t.mgmt.dynAddr = 0))
  -- MCTP_PACKET: what drops it; a first packet, a later one, the last one
  ∧ (∀ (s : State) (p : McPacket) (mine : List Reasm), s.mctpUp p.path = true →
    mine = s.mgmt.reasm.filter (fun r => decide (r.path = p.path)) →
    (s.packetLimit p.path < p.bytes.length ∨
      (Tbl.get 0 s.mgmt.eids (MPath.code p.path) = 0 ∧ (p.msgType ≠ 0 ∨ p.nullEid = false)) ∨
      (p.som = true ∧ mctpTypes.contains p.msgType = false) ∨
      (p.som = true ∧ mine.find? (sameMessage p) = none ∧ 4 ≤ mine.length) ∨
      (p.som = false ∧ mine.find? (sameMessage p) = none) →
      ∃ t, exec (.mctpPacket p) s = .next t ∧ t.mgmt.mctpDrops = satAdd 32 s.mgmt.mctpDrops 1 ∧ t.mgmt.reasm = s.mgmt.reasm) ∧
    (p.bytes.length ≤ s.packetLimit p.path → p.bytes.length ≤ 4224 → Tbl.get 0 s.mgmt.eids (MPath.code p.path) ≠ 0 → p.som = true →
      mctpTypes.contains p.msgType = true → mine.length < 4 →
      (p.eom = false → ∃ t, exec (.mctpPacket p) s = .next t ∧ t.mgmt.mctpDrops = s.mgmt.mctpDrops ∧
        t.mgmt.reasm = s.mgmt.reasm.filter (fun r => !sameMessage p r) ++ [⟨p.path, p.source, p.msgTag, p.msgType, p.bytes⟩]) ∧
      (p.eom = true → ∃ t, exec (.mctpPacket p) s = .next t ∧ Out.mgmt p.path "message received" p.msgType ∈ t.out ∧
        t.mgmt.reasm = s.mgmt.reasm.filter (fun r => !sameMessage p r))) ∧
    (∀ r, p.bytes.length ≤ s.packetLimit p.path → Tbl.get 0 s.mgmt.eids (MPath.code p.path) ≠ 0 → p.som = false →
      mine.find? (sameMessage p) = some r → (r.data ++ p.bytes).length ≤ 4224 →
      (p.eom = false → ∃ t, exec (.mctpPacket p) s = .next t ∧
        t.mgmt.reasm = s.mgmt.reasm.filter (fun x => !sameMessage p x) ++ [{ r with data := r.data ++ p.bytes }]) ∧
      (p.eom = true → ∃ t, exec (.mctpPacket p) s = .next t ∧ Out.mgmt p.path "message received" r.msgType ∈ t.out ∧
        t.mgmt.reasm = s.mgmt.reasm.filter (fun x => !sameMessage p x))))
  -- SET_ENDPOINT_ID, GET_MESSAGE_TYPE_SUPPORT
  ∧ (∀ (s : State) (m : MPath) (e : Nat), s.mctpUp m = true →
    (8 ≤ e → e ≤ 254 → ∃ t, exec (.setEndpointId m e) s = .next t ∧ Tbl.get 0 t.mgmt.eids (MPath.code m) = e ∧
      (∀ k, k ≠ MPath.code m → Tbl.get 0 t.mgmt.eids k = Tbl.get 0 s.mgmt.eids k)) ∧
    (e < 8 ∨ 254 < e → ∃ t, exec (.setEndpointId m e) s = .next t ∧ t.mgmt = s.mgmt ∧
      Out.mgmt m "Set Endpoint ID: invalid data" e ∈ t.out) ∧
    (∃ t, exec (.getMessageTypeSupport m) s = .next t ∧ t.mgmt = s.mgmt ∧
      Out.mgmt m "Get Message Type Support" (fromLe [5#8, 0x00#8, 0x04#8, 0x05#8, 0x06#8, 0x7E#8]) ∈ t.out))

/-- R147, R409: the NVMe-MI messages. -/
def Obligations.NvmeMi : Prop :=
  -- READ_NVME_MI_DATA_STRUCTURE, SUBSYSTEM_HEALTH_STATUS_POLL, CONTROLLER_HEALTH_STATUS_POLL
  (∀ (s : State) (m : MPath) (c : Nat), s.mctpUp m = true →
    (∃ t, exec (.readNvmeMiDataStructure m 2) s = .next t ∧ t.mgmt = s.mgmt ∧
      Out.mgmt m "NVMe-MI data structure" (fromLe (leBytes 2 s.boundSlices.length ++
        (s.boundSlices.map (fun n => leBytes 2 (n + 1))).flatten)) ∈ t.out) ∧
    (∀ k, k ≠ 2 → ∃ t v, exec (.readNvmeMiDataStructure m k) s = .next t ∧ t.mgmt = s.mgmt ∧ Out.mgmt m "NVMe-MI data structure" v ∈ t.out) ∧
    (∃ t, exec (.subsystemHealthStatusPoll m) s = .next t ∧ t.mgmt = s.mgmt ∧
      Out.mgmt m "subsystem health" (s.critical + min s.percentUsed 255 * 256 + s.mgmt.healthChange * 65536) ∈ t.out) ∧
    (s.ctrlHere c = true → ∃ t, exec (.controllerHealthStatusPoll m c) s = .next t ∧ t.mgmt = s.mgmt ∧
      Out.mgmt m "controller health" (s.csts (s.slPort (c - 1)) (s.slFn (c - 1)) + s.critical * 256) ∈ t.out) ∧
    (s.ctrlHere c = false → ∃ t, exec (.controllerHealthStatusPoll m c) s = .next t ∧ t.mgmt = s.mgmt ∧
      Out.mgmt m "controller health: invalid parameter" c ∈ t.out))
  -- CONFIGURATION_SET and CONFIGURATION_GET
  ∧ (∀ (s : State) (m : MPath) (v : Nat), s.mctpUp m = true →
    (v = 1 ∨ v = 2 → ∃ t, exec (.configurationSet m 1 v) s = .next t ∧ t.mgmt.smbusFreq = v ∧ Out.mgmt m "configuration set" 1 ∈ t.out) ∧
    (v ≠ 1 → v ≠ 2 → ∃ t, exec (.configurationSet m 1 v) s = .next t ∧ t.mgmt = s.mgmt) ∧
    (∃ t, exec (.configurationSet m 2 v) s = .next t ∧ (∀ b, t.mgmt.healthChange.testBit b = (s.mgmt.healthChange.testBit b && !v.testBit b))) ∧
    (64 ≤ v → v ≤ s.packetLimit m → ∃ t, exec (.configurationSet m 3 v) s = .next t ∧ Tbl.get 64 t.mgmt.mtu (MPath.code m) = v) ∧
    (v < 64 ∨ s.packetLimit m < v → ∃ t, exec (.configurationSet m 3 v) s = .next t ∧ t.mgmt = s.mgmt) ∧
    (∃ t, exec (.configurationGet m 1) s = .next t ∧ t.mgmt = s.mgmt ∧ Out.mgmt m "SMBus frequency" s.mgmt.smbusFreq ∈ t.out) ∧
    (∃ t, exec (.configurationGet m 2) s = .next t ∧ t.mgmt = s.mgmt ∧ Out.mgmt m "health status change" s.mgmt.healthChange ∈ t.out) ∧
    (∃ t, exec (.configurationGet m 3) s = .next t ∧ t.mgmt = s.mgmt ∧
      Out.mgmt m "transmission unit" (Tbl.get 64 s.mgmt.mtu (MPath.code m)) ∈ t.out) ∧
    (∀ k, k = 0 ∨ 3 < k → (∃ t, exec (.configurationGet m k) s = .next t ∧ t.mgmt = s.mgmt ∧
      Out.mgmt m "configuration: invalid parameter" k ∈ t.out) ∧ ∃ t, exec (.configurationSet m k v) s = .next t ∧ t.mgmt = s.mgmt))
  -- NVME_MI_RESET, NVME_MI_ADMIN_COMMAND
  ∧ (∀ (s : State) (m : MPath), s.mctpUp m = true → s.awake = true →
    ∃ t, exec (.nvmeMiReset m) s = .next t ∧ (t.port 0).linkUp = false ∧ (t.port 0).lastReset = 5 ∧
      (s.dual = true → (t.port 1).linkUp = false ∧ (t.port 1).lastReset = 5) ∧ t.mode = s.mode)
  ∧ (∀ (s : State) (m : MPath) (k : Option Nat) (c : Nat) (e : Sqe) (r : Role), s.mctpUp m = true → s.awake = true →
    r = s.roleOf (.mctp m k) →
    (r = .nobody → ∃ t, exec (.nvmeMiAdminCommand m k c e) s = .next t ∧ t.ras.noRoleDrops = s.ras.noRoleDrops + 1 ∧ t.tags = s.tags) ∧
    (r ≠ .nobody → s.ctrlHere c = false ∨ (r = .monitor ∧ miMonitor e.opcode = false) →
      ∃ t, exec (.nvmeMiAdminCommand m k c e) s = .next t ∧ Out.mgmt m "admin status" 1 ∈ t.out ∧ t.tags = s.tags) ∧
    (s.ctrlHere c = true → (r = .monitor ∧ miMonitor e.opcode = true) ∨ (r ≠ .nobody ∧ r ≠ .monitor ∧ adminOpcode true e.opcode = true) →
      ∃ t, exec (.nvmeMiAdminCommand m k c e) s = .next t ∧ (t.tag s.freeTagNo).st = .build ∧ (t.tag s.freeTagNo).sqe = e ∧
        (t.tag s.freeTagNo).admin = true ∧ (t.tag s.freeTagNo).mi = some m ∧ (t.tag s.freeTagNo).slice = c - 1 ∧
        (∀ j, j ≠ s.freeTagNo → t.tag j = s.tag j)))

/-- R410, R411, R425, R426, R428: SPDM messages and sessions. -/
def Obligations.SpdmMessages : Prop :=
  -- GET_VERSION, GET_CAPABILITIES, NEGOTIATE_ALGORITHMS, GET_DIGESTS, GET_CERTIFICATE, CHALLENGE, GET_MEASUREMENTS
  (∀ (s : State) (m : MPath) (k : Nat), s.pathUp m = true →
    (∃ t, exec (.getVersion m) s = .next t ∧ Out.mgmt m "VERSION" 0x12 ∈ t.out ∧ t.mgmt = s.mgmt) ∧
    (∃ t v, exec (.getCapabilities m) s = .next t ∧ Out.mgmt m "CAPABILITIES" v ∈ t.out ∧ t.mgmt = s.mgmt) ∧
    (∃ t v, exec (.negotiateAlgorithms m) s = .next t ∧ Out.mgmt m "ALGORITHMS" v ∈ t.out ∧
      Tbl.get false t.mgmt.negotiated (MPath.code m) = true ∧ t.mgmt.sessions = s.mgmt.sessions) ∧
    (∃ t, exec (.getDigests m) s = .next t ∧ Out.mgmt m "DIGESTS" (Config.digest s.chainBytes) ∈ t.out ∧ t.mgmt = s.mgmt) ∧
    (∃ t, exec (.getCertificate m 0) s = .next t ∧ Out.mgmt m "CERTIFICATE" (fromLe s.chainBytes) ∈ t.out ∧ t.mgmt = s.mgmt) ∧
    (k ≠ 0 → ∃ t, exec (.getCertificate m k) s = .next t ∧ Out.mgmt m "ERROR" 1 ∈ t.out ∧ t.mgmt = s.mgmt) ∧
    (∃ t, exec (.challenge m) s = .next t ∧ Out.mgmt m "CHALLENGE_AUTH" (Config.digest s.chainBytes) ∈ t.out ∧ t.mgmt = s.mgmt) ∧
    (∃ t, exec (.getMeasurements m 0) s = .next t ∧ Out.mgmt m "MEASUREMENTS" 7 ∈ t.out ∧ t.mgmt = s.mgmt) ∧
    (k ≠ 0 → k ≤ 7 → ∃ t, exec (.getMeasurements m k) s = .next t ∧ Out.mgmt m "MEASUREMENTS" (s.measurement k) ∈ t.out ∧ t.mgmt = s.mgmt) ∧
    (∃ t, exec (.getMeasurements m 0xFF) s = .next t ∧ (∀ j, 0 < j → j < 8 → Out.mgmt m "MEASUREMENTS" (s.measurement j) ∈ t.out) ∧
      t.mgmt = s.mgmt) ∧
    (7 < k → k ≠ 0xFF → ∃ t, exec (.getMeasurements m k) s = .next t ∧ Out.mgmt m "ERROR" 1 ∈ t.out ∧ t.mgmt = s.mgmt))
  -- KEY_EXCHANGE
  ∧ (∀ (s : State) (m : MPath) (peer : Nat), s.pathUp m = true →
    (s.lifecycle = 5 ∨ Tbl.get false s.mgmt.negotiated (MPath.code m) = false →
      ∃ t, exec (.keyExchange m peer) s = .next t ∧ Out.mgmt m "ERROR" 4 ∈ t.out ∧ t.mgmt = s.mgmt) ∧
    (s.lifecycle ≠ 5 → Tbl.get false s.mgmt.negotiated (MPath.code m) = true →
      (8 ≤ s.mgmt.sessions.length ∨ 4 ≤ (s.mgmt.sessions.filter (fun x => decide (x.path = m))).length →
        ∃ t, exec (.keyExchange m peer) s = .next t ∧ Out.mgmt m "ERROR" 0x0A ∈ t.out ∧ t.mgmt = s.mgmt) ∧
      (s.mgmt.sessions.length < 8 → (s.mgmt.sessions.filter (fun x => decide (x.path = m))).length < 4 →
        ∃ t, exec (.keyExchange m peer) s = .next t ∧
          t.mgmt.sessions = s.mgmt.sessions ++ [⟨s.mgmt.nextSession, m, peer, 0, false, s.aon.now, 0⟩] ∧
          t.mgmt.nextSession = s.mgmt.nextSession + 1 ∧ Out.mgmt m "KEY_EXCHANGE_RSP" s.mgmt.nextSession ∈ t.out)))
  -- FINISH
  ∧ (∀ (s : State) (m : MPath) (k : Nat) (c : Chain), s.pathUp m = true → s.sessionOn m k false = true →
    (c = .stranger → ∃ t, exec (.finish m k c) s = .next t ∧ t.mgmt.sessions = s.mgmt.sessions.filter (fun x => x.id != k) ∧
      t.mgmt.authFails = satAdd 32 s.mgmt.authFails 1 ∧ Out.mgmt m "ERROR" 6 ∈ t.out) ∧
    (c ≠ .stranger → ∃ t, exec (.finish m k c) s = .next t ∧ Out.mgmt m "FINISH_RSP" k ∈ t.out ∧ t.mgmt.authFails = s.mgmt.authFails ∧
      t.mgmt.sessions = s.mgmt.sessions.map (fun x => if x.id = k then
        { x with opened := true, role := if c = .maker then 3 else 2, lastMsg := s.aon.now } else x)))
  -- HEARTBEAT, KEY_UPDATE, END_SESSION, SESSION_IDLE_TIMEOUT
  ∧ (∀ (s : State) (m : MPath) (k : Nat), s.pathUp m = true → s.sessionOn m k true = true →
    (∃ t, exec (.heartbeat m k) s = .next t ∧ Out.mgmt m "HEARTBEAT_ACK" k ∈ t.out ∧
      t.mgmt.sessions = s.mgmt.sessions.map (fun x => if x.id = k then { x with lastMsg := s.aon.now } else x)) ∧
    (∃ t, exec (.keyUpdate m k) s = .next t ∧ Out.mgmt m "KEY_UPDATE_ACK" k ∈ t.out ∧
      t.mgmt.sessions = s.mgmt.sessions.map (fun x => if x.id = k then { x with keyNo := x.keyNo + 1, lastMsg := s.aon.now } else x)) ∧
    (∃ t, exec (.endSession m k) s = .next t ∧ Out.mgmt m "END_SESSION_ACK" k ∈ t.out ∧
      t.mgmt.sessions = s.mgmt.sessions.filter (fun x => x.id != k)))
  ∧ (∀ (s : State) (k : Nat), s.mgmt.sessions.any (fun x => x.id == k && s.elapsed x.lastMsg 180000000000) = true →
    ∃ t, exec (.sessionIdleTimeout k) s = .next t ∧ t.mgmt.sessions = s.mgmt.sessions.filter (fun x => x.id != k))

/-- R413, R415, R416: the field network and telemetry. -/
def Obligations.FieldNetwork : Prop :=
  -- NEIGHBOR_SOLICITATION, ECHO_REQUEST
  (∀ (s : State) (a : Nat) (l : List Byte), s.pathUp .fieldNet = true →
    (s.ownAddr a = true → (∃ t, exec (.neighborSolicitation a) s = .next t ∧ Out.ndp a ∈ t.out) ∧
      ∃ t, exec (.echoRequest a l) s = .next t ∧ Out.echo a l ∈ t.out) ∧
    (s.ownAddr a = false → exec (.neighborSolicitation a) s = .next s ∧ exec (.echoRequest a l) s = .next s))
  -- T1S_LINK_UP, T1S_LINK_DOWN
  ∧ (∀ (s : State) (u : Bool), s.mode.base ≠ .unpowered →
    (s.mgmt.t1sUp = false → ∃ t, exec (.t1sLinkUp u) s = .next t ∧ t.mgmt.t1sUp = true ∧ t.mgmt.plcaActive = s.cfgB 0x8810 2 ∧
      t.mgmt.linkLocal = u) ∧
    (s.mgmt.t1sUp = true → ∃ t, exec .t1sLinkDown s = .next t ∧ t.mgmt.t1sUp = false ∧ t.mgmt.plcaActive = false ∧ t.mgmt.linkLocal = false))
  -- TELEMETRY_PERIOD, TELEMETRY_EVENT_PUSH
  ∧ (∀ (s w : State) (k : Nat), k < 4 → w = s.boundary (0x8820 + k) → w.pathUp .fieldNet = true →
    (w.cfg (0x8820 + k) 4 ≠ 0 → w.telemDest k = 0 → exec (.telemetryPeriod k) s = .next w) ∧
    (w.cfg (0x8820 + k) 4 ≠ 0 → w.telemDest k ≠ 0 → w.cfgB (0x8820 + k) 6 = true →
      w.mgmt.sessions.any (fun x => x.opened && decide (x.path = .fieldNet) && x.peer == w.telemDest k) = false →
      exec (.telemetryPeriod k) s = .next w) ∧
    (w.cfg (0x8820 + k) 4 ≠ 0 → w.telemDest k ≠ 0 → w.cfgB (0x8820 + k) 6 = false ∨
        w.mgmt.sessions.any (fun x => x.opened && decide (x.path = .fieldNet) && x.peer == w.telemDest k) = true →
      ∃ t, exec (.telemetryPeriod k) s = .next t ∧ (Tbl.get {} t.mgmt.telem k).seq = (Tbl.get {} w.mgmt.telem k).seq + 1 ∧
        (Tbl.get {} t.mgmt.telem k).sentGrams ≤ max 200 (Tbl.get {} w.mgmt.telem k).sentGrams ∧
        (Tbl.get {} t.mgmt.telem k).sentBytes ≤ max 65536 (Tbl.get {} w.mgmt.telem k).sentBytes))
  ∧ (∀ (s : State) (k : Nat), k < 4 → s.pathUp .fieldNet = true → s.cfgB (0x8820 + k) 5 = true →
    (Tbl.get {} s.mgmt.telem k).pendingEvent = true →
    (∀ c, (Tbl.get {} s.mgmt.telem k).lastEventPush = some c → s.elapsed c 1000000000 = true) →
    ∃ t, exec (.telemetryEventPush k) s = .next t ∧ (Tbl.get {} t.mgmt.telem k).pendingEvent = false ∧
      (Tbl.get {} t.mgmt.telem k).lastEventPush = some s.aon.now)

/-- R316: what fails a flash channel. A training that fails at 6400h.32 (or has no lower rate of R303), targets that do not answer after a
Synchronous Reset, the second ZQ calibration out of range or the second parity error of the command sequencer within one hour, and a LUN
whose failure leaves half or more of the channel's LUNs failed. -/
def Obligations.ChannelFailure : Prop :=
  (∀ (s : State) (ch cause : Nat) (zq : Bool) (x : Instr),
    (x = .channelTrainingResult ch false ∧ (s.chan ch).st = .training ∧
      ((s.chan ch).rate ≤ s.pf 0x32 ∨ lowerRate (s.chan ch).rate = 0) ∧ cause = 1) ∨
    (x = .syncResetTimeout ch ∧ (s.chanServes ch = true ∨ (s.chan ch).st = .training) ∧ cause = 2) ∨
    (x = .sequencerParityError ch zq ∧ (s.chanServes ch = true ∨ (s.chan ch).st = .training) ∧
      (if zq then (s.chan ch).zqTimes else (s.chan ch).parityTimes).any (fun t => !s.elapsed t hour) = true ∧
      cause = (if zq then 3 else 4)) →
    ∃ t, exec x s = .next t ∧ (t.chan ch).st = .failed ∧ (t.chan ch).failCause = cause ∧ (t.chan ch).busActive = none ∧
      (t.chan ch).busWait = [] ∧ (t.island (16 + ch)).st = .off ∧ (t.island (16 + ch)).failed = true ∧
      (∀ p, p < s.positions → (t.lun ch p).failed = true ∧ (t.lun ch p).retired = true ∧ (t.lun ch p).running = none) ∧
      (∀ c, c ≠ ch → (t.chan c).st = (s.chan c).st))
  -- half or more of the channel's LUNs failed: a LUN fails, for any cause of R315
  ∧ (∀ (s : State) (ch pos cause : Nat), pos < s.positions → (s.lun ch pos).failed = false →
    s.positions ≤ 2 * (((List.range s.positions).filter (fun p => p != pos && (s.lun ch p).failed && (s.lun ch p).retired)).length + 1) →
    ((s.lunFail ch pos cause).chan ch).st = .failed ∧
      ((s.chan ch).st ≠ .failed → ((s.lunFail ch pos cause).chan ch).failCause = 5))
  -- the commands with which it fails: still busy after its reset, and the third busy timeout of 24 hours
  ∧ (∀ (s : State) (ch pos : Nat) (x : Instr), pos < s.positions → (s.lun ch pos).failed = false →
    s.positions ≤ 2 * (((List.range s.positions).filter (fun p => p != pos && (s.lun ch p).failed && (s.lun ch p).retired)).length + 1) →
    (x = .lunResetCheck ch pos true ∧ (s.lun ch pos).resetPending = true ∧
      s.elapsed ((s.lun ch pos).timeouts.getLastD 0) 10000000 = true) ∨
    (x = .lunBusyTimeout ch pos ∧ s.lunServes ch pos = true ∧ (s.lun ch pos).resetPending = false ∧ s.busyTooLong ch pos = true ∧
      2 ≤ ((s.lun ch pos).timeouts.filter (fun t => !s.elapsed t (24 * hour))).length) →
    ∃ t, exec x s = .next t ∧ (t.chan ch).st = .failed)

/-- R360: what fails a DRAM channel. A training or retraining that fails, or mode registers that disagree; the fourth uncorrectable code
word of one hour; an uncorrectable code word where a device is marked; a second device of a marked rank that meets the marking rule of
R345, by five bytes of one correction or by DEVICE_MARK code words in 24 hours; the second parity error of one hour. -/
def Obligations.DramChannelFailure : Prop :=
  (∀ (s : State) (ch cause : Nat) (pass agree : Bool) (x : Instr), (s.dram ch).st ≠ 4 →
    (x = .dramTrainingResult ch pass agree ∧ (s.dram ch).retraining = true ∧ (pass && agree) = false ∧ cause = 1) ∨
    (x = .dramTrainingResult ch pass agree ∧ (s.dram ch).retraining = false ∧ (s.dram ch).st = 1 ∧
      ((pass = true ∧ agree = false) ∨ (pass = false ∧ (s.dram ch).rate ≠ 6400 ∧ (s.dram ch).rate ≠ 5600)) ∧ cause = 1) ∨
    (x = .dramParityError ch ∧ s.dramUp ch = true ∧ s.recent (s.dram ch).parityTimes hour ≠ [] ∧ cause = 5) →
    ∃ t, exec x s = .next t ∧ (t.dram ch).st = 4 ∧ (t.dram ch).cause = cause ∧ (t.dram ch).panic = false ∧
      (t.dram ch).retraining = false ∧ (∀ c, c ≠ ch → t.dram c = s.dram c))
  ∧ (∀ (s : State) (p : DramPlace) (code : DramCode) (good : Bool) (user : DramUser) (rank device bytes cause : Nat),
    s.dramUp p.channel = true → rank = p.subch * 2 + p.rank →
    (code = .uncorrectable device ∧ (s.dram p.channel).marks.any (fun m => m.1 == rank) = false ∧
      3 ≤ (s.recent (s.dram p.channel).uncorrTimes hour).length ∧ cause = 2) ∨
    (code = .uncorrectable device ∧ (s.dram p.channel).marks.any (fun m => m.1 == rank) = true ∧ cause = 3) ∨
    (code = .corrected device bytes ∧ (∃ m, (s.dram p.channel).marks.find? (fun m => m.1 == rank) = some m ∧ m.2 ≠ device) ∧
      (5 ≤ bytes ∨ s.cfg 0x7801 6 ≤ ((s.dram p.channel).corrTimes.filter
        (fun c => c.1 == rank * 16 + device && !s.elapsed c.2 (24 * hour))).length + 1) ∧ cause = 4) →
    ∃ t, exec (.dramReadComplete p code good user) s = .next t ∧ (t.dram p.channel).st = 4 ∧ (t.dram p.channel).cause = cause ∧
      (∀ c, c ≠ p.channel → t.dram c = s.dram c))

/-- R165: the budget of a port at an epoch start. It is 4000h.02 in single-port mode and 4000h.03 for each port in dual-port mode, held in
1/256 unit and before a power state scales it (R390); a port whose link is down gives all of it to Upkeep; dividing one port's budget
leaves the other port's budget and pools. -/
def Obligations.PortBudgets : Prop :=
  (∀ s : State, s.mode.psInForce = 0 → s.portBudget = 256 * (if s.dual then s.cfg 0x4000 3 else s.cfg 0x4000 2))
  ∧ (∀ s : State, s.awake = true → ∃ t, exec .epochStart s = .next t ∧
    ((t.port 0).linkUp = false → t.portPool 0 = { upkeep := t.portBudget }) ∧
    (t.dual = true → (t.port 1).linkUp = false → t.portPool 1 = { upkeep := t.portBudget }))
  ∧ (∀ (s : State) (p : Nat), p < 2 → (s.portEpoch p).portBudget = s.portBudget ∧ (s.portEpoch p).portPool (1 - p) = s.portPool (1 - p))

/-- R121: an entry whose queue and identifier are those of a command that waits in the fetch window or holds a tag completes with Command
ID Conflict. No tag changes, the window keeps the earlier command, and the conflict is counted. -/
def Obligations.CommandIdConflict : Prop :=
  ∀ (s : State) (q cqk : QKey) (e : Sqe), cqk = q.withQid (s.sq q).cqid →
    ((∃ w ∈ (s.sq q).window, w.e.cid = e.cid) ∨
      (∃ x ∈ s.tags, x.2.st ≠ .free ∧ x.2.q = q ∧ x.2.sqe.cid = e.cid ∧ x.2.mi = none)) →
    -- from the controller memory buffer
    (s.awake = true → (s.sq q).inCmb = true → 1 ≤ s.fetchCount q → s.held (s.qfunc q).1 (s.qfunc q).2 = false →
      s.parseStatus q (s.lineMarked q (s.sq q).head) e = none →
      ∃ t, exec (.entryFetch q [e]) s = .next t ∧ t.tags = s.tags ∧ (t.sq q).window = (s.sq q).window ∧
        t.cmds.idConflicts = satAdd 32 s.cmds.idConflicts 1 ∧
        (s.cqOpen cqk = false → (t.cq cqk).held = (s.cq cqk).held ++ [(q, e.cid, ⟨0, 3⟩, 0, 0)]) ∧
        (s.cqOpen cqk = true → (s.cq cqk).held = [] →
          s.atcHit (s.qfunc q).1 (s.qfunc q).2 (s.qpasid q) ((s.cq cqk).base + 16 * (s.cq cqk).tail) = true →
          Out.completion cqk q.qid e.cid (if (s.sq q).head + 1 = (s.sq q).size then 0 else (s.sq q).head + 1) (s.cq cqk).phase
            ⟨0, 3⟩ 0 0 ∈ t.out)) ∧
    -- from host memory
    (∀ (r : Nat) (d : Dma), (s.sq q).inCmb = false → (s.sq q).live = true →
      s.dmas.find? (fun d => d.2.use == some (.entries q)) = some (r, d) → d.len = 64 → s.parseStatus q false e = none →
      ∃ u : State, exec (.entryFetch q [e]) s = .next ((u.cqPut q e.cid ⟨0, 3⟩).fetchAsk q) ∧
        (u.cqPut q e.cid ⟨0, 3⟩).tags = s.tags ∧ ((u.cqPut q e.cid ⟨0, 3⟩).sq q).window = (s.sq q).window ∧
        u.cmds.idConflicts = satAdd 32 s.cmds.idConflicts 1)

/-- R397: the limit of a junction sensor, what two sensors and what one sensor at its limit do in one sample round outside Dormant. The
register table of R405 says that CRITICAL is set where the rule raises the zone. -/
def Obligations.JunctionLimits : Prop :=
  (∀ (s : State) (k : Nat), s.junctionLimit k ≤ ((8 * s.cfg 0x8100 1 : Nat) : Int) ∧
    (∀ z, z < 8 → s.zoneOn z = true → s.inZone z k = true → s.junctionLimit k ≤ ((8 * s.cfg (0x8110 + z) 7 : Nat) : Int)) ∧
    (s.junctionLimit k = ((8 * s.cfg 0x8100 1 : Nat) : Int) ∨
      ∃ z, z < 8 ∧ s.zoneOn z = true ∧ s.inZone z k = true ∧ s.junctionLimit k = ((8 * s.cfg (0x8110 + z) 7 : Nat) : Int)))
  ∧ (∀ (s : State) (samples : List Sample), s.mode.base ≠ .unpowered → samples.length = 18 →
    ∃ u : State, exec (.thermalSampleRound samples) s = .next (if u.awake && decide (2 ≤ u.junctionsHot.length) then u.thermalShutdown
        else u.retrainHeat) ∧
      (∀ k, k ∈ u.junctionsHot ↔ 12 ≤ k ∧ k ≤ 17 ∧ (u.sensor k).broken = false ∧ u.junctionLimit k ≤ (u.sensor k).readingQ) ∧
      u.junctionsHot.Nodup ∧
      (∀ k z, k ∈ u.junctionsHot → z < 8 → u.zoneOn z = true → u.inZone z k = true →
        (u.tzone z).step = 4 ∧ ((s.tzone z).step ≠ 4 → u.regs.thmEvent.getLsbD 4 = true)))

/-- R398: a thermal shutdown and the end of its hold. In Flush, which a shutdown finds running, the hold follows Flush. -/
def Obligations.ThermalShutdown : Prop :=
  (∀ s t : State, t = s.thermalShutdown →
    t.thermal.shutdowns = satAdd 32 s.thermal.shutdowns 1 ∧ t.regs.thmEvent.getLsbD 6 = true ∧
    (s.inService = true → t.mode.base = .flush ∧ t.mode.flushCause = 11 ∧ t.aon.thermalHold = true ∧
      t.aon.holdNeedsPg = !s.cfgB 0x8100 3) ∧
    (s.mode.base = .bringUp → t.mode.base = .dormant ∧ t.aon.thermalHold = true ∧ t.aon.holdNeedsPg = !s.cfgB 0x8100 3) ∧
    (s.mode.base = .flush → t.mode.base = .flush ∧ t.mode.shutdownInFlush = true))
  -- the time since which every good junction sensor has read below its limit less RESTART_MARGIN_C
  ∧ (∀ (s : State) (samples : List Sample), s.mode.base = .dormant → samples.length = 18 →
    ∃ u : State, exec (.thermalSampleRound samples) s = .next u ∧
      ((∀ k, 12 ≤ k → k ≤ 17 → (u.sensor k).broken = false →
          (u.sensor k).readingQ < u.junctionLimit k - ((8 * u.cfg 0x8100 2 : Nat) : Int)) →
        u.thermal.coolSince = some (s.thermal.coolSince.getD s.aon.now)) ∧
      (∀ k, 12 ≤ k → k ≤ 17 → (u.sensor k).broken = false →
        u.junctionLimit k - ((8 * u.cfg 0x8100 2 : Nat) : Int) ≤ (u.sensor k).readingQ → u.thermal.coolSince = none))
  -- the hold ends after 60 s of that time, and not before
  ∧ (∀ s : State, s.mode.base = .dormant → s.aon.thermalHold = true →
    ∃ t, exec .thermalHoldEnd s = .next t ∧
      (t.aon.thermalHold = false ↔ ∃ c, s.thermal.coolSince = some c ∧ c + 60000000000 ≤ s.aon.now))
  -- with AUTO_RESTART false, Bring-Up waits until MAIN_PG has gone false and then true
  ∧ (∀ s : State, s.mode.base = .dormant → s.aon.thermalHold = true → s.aon.holdNeedsPg = true →
    ∃ t, exec .thermalHoldEnd s = .next t ∧ t.mode.base = .dormant ∧ t.aon.holdNeedsPg = true)
  ∧ (∀ s : State, s.mode.base = .dormant → s.aon.holdNeedsPg = true → s.mayStart = false ∧
    (s.aon.mainPg = true → ∃ t, exec .mainPgFalse s = .next t ∧ t.aon.holdNeedsPg = false ∧ t.aon.mainPg = false ∧ t.mode.base = .dormant))
end

