-- ==== Sys2Proof/Laws/Tbl.lean ====
section
/-! SUPPORT. Tables and memories: what a read gives after a write, and the canonical form, which every write keeps. -/

namespace Sys2Proof

/-! ### A read after a write -/

theorem Tbl.get_erase_same {α : Type} (d : α) (t : Tbl α) (k : Nat) : Tbl.get d (Tbl.erase k t) k = d := by
  induction t with
  | nil => rfl
  | cons x t ih =>
    unfold Tbl.erase
    by_cases h : x.1 = k
    · rw [if_pos h]; exact ih
    · rw [if_neg h]; unfold Tbl.get; rw [if_neg h]; exact ih

theorem Tbl.get_erase_ne {α : Type} (d : α) (t : Tbl α) {j k : Nat} (h : j ≠ k) :
    Tbl.get d (Tbl.erase j t) k = Tbl.get d t k := by
  induction t with
  | nil => rfl
  | cons x t ih =>
    unfold Tbl.erase
    by_cases hx : x.1 = j
    · rw [if_pos hx, ih]; conv_rhs => unfold Tbl.get
      rw [if_neg (fun c => h (hx.symm.trans c))]
    · rw [if_neg hx]
      show (if x.1 = k then x.2 else _) = (if x.1 = k then x.2 else _)
      rw [ih]

theorem Tbl.get_insert_same {α : Type} (d : α) (t : Tbl α) (k : Nat) (v : α) (h : ∀ x ∈ t, x.1 ≠ k) :
    Tbl.get d (Tbl.insertSorted k v t) k = v := by
  induction t with
  | nil => simp [Tbl.insertSorted, Tbl.get]
  | cons x t ih =>
    unfold Tbl.insertSorted
    by_cases hx : k < x.1
    · rw [if_pos hx]; simp [Tbl.get]
    · rw [if_neg hx]; unfold Tbl.get
      rw [if_neg (h x (by simp))]
      exact ih (fun y hy => h y (List.mem_cons_of_mem _ hy))

theorem Tbl.get_insert_ne {α : Type} (d : α) (t : Tbl α) {j k : Nat} (v : α) (h : j ≠ k) :
    Tbl.get d (Tbl.insertSorted j v t) k = Tbl.get d t k := by
  induction t with
  | nil => simp [Tbl.insertSorted, Tbl.get, h]
  | cons x t ih =>
    unfold Tbl.insertSorted
    by_cases hx : j < x.1
    · rw [if_pos hx]; simp [Tbl.get, h]
    · rw [if_neg hx]
      show (if x.1 = k then x.2 else _) = (if x.1 = k then x.2 else _)
      rw [ih]

theorem Tbl.erase_ne {α : Type} (t : Tbl α) (k : Nat) : ∀ x ∈ Tbl.erase k t, x.1 ≠ k := by
  induction t with
  | nil => simp [Tbl.erase]
  | cons y t ih =>
    unfold Tbl.erase
    by_cases h : y.1 = k
    · rw [if_pos h]; exact ih
    · rw [if_neg h]
      intro x hx
      rcases List.mem_cons.mp hx with e | e
      · rw [e]; exact h
      · exact ih x e

/-- A read at the key of a write gives the value written. -/
@[simp] theorem Tbl.get_set_same {α : Type} [DecidableEq α] (d : α) (t : Tbl α) (k : Nat) (v : α) :
    Tbl.get d (Tbl.set d t k v) k = v := by
  unfold Tbl.set
  by_cases h : v = d
  · rw [if_pos h, Tbl.get_erase_same, h]
  · rw [if_neg h, Tbl.get_insert_same _ _ _ _ (Tbl.erase_ne t k)]

/-- A write leaves every other key alone. -/
theorem Tbl.get_set_ne {α : Type} [DecidableEq α] (d : α) (t : Tbl α) {j k : Nat} (v : α) (h : j ≠ k) :
    Tbl.get d (Tbl.set d t j v) k = Tbl.get d t k := by
  unfold Tbl.set
  by_cases hv : v = d
  · rw [if_pos hv, Tbl.get_erase_ne d t h]
  · rw [if_neg hv, Tbl.get_insert_ne d _ v h, Tbl.get_erase_ne d t h]

/-! ### The canonical form -/

theorem Tbl.wfFrom_mono {α : Type} [DecidableEq α] {d : α} {t : Tbl α} {a b : Nat} (hab : a ≤ b)
    (h : Tbl.wfFrom d b t = true) : Tbl.wfFrom d a t = true := by
  cases t with
  | nil => rfl
  | cons x t =>
    simp only [Tbl.wfFrom, Bool.and_eq_true, decide_eq_true_eq, Bool.not_eq_true'] at h ⊢
    exact ⟨⟨le_trans hab h.1.1, h.1.2⟩, h.2⟩

theorem Tbl.wfFrom_erase {α : Type} [DecidableEq α] {d : α} {t : Tbl α} {lo : Nat} (k : Nat)
    (h : Tbl.wfFrom d lo t = true) : Tbl.wfFrom d lo (Tbl.erase k t) = true := by
  induction t generalizing lo with
  | nil => rfl
  | cons x t ih =>
    simp only [Tbl.wfFrom, Bool.and_eq_true, decide_eq_true_eq, Bool.not_eq_true'] at h
    unfold Tbl.erase
    by_cases hx : x.1 = k
    · rw [if_pos hx]; exact Tbl.wfFrom_mono (by omega) (ih h.2)
    · rw [if_neg hx]
      simp only [Tbl.wfFrom, Bool.and_eq_true, decide_eq_true_eq, Bool.not_eq_true']
      exact ⟨h.1, ih h.2⟩

theorem Tbl.wfFrom_insert {α : Type} [DecidableEq α] {d : α} {t : Tbl α} {lo k : Nat} {v : α} (hk : lo ≤ k) (hv : v ≠ d)
    (hne : ∀ x ∈ t, x.1 ≠ k) (h : Tbl.wfFrom d lo t = true) : Tbl.wfFrom d lo (Tbl.insertSorted k v t) = true := by
  induction t generalizing lo with
  | nil => simp [Tbl.insertSorted, Tbl.wfFrom, hk, hv]
  | cons x t ih =>
    simp only [Tbl.wfFrom, Bool.and_eq_true, decide_eq_true_eq, Bool.not_eq_true'] at h
    unfold Tbl.insertSorted
    by_cases hx : k < x.1
    · rw [if_pos hx]
      simp only [Tbl.wfFrom, Bool.and_eq_true, decide_eq_true_eq, Bool.not_eq_true']
      exact ⟨⟨hk, by simpa using hv⟩, ⟨by omega, h.1.2⟩, h.2⟩
    · rw [if_neg hx]
      simp only [Tbl.wfFrom, Bool.and_eq_true, decide_eq_true_eq, Bool.not_eq_true']
      have h1 := hne x (by simp)
      exact ⟨h.1, ih (by omega) (fun y hy => hne y (List.mem_cons_of_mem _ hy)) h.2⟩

/-- A write keeps the canonical form. -/
theorem Tbl.wf_set {α : Type} [DecidableEq α] {d : α} {t : Tbl α} (k : Nat) (v : α) (h : Tbl.wf d t = true) :
    Tbl.wf d (Tbl.set d t k v) = true := by
  unfold Tbl.set
  by_cases hv : v = d
  · rw [if_pos hv]; exact Tbl.wfFrom_erase k h
  · rw [if_neg hv]; exact Tbl.wfFrom_insert (Nat.zero_le _) hv (Tbl.erase_ne t k) (Tbl.wfFrom_erase k h)

/-! ### Memories -/

@[simp] theorem Mem.read_write_same (m : Mem) (a : Nat) (b : Byte) : (m.write a b).read a = b := Tbl.get_set_same _ _ _ _
theorem Mem.read_write_ne (m : Mem) {a c : Nat} (b : Byte) (h : a ≠ c) : (m.write a b).read c = m.read c :=
  Tbl.get_set_ne _ _ _ h

/-- A write of a byte keeps the canonical form. -/
theorem Mem.wf_write {m : Mem} (a : Nat) (b : Byte) (h : m.wf = true) : (m.write a b).wf = true := Tbl.wf_set a b h

/-- A write of a run of bytes keeps the canonical form. -/
theorem Mem.wf_writeList {m : Mem} (a : Nat) (l : List Byte) (h : m.wf = true) : (m.writeList a l).wf = true := by
  induction l generalizing m a with
  | nil => exact h
  | cons b l ih => exact ih _ (Mem.wf_write a b h)

/-- Writes of single bytes keep the canonical form. -/
theorem Mem.wf_writes {m : Mem} (l : List (Nat × Byte)) (h : m.wf = true) :
    Mem.wf (l.foldl (fun m b => Mem.write m b.1 b.2) m) = true := by
  induction l generalizing m with
  | nil => exact h
  | cons b l ih => exact ih (Mem.wf_write b.1 b.2 h)

/-- A run of bytes leaves every address outside it alone. -/
theorem Mem.read_writeList_ne (m : Mem) (a : Nat) (l : List Byte) {c : Nat} (h : c < a ∨ a + l.length ≤ c) :
    (m.writeList a l).read c = m.read c := by
  induction l generalizing m a with
  | nil => rfl
  | cons b l ih =>
    have h2 : c < a + 1 ∨ a + 1 + l.length ≤ c := by
      simp only [List.length_cons] at h; omega
    show ((m.write a b).writeList (a + 1) l).read c = m.read c
    rw [ih _ _ h2, Mem.read_write_ne]
    simp only [List.length_cons] at h; omega

end Sys2Proof
end

