-- ==== Sys2Proof/Laws/Frame.lean ====
section
/-! SUPPORT. What an operation may change: `Chg m s t` says that t differs from s only in the components that the mask m names,
that the queue of waiting commands is the same, that the fuse history only grows, and that the two addressed memories keep their
canonical form. One lemma for each set of components that an operation updates at once. -/

namespace Sys2Proof.Machine

/-- The controller memory buffer of every port has its canonical form. -/
def State.cmbWf (s : State) : Prop := ∀ p, Mem.wf (s.port p).cmb = true

/-- The difference between two states; bit k of the mask stands for the k-th component after the queue. -/
structure Chg (m : Nat) (s t : State) : Prop where
  pending : t.pending = s.pending
  fuses : s.sec.fuses <+: t.sec.fuses
  dmb : Mem.wf s.regs.dmbBuf = true → Mem.wf t.regs.dmbBuf = true
  cmb : s.cmbWf → t.cmbWf
  out : m.testBit 1 = false → t.out = s.out
  aon : m.testBit 2 = false → t.aon = s.aon
  mode : m.testBit 3 = false → t.mode = s.mode
  regs : m.testBit 4 = false → t.regs = s.regs
  ras : m.testBit 5 = false → t.ras = s.ras
  ports : m.testBit 6 = false → t.ports = s.ports
  funcs : m.testBit 7 = false → t.funcs = s.funcs
  dmas : m.testBit 8 = false → t.dmas = s.dmas
  dmaWait : m.testBit 9 = false → t.dmaWait = s.dmaWait
  dict : m.testBit 10 = false → t.dict = s.dict
  sqs : m.testBit 11 = false → t.sqs = s.sqs
  cqs : m.testBit 12 = false → t.cqs = s.cqs
  tags : m.testBit 13 = false → t.tags = s.tags
  ctrls : m.testBit 14 = false → t.ctrls = s.ctrls
  cmds : m.testBit 15 = false → t.cmds = s.cmds
  slices : m.testBit 16 = false → t.slices = s.slices
  dirty : m.testBit 17 = false → t.dirty = s.dirty
  sched : m.testBit 18 = false → t.sched = s.sched
  luns : m.testBit 19 = false → t.luns = s.luns
  chans : m.testBit 20 = false → t.chans = s.chans
  islands : m.testBit 21 = false → t.islands = s.islands
  engines : m.testBit 22 = false → t.engines = s.engines
  nss : m.testBit 23 = false → t.nss = s.nss
  zones : m.testBit 24 = false → t.zones = s.zones
  pool : m.testBit 25 = false → t.pool = s.pool
  map : m.testBit 26 = false → t.map = s.map
  jrn : m.testBit 27 = false → t.jrn = s.jrn
  wbuf : m.testBit 28 = false → t.wbuf = s.wbuf
  media : m.testBit 29 = false → t.media = s.media
  recov : m.testBit 30 = false → t.recov = s.recov
  cmp : m.testBit 31 = false → t.cmp = s.cmp
  drams : m.testBit 32 = false → t.drams = s.drams
  ranks : m.testBit 33 = false → t.ranks = s.ranks
  chip : m.testBit 34 = false → t.chip = s.chip
  thermal : m.testBit 35 = false → t.thermal = s.thermal
  mgmt : m.testBit 36 = false → t.mgmt = s.mgmt
  sec : m.testBit 37 = false → t.sec = s.sec

/-- Nothing changed. -/
theorem Chg.refl (m : Nat) (s : State) : Chg m s s where
  pending := rfl
  fuses := List.prefix_rfl
  dmb := id
  cmb := id
  out := fun _ => rfl
  aon := fun _ => rfl
  mode := fun _ => rfl
  regs := fun _ => rfl
  ras := fun _ => rfl
  ports := fun _ => rfl
  funcs := fun _ => rfl
  dmas := fun _ => rfl
  dmaWait := fun _ => rfl
  dict := fun _ => rfl
  sqs := fun _ => rfl
  cqs := fun _ => rfl
  tags := fun _ => rfl
  ctrls := fun _ => rfl
  cmds := fun _ => rfl
  slices := fun _ => rfl
  dirty := fun _ => rfl
  sched := fun _ => rfl
  luns := fun _ => rfl
  chans := fun _ => rfl
  islands := fun _ => rfl
  engines := fun _ => rfl
  nss := fun _ => rfl
  zones := fun _ => rfl
  pool := fun _ => rfl
  map := fun _ => rfl
  jrn := fun _ => rfl
  wbuf := fun _ => rfl
  media := fun _ => rfl
  recov := fun _ => rfl
  cmp := fun _ => rfl
  drams := fun _ => rfl
  ranks := fun _ => rfl
  chip := fun _ => rfl
  thermal := fun _ => rfl
  mgmt := fun _ => rfl
  sec := fun _ => rfl

/-- A bit that a mask leaves out is left out of a smaller mask. -/
theorem testBit_sub {a b k : Nat} (h : a ||| b = b) (hb : b.testBit k = false) : a.testBit k = false := by
  have h1 : (a ||| b).testBit k = false := by rw [h]; exact hb
  rw [Nat.testBit_or] at h1
  exact (Bool.or_eq_false_iff.mp h1).1

/-- A change of t after a change from s to t. -/
theorem Chg.step {a m : Nat} {s t u : State} (h2 : Chg a t u) (h1 : Chg m s t) (hm : a ||| m = m) : Chg m s u where
  pending := h2.pending.trans h1.pending
  fuses := h1.fuses.trans h2.fuses
  dmb := fun h => h2.dmb (h1.dmb h)
  cmb := fun h => h2.cmb (h1.cmb h)
  out := fun h => (h2.out (testBit_sub hm h)).trans (h1.out h)
  aon := fun h => (h2.aon (testBit_sub hm h)).trans (h1.aon h)
  mode := fun h => (h2.mode (testBit_sub hm h)).trans (h1.mode h)
  regs := fun h => (h2.regs (testBit_sub hm h)).trans (h1.regs h)
  ras := fun h => (h2.ras (testBit_sub hm h)).trans (h1.ras h)
  ports := fun h => (h2.ports (testBit_sub hm h)).trans (h1.ports h)
  funcs := fun h => (h2.funcs (testBit_sub hm h)).trans (h1.funcs h)
  dmas := fun h => (h2.dmas (testBit_sub hm h)).trans (h1.dmas h)
  dmaWait := fun h => (h2.dmaWait (testBit_sub hm h)).trans (h1.dmaWait h)
  dict := fun h => (h2.dict (testBit_sub hm h)).trans (h1.dict h)
  sqs := fun h => (h2.sqs (testBit_sub hm h)).trans (h1.sqs h)
  cqs := fun h => (h2.cqs (testBit_sub hm h)).trans (h1.cqs h)
  tags := fun h => (h2.tags (testBit_sub hm h)).trans (h1.tags h)
  ctrls := fun h => (h2.ctrls (testBit_sub hm h)).trans (h1.ctrls h)
  cmds := fun h => (h2.cmds (testBit_sub hm h)).trans (h1.cmds h)
  slices := fun h => (h2.slices (testBit_sub hm h)).trans (h1.slices h)
  dirty := fun h => (h2.dirty (testBit_sub hm h)).trans (h1.dirty h)
  sched := fun h => (h2.sched (testBit_sub hm h)).trans (h1.sched h)
  luns := fun h => (h2.luns (testBit_sub hm h)).trans (h1.luns h)
  chans := fun h => (h2.chans (testBit_sub hm h)).trans (h1.chans h)
  islands := fun h => (h2.islands (testBit_sub hm h)).trans (h1.islands h)
  engines := fun h => (h2.engines (testBit_sub hm h)).trans (h1.engines h)
  nss := fun h => (h2.nss (testBit_sub hm h)).trans (h1.nss h)
  zones := fun h => (h2.zones (testBit_sub hm h)).trans (h1.zones h)
  pool := fun h => (h2.pool (testBit_sub hm h)).trans (h1.pool h)
  map := fun h => (h2.map (testBit_sub hm h)).trans (h1.map h)
  jrn := fun h => (h2.jrn (testBit_sub hm h)).trans (h1.jrn h)
  wbuf := fun h => (h2.wbuf (testBit_sub hm h)).trans (h1.wbuf h)
  media := fun h => (h2.media (testBit_sub hm h)).trans (h1.media h)
  recov := fun h => (h2.recov (testBit_sub hm h)).trans (h1.recov h)
  cmp := fun h => (h2.cmp (testBit_sub hm h)).trans (h1.cmp h)
  drams := fun h => (h2.drams (testBit_sub hm h)).trans (h1.drams h)
  ranks := fun h => (h2.ranks (testBit_sub hm h)).trans (h1.ranks h)
  chip := fun h => (h2.chip (testBit_sub hm h)).trans (h1.chip h)
  thermal := fun h => (h2.thermal (testBit_sub hm h)).trans (h1.thermal h)
  mgmt := fun h => (h2.mgmt (testBit_sub hm h)).trans (h1.mgmt h)
  sec := fun h => (h2.sec (testBit_sub hm h)).trans (h1.sec h)

/-- A change within a mask is a change within a larger one. -/
theorem Chg.mono {a m : Nat} {s t : State} (h : Chg a s t) (hm : a ||| m = m) : Chg m s t := h.step (Chg.refl m s) hm

/-- Either branch. -/
theorem Chg.ite {m : Nat} {s a b : State} {c : Prop} [Decidable c] (ha : Chg m s a) (hb : Chg m s b) :
    Chg m s (if c then a else b) := by
  by_cases h : c
  · rw [if_pos h]; exact ha
  · rw [if_neg h]; exact hb

/-- A fold of changes. -/
theorem Chg.foldl {m : Nat} {α : Type} {s t : State} {f : State → α → State} (h : ∀ t x, Chg m t (f t x)) (h1 : Chg m s t)
    (l : List α) : Chg m s (l.foldl f t) := by
  induction l generalizing t with
  | nil => exact h1
  | cons x l ih => exact ih ((h t x).step h1 (Nat.or_self m))

/-- A change for each member of a list. -/
theorem Chg.forEach {m : Nat} {α : Type} {s t : State} {l : List α} {f : α → State → State} (h : ∀ x t, Chg m t (f x t))
    (h1 : Chg m s t) : Chg m s (t.forEach l f) := Chg.foldl (fun t x => h x t) h1 l

/-- The state of a pair. -/
theorem Chg.fst {m : Nat} {α : Type} {s t : State} {o : α} {p : State × α} (e : p = (t, o)) (h : Chg m s p.1) : Chg m s t := by
  rw [e] at h; exact h
theorem Chg.snd {m : Nat} {α : Type} {s t : State} {o : α} {p : α × State} (e : p = (o, t)) (h : Chg m s p.2) : Chg m s t := by
  rw [e] at h; exact h

/-- The controller memory buffers after a change. -/
theorem Chg.cmbAt {m : Nat} {s t : State} (h : Chg m s t) (w : s.cmbWf) (p : Nat) : Mem.wf (t.port p).cmb = true := h.cmb w p

theorem Chg.u_aon {m : Nat} {s t : State} (h : Chg m s t) (v_aon : Aon)
    (hm : 4 ||| m = m) : Chg m s { t with aon := v_aon } :=
  { h with
    aon := fun c => absurd (testBit_sub hm c) (by decide) }

theorem Chg.u_chans {m : Nat} {s t : State} (h : Chg m s t) (v_chans : Tbl Chan)
    (hm : 1048576 ||| m = m) : Chg m s { t with chans := v_chans } :=
  { h with
    chans := fun c => absurd (testBit_sub hm c) (by decide) }

theorem Chg.u_chip {m : Nat} {s t : State} (h : Chg m s t) (v_chip : Onchip)
    (hm : 17179869184 ||| m = m) : Chg m s { t with chip := v_chip } :=
  { h with
    chip := fun c => absurd (testBit_sub hm c) (by decide) }

theorem Chg.u_cmds {m : Nat} {s t : State} (h : Chg m s t) (v_cmds : CmdStats)
    (hm : 32768 ||| m = m) : Chg m s { t with cmds := v_cmds } :=
  { h with
    cmds := fun c => absurd (testBit_sub hm c) (by decide) }

theorem Chg.u_cmp {m : Nat} {s t : State} (h : Chg m s t) (v_cmp : Cmp)
    (hm : 2147483648 ||| m = m) : Chg m s { t with cmp := v_cmp } :=
  { h with
    cmp := fun c => absurd (testBit_sub hm c) (by decide) }

theorem Chg.u_cqs {m : Nat} {s t : State} (h : Chg m s t) (v_cqs : Tbl Cq)
    (hm : 4096 ||| m = m) : Chg m s { t with cqs := v_cqs } :=
  { h with
    cqs := fun c => absurd (testBit_sub hm c) (by decide) }

theorem Chg.u_ctrls {m : Nat} {s t : State} (h : Chg m s t) (v_ctrls : Tbl Ctrl)
    (hm : 16384 ||| m = m) : Chg m s { t with ctrls := v_ctrls } :=
  { h with
    ctrls := fun c => absurd (testBit_sub hm c) (by decide) }

theorem Chg.u_dict {m : Nat} {s t : State} (h : Chg m s t) (v_dict : Dict)
    (hm : 1024 ||| m = m) : Chg m s { t with dict := v_dict } :=
  { h with
    dict := fun c => absurd (testBit_sub hm c) (by decide) }

theorem Chg.u_dirty {m : Nat} {s t : State} (h : Chg m s t) (v_dirty : List DirtyWord)
    (hm : 131072 ||| m = m) : Chg m s { t with dirty := v_dirty } :=
  { h with
    dirty := fun c => absurd (testBit_sub hm c) (by decide) }

theorem Chg.u_dmaWait {m : Nat} {s t : State} (h : Chg m s t) (v_dmaWait : List Dma)
    (hm : 512 ||| m = m) : Chg m s { t with dmaWait := v_dmaWait } :=
  { h with
    dmaWait := fun c => absurd (testBit_sub hm c) (by decide) }

theorem Chg.u_dmas {m : Nat} {s t : State} (h : Chg m s t) (v_dmas : Tbl Dma)
    (hm : 256 ||| m = m) : Chg m s { t with dmas := v_dmas } :=
  { h with
    dmas := fun c => absurd (testBit_sub hm c) (by decide) }

theorem Chg.u_drams {m : Nat} {s t : State} (h : Chg m s t) (v_drams : Tbl Dram)
    (hm : 4294967296 ||| m = m) : Chg m s { t with drams := v_drams } :=
  { h with
    drams := fun c => absurd (testBit_sub hm c) (by decide) }

theorem Chg.u_engines {m : Nat} {s t : State} (h : Chg m s t) (v_engines : Tbl Engine)
    (hm : 4194304 ||| m = m) : Chg m s { t with engines := v_engines } :=
  { h with
    engines := fun c => absurd (testBit_sub hm c) (by decide) }

theorem Chg.u_funcs {m : Nat} {s t : State} (h : Chg m s t) (v_funcs : Tbl Func)
    (hm : 128 ||| m = m) : Chg m s { t with funcs := v_funcs } :=
  { h with
    funcs := fun c => absurd (testBit_sub hm c) (by decide) }

theorem Chg.u_islands {m : Nat} {s t : State} (h : Chg m s t) (v_islands : Tbl Island)
    (hm : 2097152 ||| m = m) : Chg m s { t with islands := v_islands } :=
  { h with
    islands := fun c => absurd (testBit_sub hm c) (by decide) }

theorem Chg.u_jrn {m : Nat} {s t : State} (h : Chg m s t) (v_jrn : Jrn)
    (hm : 134217728 ||| m = m) : Chg m s { t with jrn := v_jrn } :=
  { h with
    jrn := fun c => absurd (testBit_sub hm c) (by decide) }

theorem Chg.u_luns {m : Nat} {s t : State} (h : Chg m s t) (v_luns : Tbl Lun)
    (hm : 524288 ||| m = m) : Chg m s { t with luns := v_luns } :=
  { h with
    luns := fun c => absurd (testBit_sub hm c) (by decide) }

theorem Chg.u_map {m : Nat} {s t : State} (h : Chg m s t) (v_map : MapSt)
    (hm : 67108864 ||| m = m) : Chg m s { t with map := v_map } :=
  { h with
    map := fun c => absurd (testBit_sub hm c) (by decide) }

theorem Chg.u_media {m : Nat} {s t : State} (h : Chg m s t) (v_media : Media)
    (hm : 536870912 ||| m = m) : Chg m s { t with media := v_media } :=
  { h with
    media := fun c => absurd (testBit_sub hm c) (by decide) }

theorem Chg.u_mgmt {m : Nat} {s t : State} (h : Chg m s t) (v_mgmt : Mgmt)
    (hm : 68719476736 ||| m = m) : Chg m s { t with mgmt := v_mgmt } :=
  { h with
    mgmt := fun c => absurd (testBit_sub hm c) (by decide) }

theorem Chg.u_mode {m : Nat} {s t : State} (h : Chg m s t) (v_mode : ModeSt)
    (hm : 8 ||| m = m) : Chg m s { t with mode := v_mode } :=
  { h with
    mode := fun c => absurd (testBit_sub hm c) (by decide) }

theorem Chg.u_nss {m : Nat} {s t : State} (h : Chg m s t) (v_nss : Tbl Ns)
    (hm : 8388608 ||| m = m) : Chg m s { t with nss := v_nss } :=
  { h with
    nss := fun c => absurd (testBit_sub hm c) (by decide) }

theorem Chg.u_out {m : Nat} {s t : State} (h : Chg m s t) (v_out : List Out)
    (hm : 2 ||| m = m) : Chg m s { t with out := v_out } :=
  { h with
    out := fun c => absurd (testBit_sub hm c) (by decide) }

theorem Chg.u_pool {m : Nat} {s t : State} (h : Chg m s t) (v_pool : Pool)
    (hm : 33554432 ||| m = m) : Chg m s { t with pool := v_pool } :=
  { h with
    pool := fun c => absurd (testBit_sub hm c) (by decide) }

theorem Chg.u_ports {m : Nat} {s t : State} (h : Chg m s t) (v_ports : Tbl Port) (hp : t.cmbWf → ∀ p, Mem.wf (Tbl.get {} v_ports p).cmb = true)
    (hm : 64 ||| m = m) : Chg m s { t with ports := v_ports } :=
  { h with
    cmb := fun w p => hp (h.cmb w) p
    ports := fun c => absurd (testBit_sub hm c) (by decide) }

theorem Chg.u_ranks {m : Nat} {s t : State} (h : Chg m s t) (v_ranks : Tbl Rank)
    (hm : 8589934592 ||| m = m) : Chg m s { t with ranks := v_ranks } :=
  { h with
    ranks := fun c => absurd (testBit_sub hm c) (by decide) }

theorem Chg.u_ras {m : Nat} {s t : State} (h : Chg m s t) (v_ras : Ras)
    (hm : 32 ||| m = m) : Chg m s { t with ras := v_ras } :=
  { h with
    ras := fun c => absurd (testBit_sub hm c) (by decide) }

theorem Chg.u_recov {m : Nat} {s t : State} (h : Chg m s t) (v_recov : Recov)
    (hm : 1073741824 ||| m = m) : Chg m s { t with recov := v_recov } :=
  { h with
    recov := fun c => absurd (testBit_sub hm c) (by decide) }

theorem Chg.u_regs {m : Nat} {s t : State} (h : Chg m s t) (v_regs : Regs) (hr : Mem.wf t.regs.dmbBuf = true → Mem.wf v_regs.dmbBuf = true)
    (hm : 16 ||| m = m) : Chg m s { t with regs := v_regs } :=
  { h with
    dmb := fun w => hr (h.dmb w)
    regs := fun c => absurd (testBit_sub hm c) (by decide) }

theorem Chg.u_sched {m : Nat} {s t : State} (h : Chg m s t) (v_sched : Sched)
    (hm : 262144 ||| m = m) : Chg m s { t with sched := v_sched } :=
  { h with
    sched := fun c => absurd (testBit_sub hm c) (by decide) }

theorem Chg.u_sec {m : Nat} {s t : State} (h : Chg m s t) (v_sec : Sec) (hs : t.sec.fuses <+: v_sec.fuses)
    (hm : 137438953472 ||| m = m) : Chg m s { t with sec := v_sec } :=
  { h with
    fuses := h.fuses.trans hs
    sec := fun c => absurd (testBit_sub hm c) (by decide) }

theorem Chg.u_slices {m : Nat} {s t : State} (h : Chg m s t) (v_slices : Tbl Slice)
    (hm : 65536 ||| m = m) : Chg m s { t with slices := v_slices } :=
  { h with
    slices := fun c => absurd (testBit_sub hm c) (by decide) }

theorem Chg.u_sqs {m : Nat} {s t : State} (h : Chg m s t) (v_sqs : Tbl Sq)
    (hm : 2048 ||| m = m) : Chg m s { t with sqs := v_sqs } :=
  { h with
    sqs := fun c => absurd (testBit_sub hm c) (by decide) }

theorem Chg.u_tags {m : Nat} {s t : State} (h : Chg m s t) (v_tags : Tbl Tag)
    (hm : 8192 ||| m = m) : Chg m s { t with tags := v_tags } :=
  { h with
    tags := fun c => absurd (testBit_sub hm c) (by decide) }

theorem Chg.u_thermal {m : Nat} {s t : State} (h : Chg m s t) (v_thermal : Thermal)
    (hm : 34359738368 ||| m = m) : Chg m s { t with thermal := v_thermal } :=
  { h with
    thermal := fun c => absurd (testBit_sub hm c) (by decide) }

theorem Chg.u_wbuf {m : Nat} {s t : State} (h : Chg m s t) (v_wbuf : Wbuf)
    (hm : 268435456 ||| m = m) : Chg m s { t with wbuf := v_wbuf } :=
  { h with
    wbuf := fun c => absurd (testBit_sub hm c) (by decide) }

theorem Chg.u_zones {m : Nat} {s t : State} (h : Chg m s t) (v_zones : Tbl Zone)
    (hm : 16777216 ||| m = m) : Chg m s { t with zones := v_zones } :=
  { h with
    zones := fun c => absurd (testBit_sub hm c) (by decide) }

theorem Chg.u_aon_cmds {m : Nat} {s t : State} (h : Chg m s t) (v_aon : Aon) (v_cmds : CmdStats)
    (hm : 32772 ||| m = m) : Chg m s { t with aon := v_aon, cmds := v_cmds } :=
  { h with
    aon := fun c => absurd (testBit_sub hm c) (by decide)
    cmds := fun c => absurd (testBit_sub hm c) (by decide) }

theorem Chg.u_aon_ports {m : Nat} {s t : State} (h : Chg m s t) (v_aon : Aon) (v_ports : Tbl Port) (hp : t.cmbWf → ∀ p, Mem.wf (Tbl.get {} v_ports p).cmb = true)
    (hm : 68 ||| m = m) : Chg m s { t with aon := v_aon, ports := v_ports } :=
  { h with
    cmb := fun w p => hp (h.cmb w) p
    aon := fun c => absurd (testBit_sub hm c) (by decide)
    ports := fun c => absurd (testBit_sub hm c) (by decide) }

theorem Chg.u_aon_thermal {m : Nat} {s t : State} (h : Chg m s t) (v_aon : Aon) (v_thermal : Thermal)
    (hm : 34359738372 ||| m = m) : Chg m s { t with aon := v_aon, thermal := v_thermal } :=
  { h with
    aon := fun c => absurd (testBit_sub hm c) (by decide)
    thermal := fun c => absurd (testBit_sub hm c) (by decide) }

theorem Chg.u_cmds_sched {m : Nat} {s t : State} (h : Chg m s t) (v_cmds : CmdStats) (v_sched : Sched)
    (hm : 294912 ||| m = m) : Chg m s { t with cmds := v_cmds, sched := v_sched } :=
  { h with
    cmds := fun c => absurd (testBit_sub hm c) (by decide)
    sched := fun c => absurd (testBit_sub hm c) (by decide) }

theorem Chg.u_dict_mgmt {m : Nat} {s t : State} (h : Chg m s t) (v_dict : Dict) (v_mgmt : Mgmt)
    (hm : 68719477760 ||| m = m) : Chg m s { t with dict := v_dict, mgmt := v_mgmt } :=
  { h with
    dict := fun c => absurd (testBit_sub hm c) (by decide)
    mgmt := fun c => absurd (testBit_sub hm c) (by decide) }

theorem Chg.u_dict_sec {m : Nat} {s t : State} (h : Chg m s t) (v_dict : Dict) (v_sec : Sec) (hs : t.sec.fuses <+: v_sec.fuses)
    (hm : 137438954496 ||| m = m) : Chg m s { t with dict := v_dict, sec := v_sec } :=
  { h with
    fuses := h.fuses.trans hs
    dict := fun c => absurd (testBit_sub hm c) (by decide)
    sec := fun c => absurd (testBit_sub hm c) (by decide) }

theorem Chg.u_dmas_cmds {m : Nat} {s t : State} (h : Chg m s t) (v_dmas : Tbl Dma) (v_cmds : CmdStats)
    (hm : 33024 ||| m = m) : Chg m s { t with dmas := v_dmas, cmds := v_cmds } :=
  { h with
    dmas := fun c => absurd (testBit_sub hm c) (by decide)
    cmds := fun c => absurd (testBit_sub hm c) (by decide) }

theorem Chg.u_dmas_dmaWait {m : Nat} {s t : State} (h : Chg m s t) (v_dmas : Tbl Dma) (v_dmaWait : List Dma)
    (hm : 768 ||| m = m) : Chg m s { t with dmas := v_dmas, dmaWait := v_dmaWait } :=
  { h with
    dmas := fun c => absurd (testBit_sub hm c) (by decide)
    dmaWait := fun c => absurd (testBit_sub hm c) (by decide) }

theorem Chg.u_drams_ranks {m : Nat} {s t : State} (h : Chg m s t) (v_drams : Tbl Dram) (v_ranks : Tbl Rank)
    (hm : 12884901888 ||| m = m) : Chg m s { t with drams := v_drams, ranks := v_ranks } :=
  { h with
    drams := fun c => absurd (testBit_sub hm c) (by decide)
    ranks := fun c => absurd (testBit_sub hm c) (by decide) }

theorem Chg.u_engines_sec {m : Nat} {s t : State} (h : Chg m s t) (v_engines : Tbl Engine) (v_sec : Sec) (hs : t.sec.fuses <+: v_sec.fuses)
    (hm : 137443147776 ||| m = m) : Chg m s { t with engines := v_engines, sec := v_sec } :=
  { h with
    fuses := h.fuses.trans hs
    engines := fun c => absurd (testBit_sub hm c) (by decide)
    sec := fun c => absurd (testBit_sub hm c) (by decide) }

theorem Chg.u_jrn_media {m : Nat} {s t : State} (h : Chg m s t) (v_jrn : Jrn) (v_media : Media)
    (hm : 671088640 ||| m = m) : Chg m s { t with jrn := v_jrn, media := v_media } :=
  { h with
    jrn := fun c => absurd (testBit_sub hm c) (by decide)
    media := fun c => absurd (testBit_sub hm c) (by decide) }

theorem Chg.u_map_jrn {m : Nat} {s t : State} (h : Chg m s t) (v_map : MapSt) (v_jrn : Jrn)
    (hm : 201326592 ||| m = m) : Chg m s { t with map := v_map, jrn := v_jrn } :=
  { h with
    map := fun c => absurd (testBit_sub hm c) (by decide)
    jrn := fun c => absurd (testBit_sub hm c) (by decide) }

theorem Chg.u_media_recov {m : Nat} {s t : State} (h : Chg m s t) (v_media : Media) (v_recov : Recov)
    (hm : 1610612736 ||| m = m) : Chg m s { t with media := v_media, recov := v_recov } :=
  { h with
    media := fun c => absurd (testBit_sub hm c) (by decide)
    recov := fun c => absurd (testBit_sub hm c) (by decide) }

theorem Chg.u_mode_dict {m : Nat} {s t : State} (h : Chg m s t) (v_mode : ModeSt) (v_dict : Dict)
    (hm : 1032 ||| m = m) : Chg m s { t with mode := v_mode, dict := v_dict } :=
  { h with
    mode := fun c => absurd (testBit_sub hm c) (by decide)
    dict := fun c => absurd (testBit_sub hm c) (by decide) }

theorem Chg.u_mode_regs {m : Nat} {s t : State} (h : Chg m s t) (v_mode : ModeSt) (v_regs : Regs) (hr : Mem.wf t.regs.dmbBuf = true → Mem.wf v_regs.dmbBuf = true)
    (hm : 24 ||| m = m) : Chg m s { t with mode := v_mode, regs := v_regs } :=
  { h with
    dmb := fun w => hr (h.dmb w)
    mode := fun c => absurd (testBit_sub hm c) (by decide)
    regs := fun c => absurd (testBit_sub hm c) (by decide) }

theorem Chg.u_mode_sched {m : Nat} {s t : State} (h : Chg m s t) (v_mode : ModeSt) (v_sched : Sched)
    (hm : 262152 ||| m = m) : Chg m s { t with mode := v_mode, sched := v_sched } :=
  { h with
    mode := fun c => absurd (testBit_sub hm c) (by decide)
    sched := fun c => absurd (testBit_sub hm c) (by decide) }

theorem Chg.u_mode_sec {m : Nat} {s t : State} (h : Chg m s t) (v_mode : ModeSt) (v_sec : Sec) (hs : t.sec.fuses <+: v_sec.fuses)
    (hm : 137438953480 ||| m = m) : Chg m s { t with mode := v_mode, sec := v_sec } :=
  { h with
    fuses := h.fuses.trans hs
    mode := fun c => absurd (testBit_sub hm c) (by decide)
    sec := fun c => absurd (testBit_sub hm c) (by decide) }

theorem Chg.u_pool_media {m : Nat} {s t : State} (h : Chg m s t) (v_pool : Pool) (v_media : Media)
    (hm : 570425344 ||| m = m) : Chg m s { t with pool := v_pool, media := v_media } :=
  { h with
    pool := fun c => absurd (testBit_sub hm c) (by decide)
    media := fun c => absurd (testBit_sub hm c) (by decide) }

theorem Chg.u_ras_thermal {m : Nat} {s t : State} (h : Chg m s t) (v_ras : Ras) (v_thermal : Thermal)
    (hm : 34359738400 ||| m = m) : Chg m s { t with ras := v_ras, thermal := v_thermal } :=
  { h with
    ras := fun c => absurd (testBit_sub hm c) (by decide)
    thermal := fun c => absurd (testBit_sub hm c) (by decide) }

theorem Chg.u_recov_sec {m : Nat} {s t : State} (h : Chg m s t) (v_recov : Recov) (v_sec : Sec) (hs : t.sec.fuses <+: v_sec.fuses)
    (hm : 138512695296 ||| m = m) : Chg m s { t with recov := v_recov, sec := v_sec } :=
  { h with
    fuses := h.fuses.trans hs
    recov := fun c => absurd (testBit_sub hm c) (by decide)
    sec := fun c => absurd (testBit_sub hm c) (by decide) }

theorem Chg.u_regs_sec {m : Nat} {s t : State} (h : Chg m s t) (v_regs : Regs) (v_sec : Sec) (hs : t.sec.fuses <+: v_sec.fuses) (hr : Mem.wf t.regs.dmbBuf = true → Mem.wf v_regs.dmbBuf = true)
    (hm : 137438953488 ||| m = m) : Chg m s { t with regs := v_regs, sec := v_sec } :=
  { h with
    fuses := h.fuses.trans hs
    dmb := fun w => hr (h.dmb w)
    regs := fun c => absurd (testBit_sub hm c) (by decide)
    sec := fun c => absurd (testBit_sub hm c) (by decide) }

theorem Chg.u_sqs_cqs {m : Nat} {s t : State} (h : Chg m s t) (v_sqs : Tbl Sq) (v_cqs : Tbl Cq)
    (hm : 6144 ||| m = m) : Chg m s { t with sqs := v_sqs, cqs := v_cqs } :=
  { h with
    sqs := fun c => absurd (testBit_sub hm c) (by decide)
    cqs := fun c => absurd (testBit_sub hm c) (by decide) }

theorem Chg.u_zones_map {m : Nat} {s t : State} (h : Chg m s t) (v_zones : Tbl Zone) (v_map : MapSt)
    (hm : 83886080 ||| m = m) : Chg m s { t with zones := v_zones, map := v_map } :=
  { h with
    zones := fun c => absurd (testBit_sub hm c) (by decide)
    map := fun c => absurd (testBit_sub hm c) (by decide) }

theorem Chg.u_map_jrn_recov {m : Nat} {s t : State} (h : Chg m s t) (v_map : MapSt) (v_jrn : Jrn) (v_recov : Recov)
    (hm : 1275068416 ||| m = m) : Chg m s { t with map := v_map, jrn := v_jrn, recov := v_recov } :=
  { h with
    map := fun c => absurd (testBit_sub hm c) (by decide)
    jrn := fun c => absurd (testBit_sub hm c) (by decide)
    recov := fun c => absurd (testBit_sub hm c) (by decide) }

theorem Chg.u_mode_drams_ranks {m : Nat} {s t : State} (h : Chg m s t) (v_mode : ModeSt) (v_drams : Tbl Dram) (v_ranks : Tbl Rank)
    (hm : 12884901896 ||| m = m) : Chg m s { t with mode := v_mode, drams := v_drams, ranks := v_ranks } :=
  { h with
    mode := fun c => absurd (testBit_sub hm c) (by decide)
    drams := fun c => absurd (testBit_sub hm c) (by decide)
    ranks := fun c => absurd (testBit_sub hm c) (by decide) }

theorem Chg.u_zones_map_jrn {m : Nat} {s t : State} (h : Chg m s t) (v_zones : Tbl Zone) (v_map : MapSt) (v_jrn : Jrn)
    (hm : 218103808 ||| m = m) : Chg m s { t with zones := v_zones, map := v_map, jrn := v_jrn } :=
  { h with
    zones := fun c => absurd (testBit_sub hm c) (by decide)
    map := fun c => absurd (testBit_sub hm c) (by decide)
    jrn := fun c => absurd (testBit_sub hm c) (by decide) }

theorem Chg.u_aon_mode_islands_recov {m : Nat} {s t : State} (h : Chg m s t) (v_aon : Aon) (v_mode : ModeSt) (v_islands : Tbl Island) (v_recov : Recov)
    (hm : 1075838988 ||| m = m) : Chg m s { t with aon := v_aon, mode := v_mode, islands := v_islands, recov := v_recov } :=
  { h with
    aon := fun c => absurd (testBit_sub hm c) (by decide)
    mode := fun c => absurd (testBit_sub hm c) (by decide)
    islands := fun c => absurd (testBit_sub hm c) (by decide)
    recov := fun c => absurd (testBit_sub hm c) (by decide) }

theorem Chg.u_map_jrn_wbuf_media {m : Nat} {s t : State} (h : Chg m s t) (v_map : MapSt) (v_jrn : Jrn) (v_wbuf : Wbuf) (v_media : Media)
    (hm : 1006632960 ||| m = m) : Chg m s { t with map := v_map, jrn := v_jrn, wbuf := v_wbuf, media := v_media } :=
  { h with
    map := fun c => absurd (testBit_sub hm c) (by decide)
    jrn := fun c => absurd (testBit_sub hm c) (by decide)
    wbuf := fun c => absurd (testBit_sub hm c) (by decide)
    media := fun c => absurd (testBit_sub hm c) (by decide) }

theorem Chg.u_aon_mode_regs_ras_thermal_mgmt {m : Nat} {s t : State} (h : Chg m s t) (v_aon : Aon) (v_mode : ModeSt) (v_regs : Regs) (v_ras : Ras) (v_thermal : Thermal) (v_mgmt : Mgmt) (hr : Mem.wf t.regs.dmbBuf = true → Mem.wf v_regs.dmbBuf = true)
    (hm : 103079215164 ||| m = m) : Chg m s { t with aon := v_aon, mode := v_mode, regs := v_regs, ras := v_ras, thermal := v_thermal, mgmt := v_mgmt } :=
  { h with
    dmb := fun w => hr (h.dmb w)
    aon := fun c => absurd (testBit_sub hm c) (by decide)
    mode := fun c => absurd (testBit_sub hm c) (by decide)
    regs := fun c => absurd (testBit_sub hm c) (by decide)
    ras := fun c => absurd (testBit_sub hm c) (by decide)
    thermal := fun c => absurd (testBit_sub hm c) (by decide)
    mgmt := fun c => absurd (testBit_sub hm c) (by decide) }

theorem Chg.u_mode_luns_jrn_media_drams_chip {m : Nat} {s t : State} (h : Chg m s t) (v_mode : ModeSt) (v_luns : Tbl Lun) (v_jrn : Jrn) (v_media : Media) (v_drams : Tbl Dram) (v_chip : Onchip)
    (hm : 22146449416 ||| m = m) : Chg m s { t with mode := v_mode, luns := v_luns, jrn := v_jrn, media := v_media, drams := v_drams, chip := v_chip } :=
  { h with
    mode := fun c => absurd (testBit_sub hm c) (by decide)
    luns := fun c => absurd (testBit_sub hm c) (by decide)
    jrn := fun c => absurd (testBit_sub hm c) (by decide)
    media := fun c => absurd (testBit_sub hm c) (by decide)
    drams := fun c => absurd (testBit_sub hm c) (by decide)
    chip := fun c => absurd (testBit_sub hm c) (by decide) }

theorem Chg.u_all14 {m : Nat} {s t : State} (h : Chg m s t) (v_mode : ModeSt) (v_regs : Regs) (v_ras : Ras) (v_ports : Tbl Port) (v_cmds : CmdStats) (v_sched : Sched) (v_nss : Tbl Ns) (v_pool : Pool) (v_map : MapSt) (v_jrn : Jrn) (v_media : Media) (v_cmp : Cmp) (v_thermal : Thermal) (v_mgmt : Mgmt) (hr : Mem.wf t.regs.dmbBuf = true → Mem.wf v_regs.dmbBuf = true) (hp : t.cmbWf → ∀ p, Mem.wf (Tbl.get {} v_ports p).cmb = true)
    (hm : 106007134328 ||| m = m) : Chg m s { t with mode := v_mode, regs := v_regs, ras := v_ras, ports := v_ports, cmds := v_cmds, sched := v_sched, nss := v_nss, pool := v_pool, map := v_map, jrn := v_jrn, media := v_media, cmp := v_cmp, thermal := v_thermal, mgmt := v_mgmt } :=
  { h with
    dmb := fun w => hr (h.dmb w)
    cmb := fun w p => hp (h.cmb w) p
    mode := fun c => absurd (testBit_sub hm c) (by decide)
    regs := fun c => absurd (testBit_sub hm c) (by decide)
    ras := fun c => absurd (testBit_sub hm c) (by decide)
    ports := fun c => absurd (testBit_sub hm c) (by decide)
    cmds := fun c => absurd (testBit_sub hm c) (by decide)
    sched := fun c => absurd (testBit_sub hm c) (by decide)
    nss := fun c => absurd (testBit_sub hm c) (by decide)
    pool := fun c => absurd (testBit_sub hm c) (by decide)
    map := fun c => absurd (testBit_sub hm c) (by decide)
    jrn := fun c => absurd (testBit_sub hm c) (by decide)
    media := fun c => absurd (testBit_sub hm c) (by decide)
    cmp := fun c => absurd (testBit_sub hm c) (by decide)
    thermal := fun c => absurd (testBit_sub hm c) (by decide)
    mgmt := fun c => absurd (testBit_sub hm c) (by decide) }

theorem Chg.u_all26 {m : Nat} {s t : State} (h : Chg m s t) (v_aon : Aon) (v_mode : ModeSt) (v_ports : Tbl Port) (v_funcs : Tbl Func) (v_dmas : Tbl Dma) (v_dmaWait : List Dma) (v_dict : Dict) (v_sqs : Tbl Sq) (v_cqs : Tbl Cq) (v_tags : Tbl Tag) (v_ctrls : Tbl Ctrl) (v_slices : Tbl Slice) (v_dirty : List DirtyWord) (v_sched : Sched) (v_luns : Tbl Lun) (v_chans : Tbl Chan) (v_islands : Tbl Island) (v_engines : Tbl Engine) (v_pool : Pool) (v_map : MapSt) (v_wbuf : Wbuf) (v_media : Media) (v_cmp : Cmp) (v_drams : Tbl Dram) (v_ranks : Tbl Rank) (v_sec : Sec) (hs : t.sec.fuses <+: v_sec.fuses) (hp : t.cmbWf → ∀ p, Mem.wf (Tbl.get {} v_ports p).cmb = true)
    (hm : 153385664460 ||| m = m) : Chg m s { t with aon := v_aon, mode := v_mode, ports := v_ports, funcs := v_funcs, dmas := v_dmas, dmaWait := v_dmaWait, dict := v_dict, sqs := v_sqs, cqs := v_cqs, tags := v_tags, ctrls := v_ctrls, slices := v_slices, dirty := v_dirty, sched := v_sched, luns := v_luns, chans := v_chans, islands := v_islands, engines := v_engines, pool := v_pool, map := v_map, wbuf := v_wbuf, media := v_media, cmp := v_cmp, drams := v_drams, ranks := v_ranks, sec := v_sec } :=
  { h with
    fuses := h.fuses.trans hs
    cmb := fun w p => hp (h.cmb w) p
    aon := fun c => absurd (testBit_sub hm c) (by decide)
    mode := fun c => absurd (testBit_sub hm c) (by decide)
    ports := fun c => absurd (testBit_sub hm c) (by decide)
    funcs := fun c => absurd (testBit_sub hm c) (by decide)
    dmas := fun c => absurd (testBit_sub hm c) (by decide)
    dmaWait := fun c => absurd (testBit_sub hm c) (by decide)
    dict := fun c => absurd (testBit_sub hm c) (by decide)
    sqs := fun c => absurd (testBit_sub hm c) (by decide)
    cqs := fun c => absurd (testBit_sub hm c) (by decide)
    tags := fun c => absurd (testBit_sub hm c) (by decide)
    ctrls := fun c => absurd (testBit_sub hm c) (by decide)
    slices := fun c => absurd (testBit_sub hm c) (by decide)
    dirty := fun c => absurd (testBit_sub hm c) (by decide)
    sched := fun c => absurd (testBit_sub hm c) (by decide)
    luns := fun c => absurd (testBit_sub hm c) (by decide)
    chans := fun c => absurd (testBit_sub hm c) (by decide)
    islands := fun c => absurd (testBit_sub hm c) (by decide)
    engines := fun c => absurd (testBit_sub hm c) (by decide)
    pool := fun c => absurd (testBit_sub hm c) (by decide)
    map := fun c => absurd (testBit_sub hm c) (by decide)
    wbuf := fun c => absurd (testBit_sub hm c) (by decide)
    media := fun c => absurd (testBit_sub hm c) (by decide)
    cmp := fun c => absurd (testBit_sub hm c) (by decide)
    drams := fun c => absurd (testBit_sub hm c) (by decide)
    ranks := fun c => absurd (testBit_sub hm c) (by decide)
    sec := fun c => absurd (testBit_sub hm c) (by decide) }

end Sys2Proof.Machine
end

