-- ==== Sys2Proof/Laws/ChgDictTable.lean ====
section
/-! SUPPORT. What the operations of Machine/DictTable.lean may change: one lemma for each. -/

set_option linter.all false

namespace Sys2Proof.Machine

theorem State.putInForce_chg : ∀ s a1 a2 a3, Chg 1024 s (State.putInForce s a1 a2 a3) := by
  intro s a1 a2 a3
  unfold State.putInForce
  try dsimp only
  refine Chg.u_dict ?_ _ (by decide)
  exact Chg.refl _ _

theorem State.putStored_chg : ∀ s a1 a2 a3, Chg 1024 s (State.putStored s a1 a2 a3) := by
  intro s a1 a2 a3
  unfold State.putStored
  try dsimp only
  refine Chg.u_dict ?_ _ (by decide)
  exact Chg.refl _ _

theorem State.putCfg_chg : ∀ s a1 a2 a3, Chg 1024 s (State.putCfg s a1 a2 a3) := by
  intro s a1 a2 a3
  unfold State.putCfg
  try dsimp only
  refine Chg.step (State.putStored_chg ..) ?_ (by decide)
  refine Chg.step (State.putInForce_chg ..) ?_ (by decide)
  exact Chg.refl _ _

end Sys2Proof.Machine
end

