-- ==== Sys2Proof/Laws/ChgOps.lean ====
section
/-! SUPPORT. What the operations of Machine/Ops.lean may change: one lemma for each. -/

set_option linter.all false

namespace Sys2Proof.Machine

/-- A write of a port keeps the canonical form where the new port's memory has it. -/
theorem Chg.setPort {m : Nat} {s t : State} {p : Nat} {x : Port} (h : Chg m s t) (hx : s.cmbWf → Mem.wf x.cmb = true)
    (hm : 64 ||| m = m) : Chg m s (t.setPort p x) := by
  have h1 : Chg m s { t with ports := t.ports } := h
  refine { h1 with cmb := fun w k => ?_, ports := fun c => absurd (testBit_sub hm c) (by decide) }
  show Mem.wf (Tbl.get {} (Tbl.set {} t.ports p x) k).cmb = true
  by_cases e : k = p
  · subst e; rw [Tbl.get_set_same]; exact hx w
  · rw [Tbl.get_set_ne _ _ _ (fun c => e c.symm)]; exact h.cmb w k

/-- An action under a condition. -/
theorem Chg.when {m : Nat} {s t : State} {b : Bool} {f : State → State} (h : Chg m s (f t)) (h' : Chg m s t.unlisted) :
    Chg m s (t.when b f) := Chg.ite h h'
theorem Chg.also {m : Nat} {s t : State} {b : Bool} {f : State → State} (h : Chg m s (f t)) (h' : Chg m s t) :
    Chg m s (t.also b f) := Chg.ite h h'

/-- Either branch of a pair. -/
theorem Chg.fstIte {m : Nat} {α : Type} {s : State} {c : Prop} [Decidable c] {a b : State × α} (ha : Chg m s a.1)
    (hb : Chg m s b.1) : Chg m s (if c then a else b).1 := by
  by_cases h : c
  · rw [if_pos h]; exact ha
  · rw [if_neg h]; exact hb
theorem Chg.sndIte {m : Nat} {α : Type} {s : State} {c : Prop} [Decidable c] {a b : α × State} (ha : Chg m s a.2)
    (hb : Chg m s b.2) : Chg m s (if c then a else b).2 := by
  by_cases h : c
  · rw [if_pos h]; exact ha
  · rw [if_neg h]; exact hb

/-- A fold that carries a state and a remainder. -/
theorem Chg.foldlFst {m : Nat} {α β : Type} {s : State} {t : State × β} {f : State × β → α → State × β}
    (h : ∀ t x, Chg m t.1 (f t x).1) (h1 : Chg m s t.1) (l : List α) : Chg m s (l.foldl f t).1 := by
  induction l generalizing t with
  | nil => exact h1
  | cons x l ih => exact ih ((h t x).step h1 (Nat.or_self m))

theorem State.unlisted_chg : ∀ s, Chg 32 s (State.unlisted s) := by
  intro s
  unfold State.unlisted
  try dsimp only
  refine Chg.u_ras ?_ _ (by decide)
  exact Chg.refl _ _

theorem State.emit_chg : ∀ s a1, Chg 2 s (State.emit s a1) := by
  intro s a1
  unfold State.emit
  try dsimp only
  refine Chg.u_out ?_ _ (by decide)
  exact Chg.refl _ _

theorem State.setFunc_chg : ∀ s a1 a2 a3, Chg 128 s (State.setFunc s a1 a2 a3) := by
  intro s a1 a2 a3
  unfold State.setFunc
  try dsimp only
  refine Chg.u_funcs ?_ _ (by decide)
  exact Chg.refl _ _

theorem State.setSq_chg : ∀ s a1 a2, Chg 2048 s (State.setSq s a1 a2) := by
  intro s a1 a2
  unfold State.setSq
  try dsimp only
  refine Chg.u_sqs ?_ _ (by decide)
  exact Chg.refl _ _

theorem State.setCq_chg : ∀ s a1 a2, Chg 4096 s (State.setCq s a1 a2) := by
  intro s a1 a2
  unfold State.setCq
  try dsimp only
  refine Chg.u_cqs ?_ _ (by decide)
  exact Chg.refl _ _

theorem State.setTag_chg : ∀ s a1 a2, Chg 8192 s (State.setTag s a1 a2) := by
  intro s a1 a2
  unfold State.setTag
  try dsimp only
  refine Chg.u_tags ?_ _ (by decide)
  exact Chg.refl _ _

theorem State.setCtrl_chg : ∀ s a1 a2, Chg 16384 s (State.setCtrl s a1 a2) := by
  intro s a1 a2
  unfold State.setCtrl
  try dsimp only
  refine Chg.u_ctrls ?_ _ (by decide)
  exact Chg.refl _ _

theorem State.setSlice_chg : ∀ s a1 a2, Chg 65536 s (State.setSlice s a1 a2) := by
  intro s a1 a2
  unfold State.setSlice
  try dsimp only
  refine Chg.u_slices ?_ _ (by decide)
  exact Chg.refl _ _

theorem State.setLun_chg : ∀ s a1 a2 a3, Chg 524288 s (State.setLun s a1 a2 a3) := by
  intro s a1 a2 a3
  unfold State.setLun
  try dsimp only
  refine Chg.u_luns ?_ _ (by decide)
  exact Chg.refl _ _

theorem State.setChan_chg : ∀ s a1 a2, Chg 1048576 s (State.setChan s a1 a2) := by
  intro s a1 a2
  unfold State.setChan
  try dsimp only
  refine Chg.u_chans ?_ _ (by decide)
  exact Chg.refl _ _

theorem State.setIsland_chg : ∀ s a1 a2, Chg 2097152 s (State.setIsland s a1 a2) := by
  intro s a1 a2
  unfold State.setIsland
  try dsimp only
  refine Chg.u_islands ?_ _ (by decide)
  exact Chg.refl _ _

theorem State.setEngine_chg : ∀ s a1 a2, Chg 4194304 s (State.setEngine s a1 a2) := by
  intro s a1 a2
  unfold State.setEngine
  try dsimp only
  refine Chg.u_engines ?_ _ (by decide)
  exact Chg.refl _ _

theorem State.setNs_chg : ∀ s a1 a2, Chg 8388608 s (State.setNs s a1 a2) := by
  intro s a1 a2
  unfold State.setNs
  try dsimp only
  refine Chg.u_nss ?_ _ (by decide)
  exact Chg.refl _ _

theorem State.setZone_chg : ∀ s a1 a2 a3, Chg 16777216 s (State.setZone s a1 a2 a3) := by
  intro s a1 a2 a3
  unfold State.setZone
  try dsimp only
  refine Chg.u_zones ?_ _ (by decide)
  exact Chg.refl _ _

theorem State.setMent_chg : ∀ s a1 a2 a3, Chg 67108864 s (State.setMent s a1 a2 a3) := by
  intro s a1 a2 a3
  unfold State.setMent
  try dsimp only
  refine Chg.u_map ?_ _ (by decide)
  exact Chg.refl _ _

theorem State.setPage_chg : ∀ s a1 a2 a3, Chg 67108864 s (State.setPage s a1 a2 a3) := by
  intro s a1 a2 a3
  unfold State.setPage
  try dsimp only
  refine Chg.u_map ?_ _ (by decide)
  exact Chg.refl _ _

theorem State.setWblk_chg : ∀ s a1 a2, Chg 268435456 s (State.setWblk s a1 a2) := by
  intro s a1 a2
  unfold State.setWblk
  try dsimp only
  refine Chg.u_wbuf ?_ _ (by decide)
  exact Chg.refl _ _

theorem State.setSb_chg : ∀ s a1 a2, Chg 536870912 s (State.setSb s a1 a2) := by
  intro s a1 a2
  unfold State.setSb
  try dsimp only
  refine Chg.u_media ?_ _ (by decide)
  exact Chg.refl _ _

theorem State.setProg_chg : ∀ s a1 a2, Chg 536870912 s (State.setProg s a1 a2) := by
  intro s a1 a2
  unfold State.setProg
  try dsimp only
  refine Chg.u_media ?_ _ (by decide)
  exact Chg.refl _ _

theorem State.setDram_chg : ∀ s a1 a2, Chg 4294967296 s (State.setDram s a1 a2) := by
  intro s a1 a2
  unfold State.setDram
  try dsimp only
  refine Chg.u_drams ?_ _ (by decide)
  exact Chg.refl _ _

theorem State.setSensor_chg : ∀ s a1 a2, Chg 34359738368 s (State.setSensor s a1 a2) := by
  intro s a1 a2
  unfold State.setSensor
  try dsimp only
  refine Chg.u_thermal ?_ _ (by decide)
  exact Chg.refl _ _

theorem State.setTzone_chg : ∀ s a1 a2, Chg 34359738368 s (State.setTzone s a1 a2) := by
  intro s a1 a2
  unfold State.setTzone
  try dsimp only
  refine Chg.u_thermal ?_ _ (by decide)
  exact Chg.refl _ _

theorem State.msixSend_chg : ∀ s a1 a2 a3, Chg 130 s (State.msixSend s a1 a2 a3) := by
  intro s a1 a2 a3
  unfold State.msixSend
  try dsimp only
  refine Chg.ite ?_ ?_
  · refine Chg.step (State.emit_chg ..) ?_ (by decide)
    exact Chg.refl _ _
  · refine Chg.step (State.setFunc_chg ..) ?_ (by decide)
    exact Chg.refl _ _

theorem State.sliceInterrupt_chg : ∀ s a1 a2, Chg 65538 s (State.sliceInterrupt s a1 a2) := by
  intro s a1 a2
  unfold State.sliceInterrupt
  try dsimp only
  refine Chg.ite ?_ ?_
  · refine Chg.step (State.setSlice_chg ..) ?_ (by decide)
    exact Chg.refl _ _
  · refine Chg.step (State.emit_chg ..) ?_ (by decide)
    refine Chg.step (State.setSlice_chg ..) ?_ (by decide)
    exact Chg.refl _ _

theorem State.sliceInterrupts_chg : ∀ s a1, Chg 65538 s (State.sliceInterrupts s a1) := by
  intro s a1
  unfold State.sliceInterrupts
  try dsimp only
  refine Chg.forEach ?_ ?_
  · intro _ _
    refine Chg.ite ?_ ?_
    · refine Chg.step (State.sliceInterrupt_chg ..) ?_ (by decide)
      exact Chg.refl _ _
    · exact Chg.refl _ _
  · exact Chg.refl _ _

theorem State.msixRelease_chg : ∀ s a1 a2, Chg 130 s (State.msixRelease s a1 a2) := by
  intro s a1 a2
  unfold State.msixRelease
  try dsimp only
  refine Chg.forEach ?_ ?_
  · intro _ _
    refine Chg.ite ?_ ?_
    · refine Chg.ite ?_ ?_
      · refine Chg.step (State.emit_chg ..) ?_ (by decide)
        refine Chg.step (State.setFunc_chg ..) ?_ (by decide)
        exact Chg.refl _ _
      · exact Chg.refl _ _
    · exact Chg.refl _ _
  · exact Chg.refl _ _

theorem State.telemEvent_chg : ∀ s, Chg 68719476736 s (State.telemEvent s) := by
  intro s
  unfold State.telemEvent
  try dsimp only
  refine Chg.forEach ?_ ?_
  · intro _ _
    refine Chg.ite ?_ ?_
    · refine Chg.u_mgmt ?_ _ (by decide)
      exact Chg.refl _ _
    · exact Chg.refl _ _
  · exact Chg.refl _ _

theorem State.rasBit_chg : ∀ s a1, Chg 68719476882 s (State.rasBit s a1) := by
  intro s a1
  unfold State.rasBit
  try dsimp only
  refine Chg.ite ?_ ?_
  · refine Chg.u_regs ?_ _ ?_ (by decide)
    · exact Chg.refl _ _
    · exact fun w => w
  · refine Chg.ite ?_ ?_
    · refine Chg.forEach ?_ ?_
      · intro _ _
        refine Chg.ite ?_ ?_
        · refine Chg.step (State.msixSend_chg ..) ?_ (by decide)
          exact Chg.refl _ _
        · exact Chg.refl _ _
      · refine Chg.step (State.telemEvent_chg ..) ?_ (by decide)
        refine Chg.u_regs ?_ _ ?_ (by decide)
        · exact Chg.refl _ _
        · exact fun w => w
    · refine Chg.step (State.telemEvent_chg ..) ?_ (by decide)
      refine Chg.u_regs ?_ _ ?_ (by decide)
      · exact Chg.refl _ _
      · exact fun w => w

theorem State.rasRecord_chg : ∀ s a1 a2 a3 a4 a5 a6, Chg 32 s (State.rasRecord s a1 a2 a3 a4 a5 a6) := by
  intro s a1 a2 a3 a4 a5 a6
  unfold State.rasRecord
  try dsimp only
  refine Chg.u_ras ?_ _ (by decide)
  exact Chg.refl _ _

theorem State.rasReport_chg : ∀ s a1 a2 a3 a4 a5 a6, Chg 68719476914 s (State.rasReport s a1 a2 a3 a4 a5 a6) := by
  intro s a1 a2 a3 a4 a5 a6
  unfold State.rasReport
  try dsimp only
  refine Chg.step (State.rasRecord_chg ..) ?_ (by decide)
  refine Chg.step (State.rasBit_chg ..) ?_ (by decide)
  exact Chg.refl _ _

theorem State.accLog_chg : ∀ s a1 a2 a3 a4 a5, Chg 68719476914 s (State.accLog s a1 a2 a3 a4 a5) := by
  intro s a1 a2 a3 a4 a5
  unfold State.accLog
  try dsimp only
  refine Chg.ite ?_ ?_
  · refine Chg.u_regs ?_ _ ?_ (by decide)
    · refine Chg.step (State.rasBit_chg ..) ?_ (by decide)
      exact Chg.refl _ _
    · exact fun w => w
  · refine Chg.step (State.rasRecord_chg ..) ?_ (by decide)
    refine Chg.u_regs ?_ _ ?_ (by decide)
    · refine Chg.step (State.rasBit_chg ..) ?_ (by decide)
      exact Chg.refl _ _
    · exact fun w => w

theorem State.addError_chg : ∀ s a1 a2, Chg 16384 s (State.addError s a1 a2) := by
  intro s a1 a2
  unfold State.addError
  try dsimp only
  refine Chg.step (State.setCtrl_chg ..) ?_ (by decide)
  exact Chg.refl _ _

theorem State.aerReport_chg : ∀ s a1 a2 a3 a4, Chg 130 s (State.aerReport s a1 a2 a3 a4) := by
  intro s a1 a2 a3 a4
  unfold State.aerReport
  try dsimp only
  refine Chg.step (State.emit_chg ..) ?_ (by decide)
  refine Chg.step (State.setFunc_chg ..) ?_ (by decide)
  exact Chg.refl _ _

theorem State.transition_chg : ∀ s a1 a2, Chg 68719476792 s (State.transition s a1 a2) := by
  intro s a1 a2
  unfold State.transition
  try dsimp only
  refine Chg.step (State.telemEvent_chg ..) ?_ (by decide)
  refine Chg.step (State.rasRecord_chg ..) ?_ (by decide)
  refine Chg.u_mode_regs ?_ _ _ ?_ (by decide)
  · exact Chg.refl _ _
  · exact fun w => w

theorem State.sustainSet_chg : ∀ s a1, Chg 8 s (State.sustainSet s a1) := by
  intro s a1
  unfold State.sustainSet
  try dsimp only
  refine Chg.u_mode ?_ _ (by decide)
  exact Chg.refl _ _

theorem State.sustainClear_chg : ∀ s a1, Chg 8 s (State.sustainClear s a1) := by
  intro s a1
  unfold State.sustainClear
  try dsimp only
  refine Chg.u_mode ?_ _ (by decide)
  exact Chg.refl _ _

theorem State.readonlySet_chg : ∀ s a1 a2, Chg 8 s (State.readonlySet s a1 a2) := by
  intro s a1 a2
  unfold State.readonlySet
  try dsimp only
  refine Chg.u_mode ?_ _ (by decide)
  exact Chg.refl _ _

theorem State.maintSet_chg : ∀ s a1 a2, Chg 8 s (State.maintSet s a1 a2) := by
  intro s a1 a2
  unfold State.maintSet
  try dsimp only
  refine Chg.u_mode ?_ _ (by decide)
  exact Chg.refl _ _

end Sys2Proof.Machine
end

