-- ==== Sys2Proof/Laws/ChgFlags.lean ====
section
/-! SUPPORT. What the operations of Machine/Flags.lean may change: one lemma for each. -/

set_option linter.all false

namespace Sys2Proof.Machine

theorem State.voteField_chg : ∀ s a1 a2, Chg 68719476882 s (State.voteField s a1 a2) := by
  intro s a1 a2
  unfold State.voteField
  try dsimp only
  split
  · exact Chg.refl _ _
  · refine Chg.ite ?_ ?_
    · exact Chg.refl _ _
    · refine Chg.ite ?_ ?_
      · refine Chg.step (State.rasBit_chg ..) ?_ (by decide)
        refine Chg.u_regs ?_ _ ?_ (by decide)
        · exact Chg.refl _ _
        · exact fun w => w
      · refine Chg.ite ?_ ?_
        · refine Chg.step (State.rasBit_chg ..) ?_ (by decide)
          refine Chg.u_regs ?_ _ ?_ (by decide)
          · exact Chg.refl _ _
          · exact fun w => w
        · refine Chg.step (State.rasBit_chg ..) ?_ (by decide)
          refine Chg.u_regs ?_ _ ?_ (by decide)
          · exact Chg.refl _ _
          · exact fun w => w

theorem State.vote_chg : ∀ s a1, Chg 68719476882 s (State.vote s a1) := by
  intro s a1
  unfold State.vote
  try dsimp only
  refine Chg.forEach ?_ ?_
  · intro _ _
    refine Chg.step (State.voteField_chg ..) ?_ (by decide)
    exact Chg.refl _ _
  · exact Chg.refl _ _

theorem State.csrClear_chg : ∀ s a1 a2, Chg 80 s (State.csrClear s a1 a2) := by
  intro s a1 a2
  unfold State.csrClear
  try dsimp only
  split
  · refine Chg.setPort ?_ ?_ (by decide)
    · exact Chg.refl _ _
    · exact fun w => w _
  · refine Chg.setPort ?_ ?_ (by decide)
    · exact Chg.refl _ _
    · exact fun w => w _
  · refine Chg.u_regs ?_ _ ?_ (by decide)
    · exact Chg.refl _ _
    · exact fun w => w
  · refine Chg.u_regs ?_ _ ?_ (by decide)
    · exact Chg.refl _ _
    · exact fun w => w
  · refine Chg.u_regs ?_ _ ?_ (by decide)
    · exact Chg.refl _ _
    · exact fun w => w
  · refine Chg.u_regs ?_ _ ?_ (by decide)
    · exact Chg.refl _ _
    · exact fun w => w
  · refine Chg.u_regs ?_ _ ?_ (by decide)
    · exact Chg.refl _ _
    · exact fun w => w
  · refine Chg.u_regs ?_ _ ?_ (by decide)
    · exact Chg.refl _ _
    · exact fun w => w
  · refine Chg.u_regs ?_ _ ?_ (by decide)
    · exact Chg.refl _ _
    · exact fun w => w
  · refine Chg.u_regs ?_ _ ?_ (by decide)
    · exact Chg.refl _ _
    · exact fun w => w
  · refine Chg.u_regs ?_ _ ?_ (by decide)
    · exact Chg.refl _ _
    · exact fun w => w
  · refine Chg.u_regs ?_ _ ?_ (by decide)
    · exact Chg.refl _ _
    · exact fun w => w
  · refine Chg.u_regs ?_ _ ?_ (by decide)
    · exact Chg.refl _ _
    · exact fun w => w
  · refine Chg.u_regs ?_ _ ?_ (by decide)
    · exact Chg.refl _ _
    · exact fun w => w
  · exact Chg.refl _ _

theorem State.csrRead_chg : ∀ s a1 a2 a3, Chg 68719476946 s (State.csrRead s a1 a2 a3).2 := by
  intro s a1 a2 a3
  unfold State.csrRead
  try dsimp only
  split
  · dsimp only
    refine Chg.step (State.vote_chg ..) ?_ (by decide)
    exact Chg.refl _ _
  · dsimp only
    refine Chg.step (State.csrClear_chg ..) ?_ (by decide)
    refine Chg.step (State.vote_chg ..) ?_ (by decide)
    exact Chg.refl _ _

theorem State.pageRead_chg : ∀ s a1 a2 a3 a4, Chg 65536 s (State.pageRead s a1 a2 a3 a4).2 := by
  intro s a1 a2 a3 a4
  unfold State.pageRead
  try dsimp only
  refine Chg.sndIte ?_ ?_
  · dsimp only
    refine Chg.step (State.setSlice_chg ..) ?_ (by decide)
    exact Chg.refl _ _
  · refine Chg.sndIte ?_ ?_
    · dsimp only
      refine Chg.step (State.setSlice_chg ..) ?_ (by decide)
      exact Chg.refl _ _
    · dsimp only
      exact Chg.refl _ _

end Sys2Proof.Machine
end

