-- ==== Sys2Proof/Laws/ChgBufOps.lean ====
section
/-! SUPPORT. What the operations of Machine/BufOps.lean may change: one lemma for each. -/

set_option linter.all false

namespace Sys2Proof.Machine

theorem State.bufTake_chg : ∀ s a1 a2 a3 a4 a5, Chg 17179877376 s (State.bufTake s a1 a2 a3 a4 a5) := by
  intro s a1 a2 a3 a4 a5
  unfold State.bufTake
  try dsimp only
  refine Chg.u_chip ?_ _ (by decide)
  refine Chg.step (State.setTag_chg ..) ?_ (by decide)
  exact Chg.refl _ _

theorem State.bufRequest_chg : ∀ s a1 a2 a3 a4 a5 a6, Chg 17179877376 s (State.bufRequest s a1 a2 a3 a4 a5 a6) := by
  intro s a1 a2 a3 a4 a5 a6
  unfold State.bufRequest
  try dsimp only
  split
  · refine Chg.step (State.bufTake_chg ..) ?_ (by decide)
    exact Chg.refl _ _
  · refine Chg.u_chip ?_ _ (by decide)
    exact Chg.refl _ _

theorem State.bufServe_chg : ∀ s, Chg 17179877376 s (State.bufServe s) := by
  intro s
  unfold State.bufServe
  try dsimp only
  refine Chg.u_chip ?_ _ (by decide)
  refine Chg.foldlFst ?_ ?_ _
  · intro _ _
    split
    · refine Chg.fstIte ?_ ?_
      · dsimp only
        exact Chg.refl _ _
      · dsimp only
        refine Chg.step (State.bufTake_chg ..) ?_ (by decide)
        exact Chg.refl _ _
    · dsimp only
      exact Chg.refl _ _
  · dsimp only
    exact Chg.refl _ _

theorem State.bufReturn_chg : ∀ s a1 a2 a3, Chg 17179877408 s (State.bufReturn s a1 a2 a3) := by
  intro s a1 a2 a3
  unfold State.bufReturn
  try dsimp only
  refine Chg.ite ?_ ?_
  · refine Chg.step (State.bufServe_chg ..) ?_ (by decide)
    refine Chg.u_chip ?_ _ (by decide)
    exact Chg.refl _ _
  · refine Chg.step (State.rasRecord_chg ..) ?_ (by decide)
    refine Chg.u_chip ?_ _ (by decide)
    exact Chg.refl _ _

theorem State.bufReturnAll_chg : ∀ s a1, Chg 17179877408 s (State.bufReturnAll s a1) := by
  intro s a1
  unfold State.bufReturnAll
  try dsimp only
  refine Chg.forEach ?_ ?_
  · intro _ _
    refine Chg.step (State.bufReturn_chg ..) ?_ (by decide)
    exact Chg.refl _ _
  · refine Chg.u_chip ?_ _ (by decide)
    refine Chg.step (State.setTag_chg ..) ?_ (by decide)
    exact Chg.refl _ _

end Sys2Proof.Machine
end

