-- ==== Sys2Proof/Laws/ChgTagOps.lean ====
section
/-! SUPPORT. What the operations of Machine/TagOps.lean may change: one lemma for each. -/

set_option linter.all false

namespace Sys2Proof.Machine

theorem State.zoneSettle_chg : ∀ s a1 a2, Chg 16777216 s (State.zoneSettle s a1 a2) := by
  intro s a1 a2
  unfold State.zoneSettle
  try dsimp only
  refine Chg.ite ?_ ?_
  · refine Chg.ite ?_ ?_
    · refine Chg.step (State.setZone_chg ..) ?_ (by decide)
      exact Chg.refl _ _
    · exact Chg.refl _ _
  · exact Chg.refl _ _

theorem State.poolRelease_chg : ∀ s a1, Chg 33562624 s (State.poolRelease s a1) := by
  intro s a1
  unfold State.poolRelease
  try dsimp only
  refine Chg.u_pool ?_ _ (by decide)
  refine Chg.step (State.setTag_chg ..) ?_ (by decide)
  exact Chg.refl _ _

theorem State.dropStaged_chg : ∀ s a1, Chg 268435456 s (State.dropStaged s a1) := by
  intro s a1
  unfold State.dropStaged
  try dsimp only
  refine Chg.u_wbuf ?_ _ (by decide)
  exact Chg.refl _ _

theorem State.dropReaders_chg : ∀ s a1, Chg 805306368 s (State.dropReaders s a1) := by
  intro s a1
  unfold State.dropReaders
  try dsimp only
  refine Chg.forEach ?_ ?_
  · intro _ _
    split
    · refine Chg.step (State.setWblk_chg ..) ?_ (by decide)
      exact Chg.refl _ _
    · refine Chg.ite ?_ ?_
      · refine Chg.step (State.setSb_chg ..) ?_ (by decide)
        exact Chg.refl _ _
      · exact Chg.refl _ _
    · exact Chg.refl _ _
  · exact Chg.refl _ _

theorem State.commitTag_chg : ∀ s a1 a2 a3 a4, Chg 318775296 s (State.commitTag s a1 a2 a3 a4) := by
  intro s a1 a2 a3 a4
  unfold State.commitTag
  try dsimp only
  split
  · refine Chg.step (State.setTag_chg ..) ?_ (by decide)
    refine Chg.ite ?_ ?_
    · refine Chg.step (State.dropStaged_chg ..) ?_ (by decide)
      refine Chg.step (State.poolRelease_chg ..) ?_ (by decide)
      refine Chg.step (State.zoneSettle_chg ..) ?_ (by decide)
      exact Chg.refl _ _
    · exact Chg.refl _ _
  · refine Chg.step (State.setTag_chg ..) ?_ (by decide)
    refine Chg.ite ?_ ?_
    · refine Chg.step (State.dropStaged_chg ..) ?_ (by decide)
      refine Chg.step (State.poolRelease_chg ..) ?_ (by decide)
      refine Chg.step (State.zoneSettle_chg ..) ?_ (by decide)
      exact Chg.refl _ _
    · exact Chg.refl _ _
  · refine Chg.step (State.setTag_chg ..) ?_ (by decide)
    refine Chg.ite ?_ ?_
    · refine Chg.step (State.dropStaged_chg ..) ?_ (by decide)
      refine Chg.step (State.poolRelease_chg ..) ?_ (by decide)
      refine Chg.step (State.zoneSettle_chg ..) ?_ (by decide)
      exact Chg.refl _ _
    · exact Chg.refl _ _
  · exact Chg.refl _ _

theorem State.failTag_chg : ∀ s a1 a2 a3, Chg 318775296 s (State.failTag s a1 a2 a3) := by
  intro s a1 a2 a3
  unfold State.failTag
  try dsimp only
  refine Chg.step (State.commitTag_chg ..) ?_ (by decide)
  exact Chg.refl _ _

theorem State.succeed_chg : ∀ s a1 a2 a3, Chg 318775296 s (State.succeed s a1 a2 a3) := by
  intro s a1 a2 a3
  unfold State.succeed
  try dsimp only
  refine Chg.step (State.commitTag_chg ..) ?_ (by decide)
  exact Chg.refl _ _

theorem State.dropSq_chg : ∀ s a1, Chg 2048 s (State.dropSq s a1) := by
  intro s a1
  unfold State.dropSq
  try dsimp only
  refine Chg.step (State.setSq_chg ..) ?_ (by decide)
  exact Chg.refl _ _

theorem State.dropCq_chg : ∀ s a1, Chg 4096 s (State.dropCq s a1) := by
  intro s a1
  unfold State.dropCq
  try dsimp only
  refine Chg.step (State.setCq_chg ..) ?_ (by decide)
  exact Chg.refl _ _

theorem State.dmaStale_chg : ∀ s a1 a2, Chg 256 s (State.dmaStale s a1 a2) := by
  intro s a1 a2
  unfold State.dmaStale
  try dsimp only
  refine Chg.u_dmas ?_ _ (by decide)
  exact Chg.refl _ _

theorem State.deleteWatch_chg : ∀ s a1, Chg 318777344 s (State.deleteWatch s a1) := by
  intro s a1
  unfold State.deleteWatch
  try dsimp only
  split
  · exact Chg.refl _ _
  · refine Chg.ite ?_ ?_
    · refine Chg.step (State.commitTag_chg ..) ?_ (by decide)
      refine Chg.step (State.dropSq_chg ..) ?_ (by decide)
      exact Chg.refl _ _
    · exact Chg.refl _ _

theorem State.freeTag_chg : ∀ s a1, Chg 18035534112 s (State.freeTag s a1) := by
  intro s a1
  unfold State.freeTag
  try dsimp only
  refine Chg.step (State.deleteWatch_chg ..) ?_ (by decide)
  refine Chg.step (State.setTag_chg ..) ?_ (by decide)
  refine Chg.step (State.setCtrl_chg ..) ?_ (by decide)
  refine Chg.step (State.bufReturnAll_chg ..) ?_ (by decide)
  refine Chg.step (State.dropReaders_chg ..) ?_ (by decide)
  refine Chg.step (State.dmaStale_chg ..) ?_ (by decide)
  exact Chg.refl _ _

theorem State.dmaPump_chg : ∀ s, Chg 33538 s (State.dmaPump s) := by
  intro s
  unfold State.dmaPump
  try dsimp only
  refine Chg.u_dmaWait ?_ _ (by decide)
  refine Chg.foldlFst ?_ ?_ _
  · intro _ _
    refine Chg.fstIte ?_ ?_
    · dsimp only
      refine Chg.step (State.emit_chg ..) ?_ (by decide)
      refine Chg.u_dmas_cmds ?_ _ _ (by decide)
      exact Chg.refl _ _
    · dsimp only
      exact Chg.refl _ _
  · dsimp only
    refine Chg.u_dmaWait ?_ _ (by decide)
    exact Chg.refl _ _

theorem State.dmaAsk_chg : ∀ s a1, Chg 33538 s (State.dmaAsk s a1) := by
  intro s a1
  unfold State.dmaAsk
  try dsimp only
  refine Chg.step (State.dmaPump_chg ..) ?_ (by decide)
  refine Chg.u_dmaWait ?_ _ (by decide)
  exact Chg.refl _ _

theorem State.dmaCancel_chg : ∀ s a1, Chg 512 s (State.dmaCancel s a1) := by
  intro s a1
  unfold State.dmaCancel
  try dsimp only
  refine Chg.u_dmaWait ?_ _ (by decide)
  exact Chg.refl _ _

theorem State.lateDiscard_chg : ∀ s a1, Chg 65600 s (State.lateDiscard s a1) := by
  intro s a1
  unfold State.lateDiscard
  try dsimp only
  refine Chg.setPort ?_ ?_ (by decide)
  · refine Chg.step (State.setSlice_chg ..) ?_ (by decide)
    exact Chg.refl _ _
  · exact fun w => w _

theorem State.dirtyPost_chg : ∀ s a1 a2, Chg 131074 s (State.dirtyPost s a1 a2) := by
  intro s a1 a2
  unfold State.dirtyPost
  try dsimp only
  split
  · exact Chg.refl _ _
  · refine Chg.step (State.emit_chg ..) ?_ (by decide)
    refine Chg.u_dirty ?_ _ (by decide)
    exact Chg.refl _ _

theorem State.dirtyBit_chg : ∀ s a1 a2, Chg 131074 s (State.dirtyBit s a1 a2) := by
  intro s a1 a2
  unfold State.dirtyBit
  try dsimp only
  split
  · refine Chg.u_dirty ?_ _ (by decide)
    exact Chg.refl _ _
  · refine Chg.u_dirty ?_ _ (by decide)
    refine Chg.ite ?_ ?_
    · split
      · refine Chg.step (State.dirtyPost_chg ..) ?_ (by decide)
        exact Chg.refl _ _
      · exact Chg.refl _ _
    · exact Chg.refl _ _

theorem State.dirtyMark_chg : ∀ s a1 a2 a3, Chg 196610 s (State.dirtyMark s a1 a2 a3) := by
  intro s a1 a2 a3
  unfold State.dirtyMark
  try dsimp only
  refine Chg.ite ?_ ?_
  · exact Chg.refl _ _
  · refine Chg.ite ?_ ?_
    · refine Chg.step (State.setSlice_chg ..) ?_ (by decide)
      exact Chg.refl _ _
    · refine Chg.forEach ?_ ?_
      · intro _ _
        refine Chg.step (State.dirtyBit_chg ..) ?_ (by decide)
        exact Chg.refl _ _
      · exact Chg.refl _ _

theorem State.dirtyPostAll_chg : ∀ s a1, Chg 131074 s (State.dirtyPostAll s a1) := by
  intro s a1
  unfold State.dirtyPostAll
  try dsimp only
  refine Chg.u_dirty ?_ _ (by decide)
  refine Chg.forEach ?_ ?_
  · intro _ _
    refine Chg.ite ?_ ?_
    · exact Chg.refl _ _
    · refine Chg.step (State.emit_chg ..) ?_ (by decide)
      exact Chg.refl _ _
  · exact Chg.refl _ _

theorem State.dlogClose_chg : ∀ s a1, Chg 65538 s (State.dlogClose s a1) := by
  intro s a1
  unfold State.dlogClose
  try dsimp only
  refine Chg.ite ?_ ?_
  · refine Chg.step (State.setSlice_chg ..) ?_ (by decide)
    refine Chg.step (State.emit_chg ..) ?_ (by decide)
    exact Chg.refl _ _
  · refine Chg.step (State.setSlice_chg ..) ?_ (by decide)
    refine Chg.step (State.emit_chg ..) ?_ (by decide)
    exact Chg.refl _ _

theorem State.hostOut_chg : ∀ s a1 a2 a3, Chg 196610 s (State.hostOut s a1 a2 a3) := by
  intro s a1 a2 a3
  unfold State.hostOut
  try dsimp only
  refine Chg.ite ?_ ?_
  · refine Chg.step (State.dirtyMark_chg ..) ?_ (by decide)
    refine Chg.step (State.emit_chg ..) ?_ (by decide)
    exact Chg.refl _ _
  · refine Chg.step (State.emit_chg ..) ?_ (by decide)
    exact Chg.refl _ _

theorem State.hostWrite_chg : ∀ s a1 a2 a3, Chg 230210 s (State.hostWrite s a1 a2 a3) := by
  intro s a1 a2 a3
  unfold State.hostWrite
  try dsimp only
  refine Chg.ite ?_ ?_
  · refine Chg.step (State.lateDiscard_chg ..) ?_ (by decide)
    exact Chg.refl _ _
  · refine Chg.ite ?_ ?_
    · refine Chg.step (State.hostOut_chg ..) ?_ (by decide)
      exact Chg.refl _ _
    · refine Chg.step (State.dmaAsk_chg ..) ?_ (by decide)
      exact Chg.refl _ _

theorem State.cqInterrupt_chg : ∀ s a1, Chg 65666 s (State.cqInterrupt s a1) := by
  intro s a1
  unfold State.cqInterrupt
  try dsimp only
  split
  · refine Chg.step (State.sliceInterrupt_chg ..) ?_ (by decide)
    exact Chg.refl _ _
  · refine Chg.step (State.msixSend_chg ..) ?_ (by decide)
    exact Chg.refl _ _

theorem State.cqNotify_chg : ∀ s a1, Chg 69762 s (State.cqNotify s a1) := by
  intro s a1
  unfold State.cqNotify
  try dsimp only
  refine Chg.ite ?_ ?_
  · exact Chg.refl _ _
  · split
    · refine Chg.step (State.cqInterrupt_chg ..) ?_ (by decide)
      exact Chg.refl _ _
    · refine Chg.ite ?_ ?_
      · refine Chg.step (State.cqInterrupt_chg ..) ?_ (by decide)
        refine Chg.step (State.setCq_chg ..) ?_ (by decide)
        exact Chg.refl _ _
      · refine Chg.step (State.setCq_chg ..) ?_ (by decide)
        exact Chg.refl _ _

theorem State.cqWrite_chg : ∀ s a1 a2 a3 a4 a5, Chg 233606 s (State.cqWrite s a1 a2 a3 a4 a5) := by
  intro s a1 a2 a3 a4 a5
  unfold State.cqWrite
  try dsimp only
  refine Chg.step (State.cqNotify_chg ..) ?_ (by decide)
  split
  · refine Chg.step (State.dirtyMark_chg ..) ?_ (by decide)
    refine Chg.step (State.emit_chg ..) ?_ (by decide)
    refine Chg.u_aon_cmds ?_ _ _ (by decide)
    refine Chg.step (State.setCq_chg ..) ?_ (by decide)
    exact Chg.refl _ _
  · split
    · refine Chg.step (State.dirtyMark_chg ..) ?_ (by decide)
      refine Chg.step (State.emit_chg ..) ?_ (by decide)
      refine Chg.u_aon_cmds ?_ _ _ (by decide)
      refine Chg.step (State.setCq_chg ..) ?_ (by decide)
      exact Chg.refl _ _
    · refine Chg.step (State.emit_chg ..) ?_ (by decide)
      refine Chg.u_aon_cmds ?_ _ _ (by decide)
      refine Chg.step (State.setCq_chg ..) ?_ (by decide)
      exact Chg.refl _ _

theorem State.cqSend_chg : ∀ s a1 a2 a3 a4 a5, Chg 234374 s (State.cqSend s a1 a2 a3 a4 a5) := by
  intro s a1 a2 a3 a4 a5
  unfold State.cqSend
  try dsimp only
  refine Chg.ite ?_ ?_
  · refine Chg.step (State.cqWrite_chg ..) ?_ (by decide)
    exact Chg.refl _ _
  · refine Chg.step (State.dmaAsk_chg ..) ?_ (by decide)
    exact Chg.refl _ _

theorem State.cqPut_chg : ∀ s a1 a2 a3 a4, Chg 234374 s (State.cqPut s a1 a2 a3 a4) := by
  intro s a1 a2 a3 a4
  unfold State.cqPut
  try dsimp only
  refine Chg.ite ?_ ?_
  · refine Chg.step (State.cqSend_chg ..) ?_ (by decide)
    exact Chg.refl _ _
  · refine Chg.step (State.setCq_chg ..) ?_ (by decide)
    exact Chg.refl _ _

theorem State.cqRelease_chg : ∀ s a1, Chg 319011718 s (State.cqRelease s a1) := by
  intro s a1
  unfold State.cqRelease
  try dsimp only
  refine Chg.forEach ?_ ?_
  · intro _ _
    refine Chg.step (State.deleteWatch_chg ..) ?_ (by decide)
    exact Chg.refl _ _
  · refine Chg.step (State.setCq_chg ..) ?_ (by decide)
    refine Chg.foldlFst ?_ ?_ _
    · intro _ _
      refine Chg.fstIte ?_ ?_
      · dsimp only
        refine Chg.step (State.cqSend_chg ..) ?_ (by decide)
        exact Chg.refl _ _
      · dsimp only
        exact Chg.refl _ _
    · dsimp only
      exact Chg.refl _ _

theorem State.postTag_chg : ∀ s a1, Chg 18035768230 s (State.postTag s a1) := by
  intro s a1
  unfold State.postTag
  try dsimp only
  refine Chg.step (State.freeTag_chg ..) ?_ (by decide)
  refine Chg.step (State.cqSend_chg ..) ?_ (by decide)
  exact Chg.refl _ _

theorem State.raise_chg : ∀ s a1 a2, Chg 318791680 s (State.raise s a1 a2) := by
  intro s a1 a2
  unfold State.raise
  try dsimp only
  split
  · refine Chg.step (State.commitTag_chg ..) ?_ (by decide)
    refine Chg.step (State.setCtrl_chg ..) ?_ (by decide)
    exact Chg.refl _ _
  · refine Chg.step (State.setCtrl_chg ..) ?_ (by decide)
    exact Chg.refl _ _

theorem State.smartEvent_chg : ∀ s a1, Chg 318791680 s (State.smartEvent s a1) := by
  intro s a1
  unfold State.smartEvent
  try dsimp only
  refine Chg.forEach ?_ ?_
  · intro _ _
    refine Chg.ite ?_ ?_
    · refine Chg.step (State.raise_chg ..) ?_ (by decide)
      exact Chg.refl _ _
    · exact Chg.refl _ _
  · exact Chg.refl _ _

theorem State.deferredError_chg : ∀ s a1 a2 a3, Chg 318824448 s (State.deferredError s a1 a2 a3) := by
  intro s a1 a2 a3
  unfold State.deferredError
  try dsimp only
  refine Chg.forEach ?_ ?_
  · intro _ _
    refine Chg.step (State.raise_chg ..) ?_ (by decide)
    refine Chg.step (State.addError_chg ..) ?_ (by decide)
    exact Chg.refl _ _
  · refine Chg.u_cmds ?_ _ (by decide)
    exact Chg.refl _ _

theorem State.drainTag_chg : ∀ s a1, Chg 18035632992 s (State.drainTag s a1) := by
  intro s a1
  unfold State.drainTag
  try dsimp only
  refine Chg.ite ?_ ?_
  · exact Chg.refl _ _
  · refine Chg.ite ?_ ?_
    · refine Chg.step (State.setTag_chg ..) ?_ (by decide)
      refine Chg.step (State.dmaCancel_chg ..) ?_ (by decide)
      refine Chg.ite ?_ ?_
      · refine Chg.step (State.dropStaged_chg ..) ?_ (by decide)
        refine Chg.step (State.poolRelease_chg ..) ?_ (by decide)
        refine Chg.step (State.zoneSettle_chg ..) ?_ (by decide)
        exact Chg.refl _ _
      · refine Chg.step (State.lateDiscard_chg ..) ?_ (by decide)
        exact Chg.refl _ _
    · refine Chg.u_cmds ?_ _ (by decide)
      refine Chg.step (State.freeTag_chg ..) ?_ (by decide)
      refine Chg.step (State.setTag_chg ..) ?_ (by decide)
      refine Chg.step (State.dmaCancel_chg ..) ?_ (by decide)
      refine Chg.ite ?_ ?_
      · refine Chg.step (State.dropStaged_chg ..) ?_ (by decide)
        refine Chg.step (State.poolRelease_chg ..) ?_ (by decide)
        refine Chg.step (State.zoneSettle_chg ..) ?_ (by decide)
        exact Chg.refl _ _
      · refine Chg.step (State.lateDiscard_chg ..) ?_ (by decide)
        exact Chg.refl _ _

theorem State.drainEnd_chg : ∀ s a1, Chg 18035632480 s (State.drainEnd s a1) := by
  intro s a1
  unfold State.drainEnd
  try dsimp only
  refine Chg.u_cmds ?_ _ (by decide)
  refine Chg.step (State.freeTag_chg ..) ?_ (by decide)
  refine Chg.step (State.lateDiscard_chg ..) ?_ (by decide)
  exact Chg.refl _ _

theorem State.dropTag_chg : ∀ s a1, Chg 18035534624 s (State.dropTag s a1) := by
  intro s a1
  unfold State.dropTag
  try dsimp only
  refine Chg.ite ?_ ?_
  · exact Chg.refl _ _
  · refine Chg.step (State.freeTag_chg ..) ?_ (by decide)
    refine Chg.step (State.dmaCancel_chg ..) ?_ (by decide)
    refine Chg.ite ?_ ?_
    · refine Chg.step (State.dropStaged_chg ..) ?_ (by decide)
      refine Chg.step (State.poolRelease_chg ..) ?_ (by decide)
      refine Chg.step (State.zoneSettle_chg ..) ?_ (by decide)
      exact Chg.refl _ _
    · exact Chg.refl _ _

theorem State.setupAdmin_chg : ∀ s a1, Chg 6144 s (State.setupAdmin s a1) := by
  intro s a1
  unfold State.setupAdmin
  try dsimp only
  refine Chg.step (State.setCq_chg ..) ?_ (by decide)
  refine Chg.step (State.setSq_chg ..) ?_ (by decide)
  exact Chg.refl _ _

theorem State.pageReset_chg : ∀ s a1, Chg 65536 s (State.pageReset s a1) := by
  intro s a1
  unfold State.pageReset
  try dsimp only
  refine Chg.step (State.setSlice_chg ..) ?_ (by decide)
  exact Chg.refl _ _

theorem State.dropSliceQueues_chg : ∀ s a1, Chg 6144 s (State.dropSliceQueues s a1) := by
  intro s a1
  unfold State.dropSliceQueues
  try dsimp only
  refine Chg.u_sqs_cqs ?_ _ _ (by decide)
  exact Chg.refl _ _

theorem State.dropWindows_chg : ∀ s a1, Chg 2048 s (State.dropWindows s a1) := by
  intro s a1
  unfold State.dropWindows
  try dsimp only
  refine Chg.forEach ?_ ?_
  · intro _ _
    refine Chg.ite ?_ ?_
    · refine Chg.u_sqs ?_ _ (by decide)
      exact Chg.refl _ _
    · exact Chg.refl _ _
  · exact Chg.refl _ _

theorem State.resetBody_chg : ∀ s a1, Chg 18035768162 s (State.resetBody s a1) := by
  intro s a1
  unfold State.resetBody
  try dsimp only
  refine Chg.step (State.pageReset_chg ..) ?_ (by decide)
  refine Chg.step (State.setupAdmin_chg ..) ?_ (by decide)
  refine Chg.step (State.dropSliceQueues_chg ..) ?_ (by decide)
  refine Chg.step (State.dmaStale_chg ..) ?_ (by decide)
  refine Chg.u_dmaWait ?_ _ (by decide)
  refine Chg.step (State.setSlice_chg ..) ?_ (by decide)
  refine Chg.ite ?_ ?_
  · refine Chg.step (State.dirtyPostAll_chg ..) ?_ (by decide)
    refine Chg.forEach ?_ ?_
    · intro _ _
      refine Chg.step (State.setTag_chg ..) ?_ (by decide)
      exact Chg.refl _ _
    · refine Chg.forEach ?_ ?_
      · intro _ _
        refine Chg.step (State.drainTag_chg ..) ?_ (by decide)
        exact Chg.refl _ _
      · refine Chg.step (State.setSlice_chg ..) ?_ (by decide)
        exact Chg.refl _ _
  · refine Chg.u_dirty ?_ _ (by decide)
    refine Chg.forEach ?_ ?_
    · intro _ _
      refine Chg.step (State.setTag_chg ..) ?_ (by decide)
      exact Chg.refl _ _
    · refine Chg.forEach ?_ ?_
      · intro _ _
        refine Chg.step (State.drainTag_chg ..) ?_ (by decide)
        exact Chg.refl _ _
      · refine Chg.step (State.setSlice_chg ..) ?_ (by decide)
        exact Chg.refl _ _

theorem State.sliceReset_chg : ∀ s a1 a2, Chg 18035768162 s (State.sliceReset s a1 a2) := by
  intro s a1 a2
  unfold State.sliceReset
  try dsimp only
  split
  · refine Chg.ite ?_ ?_
    · refine Chg.step (State.setSlice_chg ..) ?_ (by decide)
      refine Chg.step (State.dropWindows_chg ..) ?_ (by decide)
      refine Chg.step (State.setSlice_chg ..) ?_ (by decide)
      exact Chg.refl _ _
    · refine Chg.step (State.resetBody_chg ..) ?_ (by decide)
      refine Chg.step (State.dropWindows_chg ..) ?_ (by decide)
      refine Chg.step (State.setSlice_chg ..) ?_ (by decide)
      exact Chg.refl _ _
  · refine Chg.step (State.setSlice_chg ..) ?_ (by decide)
    exact Chg.refl _ _
  · exact Chg.refl _ _

theorem State.fetchAsk_chg : ∀ s a1, Chg 33538 s (State.fetchAsk s a1) := by
  intro s a1
  unfold State.fetchAsk
  try dsimp only
  refine Chg.ite ?_ ?_
  · exact Chg.refl _ _
  · refine Chg.step (State.dmaAsk_chg ..) ?_ (by decide)
    exact Chg.refl _ _

theorem State.releaseFn_chg : ∀ s a1 a2, Chg 319011718 s (State.releaseFn s a1 a2) := by
  intro s a1 a2
  unfold State.releaseFn
  try dsimp only
  refine Chg.forEach ?_ ?_
  · intro _ _
    refine Chg.ite ?_ ?_
    · refine Chg.step (State.cqRelease_chg ..) ?_ (by decide)
      exact Chg.refl _ _
    · exact Chg.refl _ _
  · refine Chg.step (State.dmaPump_chg ..) ?_ (by decide)
    refine Chg.step (State.msixRelease_chg ..) ?_ (by decide)
    refine Chg.forEach ?_ ?_
    · intro _ _
      refine Chg.step (State.sliceInterrupts_chg ..) ?_ (by decide)
      exact Chg.refl _ _
    · exact Chg.refl _ _

end Sys2Proof.Machine
end

