-- ==== Sys2Proof/Laws/ChgSysOps.lean ====
section
/-! SUPPORT. What the operations of Machine/SysOps.lean may change: one lemma for each. -/

set_option linter.all false

namespace Sys2Proof.Machine

/-- The answer of a meaning, within a larger mask, and after an earlier change. -/
theorem Chg.exMono {a m : Nat} {s : State} {r : Res} (h : ∃ t, r = .next t ∧ Chg a s t) (hm : a ||| m = m) :
    ∃ t, r = .next t ∧ Chg m s t := by
  obtain ⟨t, e, c⟩ := h
  exact ⟨t, e, c.mono hm⟩
theorem Chg.exStep {a m : Nat} {s u : State} {r : Res} (h : ∃ t, r = .next t ∧ Chg a u t) (hu : Chg m s u) (hm : a ||| m = m) :
    ∃ t, r = .next t ∧ Chg m s t := by
  obtain ⟨t, e, c⟩ := h
  exact ⟨t, e, c.step hu hm⟩

theorem State.ltrUpdate_chg : ∀ s a1, Chg 66 s (State.ltrUpdate s a1) := by
  intro s a1
  unfold State.ltrUpdate
  try dsimp only
  refine Chg.ite ?_ ?_
  · refine Chg.step (State.emit_chg ..) ?_ (by decide)
    refine Chg.setPort ?_ ?_ (by decide)
    · exact Chg.refl _ _
    · exact fun w => w _
  · exact Chg.refl _ _

theorem State.ltrAll_chg : ∀ s, Chg 66 s (State.ltrAll s) := by
  intro s
  unfold State.ltrAll
  try dsimp only
  refine Chg.step (State.ltrUpdate_chg ..) ?_ (by decide)
  refine Chg.step (State.ltrUpdate_chg ..) ?_ (by decide)
  exact Chg.refl _ _

theorem State.laneCheck_chg : ∀ s a1 a2, Chg 104 s (State.laneCheck s a1 a2) := by
  intro s a1 a2
  unfold State.laneCheck
  try dsimp only
  refine Chg.ite ?_ ?_
  · refine Chg.ite ?_ ?_
    · refine Chg.step (State.sustainSet_chg ..) ?_ (by decide)
      refine Chg.setPort ?_ ?_ (by decide)
      · exact Chg.refl _ _
      · exact fun w => w _
    · refine Chg.step (State.rasRecord_chg ..) ?_ (by decide)
      refine Chg.step (State.sustainSet_chg ..) ?_ (by decide)
      refine Chg.setPort ?_ ?_ (by decide)
      · exact Chg.refl _ _
      · exact fun w => w _
  · refine Chg.ite ?_ ?_
    · refine Chg.step (State.sustainClear_chg ..) ?_ (by decide)
      refine Chg.setPort ?_ ?_ (by decide)
      · exact Chg.refl _ _
      · exact fun w => w _
    · refine Chg.setPort ?_ ?_ (by decide)
      · exact Chg.refl _ _
      · exact fun w => w _

theorem State.entryBoundary_chg : ∀ s a1 a2, Chg 1024 s (State.entryBoundary s a1 a2) := by
  intro s a1 a2
  unfold State.entryBoundary
  try dsimp only
  refine Chg.step (State.putInForce_chg ..) ?_ (by decide)
  exact Chg.refl _ _

theorem State.trained_chg : ∀ s a1 a2 a3, Chg 1258 s (State.trained s a1 a2 a3) := by
  intro s a1 a2 a3
  unfold State.trained
  try dsimp only
  refine Chg.step (State.ltrUpdate_chg ..) ?_ (by decide)
  refine Chg.ite ?_ ?_
  · refine Chg.step (State.setFunc_chg ..) ?_ (by decide)
    refine Chg.step (State.laneCheck_chg ..) ?_ (by decide)
    refine Chg.setPort ?_ ?_ (by decide)
    · refine Chg.step (State.entryBoundary_chg ..) ?_ (by decide)
      exact Chg.refl _ _
    · exact fun w => w _
  · refine Chg.step (State.emit_chg ..) ?_ (by decide)
    refine Chg.step (State.laneCheck_chg ..) ?_ (by decide)
    refine Chg.setPort ?_ ?_ (by decide)
    · refine Chg.step (State.entryBoundary_chg ..) ?_ (by decide)
      exact Chg.refl _ _
    · exact fun w => w _

theorem State.freezeReport_chg : ∀ s a1 a2, Chg 69038301362 s (State.freezeReport s a1 a2) := by
  intro s a1 a2
  unfold State.freezeReport
  try dsimp only
  split
  · refine Chg.step (State.rasReport_chg ..) ?_ (by decide)
    refine Chg.step (State.raise_chg ..) ?_ (by decide)
    refine Chg.step (State.addError_chg ..) ?_ (by decide)
    refine Chg.u_cmds ?_ _ (by decide)
    exact Chg.refl _ _
  · refine Chg.ite ?_ ?_
    · refine Chg.step (State.setFunc_chg ..) ?_ (by decide)
      refine Chg.step (State.raise_chg ..) ?_ (by decide)
      refine Chg.step (State.addError_chg ..) ?_ (by decide)
      refine Chg.u_cmds ?_ _ (by decide)
      exact Chg.refl _ _
    · refine Chg.step (State.raise_chg ..) ?_ (by decide)
      refine Chg.step (State.addError_chg ..) ?_ (by decide)
      refine Chg.u_cmds ?_ _ (by decide)
      exact Chg.refl _ _
  · refine Chg.step (State.raise_chg ..) ?_ (by decide)
    refine Chg.step (State.addError_chg ..) ?_ (by decide)
    refine Chg.u_cmds ?_ _ (by decide)
    exact Chg.refl _ _

theorem State.freezeSq_chg : ∀ s a1, Chg 69038303410 s (State.freezeSq s a1) := by
  intro s a1
  unfold State.freezeSq
  try dsimp only
  refine Chg.step (State.freezeReport_chg ..) ?_ (by decide)
  refine Chg.step (State.setSq_chg ..) ?_ (by decide)
  exact Chg.refl _ _

theorem State.freezeCq_chg : ∀ s a1 a2, Chg 69038307506 s (State.freezeCq s a1 a2) := by
  intro s a1 a2
  unfold State.freezeCq
  try dsimp only
  refine Chg.step (State.freezeReport_chg ..) ?_ (by decide)
  refine Chg.forEach ?_ ?_
  · intro _ _
    refine Chg.ite ?_ ?_
    · refine Chg.step (State.setSq_chg ..) ?_ (by decide)
      exact Chg.refl _ _
    · exact Chg.refl _ _
  · refine Chg.step (State.setCq_chg ..) ?_ (by decide)
    exact Chg.refl _ _

theorem State.dmaEnd_chg : ∀ s a1, Chg 33602 s (State.dmaEnd s a1) := by
  intro s a1
  unfold State.dmaEnd
  try dsimp only
  refine Chg.step (State.dmaPump_chg ..) ?_ (by decide)
  refine Chg.setPort ?_ ?_ (by decide)
  · refine Chg.u_dmas ?_ _ (by decide)
    exact Chg.refl _ _
  · exact fun w => w _

theorem State.atcFill_chg : ∀ s a1, Chg 64 s (State.atcFill s a1) := by
  intro s a1
  unfold State.atcFill
  try dsimp only
  refine Chg.ite ?_ ?_
  · exact Chg.refl _ _
  · refine Chg.setPort ?_ ?_ (by decide)
    · exact Chg.refl _ _
    · exact fun w => w _

theorem State.dmaFail_chg : ∀ s a1 a2 a3, Chg 69038308338 s (State.dmaFail s a1 a2 a3) := by
  intro s a1 a2 a3
  unfold State.dmaFail
  try dsimp only
  split
  · refine Chg.step (State.freezeSq_chg ..) ?_ (by decide)
    refine Chg.setPort ?_ ?_ (by decide)
    · refine Chg.step (State.dmaEnd_chg ..) ?_ (by decide)
      refine Chg.step (State.aerReport_chg ..) ?_ (by decide)
      exact Chg.refl _ _
    · intro w
      dsimp only
      refine Chg.cmbAt (m := 274877906942) ?_ w _
      refine Chg.step (State.dmaEnd_chg ..) ?_ (by decide)
      refine Chg.step (State.aerReport_chg ..) ?_ (by decide)
      exact Chg.refl _ _
  · refine Chg.step (State.freezeCq_chg ..) ?_ (by decide)
    refine Chg.setPort ?_ ?_ (by decide)
    · refine Chg.step (State.dmaEnd_chg ..) ?_ (by decide)
      refine Chg.step (State.aerReport_chg ..) ?_ (by decide)
      exact Chg.refl _ _
    · intro w
      dsimp only
      refine Chg.cmbAt (m := 274877906942) ?_ w _
      refine Chg.step (State.dmaEnd_chg ..) ?_ (by decide)
      refine Chg.step (State.aerReport_chg ..) ?_ (by decide)
      exact Chg.refl _ _
  · refine Chg.step (State.commitTag_chg ..) ?_ (by decide)
    refine Chg.step (State.dmaCancel_chg ..) ?_ (by decide)
    refine Chg.setPort ?_ ?_ (by decide)
    · refine Chg.step (State.dmaEnd_chg ..) ?_ (by decide)
      refine Chg.step (State.aerReport_chg ..) ?_ (by decide)
      exact Chg.refl _ _
    · intro w
      dsimp only
      refine Chg.cmbAt (m := 274877906942) ?_ w _
      refine Chg.step (State.dmaEnd_chg ..) ?_ (by decide)
      refine Chg.step (State.aerReport_chg ..) ?_ (by decide)
      exact Chg.refl _ _
  · refine Chg.step (State.commitTag_chg ..) ?_ (by decide)
    refine Chg.step (State.dmaCancel_chg ..) ?_ (by decide)
    refine Chg.setPort ?_ ?_ (by decide)
    · refine Chg.step (State.dmaEnd_chg ..) ?_ (by decide)
      refine Chg.step (State.aerReport_chg ..) ?_ (by decide)
      exact Chg.refl _ _
    · intro w
      dsimp only
      refine Chg.cmbAt (m := 274877906942) ?_ w _
      refine Chg.step (State.dmaEnd_chg ..) ?_ (by decide)
      refine Chg.step (State.aerReport_chg ..) ?_ (by decide)
      exact Chg.refl _ _
  · refine Chg.step (State.commitTag_chg ..) ?_ (by decide)
    refine Chg.step (State.dmaCancel_chg ..) ?_ (by decide)
    refine Chg.setPort ?_ ?_ (by decide)
    · refine Chg.step (State.dmaEnd_chg ..) ?_ (by decide)
      refine Chg.step (State.aerReport_chg ..) ?_ (by decide)
      exact Chg.refl _ _
    · intro w
      dsimp only
      refine Chg.cmbAt (m := 274877906942) ?_ w _
      refine Chg.step (State.dmaEnd_chg ..) ?_ (by decide)
      refine Chg.step (State.aerReport_chg ..) ?_ (by decide)
      exact Chg.refl _ _
  · refine Chg.step (State.commitTag_chg ..) ?_ (by decide)
    refine Chg.step (State.dmaCancel_chg ..) ?_ (by decide)
    refine Chg.setPort ?_ ?_ (by decide)
    · refine Chg.step (State.dmaEnd_chg ..) ?_ (by decide)
      refine Chg.step (State.aerReport_chg ..) ?_ (by decide)
      exact Chg.refl _ _
    · intro w
      dsimp only
      refine Chg.cmbAt (m := 274877906942) ?_ w _
      refine Chg.step (State.dmaEnd_chg ..) ?_ (by decide)
      refine Chg.step (State.aerReport_chg ..) ?_ (by decide)
      exact Chg.refl _ _
  · refine Chg.step (State.commitTag_chg ..) ?_ (by decide)
    refine Chg.step (State.dmaCancel_chg ..) ?_ (by decide)
    refine Chg.setPort ?_ ?_ (by decide)
    · refine Chg.step (State.dmaEnd_chg ..) ?_ (by decide)
      refine Chg.step (State.aerReport_chg ..) ?_ (by decide)
      exact Chg.refl _ _
    · intro w
      dsimp only
      refine Chg.cmbAt (m := 274877906942) ?_ w _
      refine Chg.step (State.dmaEnd_chg ..) ?_ (by decide)
      refine Chg.step (State.aerReport_chg ..) ?_ (by decide)
      exact Chg.refl _ _
  · refine Chg.setPort ?_ ?_ (by decide)
    · refine Chg.step (State.dmaEnd_chg ..) ?_ (by decide)
      refine Chg.step (State.aerReport_chg ..) ?_ (by decide)
      exact Chg.refl _ _
    · intro w
      dsimp only
      refine Chg.cmbAt (m := 274877906942) ?_ w _
      refine Chg.step (State.dmaEnd_chg ..) ?_ (by decide)
      refine Chg.step (State.aerReport_chg ..) ?_ (by decide)
      exact Chg.refl _ _
  · refine Chg.setPort ?_ ?_ (by decide)
    · refine Chg.step (State.dmaEnd_chg ..) ?_ (by decide)
      refine Chg.step (State.aerReport_chg ..) ?_ (by decide)
      exact Chg.refl _ _
    · intro w
      dsimp only
      refine Chg.cmbAt (m := 274877906942) ?_ w _
      refine Chg.step (State.dmaEnd_chg ..) ?_ (by decide)
      refine Chg.step (State.aerReport_chg ..) ?_ (by decide)
      exact Chg.refl _ _

theorem State.dropStdAdmin_chg : ∀ s a1 a2, Chg 18035534624 s (State.dropStdAdmin s a1 a2) := by
  intro s a1 a2
  unfold State.dropStdAdmin
  try dsimp only
  refine Chg.forEach ?_ ?_
  · intro _ _
    refine Chg.step (State.dropTag_chg ..) ?_ (by decide)
    exact Chg.refl _ _
  · exact Chg.refl _ _

theorem State.dropStdQueues_chg : ∀ s a1 a2, Chg 6144 s (State.dropStdQueues s a1 a2) := by
  intro s a1 a2
  unfold State.dropStdQueues
  try dsimp only
  refine Chg.u_sqs_cqs ?_ _ _ (by decide)
  exact Chg.refl _ _

theorem State.hmbDrop_chg : ∀ s, Chg 67108864 s (State.hmbDrop s) := by
  intro s
  unfold State.hmbDrop
  try dsimp only
  refine Chg.u_map ?_ _ (by decide)
  exact Chg.refl _ _

theorem State.hmbEnd_chg : ∀ s a1, Chg 67108864 s (State.hmbEnd s a1) := by
  intro s a1
  unfold State.hmbEnd
  try dsimp only
  refine Chg.ite ?_ ?_
  · refine Chg.u_map ?_ _ (by decide)
    refine Chg.step (State.hmbDrop_chg ..) ?_ (by decide)
    exact Chg.refl _ _
  · refine Chg.u_map ?_ _ (by decide)
    refine Chg.step (State.hmbDrop_chg ..) ?_ (by decide)
    exact Chg.refl _ _

theorem State.ctrlClear_chg : ∀ s a1 a2, Chg 67125248 s (State.ctrlClear s a1 a2) := by
  intro s a1 a2
  unfold State.ctrlClear
  try dsimp only
  refine Chg.step (State.setCtrl_chg ..) ?_ (by decide)
  refine Chg.ite ?_ ?_
  · refine Chg.step (State.hmbEnd_chg ..) ?_ (by decide)
    exact Chg.refl _ _
  · exact Chg.refl _ _

theorem State.ctrlReset_chg : ∀ s a1 a2, Chg 18102877154 s (State.ctrlReset s a1 a2) := by
  intro s a1 a2
  unfold State.ctrlReset
  try dsimp only
  refine Chg.step (State.setFunc_chg ..) ?_ (by decide)
  refine Chg.step (State.dropStdQueues_chg ..) ?_ (by decide)
  split
  · refine Chg.step (State.sliceReset_chg ..) ?_ (by decide)
    refine Chg.step (State.dropStdAdmin_chg ..) ?_ (by decide)
    refine Chg.step (State.ctrlClear_chg ..) ?_ (by decide)
    exact Chg.refl _ _
  · refine Chg.step (State.dropStdAdmin_chg ..) ?_ (by decide)
    refine Chg.step (State.ctrlClear_chg ..) ?_ (by decide)
    exact Chg.refl _ _

theorem State.dmaForget_chg : ∀ s a1 a2, Chg 18035632992 s (State.dmaForget s a1 a2) := by
  intro s a1 a2
  unfold State.dmaForget
  try dsimp only
  refine Chg.forEach ?_ ?_
  · intro _ _
    refine Chg.ite ?_ ?_
    · refine Chg.step (State.drainEnd_chg ..) ?_ (by decide)
      exact Chg.refl _ _
    · exact Chg.refl _ _
  · refine Chg.setPort ?_ ?_ (by decide)
    · refine Chg.u_dmas_dmaWait ?_ _ _ (by decide)
      exact Chg.refl _ _
    · exact fun w => w _

theorem State.funcsReset_chg : ∀ s a1 a2 a3, Chg 18102877154 s (State.funcsReset s a1 a2 a3) := by
  intro s a1 a2 a3
  unfold State.funcsReset
  try dsimp only
  refine Chg.setPort ?_ ?_ (by decide)
  · refine Chg.forEach ?_ ?_
    · intro _ _
      refine Chg.step (State.setFunc_chg ..) ?_ (by decide)
      exact Chg.refl _ _
    · refine Chg.step (State.dmaForget_chg ..) ?_ (by decide)
      refine Chg.forEach ?_ ?_
      · intro _ _
        refine Chg.step (State.dropStdQueues_chg ..) ?_ (by decide)
        exact Chg.refl _ _
      · refine Chg.forEach ?_ ?_
        · intro _ _
          refine Chg.step (State.dropStdAdmin_chg ..) ?_ (by decide)
          refine Chg.step (State.ctrlClear_chg ..) ?_ (by decide)
          exact Chg.refl _ _
        · refine Chg.forEach ?_ ?_
          · intro _ _
            refine Chg.forEach ?_ ?_
            · intro _ _
              refine Chg.step (State.sliceReset_chg ..) ?_ (by decide)
              exact Chg.refl _ _
            · exact Chg.refl _ _
          · exact Chg.refl _ _
  · intro w
    dsimp only
    refine Chg.cmbAt (m := 274877906942) ?_ w _
    refine Chg.forEach ?_ ?_
    · intro _ _
      refine Chg.step (State.setFunc_chg ..) ?_ (by decide)
      exact Chg.refl _ _
    · refine Chg.step (State.dmaForget_chg ..) ?_ (by decide)
      refine Chg.forEach ?_ ?_
      · intro _ _
        refine Chg.step (State.dropStdQueues_chg ..) ?_ (by decide)
        exact Chg.refl _ _
      · refine Chg.forEach ?_ ?_
        · intro _ _
          refine Chg.step (State.dropStdAdmin_chg ..) ?_ (by decide)
          refine Chg.step (State.ctrlClear_chg ..) ?_ (by decide)
          exact Chg.refl _ _
        · refine Chg.forEach ?_ ?_
          · intro _ _
            refine Chg.forEach ?_ ?_
            · intro _ _
              refine Chg.step (State.sliceReset_chg ..) ?_ (by decide)
              exact Chg.refl _ _
            · exact Chg.refl _ _
          · exact Chg.refl _ _

theorem State.mgtBit_chg : ∀ s a1, Chg 16 s (State.mgtBit s a1) := by
  intro s a1
  unfold State.mgtBit
  try dsimp only
  refine Chg.u_regs ?_ _ ?_ (by decide)
  · exact Chg.refl _ _
  · exact fun w => w

theorem State.sessionsEnd_chg : ∀ s a1, Chg 68719477776 s (State.sessionsEnd s a1) := by
  intro s a1
  unfold State.sessionsEnd
  try dsimp only
  refine Chg.ite ?_ ?_
  · refine Chg.step (State.mgtBit_chg ..) ?_ (by decide)
    refine Chg.u_dict_mgmt ?_ _ _ (by decide)
    exact Chg.refl _ _
  · refine Chg.u_dict_mgmt ?_ _ _ (by decide)
    exact Chg.refl _ _

theorem State.vdmDown_chg : ∀ s a1, Chg 68719477776 s (State.vdmDown s a1) := by
  intro s a1
  unfold State.vdmDown
  try dsimp only
  refine Chg.u_mgmt ?_ _ (by decide)
  refine Chg.step (State.sessionsEnd_chg ..) ?_ (by decide)
  exact Chg.refl _ _

theorem State.portReset_chg : ∀ s a1 a2 a3, Chg 86822354930 s (State.portReset s a1 a2 a3) := by
  intro s a1 a2 a3
  unfold State.portReset
  try dsimp only
  refine Chg.step (State.funcsReset_chg ..) ?_ (by decide)
  refine Chg.u_dirty ?_ _ (by decide)
  refine Chg.step (State.vdmDown_chg ..) ?_ (by decide)
  refine Chg.setPort ?_ ?_ (by decide)
  · exact Chg.refl _ _
  · exact fun _ => rfl

theorem State.linkLost_chg : ∀ s a1, Chg 86822354930 s (State.linkLost s a1) := by
  intro s a1
  unfold State.linkLost
  try dsimp only
  refine Chg.setPort ?_ ?_ (by decide)
  · refine Chg.step (State.portReset_chg ..) ?_ (by decide)
    exact Chg.refl _ _
  · intro w
    dsimp only
    refine Chg.cmbAt (m := 274877906942) ?_ w _
    refine Chg.step (State.portReset_chg ..) ?_ (by decide)
    exact Chg.refl _ _

theorem State.serviceEnd_chg : ∀ s a1, Chg 136 s (State.serviceEnd s a1) := by
  intro s a1
  unfold State.serviceEnd
  try dsimp only
  refine Chg.u_mode ?_ _ (by decide)
  refine Chg.forEach ?_ ?_
  · intro _ _
    refine Chg.ite ?_ ?_
    · refine Chg.step (State.setFunc_chg ..) ?_ (by decide)
      exact Chg.refl _ _
    · exact Chg.refl _ _
  · exact Chg.refl _ _

theorem State.activationStop_chg : ∀ s, Chg 137757728784 s (State.activationStop s) := by
  intro s
  unfold State.activationStop
  try dsimp only
  refine Chg.ite ?_ ?_
  · split
    · refine Chg.step (State.commitTag_chg ..) ?_ (by decide)
      refine Chg.u_regs_sec ?_ _ _ ?_ ?_ (by decide)
      · exact Chg.refl _ _
      · exact List.prefix_rfl
      · exact fun w => w
    · refine Chg.u_regs_sec ?_ _ _ ?_ ?_ (by decide)
      · exact Chg.refl _ _
      · exact List.prefix_rfl
      · exact fun w => w
  · exact Chg.refl _ _

theorem State.engineAsk_chg : ∀ s a1 a2, Chg 4194304 s (State.engineAsk s a1 a2) := by
  intro s a1 a2
  unfold State.engineAsk
  try dsimp only
  refine Chg.step (State.setEngine_chg ..) ?_ (by decide)
  exact Chg.refl _ _

theorem State.engineFail_chg : ∀ s a1, Chg 206481399994 s (State.engineFail s a1) := by
  intro s a1
  unfold State.engineFail
  try dsimp only
  refine Chg.ite ?_ ?_
  · refine Chg.step (State.serviceEnd_chg ..) ?_ (by decide)
    refine Chg.ite ?_ ?_
    · refine Chg.step (State.activationStop_chg ..) ?_ (by decide)
      refine Chg.step (State.rasReport_chg ..) ?_ (by decide)
      refine Chg.step (State.sustainSet_chg ..) ?_ (by decide)
      split
      · refine Chg.ite ?_ ?_
        · refine Chg.step (State.setEngine_chg ..) ?_ (by decide)
          exact Chg.refl _ _
        · refine Chg.step (State.setEngine_chg ..) ?_ (by decide)
          refine Chg.step (State.setEngine_chg ..) ?_ (by decide)
          refine Chg.step (State.setEngine_chg ..) ?_ (by decide)
          exact Chg.refl _ _
      · split
        · refine Chg.step (State.setEngine_chg ..) ?_ (by decide)
          refine Chg.step (State.setEngine_chg ..) ?_ (by decide)
          exact Chg.refl _ _
        · refine Chg.step (State.setEngine_chg ..) ?_ (by decide)
          exact Chg.refl _ _
    · refine Chg.step (State.rasReport_chg ..) ?_ (by decide)
      refine Chg.step (State.sustainSet_chg ..) ?_ (by decide)
      split
      · refine Chg.ite ?_ ?_
        · refine Chg.step (State.setEngine_chg ..) ?_ (by decide)
          exact Chg.refl _ _
        · refine Chg.step (State.setEngine_chg ..) ?_ (by decide)
          refine Chg.step (State.setEngine_chg ..) ?_ (by decide)
          refine Chg.step (State.setEngine_chg ..) ?_ (by decide)
          exact Chg.refl _ _
      · split
        · refine Chg.step (State.setEngine_chg ..) ?_ (by decide)
          refine Chg.step (State.setEngine_chg ..) ?_ (by decide)
          exact Chg.refl _ _
        · refine Chg.step (State.setEngine_chg ..) ?_ (by decide)
          exact Chg.refl _ _
  · refine Chg.ite ?_ ?_
    · refine Chg.step (State.activationStop_chg ..) ?_ (by decide)
      refine Chg.step (State.rasReport_chg ..) ?_ (by decide)
      refine Chg.step (State.sustainSet_chg ..) ?_ (by decide)
      split
      · refine Chg.ite ?_ ?_
        · refine Chg.step (State.setEngine_chg ..) ?_ (by decide)
          exact Chg.refl _ _
        · refine Chg.step (State.setEngine_chg ..) ?_ (by decide)
          refine Chg.step (State.setEngine_chg ..) ?_ (by decide)
          refine Chg.step (State.setEngine_chg ..) ?_ (by decide)
          exact Chg.refl _ _
      · split
        · refine Chg.step (State.setEngine_chg ..) ?_ (by decide)
          refine Chg.step (State.setEngine_chg ..) ?_ (by decide)
          exact Chg.refl _ _
        · refine Chg.step (State.setEngine_chg ..) ?_ (by decide)
          exact Chg.refl _ _
    · refine Chg.step (State.rasReport_chg ..) ?_ (by decide)
      refine Chg.step (State.sustainSet_chg ..) ?_ (by decide)
      split
      · refine Chg.ite ?_ ?_
        · refine Chg.step (State.setEngine_chg ..) ?_ (by decide)
          exact Chg.refl _ _
        · refine Chg.step (State.setEngine_chg ..) ?_ (by decide)
          refine Chg.step (State.setEngine_chg ..) ?_ (by decide)
          refine Chg.step (State.setEngine_chg ..) ?_ (by decide)
          exact Chg.refl _ _
      · split
        · refine Chg.step (State.setEngine_chg ..) ?_ (by decide)
          refine Chg.step (State.setEngine_chg ..) ?_ (by decide)
          exact Chg.refl _ _
        · refine Chg.step (State.setEngine_chg ..) ?_ (by decide)
          exact Chg.refl _ _

end Sys2Proof.Machine
end

