-- ==== Sys2Proof/Laws/ChgDictOps.lean ====
section
/-! SUPPORT. What the operations of Machine/DictOps.lean may change: one lemma for each. -/

set_option linter.all false

namespace Sys2Proof.Machine

theorem State.deliverMark_chg : ∀ s a1 a2, Chg 196610 s (State.deliverMark s a1 a2) := by
  intro s a1 a2
  unfold State.deliverMark
  try dsimp only
  refine Chg.ite ?_ ?_
  · exact Chg.refl _ _
  · refine Chg.ite ?_ ?_
    · exact Chg.refl _ _
    · refine Chg.ite ?_ ?_
      · refine Chg.step (State.dirtyMark_chg ..) ?_ (by decide)
        refine Chg.step (State.dirtyMark_chg ..) ?_ (by decide)
        exact Chg.refl _ _
      · refine Chg.step (State.dirtyMark_chg ..) ?_ (by decide)
        exact Chg.refl _ _

theorem State.deliver_chg : ∀ s a1 a2, Chg 196674 s (State.deliver s a1 a2) := by
  intro s a1 a2
  unfold State.deliver
  try dsimp only
  refine Chg.ite ?_ ?_
  · refine Chg.step (State.deliverMark_chg ..) ?_ (by decide)
    refine Chg.step (State.emit_chg ..) ?_ (by decide)
    exact Chg.refl _ _
  · refine Chg.step (State.lateDiscard_chg ..) ?_ (by decide)
    exact Chg.refl _ _

theorem State.remember_chg : ∀ s a1 a2 a3, Chg 1024 s (State.remember s a1 a2 a3) := by
  intro s a1 a2 a3
  unfold State.remember
  try dsimp only
  split
  · refine Chg.u_dict ?_ _ (by decide)
    exact Chg.refl _ _
  · exact Chg.refl _ _

theorem State.mailboxAnswer_chg : ∀ s a1 a2 a3, Chg 16 s (State.mailboxAnswer s a1 a2 a3) := by
  intro s a1 a2 a3
  unfold State.mailboxAnswer
  try dsimp only
  refine Chg.u_regs ?_ _ ?_ (by decide)
  · exact Chg.refl _ _
  · exact fun w => Mem.wf_writeList _ _ w

theorem State.answer_chg : ∀ s a1 a2 a3, Chg 318973010 s (State.answer s a1 a2 a3) := by
  intro s a1 a2 a3
  unfold State.answer
  try dsimp only
  refine Chg.ite ?_ ?_
  · exact Chg.refl _ _
  · split
    · refine Chg.ite ?_ ?_
      · refine Chg.step (State.commitTag_chg ..) ?_ (by decide)
        exact Chg.refl _ _
      · split
        · refine Chg.step (State.succeed_chg ..) ?_ (by decide)
          refine Chg.step (State.deliver_chg ..) ?_ (by decide)
          exact Chg.refl _ _
        · refine Chg.step (State.succeed_chg ..) ?_ (by decide)
          exact Chg.refl _ _
        · refine Chg.step (State.succeed_chg ..) ?_ (by decide)
          exact Chg.refl _ _
        · refine Chg.step (State.succeed_chg ..) ?_ (by decide)
          exact Chg.refl _ _
    · refine Chg.step (State.mailboxAnswer_chg ..) ?_ (by decide)
      exact Chg.refl _ _
    · refine Chg.step (State.remember_chg ..) ?_ (by decide)
      refine Chg.step (State.emit_chg ..) ?_ (by decide)
      exact Chg.refl _ _

theorem State.answerOp_chg : ∀ s a1 a2 a3, Chg 318973010 s (State.answerOp s a1 a2 a3) := by
  intro s a1 a2 a3
  unfold State.answerOp
  try dsimp only
  split
  · exact Chg.refl _ _
  · refine Chg.step (State.answer_chg ..) ?_ (by decide)
    exact Chg.refl _ _

theorem State.setResult_chg : ∀ s a1 a2 a3, Chg 1024 s (State.setResult s a1 a2 a3) := by
  intro s a1 a2 a3
  unfold State.setResult
  try dsimp only
  refine Chg.u_dict ?_ _ (by decide)
  exact Chg.refl _ _

theorem State.setNamed_chg : ∀ s a1 a2, Chg 1024 s (State.setNamed s a1 a2) := by
  intro s a1 a2
  unfold State.setNamed
  try dsimp only
  refine Chg.u_dict ?_ _ (by decide)
  exact Chg.refl _ _

theorem State.dropShadow_chg : ∀ s a1, Chg 1024 s (State.dropShadow s a1) := by
  intro s a1
  unfold State.dropShadow
  try dsimp only
  refine Chg.u_dict ?_ _ (by decide)
  exact Chg.refl _ _

theorem State.shadowWrite_chg : ∀ s a1 a2 a3, Chg 1024 s (State.shadowWrite s a1 a2 a3) := by
  intro s a1 a2 a3
  unfold State.shadowWrite
  try dsimp only
  refine Chg.u_dict ?_ _ (by decide)
  exact Chg.refl _ _

theorem State.stageDrop_chg : ∀ s a1 a2, Chg 1024 s (State.stageDrop s a1 a2) := by
  intro s a1 a2
  unfold State.stageDrop
  try dsimp only
  refine Chg.u_dict ?_ _ (by decide)
  exact Chg.refl _ _

theorem State.stageKeep_chg : ∀ s a1, Chg 1024 s (State.stageKeep s a1) := by
  intro s a1
  unfold State.stageKeep
  try dsimp only
  refine Chg.u_dict ?_ _ (by decide)
  refine Chg.step (State.stageDrop_chg ..) ?_ (by decide)
  exact Chg.refl _ _

theorem State.segment_chg : ∀ s a1 a2, Chg 1024 s (State.segment s a1 a2).1 := by
  intro s a1 a2
  unfold State.segment
  try dsimp only
  refine Chg.fstIte ?_ ?_
  · dsimp only
    exact Chg.refl _ _
  · refine Chg.fstIte ?_ ?_
    · dsimp only
      refine Chg.step (State.stageDrop_chg ..) ?_ (by decide)
      exact Chg.refl _ _
    · refine Chg.fstIte ?_ ?_
      · dsimp only
        refine Chg.step (State.stageDrop_chg ..) ?_ (by decide)
        exact Chg.refl _ _
      · dsimp only
        refine Chg.step (State.stageKeep_chg ..) ?_ (by decide)
        exact Chg.refl _ _

theorem State.setActiveCopy_chg : ∀ s a1, Chg 1024 s (State.setActiveCopy s a1) := by
  intro s a1
  unfold State.setActiveCopy
  try dsimp only
  refine Chg.ite ?_ ?_
  · refine Chg.u_dict ?_ _ (by decide)
    exact Chg.refl _ _
  · refine Chg.u_dict ?_ _ (by decide)
    exact Chg.refl _ _

theorem State.append_chg : ∀ s a1 a2, Chg 1024 s (State.append s a1 a2) := by
  intro s a1 a2
  unfold State.append
  try dsimp only
  refine Chg.u_dict ?_ _ (by decide)
  exact Chg.refl _ _

theorem State.forceFields_chg : ∀ s a1 a2, Chg 1024 s (State.forceFields s a1 a2) := by
  intro s a1 a2
  unfold State.forceFields
  try dsimp only
  refine Chg.forEach ?_ ?_
  · intro _ _
    refine Chg.step (State.putInForce_chg ..) ?_ (by decide)
    exact Chg.refl _ _
  · exact Chg.refl _ _

theorem State.storeFields_chg : ∀ s a1, Chg 1024 s (State.storeFields s a1) := by
  intro s a1
  unfold State.storeFields
  try dsimp only
  refine Chg.forEach ?_ ?_
  · intro _ _
    refine Chg.step (State.putStored_chg ..) ?_ (by decide)
    exact Chg.refl _ _
  · exact Chg.refl _ _

theorem State.logDurable_chg : ∀ s a1, Chg 1024 s (State.logDurable s a1) := by
  intro s a1
  unfold State.logDurable
  try dsimp only
  refine Chg.step (State.storeFields_chg ..) ?_ (by decide)
  refine Chg.step (State.setActiveCopy_chg ..) ?_ (by decide)
  exact Chg.refl _ _

theorem State.recordClear_chg : ∀ s a1, Chg 1024 s (State.recordClear s a1) := by
  intro s a1
  unfold State.recordClear
  try dsimp only
  refine Chg.u_dict ?_ _ (by decide)
  exact Chg.refl _ _

theorem State.dlogSwitch_chg : ∀ s a1 a2, Chg 196610 s (State.dlogSwitch s a1 a2) := by
  intro s a1 a2
  unfold State.dlogSwitch
  try dsimp only
  refine Chg.ite ?_ ?_
  · refine Chg.step (State.setSlice_chg ..) ?_ (by decide)
    exact Chg.refl _ _
  · refine Chg.ite ?_ ?_
    · refine Chg.step (State.dlogClose_chg ..) ?_ (by decide)
      refine Chg.step (State.dirtyPostAll_chg ..) ?_ (by decide)
      exact Chg.refl _ _
    · exact Chg.refl _ _

theorem State.inForceHook_chg : ∀ s a1 a2, Chg 17180074050 s (State.inForceHook s a1 a2) := by
  intro s a1 a2
  unfold State.inForceHook
  try dsimp only
  refine Chg.ite ?_ ?_
  · refine Chg.step (State.ltrAll_chg ..) ?_ (by decide)
    refine Chg.step (State.sliceInterrupts_chg ..) ?_ (by decide)
    refine Chg.step (State.dlogSwitch_chg ..) ?_ (by decide)
    exact Chg.refl _ _
  · refine Chg.ite ?_ ?_
    · refine Chg.step (State.ltrAll_chg ..) ?_ (by decide)
      exact Chg.refl _ _
    · refine Chg.ite ?_ ?_
      · refine Chg.step (State.bufServe_chg ..) ?_ (by decide)
        exact Chg.refl _ _
      · exact Chg.refl _ _

theorem State.commitDone_chg : ∀ s a1 a2, Chg 318973010 s (State.commitDone s a1 a2) := by
  intro s a1 a2
  unfold State.commitDone
  try dsimp only
  split
  · refine Chg.ite ?_ ?_
    · refine Chg.step (State.setResult_chg ..) ?_ (by decide)
      exact Chg.refl _ _
    · refine Chg.step (State.answer_chg ..) ?_ (by decide)
      refine Chg.step (State.setResult_chg ..) ?_ (by decide)
      exact Chg.refl _ _
  · refine Chg.step (State.setResult_chg ..) ?_ (by decide)
    exact Chg.refl _ _

theorem State.commitForce_chg : ∀ s a1 a2 a3 a4, Chg 17498842194 s (State.commitForce s a1 a2 a3 a4) := by
  intro s a1 a2 a3 a4
  unfold State.commitForce
  try dsimp only
  refine Chg.forEach ?_ ?_
  · intro _ _
    refine Chg.step (State.commitDone_chg ..) ?_ (by decide)
    exact Chg.refl _ _
  · refine Chg.step (State.inForceHook_chg ..) ?_ (by decide)
    refine Chg.step (State.forceFields_chg ..) ?_ (by decide)
    refine Chg.u_dict ?_ _ (by decide)
    exact Chg.refl _ _

theorem State.boundary_chg : ∀ s a1, Chg 17498842194 s (State.boundary s a1) := by
  intro s a1
  unfold State.boundary
  try dsimp only
  split
  · exact Chg.refl _ _
  · refine Chg.ite ?_ ?_
    · exact Chg.refl _ _
    · refine Chg.step (State.commitForce_chg ..) ?_ (by decide)
      exact Chg.refl _ _

theorem State.boundaries_chg : ∀ s a1, Chg 17498842194 s (State.boundaries s a1) := by
  intro s a1
  unfold State.boundaries
  try dsimp only
  refine Chg.forEach ?_ ?_
  · intro _ _
    refine Chg.step (State.boundary_chg ..) ?_ (by decide)
    exact Chg.refl _ _
  · exact Chg.refl _ _

end Sys2Proof.Machine
end

