-- ==== Sys2Proof/Laws/ChgMapOps.lean ====
section
/-! SUPPORT. What the operations of Machine/MapOps.lean may change: one lemma for each. -/

set_option linter.all false

namespace Sys2Proof.Machine

theorem State.jrnWait_chg : ∀ s, Chg 134217728 s (State.jrnWait s) := by
  intro s
  unfold State.jrnWait
  try dsimp only
  refine Chg.u_jrn ?_ _ (by decide)
  exact Chg.refl _ _

theorem State.closeTail_chg : ∀ s, Chg 134217728 s (State.closeTail s) := by
  intro s
  unfold State.closeTail
  try dsimp only
  refine Chg.ite ?_ ?_
  · exact Chg.refl _ _
  · refine Chg.u_jrn ?_ _ (by decide)
    exact Chg.refl _ _

theorem State.journal_chg : ∀ s a1, Chg 134217728 s (State.journal s a1) := by
  intro s a1
  unfold State.journal
  try dsimp only
  refine Chg.ite ?_ ?_
  · exact Chg.refl _ _
  · refine Chg.ite ?_ ?_
    · refine Chg.step (State.closeTail_chg ..) ?_ (by decide)
      refine Chg.u_jrn ?_ _ (by decide)
      refine Chg.ite ?_ ?_
      · refine Chg.step (State.closeTail_chg ..) ?_ (by decide)
        exact Chg.refl _ _
      · exact Chg.refl _ _
    · refine Chg.u_jrn ?_ _ (by decide)
      refine Chg.ite ?_ ?_
      · refine Chg.step (State.closeTail_chg ..) ?_ (by decide)
        exact Chg.refl _ _
      · exact Chg.refl _ _

theorem State.zoneJournal_chg : ∀ s a1 a2, Chg 150994944 s (State.zoneJournal s a1 a2) := by
  intro s a1 a2
  unfold State.zoneJournal
  try dsimp only
  refine Chg.step (State.journal_chg ..) ?_ (by decide)
  refine Chg.step (State.setZone_chg ..) ?_ (by decide)
  exact Chg.refl _ _

theorem State.nsJournal_chg : ∀ s a1 a2, Chg 134217728 s (State.nsJournal s a1 a2) := by
  intro s a1 a2
  unfold State.nsJournal
  try dsimp only
  refine Chg.step (State.journal_chg ..) ?_ (by decide)
  exact Chg.refl _ _

theorem State.systemRewrite_chg : ∀ s, Chg 1073741824 s (State.systemRewrite s) := by
  intro s
  unfold State.systemRewrite
  try dsimp only
  refine Chg.u_recov ?_ _ (by decide)
  exact Chg.refl _ _

theorem State.section__chg : ∀ s, Chg 1073741824 s (State.section_ s) := by
  intro s
  unfold State.section_
  try dsimp only
  refine Chg.ite ?_ ?_
  · refine Chg.step (State.systemRewrite_chg ..) ?_ (by decide)
    refine Chg.u_recov ?_ _ (by decide)
    exact Chg.refl _ _
  · refine Chg.u_recov ?_ _ (by decide)
    exact Chg.refl _ _

theorem State.nsTableWrite_chg : ∀ s, Chg 1073741824 s (State.nsTableWrite s) := by
  intro s
  unfold State.nsTableWrite
  try dsimp only
  refine Chg.step (State.section__chg ..) ?_ (by decide)
  refine Chg.u_recov ?_ _ (by decide)
  exact Chg.refl _ _

theorem State.seqDraw_chg : ∀ s a1, Chg 1073741824 s (State.seqDraw s a1) := by
  intro s a1
  unfold State.seqDraw
  try dsimp only
  refine Chg.u_recov ?_ _ (by decide)
  refine Chg.ite ?_ ?_
  · refine Chg.step (State.section__chg ..) ?_ (by decide)
    refine Chg.u_recov ?_ _ (by decide)
    exact Chg.refl _ _
  · exact Chg.refl _ _

theorem State.homeRelease_chg : ∀ s a1, Chg 67108864 s (State.homeRelease s a1) := by
  intro s a1
  unfold State.homeRelease
  try dsimp only
  split
  · refine Chg.u_map ?_ _ (by decide)
    exact Chg.refl _ _
  · exact Chg.refl _ _

theorem State.linesDrop_chg : ∀ s a1, Chg 67108864 s (State.linesDrop s a1) := by
  intro s a1
  unfold State.linesDrop
  try dsimp only
  refine Chg.u_map ?_ _ (by decide)
  exact Chg.refl _ _

theorem State.pageNull_chg : ∀ s a1 a2, Chg 67108864 s (State.pageNull s a1 a2) := by
  intro s a1 a2
  unfold State.pageNull
  try dsimp only
  refine Chg.step (State.setPage_chg ..) ?_ (by decide)
  refine Chg.step (State.linesDrop_chg ..) ?_ (by decide)
  refine Chg.step (State.homeRelease_chg ..) ?_ (by decide)
  exact Chg.refl _ _

theorem State.writebackStart_chg : ∀ s a1 a2, Chg 201326592 s (State.writebackStart s a1 a2) := by
  intro s a1 a2
  unfold State.writebackStart
  try dsimp only
  refine Chg.ite ?_ ?_
  · refine Chg.step (State.journal_chg ..) ?_ (by decide)
    refine Chg.step (State.pageNull_chg ..) ?_ (by decide)
    exact Chg.refl _ _
  · refine Chg.step (State.setPage_chg ..) ?_ (by decide)
    exact Chg.refl _ _

theorem State.writebackTo_chg : ∀ s a1 a2, Chg 201326592 s (State.writebackTo s a1 a2) := by
  intro s a1
  induction a1 generalizing s with
  | zero => intro a2; exact Chg.refl _ _
  | succ n ih =>
    intro a2
    unfold State.writebackTo
    refine Chg.ite (Chg.refl _ _) ?_
    split
    · exact Chg.refl _ _
    · exact Chg.step (ih _ _) (Chg.step (State.writebackStart_chg ..) (Chg.refl _ _) (by decide)) (by decide)

theorem State.writebackPump_chg : ∀ s, Chg 17700168786 s (State.writebackPump s) := by
  intro s
  unfold State.writebackPump
  try dsimp only
  refine Chg.ite ?_ ?_
  · refine Chg.step (State.writebackTo_chg ..) ?_ (by decide)
    refine Chg.step (State.boundary_chg ..) ?_ (by decide)
    exact Chg.refl _ _
  · refine Chg.step (State.boundary_chg ..) ?_ (by decide)
    exact Chg.refl _ _

theorem State.writebackDone_chg : ∀ s a1 a2 a3 a4, Chg 17700168786 s (State.writebackDone s a1 a2 a3 a4) := by
  intro s a1 a2 a3 a4
  unfold State.writebackDone
  try dsimp only
  refine Chg.ite ?_ ?_
  · refine Chg.step (State.writebackPump_chg ..) ?_ (by decide)
    refine Chg.u_map ?_ _ (by decide)
    refine Chg.step (State.journal_chg ..) ?_ (by decide)
    refine Chg.step (State.setPage_chg ..) ?_ (by decide)
    refine Chg.step (State.homeRelease_chg ..) ?_ (by decide)
    exact Chg.refl _ _
  · refine Chg.step (State.setPage_chg ..) ?_ (by decide)
    exact Chg.refl _ _

theorem State.checkpoint_chg : ∀ s, Chg 671088640 s (State.checkpoint s) := by
  intro s
  unfold State.checkpoint
  try dsimp only
  refine Chg.ite ?_ ?_
  · exact Chg.refl _ _
  · refine Chg.u_jrn_media ?_ _ _ (by decide)
    refine Chg.step (State.journal_chg ..) ?_ (by decide)
    refine Chg.step (State.journal_chg ..) ?_ (by decide)
    exact Chg.refl _ _

theorem State.jrnWatch_chg : ∀ s, Chg 18237039698 s (State.jrnWatch s) := by
  intro s
  unfold State.jrnWatch
  try dsimp only
  refine Chg.ite ?_ ?_
  · refine Chg.step (State.checkpoint_chg ..) ?_ (by decide)
    refine Chg.step (State.boundary_chg ..) ?_ (by decide)
    refine Chg.ite ?_ ?_
    · refine Chg.step (State.checkpoint_chg ..) ?_ (by decide)
      refine Chg.step (State.writebackTo_chg ..) ?_ (by decide)
      refine Chg.u_jrn ?_ _ (by decide)
      exact Chg.refl _ _
    · refine Chg.u_jrn ?_ _ (by decide)
      exact Chg.refl _ _
  · refine Chg.step (State.boundary_chg ..) ?_ (by decide)
    refine Chg.ite ?_ ?_
    · refine Chg.step (State.checkpoint_chg ..) ?_ (by decide)
      refine Chg.step (State.writebackTo_chg ..) ?_ (by decide)
      refine Chg.u_jrn ?_ _ (by decide)
      exact Chg.refl _ _
    · refine Chg.u_jrn ?_ _ (by decide)
      exact Chg.refl _ _

theorem State.checkpointDone_chg : ∀ s, Chg 18237039698 s (State.checkpointDone s) := by
  intro s
  unfold State.checkpointDone
  try dsimp only
  refine Chg.step (State.jrnWatch_chg ..) ?_ (by decide)
  refine Chg.u_map_jrn ?_ _ _ (by decide)
  exact Chg.refl _ _

theorem State.evict_chg : ∀ s a1, Chg 67108864 s (State.evict s a1) := by
  intro s a1
  unfold State.evict
  try dsimp only
  refine Chg.u_map ?_ _ (by decide)
  refine Chg.step (State.linesDrop_chg ..) ?_ (by decide)
  exact Chg.refl _ _

theorem State.clock_chg : ∀ s a1, Chg 67108864 s (State.clock s a1).1 := by
  intro s a1
  induction a1 generalizing s with
  | nil => exact Chg.refl _ _
  | cons k t ih =>
    unfold State.clock
    dsimp only
    refine Chg.fstIte ?_ ?_
    · exact Chg.step (State.evict_chg ..) (Chg.refl _ _) (by decide)
    · exact Chg.step (ih _) (Chg.u_map (Chg.refl _ _) _ (by decide)) (by decide)

theorem State.frameTake_chg : ∀ s, Chg 201326592 s (State.frameTake s).1 := by
  intro s
  unfold State.frameTake
  try dsimp only
  refine Chg.fstIte ?_ ?_
  · dsimp only
    exact Chg.refl _ _
  · refine Chg.fstIte ?_ ?_
    · refine Chg.step (State.clock_chg ..) ?_ (by decide)
      exact Chg.refl _ _
    · dsimp only
      refine Chg.step (State.writebackTo_chg ..) ?_ (by decide)
      refine Chg.u_map ?_ _ (by decide)
      refine Chg.step (State.clock_chg ..) ?_ (by decide)
      exact Chg.refl _ _

theorem State.frameTakeIdle_chg : ∀ s, Chg 67108864 s (State.frameTakeIdle s).1 := by
  intro s
  unfold State.frameTakeIdle
  try dsimp only
  refine Chg.fstIte ?_ ?_
  · dsimp only
    exact Chg.refl _ _
  · split
    · dsimp only
      refine Chg.step (State.evict_chg ..) ?_ (by decide)
      exact Chg.refl _ _
    · dsimp only
      exact Chg.refl _ _

theorem State.fillStart_chg : ∀ s a1 a2 a3 a4 a5, Chg 67108864 s (State.fillStart s a1 a2 a3 a4 a5) := by
  intro s a1 a2 a3 a4 a5
  unfold State.fillStart
  try dsimp only
  refine Chg.u_map ?_ _ (by decide)
  exact Chg.refl _ _

theorem State.fillAsk_chg : ∀ s a1 a2 a3 a4, Chg 201326592 s (State.fillAsk s a1 a2 a3 a4) := by
  intro s a1 a2 a3 a4
  unfold State.fillAsk
  try dsimp only
  refine Chg.ite ?_ ?_
  · exact Chg.refl _ _
  · refine Chg.ite ?_ ?_
    · refine Chg.u_map ?_ _ (by decide)
      exact Chg.refl _ _
    · refine Chg.ite ?_ ?_
      · exact Chg.refl _ _
      · refine Chg.ite ?_ ?_
        · refine Chg.step (State.fillStart_chg ..) ?_ (by decide)
          refine Chg.fstIte ?_ ?_
          · dsimp only
            exact Chg.refl _ _
          · refine Chg.step (State.frameTake_chg ..) ?_ (by decide)
            exact Chg.refl _ _
        · refine Chg.fstIte ?_ ?_
          · dsimp only
            exact Chg.refl _ _
          · refine Chg.step (State.frameTake_chg ..) ?_ (by decide)
            exact Chg.refl _ _

theorem State.detect_chg : ∀ s a1 a2 a3 a4, Chg 17565951058 s (State.detect s a1 a2 a3 a4) := by
  intro s a1 a2 a3 a4
  unfold State.detect
  try dsimp only
  refine Chg.ite ?_ ?_
  · refine Chg.forEach ?_ ?_
    · intro _ _
      refine Chg.ite ?_ ?_
      · exact Chg.refl _ _
      · refine Chg.ite ?_ ?_
        · refine Chg.step (State.fillStart_chg ..) ?_ (by decide)
          refine Chg.step (State.frameTakeIdle_chg ..) ?_ (by decide)
          exact Chg.refl _ _
        · refine Chg.step (State.frameTakeIdle_chg ..) ?_ (by decide)
          exact Chg.refl _ _
    · refine Chg.u_map ?_ _ (by decide)
      refine Chg.step (State.boundary_chg ..) ?_ (by decide)
      exact Chg.refl _ _
  · refine Chg.u_map ?_ _ (by decide)
    refine Chg.step (State.boundary_chg ..) ?_ (by decide)
    exact Chg.refl _ _

theorem State.lookup_chg : ∀ s a1 a2, Chg 67108864 s (State.lookup s a1 a2) := by
  intro s a1 a2
  unfold State.lookup
  try dsimp only
  refine Chg.ite ?_ ?_
  · refine Chg.u_map ?_ _ (by decide)
    exact Chg.refl _ _
  · refine Chg.u_map ?_ _ (by decide)
    exact Chg.refl _ _

theorem State.validAdd_chg : ∀ s a1, Chg 536870912 s (State.validAdd s a1) := by
  intro s a1
  unfold State.validAdd
  try dsimp only
  refine Chg.ite ?_ ?_
  · refine Chg.step (State.setSb_chg ..) ?_ (by decide)
    exact Chg.refl _ _
  · exact Chg.refl _ _

theorem State.validSub_chg : ∀ s a1, Chg 536870912 s (State.validSub s a1) := by
  intro s a1
  unfold State.validSub
  try dsimp only
  refine Chg.ite ?_ ?_
  · refine Chg.step (State.setSb_chg ..) ?_ (by decide)
    exact Chg.refl _ _
  · exact Chg.refl _ _

theorem State.pageDirty_chg : ∀ s a1 a2 a3, Chg 67108864 s (State.pageDirty s a1 a2 a3) := by
  intro s a1 a2 a3
  unfold State.pageDirty
  try dsimp only
  refine Chg.step (State.setPage_chg ..) ?_ (by decide)
  exact Chg.refl _ _

theorem State.entryPut_chg : ∀ s a1 a2 a3 a4, Chg 603979776 s (State.entryPut s a1 a2 a3 a4) := by
  intro s a1 a2 a3 a4
  unfold State.entryPut
  try dsimp only
  refine Chg.ite ?_ ?_
  · refine Chg.step (State.setPage_chg ..) ?_ (by decide)
    refine Chg.step (State.pageDirty_chg ..) ?_ (by decide)
    refine Chg.step (State.setMent_chg ..) ?_ (by decide)
    refine Chg.step (State.validAdd_chg ..) ?_ (by decide)
    refine Chg.step (State.validSub_chg ..) ?_ (by decide)
    exact Chg.refl _ _
  · refine Chg.step (State.setMent_chg ..) ?_ (by decide)
    refine Chg.step (State.validAdd_chg ..) ?_ (by decide)
    refine Chg.step (State.validSub_chg ..) ?_ (by decide)
    exact Chg.refl _ _

theorem State.hostPut_chg : ∀ s a1 a2 a3, Chg 612368384 s (State.hostPut s a1 a2 a3) := by
  intro s a1 a2 a3
  unfold State.hostPut
  try dsimp only
  refine Chg.step (State.entryPut_chg ..) ?_ (by decide)
  refine Chg.step (State.setNs_chg ..) ?_ (by decide)
  exact Chg.refl _ _

theorem State.moveDropped_chg : ∀ s, Chg 67108864 s (State.moveDropped s) := by
  intro s
  unfold State.moveDropped
  try dsimp only
  refine Chg.u_map ?_ _ (by decide)
  exact Chg.refl _ _

theorem State.trimRun_chg : ∀ s a1 a2 a3, Chg 746586112 s (State.trimRun s a1 a2 a3) := by
  intro s a1 a2 a3
  unfold State.trimRun
  try dsimp only
  refine Chg.step (State.journal_chg ..) ?_ (by decide)
  refine Chg.forEach ?_ ?_
  · intro _ _
    refine Chg.ite ?_ ?_
    · exact Chg.refl _ _
    · refine Chg.step (State.pageNull_chg ..) ?_ (by decide)
      exact Chg.refl _ _
  · refine Chg.forEach ?_ ?_
    · intro _ _
      refine Chg.step (State.hostPut_chg ..) ?_ (by decide)
      exact Chg.refl _ _
    · exact Chg.refl _ _

theorem State.staleRun_chg : ∀ s a1 a2 a3, Chg 746586112 s (State.staleRun s a1 a2 a3) := by
  intro s a1 a2 a3
  unfold State.staleRun
  try dsimp only
  refine Chg.step (State.journal_chg ..) ?_ (by decide)
  refine Chg.forEach ?_ ?_
  · intro _ _
    refine Chg.step (State.hostPut_chg ..) ?_ (by decide)
    exact Chg.refl _ _
  · exact Chg.refl _ _

theorem State.loseRun_chg : ∀ s a1 a2 a3, Chg 1065410560 s (State.loseRun s a1 a2 a3) := by
  intro s a1 a2 a3
  unfold State.loseRun
  try dsimp only
  refine Chg.step (State.deferredError_chg ..) ?_ (by decide)
  refine Chg.step (State.staleRun_chg ..) ?_ (by decide)
  exact Chg.refl _ _

theorem State.pageLost_chg : ∀ s a1 a2, Chg 1065410560 s (State.pageLost s a1 a2) := by
  intro s a1 a2
  unfold State.pageLost
  try dsimp only
  refine Chg.forEach ?_ ?_
  · intro _ _
    refine Chg.step (State.loseRun_chg ..) ?_ (by decide)
    exact Chg.refl _ _
  · refine Chg.step (State.setPage_chg ..) ?_ (by decide)
    exact Chg.refl _ _

theorem State.checkFailed_chg : ∀ s a1 a2, Chg 67108896 s (State.checkFailed s a1 a2) := by
  intro s a1 a2
  unfold State.checkFailed
  try dsimp only
  refine Chg.step (State.rasRecord_chg ..) ?_ (by decide)
  refine Chg.u_map ?_ _ (by decide)
  exact Chg.refl _ _

end Sys2Proof.Machine
end

