-- ==== Sys2Proof/Laws/ChgZoneOps.lean ====
section
/-! SUPPORT. What the operations of Machine/ZoneOps.lean may change: one lemma for each. -/

set_option linter.all false

namespace Sys2Proof.Machine

theorem State.setCharge_chg : ∀ s a1 a2 a3, Chg 562036736 s (State.setCharge s a1 a2 a3) := by
  intro s a1 a2 a3
  unfold State.setCharge
  try dsimp only
  refine Chg.ite ?_ ?_
  · refine Chg.step (State.setSb_chg ..) ?_ (by decide)
    refine Chg.step (State.setZone_chg ..) ?_ (by decide)
    refine Chg.step (State.setNs_chg ..) ?_ (by decide)
    exact Chg.refl _ _
  · refine Chg.step (State.setZone_chg ..) ?_ (by decide)
    refine Chg.step (State.setNs_chg ..) ?_ (by decide)
    exact Chg.refl _ _

theorem State.trimCharge_chg : ∀ s a1 a2, Chg 562036736 s (State.trimCharge s a1 a2) := by
  intro s a1 a2
  unfold State.trimCharge
  try dsimp only
  refine Chg.step (State.setCharge_chg ..) ?_ (by decide)
  exact Chg.refl _ _

theorem State.zoneTo_chg : ∀ s a1 a2 a3, Chg 150994944 s (State.zoneTo s a1 a2 a3) := by
  intro s a1 a2 a3
  unfold State.zoneTo
  try dsimp only
  refine Chg.step (State.zoneJournal_chg ..) ?_ (by decide)
  refine Chg.step (State.setZone_chg ..) ?_ (by decide)
  exact Chg.refl _ _

theorem State.zoneChanged_chg : ∀ s a1 a2, Chg 327180288 s (State.zoneChanged s a1 a2) := by
  intro s a1 a2
  unfold State.zoneChanged
  try dsimp only
  refine Chg.forEach ?_ ?_
  · intro _ _
    refine Chg.step (State.raise_chg ..) ?_ (by decide)
    exact Chg.refl _ _
  · refine Chg.step (State.setNs_chg ..) ?_ (by decide)
    exact Chg.refl _ _

theorem State.zrwaAdvance_chg : ∀ s a1 a2 a3, Chg 16777216 s (State.zrwaAdvance s a1 a2 a3) := by
  intro s a1 a2 a3
  unfold State.zrwaAdvance
  try dsimp only
  refine Chg.ite ?_ ?_
  · exact Chg.refl _ _
  · refine Chg.step (State.setZone_chg ..) ?_ (by decide)
    exact Chg.refl _ _

theorem State.zrwaRelease_chg : ∀ s a1 a2, Chg 16777216 s (State.zrwaRelease s a1 a2) := by
  intro s a1 a2
  unfold State.zrwaRelease
  try dsimp only
  refine Chg.ite ?_ ?_
  · refine Chg.step (State.setZone_chg ..) ?_ (by decide)
    refine Chg.step (State.zrwaAdvance_chg ..) ?_ (by decide)
    exact Chg.refl _ _
  · exact Chg.refl _ _

theorem State.zoneFinish_chg : ∀ s a1 a2, Chg 696254464 s (State.zoneFinish s a1 a2) := by
  intro s a1 a2
  unfold State.zoneFinish
  try dsimp only
  refine Chg.step (State.zoneTo_chg ..) ?_ (by decide)
  refine Chg.step (State.trimCharge_chg ..) ?_ (by decide)
  refine Chg.step (State.setZone_chg ..) ?_ (by decide)
  refine Chg.step (State.zrwaRelease_chg ..) ?_ (by decide)
  exact Chg.refl _ _

theorem State.zoneUnpin_chg : ∀ s a1 a2 a3, Chg 67108864 s (State.zoneUnpin s a1 a2 a3) := by
  intro s a1 a2 a3
  unfold State.zoneUnpin
  try dsimp only
  refine Chg.ite ?_ ?_
  · refine Chg.forEach ?_ ?_
    · intro _ _
      refine Chg.ite ?_ ?_
      · refine Chg.step (State.pageNull_chg ..) ?_ (by decide)
        exact Chg.refl _ _
      · refine Chg.step (State.setPage_chg ..) ?_ (by decide)
        exact Chg.refl _ _
    · exact Chg.refl _ _
  · exact Chg.refl _ _

theorem State.zoneForget_chg : ∀ s a1 a2, Chg 67108864 s (State.zoneForget s a1 a2) := by
  intro s a1 a2
  unfold State.zoneForget
  try dsimp only
  refine Chg.u_map ?_ _ (by decide)
  exact Chg.refl _ _

theorem State.wbVoid_chg : ∀ s a1, Chg 268435456 s (State.wbVoid s a1) := by
  intro s a1
  unfold State.wbVoid
  try dsimp only
  refine Chg.u_wbuf ?_ _ (by decide)
  exact Chg.refl _ _

theorem State.zoneVoid_chg : ∀ s a1 a2, Chg 268435456 s (State.zoneVoid s a1 a2) := by
  intro s a1 a2
  unfold State.zoneVoid
  try dsimp only
  refine Chg.step (State.wbVoid_chg ..) ?_ (by decide)
  exact Chg.refl _ _

theorem State.zoneRewrite_chg : ∀ s a1, Chg 268435456 s (State.zoneRewrite s a1) := by
  intro s a1
  unfold State.zoneRewrite
  try dsimp only
  refine Chg.ite ?_ ?_
  · refine Chg.step (State.wbVoid_chg ..) ?_ (by decide)
    exact Chg.refl _ _
  · exact Chg.refl _ _

theorem State.zoneReset_chg : ∀ s a1 a2, Chg 1031798784 s (State.zoneReset s a1 a2) := by
  intro s a1 a2
  unfold State.zoneReset
  try dsimp only
  refine Chg.step (State.zoneJournal_chg ..) ?_ (by decide)
  refine Chg.step (State.setZone_chg ..) ?_ (by decide)
  refine Chg.step (State.zoneUnpin_chg ..) ?_ (by decide)
  refine Chg.step (State.zoneVoid_chg ..) ?_ (by decide)
  refine Chg.step (State.zoneForget_chg ..) ?_ (by decide)
  refine Chg.step (State.setCharge_chg ..) ?_ (by decide)
  exact Chg.refl _ _

theorem State.zoneClose_chg : ∀ s a1 a2, Chg 763363328 s (State.zoneClose s a1 a2) := by
  intro s a1 a2
  unfold State.zoneClose
  try dsimp only
  refine Chg.ite ?_ ?_
  · refine Chg.step (State.zoneTo_chg ..) ?_ (by decide)
    refine Chg.step (State.zoneUnpin_chg ..) ?_ (by decide)
    refine Chg.step (State.setCharge_chg ..) ?_ (by decide)
    exact Chg.refl _ _
  · refine Chg.step (State.zoneTo_chg ..) ?_ (by decide)
    exact Chg.refl _ _

theorem State.zoneReadOnly_chg : ∀ s a1 a2, Chg 998268928 s (State.zoneReadOnly s a1 a2) := by
  intro s a1 a2
  unfold State.zoneReadOnly
  try dsimp only
  refine Chg.step (State.zoneChanged_chg ..) ?_ (by decide)
  refine Chg.step (State.zoneTo_chg ..) ?_ (by decide)
  refine Chg.step (State.trimCharge_chg ..) ?_ (by decide)
  refine Chg.step (State.zrwaRelease_chg ..) ?_ (by decide)
  exact Chg.refl _ _

theorem State.zoneOffline_chg : ∀ s a1 a2, Chg 1031798784 s (State.zoneOffline s a1 a2) := by
  intro s a1 a2
  unfold State.zoneOffline
  try dsimp only
  refine Chg.step (State.zoneTo_chg ..) ?_ (by decide)
  refine Chg.step (State.zoneVoid_chg ..) ?_ (by decide)
  refine Chg.step (State.zoneForget_chg ..) ?_ (by decide)
  refine Chg.step (State.zoneUnpin_chg ..) ?_ (by decide)
  refine Chg.step (State.setCharge_chg ..) ?_ (by decide)
  exact Chg.refl _ _

theorem State.openRoom_chg : ∀ s a1 a2, Chg 763363328 s (State.openRoom s a1 a2).1 := by
  intro s a1 a2
  unfold State.openRoom
  try dsimp only
  refine Chg.fstIte ?_ ?_
  · dsimp only
    exact Chg.refl _ _
  · split
    · dsimp only
      refine Chg.step (State.zoneClose_chg ..) ?_ (by decide)
      exact Chg.refl _ _
    · dsimp only
      exact Chg.refl _ _

end Sys2Proof.Machine
end

