-- ==== Sys2Proof/Laws/ChgMediaOps.lean ====
section
/-! SUPPORT. What the operations of Machine/MediaOps.lean may change: one lemma for each. -/

set_option linter.all false

namespace Sys2Proof.Machine

theorem State.medBit_chg : ∀ s a1, Chg 16 s (State.medBit s a1) := by
  intro s a1
  unfold State.medBit
  try dsimp only
  refine Chg.u_regs ?_ _ ?_ (by decide)
  · exact Chg.refl _ _
  · exact fun w => w

theorem State.critWatch_chg : ∀ s a1, Chg 69038268416 s (State.critWatch s a1) := by
  intro s a1
  unfold State.critWatch
  try dsimp only
  refine Chg.forEach ?_ ?_
  · intro _ _
    refine Chg.ite ?_ ?_
    · refine Chg.step (State.smartEvent_chg ..) ?_ (by decide)
      refine Chg.u_mgmt ?_ _ (by decide)
      exact Chg.refl _ _
    · exact Chg.refl _ _
  · exact Chg.refl _ _

theorem State.exhaust_chg : ∀ s, Chg 69717745720 s (State.exhaust s) := by
  intro s
  unfold State.exhaust
  try dsimp only
  split
  · refine Chg.step (State.transition_chg ..) ?_ (by decide)
    refine Chg.forEach ?_ ?_
    · intro _ _
      refine Chg.step (State.zoneReadOnly_chg ..) ?_ (by decide)
      exact Chg.refl _ _
    · refine Chg.step (State.readonlySet_chg ..) ?_ (by decide)
      refine Chg.step (State.medBit_chg ..) ?_ (by decide)
      refine Chg.u_media ?_ _ (by decide)
      exact Chg.refl _ _
  · refine Chg.forEach ?_ ?_
    · intro _ _
      refine Chg.step (State.zoneReadOnly_chg ..) ?_ (by decide)
      exact Chg.refl _ _
    · refine Chg.step (State.readonlySet_chg ..) ?_ (by decide)
      refine Chg.step (State.medBit_chg ..) ?_ (by decide)
      refine Chg.u_media ?_ _ (by decide)
      exact Chg.refl _ _

theorem State.spareCheck_chg : ∀ s, Chg 69717745720 s (State.spareCheck s) := by
  intro s
  unfold State.spareCheck
  refine Chg.ite (Chg.refl _ _) ?_
  have h1 : Chg 69717745720 s (s.also s.spareWarns (fun s => s.medBit 2)) :=
    Chg.also (Chg.step (State.medBit_chg ..) (Chg.refl _ _) (by decide)) (Chg.refl _ _)
  generalize s.also s.spareWarns (fun s => s.medBit 2) = s1 at h1 ⊢
  have h2 : Chg 69717745720 s { (s1.also (s.media.lastSpare != s.availableSpare) State.telemEvent) with
      media := { s1.media with lastSpare := s.availableSpare } } :=
    Chg.u_media (Chg.also (Chg.step (State.telemEvent_chg ..) h1 (by decide)) h1) _ (by decide)
  show Chg _ s (State.also { (s1.also (s.media.lastSpare != s.availableSpare) State.telemEvent) with
      media := { s1.media with lastSpare := s.availableSpare } } _ _)
  exact Chg.also (Chg.step (State.exhaust_chg ..) h2 (by decide)) h2

theorem State.lunRetire_chg : ∀ s a1 a2, Chg 537395224 s (State.lunRetire s a1 a2) := by
  intro s a1 a2
  unfold State.lunRetire
  try dsimp only
  refine Chg.ite ?_ ?_
  · exact Chg.refl _ _
  · refine Chg.u_media ?_ _ (by decide)
    refine Chg.step (State.sustainSet_chg ..) ?_ (by decide)
    refine Chg.step (State.sustainSet_chg ..) ?_ (by decide)
    refine Chg.u_media ?_ _ (by decide)
    refine Chg.step (State.medBit_chg ..) ?_ (by decide)
    refine Chg.step (State.setLun_chg ..) ?_ (by decide)
    exact Chg.refl _ _

theorem State.blockRetire_chg : ∀ s a1 a2, Chg 1611137048 s (State.blockRetire s a1 a2) := by
  intro s a1 a2
  unfold State.blockRetire
  try dsimp only
  refine Chg.ite ?_ ?_
  · exact Chg.refl _ _
  · refine Chg.ite ?_ ?_
    · refine Chg.step (State.lunRetire_chg ..) ?_ (by decide)
      refine Chg.step (State.medBit_chg ..) ?_ (by decide)
      refine Chg.u_media ?_ _ (by decide)
      refine Chg.step (State.section__chg ..) ?_ (by decide)
      refine Chg.step (State.section__chg ..) ?_ (by decide)
      refine Chg.step (State.setSb_chg ..) ?_ (by decide)
      exact Chg.refl _ _
    · refine Chg.step (State.medBit_chg ..) ?_ (by decide)
      refine Chg.u_media ?_ _ (by decide)
      refine Chg.step (State.section__chg ..) ?_ (by decide)
      refine Chg.step (State.section__chg ..) ?_ (by decide)
      refine Chg.step (State.setSb_chg ..) ?_ (by decide)
      exact Chg.refl _ _

theorem State.sbAlloc_chg : ∀ s a1 a2 a3 a4, Chg 1610612736 s (State.sbAlloc s a1 a2 a3 a4).1 := by
  intro s a1 a2 a3 a4
  unfold State.sbAlloc
  try dsimp only
  split
  · dsimp only
    exact Chg.refl _ _
  · dsimp only
    refine Chg.step (State.section__chg ..) ?_ (by decide)
    refine Chg.step (State.setSb_chg ..) ?_ (by decide)
    exact Chg.refl _ _

theorem State.pageStart_chg : ∀ s a1 a2, Chg 536870912 s (State.pageStart s a1 a2) := by
  intro s a1 a2
  unfold State.pageStart
  try dsimp only
  split
  · exact Chg.refl _ _
  · refine Chg.ite ?_ ?_
    · exact Chg.refl _ _
    · refine Chg.u_media ?_ _ (by decide)
      refine Chg.step (State.setProg_chg ..) ?_ (by decide)
      refine Chg.step (State.setSb_chg ..) ?_ (by decide)
      exact Chg.refl _ _

theorem State.pageFull_chg : ∀ s a1 a2, Chg 536870912 s (State.pageFull s a1 a2) := by
  intro s a1 a2
  unfold State.pageFull
  try dsimp only
  split
  · refine Chg.ite ?_ ?_
    · refine Chg.step (State.pageStart_chg ..) ?_ (by decide)
      exact Chg.refl _ _
    · exact Chg.refl _ _
  · exact Chg.refl _ _

theorem State.rowPut_chg : ∀ {s a1 a2 a3} {t}, State.rowPut s a1 a2 a3 = some t → Chg 536870912 s t := by
  intro s a1 a2 a3 t h
  unfold State.rowPut at h
  extract_lets x y s1 found at h
  have h1 : Chg 536870912 s s1 := Chg.step (State.setSb_chg ..) (Chg.refl _ _) (by decide)
  clear_value s1 found y
  split at h
  · obtain rfl := Option.some.inj h
    exact Chg.step (State.pageFull_chg ..) (Chg.step (State.setSb_chg ..) h1 (by decide)) (by decide)
  · split at h
    · obtain rfl := Option.some.inj h
      exact Chg.step (State.pageFull_chg ..) (Chg.step (State.setSb_chg ..) h1 (by decide)) (by decide)
    · exact absurd h (by simp)

theorem State.slotPut_chg : ∀ {s a1 a2 a3 a4 a5} {t}, State.slotPut s a1 a2 a3 a4 a5 = some t → Chg 536870912 s t := by
  intro s a1 a2 a3 a4 a5 t h
  unfold State.slotPut at h
  obtain ⟨k, -, hk⟩ := List.exists_of_findSome?_eq_some h
  exact State.rowPut_chg hk

theorem State.slcOpen_chg : ∀ s, Chg 1610612736 s (State.slcOpen s) := by
  intro s
  unfold State.slcOpen
  try dsimp only
  refine Chg.ite ?_ ?_
  · exact Chg.refl _ _
  · refine Chg.step (State.sbAlloc_chg ..) ?_ (by decide)
    exact Chg.refl _ _

theorem State.slcPump_chg : ∀ s, Chg 1879048192 s (State.slcPump s) := by
  intro s
  unfold State.slcPump
  try dsimp only
  refine Chg.ite ?_ ?_
  · exact Chg.refl _ _
  · refine Chg.u_wbuf ?_ _ (by decide)
    refine Chg.foldlFst ?_ ?_ _
    · intro _ _
      split
      · dsimp only
        refine Chg.step (State.slotPut_chg ‹State.slotPut _ _ _ _ _ _ = _›) ?_ (by decide)
        exact Chg.refl _ _
      · dsimp only
        refine Chg.step (State.slcOpen_chg ..) ?_ (by decide)
        exact Chg.refl _ _
    · dsimp only
      exact Chg.refl _ _

theorem State.movePump_chg : ∀ s, Chg 1610612736 s (State.movePump s) := by
  intro s
  unfold State.movePump
  try dsimp only
  refine Chg.u_media ?_ _ (by decide)
  refine Chg.foldlFst ?_ ?_ _
  · intro _ _
    split
    · dsimp only
      refine Chg.step (State.slotPut_chg ‹State.slotPut _ _ _ _ _ _ = _›) ?_ (by decide)
      exact Chg.refl _ _
    · dsimp only
      refine Chg.ite ?_ ?_
      · exact Chg.refl _ _
      · refine Chg.step (State.sbAlloc_chg ..) ?_ (by decide)
        exact Chg.refl _ _
  · dsimp only
    exact Chg.refl _ _

theorem State.fdpEvent_chg : ∀ s a1, Chg 33554432 s (State.fdpEvent s a1) := by
  intro s a1
  unfold State.fdpEvent
  try dsimp only
  refine Chg.ite ?_ ?_
  · refine Chg.u_pool ?_ _ (by decide)
    exact Chg.refl _ _
  · exact Chg.refl _ _

theorem State.moveIssue_chg : ∀ s a1 a2 a3 a4 a5 a6 a7, Chg 1610612736 s (State.moveIssue s a1 a2 a3 a4 a5 a6 a7) := by
  intro s a1 a2 a3 a4 a5 a6 a7
  unfold State.moveIssue
  try dsimp only
  refine Chg.ite ?_ ?_
  · exact Chg.refl _ _
  · refine Chg.ite ?_ ?_
    · refine Chg.u_media ?_ _ (by decide)
      exact Chg.refl _ _
    · split
      · refine Chg.step (State.slotPut_chg ‹State.slotPut _ _ _ _ _ _ = _›) ?_ (by decide)
        refine Chg.step (State.seqDraw_chg ..) ?_ (by decide)
        exact Chg.refl _ _
      · refine Chg.ite ?_ ?_
        · refine Chg.u_media ?_ _ (by decide)
          refine Chg.step (State.seqDraw_chg ..) ?_ (by decide)
          exact Chg.refl _ _
        · split
          · refine Chg.u_media ?_ _ (by decide)
            refine Chg.step (Chg.fst ‹State.sbAlloc _ _ _ _ _ = _› (State.sbAlloc_chg ..)) ?_ (by decide)
            refine Chg.step (State.seqDraw_chg ..) ?_ (by decide)
            exact Chg.refl _ _
          · refine Chg.u_media ?_ _ (by decide)
            refine Chg.step (Chg.fst ‹State.sbAlloc _ _ _ _ _ = _› (State.sbAlloc_chg ..)) ?_ (by decide)
            refine Chg.step (State.seqDraw_chg ..) ?_ (by decide)
            exact Chg.refl _ _

theorem State.relocate_chg : ∀ s a1 a2 a3, Chg 1610612736 s (State.relocate s a1 a2 a3) := by
  intro s a1 a2 a3
  unfold State.relocate
  try dsimp only
  refine Chg.forEach ?_ ?_
  · intro _ _
    split
    · refine Chg.step (State.moveIssue_chg ..) ?_ (by decide)
      exact Chg.refl _ _
    · refine Chg.step (State.moveIssue_chg ..) ?_ (by decide)
      exact Chg.refl _ _
    · exact Chg.refl _ _
  · exact Chg.refl _ _

theorem State.wbFree_chg : ∀ s a1, Chg 268435456 s (State.wbFree s a1) := by
  intro s a1
  unfold State.wbFree
  try dsimp only
  refine Chg.ite ?_ ?_
  · refine Chg.u_wbuf ?_ _ (by decide)
    exact Chg.refl _ _
  · exact Chg.refl _ _

theorem State.wbSweep_chg : ∀ s, Chg 268435456 s (State.wbSweep s) := by
  intro s
  unfold State.wbSweep
  try dsimp only
  refine Chg.forEach ?_ ?_
  · intro _ _
    refine Chg.step (State.wbFree_chg ..) ?_ (by decide)
    exact Chg.refl _ _
  · exact Chg.refl _ _

theorem State.applyGroup_chg : ∀ s a1, Chg 1006632960 s (State.applyGroup s a1) := by
  intro s a1
  unfold State.applyGroup
  try dsimp only
  refine Chg.forEach ?_ ?_
  · intro _ _
    refine Chg.step (State.wbFree_chg ..) ?_ (by decide)
    exact Chg.refl _ _
  · refine Chg.step (State.journal_chg ..) ?_ (by decide)
    refine Chg.foldlFst ?_ ?_ _
    · intro _ _
      refine Chg.fstIte ?_ ?_
      · dsimp only
        refine Chg.step (State.setWblk_chg ..) ?_ (by decide)
        exact Chg.refl _ _
      · refine Chg.fstIte ?_ ?_
        · dsimp only
          refine Chg.step (State.entryPut_chg ..) ?_ (by decide)
          refine Chg.step (State.setWblk_chg ..) ?_ (by decide)
          exact Chg.refl _ _
        · dsimp only
          refine Chg.step (State.moveDropped_chg ..) ?_ (by decide)
          refine Chg.step (State.setWblk_chg ..) ?_ (by decide)
          exact Chg.refl _ _
    · dsimp only
      exact Chg.refl _ _

theorem State.movesFill_chg : ∀ s a1 a2, Chg 201326592 s (State.movesFill s a1 a2) := by
  intro s a1 a2
  unfold State.movesFill
  try dsimp only
  refine Chg.ite ?_ ?_
  · exact Chg.refl _ _
  · refine Chg.ite ?_ ?_
    · refine Chg.step (State.fillStart_chg ..) ?_ (by decide)
      refine Chg.fstIte ?_ ?_
      · dsimp only
        exact Chg.refl _ _
      · refine Chg.step (State.frameTake_chg ..) ?_ (by decide)
        exact Chg.refl _ _
    · refine Chg.fstIte ?_ ?_
      · dsimp only
        exact Chg.refl _ _
      · refine Chg.step (State.frameTake_chg ..) ?_ (by decide)
        exact Chg.refl _ _

theorem State.applyMove_chg : ∀ s a1, Chg 1006632960 s (State.applyMove s a1) := by
  intro s a1
  unfold State.applyMove
  try dsimp only
  refine Chg.ite ?_ ?_
  · refine Chg.forEach ?_ ?_
    · intro _ _
      refine Chg.ite ?_ ?_
      · refine Chg.step (State.setWblk_chg ..) ?_ (by decide)
        exact Chg.refl _ _
      · exact Chg.refl _ _
    · refine Chg.step (State.setSb_chg ..) ?_ (by decide)
      refine Chg.step (State.journal_chg ..) ?_ (by decide)
      refine Chg.step (State.entryPut_chg ..) ?_ (by decide)
      exact Chg.refl _ _
  · refine Chg.step (State.moveDropped_chg ..) ?_ (by decide)
    exact Chg.refl _ _

theorem State.movesApply_chg : ∀ s, Chg 18237039698 s (State.movesApply s) := by
  intro s
  unfold State.movesApply
  try dsimp only
  refine Chg.ite ?_ ?_
  · refine Chg.ite ?_ ?_
    · exact Chg.refl _ _
    · refine Chg.step (State.jrnWait_chg ..) ?_ (by decide)
      exact Chg.refl _ _
  · refine Chg.step (State.writebackPump_chg ..) ?_ (by decide)
    refine Chg.u_media ?_ _ (by decide)
    refine Chg.foldlFst ?_ ?_ _
    · intro _ _
      refine Chg.fstIte ?_ ?_
      · dsimp only
        refine Chg.step (State.applyMove_chg ..) ?_ (by decide)
        exact Chg.refl _ _
      · dsimp only
        refine Chg.step (State.movesFill_chg ..) ?_ (by decide)
        exact Chg.refl _ _
    · dsimp only
      refine Chg.forEach ?_ ?_
      · intro _ _
        refine Chg.ite ?_ ?_
        · refine Chg.ite ?_ ?_
          · refine Chg.ite ?_ ?_
            · refine Chg.step (State.applyGroup_chg ..) ?_ (by decide)
              exact Chg.refl _ _
            · refine Chg.forEach ?_ ?_
              · intro _ _
                refine Chg.step (State.movesFill_chg ..) ?_ (by decide)
                exact Chg.refl _ _
              · exact Chg.refl _ _
          · exact Chg.refl _ _
        · exact Chg.refl _ _
      · exact Chg.refl _ _

theorem State.sbFree_chg : ∀ s a1, Chg 1611137048 s (State.sbFree s a1) := by
  intro s a1
  unfold State.sbFree
  try dsimp only
  refine Chg.ite ?_ ?_
  · refine Chg.step (State.setSb_chg ..) ?_ (by decide)
    refine Chg.forEach ?_ ?_
    · intro _ _
      refine Chg.step (State.blockRetire_chg ..) ?_ (by decide)
      exact Chg.refl _ _
    · exact Chg.refl _ _
  · exact Chg.refl _ _

theorem State.laneClose_chg : ∀ s a1, Chg 536870912 s (State.laneClose s a1) := by
  intro s a1
  unfold State.laneClose
  try dsimp only
  refine Chg.ite ?_ ?_
  · refine Chg.step (State.setSb_chg ..) ?_ (by decide)
    exact Chg.refl _ _
  · exact Chg.refl _ _

theorem State.sbSweep_chg : ∀ s, Chg 1611137048 s (State.sbSweep s) := by
  intro s
  unfold State.sbSweep
  try dsimp only
  refine Chg.forEach ?_ ?_
  · intro _ _
    refine Chg.step (State.sbFree_chg ..) ?_ (by decide)
    exact Chg.refl _ _
  · refine Chg.forEach ?_ ?_
    · intro _ _
      refine Chg.step (State.laneClose_chg ..) ?_ (by decide)
      exact Chg.refl _ _
    · exact Chg.refl _ _

theorem State.zonePack_chg : ∀ s a1 a2 a3, Chg 553648128 s (State.zonePack s a1 a2 a3) := by
  intro s a1 a2 a3
  induction a3 generalizing s with
  | zero => exact Chg.refl _ _
  | succ n ih =>
    unfold State.zonePack
    dsimp only
    refine Chg.ite (Chg.refl _ _) ?_
    refine Chg.step (ih _) ?_ (by decide)
    refine Chg.u_media ?_ _ (by decide)
    refine Chg.step (State.setProg_chg ..) ?_ (by decide)
    refine Chg.step (State.setZone_chg ..) ?_ (by decide)
    exact Chg.refl _ _

theorem State.zonePump_chg : ∀ s a1 a2, Chg 553648128 s (State.zonePump s a1 a2) := by
  intro s a1 a2
  unfold State.zonePump
  try dsimp only
  refine Chg.ite ?_ ?_
  · exact Chg.refl _ _
  · refine Chg.ite ?_ ?_
    · refine Chg.step (State.zonePack_chg ..) ?_ (by decide)
      exact Chg.refl _ _
    · refine Chg.forEach ?_ ?_
      · intro _ _
        refine Chg.u_media ?_ _ (by decide)
        refine Chg.step (State.setProg_chg ..) ?_ (by decide)
        refine Chg.step (State.setZone_chg ..) ?_ (by decide)
        exact Chg.refl _ _
      · exact Chg.refl _ _

theorem State.parityStart_chg : ∀ s a1 a2 a3 a4, Chg 536870912 s (State.parityStart s a1 a2 a3 a4) := by
  intro s a1 a2 a3 a4
  unfold State.parityStart
  try dsimp only
  refine Chg.u_media ?_ _ (by decide)
  refine Chg.step (State.setProg_chg ..) ?_ (by decide)
  exact Chg.refl _ _

theorem State.parityDone_chg : ∀ s a1, Chg 268435456 s (State.parityDone s a1) := by
  intro s a1
  unfold State.parityDone
  try dsimp only
  refine Chg.step (State.wbSweep_chg ..) ?_ (by decide)
  refine Chg.forEach ?_ ?_
  · intro _ _
    split
    · refine Chg.ite ?_ ?_
      · refine Chg.step (State.setWblk_chg ..) ?_ (by decide)
        exact Chg.refl _ _
      · exact Chg.refl _ _
    · exact Chg.refl _ _
  · exact Chg.refl _ _

theorem State.rowEnd_chg : ∀ s a1, Chg 536870912 s (State.rowEnd s a1) := by
  intro s a1
  unfold State.rowEnd
  try dsimp only
  refine Chg.step (State.setSb_chg ..) ?_ (by decide)
  exact Chg.refl _ _

theorem State.rowCheck_chg : ∀ s a1, Chg 805306368 s (State.rowCheck s a1) := by
  intro s a1
  unfold State.rowCheck
  try dsimp only
  refine Chg.ite ?_ ?_
  · exact Chg.refl _ _
  · refine Chg.ite ?_ ?_
    · refine Chg.step (State.rowEnd_chg ..) ?_ (by decide)
      refine Chg.step (State.parityDone_chg ..) ?_ (by decide)
      refine Chg.step (State.setSb_chg ..) ?_ (by decide)
      exact Chg.refl _ _
    · refine Chg.forEach ?_ ?_
      · intro _ _
        refine Chg.step (State.parityStart_chg ..) ?_ (by decide)
        exact Chg.refl _ _
      · refine Chg.step (State.setSb_chg ..) ?_ (by decide)
        exact Chg.refl _ _

theorem State.startRecord_chg : ∀ s, Chg 1073741824 s (State.startRecord s) := by
  intro s
  unfold State.startRecord
  try dsimp only
  refine Chg.ite ?_ ?_
  · exact Chg.refl _ _
  · refine Chg.u_recov ?_ _ (by decide)
    refine Chg.step (State.section__chg ..) ?_ (by decide)
    exact Chg.refl _ _

theorem State.reissue_chg : ∀ s a1 a2 a3, Chg 805306368 s (State.reissue s a1 a2 a3) := by
  intro s a1 a2 a3
  unfold State.reissue
  try dsimp only
  refine Chg.forEach ?_ ?_
  · intro _ _
    refine Chg.ite ?_ ?_
    · refine Chg.u_wbuf ?_ _ (by decide)
      exact Chg.refl _ _
    · refine Chg.u_media ?_ _ (by decide)
      exact Chg.refl _ _
  · exact Chg.refl _ _

theorem State.relocateMember_chg : ∀ s a1 a2, Chg 1610612736 s (State.relocateMember s a1 a2) := by
  intro s a1 a2
  unfold State.relocateMember
  try dsimp only
  refine Chg.step (State.relocate_chg ..) ?_ (by decide)
  exact Chg.refl _ _

theorem State.mediaPump_chg : ∀ s, Chg 19311305818 s (State.mediaPump s) := by
  intro s
  unfold State.mediaPump
  try dsimp only
  refine Chg.ite ?_ ?_
  · refine Chg.step (State.sbSweep_chg ..) ?_ (by decide)
    refine Chg.step (State.movesApply_chg ..) ?_ (by decide)
    exact Chg.refl _ _
  · refine Chg.step (State.sbSweep_chg ..) ?_ (by decide)
    refine Chg.forEach ?_ ?_
    · intro _ _
      refine Chg.step (State.zonePump_chg ..) ?_ (by decide)
      exact Chg.refl _ _
    · refine Chg.step (State.movesApply_chg ..) ?_ (by decide)
      refine Chg.step (State.movePump_chg ..) ?_ (by decide)
      refine Chg.step (State.slcPump_chg ..) ?_ (by decide)
      exact Chg.refl _ _

theorem State.pageDone_chg : ∀ s a1 a2 a3, Chg 805306368 s (State.pageDone s a1 a2 a3) := by
  intro s a1 a2 a3
  unfold State.pageDone
  try dsimp only
  refine Chg.step (State.rowCheck_chg ..) ?_ (by decide)
  refine Chg.step (State.setSb_chg ..) ?_ (by decide)
  exact Chg.refl _ _

theorem State.copyProgrammed_chg : ∀ s a1 a2 a3, Chg 268435456 s (State.copyProgrammed s a1 a2 a3) := by
  intro s a1 a2 a3
  unfold State.copyProgrammed
  try dsimp only
  refine Chg.ite ?_ ?_
  · refine Chg.step (State.setWblk_chg ..) ?_ (by decide)
    exact Chg.refl _ _
  · exact Chg.refl _ _

theorem State.rowProgram_chg : ∀ s a1 a2, Chg 1879572504 s (State.rowProgram s a1 a2) := by
  intro s a1 a2
  unfold State.rowProgram
  try dsimp only
  refine Chg.ite ?_ ?_
  · refine Chg.step (State.pageDone_chg ..) ?_ (by decide)
    refine Chg.forEach ?_ ?_
    · intro _ _
      refine Chg.ite ?_ ?_
      · refine Chg.step (State.copyProgrammed_chg ..) ?_ (by decide)
        exact Chg.refl _ _
      · refine Chg.u_media ?_ _ (by decide)
        exact Chg.refl _ _
    · exact Chg.refl _ _
  · refine Chg.step (State.relocateMember_chg ..) ?_ (by decide)
    refine Chg.step (State.pageDone_chg ..) ?_ (by decide)
    refine Chg.step (State.reissue_chg ..) ?_ (by decide)
    refine Chg.step (State.blockRetire_chg ..) ?_ (by decide)
    exact Chg.refl _ _

theorem State.parityProgram_chg : ∀ s a1 a2, Chg 1879572504 s (State.parityProgram s a1 a2) := by
  intro s a1 a2
  unfold State.parityProgram
  try dsimp only
  refine Chg.ite ?_ ?_
  · refine Chg.ite ?_ ?_
    · refine Chg.step (State.parityDone_chg ..) ?_ (by decide)
      exact Chg.refl _ _
    · refine Chg.step (State.setSb_chg ..) ?_ (by decide)
      exact Chg.refl _ _
  · refine Chg.ite ?_ ?_
    · refine Chg.ite ?_ ?_
      · refine Chg.ite ?_ ?_
        · refine Chg.step (State.rowEnd_chg ..) ?_ (by decide)
          refine Chg.step (State.parityDone_chg ..) ?_ (by decide)
          refine Chg.step (State.setSb_chg ..) ?_ (by decide)
          exact Chg.refl _ _
        · refine Chg.step (State.parityDone_chg ..) ?_ (by decide)
          refine Chg.step (State.setSb_chg ..) ?_ (by decide)
          exact Chg.refl _ _
      · refine Chg.step (State.setSb_chg ..) ?_ (by decide)
        exact Chg.refl _ _
    · refine Chg.ite ?_ ?_
      · refine Chg.step (State.rowEnd_chg ..) ?_ (by decide)
        refine Chg.forEach ?_ ?_
        · intro _ _
          refine Chg.ite ?_ ?_
          · refine Chg.u_wbuf ?_ _ (by decide)
            refine Chg.step (State.setWblk_chg ..) ?_ (by decide)
            exact Chg.refl _ _
          · refine Chg.ite ?_ ?_
            · refine Chg.step (State.reissue_chg ..) ?_ (by decide)
              refine Chg.u_media ?_ _ (by decide)
              exact Chg.refl _ _
            · refine Chg.ite ?_ ?_
              · refine Chg.step (State.moveIssue_chg ..) ?_ (by decide)
                exact Chg.refl _ _
              · exact Chg.refl _ _
        · refine Chg.u_media ?_ _ (by decide)
          refine Chg.step (State.blockRetire_chg ..) ?_ (by decide)
          refine Chg.step (State.setSb_chg ..) ?_ (by decide)
          exact Chg.refl _ _
      · refine Chg.forEach ?_ ?_
        · intro _ _
          refine Chg.ite ?_ ?_
          · refine Chg.u_wbuf ?_ _ (by decide)
            refine Chg.step (State.setWblk_chg ..) ?_ (by decide)
            exact Chg.refl _ _
          · refine Chg.ite ?_ ?_
            · refine Chg.step (State.reissue_chg ..) ?_ (by decide)
              refine Chg.u_media ?_ _ (by decide)
              exact Chg.refl _ _
            · refine Chg.ite ?_ ?_
              · refine Chg.step (State.moveIssue_chg ..) ?_ (by decide)
                exact Chg.refl _ _
              · exact Chg.refl _ _
        · refine Chg.u_media ?_ _ (by decide)
          refine Chg.step (State.blockRetire_chg ..) ?_ (by decide)
          refine Chg.step (State.setSb_chg ..) ?_ (by decide)
          exact Chg.refl _ _

theorem State.zoneProgram_chg : ∀ s a1 a2, Chg 2030567448 s (State.zoneProgram s a1 a2) := by
  intro s a1 a2
  unfold State.zoneProgram
  try dsimp only
  split
  · exact Chg.refl _ _
  · refine Chg.ite ?_ ?_
    · refine Chg.ite ?_ ?_
      · refine Chg.forEach ?_ ?_
        · intro _ _
          refine Chg.step (State.parityStart_chg ..) ?_ (by decide)
          exact Chg.refl _ _
        · refine Chg.step (State.setSb_chg ..) ?_ (by decide)
          refine Chg.ite ?_ ?_
          · refine Chg.step (State.zoneJournal_chg ..) ?_ (by decide)
            refine Chg.step (State.setZone_chg ..) ?_ (by decide)
            refine Chg.ite ?_ ?_
            · refine Chg.step (State.setSb_chg ..) ?_ (by decide)
              refine Chg.forEach ?_ ?_
              · intro _ _
                refine Chg.step (State.copyProgrammed_chg ..) ?_ (by decide)
                exact Chg.refl _ _
              · exact Chg.refl _ _
            · refine Chg.forEach ?_ ?_
              · intro _ _
                refine Chg.step (State.copyProgrammed_chg ..) ?_ (by decide)
                exact Chg.refl _ _
              · exact Chg.refl _ _
          · refine Chg.ite ?_ ?_
            · refine Chg.step (State.setSb_chg ..) ?_ (by decide)
              refine Chg.forEach ?_ ?_
              · intro _ _
                refine Chg.step (State.copyProgrammed_chg ..) ?_ (by decide)
                exact Chg.refl _ _
              · exact Chg.refl _ _
            · refine Chg.forEach ?_ ?_
              · intro _ _
                refine Chg.step (State.copyProgrammed_chg ..) ?_ (by decide)
                exact Chg.refl _ _
              · exact Chg.refl _ _
      · refine Chg.step (State.setSb_chg ..) ?_ (by decide)
        refine Chg.ite ?_ ?_
        · refine Chg.step (State.zoneJournal_chg ..) ?_ (by decide)
          refine Chg.step (State.setZone_chg ..) ?_ (by decide)
          refine Chg.ite ?_ ?_
          · refine Chg.step (State.setSb_chg ..) ?_ (by decide)
            refine Chg.forEach ?_ ?_
            · intro _ _
              refine Chg.step (State.copyProgrammed_chg ..) ?_ (by decide)
              exact Chg.refl _ _
            · exact Chg.refl _ _
          · refine Chg.forEach ?_ ?_
            · intro _ _
              refine Chg.step (State.copyProgrammed_chg ..) ?_ (by decide)
              exact Chg.refl _ _
            · exact Chg.refl _ _
        · refine Chg.ite ?_ ?_
          · refine Chg.step (State.setSb_chg ..) ?_ (by decide)
            refine Chg.forEach ?_ ?_
            · intro _ _
              refine Chg.step (State.copyProgrammed_chg ..) ?_ (by decide)
              exact Chg.refl _ _
            · exact Chg.refl _ _
          · refine Chg.forEach ?_ ?_
            · intro _ _
              refine Chg.step (State.copyProgrammed_chg ..) ?_ (by decide)
              exact Chg.refl _ _
            · exact Chg.refl _ _
    · refine Chg.step (State.setZone_chg ..) ?_ (by decide)
      refine Chg.step (State.blockRetire_chg ..) ?_ (by decide)
      exact Chg.refl _ _

theorem State.parityWatch_chg : ∀ s, Chg 536870912 s (State.parityWatch s) := by
  intro s
  unfold State.parityWatch
  try dsimp only
  refine Chg.ite ?_ ?_
  · refine Chg.u_media ?_ _ (by decide)
    exact Chg.refl _ _
  · exact Chg.refl _ _

theorem State.programAgain_chg : ∀ s a1, Chg 19311305818 s (State.programAgain s a1) := by
  intro s a1
  unfold State.programAgain
  try dsimp only
  refine Chg.step (State.mediaPump_chg ..) ?_ (by decide)
  split
  · refine Chg.step (State.parityStart_chg ..) ?_ (by decide)
    refine Chg.u_media ?_ _ (by decide)
    exact Chg.refl _ _
  · split
    · refine Chg.u_media ?_ _ (by decide)
      exact Chg.refl _ _
    · refine Chg.step (State.setZone_chg ..) ?_ (by decide)
      refine Chg.u_media ?_ _ (by decide)
      exact Chg.refl _ _
  · refine Chg.step (State.pageDone_chg ..) ?_ (by decide)
    refine Chg.step (State.reissue_chg ..) ?_ (by decide)
    refine Chg.u_media ?_ _ (by decide)
    exact Chg.refl _ _

theorem State.programEnd_chg : ∀ s a1 a2, Chg 88039187578 s (State.programEnd s a1 a2) := by
  intro s a1 a2
  unfold State.programEnd
  try dsimp only
  refine Chg.step (State.critWatch_chg ..) ?_ (by decide)
  refine Chg.step (State.spareCheck_chg ..) ?_ (by decide)
  refine Chg.step (State.parityWatch_chg ..) ?_ (by decide)
  refine Chg.step (State.mediaPump_chg ..) ?_ (by decide)
  split
  · refine Chg.step (State.parityProgram_chg ..) ?_ (by decide)
    refine Chg.step (State.startRecord_chg ..) ?_ (by decide)
    refine Chg.u_media ?_ _ (by decide)
    exact Chg.refl _ _
  · refine Chg.step (State.zoneProgram_chg ..) ?_ (by decide)
    refine Chg.step (State.startRecord_chg ..) ?_ (by decide)
    refine Chg.u_media ?_ _ (by decide)
    exact Chg.refl _ _
  · refine Chg.step (State.rowProgram_chg ..) ?_ (by decide)
    refine Chg.step (State.startRecord_chg ..) ?_ (by decide)
    refine Chg.u_media ?_ _ (by decide)
    exact Chg.refl _ _

theorem State.drain_chg : ∀ s, Chg 671088640 s (State.drain s) := by
  intro s
  unfold State.drain
  try dsimp only
  refine Chg.step (State.closeTail_chg ..) ?_ (by decide)
  refine Chg.forEach ?_ ?_
  · intro _ _
    refine Chg.forEach ?_ ?_
    · intro _ _
      refine Chg.step (State.pageStart_chg ..) ?_ (by decide)
      exact Chg.refl _ _
    · exact Chg.refl _ _
  · exact Chg.refl _ _

end Sys2Proof.Machine
end

