-- ==== Sys2Proof/Laws/ChgChipOps.lean ====
section
/-! SUPPORT. What the operations of Machine/ChipOps.lean may change: one lemma for each. -/

set_option linter.all false

namespace Sys2Proof.Machine

theorem State.macroWithdraw_chg : ∀ s a1, Chg 17179869184 s (State.macroWithdraw s a1) := by
  intro s a1
  unfold State.macroWithdraw
  try dsimp only
  refine Chg.ite ?_ ?_
  · refine Chg.u_chip ?_ _ (by decide)
    exact Chg.refl _ _
  · refine Chg.ite ?_ ?_
    · split
      · refine Chg.u_chip ?_ _ (by decide)
        exact Chg.refl _ _
      · exact Chg.refl _ _
    · refine Chg.ite ?_ ?_
      · refine Chg.u_chip ?_ _ (by decide)
        exact Chg.refl _ _
      · exact Chg.refl _ _

theorem State.elementFail_chg : ∀ s a1 a2, Chg 17179870208 s (State.elementFail s a1 a2) := by
  intro s a1 a2
  unfold State.elementFail
  try dsimp only
  refine Chg.ite ?_ ?_
  · exact Chg.refl _ _
  · refine Chg.ite ?_ ?_
    · refine Chg.step (State.macroWithdraw_chg ..) ?_ (by decide)
      refine Chg.ite ?_ ?_
      · refine Chg.step (State.append_chg ..) ?_ (by decide)
        refine Chg.u_chip ?_ _ (by decide)
        exact Chg.refl _ _
      · refine Chg.u_chip ?_ _ (by decide)
        exact Chg.refl _ _
    · refine Chg.ite ?_ ?_
      · refine Chg.step (State.append_chg ..) ?_ (by decide)
        refine Chg.u_chip ?_ _ (by decide)
        exact Chg.refl _ _
      · refine Chg.u_chip ?_ _ (by decide)
        exact Chg.refl _ _

theorem State.chipStart_chg : ∀ s, Chg 223661269178 s (State.chipStart s) := by
  intro s
  unfold State.chipStart
  try dsimp only
  refine Chg.forEach ?_ ?_
  · intro _ _
    refine Chg.ite ?_ ?_
    · refine Chg.ite ?_ ?_
      · exact Chg.refl _ _
      · refine Chg.step (State.engineFail_chg ..) ?_ (by decide)
        exact Chg.refl _ _
    · refine Chg.step (State.macroWithdraw_chg ..) ?_ (by decide)
      exact Chg.refl _ _
  · refine Chg.u_chip ?_ _ (by decide)
    exact Chg.refl _ _

end Sys2Proof.Machine
end

