-- ==== Sys2Proof/Laws/ChgRecovOps.lean ====
section
/-! SUPPORT. What the operations of Machine/RecovOps.lean may change: one lemma for each. -/

set_option linter.all false

namespace Sys2Proof.Machine

theorem State.pageDurable_chg : ∀ s, Chg 134217728 s (State.pageDurable s) := by
  intro s
  unfold State.pageDurable
  try dsimp only
  split
  · exact Chg.refl _ _
  · refine Chg.u_jrn ?_ _ (by decide)
    exact Chg.refl _ _

theorem State.allDurable_chg : ∀ s, Chg 134217728 s (State.allDurable s) := by
  intro s
  unfold State.allDurable
  try dsimp only
  refine Chg.forEach ?_ ?_
  · intro _ _
    refine Chg.step (State.pageDurable_chg ..) ?_ (by decide)
    exact Chg.refl _ _
  · refine Chg.step (State.closeTail_chg ..) ?_ (by decide)
    exact Chg.refl _ _

theorem State.stopRecord_chg : ∀ s a1, Chg 1610612736 s (State.stopRecord s a1) := by
  intro s a1
  unfold State.stopRecord
  try dsimp only
  refine Chg.u_media_recov ?_ _ _ (by decide)
  refine Chg.step (State.section__chg ..) ?_ (by decide)
  exact Chg.refl _ _

theorem State.reserveFill_chg : ∀ s a1, Chg 1610612736 s (State.reserveFill s a1) := by
  intro s a1
  induction a1 generalizing s with
  | zero => exact Chg.refl _ _
  | succ n ih =>
    unfold State.reserveFill
    refine Chg.ite (Chg.refl _ _) ?_
    split
    · exact Chg.step (ih _) (Chg.step (Chg.fst ‹State.sbAlloc _ _ _ _ _ = _› (State.sbAlloc_chg ..)) (Chg.refl _ _) (by decide)) (by decide)
    · exact Chg.step (Chg.fst ‹State.sbAlloc _ _ _ _ _ = _› (State.sbAlloc_chg ..)) (Chg.refl _ _) (by decide)

theorem State.reserveRow_chg : ∀ s a1, Chg 805306368 s (State.reserveRow s a1) := by
  intro s a1
  unfold State.reserveRow
  try dsimp only
  refine Chg.step (State.rowEnd_chg ..) ?_ (by decide)
  refine Chg.u_media ?_ _ (by decide)
  refine Chg.forEach ?_ ?_
  · intro _ _
    refine Chg.step (State.setWblk_chg ..) ?_ (by decide)
    exact Chg.refl _ _
  · exact Chg.refl _ _

theorem State.reserveRows_chg : ∀ s, Chg 805306368 s (State.reserveRows s) := by
  intro s
  unfold State.reserveRows
  try dsimp only
  refine Chg.forEach ?_ ?_
  · intro _ _
    refine Chg.step (State.reserveRow_chg ..) ?_ (by decide)
    exact Chg.refl _ _
  · exact Chg.refl _ _

theorem State.flushBlock_chg : ∀ s a1, Chg 805306368 s (State.flushBlock s a1) := by
  intro s a1
  unfold State.flushBlock
  try dsimp only
  split
  · refine Chg.step (State.slotPut_chg ‹State.slotPut _ _ _ _ _ _ = _›) ?_ (by decide)
    exact Chg.refl _ _
  · split
    · refine Chg.step (State.slotPut_chg ‹State.slotPut _ _ _ _ _ _ = _›) ?_ (by decide)
      refine Chg.step (State.reserveRows_chg ..) ?_ (by decide)
      exact Chg.refl _ _
    · refine Chg.step (State.reserveRows_chg ..) ?_ (by decide)
      exact Chg.refl _ _

theorem State.flushRecord_chg : ∀ s a1, Chg 738197504 s (State.flushRecord s a1) := by
  intro s a1
  unfold State.flushRecord
  try dsimp only
  split
  · exact Chg.refl _ _
  · refine Chg.ite ?_ ?_
    · exact Chg.refl _ _
    · refine Chg.ite ?_ ?_
      · refine Chg.step (State.journal_chg ..) ?_ (by decide)
        refine Chg.step (State.entryPut_chg ..) ?_ (by decide)
        exact Chg.refl _ _
      · exact Chg.refl _ _

theorem State.flushPrograms_chg : ∀ s, Chg 2105540608 s (State.flushPrograms s) := by
  intro s
  unfold State.flushPrograms
  try dsimp only
  refine Chg.step (State.stopRecord_chg ..) ?_ (by decide)
  refine Chg.step (State.allDurable_chg ..) ?_ (by decide)
  refine Chg.forEach ?_ ?_
  · intro _ _
    refine Chg.ite ?_ ?_
    · exact Chg.refl _ _
    · refine Chg.step (State.zoneJournal_chg ..) ?_ (by decide)
      exact Chg.refl _ _
  · refine Chg.forEach ?_ ?_
    · intro _ _
      refine Chg.u_recov ?_ _ (by decide)
      refine Chg.step (State.staleRun_chg ..) ?_ (by decide)
      exact Chg.refl _ _
    · refine Chg.forEach ?_ ?_
      · intro _ _
        refine Chg.step (State.flushRecord_chg ..) ?_ (by decide)
        exact Chg.refl _ _
      · refine Chg.step (State.reserveRows_chg ..) ?_ (by decide)
        refine Chg.forEach ?_ ?_
        · intro _ _
          refine Chg.step (State.flushBlock_chg ..) ?_ (by decide)
          exact Chg.refl _ _
        · exact Chg.refl _ _

theorem State.drainZones_chg : ∀ s a1, Chg 1006632960 s (State.drainZones s a1) := by
  intro s a1
  unfold State.drainZones
  try dsimp only
  refine Chg.ite ?_ ?_
  · refine Chg.forEach ?_ ?_
    · intro _ _
      refine Chg.step (State.setWblk_chg ..) ?_ (by decide)
      exact Chg.refl _ _
    · exact Chg.refl _ _
  · refine Chg.forEach ?_ ?_
    · intro _ _
      refine Chg.step (State.flushRecord_chg ..) ?_ (by decide)
      exact Chg.refl _ _
    · refine Chg.step (State.reserveRows_chg ..) ?_ (by decide)
      refine Chg.forEach ?_ ?_
      · intro _ _
        refine Chg.step (State.flushBlock_chg ..) ?_ (by decide)
        exact Chg.refl _ _
      · refine Chg.forEach ?_ ?_
        · intro _ _
          refine Chg.step (State.setWblk_chg ..) ?_ (by decide)
          exact Chg.refl _ _
        · exact Chg.refl _ _

theorem State.recoverPages_chg : ∀ s a1 a2, Chg 67108864 s (State.recoverPages s a1 a2) := by
  intro s a1 a2
  unfold State.recoverPages
  try dsimp only
  refine Chg.forEach ?_ ?_
  · intro _ _
    refine Chg.step (State.setPage_chg ..) ?_ (by decide)
    exact Chg.refl _ _
  · refine Chg.u_map ?_ _ (by decide)
    exact Chg.refl _ _

theorem State.recoverZones_chg : ∀ s a1 a2, Chg 16777216 s (State.recoverZones s a1 a2) := by
  intro s a1 a2
  unfold State.recoverZones
  try dsimp only
  refine Chg.forEach ?_ ?_
  · intro _ _
    refine Chg.ite ?_ ?_
    · exact Chg.refl _ _
    · refine Chg.step (State.setZone_chg ..) ?_ (by decide)
      exact Chg.refl _ _
  · refine Chg.u_zones ?_ _ (by decide)
    exact Chg.refl _ _

theorem State.recoverSbs_chg : ∀ s a1, Chg 536870912 s (State.recoverSbs s a1) := by
  intro s a1
  unfold State.recoverSbs
  try dsimp only
  refine Chg.ite ?_ ?_
  · refine Chg.forEach ?_ ?_
    · intro _ _
      refine Chg.step (State.setSb_chg ..) ?_ (by decide)
      exact Chg.refl _ _
    · refine Chg.forEach ?_ ?_
      · intro _ _
        refine Chg.step (State.validAdd_chg ..) ?_ (by decide)
        exact Chg.refl _ _
      · refine Chg.u_media ?_ _ (by decide)
        exact Chg.refl _ _
  · refine Chg.forEach ?_ ?_
    · intro _ _
      refine Chg.step (State.validAdd_chg ..) ?_ (by decide)
      exact Chg.refl _ _
    · refine Chg.u_media ?_ _ (by decide)
      exact Chg.refl _ _

theorem State.recoverUse_chg : ∀ s a1, Chg 8388608 s (State.recoverUse s a1) := by
  intro s a1
  unfold State.recoverUse
  try dsimp only
  refine Chg.step (State.setNs_chg ..) ?_ (by decide)
  exact Chg.refl _ _

theorem State.recoverNothing_chg : ∀ s, Chg 763363328 s (State.recoverNothing s) := by
  intro s
  unfold State.recoverNothing
  try dsimp only
  refine Chg.step (State.recoverSbs_chg ..) ?_ (by decide)
  refine Chg.forEach ?_ ?_
  · intro _ _
    refine Chg.step (State.recoverUse_chg ..) ?_ (by decide)
    exact Chg.refl _ _
  · refine Chg.u_zones_map_jrn ?_ _ _ _ (by decide)
    exact Chg.refl _ _

theorem State.recoverMap_chg : ∀ s a1, Chg 1837105152 s (State.recoverMap s a1) := by
  intro s a1
  unfold State.recoverMap
  try dsimp only
  refine Chg.forEach ?_ ?_
  · intro _ _
    refine Chg.step (State.recoverUse_chg ..) ?_ (by decide)
    exact Chg.refl _ _
  · refine Chg.step (State.recoverSbs_chg ..) ?_ (by decide)
    refine Chg.ite ?_ ?_
    · refine Chg.u_map_jrn ?_ _ _ (by decide)
      refine Chg.step (State.recoverPages_chg ..) ?_ (by decide)
      refine Chg.step (State.recoverZones_chg ..) ?_ (by decide)
      refine Chg.u_map_jrn_recov ?_ _ _ _ (by decide)
      exact Chg.refl _ _
    · refine Chg.step (State.recoverPages_chg ..) ?_ (by decide)
      refine Chg.step (State.recoverZones_chg ..) ?_ (by decide)
      refine Chg.u_map_jrn_recov ?_ _ _ _ (by decide)
      exact Chg.refl _ _

theorem State.scanEvent_chg : ∀ s a1, Chg 32 s (State.scanEvent s a1) := by
  intro s a1
  unfold State.scanEvent
  try dsimp only
  refine Chg.ite ?_ ?_
  · refine Chg.step (State.rasRecord_chg ..) ?_ (by decide)
    exact Chg.refl _ _
  · exact Chg.refl _ _

theorem State.indexFill_chg : ∀ s, Chg 67108864 s (State.indexFill s) := by
  intro s
  unfold State.indexFill
  try dsimp only
  refine Chg.forEach ?_ ?_
  · intro _ _
    refine Chg.ite ?_ ?_
    · exact Chg.refl _ _
    · refine Chg.step (State.fillStart_chg ..) ?_ (by decide)
      exact Chg.refl _ _
  · exact Chg.refl _ _

end Sys2Proof.Machine
end

