-- ==== Sys2Proof/Laws/ChgLifeOps.lean ====
section
/-! SUPPORT. What the operations of Machine/LifeOps.lean may change: one lemma for each. -/

set_option linter.all false

namespace Sys2Proof.Machine

/-- A change of every port that keeps each memory's form. -/
theorem cmbWf_map {l : Tbl Port} {f : Port → Port} (p : Nat) (hf : ∀ x, Mem.wf x.cmb = true → Mem.wf (f x).cmb = true)
    (w : Mem.wf (Tbl.get {} l p).cmb = true) :
    Mem.wf (Tbl.get {} (l.map (fun x => (x.1, f x.2))) p).cmb = true := by
  induction l with
  | nil => rfl
  | cons x l ih =>
    by_cases h : x.1 = p
    · simp only [Tbl.get, h, if_true] at w
      simpa only [List.map_cons, Tbl.get, h, if_true] using hf _ w
    · simp only [Tbl.get, h, if_false] at w
      simpa only [List.map_cons, Tbl.get, h, if_false] using ih w

theorem cmbWf_all {l : Tbl Port} (p : Nat) (w : ∀ x ∈ l, Mem.wf x.2.cmb = true) : Mem.wf (Tbl.get {} l p).cmb = true := by
  induction l with
  | nil => rfl
  | cons x l ih =>
    by_cases h : x.1 = p
    · simpa only [Tbl.get, h, if_true] using w x (by simp)
    · simpa only [Tbl.get, h, if_false] using ih (fun y hy => w y (List.mem_cons_of_mem _ hy))
theorem State.lcsBit_chg : ∀ s a1, Chg 16 s (State.lcsBit s a1) := by
  intro s a1
  unfold State.lcsBit
  try dsimp only
  refine Chg.u_regs ?_ _ ?_ (by decide)
  · exact Chg.refl _ _
  · exact fun w => w

theorem State.pwrBit_chg : ∀ s a1, Chg 16 s (State.pwrBit s a1) := by
  intro s a1
  unfold State.pwrBit
  try dsimp only
  refine Chg.u_regs ?_ _ ?_ (by decide)
  · exact Chg.refl _ _
  · exact fun w => w

theorem State.volatileClear_chg : ∀ s, Chg 106007134328 s (State.volatileClear s) := by
  intro s
  unfold State.volatileClear
  refine Chg.u_all14 ?_ _ _ _ _ _ _ _ _ _ _ _ _ _ _ ?_ ?_ (by decide)
  · exact Chg.refl _ _
  · exact fun _ => rfl
  · exact fun w p => cmbWf_map (f := Port.volatile) p (fun _ h => h) (w p)

theorem State.appendFinish_chg : ∀ s, Chg 1024 s (State.appendFinish s) := by
  intro s
  unfold State.appendFinish
  try dsimp only
  split
  · exact Chg.refl _ _
  · refine Chg.u_dict ?_ _ (by decide)
    refine Chg.step (State.logDurable_chg ..) ?_ (by decide)
    exact Chg.refl _ _

theorem State.appendTear_chg : ∀ s, Chg 1024 s (State.appendTear s) := by
  intro s
  unfold State.appendTear
  try dsimp only
  split
  · exact Chg.refl _ _
  · refine Chg.u_dict ?_ _ (by decide)
    refine Chg.step (State.setActiveCopy_chg ..) ?_ (by decide)
    exact Chg.refl _ _

theorem State.fastOff_chg : ∀ s, Chg 153385664460 s (State.fastOff s) := by
  intro s
  unfold State.fastOff
  dsimp only
  refine Chg.u_all26 ?_ _ _ _ _ _ _ _ _ _ _ _ _ _ _ _ _ _ _ _ _ _ _ _ _ _ _ ?_ ?_ (by decide)
  · exact Chg.refl _ _
  · exact List.prefix_rfl
  · intro _ p
    refine cmbWf_all p (fun x hx => ?_)
    obtain ⟨y, -, rfl⟩ := List.mem_map.mp (List.mem_of_mem_filter hx)
    rfl

theorem State.enterDormant_chg : ∀ s a1, Chg 222105141244 s (State.enterDormant s a1) := by
  intro s a1
  unfold State.enterDormant
  try dsimp only
  refine Chg.step (State.fastOff_chg ..) ?_ (by decide)
  refine Chg.step (State.vdmDown_chg ..) ?_ (by decide)
  refine Chg.step (State.vdmDown_chg ..) ?_ (by decide)
  refine Chg.step (State.transition_chg ..) ?_ (by decide)
  refine Chg.step (State.appendTear_chg ..) ?_ (by decide)
  exact Chg.refl _ _

theorem State.storeLoad_chg : ∀ s, Chg 1032 s (State.storeLoad s) := by
  intro s
  unfold State.storeLoad
  try dsimp only
  refine Chg.ite ?_ ?_
  · refine Chg.u_dict ?_ _ (by decide)
    refine Chg.step (State.setActiveCopy_chg ..) ?_ (by decide)
    exact Chg.refl _ _
  · refine Chg.ite ?_ ?_
    · refine Chg.u_dict ?_ _ (by decide)
      exact Chg.refl _ _
    · refine Chg.ite ?_ ?_
      · refine Chg.u_mode_dict ?_ _ _ (by decide)
        exact Chg.refl _ _
      · refine Chg.u_dict ?_ _ (by decide)
        exact Chg.refl _ _

theorem State.dramStart_chg : ∀ s, Chg 12884901896 s (State.dramStart s) := by
  intro s
  unfold State.dramStart
  try dsimp only
  refine Chg.ite ?_ ?_
  · refine Chg.forEach ?_ ?_
    · intro _ _
      refine Chg.step (State.setDram_chg ..) ?_ (by decide)
      exact Chg.refl _ _
    · refine Chg.u_drams_ranks ?_ _ _ (by decide)
      exact Chg.refl _ _
  · refine Chg.u_mode_drams_ranks ?_ _ _ _ (by decide)
    exact Chg.refl _ _

theorem State.chanStart_chg : ∀ s, Chg 1048584 s (State.chanStart s) := by
  intro s
  unfold State.chanStart
  try dsimp only
  refine Chg.ite ?_ ?_
  · refine Chg.forEach ?_ ?_
    · intro _ _
      refine Chg.ite ?_ ?_
      · refine Chg.step (State.setChan_chg ..) ?_ (by decide)
        exact Chg.refl _ _
      · exact Chg.refl _ _
    · exact Chg.refl _ _
  · refine Chg.u_mode ?_ _ (by decide)
    exact Chg.refl _ _

theorem State.sliceStart_chg : ∀ s, Chg 18035769186 s (State.sliceStart s) := by
  intro s
  unfold State.sliceStart
  try dsimp only
  refine Chg.forEach ?_ ?_
  · intro _ _
    refine Chg.step (State.setSlice_chg ..) ?_ (by decide)
    refine Chg.step (State.resetBody_chg ..) ?_ (by decide)
    exact Chg.refl _ _
  · refine Chg.u_slices ?_ _ (by decide)
    refine Chg.forEach ?_ ?_
    · intro _ _
      refine Chg.step (State.recordClear_chg ..) ?_ (by decide)
      exact Chg.refl _ _
    · exact Chg.refl _ _

theorem State.portStart_chg : ∀ s, Chg 68 s (State.portStart s) := by
  intro s
  unfold State.portStart
  dsimp only
  refine Chg.u_aon_ports ?_ _ _ ?_ (by decide)
  · exact Chg.refl _ _
  · exact fun w p => cmbWf_map (f := fun x => { x with failed := false, parityErrors := [], loopbackFails := 0 }) p (fun _ h => h) (w p)

theorem State.sustainStart_chg : ∀ s, Chg 8 s (State.sustainStart s) := by
  intro s
  unfold State.sustainStart
  try dsimp only
  refine Chg.step (State.sustainClear_chg ..) ?_ (by decide)
  refine Chg.step (State.sustainClear_chg ..) ?_ (by decide)
  refine Chg.ite ?_ ?_
  · refine Chg.step (State.sustainClear_chg ..) ?_ (by decide)
    refine Chg.ite ?_ ?_
    · exact Chg.refl _ _
    · refine Chg.step (State.sustainClear_chg ..) ?_ (by decide)
      exact Chg.refl _ _
  · refine Chg.ite ?_ ?_
    · exact Chg.refl _ _
    · refine Chg.step (State.sustainClear_chg ..) ?_ (by decide)
      exact Chg.refl _ _

theorem State.strapStart_chg : ∀ s, Chg 36 s (State.strapStart s) := by
  intro s
  unfold State.strapStart
  try dsimp only
  refine Chg.ite ?_ ?_
  · refine Chg.step (State.rasRecord_chg ..) ?_ (by decide)
    refine Chg.u_aon ?_ _ (by decide)
    exact Chg.refl _ _
  · refine Chg.u_aon ?_ _ (by decide)
    exact Chg.refl _ _

theorem State.bringUpBegin_chg : ∀ s a1 a2, Chg 273804165118 s (State.bringUpBegin s a1 a2) := by
  intro s a1 a2
  unfold State.bringUpBegin
  try dsimp only
  refine Chg.ite ?_ ?_
  · exact Chg.refl _ _
  · split
    · refine Chg.u_mode ?_ _ (by decide)
      exact Chg.refl _ _
    · refine Chg.step (State.chanStart_chg ..) ?_ (by decide)
      refine Chg.step (State.dramStart_chg ..) ?_ (by decide)
      refine Chg.step (State.chipStart_chg ..) ?_ (by decide)
      refine Chg.step (State.sustainStart_chg ..) ?_ (by decide)
      refine Chg.step (State.sliceStart_chg ..) ?_ (by decide)
      refine Chg.step (State.portStart_chg ..) ?_ (by decide)
      refine Chg.step (State.storeLoad_chg ..) ?_ (by decide)
      refine Chg.u_mode_sec ?_ _ _ ?_ (by decide)
      · refine Chg.step (State.transition_chg ..) ?_ (by decide)
        refine Chg.step (State.strapStart_chg ..) ?_ (by decide)
        refine Chg.step (State.volatileClear_chg ..) ?_ (by decide)
        refine Chg.ite ?_ ?_
        · exact Chg.refl _ _
        · refine Chg.step (State.fastOff_chg ..) ?_ (by decide)
          exact Chg.refl _ _
      · exact List.prefix_rfl

theorem State.tryStart_chg : ∀ s a1, Chg 273804165118 s (State.tryStart s a1) := by
  intro s a1
  unfold State.tryStart
  try dsimp only
  refine Chg.ite ?_ ?_
  · refine Chg.step (State.bringUpBegin_chg ..) ?_ (by decide)
    exact Chg.refl _ _
  · exact Chg.refl _ _

theorem State.targetUnused_chg : ∀ s a1, Chg 524288 s (State.targetUnused s a1) := by
  intro s a1
  unfold State.targetUnused
  try dsimp only
  refine Chg.forEach ?_ ?_
  · intro _ _
    refine Chg.step (State.setLun_chg ..) ?_ (by decide)
    exact Chg.refl _ _
  · exact Chg.refl _ _

theorem State.readyAll_chg : ∀ s, Chg 128 s (State.readyAll s) := by
  intro s
  unfold State.readyAll
  try dsimp only
  refine Chg.forEach ?_ ?_
  · intro _ _
    refine Chg.ite ?_ ?_
    · refine Chg.step (State.setFunc_chg ..) ?_ (by decide)
      exact Chg.refl _ _
    · exact Chg.refl _ _
  · exact Chg.refl _ _

theorem State.unitsCut_chg : ∀ s, Chg 33554432 s (State.unitsCut s) := by
  intro s
  unfold State.unitsCut
  try dsimp only
  refine Chg.forEach ?_ ?_
  · intro _ _
    refine Chg.step (State.fdpEvent_chg ..) ?_ (by decide)
    exact Chg.refl _ _
  · exact Chg.refl _ _

theorem State.mapIn_chg : ∀ s a1, Chg 2139152416 s (State.mapIn s a1) := by
  intro s a1
  unfold State.mapIn
  try dsimp only
  refine Chg.ite ?_ ?_
  · exact Chg.refl _ _
  · refine Chg.step (State.indexFill_chg ..) ?_ (by decide)
    refine Chg.forEach ?_ ?_
    · intro _ _
      refine Chg.step (State.deferredError_chg ..) ?_ (by decide)
      exact Chg.refl _ _
    · refine Chg.u_recov ?_ _ (by decide)
      refine Chg.ite ?_ ?_
      · refine Chg.step (State.recoverNothing_chg ..) ?_ (by decide)
        exact Chg.refl _ _
      · refine Chg.ite ?_ ?_
        · refine Chg.step (State.scanEvent_chg ..) ?_ (by decide)
          refine Chg.step (State.recoverMap_chg ..) ?_ (by decide)
          refine Chg.step (State.unitsCut_chg ..) ?_ (by decide)
          exact Chg.refl _ _
        · exact Chg.refl _ _

theorem State.spareStart_chg : ∀ s, Chg 1610612736 s (State.spareStart s) := by
  intro s
  unfold State.spareStart
  try dsimp only
  refine Chg.ite ?_ ?_
  · exact Chg.refl _ _
  · refine Chg.ite ?_ ?_
    · refine Chg.step (State.reserveFill_chg ..) ?_ (by decide)
      exact Chg.refl _ _
    · refine Chg.u_media ?_ _ (by decide)
      refine Chg.step (State.reserveFill_chg ..) ?_ (by decide)
      exact Chg.refl _ _

theorem State.bringUpEnd_chg : ∀ s, Chg 68719476792 s (State.bringUpEnd s) := by
  intro s
  unfold State.bringUpEnd
  try dsimp only
  refine Chg.ite ?_ ?_
  · refine Chg.step (State.transition_chg ..) ?_ (by decide)
    exact Chg.refl _ _
  · refine Chg.ite ?_ ?_
    · refine Chg.step (State.transition_chg ..) ?_ (by decide)
      exact Chg.refl _ _
    · refine Chg.step (State.transition_chg ..) ?_ (by decide)
      exact Chg.refl _ _

theorem State.bringUpCauses_chg : ∀ s a1, Chg 8 s (State.bringUpCauses s a1) := by
  intro s a1
  unfold State.bringUpCauses
  try dsimp only
  refine Chg.step (State.readonlySet_chg ..) ?_ (by decide)
  refine Chg.step (State.maintSet_chg ..) ?_ (by decide)
  refine Chg.step (State.maintSet_chg ..) ?_ (by decide)
  refine Chg.step (State.maintSet_chg ..) ?_ (by decide)
  refine Chg.ite ?_ ?_
  · refine Chg.u_mode ?_ _ (by decide)
    exact Chg.refl _ _
  · exact Chg.refl _ _

theorem State.mapCacheCheck_chg : ∀ s, Chg 32 s (State.mapCacheCheck s) := by
  intro s
  unfold State.mapCacheCheck
  try dsimp only
  refine Chg.ite ?_ ?_
  · refine Chg.step (State.rasRecord_chg ..) ?_ (by decide)
    exact Chg.refl _ _
  · exact Chg.refl _ _

theorem State.windowsEnd_chg : ∀ s a1 a2, Chg 236422 s (State.windowsEnd s a1 a2) := by
  intro s a1 a2
  unfold State.windowsEnd
  try dsimp only
  refine Chg.forEach ?_ ?_
  · intro _ _
    refine Chg.forEach ?_ ?_
    · intro _ _
      refine Chg.ite ?_ ?_
      · refine Chg.step (State.cqPut_chg ..) ?_ (by decide)
        exact Chg.refl _ _
      · exact Chg.refl _ _
    · refine Chg.step (State.setSq_chg ..) ?_ (by decide)
      exact Chg.refl _ _
  · exact Chg.refl _ _

theorem State.activationFlush_chg : ∀ s, Chg 137438953488 s (State.activationFlush s) := by
  intro s
  unfold State.activationFlush
  try dsimp only
  refine Chg.ite ?_ ?_
  · refine Chg.step (State.lcsBit_chg ..) ?_ (by decide)
    refine Chg.u_sec ?_ _ ?_ (by decide)
    · exact Chg.refl _ _
    · exact List.prefix_rfl
  · refine Chg.ite ?_ ?_
    · refine Chg.step (State.lcsBit_chg ..) ?_ (by decide)
      refine Chg.u_sec ?_ _ ?_ (by decide)
      · exact Chg.refl _ _
      · exact List.prefix_rfl
    · exact Chg.refl _ _

theorem State.flushStart_chg : ∀ s a1, Chg 228623891390 s (State.flushStart s a1) := by
  intro s a1
  unfold State.flushStart
  try dsimp only
  refine Chg.step (State.windowsEnd_chg ..) ?_ (by decide)
  refine Chg.forEach ?_ ?_
  · intro _ _
    refine Chg.step (State.commitTag_chg ..) ?_ (by decide)
    refine Chg.step (State.dmaCancel_chg ..) ?_ (by decide)
    exact Chg.refl _ _
  · refine Chg.u_mode_luns_jrn_media_drams_chip ?_ _ _ _ _ _ _ (by decide)
    refine Chg.step (State.activationFlush_chg ..) ?_ (by decide)
    refine Chg.step (State.transition_chg ..) ?_ (by decide)
    exact Chg.refl _ _

theorem State.auxGone_chg : ∀ s, Chg 103079215164 s (State.auxGone s) := by
  intro s
  unfold State.auxGone
  try dsimp only
  refine Chg.u_aon_mode_regs_ras_thermal_mgmt ?_ _ _ _ _ _ _ ?_ (by decide)
  · exact Chg.refl _ _
  · exact fun _ => rfl

theorem State.flushLeave_chg : ∀ s, Chg 256464879612 s (State.flushLeave s) := by
  intro s
  unfold State.flushLeave
  try dsimp only
  refine Chg.ite ?_ ?_
  · refine Chg.step (State.enterDormant_chg ..) ?_ (by decide)
    exact Chg.refl _ _
  · refine Chg.step (State.auxGone_chg ..) ?_ (by decide)
    refine Chg.step (State.transition_chg ..) ?_ (by decide)
    refine Chg.step (State.enterDormant_chg ..) ?_ (by decide)
    exact Chg.refl _ _

theorem State.flushDone_chg : ∀ s, Chg 257698004988 s (State.flushDone s) := by
  intro s
  unfold State.flushDone
  try dsimp only
  refine Chg.ite ?_ ?_
  · refine Chg.step (State.flushLeave_chg ..) ?_ (by decide)
    refine Chg.u_aon_mode_islands_recov ?_ _ _ _ _ (by decide)
    refine Chg.step (State.appendFinish_chg ..) ?_ (by decide)
    refine Chg.step (State.flushPrograms_chg ..) ?_ (by decide)
    exact Chg.refl _ _
  · refine Chg.u_aon_mode_islands_recov ?_ _ _ _ _ (by decide)
    refine Chg.step (State.appendFinish_chg ..) ?_ (by decide)
    refine Chg.step (State.flushPrograms_chg ..) ?_ (by decide)
    exact Chg.refl _ _

theorem State.powerEvent_chg : ∀ s a1, Chg 273795776510 s (State.powerEvent s a1) := by
  intro s a1
  unfold State.powerEvent
  try dsimp only
  refine Chg.ite ?_ ?_
  · refine Chg.step (State.flushStart_chg ..) ?_ (by decide)
    exact Chg.refl _ _
  · split
    · refine Chg.step (State.enterDormant_chg ..) ?_ (by decide)
      exact Chg.refl _ _
    · refine Chg.ite ?_ ?_
      · refine Chg.step (State.flushLeave_chg ..) ?_ (by decide)
        exact Chg.refl _ _
      · exact Chg.refl _ _
    · exact Chg.refl _ _

theorem State.settleWatch_chg : ∀ s, Chg 2080374920 s (State.settleWatch s) := by
  intro s
  unfold State.settleWatch
  try dsimp only
  refine Chg.ite ?_ ?_
  · exact Chg.refl _ _
  · refine Chg.ite ?_ ?_
    · refine Chg.ite ?_ ?_
      · refine Chg.u_mode ?_ _ (by decide)
        refine Chg.step (State.closeTail_chg ..) ?_ (by decide)
        refine Chg.step (State.checkpoint_chg ..) ?_ (by decide)
        refine Chg.ite ?_ ?_
        · refine Chg.step (State.stopRecord_chg ..) ?_ (by decide)
          refine Chg.u_funcs ?_ _ (by decide)
          refine Chg.ite ?_ ?_
          · refine Chg.step (State.drainZones_chg ..) ?_ (by decide)
            refine Chg.step (State.drain_chg ..) ?_ (by decide)
            exact Chg.refl _ _
          · exact Chg.refl _ _
        · refine Chg.ite ?_ ?_
          · refine Chg.step (State.drainZones_chg ..) ?_ (by decide)
            refine Chg.step (State.drain_chg ..) ?_ (by decide)
            exact Chg.refl _ _
          · exact Chg.refl _ _
      · refine Chg.ite ?_ ?_
        · refine Chg.step (State.stopRecord_chg ..) ?_ (by decide)
          refine Chg.u_funcs ?_ _ (by decide)
          refine Chg.ite ?_ ?_
          · refine Chg.step (State.drainZones_chg ..) ?_ (by decide)
            refine Chg.step (State.drain_chg ..) ?_ (by decide)
            exact Chg.refl _ _
          · exact Chg.refl _ _
        · refine Chg.ite ?_ ?_
          · refine Chg.step (State.drainZones_chg ..) ?_ (by decide)
            refine Chg.step (State.drain_chg ..) ?_ (by decide)
            exact Chg.refl _ _
          · exact Chg.refl _ _
    · refine Chg.ite ?_ ?_
      · refine Chg.step (State.drainZones_chg ..) ?_ (by decide)
        refine Chg.step (State.drain_chg ..) ?_ (by decide)
        exact Chg.refl _ _
      · exact Chg.refl _ _

theorem State.maintBegin_chg : ∀ s, Chg 8 s (State.maintBegin s) := by
  intro s
  unfold State.maintBegin
  try dsimp only
  refine Chg.ite ?_ ?_
  · exact Chg.refl _ _
  · refine Chg.u_mode ?_ _ (by decide)
    exact Chg.refl _ _

theorem State.maintExit_chg : ∀ s, Chg 68719476792 s (State.maintExit s) := by
  intro s
  unfold State.maintExit
  try dsimp only
  refine Chg.ite ?_ ?_
  · exact Chg.refl _ _
  · split
    · refine Chg.step (State.transition_chg ..) ?_ (by decide)
      refine Chg.u_mode ?_ _ (by decide)
      exact Chg.refl _ _
    · refine Chg.u_mode ?_ _ (by decide)
      exact Chg.refl _ _

theorem State.maintWindows_chg : ∀ s, Chg 236422 s (State.maintWindows s) := by
  intro s
  unfold State.maintWindows
  try dsimp only
  refine Chg.ite ?_ ?_
  · refine Chg.step (State.windowsEnd_chg ..) ?_ (by decide)
    exact Chg.refl _ _
  · exact Chg.refl _ _

theorem State.maintRequest_chg : ∀ s a1, Chg 273804165118 s (State.maintRequest s a1).1 := by
  intro s a1
  unfold State.maintRequest
  split
  · exact Chg.refl _ _
  · exact Chg.refl _ _
  · exact Chg.u_mode (Chg.refl _ _) _ (by decide)
  · exact Chg.u_mode (Chg.refl _ _) _ (by decide)
  · refine Chg.fstIte ?_ (Chg.fstIte ?_ ?_)
    · exact Chg.step (State.maintSet_chg ..) (Chg.u_mode (Chg.refl _ _) _ (by decide)) (by decide)
    · exact Chg.refl _ _
    · refine Chg.fstIte ?_ ?_
      · exact Chg.step (State.bringUpBegin_chg ..) (Chg.step (State.maintSet_chg ..) (Chg.u_mode (Chg.refl _ _) _ (by decide)) (by decide)) (by decide)
      · exact Chg.step (State.maintExit_chg ..) (Chg.step (State.maintSet_chg ..) (Chg.u_mode (Chg.refl _ _) _ (by decide)) (by decide)) (by decide)
  · refine Chg.fstIte ?_ ?_
    · exact Chg.step (State.maintBegin_chg ..) (Chg.step (State.maintSet_chg ..) (Chg.u_mode (Chg.refl _ _) _ (by decide)) (by decide)) (by decide)
    · refine Chg.ite ?_ ?_
      · exact Chg.step (State.maintExit_chg ..) (Chg.step (State.maintSet_chg ..) (Chg.u_mode (Chg.refl _ _) _ (by decide)) (by decide)) (by decide)
      · exact Chg.step (State.maintSet_chg ..) (Chg.u_mode (Chg.refl _ _) _ (by decide)) (by decide)

theorem State.protectForce_chg : ∀ s a1, Chg 69038268472 s (State.protectForce s a1) := by
  intro s a1
  unfold State.protectForce
  try dsimp only
  split
  · refine Chg.ite ?_ ?_
    · refine Chg.step (State.transition_chg ..) ?_ (by decide)
      refine Chg.step (State.critWatch_chg ..) ?_ (by decide)
      refine Chg.step (State.readonlySet_chg ..) ?_ (by decide)
      exact Chg.refl _ _
    · refine Chg.step (State.critWatch_chg ..) ?_ (by decide)
      refine Chg.step (State.readonlySet_chg ..) ?_ (by decide)
      exact Chg.refl _ _
  · refine Chg.ite ?_ ?_
    · refine Chg.step (State.transition_chg ..) ?_ (by decide)
      refine Chg.step (State.critWatch_chg ..) ?_ (by decide)
      refine Chg.step (State.readonlySet_chg ..) ?_ (by decide)
      exact Chg.refl _ _
    · refine Chg.step (State.critWatch_chg ..) ?_ (by decide)
      refine Chg.step (State.readonlySet_chg ..) ?_ (by decide)
      exact Chg.refl _ _
  · refine Chg.step (State.critWatch_chg ..) ?_ (by decide)
    refine Chg.step (State.readonlySet_chg ..) ?_ (by decide)
    exact Chg.refl _ _

theorem State.protectBoundary_chg : ∀ s, Chg 69038269496 s (State.protectBoundary s) := by
  intro s
  unfold State.protectBoundary
  try dsimp only
  refine Chg.ite ?_ ?_
  · refine Chg.step (State.entryBoundary_chg ..) ?_ (by decide)
    exact Chg.refl _ _
  · refine Chg.step (State.protectForce_chg ..) ?_ (by decide)
    refine Chg.step (State.entryBoundary_chg ..) ?_ (by decide)
    exact Chg.refl _ _

end Sys2Proof.Machine
end

