-- ==== Sys2Proof/Laws/ChgCmdOps.lean ====
section
/-! SUPPORT. What the operations of Machine/CmdOps.lean may change: one lemma for each. -/

set_option linter.all false

namespace Sys2Proof.Machine

theorem State.lookupAll_chg : ∀ s a1, Chg 67108864 s (State.lookupAll s a1) := by
  intro s a1
  unfold State.lookupAll
  try dsimp only
  refine Chg.forEach ?_ ?_
  · intro _ _
    refine Chg.forEach ?_ ?_
    · intro _ _
      refine Chg.step (State.lookup_chg ..) ?_ (by decide)
      exact Chg.refl _ _
    · exact Chg.refl _ _
  · exact Chg.refl _ _

theorem State.mapResolve_chg : ∀ s a1, Chg 201334784 s (State.mapResolve s a1) := by
  intro s a1
  unfold State.mapResolve
  try dsimp only
  refine Chg.ite ?_ ?_
  · refine Chg.step (State.setTag_chg ..) ?_ (by decide)
    refine Chg.ite ?_ ?_
    · refine Chg.step (State.lookupAll_chg ..) ?_ (by decide)
      exact Chg.refl _ _
    · exact Chg.refl _ _
  · refine Chg.step (State.setTag_chg ..) ?_ (by decide)
    refine Chg.forEach ?_ ?_
    · intro _ _
      refine Chg.ite ?_ ?_
      · exact Chg.refl _ _
      · refine Chg.step (State.fillAsk_chg ..) ?_ (by decide)
        exact Chg.refl _ _
    · exact Chg.refl _ _

theorem State.detectAll_chg : ∀ s a1, Chg 17565951058 s (State.detectAll s a1) := by
  intro s a1
  unfold State.detectAll
  try dsimp only
  refine Chg.ite ?_ ?_
  · refine Chg.forEach ?_ ?_
    · intro _ _
      refine Chg.step (State.detect_chg ..) ?_ (by decide)
      exact Chg.refl _ _
    · exact Chg.refl _ _
  · exact Chg.refl _ _

theorem State.resolveWaiters_chg : ∀ s, Chg 201334784 s (State.resolveWaiters s) := by
  intro s
  unfold State.resolveWaiters
  try dsimp only
  refine Chg.forEach ?_ ?_
  · intro _ _
    refine Chg.step (State.mapResolve_chg ..) ?_ (by decide)
    exact Chg.refl _ _
  · exact Chg.refl _ _

theorem State.takeMap_chg : ∀ s a1, Chg 805314560 s (State.takeMap s a1) := by
  intro s a1
  unfold State.takeMap
  try dsimp only
  refine Chg.step (State.setTag_chg ..) ?_ (by decide)
  refine Chg.forEach ?_ ?_
  · intro _ _
    split
    · refine Chg.step (State.setWblk_chg ..) ?_ (by decide)
      refine Chg.step (State.setTag_chg ..) ?_ (by decide)
      exact Chg.refl _ _
    · refine Chg.step (State.setSb_chg ..) ?_ (by decide)
      refine Chg.step (State.setTag_chg ..) ?_ (by decide)
      exact Chg.refl _ _
    · refine Chg.step (State.setTag_chg ..) ?_ (by decide)
      exact Chg.refl _ _
  · exact Chg.refl _ _

theorem State.zonePin_chg : ∀ s a1 a2, Chg 67108864 s (State.zonePin s a1 a2) := by
  intro s a1 a2
  unfold State.zonePin
  try dsimp only
  refine Chg.ite ?_ ?_
  · refine Chg.forEach ?_ ?_
    · intro _ _
      refine Chg.step (State.setPage_chg ..) ?_ (by decide)
      exact Chg.refl _ _
    · exact Chg.refl _ _
  · exact Chg.refl _ _

theorem State.zonePlace_chg : ∀ s a1 a2, Chg 1610612736 s (State.zonePlace s a1 a2).1 := by
  intro s a1 a2
  unfold State.zonePlace
  try dsimp only
  split
  · dsimp only
    refine Chg.step (State.setSb_chg ..) ?_ (by decide)
    exact Chg.refl _ _
  · split
    · dsimp only
      refine Chg.step (State.setSb_chg ..) ?_ (by decide)
      refine Chg.step (Chg.fst ‹State.sbAlloc _ _ _ _ _ = _› (State.sbAlloc_chg ..)) ?_ (by decide)
      exact Chg.refl _ _
    · dsimp only
      refine Chg.step (Chg.fst ‹State.sbAlloc _ _ _ _ _ = _› (State.sbAlloc_chg ..)) ?_ (by decide)
      exact Chg.refl _ _

theorem State.zoneRelocate_chg : ∀ s a1 a2 a3, Chg 1828716544 s (State.zoneRelocate s a1 a2 a3) := by
  intro s a1 a2 a3
  unfold State.zoneRelocate
  try dsimp only
  split
  · refine Chg.u_media ?_ _ (by decide)
    refine Chg.step (Chg.fst ‹State.zonePlace _ _ _ = _› (State.zonePlace_chg ..)) ?_ (by decide)
    refine Chg.step (State.seqDraw_chg ..) ?_ (by decide)
    exact Chg.refl _ _
  · refine Chg.step (State.setSb_chg ..) ?_ (by decide)
    refine Chg.step (State.zoneJournal_chg ..) ?_ (by decide)
    refine Chg.step (State.setSb_chg ..) ?_ (by decide)
    refine Chg.forEach ?_ ?_
    · intro _ _
      refine Chg.ite ?_ ?_
      · split
        · refine Chg.step (State.setMent_chg ..) ?_ (by decide)
          exact Chg.refl _ _
        · exact Chg.refl _ _
      · exact Chg.refl _ _
    · refine Chg.step (State.setZone_chg ..) ?_ (by decide)
      refine Chg.step (State.setSb_chg ..) ?_ (by decide)
      refine Chg.step (Chg.fst ‹State.zonePlace _ _ _ = _› (State.zonePlace_chg ..)) ?_ (by decide)
      refine Chg.step (State.seqDraw_chg ..) ?_ (by decide)
      exact Chg.refl _ _

end Sys2Proof.Machine
end

