-- ==== Sys2Proof/Laws/ChgSanOps.lean ====
section
/-! SUPPORT. What the operations of Machine/SanOps.lean may change: one lemma for each. -/

set_option linter.all false

namespace Sys2Proof.Machine

theorem State.keyTableWrite_chg : ∀ s, Chg 138512695296 s (State.keyTableWrite s) := by
  intro s
  unfold State.keyTableWrite
  try dsimp only
  refine Chg.step (State.systemRewrite_chg ..) ?_ (by decide)
  refine Chg.u_sec ?_ _ ?_ (by decide)
  · exact Chg.refl _ _
  · exact List.prefix_rfl

theorem State.keyErase_chg : ∀ s a1, Chg 137447342096 s (State.keyErase s a1) := by
  intro s a1
  unfold State.keyErase
  try dsimp only
  refine Chg.ite ?_ ?_
  · refine Chg.step (State.lcsBit_chg ..) ?_ (by decide)
    refine Chg.u_sec ?_ _ ?_ (by decide)
    · refine Chg.step (State.setNs_chg ..) ?_ (by decide)
      exact Chg.refl _ _
    · exact List.prefix_rfl
  · exact Chg.refl _ _

theorem State.wbufDrop_chg : ∀ s a1, Chg 268435456 s (State.wbufDrop s a1) := by
  intro s a1
  unfold State.wbufDrop
  try dsimp only
  refine Chg.u_wbuf ?_ _ (by decide)
  exact Chg.refl _ _

theorem State.nsVoid_chg : ∀ s a1, Chg 897581056 s (State.nsVoid s a1) := by
  intro s a1
  unfold State.nsVoid
  try dsimp only
  refine Chg.step (State.wbufDrop_chg ..) ?_ (by decide)
  refine Chg.step (State.setNs_chg ..) ?_ (by decide)
  refine Chg.forEach ?_ ?_
  · intro _ _
    refine Chg.step (State.homeRelease_chg ..) ?_ (by decide)
    exact Chg.refl _ _
  · refine Chg.u_zones_map ?_ _ _ (by decide)
    refine Chg.forEach ?_ ?_
    · intro _ _
      refine Chg.step (State.setCharge_chg ..) ?_ (by decide)
      exact Chg.refl _ _
    · refine Chg.forEach ?_ ?_
      · intro _ _
        refine Chg.step (State.validSub_chg ..) ?_ (by decide)
        exact Chg.refl _ _
      · exact Chg.refl _ _

theorem State.sanitizeNull_chg : ∀ s, Chg 139544494096 s (State.sanitizeNull s) := by
  intro s
  unfold State.sanitizeNull
  try dsimp only
  refine Chg.step (State.recoverNothing_chg ..) ?_ (by decide)
  refine Chg.u_map_jrn_wbuf_media ?_ _ _ _ _ (by decide)
  refine Chg.step (State.keyTableWrite_chg ..) ?_ (by decide)
  refine Chg.forEach ?_ ?_
  · intro _ _
    refine Chg.step (State.keyErase_chg ..) ?_ (by decide)
    exact Chg.refl _ _
  · exact Chg.refl _ _

theorem State.sanitizeDone_chg : ∀ s, Chg 207769043000 s (State.sanitizeDone s) := by
  intro s
  unfold State.sanitizeDone
  try dsimp only
  refine Chg.step (State.maintExit_chg ..) ?_ (by decide)
  refine Chg.step (State.reserveFill_chg ..) ?_ (by decide)
  refine Chg.step (State.maintSet_chg ..) ?_ (by decide)
  refine Chg.step (State.lcsBit_chg ..) ?_ (by decide)
  refine Chg.u_sec ?_ _ ?_ (by decide)
  · refine Chg.ite ?_ ?_
    · refine Chg.step (State.section__chg ..) ?_ (by decide)
      refine Chg.u_recov ?_ _ (by decide)
      exact Chg.refl _ _
    · exact Chg.refl _ _
  · exact List.prefix_rfl

theorem State.sanitizeFail_chg : ∀ s, Chg 137438953496 s (State.sanitizeFail s) := by
  intro s
  unfold State.sanitizeFail
  try dsimp only
  refine Chg.step (State.lcsBit_chg ..) ?_ (by decide)
  refine Chg.step (State.maintSet_chg ..) ?_ (by decide)
  refine Chg.u_sec ?_ _ ?_ (by decide)
  · exact Chg.refl _ _
  · exact List.prefix_rfl

theorem State.sanitizeFree_chg : ∀ s, Chg 536870912 s (State.sanitizeFree s) := by
  intro s
  unfold State.sanitizeFree
  try dsimp only
  refine Chg.u_media ?_ _ (by decide)
  exact Chg.refl _ _

theorem State.sanitizeRun_chg : ∀ s, Chg 208263970872 s (State.sanitizeRun s) := by
  intro s
  unfold State.sanitizeRun
  try dsimp only
  refine Chg.ite ?_ ?_
  · refine Chg.ite ?_ ?_
    · refine Chg.ite ?_ ?_
      · refine Chg.step (State.sanitizeFree_chg ..) ?_ (by decide)
        refine Chg.step (State.section__chg ..) ?_ (by decide)
        refine Chg.u_recov_sec ?_ _ _ ?_ (by decide)
        · refine Chg.step (State.sanitizeNull_chg ..) ?_ (by decide)
          exact Chg.refl _ _
        · exact List.prefix_rfl
      · refine Chg.step (State.sanitizeDone_chg ..) ?_ (by decide)
        refine Chg.step (State.sanitizeFree_chg ..) ?_ (by decide)
        refine Chg.step (State.section__chg ..) ?_ (by decide)
        refine Chg.u_recov_sec ?_ _ _ ?_ (by decide)
        · refine Chg.step (State.sanitizeNull_chg ..) ?_ (by decide)
          exact Chg.refl _ _
        · exact List.prefix_rfl
    · refine Chg.step (State.sanitizeDone_chg ..) ?_ (by decide)
      refine Chg.step (State.sanitizeNull_chg ..) ?_ (by decide)
      exact Chg.refl _ _
  · exact Chg.refl _ _

theorem State.sanitizeLun_chg : ∀ s, Chg 137438953496 s (State.sanitizeLun s) := by
  intro s
  unfold State.sanitizeLun
  try dsimp only
  refine Chg.ite ?_ ?_
  · refine Chg.step (State.sanitizeFail_chg ..) ?_ (by decide)
    exact Chg.refl _ _
  · exact Chg.refl _ _

theorem State.sanitizeErase_chg : ∀ s a1 a2 a3, Chg 207769567288 s (State.sanitizeErase s a1 a2 a3) := by
  intro s a1 a2 a3
  unfold State.sanitizeErase
  try dsimp only
  refine Chg.ite ?_ ?_
  · refine Chg.ite ?_ ?_
    · refine Chg.u_sec ?_ _ ?_ (by decide)
      · refine Chg.ite ?_ ?_
        · refine Chg.step (State.setSb_chg ..) ?_ (by decide)
          exact Chg.refl _ _
        · exact Chg.refl _ _
      · exact List.prefix_rfl
    · refine Chg.step (State.blockRetire_chg ..) ?_ (by decide)
      refine Chg.ite ?_ ?_
      · refine Chg.step (State.setSb_chg ..) ?_ (by decide)
        exact Chg.refl _ _
      · exact Chg.refl _ _
  · refine Chg.step (State.sanitizeDone_chg ..) ?_ (by decide)
    refine Chg.ite ?_ ?_
    · refine Chg.u_sec ?_ _ ?_ (by decide)
      · refine Chg.ite ?_ ?_
        · refine Chg.step (State.setSb_chg ..) ?_ (by decide)
          exact Chg.refl _ _
        · exact Chg.refl _ _
      · exact List.prefix_rfl
    · refine Chg.step (State.blockRetire_chg ..) ?_ (by decide)
      refine Chg.ite ?_ ?_
      · refine Chg.step (State.setSb_chg ..) ?_ (by decide)
        exact Chg.refl _ _
      · exact Chg.refl _ _

end Sys2Proof.Machine
end

