-- ==== Sys2Proof/Laws/ChgHost.lean ====
section
/-! SUPPORT. What the operations of Machine/Host.lean may change: one lemma for each. -/

set_option linter.all false

namespace Sys2Proof.Machine

theorem State.abortAccess_chg : ∀ s a1, Chg 68719476914 s (State.abortAccess s a1) := by
  intro s a1
  unfold State.abortAccess
  try dsimp only
  refine Chg.step (State.aerReport_chg ..) ?_ (by decide)
  refine Chg.step (State.emit_chg ..) ?_ (by decide)
  refine Chg.step (State.accLog_chg ..) ?_ (by decide)
  exact Chg.refl _ _

theorem State.doorbellEvent_chg : ∀ s a1 a2, Chg 318791680 s (State.doorbellEvent s a1 a2) := by
  intro s a1 a2
  unfold State.doorbellEvent
  try dsimp only
  refine Chg.step (State.raise_chg ..) ?_ (by decide)
  exact Chg.refl _ _

theorem State.bellAccept_chg : ∀ s a1 a2 a3, Chg 319011718 s (State.bellAccept s a1 a2 a3) := by
  intro s a1 a2 a3
  unfold State.bellAccept
  try dsimp only
  refine Chg.ite ?_ ?_
  · refine Chg.step (State.cqRelease_chg ..) ?_ (by decide)
    refine Chg.step (State.setCq_chg ..) ?_ (by decide)
    exact Chg.refl _ _
  · refine Chg.step (State.fetchAsk_chg ..) ?_ (by decide)
    refine Chg.step (State.setSq_chg ..) ?_ (by decide)
    exact Chg.refl _ _

theorem State.pageBell_chg : ∀ s a1 a2 a3 a4, Chg 69038504886 s (State.pageBell s a1 a2 a3 a4) := by
  intro s a1 a2 a3 a4
  unfold State.pageBell
  try dsimp only
  refine Chg.ite ?_ ?_
  · refine Chg.ite ?_ ?_
    · refine Chg.step (State.accLog_chg ..) ?_ (by decide)
      refine Chg.step (State.setSlice_chg ..) ?_ (by decide)
      exact Chg.refl _ _
    · refine Chg.step (State.doorbellEvent_chg ..) ?_ (by decide)
      refine Chg.step (State.setSlice_chg ..) ?_ (by decide)
      refine Chg.step (State.accLog_chg ..) ?_ (by decide)
      refine Chg.step (State.setSlice_chg ..) ?_ (by decide)
      exact Chg.refl _ _
  · refine Chg.ite ?_ ?_
    · refine Chg.step (State.setSlice_chg ..) ?_ (by decide)
      exact Chg.refl _ _
    · split
      · refine Chg.step (State.doorbellEvent_chg ..) ?_ (by decide)
        refine Chg.step (State.setSlice_chg ..) ?_ (by decide)
        refine Chg.step (State.setSlice_chg ..) ?_ (by decide)
        exact Chg.refl _ _
      · refine Chg.ite ?_ ?_
        · refine Chg.step (State.setSlice_chg ..) ?_ (by decide)
          refine Chg.step (State.setSlice_chg ..) ?_ (by decide)
          exact Chg.refl _ _
        · refine Chg.step (State.bellAccept_chg ..) ?_ (by decide)
          exact Chg.refl _ _

theorem State.stdBell_chg : ∀ s a1 a2 a3, Chg 69038504886 s (State.stdBell s a1 a2 a3) := by
  intro s a1 a2 a3
  unfold State.stdBell
  try dsimp only
  refine Chg.ite ?_ ?_
  · refine Chg.step (State.doorbellEvent_chg ..) ?_ (by decide)
    refine Chg.step (State.accLog_chg ..) ?_ (by decide)
    exact Chg.refl _ _
  · split
    · refine Chg.step (State.doorbellEvent_chg ..) ?_ (by decide)
      exact Chg.refl _ _
    · refine Chg.step (State.bellAccept_chg ..) ?_ (by decide)
      exact Chg.refl _ _

theorem State.bellPiece_chg : ∀ s a1 a2, Chg 69038504886 s (State.bellPiece s a1 a2) := by
  intro s a1 a2
  unfold State.bellPiece
  try dsimp only
  refine Chg.ite ?_ ?_
  · refine Chg.step (State.stdBell_chg ..) ?_ (by decide)
    exact Chg.refl _ _
  · split
    · refine Chg.step (State.accLog_chg ..) ?_ (by decide)
      exact Chg.refl _ _
    · refine Chg.step (State.pageBell_chg ..) ?_ (by decide)
      exact Chg.refl _ _

theorem State.bellWrite_chg : ∀ s a1 a2, Chg 69038504886 s (State.bellWrite s a1 a2) := by
  intro s a1 a2
  unfold State.bellWrite
  try dsimp only
  refine Chg.when ?_ ?_
  · refine Chg.ite ?_ ?_
    · refine Chg.step (State.abortAccess_chg ..) ?_ (by decide)
      exact Chg.refl _ _
    · refine Chg.forEach ?_ ?_
      · intro _ _
        refine Chg.step (State.bellPiece_chg ..) ?_ (by decide)
        exact Chg.refl _ _
      · exact Chg.refl _ _
  · refine Chg.step (State.unlisted_chg ..) ?_ (by decide)
    exact Chg.refl _ _

theorem execSqTailDoorbell_chg : ∀ a0 s, ∃ t, execSqTailDoorbell a0 s = .next t ∧ Chg 69038504886 s t := by
  intro a0 s
  unfold execSqTailDoorbell
  try dsimp only
  refine ⟨_, rfl, ?_⟩
  refine Chg.step (State.bellWrite_chg ..) ?_ (by decide)
  exact Chg.refl _ _

theorem execCqHeadDoorbell_chg : ∀ a0 s, ∃ t, execCqHeadDoorbell a0 s = .next t ∧ Chg 69038504886 s t := by
  intro a0 s
  unfold execCqHeadDoorbell
  try dsimp only
  refine ⟨_, rfl, ?_⟩
  refine Chg.step (State.bellWrite_chg ..) ?_ (by decide)
  exact Chg.refl _ _

theorem State.csrWrite_chg : ∀ s a1 a2 a3, Chg 68719476914 s (State.csrWrite s a1 a2 a3) := by
  intro s a1 a2 a3
  unfold State.csrWrite
  try dsimp only
  refine Chg.ite ?_ ?_
  · refine Chg.step (State.accLog_chg ..) ?_ (by decide)
    exact Chg.refl _ _
  · refine Chg.ite ?_ ?_
    · refine Chg.step (State.accLog_chg ..) ?_ (by decide)
      exact Chg.refl _ _
    · refine Chg.ite ?_ ?_
      · refine Chg.ite ?_ ?_
        · refine Chg.step (State.accLog_chg ..) ?_ (by decide)
          exact Chg.refl _ _
        · refine Chg.ite ?_ ?_
          · refine Chg.u_regs ?_ _ ?_ (by decide)
            · exact Chg.refl _ _
            · exact fun w => w
          · refine Chg.u_regs ?_ _ ?_ (by decide)
            · exact Chg.refl _ _
            · exact fun w => w
      · refine Chg.ite ?_ ?_
        · refine Chg.ite ?_ ?_
          · refine Chg.step (State.accLog_chg ..) ?_ (by decide)
            exact Chg.refl _ _
          · refine Chg.ite ?_ ?_
            · refine Chg.u_regs ?_ _ ?_ (by decide)
              · exact Chg.refl _ _
              · exact fun w => w
            · refine Chg.ite ?_ ?_
              · exact Chg.refl _ _
              · refine Chg.u_regs ?_ _ ?_ (by decide)
                · exact Chg.refl _ _
                · exact fun w => Mem.wf_writeList _ _ w
        · exact Chg.refl _ _

theorem State.nvmeWrite_chg : ∀ s a1 a2 a3, Chg 128 s (State.nvmeWrite s a1 a2 a3) := by
  intro s a1 a2 a3
  unfold State.nvmeWrite
  try dsimp only
  split
  · refine Chg.step (State.setFunc_chg ..) ?_ (by decide)
    exact Chg.refl _ _
  · refine Chg.step (State.setFunc_chg ..) ?_ (by decide)
    exact Chg.refl _ _
  · refine Chg.step (State.setFunc_chg ..) ?_ (by decide)
    exact Chg.refl _ _
  · refine Chg.step (State.setFunc_chg ..) ?_ (by decide)
    exact Chg.refl _ _
  · refine Chg.step (State.setFunc_chg ..) ?_ (by decide)
    exact Chg.refl _ _
  · refine Chg.step (State.setFunc_chg ..) ?_ (by decide)
    exact Chg.refl _ _
  · refine Chg.step (State.setFunc_chg ..) ?_ (by decide)
    exact Chg.refl _ _
  · refine Chg.step (State.setFunc_chg ..) ?_ (by decide)
    exact Chg.refl _ _
  · exact Chg.refl _ _

theorem State.regPiece_chg : ∀ s a1 a2, Chg 68719476914 s (State.regPiece s a1 a2) := by
  intro s a1 a2
  unfold State.regPiece
  try dsimp only
  split
  · refine Chg.ite ?_ ?_
    · refine Chg.step (State.nvmeWrite_chg ..) ?_ (by decide)
      exact Chg.refl _ _
    · exact Chg.refl _ _
  · refine Chg.ite ?_ ?_
    · refine Chg.step (State.accLog_chg ..) ?_ (by decide)
      exact Chg.refl _ _
    · exact Chg.refl _ _
  · refine Chg.step (State.csrWrite_chg ..) ?_ (by decide)
    exact Chg.refl _ _

theorem execRegisterWrite_chg : ∀ a0 s, ∃ t, execRegisterWrite a0 s = .next t ∧ Chg 68719476914 s t := by
  intro a0 s
  unfold execRegisterWrite
  try dsimp only
  refine ⟨_, rfl, ?_⟩
  refine Chg.when ?_ ?_
  · refine Chg.ite ?_ ?_
    · refine Chg.step (State.abortAccess_chg ..) ?_ (by decide)
      exact Chg.refl _ _
    · refine Chg.forEach ?_ ?_
      · intro _ _
        refine Chg.step (State.regPiece_chg ..) ?_ (by decide)
        exact Chg.refl _ _
      · exact Chg.refl _ _
  · refine Chg.step (State.unlisted_chg ..) ?_ (by decide)
    exact Chg.refl _ _

theorem State.readPiece_chg : ∀ s a1 a2, Chg 68719542482 s (State.readPiece s a1 a2).2 := by
  intro s a1 a2
  unfold State.readPiece
  try dsimp only
  split
  · dsimp only
    exact Chg.refl _ _
  · split
    · dsimp only
      exact Chg.refl _ _
    · refine Chg.step (State.pageRead_chg ..) ?_ (by decide)
      exact Chg.refl _ _
  · refine Chg.step (State.csrRead_chg ..) ?_ (by decide)
    exact Chg.refl _ _

theorem State.readPieces_chg : ∀ s a1 a2 a3 a4, Chg 68719542482 s (State.readPieces s a1 a2 a3 a4).2 := by
  intro s a1 a2
  induction a2 generalizing s with
  | nil => intro a3 a4; exact Chg.refl _ _
  | cons x t ih =>
    intro a3 a4
    unfold State.readPieces
    exact Chg.step (ih _ _ _) (Chg.step (State.readPiece_chg ..) (Chg.refl _ _) (by decide)) (by decide)

theorem execReadClearAccess_chg : ∀ a0 s, ∃ t, execReadClearAccess a0 s = .next t ∧ Chg 68719542514 s t := by
  intro a0 s
  unfold execReadClearAccess
  try dsimp only
  refine ⟨_, rfl, ?_⟩
  refine Chg.when ?_ ?_
  · refine Chg.ite ?_ ?_
    · refine Chg.step (State.emit_chg ..) ?_ (by decide)
      exact Chg.refl _ _
    · refine Chg.ite ?_ ?_
      · refine Chg.step (State.abortAccess_chg ..) ?_ (by decide)
        exact Chg.refl _ _
      · refine Chg.step (State.emit_chg ..) ?_ (by decide)
        refine Chg.step (State.readPieces_chg ..) ?_ (by decide)
        exact Chg.refl _ _
  · refine Chg.step (State.unlisted_chg ..) ?_ (by decide)
    exact Chg.refl _ _

theorem execCmbWrite_chg : ∀ a0 a1 a2 a3 a4 s, ∃ t, execCmbWrite a0 a1 a2 a3 a4 s = .next t ∧ Chg 68719476978 s t := by
  intro a0 a1 a2 a3 a4 s
  unfold execCmbWrite
  try dsimp only
  refine ⟨_, rfl, ?_⟩
  refine Chg.when ?_ ?_
  · refine Chg.ite ?_ ?_
    · refine Chg.step (State.aerReport_chg ..) ?_ (by decide)
      refine Chg.setPort ?_ ?_ (by decide)
      · refine Chg.also ?_ ?_
        · refine Chg.step (State.accLog_chg ..) ?_ (by decide)
          exact Chg.refl _ _
        · exact Chg.refl _ _
      · intro w
        dsimp only
        refine Chg.cmbAt (m := 274877906942) ?_ w _
        refine Chg.also ?_ ?_
        · refine Chg.step (State.accLog_chg ..) ?_ (by decide)
          exact Chg.refl _ _
        · exact Chg.refl _ _
    · refine Chg.setPort ?_ ?_ (by decide)
      · refine Chg.also ?_ ?_
        · refine Chg.step (State.accLog_chg ..) ?_ (by decide)
          exact Chg.refl _ _
        · exact Chg.refl _ _
      · intro w
        dsimp only
        refine Mem.wf_writes _ (Chg.cmbAt (m := 274877906942) ?_ w _)
        refine Chg.also ?_ ?_
        · refine Chg.step (State.accLog_chg ..) ?_ (by decide)
          exact Chg.refl _ _
        · exact Chg.refl _ _
  · refine Chg.step (State.unlisted_chg ..) ?_ (by decide)
    exact Chg.refl _ _

theorem execPoisonedTlpReceived_chg : ∀ a0 a1 s, ∃ t, execPoisonedTlpReceived a0 a1 s = .next t ∧ Chg 162 s t := by
  intro a0 a1 s
  unfold execPoisonedTlpReceived
  try dsimp only
  refine ⟨_, rfl, ?_⟩
  refine Chg.when ?_ ?_
  · refine Chg.step (State.aerReport_chg ..) ?_ (by decide)
    exact Chg.refl _ _
  · refine Chg.step (State.unlisted_chg ..) ?_ (by decide)
    exact Chg.refl _ _

end Sys2Proof.Machine
end

