-- ==== Sys2Proof/Laws/ChgPcie.lean ====
section
/-! SUPPORT. What the operations of Machine/Pcie.lean may change: one lemma for each. -/

set_option linter.all false

namespace Sys2Proof.Machine

theorem State.cfgWrite_chg : ∀ s a1 a2 a3 a4, Chg 319011718 s (State.cfgWrite s a1 a2 a3 a4) := by
  intro s a1 a2 a3 a4
  unfold State.cfgWrite
  try dsimp only
  split
  · refine Chg.ite ?_ ?_
    · exact Chg.refl _ _
    · refine Chg.forEach ?_ ?_
      · intro _ _
        refine Chg.ite ?_ ?_
        · refine Chg.step (State.setFunc_chg ..) ?_ (by decide)
          exact Chg.refl _ _
        · exact Chg.refl _ _
      · exact Chg.refl _ _
  · refine Chg.step (State.setFunc_chg ..) ?_ (by decide)
    exact Chg.refl _ _
  · refine Chg.step (State.releaseFn_chg ..) ?_ (by decide)
    refine Chg.step (State.setFunc_chg ..) ?_ (by decide)
    exact Chg.refl _ _
  · refine Chg.step (State.setFunc_chg ..) ?_ (by decide)
    exact Chg.refl _ _
  · refine Chg.step (State.dmaPump_chg ..) ?_ (by decide)
    refine Chg.step (State.setFunc_chg ..) ?_ (by decide)
    exact Chg.refl _ _
  · refine Chg.step (State.setFunc_chg ..) ?_ (by decide)
    exact Chg.refl _ _
  · refine Chg.step (State.setFunc_chg ..) ?_ (by decide)
    exact Chg.refl _ _
  · refine Chg.step (State.setFunc_chg ..) ?_ (by decide)
    exact Chg.refl _ _
  · refine Chg.step (State.setFunc_chg ..) ?_ (by decide)
    exact Chg.refl _ _
  · refine Chg.ite ?_ ?_
    · refine Chg.step (State.setFunc_chg ..) ?_ (by decide)
      exact Chg.refl _ _
    · refine Chg.ite ?_ ?_
      · refine Chg.step (State.setFunc_chg ..) ?_ (by decide)
        exact Chg.refl _ _
      · exact Chg.refl _ _
  · exact Chg.refl _ _

theorem execConfigRequest_chg : ∀ a0 a1 a2 a3 s, ∃ t, execConfigRequest a0 a1 a2 a3 s = .next t ∧ Chg 319011750 s t := by
  intro a0 a1 a2 a3 s
  unfold execConfigRequest
  try dsimp only
  refine ⟨_, rfl, ?_⟩
  refine Chg.when ?_ ?_
  · refine Chg.ite ?_ ?_
    · refine Chg.step (State.emit_chg ..) ?_ (by decide)
      exact Chg.refl _ _
    · split
      · refine Chg.step (State.emit_chg ..) ?_ (by decide)
        exact Chg.refl _ _
      · refine Chg.ite ?_ ?_
        · refine Chg.step (State.cfgWrite_chg ..) ?_ (by decide)
          exact Chg.refl _ _
        · refine Chg.step (State.unlisted_chg ..) ?_ (by decide)
          exact Chg.refl _ _
  · refine Chg.step (State.unlisted_chg ..) ?_ (by decide)
    exact Chg.refl _ _

theorem execBusMasterEnableChange_chg : ∀ a0 a1 a2 s, ∃ t, execBusMasterEnableChange a0 a1 a2 s = .next t ∧ Chg 319011750 s t := by
  intro a0 a1 a2 s
  unfold execBusMasterEnableChange
  try dsimp only
  refine ⟨_, rfl, ?_⟩
  refine Chg.when ?_ ?_
  · refine Chg.step (State.releaseFn_chg ..) ?_ (by decide)
    refine Chg.step (State.setFunc_chg ..) ?_ (by decide)
    exact Chg.refl _ _
  · refine Chg.step (State.unlisted_chg ..) ?_ (by decide)
    exact Chg.refl _ _

theorem execD3hotTransition_chg : ∀ a0 a1 a2 s, ∃ t, execD3hotTransition a0 a1 a2 s = .next t ∧ Chg 319011750 s t := by
  intro a0 a1 a2 s
  unfold execD3hotTransition
  try dsimp only
  refine ⟨_, rfl, ?_⟩
  refine Chg.when ?_ ?_
  · refine Chg.step (State.releaseFn_chg ..) ?_ (by decide)
    refine Chg.step (State.setFunc_chg ..) ?_ (by decide)
    exact Chg.refl _ _
  · refine Chg.step (State.unlisted_chg ..) ?_ (by decide)
    exact Chg.refl _ _

theorem execMsixEnableChange_chg : ∀ a0 a1 a2 a3 s, ∃ t, execMsixEnableChange a0 a1 a2 a3 s = .next t ∧ Chg 319011750 s t := by
  intro a0 a1 a2 a3 s
  unfold execMsixEnableChange
  try dsimp only
  refine ⟨_, rfl, ?_⟩
  refine Chg.when ?_ ?_
  · refine Chg.step (State.releaseFn_chg ..) ?_ (by decide)
    refine Chg.step (State.setFunc_chg ..) ?_ (by decide)
    exact Chg.refl _ _
  · refine Chg.step (State.unlisted_chg ..) ?_ (by decide)
    exact Chg.refl _ _

theorem execLinkUp_chg : ∀ a0 a1 a2 s, ∃ t, execLinkUp a0 a1 a2 s = .next t ∧ Chg 1258 s t := by
  intro a0 a1 a2 s
  unfold execLinkUp
  try dsimp only
  refine ⟨_, rfl, ?_⟩
  refine Chg.when ?_ ?_
  · refine Chg.step (State.trained_chg ..) ?_ (by decide)
    exact Chg.refl _ _
  · refine Chg.step (State.unlisted_chg ..) ?_ (by decide)
    exact Chg.refl _ _

theorem execSpeedChangeRetry_chg : ∀ a0 a1 a2 s, ∃ t, execSpeedChangeRetry a0 a1 a2 s = .next t ∧ Chg 1258 s t := by
  intro a0 a1 a2 s
  unfold execSpeedChangeRetry
  try dsimp only
  refine ⟨_, rfl, ?_⟩
  refine Chg.when ?_ ?_
  · refine Chg.step (State.trained_chg ..) ?_ (by decide)
    exact Chg.refl _ _
  · refine Chg.step (State.unlisted_chg ..) ?_ (by decide)
    exact Chg.refl _ _

theorem execLinkRetrained_chg : ∀ a0 a1 a2 s, ∃ t, execLinkRetrained a0 a1 a2 s = .next t ∧ Chg 1258 s t := by
  intro a0 a1 a2 s
  unfold execLinkRetrained
  try dsimp only
  refine ⟨_, rfl, ?_⟩
  refine Chg.when ?_ ?_
  · refine Chg.setPort ?_ ?_ (by decide)
    · refine Chg.step (State.trained_chg ..) ?_ (by decide)
      exact Chg.refl _ _
    · intro w
      dsimp only
      refine Chg.cmbAt (m := 274877906942) ?_ w _
      refine Chg.step (State.trained_chg ..) ?_ (by decide)
      exact Chg.refl _ _
  · refine Chg.step (State.unlisted_chg ..) ?_ (by decide)
    exact Chg.refl _ _

theorem execL0pDecision_chg : ∀ a0 a1 s, ∃ t, execL0pDecision a0 a1 s = .next t ∧ Chg 98 s t := by
  intro a0 a1 s
  unfold execL0pDecision
  try dsimp only
  refine ⟨_, rfl, ?_⟩
  refine Chg.when ?_ ?_
  · refine Chg.step (State.emit_chg ..) ?_ (by decide)
    refine Chg.setPort ?_ ?_ (by decide)
    · exact Chg.refl _ _
    · exact fun w => w _
  · refine Chg.step (State.unlisted_chg ..) ?_ (by decide)
    exact Chg.refl _ _

theorem execL1IdleEntry_chg : ∀ a0 s, ∃ t, execL1IdleEntry a0 s = .next t ∧ Chg 98 s t := by
  intro a0 s
  unfold execL1IdleEntry
  try dsimp only
  refine ⟨_, rfl, ?_⟩
  refine Chg.when ?_ ?_
  · refine Chg.step (State.ltrUpdate_chg ..) ?_ (by decide)
    refine Chg.step (State.emit_chg ..) ?_ (by decide)
    refine Chg.setPort ?_ ?_ (by decide)
    · exact Chg.refl _ _
    · exact fun w => w _
  · refine Chg.step (State.unlisted_chg ..) ?_ (by decide)
    exact Chg.refl _ _

theorem execDmaRequestFailure_chg : ∀ a0 a1 s, ∃ t, execDmaRequestFailure a0 a1 s = .next t ∧ Chg 69038308338 s t := by
  intro a0 a1 s
  unfold execDmaRequestFailure
  try dsimp only
  refine ⟨_, rfl, ?_⟩
  refine Chg.when ?_ ?_
  · refine Chg.step (State.dmaFail_chg ..) ?_ (by decide)
    exact Chg.refl _ _
  · refine Chg.step (State.unlisted_chg ..) ?_ (by decide)
    exact Chg.refl _ _

theorem execCompletionTimeout_chg : ∀ a0 s, ∃ t, execCompletionTimeout a0 s = .next t ∧ Chg 69038308338 s t := by
  intro a0 s
  unfold execCompletionTimeout
  try dsimp only
  refine ⟨_, rfl, ?_⟩
  refine Chg.when ?_ ?_
  · refine Chg.step (State.dmaFail_chg ..) ?_ (by decide)
    exact Chg.refl _ _
  · refine Chg.step (State.unlisted_chg ..) ?_ (by decide)
    exact Chg.refl _ _

theorem execAtsInvalidationRequest_chg : ∀ a0 a1 a2 a3 a4 s, ∃ t, execAtsInvalidationRequest a0 a1 a2 a3 a4 s = .next t ∧ Chg 96 s t := by
  intro a0 a1 a2 a3 a4 s
  unfold execAtsInvalidationRequest
  try dsimp only
  refine ⟨_, rfl, ?_⟩
  refine Chg.when ?_ ?_
  · refine Chg.setPort ?_ ?_ (by decide)
    · exact Chg.refl _ _
    · exact fun w => w _
  · refine Chg.step (State.unlisted_chg ..) ?_ (by decide)
    exact Chg.refl _ _

theorem execInvalidationComplete_chg : ∀ a0 a1 s, ∃ t, execInvalidationComplete a0 a1 s = .next t ∧ Chg 98 s t := by
  intro a0 a1 s
  unfold execInvalidationComplete
  try dsimp only
  refine ⟨_, rfl, ?_⟩
  refine Chg.when ?_ ?_
  · refine Chg.step (State.emit_chg ..) ?_ (by decide)
    refine Chg.setPort ?_ ?_ (by decide)
    · exact Chg.refl _ _
    · exact fun w => w _
  · refine Chg.step (State.unlisted_chg ..) ?_ (by decide)
    exact Chg.refl _ _

theorem execPerstAssert_chg : ∀ a0 s, ∃ t, execPerstAssert a0 s = .next t ∧ Chg 86822354930 s t := by
  intro a0 s
  unfold execPerstAssert
  try dsimp only
  refine ⟨_, rfl, ?_⟩
  refine Chg.when ?_ ?_
  · refine Chg.ite ?_ ?_
    · refine Chg.step (State.portReset_chg ..) ?_ (by decide)
      refine Chg.setPort ?_ ?_ (by decide)
      · exact Chg.refl _ _
      · exact fun w => w _
    · refine Chg.setPort ?_ ?_ (by decide)
      · exact Chg.refl _ _
      · exact fun w => w _
  · refine Chg.step (State.unlisted_chg ..) ?_ (by decide)
    exact Chg.refl _ _

theorem execHotReset_chg : ∀ a0 s, ∃ t, execHotReset a0 s = .next t ∧ Chg 86822354930 s t := by
  intro a0 s
  unfold execHotReset
  try dsimp only
  refine ⟨_, rfl, ?_⟩
  refine Chg.when ?_ ?_
  · refine Chg.step (State.portReset_chg ..) ?_ (by decide)
    exact Chg.refl _ _
  · refine Chg.step (State.unlisted_chg ..) ?_ (by decide)
    exact Chg.refl _ _

theorem execLinkDisable_chg : ∀ a0 s, ∃ t, execLinkDisable a0 s = .next t ∧ Chg 86822354930 s t := by
  intro a0 s
  unfold execLinkDisable
  try dsimp only
  refine ⟨_, rfl, ?_⟩
  refine Chg.when ?_ ?_
  · refine Chg.step (State.portReset_chg ..) ?_ (by decide)
    exact Chg.refl _ _
  · refine Chg.step (State.unlisted_chg ..) ?_ (by decide)
    exact Chg.refl _ _

theorem execPfFunctionLevelReset_chg : ∀ a0 s, ∃ t, execPfFunctionLevelReset a0 s = .next t ∧ Chg 18102877154 s t := by
  intro a0 s
  unfold execPfFunctionLevelReset
  try dsimp only
  refine ⟨_, rfl, ?_⟩
  refine Chg.when ?_ ?_
  · refine Chg.step (State.funcsReset_chg ..) ?_ (by decide)
    exact Chg.refl _ _
  · refine Chg.step (State.unlisted_chg ..) ?_ (by decide)
    exact Chg.refl _ _

theorem execVfFunctionLevelReset_chg : ∀ a0 a1 s, ∃ t, execVfFunctionLevelReset a0 a1 s = .next t ∧ Chg 18102877154 s t := by
  intro a0 a1 s
  unfold execVfFunctionLevelReset
  try dsimp only
  refine ⟨_, rfl, ?_⟩
  refine Chg.when ?_ ?_
  · refine Chg.step (State.funcsReset_chg ..) ?_ (by decide)
    exact Chg.refl _ _
  · refine Chg.step (State.unlisted_chg ..) ?_ (by decide)
    exact Chg.refl _ _

theorem execVfEnableCleared_chg : ∀ a0 s, ∃ t, execVfEnableCleared a0 s = .next t ∧ Chg 18102877154 s t := by
  intro a0 s
  unfold execVfEnableCleared
  try dsimp only
  refine ⟨_, rfl, ?_⟩
  refine Chg.when ?_ ?_
  · refine Chg.step (State.funcsReset_chg ..) ?_ (by decide)
    exact Chg.refl _ _
  · refine Chg.step (State.unlisted_chg ..) ?_ (by decide)
    exact Chg.refl _ _

theorem execControllerReset_chg : ∀ a0 a1 s, ∃ t, execControllerReset a0 a1 s = .next t ∧ Chg 18102877154 s t := by
  intro a0 a1 s
  unfold execControllerReset
  try dsimp only
  refine ⟨_, rfl, ?_⟩
  refine Chg.when ?_ ?_
  · refine Chg.step (State.ctrlReset_chg ..) ?_ (by decide)
    exact Chg.refl _ _
  · refine Chg.step (State.unlisted_chg ..) ?_ (by decide)
    exact Chg.refl _ _

theorem execNvmSubsystemReset_chg : ∀ a0 s, ∃ t, execNvmSubsystemReset a0 s = .next t ∧ Chg 86822354930 s t := by
  intro a0 s
  unfold execNvmSubsystemReset
  try dsimp only
  refine ⟨_, rfl, ?_⟩
  refine Chg.when ?_ ?_
  · refine Chg.ite ?_ ?_
    · refine Chg.step (State.portReset_chg ..) ?_ (by decide)
      refine Chg.step (State.portReset_chg ..) ?_ (by decide)
      exact Chg.refl _ _
    · refine Chg.step (State.portReset_chg ..) ?_ (by decide)
      exact Chg.refl _ _
  · refine Chg.step (State.unlisted_chg ..) ?_ (by decide)
    exact Chg.refl _ _

theorem State.stdAdmin_chg : ∀ s a1 a2, Chg 6144 s (State.stdAdmin s a1 a2) := by
  intro s a1 a2
  unfold State.stdAdmin
  try dsimp only
  refine Chg.step (State.setCq_chg ..) ?_ (by decide)
  refine Chg.step (State.setSq_chg ..) ?_ (by decide)
  exact Chg.refl _ _

theorem execControllerEnable_chg : ∀ a0 a1 a2 s, ∃ t, execControllerEnable a0 a1 a2 s = .next t ∧ Chg 6304 s t := by
  intro a0 a1 a2 s
  unfold execControllerEnable
  try dsimp only
  refine ⟨_, rfl, ?_⟩
  refine Chg.when ?_ ?_
  · refine Chg.ite ?_ ?_
    · refine Chg.step (State.setFunc_chg ..) ?_ (by decide)
      refine Chg.step (State.setFunc_chg ..) ?_ (by decide)
      exact Chg.refl _ _
    · refine Chg.step (State.setFunc_chg ..) ?_ (by decide)
      refine Chg.step (State.stdAdmin_chg ..) ?_ (by decide)
      refine Chg.step (State.setFunc_chg ..) ?_ (by decide)
      exact Chg.refl _ _
  · refine Chg.step (State.unlisted_chg ..) ?_ (by decide)
    exact Chg.refl _ _

end Sys2Proof.Machine
end

