-- ==== Sys2Proof/Laws/ChgSched.lean ====
section
/-! SUPPORT. What the operations of Machine/Sched.lean may change: one lemma for each. -/

set_option linter.all false

namespace Sys2Proof.Machine

theorem State.setCredit_chg : ∀ s a1 a2, Chg 262144 s (State.setCredit s a1 a2) := by
  intro s a1 a2
  unfold State.setCredit
  try dsimp only
  refine Chg.u_sched ?_ _ (by decide)
  exact Chg.refl _ _

theorem State.grantClass_chg : ∀ s a1 a2, Chg 262144 s (State.grantClass s a1 a2).1 := by
  intro s a1 a2
  unfold State.grantClass
  try dsimp only
  refine Chg.foldlFst ?_ ?_ _
  · intro _ _
    dsimp only
    refine Chg.u_sched ?_ _ (by decide)
    refine Chg.step (State.setCredit_chg ..) ?_ (by decide)
    exact Chg.refl _ _
  · dsimp only
    exact Chg.refl _ _

theorem State.setPortPool_chg : ∀ s a1 a2, Chg 262144 s (State.setPortPool s a1 a2) := by
  intro s a1 a2
  unfold State.setPortPool
  try dsimp only
  refine Chg.ite ?_ ?_
  · refine Chg.u_sched ?_ _ (by decide)
    exact Chg.refl _ _
  · refine Chg.u_sched ?_ _ (by decide)
    exact Chg.refl _ _

theorem State.portEpoch_chg : ∀ s a1, Chg 262144 s (State.portEpoch s a1) := by
  intro s a1
  unfold State.portEpoch
  try dsimp only
  refine Chg.ite ?_ ?_
  · refine Chg.step (State.setPortPool_chg ..) ?_ (by decide)
    exact Chg.refl _ _
  · refine Chg.step (State.setPortPool_chg ..) ?_ (by decide)
    refine Chg.forEach ?_ ?_
    · intro _ _
      refine Chg.step (State.setCredit_chg ..) ?_ (by decide)
      exact Chg.refl _ _
    · refine Chg.step (State.grantClass_chg ..) ?_ (by decide)
      refine Chg.step (State.grantClass_chg ..) ?_ (by decide)
      refine Chg.step (State.grantClass_chg ..) ?_ (by decide)
      exact Chg.refl _ _

theorem State.psDone_chg : ∀ s, Chg 318775296 s (State.psDone s) := by
  intro s
  unfold State.psDone
  try dsimp only
  refine Chg.forEach ?_ ?_
  · intro _ _
    refine Chg.ite ?_ ?_
    · refine Chg.step (State.succeed_chg ..) ?_ (by decide)
      exact Chg.refl _ _
    · exact Chg.refl _ _
  · exact Chg.refl _ _

theorem State.schBit_chg : ∀ s a1, Chg 16 s (State.schBit s a1) := by
  intro s a1
  unfold State.schBit
  try dsimp only
  refine Chg.u_regs ?_ _ ?_ (by decide)
  · exact Chg.refl _ _
  · exact fun w => w

theorem State.busAsk_chg : ∀ s a1 a2, Chg 1048578 s (State.busAsk s a1 a2) := by
  intro s a1 a2
  unfold State.busAsk
  try dsimp only
  split
  · refine Chg.step (State.emit_chg ..) ?_ (by decide)
    refine Chg.step (State.setChan_chg ..) ?_ (by decide)
    exact Chg.refl _ _
  · refine Chg.step (State.setChan_chg ..) ?_ (by decide)
    exact Chg.refl _ _

theorem State.readIssued_chg : ∀ s a1, Chg 8192 s (State.readIssued s a1) := by
  intro s a1
  unfold State.readIssued
  try dsimp only
  refine Chg.ite ?_ ?_
  · refine Chg.step (State.setTag_chg ..) ?_ (by decide)
    exact Chg.refl _ _
  · exact Chg.refl _ _

theorem State.dieIssue_chg : ∀ s a1 a2 a3 a4, Chg 1581058 s (State.dieIssue s a1 a2 a3 a4) := by
  intro s a1 a2 a3 a4
  unfold State.dieIssue
  try dsimp only
  refine Chg.ite ?_ ?_
  · refine Chg.step (State.busAsk_chg ..) ?_ (by decide)
    refine Chg.step (State.emit_chg ..) ?_ (by decide)
    refine Chg.forEach ?_ ?_
    · intro _ _
      refine Chg.step (State.readIssued_chg ..) ?_ (by decide)
      exact Chg.refl _ _
    · refine Chg.step (State.setLun_chg ..) ?_ (by decide)
      exact Chg.refl _ _
  · refine Chg.step (State.emit_chg ..) ?_ (by decide)
    refine Chg.forEach ?_ ?_
    · intro _ _
      refine Chg.step (State.readIssued_chg ..) ?_ (by decide)
      exact Chg.refl _ _
    · refine Chg.step (State.setLun_chg ..) ?_ (by decide)
      exact Chg.refl _ _

theorem State.dieResume_chg : ∀ s a1 a2 a3 a4, Chg 786434 s (State.dieResume s a1 a2 a3 a4) := by
  intro s a1 a2 a3 a4
  unfold State.dieResume
  try dsimp only
  refine Chg.step (State.emit_chg ..) ?_ (by decide)
  refine Chg.ite ?_ ?_
  · refine Chg.u_sched ?_ _ (by decide)
    refine Chg.step (State.setLun_chg ..) ?_ (by decide)
    exact Chg.refl _ _
  · refine Chg.step (State.setLun_chg ..) ?_ (by decide)
    exact Chg.refl _ _

theorem State.dieOverdue_chg : ∀ s a1 a2 a3, Chg 1843218 s (State.dieOverdue s a1 a2 a3) := by
  intro s a1 a2 a3
  unfold State.dieOverdue
  try dsimp only
  refine Chg.u_sched ?_ _ (by decide)
  refine Chg.step (State.schBit_chg ..) ?_ (by decide)
  refine Chg.step (State.dieIssue_chg ..) ?_ (by decide)
  exact Chg.refl _ _

theorem State.woad_chg : ∀ s a1 a2, Chg 17500677202 s (State.woad s a1 a2) := by
  intro s a1 a2
  unfold State.woad
  try dsimp only
  refine Chg.ite ?_ ?_
  · refine Chg.step (State.boundary_chg ..) ?_ (by decide)
    exact Chg.refl _ _
  · split
    · refine Chg.step (State.dieResume_chg ..) ?_ (by decide)
      refine Chg.step (State.boundary_chg ..) ?_ (by decide)
      exact Chg.refl _ _
    · refine Chg.step (State.setLun_chg ..) ?_ (by decide)
      refine Chg.step (State.dieOverdue_chg ..) ?_ (by decide)
      refine Chg.step (State.boundary_chg ..) ?_ (by decide)
      exact Chg.refl _ _
    · refine Chg.step (State.dieIssue_chg ..) ?_ (by decide)
      refine Chg.step (State.boundary_chg ..) ?_ (by decide)
      exact Chg.refl _ _
    · refine Chg.step (State.boundary_chg ..) ?_ (by decide)
      exact Chg.refl _ _
    · split
      · refine Chg.step (State.dieOverdue_chg ..) ?_ (by decide)
        refine Chg.step (State.boundary_chg ..) ?_ (by decide)
        exact Chg.refl _ _
      · split
        · refine Chg.step (State.dieIssue_chg ..) ?_ (by decide)
          refine Chg.step (State.boundary_chg ..) ?_ (by decide)
          exact Chg.refl _ _
        · refine Chg.step (State.boundary_chg ..) ?_ (by decide)
          exact Chg.refl _ _

theorem State.woadAll_chg : ∀ s a1, Chg 17500677202 s (State.woadAll s a1) := by
  intro s a1
  unfold State.woadAll
  try dsimp only
  refine Chg.forEach ?_ ?_
  · intro _ _
    refine Chg.step (State.woad_chg ..) ?_ (by decide)
    exact Chg.refl _ _
  · exact Chg.refl _ _

theorem State.woadFreed_chg : ∀ s a1 a2, Chg 17500677202 s (State.woadFreed s a1 a2) := by
  intro s a1 a2
  unfold State.woadFreed
  try dsimp only
  refine Chg.ite ?_ ?_
  · refine Chg.step (State.woadAll_chg ..) ?_ (by decide)
    refine Chg.step (State.woad_chg ..) ?_ (by decide)
    exact Chg.refl _ _
  · refine Chg.step (State.woad_chg ..) ?_ (by decide)
    exact Chg.refl _ _

theorem State.dieSuspend_chg : ∀ s a1 a2, Chg 17500677202 s (State.dieSuspend s a1 a2) := by
  intro s a1 a2
  unfold State.dieSuspend
  try dsimp only
  split
  · exact Chg.refl _ _
  · refine Chg.step (State.woad_chg ..) ?_ (by decide)
    refine Chg.step (State.emit_chg ..) ?_ (by decide)
    refine Chg.step (State.setChan_chg ..) ?_ (by decide)
    refine Chg.u_sched ?_ _ (by decide)
    refine Chg.step (State.setLun_chg ..) ?_ (by decide)
    exact Chg.refl _ _

theorem State.crispArrives_chg : ∀ s a1 a2, Chg 17500677202 s (State.crispArrives s a1 a2) := by
  intro s a1 a2
  unfold State.crispArrives
  try dsimp only
  split
  · exact Chg.refl _ _
  · refine Chg.ite ?_ ?_
    · exact Chg.refl _ _
    · refine Chg.ite ?_ ?_
      · refine Chg.u_sched ?_ _ (by decide)
        refine Chg.step (State.schBit_chg ..) ?_ (by decide)
        exact Chg.refl _ _
      · refine Chg.ite ?_ ?_
        · refine Chg.step (State.dieSuspend_chg ..) ?_ (by decide)
          exact Chg.refl _ _
        · refine Chg.step (State.setLun_chg ..) ?_ (by decide)
          exact Chg.refl _ _

theorem State.dieArrive_chg : ∀ s a1 a2 a3, Chg 17500677202 s (State.dieArrive s a1 a2 a3) := by
  intro s a1 a2 a3
  unfold State.dieArrive
  try dsimp only
  refine Chg.step (State.woad_chg ..) ?_ (by decide)
  refine Chg.ite ?_ ?_
  · refine Chg.step (State.crispArrives_chg ..) ?_ (by decide)
    refine Chg.step (State.setLun_chg ..) ?_ (by decide)
    exact Chg.refl _ _
  · refine Chg.step (State.setLun_chg ..) ?_ (by decide)
    exact Chg.refl _ _

theorem execDieDescriptorArrival_chg : ∀ a0 a1 a2 s, ∃ t, execDieDescriptorArrival a0 a1 a2 s = .next t ∧ Chg 17500677234 s t := by
  intro a0 a1 a2 s
  unfold execDieDescriptorArrival
  try dsimp only
  refine ⟨_, rfl, ?_⟩
  refine Chg.when ?_ ?_
  · refine Chg.step (State.dieArrive_chg ..) ?_ (by decide)
    exact Chg.refl _ _
  · refine Chg.step (State.unlisted_chg ..) ?_ (by decide)
    exact Chg.refl _ _

theorem execSuspendMinRunReached_chg : ∀ a0 a1 s, ∃ t, execSuspendMinRunReached a0 a1 s = .next t ∧ Chg 17500677234 s t := by
  intro a0 a1 s
  unfold execSuspendMinRunReached
  try dsimp only
  refine ⟨_, rfl, ?_⟩
  refine Chg.when ?_ ?_
  · refine Chg.step (State.dieSuspend_chg ..) ?_ (by decide)
    exact Chg.refl _ _
  · refine Chg.step (State.unlisted_chg ..) ?_ (by decide)
    exact Chg.refl _ _

theorem execSuspendLimitReached_chg : ∀ a0 a1 s, ∃ t, execSuspendLimitReached a0 a1 s = .next t ∧ Chg 17500677234 s t := by
  intro a0 a1 s
  unfold execSuspendLimitReached
  try dsimp only
  refine ⟨_, rfl, ?_⟩
  refine Chg.when ?_ ?_
  · refine Chg.step (State.woad_chg ..) ?_ (by decide)
    refine Chg.step (State.setLun_chg ..) ?_ (by decide)
    exact Chg.refl _ _
  · refine Chg.step (State.unlisted_chg ..) ?_ (by decide)
    exact Chg.refl _ _

theorem State.readsAdd_chg : ∀ s a1 a2 a3 a4, Chg 536870912 s (State.readsAdd s a1 a2 a3 a4) := by
  intro s a1 a2 a3 a4
  unfold State.readsAdd
  try dsimp only
  refine Chg.step (State.setSb_chg ..) ?_ (by decide)
  exact Chg.refl _ _

theorem State.blockRead_chg : ∀ s a1 a2 a3, Chg 536870912 s (State.blockRead s a1 a2 a3) := by
  intro s a1 a2 a3
  unfold State.blockRead
  try dsimp only
  refine Chg.step (State.readsAdd_chg ..) ?_ (by decide)
  exact Chg.refl _ _

theorem execDieOperationComplete_chg : ∀ a0 a1 a2 s, ∃ t, execDieOperationComplete a0 a1 a2 s = .next t ∧ Chg 18037548146 s t := by
  intro a0 a1 a2 s
  unfold execDieOperationComplete
  try dsimp only
  refine ⟨_, rfl, ?_⟩
  refine Chg.when ?_ ?_
  · split
    · exact Chg.refl _ _
    · refine Chg.step (State.woadFreed_chg ..) ?_ (by decide)
      split
      · refine Chg.foldl ?_ ?_ _
        · intro _ _
          refine Chg.step (State.busAsk_chg ..) ?_ (by decide)
          exact Chg.refl _ _
        · refine Chg.foldl ?_ ?_ _
          · intro _ _
            refine Chg.step (State.blockRead_chg ..) ?_ (by decide)
            exact Chg.refl _ _
          · refine Chg.step (State.setLun_chg ..) ?_ (by decide)
            exact Chg.refl _ _
      · refine Chg.ite ?_ ?_
        · refine Chg.step (State.setLun_chg ..) ?_ (by decide)
          exact Chg.refl _ _
        · refine Chg.step (State.setChan_chg ..) ?_ (by decide)
          refine Chg.step (State.setLun_chg ..) ?_ (by decide)
          exact Chg.refl _ _
      · refine Chg.ite ?_ ?_
        · refine Chg.step (State.setLun_chg ..) ?_ (by decide)
          exact Chg.refl _ _
        · refine Chg.step (State.setChan_chg ..) ?_ (by decide)
          refine Chg.step (State.setLun_chg ..) ?_ (by decide)
          exact Chg.refl _ _
  · refine Chg.step (State.unlisted_chg ..) ?_ (by decide)
    exact Chg.refl _ _

theorem execThermalPauseEnd_chg : ∀ a0 a1 s, ∃ t, execThermalPauseEnd a0 a1 s = .next t ∧ Chg 17500677234 s t := by
  intro a0 a1 s
  unfold execThermalPauseEnd
  try dsimp only
  refine ⟨_, rfl, ?_⟩
  refine Chg.when ?_ ?_
  · refine Chg.step (State.woad_chg ..) ?_ (by decide)
    refine Chg.step (State.setLun_chg ..) ?_ (by decide)
    exact Chg.refl _ _
  · refine Chg.step (State.unlisted_chg ..) ?_ (by decide)
    exact Chg.refl _ _

theorem State.readMoved_chg : ∀ s a1, Chg 8192 s (State.readMoved s a1) := by
  intro s a1
  unfold State.readMoved
  try dsimp only
  split
  · refine Chg.ite ?_ ?_
    · refine Chg.step (State.setTag_chg ..) ?_ (by decide)
      exact Chg.refl _ _
    · exact Chg.refl _ _
  · exact Chg.refl _ _

theorem execBusTransferComplete_chg : ∀ a0 s, ∃ t, execBusTransferComplete a0 s = .next t ∧ Chg 1056802 s t := by
  intro a0 s
  unfold execBusTransferComplete
  try dsimp only
  refine ⟨_, rfl, ?_⟩
  refine Chg.when ?_ ?_
  · split
    · refine Chg.step (State.setChan_chg ..) ?_ (by decide)
      refine Chg.step (State.readMoved_chg ..) ?_ (by decide)
      exact Chg.refl _ _
    · refine Chg.step (State.emit_chg ..) ?_ (by decide)
      refine Chg.step (State.setChan_chg ..) ?_ (by decide)
      refine Chg.step (State.readMoved_chg ..) ?_ (by decide)
      exact Chg.refl _ _
  · refine Chg.step (State.unlisted_chg ..) ?_ (by decide)
    exact Chg.refl _ _

theorem execArbiterAgingLift_chg : ∀ a0 a1 s, ∃ t, execArbiterAgingLift a0 a1 s = .next t ∧ Chg 262176 s t := by
  intro a0 a1 s
  unfold execArbiterAgingLift
  try dsimp only
  refine ⟨_, rfl, ?_⟩
  refine Chg.when ?_ ?_
  · refine Chg.u_sched ?_ _ (by decide)
    exact Chg.refl _ _
  · refine Chg.step (State.unlisted_chg ..) ?_ (by decide)
    exact Chg.refl _ _

theorem execEpochStart_chg : ∀ s, ∃ t, execEpochStart s = .next t ∧ Chg 19312656382 s t := by
  intro s
  unfold execEpochStart
  try dsimp only
  refine ⟨_, rfl, ?_⟩
  refine Chg.when ?_ ?_
  · refine Chg.ite ?_ ?_
    · refine Chg.step (State.portEpoch_chg ..) ?_ (by decide)
      refine Chg.step (State.portEpoch_chg ..) ?_ (by decide)
      refine Chg.step (State.settleWatch_chg ..) ?_ (by decide)
      refine Chg.step (State.maintWindows_chg ..) ?_ (by decide)
      refine Chg.step (State.psDone_chg ..) ?_ (by decide)
      refine Chg.also ?_ ?_
      · refine Chg.forEach ?_ ?_
        · intro _ _
          refine Chg.step (State.woadAll_chg ..) ?_ (by decide)
          exact Chg.refl _ _
        · refine Chg.u_mode_sched ?_ _ _ (by decide)
          refine Chg.step (State.boundaries_chg ..) ?_ (by decide)
          exact Chg.refl _ _
      · refine Chg.u_mode_sched ?_ _ _ (by decide)
        refine Chg.step (State.boundaries_chg ..) ?_ (by decide)
        exact Chg.refl _ _
    · refine Chg.step (State.portEpoch_chg ..) ?_ (by decide)
      refine Chg.step (State.settleWatch_chg ..) ?_ (by decide)
      refine Chg.step (State.maintWindows_chg ..) ?_ (by decide)
      refine Chg.step (State.psDone_chg ..) ?_ (by decide)
      refine Chg.also ?_ ?_
      · refine Chg.forEach ?_ ?_
        · intro _ _
          refine Chg.step (State.woadAll_chg ..) ?_ (by decide)
          exact Chg.refl _ _
        · refine Chg.u_mode_sched ?_ _ _ (by decide)
          refine Chg.step (State.boundaries_chg ..) ?_ (by decide)
          exact Chg.refl _ _
      · refine Chg.u_mode_sched ?_ _ _ (by decide)
        refine Chg.step (State.boundaries_chg ..) ?_ (by decide)
        exact Chg.refl _ _
  · refine Chg.step (State.unlisted_chg ..) ?_ (by decide)
    exact Chg.refl _ _

theorem execIslandClockGateIdle_chg : ∀ a0 s, ∃ t, execIslandClockGateIdle a0 s = .next t ∧ Chg 2097184 s t := by
  intro a0 s
  unfold execIslandClockGateIdle
  try dsimp only
  refine ⟨_, rfl, ?_⟩
  refine Chg.when ?_ ?_
  · refine Chg.step (State.setIsland_chg ..) ?_ (by decide)
    exact Chg.refl _ _
  · refine Chg.step (State.unlisted_chg ..) ?_ (by decide)
    exact Chg.refl _ _

theorem execIslandPowerGateIdle_chg : ∀ a0 s, ∃ t, execIslandPowerGateIdle a0 s = .next t ∧ Chg 2098208 s t := by
  intro a0 s
  unfold execIslandPowerGateIdle
  try dsimp only
  refine ⟨_, rfl, ?_⟩
  refine Chg.when ?_ ?_
  · refine Chg.step (State.setIsland_chg ..) ?_ (by decide)
    refine Chg.step (State.entryBoundary_chg ..) ?_ (by decide)
    exact Chg.refl _ _
  · refine Chg.step (State.unlisted_chg ..) ?_ (by decide)
    refine Chg.step (State.entryBoundary_chg ..) ?_ (by decide)
    exact Chg.refl _ _

theorem State.gatedWake_chg : ∀ s a1, Chg 2359296 s (State.gatedWake s a1) := by
  intro s a1
  unfold State.gatedWake
  try dsimp only
  refine Chg.ite ?_ ?_
  · refine Chg.u_sched ?_ _ (by decide)
    refine Chg.step (State.setIsland_chg ..) ?_ (by decide)
    exact Chg.refl _ _
  · refine Chg.step (State.setIsland_chg ..) ?_ (by decide)
    exact Chg.refl _ _

theorem execIslandWake_chg : ∀ a0 a1 a2 s, ∃ t, execIslandWake a0 a1 a2 s = .next t ∧ Chg 2359344 s t := by
  intro a0 a1 a2 s
  unfold execIslandWake
  try dsimp only
  refine ⟨_, rfl, ?_⟩
  refine Chg.when ?_ ?_
  · refine Chg.ite ?_ ?_
    · refine Chg.u_regs ?_ _ ?_ (by decide)
      · refine Chg.ite ?_ ?_
        · refine Chg.ite ?_ ?_
          · refine Chg.step (State.setIsland_chg ..) ?_ (by decide)
            exact Chg.refl _ _
          · refine Chg.step (State.setIsland_chg ..) ?_ (by decide)
            exact Chg.refl _ _
        · refine Chg.ite ?_ ?_
          · refine Chg.step (State.gatedWake_chg ..) ?_ (by decide)
            exact Chg.refl _ _
          · refine Chg.step (State.setIsland_chg ..) ?_ (by decide)
            exact Chg.refl _ _
      · exact fun w => w
    · refine Chg.ite ?_ ?_
      · refine Chg.ite ?_ ?_
        · refine Chg.step (State.setIsland_chg ..) ?_ (by decide)
          exact Chg.refl _ _
        · refine Chg.step (State.setIsland_chg ..) ?_ (by decide)
          exact Chg.refl _ _
      · refine Chg.ite ?_ ?_
        · refine Chg.step (State.gatedWake_chg ..) ?_ (by decide)
          exact Chg.refl _ _
        · refine Chg.step (State.setIsland_chg ..) ?_ (by decide)
          exact Chg.refl _ _
  · refine Chg.step (State.unlisted_chg ..) ?_ (by decide)
    exact Chg.refl _ _

theorem execPowerGateEntryComplete_chg : ∀ a0 s, ∃ t, execPowerGateEntryComplete a0 s = .next t ∧ Chg 2359328 s t := by
  intro a0 s
  unfold execPowerGateEntryComplete
  try dsimp only
  refine ⟨_, rfl, ?_⟩
  refine Chg.when ?_ ?_
  · refine Chg.ite ?_ ?_
    · refine Chg.step (State.gatedWake_chg ..) ?_ (by decide)
      exact Chg.refl _ _
    · refine Chg.step (State.setIsland_chg ..) ?_ (by decide)
      exact Chg.refl _ _
  · refine Chg.step (State.unlisted_chg ..) ?_ (by decide)
    exact Chg.refl _ _

theorem execEngineEvent_chg : ∀ a0 s, ∃ t, execEngineEvent a0 s = .next t ∧ Chg 4194336 s t := by
  intro a0 s
  unfold execEngineEvent
  try dsimp only
  refine ⟨_, rfl, ?_⟩
  refine Chg.when ?_ ?_
  · refine Chg.step (State.setEngine_chg ..) ?_ (by decide)
    exact Chg.refl _ _
  · refine Chg.step (State.unlisted_chg ..) ?_ (by decide)
    exact Chg.refl _ _

theorem execEngineEventTimeout_chg : ∀ a0 s, ∃ t, execEngineEventTimeout a0 s = .next t ∧ Chg 206481399994 s t := by
  intro a0 s
  unfold execEngineEventTimeout
  try dsimp only
  refine ⟨_, rfl, ?_⟩
  refine Chg.when ?_ ?_
  · refine Chg.step (State.engineFail_chg ..) ?_ (by decide)
    exact Chg.refl _ _
  · refine Chg.step (State.unlisted_chg ..) ?_ (by decide)
    exact Chg.refl _ _

theorem execEngineFailed_chg : ∀ a0 s, ∃ t, execEngineFailed a0 s = .next t ∧ Chg 206481399994 s t := by
  intro a0 s
  unfold execEngineFailed
  try dsimp only
  refine ⟨_, rfl, ?_⟩
  refine Chg.when ?_ ?_
  · refine Chg.step (State.engineFail_chg ..) ?_ (by decide)
    exact Chg.refl _ _
  · refine Chg.step (State.unlisted_chg ..) ?_ (by decide)
    exact Chg.refl _ _

theorem execMeasurementIntervalEnd_chg : ∀ s, ∃ t, execMeasurementIntervalEnd s = .next t ∧ Chg 1310752 s t := by
  intro s
  unfold execMeasurementIntervalEnd
  try dsimp only
  refine ⟨_, rfl, ?_⟩
  refine Chg.when ?_ ?_
  · refine Chg.forEach ?_ ?_
    · intro _ _
      refine Chg.ite ?_ ?_
      · refine Chg.step (State.setChan_chg ..) ?_ (by decide)
        exact Chg.refl _ _
      · exact Chg.refl _ _
    · refine Chg.u_sched ?_ _ (by decide)
      exact Chg.refl _ _
  · refine Chg.step (State.unlisted_chg ..) ?_ (by decide)
    exact Chg.refl _ _

end Sys2Proof.Machine
end

