-- ==== Sys2Proof/Laws/ChgJournal.lean ====
section
/-! SUPPORT. What the operations of Machine/Journal.lean may change: one lemma for each. -/

set_option linter.all false

namespace Sys2Proof.Machine

theorem State.fillDrop_chg : ∀ s a1 a2, Chg 67108864 s (State.fillDrop s a1 a2) := by
  intro s a1 a2
  unfold State.fillDrop
  try dsimp only
  refine Chg.u_map ?_ _ (by decide)
  exact Chg.refl _ _

theorem State.pageExact_chg : ∀ s a1 a2, Chg 75497472 s (State.pageExact s a1 a2) := by
  intro s a1 a2
  unfold State.pageExact
  try dsimp only
  refine Chg.ite ?_ ?_
  · refine Chg.step (State.setPage_chg ..) ?_ (by decide)
    refine Chg.step (State.setNs_chg ..) ?_ (by decide)
    exact Chg.refl _ _
  · exact Chg.refl _ _

theorem State.fillGood_chg : ∀ s a1, Chg 18245428306 s (State.fillGood s a1) := by
  intro s a1
  unfold State.fillGood
  try dsimp only
  refine Chg.step (State.indexFill_chg ..) ?_ (by decide)
  refine Chg.step (State.movesApply_chg ..) ?_ (by decide)
  refine Chg.step (State.resolveWaiters_chg ..) ?_ (by decide)
  refine Chg.step (State.setPage_chg ..) ?_ (by decide)
  refine Chg.step (State.pageExact_chg ..) ?_ (by decide)
  refine Chg.step (State.fillDrop_chg ..) ?_ (by decide)
  exact Chg.refl _ _

theorem State.fillBad_chg : ∀ s a1, Chg 18245477490 s (State.fillBad s a1) := by
  intro s a1
  unfold State.fillBad
  try dsimp only
  refine Chg.ite ?_ ?_
  · refine Chg.u_map ?_ _ (by decide)
    refine Chg.step (State.setPage_chg ..) ?_ (by decide)
    refine Chg.step (State.checkFailed_chg ..) ?_ (by decide)
    exact Chg.refl _ _
  · refine Chg.step (State.movesApply_chg ..) ?_ (by decide)
    refine Chg.step (State.resolveWaiters_chg ..) ?_ (by decide)
    refine Chg.step (State.pageLost_chg ..) ?_ (by decide)
    refine Chg.step (State.pageExact_chg ..) ?_ (by decide)
    refine Chg.step (State.fillDrop_chg ..) ?_ (by decide)
    refine Chg.step (State.checkFailed_chg ..) ?_ (by decide)
    exact Chg.refl _ _

theorem State.hmbDone_chg : ∀ s, Chg 318775296 s (State.hmbDone s) := by
  intro s
  unfold State.hmbDone
  try dsimp only
  refine Chg.ite ?_ ?_
  · exact Chg.refl _ _
  · refine Chg.forEach ?_ ?_
    · intro _ _
      refine Chg.step (State.succeed_chg ..) ?_ (by decide)
      exact Chg.refl _ _
    · exact Chg.refl _ _

theorem execMapFillComplete_chg : ∀ a0 a1 a2 s, ∃ t, execMapFillComplete a0 a1 a2 s = .next t ∧ Chg 18245477490 s t := by
  intro a0 a1 a2 s
  unfold execMapFillComplete
  try dsimp only
  refine ⟨_, rfl, ?_⟩
  split
  · refine Chg.step (State.unlisted_chg ..) ?_ (by decide)
    exact Chg.refl _ _
  · refine Chg.step (State.hmbDone_chg ..) ?_ (by decide)
    refine Chg.ite ?_ ?_
    · refine Chg.step (State.fillGood_chg ..) ?_ (by decide)
      exact Chg.refl _ _
    · refine Chg.step (State.fillBad_chg ..) ?_ (by decide)
      exact Chg.refl _ _

theorem execJournalPageTimer_chg : ∀ s, ∃ t, execJournalPageTimer s = .next t ∧ Chg 134217760 s t := by
  intro s
  unfold execJournalPageTimer
  try dsimp only
  refine ⟨_, rfl, ?_⟩
  refine Chg.when ?_ ?_
  · refine Chg.step (State.closeTail_chg ..) ?_ (by decide)
    exact Chg.refl _ _
  · refine Chg.step (State.unlisted_chg ..) ?_ (by decide)
    exact Chg.refl _ _

theorem execJournalPageDurable_chg : ∀ s, ∃ t, execJournalPageDurable s = .next t ∧ Chg 19311305978 s t := by
  intro s
  unfold execJournalPageDurable
  try dsimp only
  refine ⟨_, rfl, ?_⟩
  refine Chg.when ?_ ?_
  · refine Chg.step (State.settleWatch_chg ..) ?_ (by decide)
    refine Chg.step (State.mediaPump_chg ..) ?_ (by decide)
    refine Chg.step (State.jrnWatch_chg ..) ?_ (by decide)
    refine Chg.step (State.pageDurable_chg ..) ?_ (by decide)
    exact Chg.refl _ _
  · refine Chg.step (State.unlisted_chg ..) ?_ (by decide)
    exact Chg.refl _ _

theorem execCheckpointInterval_chg : ∀ s, ∃ t, execCheckpointInterval s = .next t ∧ Chg 18169930866 s t := by
  intro s
  unfold execCheckpointInterval
  try dsimp only
  refine ⟨_, rfl, ?_⟩
  refine Chg.ite ?_ ?_
  · refine Chg.step (State.checkpoint_chg ..) ?_ (by decide)
    refine Chg.step (State.boundary_chg ..) ?_ (by decide)
    exact Chg.refl _ _
  · refine Chg.step (State.unlisted_chg ..) ?_ (by decide)
    exact Chg.refl _ _

theorem execCheckpointEndDurable_chg : ∀ s, ∃ t, execCheckpointEndDurable s = .next t ∧ Chg 19310781690 s t := by
  intro s
  unfold execCheckpointEndDurable
  try dsimp only
  refine ⟨_, rfl, ?_⟩
  refine Chg.when ?_ ?_
  · refine Chg.step (State.settleWatch_chg ..) ?_ (by decide)
    refine Chg.step (State.checkpointDone_chg ..) ?_ (by decide)
    exact Chg.refl _ _
  · refine Chg.step (State.unlisted_chg ..) ?_ (by decide)
    exact Chg.refl _ _

theorem execWritebackProgramDone_chg : ∀ a0 a1 a2 a3 s, ∃ t, execWritebackProgramDone a0 a1 a2 a3 s = .next t ∧ Chg 17700168818 s t := by
  intro a0 a1 a2 a3 s
  unfold execWritebackProgramDone
  try dsimp only
  refine ⟨_, rfl, ?_⟩
  refine Chg.when ?_ ?_
  · refine Chg.step (State.writebackDone_chg ..) ?_ (by decide)
    exact Chg.refl _ _
  · refine Chg.step (State.unlisted_chg ..) ?_ (by decide)
    exact Chg.refl _ _

end Sys2Proof.Machine
end

