-- ==== Sys2Proof/Laws/ChgChannels.lean ====
section
/-! SUPPORT. What the operations of Machine/Channels.lean may change: one lemma for each. -/

set_option linter.all false

namespace Sys2Proof.Machine

theorem State.reducedWatch_chg : ∀ s, Chg 8 s (State.reducedWatch s) := by
  intro s
  unfold State.reducedWatch
  try dsimp only
  refine Chg.ite ?_ ?_
  · refine Chg.step (State.sustainSet_chg ..) ?_ (by decide)
    exact Chg.refl _ _
  · refine Chg.step (State.sustainClear_chg ..) ?_ (by decide)
    exact Chg.refl _ _

theorem State.chanTrained_chg : ∀ s a1, Chg 17500677210 s (State.chanTrained s a1) := by
  intro s a1
  unfold State.chanTrained
  try dsimp only
  refine Chg.step (State.woadAll_chg ..) ?_ (by decide)
  refine Chg.step (State.reducedWatch_chg ..) ?_ (by decide)
  refine Chg.step (State.setChan_chg ..) ?_ (by decide)
  exact Chg.refl _ _

theorem State.retrainAsk_chg : ∀ s a1, Chg 1048576 s (State.retrainAsk s a1) := by
  intro s a1
  unfold State.retrainAsk
  try dsimp only
  refine Chg.ite ?_ ?_
  · refine Chg.step (State.setChan_chg ..) ?_ (by decide)
    exact Chg.refl _ _
  · exact Chg.refl _ _

theorem State.busNext_chg : ∀ s a1, Chg 1048578 s (State.busNext s a1) := by
  intro s a1
  unfold State.busNext
  try dsimp only
  split
  · refine Chg.step (State.emit_chg ..) ?_ (by decide)
    refine Chg.step (State.setChan_chg ..) ?_ (by decide)
    exact Chg.refl _ _
  · exact Chg.refl _ _

theorem State.readsEscalate_chg : ∀ s a1, Chg 8192 s (State.readsEscalate s a1) := by
  intro s a1
  unfold State.readsEscalate
  try dsimp only
  refine Chg.u_tags ?_ _ (by decide)
  exact Chg.refl _ _

theorem State.countProgramFail_chg : ∀ s a1, Chg 1048576 s (State.countProgramFail s a1) := by
  intro s a1
  unfold State.countProgramFail
  try dsimp only
  refine Chg.step (State.setChan_chg ..) ?_ (by decide)
  exact Chg.refl _ _

theorem State.countEraseFail_chg : ∀ s a1, Chg 1048576 s (State.countEraseFail s a1) := by
  intro s a1
  unfold State.countEraseFail
  try dsimp only
  refine Chg.step (State.setChan_chg ..) ?_ (by decide)
  exact Chg.refl _ _

theorem State.lunEnd_chg : ∀ s a1 a2, Chg 88040236154 s (State.lunEnd s a1 a2) := by
  intro s a1 a2
  unfold State.lunEnd
  try dsimp only
  refine Chg.step (State.mediaPump_chg ..) ?_ (by decide)
  refine Chg.step (State.lunRetire_chg ..) ?_ (by decide)
  refine Chg.forEach ?_ ?_
  · intro _ _
    refine Chg.step (State.blockRetire_chg ..) ?_ (by decide)
    refine Chg.step (State.countEraseFail_chg ..) ?_ (by decide)
    exact Chg.refl _ _
  · refine Chg.forEach ?_ ?_
    · intro _ _
      refine Chg.step (State.programEnd_chg ..) ?_ (by decide)
      refine Chg.step (State.countProgramFail_chg ..) ?_ (by decide)
      exact Chg.refl _ _
    · refine Chg.step (State.readsEscalate_chg ..) ?_ (by decide)
      refine Chg.step (State.setLun_chg ..) ?_ (by decide)
      exact Chg.refl _ _

theorem State.chanFail_chg : ∀ s a1 a2, Chg 88042333434 s (State.chanFail s a1 a2) := by
  intro s a1 a2
  unfold State.chanFail
  try dsimp only
  refine Chg.ite ?_ ?_
  · exact Chg.refl _ _
  · refine Chg.step (State.critWatch_chg ..) ?_ (by decide)
    refine Chg.step (State.spareCheck_chg ..) ?_ (by decide)
    refine Chg.step (State.rasReport_chg ..) ?_ (by decide)
    refine Chg.step (State.reducedWatch_chg ..) ?_ (by decide)
    refine Chg.step (State.setIsland_chg ..) ?_ (by decide)
    refine Chg.forEach ?_ ?_
    · intro _ _
      refine Chg.step (State.lunEnd_chg ..) ?_ (by decide)
      exact Chg.refl _ _
    · refine Chg.step (State.setChan_chg ..) ?_ (by decide)
      exact Chg.refl _ _

theorem State.lunFail_chg : ∀ s a1 a2 a3, Chg 225481286906 s (State.lunFail s a1 a2 a3) := by
  intro s a1 a2 a3
  unfold State.lunFail
  try dsimp only
  refine Chg.ite ?_ ?_
  · exact Chg.refl _ _
  · refine Chg.ite ?_ ?_
    · refine Chg.step (State.chanFail_chg ..) ?_ (by decide)
      refine Chg.step (State.critWatch_chg ..) ?_ (by decide)
      refine Chg.step (State.spareCheck_chg ..) ?_ (by decide)
      refine Chg.step (State.rasReport_chg ..) ?_ (by decide)
      refine Chg.step (State.sanitizeLun_chg ..) ?_ (by decide)
      refine Chg.step (State.lunEnd_chg ..) ?_ (by decide)
      exact Chg.refl _ _
    · refine Chg.step (State.critWatch_chg ..) ?_ (by decide)
      refine Chg.step (State.spareCheck_chg ..) ?_ (by decide)
      refine Chg.step (State.rasReport_chg ..) ?_ (by decide)
      refine Chg.step (State.sanitizeLun_chg ..) ?_ (by decide)
      refine Chg.step (State.lunEnd_chg ..) ?_ (by decide)
      exact Chg.refl _ _

theorem execChannelTrainingResult_chg : ∀ a0 a1 s, ∃ t, execChannelTrainingResult a0 a1 s = .next t ∧ Chg 88042595578 s t := by
  intro a0 a1 s
  unfold execChannelTrainingResult
  try dsimp only
  refine ⟨_, rfl, ?_⟩
  refine Chg.when ?_ ?_
  · refine Chg.ite ?_ ?_
    · refine Chg.step (State.chanTrained_chg ..) ?_ (by decide)
      exact Chg.refl _ _
    · refine Chg.ite ?_ ?_
      · refine Chg.step (State.setChan_chg ..) ?_ (by decide)
        exact Chg.refl _ _
      · refine Chg.step (State.chanFail_chg ..) ?_ (by decide)
        exact Chg.refl _ _
  · refine Chg.step (State.unlisted_chg ..) ?_ (by decide)
    exact Chg.refl _ _

theorem execRetrainHoursTimer_chg : ∀ a0 s, ∃ t, execRetrainHoursTimer a0 s = .next t ∧ Chg 1048608 s t := by
  intro a0 s
  unfold execRetrainHoursTimer
  try dsimp only
  refine ⟨_, rfl, ?_⟩
  refine Chg.when ?_ ?_
  · refine Chg.step (State.retrainAsk_chg ..) ?_ (by decide)
    exact Chg.refl _ _
  · refine Chg.step (State.unlisted_chg ..) ?_ (by decide)
    exact Chg.refl _ _

theorem execRetrain_chg : ∀ a0 s, ∃ t, execRetrain a0 s = .next t ∧ Chg 1048608 s t := by
  intro a0 s
  unfold execRetrain
  try dsimp only
  refine ⟨_, rfl, ?_⟩
  refine Chg.when ?_ ?_
  · refine Chg.step (State.retrainAsk_chg ..) ?_ (by decide)
    exact Chg.refl _ _
  · refine Chg.step (State.unlisted_chg ..) ?_ (by decide)
    exact Chg.refl _ _

theorem execRetrainStepDone_chg : ∀ a0 a1 a2 s, ∃ t, execRetrainStepDone a0 a1 a2 s = .next t ∧ Chg 17500677242 s t := by
  intro a0 a1 a2 s
  unfold execRetrainStepDone
  try dsimp only
  refine ⟨_, rfl, ?_⟩
  refine Chg.when ?_ ?_
  · refine Chg.ite ?_ ?_
    · refine Chg.step (State.reducedWatch_chg ..) ?_ (by decide)
      refine Chg.step (State.setChan_chg ..) ?_ (by decide)
      exact Chg.refl _ _
    · refine Chg.ite ?_ ?_
      · refine Chg.step (State.busNext_chg ..) ?_ (by decide)
        refine Chg.step (State.chanTrained_chg ..) ?_ (by decide)
        exact Chg.refl _ _
      · refine Chg.ite ?_ ?_
        · exact Chg.refl _ _
        · refine Chg.step (State.busNext_chg ..) ?_ (by decide)
          refine Chg.step (State.setChan_chg ..) ?_ (by decide)
          exact Chg.refl _ _
  · refine Chg.step (State.unlisted_chg ..) ?_ (by decide)
    exact Chg.refl _ _

theorem execRbNHint_chg : ∀ a0 s, ∃ t, execRbNHint a0 s = .next t ∧ Chg 34 s t := by
  intro a0 s
  unfold execRbNHint
  try dsimp only
  refine ⟨_, rfl, ?_⟩
  refine Chg.when ?_ ?_
  · refine Chg.forEach ?_ ?_
    · intro _ _
      refine Chg.ite ?_ ?_
      · refine Chg.step (State.emit_chg ..) ?_ (by decide)
        exact Chg.refl _ _
      · exact Chg.refl _ _
    · exact Chg.refl _ _
  · refine Chg.step (State.unlisted_chg ..) ?_ (by decide)
    exact Chg.refl _ _

theorem execLunBusyTimeout_chg : ∀ a0 a1 s, ∃ t, execLunBusyTimeout a0 a1 s = .next t ∧ Chg 225481286906 s t := by
  intro a0 a1 s
  unfold execLunBusyTimeout
  try dsimp only
  refine ⟨_, rfl, ?_⟩
  refine Chg.when ?_ ?_
  · refine Chg.ite ?_ ?_
    · refine Chg.step (State.lunFail_chg ..) ?_ (by decide)
      refine Chg.step (State.emit_chg ..) ?_ (by decide)
      refine Chg.step (State.setChan_chg ..) ?_ (by decide)
      refine Chg.step (State.setLun_chg ..) ?_ (by decide)
      exact Chg.refl _ _
    · refine Chg.step (State.emit_chg ..) ?_ (by decide)
      refine Chg.step (State.setChan_chg ..) ?_ (by decide)
      refine Chg.step (State.setLun_chg ..) ?_ (by decide)
      exact Chg.refl _ _
  · refine Chg.step (State.unlisted_chg ..) ?_ (by decide)
    exact Chg.refl _ _

theorem State.opEnded_chg : ∀ s a1 a2 a3, Chg 19312616538 s (State.opEnded s a1 a2 a3) := by
  intro s a1 a2 a3
  unfold State.opEnded
  try dsimp only
  split
  · refine Chg.step (State.readsEscalate_chg ..) ?_ (by decide)
    exact Chg.refl _ _
  · split
    · refine Chg.step (State.programAgain_chg ..) ?_ (by decide)
      refine Chg.step (State.countProgramFail_chg ..) ?_ (by decide)
      exact Chg.refl _ _
    · exact Chg.refl _ _
  · refine Chg.step (State.dieArrive_chg ..) ?_ (by decide)
    exact Chg.refl _ _

theorem execLunResetCheck_chg : ∀ a0 a1 a2 s, ∃ t, execLunResetCheck a0 a1 a2 s = .next t ∧ Chg 225481549050 s t := by
  intro a0 a1 a2 s
  unfold execLunResetCheck
  try dsimp only
  refine ⟨_, rfl, ?_⟩
  refine Chg.when ?_ ?_
  · refine Chg.ite ?_ ?_
    · refine Chg.step (State.lunFail_chg ..) ?_ (by decide)
      exact Chg.refl _ _
    · refine Chg.step (State.woad_chg ..) ?_ (by decide)
      refine Chg.forEach ?_ ?_
      · intro _ _
        refine Chg.step (State.opEnded_chg ..) ?_ (by decide)
        exact Chg.refl _ _
      · refine Chg.step (State.setLun_chg ..) ?_ (by decide)
        exact Chg.refl _ _
  · refine Chg.step (State.unlisted_chg ..) ?_ (by decide)
    exact Chg.refl _ _

theorem execSyncResetTimeout_chg : ∀ a0 s, ∃ t, execSyncResetTimeout a0 s = .next t ∧ Chg 88042333434 s t := by
  intro a0 s
  unfold execSyncResetTimeout
  try dsimp only
  refine ⟨_, rfl, ?_⟩
  refine Chg.when ?_ ?_
  · refine Chg.step (State.chanFail_chg ..) ?_ (by decide)
    exact Chg.refl _ _
  · refine Chg.step (State.unlisted_chg ..) ?_ (by decide)
    exact Chg.refl _ _

theorem execSequencerParityError_chg : ∀ a0 a1 s, ∃ t, execSequencerParityError a0 a1 s = .next t ∧ Chg 88042333434 s t := by
  intro a0 a1 s
  unfold execSequencerParityError
  try dsimp only
  refine ⟨_, rfl, ?_⟩
  refine Chg.when ?_ ?_
  · refine Chg.ite ?_ ?_
    · refine Chg.step (State.chanFail_chg ..) ?_ (by decide)
      refine Chg.step (State.setChan_chg ..) ?_ (by decide)
      exact Chg.refl _ _
    · refine Chg.step (State.setChan_chg ..) ?_ (by decide)
      exact Chg.refl _ _
  · refine Chg.step (State.unlisted_chg ..) ?_ (by decide)
    exact Chg.refl _ _

end Sys2Proof.Machine
end

