-- ==== Sys2Proof/Laws/ChgMedia.lean ====
section
/-! SUPPORT. What the operations of Machine/Media.lean may change: one lemma for each. -/

set_option linter.all false

namespace Sys2Proof.Machine

theorem State.rowAgain_chg : ∀ s a1 a2, Chg 2097152000 s (State.rowAgain s a1 a2) := by
  intro s a1 a2
  unfold State.rowAgain
  try dsimp only
  refine Chg.ite ?_ ?_
  · refine Chg.step (State.parityDone_chg ..) ?_ (by decide)
    refine Chg.forEach ?_ ?_
    · intro _ _
      refine Chg.step (State.zoneRelocate_chg ..) ?_ (by decide)
      exact Chg.refl _ _
    · exact Chg.refl _ _
  · exact Chg.refl _ _

theorem execProgramComplete_chg : ∀ a0 a1 s, ∃ t, execProgramComplete a0 a1 s = .next t ∧ Chg 88039187706 s t := by
  intro a0 a1 s
  unfold execProgramComplete
  try dsimp only
  refine ⟨_, rfl, ?_⟩
  refine Chg.when ?_ ?_
  · refine Chg.step (State.settleWatch_chg ..) ?_ (by decide)
    refine Chg.step (State.rowAgain_chg ..) ?_ (by decide)
    refine Chg.step (State.programEnd_chg ..) ?_ (by decide)
    exact Chg.refl _ _
  · refine Chg.step (State.unlisted_chg ..) ?_ (by decide)
    exact Chg.refl _ _

theorem State.sbOpened_chg : ∀ s a1, Chg 1611137048 s (State.sbOpened s a1) := by
  intro s a1
  unfold State.sbOpened
  try dsimp only
  refine Chg.ite ?_ ?_
  · exact Chg.refl _ _
  · refine Chg.step (State.setSb_chg ..) ?_ (by decide)
    refine Chg.forEach ?_ ?_
    · intro _ _
      refine Chg.step (State.blockRetire_chg ..) ?_ (by decide)
      exact Chg.refl _ _
    · exact Chg.refl _ _

theorem execEraseComplete_chg : ∀ a0 a1 a2 s, ∃ t, execEraseComplete a0 a1 a2 s = .next t ∧ Chg 225478141178 s t := by
  intro a0 a1 a2 s
  unfold execEraseComplete
  try dsimp only
  refine ⟨_, rfl, ?_⟩
  refine Chg.when ?_ ?_
  · refine Chg.step (State.settleWatch_chg ..) ?_ (by decide)
    refine Chg.step (State.critWatch_chg ..) ?_ (by decide)
    refine Chg.step (State.spareCheck_chg ..) ?_ (by decide)
    refine Chg.ite ?_ ?_
    · refine Chg.step (State.sanitizeErase_chg ..) ?_ (by decide)
      exact Chg.refl _ _
    · refine Chg.step (State.mediaPump_chg ..) ?_ (by decide)
      refine Chg.step (State.sbOpened_chg ..) ?_ (by decide)
      refine Chg.ite ?_ ?_
      · refine Chg.step (State.setSb_chg ..) ?_ (by decide)
        exact Chg.refl _ _
      · refine Chg.step (State.blockRetire_chg ..) ?_ (by decide)
        exact Chg.refl _ _
  · refine Chg.step (State.unlisted_chg ..) ?_ (by decide)
    exact Chg.refl _ _

theorem State.rowFill_chg : ∀ s a1, Chg 536870912 s (State.rowFill s a1) := by
  intro s a1
  unfold State.rowFill
  try dsimp only
  refine Chg.forEach ?_ ?_
  · intro _ _
    refine Chg.step (State.pageStart_chg ..) ?_ (by decide)
    exact Chg.refl _ _
  · refine Chg.step (State.setSb_chg ..) ?_ (by decide)
    exact Chg.refl _ _

theorem execRowHoldExpiry_chg : ∀ a0 s, ∃ t, execRowHoldExpiry a0 s = .next t ∧ Chg 18035713138 s t := by
  intro a0 s
  unfold execRowHoldExpiry
  try dsimp only
  refine ⟨_, rfl, ?_⟩
  refine Chg.when ?_ ?_
  · refine Chg.ite ?_ ?_
    · refine Chg.step (State.rowFill_chg ..) ?_ (by decide)
      refine Chg.step (State.boundary_chg ..) ?_ (by decide)
      exact Chg.refl _ _
    · refine Chg.step (State.parityStart_chg ..) ?_ (by decide)
      refine Chg.step (State.boundary_chg ..) ?_ (by decide)
      exact Chg.refl _ _
  · refine Chg.step (State.unlisted_chg ..) ?_ (by decide)
    refine Chg.step (State.boundary_chg ..) ?_ (by decide)
    exact Chg.refl _ _

theorem State.sbDrain_chg : ∀ s a1, Chg 536870912 s (State.sbDrain s a1) := by
  intro s a1
  unfold State.sbDrain
  try dsimp only
  refine Chg.ite ?_ ?_
  · refine Chg.step (State.setSb_chg ..) ?_ (by decide)
    exact Chg.refl _ _
  · exact Chg.refl _ _

theorem execFoldTask_chg : ∀ a0 s, ∃ t, execFoldTask a0 s = .next t ∧ Chg 19311305850 s t := by
  intro a0 s
  unfold execFoldTask
  try dsimp only
  refine ⟨_, rfl, ?_⟩
  refine Chg.when ?_ ?_
  · refine Chg.step (State.mediaPump_chg ..) ?_ (by decide)
    refine Chg.ite ?_ ?_
    · refine Chg.u_media ?_ _ (by decide)
      refine Chg.step (State.relocate_chg ..) ?_ (by decide)
      refine Chg.step (State.sbDrain_chg ..) ?_ (by decide)
      refine Chg.step (State.boundary_chg ..) ?_ (by decide)
      exact Chg.refl _ _
    · refine Chg.step (State.relocate_chg ..) ?_ (by decide)
      refine Chg.step (State.sbDrain_chg ..) ?_ (by decide)
      refine Chg.step (State.boundary_chg ..) ?_ (by decide)
      exact Chg.refl _ _
  · refine Chg.step (State.unlisted_chg ..) ?_ (by decide)
    refine Chg.step (State.boundary_chg ..) ?_ (by decide)
    exact Chg.refl _ _

theorem execFoldIdleTimer_chg : ∀ s, ∃ t, execFoldIdleTimer s = .next t ∧ Chg 536870944 s t := by
  intro s
  unfold execFoldIdleTimer
  try dsimp only
  refine ⟨_, rfl, ?_⟩
  refine Chg.when ?_ ?_
  · refine Chg.u_media ?_ _ (by decide)
    exact Chg.refl _ _
  · refine Chg.step (State.unlisted_chg ..) ?_ (by decide)
    exact Chg.refl _ _

theorem State.zonesOut_chg : ∀ s a1 a2, Chg 1828716544 s (State.zonesOut s a1 a2) := by
  intro s a1 a2
  unfold State.zonesOut
  try dsimp only
  refine Chg.forEach ?_ ?_
  · intro _ _
    refine Chg.step (State.zoneRelocate_chg ..) ?_ (by decide)
    exact Chg.refl _ _
  · exact Chg.refl _ _

theorem execGcTask_chg : ∀ a0 s, ∃ t, execGcTask a0 s = .next t ∧ Chg 19311305850 s t := by
  intro a0 s
  unfold execGcTask
  try dsimp only
  refine ⟨_, rfl, ?_⟩
  refine Chg.when ?_ ?_
  · split
    · refine Chg.step (State.boundary_chg ..) ?_ (by decide)
      exact Chg.refl _ _
    · refine Chg.ite ?_ ?_
      · refine Chg.step (State.mediaPump_chg ..) ?_ (by decide)
        refine Chg.forEach ?_ ?_
        · intro _ _
          refine Chg.step (State.zoneRelocate_chg ..) ?_ (by decide)
          exact Chg.refl _ _
        · refine Chg.step (State.boundary_chg ..) ?_ (by decide)
          exact Chg.refl _ _
      · refine Chg.step (State.mediaPump_chg ..) ?_ (by decide)
        refine Chg.also ?_ ?_
        · refine Chg.step (State.fdpEvent_chg ..) ?_ (by decide)
          refine Chg.step (State.relocate_chg ..) ?_ (by decide)
          refine Chg.step (State.sbDrain_chg ..) ?_ (by decide)
          refine Chg.step (State.boundary_chg ..) ?_ (by decide)
          exact Chg.refl _ _
        · refine Chg.step (State.relocate_chg ..) ?_ (by decide)
          refine Chg.step (State.sbDrain_chg ..) ?_ (by decide)
          refine Chg.step (State.boundary_chg ..) ?_ (by decide)
          exact Chg.refl _ _
  · refine Chg.step (State.unlisted_chg ..) ?_ (by decide)
    refine Chg.step (State.boundary_chg ..) ?_ (by decide)
    exact Chg.refl _ _

theorem State.wearMove_chg : ∀ s, Chg 1828716544 s (State.wearMove s) := by
  intro s
  unfold State.wearMove
  try dsimp only
  split
  · exact Chg.refl _ _
  · split
    · exact Chg.refl _ _
    · refine Chg.ite ?_ ?_
      · refine Chg.step (State.zonesOut_chg ..) ?_ (by decide)
        refine Chg.step (State.sbAlloc_chg ..) ?_ (by decide)
        refine Chg.step (State.sbDrain_chg ..) ?_ (by decide)
        exact Chg.refl _ _
      · refine Chg.forEach ?_ ?_
        · intro _ _
          refine Chg.step (State.moveIssue_chg ..) ?_ (by decide)
          exact Chg.refl _ _
        · refine Chg.step (State.sbAlloc_chg ..) ?_ (by decide)
          refine Chg.step (State.sbDrain_chg ..) ?_ (by decide)
          exact Chg.refl _ _

theorem State.wearMoves_chg : ∀ s a1, Chg 1828716544 s (State.wearMoves s a1) := by
  intro s a1
  induction a1 generalizing s with
  | zero => exact Chg.refl _ _
  | succ n ih =>
    unfold State.wearMoves
    exact Chg.ite (Chg.step (ih _) (Chg.step (State.wearMove_chg ..) (Chg.refl _ _) (by decide)) (by decide)) (Chg.refl _ _)

theorem execWearLevelHourly_chg : ∀ s, ∃ t, execWearLevelHourly s = .next t ∧ Chg 19311305850 s t := by
  intro s
  unfold execWearLevelHourly
  try dsimp only
  refine ⟨_, rfl, ?_⟩
  refine Chg.when ?_ ?_
  · refine Chg.step (State.mediaPump_chg ..) ?_ (by decide)
    refine Chg.also ?_ ?_
    · refine Chg.step (State.fdpEvent_chg ..) ?_ (by decide)
      refine Chg.step (State.wearMoves_chg ..) ?_ (by decide)
      refine Chg.u_media ?_ _ (by decide)
      refine Chg.step (State.boundary_chg ..) ?_ (by decide)
      exact Chg.refl _ _
    · refine Chg.step (State.wearMoves_chg ..) ?_ (by decide)
      refine Chg.u_media ?_ _ (by decide)
      refine Chg.step (State.boundary_chg ..) ?_ (by decide)
      exact Chg.refl _ _
  · refine Chg.step (State.unlisted_chg ..) ?_ (by decide)
    refine Chg.step (State.boundary_chg ..) ?_ (by decide)
    exact Chg.refl _ _

theorem State.fillerClose_chg : ∀ s a1, Chg 570425360 s (State.fillerClose s a1) := by
  intro s a1
  unfold State.fillerClose
  try dsimp only
  refine Chg.ite ?_ ?_
  · refine Chg.step (State.setSb_chg ..) ?_ (by decide)
    refine Chg.also ?_ ?_
    · refine Chg.step (State.fdpEvent_chg ..) ?_ (by decide)
      refine Chg.step (State.medBit_chg ..) ?_ (by decide)
      refine Chg.u_media ?_ _ (by decide)
      exact Chg.refl _ _
    · refine Chg.step (State.medBit_chg ..) ?_ (by decide)
      refine Chg.u_media ?_ _ (by decide)
      exact Chg.refl _ _
  · refine Chg.ite ?_ ?_
    · refine Chg.step (State.setSb_chg ..) ?_ (by decide)
      refine Chg.also ?_ ?_
      · refine Chg.step (State.fdpEvent_chg ..) ?_ (by decide)
        refine Chg.step (State.medBit_chg ..) ?_ (by decide)
        refine Chg.u_media ?_ _ (by decide)
        exact Chg.refl _ _
      · refine Chg.step (State.medBit_chg ..) ?_ (by decide)
        refine Chg.u_media ?_ _ (by decide)
        exact Chg.refl _ _
    · refine Chg.forEach ?_ ?_
      · intro _ _
        refine Chg.step (State.pageStart_chg ..) ?_ (by decide)
        exact Chg.refl _ _
      · refine Chg.step (State.setSb_chg ..) ?_ (by decide)
        refine Chg.also ?_ ?_
        · refine Chg.step (State.fdpEvent_chg ..) ?_ (by decide)
          refine Chg.step (State.medBit_chg ..) ?_ (by decide)
          refine Chg.u_media ?_ _ (by decide)
          exact Chg.refl _ _
        · refine Chg.step (State.medBit_chg ..) ?_ (by decide)
          refine Chg.u_media ?_ _ (by decide)
          exact Chg.refl _ _

theorem execIdleClosure_chg : ∀ a0 s, ∃ t, execIdleClosure a0 s = .next t ∧ Chg 19311305850 s t := by
  intro a0 s
  unfold execIdleClosure
  try dsimp only
  refine ⟨_, rfl, ?_⟩
  refine Chg.when ?_ ?_
  · refine Chg.step (State.mediaPump_chg ..) ?_ (by decide)
    refine Chg.step (State.fillerClose_chg ..) ?_ (by decide)
    exact Chg.refl _ _
  · refine Chg.step (State.unlisted_chg ..) ?_ (by decide)
    exact Chg.refl _ _

theorem execRefreshTask_chg : ∀ a0 s, ∃ t, execRefreshTask a0 s = .next t ∧ Chg 19311305850 s t := by
  intro a0 s
  unfold execRefreshTask
  try dsimp only
  refine ⟨_, rfl, ?_⟩
  refine Chg.when ?_ ?_
  · refine Chg.step (State.mediaPump_chg ..) ?_ (by decide)
    refine Chg.ite ?_ ?_
    · refine Chg.step (State.zonesOut_chg ..) ?_ (by decide)
      refine Chg.ite ?_ ?_
      · refine Chg.u_media ?_ _ (by decide)
        refine Chg.step (State.sbDrain_chg ..) ?_ (by decide)
        refine Chg.step (State.setSb_chg ..) ?_ (by decide)
        exact Chg.refl _ _
      · refine Chg.step (State.sbDrain_chg ..) ?_ (by decide)
        refine Chg.step (State.setSb_chg ..) ?_ (by decide)
        exact Chg.refl _ _
    · refine Chg.also ?_ ?_
      · refine Chg.step (State.fdpEvent_chg ..) ?_ (by decide)
        refine Chg.step (State.relocate_chg ..) ?_ (by decide)
        refine Chg.ite ?_ ?_
        · refine Chg.u_media ?_ _ (by decide)
          refine Chg.step (State.sbDrain_chg ..) ?_ (by decide)
          refine Chg.step (State.setSb_chg ..) ?_ (by decide)
          exact Chg.refl _ _
        · refine Chg.step (State.sbDrain_chg ..) ?_ (by decide)
          refine Chg.step (State.setSb_chg ..) ?_ (by decide)
          exact Chg.refl _ _
      · refine Chg.step (State.relocate_chg ..) ?_ (by decide)
        refine Chg.ite ?_ ?_
        · refine Chg.u_media ?_ _ (by decide)
          refine Chg.step (State.sbDrain_chg ..) ?_ (by decide)
          refine Chg.step (State.setSb_chg ..) ?_ (by decide)
          exact Chg.refl _ _
        · refine Chg.step (State.sbDrain_chg ..) ?_ (by decide)
          refine Chg.step (State.setSb_chg ..) ?_ (by decide)
          exact Chg.refl _ _
  · refine Chg.step (State.unlisted_chg ..) ?_ (by decide)
    exact Chg.refl _ _

theorem State.refreshAsk_chg : ∀ s a1, Chg 536870912 s (State.refreshAsk s a1) := by
  intro s a1
  unfold State.refreshAsk
  try dsimp only
  refine Chg.step (State.setSb_chg ..) ?_ (by decide)
  exact Chg.refl _ _

theorem State.refreshRetention_chg : ∀ s a1, Chg 536870912 s (State.refreshRetention s a1) := by
  intro s a1
  unfold State.refreshRetention
  try dsimp only
  refine Chg.u_media ?_ _ (by decide)
  refine Chg.step (State.refreshAsk_chg ..) ?_ (by decide)
  exact Chg.refl _ _

theorem execPatrolVisit_chg : ∀ a0 a1 a2 a3 s, ∃ t, execPatrolVisit a0 a1 a2 a3 s = .next t ∧ Chg 18035713138 s t := by
  intro a0 a1 a2 a3 s
  unfold execPatrolVisit
  try dsimp only
  refine ⟨_, rfl, ?_⟩
  refine Chg.when ?_ ?_
  · refine Chg.ite ?_ ?_
    · refine Chg.u_media ?_ _ (by decide)
      refine Chg.ite ?_ ?_
      · refine Chg.step (State.refreshRetention_chg ..) ?_ (by decide)
        refine Chg.step (State.readsAdd_chg ..) ?_ (by decide)
        refine Chg.step (State.boundary_chg ..) ?_ (by decide)
        exact Chg.refl _ _
      · refine Chg.step (State.readsAdd_chg ..) ?_ (by decide)
        refine Chg.step (State.boundary_chg ..) ?_ (by decide)
        exact Chg.refl _ _
    · refine Chg.u_media ?_ _ (by decide)
      refine Chg.ite ?_ ?_
      · refine Chg.step (State.refreshRetention_chg ..) ?_ (by decide)
        refine Chg.step (State.readsAdd_chg ..) ?_ (by decide)
        refine Chg.step (State.boundary_chg ..) ?_ (by decide)
        exact Chg.refl _ _
      · refine Chg.step (State.readsAdd_chg ..) ?_ (by decide)
        refine Chg.step (State.boundary_chg ..) ?_ (by decide)
        exact Chg.refl _ _
  · refine Chg.step (State.unlisted_chg ..) ?_ (by decide)
    refine Chg.step (State.boundary_chg ..) ?_ (by decide)
    exact Chg.refl _ _

theorem State.setBlk_chg : ∀ s a1 a2 a3, Chg 8192 s (State.setBlk s a1 a2 a3) := by
  intro s a1 a2 a3
  unfold State.setBlk
  try dsimp only
  refine Chg.step (State.setTag_chg ..) ?_ (by decide)
  exact Chg.refl _ _

theorem State.readEnd_chg : ∀ s a1, Chg 1611137048 s (State.readEnd s a1) := by
  intro s a1
  unfold State.readEnd
  try dsimp only
  refine Chg.step (State.sbSweep_chg ..) ?_ (by decide)
  refine Chg.step (State.setSb_chg ..) ?_ (by decide)
  exact Chg.refl _ _

theorem State.decoded_chg : ∀ s a1 a2 a3 a4 a5, Chg 1611145240 s (State.decoded s a1 a2 a3 a4 a5) := by
  intro s a1 a2 a3 a4 a5
  unfold State.decoded
  try dsimp only
  refine Chg.ite ?_ ?_
  · refine Chg.step (State.readEnd_chg ..) ?_ (by decide)
    refine Chg.ite ?_ ?_
    · refine Chg.step (State.setSb_chg ..) ?_ (by decide)
      refine Chg.ite ?_ ?_
      · refine Chg.step (State.refreshAsk_chg ..) ?_ (by decide)
        refine Chg.ite ?_ ?_
        · refine Chg.u_media ?_ _ (by decide)
          refine Chg.step (State.setBlk_chg ..) ?_ (by decide)
          exact Chg.refl _ _
        · refine Chg.step (State.setBlk_chg ..) ?_ (by decide)
          exact Chg.refl _ _
      · refine Chg.ite ?_ ?_
        · refine Chg.u_media ?_ _ (by decide)
          refine Chg.step (State.setBlk_chg ..) ?_ (by decide)
          exact Chg.refl _ _
        · refine Chg.step (State.setBlk_chg ..) ?_ (by decide)
          exact Chg.refl _ _
    · refine Chg.step (State.setLun_chg ..) ?_ (by decide)
      refine Chg.ite ?_ ?_
      · refine Chg.step (State.refreshAsk_chg ..) ?_ (by decide)
        refine Chg.ite ?_ ?_
        · refine Chg.u_media ?_ _ (by decide)
          refine Chg.step (State.setBlk_chg ..) ?_ (by decide)
          exact Chg.refl _ _
        · refine Chg.step (State.setBlk_chg ..) ?_ (by decide)
          exact Chg.refl _ _
      · refine Chg.ite ?_ ?_
        · refine Chg.u_media ?_ _ (by decide)
          refine Chg.step (State.setBlk_chg ..) ?_ (by decide)
          exact Chg.refl _ _
        · refine Chg.step (State.setBlk_chg ..) ?_ (by decide)
          exact Chg.refl _ _
  · refine Chg.ite ?_ ?_
    · refine Chg.step (State.setSb_chg ..) ?_ (by decide)
      refine Chg.ite ?_ ?_
      · refine Chg.step (State.refreshAsk_chg ..) ?_ (by decide)
        refine Chg.ite ?_ ?_
        · refine Chg.u_media ?_ _ (by decide)
          refine Chg.step (State.setBlk_chg ..) ?_ (by decide)
          exact Chg.refl _ _
        · refine Chg.step (State.setBlk_chg ..) ?_ (by decide)
          exact Chg.refl _ _
      · refine Chg.ite ?_ ?_
        · refine Chg.u_media ?_ _ (by decide)
          refine Chg.step (State.setBlk_chg ..) ?_ (by decide)
          exact Chg.refl _ _
        · refine Chg.step (State.setBlk_chg ..) ?_ (by decide)
          exact Chg.refl _ _
    · refine Chg.step (State.setLun_chg ..) ?_ (by decide)
      refine Chg.ite ?_ ?_
      · refine Chg.step (State.refreshAsk_chg ..) ?_ (by decide)
        refine Chg.ite ?_ ?_
        · refine Chg.u_media ?_ _ (by decide)
          refine Chg.step (State.setBlk_chg ..) ?_ (by decide)
          exact Chg.refl _ _
        · refine Chg.step (State.setBlk_chg ..) ?_ (by decide)
          exact Chg.refl _ _
      · refine Chg.ite ?_ ?_
        · refine Chg.u_media ?_ _ (by decide)
          refine Chg.step (State.setBlk_chg ..) ?_ (by decide)
          exact Chg.refl _ _
        · refine Chg.step (State.setBlk_chg ..) ?_ (by decide)
          exact Chg.refl _ _

theorem State.unrecovered_chg : ∀ s a1 a2 a3, Chg 1929912344 s (State.unrecovered s a1 a2 a3) := by
  intro s a1 a2 a3
  unfold State.unrecovered
  try dsimp only
  refine Chg.step (State.readEnd_chg ..) ?_ (by decide)
  refine Chg.step (State.commitTag_chg ..) ?_ (by decide)
  refine Chg.step (State.medBit_chg ..) ?_ (by decide)
  refine Chg.u_media ?_ _ (by decide)
  refine Chg.step (State.setBlk_chg ..) ?_ (by decide)
  exact Chg.refl _ _

theorem State.codewordLost_chg : ∀ s a1, Chg 225481286906 s (State.codewordLost s a1) := by
  intro s a1
  unfold State.codewordLost
  try dsimp only
  refine Chg.ite ?_ ?_
  · refine Chg.step (State.lunFail_chg ..) ?_ (by decide)
    refine Chg.step (State.setLun_chg ..) ?_ (by decide)
    exact Chg.refl _ _
  · refine Chg.step (State.setLun_chg ..) ?_ (by decide)
    exact Chg.refl _ _

theorem State.softPump_chg : ∀ s a1, Chg 2147483648 s (State.softPump s a1) := by
  intro s a1
  induction a1 generalizing s with
  | zero => exact Chg.refl _ _
  | succ n ih =>
    unfold State.softPump
    refine Chg.ite (Chg.refl _ _) ?_
    dsimp only
    split
    · exact Chg.refl _ _
    · exact Chg.step (ih _) (Chg.u_cmp (Chg.refl _ _) _ (by decide)) (by decide)

theorem State.toParity_chg : ∀ s a1 a2 a3, Chg 1929912344 s (State.toParity s a1 a2 a3) := by
  intro s a1 a2 a3
  unfold State.toParity
  try dsimp only
  refine Chg.ite ?_ ?_
  · refine Chg.step (State.unrecovered_chg ..) ?_ (by decide)
    exact Chg.refl _ _
  · refine Chg.step (State.setBlk_chg ..) ?_ (by decide)
    exact Chg.refl _ _

theorem State.toSoft_chg : ∀ s a1 a2 a3, Chg 227628770554 s (State.toSoft s a1 a2 a3) := by
  intro s a1 a2 a3
  unfold State.toSoft
  try dsimp only
  refine Chg.ite ?_ ?_
  · refine Chg.step (State.codewordLost_chg ..) ?_ (by decide)
    refine Chg.step (State.toParity_chg ..) ?_ (by decide)
    exact Chg.refl _ _
  · refine Chg.step (State.softPump_chg ..) ?_ (by decide)
    refine Chg.u_cmp ?_ _ (by decide)
    refine Chg.step (State.setChan_chg ..) ?_ (by decide)
    refine Chg.step (State.setBlk_chg ..) ?_ (by decide)
    exact Chg.refl _ _

theorem State.hardFailed_chg : ∀ s a1 a2 a3, Chg 227628770554 s (State.hardFailed s a1 a2 a3) := by
  intro s a1 a2 a3
  unfold State.hardFailed
  try dsimp only
  refine Chg.ite ?_ ?_
  · refine Chg.step (State.setBlk_chg ..) ?_ (by decide)
    exact Chg.refl _ _
  · refine Chg.step (State.toSoft_chg ..) ?_ (by decide)
    exact Chg.refl _ _

theorem State.hardCount_chg : ∀ s a1 a2 a3 a4, Chg 1048576 s (State.hardCount s a1 a2 a3 a4) := by
  intro s a1 a2 a3 a4
  unfold State.hardCount
  try dsimp only
  refine Chg.step (State.setChan_chg ..) ?_ (by decide)
  exact Chg.refl _ _

theorem execHardDecodeDone_chg : ∀ a0 a1 a2 a3 a4 a5 s, ∃ t, execHardDecodeDone a0 a1 a2 a3 a4 a5 s = .next t ∧ Chg 227628770554 s t := by
  intro a0 a1 a2 a3 a4 a5 s
  unfold execHardDecodeDone
  try dsimp only
  refine ⟨_, rfl, ?_⟩
  split
  · refine Chg.step (State.unlisted_chg ..) ?_ (by decide)
    exact Chg.refl _ _
  · refine Chg.ite ?_ ?_
    · refine Chg.step (State.unlisted_chg ..) ?_ (by decide)
      exact Chg.refl _ _
    · refine Chg.ite ?_ ?_
      · refine Chg.ite ?_ ?_
        · refine Chg.step (State.decoded_chg ..) ?_ (by decide)
          exact Chg.refl _ _
        · refine Chg.step (State.unrecovered_chg ..) ?_ (by decide)
          exact Chg.refl _ _
      · refine Chg.ite ?_ ?_
        · refine Chg.step (State.decoded_chg ..) ?_ (by decide)
          refine Chg.ite ?_ ?_
          · refine Chg.step (State.refreshRetention_chg ..) ?_ (by decide)
            refine Chg.step (State.hardCount_chg ..) ?_ (by decide)
            exact Chg.refl _ _
          · refine Chg.step (State.hardCount_chg ..) ?_ (by decide)
            exact Chg.refl _ _
        · refine Chg.step (State.hardFailed_chg ..) ?_ (by decide)
          refine Chg.ite ?_ ?_
          · refine Chg.step (State.codewordLost_chg ..) ?_ (by decide)
            refine Chg.step (State.setBlk_chg ..) ?_ (by decide)
            refine Chg.ite ?_ ?_
            · refine Chg.step (State.refreshRetention_chg ..) ?_ (by decide)
              refine Chg.step (State.hardCount_chg ..) ?_ (by decide)
              exact Chg.refl _ _
            · refine Chg.step (State.hardCount_chg ..) ?_ (by decide)
              exact Chg.refl _ _
          · refine Chg.ite ?_ ?_
            · refine Chg.step (State.refreshRetention_chg ..) ?_ (by decide)
              refine Chg.step (State.hardCount_chg ..) ?_ (by decide)
              exact Chg.refl _ _
            · refine Chg.step (State.hardCount_chg ..) ?_ (by decide)
              exact Chg.refl _ _

theorem execSoftDecodeDone_chg : ∀ a0 a1 a2 a3 s, ∃ t, execSoftDecodeDone a0 a1 a2 a3 s = .next t ∧ Chg 227628770554 s t := by
  intro a0 a1 a2 a3 s
  unfold execSoftDecodeDone
  try dsimp only
  refine ⟨_, rfl, ?_⟩
  refine Chg.when ?_ ?_
  · split
    · refine Chg.step (State.softPump_chg ..) ?_ (by decide)
      refine Chg.u_cmp ?_ _ (by decide)
      exact Chg.refl _ _
    · refine Chg.ite ?_ ?_
      · refine Chg.step (State.decoded_chg ..) ?_ (by decide)
        refine Chg.step (State.softPump_chg ..) ?_ (by decide)
        refine Chg.u_cmp ?_ _ (by decide)
        exact Chg.refl _ _
      · refine Chg.ite ?_ ?_
        · refine Chg.step (State.toParity_chg ..) ?_ (by decide)
          refine Chg.step (State.softPump_chg ..) ?_ (by decide)
          refine Chg.u_cmp ?_ _ (by decide)
          exact Chg.refl _ _
        · refine Chg.step (State.codewordLost_chg ..) ?_ (by decide)
          refine Chg.step (State.toParity_chg ..) ?_ (by decide)
          refine Chg.step (State.softPump_chg ..) ?_ (by decide)
          refine Chg.u_cmp ?_ _ (by decide)
          exact Chg.refl _ _
  · refine Chg.step (State.unlisted_chg ..) ?_ (by decide)
    exact Chg.refl _ _

theorem State.rebuildLost_chg : ∀ s, Chg 1065410560 s (State.rebuildLost s) := by
  intro s
  unfold State.rebuildLost
  try dsimp only
  refine Chg.forEach ?_ ?_
  · intro _ _
    refine Chg.step (State.loseRun_chg ..) ?_ (by decide)
    exact Chg.refl _ _
  · exact Chg.refl _ _

theorem State.rebuildStep_chg : ∀ s, Chg 1828716544 s (State.rebuildStep s) := by
  intro s
  unfold State.rebuildStep
  try dsimp only
  refine Chg.ite ?_ ?_
  · refine Chg.step (State.relocate_chg ..) ?_ (by decide)
    exact Chg.refl _ _
  · refine Chg.ite ?_ ?_
    · refine Chg.forEach ?_ ?_
      · intro _ _
        refine Chg.step (State.zonesOut_chg ..) ?_ (by decide)
        exact Chg.refl _ _
      · exact Chg.refl _ _
    · refine Chg.ite ?_ ?_
      · refine Chg.step (State.relocate_chg ..) ?_ (by decide)
        exact Chg.refl _ _
      · exact Chg.refl _ _

theorem execRebuildTask_chg : ∀ s, ∃ t, execRebuildTask s = .next t ∧ Chg 88039220346 s t := by
  intro s
  unfold execRebuildTask
  try dsimp only
  refine ⟨_, rfl, ?_⟩
  refine Chg.when ?_ ?_
  · refine Chg.step (State.critWatch_chg ..) ?_ (by decide)
    refine Chg.ite ?_ ?_
    · refine Chg.step (State.sustainClear_chg ..) ?_ (by decide)
      refine Chg.step (State.medBit_chg ..) ?_ (by decide)
      refine Chg.u_media ?_ _ (by decide)
      refine Chg.also ?_ ?_
      · refine Chg.step (State.fdpEvent_chg ..) ?_ (by decide)
        refine Chg.step (State.mediaPump_chg ..) ?_ (by decide)
        refine Chg.step (State.rebuildStep_chg ..) ?_ (by decide)
        refine Chg.step (State.rebuildLost_chg ..) ?_ (by decide)
        refine Chg.step (State.boundary_chg ..) ?_ (by decide)
        exact Chg.refl _ _
      · refine Chg.step (State.mediaPump_chg ..) ?_ (by decide)
        refine Chg.step (State.rebuildStep_chg ..) ?_ (by decide)
        refine Chg.step (State.rebuildLost_chg ..) ?_ (by decide)
        refine Chg.step (State.boundary_chg ..) ?_ (by decide)
        exact Chg.refl _ _
    · refine Chg.u_media ?_ _ (by decide)
      refine Chg.also ?_ ?_
      · refine Chg.step (State.fdpEvent_chg ..) ?_ (by decide)
        refine Chg.step (State.mediaPump_chg ..) ?_ (by decide)
        refine Chg.step (State.rebuildStep_chg ..) ?_ (by decide)
        refine Chg.step (State.rebuildLost_chg ..) ?_ (by decide)
        refine Chg.step (State.boundary_chg ..) ?_ (by decide)
        exact Chg.refl _ _
      · refine Chg.step (State.mediaPump_chg ..) ?_ (by decide)
        refine Chg.step (State.rebuildStep_chg ..) ?_ (by decide)
        refine Chg.step (State.rebuildLost_chg ..) ?_ (by decide)
        refine Chg.step (State.boundary_chg ..) ?_ (by decide)
        exact Chg.refl _ _
  · refine Chg.step (State.unlisted_chg ..) ?_ (by decide)
    refine Chg.step (State.boundary_chg ..) ?_ (by decide)
    exact Chg.refl _ _

end Sys2Proof.Machine
end

