-- ==== Sys2Proof/Laws/ChgPower.lean ====
section
/-! SUPPORT. What the operations of Machine/Power.lean may change: one lemma for each. -/

set_option linter.all false

namespace Sys2Proof.Machine

theorem State.auxCheck_chg : ∀ s, Chg 103079215164 s (State.auxCheck s) := by
  intro s
  unfold State.auxCheck
  try dsimp only
  refine Chg.ite ?_ ?_
  · refine Chg.step (State.auxGone_chg ..) ?_ (by decide)
    refine Chg.step (State.transition_chg ..) ?_ (by decide)
    exact Chg.refl _ _
  · exact Chg.refl _ _

theorem execAuxPowerOn_chg : ∀ s, ∃ t, execAuxPowerOn s = .next t ∧ Chg 68719476796 s t := by
  intro s
  unfold execAuxPowerOn
  try dsimp only
  refine ⟨_, rfl, ?_⟩
  refine Chg.when ?_ ?_
  · split
    · refine Chg.step (State.transition_chg ..) ?_ (by decide)
      refine Chg.u_aon ?_ _ (by decide)
      exact Chg.refl _ _
    · refine Chg.u_aon ?_ _ (by decide)
      exact Chg.refl _ _
  · refine Chg.step (State.unlisted_chg ..) ?_ (by decide)
    exact Chg.refl _ _

theorem execAuxPowerLoss_chg : ∀ s, ∃ t, execAuxPowerLoss s = .next t ∧ Chg 256464879612 s t := by
  intro s
  unfold execAuxPowerLoss
  try dsimp only
  refine ⟨_, rfl, ?_⟩
  refine Chg.when ?_ ?_
  · split
    · refine Chg.step (State.auxCheck_chg ..) ?_ (by decide)
      refine Chg.u_aon ?_ _ (by decide)
      exact Chg.refl _ _
    · refine Chg.ite ?_ ?_
      · refine Chg.step (State.flushLeave_chg ..) ?_ (by decide)
        refine Chg.u_aon ?_ _ (by decide)
        exact Chg.refl _ _
      · refine Chg.u_aon ?_ _ (by decide)
        exact Chg.refl _ _
    · refine Chg.u_aon ?_ _ (by decide)
      exact Chg.refl _ _
  · refine Chg.step (State.unlisted_chg ..) ?_ (by decide)
    exact Chg.refl _ _

theorem execMainPgTrue_chg : ∀ s, ∃ t, execMainPgTrue s = .next t ∧ Chg 273804165118 s t := by
  intro s
  unfold execMainPgTrue
  try dsimp only
  refine ⟨_, rfl, ?_⟩
  refine Chg.when ?_ ?_
  · refine Chg.step (State.tryStart_chg ..) ?_ (by decide)
    refine Chg.u_aon ?_ _ (by decide)
    exact Chg.refl _ _
  · refine Chg.step (State.unlisted_chg ..) ?_ (by decide)
    exact Chg.refl _ _

theorem execMainPgFalse_chg : ∀ s, ∃ t, execMainPgFalse s = .next t ∧ Chg 256464879612 s t := by
  intro s
  unfold execMainPgFalse
  try dsimp only
  refine ⟨_, rfl, ?_⟩
  refine Chg.when ?_ ?_
  · split
    · refine Chg.step (State.auxCheck_chg ..) ?_ (by decide)
      refine Chg.step (State.enterDormant_chg ..) ?_ (by decide)
      refine Chg.u_aon ?_ _ (by decide)
      exact Chg.refl _ _
    · refine Chg.ite ?_ ?_
      · refine Chg.step (State.flushLeave_chg ..) ?_ (by decide)
        refine Chg.u_aon ?_ _ (by decide)
        exact Chg.refl _ _
      · refine Chg.u_aon ?_ _ (by decide)
        exact Chg.refl _ _
    · refine Chg.u_aon ?_ _ (by decide)
      exact Chg.refl _ _
    · refine Chg.u_aon ?_ _ (by decide)
      exact Chg.refl _ _
    · refine Chg.step (State.auxCheck_chg ..) ?_ (by decide)
      refine Chg.step (State.enterDormant_chg ..) ?_ (by decide)
      refine Chg.u_aon ?_ _ (by decide)
      exact Chg.refl _ _
  · refine Chg.step (State.unlisted_chg ..) ?_ (by decide)
    exact Chg.refl _ _

theorem execBringUpComplete_chg : ∀ a0 s, ∃ t, execBringUpComplete a0 s = .next t ∧ Chg 208298107064 s t := by
  intro a0 s
  unfold execBringUpComplete
  try dsimp only
  refine ⟨_, rfl, ?_⟩
  refine Chg.when ?_ ?_
  · refine Chg.ite ?_ ?_
    · refine Chg.step (State.serviceEnd_chg ..) ?_ (by decide)
      refine Chg.forEach ?_ ?_
      · intro _ _
        refine Chg.step (State.targetUnused_chg ..) ?_ (by decide)
        exact Chg.refl _ _
      · exact Chg.refl _ _
    · refine Chg.ite ?_ ?_
      · refine Chg.step (State.sanitizeRun_chg ..) ?_ (by decide)
        refine Chg.u_mode_sec ?_ _ _ ?_ (by decide)
        · refine Chg.step (State.bringUpEnd_chg ..) ?_ (by decide)
          refine Chg.step (State.readyAll_chg ..) ?_ (by decide)
          refine Chg.u_mode ?_ _ (by decide)
          refine Chg.step (State.mapCacheCheck_chg ..) ?_ (by decide)
          refine Chg.step (State.bringUpCauses_chg ..) ?_ (by decide)
          refine Chg.step (State.spareStart_chg ..) ?_ (by decide)
          refine Chg.step (State.mapIn_chg ..) ?_ (by decide)
          refine Chg.forEach ?_ ?_
          · intro _ _
            refine Chg.step (State.targetUnused_chg ..) ?_ (by decide)
            exact Chg.refl _ _
          · exact Chg.refl _ _
        · exact List.prefix_rfl
      · refine Chg.u_mode ?_ _ (by decide)
        refine Chg.step (State.bringUpEnd_chg ..) ?_ (by decide)
        refine Chg.step (State.readyAll_chg ..) ?_ (by decide)
        refine Chg.u_mode ?_ _ (by decide)
        refine Chg.step (State.mapCacheCheck_chg ..) ?_ (by decide)
        refine Chg.step (State.bringUpCauses_chg ..) ?_ (by decide)
        refine Chg.step (State.spareStart_chg ..) ?_ (by decide)
        refine Chg.step (State.mapIn_chg ..) ?_ (by decide)
        refine Chg.forEach ?_ ?_
        · intro _ _
          refine Chg.step (State.targetUnused_chg ..) ?_ (by decide)
          exact Chg.refl _ _
        · exact Chg.refl _ _
  · refine Chg.step (State.unlisted_chg ..) ?_ (by decide)
    exact Chg.refl _ _

theorem execPowerLossNotify_chg : ∀ s, ∃ t, execPowerLossNotify s = .next t ∧ Chg 273795776510 s t := by
  intro s
  unfold execPowerLossNotify
  try dsimp only
  refine ⟨_, rfl, ?_⟩
  refine Chg.when ?_ ?_
  · refine Chg.step (State.powerEvent_chg ..) ?_ (by decide)
    refine Chg.ite ?_ ?_
    · refine Chg.step (State.pwrBit_chg ..) ?_ (by decide)
      refine Chg.u_aon ?_ _ (by decide)
      exact Chg.refl _ _
    · refine Chg.u_aon ?_ _ (by decide)
      exact Chg.refl _ _
  · refine Chg.step (State.unlisted_chg ..) ?_ (by decide)
    exact Chg.refl _ _

theorem execPowerDisable_chg : ∀ s, ∃ t, execPowerDisable s = .next t ∧ Chg 273795776510 s t := by
  intro s
  unfold execPowerDisable
  try dsimp only
  refine ⟨_, rfl, ?_⟩
  refine Chg.when ?_ ?_
  · refine Chg.step (State.powerEvent_chg ..) ?_ (by decide)
    refine Chg.ite ?_ ?_
    · refine Chg.step (State.pwrBit_chg ..) ?_ (by decide)
      refine Chg.u_aon ?_ _ (by decide)
      exact Chg.refl _ _
    · refine Chg.u_aon ?_ _ (by decide)
      exact Chg.refl _ _
  · refine Chg.step (State.unlisted_chg ..) ?_ (by decide)
    exact Chg.refl _ _

theorem execPostWindowEnd_chg : ∀ s, ∃ t, execPostWindowEnd s = .next t ∧ Chg 86824452090 s t := by
  intro s
  unfold execPostWindowEnd
  try dsimp only
  refine ⟨_, rfl, ?_⟩
  refine Chg.when ?_ ?_
  · refine Chg.u_mode ?_ _ (by decide)
    refine Chg.forEach ?_ ?_
    · intro _ _
      refine Chg.step (State.setIsland_chg ..) ?_ (by decide)
      exact Chg.refl _ _
    · refine Chg.forEach ?_ ?_
      · intro _ _
        refine Chg.setPort ?_ ?_ (by decide)
        · refine Chg.ite ?_ ?_
          · refine Chg.step (State.linkLost_chg ..) ?_ (by decide)
            exact Chg.refl _ _
          · exact Chg.refl _ _
        · intro w
          dsimp only
          refine Chg.cmbAt (m := 274877906942) ?_ w _
          refine Chg.ite ?_ ?_
          · refine Chg.step (State.linkLost_chg ..) ?_ (by decide)
            exact Chg.refl _ _
          · exact Chg.refl _ _
      · exact Chg.refl _ _
  · refine Chg.step (State.unlisted_chg ..) ?_ (by decide)
    exact Chg.refl _ _

theorem execFlushEnd_chg : ∀ s, ∃ t, execFlushEnd s = .next t ∧ Chg 257698004988 s t := by
  intro s
  unfold execFlushEnd
  try dsimp only
  refine ⟨_, rfl, ?_⟩
  refine Chg.when ?_ ?_
  · refine Chg.step (State.flushDone_chg ..) ?_ (by decide)
    exact Chg.refl _ _
  · refine Chg.step (State.unlisted_chg ..) ?_ (by decide)
    exact Chg.refl _ _

theorem execPowerControlRelease_chg : ∀ a0 s, ∃ t, execPowerControlRelease a0 s = .next t ∧ Chg 273804165118 s t := by
  intro a0 s
  unfold execPowerControlRelease
  try dsimp only
  refine ⟨_, rfl, ?_⟩
  refine Chg.when ?_ ?_
  · refine Chg.step (State.tryStart_chg ..) ?_ (by decide)
    refine Chg.ite ?_ ?_
    · refine Chg.u_aon ?_ _ (by decide)
      exact Chg.refl _ _
    · refine Chg.u_aon ?_ _ (by decide)
      exact Chg.refl _ _
  · refine Chg.step (State.unlisted_chg ..) ?_ (by decide)
    exact Chg.refl _ _

theorem execFlushRestartTimer_chg : ∀ s, ∃ t, execFlushRestartTimer s = .next t ∧ Chg 273804165118 s t := by
  intro s
  unfold execFlushRestartTimer
  try dsimp only
  refine ⟨_, rfl, ?_⟩
  refine Chg.when ?_ ?_
  · refine Chg.step (State.bringUpBegin_chg ..) ?_ (by decide)
    exact Chg.refl _ _
  · refine Chg.step (State.unlisted_chg ..) ?_ (by decide)
    exact Chg.refl _ _

theorem execMaintenanceEntryDone_chg : ∀ s, ∃ t, execMaintenanceEntryDone s = .next t ∧ Chg 208297731194 s t := by
  intro s
  unfold execMaintenanceEntryDone
  try dsimp only
  refine ⟨_, rfl, ?_⟩
  refine Chg.when ?_ ?_
  · refine Chg.step (State.sanitizeRun_chg ..) ?_ (by decide)
    refine Chg.forEach ?_ ?_
    · intro _ _
      refine Chg.step (State.answer_chg ..) ?_ (by decide)
      exact Chg.refl _ _
    · refine Chg.step (State.transition_chg ..) ?_ (by decide)
      refine Chg.u_mode ?_ _ (by decide)
      exact Chg.refl _ _
  · refine Chg.step (State.unlisted_chg ..) ?_ (by decide)
    exact Chg.refl _ _

theorem State.thmBit_chg : ∀ s a1, Chg 16 s (State.thmBit s a1) := by
  intro s a1
  unfold State.thmBit
  try dsimp only
  refine Chg.u_regs ?_ _ ?_ (by decide)
  · exact Chg.refl _ _
  · exact fun w => w

theorem State.sensorTake_chg : ∀ s a1 a2, Chg 103079215282 s (State.sensorTake s a1 a2) := by
  intro s a1 a2
  unfold State.sensorTake
  try dsimp only
  split
  · refine Chg.ite ?_ ?_
    · refine Chg.step (State.setSensor_chg ..) ?_ (by decide)
      exact Chg.refl _ _
    · refine Chg.step (State.rasReport_chg ..) ?_ (by decide)
      refine Chg.step (State.thmBit_chg ..) ?_ (by decide)
      refine Chg.step (State.setSensor_chg ..) ?_ (by decide)
      exact Chg.refl _ _
  · refine Chg.ite ?_ ?_
    · refine Chg.ite ?_ ?_
      · refine Chg.step (State.thmBit_chg ..) ?_ (by decide)
        refine Chg.step (State.setSensor_chg ..) ?_ (by decide)
        exact Chg.refl _ _
      · refine Chg.step (State.setSensor_chg ..) ?_ (by decide)
        exact Chg.refl _ _
    · refine Chg.step (State.setSensor_chg ..) ?_ (by decide)
      exact Chg.refl _ _

theorem State.zoneTake_chg : ∀ s a1, Chg 34359738384 s (State.zoneTake s a1) := by
  intro s a1
  unfold State.zoneTake
  try dsimp only
  refine Chg.ite ?_ ?_
  · refine Chg.step (State.thmBit_chg ..) ?_ (by decide)
    refine Chg.ite ?_ ?_
    · refine Chg.step (State.thmBit_chg ..) ?_ (by decide)
      refine Chg.ite ?_ ?_
      · refine Chg.step (State.thmBit_chg ..) ?_ (by decide)
        refine Chg.step (State.setTzone_chg ..) ?_ (by decide)
        exact Chg.refl _ _
      · refine Chg.step (State.setTzone_chg ..) ?_ (by decide)
        exact Chg.refl _ _
    · refine Chg.ite ?_ ?_
      · refine Chg.step (State.thmBit_chg ..) ?_ (by decide)
        refine Chg.step (State.setTzone_chg ..) ?_ (by decide)
        exact Chg.refl _ _
      · refine Chg.step (State.setTzone_chg ..) ?_ (by decide)
        exact Chg.refl _ _
  · refine Chg.ite ?_ ?_
    · refine Chg.step (State.thmBit_chg ..) ?_ (by decide)
      refine Chg.ite ?_ ?_
      · refine Chg.step (State.thmBit_chg ..) ?_ (by decide)
        refine Chg.step (State.setTzone_chg ..) ?_ (by decide)
        exact Chg.refl _ _
      · refine Chg.step (State.setTzone_chg ..) ?_ (by decide)
        exact Chg.refl _ _
    · refine Chg.ite ?_ ?_
      · refine Chg.step (State.thmBit_chg ..) ?_ (by decide)
        refine Chg.step (State.setTzone_chg ..) ?_ (by decide)
        exact Chg.refl _ _
      · refine Chg.step (State.setTzone_chg ..) ?_ (by decide)
        exact Chg.refl _ _

theorem State.sensorWatch_chg : ∀ s, Chg 24 s (State.sensorWatch s) := by
  intro s
  unfold State.sensorWatch
  try dsimp only
  refine Chg.ite ?_ ?_
  · refine Chg.ite ?_ ?_
    · refine Chg.ite ?_ ?_
      · refine Chg.step (State.sustainSet_chg ..) ?_ (by decide)
        exact Chg.refl _ _
      · refine Chg.step (State.sustainClear_chg ..) ?_ (by decide)
        exact Chg.refl _ _
    · refine Chg.step (State.thmBit_chg ..) ?_ (by decide)
      refine Chg.step (State.sustainSet_chg ..) ?_ (by decide)
      refine Chg.ite ?_ ?_
      · refine Chg.step (State.sustainSet_chg ..) ?_ (by decide)
        exact Chg.refl _ _
      · refine Chg.step (State.sustainClear_chg ..) ?_ (by decide)
        exact Chg.refl _ _
  · refine Chg.step (State.sustainClear_chg ..) ?_ (by decide)
    refine Chg.ite ?_ ?_
    · refine Chg.step (State.sustainSet_chg ..) ?_ (by decide)
      exact Chg.refl _ _
    · refine Chg.step (State.sustainClear_chg ..) ?_ (by decide)
      exact Chg.refl _ _

theorem State.thermalShutdown_chg : ∀ s, Chg 273795776510 s (State.thermalShutdown s) := by
  intro s
  unfold State.thermalShutdown
  try dsimp only
  split
  · refine Chg.step (State.enterDormant_chg ..) ?_ (by decide)
    refine Chg.u_aon_thermal ?_ _ _ (by decide)
    refine Chg.step (State.thmBit_chg ..) ?_ (by decide)
    refine Chg.u_thermal ?_ _ (by decide)
    exact Chg.refl _ _
  · refine Chg.u_mode ?_ _ (by decide)
    refine Chg.step (State.thmBit_chg ..) ?_ (by decide)
    refine Chg.u_thermal ?_ _ (by decide)
    exact Chg.refl _ _
  · refine Chg.step (State.flushStart_chg ..) ?_ (by decide)
    refine Chg.u_aon_thermal ?_ _ _ (by decide)
    refine Chg.step (State.thmBit_chg ..) ?_ (by decide)
    refine Chg.u_thermal ?_ _ (by decide)
    exact Chg.refl _ _

theorem State.thermalTimes_chg : ∀ s a1, Chg 34359738400 s (State.thermalTimes s a1) := by
  intro s a1
  unfold State.thermalTimes
  try dsimp only
  refine Chg.u_ras_thermal ?_ _ _ (by decide)
  exact Chg.refl _ _

theorem State.retrainHeat_chg : ∀ s, Chg 1048576 s (State.retrainHeat s) := by
  intro s
  unfold State.retrainHeat
  try dsimp only
  refine Chg.forEach ?_ ?_
  · intro _ _
    refine Chg.ite ?_ ?_
    · refine Chg.step (State.retrainAsk_chg ..) ?_ (by decide)
      exact Chg.refl _ _
    · exact Chg.refl _ _
  · exact Chg.refl _ _

theorem execThermalSampleRound_chg : ∀ a0 s, ∃ t, execThermalSampleRound a0 s = .next t ∧ Chg 273795776510 s t := by
  intro a0 s
  unfold execThermalSampleRound
  try dsimp only
  refine ⟨_, rfl, ?_⟩
  refine Chg.when ?_ ?_
  · refine Chg.ite ?_ ?_
    · refine Chg.step (State.thermalShutdown_chg ..) ?_ (by decide)
      refine Chg.step (State.critWatch_chg ..) ?_ (by decide)
      refine Chg.step (State.thermalTimes_chg ..) ?_ (by decide)
      refine Chg.step (State.sensorWatch_chg ..) ?_ (by decide)
      refine Chg.forEach ?_ ?_
      · intro _ _
        refine Chg.step (State.zoneTake_chg ..) ?_ (by decide)
        exact Chg.refl _ _
      · refine Chg.forEach ?_ ?_
        · intro _ _
          refine Chg.step (State.sensorTake_chg ..) ?_ (by decide)
          exact Chg.refl _ _
        · refine Chg.step (State.boundaries_chg ..) ?_ (by decide)
          exact Chg.refl _ _
    · refine Chg.step (State.retrainHeat_chg ..) ?_ (by decide)
      refine Chg.step (State.critWatch_chg ..) ?_ (by decide)
      refine Chg.step (State.thermalTimes_chg ..) ?_ (by decide)
      refine Chg.step (State.sensorWatch_chg ..) ?_ (by decide)
      refine Chg.forEach ?_ ?_
      · intro _ _
        refine Chg.step (State.zoneTake_chg ..) ?_ (by decide)
        exact Chg.refl _ _
      · refine Chg.forEach ?_ ?_
        · intro _ _
          refine Chg.step (State.sensorTake_chg ..) ?_ (by decide)
          exact Chg.refl _ _
        · refine Chg.step (State.boundaries_chg ..) ?_ (by decide)
          exact Chg.refl _ _
  · refine Chg.step (State.unlisted_chg ..) ?_ (by decide)
    exact Chg.refl _ _

theorem execThermalHoldEnd_chg : ∀ s, ∃ t, execThermalHoldEnd s = .next t ∧ Chg 273804165118 s t := by
  intro s
  unfold execThermalHoldEnd
  try dsimp only
  refine ⟨_, rfl, ?_⟩
  refine Chg.when ?_ ?_
  · refine Chg.step (State.tryStart_chg ..) ?_ (by decide)
    refine Chg.u_aon ?_ _ (by decide)
    exact Chg.refl _ _
  · refine Chg.step (State.unlisted_chg ..) ?_ (by decide)
    exact Chg.refl _ _

theorem execCrystalQualified_chg : ∀ s, ∃ t, execCrystalQualified s = .next t ∧ Chg 273804165118 s t := by
  intro s
  unfold execCrystalQualified
  try dsimp only
  refine ⟨_, rfl, ?_⟩
  refine Chg.when ?_ ?_
  · refine Chg.step (State.tryStart_chg ..) ?_ (by decide)
    refine Chg.u_aon ?_ _ (by decide)
    exact Chg.refl _ _
  · refine Chg.step (State.unlisted_chg ..) ?_ (by decide)
    exact Chg.refl _ _

theorem execCrystalQualifyTimeout_chg : ∀ s, ∃ t, execCrystalQualifyTimeout s = .next t ∧ Chg 32 s t := by
  intro s
  unfold execCrystalQualifyTimeout
  try dsimp only
  refine ⟨_, rfl, ?_⟩
  refine Chg.when ?_ ?_
  · refine Chg.step (State.rasRecord_chg ..) ?_ (by decide)
    exact Chg.refl _ _
  · refine Chg.step (State.unlisted_chg ..) ?_ (by decide)
    exact Chg.refl _ _

theorem execSlowCrystalFailure_chg : ∀ s, ∃ t, execSlowCrystalFailure s = .next t ∧ Chg 36 s t := by
  intro s
  unfold execSlowCrystalFailure
  try dsimp only
  refine ⟨_, rfl, ?_⟩
  refine Chg.when ?_ ?_
  · refine Chg.step (State.rasRecord_chg ..) ?_ (by decide)
    refine Chg.u_aon ?_ _ (by decide)
    exact Chg.refl _ _
  · refine Chg.step (State.unlisted_chg ..) ?_ (by decide)
    exact Chg.refl _ _

theorem execRefclkStop_chg : ∀ s, ∃ t, execRefclkStop s = .next t ∧ Chg 86822354934 s t := by
  intro s
  unfold execRefclkStop
  try dsimp only
  refine ⟨_, rfl, ?_⟩
  refine Chg.when ?_ ?_
  · refine Chg.ite ?_ ?_
    · refine Chg.step (State.linkLost_chg ..) ?_ (by decide)
      refine Chg.u_aon ?_ _ (by decide)
      exact Chg.refl _ _
    · refine Chg.u_aon ?_ _ (by decide)
      exact Chg.refl _ _
  · refine Chg.step (State.unlisted_chg ..) ?_ (by decide)
    exact Chg.refl _ _

theorem execRefclkRestored_chg : ∀ s, ∃ t, execRefclkRestored s = .next t ∧ Chg 36 s t := by
  intro s
  unfold execRefclkRestored
  try dsimp only
  refine ⟨_, rfl, ?_⟩
  refine Chg.when ?_ ?_
  · refine Chg.u_aon ?_ _ (by decide)
    exact Chg.refl _ _
  · refine Chg.step (State.unlisted_chg ..) ?_ (by decide)
    exact Chg.refl _ _

theorem execPowerEstimateInterval_chg : ∀ a0 s, ∃ t, execPowerEstimateInterval a0 s = .next t ∧ Chg 40 s t := by
  intro a0 s
  unfold execPowerEstimateInterval
  try dsimp only
  refine ⟨_, rfl, ?_⟩
  refine Chg.when ?_ ?_
  · refine Chg.u_mode ?_ _ (by decide)
    exact Chg.refl _ _
  · refine Chg.step (State.unlisted_chg ..) ?_ (by decide)
    exact Chg.refl _ _

theorem execLedActInterval_chg : ∀ s, ∃ t, execLedActInterval s = .next t ∧ Chg 38 s t := by
  intro s
  unfold execLedActInterval
  try dsimp only
  refine ⟨_, rfl, ?_⟩
  refine Chg.when ?_ ?_
  · refine Chg.ite ?_ ?_
    · refine Chg.step (State.emit_chg ..) ?_ (by decide)
      refine Chg.u_aon ?_ _ (by decide)
      exact Chg.refl _ _
    · exact Chg.refl _ _
  · refine Chg.step (State.unlisted_chg ..) ?_ (by decide)
    exact Chg.refl _ _

end Sys2Proof.Machine
end

