-- ==== Sys2Proof/Laws/ChgPiOps.lean ====
section
/-! SUPPORT. What the operations of Machine/PiOps.lean may change: one lemma for each. -/

set_option linter.all false

namespace Sys2Proof.Machine

theorem State.stage_chg : ∀ s a1 a2 a3 a4 a5, Chg 318775296 s (State.stage s a1 a2 a3 a4 a5) := by
  intro s a1 a2 a3 a4 a5
  unfold State.stage
  try dsimp only
  split
  · refine Chg.step (State.commitTag_chg ..) ?_ (by decide)
    exact Chg.refl _ _
  · refine Chg.ite ?_ ?_
    · refine Chg.step (State.commitTag_chg ..) ?_ (by decide)
      exact Chg.refl _ _
    · refine Chg.step (State.setBlk_chg ..) ?_ (by decide)
      refine Chg.u_wbuf ?_ _ (by decide)
      refine Chg.step (State.setWblk_chg ..) ?_ (by decide)
      exact Chg.refl _ _

theorem State.bypass_chg : ∀ s a1 a2, Chg 318775296 s (State.bypass s a1 a2) := by
  intro s a1 a2
  unfold State.bypass
  try dsimp only
  refine Chg.ite ?_ ?_
  · refine Chg.step (State.stage_chg ..) ?_ (by decide)
    exact Chg.refl _ _
  · exact Chg.refl _ _

theorem State.ingressWatch_chg : ∀ s a1, Chg 318775296 s (State.ingressWatch s a1) := by
  intro s a1
  unfold State.ingressWatch
  try dsimp only
  split
  · refine Chg.ite ?_ ?_
    · refine Chg.step (State.commitTag_chg ..) ?_ (by decide)
      exact Chg.refl _ _
    · exact Chg.refl _ _
  · exact Chg.refl _ _

theorem State.blockIn_chg : ∀ s a1 a2 a3 a4, Chg 318775296 s (State.blockIn s a1 a2 a3 a4) := by
  intro s a1 a2 a3 a4
  unfold State.blockIn
  try dsimp only
  refine Chg.step (State.ingressWatch_chg ..) ?_ (by decide)
  refine Chg.step (State.bypass_chg ..) ?_ (by decide)
  refine Chg.step (State.setBlk_chg ..) ?_ (by decide)
  exact Chg.refl _ _

end Sys2Proof.Machine
end

