-- ==== Sys2Proof/Laws/ChgCompress.lean ====
section
/-! SUPPORT. What the operations of Machine/Compress.lean may change: one lemma for each. -/

set_option linter.all false

namespace Sys2Proof.Machine

theorem State.cmpBit_chg : ∀ s a1, Chg 16 s (State.cmpBit s a1) := by
  intro s a1
  unfold State.cmpBit
  try dsimp only
  refine Chg.u_regs ?_ _ ?_ (by decide)
  · exact Chg.refl _ _
  · exact fun w => w

theorem State.laneFail_chg : ∀ s a1, Chg 70866960570 s (State.laneFail s a1) := by
  intro s a1
  unfold State.laneFail
  try dsimp only
  refine Chg.ite ?_ ?_
  · refine Chg.step (State.rasReport_chg ..) ?_ (by decide)
    refine Chg.step (State.sustainSet_chg ..) ?_ (by decide)
    refine Chg.step (State.cmpBit_chg ..) ?_ (by decide)
    refine Chg.u_cmp ?_ _ (by decide)
    exact Chg.refl _ _
  · refine Chg.step (State.cmpBit_chg ..) ?_ (by decide)
    refine Chg.step (State.rasReport_chg ..) ?_ (by decide)
    refine Chg.step (State.sustainSet_chg ..) ?_ (by decide)
    refine Chg.step (State.cmpBit_chg ..) ?_ (by decide)
    refine Chg.u_cmp ?_ _ (by decide)
    exact Chg.refl _ _

theorem State.laneMismatch_chg : ∀ s a1 a2, Chg 70866960570 s (State.laneMismatch s a1 a2) := by
  intro s a1 a2
  unfold State.laneMismatch
  try dsimp only
  refine Chg.ite ?_ ?_
  · refine Chg.step (State.laneFail_chg ..) ?_ (by decide)
    refine Chg.step (State.rasReport_chg ..) ?_ (by decide)
    refine Chg.step (State.cmpBit_chg ..) ?_ (by decide)
    refine Chg.u_cmp ?_ _ (by decide)
    exact Chg.refl _ _
  · refine Chg.u_cmp ?_ _ (by decide)
    refine Chg.step (State.rasReport_chg ..) ?_ (by decide)
    refine Chg.step (State.cmpBit_chg ..) ?_ (by decide)
    refine Chg.u_cmp ?_ _ (by decide)
    exact Chg.refl _ _

theorem State.unitMismatch_chg : ∀ s a1, Chg 70866960570 s (State.unitMismatch s a1) := by
  intro s a1
  unfold State.unitMismatch
  try dsimp only
  refine Chg.ite ?_ ?_
  · refine Chg.u_cmp ?_ _ (by decide)
    refine Chg.step (State.rasReport_chg ..) ?_ (by decide)
    exact Chg.refl _ _
  · refine Chg.ite ?_ ?_
    · refine Chg.step (State.serviceEnd_chg ..) ?_ (by decide)
      refine Chg.step (State.rasReport_chg ..) ?_ (by decide)
      refine Chg.u_cmp ?_ _ (by decide)
      refine Chg.step (State.rasReport_chg ..) ?_ (by decide)
      exact Chg.refl _ _
    · refine Chg.step (State.rasReport_chg ..) ?_ (by decide)
      refine Chg.step (State.sustainSet_chg ..) ?_ (by decide)
      refine Chg.u_cmp ?_ _ (by decide)
      refine Chg.step (State.rasReport_chg ..) ?_ (by decide)
      exact Chg.refl _ _

theorem State.coded_chg : ∀ s a1 a2 a3 a4 a5 a6, Chg 2466258944 s (State.coded s a1 a2 a3 a4 a5 a6) := by
  intro s a1 a2 a3 a4 a5 a6
  unfold State.coded
  try dsimp only
  refine Chg.step (State.stage_chg ..) ?_ (by decide)
  refine Chg.u_cmp ?_ _ (by decide)
  exact Chg.refl _ _

theorem execBlockEncodeDone_chg : ∀ a0 a1 a2 a3 s, ∃ t, execBlockEncodeDone a0 a1 a2 a3 s = .next t ∧ Chg 71185735866 s t := by
  intro a0 a1 a2 a3 s
  unfold execBlockEncodeDone
  try dsimp only
  refine ⟨_, rfl, ?_⟩
  refine Chg.ite ?_ ?_
  · refine Chg.ite ?_ ?_
    · refine Chg.step (State.unitMismatch_chg ..) ?_ (by decide)
      exact Chg.refl _ _
    · refine Chg.u_cmp ?_ _ (by decide)
      exact Chg.refl _ _
  · refine Chg.when ?_ ?_
    · refine Chg.ite ?_ ?_
      · refine Chg.step (State.laneMismatch_chg ..) ?_ (by decide)
        exact Chg.refl _ _
      · refine Chg.ite ?_ ?_
        · refine Chg.step (State.laneMismatch_chg ..) ?_ (by decide)
          exact Chg.refl _ _
        · refine Chg.step (State.coded_chg ..) ?_ (by decide)
          exact Chg.refl _ _
    · refine Chg.step (State.unlisted_chg ..) ?_ (by decide)
      exact Chg.refl _ _

theorem State.slotGood_chg : ∀ s a1 a2 a3, Chg 1611145240 s (State.slotGood s a1 a2 a3) := by
  intro s a1 a2 a3
  unfold State.slotGood
  try dsimp only
  split
  · refine Chg.step (State.readEnd_chg ..) ?_ (by decide)
    refine Chg.step (State.setBlk_chg ..) ?_ (by decide)
    exact Chg.refl _ _
  · refine Chg.step (State.setBlk_chg ..) ?_ (by decide)
    exact Chg.refl _ _

theorem State.slotBad_chg : ∀ s a1 a2, Chg 227628770554 s (State.slotBad s a1 a2) := by
  intro s a1 a2
  unfold State.slotBad
  try dsimp only
  split
  · split
    · refine Chg.ite ?_ ?_
      · refine Chg.step (State.toSoft_chg ..) ?_ (by decide)
        refine Chg.step (State.setBlk_chg ..) ?_ (by decide)
        refine Chg.step (State.cmpBit_chg ..) ?_ (by decide)
        refine Chg.u_cmp ?_ _ (by decide)
        exact Chg.refl _ _
      · refine Chg.step (State.setBlk_chg ..) ?_ (by decide)
        refine Chg.step (State.setBlk_chg ..) ?_ (by decide)
        refine Chg.step (State.cmpBit_chg ..) ?_ (by decide)
        refine Chg.u_cmp ?_ _ (by decide)
        exact Chg.refl _ _
    · refine Chg.step (State.toSoft_chg ..) ?_ (by decide)
      refine Chg.step (State.setBlk_chg ..) ?_ (by decide)
      refine Chg.step (State.cmpBit_chg ..) ?_ (by decide)
      refine Chg.u_cmp ?_ _ (by decide)
      exact Chg.refl _ _
    · refine Chg.step (State.toParity_chg ..) ?_ (by decide)
      refine Chg.step (State.setBlk_chg ..) ?_ (by decide)
      refine Chg.step (State.cmpBit_chg ..) ?_ (by decide)
      refine Chg.u_cmp ?_ _ (by decide)
      exact Chg.refl _ _
    · refine Chg.step (State.unrecovered_chg ..) ?_ (by decide)
      refine Chg.step (State.setBlk_chg ..) ?_ (by decide)
      refine Chg.step (State.cmpBit_chg ..) ?_ (by decide)
      refine Chg.u_cmp ?_ _ (by decide)
      exact Chg.refl _ _
  · refine Chg.step (State.commitTag_chg ..) ?_ (by decide)
    refine Chg.step (State.setBlk_chg ..) ?_ (by decide)
    refine Chg.step (State.setBlk_chg ..) ?_ (by decide)
    refine Chg.step (State.cmpBit_chg ..) ?_ (by decide)
    refine Chg.u_cmp ?_ _ (by decide)
    exact Chg.refl _ _

theorem execSlotDecodeDone_chg : ∀ a0 a1 s, ∃ t, execSlotDecodeDone a0 a1 s = .next t ∧ Chg 227628770554 s t := by
  intro a0 a1 s
  unfold execSlotDecodeDone
  try dsimp only
  refine ⟨_, rfl, ?_⟩
  refine Chg.when ?_ ?_
  · refine Chg.ite ?_ ?_
    · refine Chg.step (State.slotGood_chg ..) ?_ (by decide)
      exact Chg.refl _ _
    · split
      · refine Chg.step (State.slotGood_chg ..) ?_ (by decide)
        exact Chg.refl _ _
      · refine Chg.step (State.slotBad_chg ..) ?_ (by decide)
        exact Chg.refl _ _
  · refine Chg.step (State.unlisted_chg ..) ?_ (by decide)
    exact Chg.refl _ _

theorem execOcxonCodeDone_chg : ∀ a0 a1 a2 a3 a4 s, ∃ t, execOcxonCodeDone a0 a1 a2 a3 a4 s = .next t ∧ Chg 227628770554 s t := by
  intro a0 a1 a2 a3 a4 s
  unfold execOcxonCodeDone
  try dsimp only
  refine ⟨_, rfl, ?_⟩
  refine Chg.ite ?_ ?_
  · refine Chg.when ?_ ?_
    · refine Chg.ite ?_ ?_
      · refine Chg.step (State.laneMismatch_chg ..) ?_ (by decide)
        exact Chg.refl _ _
      · refine Chg.ite ?_ ?_
        · refine Chg.step (State.laneMismatch_chg ..) ?_ (by decide)
          exact Chg.refl _ _
        · refine Chg.step (State.coded_chg ..) ?_ (by decide)
          exact Chg.refl _ _
    · refine Chg.step (State.unlisted_chg ..) ?_ (by decide)
      exact Chg.refl _ _
  · refine Chg.when ?_ ?_
    · refine Chg.ite ?_ ?_
      · refine Chg.step (State.laneMismatch_chg ..) ?_ (by decide)
        exact Chg.refl _ _
      · refine Chg.ite ?_ ?_
        · refine Chg.step (State.slotGood_chg ..) ?_ (by decide)
          exact Chg.refl _ _
        · split
          · refine Chg.step (State.slotGood_chg ..) ?_ (by decide)
            exact Chg.refl _ _
          · refine Chg.step (State.slotBad_chg ..) ?_ (by decide)
            exact Chg.refl _ _
    · refine Chg.step (State.unlisted_chg ..) ?_ (by decide)
      exact Chg.refl _ _

end Sys2Proof.Machine
end

