-- ==== Sys2Proof/Laws/ChgDram.lean ====
section
/-! SUPPORT. What the operations of Machine/Dram.lean may change: one lemma for each. -/

set_option linter.all false

namespace Sys2Proof.Machine

theorem State.drcBit_chg : ∀ s a1, Chg 16 s (State.drcBit s a1) := by
  intro s a1
  unfold State.drcBit
  try dsimp only
  refine Chg.u_regs ?_ _ ?_ (by decide)
  · exact Chg.refl _ _
  · exact fun w => w

theorem State.frameLost_chg : ∀ s a1, Chg 67108864 s (State.frameLost s a1) := by
  intro s a1
  unfold State.frameLost
  try dsimp only
  refine Chg.ite ?_ ?_
  · exact Chg.refl _ _
  · refine Chg.ite ?_ ?_
    · refine Chg.ite ?_ ?_
      · refine Chg.step (State.setPage_chg ..) ?_ (by decide)
        refine Chg.step (State.linesDrop_chg ..) ?_ (by decide)
        exact Chg.refl _ _
      · refine Chg.step (State.fillStart_chg ..) ?_ (by decide)
        refine Chg.step (State.setPage_chg ..) ?_ (by decide)
        refine Chg.step (State.linesDrop_chg ..) ?_ (by decide)
        exact Chg.refl _ _
    · refine Chg.step (State.setPage_chg ..) ?_ (by decide)
      refine Chg.step (State.linesDrop_chg ..) ?_ (by decide)
      exact Chg.refl _ _

theorem State.directoryLost_chg : ∀ s a1, Chg 67108864 s (State.directoryLost s a1) := by
  intro s a1
  unfold State.directoryLost
  try dsimp only
  refine Chg.ite ?_ ?_
  · exact Chg.refl _ _
  · refine Chg.ite ?_ ?_
    · refine Chg.step (State.setPage_chg ..) ?_ (by decide)
      refine Chg.step (State.linesDrop_chg ..) ?_ (by decide)
      exact Chg.refl _ _
    · refine Chg.step (State.fillStart_chg ..) ?_ (by decide)
      refine Chg.step (State.setPage_chg ..) ?_ (by decide)
      refine Chg.step (State.linesDrop_chg ..) ?_ (by decide)
      exact Chg.refl _ _

theorem State.framesLost_chg : ∀ s a1, Chg 67108864 s (State.framesLost s a1) := by
  intro s a1
  unfold State.framesLost
  try dsimp only
  refine Chg.forEach ?_ ?_
  · intro _ _
    refine Chg.ite ?_ ?_
    · refine Chg.step (State.directoryLost_chg ..) ?_ (by decide)
      exact Chg.refl _ _
    · refine Chg.ite ?_ ?_
      · refine Chg.step (State.frameLost_chg ..) ?_ (by decide)
        exact Chg.refl _ _
      · exact Chg.refl _ _
  · exact Chg.refl _ _

theorem State.copyLost_chg : ∀ s a1, Chg 69784887474 s (State.copyLost s a1) := by
  intro s a1
  unfold State.copyLost
  try dsimp only
  refine Chg.forEach ?_ ?_
  · intro _ _
    refine Chg.ite ?_ ?_
    · refine Chg.step (State.commitTag_chg ..) ?_ (by decide)
      exact Chg.refl _ _
    · exact Chg.refl _ _
  · refine Chg.ite ?_ ?_
    · refine Chg.step (State.loseRun_chg ..) ?_ (by decide)
      refine Chg.step (State.rasReport_chg ..) ?_ (by decide)
      refine Chg.step (State.setWblk_chg ..) ?_ (by decide)
      exact Chg.refl _ _
    · refine Chg.step (State.rasReport_chg ..) ?_ (by decide)
      refine Chg.step (State.setWblk_chg ..) ?_ (by decide)
      exact Chg.refl _ _

theorem State.stagedLost_chg : ∀ s a1, Chg 318775296 s (State.stagedLost s a1) := by
  intro s a1
  unfold State.stagedLost
  try dsimp only
  refine Chg.forEach ?_ ?_
  · intro _ _
    refine Chg.ite ?_ ?_
    · refine Chg.step (State.commitTag_chg ..) ?_ (by decide)
      exact Chg.refl _ _
    · exact Chg.refl _ _
  · exact Chg.refl _ _

theorem State.bothLost_chg : ∀ s a1, Chg 69784887474 s (State.bothLost s a1) := by
  intro s a1
  unfold State.bothLost
  try dsimp only
  refine Chg.ite ?_ ?_
  · refine Chg.ite ?_ ?_
    · exact Chg.refl _ _
    · refine Chg.step (State.copyLost_chg ..) ?_ (by decide)
      exact Chg.refl _ _
  · refine Chg.step (State.stagedLost_chg ..) ?_ (by decide)
    exact Chg.refl _ _

theorem State.copiesLost_chg : ∀ s a1, Chg 69784887474 s (State.copiesLost s a1) := by
  intro s a1
  unfold State.copiesLost
  try dsimp only
  refine Chg.u_wbuf ?_ _ (by decide)
  refine Chg.forEach ?_ ?_
  · intro _ _
    refine Chg.ite ?_ ?_
    · refine Chg.step (State.setWblk_chg ..) ?_ (by decide)
      exact Chg.refl _ _
    · refine Chg.step (State.bothLost_chg ..) ?_ (by decide)
      refine Chg.step (State.setWblk_chg ..) ?_ (by decide)
      exact Chg.refl _ _
  · exact Chg.refl _ _

theorem State.dramFail_chg : ∀ s a1 a2, Chg 92334187770 s (State.dramFail s a1 a2) := by
  intro s a1 a2
  unfold State.dramFail
  try dsimp only
  refine Chg.ite ?_ ?_
  · exact Chg.refl _ _
  · refine Chg.ite ?_ ?_
    · refine Chg.step (State.rasReport_chg ..) ?_ (by decide)
      refine Chg.step (State.sustainSet_chg ..) ?_ (by decide)
      refine Chg.step (State.drcBit_chg ..) ?_ (by decide)
      refine Chg.step (State.setDram_chg ..) ?_ (by decide)
      exact Chg.refl _ _
    · refine Chg.ite ?_ ?_
      · refine Chg.also ?_ ?_
        · refine Chg.step (State.drainZones_chg ..) ?_ (by decide)
          refine Chg.step (State.mediaPump_chg ..) ?_ (by decide)
          refine Chg.ite ?_ ?_
          · refine Chg.step (State.copiesLost_chg ..) ?_ (by decide)
            refine Chg.step (State.framesLost_chg ..) ?_ (by decide)
            refine Chg.ite ?_ ?_
            · refine Chg.step (State.rasReport_chg ..) ?_ (by decide)
              refine Chg.step (State.sustainSet_chg ..) ?_ (by decide)
              refine Chg.step (State.drcBit_chg ..) ?_ (by decide)
              refine Chg.step (State.setDram_chg ..) ?_ (by decide)
              exact Chg.refl _ _
            · refine Chg.u_jrn ?_ _ (by decide)
              refine Chg.step (State.rasReport_chg ..) ?_ (by decide)
              refine Chg.step (State.sustainSet_chg ..) ?_ (by decide)
              refine Chg.step (State.drcBit_chg ..) ?_ (by decide)
              refine Chg.step (State.setDram_chg ..) ?_ (by decide)
              exact Chg.refl _ _
          · refine Chg.u_regs ?_ _ ?_ (by decide)
            · refine Chg.step (State.copiesLost_chg ..) ?_ (by decide)
              refine Chg.step (State.framesLost_chg ..) ?_ (by decide)
              refine Chg.ite ?_ ?_
              · refine Chg.step (State.rasReport_chg ..) ?_ (by decide)
                refine Chg.step (State.sustainSet_chg ..) ?_ (by decide)
                refine Chg.step (State.drcBit_chg ..) ?_ (by decide)
                refine Chg.step (State.setDram_chg ..) ?_ (by decide)
                exact Chg.refl _ _
              · refine Chg.u_jrn ?_ _ (by decide)
                refine Chg.step (State.rasReport_chg ..) ?_ (by decide)
                refine Chg.step (State.sustainSet_chg ..) ?_ (by decide)
                refine Chg.step (State.drcBit_chg ..) ?_ (by decide)
                refine Chg.step (State.setDram_chg ..) ?_ (by decide)
                exact Chg.refl _ _
            · exact fun w => w
        · refine Chg.step (State.mediaPump_chg ..) ?_ (by decide)
          refine Chg.ite ?_ ?_
          · refine Chg.step (State.copiesLost_chg ..) ?_ (by decide)
            refine Chg.step (State.framesLost_chg ..) ?_ (by decide)
            refine Chg.ite ?_ ?_
            · refine Chg.step (State.rasReport_chg ..) ?_ (by decide)
              refine Chg.step (State.sustainSet_chg ..) ?_ (by decide)
              refine Chg.step (State.drcBit_chg ..) ?_ (by decide)
              refine Chg.step (State.setDram_chg ..) ?_ (by decide)
              exact Chg.refl _ _
            · refine Chg.u_jrn ?_ _ (by decide)
              refine Chg.step (State.rasReport_chg ..) ?_ (by decide)
              refine Chg.step (State.sustainSet_chg ..) ?_ (by decide)
              refine Chg.step (State.drcBit_chg ..) ?_ (by decide)
              refine Chg.step (State.setDram_chg ..) ?_ (by decide)
              exact Chg.refl _ _
          · refine Chg.u_regs ?_ _ ?_ (by decide)
            · refine Chg.step (State.copiesLost_chg ..) ?_ (by decide)
              refine Chg.step (State.framesLost_chg ..) ?_ (by decide)
              refine Chg.ite ?_ ?_
              · refine Chg.step (State.rasReport_chg ..) ?_ (by decide)
                refine Chg.step (State.sustainSet_chg ..) ?_ (by decide)
                refine Chg.step (State.drcBit_chg ..) ?_ (by decide)
                refine Chg.step (State.setDram_chg ..) ?_ (by decide)
                exact Chg.refl _ _
              · refine Chg.u_jrn ?_ _ (by decide)
                refine Chg.step (State.rasReport_chg ..) ?_ (by decide)
                refine Chg.step (State.sustainSet_chg ..) ?_ (by decide)
                refine Chg.step (State.drcBit_chg ..) ?_ (by decide)
                refine Chg.step (State.setDram_chg ..) ?_ (by decide)
                exact Chg.refl _ _
            · exact fun w => w
      · refine Chg.step (State.serviceEnd_chg ..) ?_ (by decide)
        refine Chg.ite ?_ ?_
        · refine Chg.step (State.copiesLost_chg ..) ?_ (by decide)
          refine Chg.step (State.framesLost_chg ..) ?_ (by decide)
          refine Chg.ite ?_ ?_
          · refine Chg.step (State.rasReport_chg ..) ?_ (by decide)
            refine Chg.step (State.sustainSet_chg ..) ?_ (by decide)
            refine Chg.step (State.drcBit_chg ..) ?_ (by decide)
            refine Chg.step (State.setDram_chg ..) ?_ (by decide)
            exact Chg.refl _ _
          · refine Chg.u_jrn ?_ _ (by decide)
            refine Chg.step (State.rasReport_chg ..) ?_ (by decide)
            refine Chg.step (State.sustainSet_chg ..) ?_ (by decide)
            refine Chg.step (State.drcBit_chg ..) ?_ (by decide)
            refine Chg.step (State.setDram_chg ..) ?_ (by decide)
            exact Chg.refl _ _
        · refine Chg.u_regs ?_ _ ?_ (by decide)
          · refine Chg.step (State.copiesLost_chg ..) ?_ (by decide)
            refine Chg.step (State.framesLost_chg ..) ?_ (by decide)
            refine Chg.ite ?_ ?_
            · refine Chg.step (State.rasReport_chg ..) ?_ (by decide)
              refine Chg.step (State.sustainSet_chg ..) ?_ (by decide)
              refine Chg.step (State.drcBit_chg ..) ?_ (by decide)
              refine Chg.step (State.setDram_chg ..) ?_ (by decide)
              exact Chg.refl _ _
            · refine Chg.u_jrn ?_ _ (by decide)
              refine Chg.step (State.rasReport_chg ..) ?_ (by decide)
              refine Chg.step (State.sustainSet_chg ..) ?_ (by decide)
              refine Chg.step (State.drcBit_chg ..) ?_ (by decide)
              refine Chg.step (State.setDram_chg ..) ?_ (by decide)
              exact Chg.refl _ _
          · exact fun w => w

theorem execRemirrorComplete_chg : ∀ s, ∃ t, execRemirrorComplete s = .next t ∧ Chg 48 s t := by
  intro s
  unfold execRemirrorComplete
  try dsimp only
  refine ⟨_, rfl, ?_⟩
  refine Chg.when ?_ ?_
  · refine Chg.u_regs ?_ _ ?_ (by decide)
    · exact Chg.refl _ _
    · exact fun w => w
  · refine Chg.step (State.unlisted_chg ..) ?_ (by decide)
    exact Chg.refl _ _

theorem State.rfmIssue_chg : ∀ s a1 a2, Chg 4294967296 s (State.rfmIssue s a1 a2) := by
  intro s a1 a2
  unfold State.rfmIssue
  try dsimp only
  refine Chg.step (State.setDram_chg ..) ?_ (by decide)
  exact Chg.refl _ _

theorem State.neighbours_chg : ∀ s a1 a2 a3, Chg 4294967312 s (State.neighbours s a1 a2 a3) := by
  intro s a1 a2 a3
  unfold State.neighbours
  try dsimp only
  refine Chg.step (State.drcBit_chg ..) ?_ (by decide)
  refine Chg.step (State.setDram_chg ..) ?_ (by decide)
  exact Chg.refl _ _

theorem State.activate_chg : ∀ s a1, Chg 4294967312 s (State.activate s a1) := by
  intro s a1
  unfold State.activate
  try dsimp only
  refine Chg.ite ?_ ?_
  · refine Chg.ite ?_ ?_
    · refine Chg.step (State.neighbours_chg ..) ?_ (by decide)
      refine Chg.step (State.setDram_chg ..) ?_ (by decide)
      exact Chg.refl _ _
    · refine Chg.step (State.setDram_chg ..) ?_ (by decide)
      exact Chg.refl _ _
  · refine Chg.ite ?_ ?_
    · refine Chg.step (State.drcBit_chg ..) ?_ (by decide)
      refine Chg.step (State.setDram_chg ..) ?_ (by decide)
      refine Chg.step (State.rfmIssue_chg ..) ?_ (by decide)
      refine Chg.step (State.setDram_chg ..) ?_ (by decide)
      refine Chg.ite ?_ ?_
      · refine Chg.step (State.neighbours_chg ..) ?_ (by decide)
        refine Chg.step (State.setDram_chg ..) ?_ (by decide)
        exact Chg.refl _ _
      · refine Chg.step (State.setDram_chg ..) ?_ (by decide)
        exact Chg.refl _ _
    · refine Chg.step (State.setDram_chg ..) ?_ (by decide)
      refine Chg.ite ?_ ?_
      · refine Chg.step (State.neighbours_chg ..) ?_ (by decide)
        refine Chg.step (State.setDram_chg ..) ?_ (by decide)
        exact Chg.refl _ _
      · refine Chg.step (State.setDram_chg ..) ?_ (by decide)
        exact Chg.refl _ _

theorem State.rfmRank_chg : ∀ s a1 a2, Chg 4294967296 s (State.rfmRank s a1 a2) := by
  intro s a1 a2
  unfold State.rfmRank
  try dsimp only
  refine Chg.ite ?_ ?_
  · exact Chg.refl _ _
  · refine Chg.forEach ?_ ?_
    · intro _ _
      refine Chg.step (State.rfmIssue_chg ..) ?_ (by decide)
      exact Chg.refl _ _
    · exact Chg.refl _ _

theorem execTrefiBoundary_chg : ∀ a0 a1 a2 s, ∃ t, execTrefiBoundary a0 a1 a2 s = .next t ∧ Chg 30383744114 s t := by
  intro a0 a1 a2 s
  unfold execTrefiBoundary
  try dsimp only
  refine ⟨_, rfl, ?_⟩
  refine Chg.when ?_ ?_
  · refine Chg.ite ?_ ?_
    · refine Chg.step (State.drcBit_chg ..) ?_ (by decide)
      refine Chg.step (State.setDram_chg ..) ?_ (by decide)
      refine Chg.u_ranks ?_ _ (by decide)
      refine Chg.step (State.rfmRank_chg ..) ?_ (by decide)
      refine Chg.step (State.boundary_chg ..) ?_ (by decide)
      exact Chg.refl _ _
    · refine Chg.step (State.setDram_chg ..) ?_ (by decide)
      refine Chg.u_ranks ?_ _ (by decide)
      refine Chg.step (State.rfmRank_chg ..) ?_ (by decide)
      refine Chg.step (State.boundary_chg ..) ?_ (by decide)
      exact Chg.refl _ _
  · refine Chg.step (State.unlisted_chg ..) ?_ (by decide)
    exact Chg.refl _ _

theorem execRealtimeBurstStaged_chg : ∀ a0 a1 a2 s, ∃ t, execRealtimeBurstStaged a0 a1 a2 s = .next t ∧ Chg 4294967328 s t := by
  intro a0 a1 a2 s
  unfold execRealtimeBurstStaged
  try dsimp only
  refine ⟨_, rfl, ?_⟩
  refine Chg.when ?_ ?_
  · refine Chg.step (State.setDram_chg ..) ?_ (by decide)
    exact Chg.refl _ _
  · refine Chg.step (State.unlisted_chg ..) ?_ (by decide)
    exact Chg.refl _ _

theorem State.deviceMark_chg : ∀ s a1 a2, Chg 92334187770 s (State.deviceMark s a1 a2) := by
  intro s a1 a2
  unfold State.deviceMark
  try dsimp only
  split
  · refine Chg.ite ?_ ?_
    · exact Chg.refl _ _
    · refine Chg.step (State.dramFail_chg ..) ?_ (by decide)
      exact Chg.refl _ _
  · refine Chg.step (State.rasReport_chg ..) ?_ (by decide)
    refine Chg.step (State.drcBit_chg ..) ?_ (by decide)
    refine Chg.step (State.setDram_chg ..) ?_ (by decide)
    exact Chg.refl _ _

theorem State.dramCorrected_chg : ∀ s a1 a2 a3, Chg 92334187770 s (State.dramCorrected s a1 a2 a3) := by
  intro s a1 a2 a3
  unfold State.dramCorrected
  try dsimp only
  refine Chg.ite ?_ ?_
  · refine Chg.step (State.deviceMark_chg ..) ?_ (by decide)
    refine Chg.step (State.rasBit_chg ..) ?_ (by decide)
    refine Chg.step (State.drcBit_chg ..) ?_ (by decide)
    refine Chg.step (State.setDram_chg ..) ?_ (by decide)
    exact Chg.refl _ _
  · refine Chg.step (State.rasBit_chg ..) ?_ (by decide)
    refine Chg.step (State.drcBit_chg ..) ?_ (by decide)
    refine Chg.step (State.setDram_chg ..) ?_ (by decide)
    exact Chg.refl _ _

theorem State.eccCapture_chg : ∀ s a1 a2, Chg 16 s (State.eccCapture s a1 a2) := by
  intro s a1 a2
  unfold State.eccCapture
  try dsimp only
  refine Chg.ite ?_ ?_
  · refine Chg.u_regs ?_ _ ?_ (by decide)
    · exact Chg.refl _ _
    · exact fun w => w
  · refine Chg.u_regs ?_ _ ?_ (by decide)
    · exact Chg.refl _ _
    · exact fun w => w

theorem State.uncorrRule_chg : ∀ s a1, Chg 92334187770 s (State.uncorrRule s a1) := by
  intro s a1
  unfold State.uncorrRule
  try dsimp only
  refine Chg.ite ?_ ?_
  · refine Chg.step (State.dramFail_chg ..) ?_ (by decide)
    exact Chg.refl _ _
  · refine Chg.ite ?_ ?_
    · refine Chg.step (State.dramFail_chg ..) ?_ (by decide)
      exact Chg.refl _ _
    · exact Chg.refl _ _

theorem State.tailLost_chg : ∀ s, Chg 738197504 s (State.tailLost s) := by
  intro s
  unfold State.tailLost
  try dsimp only
  refine Chg.step (State.checkpoint_chg ..) ?_ (by decide)
  refine Chg.step (State.writebackTo_chg ..) ?_ (by decide)
  exact Chg.refl _ _

theorem State.busError_chg : ∀ s a1, Chg 69784887474 s (State.busError s a1) := by
  intro s a1
  unfold State.busError
  try dsimp only
  split
  · refine Chg.step (State.bothLost_chg ..) ?_ (by decide)
    exact Chg.refl _ _
  · refine Chg.ite ?_ ?_
    · refine Chg.step (State.frameLost_chg ..) ?_ (by decide)
      refine Chg.step (State.checkFailed_chg ..) ?_ (by decide)
      exact Chg.refl _ _
    · refine Chg.step (State.fillStart_chg ..) ?_ (by decide)
      refine Chg.step (State.frameLost_chg ..) ?_ (by decide)
      refine Chg.step (State.checkFailed_chg ..) ?_ (by decide)
      exact Chg.refl _ _
  · refine Chg.step (State.tailLost_chg ..) ?_ (by decide)
    exact Chg.refl _ _
  · refine Chg.step (State.commitTag_chg ..) ?_ (by decide)
    exact Chg.refl _ _
  · exact Chg.refl _ _

theorem State.dramDecode_chg : ∀ s a1 a2 a3 a4, Chg 92334187770 s (State.dramDecode s a1 a2 a3 a4) := by
  intro s a1 a2 a3 a4
  unfold State.dramDecode
  try dsimp only
  split
  · exact Chg.refl _ _
  · refine Chg.step (State.dramCorrected_chg ..) ?_ (by decide)
    exact Chg.refl _ _
  · refine Chg.step (State.uncorrRule_chg ..) ?_ (by decide)
    refine Chg.ite ?_ ?_
    · refine Chg.step (State.setDram_chg ..) ?_ (by decide)
      refine Chg.step (State.eccCapture_chg ..) ?_ (by decide)
      refine Chg.step (State.rasReport_chg ..) ?_ (by decide)
      refine Chg.step (State.drcBit_chg ..) ?_ (by decide)
      refine Chg.step (State.setDram_chg ..) ?_ (by decide)
      exact Chg.refl _ _
    · refine Chg.step (State.busError_chg ..) ?_ (by decide)
      refine Chg.step (State.eccCapture_chg ..) ?_ (by decide)
      refine Chg.step (State.rasReport_chg ..) ?_ (by decide)
      refine Chg.step (State.drcBit_chg ..) ?_ (by decide)
      refine Chg.step (State.setDram_chg ..) ?_ (by decide)
      exact Chg.refl _ _

theorem execDramReadComplete_chg : ∀ a0 a1 a2 a3 s, ∃ t, execDramReadComplete a0 a1 a2 a3 s = .next t ∧ Chg 92334187770 s t := by
  intro a0 a1 a2 a3 s
  unfold execDramReadComplete
  try dsimp only
  refine ⟨_, rfl, ?_⟩
  refine Chg.when ?_ ?_
  · refine Chg.step (State.dramDecode_chg ..) ?_ (by decide)
    refine Chg.step (State.activate_chg ..) ?_ (by decide)
    exact Chg.refl _ _
  · refine Chg.step (State.unlisted_chg ..) ?_ (by decide)
    exact Chg.refl _ _

theorem State.dramRetrain_chg : ∀ s a1, Chg 4294967312 s (State.dramRetrain s a1) := by
  intro s a1
  unfold State.dramRetrain
  try dsimp only
  refine Chg.step (State.drcBit_chg ..) ?_ (by decide)
  refine Chg.step (State.setDram_chg ..) ?_ (by decide)
  exact Chg.refl _ _

theorem execZqCalibrationTimer_chg : ∀ a0 a1 s, ∃ t, execZqCalibrationTimer a0 a1 s = .next t ∧ Chg 4294967344 s t := by
  intro a0 a1 s
  unfold execZqCalibrationTimer
  try dsimp only
  refine ⟨_, rfl, ?_⟩
  refine Chg.when ?_ ?_
  · refine Chg.ite ?_ ?_
    · refine Chg.step (State.setDram_chg ..) ?_ (by decide)
      exact Chg.refl _ _
    · refine Chg.ite ?_ ?_
      · refine Chg.step (State.setDram_chg ..) ?_ (by decide)
        exact Chg.refl _ _
      · refine Chg.step (State.dramRetrain_chg ..) ?_ (by decide)
        exact Chg.refl _ _
  · refine Chg.step (State.unlisted_chg ..) ?_ (by decide)
    exact Chg.refl _ _

theorem execDqsOscillatorTimer_chg : ∀ a0 a1 a2 s, ∃ t, execDqsOscillatorTimer a0 a1 a2 s = .next t ∧ Chg 4294967344 s t := by
  intro a0 a1 a2 s
  unfold execDqsOscillatorTimer
  try dsimp only
  refine ⟨_, rfl, ?_⟩
  refine Chg.when ?_ ?_
  · refine Chg.ite ?_ ?_
    · refine Chg.step (State.setDram_chg ..) ?_ (by decide)
      exact Chg.refl _ _
    · refine Chg.ite ?_ ?_
      · refine Chg.step (State.setDram_chg ..) ?_ (by decide)
        exact Chg.refl _ _
      · refine Chg.step (State.dramRetrain_chg ..) ?_ (by decide)
        exact Chg.refl _ _
  · refine Chg.step (State.unlisted_chg ..) ?_ (by decide)
    exact Chg.refl _ _

theorem execDramTrainingResult_chg : ∀ a0 a1 a2 s, ∃ t, execDramTrainingResult a0 a1 a2 s = .next t ∧ Chg 92334187770 s t := by
  intro a0 a1 a2 s
  unfold execDramTrainingResult
  try dsimp only
  refine ⟨_, rfl, ?_⟩
  refine Chg.ite ?_ ?_
  · refine Chg.ite ?_ ?_
    · refine Chg.step (State.setDram_chg ..) ?_ (by decide)
      exact Chg.refl _ _
    · refine Chg.step (State.dramFail_chg ..) ?_ (by decide)
      exact Chg.refl _ _
  · refine Chg.when ?_ ?_
    · refine Chg.ite ?_ ?_
      · refine Chg.ite ?_ ?_
        · refine Chg.step (State.setDram_chg ..) ?_ (by decide)
          exact Chg.refl _ _
        · refine Chg.step (State.sustainSet_chg ..) ?_ (by decide)
          refine Chg.step (State.setDram_chg ..) ?_ (by decide)
          exact Chg.refl _ _
      · refine Chg.ite ?_ ?_
        · refine Chg.step (State.dramFail_chg ..) ?_ (by decide)
          exact Chg.refl _ _
        · refine Chg.ite ?_ ?_
          · refine Chg.step (State.setDram_chg ..) ?_ (by decide)
            exact Chg.refl _ _
          · refine Chg.ite ?_ ?_
            · refine Chg.step (State.setDram_chg ..) ?_ (by decide)
              exact Chg.refl _ _
            · refine Chg.step (State.dramFail_chg ..) ?_ (by decide)
              exact Chg.refl _ _
    · refine Chg.step (State.unlisted_chg ..) ?_ (by decide)
      exact Chg.refl _ _

theorem execDramParityError_chg : ∀ a0 s, ∃ t, execDramParityError a0 s = .next t ∧ Chg 92334187770 s t := by
  intro a0 s
  unfold execDramParityError
  try dsimp only
  refine ⟨_, rfl, ?_⟩
  refine Chg.when ?_ ?_
  · refine Chg.ite ?_ ?_
    · refine Chg.step (State.dramFail_chg ..) ?_ (by decide)
      refine Chg.step (State.rasRecord_chg ..) ?_ (by decide)
      refine Chg.step (State.setDram_chg ..) ?_ (by decide)
      exact Chg.refl _ _
    · refine Chg.step (State.rasRecord_chg ..) ?_ (by decide)
      refine Chg.step (State.setDram_chg ..) ?_ (by decide)
      exact Chg.refl _ _
  · refine Chg.step (State.unlisted_chg ..) ?_ (by decide)
    exact Chg.refl _ _

end Sys2Proof.Machine
end

