-- ==== Sys2Proof/Laws/ChgOnchip.lean ====
section
/-! SUPPORT. What the operations of Machine/Onchip.lean may change: one lemma for each. -/

set_option linter.all false

namespace Sys2Proof.Machine

theorem execMergeHoldExpiry_chg : ∀ a0 a1 a2 a3 s, ∃ t, execMergeHoldExpiry a0 a1 a2 a3 s = .next t ∧ Chg 90932510898 s t := by
  intro a0 a1 a2 a3 s
  unfold execMergeHoldExpiry
  try dsimp only
  refine ⟨_, rfl, ?_⟩
  refine Chg.when ?_ ?_
  · split
    · refine Chg.u_jrn ?_ _ (by decide)
      exact Chg.refl _ _
    · refine Chg.step (State.rasBit_chg ..) ?_ (by decide)
      refine Chg.step (State.drcBit_chg ..) ?_ (by decide)
      refine Chg.step (State.setDram_chg ..) ?_ (by decide)
      refine Chg.u_jrn ?_ _ (by decide)
      exact Chg.refl _ _
    · refine Chg.ite ?_ ?_
      · refine Chg.step (State.setDram_chg ..) ?_ (by decide)
        refine Chg.step (State.rasBit_chg ..) ?_ (by decide)
        refine Chg.step (State.drcBit_chg ..) ?_ (by decide)
        refine Chg.step (State.setDram_chg ..) ?_ (by decide)
        refine Chg.u_jrn ?_ _ (by decide)
        exact Chg.refl _ _
      · refine Chg.step (State.tailLost_chg ..) ?_ (by decide)
        refine Chg.u_chip ?_ _ (by decide)
        refine Chg.step (State.rasBit_chg ..) ?_ (by decide)
        refine Chg.step (State.drcBit_chg ..) ?_ (by decide)
        refine Chg.step (State.setDram_chg ..) ?_ (by decide)
        refine Chg.u_jrn ?_ _ (by decide)
        exact Chg.refl _ _
  · refine Chg.step (State.unlisted_chg ..) ?_ (by decide)
    exact Chg.refl _ _

theorem State.scrubStep_chg : ∀ s a1 a2, Chg 17179869184 s (State.scrubStep s a1 a2) := by
  intro s a1 a2
  unfold State.scrubStep
  try dsimp only
  refine Chg.ite ?_ ?_
  · refine Chg.u_chip ?_ _ (by decide)
    exact Chg.refl _ _
  · refine Chg.u_chip ?_ _ (by decide)
    exact Chg.refl _ _

theorem State.writeBack_chg : ∀ s a1, Chg 17179869184 s (State.writeBack s a1) := by
  intro s a1
  unfold State.writeBack
  try dsimp only
  refine Chg.ite ?_ ?_
  · refine Chg.u_chip ?_ _ (by decide)
    exact Chg.refl _ _
  · exact Chg.refl _ _

theorem State.sramCorrect_chg : ∀ s a1 a2 a3 a4, Chg 85899347090 s (State.sramCorrect s a1 a2 a3 a4) := by
  intro s a1 a2 a3 a4
  unfold State.sramCorrect
  try dsimp only
  refine Chg.ite ?_ ?_
  · refine Chg.step (State.elementFail_chg ..) ?_ (by decide)
    refine Chg.step (State.rasBit_chg ..) ?_ (by decide)
    refine Chg.step (State.writeBack_chg ..) ?_ (by decide)
    refine Chg.u_chip ?_ _ (by decide)
    exact Chg.refl _ _
  · refine Chg.step (State.rasBit_chg ..) ?_ (by decide)
    refine Chg.step (State.writeBack_chg ..) ?_ (by decide)
    refine Chg.u_chip ?_ _ (by decide)
    exact Chg.refl _ _

theorem State.engineCorrected_chg : ∀ s a1, Chg 206481399994 s (State.engineCorrected s a1) := by
  intro s a1
  unfold State.engineCorrected
  try dsimp only
  refine Chg.ite ?_ ?_
  · refine Chg.step (State.engineFail_chg ..) ?_ (by decide)
    refine Chg.step (State.setEngine_chg ..) ?_ (by decide)
    exact Chg.refl _ _
  · refine Chg.step (State.setEngine_chg ..) ?_ (by decide)
    exact Chg.refl _ _

theorem State.sramLost_chg : ∀ s a1 a2, Chg 206548508922 s (State.sramLost s a1 a2) := by
  intro s a1 a2
  unfold State.sramLost
  try dsimp only
  split
  · refine Chg.step (State.commitTag_chg ..) ?_ (by decide)
    exact Chg.refl _ _
  · refine Chg.ite ?_ ?_
    · exact Chg.refl _ _
    · refine Chg.step (State.engineFail_chg ..) ?_ (by decide)
      exact Chg.refl _ _
  · refine Chg.setPort ?_ ?_ (by decide)
    · exact Chg.refl _ _
    · exact fun w => w _
  · refine Chg.u_map ?_ _ (by decide)
    exact Chg.refl _ _
  · exact Chg.refl _ _

theorem execSramScrubStep_chg : ∀ a0 a1 a2 a3 a4 s, ∃ t, execSramScrubStep a0 a1 a2 a3 a4 s = .next t ∧ Chg 223728575738 s t := by
  intro a0 a1 a2 a3 a4 s
  unfold execSramScrubStep
  try dsimp only
  refine ⟨_, rfl, ?_⟩
  refine Chg.when ?_ ?_
  · split
    · refine Chg.step (State.scrubStep_chg ..) ?_ (by decide)
      refine Chg.step (State.boundary_chg ..) ?_ (by decide)
      exact Chg.refl _ _
    · split
      · refine Chg.step (State.engineCorrected_chg ..) ?_ (by decide)
        refine Chg.step (State.sramCorrect_chg ..) ?_ (by decide)
        refine Chg.step (State.scrubStep_chg ..) ?_ (by decide)
        refine Chg.step (State.boundary_chg ..) ?_ (by decide)
        exact Chg.refl _ _
      · refine Chg.step (State.sramCorrect_chg ..) ?_ (by decide)
        refine Chg.step (State.scrubStep_chg ..) ?_ (by decide)
        refine Chg.step (State.boundary_chg ..) ?_ (by decide)
        exact Chg.refl _ _
    · refine Chg.step (State.sramLost_chg ..) ?_ (by decide)
      refine Chg.step (State.elementFail_chg ..) ?_ (by decide)
      refine Chg.step (State.rasReport_chg ..) ?_ (by decide)
      refine Chg.u_chip ?_ _ (by decide)
      refine Chg.step (State.scrubStep_chg ..) ?_ (by decide)
      refine Chg.step (State.boundary_chg ..) ?_ (by decide)
      exact Chg.refl _ _
  · refine Chg.step (State.unlisted_chg ..) ?_ (by decide)
    refine Chg.step (State.boundary_chg ..) ?_ (by decide)
    exact Chg.refl _ _

theorem execDramScrubStep_chg : ∀ a0 a1 a2 a3 a4 s, ∃ t, execDramScrubStep a0 a1 a2 a3 a4 s = .next t ∧ Chg 92334187770 s t := by
  intro a0 a1 a2 a3 a4 s
  unfold execDramScrubStep
  try dsimp only
  refine ⟨_, rfl, ?_⟩
  refine Chg.when ?_ ?_
  · split
    · refine Chg.step (State.writeBack_chg ..) ?_ (by decide)
      refine Chg.step (State.dramDecode_chg ..) ?_ (by decide)
      refine Chg.step (State.scrubStep_chg ..) ?_ (by decide)
      refine Chg.step (State.boundary_chg ..) ?_ (by decide)
      exact Chg.refl _ _
    · refine Chg.step (State.dramDecode_chg ..) ?_ (by decide)
      refine Chg.step (State.scrubStep_chg ..) ?_ (by decide)
      refine Chg.step (State.boundary_chg ..) ?_ (by decide)
      exact Chg.refl _ _
  · refine Chg.step (State.unlisted_chg ..) ?_ (by decide)
    refine Chg.step (State.boundary_chg ..) ?_ (by decide)
    exact Chg.refl _ _

end Sys2Proof.Machine
end

