-- ==== Sys2Proof/Laws/ChgMgmt.lean ====
section
/-! SUPPORT. What the operations of Machine/Mgmt.lean may change: one lemma for each. -/

set_option linter.all false

namespace Sys2Proof.Machine

theorem execSetDynamicAddress_chg : ∀ a0 s, ∃ t, execSetDynamicAddress a0 s = .next t ∧ Chg 68719476768 s t := by
  intro a0 s
  unfold execSetDynamicAddress
  try dsimp only
  refine ⟨_, rfl, ?_⟩
  refine Chg.when ?_ ?_
  · refine Chg.u_mgmt ?_ _ (by decide)
    exact Chg.refl _ _
  · refine Chg.step (State.unlisted_chg ..) ?_ (by decide)
    exact Chg.refl _ _

theorem execResetDynamicAddress_chg : ∀ s, ∃ t, execResetDynamicAddress s = .next t ∧ Chg 68719476768 s t := by
  intro s
  unfold execResetDynamicAddress
  try dsimp only
  refine ⟨_, rfl, ?_⟩
  refine Chg.when ?_ ?_
  · refine Chg.u_mgmt ?_ _ (by decide)
    exact Chg.refl _ _
  · refine Chg.step (State.unlisted_chg ..) ?_ (by decide)
    exact Chg.refl _ _

theorem State.mctpDrop_chg : ∀ s, Chg 68719476752 s (State.mctpDrop s) := by
  intro s
  unfold State.mctpDrop
  try dsimp only
  refine Chg.step (State.mgtBit_chg ..) ?_ (by decide)
  refine Chg.u_mgmt ?_ _ (by decide)
  exact Chg.refl _ _

theorem State.reasmDrop_chg : ∀ s a1, Chg 68719476736 s (State.reasmDrop s a1) := by
  intro s a1
  unfold State.reasmDrop
  try dsimp only
  refine Chg.u_mgmt ?_ _ (by decide)
  exact Chg.refl _ _

theorem State.mctpGrow_chg : ∀ s a1 a2, Chg 68719476754 s (State.mctpGrow s a1 a2) := by
  intro s a1 a2
  unfold State.mctpGrow
  try dsimp only
  refine Chg.ite ?_ ?_
  · refine Chg.step (State.mctpDrop_chg ..) ?_ (by decide)
    refine Chg.step (State.reasmDrop_chg ..) ?_ (by decide)
    exact Chg.refl _ _
  · refine Chg.ite ?_ ?_
    · refine Chg.step (State.emit_chg ..) ?_ (by decide)
      refine Chg.step (State.reasmDrop_chg ..) ?_ (by decide)
      exact Chg.refl _ _
    · refine Chg.u_mgmt ?_ _ (by decide)
      refine Chg.step (State.reasmDrop_chg ..) ?_ (by decide)
      exact Chg.refl _ _

theorem execMctpPacket_chg : ∀ a0 s, ∃ t, execMctpPacket a0 s = .next t ∧ Chg 68719476786 s t := by
  intro a0 s
  unfold execMctpPacket
  try dsimp only
  refine ⟨_, rfl, ?_⟩
  refine Chg.when ?_ ?_
  · refine Chg.ite ?_ ?_
    · refine Chg.step (State.mctpDrop_chg ..) ?_ (by decide)
      exact Chg.refl _ _
    · refine Chg.ite ?_ ?_
      · refine Chg.step (State.mctpDrop_chg ..) ?_ (by decide)
        exact Chg.refl _ _
      · refine Chg.ite ?_ ?_
        · refine Chg.ite ?_ ?_
          · refine Chg.step (State.mctpDrop_chg ..) ?_ (by decide)
            exact Chg.refl _ _
          · refine Chg.ite ?_ ?_
            · refine Chg.step (State.mctpDrop_chg ..) ?_ (by decide)
              exact Chg.refl _ _
            · refine Chg.step (State.mctpGrow_chg ..) ?_ (by decide)
              exact Chg.refl _ _
        · split
          · refine Chg.step (State.mctpGrow_chg ..) ?_ (by decide)
            exact Chg.refl _ _
          · refine Chg.step (State.mctpDrop_chg ..) ?_ (by decide)
            exact Chg.refl _ _
  · refine Chg.step (State.unlisted_chg ..) ?_ (by decide)
    exact Chg.refl _ _

theorem execSetEndpointId_chg : ∀ a0 a1 s, ∃ t, execSetEndpointId a0 a1 s = .next t ∧ Chg 68719476770 s t := by
  intro a0 a1 s
  unfold execSetEndpointId
  try dsimp only
  refine ⟨_, rfl, ?_⟩
  refine Chg.when ?_ ?_
  · refine Chg.ite ?_ ?_
    · refine Chg.step (State.emit_chg ..) ?_ (by decide)
      refine Chg.u_mgmt ?_ _ (by decide)
      exact Chg.refl _ _
    · refine Chg.step (State.emit_chg ..) ?_ (by decide)
      exact Chg.refl _ _
  · refine Chg.step (State.unlisted_chg ..) ?_ (by decide)
    exact Chg.refl _ _

theorem execGetMessageTypeSupport_chg : ∀ a0 s, ∃ t, execGetMessageTypeSupport a0 s = .next t ∧ Chg 34 s t := by
  intro a0 s
  unfold execGetMessageTypeSupport
  try dsimp only
  refine ⟨_, rfl, ?_⟩
  refine Chg.when ?_ ?_
  · refine Chg.step (State.emit_chg ..) ?_ (by decide)
    exact Chg.refl _ _
  · refine Chg.step (State.unlisted_chg ..) ?_ (by decide)
    exact Chg.refl _ _

theorem execReadNvmeMiDataStructure_chg : ∀ a0 a1 s, ∃ t, execReadNvmeMiDataStructure a0 a1 s = .next t ∧ Chg 34 s t := by
  intro a0 a1 s
  unfold execReadNvmeMiDataStructure
  try dsimp only
  refine ⟨_, rfl, ?_⟩
  refine Chg.when ?_ ?_
  · refine Chg.step (State.emit_chg ..) ?_ (by decide)
    exact Chg.refl _ _
  · refine Chg.step (State.unlisted_chg ..) ?_ (by decide)
    exact Chg.refl _ _

theorem execSubsystemHealthStatusPoll_chg : ∀ a0 s, ∃ t, execSubsystemHealthStatusPoll a0 s = .next t ∧ Chg 34 s t := by
  intro a0 s
  unfold execSubsystemHealthStatusPoll
  try dsimp only
  refine ⟨_, rfl, ?_⟩
  refine Chg.when ?_ ?_
  · refine Chg.step (State.emit_chg ..) ?_ (by decide)
    exact Chg.refl _ _
  · refine Chg.step (State.unlisted_chg ..) ?_ (by decide)
    exact Chg.refl _ _

theorem execControllerHealthStatusPoll_chg : ∀ a0 a1 s, ∃ t, execControllerHealthStatusPoll a0 a1 s = .next t ∧ Chg 34 s t := by
  intro a0 a1 s
  unfold execControllerHealthStatusPoll
  try dsimp only
  refine ⟨_, rfl, ?_⟩
  refine Chg.when ?_ ?_
  · refine Chg.ite ?_ ?_
    · refine Chg.step (State.emit_chg ..) ?_ (by decide)
      exact Chg.refl _ _
    · refine Chg.step (State.emit_chg ..) ?_ (by decide)
      exact Chg.refl _ _
  · refine Chg.step (State.unlisted_chg ..) ?_ (by decide)
    exact Chg.refl _ _

theorem execConfigurationGet_chg : ∀ a0 a1 s, ∃ t, execConfigurationGet a0 a1 s = .next t ∧ Chg 34 s t := by
  intro a0 a1 s
  unfold execConfigurationGet
  try dsimp only
  refine ⟨_, rfl, ?_⟩
  refine Chg.when ?_ ?_
  · split
    · refine Chg.step (State.emit_chg ..) ?_ (by decide)
      exact Chg.refl _ _
    · refine Chg.step (State.emit_chg ..) ?_ (by decide)
      exact Chg.refl _ _
    · refine Chg.step (State.emit_chg ..) ?_ (by decide)
      exact Chg.refl _ _
    · refine Chg.step (State.emit_chg ..) ?_ (by decide)
      exact Chg.refl _ _
  · refine Chg.step (State.unlisted_chg ..) ?_ (by decide)
    exact Chg.refl _ _

theorem execConfigurationSet_chg : ∀ a0 a1 a2 s, ∃ t, execConfigurationSet a0 a1 a2 s = .next t ∧ Chg 68719476770 s t := by
  intro a0 a1 a2 s
  unfold execConfigurationSet
  try dsimp only
  refine ⟨_, rfl, ?_⟩
  refine Chg.when ?_ ?_
  · split
    · refine Chg.ite ?_ ?_
      · refine Chg.step (State.emit_chg ..) ?_ (by decide)
        refine Chg.u_mgmt ?_ _ (by decide)
        exact Chg.refl _ _
      · refine Chg.step (State.emit_chg ..) ?_ (by decide)
        exact Chg.refl _ _
    · refine Chg.step (State.emit_chg ..) ?_ (by decide)
      refine Chg.u_mgmt ?_ _ (by decide)
      exact Chg.refl _ _
    · refine Chg.ite ?_ ?_
      · refine Chg.step (State.emit_chg ..) ?_ (by decide)
        refine Chg.u_mgmt ?_ _ (by decide)
        exact Chg.refl _ _
      · refine Chg.step (State.emit_chg ..) ?_ (by decide)
        exact Chg.refl _ _
    · refine Chg.step (State.emit_chg ..) ?_ (by decide)
      exact Chg.refl _ _
  · refine Chg.step (State.unlisted_chg ..) ?_ (by decide)
    exact Chg.refl _ _

theorem execNvmeMiReset_chg : ∀ a0 s, ∃ t, execNvmeMiReset a0 s = .next t ∧ Chg 86822354930 s t := by
  intro a0 s
  unfold execNvmeMiReset
  try dsimp only
  refine ⟨_, rfl, ?_⟩
  refine Chg.when ?_ ?_
  · refine Chg.ite ?_ ?_
    · refine Chg.step (State.portReset_chg ..) ?_ (by decide)
      refine Chg.step (State.portReset_chg ..) ?_ (by decide)
      refine Chg.step (State.emit_chg ..) ?_ (by decide)
      exact Chg.refl _ _
    · refine Chg.step (State.portReset_chg ..) ?_ (by decide)
      refine Chg.step (State.emit_chg ..) ?_ (by decide)
      exact Chg.refl _ _
  · refine Chg.step (State.unlisted_chg ..) ?_ (by decide)
    exact Chg.refl _ _

theorem execNvmeMiAdminCommand_chg : ∀ a0 a1 a2 a3 s, ∃ t, execNvmeMiAdminCommand a0 a1 a2 a3 s = .next t ∧ Chg 8226 s t := by
  intro a0 a1 a2 a3 s
  unfold execNvmeMiAdminCommand
  try dsimp only
  refine ⟨_, rfl, ?_⟩
  refine Chg.when ?_ ?_
  · refine Chg.ite ?_ ?_
    · refine Chg.u_ras ?_ _ (by decide)
      exact Chg.refl _ _
    · refine Chg.ite ?_ ?_
      · refine Chg.step (State.emit_chg ..) ?_ (by decide)
        exact Chg.refl _ _
      · refine Chg.step (State.setTag_chg ..) ?_ (by decide)
        exact Chg.refl _ _
  · refine Chg.step (State.unlisted_chg ..) ?_ (by decide)
    exact Chg.refl _ _

theorem State.spdm_chg : ∀ s a1 a2 a3, Chg 2 s (State.spdm s a1 a2 a3) := by
  intro s a1 a2 a3
  unfold State.spdm
  try dsimp only
  refine Chg.step (State.emit_chg ..) ?_ (by decide)
  exact Chg.refl _ _

theorem State.spdmError_chg : ∀ s a1 a2, Chg 2 s (State.spdmError s a1 a2) := by
  intro s a1 a2
  unfold State.spdmError
  try dsimp only
  refine Chg.step (State.spdm_chg ..) ?_ (by decide)
  exact Chg.refl _ _

theorem execGetVersion_chg : ∀ a0 s, ∃ t, execGetVersion a0 s = .next t ∧ Chg 34 s t := by
  intro a0 s
  unfold execGetVersion
  try dsimp only
  refine ⟨_, rfl, ?_⟩
  refine Chg.when ?_ ?_
  · refine Chg.step (State.spdm_chg ..) ?_ (by decide)
    exact Chg.refl _ _
  · refine Chg.step (State.unlisted_chg ..) ?_ (by decide)
    exact Chg.refl _ _

theorem execGetCapabilities_chg : ∀ a0 s, ∃ t, execGetCapabilities a0 s = .next t ∧ Chg 34 s t := by
  intro a0 s
  unfold execGetCapabilities
  try dsimp only
  refine ⟨_, rfl, ?_⟩
  refine Chg.when ?_ ?_
  · refine Chg.step (State.spdm_chg ..) ?_ (by decide)
    exact Chg.refl _ _
  · refine Chg.step (State.unlisted_chg ..) ?_ (by decide)
    exact Chg.refl _ _

theorem execNegotiateAlgorithms_chg : ∀ a0 s, ∃ t, execNegotiateAlgorithms a0 s = .next t ∧ Chg 68719476770 s t := by
  intro a0 s
  unfold execNegotiateAlgorithms
  try dsimp only
  refine ⟨_, rfl, ?_⟩
  refine Chg.when ?_ ?_
  · refine Chg.step (State.spdm_chg ..) ?_ (by decide)
    refine Chg.u_mgmt ?_ _ (by decide)
    exact Chg.refl _ _
  · refine Chg.step (State.unlisted_chg ..) ?_ (by decide)
    exact Chg.refl _ _

theorem execGetDigests_chg : ∀ a0 s, ∃ t, execGetDigests a0 s = .next t ∧ Chg 34 s t := by
  intro a0 s
  unfold execGetDigests
  try dsimp only
  refine ⟨_, rfl, ?_⟩
  refine Chg.when ?_ ?_
  · refine Chg.step (State.spdm_chg ..) ?_ (by decide)
    exact Chg.refl _ _
  · refine Chg.step (State.unlisted_chg ..) ?_ (by decide)
    exact Chg.refl _ _

theorem execGetCertificate_chg : ∀ a0 a1 s, ∃ t, execGetCertificate a0 a1 s = .next t ∧ Chg 34 s t := by
  intro a0 a1 s
  unfold execGetCertificate
  try dsimp only
  refine ⟨_, rfl, ?_⟩
  refine Chg.when ?_ ?_
  · refine Chg.ite ?_ ?_
    · refine Chg.step (State.spdm_chg ..) ?_ (by decide)
      exact Chg.refl _ _
    · refine Chg.step (State.spdmError_chg ..) ?_ (by decide)
      exact Chg.refl _ _
  · refine Chg.step (State.unlisted_chg ..) ?_ (by decide)
    exact Chg.refl _ _

theorem execChallenge_chg : ∀ a0 s, ∃ t, execChallenge a0 s = .next t ∧ Chg 34 s t := by
  intro a0 s
  unfold execChallenge
  try dsimp only
  refine ⟨_, rfl, ?_⟩
  refine Chg.when ?_ ?_
  · refine Chg.step (State.spdm_chg ..) ?_ (by decide)
    exact Chg.refl _ _
  · refine Chg.step (State.unlisted_chg ..) ?_ (by decide)
    exact Chg.refl _ _

theorem execGetMeasurements_chg : ∀ a0 a1 s, ∃ t, execGetMeasurements a0 a1 s = .next t ∧ Chg 34 s t := by
  intro a0 a1 s
  unfold execGetMeasurements
  try dsimp only
  refine ⟨_, rfl, ?_⟩
  refine Chg.when ?_ ?_
  · refine Chg.ite ?_ ?_
    · refine Chg.step (State.spdm_chg ..) ?_ (by decide)
      exact Chg.refl _ _
    · refine Chg.ite ?_ ?_
      · refine Chg.step (State.spdm_chg ..) ?_ (by decide)
        exact Chg.refl _ _
      · refine Chg.ite ?_ ?_
        · refine Chg.forEach ?_ ?_
          · intro _ _
            refine Chg.step (State.spdm_chg ..) ?_ (by decide)
            exact Chg.refl _ _
          · exact Chg.refl _ _
        · refine Chg.step (State.spdmError_chg ..) ?_ (by decide)
          exact Chg.refl _ _
  · refine Chg.step (State.unlisted_chg ..) ?_ (by decide)
    exact Chg.refl _ _

theorem execKeyExchange_chg : ∀ a0 a1 s, ∃ t, execKeyExchange a0 a1 s = .next t ∧ Chg 68719476770 s t := by
  intro a0 a1 s
  unfold execKeyExchange
  try dsimp only
  refine ⟨_, rfl, ?_⟩
  refine Chg.when ?_ ?_
  · refine Chg.ite ?_ ?_
    · refine Chg.step (State.spdmError_chg ..) ?_ (by decide)
      exact Chg.refl _ _
    · refine Chg.ite ?_ ?_
      · refine Chg.step (State.spdmError_chg ..) ?_ (by decide)
        exact Chg.refl _ _
      · refine Chg.step (State.spdm_chg ..) ?_ (by decide)
        refine Chg.u_mgmt ?_ _ (by decide)
        exact Chg.refl _ _
  · refine Chg.step (State.unlisted_chg ..) ?_ (by decide)
    exact Chg.refl _ _

theorem State.sessionSet_chg : ∀ s a1 a2, Chg 68719476736 s (State.sessionSet s a1 a2) := by
  intro s a1 a2
  unfold State.sessionSet
  try dsimp only
  refine Chg.u_mgmt ?_ _ (by decide)
  exact Chg.refl _ _

theorem execFinish_chg : ∀ a0 a1 a2 s, ∃ t, execFinish a0 a1 a2 s = .next t ∧ Chg 68719476786 s t := by
  intro a0 a1 a2 s
  unfold execFinish
  try dsimp only
  refine ⟨_, rfl, ?_⟩
  refine Chg.when ?_ ?_
  · split
    · refine Chg.step (State.spdmError_chg ..) ?_ (by decide)
      refine Chg.step (State.mgtBit_chg ..) ?_ (by decide)
      refine Chg.u_mgmt ?_ _ (by decide)
      exact Chg.refl _ _
    · refine Chg.step (State.spdm_chg ..) ?_ (by decide)
      refine Chg.step (State.mgtBit_chg ..) ?_ (by decide)
      refine Chg.step (State.sessionSet_chg ..) ?_ (by decide)
      exact Chg.refl _ _
  · refine Chg.step (State.unlisted_chg ..) ?_ (by decide)
    exact Chg.refl _ _

theorem execHeartbeat_chg : ∀ a0 a1 s, ∃ t, execHeartbeat a0 a1 s = .next t ∧ Chg 68719476770 s t := by
  intro a0 a1 s
  unfold execHeartbeat
  try dsimp only
  refine ⟨_, rfl, ?_⟩
  refine Chg.when ?_ ?_
  · refine Chg.step (State.spdm_chg ..) ?_ (by decide)
    refine Chg.step (State.sessionSet_chg ..) ?_ (by decide)
    exact Chg.refl _ _
  · refine Chg.step (State.unlisted_chg ..) ?_ (by decide)
    exact Chg.refl _ _

theorem execKeyUpdate_chg : ∀ a0 a1 s, ∃ t, execKeyUpdate a0 a1 s = .next t ∧ Chg 68719476770 s t := by
  intro a0 a1 s
  unfold execKeyUpdate
  try dsimp only
  refine ⟨_, rfl, ?_⟩
  refine Chg.when ?_ ?_
  · refine Chg.step (State.spdm_chg ..) ?_ (by decide)
    refine Chg.step (State.sessionSet_chg ..) ?_ (by decide)
    exact Chg.refl _ _
  · refine Chg.step (State.unlisted_chg ..) ?_ (by decide)
    exact Chg.refl _ _

theorem execEndSession_chg : ∀ a0 a1 s, ∃ t, execEndSession a0 a1 s = .next t ∧ Chg 68719477810 s t := by
  intro a0 a1 s
  unfold execEndSession
  try dsimp only
  refine ⟨_, rfl, ?_⟩
  refine Chg.when ?_ ?_
  · refine Chg.step (State.spdm_chg ..) ?_ (by decide)
    refine Chg.step (State.sessionsEnd_chg ..) ?_ (by decide)
    exact Chg.refl _ _
  · refine Chg.step (State.unlisted_chg ..) ?_ (by decide)
    exact Chg.refl _ _

theorem execSessionIdleTimeout_chg : ∀ a0 s, ∃ t, execSessionIdleTimeout a0 s = .next t ∧ Chg 68719477808 s t := by
  intro a0 s
  unfold execSessionIdleTimeout
  try dsimp only
  refine ⟨_, rfl, ?_⟩
  refine Chg.when ?_ ?_
  · refine Chg.step (State.sessionsEnd_chg ..) ?_ (by decide)
    exact Chg.refl _ _
  · refine Chg.step (State.unlisted_chg ..) ?_ (by decide)
    exact Chg.refl _ _

theorem execNeighborSolicitation_chg : ∀ a0 s, ∃ t, execNeighborSolicitation a0 s = .next t ∧ Chg 34 s t := by
  intro a0 s
  unfold execNeighborSolicitation
  try dsimp only
  refine ⟨_, rfl, ?_⟩
  refine Chg.when ?_ ?_
  · refine Chg.ite ?_ ?_
    · refine Chg.step (State.emit_chg ..) ?_ (by decide)
      exact Chg.refl _ _
    · exact Chg.refl _ _
  · refine Chg.step (State.unlisted_chg ..) ?_ (by decide)
    exact Chg.refl _ _

theorem execEchoRequest_chg : ∀ a0 a1 s, ∃ t, execEchoRequest a0 a1 s = .next t ∧ Chg 34 s t := by
  intro a0 a1 s
  unfold execEchoRequest
  try dsimp only
  refine ⟨_, rfl, ?_⟩
  refine Chg.when ?_ ?_
  · refine Chg.ite ?_ ?_
    · refine Chg.step (State.emit_chg ..) ?_ (by decide)
      exact Chg.refl _ _
    · exact Chg.refl _ _
  · refine Chg.step (State.unlisted_chg ..) ?_ (by decide)
    exact Chg.refl _ _

theorem execT1sLinkUp_chg : ∀ a0 s, ∃ t, execT1sLinkUp a0 s = .next t ∧ Chg 68719476768 s t := by
  intro a0 s
  unfold execT1sLinkUp
  try dsimp only
  refine ⟨_, rfl, ?_⟩
  refine Chg.when ?_ ?_
  · refine Chg.u_mgmt ?_ _ (by decide)
    exact Chg.refl _ _
  · refine Chg.step (State.unlisted_chg ..) ?_ (by decide)
    exact Chg.refl _ _

theorem execT1sLinkDown_chg : ∀ s, ∃ t, execT1sLinkDown s = .next t ∧ Chg 68719476768 s t := by
  intro s
  unfold execT1sLinkDown
  try dsimp only
  refine ⟨_, rfl, ?_⟩
  refine Chg.when ?_ ?_
  · refine Chg.u_mgmt ?_ _ (by decide)
    exact Chg.refl _ _
  · refine Chg.step (State.unlisted_chg ..) ?_ (by decide)
    exact Chg.refl _ _

theorem State.telemSend_chg : ∀ s a1 a2 a3 a4, Chg 68719476738 s (State.telemSend s a1 a2 a3 a4).1 := by
  intro s a1 a2 a3 a4
  unfold State.telemSend
  refine Chg.fstIte ?_ ?_
  · exact Chg.refl _ _
  · exact Chg.step (State.emit_chg ..) (Chg.u_mgmt (Chg.refl _ _) _ (by decide)) (by decide)

theorem State.telemPush_chg : ∀ s a1, Chg 68719476754 s (State.telemPush s a1) := by
  intro s a1
  unfold State.telemPush
  try dsimp only
  refine Chg.ite ?_ ?_
  · exact Chg.refl _ _
  · refine Chg.ite ?_ ?_
    · refine Chg.foldlFst ?_ ?_ _
      · intro _ _
        refine Chg.fstIte ?_ ?_
        · refine Chg.step (State.telemSend_chg ..) ?_ (by decide)
          exact Chg.refl _ _
        · exact Chg.refl _ _
      · dsimp only
        refine Chg.u_mgmt ?_ _ (by decide)
        exact Chg.refl _ _
    · refine Chg.step (State.mgtBit_chg ..) ?_ (by decide)
      refine Chg.u_mgmt ?_ _ (by decide)
      refine Chg.foldlFst ?_ ?_ _
      · intro _ _
        refine Chg.fstIte ?_ ?_
        · refine Chg.step (State.telemSend_chg ..) ?_ (by decide)
          exact Chg.refl _ _
        · exact Chg.refl _ _
      · dsimp only
        refine Chg.u_mgmt ?_ _ (by decide)
        exact Chg.refl _ _

theorem execTelemetryPeriod_chg : ∀ a0 s, ∃ t, execTelemetryPeriod a0 s = .next t ∧ Chg 86218318962 s t := by
  intro a0 s
  unfold execTelemetryPeriod
  try dsimp only
  refine ⟨_, rfl, ?_⟩
  refine Chg.when ?_ ?_
  · refine Chg.step (State.telemPush_chg ..) ?_ (by decide)
    refine Chg.step (State.boundary_chg ..) ?_ (by decide)
    exact Chg.refl _ _
  · refine Chg.step (State.unlisted_chg ..) ?_ (by decide)
    refine Chg.step (State.boundary_chg ..) ?_ (by decide)
    exact Chg.refl _ _

theorem execTelemetryEventPush_chg : ∀ a0 s, ∃ t, execTelemetryEventPush a0 s = .next t ∧ Chg 68719476786 s t := by
  intro a0 s
  unfold execTelemetryEventPush
  try dsimp only
  refine ⟨_, rfl, ?_⟩
  refine Chg.when ?_ ?_
  · refine Chg.step (State.telemPush_chg ..) ?_ (by decide)
    refine Chg.u_mgmt ?_ _ (by decide)
    exact Chg.refl _ _
  · refine Chg.step (State.unlisted_chg ..) ?_ (by decide)
    exact Chg.refl _ _

end Sys2Proof.Machine
end

