-- ==== Sys2Proof/Laws/ChgFlowOps.lean ====
section
/-! SUPPORT. What the operations of Machine/FlowOps.lean may change: one lemma for each. -/

set_option linter.all false

namespace Sys2Proof.Machine

theorem State.askBlocks_chg : ∀ s a1 a2, Chg 33538 s (State.askBlocks s a1 a2) := by
  intro s a1 a2
  unfold State.askBlocks
  try dsimp only
  refine Chg.forEach ?_ ?_
  · intro _ _
    refine Chg.step (State.dmaAsk_chg ..) ?_ (by decide)
    exact Chg.refl _ _
  · refine Chg.forEach ?_ ?_
    · intro _ _
      refine Chg.forEach ?_ ?_
      · intro _ _
        refine Chg.step (State.dmaAsk_chg ..) ?_ (by decide)
        exact Chg.refl _ _
      · exact Chg.refl _ _
    · exact Chg.refl _ _

theorem State.blockTry_chg : ∀ s a1 a2, Chg 318775296 s (State.blockTry s a1 a2) := by
  intro s a1 a2
  unfold State.blockTry
  try dsimp only
  refine Chg.ite ?_ ?_
  · exact Chg.refl _ _
  · refine Chg.ite ?_ ?_
    · refine Chg.step (State.setBlk_chg ..) ?_ (by decide)
      exact Chg.refl _ _
    · split
      · exact Chg.refl _ _
      · refine Chg.ite ?_ ?_
        · refine Chg.step (State.setBlk_chg ..) ?_ (by decide)
          exact Chg.refl _ _
        · refine Chg.step (State.blockIn_chg ..) ?_ (by decide)
          exact Chg.refl _ _

theorem State.partIn_chg : ∀ s a1 a2 a3 a4, Chg 318775296 s (State.partIn s a1 a2 a3 a4) := by
  intro s a1 a2 a3 a4
  unfold State.partIn
  try dsimp only
  refine Chg.step (State.blockTry_chg ..) ?_ (by decide)
  refine Chg.step (State.setBlk_chg ..) ?_ (by decide)
  exact Chg.refl _ _

theorem State.infoIn_chg : ∀ s a1 a2 a3, Chg 318775296 s (State.infoIn s a1 a2 a3) := by
  intro s a1 a2 a3
  unfold State.infoIn
  try dsimp only
  refine Chg.forEach ?_ ?_
  · intro _ _
    refine Chg.ite ?_ ?_
    · exact Chg.refl _ _
    · refine Chg.step (State.blockTry_chg ..) ?_ (by decide)
      exact Chg.refl _ _
  · refine Chg.step (State.setTag_chg ..) ?_ (by decide)
    exact Chg.refl _ _

theorem State.fillBlock_chg : ∀ s a1 a2, Chg 318775296 s (State.fillBlock s a1 a2) := by
  intro s a1 a2
  unfold State.fillBlock
  try dsimp only
  refine Chg.ite ?_ ?_
  · exact Chg.refl _ _
  · split
    · refine Chg.ite ?_ ?_
      · refine Chg.step (State.commitTag_chg ..) ?_ (by decide)
        refine Chg.step (State.setBlk_chg ..) ?_ (by decide)
        exact Chg.refl _ _
      · refine Chg.step (State.setBlk_chg ..) ?_ (by decide)
        exact Chg.refl _ _
    · refine Chg.step (State.commitTag_chg ..) ?_ (by decide)
      refine Chg.step (State.setBlk_chg ..) ?_ (by decide)
      exact Chg.refl _ _
    · refine Chg.ite ?_ ?_
      · refine Chg.step (State.commitTag_chg ..) ?_ (by decide)
        refine Chg.step (State.setBlk_chg ..) ?_ (by decide)
        exact Chg.refl _ _
      · refine Chg.ite ?_ ?_
        · refine Chg.step (State.setBlk_chg ..) ?_ (by decide)
          exact Chg.refl _ _
        · refine Chg.ite ?_ ?_
          · refine Chg.step (State.commitTag_chg ..) ?_ (by decide)
            refine Chg.step (State.setBlk_chg ..) ?_ (by decide)
            exact Chg.refl _ _
          · refine Chg.step (State.setBlk_chg ..) ?_ (by decide)
            exact Chg.refl _ _
    · refine Chg.ite ?_ ?_
      · refine Chg.step (State.commitTag_chg ..) ?_ (by decide)
        refine Chg.step (State.setBlk_chg ..) ?_ (by decide)
        exact Chg.refl _ _
      · exact Chg.refl _ _
    · exact Chg.refl _ _

theorem State.fillBlocks_chg : ∀ s a1 a2, Chg 318775296 s (State.fillBlocks s a1 a2) := by
  intro s a1 a2
  unfold State.fillBlocks
  try dsimp only
  refine Chg.forEach ?_ ?_
  · intro _ _
    refine Chg.step (State.fillBlock_chg ..) ?_ (by decide)
    exact Chg.refl _ _
  · exact Chg.refl _ _

theorem State.hostRun_chg : ∀ s a1 a2 a3 a4, Chg 230210 s (State.hostRun s a1 a2 a3 a4) := by
  intro s a1 a2 a3 a4
  unfold State.hostRun
  try dsimp only
  refine Chg.forEach ?_ ?_
  · intro _ _
    refine Chg.step (State.hostWrite_chg ..) ?_ (by decide)
    exact Chg.refl _ _
  · exact Chg.refl _ _

theorem State.sendBlocks_chg : ∀ s a1 a2, Chg 319005506 s (State.sendBlocks s a1 a2) := by
  intro s a1 a2
  unfold State.sendBlocks
  try dsimp only
  refine Chg.ite ?_ ?_
  · refine Chg.forEach ?_ ?_
    · intro _ _
      refine Chg.ite ?_ ?_
      · refine Chg.step (State.hostRun_chg ..) ?_ (by decide)
        exact Chg.refl _ _
      · refine Chg.step (State.hostRun_chg ..) ?_ (by decide)
        refine Chg.step (State.hostRun_chg ..) ?_ (by decide)
        exact Chg.refl _ _
    · exact Chg.refl _ _
  · refine Chg.step (State.commitTag_chg ..) ?_ (by decide)
    refine Chg.forEach ?_ ?_
    · intro _ _
      refine Chg.ite ?_ ?_
      · refine Chg.step (State.hostRun_chg ..) ?_ (by decide)
        exact Chg.refl _ _
      · refine Chg.step (State.hostRun_chg ..) ?_ (by decide)
        refine Chg.step (State.hostRun_chg ..) ?_ (by decide)
        exact Chg.refl _ _
    · exact Chg.refl _ _

theorem State.enterPipe_chg : ∀ s a1 a2, Chg 8192 s (State.enterPipe s a1 a2) := by
  intro s a1 a2
  unfold State.enterPipe
  try dsimp only
  refine Chg.ite ?_ ?_
  · exact Chg.refl _ _
  · refine Chg.ite ?_ ?_
    · refine Chg.step (State.setBlk_chg ..) ?_ (by decide)
      exact Chg.refl _ _
    · refine Chg.ite ?_ ?_
      · refine Chg.step (State.setBlk_chg ..) ?_ (by decide)
        exact Chg.refl _ _
      · exact Chg.refl _ _

theorem State.zoneFullWatch_chg : ∀ s a1 a2, Chg 696254464 s (State.zoneFullWatch s a1 a2) := by
  intro s a1 a2
  unfold State.zoneFullWatch
  try dsimp only
  refine Chg.ite ?_ ?_
  · refine Chg.step (State.zoneTo_chg ..) ?_ (by decide)
    refine Chg.step (State.trimCharge_chg ..) ?_ (by decide)
    refine Chg.step (State.zrwaRelease_chg ..) ?_ (by decide)
    exact Chg.refl _ _
  · exact Chg.refl _ _

theorem State.putEnt_chg : ∀ s a1 a2 a3, Chg 612368384 s (State.putEnt s a1 a2 a3) := by
  intro s a1 a2 a3
  unfold State.putEnt
  try dsimp only
  refine Chg.ite ?_ ?_
  · refine Chg.step (State.entryPut_chg ..) ?_ (by decide)
    exact Chg.refl _ _
  · refine Chg.step (State.hostPut_chg ..) ?_ (by decide)
    exact Chg.refl _ _

theorem State.countCoded_chg : ∀ s a1, Chg 2692743168 s (State.countCoded s a1) := by
  intro s a1
  unfold State.countCoded
  try dsimp only
  refine Chg.ite ?_ ?_
  · refine Chg.u_media ?_ _ (by decide)
    exact Chg.refl _ _
  · refine Chg.u_cmp ?_ _ (by decide)
    refine Chg.step (State.setNs_chg ..) ?_ (by decide)
    refine Chg.u_media ?_ _ (by decide)
    exact Chg.refl _ _

theorem State.placeWatch_chg : ∀ s a1, Chg 33554432 s (State.placeWatch s a1) := by
  intro s a1
  unfold State.placeWatch
  try dsimp only
  refine Chg.ite ?_ ?_
  · exact Chg.refl _ _
  · refine Chg.also ?_ ?_
    · refine Chg.step (State.fdpEvent_chg ..) ?_ (by decide)
      refine Chg.u_pool ?_ _ (by decide)
      exact Chg.refl _ _
    · refine Chg.u_pool ?_ _ (by decide)
      exact Chg.refl _ _

theorem State.commitBlocks_chg : ∀ s a1, Chg 4135583744 s (State.commitBlocks s a1) := by
  intro s a1
  unfold State.commitBlocks
  try dsimp only
  refine Chg.forEach ?_ ?_
  · intro _ _
    refine Chg.ite ?_ ?_
    · refine Chg.u_pool ?_ _ (by decide)
      refine Chg.ite ?_ ?_
      · refine Chg.ite ?_ ?_
        · refine Chg.step (State.putEnt_chg ..) ?_ (by decide)
          refine Chg.step (State.countCoded_chg ..) ?_ (by decide)
          refine Chg.step (State.zoneRewrite_chg ..) ?_ (by decide)
          refine Chg.step (State.setWblk_chg ..) ?_ (by decide)
          exact Chg.refl _ _
        · refine Chg.u_map ?_ _ (by decide)
          refine Chg.step (State.countCoded_chg ..) ?_ (by decide)
          refine Chg.step (State.zoneRewrite_chg ..) ?_ (by decide)
          refine Chg.step (State.setWblk_chg ..) ?_ (by decide)
          exact Chg.refl _ _
      · refine Chg.u_wbuf ?_ _ (by decide)
        refine Chg.ite ?_ ?_
        · refine Chg.step (State.putEnt_chg ..) ?_ (by decide)
          refine Chg.step (State.countCoded_chg ..) ?_ (by decide)
          refine Chg.step (State.zoneRewrite_chg ..) ?_ (by decide)
          refine Chg.step (State.setWblk_chg ..) ?_ (by decide)
          exact Chg.refl _ _
        · refine Chg.u_map ?_ _ (by decide)
          refine Chg.step (State.countCoded_chg ..) ?_ (by decide)
          refine Chg.step (State.zoneRewrite_chg ..) ?_ (by decide)
          refine Chg.step (State.setWblk_chg ..) ?_ (by decide)
          exact Chg.refl _ _
    · refine Chg.ite ?_ ?_
      · refine Chg.ite ?_ ?_
        · refine Chg.step (State.putEnt_chg ..) ?_ (by decide)
          refine Chg.step (State.countCoded_chg ..) ?_ (by decide)
          refine Chg.step (State.zoneRewrite_chg ..) ?_ (by decide)
          refine Chg.step (State.setWblk_chg ..) ?_ (by decide)
          exact Chg.refl _ _
        · refine Chg.u_map ?_ _ (by decide)
          refine Chg.step (State.countCoded_chg ..) ?_ (by decide)
          refine Chg.step (State.zoneRewrite_chg ..) ?_ (by decide)
          refine Chg.step (State.setWblk_chg ..) ?_ (by decide)
          exact Chg.refl _ _
      · refine Chg.u_wbuf ?_ _ (by decide)
        refine Chg.ite ?_ ?_
        · refine Chg.step (State.putEnt_chg ..) ?_ (by decide)
          refine Chg.step (State.countCoded_chg ..) ?_ (by decide)
          refine Chg.step (State.zoneRewrite_chg ..) ?_ (by decide)
          refine Chg.step (State.setWblk_chg ..) ?_ (by decide)
          exact Chg.refl _ _
        · refine Chg.u_map ?_ _ (by decide)
          refine Chg.step (State.countCoded_chg ..) ?_ (by decide)
          refine Chg.step (State.zoneRewrite_chg ..) ?_ (by decide)
          refine Chg.step (State.setWblk_chg ..) ?_ (by decide)
          exact Chg.refl _ _
  · refine Chg.step (State.seqDraw_chg ..) ?_ (by decide)
    refine Chg.step (State.placeWatch_chg ..) ?_ (by decide)
    exact Chg.refl _ _

theorem State.commitZone_chg : ∀ s a1, Chg 696254464 s (State.commitZone s a1) := by
  intro s a1
  unfold State.commitZone
  try dsimp only
  refine Chg.ite ?_ ?_
  · exact Chg.refl _ _
  · refine Chg.ite ?_ ?_
    · exact Chg.refl _ _
    · refine Chg.step (State.zoneFullWatch_chg ..) ?_ (by decide)
      refine Chg.step (State.zoneSettle_chg ..) ?_ (by decide)
      refine Chg.step (State.setZone_chg ..) ?_ (by decide)
      exact Chg.refl _ _

theorem State.commitStale_chg : ∀ s a1, Chg 2088763392 s (State.commitStale s a1) := by
  intro s a1
  unfold State.commitStale
  try dsimp only
  refine Chg.ite ?_ ?_
  · refine Chg.step (State.journal_chg ..) ?_ (by decide)
    refine Chg.forEach ?_ ?_
    · intro _ _
      refine Chg.step (State.putEnt_chg ..) ?_ (by decide)
      exact Chg.refl _ _
    · exact Chg.refl _ _
  · refine Chg.forEach ?_ ?_
    · intro _ _
      refine Chg.step (State.setMent_chg ..) ?_ (by decide)
      refine Chg.step (State.zoneRewrite_chg ..) ?_ (by decide)
      refine Chg.u_wbuf ?_ _ (by decide)
      refine Chg.step (State.setWblk_chg ..) ?_ (by decide)
      exact Chg.refl _ _
    · refine Chg.step (State.seqDraw_chg ..) ?_ (by decide)
      exact Chg.refl _ _

theorem State.mapCommit_chg : ∀ s a1, Chg 4286586880 s (State.mapCommit s a1) := by
  intro s a1
  unfold State.mapCommit
  try dsimp only
  refine Chg.ite ?_ ?_
  · refine Chg.step (State.dropStaged_chg ..) ?_ (by decide)
    refine Chg.step (State.poolRelease_chg ..) ?_ (by decide)
    exact Chg.refl _ _
  · refine Chg.ite ?_ ?_
    · refine Chg.ite ?_ ?_
      · refine Chg.step (State.poolRelease_chg ..) ?_ (by decide)
        exact Chg.refl _ _
      · refine Chg.forEach ?_ ?_
        · intro _ _
          refine Chg.step (State.trimRun_chg ..) ?_ (by decide)
          exact Chg.refl _ _
        · refine Chg.step (State.poolRelease_chg ..) ?_ (by decide)
          exact Chg.refl _ _
    · refine Chg.ite ?_ ?_
      · refine Chg.ite ?_ ?_
        · refine Chg.step (State.poolRelease_chg ..) ?_ (by decide)
          exact Chg.refl _ _
        · refine Chg.step (State.trimRun_chg ..) ?_ (by decide)
          refine Chg.step (State.poolRelease_chg ..) ?_ (by decide)
          exact Chg.refl _ _
      · refine Chg.ite ?_ ?_
        · refine Chg.step (State.commitZone_chg ..) ?_ (by decide)
          refine Chg.step (State.commitStale_chg ..) ?_ (by decide)
          refine Chg.step (State.poolRelease_chg ..) ?_ (by decide)
          exact Chg.refl _ _
        · refine Chg.step (State.commitZone_chg ..) ?_ (by decide)
          refine Chg.step (State.commitBlocks_chg ..) ?_ (by decide)
          refine Chg.step (State.poolRelease_chg ..) ?_ (by decide)
          exact Chg.refl _ _

theorem State.finishTag_chg : ∀ s a1, Chg 2466258944 s (State.finishTag s a1) := by
  intro s a1
  unfold State.finishTag
  try dsimp only
  refine Chg.ite ?_ ?_
  · refine Chg.u_cmp ?_ _ (by decide)
    refine Chg.step (State.succeed_chg ..) ?_ (by decide)
    exact Chg.refl _ _
  · refine Chg.ite ?_ ?_
    · refine Chg.step (State.succeed_chg ..) ?_ (by decide)
      exact Chg.refl _ _
    · refine Chg.step (State.succeed_chg ..) ?_ (by decide)
      exact Chg.refl _ _

theorem State.sendStage_chg : ∀ s a1, Chg 230210 s (State.sendStage s a1) := by
  intro s a1
  unfold State.sendStage
  try dsimp only
  refine Chg.step (State.hostRun_chg ..) ?_ (by decide)
  exact Chg.refl _ _

theorem State.advance_chg : ∀ s a1, Chg 2466489154 s (State.advance s a1) := by
  intro s a1
  unfold State.advance
  try dsimp only
  split
  · exact Chg.refl _ _
  · refine Chg.ite ?_ ?_
    · exact Chg.refl _ _
    · refine Chg.ite ?_ ?_
      · exact Chg.refl _ _
      · refine Chg.ite ?_ ?_
        · refine Chg.step (State.finishTag_chg ..) ?_ (by decide)
          exact Chg.refl _ _
        · split
          · refine Chg.step (State.askBlocks_chg ..) ?_ (by decide)
            refine Chg.step (State.setTag_chg ..) ?_ (by decide)
            exact Chg.refl _ _
          · refine Chg.ite ?_ ?_
            · refine Chg.step (State.sendStage_chg ..) ?_ (by decide)
              refine Chg.step (State.setTag_chg ..) ?_ (by decide)
              exact Chg.refl _ _
            · refine Chg.step (State.sendBlocks_chg ..) ?_ (by decide)
              refine Chg.step (State.setTag_chg ..) ?_ (by decide)
              exact Chg.refl _ _
          · refine Chg.step (State.fillBlocks_chg ..) ?_ (by decide)
            refine Chg.step (State.setTag_chg ..) ?_ (by decide)
            exact Chg.refl _ _
          · refine Chg.forEach ?_ ?_
            · intro _ _
              refine Chg.step (State.bypass_chg ..) ?_ (by decide)
              refine Chg.step (State.enterPipe_chg ..) ?_ (by decide)
              exact Chg.refl _ _
            · refine Chg.step (State.setTag_chg ..) ?_ (by decide)
              exact Chg.refl _ _
          · refine Chg.step (State.setTag_chg ..) ?_ (by decide)
            exact Chg.refl _ _

theorem State.releaseTag_chg : ∀ s a1, Chg 3003360066 s (State.releaseTag s a1) := by
  intro s a1
  unfold State.releaseTag
  try dsimp only
  refine Chg.step (State.advance_chg ..) ?_ (by decide)
  refine Chg.ite ?_ ?_
  · refine Chg.step (State.setTag_chg ..) ?_ (by decide)
    exact Chg.refl _ _
  · refine Chg.step (State.takeMap_chg ..) ?_ (by decide)
    refine Chg.step (State.setTag_chg ..) ?_ (by decide)
    exact Chg.refl _ _

theorem State.stepEffect_chg : ∀ s a1 a2, Chg 4286586880 s (State.stepEffect s a1 a2) := by
  intro s a1 a2
  unfold State.stepEffect
  try dsimp only
  split
  · refine Chg.ite ?_ ?_
    · refine Chg.step (State.setTag_chg ..) ?_ (by decide)
      exact Chg.refl _ _
    · refine Chg.ite ?_ ?_
      · refine Chg.ite ?_ ?_
        · refine Chg.step (State.commitTag_chg ..) ?_ (by decide)
          exact Chg.refl _ _
        · refine Chg.ite ?_ ?_
          · exact Chg.refl _ _
          · refine Chg.step (State.commitTag_chg ..) ?_ (by decide)
            exact Chg.refl _ _
      · exact Chg.refl _ _
  · refine Chg.step (State.mapCommit_chg ..) ?_ (by decide)
    exact Chg.refl _ _
  · exact Chg.refl _ _

theorem State.stepNext_chg : ∀ s a1 a2, Chg 4286817090 s (State.stepNext s a1 a2) := by
  intro s a1 a2
  unfold State.stepNext
  try dsimp only
  refine Chg.ite ?_ ?_
  · refine Chg.step (State.advance_chg ..) ?_ (by decide)
    refine Chg.step (State.setTag_chg ..) ?_ (by decide)
    refine Chg.step (State.stepEffect_chg ..) ?_ (by decide)
    exact Chg.refl _ _
  · refine Chg.step (State.setTag_chg ..) ?_ (by decide)
    refine Chg.step (State.stepEffect_chg ..) ?_ (by decide)
    exact Chg.refl _ _

theorem State.commitPump_chg : ∀ s, Chg 88030798938 s (State.commitPump s) := by
  intro s
  unfold State.commitPump
  try dsimp only
  refine Chg.ite ?_ ?_
  · refine Chg.step (State.critWatch_chg ..) ?_ (by decide)
    refine Chg.step (State.writebackPump_chg ..) ?_ (by decide)
    refine Chg.step (State.jrnWatch_chg ..) ?_ (by decide)
    refine Chg.step (State.mediaPump_chg ..) ?_ (by decide)
    exact Chg.refl _ _
  · exact Chg.refl _ _

theorem State.askList_chg : ∀ s a1 a2, Chg 33538 s (State.askList s a1 a2) := by
  intro s a1 a2
  unfold State.askList
  try dsimp only
  split
  · exact Chg.refl _ _
  · refine Chg.step (State.dmaAsk_chg ..) ?_ (by decide)
    exact Chg.refl _ _

theorem State.listFrom_chg : ∀ s a1 a2 a3, Chg 41730 s (State.listFrom s a1 a2 a3) := by
  intro s a1 a2 a3
  unfold State.listFrom
  try dsimp only
  refine Chg.step (State.askList_chg ..) ?_ (by decide)
  refine Chg.step (State.setTag_chg ..) ?_ (by decide)
  exact Chg.refl _ _

theorem State.secondList_chg : ∀ s a1, Chg 41730 s (State.secondList s a1) := by
  intro s a1
  unfold State.secondList
  try dsimp only
  refine Chg.ite ?_ ?_
  · refine Chg.step (State.listFrom_chg ..) ?_ (by decide)
    exact Chg.refl _ _
  · refine Chg.ite ?_ ?_
    · refine Chg.step (State.listFrom_chg ..) ?_ (by decide)
      exact Chg.refl _ _
    · refine Chg.step (State.setTag_chg ..) ?_ (by decide)
      exact Chg.refl _ _

theorem State.startLists_chg : ∀ s a1, Chg 41730 s (State.startLists s a1) := by
  intro s a1
  unfold State.startLists
  try dsimp only
  split
  · refine Chg.step (State.listFrom_chg ..) ?_ (by decide)
    exact Chg.refl _ _
  · refine Chg.step (State.secondList_chg ..) ?_ (by decide)
    exact Chg.refl _ _

theorem State.prpList_chg : ∀ s a1 a2 a3, Chg 318808834 s (State.prpList s a1 a2 a3) := by
  intro s a1 a2 a3
  unfold State.prpList
  try dsimp only
  refine Chg.ite ?_ ?_
  · refine Chg.step (State.commitTag_chg ..) ?_ (by decide)
    exact Chg.refl _ _
  · refine Chg.ite ?_ ?_
    · refine Chg.step (State.commitTag_chg ..) ?_ (by decide)
      exact Chg.refl _ _
    · refine Chg.ite ?_ ?_
      · refine Chg.step (State.listFrom_chg ..) ?_ (by decide)
        refine Chg.step (State.setTag_chg ..) ?_ (by decide)
        exact Chg.refl _ _
      · refine Chg.ite ?_ ?_
        · refine Chg.step (State.setTag_chg ..) ?_ (by decide)
          refine Chg.step (State.setTag_chg ..) ?_ (by decide)
          exact Chg.refl _ _
        · refine Chg.step (State.secondList_chg ..) ?_ (by decide)
          refine Chg.step (State.setTag_chg ..) ?_ (by decide)
          exact Chg.refl _ _

theorem State.sglList_chg : ∀ s a1 a2, Chg 318808834 s (State.sglList s a1 a2) := by
  intro s a1 a2
  unfold State.sglList
  try dsimp only
  refine Chg.ite ?_ ?_
  · refine Chg.step (State.commitTag_chg ..) ?_ (by decide)
    exact Chg.refl _ _
  · refine Chg.ite ?_ ?_
    · refine Chg.step (State.commitTag_chg ..) ?_ (by decide)
      exact Chg.refl _ _
    · split
      · refine Chg.ite ?_ ?_
        · refine Chg.step (State.commitTag_chg ..) ?_ (by decide)
          exact Chg.refl _ _
        · refine Chg.step (State.listFrom_chg ..) ?_ (by decide)
          refine Chg.step (State.setTag_chg ..) ?_ (by decide)
          exact Chg.refl _ _
      · refine Chg.ite ?_ ?_
        · refine Chg.step (State.commitTag_chg ..) ?_ (by decide)
          exact Chg.refl _ _
        · refine Chg.step (State.secondList_chg ..) ?_ (by decide)
          refine Chg.step (State.setTag_chg ..) ?_ (by decide)
          exact Chg.refl _ _

theorem State.listIn_chg : ∀ s a1 a2 a3, Chg 318808834 s (State.listIn s a1 a2 a3) := by
  intro s a1 a2 a3
  unfold State.listIn
  try dsimp only
  split
  · exact Chg.refl _ _
  · refine Chg.ite ?_ ?_
    · refine Chg.step (State.askList_chg ..) ?_ (by decide)
      refine Chg.step (State.setTag_chg ..) ?_ (by decide)
      exact Chg.refl _ _
    · refine Chg.ite ?_ ?_
      · split
        · refine Chg.ite ?_ ?_
          · refine Chg.step (State.commitTag_chg ..) ?_ (by decide)
            refine Chg.step (State.setTag_chg ..) ?_ (by decide)
            exact Chg.refl _ _
          · refine Chg.step (State.setTag_chg ..) ?_ (by decide)
            refine Chg.step (State.setTag_chg ..) ?_ (by decide)
            exact Chg.refl _ _
        · refine Chg.step (State.setTag_chg ..) ?_ (by decide)
          exact Chg.refl _ _
      · refine Chg.ite ?_ ?_
        · refine Chg.step (State.prpList_chg ..) ?_ (by decide)
          refine Chg.step (State.setTag_chg ..) ?_ (by decide)
          exact Chg.refl _ _
        · refine Chg.step (State.sglList_chg ..) ?_ (by decide)
          refine Chg.step (State.setTag_chg ..) ?_ (by decide)
          exact Chg.refl _ _

end Sys2Proof.Machine
end

