-- ==== Sys2Proof/Laws/ChgCmd.lean ====
section
/-! SUPPORT. What the operations of Machine/Cmd.lean may change: one lemma for each. -/

set_option linter.all false

namespace Sys2Proof.Machine

theorem State.psArrive_chg : ∀ s a1, Chg 16392 s (State.psArrive s a1) := by
  intro s a1
  unfold State.psArrive
  try dsimp only
  refine Chg.ite ?_ ?_
  · exact Chg.refl _ _
  · refine Chg.u_mode ?_ _ (by decide)
    refine Chg.step (State.setCtrl_chg ..) ?_ (by decide)
    exact Chg.refl _ _

theorem State.entryIn_chg : ∀ s a1 a2 a3, Chg 4447118 s (State.entryIn s a1 a2 a3) := by
  intro s a1 a2 a3
  unfold State.entryIn
  try dsimp only
  split
  · refine Chg.step (State.cqPut_chg ..) ?_ (by decide)
    refine Chg.step (State.addError_chg ..) ?_ (by decide)
    refine Chg.step (State.engineAsk_chg ..) ?_ (by decide)
    exact Chg.refl _ _
  · refine Chg.ite ?_ ?_
    · refine Chg.step (State.cqPut_chg ..) ?_ (by decide)
      refine Chg.u_cmds ?_ _ (by decide)
      exact Chg.refl _ _
    · refine Chg.ite ?_ ?_
      · refine Chg.ite ?_ ?_
        · refine Chg.step (State.cqPut_chg ..) ?_ (by decide)
          exact Chg.refl _ _
        · exact Chg.refl _ _
      · refine Chg.ite ?_ ?_
        · refine Chg.step (State.cqPut_chg ..) ?_ (by decide)
          exact Chg.refl _ _
        · refine Chg.ite ?_ ?_
          · refine Chg.step (State.setSq_chg ..) ?_ (by decide)
            exact Chg.refl _ _
          · refine Chg.step (State.psArrive_chg ..) ?_ (by decide)
            refine Chg.step (State.setSq_chg ..) ?_ (by decide)
            exact Chg.refl _ _

theorem State.entriesIn_chg : ∀ s a1 a2, Chg 4447118 s (State.entriesIn s a1 a2) := by
  intro s a1 a2
  unfold State.entriesIn
  try dsimp only
  refine Chg.forEach ?_ ?_
  · intro _ _
    refine Chg.step (State.entryIn_chg ..) ?_ (by decide)
    refine Chg.step (State.setSq_chg ..) ?_ (by decide)
    exact Chg.refl _ _
  · exact Chg.refl _ _

theorem execEntryFetch_chg : ∀ a0 a1 s, ∃ t, execEntryFetch a0 a1 s = .next t ∧ Chg 4447214 s t := by
  intro a0 a1 s
  unfold execEntryFetch
  try dsimp only
  refine ⟨_, rfl, ?_⟩
  refine Chg.ite ?_ ?_
  · refine Chg.when ?_ ?_
    · refine Chg.step (State.entriesIn_chg ..) ?_ (by decide)
      exact Chg.refl _ _
    · refine Chg.step (State.unlisted_chg ..) ?_ (by decide)
      exact Chg.refl _ _
  · split
    · refine Chg.step (State.unlisted_chg ..) ?_ (by decide)
      exact Chg.refl _ _
    · refine Chg.ite ?_ ?_
      · refine Chg.step (State.unlisted_chg ..) ?_ (by decide)
        exact Chg.refl _ _
      · refine Chg.step (State.fetchAsk_chg ..) ?_ (by decide)
        refine Chg.step (State.entriesIn_chg ..) ?_ (by decide)
        refine Chg.step (State.dmaEnd_chg ..) ?_ (by decide)
        exact Chg.refl _ _

theorem State.boundaryPart_chg : ∀ s a1 a2, Chg 17498842194 s (State.boundaryPart s a1 a2) := by
  intro s a1 a2
  unfold State.boundaryPart
  try dsimp only
  split
  · exact Chg.refl _ _
  · refine Chg.ite ?_ ?_
    · refine Chg.step (State.boundary_chg ..) ?_ (by decide)
      exact Chg.refl _ _
    · refine Chg.u_dict ?_ _ (by decide)
      refine Chg.step (State.forceFields_chg ..) ?_ (by decide)
      exact Chg.refl _ _

theorem State.admissionBoundary_chg : ∀ s a1, Chg 86218335354 s (State.admissionBoundary s a1) := by
  intro s a1
  unfold State.admissionBoundary
  try dsimp only
  refine Chg.ite ?_ ?_
  · refine Chg.step (State.boundary_chg ..) ?_ (by decide)
    refine Chg.step (State.boundaryPart_chg ..) ?_ (by decide)
    refine Chg.step (State.protectBoundary_chg ..) ?_ (by decide)
    refine Chg.step (State.entryBoundary_chg ..) ?_ (by decide)
    refine Chg.step (State.boundary_chg ..) ?_ (by decide)
    refine Chg.step (State.boundary_chg ..) ?_ (by decide)
    exact Chg.refl _ _
  · refine Chg.step (State.boundaryPart_chg ..) ?_ (by decide)
    refine Chg.step (State.protectBoundary_chg ..) ?_ (by decide)
    refine Chg.step (State.entryBoundary_chg ..) ?_ (by decide)
    refine Chg.step (State.boundary_chg ..) ?_ (by decide)
    refine Chg.step (State.boundary_chg ..) ?_ (by decide)
    exact Chg.refl _ _

theorem State.countExceeded_chg : ∀ s a1 a2, Chg 41943040 s (State.countExceeded s a1 a2) := by
  intro s a1 a2
  unfold State.countExceeded
  try dsimp only
  refine Chg.ite ?_ ?_
  · refine Chg.u_pool ?_ _ (by decide)
    refine Chg.step (State.setNs_chg ..) ?_ (by decide)
    exact Chg.refl _ _
  · exact Chg.refl _ _

theorem State.turnTaken_chg : ∀ s a1 a2, Chg 262144 s (State.turnTaken s a1 a2) := by
  intro s a1 a2
  unfold State.turnTaken
  try dsimp only
  refine Chg.u_sched ?_ _ (by decide)
  exact Chg.refl _ _

theorem State.charge_chg : ∀ s a1 a2 a3, Chg 262160 s (State.charge s a1 a2 a3) := by
  intro s a1 a2 a3
  unfold State.charge
  try dsimp only
  refine Chg.ite ?_ ?_
  · refine Chg.step (State.schBit_chg ..) ?_ (by decide)
    refine Chg.ite ?_ ?_
    · refine Chg.u_sched ?_ _ (by decide)
      refine Chg.ite ?_ ?_
      · refine Chg.step (State.schBit_chg ..) ?_ (by decide)
        refine Chg.step (State.setPortPool_chg ..) ?_ (by decide)
        refine Chg.step (State.setCredit_chg ..) ?_ (by decide)
        exact Chg.refl _ _
      · refine Chg.step (State.setPortPool_chg ..) ?_ (by decide)
        refine Chg.step (State.setCredit_chg ..) ?_ (by decide)
        exact Chg.refl _ _
    · refine Chg.ite ?_ ?_
      · refine Chg.step (State.schBit_chg ..) ?_ (by decide)
        refine Chg.step (State.setPortPool_chg ..) ?_ (by decide)
        refine Chg.step (State.setCredit_chg ..) ?_ (by decide)
        exact Chg.refl _ _
      · refine Chg.step (State.setPortPool_chg ..) ?_ (by decide)
        refine Chg.step (State.setCredit_chg ..) ?_ (by decide)
        exact Chg.refl _ _
  · refine Chg.ite ?_ ?_
    · refine Chg.u_sched ?_ _ (by decide)
      refine Chg.ite ?_ ?_
      · refine Chg.step (State.schBit_chg ..) ?_ (by decide)
        refine Chg.step (State.setPortPool_chg ..) ?_ (by decide)
        refine Chg.step (State.setCredit_chg ..) ?_ (by decide)
        exact Chg.refl _ _
      · refine Chg.step (State.setPortPool_chg ..) ?_ (by decide)
        refine Chg.step (State.setCredit_chg ..) ?_ (by decide)
        exact Chg.refl _ _
    · refine Chg.ite ?_ ?_
      · refine Chg.step (State.schBit_chg ..) ?_ (by decide)
        refine Chg.step (State.setPortPool_chg ..) ?_ (by decide)
        refine Chg.step (State.setCredit_chg ..) ?_ (by decide)
        exact Chg.refl _ _
      · refine Chg.step (State.setPortPool_chg ..) ?_ (by decide)
        refine Chg.step (State.setCredit_chg ..) ?_ (by decide)
        exact Chg.refl _ _

theorem State.creditWait_chg : ∀ s a1 a2, Chg 262160 s (State.creditWait s a1 a2) := by
  intro s a1 a2
  unfold State.creditWait
  try dsimp only
  refine Chg.ite ?_ ?_
  · exact Chg.refl _ _
  · refine Chg.ite ?_ ?_
    · refine Chg.step (State.schBit_chg ..) ?_ (by decide)
      refine Chg.u_sched ?_ _ (by decide)
      exact Chg.refl _ _
    · refine Chg.u_sched ?_ _ (by decide)
      exact Chg.refl _ _

theorem State.tagWait_chg : ∀ s a1, Chg 294912 s (State.tagWait s a1) := by
  intro s a1
  unfold State.tagWait
  try dsimp only
  refine Chg.ite ?_ ?_
  · exact Chg.refl _ _
  · refine Chg.u_cmds_sched ?_ _ _ (by decide)
    exact Chg.refl _ _

theorem State.tagIn_chg : ∀ s a1 a2 a3, Chg 305922 s (State.tagIn s a1 a2 a3) := by
  intro s a1 a2 a3
  unfold State.tagIn
  try dsimp only
  refine Chg.step (State.fetchAsk_chg ..) ?_ (by decide)
  refine Chg.step (State.setTag_chg ..) ?_ (by decide)
  refine Chg.u_cmds_sched ?_ _ _ (by decide)
  refine Chg.step (State.setSq_chg ..) ?_ (by decide)
  exact Chg.refl _ _

theorem State.keyGenerate_chg : ∀ s a1, Chg 138521083904 s (State.keyGenerate s a1) := by
  intro s a1
  unfold State.keyGenerate
  try dsimp only
  refine Chg.ite ?_ ?_
  · refine Chg.step (State.keyTableWrite_chg ..) ?_ (by decide)
    refine Chg.u_sec ?_ _ ?_ (by decide)
    · refine Chg.step (State.setNs_chg ..) ?_ (by decide)
      exact Chg.refl _ _
    · exact List.prefix_rfl
  · exact Chg.refl _ _

theorem State.askBuffers_chg : ∀ s a1, Chg 17498842194 s (State.askBuffers s a1) := by
  intro s a1
  unfold State.askBuffers
  try dsimp only
  refine Chg.ite ?_ ?_
  · refine Chg.step (State.bufRequest_chg ..) ?_ (by decide)
    refine Chg.step (State.boundary_chg ..) ?_ (by decide)
    exact Chg.refl _ _
  · refine Chg.ite ?_ ?_
    · refine Chg.step (State.bufRequest_chg ..) ?_ (by decide)
      refine Chg.step (State.boundary_chg ..) ?_ (by decide)
      exact Chg.refl _ _
    · refine Chg.step (State.boundary_chg ..) ?_ (by decide)
      exact Chg.refl _ _

theorem State.admitIo_chg : ∀ s a1 a2 a3 a4, Chg 156020223826 s (State.admitIo s a1 a2 a3 a4) := by
  intro s a1 a2 a3 a4
  unfold State.admitIo
  try dsimp only
  split
  · refine Chg.step (State.commitTag_chg ..) ?_ (by decide)
    refine Chg.step (State.countExceeded_chg ..) ?_ (by decide)
    refine Chg.step (State.turnTaken_chg ..) ?_ (by decide)
    refine Chg.step (State.charge_chg ..) ?_ (by decide)
    refine Chg.step (State.tagIn_chg ..) ?_ (by decide)
    exact Chg.refl _ _
  · refine Chg.step (State.askBuffers_chg ..) ?_ (by decide)
    refine Chg.step (State.keyGenerate_chg ..) ?_ (by decide)
    refine Chg.u_pool ?_ _ (by decide)
    refine Chg.step (State.setTag_chg ..) ?_ (by decide)
    refine Chg.step (State.turnTaken_chg ..) ?_ (by decide)
    refine Chg.step (State.charge_chg ..) ?_ (by decide)
    refine Chg.step (State.tagIn_chg ..) ?_ (by decide)
    exact Chg.refl _ _

theorem execCommandAdmission_chg : ∀ a0 a1 s, ∃ t, execCommandAdmission a0 a1 s = .next t ∧ Chg 224739716986 s t := by
  intro a0 a1 s
  unfold execCommandAdmission
  try dsimp only
  refine ⟨_, rfl, ?_⟩
  split
  · refine Chg.step (State.unlisted_chg ..) ?_ (by decide)
    exact Chg.refl _ _
  · refine Chg.ite ?_ ?_
    · refine Chg.step (State.unlisted_chg ..) ?_ (by decide)
      exact Chg.refl _ _
    · refine Chg.ite ?_ ?_
      · refine Chg.step (State.tagWait_chg ..) ?_ (by decide)
        refine Chg.step (State.admissionBoundary_chg ..) ?_ (by decide)
        exact Chg.refl _ _
      · refine Chg.ite ?_ ?_
        · refine Chg.ite ?_ ?_
          · refine Chg.step (State.admissionBoundary_chg ..) ?_ (by decide)
            exact Chg.refl _ _
          · refine Chg.u_sched ?_ _ (by decide)
            refine Chg.step (State.tagIn_chg ..) ?_ (by decide)
            refine Chg.step (State.admissionBoundary_chg ..) ?_ (by decide)
            exact Chg.refl _ _
        · refine Chg.ite ?_ ?_
          · refine Chg.step (State.admissionBoundary_chg ..) ?_ (by decide)
            exact Chg.refl _ _
          · refine Chg.ite ?_ ?_
            · refine Chg.step (State.admissionBoundary_chg ..) ?_ (by decide)
              exact Chg.refl _ _
            · refine Chg.ite ?_ ?_
              · refine Chg.step (State.admissionBoundary_chg ..) ?_ (by decide)
                exact Chg.refl _ _
              · split
                · refine Chg.step (State.creditWait_chg ..) ?_ (by decide)
                  refine Chg.step (State.admissionBoundary_chg ..) ?_ (by decide)
                  exact Chg.refl _ _
                · refine Chg.step (State.admitIo_chg ..) ?_ (by decide)
                  refine Chg.step (State.admissionBoundary_chg ..) ?_ (by decide)
                  exact Chg.refl _ _

theorem execChainComplete_chg : ∀ a0 s, ∃ t, execChainComplete a0 s = .next t ∧ Chg 3003360098 s t := by
  intro a0 s
  unfold execChainComplete
  try dsimp only
  refine ⟨_, rfl, ?_⟩
  refine Chg.when ?_ ?_
  · refine Chg.ite ?_ ?_
    · refine Chg.ite ?_ ?_
      · refine Chg.step (State.advance_chg ..) ?_ (by decide)
        refine Chg.step (State.setTag_chg ..) ?_ (by decide)
        refine Chg.step (State.setTag_chg ..) ?_ (by decide)
        exact Chg.refl _ _
      · refine Chg.step (State.releaseTag_chg ..) ?_ (by decide)
        refine Chg.step (State.setTag_chg ..) ?_ (by decide)
        exact Chg.refl _ _
    · refine Chg.step (State.advance_chg ..) ?_ (by decide)
      refine Chg.step (State.setTag_chg ..) ?_ (by decide)
      exact Chg.refl _ _
  · refine Chg.step (State.unlisted_chg ..) ?_ (by decide)
    exact Chg.refl _ _

theorem execOverlapResolved_chg : ∀ a0 s, ∃ t, execOverlapResolved a0 s = .next t ∧ Chg 3003360098 s t := by
  intro a0 s
  unfold execOverlapResolved
  try dsimp only
  refine ⟨_, rfl, ?_⟩
  refine Chg.when ?_ ?_
  · refine Chg.step (State.releaseTag_chg ..) ?_ (by decide)
    exact Chg.refl _ _
  · refine Chg.step (State.unlisted_chg ..) ?_ (by decide)
    exact Chg.refl _ _

theorem execStepComplete_chg : ∀ a0 a1 s, ∃ t, execStepComplete a0 a1 s = .next t ∧ Chg 90186706810 s t := by
  intro a0 a1 s
  unfold execStepComplete
  try dsimp only
  refine ⟨_, rfl, ?_⟩
  split
  · refine Chg.step (State.unlisted_chg ..) ?_ (by decide)
    exact Chg.refl _ _
  · refine Chg.ite ?_ ?_
    · refine Chg.step (State.unlisted_chg ..) ?_ (by decide)
      exact Chg.refl _ _
    · split
      · refine Chg.step (State.setTag_chg ..) ?_ (by decide)
        exact Chg.refl _ _
      · refine Chg.step (State.drainEnd_chg ..) ?_ (by decide)
        exact Chg.refl _ _
      · split
        · refine Chg.step (State.setTag_chg ..) ?_ (by decide)
          refine Chg.step (State.failTag_chg ..) ?_ (by decide)
          exact Chg.refl _ _
        · refine Chg.ite ?_ ?_
          · refine Chg.step (State.jrnWait_chg ..) ?_ (by decide)
            exact Chg.refl _ _
          · refine Chg.when ?_ ?_
            · refine Chg.ite ?_ ?_
              · refine Chg.step (State.commitPump_chg ..) ?_ (by decide)
                refine Chg.step (State.stepNext_chg ..) ?_ (by decide)
                exact Chg.refl _ _
              · refine Chg.step (State.stepNext_chg ..) ?_ (by decide)
                exact Chg.refl _ _
            · refine Chg.step (State.unlisted_chg ..) ?_ (by decide)
              exact Chg.refl _ _

theorem State.readError_chg : ∀ s a1, Chg 16384 s (State.readError s a1) := by
  intro s a1
  unfold State.readError
  try dsimp only
  refine Chg.ite ?_ ?_
  · exact Chg.refl _ _
  · split
    · refine Chg.step (State.addError_chg ..) ?_ (by decide)
      exact Chg.refl _ _
    · exact Chg.refl _ _

theorem State.sampleRead_chg : ∀ s a1, Chg 262144 s (State.sampleRead s a1) := by
  intro s a1
  unfold State.sampleRead
  try dsimp only
  refine Chg.ite ?_ ?_
  · refine Chg.u_sched ?_ _ (by decide)
    exact Chg.refl _ _
  · refine Chg.u_sched ?_ _ (by decide)
    exact Chg.refl _ _

theorem State.zoneEndWatch_chg : ∀ s a1, Chg 696254464 s (State.zoneEndWatch s a1) := by
  intro s a1
  unfold State.zoneEndWatch
  try dsimp only
  refine Chg.ite ?_ ?_
  · refine Chg.step (State.zoneFullWatch_chg ..) ?_ (by decide)
    exact Chg.refl _ _
  · exact Chg.refl _ _

theorem execCompletionPost_chg : ∀ a0 s, ∃ t, execCompletionPost a0 s = .next t ∧ Chg 19319487406 s t := by
  intro a0 s
  unfold execCompletionPost
  try dsimp only
  refine ⟨_, rfl, ?_⟩
  split
  · refine Chg.when ?_ ?_
    · refine Chg.step (State.freeTag_chg ..) ?_ (by decide)
      refine Chg.step (State.emit_chg ..) ?_ (by decide)
      refine Chg.step (State.emit_chg ..) ?_ (by decide)
      exact Chg.refl _ _
    · refine Chg.step (State.unlisted_chg ..) ?_ (by decide)
      exact Chg.refl _ _
  · refine Chg.when ?_ ?_
    · refine Chg.step (State.settleWatch_chg ..) ?_ (by decide)
      refine Chg.step (State.postTag_chg ..) ?_ (by decide)
      refine Chg.step (State.zoneEndWatch_chg ..) ?_ (by decide)
      refine Chg.step (State.sampleRead_chg ..) ?_ (by decide)
      refine Chg.step (State.readError_chg ..) ?_ (by decide)
      exact Chg.refl _ _
    · refine Chg.step (State.unlisted_chg ..) ?_ (by decide)
      exact Chg.refl _ _

theorem execInterruptCoalescingTimer_chg : ∀ a0 s, ∃ t, execInterruptCoalescingTimer a0 s = .next t ∧ Chg 69794 s t := by
  intro a0 s
  unfold execInterruptCoalescingTimer
  try dsimp only
  refine ⟨_, rfl, ?_⟩
  refine Chg.when ?_ ?_
  · refine Chg.step (State.cqInterrupt_chg ..) ?_ (by decide)
    refine Chg.step (State.setCq_chg ..) ?_ (by decide)
    exact Chg.refl _ _
  · refine Chg.step (State.unlisted_chg ..) ?_ (by decide)
    exact Chg.refl _ _

theorem State.restart_chg : ∀ s a1 a2, Chg 319011718 s (State.restart s a1 a2) := by
  intro s a1 a2
  unfold State.restart
  try dsimp only
  refine Chg.ite ?_ ?_
  · refine Chg.forEach ?_ ?_
    · intro _ _
      refine Chg.ite ?_ ?_
      · refine Chg.step (State.fetchAsk_chg ..) ?_ (by decide)
        exact Chg.refl _ _
      · exact Chg.refl _ _
    · refine Chg.step (State.cqRelease_chg ..) ?_ (by decide)
      refine Chg.forEach ?_ ?_
      · intro _ _
        refine Chg.ite ?_ ?_
        · refine Chg.step (State.setSq_chg ..) ?_ (by decide)
          exact Chg.refl _ _
        · exact Chg.refl _ _
      · refine Chg.step (State.setCq_chg ..) ?_ (by decide)
        exact Chg.refl _ _
  · refine Chg.step (State.fetchAsk_chg ..) ?_ (by decide)
    refine Chg.step (State.setSq_chg ..) ?_ (by decide)
    exact Chg.refl _ _

theorem execQueueRestart_chg : ∀ a0 s, ∃ t, execQueueRestart a0 s = .next t ∧ Chg 319011750 s t := by
  intro a0 s
  unfold execQueueRestart
  try dsimp only
  refine ⟨_, rfl, ?_⟩
  refine Chg.when ?_ ?_
  · refine Chg.ite ?_ ?_
    · refine Chg.step (State.commitTag_chg ..) ?_ (by decide)
      exact Chg.refl _ _
    · refine Chg.step (State.succeed_chg ..) ?_ (by decide)
      refine Chg.step (State.restart_chg ..) ?_ (by decide)
      exact Chg.refl _ _
  · refine Chg.step (State.unlisted_chg ..) ?_ (by decide)
    exact Chg.refl _ _

theorem execBufferReturn_chg : ∀ a0 a1 a2 s, ∃ t, execBufferReturn a0 a1 a2 s = .next t ∧ Chg 17498842226 s t := by
  intro a0 a1 a2 s
  unfold execBufferReturn
  try dsimp only
  refine ⟨_, rfl, ?_⟩
  refine Chg.when ?_ ?_
  · refine Chg.step (State.bufReturn_chg ..) ?_ (by decide)
    split
    · refine Chg.step (State.setTag_chg ..) ?_ (by decide)
      refine Chg.step (State.boundary_chg ..) ?_ (by decide)
      exact Chg.refl _ _
    · refine Chg.step (State.boundary_chg ..) ?_ (by decide)
      exact Chg.refl _ _
  · refine Chg.step (State.unlisted_chg ..) ?_ (by decide)
    exact Chg.refl _ _

end Sys2Proof.Machine
end

