-- ==== Sys2Proof/Laws/ChgHostData.lean ====
section
/-! SUPPORT. What the operations of Machine/HostData.lean may change: one lemma for each. -/

set_option linter.all false

namespace Sys2Proof.Machine

/-- Data for a command that still takes it. -/
theorem Chg.dataIn {m : Nat} {s t : State} {k : Nat} {f : State → State} (h : Chg m s (f t)) (h' : Chg m s t) :
    Chg m s (t.dataIn k f) := Chg.ite h h'

theorem execDmaReadCompletion_chg : ∀ a0 a1 s, ∃ t, execDmaReadCompletion a0 a1 s = .next t ∧ Chg 319011814 s t := by
  intro a0 a1 s
  unfold execDmaReadCompletion
  try dsimp only
  refine ⟨_, rfl, ?_⟩
  split
  · refine Chg.step (State.unlisted_chg ..) ?_ (by decide)
    exact Chg.refl _ _
  · refine Chg.step (State.unlisted_chg ..) ?_ (by decide)
    exact Chg.refl _ _
  · refine Chg.step (State.cqRelease_chg ..) ?_ (by decide)
    refine Chg.step (State.cqWrite_chg ..) ?_ (by decide)
    refine Chg.step (State.atcFill_chg ..) ?_ (by decide)
    refine Chg.step (State.dmaEnd_chg ..) ?_ (by decide)
    exact Chg.refl _ _
  · refine Chg.ite ?_ ?_
    · refine Chg.step (State.hostOut_chg ..) ?_ (by decide)
      refine Chg.step (State.atcFill_chg ..) ?_ (by decide)
      refine Chg.step (State.dmaEnd_chg ..) ?_ (by decide)
      exact Chg.refl _ _
    · refine Chg.step (State.lateDiscard_chg ..) ?_ (by decide)
      refine Chg.step (State.atcFill_chg ..) ?_ (by decide)
      refine Chg.step (State.dmaEnd_chg ..) ?_ (by decide)
      exact Chg.refl _ _
  · refine Chg.when ?_ ?_
    · refine Chg.dataIn ?_ ?_
      · refine Chg.step (State.partIn_chg ..) ?_ (by decide)
        refine Chg.step (State.dmaEnd_chg ..) ?_ (by decide)
        exact Chg.refl _ _
      · refine Chg.step (State.dmaEnd_chg ..) ?_ (by decide)
        exact Chg.refl _ _
    · refine Chg.step (State.unlisted_chg ..) ?_ (by decide)
      exact Chg.refl _ _
  · refine Chg.when ?_ ?_
    · refine Chg.dataIn ?_ ?_
      · refine Chg.step (State.infoIn_chg ..) ?_ (by decide)
        refine Chg.step (State.dmaEnd_chg ..) ?_ (by decide)
        exact Chg.refl _ _
      · refine Chg.step (State.dmaEnd_chg ..) ?_ (by decide)
        exact Chg.refl _ _
    · refine Chg.step (State.unlisted_chg ..) ?_ (by decide)
      exact Chg.refl _ _
  · refine Chg.when ?_ ?_
    · refine Chg.dataIn ?_ ?_
      · refine Chg.step (State.listIn_chg ..) ?_ (by decide)
        refine Chg.step (State.dmaEnd_chg ..) ?_ (by decide)
        exact Chg.refl _ _
      · refine Chg.step (State.dmaEnd_chg ..) ?_ (by decide)
        exact Chg.refl _ _
    · refine Chg.step (State.unlisted_chg ..) ?_ (by decide)
      exact Chg.refl _ _
  · refine Chg.when ?_ ?_
    · refine Chg.dataIn ?_ ?_
      · refine Chg.step (State.listIn_chg ..) ?_ (by decide)
        refine Chg.step (State.dmaEnd_chg ..) ?_ (by decide)
        exact Chg.refl _ _
      · refine Chg.step (State.dmaEnd_chg ..) ?_ (by decide)
        exact Chg.refl _ _
    · refine Chg.step (State.unlisted_chg ..) ?_ (by decide)
      exact Chg.refl _ _
  · split
    · refine Chg.step (State.lateDiscard_chg ..) ?_ (by decide)
      refine Chg.step (State.dmaEnd_chg ..) ?_ (by decide)
      exact Chg.refl _ _
    · refine Chg.step (State.dmaEnd_chg ..) ?_ (by decide)
      exact Chg.refl _ _

theorem execDlDown_chg : ∀ a0 s, ∃ t, execDlDown a0 s = .next t ∧ Chg 86822354930 s t := by
  intro a0 s
  unfold execDlDown
  try dsimp only
  refine ⟨_, rfl, ?_⟩
  refine Chg.when ?_ ?_
  · refine Chg.step (State.linkLost_chg ..) ?_ (by decide)
    exact Chg.refl _ _
  · refine Chg.step (State.unlisted_chg ..) ?_ (by decide)
    exact Chg.refl _ _

theorem execShutdownNotification_chg : ∀ a0 a1 s, ∃ t, execShutdownNotification a0 a1 s = .next t ∧ Chg 2080374952 s t := by
  intro a0 a1 s
  unfold execShutdownNotification
  try dsimp only
  refine ⟨_, rfl, ?_⟩
  refine Chg.when ?_ ?_
  · refine Chg.step (State.settleWatch_chg ..) ?_ (by decide)
    refine Chg.step (State.setFunc_chg ..) ?_ (by decide)
    exact Chg.refl _ _
  · refine Chg.step (State.unlisted_chg ..) ?_ (by decide)
    exact Chg.refl _ _

theorem execPerstDeassert_chg : ∀ a0 s, ∃ t, execPerstDeassert a0 s = .next t ∧ Chg 96 s t := by
  intro a0 s
  unfold execPerstDeassert
  try dsimp only
  refine ⟨_, rfl, ?_⟩
  refine Chg.when ?_ ?_
  · refine Chg.setPort ?_ ?_ (by decide)
    · exact Chg.refl _ _
    · exact fun w => w _
  · refine Chg.step (State.unlisted_chg ..) ?_ (by decide)
    exact Chg.refl _ _

end Sys2Proof.Machine
end

