-- ==== Sys2Proof/Laws/ChgIo.lean ====
section
/-! SUPPORT. What the operations of Machine/Io.lean may change: one lemma for each. -/

set_option linter.all false

namespace Sys2Proof.Machine

theorem State.ioBuild_chg : ∀ s a1 a2 a3, Chg 17700202322 s (State.ioBuild s a1 a2 a3) := by
  intro s a1 a2 a3
  unfold State.ioBuild
  try dsimp only
  refine Chg.ite ?_ ?_
  · refine Chg.ite ?_ ?_
    · refine Chg.step (State.startLists_chg ..) ?_ (by decide)
      refine Chg.step (State.setTag_chg ..) ?_ (by decide)
      exact Chg.refl _ _
    · refine Chg.step (State.setTag_chg ..) ?_ (by decide)
      exact Chg.refl _ _
  · refine Chg.step (State.detectAll_chg ..) ?_ (by decide)
    refine Chg.step (State.mapResolve_chg ..) ?_ (by decide)
    refine Chg.ite ?_ ?_
    · refine Chg.step (State.startLists_chg ..) ?_ (by decide)
      refine Chg.step (State.setTag_chg ..) ?_ (by decide)
      exact Chg.refl _ _
    · refine Chg.step (State.setTag_chg ..) ?_ (by decide)
      exact Chg.refl _ _

theorem State.ioRun_chg : ∀ s a1 a2 a3, Chg 17700202322 s (State.ioRun s a1 a2 a3) := by
  intro s a1 a2 a3
  unfold State.ioRun
  try dsimp only
  split
  · refine Chg.step (State.commitTag_chg ..) ?_ (by decide)
    exact Chg.refl _ _
  · refine Chg.step (State.ioBuild_chg ..) ?_ (by decide)
    exact Chg.refl _ _

theorem execFlush_chg : ∀ a0 s, ∃ t, execFlush a0 s = .next t ∧ Chg 17700202354 s t := by
  intro a0 s
  unfold execFlush
  try dsimp only
  refine ⟨_, rfl, ?_⟩
  refine Chg.when ?_ ?_
  · refine Chg.step (State.ioBuild_chg ..) ?_ (by decide)
    exact Chg.refl _ _
  · refine Chg.step (State.unlisted_chg ..) ?_ (by decide)
    exact Chg.refl _ _

theorem execWrite_chg : ∀ a0 s, ∃ t, execWrite a0 s = .next t ∧ Chg 17700202354 s t := by
  intro a0 s
  unfold execWrite
  try dsimp only
  refine ⟨_, rfl, ?_⟩
  refine Chg.when ?_ ?_
  · refine Chg.step (State.ioRun_chg ..) ?_ (by decide)
    exact Chg.refl _ _
  · refine Chg.step (State.unlisted_chg ..) ?_ (by decide)
    exact Chg.refl _ _

theorem execRead_chg : ∀ a0 s, ∃ t, execRead a0 s = .next t ∧ Chg 17700202354 s t := by
  intro a0 s
  unfold execRead
  try dsimp only
  refine ⟨_, rfl, ?_⟩
  refine Chg.when ?_ ?_
  · refine Chg.step (State.ioRun_chg ..) ?_ (by decide)
    exact Chg.refl _ _
  · refine Chg.step (State.unlisted_chg ..) ?_ (by decide)
    exact Chg.refl _ _

theorem execWriteUncorrectable_chg : ∀ a0 s, ∃ t, execWriteUncorrectable a0 s = .next t ∧ Chg 17700202354 s t := by
  intro a0 s
  unfold execWriteUncorrectable
  try dsimp only
  refine ⟨_, rfl, ?_⟩
  refine Chg.when ?_ ?_
  · refine Chg.step (State.ioBuild_chg ..) ?_ (by decide)
    exact Chg.refl _ _
  · refine Chg.step (State.unlisted_chg ..) ?_ (by decide)
    exact Chg.refl _ _

theorem execCompare_chg : ∀ a0 s, ∃ t, execCompare a0 s = .next t ∧ Chg 17700202354 s t := by
  intro a0 s
  unfold execCompare
  try dsimp only
  refine ⟨_, rfl, ?_⟩
  refine Chg.when ?_ ?_
  · refine Chg.step (State.ioRun_chg ..) ?_ (by decide)
    exact Chg.refl _ _
  · refine Chg.step (State.unlisted_chg ..) ?_ (by decide)
    exact Chg.refl _ _

theorem execWriteZeroes_chg : ∀ a0 s, ∃ t, execWriteZeroes a0 s = .next t ∧ Chg 17700202354 s t := by
  intro a0 s
  unfold execWriteZeroes
  try dsimp only
  refine ⟨_, rfl, ?_⟩
  refine Chg.when ?_ ?_
  · refine Chg.step (State.ioRun_chg ..) ?_ (by decide)
    exact Chg.refl _ _
  · refine Chg.step (State.unlisted_chg ..) ?_ (by decide)
    exact Chg.refl _ _

theorem execVerify_chg : ∀ a0 s, ∃ t, execVerify a0 s = .next t ∧ Chg 17700202354 s t := by
  intro a0 s
  unfold execVerify
  try dsimp only
  refine ⟨_, rfl, ?_⟩
  refine Chg.when ?_ ?_
  · refine Chg.step (State.ioRun_chg ..) ?_ (by decide)
    exact Chg.refl _ _
  · refine Chg.step (State.unlisted_chg ..) ?_ (by decide)
    exact Chg.refl _ _

theorem execDatasetManagement_chg : ∀ a0 a1 s, ∃ t, execDatasetManagement a0 a1 s = .next t ∧ Chg 17700202354 s t := by
  intro a0 a1 s
  unfold execDatasetManagement
  try dsimp only
  refine ⟨_, rfl, ?_⟩
  refine Chg.when ?_ ?_
  · split
    · refine Chg.step (State.commitTag_chg ..) ?_ (by decide)
      exact Chg.refl _ _
    · refine Chg.ite ?_ ?_
      · refine Chg.step (State.succeed_chg ..) ?_ (by decide)
        exact Chg.refl _ _
      · refine Chg.ite ?_ ?_
        · refine Chg.step (State.commitTag_chg ..) ?_ (by decide)
          exact Chg.refl _ _
        · refine Chg.step (State.ioBuild_chg ..) ?_ (by decide)
          refine Chg.step (State.setTag_chg ..) ?_ (by decide)
          exact Chg.refl _ _
  · refine Chg.step (State.unlisted_chg ..) ?_ (by decide)
    exact Chg.refl _ _

theorem execCopy_chg : ∀ a0 a1 s, ∃ t, execCopy a0 a1 s = .next t ∧ Chg 17708853106 s t := by
  intro a0 a1 s
  unfold execCopy
  try dsimp only
  refine ⟨_, rfl, ?_⟩
  refine Chg.when ?_ ?_
  · split
    · refine Chg.step (State.commitTag_chg ..) ?_ (by decide)
      refine Chg.step (State.countExceeded_chg ..) ?_ (by decide)
      exact Chg.refl _ _
    · refine Chg.ite ?_ ?_
      · exact Chg.refl _ _
      · refine Chg.step (State.ioBuild_chg ..) ?_ (by decide)
        refine Chg.step (State.bufRequest_chg ..) ?_ (by decide)
        refine Chg.step (State.charge_chg ..) ?_ (by decide)
        refine Chg.u_pool ?_ _ (by decide)
        refine Chg.step (State.setTag_chg ..) ?_ (by decide)
        refine Chg.step (State.setTag_chg ..) ?_ (by decide)
        exact Chg.refl _ _
  · refine Chg.step (State.unlisted_chg ..) ?_ (by decide)
    exact Chg.refl _ _

theorem State.jobStart_chg : ∀ s a1, Chg 19847685970 s (State.jobStart s a1) := by
  intro s a1
  unfold State.jobStart
  try dsimp only
  split
  · refine Chg.step (State.commitTag_chg ..) ?_ (by decide)
    exact Chg.refl _ _
  · refine Chg.ite ?_ ?_
    · refine Chg.step (State.commitTag_chg ..) ?_ (by decide)
      exact Chg.refl _ _
    · refine Chg.ite ?_ ?_
      · refine Chg.ite ?_ ?_
        · exact Chg.refl _ _
        · refine Chg.u_cmp ?_ _ (by decide)
          refine Chg.step (State.setTag_chg ..) ?_ (by decide)
          exact Chg.refl _ _
      · refine Chg.step (State.ioBuild_chg ..) ?_ (by decide)
        refine Chg.step (State.setTag_chg ..) ?_ (by decide)
        exact Chg.refl _ _

theorem State.jobFail_chg : ∀ s a1 a2 a3, Chg 2466258944 s (State.jobFail s a1 a2 a3) := by
  intro s a1 a2 a3
  unfold State.jobFail
  try dsimp only
  refine Chg.step (State.setTag_chg ..) ?_ (by decide)
  refine Chg.step (State.commitTag_chg ..) ?_ (by decide)
  refine Chg.u_cmp ?_ _ (by decide)
  exact Chg.refl _ _

theorem State.jobOut_chg : ∀ s a1 a2, Chg 8192 s (State.jobOut s a1 a2) := by
  intro s a1 a2
  unfold State.jobOut
  try dsimp only
  refine Chg.forEach ?_ ?_
  · intro _ _
    refine Chg.step (State.setBlk_chg ..) ?_ (by decide)
    exact Chg.refl _ _
  · exact Chg.refl _ _

theorem execTransformEncode_chg : ∀ a0 a1 s, ∃ t, execTransformEncode a0 a1 s = .next t ∧ Chg 19847686002 s t := by
  intro a0 a1 s
  unfold execTransformEncode
  try dsimp only
  refine ⟨_, rfl, ?_⟩
  refine Chg.ite ?_ ?_
  · refine Chg.when ?_ ?_
    · refine Chg.step (State.jobStart_chg ..) ?_ (by decide)
      exact Chg.refl _ _
    · refine Chg.step (State.unlisted_chg ..) ?_ (by decide)
      exact Chg.refl _ _
  · refine Chg.when ?_ ?_
    · split
      · refine Chg.step (State.cmpBit_chg ..) ?_ (by decide)
        refine Chg.u_cmp ?_ _ (by decide)
        exact Chg.refl _ _
      · refine Chg.step (State.jobFail_chg ..) ?_ (by decide)
        exact Chg.refl _ _
      · refine Chg.step (State.jobOut_chg ..) ?_ (by decide)
        refine Chg.u_cmp ?_ _ (by decide)
        exact Chg.refl _ _
    · refine Chg.step (State.unlisted_chg ..) ?_ (by decide)
      exact Chg.refl _ _

theorem execTransformDecode_chg : ∀ a0 s, ∃ t, execTransformDecode a0 s = .next t ∧ Chg 19847686002 s t := by
  intro a0 s
  unfold execTransformDecode
  try dsimp only
  refine ⟨_, rfl, ?_⟩
  refine Chg.ite ?_ ?_
  · refine Chg.when ?_ ?_
    · refine Chg.step (State.jobStart_chg ..) ?_ (by decide)
      exact Chg.refl _ _
    · refine Chg.step (State.unlisted_chg ..) ?_ (by decide)
      exact Chg.refl _ _
  · refine Chg.when ?_ ?_
    · split
      · refine Chg.step (State.jobFail_chg ..) ?_ (by decide)
        exact Chg.refl _ _
      · refine Chg.step (State.jobOut_chg ..) ?_ (by decide)
        exact Chg.refl _ _
    · refine Chg.step (State.unlisted_chg ..) ?_ (by decide)
      exact Chg.refl _ _

end Sys2Proof.Machine
end

