-- ==== Sys2Proof/Laws/ChgZoneCmds.lean ====
section
/-! SUPPORT. What the operations of Machine/ZoneCmds.lean may change: one lemma for each. -/

set_option linter.all false

namespace Sys2Proof.Machine

theorem State.roomRefuse_chg : ∀ s a1 a2, Chg 394272768 s (State.roomRefuse s a1 a2) := by
  intro s a1 a2
  unfold State.roomRefuse
  try dsimp only
  refine Chg.step (State.commitTag_chg ..) ?_ (by decide)
  refine Chg.ite ?_ ?_
  · refine Chg.u_map ?_ _ (by decide)
    refine Chg.step (State.countExceeded_chg ..) ?_ (by decide)
    exact Chg.refl _ _
  · refine Chg.step (State.countExceeded_chg ..) ?_ (by decide)
    exact Chg.refl _ _

theorem State.zoneEnter_chg : ∀ {s a1 a2 a3 a4 a5} {t}, State.zoneEnter s a1 a2 a3 a4 a5 = some t → Chg 1837105152 s t := by
  intro s a1 a2 a3 a4 a5 t h
  unfold State.zoneEnter at h
  obtain ⟨s2, h2, rfl⟩ := Option.map_eq_some_iff.mp h
  refine Chg.step (State.zoneTo_chg ..) ?_ (by decide)
  refine Chg.step (State.setZone_chg ..) ?_ (by decide)
  have h1 : Chg 1837105152 s (if a3 = .nothing then s else (s.openRoom a1 a2).1) :=
    Chg.ite (Chg.refl _ _) (Chg.step (State.openRoom_chg ..) (Chg.refl _ _) (by decide))
  dsimp only at h2
  generalize (if a3 = ZoneNeed.nothing then s else (s.openRoom a1 a2).1) = u at h1 h2
  split at h2
  · split at h2
    · exact absurd h2 (by simp)
    · injection h2 with h2
      subst h2
      refine Chg.step (State.zonePin_chg ..) ?_ (by decide)
      refine Chg.step (State.setCharge_chg ..) ?_ (by decide)
      refine Chg.step (State.setZone_chg ..) ?_ (by decide)
      refine Chg.step (Chg.fst ‹State.zonePlace _ _ _ = _› (State.zonePlace_chg ..)) ?_ (by decide)
      exact h1
  · injection h2 with h2
    subst h2
    exact h1

theorem State.zonePass_chg : ∀ s a1 a2 a3 a4 a5, Chg 218112000 s (State.zonePass s a1 a2 a3 a4 a5) := by
  intro s a1 a2 a3 a4 a5
  unfold State.zonePass
  try dsimp only
  refine Chg.step (State.mapResolve_chg ..) ?_ (by decide)
  refine Chg.step (State.setTag_chg ..) ?_ (by decide)
  refine Chg.step (State.setZone_chg ..) ?_ (by decide)
  refine Chg.ite ?_ ?_
  · refine Chg.step (State.zrwaAdvance_chg ..) ?_ (by decide)
    exact Chg.refl _ _
  · exact Chg.refl _ _

theorem State.zoneWrite_chg : ∀ s a1, Chg 2139103232 s (State.zoneWrite s a1) := by
  intro s a1
  unfold State.zoneWrite
  try dsimp only
  split
  · refine Chg.step (State.commitTag_chg ..) ?_ (by decide)
    exact Chg.refl _ _
  · split
    · refine Chg.step (State.roomRefuse_chg ..) ?_ (by decide)
      exact Chg.refl _ _
    · refine Chg.ite ?_ ?_
      · refine Chg.step (State.zonePass_chg ..) ?_ (by decide)
        exact Chg.refl _ _
      · split
        · refine Chg.step (State.zonePass_chg ..) ?_ (by decide)
          refine Chg.step (State.zoneEnter_chg ‹State.zoneEnter _ _ _ _ _ _ = _›) ?_ (by decide)
          exact Chg.refl _ _
        · exact Chg.refl _ _

theorem State.zoneBoundary_chg : ∀ s a1, Chg 17498842194 s (State.zoneBoundary s a1) := by
  intro s a1
  unfold State.zoneBoundary
  try dsimp only
  refine Chg.step (State.boundary_chg ..) ?_ (by decide)
  refine Chg.step (State.boundary_chg ..) ?_ (by decide)
  exact Chg.refl _ _

theorem execZoneTableDecision_chg : ∀ a0 s, ∃ t, execZoneTableDecision a0 s = .next t ∧ Chg 88039187578 s t := by
  intro a0 s
  unfold execZoneTableDecision
  try dsimp only
  refine ⟨_, rfl, ?_⟩
  refine Chg.ite ?_ ?_
  · refine Chg.when ?_ ?_
    · refine Chg.step (State.commitTag_chg ..) ?_ (by decide)
      exact Chg.refl _ _
    · refine Chg.step (State.unlisted_chg ..) ?_ (by decide)
      exact Chg.refl _ _
  · refine Chg.when ?_ ?_
    · refine Chg.ite ?_ ?_
      · refine Chg.step (State.jrnWait_chg ..) ?_ (by decide)
        exact Chg.refl _ _
      · refine Chg.step (State.commitPump_chg ..) ?_ (by decide)
        refine Chg.step (State.zoneWrite_chg ..) ?_ (by decide)
        refine Chg.step (State.zoneBoundary_chg ..) ?_ (by decide)
        exact Chg.refl _ _
    · refine Chg.step (State.unlisted_chg ..) ?_ (by decide)
      exact Chg.refl _ _

theorem execZoneAppend_chg : ∀ a0 s, ∃ t, execZoneAppend a0 s = .next t ∧ Chg 17700202354 s t := by
  intro a0 s
  unfold execZoneAppend
  try dsimp only
  refine ⟨_, rfl, ?_⟩
  refine Chg.when ?_ ?_
  · refine Chg.step (State.ioRun_chg ..) ?_ (by decide)
    exact Chg.refl _ _
  · refine Chg.step (State.unlisted_chg ..) ?_ (by decide)
    exact Chg.refl _ _

theorem State.doClose_chg : ∀ {s a1 a2} {t}, State.doClose s a1 a2 = .change t → Chg 763363328 s t := by
  intro s a1 a2 t h
  unfold State.doClose at h
  split at h
  · injection h with h
    subst h
    exact State.zoneClose_chg ..
  · injection h with h
    subst h
    exact State.zoneClose_chg ..
  · exact absurd h (by simp)
  · exact absurd h (by simp)

theorem State.doFinish_chg : ∀ {s a1 a2} {t}, State.doFinish s a1 a2 = .change t → Chg 696254464 s t := by
  intro s a1 a2 t h
  unfold State.doFinish at h
  dsimp only at h
  split at h
  · exact absurd h (by simp)
  split at h
  · exact absurd h (by simp)
  split at h
  · split at h
    · injection h with h
      subst h
      exact State.zoneFinish_chg ..
    · exact absurd h (by simp)
  split at h
  · injection h with h
    subst h
    exact State.zoneFinish_chg ..
  · exact absurd h (by simp)

theorem State.doOpen_chg : ∀ {s a1 a2 a3} {t}, State.doOpen s a1 a2 a3 = .change t → Chg 1837105152 s t := by
  intro s a1 a2 a3 t h
  have go : ∀ (need : ZoneNeed) (zrwa : Bool), (match s.roomStatus a1 a2 need zrwa with
      | some r => ZoneDo.refuse r.1 r.2
      | none => match s.zoneEnter a1 a2 need .explicitOpen zrwa with
        | some s1 => .change s1
        | none => .wait) = .change t → Chg 1837105152 s t := by
    intro need zrwa h
    split at h
    · exact absurd h (by simp)
    · split at h
      · injection h with h
        subst h
        exact State.zoneEnter_chg ‹_›
      · exact absurd h (by simp)
  unfold State.doOpen at h
  dsimp only at h
  split at h
  · exact go _ _ h
  · exact go _ _ h
  · exact go _ _ h
  · exact absurd h (by simp)
  · exact absurd h (by simp)

theorem State.doReset_chg : ∀ {s a1 a2} {t}, State.doReset s a1 a2 = .change t → Chg 1031798784 s t := by
  intro s a1 a2 t h
  unfold State.doReset at h
  split at h
  · exact absurd h (by simp)
  · exact absurd h (by simp)
  · exact absurd h (by simp)
  · injection h with h
    subst h
    exact State.zoneReset_chg ..

theorem State.doOffline_chg : ∀ {s a1 a2} {t}, State.doOffline s a1 a2 = .change t → Chg 1031798784 s t := by
  intro s a1 a2 t h
  unfold State.doOffline at h
  dsimp only at h
  split at h
  · exact absurd h (by simp)
  split at h
  · exact absurd h (by simp)
  · injection h with h
    subst h
    exact State.zoneOffline_chg ..

theorem State.zmsEnd_chg : ∀ s a1, Chg 318775296 s (State.zmsEnd s a1) := by
  intro s a1
  unfold State.zmsEnd
  try dsimp only
  refine Chg.ite ?_ ?_
  · refine Chg.step (State.setTag_chg ..) ?_ (by decide)
    exact Chg.refl _ _
  · refine Chg.step (State.succeed_chg ..) ?_ (by decide)
    exact Chg.refl _ _

theorem State.zmsAll_chg : ∀ {m : Nat}, 394272768 ||| m = m → ∀ s a1 a2, (∀ t z u, a2 t z = .change u → Chg m t u) → Chg m s (State.zmsAll s a1 a2) := by
  intro m hm s a1 a2 ha
  have key : ∀ (l : List Nat) (acc : Option (ZoneDo × State)), (∀ r u, acc = some (r, u) → Chg m s u) →
      ∀ r u, l.foldl (fun (acc : Option (ZoneDo × State)) z => match acc with
        | some (.same, s1) => (match a2 s1 z with
          | .change s2 => some (.same, s2)
          | .same => some (.same, s1)
          | r => some (r, s1))
        | r => r) acc = some (r, u) → Chg m s u := by
    intro l
    induction l with
    | nil => intro acc h r u e; exact h r u e
    | cons z l ih =>
      intro acc h r u e
      refine ih _ ?_ r u e
      intro r' u' e'
      beta_reduce at e'
      split at e'
      · split at e'
        · rename_i s1 _ s2 h2
          injection e' with e'
          injection e' with _ e'
          subst e'
          exact (ha _ _ _ h2).step (h _ _ rfl) (Nat.or_self m)
        · injection e' with e'
          injection e' with _ e'
          subst e'
          exact h _ _ rfl
        · injection e' with e'
          injection e' with _ e'
          subst e'
          exact h _ _ rfl
      · exact h _ _ e'
  unfold State.zmsAll
  dsimp only
  split
  · rename_i h
    exact Chg.step (State.zmsEnd_chg ..) (key _ _ (fun r u e => by
      injection e with e; injection e with _ e; subst e; exact Chg.refl _ _) _ _ h) (by rw [← hm, ← Nat.or_assoc]; congr 1)
  · exact Chg.step (State.roomRefuse_chg ..) (Chg.refl _ _) (by rw [← hm, ← Nat.or_assoc]; congr 1)
  · exact Chg.refl _ _

theorem State.zms_chg : ∀ {m : Nat}, 88039187546 ||| m = m → ∀ s a1 a2, (∀ t z u, a2 t z = .change u → Chg m t u) → Chg m s (State.zms s a1 a2) := by
  intro m hm s a1 a2 ha
  have sub : ∀ k, k ||| 88039187546 = 88039187546 → k ||| m = m := by
    intro k hk
    rw [← hm, ← Nat.or_assoc, hk]
  have h0 : Chg m s (s.zoneBoundary (s.tag a1).sqe.nsid) := Chg.step (State.zoneBoundary_chg ..) (Chg.refl _ _) (sub _ (by decide))
  unfold State.zms
  dsimp only
  refine Chg.ite (Chg.step (State.jrnWait_chg ..) h0 (sub _ (by decide))) ?_
  refine Chg.ite (Chg.step (State.commitPump_chg ..) (Chg.step (State.zmsAll_chg (sub _ (by decide)) _ _ _ ha) h0 (Nat.or_self m)) (sub _ (by decide))) ?_
  refine Chg.ite (Chg.step (State.commitTag_chg ..) h0 (sub _ (by decide))) ?_
  refine Chg.ite (Chg.step (State.commitTag_chg ..) h0 (sub _ (by decide))) ?_
  split
  · exact Chg.step (State.zmsEnd_chg ..) h0 (sub _ (by decide))
  · exact Chg.step (State.roomRefuse_chg ..) h0 (sub _ (by decide))
  · rename_i h
    exact Chg.step (State.commitPump_chg ..) (Chg.step (State.zmsEnd_chg ..) ((ha _ _ _ h).step h0 (Nat.or_self m)) (sub _ (by decide))) (sub _ (by decide))
  · exact h0

theorem execZoneClose_chg : ∀ a0 s, ∃ t, execZoneClose a0 s = .next t ∧ Chg 88039187578 s t := by
  intro a0 s
  unfold execZoneClose
  refine ⟨_, rfl, Chg.when ?_ ?_⟩
  · exact State.zms_chg (by decide) _ _ _ (fun _ _ _ h => (State.doClose_chg h).mono (by decide))
  · exact (State.unlisted_chg ..).mono (by decide)

theorem execZoneFinish_chg : ∀ a0 s, ∃ t, execZoneFinish a0 s = .next t ∧ Chg 88039187578 s t := by
  intro a0 s
  unfold execZoneFinish
  refine ⟨_, rfl, Chg.when ?_ ?_⟩
  · exact State.zms_chg (by decide) _ _ _ (fun _ _ _ h => (State.doFinish_chg h).mono (by decide))
  · exact (State.unlisted_chg ..).mono (by decide)

theorem execZoneOpen_chg : ∀ a0 s, ∃ t, execZoneOpen a0 s = .next t ∧ Chg 88039187578 s t := by
  intro a0 s
  unfold execZoneOpen
  refine ⟨_, rfl, Chg.when ?_ ?_⟩
  · exact State.zms_chg (by decide) _ _ _ (fun _ _ _ h => (State.doOpen_chg h).mono (by decide))
  · exact (State.unlisted_chg ..).mono (by decide)

theorem execZoneReset_chg : ∀ a0 s, ∃ t, execZoneReset a0 s = .next t ∧ Chg 88039187578 s t := by
  intro a0 s
  unfold execZoneReset
  refine ⟨_, rfl, Chg.when ?_ ?_⟩
  · exact State.zms_chg (by decide) _ _ _ (fun _ _ _ h => (State.doReset_chg h).mono (by decide))
  · exact (State.unlisted_chg ..).mono (by decide)

theorem execZoneOffline_chg : ∀ a0 s, ∃ t, execZoneOffline a0 s = .next t ∧ Chg 88039187578 s t := by
  intro a0 s
  unfold execZoneOffline
  refine ⟨_, rfl, Chg.when ?_ ?_⟩
  · exact State.zms_chg (by decide) _ _ _ (fun _ _ _ h => (State.doOffline_chg h).mono (by decide))
  · exact (State.unlisted_chg ..).mono (by decide)

theorem execZoneResetSettled_chg : ∀ a0 s, ∃ t, execZoneResetSettled a0 s = .next t ∧ Chg 318775328 s t := by
  intro a0 s
  unfold execZoneResetSettled
  try dsimp only
  refine ⟨_, rfl, ?_⟩
  refine Chg.when ?_ ?_
  · refine Chg.step (State.succeed_chg ..) ?_ (by decide)
    exact Chg.refl _ _
  · refine Chg.step (State.unlisted_chg ..) ?_ (by decide)
    exact Chg.refl _ _

theorem execFlushExplicitZrwaRange_chg : ∀ a0 s, ∃ t, execFlushExplicitZrwaRange a0 s = .next t ∧ Chg 88039187578 s t := by
  intro a0 s
  unfold execFlushExplicitZrwaRange
  try dsimp only
  refine ⟨_, rfl, ?_⟩
  refine Chg.when ?_ ?_
  · refine Chg.ite ?_ ?_
    · refine Chg.step (State.jrnWait_chg ..) ?_ (by decide)
      refine Chg.step (State.zoneBoundary_chg ..) ?_ (by decide)
      exact Chg.refl _ _
    · refine Chg.ite ?_ ?_
      · refine Chg.step (State.commitTag_chg ..) ?_ (by decide)
        refine Chg.step (State.zoneBoundary_chg ..) ?_ (by decide)
        exact Chg.refl _ _
      · refine Chg.ite ?_ ?_
        · refine Chg.step (State.commitTag_chg ..) ?_ (by decide)
          refine Chg.step (State.zoneBoundary_chg ..) ?_ (by decide)
          exact Chg.refl _ _
        · refine Chg.ite ?_ ?_
          · refine Chg.step (State.commitTag_chg ..) ?_ (by decide)
            refine Chg.step (State.zoneBoundary_chg ..) ?_ (by decide)
            exact Chg.refl _ _
          · refine Chg.ite ?_ ?_
            · refine Chg.step (State.commitTag_chg ..) ?_ (by decide)
              refine Chg.step (State.zoneBoundary_chg ..) ?_ (by decide)
              exact Chg.refl _ _
            · refine Chg.step (State.commitPump_chg ..) ?_ (by decide)
              refine Chg.step (State.succeed_chg ..) ?_ (by decide)
              refine Chg.step (State.zoneFullWatch_chg ..) ?_ (by decide)
              refine Chg.step (State.zoneJournal_chg ..) ?_ (by decide)
              refine Chg.step (State.zrwaAdvance_chg ..) ?_ (by decide)
              refine Chg.step (State.zoneBoundary_chg ..) ?_ (by decide)
              exact Chg.refl _ _
  · refine Chg.step (State.unlisted_chg ..) ?_ (by decide)
    exact Chg.refl _ _

theorem execReportZones_chg : ∀ a0 s, ∃ t, execReportZones a0 s = .next t ∧ Chg 318972002 s t := by
  intro a0 s
  unfold execReportZones
  try dsimp only
  refine ⟨_, rfl, ?_⟩
  refine Chg.when ?_ ?_
  · refine Chg.ite ?_ ?_
    · refine Chg.step (State.commitTag_chg ..) ?_ (by decide)
      exact Chg.refl _ _
    · refine Chg.ite ?_ ?_
      · refine Chg.step (State.commitTag_chg ..) ?_ (by decide)
        exact Chg.refl _ _
      · split
        · refine Chg.step (State.commitTag_chg ..) ?_ (by decide)
          exact Chg.refl _ _
        · refine Chg.step (State.succeed_chg ..) ?_ (by decide)
          refine Chg.step (State.deliver_chg ..) ?_ (by decide)
          exact Chg.refl _ _
  · refine Chg.step (State.unlisted_chg ..) ?_ (by decide)
    exact Chg.refl _ _

theorem execZoneFinishRecommended_chg : ∀ a0 a1 s, ∃ t, execZoneFinishRecommended a0 a1 s = .next t ∧ Chg 461398048 s t := by
  intro a0 a1 s
  unfold execZoneFinishRecommended
  try dsimp only
  refine ⟨_, rfl, ?_⟩
  refine Chg.when ?_ ?_
  · refine Chg.ite ?_ ?_
    · refine Chg.step (State.jrnWait_chg ..) ?_ (by decide)
      exact Chg.refl _ _
    · refine Chg.step (State.zoneChanged_chg ..) ?_ (by decide)
      refine Chg.step (State.zoneJournal_chg ..) ?_ (by decide)
      refine Chg.step (State.setZone_chg ..) ?_ (by decide)
      exact Chg.refl _ _
  · refine Chg.step (State.unlisted_chg ..) ?_ (by decide)
    exact Chg.refl _ _

theorem execZoneFinishedByController_chg : ∀ a0 a1 s, ∃ t, execZoneFinishedByController a0 a1 s = .next t ∧ Chg 88039187578 s t := by
  intro a0 a1 s
  unfold execZoneFinishedByController
  try dsimp only
  refine ⟨_, rfl, ?_⟩
  refine Chg.when ?_ ?_
  · refine Chg.ite ?_ ?_
    · refine Chg.step (State.jrnWait_chg ..) ?_ (by decide)
      exact Chg.refl _ _
    · refine Chg.step (State.commitPump_chg ..) ?_ (by decide)
      refine Chg.step (State.zoneChanged_chg ..) ?_ (by decide)
      refine Chg.step (State.zoneFinish_chg ..) ?_ (by decide)
      refine Chg.step (State.setZone_chg ..) ?_ (by decide)
      exact Chg.refl _ _
  · refine Chg.step (State.unlisted_chg ..) ?_ (by decide)
    exact Chg.refl _ _

end Sys2Proof.Machine
end

