-- ==== Sys2Proof/Laws/ChgAdmin.lean ====
section
/-! SUPPORT. What the operations of Machine/Admin.lean may change: one lemma for each. -/

set_option linter.all false

namespace Sys2Proof.Machine

theorem execCreateIoCq_chg : ∀ a0 s, ∃ t, execCreateIoCq a0 s = .next t ∧ Chg 318779424 s t := by
  intro a0 s
  unfold execCreateIoCq
  try dsimp only
  refine ⟨_, rfl, ?_⟩
  refine Chg.when ?_ ?_
  · refine Chg.ite ?_ ?_
    · refine Chg.step (State.commitTag_chg ..) ?_ (by decide)
      exact Chg.refl _ _
    · refine Chg.ite ?_ ?_
      · refine Chg.step (State.commitTag_chg ..) ?_ (by decide)
        exact Chg.refl _ _
      · refine Chg.ite ?_ ?_
        · refine Chg.step (State.commitTag_chg ..) ?_ (by decide)
          exact Chg.refl _ _
        · refine Chg.ite ?_ ?_
          · refine Chg.step (State.commitTag_chg ..) ?_ (by decide)
            exact Chg.refl _ _
          · refine Chg.ite ?_ ?_
            · refine Chg.step (State.commitTag_chg ..) ?_ (by decide)
              exact Chg.refl _ _
            · refine Chg.ite ?_ ?_
              · refine Chg.step (State.commitTag_chg ..) ?_ (by decide)
                exact Chg.refl _ _
              · refine Chg.ite ?_ ?_
                · refine Chg.step (State.commitTag_chg ..) ?_ (by decide)
                  exact Chg.refl _ _
                · refine Chg.step (State.succeed_chg ..) ?_ (by decide)
                  refine Chg.step (State.setCq_chg ..) ?_ (by decide)
                  exact Chg.refl _ _
  · refine Chg.step (State.unlisted_chg ..) ?_ (by decide)
    exact Chg.refl _ _

theorem execCreateIoSq_chg : ∀ a0 s, ∃ t, execCreateIoSq a0 s = .next t ∧ Chg 318777376 s t := by
  intro a0 s
  unfold execCreateIoSq
  try dsimp only
  refine ⟨_, rfl, ?_⟩
  refine Chg.when ?_ ?_
  · refine Chg.ite ?_ ?_
    · refine Chg.step (State.commitTag_chg ..) ?_ (by decide)
      exact Chg.refl _ _
    · refine Chg.ite ?_ ?_
      · refine Chg.step (State.commitTag_chg ..) ?_ (by decide)
        exact Chg.refl _ _
      · refine Chg.ite ?_ ?_
        · refine Chg.step (State.commitTag_chg ..) ?_ (by decide)
          exact Chg.refl _ _
        · refine Chg.ite ?_ ?_
          · refine Chg.step (State.commitTag_chg ..) ?_ (by decide)
            exact Chg.refl _ _
          · refine Chg.ite ?_ ?_
            · refine Chg.step (State.commitTag_chg ..) ?_ (by decide)
              exact Chg.refl _ _
            · refine Chg.ite ?_ ?_
              · refine Chg.step (State.commitTag_chg ..) ?_ (by decide)
                exact Chg.refl _ _
              · refine Chg.ite ?_ ?_
                · refine Chg.step (State.commitTag_chg ..) ?_ (by decide)
                  exact Chg.refl _ _
                · refine Chg.step (State.succeed_chg ..) ?_ (by decide)
                  refine Chg.step (State.setSq_chg ..) ?_ (by decide)
                  exact Chg.refl _ _
  · refine Chg.step (State.unlisted_chg ..) ?_ (by decide)
    exact Chg.refl _ _

theorem execDeleteIoCq_chg : ∀ a0 s, ∃ t, execDeleteIoCq a0 s = .next t ∧ Chg 318779424 s t := by
  intro a0 s
  unfold execDeleteIoCq
  try dsimp only
  refine ⟨_, rfl, ?_⟩
  refine Chg.when ?_ ?_
  · refine Chg.ite ?_ ?_
    · refine Chg.step (State.commitTag_chg ..) ?_ (by decide)
      exact Chg.refl _ _
    · refine Chg.ite ?_ ?_
      · refine Chg.step (State.commitTag_chg ..) ?_ (by decide)
        exact Chg.refl _ _
      · refine Chg.step (State.succeed_chg ..) ?_ (by decide)
        refine Chg.step (State.dropCq_chg ..) ?_ (by decide)
        exact Chg.refl _ _
  · refine Chg.step (State.unlisted_chg ..) ?_ (by decide)
    exact Chg.refl _ _

theorem execDeleteIoSq_chg : ∀ a0 s, ∃ t, execDeleteIoSq a0 s = .next t ∧ Chg 319011750 s t := by
  intro a0 s
  unfold execDeleteIoSq
  try dsimp only
  refine ⟨_, rfl, ?_⟩
  refine Chg.when ?_ ?_
  · refine Chg.ite ?_ ?_
    · refine Chg.step (State.commitTag_chg ..) ?_ (by decide)
      exact Chg.refl _ _
    · refine Chg.step (State.deleteWatch_chg ..) ?_ (by decide)
      refine Chg.step (State.setTag_chg ..) ?_ (by decide)
      refine Chg.step (State.dmaStale_chg ..) ?_ (by decide)
      refine Chg.u_dmaWait ?_ _ (by decide)
      refine Chg.forEach ?_ ?_
      · intro _ _
        refine Chg.step (State.commitTag_chg ..) ?_ (by decide)
        refine Chg.step (State.dmaCancel_chg ..) ?_ (by decide)
        exact Chg.refl _ _
      · refine Chg.forEach ?_ ?_
        · intro _ _
          refine Chg.step (State.cqPut_chg ..) ?_ (by decide)
          exact Chg.refl _ _
        · refine Chg.step (State.setSq_chg ..) ?_ (by decide)
          exact Chg.refl _ _
  · refine Chg.step (State.unlisted_chg ..) ?_ (by decide)
    exact Chg.refl _ _

theorem State.abortAnswer_chg : ∀ s a1 a2, Chg 318808064 s (State.abortAnswer s a1 a2) := by
  intro s a1 a2
  unfold State.abortAnswer
  try dsimp only
  refine Chg.step (State.succeed_chg ..) ?_ (by decide)
  refine Chg.u_cmds ?_ _ (by decide)
  exact Chg.refl _ _

theorem execAbort_chg : ∀ a0 s, ∃ t, execAbort a0 s = .next t ∧ Chg 319011750 s t := by
  intro a0 s
  unfold execAbort
  try dsimp only
  refine ⟨_, rfl, ?_⟩
  refine Chg.when ?_ ?_
  · refine Chg.ite ?_ ?_
    · refine Chg.step (State.commitTag_chg ..) ?_ (by decide)
      exact Chg.refl _ _
    · refine Chg.ite ?_ ?_
      · refine Chg.step (State.abortAnswer_chg ..) ?_ (by decide)
        exact Chg.refl _ _
      · split
        · refine Chg.step (State.abortAnswer_chg ..) ?_ (by decide)
          refine Chg.step (State.fetchAsk_chg ..) ?_ (by decide)
          refine Chg.step (State.cqPut_chg ..) ?_ (by decide)
          refine Chg.step (State.setSq_chg ..) ?_ (by decide)
          exact Chg.refl _ _
        · split
          · refine Chg.step (State.abortAnswer_chg ..) ?_ (by decide)
            refine Chg.step (State.commitTag_chg ..) ?_ (by decide)
            refine Chg.step (State.dmaCancel_chg ..) ?_ (by decide)
            exact Chg.refl _ _
          · refine Chg.step (State.abortAnswer_chg ..) ?_ (by decide)
            exact Chg.refl _ _
  · refine Chg.step (State.unlisted_chg ..) ?_ (by decide)
    exact Chg.refl _ _

theorem execAsyncEventRequest_chg : ∀ a0 s, ∃ t, execAsyncEventRequest a0 s = .next t ∧ Chg 318791712 s t := by
  intro a0 s
  unfold execAsyncEventRequest
  try dsimp only
  refine ⟨_, rfl, ?_⟩
  refine Chg.when ?_ ?_
  · refine Chg.ite ?_ ?_
    · refine Chg.step (State.commitTag_chg ..) ?_ (by decide)
      exact Chg.refl _ _
    · split
      · refine Chg.step (State.commitTag_chg ..) ?_ (by decide)
        refine Chg.step (State.setCtrl_chg ..) ?_ (by decide)
        exact Chg.refl _ _
      · refine Chg.step (State.setTag_chg ..) ?_ (by decide)
        refine Chg.step (State.setCtrl_chg ..) ?_ (by decide)
        exact Chg.refl _ _
  · refine Chg.step (State.unlisted_chg ..) ?_ (by decide)
    exact Chg.refl _ _

theorem State.featurePut_chg : ∀ s a1 a2 a3, Chg 16384 s (State.featurePut s a1 a2 a3) := by
  intro s a1 a2 a3
  unfold State.featurePut
  try dsimp only
  refine Chg.step (State.setCtrl_chg ..) ?_ (by decide)
  exact Chg.refl _ _

theorem execSetFeatures_chg : ∀ a0 s, ∃ t, execSetFeatures a0 s = .next t ∧ Chg 318791712 s t := by
  intro a0 s
  unfold execSetFeatures
  try dsimp only
  refine ⟨_, rfl, ?_⟩
  refine Chg.when ?_ ?_
  · refine Chg.ite ?_ ?_
    · refine Chg.step (State.commitTag_chg ..) ?_ (by decide)
      exact Chg.refl _ _
    · refine Chg.ite ?_ ?_
      · refine Chg.step (State.commitTag_chg ..) ?_ (by decide)
        exact Chg.refl _ _
      · refine Chg.ite ?_ ?_
        · refine Chg.ite ?_ ?_
          · refine Chg.step (State.commitTag_chg ..) ?_ (by decide)
            exact Chg.refl _ _
          · refine Chg.step (State.succeed_chg ..) ?_ (by decide)
            refine Chg.step (State.featurePut_chg ..) ?_ (by decide)
            exact Chg.refl _ _
        · refine Chg.ite ?_ ?_
          · refine Chg.step (State.succeed_chg ..) ?_ (by decide)
            refine Chg.forEach ?_ ?_
            · intro _ _
              refine Chg.step (State.featurePut_chg ..) ?_ (by decide)
              exact Chg.refl _ _
            · exact Chg.refl _ _
          · refine Chg.ite ?_ ?_
            · refine Chg.step (State.succeed_chg ..) ?_ (by decide)
              refine Chg.step (State.featurePut_chg ..) ?_ (by decide)
              exact Chg.refl _ _
            · refine Chg.step (State.succeed_chg ..) ?_ (by decide)
              refine Chg.step (State.featurePut_chg ..) ?_ (by decide)
              exact Chg.refl _ _
  · refine Chg.step (State.unlisted_chg ..) ?_ (by decide)
    exact Chg.refl _ _

theorem execSetFeaturesPowerManagement_chg : ∀ a0 s, ∃ t, execSetFeaturesPowerManagement a0 s = .next t ∧ Chg 318791720 s t := by
  intro a0 s
  unfold execSetFeaturesPowerManagement
  try dsimp only
  refine ⟨_, rfl, ?_⟩
  refine Chg.when ?_ ?_
  · refine Chg.ite ?_ ?_
    · refine Chg.step (State.commitTag_chg ..) ?_ (by decide)
      exact Chg.refl _ _
    · refine Chg.ite ?_ ?_
      · refine Chg.step (State.commitTag_chg ..) ?_ (by decide)
        exact Chg.refl _ _
      · refine Chg.ite ?_ ?_
        · refine Chg.step (State.setTag_chg ..) ?_ (by decide)
          refine Chg.u_mode ?_ _ (by decide)
          refine Chg.step (State.setCtrl_chg ..) ?_ (by decide)
          exact Chg.refl _ _
        · refine Chg.step (State.succeed_chg ..) ?_ (by decide)
          refine Chg.step (State.setCtrl_chg ..) ?_ (by decide)
          exact Chg.refl _ _
  · refine Chg.step (State.unlisted_chg ..) ?_ (by decide)
    exact Chg.refl _ _

theorem execSetFeaturesHostMemoryBuffer_chg : ∀ a0 s, ∃ t, execSetFeaturesHostMemoryBuffer a0 s = .next t ∧ Chg 385900576 s t := by
  intro a0 s
  unfold execSetFeaturesHostMemoryBuffer
  try dsimp only
  refine ⟨_, rfl, ?_⟩
  refine Chg.when ?_ ?_
  · refine Chg.ite ?_ ?_
    · refine Chg.step (State.commitTag_chg ..) ?_ (by decide)
      exact Chg.refl _ _
    · refine Chg.ite ?_ ?_
      · refine Chg.step (State.commitTag_chg ..) ?_ (by decide)
        exact Chg.refl _ _
      · refine Chg.ite ?_ ?_
        · refine Chg.ite ?_ ?_
          · refine Chg.step (State.commitTag_chg ..) ?_ (by decide)
            exact Chg.refl _ _
          · refine Chg.ite ?_ ?_
            · refine Chg.step (State.commitTag_chg ..) ?_ (by decide)
              exact Chg.refl _ _
            · refine Chg.step (State.succeed_chg ..) ?_ (by decide)
              refine Chg.step (State.featurePut_chg ..) ?_ (by decide)
              refine Chg.ite ?_ ?_
              · refine Chg.u_map ?_ _ (by decide)
                exact Chg.refl _ _
              · refine Chg.u_map ?_ _ (by decide)
                exact Chg.refl _ _
        · refine Chg.ite ?_ ?_
          · refine Chg.step (State.setTag_chg ..) ?_ (by decide)
            refine Chg.u_map ?_ _ (by decide)
            refine Chg.step (State.featurePut_chg ..) ?_ (by decide)
            refine Chg.ite ?_ ?_
            · refine Chg.u_map ?_ _ (by decide)
              exact Chg.refl _ _
            · refine Chg.u_map ?_ _ (by decide)
              exact Chg.refl _ _
          · refine Chg.step (State.succeed_chg ..) ?_ (by decide)
            refine Chg.u_map ?_ _ (by decide)
            refine Chg.step (State.featurePut_chg ..) ?_ (by decide)
            refine Chg.ite ?_ ?_
            · refine Chg.u_map ?_ _ (by decide)
              exact Chg.refl _ _
            · refine Chg.u_map ?_ _ (by decide)
              exact Chg.refl _ _
  · refine Chg.step (State.unlisted_chg ..) ?_ (by decide)
    exact Chg.refl _ _

theorem State.timeSet_chg : ∀ s a1, Chg 4 s (State.timeSet s a1) := by
  intro s a1
  unfold State.timeSet
  try dsimp only
  refine Chg.u_aon ?_ _ (by decide)
  exact Chg.refl _ _

theorem execSetFeaturesTimestamp_chg : ∀ a0 a1 s, ∃ t, execSetFeaturesTimestamp a0 a1 s = .next t ∧ Chg 318775332 s t := by
  intro a0 a1 s
  unfold execSetFeaturesTimestamp
  try dsimp only
  refine ⟨_, rfl, ?_⟩
  refine Chg.when ?_ ?_
  · refine Chg.ite ?_ ?_
    · refine Chg.step (State.commitTag_chg ..) ?_ (by decide)
      exact Chg.refl _ _
    · split
      · refine Chg.step (State.commitTag_chg ..) ?_ (by decide)
        exact Chg.refl _ _
      · refine Chg.step (State.succeed_chg ..) ?_ (by decide)
        refine Chg.step (State.timeSet_chg ..) ?_ (by decide)
        exact Chg.refl _ _
  · refine Chg.step (State.unlisted_chg ..) ?_ (by decide)
    exact Chg.refl _ _

theorem execSetFeaturesFdp_chg : ∀ a0 s, ∃ t, execSetFeaturesFdp a0 s = .next t ∧ Chg 318775328 s t := by
  intro a0 s
  unfold execSetFeaturesFdp
  try dsimp only
  refine ⟨_, rfl, ?_⟩
  refine Chg.when ?_ ?_
  · refine Chg.ite ?_ ?_
    · refine Chg.step (State.commitTag_chg ..) ?_ (by decide)
      exact Chg.refl _ _
    · refine Chg.ite ?_ ?_
      · refine Chg.step (State.succeed_chg ..) ?_ (by decide)
        exact Chg.refl _ _
      · refine Chg.ite ?_ ?_
        · refine Chg.step (State.commitTag_chg ..) ?_ (by decide)
          exact Chg.refl _ _
        · refine Chg.step (State.succeed_chg ..) ?_ (by decide)
          refine Chg.u_pool ?_ _ (by decide)
          exact Chg.refl _ _
  · refine Chg.step (State.unlisted_chg ..) ?_ (by decide)
    exact Chg.refl _ _

theorem execGetFeatures_chg : ∀ a0 s, ∃ t, execGetFeatures a0 s = .next t ∧ Chg 318972002 s t := by
  intro a0 s
  unfold execGetFeatures
  try dsimp only
  refine ⟨_, rfl, ?_⟩
  refine Chg.when ?_ ?_
  · refine Chg.ite ?_ ?_
    · refine Chg.step (State.commitTag_chg ..) ?_ (by decide)
      exact Chg.refl _ _
    · refine Chg.ite ?_ ?_
      · refine Chg.step (State.succeed_chg ..) ?_ (by decide)
        exact Chg.refl _ _
      · refine Chg.ite ?_ ?_
        · refine Chg.step (State.succeed_chg ..) ?_ (by decide)
          exact Chg.refl _ _
        · refine Chg.ite ?_ ?_
          · split
            · refine Chg.step (State.commitTag_chg ..) ?_ (by decide)
              exact Chg.refl _ _
            · refine Chg.step (State.succeed_chg ..) ?_ (by decide)
              refine Chg.step (State.deliver_chg ..) ?_ (by decide)
              exact Chg.refl _ _
          · refine Chg.step (State.succeed_chg ..) ?_ (by decide)
            exact Chg.refl _ _
  · refine Chg.step (State.unlisted_chg ..) ?_ (by decide)
    exact Chg.refl _ _

theorem execDirectiveSend_chg : ∀ a0 s, ∃ t, execDirectiveSend a0 s = .next t ∧ Chg 318775328 s t := by
  intro a0 s
  unfold execDirectiveSend
  try dsimp only
  refine ⟨_, rfl, ?_⟩
  refine Chg.when ?_ ?_
  · refine Chg.ite ?_ ?_
    · refine Chg.step (State.succeed_chg ..) ?_ (by decide)
      exact Chg.refl _ _
    · refine Chg.step (State.commitTag_chg ..) ?_ (by decide)
      exact Chg.refl _ _
  · refine Chg.step (State.unlisted_chg ..) ?_ (by decide)
    exact Chg.refl _ _

theorem execDirectiveReceive_chg : ∀ a0 s, ∃ t, execDirectiveReceive a0 s = .next t ∧ Chg 318972002 s t := by
  intro a0 s
  unfold execDirectiveReceive
  try dsimp only
  refine ⟨_, rfl, ?_⟩
  refine Chg.when ?_ ?_
  · refine Chg.ite ?_ ?_
    · refine Chg.step (State.commitTag_chg ..) ?_ (by decide)
      exact Chg.refl _ _
    · split
      · refine Chg.step (State.commitTag_chg ..) ?_ (by decide)
        exact Chg.refl _ _
      · refine Chg.step (State.succeed_chg ..) ?_ (by decide)
        refine Chg.step (State.deliver_chg ..) ?_ (by decide)
        exact Chg.refl _ _
  · refine Chg.step (State.unlisted_chg ..) ?_ (by decide)
    exact Chg.refl _ _

theorem State.deliverFields_chg : ∀ s a1 a2 a3, Chg 196674 s (State.deliverFields s a1 a2 a3) := by
  intro s a1 a2 a3
  unfold State.deliverFields
  try dsimp only
  refine Chg.ite ?_ ?_
  · refine Chg.step (State.deliverMark_chg ..) ?_ (by decide)
    refine Chg.step (State.emit_chg ..) ?_ (by decide)
    exact Chg.refl _ _
  · refine Chg.step (State.lateDiscard_chg ..) ?_ (by decide)
    exact Chg.refl _ _

theorem execIdentify_chg : ∀ a0 s, ∃ t, execIdentify a0 s = .next t ∧ Chg 17498842226 s t := by
  intro a0 s
  unfold execIdentify
  try dsimp only
  refine ⟨_, rfl, ?_⟩
  refine Chg.when ?_ ?_
  · split
    · refine Chg.step (State.commitTag_chg ..) ?_ (by decide)
      refine Chg.step (State.boundary_chg ..) ?_ (by decide)
      exact Chg.refl _ _
    · split
      · refine Chg.step (State.commitTag_chg ..) ?_ (by decide)
        refine Chg.step (State.boundary_chg ..) ?_ (by decide)
        exact Chg.refl _ _
      · refine Chg.step (State.succeed_chg ..) ?_ (by decide)
        refine Chg.step (State.deliverFields_chg ..) ?_ (by decide)
        refine Chg.step (State.boundary_chg ..) ?_ (by decide)
        exact Chg.refl _ _
  · refine Chg.step (State.unlisted_chg ..) ?_ (by decide)
    exact Chg.refl _ _

theorem State.logClear_chg : ∀ s a1 a2, Chg 8404992 s (State.logClear s a1 a2) := by
  intro s a1 a2
  unfold State.logClear
  try dsimp only
  refine Chg.ite ?_ ?_
  · exact Chg.refl _ _
  · split
    · refine Chg.step (State.setCtrl_chg ..) ?_ (by decide)
      exact Chg.refl _ _
    · refine Chg.step (State.setNs_chg ..) ?_ (by decide)
      exact Chg.refl _ _
    · exact Chg.refl _ _

theorem execGetLogPage_chg : ∀ a0 s, ∃ t, execGetLogPage a0 s = .next t ∧ Chg 327376994 s t := by
  intro a0 s
  unfold execGetLogPage
  try dsimp only
  refine ⟨_, rfl, ?_⟩
  refine Chg.when ?_ ?_
  · refine Chg.ite ?_ ?_
    · refine Chg.step (State.commitTag_chg ..) ?_ (by decide)
      exact Chg.refl _ _
    · refine Chg.ite ?_ ?_
      · refine Chg.step (State.commitTag_chg ..) ?_ (by decide)
        exact Chg.refl _ _
      · refine Chg.ite ?_ ?_
        · refine Chg.step (State.commitTag_chg ..) ?_ (by decide)
          exact Chg.refl _ _
        · refine Chg.ite ?_ ?_
          · refine Chg.step (State.commitTag_chg ..) ?_ (by decide)
            exact Chg.refl _ _
          · split
            · refine Chg.step (State.commitTag_chg ..) ?_ (by decide)
              exact Chg.refl _ _
            · refine Chg.step (State.succeed_chg ..) ?_ (by decide)
              refine Chg.step (State.logClear_chg ..) ?_ (by decide)
              refine Chg.ite ?_ ?_
              · refine Chg.step (State.deliverFields_chg ..) ?_ (by decide)
                exact Chg.refl _ _
              · refine Chg.step (State.deliver_chg ..) ?_ (by decide)
                exact Chg.refl _ _
  · refine Chg.step (State.unlisted_chg ..) ?_ (by decide)
    exact Chg.refl _ _

end Sys2Proof.Machine
end

