-- ==== Sys2Proof/Laws/ChgNamespaces.lean ====
section
/-! SUPPORT. What the operations of Machine/Namespaces.lean may change: one lemma for each. -/

set_option linter.all false

namespace Sys2Proof.Machine

theorem State.nsMake_chg : ∀ s a1 a2 a3, Chg 1216349184 s (State.nsMake s a1 a2 a3) := by
  intro s a1 a2 a3
  unfold State.nsMake
  try dsimp only
  refine Chg.step (State.nsTableWrite_chg ..) ?_ (by decide)
  refine Chg.step (State.nsJournal_chg ..) ?_ (by decide)
  refine Chg.step (State.putCfg_chg ..) ?_ (by decide)
  refine Chg.ite ?_ ?_
  · refine Chg.step (State.putCfg_chg ..) ?_ (by decide)
    refine Chg.step (State.putCfg_chg ..) ?_ (by decide)
    refine Chg.step (State.putCfg_chg ..) ?_ (by decide)
    refine Chg.step (State.setNs_chg ..) ?_ (by decide)
    refine Chg.step (State.recordClear_chg ..) ?_ (by decide)
    exact Chg.refl _ _
  · refine Chg.step (State.putCfg_chg ..) ?_ (by decide)
    refine Chg.step (State.setNs_chg ..) ?_ (by decide)
    refine Chg.step (State.recordClear_chg ..) ?_ (by decide)
    exact Chg.refl _ _

theorem execNamespaceCreate_chg : ∀ a0 a1 s, ∃ t, execNamespaceCreate a0 a1 s = .next t ∧ Chg 18715190386 s t := by
  intro a0 a1 s
  unfold execNamespaceCreate
  try dsimp only
  refine ⟨_, rfl, ?_⟩
  refine Chg.when ?_ ?_
  · refine Chg.ite ?_ ?_
    · refine Chg.step (State.jrnWait_chg ..) ?_ (by decide)
      refine Chg.step (State.boundaryPart_chg ..) ?_ (by decide)
      refine Chg.step (State.boundary_chg ..) ?_ (by decide)
      exact Chg.refl _ _
    · split
      · refine Chg.step (State.commitTag_chg ..) ?_ (by decide)
        refine Chg.step (State.boundaryPart_chg ..) ?_ (by decide)
        refine Chg.step (State.boundary_chg ..) ?_ (by decide)
        exact Chg.refl _ _
      · split
        · refine Chg.step (State.commitTag_chg ..) ?_ (by decide)
          refine Chg.step (State.boundaryPart_chg ..) ?_ (by decide)
          refine Chg.step (State.boundary_chg ..) ?_ (by decide)
          exact Chg.refl _ _
        · refine Chg.step (State.succeed_chg ..) ?_ (by decide)
          refine Chg.step (State.nsMake_chg ..) ?_ (by decide)
          refine Chg.step (State.boundaryPart_chg ..) ?_ (by decide)
          refine Chg.step (State.boundary_chg ..) ?_ (by decide)
          exact Chg.refl _ _
        · refine Chg.step (State.boundaryPart_chg ..) ?_ (by decide)
          refine Chg.step (State.boundary_chg ..) ?_ (by decide)
          exact Chg.refl _ _
  · refine Chg.step (State.unlisted_chg ..) ?_ (by decide)
    exact Chg.refl _ _

theorem State.nsChanged_chg : ∀ s a1 a2, Chg 318791680 s (State.nsChanged s a1 a2) := by
  intro s a1 a2
  unfold State.nsChanged
  try dsimp only
  refine Chg.step (State.raise_chg ..) ?_ (by decide)
  refine Chg.step (State.setCtrl_chg ..) ?_ (by decide)
  exact Chg.refl _ _

theorem State.workEnd_chg : ∀ s a1 a2, Chg 318775296 s (State.workEnd s a1 a2) := by
  intro s a1 a2
  unfold State.workEnd
  try dsimp only
  refine Chg.ite ?_ ?_
  · refine Chg.step (State.succeed_chg ..) ?_ (by decide)
    exact Chg.refl _ _
  · exact Chg.refl _ _

theorem State.nsDrop_chg : ∀ s a1 a2, Chg 327180288 s (State.nsDrop s a1 a2) := by
  intro s a1 a2
  unfold State.nsDrop
  try dsimp only
  refine Chg.forEach ?_ ?_
  · intro _ _
    refine Chg.step (State.nsChanged_chg ..) ?_ (by decide)
    exact Chg.refl _ _
  · refine Chg.step (State.setNs_chg ..) ?_ (by decide)
    exact Chg.refl _ _

theorem execNamespaceDelete_chg : ∀ a0 s, ∃ t, execNamespaceDelete a0 s = .next t ∧ Chg 327180320 s t := by
  intro a0 s
  unfold execNamespaceDelete
  try dsimp only
  refine ⟨_, rfl, ?_⟩
  refine Chg.when ?_ ?_
  · refine Chg.ite ?_ ?_
    · refine Chg.ite ?_ ?_
      · refine Chg.step (State.succeed_chg ..) ?_ (by decide)
        exact Chg.refl _ _
      · refine Chg.step (State.setTag_chg ..) ?_ (by decide)
        refine Chg.forEach ?_ ?_
        · intro _ _
          refine Chg.step (State.nsDrop_chg ..) ?_ (by decide)
          exact Chg.refl _ _
        · exact Chg.refl _ _
    · refine Chg.ite ?_ ?_
      · refine Chg.step (State.commitTag_chg ..) ?_ (by decide)
        exact Chg.refl _ _
      · refine Chg.ite ?_ ?_
        · refine Chg.step (State.commitTag_chg ..) ?_ (by decide)
          exact Chg.refl _ _
        · refine Chg.step (State.setTag_chg ..) ?_ (by decide)
          refine Chg.forEach ?_ ?_
          · intro _ _
            refine Chg.step (State.nsDrop_chg ..) ?_ (by decide)
            exact Chg.refl _ _
          · exact Chg.refl _ _
  · refine Chg.step (State.unlisted_chg ..) ?_ (by decide)
    exact Chg.refl _ _

theorem execNamespaceDeleteComplete_chg : ∀ a0 s, ∃ t, execNamespaceDeleteComplete a0 s = .next t ∧ Chg 225478141050 s t := by
  intro a0 s
  unfold execNamespaceDeleteComplete
  try dsimp only
  refine ⟨_, rfl, ?_⟩
  refine Chg.when ?_ ?_
  · refine Chg.ite ?_ ?_
    · refine Chg.step (State.jrnWait_chg ..) ?_ (by decide)
      refine Chg.step (State.boundary_chg ..) ?_ (by decide)
      exact Chg.refl _ _
    · refine Chg.step (State.commitPump_chg ..) ?_ (by decide)
      split
      · refine Chg.step (State.workEnd_chg ..) ?_ (by decide)
        refine Chg.step (State.nsTableWrite_chg ..) ?_ (by decide)
        refine Chg.step (State.keyTableWrite_chg ..) ?_ (by decide)
        refine Chg.step (State.recordClear_chg ..) ?_ (by decide)
        refine Chg.step (State.setNs_chg ..) ?_ (by decide)
        refine Chg.u_zones ?_ _ (by decide)
        refine Chg.step (State.nsVoid_chg ..) ?_ (by decide)
        refine Chg.step (State.keyErase_chg ..) ?_ (by decide)
        refine Chg.step (State.nsJournal_chg ..) ?_ (by decide)
        refine Chg.step (State.boundary_chg ..) ?_ (by decide)
        exact Chg.refl _ _
      · refine Chg.step (State.nsTableWrite_chg ..) ?_ (by decide)
        refine Chg.step (State.keyTableWrite_chg ..) ?_ (by decide)
        refine Chg.step (State.recordClear_chg ..) ?_ (by decide)
        refine Chg.step (State.setNs_chg ..) ?_ (by decide)
        refine Chg.u_zones ?_ _ (by decide)
        refine Chg.step (State.nsVoid_chg ..) ?_ (by decide)
        refine Chg.step (State.keyErase_chg ..) ?_ (by decide)
        refine Chg.step (State.nsJournal_chg ..) ?_ (by decide)
        refine Chg.step (State.boundary_chg ..) ?_ (by decide)
        exact Chg.refl _ _
  · refine Chg.step (State.unlisted_chg ..) ?_ (by decide)
    exact Chg.refl _ _

theorem execNamespaceAttach_chg : ∀ a0 a1 s, ∃ t, execNamespaceAttach a0 a1 s = .next t ∧ Chg 1400922144 s t := by
  intro a0 a1 s
  unfold execNamespaceAttach
  try dsimp only
  refine ⟨_, rfl, ?_⟩
  refine Chg.when ?_ ?_
  · split
    · refine Chg.step (State.commitTag_chg ..) ?_ (by decide)
      exact Chg.refl _ _
    · refine Chg.ite ?_ ?_
      · refine Chg.step (State.commitTag_chg ..) ?_ (by decide)
        exact Chg.refl _ _
      · refine Chg.ite ?_ ?_
        · refine Chg.step (State.commitTag_chg ..) ?_ (by decide)
          exact Chg.refl _ _
        · refine Chg.step (State.succeed_chg ..) ?_ (by decide)
          refine Chg.forEach ?_ ?_
          · intro _ _
            refine Chg.step (State.nsChanged_chg ..) ?_ (by decide)
            exact Chg.refl _ _
          · refine Chg.step (State.nsTableWrite_chg ..) ?_ (by decide)
            refine Chg.step (State.setNs_chg ..) ?_ (by decide)
            exact Chg.refl _ _
  · refine Chg.step (State.unlisted_chg ..) ?_ (by decide)
    exact Chg.refl _ _

theorem execNamespaceDetach_chg : ∀ a0 a1 s, ∃ t, execNamespaceDetach a0 a1 s = .next t ∧ Chg 1400922144 s t := by
  intro a0 a1 s
  unfold execNamespaceDetach
  try dsimp only
  refine ⟨_, rfl, ?_⟩
  refine Chg.when ?_ ?_
  · split
    · refine Chg.step (State.commitTag_chg ..) ?_ (by decide)
      exact Chg.refl _ _
    · refine Chg.ite ?_ ?_
      · refine Chg.step (State.commitTag_chg ..) ?_ (by decide)
        exact Chg.refl _ _
      · refine Chg.ite ?_ ?_
        · refine Chg.step (State.commitTag_chg ..) ?_ (by decide)
          exact Chg.refl _ _
        · refine Chg.ite ?_ ?_
          · refine Chg.step (State.commitTag_chg ..) ?_ (by decide)
            exact Chg.refl _ _
          · refine Chg.step (State.succeed_chg ..) ?_ (by decide)
            refine Chg.forEach ?_ ?_
            · intro _ _
              refine Chg.step (State.nsChanged_chg ..) ?_ (by decide)
              exact Chg.refl _ _
            · refine Chg.step (State.nsTableWrite_chg ..) ?_ (by decide)
              refine Chg.step (State.setNs_chg ..) ?_ (by decide)
              exact Chg.refl _ _
  · refine Chg.step (State.unlisted_chg ..) ?_ (by decide)
    exact Chg.refl _ _

theorem execFormatNvm_chg : ∀ a0 s, ∃ t, execFormatNvm a0 s = .next t ∧ Chg 327163936 s t := by
  intro a0 s
  unfold execFormatNvm
  try dsimp only
  refine ⟨_, rfl, ?_⟩
  refine Chg.when ?_ ?_
  · split
    · refine Chg.step (State.commitTag_chg ..) ?_ (by decide)
      exact Chg.refl _ _
    · refine Chg.ite ?_ ?_
      · refine Chg.step (State.commitTag_chg ..) ?_ (by decide)
        exact Chg.refl _ _
      · refine Chg.ite ?_ ?_
        · refine Chg.step (State.commitTag_chg ..) ?_ (by decide)
          exact Chg.refl _ _
        · refine Chg.step (State.setTag_chg ..) ?_ (by decide)
          refine Chg.step (State.setNs_chg ..) ?_ (by decide)
          exact Chg.refl _ _
  · refine Chg.step (State.unlisted_chg ..) ?_ (by decide)
    exact Chg.refl _ _

theorem execFormatComplete_chg : ∀ a0 s, ∃ t, execFormatComplete a0 s = .next t ∧ Chg 225478141050 s t := by
  intro a0 s
  unfold execFormatComplete
  try dsimp only
  refine ⟨_, rfl, ?_⟩
  refine Chg.when ?_ ?_
  · refine Chg.ite ?_ ?_
    · refine Chg.step (State.jrnWait_chg ..) ?_ (by decide)
      refine Chg.step (State.boundary_chg ..) ?_ (by decide)
      exact Chg.refl _ _
    · refine Chg.step (State.commitPump_chg ..) ?_ (by decide)
      split
      · refine Chg.step (State.workEnd_chg ..) ?_ (by decide)
        refine Chg.step (State.nsTableWrite_chg ..) ?_ (by decide)
        refine Chg.step (State.nsJournal_chg ..) ?_ (by decide)
        refine Chg.step (State.setNs_chg ..) ?_ (by decide)
        refine Chg.step (State.nsVoid_chg ..) ?_ (by decide)
        refine Chg.ite ?_ ?_
        · refine Chg.step (State.boundary_chg ..) ?_ (by decide)
          exact Chg.refl _ _
        · refine Chg.step (State.keyTableWrite_chg ..) ?_ (by decide)
          refine Chg.step (State.keyErase_chg ..) ?_ (by decide)
          refine Chg.step (State.boundary_chg ..) ?_ (by decide)
          exact Chg.refl _ _
      · refine Chg.step (State.nsTableWrite_chg ..) ?_ (by decide)
        refine Chg.step (State.nsJournal_chg ..) ?_ (by decide)
        refine Chg.step (State.setNs_chg ..) ?_ (by decide)
        refine Chg.step (State.nsVoid_chg ..) ?_ (by decide)
        refine Chg.ite ?_ ?_
        · refine Chg.step (State.boundary_chg ..) ?_ (by decide)
          exact Chg.refl _ _
        · refine Chg.step (State.keyTableWrite_chg ..) ?_ (by decide)
          refine Chg.step (State.keyErase_chg ..) ?_ (by decide)
          refine Chg.step (State.boundary_chg ..) ?_ (by decide)
          exact Chg.refl _ _
  · refine Chg.step (State.unlisted_chg ..) ?_ (by decide)
    exact Chg.refl _ _

theorem State.sanitizeAccept_chg : ∀ s a1 a2, Chg 208297533496 s (State.sanitizeAccept s a1 a2) := by
  intro s a1 a2
  unfold State.sanitizeAccept
  try dsimp only
  refine Chg.ite ?_ ?_
  · refine Chg.step (State.commitTag_chg ..) ?_ (by decide)
    exact Chg.refl _ _
  · refine Chg.ite ?_ ?_
    · refine Chg.step (State.commitTag_chg ..) ?_ (by decide)
      exact Chg.refl _ _
    · refine Chg.ite ?_ ?_
      · refine Chg.step (State.commitTag_chg ..) ?_ (by decide)
        exact Chg.refl _ _
      · refine Chg.step (State.sanitizeRun_chg ..) ?_ (by decide)
        refine Chg.step (State.succeed_chg ..) ?_ (by decide)
        refine Chg.step (State.maintBegin_chg ..) ?_ (by decide)
        refine Chg.step (State.maintSet_chg ..) ?_ (by decide)
        refine Chg.u_sec ?_ _ ?_ (by decide)
        · exact Chg.refl _ _
        · exact List.prefix_rfl

theorem execSanitizeBlockErase_chg : ∀ a0 s, ∃ t, execSanitizeBlockErase a0 s = .next t ∧ Chg 208297533496 s t := by
  intro a0 s
  unfold execSanitizeBlockErase
  try dsimp only
  refine ⟨_, rfl, ?_⟩
  refine Chg.when ?_ ?_
  · refine Chg.ite ?_ ?_
    · refine Chg.step (State.sanitizeAccept_chg ..) ?_ (by decide)
      exact Chg.refl _ _
    · refine Chg.step (State.commitTag_chg ..) ?_ (by decide)
      exact Chg.refl _ _
  · refine Chg.step (State.unlisted_chg ..) ?_ (by decide)
    exact Chg.refl _ _

theorem execSanitizeCryptoErase_chg : ∀ a0 s, ∃ t, execSanitizeCryptoErase a0 s = .next t ∧ Chg 208297533496 s t := by
  intro a0 s
  unfold execSanitizeCryptoErase
  try dsimp only
  refine ⟨_, rfl, ?_⟩
  refine Chg.when ?_ ?_
  · refine Chg.step (State.sanitizeAccept_chg ..) ?_ (by decide)
    exact Chg.refl _ _
  · refine Chg.step (State.unlisted_chg ..) ?_ (by decide)
    exact Chg.refl _ _

theorem execSanitizeExitFailure_chg : ∀ a0 s, ∃ t, execSanitizeExitFailure a0 s = .next t ∧ Chg 206477205560 s t := by
  intro a0 s
  unfold execSanitizeExitFailure
  try dsimp only
  refine ⟨_, rfl, ?_⟩
  refine Chg.when ?_ ?_
  · refine Chg.ite ?_ ?_
    · refine Chg.step (State.commitTag_chg ..) ?_ (by decide)
      exact Chg.refl _ _
    · refine Chg.ite ?_ ?_
      · refine Chg.step (State.commitTag_chg ..) ?_ (by decide)
        exact Chg.refl _ _
      · refine Chg.step (State.succeed_chg ..) ?_ (by decide)
        refine Chg.ite ?_ ?_
        · refine Chg.step (State.maintExit_chg ..) ?_ (by decide)
          refine Chg.u_sec ?_ _ ?_ (by decide)
          · exact Chg.refl _ _
          · exact List.prefix_rfl
        · refine Chg.u_sec ?_ _ ?_ (by decide)
          · exact Chg.refl _ _
          · exact List.prefix_rfl
  · refine Chg.step (State.unlisted_chg ..) ?_ (by decide)
    exact Chg.refl _ _

end Sys2Proof.Machine
end

