-- ==== Sys2Proof/Laws/ChgSecurity.lean ====
section
/-! SUPPORT. What the operations of Machine/Security.lean may change: one lemma for each. -/

set_option linter.all false

namespace Sys2Proof.Machine

theorem State.actRecord_chg : ∀ s a1, Chg 137438953472 s (State.actRecord s a1) := by
  intro s a1
  unfold State.actRecord
  try dsimp only
  refine Chg.u_sec ?_ _ ?_ (by decide)
  · exact Chg.refl _ _
  · exact List.prefix_rfl

theorem State.slotWrite_chg : ∀ s a1 a2, Chg 137438953472 s (State.slotWrite s a1 a2) := by
  intro s a1 a2
  unfold State.slotWrite
  try dsimp only
  refine Chg.ite ?_ ?_
  · refine Chg.u_sec ?_ _ ?_ (by decide)
    · exact Chg.refl _ _
    · exact List.prefix_rfl
  · refine Chg.u_sec ?_ _ ?_ (by decide)
    · exact Chg.refl _ _
    · exact List.prefix_rfl

theorem execFirmwareImageDownload_chg : ∀ a0 a1 s, ∃ t, execFirmwareImageDownload a0 a1 s = .next t ∧ Chg 137757728800 s t := by
  intro a0 a1 s
  unfold execFirmwareImageDownload
  try dsimp only
  refine ⟨_, rfl, ?_⟩
  refine Chg.when ?_ ?_
  · refine Chg.ite ?_ ?_
    · refine Chg.step (State.commitTag_chg ..) ?_ (by decide)
      exact Chg.refl _ _
    · refine Chg.ite ?_ ?_
      · refine Chg.step (State.commitTag_chg ..) ?_ (by decide)
        exact Chg.refl _ _
      · refine Chg.ite ?_ ?_
        · refine Chg.step (State.commitTag_chg ..) ?_ (by decide)
          exact Chg.refl _ _
        · split
          · refine Chg.step (State.commitTag_chg ..) ?_ (by decide)
            exact Chg.refl _ _
          · refine Chg.step (State.succeed_chg ..) ?_ (by decide)
            refine Chg.u_sec ?_ _ ?_ (by decide)
            · exact Chg.refl _ _
            · exact List.prefix_rfl
  · refine Chg.step (State.unlisted_chg ..) ?_ (by decide)
    exact Chg.refl _ _

theorem execFirmwareCommitReplace_chg : ∀ a0 s, ∃ t, execFirmwareCommitReplace a0 s = .next t ∧ Chg 137757728800 s t := by
  intro a0 s
  unfold execFirmwareCommitReplace
  try dsimp only
  refine ⟨_, rfl, ?_⟩
  refine Chg.when ?_ ?_
  · refine Chg.ite ?_ ?_
    · refine Chg.step (State.commitTag_chg ..) ?_ (by decide)
      exact Chg.refl _ _
    · refine Chg.ite ?_ ?_
      · refine Chg.step (State.commitTag_chg ..) ?_ (by decide)
        exact Chg.refl _ _
      · split
        · refine Chg.ite ?_ ?_
          · refine Chg.step (State.succeed_chg ..) ?_ (by decide)
            refine Chg.u_sec ?_ _ ?_ (by decide)
            · refine Chg.step (State.actRecord_chg ..) ?_ (by decide)
              refine Chg.step (State.slotWrite_chg ..) ?_ (by decide)
              exact Chg.refl _ _
            · exact List.prefix_rfl
          · refine Chg.step (State.commitTag_chg ..) ?_ (by decide)
            exact Chg.refl _ _
        · refine Chg.step (State.commitTag_chg ..) ?_ (by decide)
          exact Chg.refl _ _
  · refine Chg.step (State.unlisted_chg ..) ?_ (by decide)
    exact Chg.refl _ _

theorem execFirmwareCommitActivateNext_chg : ∀ a0 s, ∃ t, execFirmwareCommitActivateNext a0 s = .next t ∧ Chg 137757728800 s t := by
  intro a0 s
  unfold execFirmwareCommitActivateNext
  try dsimp only
  refine ⟨_, rfl, ?_⟩
  refine Chg.when ?_ ?_
  · refine Chg.ite ?_ ?_
    · refine Chg.step (State.commitTag_chg ..) ?_ (by decide)
      exact Chg.refl _ _
    · split
      · refine Chg.ite ?_ ?_
        · refine Chg.step (State.succeed_chg ..) ?_ (by decide)
          refine Chg.step (State.actRecord_chg ..) ?_ (by decide)
          exact Chg.refl _ _
        · refine Chg.step (State.commitTag_chg ..) ?_ (by decide)
          exact Chg.refl _ _
      · refine Chg.step (State.commitTag_chg ..) ?_ (by decide)
        exact Chg.refl _ _
  · refine Chg.step (State.unlisted_chg ..) ?_ (by decide)
    exact Chg.refl _ _

theorem execFirmwareCommitActivateNow_chg : ∀ a0 s, ∃ t, execFirmwareCommitActivateNow a0 s = .next t ∧ Chg 137757728800 s t := by
  intro a0 s
  unfold execFirmwareCommitActivateNow
  try dsimp only
  refine ⟨_, rfl, ?_⟩
  refine Chg.when ?_ ?_
  · refine Chg.ite ?_ ?_
    · refine Chg.step (State.commitTag_chg ..) ?_ (by decide)
      exact Chg.refl _ _
    · refine Chg.ite ?_ ?_
      · refine Chg.step (State.succeed_chg ..) ?_ (by decide)
        exact Chg.refl _ _
      · refine Chg.ite ?_ ?_
        · refine Chg.step (State.commitTag_chg ..) ?_ (by decide)
          exact Chg.refl _ _
        · split
          · refine Chg.ite ?_ ?_
            · refine Chg.step (State.setTag_chg ..) ?_ (by decide)
              refine Chg.u_sec ?_ _ ?_ (by decide)
              · exact Chg.refl _ _
              · exact List.prefix_rfl
            · refine Chg.step (State.commitTag_chg ..) ?_ (by decide)
              exact Chg.refl _ _
          · refine Chg.step (State.commitTag_chg ..) ?_ (by decide)
            exact Chg.refl _ _
  · refine Chg.step (State.unlisted_chg ..) ?_ (by decide)
    exact Chg.refl _ _

theorem State.actDone_chg : ∀ s, Chg 137761923088 s (State.actDone s) := by
  intro s
  unfold State.actDone
  try dsimp only
  split
  · refine Chg.step (State.succeed_chg ..) ?_ (by decide)
    refine Chg.step (State.lcsBit_chg ..) ?_ (by decide)
    refine Chg.u_engines_sec ?_ _ _ ?_ (by decide)
    · refine Chg.step (State.actRecord_chg ..) ?_ (by decide)
      exact Chg.refl _ _
    · exact List.prefix_rfl
  · refine Chg.step (State.lcsBit_chg ..) ?_ (by decide)
    refine Chg.u_engines_sec ?_ _ _ ?_ (by decide)
    · refine Chg.step (State.actRecord_chg ..) ?_ (by decide)
      exact Chg.refl _ _
    · exact List.prefix_rfl

theorem execActivationHandoff_chg : ∀ a0 s, ∃ t, execActivationHandoff a0 s = .next t ∧ Chg 137761923120 s t := by
  intro a0 s
  unfold execActivationHandoff
  try dsimp only
  refine ⟨_, rfl, ?_⟩
  refine Chg.when ?_ ?_
  · refine Chg.ite ?_ ?_
    · refine Chg.step (State.activationStop_chg ..) ?_ (by decide)
      refine Chg.forEach ?_ ?_
      · intro _ _
        refine Chg.step (State.setEngine_chg ..) ?_ (by decide)
        exact Chg.refl _ _
      · exact Chg.refl _ _
    · refine Chg.ite ?_ ?_
      · refine Chg.u_sec ?_ _ ?_ (by decide)
        · refine Chg.forEach ?_ ?_
          · intro _ _
            refine Chg.step (State.setEngine_chg ..) ?_ (by decide)
            exact Chg.refl _ _
          · exact Chg.refl _ _
        · exact List.prefix_rfl
      · split
        · refine Chg.u_sec ?_ _ ?_ (by decide)
          · refine Chg.forEach ?_ ?_
            · intro _ _
              refine Chg.step (State.setEngine_chg ..) ?_ (by decide)
              exact Chg.refl _ _
            · exact Chg.refl _ _
          · exact List.prefix_rfl
        · refine Chg.step (State.actDone_chg ..) ?_ (by decide)
          refine Chg.u_sec ?_ _ ?_ (by decide)
          · refine Chg.forEach ?_ ?_
            · intro _ _
              refine Chg.step (State.setEngine_chg ..) ?_ (by decide)
              exact Chg.refl _ _
            · exact Chg.refl _ _
          · exact List.prefix_rfl
  · refine Chg.step (State.unlisted_chg ..) ?_ (by decide)
    exact Chg.refl _ _

end Sys2Proof.Machine
end

