-- ==== Sys2Proof/Laws/ChgReliab.lean ====
section
/-! SUPPORT. What the operations of Machine/Reliab.lean may change: one lemma for each. -/

set_option linter.all false

namespace Sys2Proof.Machine

theorem State.laneFailed_chg : ∀ s a1 a2 a3, Chg 68719476922 s (State.laneFailed s a1 a2 a3) := by
  intro s a1 a2 a3
  unfold State.laneFailed
  try dsimp only
  refine Chg.step (State.rasReport_chg ..) ?_ (by decide)
  refine Chg.step (State.sustainSet_chg ..) ?_ (by decide)
  exact Chg.refl _ _

theorem State.fabricLost_chg : ∀ s a1, Chg 168 s (State.fabricLost s a1) := by
  intro s a1
  unfold State.fabricLost
  try dsimp only
  refine Chg.step (State.serviceEnd_chg ..) ?_ (by decide)
  refine Chg.step (State.rasRecord_chg ..) ?_ (by decide)
  exact Chg.refl _ _

theorem execAonHeartbeatLoss_chg : ∀ s, ∃ t, execAonHeartbeatLoss s = .next t ∧ Chg 168 s t := by
  intro s
  unfold execAonHeartbeatLoss
  try dsimp only
  refine ⟨_, rfl, ?_⟩
  refine Chg.when ?_ ?_
  · refine Chg.step (State.serviceEnd_chg ..) ?_ (by decide)
    refine Chg.step (State.rasRecord_chg ..) ?_ (by decide)
    exact Chg.refl _ _
  · refine Chg.step (State.unlisted_chg ..) ?_ (by decide)
    exact Chg.refl _ _

theorem execFabricLinkCrcFailure_chg : ∀ a0 s, ∃ t, execFabricLinkCrcFailure a0 s = .next t ∧ Chg 70866960570 s t := by
  intro a0 s
  unfold execFabricLinkCrcFailure
  try dsimp only
  refine ⟨_, rfl, ?_⟩
  refine Chg.when ?_ ?_
  · refine Chg.ite ?_ ?_
    · refine Chg.step (State.fabricLost_chg ..) ?_ (by decide)
      refine Chg.step (State.rasReport_chg ..) ?_ (by decide)
      refine Chg.u_cmp ?_ _ (by decide)
      exact Chg.refl _ _
    · refine Chg.step (State.rasReport_chg ..) ?_ (by decide)
      refine Chg.u_cmp ?_ _ (by decide)
      exact Chg.refl _ _
  · refine Chg.step (State.unlisted_chg ..) ?_ (by decide)
    exact Chg.refl _ _

theorem execFabricCoreFailure_chg : ∀ s, ∃ t, execFabricCoreFailure s = .next t ∧ Chg 168 s t := by
  intro s
  unfold execFabricCoreFailure
  try dsimp only
  refine ⟨_, rfl, ?_⟩
  refine Chg.when ?_ ?_
  · refine Chg.step (State.fabricLost_chg ..) ?_ (by decide)
    exact Chg.refl _ _
  · refine Chg.step (State.unlisted_chg ..) ?_ (by decide)
    exact Chg.refl _ _

theorem execSoftDecoderSelfTest_chg : ∀ a0 a1 s, ∃ t, execSoftDecoderSelfTest a0 a1 s = .next t ∧ Chg 70866960570 s t := by
  intro a0 a1 s
  unfold execSoftDecoderSelfTest
  try dsimp only
  refine ⟨_, rfl, ?_⟩
  refine Chg.when ?_ ?_
  · refine Chg.ite ?_ ?_
    · exact Chg.refl _ _
    · refine Chg.step (State.laneFailed_chg ..) ?_ (by decide)
      refine Chg.u_cmp ?_ _ (by decide)
      exact Chg.refl _ _
  · refine Chg.step (State.unlisted_chg ..) ?_ (by decide)
    exact Chg.refl _ _

theorem State.portFail_chg : ∀ s a1, Chg 86822354938 s (State.portFail s a1) := by
  intro s a1
  unfold State.portFail
  try dsimp only
  refine Chg.ite ?_ ?_
  · refine Chg.step (State.linkLost_chg ..) ?_ (by decide)
    refine Chg.step (State.rasRecord_chg ..) ?_ (by decide)
    refine Chg.setPort ?_ ?_ (by decide)
    · exact Chg.refl _ _
    · exact fun w => w _
  · refine Chg.step (State.serviceEnd_chg ..) ?_ (by decide)
    refine Chg.step (State.rasRecord_chg ..) ?_ (by decide)
    refine Chg.setPort ?_ ?_ (by decide)
    · exact Chg.refl _ _
    · exact fun w => w _

theorem execPortFailure_chg : ∀ a0 a1 s, ∃ t, execPortFailure a0 a1 s = .next t ∧ Chg 86822354938 s t := by
  intro a0 a1 s
  unfold execPortFailure
  try dsimp only
  refine ⟨_, rfl, ?_⟩
  refine Chg.when ?_ ?_
  · refine Chg.ite ?_ ?_
    · refine Chg.ite ?_ ?_
      · refine Chg.step (State.portFail_chg ..) ?_ (by decide)
        refine Chg.setPort ?_ ?_ (by decide)
        · exact Chg.refl _ _
        · exact fun w => w _
      · refine Chg.setPort ?_ ?_ (by decide)
        · exact Chg.refl _ _
        · exact fun w => w _
    · refine Chg.ite ?_ ?_
      · refine Chg.step (State.portFail_chg ..) ?_ (by decide)
        refine Chg.setPort ?_ ?_ (by decide)
        · exact Chg.refl _ _
        · exact fun w => w _
      · refine Chg.setPort ?_ ?_ (by decide)
        · exact Chg.refl _ _
        · exact fun w => w _
  · refine Chg.step (State.unlisted_chg ..) ?_ (by decide)
    exact Chg.refl _ _

end Sys2Proof.Machine
end

