-- ==== Sys2Proof/Laws/ChgDictRules.lean ====
section
/-! SUPPORT. What the operations of Machine/DictRules.lean may change: one lemma for each. -/

set_option linter.all false

namespace Sys2Proof.Machine

theorem State.lifeWrite_chg : ∀ s a1, Chg 206158431248 s (State.lifeWrite s a1) := by
  intro s a1
  unfold State.lifeWrite
  dsimp only
  refine Chg.step (State.lcsBit_chg ..) ?_ (by decide)
  refine Chg.step (State.sessionsEnd_chg ..) ?_ (by decide)
  exact Chg.u_sec (Chg.refl _ _) _ (List.prefix_append _ _) (by decide)

theorem State.commitRec_chg : ∀ s a1 a2 a3 a4 a5, Chg 137438954496 s (State.commitRec s a1 a2 a3 a4 a5).1 := by
  intro s a1 a2 a3 a4 a5
  unfold State.commitRec
  try dsimp only
  split
  · dsimp only
    refine Chg.step (State.setResult_chg ..) ?_ (by decide)
    exact Chg.refl _ _
  · refine Chg.fstIte ?_ ?_
    · dsimp only
      exact Chg.refl _ _
    · split
      · dsimp only
        refine Chg.step (State.setResult_chg ..) ?_ (by decide)
        exact Chg.refl _ _
      · split
        · dsimp only
          exact Chg.refl _ _
        · dsimp only
          refine Chg.ite ?_ ?_
          · refine Chg.u_sec ?_ _ ?_ (by decide)
            · refine Chg.step (State.append_chg ..) ?_ (by decide)
              exact Chg.refl _ _
            · exact List.prefix_rfl
          · refine Chg.step (State.append_chg ..) ?_ (by decide)
            exact Chg.refl _ _

theorem State.shadowSettle_chg : ∀ s a1 a2, Chg 1024 s (State.shadowSettle s a1 a2) := by
  intro s a1 a2
  unfold State.shadowSettle
  try dsimp only
  split
  · exact Chg.refl _ _
  · refine Chg.ite ?_ ?_
    · refine Chg.step (State.dropShadow_chg ..) ?_ (by decide)
      exact Chg.refl _ _
    · refine Chg.u_dict ?_ _ (by decide)
      exact Chg.refl _ _

theorem State.capacityAgain_chg : ∀ s, Chg 536870912 s (State.capacityAgain s) := by
  intro s
  unfold State.capacityAgain
  try dsimp only
  refine Chg.ite ?_ ?_
  · refine Chg.u_media ?_ _ (by decide)
    exact Chg.refl _ _
  · exact Chg.refl _ _

theorem State.commitDurable_chg : ∀ s a1, Chg 224194143314 s (State.commitDurable s a1) := by
  intro s a1
  unfold State.commitDurable
  try dsimp only
  split
  · refine Chg.step (State.capacityAgain_chg ..) ?_ (by decide)
    refine Chg.step (State.boundary_chg ..) ?_ (by decide)
    refine Chg.u_dict ?_ _ (by decide)
    refine Chg.step (State.shadowSettle_chg ..) ?_ (by decide)
    exact Chg.refl _ _
  · refine Chg.step (State.capacityAgain_chg ..) ?_ (by decide)
    refine Chg.step (State.boundary_chg ..) ?_ (by decide)
    refine Chg.u_dict ?_ _ (by decide)
    refine Chg.step (State.shadowSettle_chg ..) ?_ (by decide)
    exact Chg.refl _ _
  · refine Chg.step (State.lifeWrite_chg ..) ?_ (by decide)
    refine Chg.step (State.boundary_chg ..) ?_ (by decide)
    refine Chg.u_dict ?_ _ (by decide)
    refine Chg.step (State.shadowSettle_chg ..) ?_ (by decide)
    exact Chg.refl _ _
  · refine Chg.u_dict ?_ _ (by decide)
    refine Chg.step (State.shadowSettle_chg ..) ?_ (by decide)
    exact Chg.refl _ _

end Sys2Proof.Machine
end

