-- ==== Sys2Proof/Laws/ChgSliceEv.lean ====
section
/-! SUPPORT. What the operations of Machine/SliceEv.lean may change: one lemma for each. -/

set_option linter.all false

namespace Sys2Proof.Machine

theorem State.actionEnd_chg : ∀ s a1, Chg 17498842194 s (State.actionEnd s a1) := by
  intro s a1
  unfold State.actionEnd
  try dsimp only
  split
  · refine Chg.step (State.setSlice_chg ..) ?_ (by decide)
    exact Chg.refl _ _
  · refine Chg.step (State.commitForce_chg ..) ?_ (by decide)
    refine Chg.step (State.setSlice_chg ..) ?_ (by decide)
    exact Chg.refl _ _

theorem State.actionConflict_chg : ∀ s a1 a2, Chg 318776320 s (State.actionConflict s a1 a2) := by
  intro s a1 a2
  unfold State.actionConflict
  try dsimp only
  split
  · refine Chg.step (State.commitTag_chg ..) ?_ (by decide)
    refine Chg.u_dict ?_ _ (by decide)
    exact Chg.refl _ _
  · refine Chg.u_dict ?_ _ (by decide)
    exact Chg.refl _ _

theorem State.sliceMake_chg : ∀ s a1 a2, Chg 17498842194 s (State.sliceMake s a1 a2) := by
  intro s a1 a2
  unfold State.sliceMake
  try dsimp only
  refine Chg.step (State.actionEnd_chg ..) ?_ (by decide)
  refine Chg.step (State.setSlice_chg ..) ?_ (by decide)
  exact Chg.refl _ _

theorem State.sliceJoin_chg : ∀ s a1, Chg 17498848338 s (State.sliceJoin s a1) := by
  intro s a1
  unfold State.sliceJoin
  try dsimp only
  refine Chg.step (State.ltrAll_chg ..) ?_ (by decide)
  refine Chg.step (State.pageReset_chg ..) ?_ (by decide)
  refine Chg.step (State.setupAdmin_chg ..) ?_ (by decide)
  refine Chg.step (State.actionEnd_chg ..) ?_ (by decide)
  refine Chg.step (State.setSlice_chg ..) ?_ (by decide)
  exact Chg.refl _ _

theorem State.sliceLeave_chg : ∀ s a1 a2 a3, Chg 18035768162 s (State.sliceLeave s a1 a2 a3) := by
  intro s a1 a2 a3
  unfold State.sliceLeave
  try dsimp only
  refine Chg.step (State.setSlice_chg ..) ?_ (by decide)
  refine Chg.step (State.sliceReset_chg ..) ?_ (by decide)
  exact Chg.refl _ _

theorem State.actionApply_chg : ∀ s a1 a2 a3, Chg 18035769202 s (State.actionApply s a1 a2 a3) := by
  intro s a1 a2 a3
  unfold State.actionApply
  try dsimp only
  refine Chg.ite ?_ ?_
  · refine Chg.step (State.actionConflict_chg ..) ?_ (by decide)
    exact Chg.refl _ _
  · split
    · refine Chg.ite ?_ ?_
      · refine Chg.step (State.sliceMake_chg ..) ?_ (by decide)
        exact Chg.refl _ _
      · refine Chg.step (State.unlisted_chg ..) ?_ (by decide)
        exact Chg.refl _ _
    · refine Chg.step (State.sliceJoin_chg ..) ?_ (by decide)
      exact Chg.refl _ _
    · refine Chg.ite ?_ ?_
      · refine Chg.step (State.setSlice_chg ..) ?_ (by decide)
        exact Chg.refl _ _
      · refine Chg.step (State.sliceLeave_chg ..) ?_ (by decide)
        exact Chg.refl _ _
    · refine Chg.step (State.sliceLeave_chg ..) ?_ (by decide)
      exact Chg.refl _ _

theorem execSliceActionApply_chg : ∀ a0 a1 s, ∃ t, execSliceActionApply a0 a1 s = .next t ∧ Chg 18035769202 s t := by
  intro a0 a1 s
  unfold execSliceActionApply
  try dsimp only
  refine ⟨_, rfl, ?_⟩
  split
  · refine Chg.when ?_ ?_
    · refine Chg.step (State.actionApply_chg ..) ?_ (by decide)
      exact Chg.refl _ _
    · refine Chg.step (State.unlisted_chg ..) ?_ (by decide)
      exact Chg.refl _ _
  · refine Chg.step (State.unlisted_chg ..) ?_ (by decide)
    exact Chg.refl _ _

theorem execGenerationHoldRelease_chg : ∀ a0 s, ∃ t, execGenerationHoldRelease a0 s = .next t ∧ Chg 18035768162 s t := by
  intro a0 s
  unfold execGenerationHoldRelease
  try dsimp only
  refine ⟨_, rfl, ?_⟩
  refine Chg.when ?_ ?_
  · refine Chg.step (State.resetBody_chg ..) ?_ (by decide)
    exact Chg.refl _ _
  · refine Chg.step (State.unlisted_chg ..) ?_ (by decide)
    exact Chg.refl _ _

theorem execResetSequenceEnd_chg : ∀ a0 s, ∃ t, execResetSequenceEnd a0 s = .next t ∧ Chg 17498848370 s t := by
  intro a0 s
  unfold execResetSequenceEnd
  try dsimp only
  refine ⟨_, rfl, ?_⟩
  refine Chg.when ?_ ?_
  · refine Chg.step (State.ltrAll_chg ..) ?_ (by decide)
    refine Chg.ite ?_ ?_
    · refine Chg.step (State.setupAdmin_chg ..) ?_ (by decide)
      refine Chg.ite ?_ ?_
      · refine Chg.step (State.actionEnd_chg ..) ?_ (by decide)
        refine Chg.ite ?_ ?_
        · refine Chg.step (State.setSlice_chg ..) ?_ (by decide)
          exact Chg.refl _ _
        · refine Chg.step (State.dropSliceQueues_chg ..) ?_ (by decide)
          refine Chg.step (State.setSlice_chg ..) ?_ (by decide)
          exact Chg.refl _ _
      · refine Chg.ite ?_ ?_
        · refine Chg.step (State.setSlice_chg ..) ?_ (by decide)
          exact Chg.refl _ _
        · refine Chg.step (State.dropSliceQueues_chg ..) ?_ (by decide)
          refine Chg.step (State.setSlice_chg ..) ?_ (by decide)
          exact Chg.refl _ _
    · refine Chg.ite ?_ ?_
      · refine Chg.step (State.actionEnd_chg ..) ?_ (by decide)
        refine Chg.ite ?_ ?_
        · refine Chg.step (State.setSlice_chg ..) ?_ (by decide)
          exact Chg.refl _ _
        · refine Chg.step (State.dropSliceQueues_chg ..) ?_ (by decide)
          refine Chg.step (State.setSlice_chg ..) ?_ (by decide)
          exact Chg.refl _ _
      · refine Chg.ite ?_ ?_
        · refine Chg.step (State.setSlice_chg ..) ?_ (by decide)
          exact Chg.refl _ _
        · refine Chg.step (State.dropSliceQueues_chg ..) ?_ (by decide)
          refine Chg.step (State.setSlice_chg ..) ?_ (by decide)
          exact Chg.refl _ _
  · refine Chg.step (State.unlisted_chg ..) ?_ (by decide)
    exact Chg.refl _ _

theorem execSliceDestroyComplete_chg : ∀ a0 s, ∃ t, execSliceDestroyComplete a0 s = .next t ∧ Chg 17499120754 s t := by
  intro a0 s
  unfold execSliceDestroyComplete
  try dsimp only
  refine ⟨_, rfl, ?_⟩
  refine Chg.when ?_ ?_
  · refine Chg.step (State.setCredit_chg ..) ?_ (by decide)
    refine Chg.step (State.setCtrl_chg ..) ?_ (by decide)
    refine Chg.step (State.setSlice_chg ..) ?_ (by decide)
    refine Chg.step (State.recordClear_chg ..) ?_ (by decide)
    refine Chg.step (State.actionEnd_chg ..) ?_ (by decide)
    exact Chg.refl _ _
  · refine Chg.step (State.unlisted_chg ..) ?_ (by decide)
    exact Chg.refl _ _

theorem execDirtyLogPostTimer_chg : ∀ a0 a1 s, ∃ t, execDirtyLogPostTimer a0 a1 s = .next t ∧ Chg 131106 s t := by
  intro a0 a1 s
  unfold execDirtyLogPostTimer
  try dsimp only
  refine ⟨_, rfl, ?_⟩
  split
  · refine Chg.when ?_ ?_
    · refine Chg.step (State.dirtyPost_chg ..) ?_ (by decide)
      exact Chg.refl _ _
    · refine Chg.step (State.unlisted_chg ..) ?_ (by decide)
      exact Chg.refl _ _
  · refine Chg.step (State.unlisted_chg ..) ?_ (by decide)
    exact Chg.refl _ _

theorem execDirtyLogPostDone_chg : ∀ a0 a1 s, ∃ t, execDirtyLogPostDone a0 a1 s = .next t ∧ Chg 131104 s t := by
  intro a0 a1 s
  unfold execDirtyLogPostDone
  try dsimp only
  refine ⟨_, rfl, ?_⟩
  refine Chg.when ?_ ?_
  · refine Chg.u_dirty ?_ _ (by decide)
    exact Chg.refl _ _
  · refine Chg.step (State.unlisted_chg ..) ?_ (by decide)
    exact Chg.refl _ _

end Sys2Proof.Machine
end

