-- ==== Sys2Proof/Laws/ChgAdminSlice.lean ====
section
/-! SUPPORT. What the operations of Machine/AdminSlice.lean may change: one lemma for each. -/

set_option linter.all false

namespace Sys2Proof.Machine

theorem State.sliceCommit_chg : ∀ s a1 a2 a3 a4, Chg 137757729792 s (State.sliceCommit s a1 a2 a3 a4) := by
  intro s a1 a2 a3 a4
  unfold State.sliceCommit
  try dsimp only
  refine Chg.ite ?_ ?_
  · refine Chg.step (State.commitTag_chg ..) ?_ (by decide)
    exact Chg.refl _ _
  · split
    · refine Chg.step (State.setTag_chg ..) ?_ (by decide)
      refine Chg.step (Chg.fst ‹State.commitRec _ _ _ _ _ _ = _› (State.commitRec_chg ..)) ?_ (by decide)
      refine Chg.step (State.shadowWrite_chg ..) ?_ (by decide)
      exact Chg.refl _ _
    · refine Chg.step (State.commitTag_chg ..) ?_ (by decide)
      refine Chg.step (Chg.fst ‹State.commitRec _ _ _ _ _ _ = _› (State.commitRec_chg ..)) ?_ (by decide)
      refine Chg.step (State.shadowWrite_chg ..) ?_ (by decide)
      exact Chg.refl _ _

theorem State.sliceCommand_chg : ∀ s a1 a2 a3 a4 a5, Chg 137757729792 s (State.sliceCommand s a1 a2 a3 a4 a5) := by
  intro s a1 a2 a3 a4 a5
  unfold State.sliceCommand
  try dsimp only
  split
  · refine Chg.step (State.commitTag_chg ..) ?_ (by decide)
    exact Chg.refl _ _
  · split
    · refine Chg.step (State.commitTag_chg ..) ?_ (by decide)
      exact Chg.refl _ _
    · refine Chg.step (State.sliceCommit_chg ..) ?_ (by decide)
      exact Chg.refl _ _

theorem execSliceCreate_chg : ∀ a0 a1 s, ∃ t, execSliceCreate a0 a1 s = .next t ∧ Chg 137757729824 s t := by
  intro a0 a1 s
  unfold execSliceCreate
  try dsimp only
  refine ⟨_, rfl, ?_⟩
  refine Chg.when ?_ ?_
  · split
    · refine Chg.step (State.commitTag_chg ..) ?_ (by decide)
      refine Chg.step (State.setResult_chg ..) ?_ (by decide)
      exact Chg.refl _ _
    · refine Chg.step (State.sliceCommand_chg ..) ?_ (by decide)
      exact Chg.refl _ _
  · refine Chg.step (State.unlisted_chg ..) ?_ (by decide)
    exact Chg.refl _ _

theorem execSliceBind_chg : ∀ a0 a1 s, ∃ t, execSliceBind a0 a1 s = .next t ∧ Chg 137757729824 s t := by
  intro a0 a1 s
  unfold execSliceBind
  try dsimp only
  refine ⟨_, rfl, ?_⟩
  refine Chg.when ?_ ?_
  · refine Chg.step (State.sliceCommand_chg ..) ?_ (by decide)
    exact Chg.refl _ _
  · refine Chg.step (State.unlisted_chg ..) ?_ (by decide)
    exact Chg.refl _ _

theorem execSliceUnbind_chg : ∀ a0 s, ∃ t, execSliceUnbind a0 s = .next t ∧ Chg 137757729824 s t := by
  intro a0 s
  unfold execSliceUnbind
  try dsimp only
  refine ⟨_, rfl, ?_⟩
  refine Chg.when ?_ ?_
  · refine Chg.step (State.sliceCommit_chg ..) ?_ (by decide)
    exact Chg.refl _ _
  · refine Chg.step (State.unlisted_chg ..) ?_ (by decide)
    exact Chg.refl _ _

theorem execSliceReset_chg : ∀ a0 s, ∃ t, execSliceReset a0 s = .next t ∧ Chg 137757729824 s t := by
  intro a0 s
  unfold execSliceReset
  try dsimp only
  refine ⟨_, rfl, ?_⟩
  refine Chg.when ?_ ?_
  · refine Chg.step (State.sliceCommit_chg ..) ?_ (by decide)
    exact Chg.refl _ _
  · refine Chg.step (State.unlisted_chg ..) ?_ (by decide)
    exact Chg.refl _ _

theorem execSliceDestroy_chg : ∀ a0 s, ∃ t, execSliceDestroy a0 s = .next t ∧ Chg 137757729824 s t := by
  intro a0 s
  unfold execSliceDestroy
  try dsimp only
  refine ⟨_, rfl, ?_⟩
  refine Chg.when ?_ ?_
  · refine Chg.step (State.sliceCommit_chg ..) ?_ (by decide)
    exact Chg.refl _ _
  · refine Chg.step (State.unlisted_chg ..) ?_ (by decide)
    exact Chg.refl _ _

theorem execDirtyLogControl_chg : ∀ a0 a1 s, ∃ t, execDirtyLogControl a0 a1 s = .next t ∧ Chg 137757729824 s t := by
  intro a0 a1 s
  unfold execDirtyLogControl
  try dsimp only
  refine ⟨_, rfl, ?_⟩
  refine Chg.when ?_ ?_
  · refine Chg.step (State.sliceCommand_chg ..) ?_ (by decide)
    exact Chg.refl _ _
  · refine Chg.step (State.unlisted_chg ..) ?_ (by decide)
    exact Chg.refl _ _

theorem State.dlogFlush_chg : ∀ s a1, Chg 196610 s (State.dlogFlush s a1) := by
  intro s a1
  unfold State.dlogFlush
  try dsimp only
  refine Chg.step (State.setSlice_chg ..) ?_ (by decide)
  refine Chg.step (State.dlogClose_chg ..) ?_ (by decide)
  refine Chg.step (State.setSlice_chg ..) ?_ (by decide)
  refine Chg.step (State.dirtyPostAll_chg ..) ?_ (by decide)
  exact Chg.refl _ _

theorem execDirtyLogFlush_chg : ∀ a0 s, ∃ t, execDirtyLogFlush a0 s = .next t ∧ Chg 318971938 s t := by
  intro a0 s
  unfold execDirtyLogFlush
  try dsimp only
  refine ⟨_, rfl, ?_⟩
  refine Chg.when ?_ ?_
  · refine Chg.ite ?_ ?_
    · refine Chg.step (State.commitTag_chg ..) ?_ (by decide)
      exact Chg.refl _ _
    · refine Chg.ite ?_ ?_
      · refine Chg.step (State.commitTag_chg ..) ?_ (by decide)
        exact Chg.refl _ _
      · refine Chg.step (State.succeed_chg ..) ?_ (by decide)
        refine Chg.step (State.dlogFlush_chg ..) ?_ (by decide)
        exact Chg.refl _ _
  · refine Chg.step (State.unlisted_chg ..) ?_ (by decide)
    exact Chg.refl _ _

end Sys2Proof.Machine
end

