-- ==== Sys2Proof/Laws/ChgDictCmds.lean ====
section
/-! SUPPORT. What the operations of Machine/DictCmds.lean may change: one lemma for each. -/

set_option linter.all false

namespace Sys2Proof.Machine

theorem State.actWrite_chg : ∀ s a1 a2 a3, Chg 273804165118 s (State.actWrite s a1 a2 a3).1 := by
  intro s a1 a2 a3
  unfold State.actWrite
  try dsimp only
  split
  · refine Chg.fstIte ?_ ?_
    · dsimp only
      refine Chg.forEach ?_ ?_
      · intro _ _
        refine Chg.step (State.answer_chg ..) ?_ (by decide)
        exact Chg.refl _ _
      · refine Chg.u_mode ?_ _ (by decide)
        refine Chg.step (State.maintRequest_chg ..) ?_ (by decide)
        exact Chg.refl _ _
    · refine Chg.step (State.maintRequest_chg ..) ?_ (by decide)
      exact Chg.refl _ _
  · dsimp only
    refine Chg.u_ras ?_ _ (by decide)
    exact Chg.refl _ _
  · dsimp only
    refine Chg.step (State.timeSet_chg ..) ?_ (by decide)
    exact Chg.refl _ _
  · dsimp only
    refine Chg.u_sec ?_ _ ?_ (by decide)
    · exact Chg.refl _ _
    · exact List.prefix_rfl
  · dsimp only
    refine Chg.ite ?_ ?_
    · exact Chg.refl _ _
    · refine Chg.step (State.retrainAsk_chg ..) ?_ (by decide)
      exact Chg.refl _ _

theorem State.writeFields_chg : ∀ s a1 a2 a3 a4 a5, Chg 273804165118 s (State.writeFields s a1 a2 a3 a4 a5).1 := by
  intro s a1 a2 a3 a4 a5
  unfold State.writeFields
  try dsimp only
  refine Chg.fstIte ?_ ?_
  · dsimp only
    exact Chg.refl _ _
  · split
    · dsimp only
      exact Chg.refl _ _
    · refine Chg.fstIte ?_ ?_
      · dsimp only
        refine Chg.step (State.append_chg ..) ?_ (by decide)
        refine Chg.foldlFst ?_ ?_ _
        · intro _ _
          dsimp only
          refine Chg.step (State.actWrite_chg ..) ?_ (by decide)
          exact Chg.refl _ _
        · dsimp only
          refine Chg.ite ?_ ?_
          · exact Chg.refl _ _
          · refine Chg.step (State.shadowWrite_chg ..) ?_ (by decide)
            exact Chg.refl _ _
      · split
        · dsimp only
          refine Chg.foldlFst ?_ ?_ _
          · intro _ _
            dsimp only
            refine Chg.step (State.actWrite_chg ..) ?_ (by decide)
            exact Chg.refl _ _
          · dsimp only
            refine Chg.ite ?_ ?_
            · exact Chg.refl _ _
            · refine Chg.step (State.shadowWrite_chg ..) ?_ (by decide)
              exact Chg.refl _ _
        · dsimp only
          refine Chg.u_mode ?_ _ (by decide)
          refine Chg.foldlFst ?_ ?_ _
          · intro _ _
            dsimp only
            refine Chg.step (State.actWrite_chg ..) ?_ (by decide)
            exact Chg.refl _ _
          · dsimp only
            refine Chg.ite ?_ ?_
            · exact Chg.refl _ _
            · refine Chg.step (State.shadowWrite_chg ..) ?_ (by decide)
              exact Chg.refl _ _

theorem State.commitOp_chg : ∀ s a1 a2 a3 a4 a5, Chg 137438954496 s (State.commitOp s a1 a2 a3 a4 a5).1 := by
  intro s a1 a2 a3 a4 a5
  unfold State.commitOp
  try dsimp only
  split
  · dsimp only
    refine Chg.step (State.setNamed_chg ..) ?_ (by decide)
    exact Chg.refl _ _
  · refine Chg.fstIte ?_ ?_
    · dsimp only
      refine Chg.step (State.setNamed_chg ..) ?_ (by decide)
      exact Chg.refl _ _
    · refine Chg.fstIte ?_ ?_
      · dsimp only
        refine Chg.step (State.setNamed_chg ..) ?_ (by decide)
        exact Chg.refl _ _
      · split
        · dsimp only
          refine Chg.step (Chg.fst ‹State.commitRec _ _ _ _ _ _ = _› (State.commitRec_chg ..)) ?_ (by decide)
          refine Chg.step (State.setNamed_chg ..) ?_ (by decide)
          exact Chg.refl _ _
        · dsimp only
          refine Chg.step (Chg.fst ‹State.commitRec _ _ _ _ _ _ = _› (State.commitRec_chg ..)) ?_ (by decide)
          refine Chg.step (State.setNamed_chg ..) ?_ (by decide)
          exact Chg.refl _ _

theorem State.discardOp_chg : ∀ s a1 a2, Chg 1024 s (State.discardOp s a1 a2).1 := by
  intro s a1 a2
  unfold State.discardOp
  try dsimp only
  split
  · dsimp only
    exact Chg.refl _ _
  · split
    · dsimp only
      exact Chg.refl _ _
    · refine Chg.fstIte ?_ ?_
      · dsimp only
        exact Chg.refl _ _
      · dsimp only
        refine Chg.step (State.dropShadow_chg ..) ?_ (by decide)
        exact Chg.refl _ _

theorem State.restoreOp_chg : ∀ s a1 a2 a3 a4 a5, Chg 273804165118 s (State.restoreOp s a1 a2 a3 a4 a5).1 := by
  intro s a1 a2 a3 a4 a5
  unfold State.restoreOp
  try dsimp only
  refine Chg.fstIte ?_ ?_
  · refine Chg.fstIte ?_ ?_
    · dsimp only
      exact Chg.refl _ _
    · split
      · dsimp only
        exact Chg.refl _ _
      · dsimp only
        refine Chg.step (State.append_chg ..) ?_ (by decide)
        exact Chg.refl _ _
  · split
    · dsimp only
      exact Chg.refl _ _
    · refine Chg.fstIte ?_ ?_
      · dsimp only
        exact Chg.refl _ _
      · refine Chg.fstIte ?_ ?_
        · dsimp only
          exact Chg.refl _ _
        · refine Chg.fstIte ?_ ?_
          · refine Chg.step (State.writeFields_chg ..) ?_ (by decide)
            exact Chg.refl _ _
          · refine Chg.fstIte ?_ ?_
            · dsimp only
              exact Chg.refl _ _
            · split
              · dsimp only
                refine Chg.step (Chg.fst ‹State.commitRec _ _ _ _ _ _ = _› (State.commitRec_chg ..)) ?_ (by decide)
                refine Chg.step (State.shadowWrite_chg ..) ?_ (by decide)
                exact Chg.refl _ _
              · dsimp only
                refine Chg.ite ?_ ?_
                · refine Chg.step (Chg.fst ‹State.commitRec _ _ _ _ _ _ = _› (State.commitRec_chg ..)) ?_ (by decide)
                  refine Chg.step (State.shadowWrite_chg ..) ?_ (by decide)
                  exact Chg.refl _ _
                · refine Chg.step (State.append_chg ..) ?_ (by decide)
                  refine Chg.step (Chg.fst ‹State.commitRec _ _ _ _ _ _ = _› (State.commitRec_chg ..)) ?_ (by decide)
                  refine Chg.step (State.shadowWrite_chg ..) ?_ (by decide)
                  exact Chg.refl _ _

theorem State.writeValue_chg : ∀ s a1 a2 a3 a4 a5 a6, Chg 273804165118 s (State.writeValue s a1 a2 a3 a4 a5 a6).1 := by
  intro s a1 a2 a3 a4 a5 a6
  unfold State.writeValue
  try dsimp only
  split
  · dsimp only
    exact Chg.refl _ _
  · refine Chg.fstIte ?_ ?_
    · dsimp only
      exact Chg.refl _ _
    · refine Chg.fstIte ?_ ?_
      · split
        · refine Chg.step (State.commitOp_chg ..) ?_ (by decide)
          exact Chg.refl _ _
        · refine Chg.step (State.discardOp_chg ..) ?_ (by decide)
          exact Chg.refl _ _
        · refine Chg.step (State.restoreOp_chg ..) ?_ (by decide)
          exact Chg.refl _ _
      · refine Chg.step (State.writeFields_chg ..) ?_ (by decide)
        exact Chg.refl _ _

theorem State.writeOp_chg : ∀ s a1 a2 a3 a4, Chg 273804165118 s (State.writeOp s a1 a2 a3 a4).1 := by
  intro s a1 a2 a3 a4
  unfold State.writeOp
  try dsimp only
  split
  · dsimp only
    exact Chg.refl _ _
  · refine Chg.fstIte ?_ ?_
    · dsimp only
      exact Chg.refl _ _
    · split
      · dsimp only
        exact Chg.refl _ _
      · refine Chg.fstIte ?_ ?_
        · dsimp only
          exact Chg.refl _ _
        · refine Chg.fstIte ?_ ?_
          · dsimp only
            exact Chg.refl _ _
          · refine Chg.fstIte ?_ ?_
            · refine Chg.step (State.writeValue_chg ..) ?_ (by decide)
              exact Chg.refl _ _
            · refine Chg.fstIte ?_ ?_
              · dsimp only
                exact Chg.refl _ _
              · split
                · dsimp only
                  refine Chg.step (Chg.fst ‹State.segment _ _ _ = _› (State.segment_chg ..)) ?_ (by decide)
                  exact Chg.refl _ _
                · dsimp only
                  refine Chg.step (Chg.fst ‹State.segment _ _ _ = _› (State.segment_chg ..)) ?_ (by decide)
                  exact Chg.refl _ _
                · refine Chg.step (State.writeValue_chg ..) ?_ (by decide)
                  refine Chg.step (Chg.fst ‹State.segment _ _ _ = _› (State.segment_chg ..)) ?_ (by decide)
                  exact Chg.refl _ _

theorem State.writeRecordOp_chg : ∀ s a1 a2 a3 a4, Chg 273804165118 s (State.writeRecordOp s a1 a2 a3 a4).1 := by
  intro s a1 a2 a3 a4
  unfold State.writeRecordOp
  try dsimp only
  split
  · dsimp only
    exact Chg.refl _ _
  · refine Chg.fstIte ?_ ?_
    · dsimp only
      exact Chg.refl _ _
    · refine Chg.fstIte ?_ ?_
      · dsimp only
        exact Chg.refl _ _
      · split
        · dsimp only
          refine Chg.step (Chg.fst ‹State.segment _ _ _ = _› (State.segment_chg ..)) ?_ (by decide)
          exact Chg.refl _ _
        · dsimp only
          refine Chg.step (Chg.fst ‹State.segment _ _ _ = _› (State.segment_chg ..)) ?_ (by decide)
          exact Chg.refl _ _
        · split
          · dsimp only
            refine Chg.step (Chg.fst ‹State.segment _ _ _ = _› (State.segment_chg ..)) ?_ (by decide)
            exact Chg.refl _ _
          · refine Chg.step (State.writeFields_chg ..) ?_ (by decide)
            refine Chg.step (Chg.fst ‹State.segment _ _ _ = _› (State.segment_chg ..)) ?_ (by decide)
            exact Chg.refl _ _

theorem State.perform_chg : ∀ s a1 a2 a3, Chg 273804165118 s (State.perform s a1 a2 a3).1 := by
  intro s a1 a2 a3
  unfold State.perform
  try dsimp only
  refine Chg.fstIte ?_ ?_
  · dsimp only
    exact Chg.refl _ _
  · split
    · dsimp only
      exact Chg.refl _ _
    · refine Chg.step (State.writeOp_chg ..) ?_ (by decide)
      exact Chg.refl _ _
    · dsimp only
      exact Chg.refl _ _
    · refine Chg.step (State.writeRecordOp_chg ..) ?_ (by decide)
      exact Chg.refl _ _
    · dsimp only
      exact Chg.refl _ _

theorem State.arrive_chg : ∀ s a1, Chg 68719476752 s (State.arrive s a1) := by
  intro s a1
  unfold State.arrive
  try dsimp only
  split
  · refine Chg.u_regs ?_ _ ?_ (by decide)
    · exact Chg.refl _ _
    · exact fun w => w
  · refine Chg.step (State.sessionSet_chg ..) ?_ (by decide)
    exact Chg.refl _ _
  · refine Chg.step (State.sessionSet_chg ..) ?_ (by decide)
    exact Chg.refl _ _
  · exact Chg.refl _ _

theorem State.hold_chg : ∀ s a1, Chg 8192 s (State.hold s a1) := by
  intro s a1
  unfold State.hold
  try dsimp only
  split
  · refine Chg.step (State.setTag_chg ..) ?_ (by decide)
    exact Chg.refl _ _
  · exact Chg.refl _ _

theorem State.serve_chg : ∀ s a1 a2, Chg 273804165118 s (State.serve s a1 a2) := by
  intro s a1 a2
  unfold State.serve
  try dsimp only
  refine Chg.ite ?_ ?_
  · refine Chg.u_ras ?_ _ (by decide)
    exact Chg.refl _ _
  · split
    · refine Chg.step (State.emit_chg ..) ?_ (by decide)
      refine Chg.step (State.arrive_chg ..) ?_ (by decide)
      exact Chg.refl _ _
    · split
      · refine Chg.step (State.answer_chg ..) ?_ (by decide)
        refine Chg.step (Chg.fst ‹State.perform _ _ _ _ = _› (State.perform_chg ..)) ?_ (by decide)
        refine Chg.step (State.arrive_chg ..) ?_ (by decide)
        exact Chg.refl _ _
      · refine Chg.step (State.hold_chg ..) ?_ (by decide)
        refine Chg.step (Chg.fst ‹State.perform _ _ _ _ = _› (State.perform_chg ..)) ?_ (by decide)
        refine Chg.step (State.arrive_chg ..) ?_ (by decide)
        exact Chg.refl _ _

theorem State.badFrame_chg : ∀ s a1 a2, Chg 69038449778 s (State.badFrame s a1 a2) := by
  intro s a1 a2
  unfold State.badFrame
  try dsimp only
  refine Chg.ite ?_ ?_
  · refine Chg.u_ras ?_ _ (by decide)
    exact Chg.refl _ _
  · refine Chg.step (State.answer_chg ..) ?_ (by decide)
    refine Chg.step (State.arrive_chg ..) ?_ (by decide)
    exact Chg.refl _ _

theorem State.serveOp_chg : ∀ s a1 a2 a3, Chg 273804165118 s (State.serveOp s a1 a2 a3) := by
  intro s a1 a2 a3
  unfold State.serveOp
  try dsimp only
  refine Chg.when ?_ ?_
  · refine Chg.step (State.serve_chg ..) ?_ (by decide)
    exact Chg.refl _ _
  · refine Chg.step (State.unlisted_chg ..) ?_ (by decide)
    exact Chg.refl _ _

theorem execReadEntry_chg : ∀ a0 a1 s, ∃ t, execReadEntry a0 a1 s = .next t ∧ Chg 273804165118 s t := by
  intro a0 a1 s
  unfold execReadEntry
  try dsimp only
  refine ⟨_, rfl, ?_⟩
  refine Chg.step (State.serveOp_chg ..) ?_ (by decide)
  exact Chg.refl _ _

theorem execWriteEntry_chg : ∀ a0 a1 s, ∃ t, execWriteEntry a0 a1 s = .next t ∧ Chg 273804165118 s t := by
  intro a0 a1 s
  unfold execWriteEntry
  try dsimp only
  refine ⟨_, rfl, ?_⟩
  refine Chg.step (State.serveOp_chg ..) ?_ (by decide)
  exact Chg.refl _ _

theorem execReadWholeRecord_chg : ∀ a0 a1 s, ∃ t, execReadWholeRecord a0 a1 s = .next t ∧ Chg 273804165118 s t := by
  intro a0 a1 s
  unfold execReadWholeRecord
  try dsimp only
  refine ⟨_, rfl, ?_⟩
  refine Chg.step (State.serveOp_chg ..) ?_ (by decide)
  exact Chg.refl _ _

theorem execWriteWholeRecord_chg : ∀ a0 a1 s, ∃ t, execWriteWholeRecord a0 a1 s = .next t ∧ Chg 273804165118 s t := by
  intro a0 a1 s
  unfold execWriteWholeRecord
  try dsimp only
  refine ⟨_, rfl, ?_⟩
  refine Chg.step (State.serveOp_chg ..) ?_ (by decide)
  exact Chg.refl _ _

theorem execNextIndex_chg : ∀ a0 a1 s, ∃ t, execNextIndex a0 a1 s = .next t ∧ Chg 273804165118 s t := by
  intro a0 a1 s
  unfold execNextIndex
  try dsimp only
  refine ⟨_, rfl, ?_⟩
  refine Chg.step (State.serveOp_chg ..) ?_ (by decide)
  exact Chg.refl _ _

theorem State.serveWrite_chg : ∀ s a1 a2 a3 a4 a5 a6, Chg 273804165118 s (State.serveWrite s a1 a2 a3 a4 a5 a6) := by
  intro s a1 a2 a3 a4 a5 a6
  unfold State.serveWrite
  try dsimp only
  refine Chg.when ?_ ?_
  · refine Chg.step (State.serve_chg ..) ?_ (by decide)
    exact Chg.refl _ _
  · refine Chg.step (State.unlisted_chg ..) ?_ (by decide)
    exact Chg.refl _ _

theorem execCommitIndex_chg : ∀ a0 a1 s, ∃ t, execCommitIndex a0 a1 s = .next t ∧ Chg 273804165118 s t := by
  intro a0 a1 s
  unfold execCommitIndex
  try dsimp only
  refine ⟨_, rfl, ?_⟩
  refine Chg.step (State.serveWrite_chg ..) ?_ (by decide)
  exact Chg.refl _ _

theorem execDiscardIndex_chg : ∀ a0 a1 s, ∃ t, execDiscardIndex a0 a1 s = .next t ∧ Chg 273804165118 s t := by
  intro a0 a1 s
  unfold execDiscardIndex
  try dsimp only
  refine ⟨_, rfl, ?_⟩
  refine Chg.step (State.serveWrite_chg ..) ?_ (by decide)
  exact Chg.refl _ _

theorem execRestoreIndex_chg : ∀ a0 a1 s, ∃ t, execRestoreIndex a0 a1 s = .next t ∧ Chg 273804165118 s t := by
  intro a0 a1 s
  unfold execRestoreIndex
  try dsimp only
  refine ⟨_, rfl, ?_⟩
  refine Chg.step (State.serveWrite_chg ..) ?_ (by decide)
  exact Chg.refl _ _

theorem execMaintRequest_chg : ∀ a0 a1 s, ∃ t, execMaintRequest a0 a1 s = .next t ∧ Chg 273804165118 s t := by
  intro a0 a1 s
  unfold execMaintRequest
  try dsimp only
  refine ⟨_, rfl, ?_⟩
  refine Chg.step (State.serveWrite_chg ..) ?_ (by decide)
  exact Chg.refl _ _

theorem execWriteProtect_chg : ∀ a0 a1 s, ∃ t, execWriteProtect a0 a1 s = .next t ∧ Chg 273804165118 s t := by
  intro a0 a1 s
  unfold execWriteProtect
  try dsimp only
  refine ⟨_, rfl, ?_⟩
  refine Chg.step (State.serveWrite_chg ..) ?_ (by decide)
  exact Chg.refl _ _

theorem execAckSeq_chg : ∀ a0 a1 s, ∃ t, execAckSeq a0 a1 s = .next t ∧ Chg 273804165118 s t := by
  intro a0 a1 s
  unfold execAckSeq
  try dsimp only
  refine ⟨_, rfl, ?_⟩
  refine Chg.step (State.serveWrite_chg ..) ?_ (by decide)
  exact Chg.refl _ _

theorem execTimeNs_chg : ∀ a0 a1 s, ∃ t, execTimeNs a0 a1 s = .next t ∧ Chg 273804165118 s t := by
  intro a0 a1 s
  unfold execTimeNs
  try dsimp only
  refine ⟨_, rfl, ?_⟩
  refine Chg.step (State.serveWrite_chg ..) ?_ (by decide)
  exact Chg.refl _ _

theorem execMinSvn_chg : ∀ a0 a1 s, ∃ t, execMinSvn a0 a1 s = .next t ∧ Chg 273804165118 s t := by
  intro a0 a1 s
  unfold execMinSvn
  try dsimp only
  refine ⟨_, rfl, ?_⟩
  refine Chg.step (State.serveWrite_chg ..) ?_ (by decide)
  exact Chg.refl _ _

theorem State.serveBytes_chg : ∀ s a1 a2 a3, Chg 273804165118 s (State.serveBytes s a1 a2 a3) := by
  intro s a1 a2 a3
  unfold State.serveBytes
  try dsimp only
  split
  · refine Chg.step (State.badFrame_chg ..) ?_ (by decide)
    exact Chg.refl _ _
  · refine Chg.step (State.serve_chg ..) ?_ (by decide)
    exact Chg.refl _ _

theorem execDictionaryRead_chg : ∀ a0 s, ∃ t, execDictionaryRead a0 s = .next t ∧ Chg 273804165118 s t := by
  intro a0 s
  unfold execDictionaryRead
  try dsimp only
  refine ⟨_, rfl, ?_⟩
  refine Chg.when ?_ ?_
  · refine Chg.ite ?_ ?_
    · refine Chg.step (State.commitTag_chg ..) ?_ (by decide)
      exact Chg.refl _ _
    · refine Chg.ite ?_ ?_
      · refine Chg.step (State.badFrame_chg ..) ?_ (by decide)
        exact Chg.refl _ _
      · refine Chg.step (State.serve_chg ..) ?_ (by decide)
        exact Chg.refl _ _
  · refine Chg.step (State.unlisted_chg ..) ?_ (by decide)
    exact Chg.refl _ _

theorem execDictionaryWrite_chg : ∀ a0 a1 s, ∃ t, execDictionaryWrite a0 a1 s = .next t ∧ Chg 273804165118 s t := by
  intro a0 a1 s
  unfold execDictionaryWrite
  try dsimp only
  refine ⟨_, rfl, ?_⟩
  refine Chg.when ?_ ?_
  · refine Chg.ite ?_ ?_
    · refine Chg.step (State.commitTag_chg ..) ?_ (by decide)
      exact Chg.refl _ _
    · split
      · refine Chg.step (State.badFrame_chg ..) ?_ (by decide)
        exact Chg.refl _ _
      · refine Chg.ite ?_ ?_
        · refine Chg.step (State.serve_chg ..) ?_ (by decide)
          exact Chg.refl _ _
        · refine Chg.step (State.badFrame_chg ..) ?_ (by decide)
          exact Chg.refl _ _
  · refine Chg.step (State.unlisted_chg ..) ?_ (by decide)
    exact Chg.refl _ _

theorem execDmbGo_chg : ∀ a0 s, ∃ t, execDmbGo a0 s = .next t ∧ Chg 273804165118 s t := by
  intro a0 s
  unfold execDmbGo
  try dsimp only
  refine ⟨_, rfl, ?_⟩
  refine Chg.when ?_ ?_
  · refine Chg.step (State.serveBytes_chg ..) ?_ (by decide)
    exact Chg.refl _ _
  · refine Chg.step (State.unlisted_chg ..) ?_ (by decide)
    exact Chg.refl _ _

theorem execDictionaryFrameMessage_chg : ∀ a0 a1 a2 s, ∃ t, execDictionaryFrameMessage a0 a1 a2 s = .next t ∧ Chg 273804165118 s t := by
  intro a0 a1 a2 s
  unfold execDictionaryFrameMessage
  try dsimp only
  refine ⟨_, rfl, ?_⟩
  refine Chg.when ?_ ?_
  · refine Chg.step (State.serveBytes_chg ..) ?_ (by decide)
    exact Chg.refl _ _
  · refine Chg.step (State.unlisted_chg ..) ?_ (by decide)
    exact Chg.refl _ _

theorem State.relay_chg : ∀ s a1 a2, ∃ t, State.relay s a1 a2 = .next t ∧ Chg 68719477810 s t := by
  intro s a1 a2
  unfold State.relay
  dsimp only
  split
  · exact Chg.exMono (execGetDigests_chg ..) (by decide)
  · exact Chg.exMono (execGetCertificate_chg ..) (by decide)
  · exact Chg.exMono (execChallenge_chg ..) (by decide)
  · exact Chg.exMono (execGetVersion_chg ..) (by decide)
  · exact Chg.exMono (execGetMeasurements_chg ..) (by decide)
  · exact Chg.exMono (execGetCapabilities_chg ..) (by decide)
  · exact Chg.exMono (execNegotiateAlgorithms_chg ..) (by decide)
  · exact Chg.exMono (execKeyExchange_chg ..) (by decide)
  · exact ⟨_, rfl, Chg.refl _ _⟩
  · exact Chg.exMono (execHeartbeat_chg ..) (by decide)
  · exact Chg.exMono (execKeyUpdate_chg ..) (by decide)
  · exact Chg.exMono (execEndSession_chg ..) (by decide)
  · exact ⟨_, rfl, (State.spdmError_chg ..).mono (by decide)⟩

theorem execSpdmRelay_chg : ∀ a0 a1 s, ∃ t, execSpdmRelay a0 a1 s = .next t ∧ Chg 68719477810 s t := by
  intro a0 a1 s
  unfold execSpdmRelay
  split
  · exact Chg.exMono (State.relay_chg ..) (by decide)
  · exact ⟨_, rfl, (State.unlisted_chg ..).mono (by decide)⟩

theorem State.bdpAdmit_chg : ∀ s a1, Chg 68719476736 s (State.bdpAdmit s a1).1 := by
  intro s a1
  unfold State.bdpAdmit
  refine Chg.fstIte ?_ ?_
  · exact Chg.u_mgmt (Chg.refl _ _) _ (by decide)
  · exact Chg.u_mgmt (Chg.refl _ _) _ (by decide)

theorem execBdpDatagram_chg : ∀ a0 a1 a2 a3 s, ∃ t, execBdpDatagram a0 a1 a2 a3 s = .next t ∧ Chg 273804165118 s t := by
  intro a0 a1 a2 a3 s
  have h : Chg 273804165118 s (s.bdpAdmit a0).1 := (State.bdpAdmit_chg ..).mono (by decide)
  unfold execBdpDatagram
  dsimp only
  split
  · exact ⟨_, rfl, (State.unlisted_chg ..).mono (by decide)⟩
  split
  · exact ⟨_, rfl, Chg.refl _ _⟩
  split
  · exact ⟨_, rfl, h⟩
  split
  · exact ⟨_, rfl, Chg.step (State.badFrame_chg ..) h (by decide)⟩
  · split
    · exact Chg.exStep (State.relay_chg ..) h (by decide)
    · exact ⟨_, rfl, Chg.step (State.serve_chg ..) h (by decide)⟩

theorem execCommitBoundary_chg : ∀ a0 s, ∃ t, execCommitBoundary a0 s = .next t ∧ Chg 17498842226 s t := by
  intro a0 s
  unfold execCommitBoundary
  try dsimp only
  refine ⟨_, rfl, ?_⟩
  refine Chg.when ?_ ?_
  · refine Chg.step (State.boundary_chg ..) ?_ (by decide)
    exact Chg.refl _ _
  · refine Chg.step (State.unlisted_chg ..) ?_ (by decide)
    exact Chg.refl _ _

theorem execCommitResponseTimeout_chg : ∀ a0 s, ∃ t, execCommitResponseTimeout a0 s = .next t ∧ Chg 318973042 s t := by
  intro a0 s
  unfold execCommitResponseTimeout
  try dsimp only
  refine ⟨_, rfl, ?_⟩
  refine Chg.when ?_ ?_
  · refine Chg.forEach ?_ ?_
    · intro _ _
      split
      · refine Chg.ite ?_ ?_
        · refine Chg.step (State.setResult_chg ..) ?_ (by decide)
          exact Chg.refl _ _
        · refine Chg.step (State.answer_chg ..) ?_ (by decide)
          refine Chg.step (State.setResult_chg ..) ?_ (by decide)
          exact Chg.refl _ _
      · refine Chg.step (State.setResult_chg ..) ?_ (by decide)
        exact Chg.refl _ _
    · refine Chg.u_dict ?_ _ (by decide)
      exact Chg.refl _ _
  · refine Chg.step (State.unlisted_chg ..) ?_ (by decide)
    exact Chg.refl _ _

theorem execShadowTimeout_chg : ∀ a0 s, ∃ t, execShadowTimeout a0 s = .next t ∧ Chg 1056 s t := by
  intro a0 s
  unfold execShadowTimeout
  try dsimp only
  refine ⟨_, rfl, ?_⟩
  refine Chg.when ?_ ?_
  · refine Chg.u_dict ?_ _ (by decide)
    refine Chg.step (State.dropShadow_chg ..) ?_ (by decide)
    exact Chg.refl _ _
  · refine Chg.step (State.unlisted_chg ..) ?_ (by decide)
    exact Chg.refl _ _

theorem execStagingTimeout_chg : ∀ s, ∃ t, execStagingTimeout s = .next t ∧ Chg 1056 s t := by
  intro s
  unfold execStagingTimeout
  try dsimp only
  refine ⟨_, rfl, ?_⟩
  refine Chg.when ?_ ?_
  · refine Chg.u_dict ?_ _ (by decide)
    exact Chg.refl _ _
  · refine Chg.step (State.unlisted_chg ..) ?_ (by decide)
    exact Chg.refl _ _

theorem State.norError_chg : ∀ s, Chg 68719477938 s (State.norError s) := by
  intro s
  unfold State.norError
  try dsimp only
  refine Chg.step (State.rasReport_chg ..) ?_ (by decide)
  refine Chg.u_dict ?_ _ (by decide)
  exact Chg.refl _ _

theorem State.liveFields_chg : ∀ s a1, Chg 17180075074 s (State.liveFields s a1) := by
  intro s a1
  unfold State.liveFields
  try dsimp only
  refine Chg.foldl ?_ ?_ _
  · intro _ _
    refine Chg.step (State.inForceHook_chg ..) ?_ (by decide)
    refine Chg.step (State.forceFields_chg ..) ?_ (by decide)
    exact Chg.refl _ _
  · exact Chg.refl _ _

theorem State.appendDone_chg : ∀ s a1, Chg 224194143314 s (State.appendDone s a1) := by
  intro s a1
  unfold State.appendDone
  try dsimp only
  refine Chg.ite ?_ ?_
  · refine Chg.u_dict ?_ _ (by decide)
    refine Chg.ite ?_ ?_
    · refine Chg.step (State.commitDurable_chg ..) ?_ (by decide)
      refine Chg.step (State.logDurable_chg ..) ?_ (by decide)
      exact Chg.refl _ _
    · refine Chg.step (State.answerOp_chg ..) ?_ (by decide)
      refine Chg.step (State.liveFields_chg ..) ?_ (by decide)
      refine Chg.step (State.logDurable_chg ..) ?_ (by decide)
      exact Chg.refl _ _
  · refine Chg.ite ?_ ?_
    · refine Chg.step (State.commitDurable_chg ..) ?_ (by decide)
      refine Chg.step (State.logDurable_chg ..) ?_ (by decide)
      exact Chg.refl _ _
    · refine Chg.step (State.answerOp_chg ..) ?_ (by decide)
      refine Chg.step (State.liveFields_chg ..) ?_ (by decide)
      refine Chg.step (State.logDurable_chg ..) ?_ (by decide)
      exact Chg.refl _ _

theorem State.appendFail_chg : ∀ s a1, Chg 206477403378 s (State.appendFail s a1) := by
  intro s a1
  unfold State.appendFail
  try dsimp only
  refine Chg.forEach ?_ ?_
  · intro _ _
    refine Chg.step (State.answerOp_chg ..) ?_ (by decide)
    exact Chg.refl _ _
  · refine Chg.u_dict_sec ?_ _ _ ?_ (by decide)
    · refine Chg.step (State.norError_chg ..) ?_ (by decide)
      refine Chg.step (State.setActiveCopy_chg ..) ?_ (by decide)
      exact Chg.refl _ _
    · exact List.prefix_rfl

theorem execLogRecordDurable_chg : ∀ a0 s, ∃ t, execLogRecordDurable a0 s = .next t ∧ Chg 224194143474 s t := by
  intro a0 s
  unfold execLogRecordDurable
  try dsimp only
  refine ⟨_, rfl, ?_⟩
  split
  · refine Chg.step (State.unlisted_chg ..) ?_ (by decide)
    exact Chg.refl _ _
  · refine Chg.ite ?_ ?_
    · refine Chg.step (State.appendDone_chg ..) ?_ (by decide)
      refine Chg.u_dict ?_ _ (by decide)
      exact Chg.refl _ _
    · refine Chg.step (State.appendFail_chg ..) ?_ (by decide)
      refine Chg.u_dict ?_ _ (by decide)
      exact Chg.refl _ _

theorem execTokenRefill_chg : ∀ s, ∃ t, execTokenRefill s = .next t ∧ Chg 1056 s t := by
  intro s
  unfold execTokenRefill
  try dsimp only
  refine ⟨_, rfl, ?_⟩
  refine Chg.when ?_ ?_
  · refine Chg.u_dict ?_ _ (by decide)
    exact Chg.refl _ _
  · refine Chg.step (State.unlisted_chg ..) ?_ (by decide)
    exact Chg.refl _ _

theorem execCompactionTimer_chg : ∀ s, ∃ t, execCompactionTimer s = .next t ∧ Chg 1056 s t := by
  intro s
  unfold execCompactionTimer
  try dsimp only
  refine ⟨_, rfl, ?_⟩
  refine Chg.when ?_ ?_
  · refine Chg.u_dict ?_ _ (by decide)
    exact Chg.refl _ _
  · refine Chg.step (State.unlisted_chg ..) ?_ (by decide)
    exact Chg.refl _ _

theorem State.compacted_chg : ∀ s, Chg 1024 s (State.compacted s) := by
  intro s
  unfold State.compacted
  try dsimp only
  refine Chg.step (State.setActiveCopy_chg ..) ?_ (by decide)
  refine Chg.u_dict ?_ _ (by decide)
  exact Chg.refl _ _

theorem State.compactFail_chg : ∀ s, Chg 68719477938 s (State.compactFail s) := by
  intro s
  unfold State.compactFail
  try dsimp only
  refine Chg.step (State.norError_chg ..) ?_ (by decide)
  refine Chg.u_dict ?_ _ (by decide)
  refine Chg.ite ?_ ?_
  · refine Chg.u_dict ?_ _ (by decide)
    exact Chg.refl _ _
  · refine Chg.u_dict ?_ _ (by decide)
    exact Chg.refl _ _

theorem execCompactionComplete_chg : ∀ a0 s, ∃ t, execCompactionComplete a0 s = .next t ∧ Chg 68719477938 s t := by
  intro a0 s
  unfold execCompactionComplete
  try dsimp only
  refine ⟨_, rfl, ?_⟩
  refine Chg.when ?_ ?_
  · refine Chg.ite ?_ ?_
    · refine Chg.step (State.compacted_chg ..) ?_ (by decide)
      exact Chg.refl _ _
    · refine Chg.step (State.compactFail_chg ..) ?_ (by decide)
      exact Chg.refl _ _
  · refine Chg.step (State.unlisted_chg ..) ?_ (by decide)
    exact Chg.refl _ _

theorem execCompactionRetry_chg : ∀ s, ∃ t, execCompactionRetry s = .next t ∧ Chg 1056 s t := by
  intro s
  unfold execCompactionRetry
  try dsimp only
  refine ⟨_, rfl, ?_⟩
  refine Chg.when ?_ ?_
  · refine Chg.u_dict ?_ _ (by decide)
    exact Chg.refl _ _
  · refine Chg.step (State.unlisted_chg ..) ?_ (by decide)
    exact Chg.refl _ _

end Sys2Proof.Machine
end

