-- ==== Sys2Proof/Laws/State.lean ====
section
/-! SUPPORT. One unit of state after a write of it: the unit read back, and every other component unchanged. -/

namespace Sys2Proof.Machine

@[simp] theorem State.setPort_port (s : State) (p : Nat) (x : Port) : (s.setPort p x).port p = x := Tbl.get_set_same _ _ _ _
@[simp] theorem State.setPort_pending (s : State) (p : Nat) (x : Port) : (s.setPort p x).pending = s.pending := rfl
@[simp] theorem State.setPort_out (s : State) (p : Nat) (x : Port) : (s.setPort p x).out = s.out := rfl
@[simp] theorem State.setPort_aon (s : State) (p : Nat) (x : Port) : (s.setPort p x).aon = s.aon := rfl
@[simp] theorem State.setPort_mode (s : State) (p : Nat) (x : Port) : (s.setPort p x).mode = s.mode := rfl
@[simp] theorem State.setPort_regs (s : State) (p : Nat) (x : Port) : (s.setPort p x).regs = s.regs := rfl
@[simp] theorem State.setPort_ras (s : State) (p : Nat) (x : Port) : (s.setPort p x).ras = s.ras := rfl
@[simp] theorem State.setPort_funcs (s : State) (p : Nat) (x : Port) : (s.setPort p x).funcs = s.funcs := rfl
@[simp] theorem State.setPort_dmas (s : State) (p : Nat) (x : Port) : (s.setPort p x).dmas = s.dmas := rfl
@[simp] theorem State.setPort_dmaWait (s : State) (p : Nat) (x : Port) : (s.setPort p x).dmaWait = s.dmaWait := rfl
@[simp] theorem State.setPort_dict (s : State) (p : Nat) (x : Port) : (s.setPort p x).dict = s.dict := rfl
@[simp] theorem State.setPort_sqs (s : State) (p : Nat) (x : Port) : (s.setPort p x).sqs = s.sqs := rfl
@[simp] theorem State.setPort_cqs (s : State) (p : Nat) (x : Port) : (s.setPort p x).cqs = s.cqs := rfl
@[simp] theorem State.setPort_tags (s : State) (p : Nat) (x : Port) : (s.setPort p x).tags = s.tags := rfl
@[simp] theorem State.setPort_ctrls (s : State) (p : Nat) (x : Port) : (s.setPort p x).ctrls = s.ctrls := rfl
@[simp] theorem State.setPort_cmds (s : State) (p : Nat) (x : Port) : (s.setPort p x).cmds = s.cmds := rfl
@[simp] theorem State.setPort_slices (s : State) (p : Nat) (x : Port) : (s.setPort p x).slices = s.slices := rfl
@[simp] theorem State.setPort_dirty (s : State) (p : Nat) (x : Port) : (s.setPort p x).dirty = s.dirty := rfl
@[simp] theorem State.setPort_sched (s : State) (p : Nat) (x : Port) : (s.setPort p x).sched = s.sched := rfl
@[simp] theorem State.setPort_luns (s : State) (p : Nat) (x : Port) : (s.setPort p x).luns = s.luns := rfl
@[simp] theorem State.setPort_chans (s : State) (p : Nat) (x : Port) : (s.setPort p x).chans = s.chans := rfl
@[simp] theorem State.setPort_islands (s : State) (p : Nat) (x : Port) : (s.setPort p x).islands = s.islands := rfl
@[simp] theorem State.setPort_engines (s : State) (p : Nat) (x : Port) : (s.setPort p x).engines = s.engines := rfl
@[simp] theorem State.setPort_nss (s : State) (p : Nat) (x : Port) : (s.setPort p x).nss = s.nss := rfl
@[simp] theorem State.setPort_zones (s : State) (p : Nat) (x : Port) : (s.setPort p x).zones = s.zones := rfl
@[simp] theorem State.setPort_pool (s : State) (p : Nat) (x : Port) : (s.setPort p x).pool = s.pool := rfl
@[simp] theorem State.setPort_map (s : State) (p : Nat) (x : Port) : (s.setPort p x).map = s.map := rfl
@[simp] theorem State.setPort_jrn (s : State) (p : Nat) (x : Port) : (s.setPort p x).jrn = s.jrn := rfl
@[simp] theorem State.setPort_wbuf (s : State) (p : Nat) (x : Port) : (s.setPort p x).wbuf = s.wbuf := rfl
@[simp] theorem State.setPort_media (s : State) (p : Nat) (x : Port) : (s.setPort p x).media = s.media := rfl
@[simp] theorem State.setPort_recov (s : State) (p : Nat) (x : Port) : (s.setPort p x).recov = s.recov := rfl
@[simp] theorem State.setPort_cmp (s : State) (p : Nat) (x : Port) : (s.setPort p x).cmp = s.cmp := rfl
@[simp] theorem State.setPort_drams (s : State) (p : Nat) (x : Port) : (s.setPort p x).drams = s.drams := rfl
@[simp] theorem State.setPort_ranks (s : State) (p : Nat) (x : Port) : (s.setPort p x).ranks = s.ranks := rfl
@[simp] theorem State.setPort_chip (s : State) (p : Nat) (x : Port) : (s.setPort p x).chip = s.chip := rfl
@[simp] theorem State.setPort_thermal (s : State) (p : Nat) (x : Port) : (s.setPort p x).thermal = s.thermal := rfl
@[simp] theorem State.setPort_mgmt (s : State) (p : Nat) (x : Port) : (s.setPort p x).mgmt = s.mgmt := rfl
@[simp] theorem State.setPort_sec (s : State) (p : Nat) (x : Port) : (s.setPort p x).sec = s.sec := rfl

@[simp] theorem State.setFunc_func (s : State) (p f : Nat) (x : Func) : (s.setFunc p f x).func p f = x := Tbl.get_set_same _ _ _ _
@[simp] theorem State.setFunc_pending (s : State) (p f : Nat) (x : Func) : (s.setFunc p f x).pending = s.pending := rfl
@[simp] theorem State.setFunc_out (s : State) (p f : Nat) (x : Func) : (s.setFunc p f x).out = s.out := rfl
@[simp] theorem State.setFunc_aon (s : State) (p f : Nat) (x : Func) : (s.setFunc p f x).aon = s.aon := rfl
@[simp] theorem State.setFunc_mode (s : State) (p f : Nat) (x : Func) : (s.setFunc p f x).mode = s.mode := rfl
@[simp] theorem State.setFunc_regs (s : State) (p f : Nat) (x : Func) : (s.setFunc p f x).regs = s.regs := rfl
@[simp] theorem State.setFunc_ras (s : State) (p f : Nat) (x : Func) : (s.setFunc p f x).ras = s.ras := rfl
@[simp] theorem State.setFunc_ports (s : State) (p f : Nat) (x : Func) : (s.setFunc p f x).ports = s.ports := rfl
@[simp] theorem State.setFunc_dmas (s : State) (p f : Nat) (x : Func) : (s.setFunc p f x).dmas = s.dmas := rfl
@[simp] theorem State.setFunc_dmaWait (s : State) (p f : Nat) (x : Func) : (s.setFunc p f x).dmaWait = s.dmaWait := rfl
@[simp] theorem State.setFunc_dict (s : State) (p f : Nat) (x : Func) : (s.setFunc p f x).dict = s.dict := rfl
@[simp] theorem State.setFunc_sqs (s : State) (p f : Nat) (x : Func) : (s.setFunc p f x).sqs = s.sqs := rfl
@[simp] theorem State.setFunc_cqs (s : State) (p f : Nat) (x : Func) : (s.setFunc p f x).cqs = s.cqs := rfl
@[simp] theorem State.setFunc_tags (s : State) (p f : Nat) (x : Func) : (s.setFunc p f x).tags = s.tags := rfl
@[simp] theorem State.setFunc_ctrls (s : State) (p f : Nat) (x : Func) : (s.setFunc p f x).ctrls = s.ctrls := rfl
@[simp] theorem State.setFunc_cmds (s : State) (p f : Nat) (x : Func) : (s.setFunc p f x).cmds = s.cmds := rfl
@[simp] theorem State.setFunc_slices (s : State) (p f : Nat) (x : Func) : (s.setFunc p f x).slices = s.slices := rfl
@[simp] theorem State.setFunc_dirty (s : State) (p f : Nat) (x : Func) : (s.setFunc p f x).dirty = s.dirty := rfl
@[simp] theorem State.setFunc_sched (s : State) (p f : Nat) (x : Func) : (s.setFunc p f x).sched = s.sched := rfl
@[simp] theorem State.setFunc_luns (s : State) (p f : Nat) (x : Func) : (s.setFunc p f x).luns = s.luns := rfl
@[simp] theorem State.setFunc_chans (s : State) (p f : Nat) (x : Func) : (s.setFunc p f x).chans = s.chans := rfl
@[simp] theorem State.setFunc_islands (s : State) (p f : Nat) (x : Func) : (s.setFunc p f x).islands = s.islands := rfl
@[simp] theorem State.setFunc_engines (s : State) (p f : Nat) (x : Func) : (s.setFunc p f x).engines = s.engines := rfl
@[simp] theorem State.setFunc_nss (s : State) (p f : Nat) (x : Func) : (s.setFunc p f x).nss = s.nss := rfl
@[simp] theorem State.setFunc_zones (s : State) (p f : Nat) (x : Func) : (s.setFunc p f x).zones = s.zones := rfl
@[simp] theorem State.setFunc_pool (s : State) (p f : Nat) (x : Func) : (s.setFunc p f x).pool = s.pool := rfl
@[simp] theorem State.setFunc_map (s : State) (p f : Nat) (x : Func) : (s.setFunc p f x).map = s.map := rfl
@[simp] theorem State.setFunc_jrn (s : State) (p f : Nat) (x : Func) : (s.setFunc p f x).jrn = s.jrn := rfl
@[simp] theorem State.setFunc_wbuf (s : State) (p f : Nat) (x : Func) : (s.setFunc p f x).wbuf = s.wbuf := rfl
@[simp] theorem State.setFunc_media (s : State) (p f : Nat) (x : Func) : (s.setFunc p f x).media = s.media := rfl
@[simp] theorem State.setFunc_recov (s : State) (p f : Nat) (x : Func) : (s.setFunc p f x).recov = s.recov := rfl
@[simp] theorem State.setFunc_cmp (s : State) (p f : Nat) (x : Func) : (s.setFunc p f x).cmp = s.cmp := rfl
@[simp] theorem State.setFunc_drams (s : State) (p f : Nat) (x : Func) : (s.setFunc p f x).drams = s.drams := rfl
@[simp] theorem State.setFunc_ranks (s : State) (p f : Nat) (x : Func) : (s.setFunc p f x).ranks = s.ranks := rfl
@[simp] theorem State.setFunc_chip (s : State) (p f : Nat) (x : Func) : (s.setFunc p f x).chip = s.chip := rfl
@[simp] theorem State.setFunc_thermal (s : State) (p f : Nat) (x : Func) : (s.setFunc p f x).thermal = s.thermal := rfl
@[simp] theorem State.setFunc_mgmt (s : State) (p f : Nat) (x : Func) : (s.setFunc p f x).mgmt = s.mgmt := rfl
@[simp] theorem State.setFunc_sec (s : State) (p f : Nat) (x : Func) : (s.setFunc p f x).sec = s.sec := rfl

@[simp] theorem State.setSq_sq (s : State) (q : QKey) (x : Sq) : (s.setSq q x).sq q = x := Tbl.get_set_same _ _ _ _
@[simp] theorem State.setSq_pending (s : State) (q : QKey) (x : Sq) : (s.setSq q x).pending = s.pending := rfl
@[simp] theorem State.setSq_out (s : State) (q : QKey) (x : Sq) : (s.setSq q x).out = s.out := rfl
@[simp] theorem State.setSq_aon (s : State) (q : QKey) (x : Sq) : (s.setSq q x).aon = s.aon := rfl
@[simp] theorem State.setSq_mode (s : State) (q : QKey) (x : Sq) : (s.setSq q x).mode = s.mode := rfl
@[simp] theorem State.setSq_regs (s : State) (q : QKey) (x : Sq) : (s.setSq q x).regs = s.regs := rfl
@[simp] theorem State.setSq_ras (s : State) (q : QKey) (x : Sq) : (s.setSq q x).ras = s.ras := rfl
@[simp] theorem State.setSq_ports (s : State) (q : QKey) (x : Sq) : (s.setSq q x).ports = s.ports := rfl
@[simp] theorem State.setSq_funcs (s : State) (q : QKey) (x : Sq) : (s.setSq q x).funcs = s.funcs := rfl
@[simp] theorem State.setSq_dmas (s : State) (q : QKey) (x : Sq) : (s.setSq q x).dmas = s.dmas := rfl
@[simp] theorem State.setSq_dmaWait (s : State) (q : QKey) (x : Sq) : (s.setSq q x).dmaWait = s.dmaWait := rfl
@[simp] theorem State.setSq_dict (s : State) (q : QKey) (x : Sq) : (s.setSq q x).dict = s.dict := rfl
@[simp] theorem State.setSq_cqs (s : State) (q : QKey) (x : Sq) : (s.setSq q x).cqs = s.cqs := rfl
@[simp] theorem State.setSq_tags (s : State) (q : QKey) (x : Sq) : (s.setSq q x).tags = s.tags := rfl
@[simp] theorem State.setSq_ctrls (s : State) (q : QKey) (x : Sq) : (s.setSq q x).ctrls = s.ctrls := rfl
@[simp] theorem State.setSq_cmds (s : State) (q : QKey) (x : Sq) : (s.setSq q x).cmds = s.cmds := rfl
@[simp] theorem State.setSq_slices (s : State) (q : QKey) (x : Sq) : (s.setSq q x).slices = s.slices := rfl
@[simp] theorem State.setSq_dirty (s : State) (q : QKey) (x : Sq) : (s.setSq q x).dirty = s.dirty := rfl
@[simp] theorem State.setSq_sched (s : State) (q : QKey) (x : Sq) : (s.setSq q x).sched = s.sched := rfl
@[simp] theorem State.setSq_luns (s : State) (q : QKey) (x : Sq) : (s.setSq q x).luns = s.luns := rfl
@[simp] theorem State.setSq_chans (s : State) (q : QKey) (x : Sq) : (s.setSq q x).chans = s.chans := rfl
@[simp] theorem State.setSq_islands (s : State) (q : QKey) (x : Sq) : (s.setSq q x).islands = s.islands := rfl
@[simp] theorem State.setSq_engines (s : State) (q : QKey) (x : Sq) : (s.setSq q x).engines = s.engines := rfl
@[simp] theorem State.setSq_nss (s : State) (q : QKey) (x : Sq) : (s.setSq q x).nss = s.nss := rfl
@[simp] theorem State.setSq_zones (s : State) (q : QKey) (x : Sq) : (s.setSq q x).zones = s.zones := rfl
@[simp] theorem State.setSq_pool (s : State) (q : QKey) (x : Sq) : (s.setSq q x).pool = s.pool := rfl
@[simp] theorem State.setSq_map (s : State) (q : QKey) (x : Sq) : (s.setSq q x).map = s.map := rfl
@[simp] theorem State.setSq_jrn (s : State) (q : QKey) (x : Sq) : (s.setSq q x).jrn = s.jrn := rfl
@[simp] theorem State.setSq_wbuf (s : State) (q : QKey) (x : Sq) : (s.setSq q x).wbuf = s.wbuf := rfl
@[simp] theorem State.setSq_media (s : State) (q : QKey) (x : Sq) : (s.setSq q x).media = s.media := rfl
@[simp] theorem State.setSq_recov (s : State) (q : QKey) (x : Sq) : (s.setSq q x).recov = s.recov := rfl
@[simp] theorem State.setSq_cmp (s : State) (q : QKey) (x : Sq) : (s.setSq q x).cmp = s.cmp := rfl
@[simp] theorem State.setSq_drams (s : State) (q : QKey) (x : Sq) : (s.setSq q x).drams = s.drams := rfl
@[simp] theorem State.setSq_ranks (s : State) (q : QKey) (x : Sq) : (s.setSq q x).ranks = s.ranks := rfl
@[simp] theorem State.setSq_chip (s : State) (q : QKey) (x : Sq) : (s.setSq q x).chip = s.chip := rfl
@[simp] theorem State.setSq_thermal (s : State) (q : QKey) (x : Sq) : (s.setSq q x).thermal = s.thermal := rfl
@[simp] theorem State.setSq_mgmt (s : State) (q : QKey) (x : Sq) : (s.setSq q x).mgmt = s.mgmt := rfl
@[simp] theorem State.setSq_sec (s : State) (q : QKey) (x : Sq) : (s.setSq q x).sec = s.sec := rfl

@[simp] theorem State.setCq_cq (s : State) (q : QKey) (x : Cq) : (s.setCq q x).cq q = x := Tbl.get_set_same _ _ _ _
@[simp] theorem State.setCq_pending (s : State) (q : QKey) (x : Cq) : (s.setCq q x).pending = s.pending := rfl
@[simp] theorem State.setCq_out (s : State) (q : QKey) (x : Cq) : (s.setCq q x).out = s.out := rfl
@[simp] theorem State.setCq_aon (s : State) (q : QKey) (x : Cq) : (s.setCq q x).aon = s.aon := rfl
@[simp] theorem State.setCq_mode (s : State) (q : QKey) (x : Cq) : (s.setCq q x).mode = s.mode := rfl
@[simp] theorem State.setCq_regs (s : State) (q : QKey) (x : Cq) : (s.setCq q x).regs = s.regs := rfl
@[simp] theorem State.setCq_ras (s : State) (q : QKey) (x : Cq) : (s.setCq q x).ras = s.ras := rfl
@[simp] theorem State.setCq_ports (s : State) (q : QKey) (x : Cq) : (s.setCq q x).ports = s.ports := rfl
@[simp] theorem State.setCq_funcs (s : State) (q : QKey) (x : Cq) : (s.setCq q x).funcs = s.funcs := rfl
@[simp] theorem State.setCq_dmas (s : State) (q : QKey) (x : Cq) : (s.setCq q x).dmas = s.dmas := rfl
@[simp] theorem State.setCq_dmaWait (s : State) (q : QKey) (x : Cq) : (s.setCq q x).dmaWait = s.dmaWait := rfl
@[simp] theorem State.setCq_dict (s : State) (q : QKey) (x : Cq) : (s.setCq q x).dict = s.dict := rfl
@[simp] theorem State.setCq_sqs (s : State) (q : QKey) (x : Cq) : (s.setCq q x).sqs = s.sqs := rfl
@[simp] theorem State.setCq_tags (s : State) (q : QKey) (x : Cq) : (s.setCq q x).tags = s.tags := rfl
@[simp] theorem State.setCq_ctrls (s : State) (q : QKey) (x : Cq) : (s.setCq q x).ctrls = s.ctrls := rfl
@[simp] theorem State.setCq_cmds (s : State) (q : QKey) (x : Cq) : (s.setCq q x).cmds = s.cmds := rfl
@[simp] theorem State.setCq_slices (s : State) (q : QKey) (x : Cq) : (s.setCq q x).slices = s.slices := rfl
@[simp] theorem State.setCq_dirty (s : State) (q : QKey) (x : Cq) : (s.setCq q x).dirty = s.dirty := rfl
@[simp] theorem State.setCq_sched (s : State) (q : QKey) (x : Cq) : (s.setCq q x).sched = s.sched := rfl
@[simp] theorem State.setCq_luns (s : State) (q : QKey) (x : Cq) : (s.setCq q x).luns = s.luns := rfl
@[simp] theorem State.setCq_chans (s : State) (q : QKey) (x : Cq) : (s.setCq q x).chans = s.chans := rfl
@[simp] theorem State.setCq_islands (s : State) (q : QKey) (x : Cq) : (s.setCq q x).islands = s.islands := rfl
@[simp] theorem State.setCq_engines (s : State) (q : QKey) (x : Cq) : (s.setCq q x).engines = s.engines := rfl
@[simp] theorem State.setCq_nss (s : State) (q : QKey) (x : Cq) : (s.setCq q x).nss = s.nss := rfl
@[simp] theorem State.setCq_zones (s : State) (q : QKey) (x : Cq) : (s.setCq q x).zones = s.zones := rfl
@[simp] theorem State.setCq_pool (s : State) (q : QKey) (x : Cq) : (s.setCq q x).pool = s.pool := rfl
@[simp] theorem State.setCq_map (s : State) (q : QKey) (x : Cq) : (s.setCq q x).map = s.map := rfl
@[simp] theorem State.setCq_jrn (s : State) (q : QKey) (x : Cq) : (s.setCq q x).jrn = s.jrn := rfl
@[simp] theorem State.setCq_wbuf (s : State) (q : QKey) (x : Cq) : (s.setCq q x).wbuf = s.wbuf := rfl
@[simp] theorem State.setCq_media (s : State) (q : QKey) (x : Cq) : (s.setCq q x).media = s.media := rfl
@[simp] theorem State.setCq_recov (s : State) (q : QKey) (x : Cq) : (s.setCq q x).recov = s.recov := rfl
@[simp] theorem State.setCq_cmp (s : State) (q : QKey) (x : Cq) : (s.setCq q x).cmp = s.cmp := rfl
@[simp] theorem State.setCq_drams (s : State) (q : QKey) (x : Cq) : (s.setCq q x).drams = s.drams := rfl
@[simp] theorem State.setCq_ranks (s : State) (q : QKey) (x : Cq) : (s.setCq q x).ranks = s.ranks := rfl
@[simp] theorem State.setCq_chip (s : State) (q : QKey) (x : Cq) : (s.setCq q x).chip = s.chip := rfl
@[simp] theorem State.setCq_thermal (s : State) (q : QKey) (x : Cq) : (s.setCq q x).thermal = s.thermal := rfl
@[simp] theorem State.setCq_mgmt (s : State) (q : QKey) (x : Cq) : (s.setCq q x).mgmt = s.mgmt := rfl
@[simp] theorem State.setCq_sec (s : State) (q : QKey) (x : Cq) : (s.setCq q x).sec = s.sec := rfl

@[simp] theorem State.setTag_tag (s : State) (k : Nat) (x : Tag) : (s.setTag k x).tag k = x := Tbl.get_set_same _ _ _ _
@[simp] theorem State.setTag_pending (s : State) (k : Nat) (x : Tag) : (s.setTag k x).pending = s.pending := rfl
@[simp] theorem State.setTag_out (s : State) (k : Nat) (x : Tag) : (s.setTag k x).out = s.out := rfl
@[simp] theorem State.setTag_aon (s : State) (k : Nat) (x : Tag) : (s.setTag k x).aon = s.aon := rfl
@[simp] theorem State.setTag_mode (s : State) (k : Nat) (x : Tag) : (s.setTag k x).mode = s.mode := rfl
@[simp] theorem State.setTag_regs (s : State) (k : Nat) (x : Tag) : (s.setTag k x).regs = s.regs := rfl
@[simp] theorem State.setTag_ras (s : State) (k : Nat) (x : Tag) : (s.setTag k x).ras = s.ras := rfl
@[simp] theorem State.setTag_ports (s : State) (k : Nat) (x : Tag) : (s.setTag k x).ports = s.ports := rfl
@[simp] theorem State.setTag_funcs (s : State) (k : Nat) (x : Tag) : (s.setTag k x).funcs = s.funcs := rfl
@[simp] theorem State.setTag_dmas (s : State) (k : Nat) (x : Tag) : (s.setTag k x).dmas = s.dmas := rfl
@[simp] theorem State.setTag_dmaWait (s : State) (k : Nat) (x : Tag) : (s.setTag k x).dmaWait = s.dmaWait := rfl
@[simp] theorem State.setTag_dict (s : State) (k : Nat) (x : Tag) : (s.setTag k x).dict = s.dict := rfl
@[simp] theorem State.setTag_sqs (s : State) (k : Nat) (x : Tag) : (s.setTag k x).sqs = s.sqs := rfl
@[simp] theorem State.setTag_cqs (s : State) (k : Nat) (x : Tag) : (s.setTag k x).cqs = s.cqs := rfl
@[simp] theorem State.setTag_ctrls (s : State) (k : Nat) (x : Tag) : (s.setTag k x).ctrls = s.ctrls := rfl
@[simp] theorem State.setTag_cmds (s : State) (k : Nat) (x : Tag) : (s.setTag k x).cmds = s.cmds := rfl
@[simp] theorem State.setTag_slices (s : State) (k : Nat) (x : Tag) : (s.setTag k x).slices = s.slices := rfl
@[simp] theorem State.setTag_dirty (s : State) (k : Nat) (x : Tag) : (s.setTag k x).dirty = s.dirty := rfl
@[simp] theorem State.setTag_sched (s : State) (k : Nat) (x : Tag) : (s.setTag k x).sched = s.sched := rfl
@[simp] theorem State.setTag_luns (s : State) (k : Nat) (x : Tag) : (s.setTag k x).luns = s.luns := rfl
@[simp] theorem State.setTag_chans (s : State) (k : Nat) (x : Tag) : (s.setTag k x).chans = s.chans := rfl
@[simp] theorem State.setTag_islands (s : State) (k : Nat) (x : Tag) : (s.setTag k x).islands = s.islands := rfl
@[simp] theorem State.setTag_engines (s : State) (k : Nat) (x : Tag) : (s.setTag k x).engines = s.engines := rfl
@[simp] theorem State.setTag_nss (s : State) (k : Nat) (x : Tag) : (s.setTag k x).nss = s.nss := rfl
@[simp] theorem State.setTag_zones (s : State) (k : Nat) (x : Tag) : (s.setTag k x).zones = s.zones := rfl
@[simp] theorem State.setTag_pool (s : State) (k : Nat) (x : Tag) : (s.setTag k x).pool = s.pool := rfl
@[simp] theorem State.setTag_map (s : State) (k : Nat) (x : Tag) : (s.setTag k x).map = s.map := rfl
@[simp] theorem State.setTag_jrn (s : State) (k : Nat) (x : Tag) : (s.setTag k x).jrn = s.jrn := rfl
@[simp] theorem State.setTag_wbuf (s : State) (k : Nat) (x : Tag) : (s.setTag k x).wbuf = s.wbuf := rfl
@[simp] theorem State.setTag_media (s : State) (k : Nat) (x : Tag) : (s.setTag k x).media = s.media := rfl
@[simp] theorem State.setTag_recov (s : State) (k : Nat) (x : Tag) : (s.setTag k x).recov = s.recov := rfl
@[simp] theorem State.setTag_cmp (s : State) (k : Nat) (x : Tag) : (s.setTag k x).cmp = s.cmp := rfl
@[simp] theorem State.setTag_drams (s : State) (k : Nat) (x : Tag) : (s.setTag k x).drams = s.drams := rfl
@[simp] theorem State.setTag_ranks (s : State) (k : Nat) (x : Tag) : (s.setTag k x).ranks = s.ranks := rfl
@[simp] theorem State.setTag_chip (s : State) (k : Nat) (x : Tag) : (s.setTag k x).chip = s.chip := rfl
@[simp] theorem State.setTag_thermal (s : State) (k : Nat) (x : Tag) : (s.setTag k x).thermal = s.thermal := rfl
@[simp] theorem State.setTag_mgmt (s : State) (k : Nat) (x : Tag) : (s.setTag k x).mgmt = s.mgmt := rfl
@[simp] theorem State.setTag_sec (s : State) (k : Nat) (x : Tag) : (s.setTag k x).sec = s.sec := rfl

@[simp] theorem State.setCtrl_ctrl (s : State) (k : Nat) (x : Ctrl) : (s.setCtrl k x).ctrl k = x := Tbl.get_set_same _ _ _ _
@[simp] theorem State.setCtrl_pending (s : State) (k : Nat) (x : Ctrl) : (s.setCtrl k x).pending = s.pending := rfl
@[simp] theorem State.setCtrl_out (s : State) (k : Nat) (x : Ctrl) : (s.setCtrl k x).out = s.out := rfl
@[simp] theorem State.setCtrl_aon (s : State) (k : Nat) (x : Ctrl) : (s.setCtrl k x).aon = s.aon := rfl
@[simp] theorem State.setCtrl_mode (s : State) (k : Nat) (x : Ctrl) : (s.setCtrl k x).mode = s.mode := rfl
@[simp] theorem State.setCtrl_regs (s : State) (k : Nat) (x : Ctrl) : (s.setCtrl k x).regs = s.regs := rfl
@[simp] theorem State.setCtrl_ras (s : State) (k : Nat) (x : Ctrl) : (s.setCtrl k x).ras = s.ras := rfl
@[simp] theorem State.setCtrl_ports (s : State) (k : Nat) (x : Ctrl) : (s.setCtrl k x).ports = s.ports := rfl
@[simp] theorem State.setCtrl_funcs (s : State) (k : Nat) (x : Ctrl) : (s.setCtrl k x).funcs = s.funcs := rfl
@[simp] theorem State.setCtrl_dmas (s : State) (k : Nat) (x : Ctrl) : (s.setCtrl k x).dmas = s.dmas := rfl
@[simp] theorem State.setCtrl_dmaWait (s : State) (k : Nat) (x : Ctrl) : (s.setCtrl k x).dmaWait = s.dmaWait := rfl
@[simp] theorem State.setCtrl_dict (s : State) (k : Nat) (x : Ctrl) : (s.setCtrl k x).dict = s.dict := rfl
@[simp] theorem State.setCtrl_sqs (s : State) (k : Nat) (x : Ctrl) : (s.setCtrl k x).sqs = s.sqs := rfl
@[simp] theorem State.setCtrl_cqs (s : State) (k : Nat) (x : Ctrl) : (s.setCtrl k x).cqs = s.cqs := rfl
@[simp] theorem State.setCtrl_tags (s : State) (k : Nat) (x : Ctrl) : (s.setCtrl k x).tags = s.tags := rfl
@[simp] theorem State.setCtrl_cmds (s : State) (k : Nat) (x : Ctrl) : (s.setCtrl k x).cmds = s.cmds := rfl
@[simp] theorem State.setCtrl_slices (s : State) (k : Nat) (x : Ctrl) : (s.setCtrl k x).slices = s.slices := rfl
@[simp] theorem State.setCtrl_dirty (s : State) (k : Nat) (x : Ctrl) : (s.setCtrl k x).dirty = s.dirty := rfl
@[simp] theorem State.setCtrl_sched (s : State) (k : Nat) (x : Ctrl) : (s.setCtrl k x).sched = s.sched := rfl
@[simp] theorem State.setCtrl_luns (s : State) (k : Nat) (x : Ctrl) : (s.setCtrl k x).luns = s.luns := rfl
@[simp] theorem State.setCtrl_chans (s : State) (k : Nat) (x : Ctrl) : (s.setCtrl k x).chans = s.chans := rfl
@[simp] theorem State.setCtrl_islands (s : State) (k : Nat) (x : Ctrl) : (s.setCtrl k x).islands = s.islands := rfl
@[simp] theorem State.setCtrl_engines (s : State) (k : Nat) (x : Ctrl) : (s.setCtrl k x).engines = s.engines := rfl
@[simp] theorem State.setCtrl_nss (s : State) (k : Nat) (x : Ctrl) : (s.setCtrl k x).nss = s.nss := rfl
@[simp] theorem State.setCtrl_zones (s : State) (k : Nat) (x : Ctrl) : (s.setCtrl k x).zones = s.zones := rfl
@[simp] theorem State.setCtrl_pool (s : State) (k : Nat) (x : Ctrl) : (s.setCtrl k x).pool = s.pool := rfl
@[simp] theorem State.setCtrl_map (s : State) (k : Nat) (x : Ctrl) : (s.setCtrl k x).map = s.map := rfl
@[simp] theorem State.setCtrl_jrn (s : State) (k : Nat) (x : Ctrl) : (s.setCtrl k x).jrn = s.jrn := rfl
@[simp] theorem State.setCtrl_wbuf (s : State) (k : Nat) (x : Ctrl) : (s.setCtrl k x).wbuf = s.wbuf := rfl
@[simp] theorem State.setCtrl_media (s : State) (k : Nat) (x : Ctrl) : (s.setCtrl k x).media = s.media := rfl
@[simp] theorem State.setCtrl_recov (s : State) (k : Nat) (x : Ctrl) : (s.setCtrl k x).recov = s.recov := rfl
@[simp] theorem State.setCtrl_cmp (s : State) (k : Nat) (x : Ctrl) : (s.setCtrl k x).cmp = s.cmp := rfl
@[simp] theorem State.setCtrl_drams (s : State) (k : Nat) (x : Ctrl) : (s.setCtrl k x).drams = s.drams := rfl
@[simp] theorem State.setCtrl_ranks (s : State) (k : Nat) (x : Ctrl) : (s.setCtrl k x).ranks = s.ranks := rfl
@[simp] theorem State.setCtrl_chip (s : State) (k : Nat) (x : Ctrl) : (s.setCtrl k x).chip = s.chip := rfl
@[simp] theorem State.setCtrl_thermal (s : State) (k : Nat) (x : Ctrl) : (s.setCtrl k x).thermal = s.thermal := rfl
@[simp] theorem State.setCtrl_mgmt (s : State) (k : Nat) (x : Ctrl) : (s.setCtrl k x).mgmt = s.mgmt := rfl
@[simp] theorem State.setCtrl_sec (s : State) (k : Nat) (x : Ctrl) : (s.setCtrl k x).sec = s.sec := rfl

@[simp] theorem State.setSlice_slice (s : State) (k : Nat) (x : Slice) : (s.setSlice k x).slice k = x := Tbl.get_set_same _ _ _ _
@[simp] theorem State.setSlice_pending (s : State) (k : Nat) (x : Slice) : (s.setSlice k x).pending = s.pending := rfl
@[simp] theorem State.setSlice_out (s : State) (k : Nat) (x : Slice) : (s.setSlice k x).out = s.out := rfl
@[simp] theorem State.setSlice_aon (s : State) (k : Nat) (x : Slice) : (s.setSlice k x).aon = s.aon := rfl
@[simp] theorem State.setSlice_mode (s : State) (k : Nat) (x : Slice) : (s.setSlice k x).mode = s.mode := rfl
@[simp] theorem State.setSlice_regs (s : State) (k : Nat) (x : Slice) : (s.setSlice k x).regs = s.regs := rfl
@[simp] theorem State.setSlice_ras (s : State) (k : Nat) (x : Slice) : (s.setSlice k x).ras = s.ras := rfl
@[simp] theorem State.setSlice_ports (s : State) (k : Nat) (x : Slice) : (s.setSlice k x).ports = s.ports := rfl
@[simp] theorem State.setSlice_funcs (s : State) (k : Nat) (x : Slice) : (s.setSlice k x).funcs = s.funcs := rfl
@[simp] theorem State.setSlice_dmas (s : State) (k : Nat) (x : Slice) : (s.setSlice k x).dmas = s.dmas := rfl
@[simp] theorem State.setSlice_dmaWait (s : State) (k : Nat) (x : Slice) : (s.setSlice k x).dmaWait = s.dmaWait := rfl
@[simp] theorem State.setSlice_dict (s : State) (k : Nat) (x : Slice) : (s.setSlice k x).dict = s.dict := rfl
@[simp] theorem State.setSlice_sqs (s : State) (k : Nat) (x : Slice) : (s.setSlice k x).sqs = s.sqs := rfl
@[simp] theorem State.setSlice_cqs (s : State) (k : Nat) (x : Slice) : (s.setSlice k x).cqs = s.cqs := rfl
@[simp] theorem State.setSlice_tags (s : State) (k : Nat) (x : Slice) : (s.setSlice k x).tags = s.tags := rfl
@[simp] theorem State.setSlice_ctrls (s : State) (k : Nat) (x : Slice) : (s.setSlice k x).ctrls = s.ctrls := rfl
@[simp] theorem State.setSlice_cmds (s : State) (k : Nat) (x : Slice) : (s.setSlice k x).cmds = s.cmds := rfl
@[simp] theorem State.setSlice_dirty (s : State) (k : Nat) (x : Slice) : (s.setSlice k x).dirty = s.dirty := rfl
@[simp] theorem State.setSlice_sched (s : State) (k : Nat) (x : Slice) : (s.setSlice k x).sched = s.sched := rfl
@[simp] theorem State.setSlice_luns (s : State) (k : Nat) (x : Slice) : (s.setSlice k x).luns = s.luns := rfl
@[simp] theorem State.setSlice_chans (s : State) (k : Nat) (x : Slice) : (s.setSlice k x).chans = s.chans := rfl
@[simp] theorem State.setSlice_islands (s : State) (k : Nat) (x : Slice) : (s.setSlice k x).islands = s.islands := rfl
@[simp] theorem State.setSlice_engines (s : State) (k : Nat) (x : Slice) : (s.setSlice k x).engines = s.engines := rfl
@[simp] theorem State.setSlice_nss (s : State) (k : Nat) (x : Slice) : (s.setSlice k x).nss = s.nss := rfl
@[simp] theorem State.setSlice_zones (s : State) (k : Nat) (x : Slice) : (s.setSlice k x).zones = s.zones := rfl
@[simp] theorem State.setSlice_pool (s : State) (k : Nat) (x : Slice) : (s.setSlice k x).pool = s.pool := rfl
@[simp] theorem State.setSlice_map (s : State) (k : Nat) (x : Slice) : (s.setSlice k x).map = s.map := rfl
@[simp] theorem State.setSlice_jrn (s : State) (k : Nat) (x : Slice) : (s.setSlice k x).jrn = s.jrn := rfl
@[simp] theorem State.setSlice_wbuf (s : State) (k : Nat) (x : Slice) : (s.setSlice k x).wbuf = s.wbuf := rfl
@[simp] theorem State.setSlice_media (s : State) (k : Nat) (x : Slice) : (s.setSlice k x).media = s.media := rfl
@[simp] theorem State.setSlice_recov (s : State) (k : Nat) (x : Slice) : (s.setSlice k x).recov = s.recov := rfl
@[simp] theorem State.setSlice_cmp (s : State) (k : Nat) (x : Slice) : (s.setSlice k x).cmp = s.cmp := rfl
@[simp] theorem State.setSlice_drams (s : State) (k : Nat) (x : Slice) : (s.setSlice k x).drams = s.drams := rfl
@[simp] theorem State.setSlice_ranks (s : State) (k : Nat) (x : Slice) : (s.setSlice k x).ranks = s.ranks := rfl
@[simp] theorem State.setSlice_chip (s : State) (k : Nat) (x : Slice) : (s.setSlice k x).chip = s.chip := rfl
@[simp] theorem State.setSlice_thermal (s : State) (k : Nat) (x : Slice) : (s.setSlice k x).thermal = s.thermal := rfl
@[simp] theorem State.setSlice_mgmt (s : State) (k : Nat) (x : Slice) : (s.setSlice k x).mgmt = s.mgmt := rfl
@[simp] theorem State.setSlice_sec (s : State) (k : Nat) (x : Slice) : (s.setSlice k x).sec = s.sec := rfl

@[simp] theorem State.setLun_lun (s : State) (c p : Nat) (x : Lun) : (s.setLun c p x).lun c p = x := Tbl.get_set_same _ _ _ _
@[simp] theorem State.setLun_pending (s : State) (c p : Nat) (x : Lun) : (s.setLun c p x).pending = s.pending := rfl
@[simp] theorem State.setLun_out (s : State) (c p : Nat) (x : Lun) : (s.setLun c p x).out = s.out := rfl
@[simp] theorem State.setLun_aon (s : State) (c p : Nat) (x : Lun) : (s.setLun c p x).aon = s.aon := rfl
@[simp] theorem State.setLun_mode (s : State) (c p : Nat) (x : Lun) : (s.setLun c p x).mode = s.mode := rfl
@[simp] theorem State.setLun_regs (s : State) (c p : Nat) (x : Lun) : (s.setLun c p x).regs = s.regs := rfl
@[simp] theorem State.setLun_ras (s : State) (c p : Nat) (x : Lun) : (s.setLun c p x).ras = s.ras := rfl
@[simp] theorem State.setLun_ports (s : State) (c p : Nat) (x : Lun) : (s.setLun c p x).ports = s.ports := rfl
@[simp] theorem State.setLun_funcs (s : State) (c p : Nat) (x : Lun) : (s.setLun c p x).funcs = s.funcs := rfl
@[simp] theorem State.setLun_dmas (s : State) (c p : Nat) (x : Lun) : (s.setLun c p x).dmas = s.dmas := rfl
@[simp] theorem State.setLun_dmaWait (s : State) (c p : Nat) (x : Lun) : (s.setLun c p x).dmaWait = s.dmaWait := rfl
@[simp] theorem State.setLun_dict (s : State) (c p : Nat) (x : Lun) : (s.setLun c p x).dict = s.dict := rfl
@[simp] theorem State.setLun_sqs (s : State) (c p : Nat) (x : Lun) : (s.setLun c p x).sqs = s.sqs := rfl
@[simp] theorem State.setLun_cqs (s : State) (c p : Nat) (x : Lun) : (s.setLun c p x).cqs = s.cqs := rfl
@[simp] theorem State.setLun_tags (s : State) (c p : Nat) (x : Lun) : (s.setLun c p x).tags = s.tags := rfl
@[simp] theorem State.setLun_ctrls (s : State) (c p : Nat) (x : Lun) : (s.setLun c p x).ctrls = s.ctrls := rfl
@[simp] theorem State.setLun_cmds (s : State) (c p : Nat) (x : Lun) : (s.setLun c p x).cmds = s.cmds := rfl
@[simp] theorem State.setLun_slices (s : State) (c p : Nat) (x : Lun) : (s.setLun c p x).slices = s.slices := rfl
@[simp] theorem State.setLun_dirty (s : State) (c p : Nat) (x : Lun) : (s.setLun c p x).dirty = s.dirty := rfl
@[simp] theorem State.setLun_sched (s : State) (c p : Nat) (x : Lun) : (s.setLun c p x).sched = s.sched := rfl
@[simp] theorem State.setLun_chans (s : State) (c p : Nat) (x : Lun) : (s.setLun c p x).chans = s.chans := rfl
@[simp] theorem State.setLun_islands (s : State) (c p : Nat) (x : Lun) : (s.setLun c p x).islands = s.islands := rfl
@[simp] theorem State.setLun_engines (s : State) (c p : Nat) (x : Lun) : (s.setLun c p x).engines = s.engines := rfl
@[simp] theorem State.setLun_nss (s : State) (c p : Nat) (x : Lun) : (s.setLun c p x).nss = s.nss := rfl
@[simp] theorem State.setLun_zones (s : State) (c p : Nat) (x : Lun) : (s.setLun c p x).zones = s.zones := rfl
@[simp] theorem State.setLun_pool (s : State) (c p : Nat) (x : Lun) : (s.setLun c p x).pool = s.pool := rfl
@[simp] theorem State.setLun_map (s : State) (c p : Nat) (x : Lun) : (s.setLun c p x).map = s.map := rfl
@[simp] theorem State.setLun_jrn (s : State) (c p : Nat) (x : Lun) : (s.setLun c p x).jrn = s.jrn := rfl
@[simp] theorem State.setLun_wbuf (s : State) (c p : Nat) (x : Lun) : (s.setLun c p x).wbuf = s.wbuf := rfl
@[simp] theorem State.setLun_media (s : State) (c p : Nat) (x : Lun) : (s.setLun c p x).media = s.media := rfl
@[simp] theorem State.setLun_recov (s : State) (c p : Nat) (x : Lun) : (s.setLun c p x).recov = s.recov := rfl
@[simp] theorem State.setLun_cmp (s : State) (c p : Nat) (x : Lun) : (s.setLun c p x).cmp = s.cmp := rfl
@[simp] theorem State.setLun_drams (s : State) (c p : Nat) (x : Lun) : (s.setLun c p x).drams = s.drams := rfl
@[simp] theorem State.setLun_ranks (s : State) (c p : Nat) (x : Lun) : (s.setLun c p x).ranks = s.ranks := rfl
@[simp] theorem State.setLun_chip (s : State) (c p : Nat) (x : Lun) : (s.setLun c p x).chip = s.chip := rfl
@[simp] theorem State.setLun_thermal (s : State) (c p : Nat) (x : Lun) : (s.setLun c p x).thermal = s.thermal := rfl
@[simp] theorem State.setLun_mgmt (s : State) (c p : Nat) (x : Lun) : (s.setLun c p x).mgmt = s.mgmt := rfl
@[simp] theorem State.setLun_sec (s : State) (c p : Nat) (x : Lun) : (s.setLun c p x).sec = s.sec := rfl

@[simp] theorem State.setChan_chan (s : State) (k : Nat) (x : Chan) : (s.setChan k x).chan k = x := Tbl.get_set_same _ _ _ _
@[simp] theorem State.setChan_pending (s : State) (k : Nat) (x : Chan) : (s.setChan k x).pending = s.pending := rfl
@[simp] theorem State.setChan_out (s : State) (k : Nat) (x : Chan) : (s.setChan k x).out = s.out := rfl
@[simp] theorem State.setChan_aon (s : State) (k : Nat) (x : Chan) : (s.setChan k x).aon = s.aon := rfl
@[simp] theorem State.setChan_mode (s : State) (k : Nat) (x : Chan) : (s.setChan k x).mode = s.mode := rfl
@[simp] theorem State.setChan_regs (s : State) (k : Nat) (x : Chan) : (s.setChan k x).regs = s.regs := rfl
@[simp] theorem State.setChan_ras (s : State) (k : Nat) (x : Chan) : (s.setChan k x).ras = s.ras := rfl
@[simp] theorem State.setChan_ports (s : State) (k : Nat) (x : Chan) : (s.setChan k x).ports = s.ports := rfl
@[simp] theorem State.setChan_funcs (s : State) (k : Nat) (x : Chan) : (s.setChan k x).funcs = s.funcs := rfl
@[simp] theorem State.setChan_dmas (s : State) (k : Nat) (x : Chan) : (s.setChan k x).dmas = s.dmas := rfl
@[simp] theorem State.setChan_dmaWait (s : State) (k : Nat) (x : Chan) : (s.setChan k x).dmaWait = s.dmaWait := rfl
@[simp] theorem State.setChan_dict (s : State) (k : Nat) (x : Chan) : (s.setChan k x).dict = s.dict := rfl
@[simp] theorem State.setChan_sqs (s : State) (k : Nat) (x : Chan) : (s.setChan k x).sqs = s.sqs := rfl
@[simp] theorem State.setChan_cqs (s : State) (k : Nat) (x : Chan) : (s.setChan k x).cqs = s.cqs := rfl
@[simp] theorem State.setChan_tags (s : State) (k : Nat) (x : Chan) : (s.setChan k x).tags = s.tags := rfl
@[simp] theorem State.setChan_ctrls (s : State) (k : Nat) (x : Chan) : (s.setChan k x).ctrls = s.ctrls := rfl
@[simp] theorem State.setChan_cmds (s : State) (k : Nat) (x : Chan) : (s.setChan k x).cmds = s.cmds := rfl
@[simp] theorem State.setChan_slices (s : State) (k : Nat) (x : Chan) : (s.setChan k x).slices = s.slices := rfl
@[simp] theorem State.setChan_dirty (s : State) (k : Nat) (x : Chan) : (s.setChan k x).dirty = s.dirty := rfl
@[simp] theorem State.setChan_sched (s : State) (k : Nat) (x : Chan) : (s.setChan k x).sched = s.sched := rfl
@[simp] theorem State.setChan_luns (s : State) (k : Nat) (x : Chan) : (s.setChan k x).luns = s.luns := rfl
@[simp] theorem State.setChan_islands (s : State) (k : Nat) (x : Chan) : (s.setChan k x).islands = s.islands := rfl
@[simp] theorem State.setChan_engines (s : State) (k : Nat) (x : Chan) : (s.setChan k x).engines = s.engines := rfl
@[simp] theorem State.setChan_nss (s : State) (k : Nat) (x : Chan) : (s.setChan k x).nss = s.nss := rfl
@[simp] theorem State.setChan_zones (s : State) (k : Nat) (x : Chan) : (s.setChan k x).zones = s.zones := rfl
@[simp] theorem State.setChan_pool (s : State) (k : Nat) (x : Chan) : (s.setChan k x).pool = s.pool := rfl
@[simp] theorem State.setChan_map (s : State) (k : Nat) (x : Chan) : (s.setChan k x).map = s.map := rfl
@[simp] theorem State.setChan_jrn (s : State) (k : Nat) (x : Chan) : (s.setChan k x).jrn = s.jrn := rfl
@[simp] theorem State.setChan_wbuf (s : State) (k : Nat) (x : Chan) : (s.setChan k x).wbuf = s.wbuf := rfl
@[simp] theorem State.setChan_media (s : State) (k : Nat) (x : Chan) : (s.setChan k x).media = s.media := rfl
@[simp] theorem State.setChan_recov (s : State) (k : Nat) (x : Chan) : (s.setChan k x).recov = s.recov := rfl
@[simp] theorem State.setChan_cmp (s : State) (k : Nat) (x : Chan) : (s.setChan k x).cmp = s.cmp := rfl
@[simp] theorem State.setChan_drams (s : State) (k : Nat) (x : Chan) : (s.setChan k x).drams = s.drams := rfl
@[simp] theorem State.setChan_ranks (s : State) (k : Nat) (x : Chan) : (s.setChan k x).ranks = s.ranks := rfl
@[simp] theorem State.setChan_chip (s : State) (k : Nat) (x : Chan) : (s.setChan k x).chip = s.chip := rfl
@[simp] theorem State.setChan_thermal (s : State) (k : Nat) (x : Chan) : (s.setChan k x).thermal = s.thermal := rfl
@[simp] theorem State.setChan_mgmt (s : State) (k : Nat) (x : Chan) : (s.setChan k x).mgmt = s.mgmt := rfl
@[simp] theorem State.setChan_sec (s : State) (k : Nat) (x : Chan) : (s.setChan k x).sec = s.sec := rfl

@[simp] theorem State.setIsland_island (s : State) (k : Nat) (x : Island) : (s.setIsland k x).island k = x := Tbl.get_set_same _ _ _ _
@[simp] theorem State.setIsland_pending (s : State) (k : Nat) (x : Island) : (s.setIsland k x).pending = s.pending := rfl
@[simp] theorem State.setIsland_out (s : State) (k : Nat) (x : Island) : (s.setIsland k x).out = s.out := rfl
@[simp] theorem State.setIsland_aon (s : State) (k : Nat) (x : Island) : (s.setIsland k x).aon = s.aon := rfl
@[simp] theorem State.setIsland_mode (s : State) (k : Nat) (x : Island) : (s.setIsland k x).mode = s.mode := rfl
@[simp] theorem State.setIsland_regs (s : State) (k : Nat) (x : Island) : (s.setIsland k x).regs = s.regs := rfl
@[simp] theorem State.setIsland_ras (s : State) (k : Nat) (x : Island) : (s.setIsland k x).ras = s.ras := rfl
@[simp] theorem State.setIsland_ports (s : State) (k : Nat) (x : Island) : (s.setIsland k x).ports = s.ports := rfl
@[simp] theorem State.setIsland_funcs (s : State) (k : Nat) (x : Island) : (s.setIsland k x).funcs = s.funcs := rfl
@[simp] theorem State.setIsland_dmas (s : State) (k : Nat) (x : Island) : (s.setIsland k x).dmas = s.dmas := rfl
@[simp] theorem State.setIsland_dmaWait (s : State) (k : Nat) (x : Island) : (s.setIsland k x).dmaWait = s.dmaWait := rfl
@[simp] theorem State.setIsland_dict (s : State) (k : Nat) (x : Island) : (s.setIsland k x).dict = s.dict := rfl
@[simp] theorem State.setIsland_sqs (s : State) (k : Nat) (x : Island) : (s.setIsland k x).sqs = s.sqs := rfl
@[simp] theorem State.setIsland_cqs (s : State) (k : Nat) (x : Island) : (s.setIsland k x).cqs = s.cqs := rfl
@[simp] theorem State.setIsland_tags (s : State) (k : Nat) (x : Island) : (s.setIsland k x).tags = s.tags := rfl
@[simp] theorem State.setIsland_ctrls (s : State) (k : Nat) (x : Island) : (s.setIsland k x).ctrls = s.ctrls := rfl
@[simp] theorem State.setIsland_cmds (s : State) (k : Nat) (x : Island) : (s.setIsland k x).cmds = s.cmds := rfl
@[simp] theorem State.setIsland_slices (s : State) (k : Nat) (x : Island) : (s.setIsland k x).slices = s.slices := rfl
@[simp] theorem State.setIsland_dirty (s : State) (k : Nat) (x : Island) : (s.setIsland k x).dirty = s.dirty := rfl
@[simp] theorem State.setIsland_sched (s : State) (k : Nat) (x : Island) : (s.setIsland k x).sched = s.sched := rfl
@[simp] theorem State.setIsland_luns (s : State) (k : Nat) (x : Island) : (s.setIsland k x).luns = s.luns := rfl
@[simp] theorem State.setIsland_chans (s : State) (k : Nat) (x : Island) : (s.setIsland k x).chans = s.chans := rfl
@[simp] theorem State.setIsland_engines (s : State) (k : Nat) (x : Island) : (s.setIsland k x).engines = s.engines := rfl
@[simp] theorem State.setIsland_nss (s : State) (k : Nat) (x : Island) : (s.setIsland k x).nss = s.nss := rfl
@[simp] theorem State.setIsland_zones (s : State) (k : Nat) (x : Island) : (s.setIsland k x).zones = s.zones := rfl
@[simp] theorem State.setIsland_pool (s : State) (k : Nat) (x : Island) : (s.setIsland k x).pool = s.pool := rfl
@[simp] theorem State.setIsland_map (s : State) (k : Nat) (x : Island) : (s.setIsland k x).map = s.map := rfl
@[simp] theorem State.setIsland_jrn (s : State) (k : Nat) (x : Island) : (s.setIsland k x).jrn = s.jrn := rfl
@[simp] theorem State.setIsland_wbuf (s : State) (k : Nat) (x : Island) : (s.setIsland k x).wbuf = s.wbuf := rfl
@[simp] theorem State.setIsland_media (s : State) (k : Nat) (x : Island) : (s.setIsland k x).media = s.media := rfl
@[simp] theorem State.setIsland_recov (s : State) (k : Nat) (x : Island) : (s.setIsland k x).recov = s.recov := rfl
@[simp] theorem State.setIsland_cmp (s : State) (k : Nat) (x : Island) : (s.setIsland k x).cmp = s.cmp := rfl
@[simp] theorem State.setIsland_drams (s : State) (k : Nat) (x : Island) : (s.setIsland k x).drams = s.drams := rfl
@[simp] theorem State.setIsland_ranks (s : State) (k : Nat) (x : Island) : (s.setIsland k x).ranks = s.ranks := rfl
@[simp] theorem State.setIsland_chip (s : State) (k : Nat) (x : Island) : (s.setIsland k x).chip = s.chip := rfl
@[simp] theorem State.setIsland_thermal (s : State) (k : Nat) (x : Island) : (s.setIsland k x).thermal = s.thermal := rfl
@[simp] theorem State.setIsland_mgmt (s : State) (k : Nat) (x : Island) : (s.setIsland k x).mgmt = s.mgmt := rfl
@[simp] theorem State.setIsland_sec (s : State) (k : Nat) (x : Island) : (s.setIsland k x).sec = s.sec := rfl

@[simp] theorem State.setEngine_engine (s : State) (k : Nat) (x : Engine) : (s.setEngine k x).engine k = x := Tbl.get_set_same _ _ _ _
@[simp] theorem State.setEngine_pending (s : State) (k : Nat) (x : Engine) : (s.setEngine k x).pending = s.pending := rfl
@[simp] theorem State.setEngine_out (s : State) (k : Nat) (x : Engine) : (s.setEngine k x).out = s.out := rfl
@[simp] theorem State.setEngine_aon (s : State) (k : Nat) (x : Engine) : (s.setEngine k x).aon = s.aon := rfl
@[simp] theorem State.setEngine_mode (s : State) (k : Nat) (x : Engine) : (s.setEngine k x).mode = s.mode := rfl
@[simp] theorem State.setEngine_regs (s : State) (k : Nat) (x : Engine) : (s.setEngine k x).regs = s.regs := rfl
@[simp] theorem State.setEngine_ras (s : State) (k : Nat) (x : Engine) : (s.setEngine k x).ras = s.ras := rfl
@[simp] theorem State.setEngine_ports (s : State) (k : Nat) (x : Engine) : (s.setEngine k x).ports = s.ports := rfl
@[simp] theorem State.setEngine_funcs (s : State) (k : Nat) (x : Engine) : (s.setEngine k x).funcs = s.funcs := rfl
@[simp] theorem State.setEngine_dmas (s : State) (k : Nat) (x : Engine) : (s.setEngine k x).dmas = s.dmas := rfl
@[simp] theorem State.setEngine_dmaWait (s : State) (k : Nat) (x : Engine) : (s.setEngine k x).dmaWait = s.dmaWait := rfl
@[simp] theorem State.setEngine_dict (s : State) (k : Nat) (x : Engine) : (s.setEngine k x).dict = s.dict := rfl
@[simp] theorem State.setEngine_sqs (s : State) (k : Nat) (x : Engine) : (s.setEngine k x).sqs = s.sqs := rfl
@[simp] theorem State.setEngine_cqs (s : State) (k : Nat) (x : Engine) : (s.setEngine k x).cqs = s.cqs := rfl
@[simp] theorem State.setEngine_tags (s : State) (k : Nat) (x : Engine) : (s.setEngine k x).tags = s.tags := rfl
@[simp] theorem State.setEngine_ctrls (s : State) (k : Nat) (x : Engine) : (s.setEngine k x).ctrls = s.ctrls := rfl
@[simp] theorem State.setEngine_cmds (s : State) (k : Nat) (x : Engine) : (s.setEngine k x).cmds = s.cmds := rfl
@[simp] theorem State.setEngine_slices (s : State) (k : Nat) (x : Engine) : (s.setEngine k x).slices = s.slices := rfl
@[simp] theorem State.setEngine_dirty (s : State) (k : Nat) (x : Engine) : (s.setEngine k x).dirty = s.dirty := rfl
@[simp] theorem State.setEngine_sched (s : State) (k : Nat) (x : Engine) : (s.setEngine k x).sched = s.sched := rfl
@[simp] theorem State.setEngine_luns (s : State) (k : Nat) (x : Engine) : (s.setEngine k x).luns = s.luns := rfl
@[simp] theorem State.setEngine_chans (s : State) (k : Nat) (x : Engine) : (s.setEngine k x).chans = s.chans := rfl
@[simp] theorem State.setEngine_islands (s : State) (k : Nat) (x : Engine) : (s.setEngine k x).islands = s.islands := rfl
@[simp] theorem State.setEngine_nss (s : State) (k : Nat) (x : Engine) : (s.setEngine k x).nss = s.nss := rfl
@[simp] theorem State.setEngine_zones (s : State) (k : Nat) (x : Engine) : (s.setEngine k x).zones = s.zones := rfl
@[simp] theorem State.setEngine_pool (s : State) (k : Nat) (x : Engine) : (s.setEngine k x).pool = s.pool := rfl
@[simp] theorem State.setEngine_map (s : State) (k : Nat) (x : Engine) : (s.setEngine k x).map = s.map := rfl
@[simp] theorem State.setEngine_jrn (s : State) (k : Nat) (x : Engine) : (s.setEngine k x).jrn = s.jrn := rfl
@[simp] theorem State.setEngine_wbuf (s : State) (k : Nat) (x : Engine) : (s.setEngine k x).wbuf = s.wbuf := rfl
@[simp] theorem State.setEngine_media (s : State) (k : Nat) (x : Engine) : (s.setEngine k x).media = s.media := rfl
@[simp] theorem State.setEngine_recov (s : State) (k : Nat) (x : Engine) : (s.setEngine k x).recov = s.recov := rfl
@[simp] theorem State.setEngine_cmp (s : State) (k : Nat) (x : Engine) : (s.setEngine k x).cmp = s.cmp := rfl
@[simp] theorem State.setEngine_drams (s : State) (k : Nat) (x : Engine) : (s.setEngine k x).drams = s.drams := rfl
@[simp] theorem State.setEngine_ranks (s : State) (k : Nat) (x : Engine) : (s.setEngine k x).ranks = s.ranks := rfl
@[simp] theorem State.setEngine_chip (s : State) (k : Nat) (x : Engine) : (s.setEngine k x).chip = s.chip := rfl
@[simp] theorem State.setEngine_thermal (s : State) (k : Nat) (x : Engine) : (s.setEngine k x).thermal = s.thermal := rfl
@[simp] theorem State.setEngine_mgmt (s : State) (k : Nat) (x : Engine) : (s.setEngine k x).mgmt = s.mgmt := rfl
@[simp] theorem State.setEngine_sec (s : State) (k : Nat) (x : Engine) : (s.setEngine k x).sec = s.sec := rfl

@[simp] theorem State.setNs_ns (s : State) (k : Nat) (x : Ns) : (s.setNs k x).ns k = x := Tbl.get_set_same _ _ _ _
@[simp] theorem State.setNs_pending (s : State) (k : Nat) (x : Ns) : (s.setNs k x).pending = s.pending := rfl
@[simp] theorem State.setNs_out (s : State) (k : Nat) (x : Ns) : (s.setNs k x).out = s.out := rfl
@[simp] theorem State.setNs_aon (s : State) (k : Nat) (x : Ns) : (s.setNs k x).aon = s.aon := rfl
@[simp] theorem State.setNs_mode (s : State) (k : Nat) (x : Ns) : (s.setNs k x).mode = s.mode := rfl
@[simp] theorem State.setNs_regs (s : State) (k : Nat) (x : Ns) : (s.setNs k x).regs = s.regs := rfl
@[simp] theorem State.setNs_ras (s : State) (k : Nat) (x : Ns) : (s.setNs k x).ras = s.ras := rfl
@[simp] theorem State.setNs_ports (s : State) (k : Nat) (x : Ns) : (s.setNs k x).ports = s.ports := rfl
@[simp] theorem State.setNs_funcs (s : State) (k : Nat) (x : Ns) : (s.setNs k x).funcs = s.funcs := rfl
@[simp] theorem State.setNs_dmas (s : State) (k : Nat) (x : Ns) : (s.setNs k x).dmas = s.dmas := rfl
@[simp] theorem State.setNs_dmaWait (s : State) (k : Nat) (x : Ns) : (s.setNs k x).dmaWait = s.dmaWait := rfl
@[simp] theorem State.setNs_dict (s : State) (k : Nat) (x : Ns) : (s.setNs k x).dict = s.dict := rfl
@[simp] theorem State.setNs_sqs (s : State) (k : Nat) (x : Ns) : (s.setNs k x).sqs = s.sqs := rfl
@[simp] theorem State.setNs_cqs (s : State) (k : Nat) (x : Ns) : (s.setNs k x).cqs = s.cqs := rfl
@[simp] theorem State.setNs_tags (s : State) (k : Nat) (x : Ns) : (s.setNs k x).tags = s.tags := rfl
@[simp] theorem State.setNs_ctrls (s : State) (k : Nat) (x : Ns) : (s.setNs k x).ctrls = s.ctrls := rfl
@[simp] theorem State.setNs_cmds (s : State) (k : Nat) (x : Ns) : (s.setNs k x).cmds = s.cmds := rfl
@[simp] theorem State.setNs_slices (s : State) (k : Nat) (x : Ns) : (s.setNs k x).slices = s.slices := rfl
@[simp] theorem State.setNs_dirty (s : State) (k : Nat) (x : Ns) : (s.setNs k x).dirty = s.dirty := rfl
@[simp] theorem State.setNs_sched (s : State) (k : Nat) (x : Ns) : (s.setNs k x).sched = s.sched := rfl
@[simp] theorem State.setNs_luns (s : State) (k : Nat) (x : Ns) : (s.setNs k x).luns = s.luns := rfl
@[simp] theorem State.setNs_chans (s : State) (k : Nat) (x : Ns) : (s.setNs k x).chans = s.chans := rfl
@[simp] theorem State.setNs_islands (s : State) (k : Nat) (x : Ns) : (s.setNs k x).islands = s.islands := rfl
@[simp] theorem State.setNs_engines (s : State) (k : Nat) (x : Ns) : (s.setNs k x).engines = s.engines := rfl
@[simp] theorem State.setNs_zones (s : State) (k : Nat) (x : Ns) : (s.setNs k x).zones = s.zones := rfl
@[simp] theorem State.setNs_pool (s : State) (k : Nat) (x : Ns) : (s.setNs k x).pool = s.pool := rfl
@[simp] theorem State.setNs_map (s : State) (k : Nat) (x : Ns) : (s.setNs k x).map = s.map := rfl
@[simp] theorem State.setNs_jrn (s : State) (k : Nat) (x : Ns) : (s.setNs k x).jrn = s.jrn := rfl
@[simp] theorem State.setNs_wbuf (s : State) (k : Nat) (x : Ns) : (s.setNs k x).wbuf = s.wbuf := rfl
@[simp] theorem State.setNs_media (s : State) (k : Nat) (x : Ns) : (s.setNs k x).media = s.media := rfl
@[simp] theorem State.setNs_recov (s : State) (k : Nat) (x : Ns) : (s.setNs k x).recov = s.recov := rfl
@[simp] theorem State.setNs_cmp (s : State) (k : Nat) (x : Ns) : (s.setNs k x).cmp = s.cmp := rfl
@[simp] theorem State.setNs_drams (s : State) (k : Nat) (x : Ns) : (s.setNs k x).drams = s.drams := rfl
@[simp] theorem State.setNs_ranks (s : State) (k : Nat) (x : Ns) : (s.setNs k x).ranks = s.ranks := rfl
@[simp] theorem State.setNs_chip (s : State) (k : Nat) (x : Ns) : (s.setNs k x).chip = s.chip := rfl
@[simp] theorem State.setNs_thermal (s : State) (k : Nat) (x : Ns) : (s.setNs k x).thermal = s.thermal := rfl
@[simp] theorem State.setNs_mgmt (s : State) (k : Nat) (x : Ns) : (s.setNs k x).mgmt = s.mgmt := rfl
@[simp] theorem State.setNs_sec (s : State) (k : Nat) (x : Ns) : (s.setNs k x).sec = s.sec := rfl

@[simp] theorem State.setZone_zone (s : State) (n z : Nat) (x : Zone) : (s.setZone n z x).zone n z = x := Tbl.get_set_same _ _ _ _
@[simp] theorem State.setZone_pending (s : State) (n z : Nat) (x : Zone) : (s.setZone n z x).pending = s.pending := rfl
@[simp] theorem State.setZone_out (s : State) (n z : Nat) (x : Zone) : (s.setZone n z x).out = s.out := rfl
@[simp] theorem State.setZone_aon (s : State) (n z : Nat) (x : Zone) : (s.setZone n z x).aon = s.aon := rfl
@[simp] theorem State.setZone_mode (s : State) (n z : Nat) (x : Zone) : (s.setZone n z x).mode = s.mode := rfl
@[simp] theorem State.setZone_regs (s : State) (n z : Nat) (x : Zone) : (s.setZone n z x).regs = s.regs := rfl
@[simp] theorem State.setZone_ras (s : State) (n z : Nat) (x : Zone) : (s.setZone n z x).ras = s.ras := rfl
@[simp] theorem State.setZone_ports (s : State) (n z : Nat) (x : Zone) : (s.setZone n z x).ports = s.ports := rfl
@[simp] theorem State.setZone_funcs (s : State) (n z : Nat) (x : Zone) : (s.setZone n z x).funcs = s.funcs := rfl
@[simp] theorem State.setZone_dmas (s : State) (n z : Nat) (x : Zone) : (s.setZone n z x).dmas = s.dmas := rfl
@[simp] theorem State.setZone_dmaWait (s : State) (n z : Nat) (x : Zone) : (s.setZone n z x).dmaWait = s.dmaWait := rfl
@[simp] theorem State.setZone_dict (s : State) (n z : Nat) (x : Zone) : (s.setZone n z x).dict = s.dict := rfl
@[simp] theorem State.setZone_sqs (s : State) (n z : Nat) (x : Zone) : (s.setZone n z x).sqs = s.sqs := rfl
@[simp] theorem State.setZone_cqs (s : State) (n z : Nat) (x : Zone) : (s.setZone n z x).cqs = s.cqs := rfl
@[simp] theorem State.setZone_tags (s : State) (n z : Nat) (x : Zone) : (s.setZone n z x).tags = s.tags := rfl
@[simp] theorem State.setZone_ctrls (s : State) (n z : Nat) (x : Zone) : (s.setZone n z x).ctrls = s.ctrls := rfl
@[simp] theorem State.setZone_cmds (s : State) (n z : Nat) (x : Zone) : (s.setZone n z x).cmds = s.cmds := rfl
@[simp] theorem State.setZone_slices (s : State) (n z : Nat) (x : Zone) : (s.setZone n z x).slices = s.slices := rfl
@[simp] theorem State.setZone_dirty (s : State) (n z : Nat) (x : Zone) : (s.setZone n z x).dirty = s.dirty := rfl
@[simp] theorem State.setZone_sched (s : State) (n z : Nat) (x : Zone) : (s.setZone n z x).sched = s.sched := rfl
@[simp] theorem State.setZone_luns (s : State) (n z : Nat) (x : Zone) : (s.setZone n z x).luns = s.luns := rfl
@[simp] theorem State.setZone_chans (s : State) (n z : Nat) (x : Zone) : (s.setZone n z x).chans = s.chans := rfl
@[simp] theorem State.setZone_islands (s : State) (n z : Nat) (x : Zone) : (s.setZone n z x).islands = s.islands := rfl
@[simp] theorem State.setZone_engines (s : State) (n z : Nat) (x : Zone) : (s.setZone n z x).engines = s.engines := rfl
@[simp] theorem State.setZone_nss (s : State) (n z : Nat) (x : Zone) : (s.setZone n z x).nss = s.nss := rfl
@[simp] theorem State.setZone_pool (s : State) (n z : Nat) (x : Zone) : (s.setZone n z x).pool = s.pool := rfl
@[simp] theorem State.setZone_map (s : State) (n z : Nat) (x : Zone) : (s.setZone n z x).map = s.map := rfl
@[simp] theorem State.setZone_jrn (s : State) (n z : Nat) (x : Zone) : (s.setZone n z x).jrn = s.jrn := rfl
@[simp] theorem State.setZone_wbuf (s : State) (n z : Nat) (x : Zone) : (s.setZone n z x).wbuf = s.wbuf := rfl
@[simp] theorem State.setZone_media (s : State) (n z : Nat) (x : Zone) : (s.setZone n z x).media = s.media := rfl
@[simp] theorem State.setZone_recov (s : State) (n z : Nat) (x : Zone) : (s.setZone n z x).recov = s.recov := rfl
@[simp] theorem State.setZone_cmp (s : State) (n z : Nat) (x : Zone) : (s.setZone n z x).cmp = s.cmp := rfl
@[simp] theorem State.setZone_drams (s : State) (n z : Nat) (x : Zone) : (s.setZone n z x).drams = s.drams := rfl
@[simp] theorem State.setZone_ranks (s : State) (n z : Nat) (x : Zone) : (s.setZone n z x).ranks = s.ranks := rfl
@[simp] theorem State.setZone_chip (s : State) (n z : Nat) (x : Zone) : (s.setZone n z x).chip = s.chip := rfl
@[simp] theorem State.setZone_thermal (s : State) (n z : Nat) (x : Zone) : (s.setZone n z x).thermal = s.thermal := rfl
@[simp] theorem State.setZone_mgmt (s : State) (n z : Nat) (x : Zone) : (s.setZone n z x).mgmt = s.mgmt := rfl
@[simp] theorem State.setZone_sec (s : State) (n z : Nat) (x : Zone) : (s.setZone n z x).sec = s.sec := rfl

@[simp] theorem State.setMent_ment (s : State) (n l : Nat) (x : MEnt) : (s.setMent n l x).ment n l = x := Tbl.get_set_same _ _ _ _
@[simp] theorem State.setMent_pending (s : State) (n l : Nat) (x : MEnt) : (s.setMent n l x).pending = s.pending := rfl
@[simp] theorem State.setMent_out (s : State) (n l : Nat) (x : MEnt) : (s.setMent n l x).out = s.out := rfl
@[simp] theorem State.setMent_aon (s : State) (n l : Nat) (x : MEnt) : (s.setMent n l x).aon = s.aon := rfl
@[simp] theorem State.setMent_mode (s : State) (n l : Nat) (x : MEnt) : (s.setMent n l x).mode = s.mode := rfl
@[simp] theorem State.setMent_regs (s : State) (n l : Nat) (x : MEnt) : (s.setMent n l x).regs = s.regs := rfl
@[simp] theorem State.setMent_ras (s : State) (n l : Nat) (x : MEnt) : (s.setMent n l x).ras = s.ras := rfl
@[simp] theorem State.setMent_ports (s : State) (n l : Nat) (x : MEnt) : (s.setMent n l x).ports = s.ports := rfl
@[simp] theorem State.setMent_funcs (s : State) (n l : Nat) (x : MEnt) : (s.setMent n l x).funcs = s.funcs := rfl
@[simp] theorem State.setMent_dmas (s : State) (n l : Nat) (x : MEnt) : (s.setMent n l x).dmas = s.dmas := rfl
@[simp] theorem State.setMent_dmaWait (s : State) (n l : Nat) (x : MEnt) : (s.setMent n l x).dmaWait = s.dmaWait := rfl
@[simp] theorem State.setMent_dict (s : State) (n l : Nat) (x : MEnt) : (s.setMent n l x).dict = s.dict := rfl
@[simp] theorem State.setMent_sqs (s : State) (n l : Nat) (x : MEnt) : (s.setMent n l x).sqs = s.sqs := rfl
@[simp] theorem State.setMent_cqs (s : State) (n l : Nat) (x : MEnt) : (s.setMent n l x).cqs = s.cqs := rfl
@[simp] theorem State.setMent_tags (s : State) (n l : Nat) (x : MEnt) : (s.setMent n l x).tags = s.tags := rfl
@[simp] theorem State.setMent_ctrls (s : State) (n l : Nat) (x : MEnt) : (s.setMent n l x).ctrls = s.ctrls := rfl
@[simp] theorem State.setMent_cmds (s : State) (n l : Nat) (x : MEnt) : (s.setMent n l x).cmds = s.cmds := rfl
@[simp] theorem State.setMent_slices (s : State) (n l : Nat) (x : MEnt) : (s.setMent n l x).slices = s.slices := rfl
@[simp] theorem State.setMent_dirty (s : State) (n l : Nat) (x : MEnt) : (s.setMent n l x).dirty = s.dirty := rfl
@[simp] theorem State.setMent_sched (s : State) (n l : Nat) (x : MEnt) : (s.setMent n l x).sched = s.sched := rfl
@[simp] theorem State.setMent_luns (s : State) (n l : Nat) (x : MEnt) : (s.setMent n l x).luns = s.luns := rfl
@[simp] theorem State.setMent_chans (s : State) (n l : Nat) (x : MEnt) : (s.setMent n l x).chans = s.chans := rfl
@[simp] theorem State.setMent_islands (s : State) (n l : Nat) (x : MEnt) : (s.setMent n l x).islands = s.islands := rfl
@[simp] theorem State.setMent_engines (s : State) (n l : Nat) (x : MEnt) : (s.setMent n l x).engines = s.engines := rfl
@[simp] theorem State.setMent_nss (s : State) (n l : Nat) (x : MEnt) : (s.setMent n l x).nss = s.nss := rfl
@[simp] theorem State.setMent_zones (s : State) (n l : Nat) (x : MEnt) : (s.setMent n l x).zones = s.zones := rfl
@[simp] theorem State.setMent_pool (s : State) (n l : Nat) (x : MEnt) : (s.setMent n l x).pool = s.pool := rfl
@[simp] theorem State.setMent_jrn (s : State) (n l : Nat) (x : MEnt) : (s.setMent n l x).jrn = s.jrn := rfl
@[simp] theorem State.setMent_wbuf (s : State) (n l : Nat) (x : MEnt) : (s.setMent n l x).wbuf = s.wbuf := rfl
@[simp] theorem State.setMent_media (s : State) (n l : Nat) (x : MEnt) : (s.setMent n l x).media = s.media := rfl
@[simp] theorem State.setMent_recov (s : State) (n l : Nat) (x : MEnt) : (s.setMent n l x).recov = s.recov := rfl
@[simp] theorem State.setMent_cmp (s : State) (n l : Nat) (x : MEnt) : (s.setMent n l x).cmp = s.cmp := rfl
@[simp] theorem State.setMent_drams (s : State) (n l : Nat) (x : MEnt) : (s.setMent n l x).drams = s.drams := rfl
@[simp] theorem State.setMent_ranks (s : State) (n l : Nat) (x : MEnt) : (s.setMent n l x).ranks = s.ranks := rfl
@[simp] theorem State.setMent_chip (s : State) (n l : Nat) (x : MEnt) : (s.setMent n l x).chip = s.chip := rfl
@[simp] theorem State.setMent_thermal (s : State) (n l : Nat) (x : MEnt) : (s.setMent n l x).thermal = s.thermal := rfl
@[simp] theorem State.setMent_mgmt (s : State) (n l : Nat) (x : MEnt) : (s.setMent n l x).mgmt = s.mgmt := rfl
@[simp] theorem State.setMent_sec (s : State) (n l : Nat) (x : MEnt) : (s.setMent n l x).sec = s.sec := rfl

@[simp] theorem State.setPage_page (s : State) (n p : Nat) (x : Page) : (s.setPage n p x).page n p = x := Tbl.get_set_same _ _ _ _
@[simp] theorem State.setPage_pending (s : State) (n p : Nat) (x : Page) : (s.setPage n p x).pending = s.pending := rfl
@[simp] theorem State.setPage_out (s : State) (n p : Nat) (x : Page) : (s.setPage n p x).out = s.out := rfl
@[simp] theorem State.setPage_aon (s : State) (n p : Nat) (x : Page) : (s.setPage n p x).aon = s.aon := rfl
@[simp] theorem State.setPage_mode (s : State) (n p : Nat) (x : Page) : (s.setPage n p x).mode = s.mode := rfl
@[simp] theorem State.setPage_regs (s : State) (n p : Nat) (x : Page) : (s.setPage n p x).regs = s.regs := rfl
@[simp] theorem State.setPage_ras (s : State) (n p : Nat) (x : Page) : (s.setPage n p x).ras = s.ras := rfl
@[simp] theorem State.setPage_ports (s : State) (n p : Nat) (x : Page) : (s.setPage n p x).ports = s.ports := rfl
@[simp] theorem State.setPage_funcs (s : State) (n p : Nat) (x : Page) : (s.setPage n p x).funcs = s.funcs := rfl
@[simp] theorem State.setPage_dmas (s : State) (n p : Nat) (x : Page) : (s.setPage n p x).dmas = s.dmas := rfl
@[simp] theorem State.setPage_dmaWait (s : State) (n p : Nat) (x : Page) : (s.setPage n p x).dmaWait = s.dmaWait := rfl
@[simp] theorem State.setPage_dict (s : State) (n p : Nat) (x : Page) : (s.setPage n p x).dict = s.dict := rfl
@[simp] theorem State.setPage_sqs (s : State) (n p : Nat) (x : Page) : (s.setPage n p x).sqs = s.sqs := rfl
@[simp] theorem State.setPage_cqs (s : State) (n p : Nat) (x : Page) : (s.setPage n p x).cqs = s.cqs := rfl
@[simp] theorem State.setPage_tags (s : State) (n p : Nat) (x : Page) : (s.setPage n p x).tags = s.tags := rfl
@[simp] theorem State.setPage_ctrls (s : State) (n p : Nat) (x : Page) : (s.setPage n p x).ctrls = s.ctrls := rfl
@[simp] theorem State.setPage_cmds (s : State) (n p : Nat) (x : Page) : (s.setPage n p x).cmds = s.cmds := rfl
@[simp] theorem State.setPage_slices (s : State) (n p : Nat) (x : Page) : (s.setPage n p x).slices = s.slices := rfl
@[simp] theorem State.setPage_dirty (s : State) (n p : Nat) (x : Page) : (s.setPage n p x).dirty = s.dirty := rfl
@[simp] theorem State.setPage_sched (s : State) (n p : Nat) (x : Page) : (s.setPage n p x).sched = s.sched := rfl
@[simp] theorem State.setPage_luns (s : State) (n p : Nat) (x : Page) : (s.setPage n p x).luns = s.luns := rfl
@[simp] theorem State.setPage_chans (s : State) (n p : Nat) (x : Page) : (s.setPage n p x).chans = s.chans := rfl
@[simp] theorem State.setPage_islands (s : State) (n p : Nat) (x : Page) : (s.setPage n p x).islands = s.islands := rfl
@[simp] theorem State.setPage_engines (s : State) (n p : Nat) (x : Page) : (s.setPage n p x).engines = s.engines := rfl
@[simp] theorem State.setPage_nss (s : State) (n p : Nat) (x : Page) : (s.setPage n p x).nss = s.nss := rfl
@[simp] theorem State.setPage_zones (s : State) (n p : Nat) (x : Page) : (s.setPage n p x).zones = s.zones := rfl
@[simp] theorem State.setPage_pool (s : State) (n p : Nat) (x : Page) : (s.setPage n p x).pool = s.pool := rfl
@[simp] theorem State.setPage_jrn (s : State) (n p : Nat) (x : Page) : (s.setPage n p x).jrn = s.jrn := rfl
@[simp] theorem State.setPage_wbuf (s : State) (n p : Nat) (x : Page) : (s.setPage n p x).wbuf = s.wbuf := rfl
@[simp] theorem State.setPage_media (s : State) (n p : Nat) (x : Page) : (s.setPage n p x).media = s.media := rfl
@[simp] theorem State.setPage_recov (s : State) (n p : Nat) (x : Page) : (s.setPage n p x).recov = s.recov := rfl
@[simp] theorem State.setPage_cmp (s : State) (n p : Nat) (x : Page) : (s.setPage n p x).cmp = s.cmp := rfl
@[simp] theorem State.setPage_drams (s : State) (n p : Nat) (x : Page) : (s.setPage n p x).drams = s.drams := rfl
@[simp] theorem State.setPage_ranks (s : State) (n p : Nat) (x : Page) : (s.setPage n p x).ranks = s.ranks := rfl
@[simp] theorem State.setPage_chip (s : State) (n p : Nat) (x : Page) : (s.setPage n p x).chip = s.chip := rfl
@[simp] theorem State.setPage_thermal (s : State) (n p : Nat) (x : Page) : (s.setPage n p x).thermal = s.thermal := rfl
@[simp] theorem State.setPage_mgmt (s : State) (n p : Nat) (x : Page) : (s.setPage n p x).mgmt = s.mgmt := rfl
@[simp] theorem State.setPage_sec (s : State) (n p : Nat) (x : Page) : (s.setPage n p x).sec = s.sec := rfl

@[simp] theorem State.setWblk_wblk (s : State) (k : Nat) (x : WbBlk) : (s.setWblk k x).wblk k = x := Tbl.get_set_same _ _ _ _
@[simp] theorem State.setWblk_pending (s : State) (k : Nat) (x : WbBlk) : (s.setWblk k x).pending = s.pending := rfl
@[simp] theorem State.setWblk_out (s : State) (k : Nat) (x : WbBlk) : (s.setWblk k x).out = s.out := rfl
@[simp] theorem State.setWblk_aon (s : State) (k : Nat) (x : WbBlk) : (s.setWblk k x).aon = s.aon := rfl
@[simp] theorem State.setWblk_mode (s : State) (k : Nat) (x : WbBlk) : (s.setWblk k x).mode = s.mode := rfl
@[simp] theorem State.setWblk_regs (s : State) (k : Nat) (x : WbBlk) : (s.setWblk k x).regs = s.regs := rfl
@[simp] theorem State.setWblk_ras (s : State) (k : Nat) (x : WbBlk) : (s.setWblk k x).ras = s.ras := rfl
@[simp] theorem State.setWblk_ports (s : State) (k : Nat) (x : WbBlk) : (s.setWblk k x).ports = s.ports := rfl
@[simp] theorem State.setWblk_funcs (s : State) (k : Nat) (x : WbBlk) : (s.setWblk k x).funcs = s.funcs := rfl
@[simp] theorem State.setWblk_dmas (s : State) (k : Nat) (x : WbBlk) : (s.setWblk k x).dmas = s.dmas := rfl
@[simp] theorem State.setWblk_dmaWait (s : State) (k : Nat) (x : WbBlk) : (s.setWblk k x).dmaWait = s.dmaWait := rfl
@[simp] theorem State.setWblk_dict (s : State) (k : Nat) (x : WbBlk) : (s.setWblk k x).dict = s.dict := rfl
@[simp] theorem State.setWblk_sqs (s : State) (k : Nat) (x : WbBlk) : (s.setWblk k x).sqs = s.sqs := rfl
@[simp] theorem State.setWblk_cqs (s : State) (k : Nat) (x : WbBlk) : (s.setWblk k x).cqs = s.cqs := rfl
@[simp] theorem State.setWblk_tags (s : State) (k : Nat) (x : WbBlk) : (s.setWblk k x).tags = s.tags := rfl
@[simp] theorem State.setWblk_ctrls (s : State) (k : Nat) (x : WbBlk) : (s.setWblk k x).ctrls = s.ctrls := rfl
@[simp] theorem State.setWblk_cmds (s : State) (k : Nat) (x : WbBlk) : (s.setWblk k x).cmds = s.cmds := rfl
@[simp] theorem State.setWblk_slices (s : State) (k : Nat) (x : WbBlk) : (s.setWblk k x).slices = s.slices := rfl
@[simp] theorem State.setWblk_dirty (s : State) (k : Nat) (x : WbBlk) : (s.setWblk k x).dirty = s.dirty := rfl
@[simp] theorem State.setWblk_sched (s : State) (k : Nat) (x : WbBlk) : (s.setWblk k x).sched = s.sched := rfl
@[simp] theorem State.setWblk_luns (s : State) (k : Nat) (x : WbBlk) : (s.setWblk k x).luns = s.luns := rfl
@[simp] theorem State.setWblk_chans (s : State) (k : Nat) (x : WbBlk) : (s.setWblk k x).chans = s.chans := rfl
@[simp] theorem State.setWblk_islands (s : State) (k : Nat) (x : WbBlk) : (s.setWblk k x).islands = s.islands := rfl
@[simp] theorem State.setWblk_engines (s : State) (k : Nat) (x : WbBlk) : (s.setWblk k x).engines = s.engines := rfl
@[simp] theorem State.setWblk_nss (s : State) (k : Nat) (x : WbBlk) : (s.setWblk k x).nss = s.nss := rfl
@[simp] theorem State.setWblk_zones (s : State) (k : Nat) (x : WbBlk) : (s.setWblk k x).zones = s.zones := rfl
@[simp] theorem State.setWblk_pool (s : State) (k : Nat) (x : WbBlk) : (s.setWblk k x).pool = s.pool := rfl
@[simp] theorem State.setWblk_map (s : State) (k : Nat) (x : WbBlk) : (s.setWblk k x).map = s.map := rfl
@[simp] theorem State.setWblk_jrn (s : State) (k : Nat) (x : WbBlk) : (s.setWblk k x).jrn = s.jrn := rfl
@[simp] theorem State.setWblk_media (s : State) (k : Nat) (x : WbBlk) : (s.setWblk k x).media = s.media := rfl
@[simp] theorem State.setWblk_recov (s : State) (k : Nat) (x : WbBlk) : (s.setWblk k x).recov = s.recov := rfl
@[simp] theorem State.setWblk_cmp (s : State) (k : Nat) (x : WbBlk) : (s.setWblk k x).cmp = s.cmp := rfl
@[simp] theorem State.setWblk_drams (s : State) (k : Nat) (x : WbBlk) : (s.setWblk k x).drams = s.drams := rfl
@[simp] theorem State.setWblk_ranks (s : State) (k : Nat) (x : WbBlk) : (s.setWblk k x).ranks = s.ranks := rfl
@[simp] theorem State.setWblk_chip (s : State) (k : Nat) (x : WbBlk) : (s.setWblk k x).chip = s.chip := rfl
@[simp] theorem State.setWblk_thermal (s : State) (k : Nat) (x : WbBlk) : (s.setWblk k x).thermal = s.thermal := rfl
@[simp] theorem State.setWblk_mgmt (s : State) (k : Nat) (x : WbBlk) : (s.setWblk k x).mgmt = s.mgmt := rfl
@[simp] theorem State.setWblk_sec (s : State) (k : Nat) (x : WbBlk) : (s.setWblk k x).sec = s.sec := rfl

@[simp] theorem State.setSb_sb (s : State) (k : Nat) (x : Sb) : (s.setSb k x).sb k = x := Tbl.get_set_same _ _ _ _
@[simp] theorem State.setSb_pending (s : State) (k : Nat) (x : Sb) : (s.setSb k x).pending = s.pending := rfl
@[simp] theorem State.setSb_out (s : State) (k : Nat) (x : Sb) : (s.setSb k x).out = s.out := rfl
@[simp] theorem State.setSb_aon (s : State) (k : Nat) (x : Sb) : (s.setSb k x).aon = s.aon := rfl
@[simp] theorem State.setSb_mode (s : State) (k : Nat) (x : Sb) : (s.setSb k x).mode = s.mode := rfl
@[simp] theorem State.setSb_regs (s : State) (k : Nat) (x : Sb) : (s.setSb k x).regs = s.regs := rfl
@[simp] theorem State.setSb_ras (s : State) (k : Nat) (x : Sb) : (s.setSb k x).ras = s.ras := rfl
@[simp] theorem State.setSb_ports (s : State) (k : Nat) (x : Sb) : (s.setSb k x).ports = s.ports := rfl
@[simp] theorem State.setSb_funcs (s : State) (k : Nat) (x : Sb) : (s.setSb k x).funcs = s.funcs := rfl
@[simp] theorem State.setSb_dmas (s : State) (k : Nat) (x : Sb) : (s.setSb k x).dmas = s.dmas := rfl
@[simp] theorem State.setSb_dmaWait (s : State) (k : Nat) (x : Sb) : (s.setSb k x).dmaWait = s.dmaWait := rfl
@[simp] theorem State.setSb_dict (s : State) (k : Nat) (x : Sb) : (s.setSb k x).dict = s.dict := rfl
@[simp] theorem State.setSb_sqs (s : State) (k : Nat) (x : Sb) : (s.setSb k x).sqs = s.sqs := rfl
@[simp] theorem State.setSb_cqs (s : State) (k : Nat) (x : Sb) : (s.setSb k x).cqs = s.cqs := rfl
@[simp] theorem State.setSb_tags (s : State) (k : Nat) (x : Sb) : (s.setSb k x).tags = s.tags := rfl
@[simp] theorem State.setSb_ctrls (s : State) (k : Nat) (x : Sb) : (s.setSb k x).ctrls = s.ctrls := rfl
@[simp] theorem State.setSb_cmds (s : State) (k : Nat) (x : Sb) : (s.setSb k x).cmds = s.cmds := rfl
@[simp] theorem State.setSb_slices (s : State) (k : Nat) (x : Sb) : (s.setSb k x).slices = s.slices := rfl
@[simp] theorem State.setSb_dirty (s : State) (k : Nat) (x : Sb) : (s.setSb k x).dirty = s.dirty := rfl
@[simp] theorem State.setSb_sched (s : State) (k : Nat) (x : Sb) : (s.setSb k x).sched = s.sched := rfl
@[simp] theorem State.setSb_luns (s : State) (k : Nat) (x : Sb) : (s.setSb k x).luns = s.luns := rfl
@[simp] theorem State.setSb_chans (s : State) (k : Nat) (x : Sb) : (s.setSb k x).chans = s.chans := rfl
@[simp] theorem State.setSb_islands (s : State) (k : Nat) (x : Sb) : (s.setSb k x).islands = s.islands := rfl
@[simp] theorem State.setSb_engines (s : State) (k : Nat) (x : Sb) : (s.setSb k x).engines = s.engines := rfl
@[simp] theorem State.setSb_nss (s : State) (k : Nat) (x : Sb) : (s.setSb k x).nss = s.nss := rfl
@[simp] theorem State.setSb_zones (s : State) (k : Nat) (x : Sb) : (s.setSb k x).zones = s.zones := rfl
@[simp] theorem State.setSb_pool (s : State) (k : Nat) (x : Sb) : (s.setSb k x).pool = s.pool := rfl
@[simp] theorem State.setSb_map (s : State) (k : Nat) (x : Sb) : (s.setSb k x).map = s.map := rfl
@[simp] theorem State.setSb_jrn (s : State) (k : Nat) (x : Sb) : (s.setSb k x).jrn = s.jrn := rfl
@[simp] theorem State.setSb_wbuf (s : State) (k : Nat) (x : Sb) : (s.setSb k x).wbuf = s.wbuf := rfl
@[simp] theorem State.setSb_recov (s : State) (k : Nat) (x : Sb) : (s.setSb k x).recov = s.recov := rfl
@[simp] theorem State.setSb_cmp (s : State) (k : Nat) (x : Sb) : (s.setSb k x).cmp = s.cmp := rfl
@[simp] theorem State.setSb_drams (s : State) (k : Nat) (x : Sb) : (s.setSb k x).drams = s.drams := rfl
@[simp] theorem State.setSb_ranks (s : State) (k : Nat) (x : Sb) : (s.setSb k x).ranks = s.ranks := rfl
@[simp] theorem State.setSb_chip (s : State) (k : Nat) (x : Sb) : (s.setSb k x).chip = s.chip := rfl
@[simp] theorem State.setSb_thermal (s : State) (k : Nat) (x : Sb) : (s.setSb k x).thermal = s.thermal := rfl
@[simp] theorem State.setSb_mgmt (s : State) (k : Nat) (x : Sb) : (s.setSb k x).mgmt = s.mgmt := rfl
@[simp] theorem State.setSb_sec (s : State) (k : Nat) (x : Sb) : (s.setSb k x).sec = s.sec := rfl

@[simp] theorem State.setProg_prog (s : State) (k : Nat) (x : Prog) : (s.setProg k x).prog k = x := Tbl.get_set_same _ _ _ _
@[simp] theorem State.setProg_pending (s : State) (k : Nat) (x : Prog) : (s.setProg k x).pending = s.pending := rfl
@[simp] theorem State.setProg_out (s : State) (k : Nat) (x : Prog) : (s.setProg k x).out = s.out := rfl
@[simp] theorem State.setProg_aon (s : State) (k : Nat) (x : Prog) : (s.setProg k x).aon = s.aon := rfl
@[simp] theorem State.setProg_mode (s : State) (k : Nat) (x : Prog) : (s.setProg k x).mode = s.mode := rfl
@[simp] theorem State.setProg_regs (s : State) (k : Nat) (x : Prog) : (s.setProg k x).regs = s.regs := rfl
@[simp] theorem State.setProg_ras (s : State) (k : Nat) (x : Prog) : (s.setProg k x).ras = s.ras := rfl
@[simp] theorem State.setProg_ports (s : State) (k : Nat) (x : Prog) : (s.setProg k x).ports = s.ports := rfl
@[simp] theorem State.setProg_funcs (s : State) (k : Nat) (x : Prog) : (s.setProg k x).funcs = s.funcs := rfl
@[simp] theorem State.setProg_dmas (s : State) (k : Nat) (x : Prog) : (s.setProg k x).dmas = s.dmas := rfl
@[simp] theorem State.setProg_dmaWait (s : State) (k : Nat) (x : Prog) : (s.setProg k x).dmaWait = s.dmaWait := rfl
@[simp] theorem State.setProg_dict (s : State) (k : Nat) (x : Prog) : (s.setProg k x).dict = s.dict := rfl
@[simp] theorem State.setProg_sqs (s : State) (k : Nat) (x : Prog) : (s.setProg k x).sqs = s.sqs := rfl
@[simp] theorem State.setProg_cqs (s : State) (k : Nat) (x : Prog) : (s.setProg k x).cqs = s.cqs := rfl
@[simp] theorem State.setProg_tags (s : State) (k : Nat) (x : Prog) : (s.setProg k x).tags = s.tags := rfl
@[simp] theorem State.setProg_ctrls (s : State) (k : Nat) (x : Prog) : (s.setProg k x).ctrls = s.ctrls := rfl
@[simp] theorem State.setProg_cmds (s : State) (k : Nat) (x : Prog) : (s.setProg k x).cmds = s.cmds := rfl
@[simp] theorem State.setProg_slices (s : State) (k : Nat) (x : Prog) : (s.setProg k x).slices = s.slices := rfl
@[simp] theorem State.setProg_dirty (s : State) (k : Nat) (x : Prog) : (s.setProg k x).dirty = s.dirty := rfl
@[simp] theorem State.setProg_sched (s : State) (k : Nat) (x : Prog) : (s.setProg k x).sched = s.sched := rfl
@[simp] theorem State.setProg_luns (s : State) (k : Nat) (x : Prog) : (s.setProg k x).luns = s.luns := rfl
@[simp] theorem State.setProg_chans (s : State) (k : Nat) (x : Prog) : (s.setProg k x).chans = s.chans := rfl
@[simp] theorem State.setProg_islands (s : State) (k : Nat) (x : Prog) : (s.setProg k x).islands = s.islands := rfl
@[simp] theorem State.setProg_engines (s : State) (k : Nat) (x : Prog) : (s.setProg k x).engines = s.engines := rfl
@[simp] theorem State.setProg_nss (s : State) (k : Nat) (x : Prog) : (s.setProg k x).nss = s.nss := rfl
@[simp] theorem State.setProg_zones (s : State) (k : Nat) (x : Prog) : (s.setProg k x).zones = s.zones := rfl
@[simp] theorem State.setProg_pool (s : State) (k : Nat) (x : Prog) : (s.setProg k x).pool = s.pool := rfl
@[simp] theorem State.setProg_map (s : State) (k : Nat) (x : Prog) : (s.setProg k x).map = s.map := rfl
@[simp] theorem State.setProg_jrn (s : State) (k : Nat) (x : Prog) : (s.setProg k x).jrn = s.jrn := rfl
@[simp] theorem State.setProg_wbuf (s : State) (k : Nat) (x : Prog) : (s.setProg k x).wbuf = s.wbuf := rfl
@[simp] theorem State.setProg_recov (s : State) (k : Nat) (x : Prog) : (s.setProg k x).recov = s.recov := rfl
@[simp] theorem State.setProg_cmp (s : State) (k : Nat) (x : Prog) : (s.setProg k x).cmp = s.cmp := rfl
@[simp] theorem State.setProg_drams (s : State) (k : Nat) (x : Prog) : (s.setProg k x).drams = s.drams := rfl
@[simp] theorem State.setProg_ranks (s : State) (k : Nat) (x : Prog) : (s.setProg k x).ranks = s.ranks := rfl
@[simp] theorem State.setProg_chip (s : State) (k : Nat) (x : Prog) : (s.setProg k x).chip = s.chip := rfl
@[simp] theorem State.setProg_thermal (s : State) (k : Nat) (x : Prog) : (s.setProg k x).thermal = s.thermal := rfl
@[simp] theorem State.setProg_mgmt (s : State) (k : Nat) (x : Prog) : (s.setProg k x).mgmt = s.mgmt := rfl
@[simp] theorem State.setProg_sec (s : State) (k : Nat) (x : Prog) : (s.setProg k x).sec = s.sec := rfl

@[simp] theorem State.setDram_dram (s : State) (k : Nat) (x : Dram) : (s.setDram k x).dram k = x := Tbl.get_set_same _ _ _ _
@[simp] theorem State.setDram_pending (s : State) (k : Nat) (x : Dram) : (s.setDram k x).pending = s.pending := rfl
@[simp] theorem State.setDram_out (s : State) (k : Nat) (x : Dram) : (s.setDram k x).out = s.out := rfl
@[simp] theorem State.setDram_aon (s : State) (k : Nat) (x : Dram) : (s.setDram k x).aon = s.aon := rfl
@[simp] theorem State.setDram_mode (s : State) (k : Nat) (x : Dram) : (s.setDram k x).mode = s.mode := rfl
@[simp] theorem State.setDram_regs (s : State) (k : Nat) (x : Dram) : (s.setDram k x).regs = s.regs := rfl
@[simp] theorem State.setDram_ras (s : State) (k : Nat) (x : Dram) : (s.setDram k x).ras = s.ras := rfl
@[simp] theorem State.setDram_ports (s : State) (k : Nat) (x : Dram) : (s.setDram k x).ports = s.ports := rfl
@[simp] theorem State.setDram_funcs (s : State) (k : Nat) (x : Dram) : (s.setDram k x).funcs = s.funcs := rfl
@[simp] theorem State.setDram_dmas (s : State) (k : Nat) (x : Dram) : (s.setDram k x).dmas = s.dmas := rfl
@[simp] theorem State.setDram_dmaWait (s : State) (k : Nat) (x : Dram) : (s.setDram k x).dmaWait = s.dmaWait := rfl
@[simp] theorem State.setDram_dict (s : State) (k : Nat) (x : Dram) : (s.setDram k x).dict = s.dict := rfl
@[simp] theorem State.setDram_sqs (s : State) (k : Nat) (x : Dram) : (s.setDram k x).sqs = s.sqs := rfl
@[simp] theorem State.setDram_cqs (s : State) (k : Nat) (x : Dram) : (s.setDram k x).cqs = s.cqs := rfl
@[simp] theorem State.setDram_tags (s : State) (k : Nat) (x : Dram) : (s.setDram k x).tags = s.tags := rfl
@[simp] theorem State.setDram_ctrls (s : State) (k : Nat) (x : Dram) : (s.setDram k x).ctrls = s.ctrls := rfl
@[simp] theorem State.setDram_cmds (s : State) (k : Nat) (x : Dram) : (s.setDram k x).cmds = s.cmds := rfl
@[simp] theorem State.setDram_slices (s : State) (k : Nat) (x : Dram) : (s.setDram k x).slices = s.slices := rfl
@[simp] theorem State.setDram_dirty (s : State) (k : Nat) (x : Dram) : (s.setDram k x).dirty = s.dirty := rfl
@[simp] theorem State.setDram_sched (s : State) (k : Nat) (x : Dram) : (s.setDram k x).sched = s.sched := rfl
@[simp] theorem State.setDram_luns (s : State) (k : Nat) (x : Dram) : (s.setDram k x).luns = s.luns := rfl
@[simp] theorem State.setDram_chans (s : State) (k : Nat) (x : Dram) : (s.setDram k x).chans = s.chans := rfl
@[simp] theorem State.setDram_islands (s : State) (k : Nat) (x : Dram) : (s.setDram k x).islands = s.islands := rfl
@[simp] theorem State.setDram_engines (s : State) (k : Nat) (x : Dram) : (s.setDram k x).engines = s.engines := rfl
@[simp] theorem State.setDram_nss (s : State) (k : Nat) (x : Dram) : (s.setDram k x).nss = s.nss := rfl
@[simp] theorem State.setDram_zones (s : State) (k : Nat) (x : Dram) : (s.setDram k x).zones = s.zones := rfl
@[simp] theorem State.setDram_pool (s : State) (k : Nat) (x : Dram) : (s.setDram k x).pool = s.pool := rfl
@[simp] theorem State.setDram_map (s : State) (k : Nat) (x : Dram) : (s.setDram k x).map = s.map := rfl
@[simp] theorem State.setDram_jrn (s : State) (k : Nat) (x : Dram) : (s.setDram k x).jrn = s.jrn := rfl
@[simp] theorem State.setDram_wbuf (s : State) (k : Nat) (x : Dram) : (s.setDram k x).wbuf = s.wbuf := rfl
@[simp] theorem State.setDram_media (s : State) (k : Nat) (x : Dram) : (s.setDram k x).media = s.media := rfl
@[simp] theorem State.setDram_recov (s : State) (k : Nat) (x : Dram) : (s.setDram k x).recov = s.recov := rfl
@[simp] theorem State.setDram_cmp (s : State) (k : Nat) (x : Dram) : (s.setDram k x).cmp = s.cmp := rfl
@[simp] theorem State.setDram_ranks (s : State) (k : Nat) (x : Dram) : (s.setDram k x).ranks = s.ranks := rfl
@[simp] theorem State.setDram_chip (s : State) (k : Nat) (x : Dram) : (s.setDram k x).chip = s.chip := rfl
@[simp] theorem State.setDram_thermal (s : State) (k : Nat) (x : Dram) : (s.setDram k x).thermal = s.thermal := rfl
@[simp] theorem State.setDram_mgmt (s : State) (k : Nat) (x : Dram) : (s.setDram k x).mgmt = s.mgmt := rfl
@[simp] theorem State.setDram_sec (s : State) (k : Nat) (x : Dram) : (s.setDram k x).sec = s.sec := rfl

@[simp] theorem State.setSensor_sensor (s : State) (k : Nat) (x : Sensor) : (s.setSensor k x).sensor k = x := Tbl.get_set_same _ _ _ _
@[simp] theorem State.setSensor_pending (s : State) (k : Nat) (x : Sensor) : (s.setSensor k x).pending = s.pending := rfl
@[simp] theorem State.setSensor_out (s : State) (k : Nat) (x : Sensor) : (s.setSensor k x).out = s.out := rfl
@[simp] theorem State.setSensor_aon (s : State) (k : Nat) (x : Sensor) : (s.setSensor k x).aon = s.aon := rfl
@[simp] theorem State.setSensor_mode (s : State) (k : Nat) (x : Sensor) : (s.setSensor k x).mode = s.mode := rfl
@[simp] theorem State.setSensor_regs (s : State) (k : Nat) (x : Sensor) : (s.setSensor k x).regs = s.regs := rfl
@[simp] theorem State.setSensor_ras (s : State) (k : Nat) (x : Sensor) : (s.setSensor k x).ras = s.ras := rfl
@[simp] theorem State.setSensor_ports (s : State) (k : Nat) (x : Sensor) : (s.setSensor k x).ports = s.ports := rfl
@[simp] theorem State.setSensor_funcs (s : State) (k : Nat) (x : Sensor) : (s.setSensor k x).funcs = s.funcs := rfl
@[simp] theorem State.setSensor_dmas (s : State) (k : Nat) (x : Sensor) : (s.setSensor k x).dmas = s.dmas := rfl
@[simp] theorem State.setSensor_dmaWait (s : State) (k : Nat) (x : Sensor) : (s.setSensor k x).dmaWait = s.dmaWait := rfl
@[simp] theorem State.setSensor_dict (s : State) (k : Nat) (x : Sensor) : (s.setSensor k x).dict = s.dict := rfl
@[simp] theorem State.setSensor_sqs (s : State) (k : Nat) (x : Sensor) : (s.setSensor k x).sqs = s.sqs := rfl
@[simp] theorem State.setSensor_cqs (s : State) (k : Nat) (x : Sensor) : (s.setSensor k x).cqs = s.cqs := rfl
@[simp] theorem State.setSensor_tags (s : State) (k : Nat) (x : Sensor) : (s.setSensor k x).tags = s.tags := rfl
@[simp] theorem State.setSensor_ctrls (s : State) (k : Nat) (x : Sensor) : (s.setSensor k x).ctrls = s.ctrls := rfl
@[simp] theorem State.setSensor_cmds (s : State) (k : Nat) (x : Sensor) : (s.setSensor k x).cmds = s.cmds := rfl
@[simp] theorem State.setSensor_slices (s : State) (k : Nat) (x : Sensor) : (s.setSensor k x).slices = s.slices := rfl
@[simp] theorem State.setSensor_dirty (s : State) (k : Nat) (x : Sensor) : (s.setSensor k x).dirty = s.dirty := rfl
@[simp] theorem State.setSensor_sched (s : State) (k : Nat) (x : Sensor) : (s.setSensor k x).sched = s.sched := rfl
@[simp] theorem State.setSensor_luns (s : State) (k : Nat) (x : Sensor) : (s.setSensor k x).luns = s.luns := rfl
@[simp] theorem State.setSensor_chans (s : State) (k : Nat) (x : Sensor) : (s.setSensor k x).chans = s.chans := rfl
@[simp] theorem State.setSensor_islands (s : State) (k : Nat) (x : Sensor) : (s.setSensor k x).islands = s.islands := rfl
@[simp] theorem State.setSensor_engines (s : State) (k : Nat) (x : Sensor) : (s.setSensor k x).engines = s.engines := rfl
@[simp] theorem State.setSensor_nss (s : State) (k : Nat) (x : Sensor) : (s.setSensor k x).nss = s.nss := rfl
@[simp] theorem State.setSensor_zones (s : State) (k : Nat) (x : Sensor) : (s.setSensor k x).zones = s.zones := rfl
@[simp] theorem State.setSensor_pool (s : State) (k : Nat) (x : Sensor) : (s.setSensor k x).pool = s.pool := rfl
@[simp] theorem State.setSensor_map (s : State) (k : Nat) (x : Sensor) : (s.setSensor k x).map = s.map := rfl
@[simp] theorem State.setSensor_jrn (s : State) (k : Nat) (x : Sensor) : (s.setSensor k x).jrn = s.jrn := rfl
@[simp] theorem State.setSensor_wbuf (s : State) (k : Nat) (x : Sensor) : (s.setSensor k x).wbuf = s.wbuf := rfl
@[simp] theorem State.setSensor_media (s : State) (k : Nat) (x : Sensor) : (s.setSensor k x).media = s.media := rfl
@[simp] theorem State.setSensor_recov (s : State) (k : Nat) (x : Sensor) : (s.setSensor k x).recov = s.recov := rfl
@[simp] theorem State.setSensor_cmp (s : State) (k : Nat) (x : Sensor) : (s.setSensor k x).cmp = s.cmp := rfl
@[simp] theorem State.setSensor_drams (s : State) (k : Nat) (x : Sensor) : (s.setSensor k x).drams = s.drams := rfl
@[simp] theorem State.setSensor_ranks (s : State) (k : Nat) (x : Sensor) : (s.setSensor k x).ranks = s.ranks := rfl
@[simp] theorem State.setSensor_chip (s : State) (k : Nat) (x : Sensor) : (s.setSensor k x).chip = s.chip := rfl
@[simp] theorem State.setSensor_mgmt (s : State) (k : Nat) (x : Sensor) : (s.setSensor k x).mgmt = s.mgmt := rfl
@[simp] theorem State.setSensor_sec (s : State) (k : Nat) (x : Sensor) : (s.setSensor k x).sec = s.sec := rfl

@[simp] theorem State.setTzone_tzone (s : State) (k : Nat) (x : TZone) : (s.setTzone k x).tzone k = x := Tbl.get_set_same _ _ _ _
@[simp] theorem State.setTzone_pending (s : State) (k : Nat) (x : TZone) : (s.setTzone k x).pending = s.pending := rfl
@[simp] theorem State.setTzone_out (s : State) (k : Nat) (x : TZone) : (s.setTzone k x).out = s.out := rfl
@[simp] theorem State.setTzone_aon (s : State) (k : Nat) (x : TZone) : (s.setTzone k x).aon = s.aon := rfl
@[simp] theorem State.setTzone_mode (s : State) (k : Nat) (x : TZone) : (s.setTzone k x).mode = s.mode := rfl
@[simp] theorem State.setTzone_regs (s : State) (k : Nat) (x : TZone) : (s.setTzone k x).regs = s.regs := rfl
@[simp] theorem State.setTzone_ras (s : State) (k : Nat) (x : TZone) : (s.setTzone k x).ras = s.ras := rfl
@[simp] theorem State.setTzone_ports (s : State) (k : Nat) (x : TZone) : (s.setTzone k x).ports = s.ports := rfl
@[simp] theorem State.setTzone_funcs (s : State) (k : Nat) (x : TZone) : (s.setTzone k x).funcs = s.funcs := rfl
@[simp] theorem State.setTzone_dmas (s : State) (k : Nat) (x : TZone) : (s.setTzone k x).dmas = s.dmas := rfl
@[simp] theorem State.setTzone_dmaWait (s : State) (k : Nat) (x : TZone) : (s.setTzone k x).dmaWait = s.dmaWait := rfl
@[simp] theorem State.setTzone_dict (s : State) (k : Nat) (x : TZone) : (s.setTzone k x).dict = s.dict := rfl
@[simp] theorem State.setTzone_sqs (s : State) (k : Nat) (x : TZone) : (s.setTzone k x).sqs = s.sqs := rfl
@[simp] theorem State.setTzone_cqs (s : State) (k : Nat) (x : TZone) : (s.setTzone k x).cqs = s.cqs := rfl
@[simp] theorem State.setTzone_tags (s : State) (k : Nat) (x : TZone) : (s.setTzone k x).tags = s.tags := rfl
@[simp] theorem State.setTzone_ctrls (s : State) (k : Nat) (x : TZone) : (s.setTzone k x).ctrls = s.ctrls := rfl
@[simp] theorem State.setTzone_cmds (s : State) (k : Nat) (x : TZone) : (s.setTzone k x).cmds = s.cmds := rfl
@[simp] theorem State.setTzone_slices (s : State) (k : Nat) (x : TZone) : (s.setTzone k x).slices = s.slices := rfl
@[simp] theorem State.setTzone_dirty (s : State) (k : Nat) (x : TZone) : (s.setTzone k x).dirty = s.dirty := rfl
@[simp] theorem State.setTzone_sched (s : State) (k : Nat) (x : TZone) : (s.setTzone k x).sched = s.sched := rfl
@[simp] theorem State.setTzone_luns (s : State) (k : Nat) (x : TZone) : (s.setTzone k x).luns = s.luns := rfl
@[simp] theorem State.setTzone_chans (s : State) (k : Nat) (x : TZone) : (s.setTzone k x).chans = s.chans := rfl
@[simp] theorem State.setTzone_islands (s : State) (k : Nat) (x : TZone) : (s.setTzone k x).islands = s.islands := rfl
@[simp] theorem State.setTzone_engines (s : State) (k : Nat) (x : TZone) : (s.setTzone k x).engines = s.engines := rfl
@[simp] theorem State.setTzone_nss (s : State) (k : Nat) (x : TZone) : (s.setTzone k x).nss = s.nss := rfl
@[simp] theorem State.setTzone_zones (s : State) (k : Nat) (x : TZone) : (s.setTzone k x).zones = s.zones := rfl
@[simp] theorem State.setTzone_pool (s : State) (k : Nat) (x : TZone) : (s.setTzone k x).pool = s.pool := rfl
@[simp] theorem State.setTzone_map (s : State) (k : Nat) (x : TZone) : (s.setTzone k x).map = s.map := rfl
@[simp] theorem State.setTzone_jrn (s : State) (k : Nat) (x : TZone) : (s.setTzone k x).jrn = s.jrn := rfl
@[simp] theorem State.setTzone_wbuf (s : State) (k : Nat) (x : TZone) : (s.setTzone k x).wbuf = s.wbuf := rfl
@[simp] theorem State.setTzone_media (s : State) (k : Nat) (x : TZone) : (s.setTzone k x).media = s.media := rfl
@[simp] theorem State.setTzone_recov (s : State) (k : Nat) (x : TZone) : (s.setTzone k x).recov = s.recov := rfl
@[simp] theorem State.setTzone_cmp (s : State) (k : Nat) (x : TZone) : (s.setTzone k x).cmp = s.cmp := rfl
@[simp] theorem State.setTzone_drams (s : State) (k : Nat) (x : TZone) : (s.setTzone k x).drams = s.drams := rfl
@[simp] theorem State.setTzone_ranks (s : State) (k : Nat) (x : TZone) : (s.setTzone k x).ranks = s.ranks := rfl
@[simp] theorem State.setTzone_chip (s : State) (k : Nat) (x : TZone) : (s.setTzone k x).chip = s.chip := rfl
@[simp] theorem State.setTzone_mgmt (s : State) (k : Nat) (x : TZone) : (s.setTzone k x).mgmt = s.mgmt := rfl
@[simp] theorem State.setTzone_sec (s : State) (k : Nat) (x : TZone) : (s.setTzone k x).sec = s.sec := rfl

/-! ### Another unit of the same kind -/

theorem State.setPort_port_ne (s : State) {j k : Nat} (x : Port) (h : j ≠ k) : (s.setPort j x).port k = s.port k := Tbl.get_set_ne _ _ _ h
theorem State.setTag_tag_ne (s : State) {j k : Nat} (x : Tag) (h : j ≠ k) : (s.setTag j x).tag k = s.tag k := Tbl.get_set_ne _ _ _ h
theorem State.setCtrl_ctrl_ne (s : State) {j k : Nat} (x : Ctrl) (h : j ≠ k) : (s.setCtrl j x).ctrl k = s.ctrl k := Tbl.get_set_ne _ _ _ h
theorem State.setSlice_slice_ne (s : State) {j k : Nat} (x : Slice) (h : j ≠ k) : (s.setSlice j x).slice k = s.slice k := Tbl.get_set_ne _ _ _ h
theorem State.setChan_chan_ne (s : State) {j k : Nat} (x : Chan) (h : j ≠ k) : (s.setChan j x).chan k = s.chan k := Tbl.get_set_ne _ _ _ h
theorem State.setIsland_island_ne (s : State) {j k : Nat} (x : Island) (h : j ≠ k) : (s.setIsland j x).island k = s.island k := Tbl.get_set_ne _ _ _ h
theorem State.setEngine_engine_ne (s : State) {j k : Nat} (x : Engine) (h : j ≠ k) : (s.setEngine j x).engine k = s.engine k := Tbl.get_set_ne _ _ _ h
theorem State.setNs_ns_ne (s : State) {j k : Nat} (x : Ns) (h : j ≠ k) : (s.setNs j x).ns k = s.ns k := Tbl.get_set_ne _ _ _ h
theorem State.setDram_dram_ne (s : State) {j k : Nat} (x : Dram) (h : j ≠ k) : (s.setDram j x).dram k = s.dram k := Tbl.get_set_ne _ _ _ h
theorem State.setWblk_wblk_ne (s : State) {j k : Nat} (x : WbBlk) (h : j ≠ k) : (s.setWblk j x).wblk k = s.wblk k := Tbl.get_set_ne _ _ _ h
theorem State.setSb_sb_ne (s : State) {j k : Nat} (x : Sb) (h : j ≠ k) : (s.setSb j x).sb k = s.sb k := Tbl.get_set_ne _ _ _ h
theorem State.setProg_prog_ne (s : State) {j k : Nat} (x : Prog) (h : j ≠ k) : (s.setProg j x).prog k = s.prog k := Tbl.get_set_ne _ _ _ h
theorem State.setSensor_sensor_ne (s : State) {j k : Nat} (x : Sensor) (h : j ≠ k) : (s.setSensor j x).sensor k = s.sensor k := Tbl.get_set_ne _ _ _ h
theorem State.setTzone_tzone_ne (s : State) {j k : Nat} (x : TZone) (h : j ≠ k) : (s.setTzone j x).tzone k = s.tzone k := Tbl.get_set_ne _ _ _ h

@[simp] theorem State.emit_out (s : State) (o : Out) : (s.emit o).out = s.out ++ [o] := rfl
@[simp] theorem State.emit_pending (s : State) (o : Out) : (s.emit o).pending = s.pending := rfl
@[simp] theorem State.emit_aon (s : State) (o : Out) : (s.emit o).aon = s.aon := rfl
@[simp] theorem State.emit_mode (s : State) (o : Out) : (s.emit o).mode = s.mode := rfl
@[simp] theorem State.emit_regs (s : State) (o : Out) : (s.emit o).regs = s.regs := rfl
@[simp] theorem State.emit_ras (s : State) (o : Out) : (s.emit o).ras = s.ras := rfl
@[simp] theorem State.emit_ports (s : State) (o : Out) : (s.emit o).ports = s.ports := rfl
@[simp] theorem State.emit_funcs (s : State) (o : Out) : (s.emit o).funcs = s.funcs := rfl
@[simp] theorem State.emit_dmas (s : State) (o : Out) : (s.emit o).dmas = s.dmas := rfl
@[simp] theorem State.emit_dmaWait (s : State) (o : Out) : (s.emit o).dmaWait = s.dmaWait := rfl
@[simp] theorem State.emit_dict (s : State) (o : Out) : (s.emit o).dict = s.dict := rfl
@[simp] theorem State.emit_sqs (s : State) (o : Out) : (s.emit o).sqs = s.sqs := rfl
@[simp] theorem State.emit_cqs (s : State) (o : Out) : (s.emit o).cqs = s.cqs := rfl
@[simp] theorem State.emit_tags (s : State) (o : Out) : (s.emit o).tags = s.tags := rfl
@[simp] theorem State.emit_ctrls (s : State) (o : Out) : (s.emit o).ctrls = s.ctrls := rfl
@[simp] theorem State.emit_cmds (s : State) (o : Out) : (s.emit o).cmds = s.cmds := rfl
@[simp] theorem State.emit_slices (s : State) (o : Out) : (s.emit o).slices = s.slices := rfl
@[simp] theorem State.emit_dirty (s : State) (o : Out) : (s.emit o).dirty = s.dirty := rfl
@[simp] theorem State.emit_sched (s : State) (o : Out) : (s.emit o).sched = s.sched := rfl
@[simp] theorem State.emit_luns (s : State) (o : Out) : (s.emit o).luns = s.luns := rfl
@[simp] theorem State.emit_chans (s : State) (o : Out) : (s.emit o).chans = s.chans := rfl
@[simp] theorem State.emit_islands (s : State) (o : Out) : (s.emit o).islands = s.islands := rfl
@[simp] theorem State.emit_engines (s : State) (o : Out) : (s.emit o).engines = s.engines := rfl
@[simp] theorem State.emit_nss (s : State) (o : Out) : (s.emit o).nss = s.nss := rfl
@[simp] theorem State.emit_zones (s : State) (o : Out) : (s.emit o).zones = s.zones := rfl
@[simp] theorem State.emit_pool (s : State) (o : Out) : (s.emit o).pool = s.pool := rfl
@[simp] theorem State.emit_map (s : State) (o : Out) : (s.emit o).map = s.map := rfl
@[simp] theorem State.emit_jrn (s : State) (o : Out) : (s.emit o).jrn = s.jrn := rfl
@[simp] theorem State.emit_wbuf (s : State) (o : Out) : (s.emit o).wbuf = s.wbuf := rfl
@[simp] theorem State.emit_media (s : State) (o : Out) : (s.emit o).media = s.media := rfl
@[simp] theorem State.emit_recov (s : State) (o : Out) : (s.emit o).recov = s.recov := rfl
@[simp] theorem State.emit_cmp (s : State) (o : Out) : (s.emit o).cmp = s.cmp := rfl
@[simp] theorem State.emit_drams (s : State) (o : Out) : (s.emit o).drams = s.drams := rfl
@[simp] theorem State.emit_ranks (s : State) (o : Out) : (s.emit o).ranks = s.ranks := rfl
@[simp] theorem State.emit_chip (s : State) (o : Out) : (s.emit o).chip = s.chip := rfl
@[simp] theorem State.emit_thermal (s : State) (o : Out) : (s.emit o).thermal = s.thermal := rfl
@[simp] theorem State.emit_mgmt (s : State) (o : Out) : (s.emit o).mgmt = s.mgmt := rfl
@[simp] theorem State.emit_sec (s : State) (o : Out) : (s.emit o).sec = s.sec := rfl

@[simp] theorem State.unlisted_pending (s : State) : s.unlisted.pending = s.pending := rfl
@[simp] theorem State.unlisted_out (s : State) : s.unlisted.out = s.out := rfl
@[simp] theorem State.unlisted_aon (s : State) : s.unlisted.aon = s.aon := rfl
@[simp] theorem State.unlisted_mode (s : State) : s.unlisted.mode = s.mode := rfl
@[simp] theorem State.unlisted_regs (s : State) : s.unlisted.regs = s.regs := rfl
@[simp] theorem State.unlisted_ports (s : State) : s.unlisted.ports = s.ports := rfl
@[simp] theorem State.unlisted_funcs (s : State) : s.unlisted.funcs = s.funcs := rfl
@[simp] theorem State.unlisted_dmas (s : State) : s.unlisted.dmas = s.dmas := rfl
@[simp] theorem State.unlisted_dmaWait (s : State) : s.unlisted.dmaWait = s.dmaWait := rfl
@[simp] theorem State.unlisted_dict (s : State) : s.unlisted.dict = s.dict := rfl
@[simp] theorem State.unlisted_sqs (s : State) : s.unlisted.sqs = s.sqs := rfl
@[simp] theorem State.unlisted_cqs (s : State) : s.unlisted.cqs = s.cqs := rfl
@[simp] theorem State.unlisted_tags (s : State) : s.unlisted.tags = s.tags := rfl
@[simp] theorem State.unlisted_ctrls (s : State) : s.unlisted.ctrls = s.ctrls := rfl
@[simp] theorem State.unlisted_cmds (s : State) : s.unlisted.cmds = s.cmds := rfl
@[simp] theorem State.unlisted_slices (s : State) : s.unlisted.slices = s.slices := rfl
@[simp] theorem State.unlisted_dirty (s : State) : s.unlisted.dirty = s.dirty := rfl
@[simp] theorem State.unlisted_sched (s : State) : s.unlisted.sched = s.sched := rfl
@[simp] theorem State.unlisted_luns (s : State) : s.unlisted.luns = s.luns := rfl
@[simp] theorem State.unlisted_chans (s : State) : s.unlisted.chans = s.chans := rfl
@[simp] theorem State.unlisted_islands (s : State) : s.unlisted.islands = s.islands := rfl
@[simp] theorem State.unlisted_engines (s : State) : s.unlisted.engines = s.engines := rfl
@[simp] theorem State.unlisted_nss (s : State) : s.unlisted.nss = s.nss := rfl
@[simp] theorem State.unlisted_zones (s : State) : s.unlisted.zones = s.zones := rfl
@[simp] theorem State.unlisted_pool (s : State) : s.unlisted.pool = s.pool := rfl
@[simp] theorem State.unlisted_map (s : State) : s.unlisted.map = s.map := rfl
@[simp] theorem State.unlisted_jrn (s : State) : s.unlisted.jrn = s.jrn := rfl
@[simp] theorem State.unlisted_wbuf (s : State) : s.unlisted.wbuf = s.wbuf := rfl
@[simp] theorem State.unlisted_media (s : State) : s.unlisted.media = s.media := rfl
@[simp] theorem State.unlisted_recov (s : State) : s.unlisted.recov = s.recov := rfl
@[simp] theorem State.unlisted_cmp (s : State) : s.unlisted.cmp = s.cmp := rfl
@[simp] theorem State.unlisted_drams (s : State) : s.unlisted.drams = s.drams := rfl
@[simp] theorem State.unlisted_ranks (s : State) : s.unlisted.ranks = s.ranks := rfl
@[simp] theorem State.unlisted_chip (s : State) : s.unlisted.chip = s.chip := rfl
@[simp] theorem State.unlisted_thermal (s : State) : s.unlisted.thermal = s.thermal := rfl
@[simp] theorem State.unlisted_mgmt (s : State) : s.unlisted.mgmt = s.mgmt := rfl
@[simp] theorem State.unlisted_sec (s : State) : s.unlisted.sec = s.sec := rfl
@[simp] theorem State.rasRecord_pending (s : State) (u i k v c : Nat) (d : List Nat) : (s.rasRecord u i k v c d).pending = s.pending := rfl
@[simp] theorem State.rasRecord_out (s : State) (u i k v c : Nat) (d : List Nat) : (s.rasRecord u i k v c d).out = s.out := rfl
@[simp] theorem State.rasRecord_aon (s : State) (u i k v c : Nat) (d : List Nat) : (s.rasRecord u i k v c d).aon = s.aon := rfl
@[simp] theorem State.rasRecord_mode (s : State) (u i k v c : Nat) (d : List Nat) : (s.rasRecord u i k v c d).mode = s.mode := rfl
@[simp] theorem State.rasRecord_regs (s : State) (u i k v c : Nat) (d : List Nat) : (s.rasRecord u i k v c d).regs = s.regs := rfl
@[simp] theorem State.rasRecord_ports (s : State) (u i k v c : Nat) (d : List Nat) : (s.rasRecord u i k v c d).ports = s.ports := rfl
@[simp] theorem State.rasRecord_funcs (s : State) (u i k v c : Nat) (d : List Nat) : (s.rasRecord u i k v c d).funcs = s.funcs := rfl
@[simp] theorem State.rasRecord_dmas (s : State) (u i k v c : Nat) (d : List Nat) : (s.rasRecord u i k v c d).dmas = s.dmas := rfl
@[simp] theorem State.rasRecord_dmaWait (s : State) (u i k v c : Nat) (d : List Nat) : (s.rasRecord u i k v c d).dmaWait = s.dmaWait := rfl
@[simp] theorem State.rasRecord_dict (s : State) (u i k v c : Nat) (d : List Nat) : (s.rasRecord u i k v c d).dict = s.dict := rfl
@[simp] theorem State.rasRecord_sqs (s : State) (u i k v c : Nat) (d : List Nat) : (s.rasRecord u i k v c d).sqs = s.sqs := rfl
@[simp] theorem State.rasRecord_cqs (s : State) (u i k v c : Nat) (d : List Nat) : (s.rasRecord u i k v c d).cqs = s.cqs := rfl
@[simp] theorem State.rasRecord_tags (s : State) (u i k v c : Nat) (d : List Nat) : (s.rasRecord u i k v c d).tags = s.tags := rfl
@[simp] theorem State.rasRecord_ctrls (s : State) (u i k v c : Nat) (d : List Nat) : (s.rasRecord u i k v c d).ctrls = s.ctrls := rfl
@[simp] theorem State.rasRecord_cmds (s : State) (u i k v c : Nat) (d : List Nat) : (s.rasRecord u i k v c d).cmds = s.cmds := rfl
@[simp] theorem State.rasRecord_slices (s : State) (u i k v c : Nat) (d : List Nat) : (s.rasRecord u i k v c d).slices = s.slices := rfl
@[simp] theorem State.rasRecord_dirty (s : State) (u i k v c : Nat) (d : List Nat) : (s.rasRecord u i k v c d).dirty = s.dirty := rfl
@[simp] theorem State.rasRecord_sched (s : State) (u i k v c : Nat) (d : List Nat) : (s.rasRecord u i k v c d).sched = s.sched := rfl
@[simp] theorem State.rasRecord_luns (s : State) (u i k v c : Nat) (d : List Nat) : (s.rasRecord u i k v c d).luns = s.luns := rfl
@[simp] theorem State.rasRecord_chans (s : State) (u i k v c : Nat) (d : List Nat) : (s.rasRecord u i k v c d).chans = s.chans := rfl
@[simp] theorem State.rasRecord_islands (s : State) (u i k v c : Nat) (d : List Nat) : (s.rasRecord u i k v c d).islands = s.islands := rfl
@[simp] theorem State.rasRecord_engines (s : State) (u i k v c : Nat) (d : List Nat) : (s.rasRecord u i k v c d).engines = s.engines := rfl
@[simp] theorem State.rasRecord_nss (s : State) (u i k v c : Nat) (d : List Nat) : (s.rasRecord u i k v c d).nss = s.nss := rfl
@[simp] theorem State.rasRecord_zones (s : State) (u i k v c : Nat) (d : List Nat) : (s.rasRecord u i k v c d).zones = s.zones := rfl
@[simp] theorem State.rasRecord_pool (s : State) (u i k v c : Nat) (d : List Nat) : (s.rasRecord u i k v c d).pool = s.pool := rfl
@[simp] theorem State.rasRecord_map (s : State) (u i k v c : Nat) (d : List Nat) : (s.rasRecord u i k v c d).map = s.map := rfl
@[simp] theorem State.rasRecord_jrn (s : State) (u i k v c : Nat) (d : List Nat) : (s.rasRecord u i k v c d).jrn = s.jrn := rfl
@[simp] theorem State.rasRecord_wbuf (s : State) (u i k v c : Nat) (d : List Nat) : (s.rasRecord u i k v c d).wbuf = s.wbuf := rfl
@[simp] theorem State.rasRecord_media (s : State) (u i k v c : Nat) (d : List Nat) : (s.rasRecord u i k v c d).media = s.media := rfl
@[simp] theorem State.rasRecord_recov (s : State) (u i k v c : Nat) (d : List Nat) : (s.rasRecord u i k v c d).recov = s.recov := rfl
@[simp] theorem State.rasRecord_cmp (s : State) (u i k v c : Nat) (d : List Nat) : (s.rasRecord u i k v c d).cmp = s.cmp := rfl
@[simp] theorem State.rasRecord_drams (s : State) (u i k v c : Nat) (d : List Nat) : (s.rasRecord u i k v c d).drams = s.drams := rfl
@[simp] theorem State.rasRecord_ranks (s : State) (u i k v c : Nat) (d : List Nat) : (s.rasRecord u i k v c d).ranks = s.ranks := rfl
@[simp] theorem State.rasRecord_chip (s : State) (u i k v c : Nat) (d : List Nat) : (s.rasRecord u i k v c d).chip = s.chip := rfl
@[simp] theorem State.rasRecord_thermal (s : State) (u i k v c : Nat) (d : List Nat) : (s.rasRecord u i k v c d).thermal = s.thermal := rfl
@[simp] theorem State.rasRecord_mgmt (s : State) (u i k v c : Nat) (d : List Nat) : (s.rasRecord u i k v c d).mgmt = s.mgmt := rfl
@[simp] theorem State.rasRecord_sec (s : State) (u i k v c : Nat) (d : List Nat) : (s.rasRecord u i k v c d).sec = s.sec := rfl

/-- An action whose condition holds. -/
theorem State.when_true {s : State} {b : Bool} (f : State → State) (h : b = true) : s.when b f = f s := by rw [h]; rfl
/-- An event that the state does not list is only counted (R9). -/
theorem State.when_false {s : State} {b : Bool} (f : State → State) (h : b = false) : s.when b f = s.unlisted := by rw [h]; rfl

end Sys2Proof.Machine
end

