-- ==== Sys2Proof/Laws/Units.lean ====
section
/-! SUPPORT. One unit of state after a write of a unit of another kind, and the units after a message or a record: unchanged. -/

namespace Sys2Proof.Machine

@[simp] theorem State.setPort_func (s : State) (p : Nat) (x : Port) (i : Nat) (j : Nat) : (s.setPort p x).func i j = s.func i j := rfl
@[simp] theorem State.setPort_sq (s : State) (p : Nat) (x : Port) (i : QKey) : (s.setPort p x).sq i = s.sq i := rfl
@[simp] theorem State.setPort_cq (s : State) (p : Nat) (x : Port) (i : QKey) : (s.setPort p x).cq i = s.cq i := rfl
@[simp] theorem State.setPort_tag (s : State) (p : Nat) (x : Port) (i : Nat) : (s.setPort p x).tag i = s.tag i := rfl
@[simp] theorem State.setPort_ctrl (s : State) (p : Nat) (x : Port) (i : Nat) : (s.setPort p x).ctrl i = s.ctrl i := rfl
@[simp] theorem State.setPort_slice (s : State) (p : Nat) (x : Port) (i : Nat) : (s.setPort p x).slice i = s.slice i := rfl
@[simp] theorem State.setPort_lun (s : State) (p : Nat) (x : Port) (i : Nat) (j : Nat) : (s.setPort p x).lun i j = s.lun i j := rfl
@[simp] theorem State.setPort_chan (s : State) (p : Nat) (x : Port) (i : Nat) : (s.setPort p x).chan i = s.chan i := rfl
@[simp] theorem State.setPort_island (s : State) (p : Nat) (x : Port) (i : Nat) : (s.setPort p x).island i = s.island i := rfl
@[simp] theorem State.setPort_engine (s : State) (p : Nat) (x : Port) (i : Nat) : (s.setPort p x).engine i = s.engine i := rfl
@[simp] theorem State.setPort_ns (s : State) (p : Nat) (x : Port) (i : Nat) : (s.setPort p x).ns i = s.ns i := rfl
@[simp] theorem State.setPort_zone (s : State) (p : Nat) (x : Port) (i : Nat) (j : Nat) : (s.setPort p x).zone i j = s.zone i j := rfl
@[simp] theorem State.setPort_ment (s : State) (p : Nat) (x : Port) (i : Nat) (j : Nat) : (s.setPort p x).ment i j = s.ment i j := rfl
@[simp] theorem State.setPort_page (s : State) (p : Nat) (x : Port) (i : Nat) (j : Nat) : (s.setPort p x).page i j = s.page i j := rfl
@[simp] theorem State.setPort_wblk (s : State) (p : Nat) (x : Port) (i : Nat) : (s.setPort p x).wblk i = s.wblk i := rfl
@[simp] theorem State.setPort_sb (s : State) (p : Nat) (x : Port) (i : Nat) : (s.setPort p x).sb i = s.sb i := rfl
@[simp] theorem State.setPort_prog (s : State) (p : Nat) (x : Port) (i : Nat) : (s.setPort p x).prog i = s.prog i := rfl
@[simp] theorem State.setPort_dram (s : State) (p : Nat) (x : Port) (i : Nat) : (s.setPort p x).dram i = s.dram i := rfl
@[simp] theorem State.setPort_sensor (s : State) (p : Nat) (x : Port) (i : Nat) : (s.setPort p x).sensor i = s.sensor i := rfl
@[simp] theorem State.setPort_tzone (s : State) (p : Nat) (x : Port) (i : Nat) : (s.setPort p x).tzone i = s.tzone i := rfl
@[simp] theorem State.setFunc_port (s : State) (p f : Nat) (x : Func) (i : Nat) : (s.setFunc p f x).port i = s.port i := rfl
@[simp] theorem State.setFunc_sq (s : State) (p f : Nat) (x : Func) (i : QKey) : (s.setFunc p f x).sq i = s.sq i := rfl
@[simp] theorem State.setFunc_cq (s : State) (p f : Nat) (x : Func) (i : QKey) : (s.setFunc p f x).cq i = s.cq i := rfl
@[simp] theorem State.setFunc_tag (s : State) (p f : Nat) (x : Func) (i : Nat) : (s.setFunc p f x).tag i = s.tag i := rfl
@[simp] theorem State.setFunc_ctrl (s : State) (p f : Nat) (x : Func) (i : Nat) : (s.setFunc p f x).ctrl i = s.ctrl i := rfl
@[simp] theorem State.setFunc_slice (s : State) (p f : Nat) (x : Func) (i : Nat) : (s.setFunc p f x).slice i = s.slice i := rfl
@[simp] theorem State.setFunc_lun (s : State) (p f : Nat) (x : Func) (i : Nat) (j : Nat) : (s.setFunc p f x).lun i j = s.lun i j := rfl
@[simp] theorem State.setFunc_chan (s : State) (p f : Nat) (x : Func) (i : Nat) : (s.setFunc p f x).chan i = s.chan i := rfl
@[simp] theorem State.setFunc_island (s : State) (p f : Nat) (x : Func) (i : Nat) : (s.setFunc p f x).island i = s.island i := rfl
@[simp] theorem State.setFunc_engine (s : State) (p f : Nat) (x : Func) (i : Nat) : (s.setFunc p f x).engine i = s.engine i := rfl
@[simp] theorem State.setFunc_ns (s : State) (p f : Nat) (x : Func) (i : Nat) : (s.setFunc p f x).ns i = s.ns i := rfl
@[simp] theorem State.setFunc_zone (s : State) (p f : Nat) (x : Func) (i : Nat) (j : Nat) : (s.setFunc p f x).zone i j = s.zone i j := rfl
@[simp] theorem State.setFunc_ment (s : State) (p f : Nat) (x : Func) (i : Nat) (j : Nat) : (s.setFunc p f x).ment i j = s.ment i j := rfl
@[simp] theorem State.setFunc_page (s : State) (p f : Nat) (x : Func) (i : Nat) (j : Nat) : (s.setFunc p f x).page i j = s.page i j := rfl
@[simp] theorem State.setFunc_wblk (s : State) (p f : Nat) (x : Func) (i : Nat) : (s.setFunc p f x).wblk i = s.wblk i := rfl
@[simp] theorem State.setFunc_sb (s : State) (p f : Nat) (x : Func) (i : Nat) : (s.setFunc p f x).sb i = s.sb i := rfl
@[simp] theorem State.setFunc_prog (s : State) (p f : Nat) (x : Func) (i : Nat) : (s.setFunc p f x).prog i = s.prog i := rfl
@[simp] theorem State.setFunc_dram (s : State) (p f : Nat) (x : Func) (i : Nat) : (s.setFunc p f x).dram i = s.dram i := rfl
@[simp] theorem State.setFunc_sensor (s : State) (p f : Nat) (x : Func) (i : Nat) : (s.setFunc p f x).sensor i = s.sensor i := rfl
@[simp] theorem State.setFunc_tzone (s : State) (p f : Nat) (x : Func) (i : Nat) : (s.setFunc p f x).tzone i = s.tzone i := rfl
@[simp] theorem State.setSq_port (s : State) (q : QKey) (x : Sq) (i : Nat) : (s.setSq q x).port i = s.port i := rfl
@[simp] theorem State.setSq_func (s : State) (q : QKey) (x : Sq) (i : Nat) (j : Nat) : (s.setSq q x).func i j = s.func i j := rfl
@[simp] theorem State.setSq_cq (s : State) (q : QKey) (x : Sq) (i : QKey) : (s.setSq q x).cq i = s.cq i := rfl
@[simp] theorem State.setSq_tag (s : State) (q : QKey) (x : Sq) (i : Nat) : (s.setSq q x).tag i = s.tag i := rfl
@[simp] theorem State.setSq_ctrl (s : State) (q : QKey) (x : Sq) (i : Nat) : (s.setSq q x).ctrl i = s.ctrl i := rfl
@[simp] theorem State.setSq_slice (s : State) (q : QKey) (x : Sq) (i : Nat) : (s.setSq q x).slice i = s.slice i := rfl
@[simp] theorem State.setSq_lun (s : State) (q : QKey) (x : Sq) (i : Nat) (j : Nat) : (s.setSq q x).lun i j = s.lun i j := rfl
@[simp] theorem State.setSq_chan (s : State) (q : QKey) (x : Sq) (i : Nat) : (s.setSq q x).chan i = s.chan i := rfl
@[simp] theorem State.setSq_island (s : State) (q : QKey) (x : Sq) (i : Nat) : (s.setSq q x).island i = s.island i := rfl
@[simp] theorem State.setSq_engine (s : State) (q : QKey) (x : Sq) (i : Nat) : (s.setSq q x).engine i = s.engine i := rfl
@[simp] theorem State.setSq_ns (s : State) (q : QKey) (x : Sq) (i : Nat) : (s.setSq q x).ns i = s.ns i := rfl
@[simp] theorem State.setSq_zone (s : State) (q : QKey) (x : Sq) (i : Nat) (j : Nat) : (s.setSq q x).zone i j = s.zone i j := rfl
@[simp] theorem State.setSq_ment (s : State) (q : QKey) (x : Sq) (i : Nat) (j : Nat) : (s.setSq q x).ment i j = s.ment i j := rfl
@[simp] theorem State.setSq_page (s : State) (q : QKey) (x : Sq) (i : Nat) (j : Nat) : (s.setSq q x).page i j = s.page i j := rfl
@[simp] theorem State.setSq_wblk (s : State) (q : QKey) (x : Sq) (i : Nat) : (s.setSq q x).wblk i = s.wblk i := rfl
@[simp] theorem State.setSq_sb (s : State) (q : QKey) (x : Sq) (i : Nat) : (s.setSq q x).sb i = s.sb i := rfl
@[simp] theorem State.setSq_prog (s : State) (q : QKey) (x : Sq) (i : Nat) : (s.setSq q x).prog i = s.prog i := rfl
@[simp] theorem State.setSq_dram (s : State) (q : QKey) (x : Sq) (i : Nat) : (s.setSq q x).dram i = s.dram i := rfl
@[simp] theorem State.setSq_sensor (s : State) (q : QKey) (x : Sq) (i : Nat) : (s.setSq q x).sensor i = s.sensor i := rfl
@[simp] theorem State.setSq_tzone (s : State) (q : QKey) (x : Sq) (i : Nat) : (s.setSq q x).tzone i = s.tzone i := rfl
@[simp] theorem State.setCq_port (s : State) (q : QKey) (x : Cq) (i : Nat) : (s.setCq q x).port i = s.port i := rfl
@[simp] theorem State.setCq_func (s : State) (q : QKey) (x : Cq) (i : Nat) (j : Nat) : (s.setCq q x).func i j = s.func i j := rfl
@[simp] theorem State.setCq_sq (s : State) (q : QKey) (x : Cq) (i : QKey) : (s.setCq q x).sq i = s.sq i := rfl
@[simp] theorem State.setCq_tag (s : State) (q : QKey) (x : Cq) (i : Nat) : (s.setCq q x).tag i = s.tag i := rfl
@[simp] theorem State.setCq_ctrl (s : State) (q : QKey) (x : Cq) (i : Nat) : (s.setCq q x).ctrl i = s.ctrl i := rfl
@[simp] theorem State.setCq_slice (s : State) (q : QKey) (x : Cq) (i : Nat) : (s.setCq q x).slice i = s.slice i := rfl
@[simp] theorem State.setCq_lun (s : State) (q : QKey) (x : Cq) (i : Nat) (j : Nat) : (s.setCq q x).lun i j = s.lun i j := rfl
@[simp] theorem State.setCq_chan (s : State) (q : QKey) (x : Cq) (i : Nat) : (s.setCq q x).chan i = s.chan i := rfl
@[simp] theorem State.setCq_island (s : State) (q : QKey) (x : Cq) (i : Nat) : (s.setCq q x).island i = s.island i := rfl
@[simp] theorem State.setCq_engine (s : State) (q : QKey) (x : Cq) (i : Nat) : (s.setCq q x).engine i = s.engine i := rfl
@[simp] theorem State.setCq_ns (s : State) (q : QKey) (x : Cq) (i : Nat) : (s.setCq q x).ns i = s.ns i := rfl
@[simp] theorem State.setCq_zone (s : State) (q : QKey) (x : Cq) (i : Nat) (j : Nat) : (s.setCq q x).zone i j = s.zone i j := rfl
@[simp] theorem State.setCq_ment (s : State) (q : QKey) (x : Cq) (i : Nat) (j : Nat) : (s.setCq q x).ment i j = s.ment i j := rfl
@[simp] theorem State.setCq_page (s : State) (q : QKey) (x : Cq) (i : Nat) (j : Nat) : (s.setCq q x).page i j = s.page i j := rfl
@[simp] theorem State.setCq_wblk (s : State) (q : QKey) (x : Cq) (i : Nat) : (s.setCq q x).wblk i = s.wblk i := rfl
@[simp] theorem State.setCq_sb (s : State) (q : QKey) (x : Cq) (i : Nat) : (s.setCq q x).sb i = s.sb i := rfl
@[simp] theorem State.setCq_prog (s : State) (q : QKey) (x : Cq) (i : Nat) : (s.setCq q x).prog i = s.prog i := rfl
@[simp] theorem State.setCq_dram (s : State) (q : QKey) (x : Cq) (i : Nat) : (s.setCq q x).dram i = s.dram i := rfl
@[simp] theorem State.setCq_sensor (s : State) (q : QKey) (x : Cq) (i : Nat) : (s.setCq q x).sensor i = s.sensor i := rfl
@[simp] theorem State.setCq_tzone (s : State) (q : QKey) (x : Cq) (i : Nat) : (s.setCq q x).tzone i = s.tzone i := rfl
@[simp] theorem State.setTag_port (s : State) (k : Nat) (x : Tag) (i : Nat) : (s.setTag k x).port i = s.port i := rfl
@[simp] theorem State.setTag_func (s : State) (k : Nat) (x : Tag) (i : Nat) (j : Nat) : (s.setTag k x).func i j = s.func i j := rfl
@[simp] theorem State.setTag_sq (s : State) (k : Nat) (x : Tag) (i : QKey) : (s.setTag k x).sq i = s.sq i := rfl
@[simp] theorem State.setTag_cq (s : State) (k : Nat) (x : Tag) (i : QKey) : (s.setTag k x).cq i = s.cq i := rfl
@[simp] theorem State.setTag_ctrl (s : State) (k : Nat) (x : Tag) (i : Nat) : (s.setTag k x).ctrl i = s.ctrl i := rfl
@[simp] theorem State.setTag_slice (s : State) (k : Nat) (x : Tag) (i : Nat) : (s.setTag k x).slice i = s.slice i := rfl
@[simp] theorem State.setTag_lun (s : State) (k : Nat) (x : Tag) (i : Nat) (j : Nat) : (s.setTag k x).lun i j = s.lun i j := rfl
@[simp] theorem State.setTag_chan (s : State) (k : Nat) (x : Tag) (i : Nat) : (s.setTag k x).chan i = s.chan i := rfl
@[simp] theorem State.setTag_island (s : State) (k : Nat) (x : Tag) (i : Nat) : (s.setTag k x).island i = s.island i := rfl
@[simp] theorem State.setTag_engine (s : State) (k : Nat) (x : Tag) (i : Nat) : (s.setTag k x).engine i = s.engine i := rfl
@[simp] theorem State.setTag_ns (s : State) (k : Nat) (x : Tag) (i : Nat) : (s.setTag k x).ns i = s.ns i := rfl
@[simp] theorem State.setTag_zone (s : State) (k : Nat) (x : Tag) (i : Nat) (j : Nat) : (s.setTag k x).zone i j = s.zone i j := rfl
@[simp] theorem State.setTag_ment (s : State) (k : Nat) (x : Tag) (i : Nat) (j : Nat) : (s.setTag k x).ment i j = s.ment i j := rfl
@[simp] theorem State.setTag_page (s : State) (k : Nat) (x : Tag) (i : Nat) (j : Nat) : (s.setTag k x).page i j = s.page i j := rfl
@[simp] theorem State.setTag_wblk (s : State) (k : Nat) (x : Tag) (i : Nat) : (s.setTag k x).wblk i = s.wblk i := rfl
@[simp] theorem State.setTag_sb (s : State) (k : Nat) (x : Tag) (i : Nat) : (s.setTag k x).sb i = s.sb i := rfl
@[simp] theorem State.setTag_prog (s : State) (k : Nat) (x : Tag) (i : Nat) : (s.setTag k x).prog i = s.prog i := rfl
@[simp] theorem State.setTag_dram (s : State) (k : Nat) (x : Tag) (i : Nat) : (s.setTag k x).dram i = s.dram i := rfl
@[simp] theorem State.setTag_sensor (s : State) (k : Nat) (x : Tag) (i : Nat) : (s.setTag k x).sensor i = s.sensor i := rfl
@[simp] theorem State.setTag_tzone (s : State) (k : Nat) (x : Tag) (i : Nat) : (s.setTag k x).tzone i = s.tzone i := rfl
@[simp] theorem State.setCtrl_port (s : State) (k : Nat) (x : Ctrl) (i : Nat) : (s.setCtrl k x).port i = s.port i := rfl
@[simp] theorem State.setCtrl_func (s : State) (k : Nat) (x : Ctrl) (i : Nat) (j : Nat) : (s.setCtrl k x).func i j = s.func i j := rfl
@[simp] theorem State.setCtrl_sq (s : State) (k : Nat) (x : Ctrl) (i : QKey) : (s.setCtrl k x).sq i = s.sq i := rfl
@[simp] theorem State.setCtrl_cq (s : State) (k : Nat) (x : Ctrl) (i : QKey) : (s.setCtrl k x).cq i = s.cq i := rfl
@[simp] theorem State.setCtrl_tag (s : State) (k : Nat) (x : Ctrl) (i : Nat) : (s.setCtrl k x).tag i = s.tag i := rfl
@[simp] theorem State.setCtrl_slice (s : State) (k : Nat) (x : Ctrl) (i : Nat) : (s.setCtrl k x).slice i = s.slice i := rfl
@[simp] theorem State.setCtrl_lun (s : State) (k : Nat) (x : Ctrl) (i : Nat) (j : Nat) : (s.setCtrl k x).lun i j = s.lun i j := rfl
@[simp] theorem State.setCtrl_chan (s : State) (k : Nat) (x : Ctrl) (i : Nat) : (s.setCtrl k x).chan i = s.chan i := rfl
@[simp] theorem State.setCtrl_island (s : State) (k : Nat) (x : Ctrl) (i : Nat) : (s.setCtrl k x).island i = s.island i := rfl
@[simp] theorem State.setCtrl_engine (s : State) (k : Nat) (x : Ctrl) (i : Nat) : (s.setCtrl k x).engine i = s.engine i := rfl
@[simp] theorem State.setCtrl_ns (s : State) (k : Nat) (x : Ctrl) (i : Nat) : (s.setCtrl k x).ns i = s.ns i := rfl
@[simp] theorem State.setCtrl_zone (s : State) (k : Nat) (x : Ctrl) (i : Nat) (j : Nat) : (s.setCtrl k x).zone i j = s.zone i j := rfl
@[simp] theorem State.setCtrl_ment (s : State) (k : Nat) (x : Ctrl) (i : Nat) (j : Nat) : (s.setCtrl k x).ment i j = s.ment i j := rfl
@[simp] theorem State.setCtrl_page (s : State) (k : Nat) (x : Ctrl) (i : Nat) (j : Nat) : (s.setCtrl k x).page i j = s.page i j := rfl
@[simp] theorem State.setCtrl_wblk (s : State) (k : Nat) (x : Ctrl) (i : Nat) : (s.setCtrl k x).wblk i = s.wblk i := rfl
@[simp] theorem State.setCtrl_sb (s : State) (k : Nat) (x : Ctrl) (i : Nat) : (s.setCtrl k x).sb i = s.sb i := rfl
@[simp] theorem State.setCtrl_prog (s : State) (k : Nat) (x : Ctrl) (i : Nat) : (s.setCtrl k x).prog i = s.prog i := rfl
@[simp] theorem State.setCtrl_dram (s : State) (k : Nat) (x : Ctrl) (i : Nat) : (s.setCtrl k x).dram i = s.dram i := rfl
@[simp] theorem State.setCtrl_sensor (s : State) (k : Nat) (x : Ctrl) (i : Nat) : (s.setCtrl k x).sensor i = s.sensor i := rfl
@[simp] theorem State.setCtrl_tzone (s : State) (k : Nat) (x : Ctrl) (i : Nat) : (s.setCtrl k x).tzone i = s.tzone i := rfl
@[simp] theorem State.setSlice_port (s : State) (k : Nat) (x : Slice) (i : Nat) : (s.setSlice k x).port i = s.port i := rfl
@[simp] theorem State.setSlice_func (s : State) (k : Nat) (x : Slice) (i : Nat) (j : Nat) : (s.setSlice k x).func i j = s.func i j := rfl
@[simp] theorem State.setSlice_sq (s : State) (k : Nat) (x : Slice) (i : QKey) : (s.setSlice k x).sq i = s.sq i := rfl
@[simp] theorem State.setSlice_cq (s : State) (k : Nat) (x : Slice) (i : QKey) : (s.setSlice k x).cq i = s.cq i := rfl
@[simp] theorem State.setSlice_tag (s : State) (k : Nat) (x : Slice) (i : Nat) : (s.setSlice k x).tag i = s.tag i := rfl
@[simp] theorem State.setSlice_ctrl (s : State) (k : Nat) (x : Slice) (i : Nat) : (s.setSlice k x).ctrl i = s.ctrl i := rfl
@[simp] theorem State.setSlice_lun (s : State) (k : Nat) (x : Slice) (i : Nat) (j : Nat) : (s.setSlice k x).lun i j = s.lun i j := rfl
@[simp] theorem State.setSlice_chan (s : State) (k : Nat) (x : Slice) (i : Nat) : (s.setSlice k x).chan i = s.chan i := rfl
@[simp] theorem State.setSlice_island (s : State) (k : Nat) (x : Slice) (i : Nat) : (s.setSlice k x).island i = s.island i := rfl
@[simp] theorem State.setSlice_engine (s : State) (k : Nat) (x : Slice) (i : Nat) : (s.setSlice k x).engine i = s.engine i := rfl
@[simp] theorem State.setSlice_ns (s : State) (k : Nat) (x : Slice) (i : Nat) : (s.setSlice k x).ns i = s.ns i := rfl
@[simp] theorem State.setSlice_zone (s : State) (k : Nat) (x : Slice) (i : Nat) (j : Nat) : (s.setSlice k x).zone i j = s.zone i j := rfl
@[simp] theorem State.setSlice_ment (s : State) (k : Nat) (x : Slice) (i : Nat) (j : Nat) : (s.setSlice k x).ment i j = s.ment i j := rfl
@[simp] theorem State.setSlice_page (s : State) (k : Nat) (x : Slice) (i : Nat) (j : Nat) : (s.setSlice k x).page i j = s.page i j := rfl
@[simp] theorem State.setSlice_wblk (s : State) (k : Nat) (x : Slice) (i : Nat) : (s.setSlice k x).wblk i = s.wblk i := rfl
@[simp] theorem State.setSlice_sb (s : State) (k : Nat) (x : Slice) (i : Nat) : (s.setSlice k x).sb i = s.sb i := rfl
@[simp] theorem State.setSlice_prog (s : State) (k : Nat) (x : Slice) (i : Nat) : (s.setSlice k x).prog i = s.prog i := rfl
@[simp] theorem State.setSlice_dram (s : State) (k : Nat) (x : Slice) (i : Nat) : (s.setSlice k x).dram i = s.dram i := rfl
@[simp] theorem State.setSlice_sensor (s : State) (k : Nat) (x : Slice) (i : Nat) : (s.setSlice k x).sensor i = s.sensor i := rfl
@[simp] theorem State.setSlice_tzone (s : State) (k : Nat) (x : Slice) (i : Nat) : (s.setSlice k x).tzone i = s.tzone i := rfl
@[simp] theorem State.setLun_port (s : State) (c p : Nat) (x : Lun) (i : Nat) : (s.setLun c p x).port i = s.port i := rfl
@[simp] theorem State.setLun_func (s : State) (c p : Nat) (x : Lun) (i : Nat) (j : Nat) : (s.setLun c p x).func i j = s.func i j := rfl
@[simp] theorem State.setLun_sq (s : State) (c p : Nat) (x : Lun) (i : QKey) : (s.setLun c p x).sq i = s.sq i := rfl
@[simp] theorem State.setLun_cq (s : State) (c p : Nat) (x : Lun) (i : QKey) : (s.setLun c p x).cq i = s.cq i := rfl
@[simp] theorem State.setLun_tag (s : State) (c p : Nat) (x : Lun) (i : Nat) : (s.setLun c p x).tag i = s.tag i := rfl
@[simp] theorem State.setLun_ctrl (s : State) (c p : Nat) (x : Lun) (i : Nat) : (s.setLun c p x).ctrl i = s.ctrl i := rfl
@[simp] theorem State.setLun_slice (s : State) (c p : Nat) (x : Lun) (i : Nat) : (s.setLun c p x).slice i = s.slice i := rfl
@[simp] theorem State.setLun_chan (s : State) (c p : Nat) (x : Lun) (i : Nat) : (s.setLun c p x).chan i = s.chan i := rfl
@[simp] theorem State.setLun_island (s : State) (c p : Nat) (x : Lun) (i : Nat) : (s.setLun c p x).island i = s.island i := rfl
@[simp] theorem State.setLun_engine (s : State) (c p : Nat) (x : Lun) (i : Nat) : (s.setLun c p x).engine i = s.engine i := rfl
@[simp] theorem State.setLun_ns (s : State) (c p : Nat) (x : Lun) (i : Nat) : (s.setLun c p x).ns i = s.ns i := rfl
@[simp] theorem State.setLun_zone (s : State) (c p : Nat) (x : Lun) (i : Nat) (j : Nat) : (s.setLun c p x).zone i j = s.zone i j := rfl
@[simp] theorem State.setLun_ment (s : State) (c p : Nat) (x : Lun) (i : Nat) (j : Nat) : (s.setLun c p x).ment i j = s.ment i j := rfl
@[simp] theorem State.setLun_page (s : State) (c p : Nat) (x : Lun) (i : Nat) (j : Nat) : (s.setLun c p x).page i j = s.page i j := rfl
@[simp] theorem State.setLun_wblk (s : State) (c p : Nat) (x : Lun) (i : Nat) : (s.setLun c p x).wblk i = s.wblk i := rfl
@[simp] theorem State.setLun_sb (s : State) (c p : Nat) (x : Lun) (i : Nat) : (s.setLun c p x).sb i = s.sb i := rfl
@[simp] theorem State.setLun_prog (s : State) (c p : Nat) (x : Lun) (i : Nat) : (s.setLun c p x).prog i = s.prog i := rfl
@[simp] theorem State.setLun_dram (s : State) (c p : Nat) (x : Lun) (i : Nat) : (s.setLun c p x).dram i = s.dram i := rfl
@[simp] theorem State.setLun_sensor (s : State) (c p : Nat) (x : Lun) (i : Nat) : (s.setLun c p x).sensor i = s.sensor i := rfl
@[simp] theorem State.setLun_tzone (s : State) (c p : Nat) (x : Lun) (i : Nat) : (s.setLun c p x).tzone i = s.tzone i := rfl
@[simp] theorem State.setChan_port (s : State) (k : Nat) (x : Chan) (i : Nat) : (s.setChan k x).port i = s.port i := rfl
@[simp] theorem State.setChan_func (s : State) (k : Nat) (x : Chan) (i : Nat) (j : Nat) : (s.setChan k x).func i j = s.func i j := rfl
@[simp] theorem State.setChan_sq (s : State) (k : Nat) (x : Chan) (i : QKey) : (s.setChan k x).sq i = s.sq i := rfl
@[simp] theorem State.setChan_cq (s : State) (k : Nat) (x : Chan) (i : QKey) : (s.setChan k x).cq i = s.cq i := rfl
@[simp] theorem State.setChan_tag (s : State) (k : Nat) (x : Chan) (i : Nat) : (s.setChan k x).tag i = s.tag i := rfl
@[simp] theorem State.setChan_ctrl (s : State) (k : Nat) (x : Chan) (i : Nat) : (s.setChan k x).ctrl i = s.ctrl i := rfl
@[simp] theorem State.setChan_slice (s : State) (k : Nat) (x : Chan) (i : Nat) : (s.setChan k x).slice i = s.slice i := rfl
@[simp] theorem State.setChan_lun (s : State) (k : Nat) (x : Chan) (i : Nat) (j : Nat) : (s.setChan k x).lun i j = s.lun i j := rfl
@[simp] theorem State.setChan_island (s : State) (k : Nat) (x : Chan) (i : Nat) : (s.setChan k x).island i = s.island i := rfl
@[simp] theorem State.setChan_engine (s : State) (k : Nat) (x : Chan) (i : Nat) : (s.setChan k x).engine i = s.engine i := rfl
@[simp] theorem State.setChan_ns (s : State) (k : Nat) (x : Chan) (i : Nat) : (s.setChan k x).ns i = s.ns i := rfl
@[simp] theorem State.setChan_zone (s : State) (k : Nat) (x : Chan) (i : Nat) (j : Nat) : (s.setChan k x).zone i j = s.zone i j := rfl
@[simp] theorem State.setChan_ment (s : State) (k : Nat) (x : Chan) (i : Nat) (j : Nat) : (s.setChan k x).ment i j = s.ment i j := rfl
@[simp] theorem State.setChan_page (s : State) (k : Nat) (x : Chan) (i : Nat) (j : Nat) : (s.setChan k x).page i j = s.page i j := rfl
@[simp] theorem State.setChan_wblk (s : State) (k : Nat) (x : Chan) (i : Nat) : (s.setChan k x).wblk i = s.wblk i := rfl
@[simp] theorem State.setChan_sb (s : State) (k : Nat) (x : Chan) (i : Nat) : (s.setChan k x).sb i = s.sb i := rfl
@[simp] theorem State.setChan_prog (s : State) (k : Nat) (x : Chan) (i : Nat) : (s.setChan k x).prog i = s.prog i := rfl
@[simp] theorem State.setChan_dram (s : State) (k : Nat) (x : Chan) (i : Nat) : (s.setChan k x).dram i = s.dram i := rfl
@[simp] theorem State.setChan_sensor (s : State) (k : Nat) (x : Chan) (i : Nat) : (s.setChan k x).sensor i = s.sensor i := rfl
@[simp] theorem State.setChan_tzone (s : State) (k : Nat) (x : Chan) (i : Nat) : (s.setChan k x).tzone i = s.tzone i := rfl
@[simp] theorem State.setIsland_port (s : State) (k : Nat) (x : Island) (i : Nat) : (s.setIsland k x).port i = s.port i := rfl
@[simp] theorem State.setIsland_func (s : State) (k : Nat) (x : Island) (i : Nat) (j : Nat) : (s.setIsland k x).func i j = s.func i j := rfl
@[simp] theorem State.setIsland_sq (s : State) (k : Nat) (x : Island) (i : QKey) : (s.setIsland k x).sq i = s.sq i := rfl
@[simp] theorem State.setIsland_cq (s : State) (k : Nat) (x : Island) (i : QKey) : (s.setIsland k x).cq i = s.cq i := rfl
@[simp] theorem State.setIsland_tag (s : State) (k : Nat) (x : Island) (i : Nat) : (s.setIsland k x).tag i = s.tag i := rfl
@[simp] theorem State.setIsland_ctrl (s : State) (k : Nat) (x : Island) (i : Nat) : (s.setIsland k x).ctrl i = s.ctrl i := rfl
@[simp] theorem State.setIsland_slice (s : State) (k : Nat) (x : Island) (i : Nat) : (s.setIsland k x).slice i = s.slice i := rfl
@[simp] theorem State.setIsland_lun (s : State) (k : Nat) (x : Island) (i : Nat) (j : Nat) : (s.setIsland k x).lun i j = s.lun i j := rfl
@[simp] theorem State.setIsland_chan (s : State) (k : Nat) (x : Island) (i : Nat) : (s.setIsland k x).chan i = s.chan i := rfl
@[simp] theorem State.setIsland_engine (s : State) (k : Nat) (x : Island) (i : Nat) : (s.setIsland k x).engine i = s.engine i := rfl
@[simp] theorem State.setIsland_ns (s : State) (k : Nat) (x : Island) (i : Nat) : (s.setIsland k x).ns i = s.ns i := rfl
@[simp] theorem State.setIsland_zone (s : State) (k : Nat) (x : Island) (i : Nat) (j : Nat) : (s.setIsland k x).zone i j = s.zone i j := rfl
@[simp] theorem State.setIsland_ment (s : State) (k : Nat) (x : Island) (i : Nat) (j : Nat) : (s.setIsland k x).ment i j = s.ment i j := rfl
@[simp] theorem State.setIsland_page (s : State) (k : Nat) (x : Island) (i : Nat) (j : Nat) : (s.setIsland k x).page i j = s.page i j := rfl
@[simp] theorem State.setIsland_wblk (s : State) (k : Nat) (x : Island) (i : Nat) : (s.setIsland k x).wblk i = s.wblk i := rfl
@[simp] theorem State.setIsland_sb (s : State) (k : Nat) (x : Island) (i : Nat) : (s.setIsland k x).sb i = s.sb i := rfl
@[simp] theorem State.setIsland_prog (s : State) (k : Nat) (x : Island) (i : Nat) : (s.setIsland k x).prog i = s.prog i := rfl
@[simp] theorem State.setIsland_dram (s : State) (k : Nat) (x : Island) (i : Nat) : (s.setIsland k x).dram i = s.dram i := rfl
@[simp] theorem State.setIsland_sensor (s : State) (k : Nat) (x : Island) (i : Nat) : (s.setIsland k x).sensor i = s.sensor i := rfl
@[simp] theorem State.setIsland_tzone (s : State) (k : Nat) (x : Island) (i : Nat) : (s.setIsland k x).tzone i = s.tzone i := rfl
@[simp] theorem State.setEngine_port (s : State) (k : Nat) (x : Engine) (i : Nat) : (s.setEngine k x).port i = s.port i := rfl
@[simp] theorem State.setEngine_func (s : State) (k : Nat) (x : Engine) (i : Nat) (j : Nat) : (s.setEngine k x).func i j = s.func i j := rfl
@[simp] theorem State.setEngine_sq (s : State) (k : Nat) (x : Engine) (i : QKey) : (s.setEngine k x).sq i = s.sq i := rfl
@[simp] theorem State.setEngine_cq (s : State) (k : Nat) (x : Engine) (i : QKey) : (s.setEngine k x).cq i = s.cq i := rfl
@[simp] theorem State.setEngine_tag (s : State) (k : Nat) (x : Engine) (i : Nat) : (s.setEngine k x).tag i = s.tag i := rfl
@[simp] theorem State.setEngine_ctrl (s : State) (k : Nat) (x : Engine) (i : Nat) : (s.setEngine k x).ctrl i = s.ctrl i := rfl
@[simp] theorem State.setEngine_slice (s : State) (k : Nat) (x : Engine) (i : Nat) : (s.setEngine k x).slice i = s.slice i := rfl
@[simp] theorem State.setEngine_lun (s : State) (k : Nat) (x : Engine) (i : Nat) (j : Nat) : (s.setEngine k x).lun i j = s.lun i j := rfl
@[simp] theorem State.setEngine_chan (s : State) (k : Nat) (x : Engine) (i : Nat) : (s.setEngine k x).chan i = s.chan i := rfl
@[simp] theorem State.setEngine_island (s : State) (k : Nat) (x : Engine) (i : Nat) : (s.setEngine k x).island i = s.island i := rfl
@[simp] theorem State.setEngine_ns (s : State) (k : Nat) (x : Engine) (i : Nat) : (s.setEngine k x).ns i = s.ns i := rfl
@[simp] theorem State.setEngine_zone (s : State) (k : Nat) (x : Engine) (i : Nat) (j : Nat) : (s.setEngine k x).zone i j = s.zone i j := rfl
@[simp] theorem State.setEngine_ment (s : State) (k : Nat) (x : Engine) (i : Nat) (j : Nat) : (s.setEngine k x).ment i j = s.ment i j := rfl
@[simp] theorem State.setEngine_page (s : State) (k : Nat) (x : Engine) (i : Nat) (j : Nat) : (s.setEngine k x).page i j = s.page i j := rfl
@[simp] theorem State.setEngine_wblk (s : State) (k : Nat) (x : Engine) (i : Nat) : (s.setEngine k x).wblk i = s.wblk i := rfl
@[simp] theorem State.setEngine_sb (s : State) (k : Nat) (x : Engine) (i : Nat) : (s.setEngine k x).sb i = s.sb i := rfl
@[simp] theorem State.setEngine_prog (s : State) (k : Nat) (x : Engine) (i : Nat) : (s.setEngine k x).prog i = s.prog i := rfl
@[simp] theorem State.setEngine_dram (s : State) (k : Nat) (x : Engine) (i : Nat) : (s.setEngine k x).dram i = s.dram i := rfl
@[simp] theorem State.setEngine_sensor (s : State) (k : Nat) (x : Engine) (i : Nat) : (s.setEngine k x).sensor i = s.sensor i := rfl
@[simp] theorem State.setEngine_tzone (s : State) (k : Nat) (x : Engine) (i : Nat) : (s.setEngine k x).tzone i = s.tzone i := rfl
@[simp] theorem State.setNs_port (s : State) (k : Nat) (x : Ns) (i : Nat) : (s.setNs k x).port i = s.port i := rfl
@[simp] theorem State.setNs_func (s : State) (k : Nat) (x : Ns) (i : Nat) (j : Nat) : (s.setNs k x).func i j = s.func i j := rfl
@[simp] theorem State.setNs_sq (s : State) (k : Nat) (x : Ns) (i : QKey) : (s.setNs k x).sq i = s.sq i := rfl
@[simp] theorem State.setNs_cq (s : State) (k : Nat) (x : Ns) (i : QKey) : (s.setNs k x).cq i = s.cq i := rfl
@[simp] theorem State.setNs_tag (s : State) (k : Nat) (x : Ns) (i : Nat) : (s.setNs k x).tag i = s.tag i := rfl
@[simp] theorem State.setNs_ctrl (s : State) (k : Nat) (x : Ns) (i : Nat) : (s.setNs k x).ctrl i = s.ctrl i := rfl
@[simp] theorem State.setNs_slice (s : State) (k : Nat) (x : Ns) (i : Nat) : (s.setNs k x).slice i = s.slice i := rfl
@[simp] theorem State.setNs_lun (s : State) (k : Nat) (x : Ns) (i : Nat) (j : Nat) : (s.setNs k x).lun i j = s.lun i j := rfl
@[simp] theorem State.setNs_chan (s : State) (k : Nat) (x : Ns) (i : Nat) : (s.setNs k x).chan i = s.chan i := rfl
@[simp] theorem State.setNs_island (s : State) (k : Nat) (x : Ns) (i : Nat) : (s.setNs k x).island i = s.island i := rfl
@[simp] theorem State.setNs_engine (s : State) (k : Nat) (x : Ns) (i : Nat) : (s.setNs k x).engine i = s.engine i := rfl
@[simp] theorem State.setNs_zone (s : State) (k : Nat) (x : Ns) (i : Nat) (j : Nat) : (s.setNs k x).zone i j = s.zone i j := rfl
@[simp] theorem State.setNs_ment (s : State) (k : Nat) (x : Ns) (i : Nat) (j : Nat) : (s.setNs k x).ment i j = s.ment i j := rfl
@[simp] theorem State.setNs_page (s : State) (k : Nat) (x : Ns) (i : Nat) (j : Nat) : (s.setNs k x).page i j = s.page i j := rfl
@[simp] theorem State.setNs_wblk (s : State) (k : Nat) (x : Ns) (i : Nat) : (s.setNs k x).wblk i = s.wblk i := rfl
@[simp] theorem State.setNs_sb (s : State) (k : Nat) (x : Ns) (i : Nat) : (s.setNs k x).sb i = s.sb i := rfl
@[simp] theorem State.setNs_prog (s : State) (k : Nat) (x : Ns) (i : Nat) : (s.setNs k x).prog i = s.prog i := rfl
@[simp] theorem State.setNs_dram (s : State) (k : Nat) (x : Ns) (i : Nat) : (s.setNs k x).dram i = s.dram i := rfl
@[simp] theorem State.setNs_sensor (s : State) (k : Nat) (x : Ns) (i : Nat) : (s.setNs k x).sensor i = s.sensor i := rfl
@[simp] theorem State.setNs_tzone (s : State) (k : Nat) (x : Ns) (i : Nat) : (s.setNs k x).tzone i = s.tzone i := rfl
@[simp] theorem State.setZone_port (s : State) (n z : Nat) (x : Zone) (i : Nat) : (s.setZone n z x).port i = s.port i := rfl
@[simp] theorem State.setZone_func (s : State) (n z : Nat) (x : Zone) (i : Nat) (j : Nat) : (s.setZone n z x).func i j = s.func i j := rfl
@[simp] theorem State.setZone_sq (s : State) (n z : Nat) (x : Zone) (i : QKey) : (s.setZone n z x).sq i = s.sq i := rfl
@[simp] theorem State.setZone_cq (s : State) (n z : Nat) (x : Zone) (i : QKey) : (s.setZone n z x).cq i = s.cq i := rfl
@[simp] theorem State.setZone_tag (s : State) (n z : Nat) (x : Zone) (i : Nat) : (s.setZone n z x).tag i = s.tag i := rfl
@[simp] theorem State.setZone_ctrl (s : State) (n z : Nat) (x : Zone) (i : Nat) : (s.setZone n z x).ctrl i = s.ctrl i := rfl
@[simp] theorem State.setZone_slice (s : State) (n z : Nat) (x : Zone) (i : Nat) : (s.setZone n z x).slice i = s.slice i := rfl
@[simp] theorem State.setZone_lun (s : State) (n z : Nat) (x : Zone) (i : Nat) (j : Nat) : (s.setZone n z x).lun i j = s.lun i j := rfl
@[simp] theorem State.setZone_chan (s : State) (n z : Nat) (x : Zone) (i : Nat) : (s.setZone n z x).chan i = s.chan i := rfl
@[simp] theorem State.setZone_island (s : State) (n z : Nat) (x : Zone) (i : Nat) : (s.setZone n z x).island i = s.island i := rfl
@[simp] theorem State.setZone_engine (s : State) (n z : Nat) (x : Zone) (i : Nat) : (s.setZone n z x).engine i = s.engine i := rfl
@[simp] theorem State.setZone_ns (s : State) (n z : Nat) (x : Zone) (i : Nat) : (s.setZone n z x).ns i = s.ns i := rfl
@[simp] theorem State.setZone_ment (s : State) (n z : Nat) (x : Zone) (i : Nat) (j : Nat) : (s.setZone n z x).ment i j = s.ment i j := rfl
@[simp] theorem State.setZone_page (s : State) (n z : Nat) (x : Zone) (i : Nat) (j : Nat) : (s.setZone n z x).page i j = s.page i j := rfl
@[simp] theorem State.setZone_wblk (s : State) (n z : Nat) (x : Zone) (i : Nat) : (s.setZone n z x).wblk i = s.wblk i := rfl
@[simp] theorem State.setZone_sb (s : State) (n z : Nat) (x : Zone) (i : Nat) : (s.setZone n z x).sb i = s.sb i := rfl
@[simp] theorem State.setZone_prog (s : State) (n z : Nat) (x : Zone) (i : Nat) : (s.setZone n z x).prog i = s.prog i := rfl
@[simp] theorem State.setZone_dram (s : State) (n z : Nat) (x : Zone) (i : Nat) : (s.setZone n z x).dram i = s.dram i := rfl
@[simp] theorem State.setZone_sensor (s : State) (n z : Nat) (x : Zone) (i : Nat) : (s.setZone n z x).sensor i = s.sensor i := rfl
@[simp] theorem State.setZone_tzone (s : State) (n z : Nat) (x : Zone) (i : Nat) : (s.setZone n z x).tzone i = s.tzone i := rfl
@[simp] theorem State.setMent_port (s : State) (n l : Nat) (x : MEnt) (i : Nat) : (s.setMent n l x).port i = s.port i := rfl
@[simp] theorem State.setMent_func (s : State) (n l : Nat) (x : MEnt) (i : Nat) (j : Nat) : (s.setMent n l x).func i j = s.func i j := rfl
@[simp] theorem State.setMent_sq (s : State) (n l : Nat) (x : MEnt) (i : QKey) : (s.setMent n l x).sq i = s.sq i := rfl
@[simp] theorem State.setMent_cq (s : State) (n l : Nat) (x : MEnt) (i : QKey) : (s.setMent n l x).cq i = s.cq i := rfl
@[simp] theorem State.setMent_tag (s : State) (n l : Nat) (x : MEnt) (i : Nat) : (s.setMent n l x).tag i = s.tag i := rfl
@[simp] theorem State.setMent_ctrl (s : State) (n l : Nat) (x : MEnt) (i : Nat) : (s.setMent n l x).ctrl i = s.ctrl i := rfl
@[simp] theorem State.setMent_slice (s : State) (n l : Nat) (x : MEnt) (i : Nat) : (s.setMent n l x).slice i = s.slice i := rfl
@[simp] theorem State.setMent_lun (s : State) (n l : Nat) (x : MEnt) (i : Nat) (j : Nat) : (s.setMent n l x).lun i j = s.lun i j := rfl
@[simp] theorem State.setMent_chan (s : State) (n l : Nat) (x : MEnt) (i : Nat) : (s.setMent n l x).chan i = s.chan i := rfl
@[simp] theorem State.setMent_island (s : State) (n l : Nat) (x : MEnt) (i : Nat) : (s.setMent n l x).island i = s.island i := rfl
@[simp] theorem State.setMent_engine (s : State) (n l : Nat) (x : MEnt) (i : Nat) : (s.setMent n l x).engine i = s.engine i := rfl
@[simp] theorem State.setMent_ns (s : State) (n l : Nat) (x : MEnt) (i : Nat) : (s.setMent n l x).ns i = s.ns i := rfl
@[simp] theorem State.setMent_zone (s : State) (n l : Nat) (x : MEnt) (i : Nat) (j : Nat) : (s.setMent n l x).zone i j = s.zone i j := rfl
@[simp] theorem State.setMent_page (s : State) (n l : Nat) (x : MEnt) (i : Nat) (j : Nat) : (s.setMent n l x).page i j = s.page i j := rfl
@[simp] theorem State.setMent_wblk (s : State) (n l : Nat) (x : MEnt) (i : Nat) : (s.setMent n l x).wblk i = s.wblk i := rfl
@[simp] theorem State.setMent_sb (s : State) (n l : Nat) (x : MEnt) (i : Nat) : (s.setMent n l x).sb i = s.sb i := rfl
@[simp] theorem State.setMent_prog (s : State) (n l : Nat) (x : MEnt) (i : Nat) : (s.setMent n l x).prog i = s.prog i := rfl
@[simp] theorem State.setMent_dram (s : State) (n l : Nat) (x : MEnt) (i : Nat) : (s.setMent n l x).dram i = s.dram i := rfl
@[simp] theorem State.setMent_sensor (s : State) (n l : Nat) (x : MEnt) (i : Nat) : (s.setMent n l x).sensor i = s.sensor i := rfl
@[simp] theorem State.setMent_tzone (s : State) (n l : Nat) (x : MEnt) (i : Nat) : (s.setMent n l x).tzone i = s.tzone i := rfl
@[simp] theorem State.setPage_port (s : State) (n p : Nat) (x : Page) (i : Nat) : (s.setPage n p x).port i = s.port i := rfl
@[simp] theorem State.setPage_func (s : State) (n p : Nat) (x : Page) (i : Nat) (j : Nat) : (s.setPage n p x).func i j = s.func i j := rfl
@[simp] theorem State.setPage_sq (s : State) (n p : Nat) (x : Page) (i : QKey) : (s.setPage n p x).sq i = s.sq i := rfl
@[simp] theorem State.setPage_cq (s : State) (n p : Nat) (x : Page) (i : QKey) : (s.setPage n p x).cq i = s.cq i := rfl
@[simp] theorem State.setPage_tag (s : State) (n p : Nat) (x : Page) (i : Nat) : (s.setPage n p x).tag i = s.tag i := rfl
@[simp] theorem State.setPage_ctrl (s : State) (n p : Nat) (x : Page) (i : Nat) : (s.setPage n p x).ctrl i = s.ctrl i := rfl
@[simp] theorem State.setPage_slice (s : State) (n p : Nat) (x : Page) (i : Nat) : (s.setPage n p x).slice i = s.slice i := rfl
@[simp] theorem State.setPage_lun (s : State) (n p : Nat) (x : Page) (i : Nat) (j : Nat) : (s.setPage n p x).lun i j = s.lun i j := rfl
@[simp] theorem State.setPage_chan (s : State) (n p : Nat) (x : Page) (i : Nat) : (s.setPage n p x).chan i = s.chan i := rfl
@[simp] theorem State.setPage_island (s : State) (n p : Nat) (x : Page) (i : Nat) : (s.setPage n p x).island i = s.island i := rfl
@[simp] theorem State.setPage_engine (s : State) (n p : Nat) (x : Page) (i : Nat) : (s.setPage n p x).engine i = s.engine i := rfl
@[simp] theorem State.setPage_ns (s : State) (n p : Nat) (x : Page) (i : Nat) : (s.setPage n p x).ns i = s.ns i := rfl
@[simp] theorem State.setPage_zone (s : State) (n p : Nat) (x : Page) (i : Nat) (j : Nat) : (s.setPage n p x).zone i j = s.zone i j := rfl
@[simp] theorem State.setPage_ment (s : State) (n p : Nat) (x : Page) (i : Nat) (j : Nat) : (s.setPage n p x).ment i j = s.ment i j := rfl
@[simp] theorem State.setPage_wblk (s : State) (n p : Nat) (x : Page) (i : Nat) : (s.setPage n p x).wblk i = s.wblk i := rfl
@[simp] theorem State.setPage_sb (s : State) (n p : Nat) (x : Page) (i : Nat) : (s.setPage n p x).sb i = s.sb i := rfl
@[simp] theorem State.setPage_prog (s : State) (n p : Nat) (x : Page) (i : Nat) : (s.setPage n p x).prog i = s.prog i := rfl
@[simp] theorem State.setPage_dram (s : State) (n p : Nat) (x : Page) (i : Nat) : (s.setPage n p x).dram i = s.dram i := rfl
@[simp] theorem State.setPage_sensor (s : State) (n p : Nat) (x : Page) (i : Nat) : (s.setPage n p x).sensor i = s.sensor i := rfl
@[simp] theorem State.setPage_tzone (s : State) (n p : Nat) (x : Page) (i : Nat) : (s.setPage n p x).tzone i = s.tzone i := rfl
@[simp] theorem State.setWblk_port (s : State) (k : Nat) (x : WbBlk) (i : Nat) : (s.setWblk k x).port i = s.port i := rfl
@[simp] theorem State.setWblk_func (s : State) (k : Nat) (x : WbBlk) (i : Nat) (j : Nat) : (s.setWblk k x).func i j = s.func i j := rfl
@[simp] theorem State.setWblk_sq (s : State) (k : Nat) (x : WbBlk) (i : QKey) : (s.setWblk k x).sq i = s.sq i := rfl
@[simp] theorem State.setWblk_cq (s : State) (k : Nat) (x : WbBlk) (i : QKey) : (s.setWblk k x).cq i = s.cq i := rfl
@[simp] theorem State.setWblk_tag (s : State) (k : Nat) (x : WbBlk) (i : Nat) : (s.setWblk k x).tag i = s.tag i := rfl
@[simp] theorem State.setWblk_ctrl (s : State) (k : Nat) (x : WbBlk) (i : Nat) : (s.setWblk k x).ctrl i = s.ctrl i := rfl
@[simp] theorem State.setWblk_slice (s : State) (k : Nat) (x : WbBlk) (i : Nat) : (s.setWblk k x).slice i = s.slice i := rfl
@[simp] theorem State.setWblk_lun (s : State) (k : Nat) (x : WbBlk) (i : Nat) (j : Nat) : (s.setWblk k x).lun i j = s.lun i j := rfl
@[simp] theorem State.setWblk_chan (s : State) (k : Nat) (x : WbBlk) (i : Nat) : (s.setWblk k x).chan i = s.chan i := rfl
@[simp] theorem State.setWblk_island (s : State) (k : Nat) (x : WbBlk) (i : Nat) : (s.setWblk k x).island i = s.island i := rfl
@[simp] theorem State.setWblk_engine (s : State) (k : Nat) (x : WbBlk) (i : Nat) : (s.setWblk k x).engine i = s.engine i := rfl
@[simp] theorem State.setWblk_ns (s : State) (k : Nat) (x : WbBlk) (i : Nat) : (s.setWblk k x).ns i = s.ns i := rfl
@[simp] theorem State.setWblk_zone (s : State) (k : Nat) (x : WbBlk) (i : Nat) (j : Nat) : (s.setWblk k x).zone i j = s.zone i j := rfl
@[simp] theorem State.setWblk_ment (s : State) (k : Nat) (x : WbBlk) (i : Nat) (j : Nat) : (s.setWblk k x).ment i j = s.ment i j := rfl
@[simp] theorem State.setWblk_page (s : State) (k : Nat) (x : WbBlk) (i : Nat) (j : Nat) : (s.setWblk k x).page i j = s.page i j := rfl
@[simp] theorem State.setWblk_sb (s : State) (k : Nat) (x : WbBlk) (i : Nat) : (s.setWblk k x).sb i = s.sb i := rfl
@[simp] theorem State.setWblk_prog (s : State) (k : Nat) (x : WbBlk) (i : Nat) : (s.setWblk k x).prog i = s.prog i := rfl
@[simp] theorem State.setWblk_dram (s : State) (k : Nat) (x : WbBlk) (i : Nat) : (s.setWblk k x).dram i = s.dram i := rfl
@[simp] theorem State.setWblk_sensor (s : State) (k : Nat) (x : WbBlk) (i : Nat) : (s.setWblk k x).sensor i = s.sensor i := rfl
@[simp] theorem State.setWblk_tzone (s : State) (k : Nat) (x : WbBlk) (i : Nat) : (s.setWblk k x).tzone i = s.tzone i := rfl
@[simp] theorem State.setSb_port (s : State) (k : Nat) (x : Sb) (i : Nat) : (s.setSb k x).port i = s.port i := rfl
@[simp] theorem State.setSb_func (s : State) (k : Nat) (x : Sb) (i : Nat) (j : Nat) : (s.setSb k x).func i j = s.func i j := rfl
@[simp] theorem State.setSb_sq (s : State) (k : Nat) (x : Sb) (i : QKey) : (s.setSb k x).sq i = s.sq i := rfl
@[simp] theorem State.setSb_cq (s : State) (k : Nat) (x : Sb) (i : QKey) : (s.setSb k x).cq i = s.cq i := rfl
@[simp] theorem State.setSb_tag (s : State) (k : Nat) (x : Sb) (i : Nat) : (s.setSb k x).tag i = s.tag i := rfl
@[simp] theorem State.setSb_ctrl (s : State) (k : Nat) (x : Sb) (i : Nat) : (s.setSb k x).ctrl i = s.ctrl i := rfl
@[simp] theorem State.setSb_slice (s : State) (k : Nat) (x : Sb) (i : Nat) : (s.setSb k x).slice i = s.slice i := rfl
@[simp] theorem State.setSb_lun (s : State) (k : Nat) (x : Sb) (i : Nat) (j : Nat) : (s.setSb k x).lun i j = s.lun i j := rfl
@[simp] theorem State.setSb_chan (s : State) (k : Nat) (x : Sb) (i : Nat) : (s.setSb k x).chan i = s.chan i := rfl
@[simp] theorem State.setSb_island (s : State) (k : Nat) (x : Sb) (i : Nat) : (s.setSb k x).island i = s.island i := rfl
@[simp] theorem State.setSb_engine (s : State) (k : Nat) (x : Sb) (i : Nat) : (s.setSb k x).engine i = s.engine i := rfl
@[simp] theorem State.setSb_ns (s : State) (k : Nat) (x : Sb) (i : Nat) : (s.setSb k x).ns i = s.ns i := rfl
@[simp] theorem State.setSb_zone (s : State) (k : Nat) (x : Sb) (i : Nat) (j : Nat) : (s.setSb k x).zone i j = s.zone i j := rfl
@[simp] theorem State.setSb_ment (s : State) (k : Nat) (x : Sb) (i : Nat) (j : Nat) : (s.setSb k x).ment i j = s.ment i j := rfl
@[simp] theorem State.setSb_page (s : State) (k : Nat) (x : Sb) (i : Nat) (j : Nat) : (s.setSb k x).page i j = s.page i j := rfl
@[simp] theorem State.setSb_wblk (s : State) (k : Nat) (x : Sb) (i : Nat) : (s.setSb k x).wblk i = s.wblk i := rfl
@[simp] theorem State.setSb_prog (s : State) (k : Nat) (x : Sb) (i : Nat) : (s.setSb k x).prog i = s.prog i := rfl
@[simp] theorem State.setSb_dram (s : State) (k : Nat) (x : Sb) (i : Nat) : (s.setSb k x).dram i = s.dram i := rfl
@[simp] theorem State.setSb_sensor (s : State) (k : Nat) (x : Sb) (i : Nat) : (s.setSb k x).sensor i = s.sensor i := rfl
@[simp] theorem State.setSb_tzone (s : State) (k : Nat) (x : Sb) (i : Nat) : (s.setSb k x).tzone i = s.tzone i := rfl
@[simp] theorem State.setProg_port (s : State) (k : Nat) (x : Prog) (i : Nat) : (s.setProg k x).port i = s.port i := rfl
@[simp] theorem State.setProg_func (s : State) (k : Nat) (x : Prog) (i : Nat) (j : Nat) : (s.setProg k x).func i j = s.func i j := rfl
@[simp] theorem State.setProg_sq (s : State) (k : Nat) (x : Prog) (i : QKey) : (s.setProg k x).sq i = s.sq i := rfl
@[simp] theorem State.setProg_cq (s : State) (k : Nat) (x : Prog) (i : QKey) : (s.setProg k x).cq i = s.cq i := rfl
@[simp] theorem State.setProg_tag (s : State) (k : Nat) (x : Prog) (i : Nat) : (s.setProg k x).tag i = s.tag i := rfl
@[simp] theorem State.setProg_ctrl (s : State) (k : Nat) (x : Prog) (i : Nat) : (s.setProg k x).ctrl i = s.ctrl i := rfl
@[simp] theorem State.setProg_slice (s : State) (k : Nat) (x : Prog) (i : Nat) : (s.setProg k x).slice i = s.slice i := rfl
@[simp] theorem State.setProg_lun (s : State) (k : Nat) (x : Prog) (i : Nat) (j : Nat) : (s.setProg k x).lun i j = s.lun i j := rfl
@[simp] theorem State.setProg_chan (s : State) (k : Nat) (x : Prog) (i : Nat) : (s.setProg k x).chan i = s.chan i := rfl
@[simp] theorem State.setProg_island (s : State) (k : Nat) (x : Prog) (i : Nat) : (s.setProg k x).island i = s.island i := rfl
@[simp] theorem State.setProg_engine (s : State) (k : Nat) (x : Prog) (i : Nat) : (s.setProg k x).engine i = s.engine i := rfl
@[simp] theorem State.setProg_ns (s : State) (k : Nat) (x : Prog) (i : Nat) : (s.setProg k x).ns i = s.ns i := rfl
@[simp] theorem State.setProg_zone (s : State) (k : Nat) (x : Prog) (i : Nat) (j : Nat) : (s.setProg k x).zone i j = s.zone i j := rfl
@[simp] theorem State.setProg_ment (s : State) (k : Nat) (x : Prog) (i : Nat) (j : Nat) : (s.setProg k x).ment i j = s.ment i j := rfl
@[simp] theorem State.setProg_page (s : State) (k : Nat) (x : Prog) (i : Nat) (j : Nat) : (s.setProg k x).page i j = s.page i j := rfl
@[simp] theorem State.setProg_wblk (s : State) (k : Nat) (x : Prog) (i : Nat) : (s.setProg k x).wblk i = s.wblk i := rfl
@[simp] theorem State.setProg_sb (s : State) (k : Nat) (x : Prog) (i : Nat) : (s.setProg k x).sb i = s.sb i := rfl
@[simp] theorem State.setProg_dram (s : State) (k : Nat) (x : Prog) (i : Nat) : (s.setProg k x).dram i = s.dram i := rfl
@[simp] theorem State.setProg_sensor (s : State) (k : Nat) (x : Prog) (i : Nat) : (s.setProg k x).sensor i = s.sensor i := rfl
@[simp] theorem State.setProg_tzone (s : State) (k : Nat) (x : Prog) (i : Nat) : (s.setProg k x).tzone i = s.tzone i := rfl
@[simp] theorem State.setDram_port (s : State) (k : Nat) (x : Dram) (i : Nat) : (s.setDram k x).port i = s.port i := rfl
@[simp] theorem State.setDram_func (s : State) (k : Nat) (x : Dram) (i : Nat) (j : Nat) : (s.setDram k x).func i j = s.func i j := rfl
@[simp] theorem State.setDram_sq (s : State) (k : Nat) (x : Dram) (i : QKey) : (s.setDram k x).sq i = s.sq i := rfl
@[simp] theorem State.setDram_cq (s : State) (k : Nat) (x : Dram) (i : QKey) : (s.setDram k x).cq i = s.cq i := rfl
@[simp] theorem State.setDram_tag (s : State) (k : Nat) (x : Dram) (i : Nat) : (s.setDram k x).tag i = s.tag i := rfl
@[simp] theorem State.setDram_ctrl (s : State) (k : Nat) (x : Dram) (i : Nat) : (s.setDram k x).ctrl i = s.ctrl i := rfl
@[simp] theorem State.setDram_slice (s : State) (k : Nat) (x : Dram) (i : Nat) : (s.setDram k x).slice i = s.slice i := rfl
@[simp] theorem State.setDram_lun (s : State) (k : Nat) (x : Dram) (i : Nat) (j : Nat) : (s.setDram k x).lun i j = s.lun i j := rfl
@[simp] theorem State.setDram_chan (s : State) (k : Nat) (x : Dram) (i : Nat) : (s.setDram k x).chan i = s.chan i := rfl
@[simp] theorem State.setDram_island (s : State) (k : Nat) (x : Dram) (i : Nat) : (s.setDram k x).island i = s.island i := rfl
@[simp] theorem State.setDram_engine (s : State) (k : Nat) (x : Dram) (i : Nat) : (s.setDram k x).engine i = s.engine i := rfl
@[simp] theorem State.setDram_ns (s : State) (k : Nat) (x : Dram) (i : Nat) : (s.setDram k x).ns i = s.ns i := rfl
@[simp] theorem State.setDram_zone (s : State) (k : Nat) (x : Dram) (i : Nat) (j : Nat) : (s.setDram k x).zone i j = s.zone i j := rfl
@[simp] theorem State.setDram_ment (s : State) (k : Nat) (x : Dram) (i : Nat) (j : Nat) : (s.setDram k x).ment i j = s.ment i j := rfl
@[simp] theorem State.setDram_page (s : State) (k : Nat) (x : Dram) (i : Nat) (j : Nat) : (s.setDram k x).page i j = s.page i j := rfl
@[simp] theorem State.setDram_wblk (s : State) (k : Nat) (x : Dram) (i : Nat) : (s.setDram k x).wblk i = s.wblk i := rfl
@[simp] theorem State.setDram_sb (s : State) (k : Nat) (x : Dram) (i : Nat) : (s.setDram k x).sb i = s.sb i := rfl
@[simp] theorem State.setDram_prog (s : State) (k : Nat) (x : Dram) (i : Nat) : (s.setDram k x).prog i = s.prog i := rfl
@[simp] theorem State.setDram_sensor (s : State) (k : Nat) (x : Dram) (i : Nat) : (s.setDram k x).sensor i = s.sensor i := rfl
@[simp] theorem State.setDram_tzone (s : State) (k : Nat) (x : Dram) (i : Nat) : (s.setDram k x).tzone i = s.tzone i := rfl
@[simp] theorem State.setSensor_port (s : State) (k : Nat) (x : Sensor) (i : Nat) : (s.setSensor k x).port i = s.port i := rfl
@[simp] theorem State.setSensor_func (s : State) (k : Nat) (x : Sensor) (i : Nat) (j : Nat) : (s.setSensor k x).func i j = s.func i j := rfl
@[simp] theorem State.setSensor_sq (s : State) (k : Nat) (x : Sensor) (i : QKey) : (s.setSensor k x).sq i = s.sq i := rfl
@[simp] theorem State.setSensor_cq (s : State) (k : Nat) (x : Sensor) (i : QKey) : (s.setSensor k x).cq i = s.cq i := rfl
@[simp] theorem State.setSensor_tag (s : State) (k : Nat) (x : Sensor) (i : Nat) : (s.setSensor k x).tag i = s.tag i := rfl
@[simp] theorem State.setSensor_ctrl (s : State) (k : Nat) (x : Sensor) (i : Nat) : (s.setSensor k x).ctrl i = s.ctrl i := rfl
@[simp] theorem State.setSensor_slice (s : State) (k : Nat) (x : Sensor) (i : Nat) : (s.setSensor k x).slice i = s.slice i := rfl
@[simp] theorem State.setSensor_lun (s : State) (k : Nat) (x : Sensor) (i : Nat) (j : Nat) : (s.setSensor k x).lun i j = s.lun i j := rfl
@[simp] theorem State.setSensor_chan (s : State) (k : Nat) (x : Sensor) (i : Nat) : (s.setSensor k x).chan i = s.chan i := rfl
@[simp] theorem State.setSensor_island (s : State) (k : Nat) (x : Sensor) (i : Nat) : (s.setSensor k x).island i = s.island i := rfl
@[simp] theorem State.setSensor_engine (s : State) (k : Nat) (x : Sensor) (i : Nat) : (s.setSensor k x).engine i = s.engine i := rfl
@[simp] theorem State.setSensor_ns (s : State) (k : Nat) (x : Sensor) (i : Nat) : (s.setSensor k x).ns i = s.ns i := rfl
@[simp] theorem State.setSensor_zone (s : State) (k : Nat) (x : Sensor) (i : Nat) (j : Nat) : (s.setSensor k x).zone i j = s.zone i j := rfl
@[simp] theorem State.setSensor_ment (s : State) (k : Nat) (x : Sensor) (i : Nat) (j : Nat) : (s.setSensor k x).ment i j = s.ment i j := rfl
@[simp] theorem State.setSensor_page (s : State) (k : Nat) (x : Sensor) (i : Nat) (j : Nat) : (s.setSensor k x).page i j = s.page i j := rfl
@[simp] theorem State.setSensor_wblk (s : State) (k : Nat) (x : Sensor) (i : Nat) : (s.setSensor k x).wblk i = s.wblk i := rfl
@[simp] theorem State.setSensor_sb (s : State) (k : Nat) (x : Sensor) (i : Nat) : (s.setSensor k x).sb i = s.sb i := rfl
@[simp] theorem State.setSensor_prog (s : State) (k : Nat) (x : Sensor) (i : Nat) : (s.setSensor k x).prog i = s.prog i := rfl
@[simp] theorem State.setSensor_dram (s : State) (k : Nat) (x : Sensor) (i : Nat) : (s.setSensor k x).dram i = s.dram i := rfl
@[simp] theorem State.setSensor_tzone (s : State) (k : Nat) (x : Sensor) (i : Nat) : (s.setSensor k x).tzone i = s.tzone i := rfl
@[simp] theorem State.setTzone_port (s : State) (k : Nat) (x : TZone) (i : Nat) : (s.setTzone k x).port i = s.port i := rfl
@[simp] theorem State.setTzone_func (s : State) (k : Nat) (x : TZone) (i : Nat) (j : Nat) : (s.setTzone k x).func i j = s.func i j := rfl
@[simp] theorem State.setTzone_sq (s : State) (k : Nat) (x : TZone) (i : QKey) : (s.setTzone k x).sq i = s.sq i := rfl
@[simp] theorem State.setTzone_cq (s : State) (k : Nat) (x : TZone) (i : QKey) : (s.setTzone k x).cq i = s.cq i := rfl
@[simp] theorem State.setTzone_tag (s : State) (k : Nat) (x : TZone) (i : Nat) : (s.setTzone k x).tag i = s.tag i := rfl
@[simp] theorem State.setTzone_ctrl (s : State) (k : Nat) (x : TZone) (i : Nat) : (s.setTzone k x).ctrl i = s.ctrl i := rfl
@[simp] theorem State.setTzone_slice (s : State) (k : Nat) (x : TZone) (i : Nat) : (s.setTzone k x).slice i = s.slice i := rfl
@[simp] theorem State.setTzone_lun (s : State) (k : Nat) (x : TZone) (i : Nat) (j : Nat) : (s.setTzone k x).lun i j = s.lun i j := rfl
@[simp] theorem State.setTzone_chan (s : State) (k : Nat) (x : TZone) (i : Nat) : (s.setTzone k x).chan i = s.chan i := rfl
@[simp] theorem State.setTzone_island (s : State) (k : Nat) (x : TZone) (i : Nat) : (s.setTzone k x).island i = s.island i := rfl
@[simp] theorem State.setTzone_engine (s : State) (k : Nat) (x : TZone) (i : Nat) : (s.setTzone k x).engine i = s.engine i := rfl
@[simp] theorem State.setTzone_ns (s : State) (k : Nat) (x : TZone) (i : Nat) : (s.setTzone k x).ns i = s.ns i := rfl
@[simp] theorem State.setTzone_zone (s : State) (k : Nat) (x : TZone) (i : Nat) (j : Nat) : (s.setTzone k x).zone i j = s.zone i j := rfl
@[simp] theorem State.setTzone_ment (s : State) (k : Nat) (x : TZone) (i : Nat) (j : Nat) : (s.setTzone k x).ment i j = s.ment i j := rfl
@[simp] theorem State.setTzone_page (s : State) (k : Nat) (x : TZone) (i : Nat) (j : Nat) : (s.setTzone k x).page i j = s.page i j := rfl
@[simp] theorem State.setTzone_wblk (s : State) (k : Nat) (x : TZone) (i : Nat) : (s.setTzone k x).wblk i = s.wblk i := rfl
@[simp] theorem State.setTzone_sb (s : State) (k : Nat) (x : TZone) (i : Nat) : (s.setTzone k x).sb i = s.sb i := rfl
@[simp] theorem State.setTzone_prog (s : State) (k : Nat) (x : TZone) (i : Nat) : (s.setTzone k x).prog i = s.prog i := rfl
@[simp] theorem State.setTzone_dram (s : State) (k : Nat) (x : TZone) (i : Nat) : (s.setTzone k x).dram i = s.dram i := rfl
@[simp] theorem State.setTzone_sensor (s : State) (k : Nat) (x : TZone) (i : Nat) : (s.setTzone k x).sensor i = s.sensor i := rfl
@[simp] theorem State.emit_port (s : State) (o : Out) (i : Nat) : (s.emit o).port i = s.port i := rfl
@[simp] theorem State.emit_func (s : State) (o : Out) (i : Nat) (j : Nat) : (s.emit o).func i j = s.func i j := rfl
@[simp] theorem State.emit_sq (s : State) (o : Out) (i : QKey) : (s.emit o).sq i = s.sq i := rfl
@[simp] theorem State.emit_cq (s : State) (o : Out) (i : QKey) : (s.emit o).cq i = s.cq i := rfl
@[simp] theorem State.emit_tag (s : State) (o : Out) (i : Nat) : (s.emit o).tag i = s.tag i := rfl
@[simp] theorem State.emit_ctrl (s : State) (o : Out) (i : Nat) : (s.emit o).ctrl i = s.ctrl i := rfl
@[simp] theorem State.emit_slice (s : State) (o : Out) (i : Nat) : (s.emit o).slice i = s.slice i := rfl
@[simp] theorem State.emit_lun (s : State) (o : Out) (i : Nat) (j : Nat) : (s.emit o).lun i j = s.lun i j := rfl
@[simp] theorem State.emit_chan (s : State) (o : Out) (i : Nat) : (s.emit o).chan i = s.chan i := rfl
@[simp] theorem State.emit_island (s : State) (o : Out) (i : Nat) : (s.emit o).island i = s.island i := rfl
@[simp] theorem State.emit_engine (s : State) (o : Out) (i : Nat) : (s.emit o).engine i = s.engine i := rfl
@[simp] theorem State.emit_ns (s : State) (o : Out) (i : Nat) : (s.emit o).ns i = s.ns i := rfl
@[simp] theorem State.emit_zone (s : State) (o : Out) (i : Nat) (j : Nat) : (s.emit o).zone i j = s.zone i j := rfl
@[simp] theorem State.emit_ment (s : State) (o : Out) (i : Nat) (j : Nat) : (s.emit o).ment i j = s.ment i j := rfl
@[simp] theorem State.emit_page (s : State) (o : Out) (i : Nat) (j : Nat) : (s.emit o).page i j = s.page i j := rfl
@[simp] theorem State.emit_wblk (s : State) (o : Out) (i : Nat) : (s.emit o).wblk i = s.wblk i := rfl
@[simp] theorem State.emit_sb (s : State) (o : Out) (i : Nat) : (s.emit o).sb i = s.sb i := rfl
@[simp] theorem State.emit_prog (s : State) (o : Out) (i : Nat) : (s.emit o).prog i = s.prog i := rfl
@[simp] theorem State.emit_dram (s : State) (o : Out) (i : Nat) : (s.emit o).dram i = s.dram i := rfl
@[simp] theorem State.emit_sensor (s : State) (o : Out) (i : Nat) : (s.emit o).sensor i = s.sensor i := rfl
@[simp] theorem State.emit_tzone (s : State) (o : Out) (i : Nat) : (s.emit o).tzone i = s.tzone i := rfl
@[simp] theorem State.unlisted_port (s : State)  (i : Nat) : (s.unlisted).port i = s.port i := rfl
@[simp] theorem State.unlisted_func (s : State)  (i : Nat) (j : Nat) : (s.unlisted).func i j = s.func i j := rfl
@[simp] theorem State.unlisted_sq (s : State)  (i : QKey) : (s.unlisted).sq i = s.sq i := rfl
@[simp] theorem State.unlisted_cq (s : State)  (i : QKey) : (s.unlisted).cq i = s.cq i := rfl
@[simp] theorem State.unlisted_tag (s : State)  (i : Nat) : (s.unlisted).tag i = s.tag i := rfl
@[simp] theorem State.unlisted_ctrl (s : State)  (i : Nat) : (s.unlisted).ctrl i = s.ctrl i := rfl
@[simp] theorem State.unlisted_slice (s : State)  (i : Nat) : (s.unlisted).slice i = s.slice i := rfl
@[simp] theorem State.unlisted_lun (s : State)  (i : Nat) (j : Nat) : (s.unlisted).lun i j = s.lun i j := rfl
@[simp] theorem State.unlisted_chan (s : State)  (i : Nat) : (s.unlisted).chan i = s.chan i := rfl
@[simp] theorem State.unlisted_island (s : State)  (i : Nat) : (s.unlisted).island i = s.island i := rfl
@[simp] theorem State.unlisted_engine (s : State)  (i : Nat) : (s.unlisted).engine i = s.engine i := rfl
@[simp] theorem State.unlisted_ns (s : State)  (i : Nat) : (s.unlisted).ns i = s.ns i := rfl
@[simp] theorem State.unlisted_zone (s : State)  (i : Nat) (j : Nat) : (s.unlisted).zone i j = s.zone i j := rfl
@[simp] theorem State.unlisted_ment (s : State)  (i : Nat) (j : Nat) : (s.unlisted).ment i j = s.ment i j := rfl
@[simp] theorem State.unlisted_page (s : State)  (i : Nat) (j : Nat) : (s.unlisted).page i j = s.page i j := rfl
@[simp] theorem State.unlisted_wblk (s : State)  (i : Nat) : (s.unlisted).wblk i = s.wblk i := rfl
@[simp] theorem State.unlisted_sb (s : State)  (i : Nat) : (s.unlisted).sb i = s.sb i := rfl
@[simp] theorem State.unlisted_prog (s : State)  (i : Nat) : (s.unlisted).prog i = s.prog i := rfl
@[simp] theorem State.unlisted_dram (s : State)  (i : Nat) : (s.unlisted).dram i = s.dram i := rfl
@[simp] theorem State.unlisted_sensor (s : State)  (i : Nat) : (s.unlisted).sensor i = s.sensor i := rfl
@[simp] theorem State.unlisted_tzone (s : State)  (i : Nat) : (s.unlisted).tzone i = s.tzone i := rfl
@[simp] theorem State.rasRecord_port (s : State) (u k v c d : Nat) (l : List Nat) (i : Nat) : (s.rasRecord u k v c d l).port i = s.port i := rfl
@[simp] theorem State.rasRecord_func (s : State) (u k v c d : Nat) (l : List Nat) (i : Nat) (j : Nat) : (s.rasRecord u k v c d l).func i j = s.func i j := rfl
@[simp] theorem State.rasRecord_sq (s : State) (u k v c d : Nat) (l : List Nat) (i : QKey) : (s.rasRecord u k v c d l).sq i = s.sq i := rfl
@[simp] theorem State.rasRecord_cq (s : State) (u k v c d : Nat) (l : List Nat) (i : QKey) : (s.rasRecord u k v c d l).cq i = s.cq i := rfl
@[simp] theorem State.rasRecord_tag (s : State) (u k v c d : Nat) (l : List Nat) (i : Nat) : (s.rasRecord u k v c d l).tag i = s.tag i := rfl
@[simp] theorem State.rasRecord_ctrl (s : State) (u k v c d : Nat) (l : List Nat) (i : Nat) : (s.rasRecord u k v c d l).ctrl i = s.ctrl i := rfl
@[simp] theorem State.rasRecord_slice (s : State) (u k v c d : Nat) (l : List Nat) (i : Nat) : (s.rasRecord u k v c d l).slice i = s.slice i := rfl
@[simp] theorem State.rasRecord_lun (s : State) (u k v c d : Nat) (l : List Nat) (i : Nat) (j : Nat) : (s.rasRecord u k v c d l).lun i j = s.lun i j := rfl
@[simp] theorem State.rasRecord_chan (s : State) (u k v c d : Nat) (l : List Nat) (i : Nat) : (s.rasRecord u k v c d l).chan i = s.chan i := rfl
@[simp] theorem State.rasRecord_island (s : State) (u k v c d : Nat) (l : List Nat) (i : Nat) : (s.rasRecord u k v c d l).island i = s.island i := rfl
@[simp] theorem State.rasRecord_engine (s : State) (u k v c d : Nat) (l : List Nat) (i : Nat) : (s.rasRecord u k v c d l).engine i = s.engine i := rfl
@[simp] theorem State.rasRecord_ns (s : State) (u k v c d : Nat) (l : List Nat) (i : Nat) : (s.rasRecord u k v c d l).ns i = s.ns i := rfl
@[simp] theorem State.rasRecord_zone (s : State) (u k v c d : Nat) (l : List Nat) (i : Nat) (j : Nat) : (s.rasRecord u k v c d l).zone i j = s.zone i j := rfl
@[simp] theorem State.rasRecord_ment (s : State) (u k v c d : Nat) (l : List Nat) (i : Nat) (j : Nat) : (s.rasRecord u k v c d l).ment i j = s.ment i j := rfl
@[simp] theorem State.rasRecord_page (s : State) (u k v c d : Nat) (l : List Nat) (i : Nat) (j : Nat) : (s.rasRecord u k v c d l).page i j = s.page i j := rfl
@[simp] theorem State.rasRecord_wblk (s : State) (u k v c d : Nat) (l : List Nat) (i : Nat) : (s.rasRecord u k v c d l).wblk i = s.wblk i := rfl
@[simp] theorem State.rasRecord_sb (s : State) (u k v c d : Nat) (l : List Nat) (i : Nat) : (s.rasRecord u k v c d l).sb i = s.sb i := rfl
@[simp] theorem State.rasRecord_prog (s : State) (u k v c d : Nat) (l : List Nat) (i : Nat) : (s.rasRecord u k v c d l).prog i = s.prog i := rfl
@[simp] theorem State.rasRecord_dram (s : State) (u k v c d : Nat) (l : List Nat) (i : Nat) : (s.rasRecord u k v c d l).dram i = s.dram i := rfl
@[simp] theorem State.rasRecord_sensor (s : State) (u k v c d : Nat) (l : List Nat) (i : Nat) : (s.rasRecord u k v c d l).sensor i = s.sensor i := rfl
@[simp] theorem State.rasRecord_tzone (s : State) (u k v c d : Nat) (l : List Nat) (i : Nat) : (s.rasRecord u k v c d l).tzone i = s.tzone i := rfl

/-! ### What depends on the dictionary alone -/

theorem State.cfg_congr {s t : State} (h : t.dict = s.dict) (i j : Nat) : t.cfg i j = s.cfg i j := by
  unfold State.cfg State.cfgVal; rw [h]

theorem State.cfgB_congr {s t : State} (h : t.dict = s.dict) (i j : Nat) : t.cfgB i j = s.cfgB i j := by
  unfold State.cfgB; rw [State.cfg_congr h]

end Sys2Proof.Machine
end

