-- ==== Sys2Proof/Laws/Exec.lean ====
section
/-! SUPPORT. Every command: it answers a next state that differs only in the parts that `Instr.parts` names, with the queue as it
was, the fuse history only grown, and the addressed memories in canonical form. -/

namespace Sys2Proof

open Machine

/-- The place of a part in the mask of a change. -/
def Part.index : Part → Nat
  | .out => 1
  | .aon => 2
  | .mode => 3
  | .regs => 4
  | .ras => 5
  | .ports => 6
  | .funcs => 7
  | .dmas => 8
  | .dmaWait => 9
  | .dict => 10
  | .sqs => 11
  | .cqs => 12
  | .tags => 13
  | .ctrls => 14
  | .cmds => 15
  | .slices => 16
  | .dirty => 17
  | .sched => 18
  | .luns => 19
  | .chans => 20
  | .islands => 21
  | .engines => 22
  | .nss => 23
  | .zones => 24
  | .pool => 25
  | .map => 26
  | .jrn => 27
  | .wbuf => 28
  | .media => 29
  | .recov => 30
  | .cmp => 31
  | .drams => 32
  | .ranks => 33
  | .chip => 34
  | .thermal => 35
  | .mgmt => 36
  | .sec => 37

/-- The mask of a list of parts. -/
def Part.mask (l : List Part) : Nat := l.foldl (fun m p => m ||| 2 ^ p.index) 0

/-- A part that a mask leaves out is as it was. -/
theorem Part.same_of_chg {m : Nat} {s t : State} (h : Chg m s t) (p : Part) (hp : m.testBit p.index = false) : p.same s t := by
  cases p
  · exact h.out hp
  · exact h.aon hp
  · exact h.mode hp
  · exact h.regs hp
  · exact h.ras hp
  · exact h.ports hp
  · exact h.funcs hp
  · exact h.dmas hp
  · exact h.dmaWait hp
  · exact h.dict hp
  · exact h.sqs hp
  · exact h.cqs hp
  · exact h.tags hp
  · exact h.ctrls hp
  · exact h.cmds hp
  · exact h.slices hp
  · exact h.dirty hp
  · exact h.sched hp
  · exact h.luns hp
  · exact h.chans hp
  · exact h.islands hp
  · exact h.engines hp
  · exact h.nss hp
  · exact h.zones hp
  · exact h.pool hp
  · exact h.map hp
  · exact h.jrn hp
  · exact h.wbuf hp
  · exact h.media hp
  · exact h.recov hp
  · exact h.cmp hp
  · exact h.drams hp
  · exact h.ranks hp
  · exact h.chip hp
  · exact h.thermal hp
  · exact h.mgmt hp
  · exact h.sec hp

theorem Part.index_injective (p q : Part) : p.index = q.index → p = q := by
  cases p <;> cases q <;> decide

/-- A part that is not listed is not in the mask. -/
theorem Part.mask_testBit (p : Part) (l : List Part) (hp : p ∉ l) : (Part.mask l).testBit p.index = false := by
  have key : ∀ (l : List Part) (m : Nat), p ∉ l → m.testBit p.index = false →
      (l.foldl (fun m p => m ||| 2 ^ p.index) m).testBit p.index = false := by
    intro l
    induction l with
    | nil => intro m _ h; exact h
    | cons q l ih =>
      intro m hl h
      have hq : q.index ≠ p.index := fun e => hl (by rw [Part.index_injective q p e]; exact List.mem_cons_self)
      exact ih _ (fun h' => hl (List.mem_cons_of_mem _ h')) (by
        rw [Nat.testBit_or, h, Nat.testBit_two_pow_of_ne hq]; rfl)
  exact key l 0 hp (Nat.zero_testBit _)

/-- Every command answers a next state, and what may differ there. -/
theorem exec_chg (i : Instr) (s : State) : ∃ t, exec i s = .next t ∧ Chg (Part.mask i.parts) s t := by
  cases i with
  | sqTailDoorbell w => exact execSqTailDoorbell_chg w s
  | cqHeadDoorbell w => exact execCqHeadDoorbell_chg w s
  | registerWrite w => exact execRegisterWrite_chg w s
  | readClearAccess w => exact execReadClearAccess_chg w s
  | dmbGo port => exact execDmbGo_chg port s
  | cmbWrite port fn off data poisoned => exact execCmbWrite_chg port fn off data poisoned s
  | poisonedTlpReceived port fn => exact execPoisonedTlpReceived_chg port fn s
  | configRequest port fn reg write => exact execConfigRequest_chg port fn reg write s
  | busMasterEnableChange port fn on => exact execBusMasterEnableChange_chg port fn on s
  | d3hotTransition port fn enter => exact execD3hotTransition_chg port fn enter s
  | msixEnableChange port fn enable mask => exact execMsixEnableChange_chg port fn enable mask s
  | linkUp port speed width => exact execLinkUp_chg port speed width s
  | speedChangeRetry port speed width => exact execSpeedChangeRetry_chg port speed width s
  | l0pDecision port width => exact execL0pDecision_chg port width s
  | l1IdleEntry port => exact execL1IdleEntry_chg port s
  | dmaReadCompletion req data => exact execDmaReadCompletion_chg req data s
  | dmaRequestFailure req why => exact execDmaRequestFailure_chg req why s
  | completionTimeout req => exact execCompletionTimeout_chg req s
  | atsInvalidationRequest port fn itag pasid page => exact execAtsInvalidationRequest_chg port fn itag pasid page s
  | invalidationComplete port itag => exact execInvalidationComplete_chg port itag s
  | perstAssert port => exact execPerstAssert_chg port s
  | hotReset port => exact execHotReset_chg port s
  | linkDisable port => exact execLinkDisable_chg port s
  | dlDown port => exact execDlDown_chg port s
  | pfFunctionLevelReset port => exact execPfFunctionLevelReset_chg port s
  | vfFunctionLevelReset port fn => exact execVfFunctionLevelReset_chg port fn s
  | vfEnableCleared port => exact execVfEnableCleared_chg port s
  | controllerReset port fn => exact execControllerReset_chg port fn s
  | controllerEnable port fn crime => exact execControllerEnable_chg port fn crime s
  | nvmSubsystemReset port => exact execNvmSubsystemReset_chg port s
  | shutdownNotification port fn => exact execShutdownNotification_chg port fn s
  | entryFetch q entries => exact execEntryFetch_chg q entries s
  | commandAdmission q tag => exact execCommandAdmission_chg q tag s
  | mapFillComplete nsid page good => exact execMapFillComplete_chg nsid page good s
  | bufferReturn arena size count => exact execBufferReturn_chg arena size count s
  | chainComplete tag => exact execChainComplete_chg tag s
  | overlapResolved tag => exact execOverlapResolved_chg tag s
  | stepComplete tag result => exact execStepComplete_chg tag result s
  | completionPost tag => exact execCompletionPost_chg tag s
  | deleteIoSq tag => exact execDeleteIoSq_chg tag s
  | createIoSq tag => exact execCreateIoSq_chg tag s
  | deleteIoCq tag => exact execDeleteIoCq_chg tag s
  | createIoCq tag => exact execCreateIoCq_chg tag s
  | getLogPage tag => exact execGetLogPage_chg tag s
  | identify tag => exact execIdentify_chg tag s
  | abort tag => exact execAbort_chg tag s
  | setFeatures tag => exact execSetFeatures_chg tag s
  | setFeaturesPowerManagement tag => exact execSetFeaturesPowerManagement_chg tag s
  | setFeaturesHostMemoryBuffer tag => exact execSetFeaturesHostMemoryBuffer_chg tag s
  | setFeaturesTimestamp tag ms => exact execSetFeaturesTimestamp_chg tag ms s
  | setFeaturesFdp tag => exact execSetFeaturesFdp_chg tag s
  | getFeatures tag => exact execGetFeatures_chg tag s
  | asyncEventRequest tag => exact execAsyncEventRequest_chg tag s
  | namespaceCreate tag d => exact execNamespaceCreate_chg tag d s
  | namespaceDelete tag => exact execNamespaceDelete_chg tag s
  | namespaceDeleteComplete nsid => exact execNamespaceDeleteComplete_chg nsid s
  | namespaceAttach tag ctrls => exact execNamespaceAttach_chg tag ctrls s
  | namespaceDetach tag ctrls => exact execNamespaceDetach_chg tag ctrls s
  | firmwareImageDownload tag image => exact execFirmwareImageDownload_chg tag image s
  | firmwareCommitReplace tag => exact execFirmwareCommitReplace_chg tag s
  | firmwareCommitActivateNext tag => exact execFirmwareCommitActivateNext_chg tag s
  | firmwareCommitActivateNow tag => exact execFirmwareCommitActivateNow_chg tag s
  | activationHandoff holdUs => exact execActivationHandoff_chg holdUs s
  | directiveSend tag => exact execDirectiveSend_chg tag s
  | directiveReceive tag => exact execDirectiveReceive_chg tag s
  | formatNvm tag => exact execFormatNvm_chg tag s
  | formatComplete nsid => exact execFormatComplete_chg nsid s
  | sanitizeBlockErase tag => exact execSanitizeBlockErase_chg tag s
  | sanitizeCryptoErase tag => exact execSanitizeCryptoErase_chg tag s
  | sanitizeExitFailure tag => exact execSanitizeExitFailure_chg tag s
  | sliceCreate tag data => exact execSliceCreate_chg tag data s
  | sliceBind tag data => exact execSliceBind_chg tag data s
  | sliceUnbind tag => exact execSliceUnbind_chg tag s
  | sliceReset tag => exact execSliceReset_chg tag s
  | sliceDestroy tag => exact execSliceDestroy_chg tag s
  | dirtyLogControl tag data => exact execDirtyLogControl_chg tag data s
  | dirtyLogFlush tag => exact execDirtyLogFlush_chg tag s
  | queueRestart tag => exact execQueueRestart_chg tag s
  | dictionaryRead tag => exact execDictionaryRead_chg tag s
  | dictionaryWrite tag frame => exact execDictionaryWrite_chg tag frame s
  | flush tag => exact execFlush_chg tag s
  | write tag => exact execWrite_chg tag s
  | read tag => exact execRead_chg tag s
  | writeUncorrectable tag => exact execWriteUncorrectable_chg tag s
  | compare tag => exact execCompare_chg tag s
  | writeZeroes tag => exact execWriteZeroes_chg tag s
  | datasetManagement tag ranges => exact execDatasetManagement_chg tag ranges s
  | verify tag => exact execVerify_chg tag s
  | copy tag ranges => exact execCopy_chg tag ranges s
  | zoneAppend tag => exact execZoneAppend_chg tag s
  | zoneClose tag => exact execZoneClose_chg tag s
  | zoneFinish tag => exact execZoneFinish_chg tag s
  | zoneOpen tag => exact execZoneOpen_chg tag s
  | zoneReset tag => exact execZoneReset_chg tag s
  | zoneOffline tag => exact execZoneOffline_chg tag s
  | flushExplicitZrwaRange tag => exact execFlushExplicitZrwaRange_chg tag s
  | reportZones tag => exact execReportZones_chg tag s
  | zoneTableDecision tag => exact execZoneTableDecision_chg tag s
  | zoneResetSettled tag => exact execZoneResetSettled_chg tag s
  | zoneFinishRecommended nsid zone => exact execZoneFinishRecommended_chg nsid zone s
  | zoneFinishedByController nsid zone => exact execZoneFinishedByController_chg nsid zone s
  | transformEncode tag coded => exact execTransformEncode_chg tag coded s
  | transformDecode tag => exact execTransformDecode_chg tag s
  | sliceActionApply slice keySlot => exact execSliceActionApply_chg slice keySlot s
  | generationHoldRelease slice => exact execGenerationHoldRelease_chg slice s
  | resetSequenceEnd slice => exact execResetSequenceEnd_chg slice s
  | sliceDestroyComplete slice => exact execSliceDestroyComplete_chg slice s
  | dirtyLogPostTimer slice word => exact execDirtyLogPostTimer_chg slice word s
  | dirtyLogPostDone slice word => exact execDirtyLogPostDone_chg slice word s
  | epochStart => exact execEpochStart_chg s
  | dieDescriptorArrival ch pos op => exact execDieDescriptorArrival_chg ch pos op s
  | suspendMinRunReached ch pos => exact execSuspendMinRunReached_chg ch pos s
  | suspendLimitReached ch pos => exact execSuspendLimitReached_chg ch pos s
  | dieOperationComplete ch pos ok => exact execDieOperationComplete_chg ch pos ok s
  | thermalPauseEnd ch pos => exact execThermalPauseEnd_chg ch pos s
  | busTransferComplete ch => exact execBusTransferComplete_chg ch s
  | arbiterAgingLift resource unit => exact execArbiterAgingLift_chg resource unit s
  | islandClockGateIdle island => exact execIslandClockGateIdle_chg island s
  | islandPowerGateIdle island => exact execIslandPowerGateIdle_chg island s
  | islandWake island pastRetention late => exact execIslandWake_chg island pastRetention late s
  | powerGateEntryComplete island => exact execPowerGateEntryComplete_chg island s
  | engineEvent engine => exact execEngineEvent_chg engine s
  | engineEventTimeout engine => exact execEngineEventTimeout_chg engine s
  | engineFailed engine => exact execEngineFailed_chg engine s
  | journalPageTimer => exact execJournalPageTimer_chg s
  | journalPageDurable => exact execJournalPageDurable_chg s
  | checkpointInterval => exact execCheckpointInterval_chg s
  | checkpointEndDurable => exact execCheckpointEndDurable_chg s
  | writebackProgramDone nsid page slot ok => exact execWritebackProgramDone_chg nsid page slot ok s
  | programComplete program ok => exact execProgramComplete_chg program ok s
  | eraseComplete sb ch ok => exact execEraseComplete_chg sb ch ok s
  | rowHoldExpiry sb => exact execRowHoldExpiry_chg sb s
  | foldTask sb => exact execFoldTask_chg sb s
  | foldIdleTimer => exact execFoldIdleTimer_chg s
  | gcTask group => exact execGcTask_chg group s
  | wearLevelHourly => exact execWearLevelHourly_chg s
  | idleClosure sb => exact execIdleClosure_chg sb s
  | refreshTask sb => exact execRefreshTask_chg sb s
  | patrolVisit sb ch correctedBits failed => exact execPatrolVisit_chg sb ch correctedBits failed s
  | hardDecodeDone tag blk bits ok directed data => exact execHardDecodeDone_chg tag blk bits ok directed data s
  | softDecodeDone tag blk ok data => exact execSoftDecodeDone_chg tag blk ok data s
  | rebuildTask => exact execRebuildTask_chg s
  | powerLossNotify => exact execPowerLossNotify_chg s
  | powerDisable => exact execPowerDisable_chg s
  | postWindowEnd => exact execPostWindowEnd_chg s
  | flushEnd => exact execFlushEnd_chg s
  | powerControlRelease pwrdis => exact execPowerControlRelease_chg pwrdis s
  | flushRestartTimer => exact execFlushRestartTimer_chg s
  | channelTrainingResult ch pass => exact execChannelTrainingResult_chg ch pass s
  | retrainHoursTimer ch => exact execRetrainHoursTimer_chg ch s
  | retrain ch => exact execRetrain_chg ch s
  | retrainStepDone ch ok last => exact execRetrainStepDone_chg ch ok last s
  | rbNHint ch => exact execRbNHint_chg ch s
  | lunBusyTimeout ch pos => exact execLunBusyTimeout_chg ch pos s
  | lunResetCheck ch pos busy => exact execLunResetCheck_chg ch pos busy s
  | syncResetTimeout ch => exact execSyncResetTimeout_chg ch s
  | sequencerParityError ch zq => exact execSequencerParityError_chg ch zq s
  | blockEncodeDone tag blk lane c => exact execBlockEncodeDone_chg tag blk lane c s
  | slotDecodeDone tag blk => exact execSlotDecodeDone_chg tag blk s
  | ocxonCodeDone tag blk lane encode c => exact execOcxonCodeDone_chg tag blk lane encode c s
  | trefiBoundary ch rank completed => exact execTrefiBoundary_chg ch rank completed s
  | realtimeBurstStaged ch staged waiting => exact execRealtimeBurstStaged_chg ch staged waiting s
  | dramReadComplete place code mirrorGood user => exact execDramReadComplete_chg place code mirrorGood user s
  | remirrorComplete => exact execRemirrorComplete_chg s
  | zqCalibrationTimer ch ok => exact execZqCalibrationTimer_chg ch ok s
  | dqsOscillatorTimer ch drift16 ok => exact execDqsOscillatorTimer_chg ch drift16 ok s
  | dramTrainingResult ch pass registersAgree => exact execDramTrainingResult_chg ch pass registersAgree s
  | mergeHoldExpiry ch line find mirrorGood => exact execMergeHoldExpiry_chg ch line find mirrorGood s
  | sramScrubStep arr elem word find overwritten => exact execSramScrubStep_chg arr elem word find overwritten s
  | dramScrubStep place code mirrorGood user overwritten => exact execDramScrubStep_chg place code mirrorGood user overwritten s
  | auxPowerOn => exact execAuxPowerOn_chg s
  | auxPowerLoss => exact execAuxPowerLoss_chg s
  | mainPgTrue => exact execMainPgTrue_chg s
  | mainPgFalse => exact execMainPgFalse_chg s
  | bringUpComplete found => exact execBringUpComplete_chg found s
  | maintRequest path on => exact execMaintRequest_chg path on s
  | maintenanceEntryDone => exact execMaintenanceEntryDone_chg s
  | writeProtect path on => exact execWriteProtect_chg path on s
  | thermalSampleRound samples => exact execThermalSampleRound_chg samples s
  | thermalHoldEnd => exact execThermalHoldEnd_chg s
  | crystalQualified => exact execCrystalQualified_chg s
  | crystalQualifyTimeout => exact execCrystalQualifyTimeout_chg s
  | slowCrystalFailure => exact execSlowCrystalFailure_chg s
  | refclkStop => exact execRefclkStop_chg s
  | refclkRestored => exact execRefclkRestored_chg s
  | aonHeartbeatLoss => exact execAonHeartbeatLoss_chg s
  | fabricLinkCrcFailure link => exact execFabricLinkCrcFailure_chg link s
  | softDecoderSelfTest decoder pass => exact execSoftDecoderSelfTest_chg decoder pass s
  | portFailure port loopback => exact execPortFailure_chg port loopback s
  | readEntry path f => exact execReadEntry_chg path f s
  | writeEntry path f => exact execWriteEntry_chg path f s
  | readWholeRecord path f => exact execReadWholeRecord_chg path f s
  | writeWholeRecord path f => exact execWriteWholeRecord_chg path f s
  | nextIndex path f => exact execNextIndex_chg path f s
  | spdmRelay source f => exact execSpdmRelay_chg source f s
  | commitIndex path index => exact execCommitIndex_chg path index s
  | discardIndex path index => exact execDiscardIndex_chg path index s
  | restoreIndex path index => exact execRestoreIndex_chg path index s
  | commitBoundary index => exact execCommitBoundary_chg index s
  | commitResponseTimeout index => exact execCommitResponseTimeout_chg index s
  | shadowTimeout index => exact execShadowTimeout_chg index s
  | stagingTimeout => exact execStagingTimeout_chg s
  | logRecordDurable ok => exact execLogRecordDurable_chg ok s
  | tokenRefill => exact execTokenRefill_chg s
  | compactionTimer => exact execCompactionTimer_chg s
  | compactionComplete ok => exact execCompactionComplete_chg ok s
  | compactionRetry => exact execCompactionRetry_chg s
  | ackSeq path value => exact execAckSeq_chg path value s
  | timeNs path value => exact execTimeNs_chg path value s
  | minSvn path value => exact execMinSvn_chg path value s
  | setDynamicAddress addr => exact execSetDynamicAddress_chg addr s
  | resetDynamicAddress => exact execResetDynamicAddress_chg s
  | mctpPacket p => exact execMctpPacket_chg p s
  | setEndpointId path eid => exact execSetEndpointId_chg path eid s
  | getMessageTypeSupport path => exact execGetMessageTypeSupport_chg path s
  | dictionaryFrameMessage path session frame => exact execDictionaryFrameMessage_chg path session frame s
  | readNvmeMiDataStructure path kind => exact execReadNvmeMiDataStructure_chg path kind s
  | subsystemHealthStatusPoll path => exact execSubsystemHealthStatusPoll_chg path s
  | controllerHealthStatusPoll path ctrl => exact execControllerHealthStatusPoll_chg path ctrl s
  | configurationGet path item => exact execConfigurationGet_chg path item s
  | configurationSet path item value => exact execConfigurationSet_chg path item value s
  | nvmeMiReset path => exact execNvmeMiReset_chg path s
  | nvmeMiAdminCommand path session ctrl e => exact execNvmeMiAdminCommand_chg path session ctrl e s
  | getVersion path => exact execGetVersion_chg path s
  | getCapabilities path => exact execGetCapabilities_chg path s
  | negotiateAlgorithms path => exact execNegotiateAlgorithms_chg path s
  | getDigests path => exact execGetDigests_chg path s
  | getCertificate path slot => exact execGetCertificate_chg path slot s
  | challenge path => exact execChallenge_chg path s
  | getMeasurements path index => exact execGetMeasurements_chg path index s
  | keyExchange path peer => exact execKeyExchange_chg path peer s
  | finish path session chain => exact execFinish_chg path session chain s
  | heartbeat path session => exact execHeartbeat_chg path session s
  | keyUpdate path session => exact execKeyUpdate_chg path session s
  | endSession path session => exact execEndSession_chg path session s
  | sessionIdleTimeout session => exact execSessionIdleTimeout_chg session s
  | bdpDatagram source udpPort session bytes => exact execBdpDatagram_chg source udpPort session bytes s
  | neighborSolicitation target => exact execNeighborSolicitation_chg target s
  | echoRequest target payload => exact execEchoRequest_chg target payload s
  | t1sLinkUp unique => exact execT1sLinkUp_chg unique s
  | telemetryPeriod k => exact execTelemetryPeriod_chg k s
  | telemetryEventPush k => exact execTelemetryEventPush_chg k s
  | perstDeassert port => exact execPerstDeassert_chg port s
  | linkRetrained port speed width => exact execLinkRetrained_chg port speed width s
  | t1sLinkDown => exact execT1sLinkDown_chg s
  | dramParityError ch => exact execDramParityError_chg ch s
  | fabricCoreFailure => exact execFabricCoreFailure_chg s
  | interruptCoalescingTimer q => exact execInterruptCoalescingTimer_chg q s
  | measurementIntervalEnd => exact execMeasurementIntervalEnd_chg s
  | powerEstimateInterval milliwatt => exact execPowerEstimateInterval_chg milliwatt s
  | ledActInterval => exact execLedActInterval_chg s

/-- The state after a command. -/
theorem exec_next (i : Instr) (s : State) : ∃ t, exec i s = .next t := (exec_chg i s).imp (fun _ h => h.1)

theorem exec_pending {i : Instr} {s t : State} (h : exec i s = .next t) : t.pending = s.pending := by
  obtain ⟨u, hu, hc⟩ := exec_chg i s
  rw [h] at hu; cases hu; exact hc.pending

theorem exec_same {i : Instr} {s t : State} (h : exec i s = .next t) (p : Part) (hp : p ∉ i.parts) : p.same s t := by
  obtain ⟨u, hu, hc⟩ := exec_chg i s
  rw [h] at hu; cases hu; exact Part.same_of_chg hc p (Part.mask_testBit p _ hp)

theorem exec_fuses {i : Instr} {s t : State} (h : exec i s = .next t) : s.sec.fuses <+: t.sec.fuses := by
  obtain ⟨u, hu, hc⟩ := exec_chg i s
  rw [h] at hu; cases hu; exact hc.fuses

theorem exec_memoryCanonical {i : Instr} {s t : State} (h : exec i s = .next t) (hs : MemoryCanonical s) : MemoryCanonical t := by
  obtain ⟨u, hu, hc⟩ := exec_chg i s
  rw [h] at hu; cases hu; exact ⟨hc.cmb hs.1, hc.dmb hs.2⟩

/-- A command whose condition holds. -/
theorem next_when {s : State} {b : Bool} {f : State → State} (h : b = true) : (Host.Outcome.next (s.when b f) : Res) = .next (f s) := by
  rw [State.when_true f h]

end Sys2Proof
end

