-- ==== Sys2Proof/Laws/Ports.lean ====
section
/-! SUPPORT. What the fence and the resets leave of a port: everything but its discards, its invalidations and its translation
cache. -/

namespace Sys2Proof.Machine

/-- A port without the fields that fences and resets of functions change. -/
def Port.core (x : Port) : Port := { x with fencedDiscards := 0, invalidations := [], atc := [] }

/-- What two ports of one core share. -/
theorem Port.of_core {x y : Port} (h : x.core = y.core) : x.linkUp = y.linkUp ∧ x.lastReset = y.lastReset ∧ x.cmb = y.cmb ∧
    x.perst = y.perst ∧ x.dlDowns = y.dlDowns ∧ x.rate = y.rate ∧ x.width = y.width := by
  have e : ∀ {α : Type} (g : Port → α), g x.core = g y.core := fun g => congrArg g h
  exact ⟨e (fun z => z.linkUp), e (fun z => z.lastReset), e (fun z => z.cmb), e (fun z => z.perst), e (fun z => z.dlDowns),
    e (fun z => z.rate), e (fun z => z.width)⟩

/-- Every port's core is as it was. -/
def PortsKept (s t : State) : Prop := ∀ p, (t.port p).core = (s.port p).core

theorem PortsKept.refl (s : State) : PortsKept s s := fun _ => rfl
theorem PortsKept.trans {s t u : State} (h : PortsKept s t) (g : PortsKept t u) : PortsKept s u := fun p => (g p).trans (h p)
/-- A last change, then the ones before it. -/
theorem PortsKept.step {s t u : State} (h : PortsKept t u) (g : PortsKept s t) : PortsKept s u := g.trans h
theorem PortsKept.of_ports {s t : State} (h : t.ports = s.ports) : PortsKept s t := fun p => by unfold State.port; rw [h]
theorem PortsKept.of_chg {m : Nat} {s t : State} (h : Chg m s t) (hm : m.testBit 6 = false) : PortsKept s t :=
  PortsKept.of_ports (h.ports hm)

/-- A fold of operations that each keep the ports. -/
theorem PortsKept.foldl {α : Type} (f : State → α → State) (hf : ∀ s x, PortsKept s (f s x)) (l : List α) (s : State) :
    PortsKept s (l.foldl f s) := by
  induction l generalizing s with
  | nil => exact PortsKept.refl s
  | cons x l ih => exact (hf s x).trans (ih (f s x))

theorem PortsKept.forEach {α : Type} (s : State) (l : List α) (f : α → State → State) (hf : ∀ x s, PortsKept s (f x s)) :
    PortsKept s (s.forEach l f) := PortsKept.foldl _ (fun s x => hf x s) l s

theorem PortsKept.u_cmds {s t : State} (h : PortsKept s t) (x : CmdStats) : PortsKept s { t with cmds := x } := fun p => h p
theorem PortsKept.u_dirty {s t : State} (h : PortsKept s t) (x : List DirtyWord) : PortsKept s { t with dirty := x } := fun p => h p
theorem PortsKept.u_dmaWait {s t : State} (h : PortsKept s t) (x : List Dma) : PortsKept s { t with dmaWait := x } := fun p => h p
theorem PortsKept.u_dmas {s t : State} (h : PortsKept s t) (x : Tbl Dma) (y : List Dma) :
    PortsKept s { t with dmas := x, dmaWait := y } := fun p => h p

/-- Either branch. -/
theorem PortsKept.ite {s a b : State} {c : Prop} [Decidable c] (ha : PortsKept s a) (hb : PortsKept s b) :
    PortsKept s (if c then a else b) := by
  split
  · exact ha
  · exact hb

/-- A write of one port that keeps its core. -/
theorem PortsKept.setPort (s : State) (p : Nat) (x : Port) (h : x.core = (s.port p).core) : PortsKept s (s.setPort p x) := by
  intro k
  by_cases e : p = k
  · subst e; rw [State.setPort_port]; exact h
  · rw [State.setPort_port_ne _ _ e]

theorem State.lateDiscard_portsKept (s : State) (n : Nat) : PortsKept s (s.lateDiscard n) := by
  unfold State.lateDiscard
  exact (PortsKept.of_ports (by rfl)).trans (PortsKept.setPort _ _ _ rfl)

theorem State.drainTag_portsKept (s : State) (t : Nat) : PortsKept s (s.drainTag t) := by
  unfold State.drainTag
  by_cases h : (s.tag t).st = .free ∨ (s.tag t).st = .drain
  · simp only [h, if_true]; exact PortsKept.refl s
  · simp only [h, if_false]
    refine PortsKept.trans (t := if (s.tag t).st.uncommitted then ((s.zoneSettle t true).poolRelease t).dropStaged t
      else s.lateDiscard (s.tag t).slice) ?_ ?_
    · by_cases hu : (s.tag t).st.uncommitted = true
      · simp only [hu, if_true]
        exact ((PortsKept.of_chg (State.zoneSettle_chg ..) (by decide)).trans (PortsKept.of_chg (State.poolRelease_chg ..) (by decide))).trans
          (PortsKept.of_chg (State.dropStaged_chg ..) (by decide))
      · simp only [hu]; exact State.lateDiscard_portsKept _ _
    · generalize (if (s.tag t).st.uncommitted then ((s.zoneSettle t true).poolRelease t).dropStaged t
        else s.lateDiscard (s.tag t).slice) = s1
      have h1 : PortsKept s1 ((s1.dmaCancel t).setTag t { s1.tag t with st := .drain }) :=
        (PortsKept.of_chg (State.dmaCancel_chg s1 t) (by decide)).trans (PortsKept.of_ports (by rfl))
      by_cases hf : (s.tag t).inFlight = true
      · simp only [hf, if_true]; exact h1
      · simp only [hf]
        refine PortsKept.u_cmds ?_ _
        exact PortsKept.step (PortsKept.of_chg (State.freeTag_chg _ _) (by decide)) h1

theorem State.drainEnd_portsKept (s : State) (t : Nat) : PortsKept s (s.drainEnd t) := by
  unfold State.drainEnd
  exact (State.lateDiscard_portsKept _ _).trans
    ((PortsKept.of_chg (State.freeTag_chg _ _) (by decide)).trans (PortsKept.of_ports (by rfl)))

theorem State.resetBody_portsKept (s : State) (n : Nat) : PortsKept s (s.resetBody n) := by
  unfold State.resetBody
  refine PortsKept.step (PortsKept.of_chg (State.pageReset_chg ..) (by decide)) ?_
  refine PortsKept.step (PortsKept.of_chg (State.setupAdmin_chg ..) (by decide)) ?_
  refine PortsKept.step (PortsKept.of_chg (State.dropSliceQueues_chg ..) (by decide)) ?_
  refine PortsKept.step (PortsKept.of_chg (State.dmaStale_chg ..) (by decide)) ?_
  refine PortsKept.u_dmaWait ?_ _
  refine PortsKept.step (PortsKept.of_chg (State.setSlice_chg ..) (by decide)) ?_
  have h3 : ∀ (s : State) (l : List Nat) (g : State → List Nat) (f : Nat → State → State) (_ : ∀ x s, PortsKept s (f x s)),
      PortsKept s ((s.forEach l (fun t s => s.drainTag t)).forEach (g (s.forEach l (fun t s => s.drainTag t))) f) := by
    intro s l g f hf
    exact PortsKept.step (PortsKept.forEach _ _ _ hf) (PortsKept.forEach _ _ _ (fun x s => State.drainTag_portsKept s x))
  refine PortsKept.ite ?_ ?_
  · refine PortsKept.step (PortsKept.of_chg (State.dirtyPostAll_chg ..) (by decide)) ?_
    exact PortsKept.step (h3 _ _ (fun s2 => (s2.slice n).resetTags) _ (fun x s => PortsKept.of_chg (State.setTag_chg ..) (by decide)))
      (PortsKept.of_chg (State.setSlice_chg ..) (by decide))
  · refine PortsKept.u_dirty ?_ _
    exact PortsKept.step (h3 _ _ (fun s2 => (s2.slice n).resetTags) _ (fun x s => PortsKept.of_chg (State.setTag_chg ..) (by decide)))
      (PortsKept.of_chg (State.setSlice_chg ..) (by decide))

theorem State.sliceReset_portsKept (s : State) (n : Nat) (t : Option Nat) : PortsKept s (s.sliceReset n t) := by
  unfold State.sliceReset
  have h1 : ∀ x, PortsKept s ((s.setSlice n x).dropWindows n) := fun x =>
    PortsKept.step (PortsKept.of_chg (State.dropWindows_chg ..) (by decide)) (PortsKept.of_chg (State.setSlice_chg ..) (by decide))
  dsimp only
  split
  · refine PortsKept.ite ?_ ?_
    · exact PortsKept.step (PortsKept.of_chg (State.setSlice_chg ..) (by decide)) (h1 _)
    · exact PortsKept.step (State.resetBody_portsKept _ _) (h1 _)
  · exact PortsKept.of_chg (State.setSlice_chg ..) (by decide)
  · exact PortsKept.refl s

theorem State.dmaForget_portsKept (s : State) (p : Nat) (fs : Nat → Bool) : PortsKept s (s.dmaForget p fs) := by
  unfold State.dmaForget
  refine PortsKept.step (PortsKept.forEach _ _ _ (fun x s => ?_)) ?_
  · dsimp only
    refine PortsKept.ite ?_ (PortsKept.refl _)
    exact State.drainEnd_portsKept _ _
  · exact PortsKept.step (PortsKept.setPort _ _ _ rfl) (PortsKept.u_dmas (PortsKept.refl s) _ _)

theorem State.funcsReset_portsKept (s : State) (p : Nat) (fs : List Nat) (keep : Nat → Func → Func) :
    PortsKept s (s.funcsReset p fs keep) := by
  unfold State.funcsReset
  refine PortsKept.step (PortsKept.setPort _ _ _ rfl) ?_
  refine PortsKept.step (PortsKept.forEach _ _ _ (fun x s => PortsKept.of_chg (State.setFunc_chg ..) (by decide))) ?_
  refine PortsKept.step (State.dmaForget_portsKept _ _ _) ?_
  refine PortsKept.step (PortsKept.forEach _ _ _ (fun x s => PortsKept.of_chg (State.dropStdQueues_chg ..) (by decide))) ?_
  refine PortsKept.step (PortsKept.forEach _ _ _ (fun x s => ?_)) ?_
  · exact PortsKept.step (PortsKept.of_chg (State.dropStdAdmin_chg ..) (by decide)) (PortsKept.of_chg (State.ctrlClear_chg ..) (by decide))
  · exact PortsKept.forEach _ _ _ (fun f s => PortsKept.forEach _ _ _ (fun n s => State.sliceReset_portsKept _ _ _))

theorem State.ctrlReset_portsKept (s : State) (p f : Nat) : PortsKept s (s.ctrlReset p f) := by
  unfold State.ctrlReset
  refine PortsKept.step (PortsKept.of_chg (State.setFunc_chg ..) (by decide)) ?_
  refine PortsKept.step (PortsKept.of_chg (State.dropStdQueues_chg ..) (by decide)) ?_
  have h1 : PortsKept s ((s.ctrlClear p f).dropStdAdmin p f) :=
    (PortsKept.of_chg (State.ctrlClear_chg ..) (by decide)).trans (PortsKept.of_chg (State.dropStdAdmin_chg ..) (by decide))
  cases ((s.ctrlClear p f).dropStdAdmin p f).stdqSlice p f with
  | none => exact h1
  | some n => exact PortsKept.step (State.sliceReset_portsKept _ _ _) h1

/-- What a function's reset leaves in its configuration space holds what every value that `keep` gives holds. -/
theorem State.funcsReset_func (s : State) (p : Nat) (fs : List Nat) (keep : Nat → Func → Func) (P : Func → Prop) {f : Nat}
    (hk : ∀ x, P (keep f x)) (hf : f ∈ fs) : P ((s.funcsReset p fs keep).func p f) := by
  have key : ∀ (l : List Nat) (s : State), f ∈ l ∨ P (s.func p f) →
      P ((s.forEach l (fun f s => s.setFunc p f (keep f (s.func p f)))).func p f) := by
    intro l
    induction l with
    | nil => intro s h; exact h.resolve_left (by simp)
    | cons g l ih =>
      intro s h
      refine ih (s.setFunc p g (keep g (s.func p g))) ?_
      by_cases hg : g = f
      · subst hg; right; rw [State.setFunc_func]; exact hk _
      · rcases h with h | h
        · left; exact (List.mem_cons.mp h).resolve_left (fun e => hg e.symm)
        · right
          have e : (s.setFunc p g (keep g (s.func p g))).func p f = s.func p f :=
            Tbl.get_set_ne _ _ _ (by unfold fkey; omega)
          rw [e]; exact h
  exact key fs _ (Or.inl hf)

/-- R99: the cache entries of functions that are reset are gone. -/
theorem State.funcsReset_atc (s : State) (p : Nat) (fs : List Nat) (keep : Nat → Func → Func) :
    ∀ e ∈ ((s.funcsReset p fs keep).port p).atc, e.fn ∉ fs := by
  have key : ∀ (u : State), ∀ e ∈ ((u.setPort p { u.port p with atc := (u.port p).atc.filter (fun e => !fs.contains e.fn) }).port p).atc,
      e.fn ∉ fs := by
    intro u e he
    rw [State.setPort_port] at he
    simpa using (List.mem_filter.mp he).2
  unfold State.funcsReset
  exact key _

/-- After a port reset, everything of the port but its discards, its invalidations and its cache. -/
theorem State.portReset_core (s : State) (p kind : Nat) (sticky : Bool) :
    ((s.portReset p kind sticky).port p).core = Port.core { s.port p with
      linkUp := false, rate := 0, width := 0, l0pWidth := 0, l1 := false, attempts := 0
      down := (s.port p).down || (s.port p).linkUp, configReady := false, ltrUs := 0, invalidations := [], cmb := [], cmbMarked := []
      lastReset := kind, stayDown := (s.port p).stayDown || decide (s.mode.base = .flush) } := by
  unfold State.portReset
  extract_lets x ns s1 s2
  rw [State.funcsReset_portsKept]
  have h : s2.ports = s1.ports := (State.vdmDown_chg s1 p).ports rfl
  unfold State.port; rw [h]
  exact congrArg Port.core (State.setPort_port s p _)

theorem State.portReset_func (s : State) (p kind : Nat) (sticky : Bool) (P : Func → Prop) (hk : ∀ x, P (funcAfter sticky x)) :
    P ((s.portReset p kind sticky).func p 0) := by
  unfold State.portReset
  refine State.funcsReset_func _ _ _ (fun _ y => funcAfter sticky y) P hk ?_
  simp [State.funcsOf]

/-! ### Trainings -/

theorem State.ltrUpdate_port (s : State) (p k : Nat) : ∃ u, (s.ltrUpdate p).port k = { s.port k with ltrUs := u } := by
  unfold State.ltrUpdate
  dsimp only
  split
  · by_cases e : p = k
    · subst e; exact ⟨s.ltrValue p, State.setPort_port ..⟩
    · exact ⟨(s.port k).ltrUs, State.setPort_port_ne _ _ e⟩
  · exact ⟨_, rfl⟩

theorem State.laneCheck_port (s : State) (p w k : Nat) : ∃ u, (s.laneCheck p w).port k = { s.port k with laneFault := u } := by
  have h0 : ∃ u, (s.setPort p { s.port p with laneFault := decide (w < s.fullWidth) }).port k = { s.port k with laneFault := u } := by
    by_cases e : p = k
    · subst e; exact ⟨_, State.setPort_port ..⟩
    · exact ⟨(s.port k).laneFault, State.setPort_port_ne _ _ e⟩
  unfold State.laneCheck
  dsimp only
  split
  · split <;> exact h0
  · split <;> exact h0

theorem State.trained_port_of (p w : Nat) (X : Port) (s1 s3 : State) (h1 : s1.port p = X) (h3 : s3.port p = (s1.laneCheck p w).port p) :
    ∃ u v, (s3.ltrUpdate p).port p = { X with ltrUs := u, laneFault := v } := by
  obtain ⟨u, hu⟩ := s3.ltrUpdate_port p p
  obtain ⟨v, hv⟩ := s1.laneCheck_port p w p
  exact ⟨u, v, by rw [hu, h3, hv, h1]⟩

/-- The port after a training (R85, R86), but for the latency and the lane fault that it reports. -/
def State.trainedPort (s : State) (p sp w : Nat) : Port :=
  { s.port p with
      linkUp := true, rate := min sp s.maxSpeed, width := w, l0pWidth := 0, l1 := false
      attempts := if decide (3 ≤ min sp s.maxSpeed) = true then 0 else (s.port p).attempts + 1
      loopbackFails := if decide (3 ≤ min sp s.maxSpeed) = true then 0 else (s.port p).loopbackFails
      lowRate := if decide (3 ≤ min sp s.maxSpeed) = true then (s.port p).lowRate else satAdd 32 (s.port p).lowRate 1
      configReady := decide (3 ≤ min sp s.maxSpeed) && decide (s.mode.base ≠ .flush) }

theorem State.trained_port (s : State) (p sp w : Nat) :
    ∃ u v, (s.trained p sp w).port p = { s.trainedPort p sp w with ltrUs := u, laneFault := v } := by
  unfold State.trained
  dsimp only
  refine State.trained_port_of p w (s.trainedPort p sp w) ((s.entryBoundary 0x2000 2).setPort p (s.trainedPort p sp w)) _ (State.setPort_port ..) ?_
  exact (apply_ite (fun z : State => z.port p) _ _ _).trans (ite_self _)

/-! ### Functions: interrupts change only what is pending -/

/-- A function without its interrupt vectors. -/
def Func.core (x : Func) : Func := { x with msix := [] }

/-- Every function's core is as it was. -/
def FuncsKept (s t : State) : Prop := ∀ p f, (t.func p f).core = (s.func p f).core

theorem FuncsKept.refl (s : State) : FuncsKept s s := fun _ _ => rfl
theorem FuncsKept.step {s t u : State} (h : FuncsKept t u) (g : FuncsKept s t) : FuncsKept s u := fun p f => (h p f).trans (g p f)
theorem FuncsKept.of_funcs {s t : State} (h : t.funcs = s.funcs) : FuncsKept s t := fun p f => by unfold State.func; rw [h]
theorem FuncsKept.of_chg {m : Nat} {s t : State} (h : Chg m s t) (hm : m.testBit 7 = false) : FuncsKept s t :=
  FuncsKept.of_funcs (h.funcs hm)

/-- Either branch. -/
theorem FuncsKept.ite {s a b : State} {c : Prop} [Decidable c] (ha : FuncsKept s a) (hb : FuncsKept s b) :
    FuncsKept s (if c then a else b) := by
  split
  · exact ha
  · exact hb

theorem FuncsKept.foldl {α : Type} (f : State → α → State) (hf : ∀ s x, FuncsKept s (f s x)) (l : List α) (s : State) :
    FuncsKept s (l.foldl f s) := by
  induction l generalizing s with
  | nil => exact FuncsKept.refl s
  | cons x l ih => exact (ih (f s x)).step (hf s x)

theorem FuncsKept.forEach {α : Type} (s : State) (l : List α) (f : α → State → State) (hf : ∀ x s, FuncsKept s (f x s)) :
    FuncsKept s (s.forEach l f) := FuncsKept.foldl _ (fun s x => hf x s) l s

theorem FuncsKept.foldlFst {α β : Type} (f : State × β → α → State × β) (hf : ∀ a x, FuncsKept a.1 (f a x).1) (l : List α)
    (a : State × β) : FuncsKept a.1 (l.foldl f a).1 := by
  induction l generalizing a with
  | nil => exact FuncsKept.refl _
  | cons x l ih => exact (ih (f a x)).step (hf a x)

/-- A write of one function that keeps its core. -/
theorem FuncsKept.setFunc (s : State) (p f : Nat) (x : Func) (h : x.core = (s.func p f).core) : FuncsKept s (s.setFunc p f x) := by
  intro a b
  by_cases e : fkey p f = fkey a b
  · have h1 : (s.setFunc p f x).func a b = x := by
      unfold State.func; rw [← e]; exact State.setFunc_func s p f x
    have h2 : s.func a b = s.func p f := by unfold State.func; rw [e]
    rw [h1, h2, h]
  · have h1 : (s.setFunc p f x).func a b = s.func a b := Tbl.get_set_ne _ _ _ e
    rw [h1]

theorem State.msixSend_funcsKept (s : State) (p f v : Nat) : FuncsKept s (s.msixSend p f v) := by
  unfold State.msixSend
  dsimp only
  refine FuncsKept.ite ?_ ?_
  · exact FuncsKept.of_chg (State.emit_chg ..) (by decide)
  · exact FuncsKept.setFunc _ _ _ _ rfl

theorem State.msixRelease_funcsKept (s : State) (p f : Nat) : FuncsKept s (s.msixRelease p f) := by
  unfold State.msixRelease
  refine FuncsKept.forEach _ _ _ (fun e s => ?_)
  refine FuncsKept.ite ?_ (FuncsKept.refl s)
  refine FuncsKept.ite ?_ (FuncsKept.refl s)
  exact FuncsKept.step (FuncsKept.of_chg (State.emit_chg ..) (by decide)) (FuncsKept.setFunc _ _ _ _ rfl)

theorem State.rasBit_funcsKept (s : State) (b : Nat) : FuncsKept s (s.rasBit b) := by
  unfold State.rasBit
  dsimp only
  refine FuncsKept.ite (FuncsKept.of_funcs rfl) ?_
  have h : ∀ x, FuncsKept s (State.telemEvent { s with regs := x }) := fun x =>
    FuncsKept.step (FuncsKept.of_chg (State.telemEvent_chg ..) (by decide)) (FuncsKept.of_funcs rfl)
  refine FuncsKept.ite ?_ (h _)
  refine FuncsKept.step (FuncsKept.forEach _ _ _ (fun p s => FuncsKept.ite (State.msixSend_funcsKept _ _ _ _) (FuncsKept.refl s))) (h _)

theorem State.rasReport_funcsKept (s : State) (u i k v c : Nat) (d : List Nat) : FuncsKept s (s.rasReport u i k v c d) := by
  unfold State.rasReport
  exact FuncsKept.step (FuncsKept.of_chg (State.rasRecord_chg ..) (by decide)) (State.rasBit_funcsKept _ _)

theorem State.cqInterrupt_funcsKept (s : State) (q : QKey) : FuncsKept s (s.cqInterrupt q) := by
  unfold State.cqInterrupt
  cases q with
  | page n k => exact FuncsKept.of_chg (State.sliceInterrupt_chg ..) (by decide)
  | std p f k => exact State.msixSend_funcsKept _ _ _ _

theorem State.cqNotify_funcsKept (s : State) (q : QKey) : FuncsKept s (s.cqNotify q) := by
  unfold State.cqNotify
  dsimp only
  refine FuncsKept.ite (FuncsKept.refl s) ?_
  split
  · exact State.cqInterrupt_funcsKept _ _
  · refine FuncsKept.ite ?_ (FuncsKept.of_chg (State.setCq_chg ..) (by decide))
    exact FuncsKept.step (State.cqInterrupt_funcsKept _ _) (FuncsKept.of_chg (State.setCq_chg ..) (by decide))

theorem State.cqWrite_funcsKept (s : State) (q : QKey) (cid : Nat) (st : Status) (a b : Nat) : FuncsKept s (s.cqWrite q cid st a b) := by
  unfold State.cqWrite
  refine FuncsKept.step (State.cqNotify_funcsKept _ _) ?_
  have h : ∀ x y z o, FuncsKept s (State.emit { (s.setCq (q.withQid (s.sq q).cqid) x) with cmds := y, aon := z } o) := by
    intro x y z o; exact FuncsKept.of_funcs rfl
  dsimp only
  split
  · exact FuncsKept.step (FuncsKept.of_chg (State.dirtyMark_chg ..) (by decide)) (h _ _ _ _)
  · split
    · exact FuncsKept.step (FuncsKept.of_chg (State.dirtyMark_chg ..) (by decide)) (h _ _ _ _)
    · exact h _ _ _ _

theorem State.cqSend_funcsKept (s : State) (q : QKey) (cid : Nat) (st : Status) (a b : Nat) : FuncsKept s (s.cqSend q cid st a b) := by
  unfold State.cqSend
  dsimp only
  refine FuncsKept.ite (State.cqWrite_funcsKept _ _ _ _ _ _) (FuncsKept.of_chg (State.dmaAsk_chg ..) (by decide))

theorem State.cqRelease_funcsKept (s : State) (q : QKey) : FuncsKept s (s.cqRelease q) := by
  unfold State.cqRelease
  refine FuncsKept.step (FuncsKept.forEach _ _ _ (fun q s => FuncsKept.of_chg (State.deleteWatch_chg ..) (by decide))) ?_
  refine FuncsKept.step (FuncsKept.of_chg (State.setCq_chg ..) (by decide)) ?_
  refine FuncsKept.foldlFst _ (fun a x => ?_) _ (s, _)
  dsimp only
  by_cases h : (a.2.isEmpty && a.1.cqOpen q) = true
  · rw [if_pos h]; exact State.cqSend_funcsKept _ _ _ _ _ _
  · rw [if_neg h]; exact FuncsKept.refl _

theorem State.releaseFn_funcsKept (s : State) (p f : Nat) : FuncsKept s (s.releaseFn p f) := by
  unfold State.releaseFn
  refine FuncsKept.step (FuncsKept.forEach _ _ _ (fun q s => FuncsKept.ite (State.cqRelease_funcsKept _ _) (FuncsKept.refl s))) ?_
  refine FuncsKept.step (FuncsKept.of_chg (State.dmaPump_chg ..) (by decide)) ?_
  refine FuncsKept.step (State.msixRelease_funcsKept _ _ _) ?_
  exact FuncsKept.forEach _ _ _ (fun n s => FuncsKept.of_chg (State.sliceInterrupts_chg ..) (by decide))

/-! ### Slices: a reset that has begun goes on behind its fence -/

/-- The slice is Resetting behind a closed fence. -/
def Slice.shut (x : Slice) : Prop := x.st = .resetting ∧ x.fenceOpen = false

/-- A slice that was shut still is, and a bound one is bound or shut. -/
def Slice.onward (x y : Slice) : Prop := (x.shut → y.shut) ∧ (x.st = .bound → y.st = .bound ∨ y.shut)

/-- No slice leaves its reset. -/
def ShutKept (s t : State) : Prop := ∀ n, (s.slice n).onward (t.slice n)

theorem ShutKept.refl (s : State) : ShutKept s s := fun _ => ⟨id, Or.inl⟩
theorem ShutKept.step {s t u : State} (h : ShutKept t u) (g : ShutKept s t) : ShutKept s u := fun n =>
  ⟨fun k => (h n).1 ((g n).1 k), fun k => ((g n).2 k).elim (fun e => (h n).2 e) (fun e => Or.inr ((h n).1 e))⟩
theorem ShutKept.of_slices {s t : State} (h : t.slices = s.slices) : ShutKept s t := fun n => by
  unfold State.slice; rw [h]; exact ⟨id, Or.inl⟩
theorem ShutKept.of_chg {m : Nat} {s t : State} (h : Chg m s t) (hm : m.testBit 16 = false) : ShutKept s t :=
  ShutKept.of_slices (h.slices hm)

theorem ShutKept.u_cmds {s t : State} (h : ShutKept s t) (x : CmdStats) : ShutKept s { t with cmds := x } := h
theorem ShutKept.u_dirty {s t : State} (h : ShutKept s t) (x : List DirtyWord) : ShutKept s { t with dirty := x } := h
theorem ShutKept.u_dmaWait {s t : State} (h : ShutKept s t) (x : List Dma) : ShutKept s { t with dmaWait := x } := h
theorem ShutKept.u_dmas {s t : State} (h : ShutKept s t) (x : Tbl Dma) (y : List Dma) : ShutKept s { t with dmas := x, dmaWait := y } := h

theorem ShutKept.ite {s a b : State} {c : Prop} [Decidable c] (ha : ShutKept s a) (hb : ShutKept s b) : ShutKept s (if c then a else b) := by
  split
  · exact ha
  · exact hb

theorem ShutKept.forEach {α : Type} (s : State) (l : List α) (f : α → State → State) (hf : ∀ x s, ShutKept s (f x s)) :
    ShutKept s (s.forEach l f) := by
  unfold State.forEach
  induction l generalizing s with
  | nil => exact ShutKept.refl s
  | cons x l ih => exact (ih (f x s)).step (hf x s)

/-- A write of one slice that leaves it shut if it was. -/
theorem ShutKept.setSlice (s : State) (k : Nat) (x : Slice) (h : (s.slice k).onward x) : ShutKept s (s.setSlice k x) := by
  intro n
  by_cases e : k = n
  · subst e; rw [State.setSlice_slice]; exact h
  · rw [State.setSlice_slice_ne _ _ e]; exact ⟨id, Or.inl⟩

theorem State.setPort_shutKept (s : State) (p : Nat) (x : Port) : ShutKept s (s.setPort p x) := ShutKept.of_slices rfl

theorem State.lateDiscard_shutKept (s : State) (n : Nat) : ShutKept s (s.lateDiscard n) := by
  unfold State.lateDiscard
  exact ShutKept.step (ShutKept.of_slices rfl) (ShutKept.setSlice _ _ _ ⟨id, Or.inl⟩)

theorem State.drainTag_shutKept (s : State) (t : Nat) : ShutKept s (s.drainTag t) := by
  unfold State.drainTag
  by_cases h : (s.tag t).st = .free ∨ (s.tag t).st = .drain
  · simp only [h, if_true]; exact ShutKept.refl s
  · simp only [h, if_false]
    have h0 : ShutKept s (if (s.tag t).st.uncommitted then ((s.zoneSettle t true).poolRelease t).dropStaged t
      else s.lateDiscard (s.tag t).slice) := by
      refine ShutKept.ite ?_ (State.lateDiscard_shutKept _ _)
      exact ((ShutKept.of_chg (State.dropStaged_chg ..) (by decide)).step (ShutKept.of_chg (State.poolRelease_chg ..) (by decide))).step
        (ShutKept.of_chg (State.zoneSettle_chg ..) (by decide))
    refine ShutKept.step ?_ h0
    generalize (if (s.tag t).st.uncommitted then ((s.zoneSettle t true).poolRelease t).dropStaged t
      else s.lateDiscard (s.tag t).slice) = s1
    have h1 : ShutKept s1 ((s1.dmaCancel t).setTag t { s1.tag t with st := .drain }) :=
      ShutKept.step (t := s1.dmaCancel t) (ShutKept.of_chg (State.setTag_chg ..) (by decide)) (ShutKept.of_chg (State.dmaCancel_chg s1 t) (by decide))
    by_cases hf : (s.tag t).inFlight = true
    · simp only [hf, if_true]; exact h1
    · simp only [hf]
      refine ShutKept.u_cmds ?_ _
      exact ShutKept.step (ShutKept.of_chg (State.freeTag_chg _ _) (by decide)) h1

theorem State.drainEnd_shutKept (s : State) (t : Nat) : ShutKept s (s.drainEnd t) := by
  unfold State.drainEnd
  exact ShutKept.u_cmds ((ShutKept.of_chg (State.freeTag_chg _ _) (by decide)).step (State.lateDiscard_shutKept _ _)) _

theorem State.pageReset_shutKept (s : State) (n : Nat) : ShutKept s (s.pageReset n) := ShutKept.setSlice _ _ _ ⟨id, Or.inl⟩

theorem State.resetBody_shutKept (s : State) (n : Nat) : ShutKept s (s.resetBody n) := by
  unfold State.resetBody
  refine ShutKept.step (State.pageReset_shutKept _ _) ?_
  refine ShutKept.step (ShutKept.of_chg (State.setupAdmin_chg ..) (by decide)) ?_
  refine ShutKept.step (ShutKept.of_chg (State.dropSliceQueues_chg ..) (by decide)) ?_
  refine ShutKept.step (ShutKept.of_chg (State.dmaStale_chg ..) (by decide)) ?_
  refine ShutKept.u_dmaWait ?_ _
  refine ShutKept.step (ShutKept.setSlice _ _ _ ⟨id, Or.inl⟩) ?_
  have h3 : ∀ (s : State) (l : List Nat) (g : State → List Nat) (f : Nat → State → State) (_ : ∀ x s, ShutKept s (f x s)),
      ShutKept s ((s.forEach l (fun t s => s.drainTag t)).forEach (g (s.forEach l (fun t s => s.drainTag t))) f) := by
    intro s l g f hf
    exact ShutKept.step (ShutKept.forEach _ _ _ hf) (ShutKept.forEach _ _ _ (fun x s => State.drainTag_shutKept s x))
  refine ShutKept.ite ?_ ?_
  · refine ShutKept.step (ShutKept.of_chg (State.dirtyPostAll_chg ..) (by decide)) ?_
    exact ShutKept.step (h3 _ _ (fun s2 => (s2.slice n).resetTags) _ (fun x s => ShutKept.of_chg (State.setTag_chg ..) (by decide)))
      (ShutKept.setSlice _ _ _ ⟨id, Or.inl⟩)
  · refine ShutKept.u_dirty ?_ _
    exact ShutKept.step (h3 _ _ (fun s2 => (s2.slice n).resetTags) _ (fun x s => ShutKept.of_chg (State.setTag_chg ..) (by decide)))
      (ShutKept.setSlice _ _ _ ⟨id, Or.inl⟩)

theorem State.sliceReset_shutKept (s : State) (n : Nat) (t : Option Nat) : ShutKept s (s.sliceReset n t) := by
  unfold State.sliceReset
  have h1 : ∀ x : Slice, x.shut → ShutKept s ((s.setSlice n x).dropWindows n) := fun x hx =>
    ShutKept.step (ShutKept.of_chg (State.dropWindows_chg ..) (by decide)) (ShutKept.setSlice _ _ _ ⟨fun _ => hx, fun _ => Or.inr hx⟩)
  dsimp only
  split
  · refine ShutKept.ite ?_ ?_
    · exact ShutKept.step (ShutKept.setSlice _ _ _ ⟨id, Or.inl⟩) (h1 _ ⟨rfl, rfl⟩)
    · exact ShutKept.step (State.resetBody_shutKept _ _) (h1 _ ⟨rfl, rfl⟩)
  · exact ShutKept.setSlice _ _ _ ⟨id, Or.inl⟩
  · exact ShutKept.refl s

/-- R154: the reset of a bound slice begins by closing its fence. -/
theorem State.sliceReset_shut (s : State) (n : Nat) (t : Option Nat) (h : (s.slice n).st = .bound) : ((s.sliceReset n t).slice n).shut := by
  unfold State.sliceReset
  dsimp only
  simp only [h]
  have h1 : ∀ x : Slice, x.shut → (((s.setSlice n x).dropWindows n).slice n).shut := fun x hx => by
    unfold State.slice
    rw [(State.dropWindows_chg _ _).slices rfl]
    have := State.setSlice_slice s n x
    unfold State.slice at this
    rw [this]; exact hx
  have h2 : ∀ (x : Slice) (hx : x.shut), (((if ((s.setSlice n x).dropWindows n).genBlocked n = true then
      ((s.setSlice n x).dropWindows n).setSlice n { ((s.setSlice n x).dropWindows n).slice n with
        genHeld := true, genHolds := satAdd 32 (((s.setSlice n x).dropWindows n).slice n).genHolds 1 }
      else ((s.setSlice n x).dropWindows n).resetBody n)).slice n).shut := by
    intro x hx
    split
    · rw [State.setSlice_slice]; exact h1 x hx
    · exact (State.resetBody_shutKept _ _ n).1 (h1 x hx)
  exact h2 _ ⟨rfl, rfl⟩

theorem State.dmaForget_shutKept (s : State) (p : Nat) (fs : Nat → Bool) : ShutKept s (s.dmaForget p fs) := by
  unfold State.dmaForget
  refine ShutKept.step (ShutKept.forEach _ _ _ (fun x s => ?_)) ?_
  · dsimp only
    refine ShutKept.ite ?_ (ShutKept.refl _)
    exact State.drainEnd_shutKept _ _
  · exact ShutKept.step (State.setPort_shutKept _ _ _) (ShutKept.u_dmas (ShutKept.refl s) _ _)

/-- Each slice that is reset in turn is shut at the end. -/
theorem State.forEachReset_shut (l : List Nat) (s : State) (n : Nat) (hn : n ∈ l ∨ (s.slice n).shut)
    (h : (s.slice n).st = .bound ∨ (s.slice n).shut) : ((s.forEach l (fun n s => s.sliceReset n)).slice n).shut := by
  unfold State.forEach
  induction l generalizing s with
  | nil => exact hn.resolve_left (by simp)
  | cons k l ih =>
    by_cases e : k = n
    · subst e
      have hs : ((s.sliceReset k none).slice k).shut := by
        rcases h with h | h
        · exact s.sliceReset_shut k none h
        · exact (State.sliceReset_shutKept _ _ _ k).1 h
      exact ih _ (Or.inr hs) (Or.inr hs)
    · have hk := State.sliceReset_shutKept s k none n
      refine ih _ ?_ ?_
      · rcases hn with hn | hn
        · exact Or.inl ((List.mem_cons.mp hn).resolve_left (fun c => e c.symm))
        · exact Or.inr (hk.1 hn)
      · rcases h with h | h
        · exact hk.2 h
        · exact Or.inr (hk.1 h)

/-- What a table does not list reads as its default. -/
theorem Tbl.mem_of_get {α : Type} (d : α) (t : Tbl α) (k : Nat) (h : Tbl.get d t k ≠ d) : (k, Tbl.get d t k) ∈ t := by
  induction t with
  | nil => exact absurd rfl h
  | cons x t ih =>
    by_cases e : x.1 = k
    · have : Tbl.get d (x :: t) k = x.2 := by unfold Tbl.get; rw [if_pos e]
      rw [this, ← e]; exact List.mem_cons_self
    · have : Tbl.get d (x :: t) k = Tbl.get d t k := if_neg e
      rw [this] at h ⊢; exact List.mem_cons_of_mem _ (ih h)

theorem State.mem_slicesOn {s : State} {n p f : Nat} (h : (s.slice n).st.isBound = true) (hp : s.slPort n = p) (hf : s.slFn n = f) :
    n ∈ s.slicesOn p f := by
  unfold State.slicesOn State.boundSlices
  have hne : Tbl.get {} s.slices n ≠ {} := by
    intro c; unfold State.slice at h; rw [c] at h; exact absurd h (by decide)
  refine List.mem_filter.mpr ⟨?_, by simp [hp, hf]⟩
  exact List.mem_filterMap.mpr ⟨_, Tbl.mem_of_get _ _ _ hne, by
    have : (Tbl.get ({} : Slice) s.slices n).st.isBound = true := h
    simp [this]⟩

theorem Slice.shut_isBound {x : Slice} (h : x.st = .bound ∨ x.shut) : x.st.isBound = true := by
  rcases h with h | h
  · rw [h]; rfl
  · rw [h.1]; rfl

/-- R99: the slices bound to functions that are reset are shut. -/
theorem State.funcsReset_shut (s : State) (p : Nat) (fs : List Nat) (keep : Nat → Func → Func) {n : Nat}
    (h : (s.slice n).st = .bound) (hp : s.slPort n = p) (hf : s.slFn n ∈ fs) : ((s.funcsReset p fs keep).slice n).shut := by
  have h1 : ∀ (l : List Nat) (t : State), t.dict = s.dict → (s.slFn n ∈ l ∨ (t.slice n).shut) →
      ((t.slice n).st = .bound ∨ (t.slice n).shut) →
      ((t.forEach l (fun f s => s.forEach (s.slicesOn p f) (fun n s => s.sliceReset n))).slice n).shut := by
    intro l
    induction l with
    | nil => intro t _ hn _; exact hn.resolve_left (by simp)
    | cons f l ih =>
      intro t hd hn hb
      have hk : ShutKept t (t.forEach (t.slicesOn p f) (fun n s => s.sliceReset n)) :=
        ShutKept.forEach _ _ _ (fun n s => State.sliceReset_shutKept _ _ _)
      have hd' : (t.forEach (t.slicesOn p f) (fun n s => s.sliceReset n)).dict = s.dict := by
        refine Eq.trans ?_ hd
        exact (Chg.forEach (m := 18035768162) (fun k u => State.sliceReset_chg u k none) (Chg.refl _ _)).dict rfl
      have hb' : ((t.forEach (t.slicesOn p f) (fun n s => s.sliceReset n)).slice n).st = .bound ∨
          ((t.forEach (t.slicesOn p f) (fun n s => s.sliceReset n)).slice n).shut := by
        rcases hb with hb | hb
        · exact (hk n).2 hb
        · exact Or.inr ((hk n).1 hb)
      refine ih _ hd' ?_ hb'
      rcases hn with hn | hn
      · rcases List.mem_cons.mp hn with e | hm
        · right
          refine State.forEachReset_shut _ t n (Or.inl ?_) hb
          refine State.mem_slicesOn (Slice.shut_isBound hb) ?_ ?_
          · rw [← hp]; exact State.cfg_congr hd _ _
          · rw [← e]; exact State.cfg_congr hd _ _
        · exact Or.inl hm
      · exact Or.inr ((hk n).1 hn)
  unfold State.funcsReset
  have h2 := h1 fs s rfl (Or.inl hf) (Or.inl h)
  refine (?_ : ShutKept _ _) n |>.1 h2
  refine ShutKept.step (State.setPort_shutKept _ _ _) ?_
  refine ShutKept.step (ShutKept.forEach _ _ _ (fun x s => ShutKept.of_chg (State.setFunc_chg ..) (by decide))) ?_
  refine ShutKept.step (State.dmaForget_shutKept _ _ _) ?_
  refine ShutKept.step (ShutKept.forEach _ _ _ (fun x s => ShutKept.of_chg (State.dropStdQueues_chg ..) (by decide))) ?_
  refine ShutKept.step (ShutKept.forEach _ _ _ (fun x s => ?_)) (ShutKept.refl _)
  exact ShutKept.step (ShutKept.of_chg (State.dropStdAdmin_chg ..) (by decide)) (ShutKept.of_chg (State.ctrlClear_chg ..) (by decide))

/-- R99: a port reset shuts every slice bound to a function of the port. -/
theorem State.portReset_shut (s : State) (p kind : Nat) (sticky : Bool) {n : Nat} (h : (s.slice n).st = .bound) (hp : s.slPort n = p) :
    ((s.portReset p kind sticky).slice n).shut := by
  have hc : ∀ t : State, t.dict.inForce = s.dict.inForce → ∀ i j, t.cfg i j = s.cfg i j := by
    intro t ht i j; unfold State.cfg State.cfgVal; rw [ht]
  have hd : ∀ (u : State), (u.vdmDown p).dict.inForce = u.dict.inForce := by
    intro u; unfold State.vdmDown State.sessionsEnd; dsimp only; split <;> rfl
  have hs : ∀ (u : State), (u.vdmDown p).slices = u.slices := fun u => (State.vdmDown_chg u p).slices rfl
  have key : ∀ (u : State), u.slices = s.slices → u.dict.inForce = s.dict.inForce → ∀ keep,
      ((u.funcsReset p (u.funcsOf p) keep).slice n).shut := by
    intro u hu hi keep
    have hb : (u.slice n).st = .bound := by unfold State.slice at h ⊢; rw [hu]; exact h
    have hp' : u.slPort n = p := by rw [← hp]; exact hc u hi _ _
    refine State.funcsReset_shut _ _ _ _ hb hp' ?_
    have hm : n ∈ u.slicesOnPort p := by
      have := State.mem_slicesOn (s := u) (n := n) (Slice.shut_isBound (Or.inl hb)) hp' rfl
      unfold State.slicesOn at this
      unfold State.slicesOnPort
      exact List.mem_filter.mpr ⟨(List.mem_filter.mp this).1, by simp [hp']⟩
    unfold State.funcsOf
    refine List.mem_dedup.mpr (List.mem_append_right _ (List.mem_map.mpr ⟨n, hm, rfl⟩))
  unfold State.portReset
  dsimp only
  refine key _ ?_ ?_ _
  · exact hs _
  · exact hd _

end Sys2Proof.Machine
end

