-- ==== Sys2Proof/Laws/Tags.lean ====
section
/-! SUPPORT. What the movement of a command's data leaves of every tag: its entry, its queue, its plan, how far it has come, and a
state that only a commit may change, to POST. -/

namespace Sys2Proof.Machine

/-- The same command at the same step: only its data and its status may differ. -/
structure Tag.onward (x y : Tag) : Prop where
  sqe : y.sqe = x.sqe
  q : y.q = x.q
  slice : y.slice = x.slice
  order : y.order = x.order
  plan : y.plan = x.plan
  segs : y.segs = x.segs
  stepsDone : y.stepsDone = x.stepsDone
  admin : y.admin = x.admin
  built : y.built = x.built
  slba : y.slba = x.slba
  nlb : y.nlb = x.nlb
  st : y.st = x.st ∨ x.st.uncommitted = true ∧ y.st = .post

theorem Tag.onward_refl (x : Tag) : x.onward x := ⟨rfl, rfl, rfl, rfl, rfl, rfl, rfl, rfl, rfl, rfl, rfl, Or.inl rfl⟩

theorem Tag.onward.trans {x y z : Tag} (h : x.onward y) (g : y.onward z) : x.onward z where
  sqe := g.sqe.trans h.sqe
  q := g.q.trans h.q
  slice := g.slice.trans h.slice
  order := g.order.trans h.order
  plan := g.plan.trans h.plan
  segs := g.segs.trans h.segs
  stepsDone := g.stepsDone.trans h.stepsDone
  admin := g.admin.trans h.admin
  built := g.built.trans h.built
  slba := g.slba.trans h.slba
  nlb := g.nlb.trans h.nlb
  st := by
    rcases g.st with e | ⟨u, e⟩
    · rcases h.st with e' | ⟨u', e'⟩
      · exact Or.inl (e.trans e')
      · exact Or.inr ⟨u', e.trans e'⟩
    · rcases h.st with e' | ⟨u', e'⟩
      · exact Or.inr ⟨e' ▸ u, e⟩
      · exact Or.inr ⟨u', e⟩

/-- Every tag holds the same command at the same step. -/
def TagsKept (s t : State) : Prop := ∀ k, (s.tag k).onward (t.tag k)

theorem TagsKept.refl (s : State) : TagsKept s s := fun _ => Tag.onward_refl _
theorem TagsKept.step {s t u : State} (h : TagsKept t u) (g : TagsKept s t) : TagsKept s u := fun k => (g k).trans (h k)
theorem TagsKept.of_tags {s t : State} (h : t.tags = s.tags) : TagsKept s t := fun k => by
  unfold State.tag; rw [h]; exact Tag.onward_refl _
theorem TagsKept.of_chg {m : Nat} {s t : State} (h : Chg m s t) (hm : m.testBit 13 = false) : TagsKept s t :=
  TagsKept.of_tags (h.tags hm)

theorem TagsKept.u_wbuf {s t : State} (h : TagsKept s t) (x : Wbuf) : TagsKept s { t with wbuf := x } := h
theorem TagsKept.u_cmp {s t : State} (h : TagsKept s t) (x : Cmp) : TagsKept s { t with cmp := x } := h
theorem TagsKept.u_pool {s t : State} (h : TagsKept s t) (x : Pool) : TagsKept s { t with pool := x } := h

theorem TagsKept.ite {s a b : State} {c : Prop} [Decidable c] (ha : TagsKept s a) (hb : TagsKept s b) : TagsKept s (if c then a else b) := by
  split
  · exact ha
  · exact hb

theorem TagsKept.forEach {α : Type} (s : State) (l : List α) (f : α → State → State) (hf : ∀ x s, TagsKept s (f x s)) :
    TagsKept s (s.forEach l f) := by
  unfold State.forEach
  induction l generalizing s with
  | nil => exact TagsKept.refl s
  | cons x l ih => exact (ih (f x s)).step (hf x s)

theorem TagsKept.setTag (s : State) (k : Nat) (x : Tag) (h : (s.tag k).onward x) : TagsKept s (s.setTag k x) := by
  intro n
  by_cases e : k = n
  · subst e; rw [State.setTag_tag]; exact h
  · rw [State.setTag_tag_ne _ _ e]; exact Tag.onward_refl _

theorem State.setBlk_tagsKept (s : State) (t b : Nat) (x : BlkRt) : TagsKept s (s.setBlk t b x) :=
  TagsKept.setTag _ _ _ ⟨rfl, rfl, rfl, rfl, rfl, rfl, rfl, rfl, rfl, rfl, rfl, Or.inl rfl⟩

theorem State.poolRelease_tagsKept (s : State) (t : Nat) : TagsKept s (s.poolRelease t) := by
  unfold State.poolRelease
  refine TagsKept.u_pool ?_ _
  exact TagsKept.setTag _ _ _ ⟨rfl, rfl, rfl, rfl, rfl, rfl, rfl, rfl, rfl, rfl, rfl, Or.inl rfl⟩

theorem State.commitTag_tagsKept (s : State) (t : Nat) (st : Status) (a b : Nat) : TagsKept s (s.commitTag t st a b) := by
  have h0 : TagsKept s (if !(st.sct == 0 && st.sc == 0) then ((s.zoneSettle t true).poolRelease t).dropStaged t else s) := by
    refine TagsKept.ite ?_ (TagsKept.refl s)
    refine TagsKept.step (TagsKept.of_chg (State.dropStaged_chg ..) (by decide)) ?_
    refine TagsKept.step ?_ (TagsKept.of_chg (State.zoneSettle_chg s t true) (by decide))
    exact State.poolRelease_tagsKept _ _
  have h1 : (s.tag t).st.uncommitted = true → TagsKept s ((if !(st.sct == 0 && st.sc == 0) then
      ((s.zoneSettle t true).poolRelease t).dropStaged t else s).setTag t
      { (if !(st.sct == 0 && st.sc == 0) then ((s.zoneSettle t true).poolRelease t).dropStaged t else s).tag t with
        st := .post, status := st, dw0 := a, dw1 := b, committed := true }) := by
    intro hu
    refine TagsKept.step ?_ h0
    refine TagsKept.setTag _ _ _ ⟨rfl, rfl, rfl, rfl, rfl, rfl, rfl, rfl, rfl, rfl, rfl, Or.inr ⟨?_, rfl⟩⟩
    split
    · show ((((s.zoneSettle t true).poolRelease t).dropStaged t).tag t).st.uncommitted = true
      have e : ((((s.zoneSettle t true).poolRelease t).dropStaged t).tag t).st = (s.tag t).st := by
        unfold State.dropStaged State.poolRelease
        show (((s.zoneSettle t true).setTag t { (s.zoneSettle t true).tag t with need := 0 }).tag t).st = _
        rw [State.setTag_tag]
        show ((s.zoneSettle t true).tag t).st = _
        unfold State.tag; rw [(State.zoneSettle_chg ..).tags rfl]
      rw [e]; exact hu
    · exact hu
  unfold State.commitTag
  cases hs : (s.tag t).st with
  | build => simp only [hs]; exact h1 (by rw [hs]; rfl)
  | wait => simp only [hs]; exact h1 (by rw [hs]; rfl)
  | run => simp only [hs]; exact h1 (by rw [hs]; rfl)
  | free => simp only [hs]; exact TagsKept.refl s
  | post => simp only [hs]; exact TagsKept.refl s
  | drain => simp only [hs]; exact TagsKept.refl s

theorem State.succeed_tagsKept (s : State) (t a b : Nat) : TagsKept s (s.succeed t a b) := State.commitTag_tagsKept _ _ _ _ _

theorem State.stage_tagsKept (s : State) (t b slot mode : Nat) (image : List Byte) : TagsKept s (s.stage t b slot mode image) := by
  unfold State.stage
  split
  · exact State.commitTag_tagsKept _ _ _ _ _
  · refine TagsKept.ite (State.commitTag_tagsKept _ _ _ _ _) ?_
    refine TagsKept.step (State.setBlk_tagsKept _ _ _ _) ?_
    exact TagsKept.u_wbuf (TagsKept.of_chg (State.setWblk_chg ..) (by decide)) _

theorem State.bypass_tagsKept (s : State) (t b : Nat) : TagsKept s (s.bypass t b) := by
  unfold State.bypass
  exact TagsKept.ite (State.stage_tagsKept _ _ _ _ _ _) (TagsKept.refl s)

theorem State.enterPipe_tagsKept (s : State) (t b : Nat) : TagsKept s (s.enterPipe t b) := by
  unfold State.enterPipe
  dsimp only
  refine TagsKept.ite (TagsKept.refl s) ?_
  refine TagsKept.ite (State.setBlk_tagsKept _ _ _ _) ?_
  exact TagsKept.ite (State.setBlk_tagsKept _ _ _ _) (TagsKept.refl s)

theorem State.fillBlock_tagsKept (s : State) (t b : Nat) : TagsKept s (s.fillBlock t b) := by
  have hf : ∀ (s : State) (x : BlkRt) (st : Status), TagsKept s ((s.setBlk t b x).commitTag t st) := fun s x st =>
    TagsKept.step (State.commitTag_tagsKept _ _ _ _ _) (State.setBlk_tagsKept _ _ _ _)
  unfold State.fillBlock
  dsimp only
  refine TagsKept.ite (TagsKept.refl s) ?_
  split
  · exact TagsKept.ite (hf _ _ _) (State.setBlk_tagsKept _ _ _ _)
  · exact hf _ _ _
  · refine TagsKept.ite (hf _ _ _) ?_
    refine TagsKept.ite (State.setBlk_tagsKept _ _ _ _) ?_
    exact TagsKept.ite (hf _ _ _) (State.setBlk_tagsKept _ _ _ _)
  · exact TagsKept.ite (hf _ _ _) (TagsKept.refl s)
  · exact TagsKept.refl s

theorem State.sendBlocks_tagsKept (s : State) (t k : Nat) : TagsKept s (s.sendBlocks t k) := by
  unfold State.sendBlocks
  have h1 : TagsKept s (s.forEach (s.egress t ((s.tag t).segBlocks k)).1 (fun b s =>
      let d := s.hostRun t ((s.tag t).sqe.addrAt (s.tag t).sg) (4096 * b) (s.blk t b).data
      d)) := TagsKept.forEach _ _ _ (fun b s => TagsKept.of_chg (State.hostRun_chg ..) (by decide))
  dsimp only
  refine TagsKept.ite ?_ (TagsKept.step (State.commitTag_tagsKept _ _ _ _ _) ?_) <;>
  · refine TagsKept.forEach _ _ _ (fun b s => ?_)
    refine TagsKept.ite (TagsKept.of_chg (State.hostRun_chg ..) (by decide)) ?_
    exact TagsKept.step (TagsKept.of_chg (State.hostRun_chg ..) (by decide)) (TagsKept.of_chg (State.hostRun_chg ..) (by decide))

theorem State.finishTag_tagsKept (s : State) (t : Nat) : TagsKept s (s.finishTag t) := by
  unfold State.finishTag
  dsimp only
  refine TagsKept.ite (TagsKept.u_cmp (State.succeed_tagsKept _ _ _ _) _) ?_
  exact TagsKept.ite (State.succeed_tagsKept _ _ _ _) (State.succeed_tagsKept _ _ _ _)

theorem State.advance_tagsKept (s : State) (t : Nat) : TagsKept s (s.advance t) := by
  have hin : TagsKept s (s.setTag t { s.tag t with inFlight := true }) :=
    TagsKept.setTag _ _ _ ⟨rfl, rfl, rfl, rfl, rfl, rfl, rfl, rfl, rfl, rfl, rfl, Or.inl rfl⟩
  unfold State.advance
  dsimp only
  split
  · exact TagsKept.refl s
  · rename_i p hp
    refine TagsKept.ite (TagsKept.refl s) ?_
    refine TagsKept.ite (TagsKept.refl s) ?_
    refine TagsKept.ite (State.finishTag_tagsKept _ _) ?_
    refine TagsKept.step ?_ hin
    generalize s.setTag t { s.tag t with inFlight := true } = s1
    cases p.kind with
    | hostrd => exact TagsKept.of_chg (State.askBlocks_chg ..) (by decide)
    | hostwr => exact TagsKept.ite (TagsKept.of_chg (State.sendStage_chg ..) (by decide)) (State.sendBlocks_tagsKept _ _ _)
    | die => exact TagsKept.forEach _ _ _ (fun b s => State.fillBlock_tagsKept _ _ _)
    | xform => exact TagsKept.forEach _ _ _ (fun b s => TagsKept.step (State.bypass_tagsKept _ _ _) (State.enterPipe_tagsKept _ _ _))
    | buf => exact TagsKept.refl _
    | par => exact TagsKept.refl _
    | mapupd => exact TagsKept.refl _
    | cmpl => exact TagsKept.refl _
    | exc => exact TagsKept.refl _

end Sys2Proof.Machine
end

