-- ==== Sys2Proof/WellFormed.lean ====
section
/-! DEFINITION. Which commands are well formed: every operand lies within what the part has of it. -/

namespace Sys2Proof

/-- A queue names a function of a port, or a queue of a slice page. -/
def wfQKey : QKey → Bool
  | .std p f q => decide (p < 2) && decide (f < 256) && decide (q ≤ 16384)
  | .page n q => decide (n < 4096) && decide (q < 256)

/-- A register access names a BAR pair by its first BAR, and its value fits its width. -/
def wfAccess (w : RegAccess) : Bool :=
  decide (w.port < 2) && decide (w.fn < 256) && (w.bar == 0 || w.bar == 2 || w.bar == 4)
    && decide (w.off < 2 ^ 24) && decide (w.value < 2 ^ (8 * w.width))

/-- The fields of an entry fit their widths. -/
def wfSqe (e : Sqe) : Bool :=
  decide (e.opcode < 256) && decide (e.cid < 65536) && decide (e.fuse < 4) && decide (e.psdt < 4)
    && decide (e.nsid < 2 ^ 32) && decide (e.cdw2 < 2 ^ 32) && decide (e.cdw3 < 2 ^ 32) && decide (e.mptr < 2 ^ 64)
    && decide (e.prp1 < 2 ^ 64) && decide (e.prp2 < 2 ^ 64) && decide (e.cdw10 < 2 ^ 32)
    && decide (e.cdw11 < 2 ^ 32) && decide (e.cdw12 < 2 ^ 32) && decide (e.cdw13 < 2 ^ 32)
    && decide (e.cdw14 < 2 ^ 32) && decide (e.cdw15 < 2 ^ 32)

/-- The fields of a frame of R58 fit their widths. -/
def wfFrame (f : DFrame) : Bool :=
  decide (f.op < 256) && decide (f.reqId < 2 ^ 32) && decide (f.index < 65536) && decide (f.sub < 256)
    && decide (f.ty < 256) && decide (f.offset < 2 ^ 32) && decide (f.length < 65536)
    && decide (f.value.length ≤ 4096)

/-- A management path names a port that exists. -/
def wfMPath : MPath → Bool
  | .twoWire => true
  | .vdm p => decide (p < 2)
  | .fieldNet => true

/-- A dictionary path names a tag, a port or a management path that exists. -/
def wfDPath : DPath → Bool
  | .admin t => decide (t < 262144)
  | .mailbox p => decide (p < 2)
  | .mctp m _ => wfMPath m
  | .bdp _ _ => true

/-- An MCTP packet. -/
def wfPacket (p : McPacket) : Bool :=
  wfMPath p.path && decide (p.source < 256) && decide (p.msgTag < 16) && decide (p.msgType < 256)

/-- A place in DRAM, within the fields of DRC_ECCLOG. -/
def wfPlace (d : DramPlace) : Bool :=
  decide (d.channel < 4) && decide (d.subch < 2) && decide (d.rank < 2) && decide (d.bg < 8)
    && decide (d.bank < 4) && decide (d.row < 2 ^ 18) && decide (d.column < 2 ^ 10)

/-- A die operation's class is one of R12. -/
def wfDieOp (d : DieOp) : Bool := decide (d.cls < 4) && decide (d.plane < 4)

/-- The fields of a create fit their widths. -/
def wfNsCreate (d : NsCreate) : Bool :=
  decide (d.nsze < 2 ^ 64) && decide (d.ncap < 2 ^ 64) && decide (d.flbas < 256) && decide (d.dps < 256)
    && decide (d.nmic < 256) && d.phndl.all (fun h => decide (h < 65536))

/-- A firmware image names a slot and fields of its header. -/
def wfImage (f : FwImage) : Bool :=
  decide (f.slot < 8) && decide (f.imageSeq < 2 ^ 64) && decide (f.svn < 256) && decide (f.revision.length ≤ 64)

/-- A command is well formed. -/
def Instr.wf : Instr → Bool
  | .sqTailDoorbell w => wfAccess w
  | .cqHeadDoorbell w => wfAccess w
  | .registerWrite w => wfAccess w
  | .readClearAccess w => wfAccess w
  | .dmbGo port => decide (port < 2)
  | .cmbWrite port fn _ _ _ => decide (port < 2) && decide (fn < 256)
  | .poisonedTlpReceived port fn => decide (port < 2) && decide (fn < 256)
  | .configRequest port fn _ _ => decide (port < 2) && decide (fn < 256)
  | .busMasterEnableChange port fn _ => decide (port < 2) && decide (fn < 256)
  | .d3hotTransition port fn _ => decide (port < 2) && decide (fn < 256)
  | .msixEnableChange port fn _ _ => decide (port < 2) && decide (fn < 256)
  | .linkUp port _ _ => decide (port < 2)
  | .speedChangeRetry port _ _ => decide (port < 2)
  | .l0pDecision port _ => decide (port < 2)
  | .l1IdleEntry port => decide (port < 2)
  | .dmaReadCompletion _ _ => true
  | .dmaRequestFailure _ _ => true
  | .completionTimeout _ => true
  | .atsInvalidationRequest port fn itag _ _ => decide (port < 2) && decide (fn < 256) && decide (itag < 32)
  | .invalidationComplete port itag => decide (port < 2) && decide (itag < 32)
  | .perstAssert port => decide (port < 2)
  | .hotReset port => decide (port < 2)
  | .linkDisable port => decide (port < 2)
  | .dlDown port => decide (port < 2)
  | .pfFunctionLevelReset port => decide (port < 2)
  | .vfFunctionLevelReset port fn => decide (port < 2) && decide (fn < 256)
  | .vfEnableCleared port => decide (port < 2)
  | .controllerReset port fn => decide (port < 2) && decide (fn < 256)
  | .controllerEnable port fn _ => decide (port < 2) && decide (fn < 256)
  | .nvmSubsystemReset port => decide (port < 2)
  | .shutdownNotification port fn => decide (port < 2) && decide (fn < 256)
  | .entryFetch q entries => wfQKey q && entries.all wfSqe
  | .commandAdmission q tag => wfQKey q && decide (tag < 262144)
  | .mapFillComplete nsid page _ => decide (1 ≤ nsid ∧ nsid ≤ 2048) && decide (page < 2 ^ 64)
  | .bufferReturn arena size _ => decide (arena < 6) && decide (size < 6)
  | .chainComplete tag => decide (tag < 262144)
  | .overlapResolved tag => decide (tag < 262144)
  | .stepComplete tag _ => decide (tag < 262144)
  | .completionPost tag => decide (tag < 262144)
  | .deleteIoSq tag => decide (tag < 262144)
  | .createIoSq tag => decide (tag < 262144)
  | .deleteIoCq tag => decide (tag < 262144)
  | .createIoCq tag => decide (tag < 262144)
  | .getLogPage tag => decide (tag < 262144)
  | .identify tag => decide (tag < 262144)
  | .abort tag => decide (tag < 262144)
  | .setFeatures tag => decide (tag < 262144)
  | .setFeaturesPowerManagement tag => decide (tag < 262144)
  | .setFeaturesHostMemoryBuffer tag => decide (tag < 262144)
  | .setFeaturesTimestamp tag _ => decide (tag < 262144)
  | .setFeaturesFdp tag => decide (tag < 262144)
  | .getFeatures tag => decide (tag < 262144)
  | .asyncEventRequest tag => decide (tag < 262144)
  | .namespaceCreate tag d => decide (tag < 262144) && wfNsCreate d
  | .namespaceDelete tag => decide (tag < 262144)
  | .namespaceDeleteComplete nsid => decide (1 ≤ nsid ∧ nsid ≤ 2048)
  | .namespaceAttach tag _ => decide (tag < 262144)
  | .namespaceDetach tag _ => decide (tag < 262144)
  | .firmwareImageDownload tag image => decide (tag < 262144) && wfImage image
  | .firmwareCommitReplace tag => decide (tag < 262144)
  | .firmwareCommitActivateNext tag => decide (tag < 262144)
  | .firmwareCommitActivateNow tag => decide (tag < 262144)
  | .activationHandoff _ => true
  | .directiveSend tag => decide (tag < 262144)
  | .directiveReceive tag => decide (tag < 262144)
  | .formatNvm tag => decide (tag < 262144)
  | .formatComplete nsid => decide (1 ≤ nsid ∧ nsid ≤ 2048)
  | .sanitizeBlockErase tag => decide (tag < 262144)
  | .sanitizeCryptoErase tag => decide (tag < 262144)
  | .sanitizeExitFailure tag => decide (tag < 262144)
  | .sliceCreate tag _ => decide (tag < 262144)
  | .sliceBind tag _ => decide (tag < 262144)
  | .sliceUnbind tag => decide (tag < 262144)
  | .sliceReset tag => decide (tag < 262144)
  | .sliceDestroy tag => decide (tag < 262144)
  | .dirtyLogControl tag _ => decide (tag < 262144)
  | .dirtyLogFlush tag => decide (tag < 262144)
  | .queueRestart tag => decide (tag < 262144)
  | .dictionaryRead tag => decide (tag < 262144)
  | .dictionaryWrite tag _ => decide (tag < 262144)
  | .flush tag => decide (tag < 262144)
  | .write tag => decide (tag < 262144)
  | .read tag => decide (tag < 262144)
  | .writeUncorrectable tag => decide (tag < 262144)
  | .compare tag => decide (tag < 262144)
  | .writeZeroes tag => decide (tag < 262144)
  | .datasetManagement tag _ => decide (tag < 262144)
  | .verify tag => decide (tag < 262144)
  | .copy tag _ => decide (tag < 262144)
  | .zoneAppend tag => decide (tag < 262144)
  | .zoneClose tag => decide (tag < 262144)
  | .zoneFinish tag => decide (tag < 262144)
  | .zoneOpen tag => decide (tag < 262144)
  | .zoneReset tag => decide (tag < 262144)
  | .zoneOffline tag => decide (tag < 262144)
  | .flushExplicitZrwaRange tag => decide (tag < 262144)
  | .reportZones tag => decide (tag < 262144)
  | .zoneTableDecision tag => decide (tag < 262144)
  | .zoneResetSettled tag => decide (tag < 262144)
  | .zoneFinishRecommended nsid _ => decide (1 ≤ nsid ∧ nsid ≤ 2048)
  | .zoneFinishedByController nsid _ => decide (1 ≤ nsid ∧ nsid ≤ 2048)
  | .transformEncode tag _ => decide (tag < 262144)
  | .transformDecode tag => decide (tag < 262144)
  | .sliceActionApply slice _ => decide (slice < 4096)
  | .generationHoldRelease slice => decide (slice < 4096)
  | .resetSequenceEnd slice => decide (slice < 4096)
  | .sliceDestroyComplete slice => decide (slice < 4096)
  | .dirtyLogPostTimer slice word => decide (slice < 4096) && decide (word < 2 ^ 64)
  | .dirtyLogPostDone slice word => decide (slice < 4096) && decide (word < 2 ^ 64)
  | .epochStart => true
  | .dieDescriptorArrival ch pos op => decide (ch < 32) && decide (pos < 32) && wfDieOp op
  | .suspendMinRunReached ch pos => decide (ch < 32) && decide (pos < 32)
  | .suspendLimitReached ch pos => decide (ch < 32) && decide (pos < 32)
  | .dieOperationComplete ch pos _ => decide (ch < 32) && decide (pos < 32)
  | .thermalPauseEnd ch pos => decide (ch < 32) && decide (pos < 32)
  | .busTransferComplete ch => decide (ch < 32)
  | .arbiterAgingLift _ _ => true
  | .islandClockGateIdle island => decide (island < 48)
  | .islandPowerGateIdle island => decide (island < 48)
  | .islandWake island _ _ => decide (island < 48)
  | .powerGateEntryComplete island => decide (island < 48)
  | .engineEvent engine => decide (engine < 128)
  | .engineEventTimeout engine => decide (engine < 128)
  | .engineFailed engine => decide (engine < 128)
  | .journalPageTimer => true
  | .journalPageDurable => true
  | .checkpointInterval => true
  | .checkpointEndDurable => true
  | .writebackProgramDone nsid page _ _ => decide (1 ≤ nsid ∧ nsid ≤ 2048) && decide (page < 2 ^ 64)
  | .programComplete _ _ => true
  | .eraseComplete _ ch _ => decide (ch < 32)
  | .rowHoldExpiry _ => true
  | .foldTask _ => true
  | .foldIdleTimer => true
  | .gcTask _ => true
  | .wearLevelHourly => true
  | .idleClosure _ => true
  | .refreshTask _ => true
  | .patrolVisit _ ch _ _ => decide (ch < 32)
  | .hardDecodeDone tag blk _ _ _ _ => decide (tag < 262144) && decide (blk < 4096)
  | .softDecodeDone tag blk _ _ => decide (tag < 262144) && decide (blk < 4096)
  | .rebuildTask => true
  | .powerLossNotify => true
  | .powerDisable => true
  | .postWindowEnd => true
  | .flushEnd => true
  | .powerControlRelease _ => true
  | .flushRestartTimer => true
  | .channelTrainingResult ch _ => decide (ch < 32)
  | .retrainHoursTimer ch => decide (ch < 32)
  | .retrain ch => decide (ch < 32)
  | .retrainStepDone ch _ _ => decide (ch < 32)
  | .rbNHint ch => decide (ch < 32)
  | .lunBusyTimeout ch pos => decide (ch < 32) && decide (pos < 32)
  | .lunResetCheck ch pos _ => decide (ch < 32) && decide (pos < 32)
  | .syncResetTimeout ch => decide (ch < 32)
  | .sequencerParityError ch _ => decide (ch < 32)
  | .blockEncodeDone tag blk lane _ => decide (tag < 262144) && decide (blk < 4096) && decide (lane < 256)
  | .slotDecodeDone tag blk => decide (tag < 262144) && decide (blk < 4096)
  | .ocxonCodeDone tag blk lane _ _ => decide (tag < 262144) && decide (blk < 4096) && decide (lane < 34)
  | .trefiBoundary ch rank _ => decide (ch < 4) && decide (rank < 4)
  | .realtimeBurstStaged ch _ _ => decide (ch < 4)
  | .dramReadComplete place _ _ _ => wfPlace place
  | .remirrorComplete => true
  | .zqCalibrationTimer ch _ => decide (ch < 4)
  | .dqsOscillatorTimer ch _ _ => decide (ch < 4)
  | .dramTrainingResult ch _ _ => decide (ch < 4)
  | .mergeHoldExpiry ch line _ _ => decide (ch < 4) && decide (line < 256)
  | .sramScrubStep _ _ word _ _ => decide (word < 2 ^ 64)
  | .dramScrubStep place _ _ _ _ => wfPlace place
  | .auxPowerOn => true
  | .auxPowerLoss => true
  | .mainPgTrue => true
  | .mainPgFalse => true
  | .bringUpComplete f => f.badTargets.all (fun t => decide (t.1 < 32) && decide (t.2 < 4))
  | .maintRequest path _ => wfDPath path
  | .maintenanceEntryDone => true
  | .writeProtect path _ => wfDPath path
  | .thermalSampleRound samples => samples.length == 18
  | .thermalHoldEnd => true
  | .crystalQualified => true
  | .crystalQualifyTimeout => true
  | .slowCrystalFailure => true
  | .refclkStop => true
  | .refclkRestored => true
  | .aonHeartbeatLoss => true
  | .fabricLinkCrcFailure link => decide (link < 48)
  | .softDecoderSelfTest decoder _ => decide (decoder < 8)
  | .portFailure port _ => decide (port < 2)
  | .readEntry path f => wfDPath path && wfFrame f
  | .writeEntry path f => wfDPath path && wfFrame f
  | .readWholeRecord path f => wfDPath path && wfFrame f
  | .writeWholeRecord path f => wfDPath path && wfFrame f
  | .nextIndex path f => wfDPath path && wfFrame f
  | .spdmRelay _ f => wfFrame f
  | .commitIndex path index => wfDPath path && decide (index < 65536)
  | .discardIndex path index => wfDPath path && decide (index < 65536)
  | .restoreIndex path index => wfDPath path && decide (index < 65536)
  | .commitBoundary index => decide (index < 65536)
  | .commitResponseTimeout index => decide (index < 65536)
  | .shadowTimeout index => decide (index < 65536)
  | .stagingTimeout => true
  | .logRecordDurable _ => true
  | .tokenRefill => true
  | .compactionTimer => true
  | .compactionComplete _ => true
  | .compactionRetry => true
  | .ackSeq path _ => wfDPath path
  | .timeNs path _ => wfDPath path
  | .minSvn path _ => wfDPath path
  | .setDynamicAddress addr => decide (addr < 128)
  | .resetDynamicAddress => true
  | .mctpPacket p => wfPacket p
  | .setEndpointId path eid => wfMPath path && decide (eid < 256)
  | .getMessageTypeSupport path => wfMPath path
  | .dictionaryFrameMessage path _ _ => wfMPath path
  | .readNvmeMiDataStructure path _ => wfMPath path
  | .subsystemHealthStatusPoll path => wfMPath path
  | .controllerHealthStatusPoll path _ => wfMPath path
  | .configurationGet path _ => wfMPath path
  | .configurationSet path _ _ => wfMPath path
  | .nvmeMiReset path => wfMPath path
  | .nvmeMiAdminCommand path _ _ e => wfMPath path && wfSqe e
  | .getVersion path => wfMPath path
  | .getCapabilities path => wfMPath path
  | .negotiateAlgorithms path => wfMPath path
  | .getDigests path => wfMPath path
  | .getCertificate path slot => wfMPath path && decide (slot < 256)
  | .challenge path => wfMPath path
  | .getMeasurements path index => wfMPath path && decide (index < 256)
  | .keyExchange path _ => wfMPath path
  | .finish path _ _ => wfMPath path
  | .heartbeat path _ => wfMPath path
  | .keyUpdate path _ => wfMPath path
  | .endSession path _ => wfMPath path
  | .sessionIdleTimeout _ => true
  | .bdpDatagram _ udpPort _ _ => decide (udpPort < 65536)
  | .neighborSolicitation _ => true
  | .echoRequest _ _ => true
  | .t1sLinkUp _ => true
  | .telemetryPeriod k => decide (k < 4)
  | .telemetryEventPush k => decide (k < 4)
  | .perstDeassert port => decide (port < 2)
  | .linkRetrained port _ _ => decide (port < 2)
  | .t1sLinkDown => true
  | .dramParityError ch => decide (ch < 4)
  | .fabricCoreFailure => true
  | .interruptCoalescingTimer q => wfQKey q
  | .measurementIntervalEnd => true
  | .powerEstimateInterval _ => true
  | .ledActInterval => true

end Sys2Proof
end

