-- ==== Sys2Proof/Tests/Slice0.lean ====
section
/-! SUPPORT. The model's own tests: ill-formed commands are refused, and for every statement a concrete state that meets its premises. -/

set_option linter.all false
set_option Elab.async false
set_option maxHeartbeats 2000000

open Sys2Proof Sys2Proof.Machine

/-! ### Commands that are not well formed -/

namespace Sys2Proof.Tests

/-- Well-formed operands, from which each test takes one field out of its range. -/
def sqe : Sqe := ⟨2, 1, 0, 0, 1, 0, 0, 0, 0, 0, 0, 0, 0, 0, 0, 0, false⟩
/-- An access of four bytes. -/
def acc : RegAccess := { port := 0, fn := 0, bar := 0, off := 0, width := 4, contiguous := true, value := 0 }
/-- A frame. -/
def frame : DFrame := ⟨1, true, 0, 0, 0, 0, 0, 0, []⟩
/-- A packet. -/
def packet : McPacket := ⟨.twoWire, 8, 0, false, true, true, 0, []⟩
/-- A place in DRAM. -/
def place : DramPlace := ⟨0, 0, 0, 0, 0, 0, 0⟩
/-- A die operation. -/
def dieOp : DieOp := ⟨.read, 0, 0, 0, 0, 0, false, 0⟩
/-- The data of a create. -/
def nsData : NsCreate := ⟨1, 1, 0, 0, 0, [], true⟩
/-- An image. -/
def image : FwImage := ⟨1, 1, 0, 0, 0, [], 0, true, true, true⟩
/-- A recovery that found nothing amiss. -/
def found : Recovered := ⟨none, true, [], 0, []⟩
/-- No command of a list is well formed. -/
def noneWf (l : List Instr) : Bool := l.all (fun i => !i.wf)
/-- Every command of a list is well formed. -/
def allWf (l : List Instr) : Bool := l.all (fun i => i.wf)

theorem test_wf_accepts_0 : allWf [
    .sqTailDoorbell acc, .cqHeadDoorbell acc, .registerWrite acc, .readClearAccess acc, .dmbGo 1, .cmbWrite 1 1 1 [] false,
    .poisonedTlpReceived 1 1, .configRequest 1 1 .vendorId none, .busMasterEnableChange 1 1 false, .d3hotTransition 1 1 false,
    .msixEnableChange 1 1 false false, .linkUp 1 1 1, .speedChangeRetry 1 1 1, .l0pDecision 1 1, .l1IdleEntry 1,
    .atsInvalidationRequest 1 1 1 none none, .invalidationComplete 1 1, .perstAssert 1, .hotReset 1, .linkDisable 1, .dlDown 1,
    .pfFunctionLevelReset 1, .vfFunctionLevelReset 1 1, .vfEnableCleared 1, .controllerReset 1 1, .controllerEnable 1 1 false,
    .nvmSubsystemReset 1, .shutdownNotification 1 1, .entryFetch (.std 0 0 0) [sqe], .commandAdmission (.std 0 0 0) 1,
    .mapFillComplete 1 1 false, .bufferReturn 1 1 1, .chainComplete 1, .overlapResolved 1, .stepComplete 1 .done,
    .completionPost 1, .deleteIoSq 1, .createIoSq 1, .deleteIoCq 1, .createIoCq 1, .getLogPage 1, .identify 1, .abort 1,
    .setFeatures 1, .setFeaturesPowerManagement 1, .setFeaturesHostMemoryBuffer 1, .setFeaturesTimestamp 1 1, .setFeaturesFdp 1,
    .getFeatures 1, .asyncEventRequest 1, .namespaceCreate 1 nsData, .namespaceDelete 1, .namespaceDeleteComplete 1,
    .namespaceAttach 1 [], .namespaceDetach 1 [], .firmwareImageDownload 1 image, .firmwareCommitReplace 1,
    .firmwareCommitActivateNext 1, .firmwareCommitActivateNow 1, .directiveSend 1, .directiveReceive 1, .formatNvm 1,
    .formatComplete 1, .sanitizeBlockErase 1, .sanitizeCryptoErase 1, .sanitizeExitFailure 1, .sliceCreate 1 [], .sliceBind 1 [],
    .sliceUnbind 1, .sliceReset 1] = true := by decide +kernel
theorem test_wf_accepts_1 : allWf [
    .sliceDestroy 1, .dirtyLogControl 1 [], .dirtyLogFlush 1, .queueRestart 1, .dictionaryRead 1, .dictionaryWrite 1 [], .flush 1,
    .write 1, .read 1, .writeUncorrectable 1, .compare 1, .writeZeroes 1, .datasetManagement 1 [], .verify 1, .copy 1 [],
    .zoneAppend 1, .zoneClose 1, .zoneFinish 1, .zoneOpen 1, .zoneReset 1, .zoneOffline 1, .flushExplicitZrwaRange 1,
    .reportZones 1, .zoneTableDecision 1, .zoneResetSettled 1, .zoneFinishRecommended 1 1, .zoneFinishedByController 1 1,
    .transformEncode 1 [], .transformDecode 1, .sliceActionApply 1 1, .generationHoldRelease 1, .resetSequenceEnd 1,
    .sliceDestroyComplete 1, .dirtyLogPostTimer 1 1, .dirtyLogPostDone 1 1, .dieDescriptorArrival 1 1 dieOp,
    .suspendMinRunReached 1 1, .suspendLimitReached 1 1, .dieOperationComplete 1 1 false, .thermalPauseEnd 1 1,
    .busTransferComplete 1, .islandClockGateIdle 1, .islandPowerGateIdle 1, .islandWake 1 false false, .powerGateEntryComplete 1,
    .engineEvent 1, .engineEventTimeout 1, .engineFailed 1, .writebackProgramDone 1 1 1 false, .eraseComplete 1 1 false,
    .patrolVisit 1 1 1 false, .hardDecodeDone 1 1 1 false false [], .softDecodeDone 1 1 false [], .channelTrainingResult 1 false,
    .retrainHoursTimer 1, .retrain 1, .retrainStepDone 1 false false, .rbNHint 1, .lunBusyTimeout 1 1, .lunResetCheck 1 1 false,
    .syncResetTimeout 1, .sequencerParityError 1 false, .blockEncodeDone 1 1 1 ⟨[], true, false⟩, .slotDecodeDone 1 1,
    .ocxonCodeDone 1 1 1 false ⟨[], true, false⟩, .trefiBoundary 1 1 false, .realtimeBurstStaged 1 1 1,
    .dramReadComplete place .clean false .other, .zqCalibrationTimer 1 false, .dqsOscillatorTimer 1 1 false] = true := by decide +kernel
theorem test_wf_accepts_2 : allWf [
    .dramTrainingResult 1 false false, .mergeHoldExpiry 1 1 .clean false, .sramScrubStep .tagStore 1 1 .clean false,
    .dramScrubStep place .clean false .other false, .bringUpComplete found, .maintRequest (.mailbox 0) false,
    .writeProtect (.mailbox 0) false, .thermalSampleRound (List.replicate 18 none), .fabricLinkCrcFailure 1,
    .softDecoderSelfTest 1 false, .portFailure 1 false, .readEntry (.mailbox 0) frame, .writeEntry (.mailbox 0) frame,
    .readWholeRecord (.mailbox 0) frame, .writeWholeRecord (.mailbox 0) frame, .nextIndex (.mailbox 0) frame, .spdmRelay 1 frame,
    .commitIndex (.mailbox 0) 1, .discardIndex (.mailbox 0) 1, .restoreIndex (.mailbox 0) 1, .commitBoundary 1,
    .commitResponseTimeout 1, .shadowTimeout 1, .ackSeq (.mailbox 0) 1, .timeNs (.mailbox 0) 1, .minSvn (.mailbox 0) 1,
    .setDynamicAddress 1, .mctpPacket packet, .setEndpointId .twoWire 1, .getMessageTypeSupport .twoWire,
    .dictionaryFrameMessage .twoWire none [], .readNvmeMiDataStructure .twoWire 1, .subsystemHealthStatusPoll .twoWire,
    .controllerHealthStatusPoll .twoWire 1, .configurationGet .twoWire 1, .configurationSet .twoWire 1 1, .nvmeMiReset .twoWire,
    .nvmeMiAdminCommand .twoWire none 1 sqe, .getVersion .twoWire, .getCapabilities .twoWire, .negotiateAlgorithms .twoWire,
    .getDigests .twoWire, .getCertificate .twoWire 1, .challenge .twoWire, .getMeasurements .twoWire 1, .keyExchange .twoWire 1,
    .finish .twoWire 1 .manager, .heartbeat .twoWire 1, .keyUpdate .twoWire 1, .endSession .twoWire 1, .bdpDatagram 1 1 none [],
    .telemetryPeriod 1, .telemetryEventPush 1, .perstDeassert 1, .linkRetrained 1 1 1, .dramParityError 1,
    .interruptCoalescingTimer (.std 0 0 0)] = true := by decide +kernel
theorem test_wf_refuses_access : noneWf [
    .sqTailDoorbell { acc with port := 2 }, .cqHeadDoorbell { acc with port := 2 }, .registerWrite { acc with port := 2 },
    .readClearAccess { acc with port := 2 }, .registerWrite { acc with fn := 256 }, .registerWrite { acc with bar := 1 },
    .registerWrite { acc with off := 0x1000000 }, .registerWrite { acc with value := 0x100000000 }] = true := by decide +kernel
theorem test_wf_refuses_port : noneWf [
    .dmbGo (2 ^ 70), .cmbWrite (2 ^ 70) 1 1 [] false, .poisonedTlpReceived (2 ^ 70) 1, .configRequest (2 ^ 70) 1 .vendorId none,
    .busMasterEnableChange (2 ^ 70) 1 false, .d3hotTransition (2 ^ 70) 1 false, .msixEnableChange (2 ^ 70) 1 false false,
    .linkUp (2 ^ 70) 1 1, .speedChangeRetry (2 ^ 70) 1 1, .l0pDecision (2 ^ 70) 1, .l1IdleEntry (2 ^ 70),
    .atsInvalidationRequest (2 ^ 70) 1 1 none none, .atsInvalidationRequest 1 1 (2 ^ 70) none none,
    .invalidationComplete (2 ^ 70) 1, .invalidationComplete 1 (2 ^ 70), .perstAssert (2 ^ 70), .hotReset (2 ^ 70),
    .linkDisable (2 ^ 70), .dlDown (2 ^ 70), .pfFunctionLevelReset (2 ^ 70), .vfFunctionLevelReset (2 ^ 70) 1,
    .vfEnableCleared (2 ^ 70), .controllerReset (2 ^ 70) 1, .controllerEnable (2 ^ 70) 1 false, .nvmSubsystemReset (2 ^ 70),
    .shutdownNotification (2 ^ 70) 1, .portFailure (2 ^ 70) false, .perstDeassert (2 ^ 70), .linkRetrained (2 ^ 70) 1 1] = true := by decide +kernel
theorem test_wf_refuses_fn : noneWf [
    .cmbWrite 1 (2 ^ 70) 1 [] false, .poisonedTlpReceived 1 (2 ^ 70), .configRequest 1 (2 ^ 70) .vendorId none,
    .busMasterEnableChange 1 (2 ^ 70) false, .d3hotTransition 1 (2 ^ 70) false, .msixEnableChange 1 (2 ^ 70) false false,
    .atsInvalidationRequest 1 (2 ^ 70) 1 none none, .vfFunctionLevelReset 1 (2 ^ 70), .controllerReset 1 (2 ^ 70),
    .controllerEnable 1 (2 ^ 70) false, .shutdownNotification 1 (2 ^ 70)] = true := by decide +kernel
theorem test_wf_refuses_queue : noneWf [
    .entryFetch (.std 2 0 0) [sqe], .commandAdmission (.std 2 0 0) 1, .interruptCoalescingTimer (.std 2 0 0),
    .entryFetch (.std 0 256 0) [], .entryFetch (.std 0 0 16385) [], .entryFetch (.page 4096 0) [], .entryFetch (.page 0 256) []] = true := by decide +kernel
theorem test_wf_refuses_entry : noneWf [
    .entryFetch (.std 0 0 0) [sqe, { sqe with opcode := 256 }], .nvmeMiAdminCommand .twoWire none 1 { sqe with opcode := 256 },
    .entryFetch (.std 0 0 0) [{ sqe with cid := 65536 }], .entryFetch (.std 0 0 0) [{ sqe with fuse := 4 }],
    .entryFetch (.std 0 0 0) [{ sqe with psdt := 4 }], .entryFetch (.std 0 0 0) [{ sqe with nsid := (2 ^ 70) }],
    .entryFetch (.std 0 0 0) [{ sqe with cdw2 := (2 ^ 70) }], .entryFetch (.std 0 0 0) [{ sqe with cdw3 := (2 ^ 70) }],
    .entryFetch (.std 0 0 0) [{ sqe with mptr := (2 ^ 70) }], .entryFetch (.std 0 0 0) [{ sqe with prp1 := (2 ^ 70) }],
    .entryFetch (.std 0 0 0) [{ sqe with prp2 := (2 ^ 70) }], .entryFetch (.std 0 0 0) [{ sqe with cdw10 := (2 ^ 70) }],
    .entryFetch (.std 0 0 0) [{ sqe with cdw11 := (2 ^ 70) }], .entryFetch (.std 0 0 0) [{ sqe with cdw12 := (2 ^ 70) }],
    .entryFetch (.std 0 0 0) [{ sqe with cdw13 := (2 ^ 70) }], .entryFetch (.std 0 0 0) [{ sqe with cdw14 := (2 ^ 70) }],
    .entryFetch (.std 0 0 0) [{ sqe with cdw15 := (2 ^ 70) }]] = true := by decide +kernel
theorem test_wf_refuses_tag : noneWf [
    .commandAdmission (.std 0 0 0) (2 ^ 70), .chainComplete (2 ^ 70), .overlapResolved (2 ^ 70), .stepComplete (2 ^ 70) .done,
    .completionPost (2 ^ 70), .deleteIoSq (2 ^ 70), .createIoSq (2 ^ 70), .deleteIoCq (2 ^ 70), .createIoCq (2 ^ 70),
    .getLogPage (2 ^ 70), .identify (2 ^ 70), .abort (2 ^ 70), .setFeatures (2 ^ 70), .setFeaturesPowerManagement (2 ^ 70),
    .setFeaturesHostMemoryBuffer (2 ^ 70), .setFeaturesTimestamp (2 ^ 70) 1, .setFeaturesFdp (2 ^ 70), .getFeatures (2 ^ 70),
    .asyncEventRequest (2 ^ 70), .namespaceCreate (2 ^ 70) nsData, .namespaceDelete (2 ^ 70), .namespaceAttach (2 ^ 70) [],
    .namespaceDetach (2 ^ 70) [], .firmwareImageDownload (2 ^ 70) image, .firmwareCommitReplace (2 ^ 70),
    .firmwareCommitActivateNext (2 ^ 70), .firmwareCommitActivateNow (2 ^ 70), .directiveSend (2 ^ 70), .directiveReceive (2 ^ 70),
    .formatNvm (2 ^ 70), .sanitizeBlockErase (2 ^ 70), .sanitizeCryptoErase (2 ^ 70), .sanitizeExitFailure (2 ^ 70),
    .sliceCreate (2 ^ 70) [], .sliceBind (2 ^ 70) [], .sliceUnbind (2 ^ 70), .sliceReset (2 ^ 70), .sliceDestroy (2 ^ 70),
    .dirtyLogControl (2 ^ 70) [], .dirtyLogFlush (2 ^ 70), .queueRestart (2 ^ 70), .dictionaryRead (2 ^ 70),
    .dictionaryWrite (2 ^ 70) [], .flush (2 ^ 70), .write (2 ^ 70), .read (2 ^ 70), .writeUncorrectable (2 ^ 70),
    .compare (2 ^ 70), .writeZeroes (2 ^ 70), .datasetManagement (2 ^ 70) [], .verify (2 ^ 70), .copy (2 ^ 70) [],
    .zoneAppend (2 ^ 70), .zoneClose (2 ^ 70), .zoneFinish (2 ^ 70), .zoneOpen (2 ^ 70), .zoneReset (2 ^ 70),
    .zoneOffline (2 ^ 70), .flushExplicitZrwaRange (2 ^ 70), .reportZones (2 ^ 70), .zoneTableDecision (2 ^ 70),
    .zoneResetSettled (2 ^ 70), .transformEncode (2 ^ 70) [], .transformDecode (2 ^ 70),
    .hardDecodeDone (2 ^ 70) 1 1 false false [], .softDecodeDone (2 ^ 70) 1 false [],
    .blockEncodeDone (2 ^ 70) 1 1 ⟨[], true, false⟩, .slotDecodeDone (2 ^ 70) 1,
    .ocxonCodeDone (2 ^ 70) 1 1 false ⟨[], true, false⟩] = true := by decide +kernel
theorem test_wf_refuses_namespace : noneWf [
    .mapFillComplete (2 ^ 70) 1 false, .mapFillComplete 0 1 false, .mapFillComplete 1 (2 ^ 70) false,
    .namespaceCreate 1 { nsData with dps := 256 }, .namespaceDeleteComplete (2 ^ 70), .namespaceDeleteComplete 0,
    .formatComplete (2 ^ 70), .formatComplete 0, .zoneFinishRecommended (2 ^ 70) 1, .zoneFinishRecommended 0 1,
    .zoneFinishedByController (2 ^ 70) 1, .zoneFinishedByController 0 1, .writebackProgramDone (2 ^ 70) 1 1 false,
    .writebackProgramDone 0 1 1 false, .writebackProgramDone 1 (2 ^ 70) 1 false,
    .namespaceCreate 1 { nsData with nsze := (2 ^ 70) }, .namespaceCreate 1 { nsData with ncap := (2 ^ 70) },
    .namespaceCreate 1 { nsData with flbas := 256 }, .namespaceCreate 1 { nsData with nmic := 256 },
    .namespaceCreate 1 { nsData with phndl := [65536] }] = true := by decide +kernel
theorem test_wf_refuses_buffer : noneWf [
    .bufferReturn (2 ^ 70) 1 1, .bufferReturn 1 (2 ^ 70) 1] = true := by decide +kernel
theorem test_wf_refuses_image : noneWf [
    .firmwareImageDownload 1 { image with slot := 8 }, .firmwareImageDownload 1 { image with imageSeq := (2 ^ 70) },
    .firmwareImageDownload 1 { image with svn := 256 }, .firmwareImageDownload 1 { image with revision := List.replicate 65 0 }] = true := by decide +kernel
theorem test_wf_refuses_slice : noneWf [
    .sliceActionApply (2 ^ 70) 1, .generationHoldRelease (2 ^ 70), .resetSequenceEnd (2 ^ 70), .sliceDestroyComplete (2 ^ 70),
    .dirtyLogPostTimer (2 ^ 70) 1, .dirtyLogPostTimer 1 (2 ^ 70), .dirtyLogPostDone (2 ^ 70) 1, .dirtyLogPostDone 1 (2 ^ 70),
    .sramScrubStep .tagStore 1 (2 ^ 70) .clean false] = true := by decide +kernel
theorem test_wf_refuses_channel : noneWf [
    .dieDescriptorArrival (2 ^ 70) 1 dieOp, .dieDescriptorArrival 1 (2 ^ 70) dieOp,
    .dieDescriptorArrival 1 1 { dieOp with cls := 4 }, .suspendMinRunReached (2 ^ 70) 1, .suspendMinRunReached 1 (2 ^ 70),
    .suspendLimitReached (2 ^ 70) 1, .suspendLimitReached 1 (2 ^ 70), .dieOperationComplete (2 ^ 70) 1 false,
    .dieOperationComplete 1 (2 ^ 70) false, .thermalPauseEnd (2 ^ 70) 1, .thermalPauseEnd 1 (2 ^ 70),
    .busTransferComplete (2 ^ 70), .eraseComplete 1 (2 ^ 70) false, .patrolVisit 1 (2 ^ 70) 1 false,
    .channelTrainingResult (2 ^ 70) false, .retrainHoursTimer (2 ^ 70), .retrain (2 ^ 70), .retrainStepDone (2 ^ 70) false false,
    .rbNHint (2 ^ 70), .lunBusyTimeout (2 ^ 70) 1, .lunBusyTimeout 1 (2 ^ 70), .lunResetCheck (2 ^ 70) 1 false,
    .lunResetCheck 1 (2 ^ 70) false, .syncResetTimeout (2 ^ 70), .sequencerParityError (2 ^ 70) false,
    .trefiBoundary (2 ^ 70) 1 false, .realtimeBurstStaged (2 ^ 70) 1 1, .zqCalibrationTimer (2 ^ 70) false,
    .dqsOscillatorTimer (2 ^ 70) 1 false, .dramTrainingResult (2 ^ 70) false false, .mergeHoldExpiry (2 ^ 70) 1 .clean false,
    .bringUpComplete { found with badTargets := [(32, 0)] }, .bringUpComplete { found with badTargets := [(0, 4)] },
    .dramParityError (2 ^ 70), .dieDescriptorArrival 0 0 { dieOp with plane := 4 }] = true := by decide +kernel
theorem test_wf_refuses_island : noneWf [
    .islandClockGateIdle (2 ^ 70), .islandPowerGateIdle (2 ^ 70), .islandWake (2 ^ 70) false false,
    .powerGateEntryComplete (2 ^ 70), .fabricLinkCrcFailure (2 ^ 70)] = true := by decide +kernel
theorem test_wf_refuses_engine : noneWf [
    .engineEvent (2 ^ 70), .engineEventTimeout (2 ^ 70), .engineFailed (2 ^ 70), .softDecoderSelfTest (2 ^ 70) false] = true := by decide +kernel
theorem test_wf_refuses_block : noneWf [
    .hardDecodeDone 1 (2 ^ 70) 1 false false [], .softDecodeDone 1 (2 ^ 70) false [],
    .blockEncodeDone 1 (2 ^ 70) 1 ⟨[], true, false⟩, .blockEncodeDone 1 1 (2 ^ 70) ⟨[], true, false⟩, .slotDecodeDone 1 (2 ^ 70),
    .ocxonCodeDone 1 (2 ^ 70) 1 false ⟨[], true, false⟩, .ocxonCodeDone 1 1 (2 ^ 70) false ⟨[], true, false⟩] = true := by decide +kernel
theorem test_wf_refuses_memory : noneWf [
    .trefiBoundary 1 (2 ^ 70) false, .dramReadComplete { place with channel := 4 } .clean false .other,
    .mergeHoldExpiry 1 (2 ^ 70) .clean false, .dramScrubStep { place with channel := 4 } .clean false .other false,
    .dramReadComplete { place with subch := 2 } .clean false .other,
    .dramReadComplete { place with rank := 2 } .clean false .other, .dramReadComplete { place with bg := 8 } .clean false .other,
    .dramReadComplete { place with bank := 4 } .clean false .other,
    .dramReadComplete { place with row := 0x40000 } .clean false .other,
    .dramReadComplete { place with column := 1024 } .clean false .other] = true := by decide +kernel
theorem test_wf_refuses_path : noneWf [
    .maintRequest (.mailbox 2) false, .writeProtect (.mailbox 2) false, .readEntry (.mailbox 2) frame,
    .writeEntry (.mailbox 2) frame, .readWholeRecord (.mailbox 2) frame, .writeWholeRecord (.mailbox 2) frame,
    .nextIndex (.mailbox 2) frame, .commitIndex (.mailbox 2) 1, .discardIndex (.mailbox 2) 1, .restoreIndex (.mailbox 2) 1,
    .ackSeq (.mailbox 2) 1, .timeNs (.mailbox 2) 1, .minSvn (.mailbox 2) 1, .setEndpointId (.vdm 2) 1,
    .getMessageTypeSupport (.vdm 2), .dictionaryFrameMessage (.vdm 2) none [], .readNvmeMiDataStructure (.vdm 2) 1,
    .subsystemHealthStatusPoll (.vdm 2), .controllerHealthStatusPoll (.vdm 2) 1, .configurationGet (.vdm 2) 1,
    .configurationSet (.vdm 2) 1 1, .nvmeMiReset (.vdm 2), .nvmeMiAdminCommand (.vdm 2) none 1 sqe, .getVersion (.vdm 2),
    .getCapabilities (.vdm 2), .negotiateAlgorithms (.vdm 2), .getDigests (.vdm 2), .getCertificate (.vdm 2) 1,
    .challenge (.vdm 2), .getMeasurements (.vdm 2) 1, .keyExchange (.vdm 2) 1, .finish (.vdm 2) 1 .manager, .heartbeat (.vdm 2) 1,
    .keyUpdate (.vdm 2) 1, .endSession (.vdm 2) 1, .readEntry (.admin 262144) frame, .readEntry (.mctp (.vdm 2) none) frame] = true := by decide +kernel
theorem test_wf_refuses_samples : noneWf [
    .thermalSampleRound [none]] = true := by decide +kernel
theorem test_wf_refuses_frame : noneWf [
    .readEntry (.mailbox 0) { frame with op := 256 }, .writeEntry (.mailbox 0) { frame with op := 256 },
    .readWholeRecord (.mailbox 0) { frame with op := 256 }, .writeWholeRecord (.mailbox 0) { frame with op := 256 },
    .nextIndex (.mailbox 0) { frame with op := 256 }, .spdmRelay 1 { frame with op := 256 },
    .readEntry (.mailbox 0) { frame with reqId := 0x100000000 }, .readEntry (.mailbox 0) { frame with index := 65536 },
    .readEntry (.mailbox 0) { frame with sub := 256 }, .readEntry (.mailbox 0) { frame with ty := 256 },
    .readEntry (.mailbox 0) { frame with offset := 0x100000000 }, .readEntry (.mailbox 0) { frame with length := 65536 },
    .readEntry (.mailbox 0) { frame with value := List.replicate 4097 0 }] = true := by decide +kernel
theorem test_wf_refuses_index : noneWf [
    .commitIndex (.mailbox 0) (2 ^ 70), .discardIndex (.mailbox 0) (2 ^ 70), .restoreIndex (.mailbox 0) (2 ^ 70),
    .commitBoundary (2 ^ 70), .commitResponseTimeout (2 ^ 70), .shadowTimeout (2 ^ 70), .getMeasurements .twoWire (2 ^ 70)] = true := by decide +kernel
theorem test_wf_refuses_management : noneWf [
    .setDynamicAddress (2 ^ 70), .mctpPacket { packet with source := 256 }, .setEndpointId .twoWire (2 ^ 70),
    .getCertificate .twoWire (2 ^ 70), .bdpDatagram 1 (2 ^ 70) none [], .telemetryPeriod (2 ^ 70), .telemetryEventPush (2 ^ 70),
    .mctpPacket { packet with path := .vdm 2 }, .mctpPacket { packet with msgTag := 16 },
    .mctpPacket { packet with msgType := 256 }] = true := by decide +kernel

end Sys2Proof.Tests

/-! ### Small states -/

namespace Sys2Proof.Tests

/-- Service mode with one port up, its physical function present and able to master the bus. -/
def live : State :=
  { State.reset with
    mode := { base := .service, mapReady := true }
    aon := { auxOk := true, mainPg := true, crystal25 := true }
    ports := [(0, { perst := false, linkUp := true, rate := 5, width := 4 })]
    funcs := [(0, { here := true, bme := true, msixEn := true })] }
/-- An entry that reads one block of namespace 1. -/
def rd : Sqe := { opcode := 0x02, cid := 5, fuse := 0, psdt := 0, nsid := 1, cdw2 := 0, cdw3 := 0, mptr := 0, prp1 := 0x10000, prp2 := 0, cdw10 := 0, cdw11 := 0, cdw12 := 0, cdw13 := 0, cdw14 := 0, cdw15 := 0, rsvd := false }

/-- The next state of an answer. -/
def nxt (o : Host.Outcome State Fault Refusal) : State := match o with
  | .next t => t
  | _ => State.reset
/-- A state with dictionary values in force. -/
def conf (l : List ((Nat × Nat) × Nat)) (s : State) : State :=
  { s with dict := { s.dict with inForce := l.map (fun x => (dkey x.1.1 x.1.2, some (.num x.2))) } }
/-- An entry with an opcode and the dwords 10 and 11. -/
def ent (op dw10 dw11 : Nat) : Sqe := { rd with opcode := op, nsid := 0, cdw10 := dw10, cdw11 := dw11 }
/-- An admin command of the standard admin queue of port 0, in BUILD at tag 7. -/
def admCmd (e : Sqe) (s : State) : State :=
  { s with sqs := Tbl.set {} s.sqs (qcode (.std 0 0 0)) { live := true, size := 8 }
           cqs := Tbl.set {} s.cqs (qcode (.std 0 0 0)) { live := true, size := 8 }
           tags := (7, { st := .build, q := .std 0 0 0, admin := true, sqe := e, manager := true, fenced := false, slice := 4096 }) :: s.tags }
/-- A status that waits to be posted at tag 7. -/
def posted (t : State) : Option Status := if (t.tag 7).st = .post then some (t.tag 7).status else none
/-- Slice 0 owns the standard queues of port 0's physical function, up to four pairs. -/
def stdq : State := conf [((0x3000, 7), 1), ((0x3000, 0x0D), 4)] { live with slices := [(0, { st := .bound })] }
/-- An I/O command of slice 0 in BUILD at tag 7, on a conventional namespace of 64 blocks. -/
def ioCmd (e : Sqe) : State :=
  { live with slices := [(0, { st := .bound, fenceOpen := true })]
              sqs := [(qcode (.std 0 0 1), { live := true, size := 8, cqid := 1 })]
              cqs := [(qcode (.std 0 0 1), { live := true, size := 8 })]
              nss := [(1, { st := 1, nsze := 64, attached := [0] })]
              tags := [(7, { st := .build, q := .std 0 0 1, sqe := e, slice := 0, nlb := e.nlb, slba := e.slba })] }
def io (op dw10 dw12 : Nat) : Sqe := { ent op dw10 0 with nsid := 1, cdw12 := dw12 }
/-- A late state. -/
def late : State := { live with aon := { live.aon with now := 10 ^ 15 } }
/-- A state with a media profile: one LUN position of 512 blocks of 64 wordlines on 4 planes of 16 KiB, three bits a cell. -/
def flash (l : List ((Nat × Nat) × Nat)) (s : State) : State :=
  let t := conf (l ++ [((0x6400, 2), 1), ((0x6400, 3), 4), ((0x6400, 4), 16), ((0x6400, 5), 64), ((0x6400, 6), 512), ((0x6400, 7), 1),
    ((0x6400, 8), 1)]) s
  { t with dict := { t.dict with inForce := t.dict.inForce ++ [(dkey 0x6400 1, some (.bytes [1#8]))] } }

end Sys2Proof.Tests

open Sys2Proof.Tests

def hostQ : State :=
  { live with sqs := [(qcode (.std 0 0 1), { live := true, size := 8, cqid := 1 }), (qcode (.page 0 1), { live := true, size := 8, cqid := 1 })]
              cqs := [(qcode (.std 0 0 1), { live := true, size := 8, tail := 2 })] }

theorem witness_HostAccess_sq : hostQ.lands ⟨0, 0, 0, 0x1000 + 8 * 1, 4, true, 3⟩ = true ∧ stdDoorbell 0 (0x1000 + 8 * 1) = true ∧
    (hostQ.sq (.std 0 0 1)).live = true ∧ (hostQ.sq (.std 0 0 1)).deleting = none ∧ (hostQ.sq (.std 0 0 1)).legalTail (3 % 65536) = true := by
  decide

theorem witness_HostAccess_page : hostQ.lands ⟨0, 0, 2, 0x1000 * 0 + 0x800 + 8 * 1, 4, true, 7⟩ = true ∧ 1 < 256 ∧
    hostQ.pageSlice 0 0 0 = some 0 ∧ (hostQ.slice 0).st ≠ .resetting ∧ 7 / 65536 = (hostQ.slice 0).gen ∧ 7 < 2 ^ 32 ∧
    (hostQ.sq (.page 0 1)).live = true ∧ (hostQ.sq (.page 0 1)).deleting = none ∧ (hostQ.sq (.page 0 1)).legalTail (7 % 65536) = true := by
  decide

theorem witness_HostAccess_cq : hostQ.lands ⟨0, 0, 0, 0x1000 + 8 * 1 + 4, 4, true, 2⟩ = true ∧
    stdDoorbell 0 (0x1000 + 8 * 1 + 4) = true ∧ (hostQ.cq (.std 0 0 1)).live = true ∧
    (hostQ.cq (.std 0 0 1)).legalHead (2 % 65536) = true ∧ (hostQ.cq (.std 0 0 1)).held = [] := by
  decide

theorem witness_HostAccess_reg : live.lands ⟨0, 0, 4, 0x70010, 4, true, 0x30003⟩ = true ∧ live.mode.base ≠ .flush := by
  decide

theorem witness_HostAccess_read : live.lands ⟨0, 0, 0, cmbWindow 0, 8, true, 0⟩ = true ∧ inCmbWindow 0 (cmbWindow 0) = true := by
  decide

theorem witness_HostAccess_cmb : live.reaches 0 0 = true ∧ 5 + 1 ≤ barSize 0 0 - cmbWindow 0 ∧ 5 < live.cmbShare 0 0 := by
  decide

theorem witness_HostAccess_poison : live.reaches 0 0 = true ∧ 0 + [some 1#8].length ≤ barSize 0 0 - cmbWindow 0 := by
  decide

def slow : State := { live with ports := [(0, { perst := false, linkUp := true, rate := 1, width := 4 })] }
def ready : State := { live with ports := [(0, { perst := false, linkUp := true, rate := 5, width := 16, configReady := true })] }
def down : State := { live with ports := [(0, { perst := false })] }

theorem witness_Ports_config : live.awake = true ∧ live.portExists 0 = true ∧ (live.port 0).linkUp = true ∧
    (CfgReg.deviceId = .vfEnable → (none : Option Nat) ≠ some 0) ∧ (live.port 0).configReady = false := by decide

theorem witness_Ports_configRead : ready.awake = true ∧ ready.portExists 0 = true ∧ (ready.port 0).linkUp = true ∧
    (ready.port 0).configReady = true ∧ (ready.func 0 0).here = true := by decide

theorem witness_Ports_holds : (live.func 0 0).here = true ∧ (live.func 0 0).bme ≠ false ∧ (live.func 0 0).d3hot ≠ true := by decide

theorem witness_Ports_linkUp : down.mayTrain 0 = true ∧ (down.port 0).linkUp = false := by decide

theorem witness_Ports_retry : slow.mayTrain 0 = true ∧ (slow.port 0).linkUp = true ∧ (slow.port 0).rate < 3 := by decide

theorem witness_Ports_l0p : ready.cfgB 0x2000 3 = true ∧ (ready.port 0).linkUp = true ∧ 3 ≤ (ready.port 0).rate ∧
    [2, 4, 8, 16].contains 8 = true ∧ 8 ≤ (ready.port 0).width := by decide

def noCrisp : State := { ready with slices := [] }

theorem witness_Ports_l1 : (noCrisp.port 0).linkUp = true ∧ noCrisp.crispOn 0 = false ∧ noCrisp.cfg 0x2000 4 ≠ 0 ∧ (noCrisp.port 0).l1 = false := by
  decide

theorem witness_Ports_dma :
    (Tbl.get {} ({ live with dmas := [(3, { use := some (.entries (.std 0 0 1)) })] } : State).dmas 3).use.isSome = true := by decide

theorem witness_Ports_ats : (live.func 0 0).here = true ∧ (live.port 0).invalidations.length < 32 := by decide

theorem witness_Ports_inval :
    ((({ live with ports := [(0, { invalidations := [⟨2, []⟩] })] } : State).port 0).invalidations.any
      (fun v => v.itag == 2 && v.waits.isEmpty)) = true := by decide

def vf : State := { live with funcs := [(0, { here := true, bme := true, ccEn := true }), (1, { here := true })] }

theorem witness_Resets_port : (0 : Nat) < 2 ∧ live.awake = true ∧ live.portExists 0 = true ∧ (live.port 0).linkUp = true ∧
    (live.slice 0).st = .bound ∧ live.slPort 0 = 0 := by decide

theorem witness_Resets_nssr : live.reaches 0 0 = true ∧ live.dual = false := by decide

theorem witness_Resets_flr : vf.awake = true ∧ (vf.func 0 0).here = true ∧ (1 : Nat) ≠ 0 ∧ (vf.func 0 1).here = true ∧ vf.vfOn 0 = true ∧
    (1 ∈ vf.funcsOf 0) := by decide

theorem witness_Resets_ctrl : vf.reaches 0 0 = true ∧ (vf.func 0 0).ccEn = true ∧ (vf.func 0 0).shst = 0 := by decide

theorem witness_Resets_enable : live.reaches 0 0 = true ∧ (live.func 0 0).ccEn = false ∧ live.badBases 0 0 = false ∧ live.mode.fatal = 0 := by
  decide

theorem witness_Resets_enableBad :
    ({ live with mode := { base := .service, fatal := 2 } } : State).reaches 0 0 = true ∧ (live.func 0 0).ccEn = false ∧
      ({ live with mode := { base := .service, fatal := 2 } } : State).mode.fatal ≠ 0 := by decide

theorem witness_Resets_perst : State.reset.portExists 0 = true ∧ (State.reset.port 0).perst = true := by decide

def cmbQ : State :=
  { live with sqs := [(qcode (.std 0 0 0), { live := true, size := 8, inCmb := true, tail := 2 }), (qcode (.std 0 0 1), { live := true, size := 8, cqid := 1, tail := 2 })]
              cqs := [(qcode (.std 0 0 0), { live := true, size := 8 }), (qcode (.std 0 0 1), { live := true, size := 8 })]
              dmas := [(3, { len := 64, use := some (.entries (.std 0 0 1)) })] }

theorem witness_CommandFlow_fetch : cmbQ.awake = true ∧ (cmbQ.sq (.std 0 0 0)).inCmb = true ∧ 1 ≤ cmbQ.fetchCount (.std 0 0 0) ∧
    cmbQ.held (cmbQ.qfunc (.std 0 0 0)).1 (cmbQ.qfunc (.std 0 0 0)).2 = false ∧
    cmbQ.parseStatus (.std 0 0 0) (cmbQ.lineMarked (.std 0 0 0) (cmbQ.sq (.std 0 0 0)).head) { rd with opcode := 6, nsid := 0 } = none ∧
    cmbQ.cidTaken (.std 0 0 0) 5 = false ∧ cmbQ.mode.base ≠ .flush ∧ cmbQ.mode.maintStopped = false := by decide

theorem witness_CommandFlow_fetchHost : (cmbQ.sq (.std 0 0 1)).inCmb = false ∧ (cmbQ.sq (.std 0 0 1)).live = true ∧
    cmbQ.dmas.find? (fun d => d.2.use == some (.entries (.std 0 0 1))) = some (3, { len := 64, use := some (.entries (.std 0 0 1)) }) ∧
    cmbQ.parseStatus (.std 0 0 1) false rd = none ∧ cmbQ.cidTaken (.std 0 0 1) 5 = false := by decide

theorem test_entryFetch : ((nxt (exec (.entryFetch (.std 0 0 1) [rd]) cmbQ)).sq (.std 0 0 1)).window.map (fun w => w.e) = [rd] ∧
    ((nxt (exec (.entryFetch (.std 0 0 1) [rd]) cmbQ)).sq (.std 0 0 1)).head = 1 := by decide

def adm0 : State :=
  { live with sqs := [(qcode (.std 0 0 0), { live := true, size := 8, head := 1, tail := 1, window := [⟨{ rd with opcode := 6, nsid := 0 }, 0, false⟩] }),
                      (qcode (.std 0 0 1), { live := true, size := 8, cqid := 1, head := 1, tail := 1, window := [⟨rd, 0, false⟩] })]
              sched := { credit := [(0, 256)] }
              slices := [(0, { st := .bound })] }
def adm1 : State := { adm0 with sqs := adm0.sqs.drop 1 }

theorem witness_CommandFlow_admission : (adm0.sq (.std 0 0 0)).window = ⟨{ rd with opcode := 6, nsid := 0 }, 0, false⟩ :: [] ∧ adm0.admits = true ∧
    QKey.isAdmin (.std 0 0 0) = true ∧ (adm0.admissionBoundary 0).tagWaits ((adm0.admissionBoundary 0).owner (.std 0 0 0)) 7 = false ∧
    (adm0.admissionBoundary 0).adminLeft ((adm0.admissionBoundary 0).owner (.std 0 0 0)) = true := by decide

theorem test_commandAdmission : ((nxt (exec (.commandAdmission (.std 0 0 0) 7) adm0)).tag 7).st = .build := by decide

theorem witness_CommandFlow_admissionIo :
    let s0 := adm1.admissionBoundary 1
    (adm1.sq (.std 0 0 1)).window = ⟨rd, 0, false⟩ :: [] ∧ adm1.admits = true ∧ QKey.isAdmin (.std 0 0 1) = false ∧
    s0.tagWaits (s0.owner (.std 0 0 1)) 7 = false ∧ s0.adminFirst (s0.owner (.std 0 0 1)) = false ∧
    s0.turnOf (s0.owner (.std 0 0 1)) = some (qcode (.std 0 0 1)) ∧ s0.mode.maintStopped = false ∧ s0.mode.psInForce < 3 ∧
    s0.tracked (s0.homeOf (.std 0 0 1)) < Config.trackerRanges ∧ (s0.admitStatus (.std 0 0 1) (s0.owner (.std 0 0 1)) rd).isSome = true ∧
    s0.creditCase (s0.owner (.std 0 0 1)) = some 1 := by decide

theorem test_commandAdmission_io : ((nxt (exec (.commandAdmission (.std 0 0 1) 7) adm1)).tag 7).status = ⟨0, 0x0B⟩ := by decide

/-- A tag that runs a read of one block: its descriptors of segment 0. -/
def rdTag : Tag :=
  { st := .run, q := .std 0 0 1, sqe := rd, nlb := 1, built := true, segs := 0, inFlight := true
    plan := [⟨0, .buf⟩, ⟨0, .die⟩, ⟨0, .xform⟩, ⟨0, .hostwr⟩, ⟨0, .cmpl⟩] }
def runsTag : State := { cmbQ with tags := [(7, rdTag)] }
def waits : State := { cmbQ with tags := [(7, { rdTag with st := .wait, mapTaken := true })] }

theorem witness_CommandFlow_chain : runsTag.chainReady 7 = true ∧ (runsTag.tag 7).st ≠ .build := by decide
theorem test_chainComplete : ((nxt (exec (.chainComplete 7) runsTag)).tag 7).segs = 1 := by decide

theorem witness_CommandFlow_overlap : (waits.tag 7).st = .wait ∧ waits.overlapped 7 = false := by decide
theorem test_overlapResolved : ((nxt (exec (.overlapResolved 7) waits)).tag 7).st = .run := by decide

theorem witness_CommandFlow_step : (runsTag.tag 7).nextStep = some ⟨0, .buf⟩ ∧ (runsTag.tag 7).inFlight = true ∧ (runsTag.tag 7).st = .run ∧
    StepKind.buf ≠ .mapupd ∧ StepKind.buf ≠ .xform ∧ runsTag.stepDone 7 ⟨0, .buf⟩ = true := by decide
theorem test_stepComplete : ((nxt (exec (.stepComplete 7 .done) runsTag)).tag 7).stepsDone = 1 ∧
    ((nxt (exec (.stepComplete 7 (.error 2 0x81)) runsTag)).tag 7).status = ⟨2, 0x81⟩ := by decide

def posts : State := { cmbQ with tags := [(7, { rdTag with st := .post, inFlight := false })] }
theorem witness_CommandFlow_post : (posts.tag 7).mi = none ∧ posts.postReady 7 = true ∧ posts.portPosts 7 = true := by decide
theorem test_completionPost : (nxt (exec (.completionPost 7) posts)).tag 7 = {} := by decide

def bufs : State := { live with chip := { inUse := [(bufKey 0 2, 3)] } }
theorem witness_CommandFlow_buffers : bufs.awake = true ∧ 0 < 2 ∧ (bufs.boundary 0x7900).chip.waitq = [] ∧
    2 ≤ Tbl.get 0 (bufs.boundary 0x7900).chip.inUse (bufKey 0 2) ∧ Tbl.get 0 (bufs.boundary 0x7900).chip.inUse (bufKey 0 2) < 4 := by decide
theorem test_bufferReturn : Tbl.get 0 (nxt (exec (.bufferReturn 0 2 2) bufs)).chip.inUse (bufKey 0 2) = 1 ∧
    (nxt (exec (.bufferReturn 0 2 4) bufs)).chip.badReturns = 1 := by decide

def frozen : State :=
  { live with sqs := [(qcode (.std 0 0 0), { live := true, size := 8 }), (qcode (.std 0 0 1), { live := true, size := 8, cqid := 1, frozen := true })]
              tags := [(7, { st := .build, q := .std 0 0 0, admin := true, sqe := { rd with opcode := 0xC6, cdw10 := 1 } })] }
theorem witness_CommandFlow_restart : frozen.adm 7 0xC6 = true ∧ (frozen.tag 7).sqe.cdw10.testBit 16 = false ∧
    (frozen.sq ((frozen.tag 7).q.withQid ((frozen.tag 7).sqe.cdw10 % 65536))).live = true ∧
    (frozen.sq ((frozen.tag 7).q.withQid ((frozen.tag 7).sqe.cdw10 % 65536))).frozen = true := by decide
theorem test_queueRestart : ((nxt (exec (.queueRestart 7) frozen)).sq (.std 0 0 1)).frozen = false ∧
    ((nxt (exec (.queueRestart 7) frozen)).tag 7).status = ⟨0, 0⟩ := by decide

def gathered : State := { live with cqs := [(qcode (.std 0 0 1), { live := true, size := 8, coalesced := 2 })] }
theorem witness_CommandFlow_coalescing : 0 < (gathered.cq (.std 0 0 1)).coalesced := by decide
theorem test_interruptCoalescingTimer : ((nxt (exec (.interruptCoalescingTimer (.std 0 0 1)) gathered)).cq (.std 0 0 1)).coalesced = 0 := by decide

def partData : State := { live with
  tags := [(7, { rdTag with sqe := { rd with opcode := 1 } })]
  dmas := [(2, { len := 2, use := some (.blockData 7 0 0) }), (4, { use := some (.stale (some 0)) })] }
theorem witness_CommandFlow_dma : (Tbl.get {} partData.dmas 2).use = some (.blockData 7 0 0) ∧ [1#8, 2#8].length = (Tbl.get {} partData.dmas 2).len ∧
    (partData.tag 7).st.uncommitted = true ∧ (partData.blk 7 0).arrived = false ∧
    (((partData.blk 7 0).parts ++ [((0 : Nat), ([1#8, 2#8] : List Byte))]).map (fun p => p.2.length)).sum ≠ (partData.tag 7).blkBytes 0 ∧
    (Tbl.get {} partData.dmas 4).use = some (.stale (some 0)) := by decide
theorem test_dmaReadCompletion : ((nxt (exec (.dmaReadCompletion 2 [1#8, 2#8]) partData)).blk 7 0).parts = [(0, [1#8, 2#8])] ∧
    ((nxt (exec (.dmaReadCompletion 4 []) partData)).slice 0).lateDiscards = 1 := by decide

def fills : State := { live with map := { fills := [⟨1, 0, 0, true, false, []⟩] } }
theorem witness_CommandFlow_fill : fills.fillOf 1 0 = some ⟨1, 0, 0, true, false, []⟩ := by decide
theorem test_mapFillComplete : (nxt (exec (.mapFillComplete 1 0 false) fills)).map.flashFills = 1 := by decide

def jrec1 : JRec := ⟨5, 1, 1, 0, 7, 0, 0⟩
def tailed : State := { live with aon := { live.aon with now := 200000 }
                                  jrn := { tail := [jrec1], next := 6 } }
theorem witness_Journal_timer : tailed.jrn.tail.isEmpty = false ∧ tailed.elapsed tailed.jrn.tailSince (200 * usec) = true := by decide
theorem test_journalPageTimer : (nxt (exec .journalPageTimer tailed)).jrn.flushing = [[jrec1]] := by decide

def flushing : State := { live with jrn := { flushing := [[jrec1]], next := 6 } }
theorem witness_Journal_durable : flushing.jrn.flushing = [jrec1] :: [] := by decide
theorem test_journalPageDurable : (nxt (exec .journalPageDurable flushing)).jrn.durable = 5 := by decide

def ckpts : State := { live with aon := { live.aon with now := 10 ^ 15 }, jrn := { next := 6, changed := true } }
theorem witness_Journal_interval : (ckpts.boundary 0x6001).inService = true ∧ ckpts.jrn.changed = true ∧ ckpts.jrn.ckptRunning = false ∧
    (ckpts.boundary 0x6001).elapsed ckpts.jrn.lastCkptAt ((ckpts.boundary 0x6001).cfg 0x6001 5 * sec) = true := by decide
theorem test_checkpointInterval : (nxt (exec .checkpointInterval ckpts)).jrn.next = 8 := by decide

def ckptRuns : State := { live with jrn := { next := 8, ckptRunning := true, ckptBegin := 6, ckptEnd := 7, ckptStart := 6, durable := 7
                                             log := [jrec1] } }
theorem witness_Journal_end : ckptRuns.jrn.ckptRunning = true ∧ ckptRuns.jrn.ckptEnd ≤ ckptRuns.jrn.durable := by decide
theorem test_checkpointEndDurable : (nxt (exec .checkpointEndDurable ckptRuns)).jrn.replayStart = 6 ∧
    (nxt (exec .checkpointEndDurable ckptRuns)).jrn.log = [] := by decide

def wbk : State := { live with map := { pages := [(pkey 1 0, { writingBack := true, inDram := true, null := false, copyRec := 3 })] } }
theorem witness_Journal_writeback : (wbk.page 1 0).writingBack = true := by decide
theorem test_writebackProgramDone : ((nxt (exec (.writebackProgramDone 1 0 9 true) wbk)).page 1 0).home = some 9 ∧
    ((nxt (exec (.writebackProgramDone 1 0 9 false) wbk)).page 1 0).recJseq = 3 := by decide

def cqMade : State := { stdq with cqs := [(qcode (.std 0 0 1), { live := true, size := 4 })] }
def sqMade : State := { cqMade with sqs := [(qcode (.std 0 0 1), { live := true, size := 4, cqid := 1 })] }
def crCq : State := admCmd (ent 0x05 0x30001 1) stdq
def crSq : State := admCmd (ent 0x01 0x30001 0x10001) cqMade
def dlCq : State := admCmd (ent 0x04 1 0) cqMade
def dlCqUsed : State := admCmd (ent 0x04 1 0) sqMade
def dlSq : State := admCmd (ent 0x00 1 0) sqMade

theorem witness_AdminQueues_createCq : crCq.adm 7 0x05 = true ∧ (crCq.tag 7).q.withQid ((crCq.tag 7).sqe.cdw10 % 65536) = .std 0 0 1 ∧
    crCq.noStdq (.std 0 0 1) = false ∧ crCq.qidBad (.std 0 0 1) crCq.liveCqs = false ∧ (crCq.cq (.std 0 0 1)).live = false ∧
    (ent 0x05 0x30001 1).cdw10 / 65536 ≠ 0 ∧ (ent 0x05 0x30001 1).cdw11.testBit 0 = true ∧
    crCq.isCmb (crCq.qfunc (.std 0 0 1)).1 (crCq.qfunc (.std 0 0 1)).2 0x10000 = false ∧ 0x10000 % 4096 = 0 := by decide
theorem witness_AdminQueues_createCqBad : (admCmd (ent 0x05 0x30000 1) stdq).qidBad (.std 0 0 0) [] = true := by decide
theorem test_createIoCq : posted (nxt (exec (.createIoCq 7) crCq)) = some ⟨0, 0⟩ ∧
    ((nxt (exec (.createIoCq 7) crCq)).cq (.std 0 0 1)).size = 4 := by decide

theorem witness_AdminQueues_createSq : crSq.adm 7 0x01 = true ∧ crSq.noStdq (.std 0 0 1) = false ∧
    crSq.qidBad (.std 0 0 1) crSq.liveSqs = false ∧ (crSq.sq (.std 0 0 1)).live = false ∧ (crSq.cq (.std 0 0 1)).live = true ∧
    crSq.isCmb (crSq.qfunc (.std 0 0 1)).1 (crSq.qfunc (.std 0 0 1)).2 0x10000 = false ∧
    ((admCmd (ent 0x01 0x30001 0x20001) cqMade).cq (.std 0 0 2)).live = false := by decide
theorem test_createIoSq : posted (nxt (exec (.createIoSq 7) crSq)) = some ⟨0, 0⟩ ∧
    ((nxt (exec (.createIoSq 7) crSq)).sq (.std 0 0 1)).cqid = 1 := by decide

theorem witness_AdminQueues_deleteCq : dlCq.adm 7 0x04 = true ∧ QKey.isAdmin (.std 0 0 1) = false ∧ (dlCq.cq (.std 0 0 1)).live = true ∧
    (∀ x ∈ dlCq.sqs, x.2.live = true → (codeQ x.1).withQid x.2.cqid ≠ .std 0 0 1) ∧
    (∃ x ∈ dlCqUsed.sqs, x.2.live = true ∧ (codeQ x.1).withQid x.2.cqid = .std 0 0 1) := by decide
theorem test_deleteIoCq : posted (nxt (exec (.deleteIoCq 7) dlCq)) = some ⟨0, 0⟩ ∧
    posted (nxt (exec (.deleteIoCq 7) dlCqUsed)) = some ⟨1, 0x0C⟩ := by decide

theorem witness_AdminQueues_deleteSq : dlSq.adm 7 0x00 = true ∧ (dlSq.sq (.std 0 0 1)).live = true ∧ (dlSq.sq (.std 0 0 1)).deleting = none := by
  decide
theorem test_deleteIoSq : posted (nxt (exec (.deleteIoSq 7) dlSq)) = some ⟨0, 0⟩ ∧
    (nxt (exec (.deleteIoSq 7) dlSq)).sq (.std 0 0 1) = {} := by decide

def aborts : State := admCmd (ent 0x08 0x50001 0) sqMade
def abortsWin : State := { aborts with sqs := Tbl.set {} aborts.sqs (qcode (.std 0 0 1)) { live := true, size := 4, cqid := 1, window := [⟨rd, 0, true⟩] } }
def abortTag : Tag := { st := .run, q := .std 0 0 1, sqe := rd, nlb := 1, slice := 0 }
def abortsRun : State := { aborts with tags := aborts.tags ++ [(9, abortTag)] }
theorem witness_AdminQueues_abort : aborts.adm 7 0x08 = true ∧ aborts.outstanding (aborts.tag 7).q 0x08 ≤ 64 ∧
    (aborts.sq (.std 0 0 1)).window.find? (fun w => w.e.cid == (aborts.tag 7).sqe.cdw10 / 65536) = none ∧
    aborts.tags.find? (fun y => y.2.st.uncommitted && !y.2.committed && y.2.q == .std 0 0 1 && y.2.sqe.cid == 5) = none ∧
    (abortsWin.sq (.std 0 0 1)).window.find? (fun w => w.e.cid == 5) = some ⟨rd, 0, true⟩ ∧
    abortsRun.tags.find? (fun y => y.2.st.uncommitted && !y.2.committed && y.2.q == .std 0 0 1 && y.2.sqe.cid == 5) = some (9, abortTag) ∧
    abortsRun.tag 9 = abortTag := by decide
theorem test_abort : ((nxt (exec (.abort 7) aborts)).tag 7).dw0 = 1 ∧ ((nxt (exec (.abort 7) abortsWin)).sq (.std 0 0 1)).window = [] ∧
    ((nxt (exec (.abort 7) abortsRun)).tag 9).status = ⟨0, 7⟩ := by decide

def aer : State := admCmd (ent 0x0C 0 0) live
def aerEvent : State := { aer with ctrls := [(0, { events := [⟨1, 2, 3, none⟩] })] }
def aerFull : State := { aer with tags := aer.tags ++ (List.range 16).map (fun i => (20 + i, aer.tag 7)) }
theorem witness_AdminQueues_aer : aer.adm 7 0x0C = true ∧ aer.outstanding (aer.tag 7).q 0x0C ≤ 16 ∧
    (aer.ctrl (aer.owner (aer.tag 7).q)).events = [] ∧ (aerEvent.ctrl (aerEvent.owner (aer.tag 7).q)).events = [⟨1, 2, 3, none⟩] ∧
    16 < aerFull.outstanding (aerFull.tag 7).q 0x0C := by decide
theorem test_asyncEventRequest : ((nxt (exec (.asyncEventRequest 7) aerEvent)).tag 7).dw0 = 0x30201 ∧
    posted (nxt (exec (.asyncEventRequest 7) aerFull)) = some ⟨1, 5⟩ := by decide

def fArb : State := admCmd (ent 0x09 0x01 0x07) live
def fQueues : State := admCmd (ent 0x09 0x07 0x90003) stdq
def fNone : State := admCmd (ent 0x09 0x03 0) live
theorem witness_AdminFeatures_set : fArb.adm 7 0x09 = true ∧ (ent 0x09 0x01 0x07).cdw10 % 256 = 1 ∧ featureIds.contains 1 = true ∧
    [0x02, 0x05, 0x07, 0x0D, 0x0E, 0x1D, 0x1E].contains 1 = false ∧ Sqe.saves (ent 0x09 0x01 0x07) = false ∧
    (ent 0x09 0x07 0x90003).cdw11 % 65536 ≠ 65535 ∧ (ent 0x09 0x07 0x90003).cdw11 / 65536 ≠ 65535 ∧
    featureIds.contains ((fNone.tag 7).sqe.cdw10 % 256) = false := by decide
theorem test_setFeatures : ((nxt (exec (.setFeatures 7) fQueues)).tag 7).dw0 = 0x30003 ∧
    posted (nxt (exec (.setFeatures 7) fNone)) = some ⟨0, 2⟩ := by decide

def fPower : State := admCmd (ent 0x09 0x02 3) live
theorem witness_AdminFeatures_power : fPower.adm 7 0x09 = true ∧ (ent 0x09 0x02 3).cdw11 % 32 = 3 ∧ 3 ≤ 4 ∧
    fPower.owner (fPower.tag 7).q = fPower.owner (.std 0 0 0) ∧ 4 < (ent 0x09 0x02 5).cdw11 % 32 := by decide
theorem test_setFeaturesPowerManagement : ((nxt (exec (.setFeaturesPowerManagement 7) fPower)).tag 7).st = .run ∧
    posted (nxt (exec (.setFeaturesPowerManagement 7) (admCmd (ent 0x09 0x02 5) live))) = some ⟨0, 2⟩ := by decide

def fHmb : State := admCmd { ent 0x09 0x0D 1 with cdw12 := 16, cdw15 := 1 } live
def fHmbOff : State := { admCmd (ent 0x09 0x0D 0) live with map := { hmb0 := 16 } }
theorem witness_AdminFeatures_hmb : fHmb.adm 7 0x09 = true ∧ (fHmb.tag 7).manager = true ∧ (fHmb.qfunc (fHmb.tag 7).q).1 = 0 ∧
    fHmb.map.hmb0 = 0 ∧ fHmbOff.map.fills.any (fun f => f.fromHmb) = false := by decide
theorem test_setFeaturesHostMemoryBuffer : (nxt (exec (.setFeaturesHostMemoryBuffer 7) fHmb)).map.hmb0 = 16 ∧
    (nxt (exec (.setFeaturesHostMemoryBuffer 7) fHmbOff)).map.hmb0 = 0 := by decide

def fTime : State := admCmd (ent 0x09 0x0E 0) live
theorem witness_AdminFeatures_time : fTime.adm 7 0x09 = true ∧
    fTime.dptrStatus (fTime.qfunc (fTime.tag 7).q).1 (fTime.qfunc (fTime.tag 7).q).2 8 (fTime.tag 7).sqe = none := by decide
theorem test_setFeaturesTimestamp : (nxt (exec (.setFeaturesTimestamp 7 5) fTime)).aon.tsBase = 5000000 := by decide

def fFdp : State := admCmd { ent 0x09 0x1D 1 with cdw12 := 0x201 } live
def fFdpUsed : State := { fFdp with nss := [(1, { st := 1 })] }
theorem witness_AdminFeatures_fdp : fFdp.adm 7 0x09 = true ∧ fFdp.nsList = [] ∧ fFdpUsed.nsList ≠ [] ∧ fFdpUsed.pool.fdpEnabled = false ∧
    (fFdp.tag 7).sqe.cdw12.testBit 0 = true ∧ (fFdp.tag 7).sqe.cdw12 / 256 % 256 ≤ 5 := by decide
theorem test_setFeaturesFdp : (nxt (exec (.setFeaturesFdp 7) fFdp)).pool.fdpConfig = 2 ∧
    posted (nxt (exec (.setFeaturesFdp 7) fFdpUsed)) = some ⟨1, 0x0E⟩ := by decide

def fGet : State := { admCmd (ent 0x0A 0x01 0) live with ctrls := [(0, { features := [(1, some 9)] })] }
def fGetTime : State := admCmd (ent 0x0A 0x0E 0) live
theorem witness_AdminFeatures_get : fGet.adm 7 0x0A = true ∧ (ent 0x0A 0x01 0).cdw10 / 256 % 8 = 0 ∧ fGetTime.adm 7 0x0A = true ∧
    fGetTime.passes 7 = true ∧
    fGetTime.dptrStatus (fGetTime.qfunc (fGetTime.tag 7).q).1 (fGetTime.qfunc (fGetTime.tag 7).q).2 8 (fGetTime.tag 7).sqe = none := by decide
theorem test_getFeatures : ((nxt (exec (.getFeatures 7) fGet)).tag 7).dw0 = 9 ∧ posted (nxt (exec (.getFeatures 7) fGetTime)) = some ⟨0, 0⟩ := by
  decide

def fDirS : State := admCmd { ent 0x19 0 1 with cdw12 := 0x201 } live
def fDirR : State := admCmd (ent 0x1A 0 1) live
theorem witness_AdminFeatures_directives : fDirS.adm 7 0x19 = true ∧ Sqe.dirType (fDirS.tag 7).sqe = 0 ∧ Sqe.dirOp (fDirS.tag 7).sqe = 1 ∧
    (fDirS.tag 7).sqe.cdw12 / 256 % 256 = 2 ∧ fDirR.adm 7 0x1A = true ∧ fDirR.passes 7 = true ∧
    fDirR.dptrStatus (fDirR.qfunc (fDirR.tag 7).q).1 (fDirR.qfunc (fDirR.tag 7).q).2 4 (fDirR.tag 7).sqe = none := by decide
theorem test_directives : posted (nxt (exec (.directiveSend 7) fDirS)) = some ⟨0, 2⟩ ∧
    posted (nxt (exec (.directiveReceive 7) fDirR)) = some ⟨0, 0⟩ := by decide

def fIdent : State := admCmd (ent 0x06 0x1C 0) live
def fIdentBad : State := admCmd (ent 0x06 0xFF 0) live
theorem witness_AdminFeatures_identify : fIdent.adm 7 0x06 = true ∧ ((fIdent.boundary 0x6001).tag 7).st = .build ∧
    (fIdent.boundary 0x6001).dptrStatus 0 0 4096 (ent 0x06 0x1C 0) = none ∧ (fIdent.boundary 0x6001).passes 7 = true ∧
    (fIdent.boundary 0x6001).qfunc ((fIdent.boundary 0x6001).tag 7).q = (0, 0) := by decide
theorem test_identify : posted (nxt (exec (.identify 7) fIdent)) = some ⟨0, 0⟩ ∧ posted (nxt (exec (.identify 7) fIdentBad)) = some ⟨0, 2⟩ := by
  decide

def fLog : State := { admCmd (ent 0x02 0x100C0 0) live with
  sqs := [(qcode (.std 0 0 0), { live := true, size := 8 }), (qcode (.std 0 0 3), { live := true, size := 8, frozen := true })] }
def fLogNone : State := admCmd (ent 0x02 0xEE 0) live
theorem witness_AdminFeatures_log : fLog.adm 7 0x02 = true ∧ ((ent 0x02 0x100C0 0).cdw12 + (ent 0x02 0x100C0 0).cdw13 * 2 ^ 32) % 4 = 0 ∧
    fLog.passes 7 = true ∧ fLog.dptrStatus (fLog.qfunc (fLog.tag 7).q).1 (fLog.qfunc (fLog.tag 7).q).2 8 (fLog.tag 7).sqe = none ∧
    fLogNone.adm 7 0x02 = true ∧ logAll.contains 0xEE = false ∧ logManager.contains 0xEE = false := by decide
theorem test_getLogPage : Out.hostBytes 7 [1#8, 0#8, 0#8, 0#8, 3#8, 0#8, 0#8, 0#8] ∈ (nxt (exec (.getLogPage 7) fLog)).out ∧
    posted (nxt (exec (.getLogPage 7) fLogNone)) = some ⟨1, 9⟩ := by decide

/-- A vendor command on slice 1, from the standard admin queue. -/
def slCmd (op dw10 dw11 : Nat) : State := admCmd (ent op dw10 dw11) { live with slices := [(0, { st := .bound }), (1, { st := .bound, fenceOpen := true })] }
def slU (s : State) (a : Nat) : State := s.shadowWrite (s.sessionOf (.admin 7)) 0x3001 [(2, .num a)]
theorem witness_Slices_action : let s := slCmd 0xC2 1 0
    s.adm 7 0xC2 = true ∧ (1 = if (s.tag 7).manager then Sqe.slice (s.tag 7).sqe else s.owner (s.tag 7).q) ∧ s.shadow 0x3001 = none := by decide +kernel
theorem witness_Slices_reason : let s := slCmd 0xC2 1 0
    (slU s 4).commitReason (s.roleOf (.admin 7)) 0x3001 ((slU s 4).committedFields 0x3001 [(2, .num 4)]) = none := by decide +kernel
theorem witness_Slices_store : let s := slCmd 0xC2 1 0
    (slU s 4).storeRefuses ((slU s 4).recordUnits 0x3001) = none := by decide +kernel
theorem witness_Slices_rejected : let s := slCmd 0xC1 2 1
    (s.shadowWrite (s.sessionOf (.admin 7)) 0x3002 [(2, .num 3)]).commitReason (s.roleOf (.admin 7)) 0x3002
      ((s.shadowWrite (s.sessionOf (.admin 7)) 0x3002 [(2, .num 3)]).committedFields 0x3002 [(2, .num 3)]) = some (3, ⟨7, 0x90⟩) := by decide +kernel
theorem test_sliceReset : ((nxt (exec (.sliceReset 7) (slCmd 0xC2 1 0))).dict.appends.map (fun o => (o.index, o.action))) = [(0x3001, 4)] := by decide +kernel
theorem test_sliceUnbind : ((nxt (exec (.sliceUnbind 7) (slCmd 0xC1 1 1))).dict.appends.map (fun o => (o.index, o.action))) = [(0x3001, 3)] ∧
    posted (nxt (exec (.sliceUnbind 7) (slCmd 0xC1 2 1))) = some ⟨7, 0x90⟩ := by decide +kernel
theorem test_sliceDestroy : ((nxt (exec (.sliceDestroy 7) (slCmd 0xC3 1 0))).dict.appends.map (fun o => (o.index, o.action))) = [(0x3001, 5)] := by
  decide +kernel
/-- Slice 1 as Created, and the packed record of its defaults. -/
def slNew (op dw10 dw11 : Nat) : State := admCmd (ent op dw10 dw11) { live with slices := [(0, { st := .bound }), (1, { st := .created })] }
def slData : List Byte := ((conf [((0x3001, 3), 0), ((0x3001, 4), 1)] live).packRecord 0 .maker 0x3001).1
def slFields (s : State) (sel : Nat → Bool) : List (Nat × Val) := match s.slicePacked slData sel with
  | .ok l => l
  | .error _ => []
theorem witness_Slices_data : let s := slNew 0xC1 1 0
    let fs := slFields s (fun _ => true)
    let u := s.shadowWrite (s.sessionOf (.admin 7)) 0x3001 (fs ++ [(2, .num 2)])
    s.adm 7 0xC1 = true ∧ s.dptrStatus (s.qfunc (s.tag 7).q).1 (s.qfunc (s.tag 7).q).2 slData.length (s.tag 7).sqe = none ∧
    fs ≠ [] ∧ s.shadow 0x3001 = none ∧ (u.commitReason (s.roleOf (.admin 7)) 0x3001 (u.committedFields 0x3001 (fs ++ [(2, .num 2)]))).isNone ∧
    u.storeRefuses (u.recordUnits 0x3001) = none := by decide +kernel
theorem test_sliceBind : ((nxt (exec (.sliceBind 7 slData) (slNew 0xC1 1 0))).dict.appends.map (fun o => (o.index, o.action))) = [(0x3001, 2)] := by
  decide +kernel
theorem test_sliceCreate : ((nxt (exec (.sliceCreate 7 slData) (slNew 0xC0 2 0))).dict.appends.map (fun o => (o.index, o.action))) = [(0x3002, 1)] := by
  decide +kernel
theorem test_dirtyLogControl :
    ((nxt (exec (.dirtyLogControl 7 slData) (slNew 0xC4 0 0))).dict.appends.map (fun o => (o.index, o.fields.length))) = [(0x3000, 6)] := by
  decide +kernel
def slTaken : State := { slCmd 0xC3 1 0 with dict := { (slCmd 0xC3 1 0).dict with shadows := [(0x3001, ⟨99, [], 0⟩)] } }
theorem witness_Slices_taken : slTaken.adm 7 0xC3 = true ∧
    slTaken.shadowTaken (slTaken.sessionOf (.admin 7)) (0x3000 + Sqe.slice (slTaken.tag 7).sqe) = true := by decide +kernel

def slLog : State := { conf [((0x3001, 0x20), 1), ((0x3001, 0x24), 64)] (slCmd 0xC5 1 0) with dirty := [⟨1, 3, 5, 0, false⟩, ⟨1, 4, 5, 0, true⟩], aon := { live.aon with now := 100000 } }
theorem witness_Slices_log : slLog.adm 7 0xC5 = true ∧ slLog.cfgB 0x3001 0x20 = true ∧ (slLog.slice 1).st = .bound ∧
    (slCmd 0xC5 1 0).cfgB 0x3001 0x20 = false ∧ (slLog.dirtyWord 1 3 false).any (fun d => slLog.elapsed d.since (100 * usec)) = true ∧
    (slLog.dirtyWord 1 4 true).isSome = true := by decide +kernel
theorem test_dirtyLogFlush : ((nxt (exec (.dirtyLogFlush 7) slLog)).tag 7).dw0 = 1 ∧ (nxt (exec (.dirtyLogFlush 7) slLog)).dirty = [] := by
  decide +kernel
theorem test_dirtyLogPosts : (nxt (exec (.dirtyLogPostTimer 1 3) slLog)).dirty.all (fun d => d.posting) = true ∧
    (nxt (exec (.dirtyLogPostDone 1 4) slLog)).dirty.length = 1 := by decide +kernel

/-- Slice 2 with the durable commit of an action. -/
def slActs (st : SliceSt) (a : Nat) : State :=
  { live with slices := [(0, { st := .bound }), (2, { st := st, fenceOpen := st == .bound })]
              dict := { live.dict with inForce := [(dkey 0x3002 4, some (.num 1)), (dkey 0x3002 5, some (.num 1))]
                                       commits := [(0x3002, ⟨9, none, 0, [(2, .num a)], 0, false, a, 4⟩)] } }
theorem witness_Slices_create : (slActs .absent 1).actionOf 2 = some ⟨9, none, 0, [(2, .num 1)], 0, false, 1, 4⟩ ∧ ((slActs .absent 1).slice 2).acting = 0 ∧
    ((slActs .absent 1).slice 2).st = .absent ∧ (slActs .absent 1).keySlotFree 5 = true := by decide +kernel
theorem witness_Slices_bind : let s := slActs .created 2
    let t := s.forceFields 0x3002 ([(2, Val.num 2)].filter (fieldKept 0x3002))
    (s.actionOf 2).isSome = true ∧ ((t.bindRules 2) ++ (t.queueRules 2 true)).all (fun x => x.1) = true := by decide +kernel
theorem witness_Slices_events : ((slActs .bound 4).actionOf 2).isSome = true ∧ (slActs .created 5).sliceHasNs 2 = false ∧
    (slActs .absent 4).actionAllowed 2 4 = false := by decide +kernel
theorem test_sliceActionApply : ((nxt (exec (.sliceActionApply 2 5) (slActs .absent 1))).slice 2).keySlot = 5 ∧
    ((nxt (exec (.sliceActionApply 2 5) (slActs .created 2))).slice 2).fenceOpen = true := by decide +kernel
theorem test_sliceActionApply_leave : ((nxt (exec (.sliceActionApply 2 5) (slActs .bound 4))).slice 2).st = .resetting ∧
    ((nxt (exec (.sliceActionApply 2 5) (slActs .absent 4))).dict.commits.all (fun x => x.2.action == 0)) = true := by decide +kernel

def slEnds (x : Slice) : State := { live with slices := [(0, { st := .bound }), (2, x)] }
theorem witness_Slices_ends : (slEnds { st := .resetting, genHeld := true }).genBlocked 2 = false ∧
    ((slEnds { st := .resetting, acting := 3, unbindPending := true }).slice 2).unbindPending = true ∧
    (slEnds { st := .destroying }).tagsOfSlice 2 = [] := by decide +kernel
theorem test_generationHoldRelease : ((nxt (exec (.generationHoldRelease 2) (slEnds { st := .resetting, genHeld := true }))).slice 2).gen = 1 := by
  decide +kernel
theorem test_resetSequenceEnd : ((nxt (exec (.resetSequenceEnd 2) (slEnds { st := .resetting }))).slice 2).st = .bound ∧
    ((nxt (exec (.resetSequenceEnd 2) (slEnds { st := .resetting, acting := 3, unbindPending := true }))).slice 2).st = .created := by
  decide +kernel
theorem test_sliceDestroyComplete : (nxt (exec (.sliceDestroyComplete 2) (slEnds { st := .destroying, gen := 7 }))).slice 2 = { gen := 7 } := by
  decide +kernel

def rdFrame : DFrame := { op := 1, final := false, reqId := 9, index := 0x1000, sub := 1, ty := 0, offset := 0, length := 0, value := [] }
/-- The bytes of a request that reads entry 1 of index 1000h, and the same with a wrong CRC. -/
def rdBytes : List Byte := withCrc [1#8, 1#8, 0#8, 0#8, 9#8, 0#8, 0#8, 0#8, 0#8, 0x10#8, 1#8, 0#8, 0#8, 0#8, 0#8, 0#8, 0#8, 0#8, 0#8, 0#8]
def box (l : List Byte) : State := { live with regs := { live.regs with dmbLen := l.length, dmbBuf := Mem.writeList [] 0 l } }
def net : State := conf [((0x1100, 3), 1), ((0x1100, 4), 1)] { live with mgmt := { t1sUp := true, sessions := [⟨5, .fieldNet, 9, 2, true, 0, 0⟩] } }
def again : State := { net with dict := { net.dict with dup := [(5, 9, 0, [7#8])] } }
def chatty : State := { net with mgmt := { net.mgmt with bdpTotal := 2000 } }
def c9 : State := admCmd (ent 0xC9 0 0) live
def c8 : State := admCmd (ent 0xC8 0x01011000 0) live

theorem witness_DictTransport_requests : live.pathOpen (.mailbox 0) rdFrame = true ∧ live.roleOf (.mailbox 0) ≠ .nobody ∧
    live.repeated (.mailbox 0) (live.named (.mailbox 0) rdFrame).reqId = none ∧
    (((live.arrive (.mailbox 0)).perform (live.roleOf (.mailbox 0)) (.mailbox 0) (live.named (.mailbox 0) rdFrame)).1).pathLive (.mailbox 0) 9 = true := by
  decide +kernel
theorem witness_DictTransport_held : c9.pathOpen (.admin 7) (writeFrame 0x8000 4 1 1 1) = true ∧ c9.roleOf (.admin 7) ≠ .nobody ∧
    ((c9.arrive (.admin 7)).perform (c9.roleOf (.admin 7)) (.admin 7) (c9.named (.admin 7) (writeFrame 0x8000 4 1 1 1))).2 = none := by decide +kernel
theorem test_readEntry : (nxt (exec (.readEntry (.mailbox 0) rdFrame) live)).regs.dmbDone = true ∧
    (nxt (exec (.readEntry (.mailbox 0) rdFrame) live)).regs.dmbResult = 0 := by decide +kernel
theorem test_writeProtect : ((nxt (exec (.writeProtect (.admin 7) true) c9)).tag 7).st = .run ∧
    (nxt (exec (.writeProtect (.admin 7) true) c9)).dict.appends.length = 1 := by decide +kernel

theorem witness_DictTransport_nobody : (conf [((0x1100, 3), 1)] net).pathOpen (.bdp 9 none) rdFrame = true ∧
    (conf [((0x1100, 3), 1)] net).roleOf (.bdp 9 none) = .nobody := by decide +kernel
theorem witness_DictTransport_repeated : again.pathOpen (.bdp 9 (some 5)) { rdFrame with op := 2 } = true ∧
    again.roleOf (.bdp 9 (some 5)) ≠ .nobody ∧ again.repeated (.bdp 9 (some 5)) 9 = some [7#8] := by decide +kernel

theorem witness_DictTransport_read : c8.adm 7 0xC8 = true ∧ (c8.readFrame 7).op = 1 ∧ (c8.tag 7).manager = true ∧ (c8.readFrame 7).length ≤ 4096 ∧
    (c8.perform .manager (.admin 7) (c8.readFrame 7)).2.isSome = true ∧
    (c8.perform .manager (.admin 7) (c8.readFrame 7)).1.pathLive (.admin 7) 0 = true := by decide +kernel
theorem test_dictionaryRead : posted (nxt (exec (.dictionaryRead 7) c8)) = some ⟨0, 0⟩ := by decide +kernel

/-- A write of 1 to entry 5 of index A000h's neighbour: TIME_NS. -/
def wrBytes : List Byte := withCrc ([1#8, 2#8, 1#8, 0#8, 9#8, 0#8, 0#8, 0#8, 1#8, 0xA0#8, 1#8, 5#8, 0#8, 0#8, 0#8, 0#8, 8#8, 0#8, 0#8, 0#8] ++ leBytes 8 77)
def wrFrame : DFrame := { op := 2, final := true, reqId := 9, index := 0xA001, sub := 1, ty := 5, offset := 0, length := 8, value := leBytes 8 77 }
theorem witness_DictTransport_write : c9.adm 7 0xC9 = true ∧ (c9.tag 7).manager = true ∧ parseFrame false 4096 wrBytes = .ok wrFrame ∧
    (c9.perform .manager (.admin 7) { wrFrame with reqId := (c9.tag 7).order }).2 = some {} ∧
    (c9.perform .manager (.admin 7) { wrFrame with reqId := (c9.tag 7).order }).1.pathLive (.admin 7) (c9.tag 7).order = true := by decide +kernel
theorem witness_DictTransport_tenant :
    let s : State := conf [((0x1100, 1), 0)] { live with tags := [(7, { st := .build, q := .page 0 0, admin := true, sqe := ent 0xC9 0 0 })] }
    s.adm 7 0xC9 = true ∧ (s.tag 7).manager = false ∧ s.cfgB 0x1100 1 = false := by decide +kernel
theorem test_dictionaryWrite : posted (nxt (exec (.dictionaryWrite 7 wrBytes) c9)) = some ⟨0, 0⟩ ∧
    (nxt (exec (.dictionaryWrite 7 wrBytes) c9)).aon.tsBase = 77 := by decide +kernel

theorem witness_DictTransport_go : (box rdBytes).pathOpen (.mailbox 0) (writeFrame 0 0 0 0 0) = true ∧
    parseFrame false 4096 (box rdBytes).mailboxFrame = .ok rdFrame ∧
    (((box rdBytes).arrive (.mailbox 0)).perform .manager (.mailbox 0) rdFrame).2.isSome = true ∧
    (((box rdBytes).arrive (.mailbox 0)).perform .manager (.mailbox 0) rdFrame).1.regs.dmbBusy = true ∧
    parseFrame false 4096 (box [1#8]).mailboxFrame = .error 0 := by decide +kernel
theorem test_dmbGo : (nxt (exec (.dmbGo 0) (box rdBytes))).regs.dmbResult = 0 ∧ (nxt (exec (.dmbGo 0) (box [1#8]))).regs.dmbResult = 13 := by
  decide +kernel

theorem witness_DictTransport_message : live.pathOpen (.mctp .twoWire none) (writeFrame 0 0 0 0 0) = true ∧ parseFrame false 4096 rdBytes = .ok rdFrame ∧
    live.roleOf (.mctp .twoWire none) ≠ .nobody ∧
    ((live.arrive (.mctp .twoWire none)).perform (live.roleOf (.mctp .twoWire none)) (.mctp .twoWire none) rdFrame).2.isSome = true := by decide +kernel
theorem test_dictionaryFrameMessage : (nxt (exec (.dictionaryFrameMessage .twoWire none rdBytes) live)).out.length = 1 := by decide +kernel

theorem witness_DictTransport_bdp : net.pathUp .fieldNet = true ∧ net.cfgB 0x1100 3 = true ∧ (net.bdpAdmit 9).2 = true ∧
    parseFrame true 1024 rdBytes = .ok rdFrame ∧ (net.bdpAdmit 9).1.roleOf (.bdp 9 none) ≠ .nobody ∧
    (net.bdpAdmit 9).1.repeated (.bdp 9 none) 9 = none ∧
    (((net.bdpAdmit 9).1.arrive (.bdp 9 none)).perform ((net.bdpAdmit 9).1.roleOf (.bdp 9 none)) (.bdp 9 none) rdFrame).2.isSome = true ∧
    net.cfg 0x1100 2 ≠ 0 ∧ chatty.elapsed chatty.mgmt.bdpSecond 1000000000 = false ∧ 2000 ≤ chatty.mgmt.bdpTotal := by decide +kernel
theorem test_bdpDatagram : (nxt (exec (.bdpDatagram 9 (net.cfg 0x1100 2) none rdBytes) net)).out.length = 1 ∧
    (nxt (exec (.bdpDatagram 9 (net.cfg 0x1100 2) none rdBytes) chatty)).mgmt.bdpDrops = 1 := by decide +kernel

theorem witness_DictTransport_relay : net.pathOpen (.bdp 9 none) { rdFrame with op := 0x10, value := [0x12#8, 0x84#8] } = true := by decide +kernel
theorem test_spdmRelay : (nxt (exec (.spdmRelay 9 { rdFrame with op := 0x10, value := [0x12#8, 0x84#8] }) net)).out.length = 1 := by decide +kernel

/-- A request on a mailbox path. -/
def ask (op i sub ty : Nat) (v : List Byte) : DFrame :=
  { op := op, final := true, reqId := 9, index := i, sub := sub, ty := ty, offset := 0, length := v.length, value := v }
def mb : DPath := .mailbox 0
theorem witness_DictRequests_read : live.modeRefuses false 0x1000 1 0 (live.sessionOf mb) = false ∧ live.indexRefused .manager 0x1000 = none ∧
    (dictEnt 0x1000 1).any (fun e => e.acc.reads .manager && e.ty != .domain) = true ∧
    (dictEnt 0x9001 1).any (fun e => !e.acc.reads (.tenant 0)) = true ∧ dictExists 0x1234 = false ∧ live.indexClosed 0x1234 = false := by decide +kernel

/-- Another session's shadow of index 6001h; a store without tokens. -/
def slTakenBy : State := { live with dict := { live.dict with shadows := [(0x6001, ⟨1, [], 0⟩)] } }
def broke : State := { live with dict := { live.dict with tokens := 0 } }
def svns : State := { live with sec := { live.sec with minSvn := 2, slot1 := live.sec.slot1.map (fun x => { x with svn := 4 }) } }
def ochreEnt : DEnt := (dictEnt 0x6001 1).getD ⟨0, .u8, .monR, 0, .any, .bringUp, false⟩
def pend : State := { live with dict := { live.dict with commits := [(0x6001, ⟨9, none, 0, [(1, .num 1)], 0, false, 0, 4⟩)] } }
def shad : State := { live with dict := { live.dict with shadows := [(0x6001, ⟨live.sessionOf mb, [(1, .num 1)], 0⟩)] } }
theorem witness_DictRequests_staged : live.statusVal 0x6001 ochreEnt.sub = none ∧ ochreEnt.cls = .staged ∧
    (pend.pendingCommit 0x6001).isSome = true ∧ shad.pendingCommit 0x6001 = none ∧ (shad.shadow 0x6001).isSome = true ∧
    live.shadow 0x6001 = none := by decide +kernel
theorem test_readVal : pend.readVal 0 0x6001 ochreEnt = (.num 1, true) ∧ shad.readVal 0 0x6001 ochreEnt = (.num 1, true) := by decide +kernel

theorem witness_DictRequests_next : ((live.perform .manager mb (ask 5 0x6001 0 0 [])).2.map (fun a => a.result)) = some 0 := by decide +kernel
theorem test_nextIndex : ((live.perform .manager mb (ask 5 0x6001 0 0 [])).2.map (fun a => a.index)) = some 0x6002 := by decide +kernel
theorem witness_DictRequests_record : 0 ≤ (live.packRecord (live.sessionOf mb) .manager 0x6001).1.length ∧ live.indexRefused .manager 0x6001 = none := by
  decide +kernel

theorem witness_DictRequests_write : live.modeRefuses true 0x6001 1 1 (live.sessionOf mb) = false ∧ ochreEnt.acc.writes .manager = true ∧
    ochreEnt.ty ≠ .domain ∧ ochreEnt.decode (leBytes ochreEnt.ty.size 1) = some (.num 1) ∧ live.valueOk 0x6001 ochreEnt (.num 1) = true ∧
    actsAtOnce 0x6001 ochreEnt.sub = false ∧ live.shadowTaken (live.sessionOf mb) 0x6001 = false ∧
    slTakenBy.shadowTaken (live.sessionOf mb) 0x6001 = true := by decide +kernel
theorem test_writeEntry : ((live.perform .manager mb (ask 2 0x6001 1 ochreEnt.ty.code (leBytes ochreEnt.ty.size 1))).1.shadow 0x6001).map (fun x => x.fields)
    = some [(1, .num 1)] := by decide +kernel

def protEnt : DEnt := (dictEnt 0x8000 4).getD ⟨0, .u8, .monR, 0, .any, .bringUp, false⟩
theorem witness_DictRequests_persistent : protEnt.cls ≠ .staged ∧ protEnt.vol = false ∧ actsAtOnce 0x8000 protEnt.sub = false ∧
    live.valueOk 0x8000 protEnt (.num 1) = true ∧ live.storeRefuses (logRecordUnits 1) = none ∧
    (broke.storeRefuses (logRecordUnits 1)) = some 9 := by decide +kernel
theorem test_tokens : (live.perform .manager mb (ask 2 0x8000 4 1 [1#8])).1.dict.tokens = 8191 := by decide +kernel

def recBytes6001 : List Byte := (live.packRecord (live.sessionOf mb) .manager 0x6001).1
theorem witness_DictRequests_whole : live.modeRefuses true 0x6001 0 (fromLe recBytes6001) (live.sessionOf mb) = false ∧
    (dictRec 0x6001).any (fun e => e.acc.writes .manager) = true ∧ live.stageOf 0x6001 0xFF = none ∧
    (match live.packedFields .manager 0x6001 recBytes6001 with
      | .ok l => !l.isEmpty && l.all (fun x => decide (x.1.cls = .staged) && !actsAtOnce 0x6001 x.1.sub)
      | .error _ => false) = true := by decide +kernel
theorem test_writeWholeRecord : (live.perform .manager mb (ask 4 0x6001 0 10 recBytes6001)).2 = some {} := by decide +kernel

def shadBad : State := { live with dict := { live.dict with shadows := [(0x6001, ⟨live.sessionOf mb, [(6, .num 10), (7, .num 90)], 0⟩)] } }
theorem witness_DictRequests_commit : live.modeRefuses true 0x1F00 1 0x6001 (live.sessionOf mb) = false ∧ live.indexRefused .manager 0x1F00 = none ∧
    dictStaged 0x6001 = true ∧
    (let w := shad.setNamed (shad.sessionOf mb) 0x6001
     w.commitReason .manager 0x6001 (w.committedFields 0x6001 [(1, .num 1)]) = none ∧ w.storeRefuses (w.recordUnits 0x6001) = none) ∧
    (let w := shadBad.setNamed (shadBad.sessionOf mb) 0x6001
     (w.commitReason .manager 0x6001 (w.committedFields 0x6001 [(6, .num 10), (7, .num 90)])).isSome = true) := by decide +kernel
theorem test_commitIndex : (shad.perform .manager mb (writeFrame 0x1F00 1 3 2 0x6001)).1.dict.appends.length = 1 ∧
    (shadBad.perform .manager mb (writeFrame 0x1F00 1 3 2 0x6001)).2 = some { result := 8 } := by decide +kernel
theorem test_discardIndex : (shad.perform .manager mb (writeFrame 0x1F00 2 3 2 0x6001)).1.shadow 0x6001 = none := by decide +kernel

def maint : State := { live with mode := { live.mode with base := .maintenance } }
theorem witness_DictRequests_restore : maint.storeRefuses (logRecordUnits (fieldsSize (maint.restoreAll .manager))) = none := by decide +kernel
theorem test_restoreIndex : (maint.perform .manager mb (writeFrame 0x1F00 5 3 2 0xFFFF)).1.dict.appends.length = 1 ∧
    (live.perform .manager mb (writeFrame 0x1F00 5 3 2 0xFFFF)).2 = some { result := 6 } := by decide +kernel

theorem witness_DictRequests_acts : live.inService = true ∧ live.lifecycle ≠ 5 ∧ 0 ≤ live.ras.lastSeq ∧ live.ras.lastSeq < 99 := by decide +kernel
theorem test_ackSeq : (live.perform .manager mb (writeFrame 0xA000 3 5 8 99)).2 = some { result := 5 } ∧
    (live.perform .manager mb (writeFrame 0xA000 3 5 8 0)).2 = some {} := by decide +kernel
theorem test_timeNs : (live.perform .manager mb (writeFrame 0xA001 1 5 8 77)).1.aon.tsBase = 77 := by decide +kernel
theorem test_maintRequest : (live.perform .manager mb (writeFrame 0x8000 5 1 1 1)).1.mode.maintWaiters.length = 1 := by decide +kernel
theorem witness_DictRequests_svn : svns.imageNow.any (fun x => decide (svns.sec.minSvn ≤ 3) && decide (3 ≤ x.svn)) = true ∧ 1 < svns.sec.minSvn := by
  decide +kernel
theorem test_minSvn : (svns.perform .manager mb (writeFrame 0x9100 7 2 1 3)).1.sec.minSvn = 3 ∧
    (svns.perform .manager mb (writeFrame 0x9100 7 2 1 1)).2 = some { result := 5 } := by decide +kernel

def boundC : State := { late with dict := { late.dict with commits := [(0x6001, ⟨9, some (.mctp .twoWire none), 0, [(2, .num 1)], 0, false, 0, 4⟩)] } }
theorem witness_DictStore_boundary : boundC.commitsOf 0x6001 = [⟨9, some (.mctp .twoWire none), 0, [(2, .num 1)], 0, false, 0, 4⟩] ∧
    boundC.elapsed 0 (100 * msec) = true ∧ boundC.slowPath (some (.mctp .twoWire none)) = false := by decide +kernel
theorem test_commitBoundary : (nxt (exec (.commitBoundary 0x6001) boundC)).cfg 0x6001 2 = 1 ∧
    (nxt (exec (.commitBoundary 0x6001) boundC)).out.length = 1 := by decide +kernel
theorem test_commitResponseTimeout : (nxt (exec (.commitResponseTimeout 0x6001) boundC)).commitsOf 0x6001 ≠ [] ∧
    (nxt (exec (.commitResponseTimeout 0x6001) boundC)).out.length = 1 := by decide +kernel

def oldShadow : State := { late with dict := { late.dict with shadows := [(0x6001, ⟨9, [(1, .num 1)], 0⟩)], staging := [⟨9, 0x1000, 1, [], 0⟩] } }
theorem witness_DictStore_timeouts : oldShadow.shadow 0x6001 = some ⟨9, [(1, .num 1)], 0⟩ ∧ oldShadow.elapsed 0 (30 * sec) = true := by decide +kernel
theorem test_shadowTimeout : (nxt (exec (.shadowTimeout 0x6001) oldShadow)).shadow 0x6001 = none := by decide +kernel
theorem test_stagingTimeout : (nxt (exec .stagingTimeout oldShadow)).dict.staging = [] := by decide +kernel

def opW : NorOp := ⟨1, 0x8000, 4, [(4, .num 1)], 1, 9, some (.mctp .twoWire none), 9, false, 0⟩
def opC : NorOp := ⟨1, 0x6001, 0xFF, [(2, .num 1)], 1, 9, some (.mctp .twoWire none), 9, true, 0⟩
def appends (o : NorOp) : State := { late with dict := { late.dict with appends := [o] } }
theorem witness_DictStore_durable : (appends opW).dict.appends = opW :: [] ∧ opW.commit = false ∧ opC.commit = true ∧ opC.index ≠ 0x6400 ∧
    opC.index ≠ 0x6401 ∧ opC.index ≠ 0x9001 ∧ (appends opW).pathLive (.mctp .twoWire none) 9 = true := by decide +kernel
theorem test_logRecordDurable : (nxt (exec (.logRecordDurable true) (appends opW))).out.length = 1 ∧
    (nxt (exec (.logRecordDurable true) (appends opC))).commitsOf 0x6001 ≠ [] := by decide +kernel
theorem test_logRecordDurable_fails : (nxt (exec (.logRecordDurable false) (appends opW))).dict.appendFailed = true ∧
    (nxt (exec (.logRecordDurable false) (appends opW))).dict.compacting = true := by decide +kernel

def spent : State := { late with dict := { late.dict with tokens := 5, compacting := true, retryAt := none } }
def idleStore : State := { late with dict := { late.dict with retryAt := none } }
def retrying : State := { late with dict := { late.dict with retryAt := some 0 } }
theorem witness_DictStore_clock : spent.mode.base ≠ .unpowered ∧ spent.elapsed spent.dict.refillAt (100 * msec) = true ∧
    idleStore.dict.compacting = false ∧ idleStore.elapsed idleStore.dict.lastCompaction (24 * hour) = true ∧ spent.dict.compacting = true ∧
    retrying.elapsed 0 (60 * sec) = true := by decide +kernel
theorem test_tokenRefill : (nxt (exec .tokenRefill spent)).dict.tokens = 6 := by decide +kernel
theorem test_compaction : (nxt (exec .compactionTimer idleStore)).dict.compacting = true ∧ (nxt (exec .compactionRetry retrying)).dict.compacting = true := by
  decide +kernel
theorem test_compactionComplete : (nxt (exec (.compactionComplete true) spent)).dict.activeB = true ∧
    (nxt (exec (.compactionComplete false) spent)).dict.retryAt = some (10 ^ 15) := by decide +kernel

theorem witness_Io_plain : (ioCmd (io 1 0 0)).iot 7 0x01 = true ∧ (ioCmd (io 1 0 0)).ioStatus 7 4096 = none ∧
    (ioCmd (io 2 0 0)).iot 7 0x02 = true ∧ (ioCmd (io 2 0 0)).ioStatus 7 4096 = none ∧ (ioCmd (io 5 0 0)).iot 7 0x05 = true ∧
    (ioCmd (io 0x0C 0 0)).iot 7 0x0C = true ∧ (ioCmd (io 8 0 0)).iot 7 0x08 = true ∧ Sqe.deac (io 8 0 0) = false ∧
    (ioCmd (io 8 0 0)).ioStatus 7 0 = none ∧ (ioCmd { io 1 0 0 with psdt := 3 }).ioStatus 7 4096 = some ⟨0, 2⟩ := by decide +kernel
theorem test_write : ((nxt (exec (.write 7) (ioCmd (io 1 0 0)))).tag 7).plan = [⟨0, .buf⟩, ⟨0, .hostrd⟩, ⟨0, .xform⟩, ⟨0, .mapupd⟩, ⟨0, .cmpl⟩] ∧
    posted (nxt (exec (.write 7) (ioCmd { io 1 0 0 with psdt := 3 }))) = some ⟨0, 2⟩ := by decide +kernel
theorem test_read : ((nxt (exec (.read 7) (ioCmd (io 2 0 9)))).tag 7).plan.length = 9 := by decide +kernel
theorem test_compare : ((nxt (exec (.compare 7) (ioCmd (io 5 0 0)))).tag 7).plan.length = 5 := by decide +kernel
theorem test_verify : ((nxt (exec (.verify 7) (ioCmd (io 0x0C 0 0)))).tag 7).plan.length = 4 := by decide +kernel
theorem test_writeZeroes : ((nxt (exec (.writeZeroes 7) (ioCmd (io 8 0 0)))).tag 7).plan.length = 4 ∧
    ((nxt (exec (.writeZeroes 7) (ioCmd (io 8 0 (2 ^ 25))))).tag 7).plan.length = 2 := by decide +kernel
theorem witness_Io_deac : (ioCmd (io 8 0 (2 ^ 25))).iot 7 0x08 = true ∧ Sqe.deac (io 8 0 (2 ^ 25)) = true ∧
    (ioCmd (io 8 0 (2 ^ 25))).ioStatus 7 0 = none ∧ (ioCmd (io 4 0 0)).iot 7 0x04 = true ∧ (ioCmd (io 0 0 0)).iot 7 0x00 = true := by decide +kernel
theorem test_writeUncorrectable : ((nxt (exec (.writeUncorrectable 7) (ioCmd (io 4 0 0)))).tag 7).plan.length = 2 := by decide +kernel
theorem test_flush : ((nxt (exec (.flush 7) (ioCmd (io 0 0 0)))).tag 7).plan = [⟨0, .cmpl⟩] := by decide +kernel

def dsm : State := ioCmd { io 9 0 0 with cdw11 := 4 }
theorem witness_Io_dsm : dsm.iot 7 0x09 = true ∧ [(0, 4)].length = (dsm.tag 7).sqe.cdw10 % 256 + 1 ∧
    dsm.dptrStatus (dsm.qfunc (dsm.tag 7).q).1 (dsm.qfunc (dsm.tag 7).q).2 16 (dsm.tag 7).sqe = none ∧
    (dsm.tag 7).sqe.cdw11.testBit 2 = true ∧ (ioCmd (io 9 0 0)).iot 7 0x09 = true ∧ (io 9 0 0).cdw11.testBit 2 = false ∧
    (dsm.ns 1).nsze < 60 + 5 ∧ 0 + 4 ≤ (dsm.ns 1).nsze := by decide +kernel
theorem test_datasetManagement : ((nxt (exec (.datasetManagement 7 [(0, 4)]) dsm)).tag 7).plan.length = 2 ∧
    posted (nxt (exec (.datasetManagement 7 [(60, 5)]) dsm)) = some ⟨0, 0x80⟩ := by decide +kernel

def copies : State := { ioCmd (io 0x19 32 0) with pool := { (live.pool) with inflight := 0 } }
def copyU (s : State) : State := s.setTag 7 { s.tag 7 with slba := (s.tag 7).sqe.slba, nlb := 4, ranges := [(0, 4)] }
theorem witness_Io_copy : copies.iot 7 0x19 = true ∧ [(0, 4)].length = (copies.tag 7).sqe.cdw12 % 256 + 1 ∧
    (copyU (ioCmd { io 0x19 32 0 with psdt := 3 })).copyStatus 7 [(0, 4)] = some ⟨0, 2⟩ := by decide +kernel

/-- A transform job: encode one block by the slot encoder, or decode. -/
def job (dec : Nat) : Sqe := { ent 0xC0 (2 + dec) 4096 with cdw2 := 8192, cdw12 := 0x20000 }
def jobs (dec : Nat) : State := ioCmd (job dec)
theorem witness_Io_job : (jobs 0).iot 7 0xC0 = true ∧ Sqe.jobDecode ((jobs 0).tag 7).sqe = false ∧ (jobs 0).jobStatus 7 = none ∧
    (jobs 0).lanesLeft = true ∧ (jobs 0).jobStage + Sqe.outLimit ((jobs 0).tag 7).sqe ≤ (jobs 0).cfg 0x7400 3 * 2 ^ 20 ∧
    (jobs 1).iot 7 0xC0 = true ∧ Sqe.jobDecode ((jobs 1).tag 7).sqe = true ∧
    (ioCmd { job 0 with cdw2 := 0 }).jobStatus 7 = some ⟨7, 0xA2⟩ := by decide +kernel
theorem test_transformJob : ((nxt (exec (.transformEncode 7 []) (jobs 0))).tag 7).nlb = 1 ∧
    posted (nxt (exec (.transformEncode 7 []) (ioCmd { job 0 with cdw2 := 0 }))) = some ⟨7, 0xA2⟩ := by decide +kernel
theorem witness_Io_copyGoes : (copyU copies).copyStatus 7 [(0, 4)] = none ∧ copies.poolWaits 1 16 = false ∧
    ({ copies with pool := { copies.pool with inflight := 2 ^ 40 } } : State).poolWaits 1 16 = true := by decide +kernel
theorem test_copy : ((nxt (exec (.copy 7 [(0, 4)]) copies)).tag 7).nlb = 4 ∧
    ((nxt (exec (.copy 7 [(0, 4)]) copies)).tag 7).plan.length = 5 := by decide +kernel

def noLanes : State := { jobs 0 with cmp := { (jobs 0).cmp with failedLanes := List.range 32 } }
def fullStage : State := conf [((0x7400, 3), 0)] (jobs 0)
theorem witness_Io_jobWaits : noLanes.jobStatus 7 = none ∧ noLanes.lanesLeft = false ∧ fullStage.jobStatus 7 = none ∧ fullStage.lanesLeft = true ∧
    fullStage.cfg 0x7400 3 * 2 ^ 20 < fullStage.jobStage + Sqe.outLimit (fullStage.tag 7).sqe ∧ (fullStage.tag 7).waitsStage = false := by decide +kernel

/-- A job whose one block of input is here. -/
def fedTag (x : Tag) (e : Sqe) (l : List Byte) : Tag :=
  { x with sqe := e, st := .run, inFlight := true, built := true, nlb := 1, stepsDone := 3, blks := [(0, { data := l, arrived := true })]
           plan := [⟨0, .exc⟩, ⟨0, .buf⟩] ++ planOf [.hostrd] 1 4 [.xform, .hostwr, .cmpl] }
def fed (dec : Nat) (e : Sqe) (l : List Byte) : State := { jobs dec with tags := [(7, fedTag ((jobs dec).tag 7) e l)] }
def oneBlock : List Byte := List.replicate 4096 7#8
theorem witness_Io_jobInput : (fed 0 (job 0) oneBlock).jobInput 7 = true ∧ Sqe.jobDecode ((fed 0 (job 0) oneBlock).tag 7).sqe = false ∧
    (fed 1 (job 1) (xformRecord 0 oneBlock)).jobInput 7 = true := by decide +kernel
theorem test_transformEncode : ((nxt (exec (.transformEncode 7 [[]]) (fed 0 (job 0) oneBlock))).blk 7 0).coded.length = 4100 ∧
    posted (nxt (exec (.transformEncode 7 [[]]) (fed 0 { job 0 with cdw2 := 4096 } oneBlock))) = some ⟨7, 0xA0⟩ := by decide +kernel
theorem test_transformEncode_image : (nxt (exec (.transformEncode 7 [[1#8]]) (fed 0 (job 0) oneBlock))).cmp.checkMismatches = 1 := by decide +kernel
theorem test_transformDecode : ((nxt (exec (.transformDecode 7) (fed 1 (job 1) (xformRecord 0 oneBlock)))).blk 7 0).coded.length = 4096 ∧
    posted (nxt (exec (.transformDecode 7) (fed 1 (job 1) [9#8]))) = some ⟨7, 0xA1⟩ := by decide +kernel

/-- A command on a zoned namespace with an uncompressed map, zone 0 in a state. -/
def zoned (e : Sqe) (y : Zone) : State :=
  { ioCmd e with nss := [(1, { st := 1, kind := 1, nsze := 2 * zoneSize 0, attached := [0] })], zones := [(zkey 1 0, y)] }
/-- A Zone Management Send. -/
def zms (zsa slba : Nat) : Sqe := { ent 0x79 slba 0 with nsid := 1, cdw13 := zsa }
def opened : Zone := { st := .implicitOpen, adm := 8, wp := 8 }
/-- Conditions on a Zone Management Send to zone 0 that hold of the state and of its boundary. -/
def zmsGood (s : State) (zsa : Nat) : Bool :=
  let w := s.zoneBoundary 1
  s.zmsAt 7 zsa && decide ((w.tag 7).st = .build) && !Sqe.selectAll (s.tag 7).sqe && !w.jrnHeld && decide ((s.tag 7).sqe.slba < (w.ns 1).nsze)
    && decide ((s.tag 7).sqe.slba % w.zsize 1 = 0) && decide ((w.tag 7).sqe = (s.tag 7).sqe) && decide ((s.tag 7).sqe.slba / w.zsize 1 = 0)

theorem witness_Zones_append : (zoned { io 0x7D 0 0 with psdt := 3 } opened).iot 7 0x7D = true ∧
    (zoned { io 0x7D 0 0 with psdt := 3 } opened).ioStatus 7 4096 = some ⟨0, 2⟩ ∧ (zoned (io 0x7D 0 0) opened).ioStatus 7 4096 = none := by
  decide +kernel
theorem test_zoneAppend : ((nxt (exec (.zoneAppend 7) (zoned (io 0x7D 0 0) opened))).tag 7).plan.length = 5 ∧
    posted (nxt (exec (.zoneAppend 7) (zoned { io 0x7D 0 0 with psdt := 3 } opened))) = some ⟨0, 2⟩ := by decide +kernel

/-- A write at an offset of zone 0 that waits for the zone table. -/
def zwr (off : Nat) (y : Zone) : State :=
  { zoned (io 1 off 0) y with tags := [(7, { (zoned (io 1 off 0) y).tag 7 with built := true, plan := planOf [.buf, .hostrd, .xform] 1 8 [.mapupd, .cmpl] })] }
theorem witness_Zones_decision : (zoned (zms 9 0) opened).iot 7 0x79 = true ∧ zoneActions.contains 9 = false ∧
    (zwr 8 opened).iot 7 0x79 = false ∧ (zwr 8 opened).zoneWaits 7 = true ∧ (zwr 8 opened).jrnHeld = false ∧
    ({ zwr 8 opened with jrn := { bytesFromReplay := 2 ^ 60 } } : State).jrnHeld = true ∧
    (((zwr 8 opened).zoneBoundary 1).tag 7).st = .build ∧
    ((zwr 8 opened).zoneBoundary 1).writeStatus 1 0 8 1 false = none ∧ ZoneSt.writeNeed .implicitOpen = .nothing ∧
    ((zwr 9 opened).zoneBoundary 1).writeStatus 1 0 9 1 false = some ⟨1, 0xBC⟩ ∧
    ((zwr 0 {}).zoneBoundary 1).writeStatus 1 0 0 1 false = none ∧
    ((conf [((0x5800, 9), 0)] (zwr 0 {})).zoneBoundary 1).roomStatus 1 0 .activate false = some (⟨1, 0xBD⟩, false) := by decide +kernel
theorem test_zoneTableDecision : ((nxt (exec (.zoneTableDecision 7) (zwr 8 opened))).zone 1 0).adm = 9 ∧
    posted (nxt (exec (.zoneTableDecision 7) (zwr 9 opened))) = some ⟨1, 0xBC⟩ := by decide +kernel

theorem witness_Zones_close : zmsGood (zoned (zms 1 0) opened) 1 = true ∧ (((zoned (zms 1 0) opened).zoneBoundary 1).zone 1 0).st = .implicitOpen ∧
    (((zoned (zms 1 0) { st := .closed }).zoneBoundary 1).zone 1 0).st = .closed ∧ (((zoned (zms 1 0) {}).zoneBoundary 1).zone 1 0).st = .empty := by
  decide +kernel
theorem test_zoneClose : ((nxt (exec (.zoneClose 7) (zoned (zms 1 0) opened))).zone 1 0).st = .closed ∧
    posted (nxt (exec (.zoneClose 7) (zoned (zms 1 0) {}))) = some ⟨1, 0xBF⟩ := by decide +kernel
theorem witness_Zones_range : (zoned (zms 1 (2 * zoneSize 0)) opened).zmsAt 7 1 = true ∧ (zms 1 1).slba % zoneSize 0 ≠ 0 := by decide +kernel

theorem witness_Zones_finish : zmsGood (zoned (zms 2 0) opened) 2 = true ∧
    (((zoned (zms 2 0) opened).zoneBoundary 1).zone 1 0).inFlight = [] ∧ ZoneSt.isActive .implicitOpen = true ∧
    (((zoned (zms 2 0) { opened with inFlight := [(8, 1)] }).zoneBoundary 1).zone 1 0).inFlight ≠ [] ∧
    (((zoned (zms 2 0) { st := .offline }).zoneBoundary 1).zone 1 0).st = .offline := by decide +kernel
theorem test_zoneFinish : ((nxt (exec (.zoneFinish 7) (zoned (zms 2 0) opened))).zone 1 0).wp = zoneSize 0 ∧
    posted (nxt (exec (.zoneFinish 7) (zoned (zms 2 0) { st := .offline }))) = some ⟨1, 0xBF⟩ := by decide +kernel

def reopenBase : State := zoned (zms 3 0) { opened with st := .closed }
def reopen : State := conf [((0x5800, 0x0A), 4)] reopenBase
theorem witness_Zones_open : zmsGood reopen 3 = true ∧ ((reopen.zoneBoundary 1).zone 1 0).st = .closed ∧
    (reopen.zoneBoundary 1).roomStatus 1 0 .open_ false = none ∧ ((reopen.zoneBoundary 1).zoneEnter 1 0 .open_ .explicitOpen false).any
      (fun v => decide ((v.tag 7).st = .build) && decide ((v.tag 7).sqe = (reopen.tag 7).sqe)) = true ∧
    (reopenBase.zoneBoundary 1).roomStatus 1 0 .open_ false = some (⟨1, 0xBE⟩, false) := by decide +kernel
theorem test_zoneOpen : ((nxt (exec (.zoneOpen 7) reopen)).zone 1 0).st = .explicitOpen ∧
    posted (nxt (exec (.zoneOpen 7) reopenBase)) = some ⟨1, 0xBE⟩ := by decide +kernel

/-- A Reset with a write of the zone still on its way. -/
def resetLate : State :=
  { zoned (zms 4 0) opened with tags := (zoned (zms 4 0) opened).tags ++
      [(9, { st := .run, q := .std 0 0 1, sqe := io 1 0 0, nlb := 1, passedZone := true, built := true })] }
theorem witness_Zones_reset : zmsGood (zoned (zms 4 0) opened) 4 = true ∧
    (((zoned (zms 4 0) opened).zoneBoundary 1).zoneReset 1 0).resetWaits 1 (some 0) = false ∧
    ((resetLate.zoneBoundary 1).zoneReset 1 0).resetWaits 1 (some 0) = true := by decide +kernel
theorem test_zoneReset : ((nxt (exec (.zoneReset 7) (zoned (zms 4 0) opened))).zone 1 0).st = .empty ∧
    ((nxt (exec (.zoneReset 7) resetLate)).tag 7).st = .run := by decide +kernel

theorem witness_Zones_offline : zmsGood (zoned (zms 5 0) { st := .readOnly }) 5 = true ∧
    (((zoned (zms 5 0) { st := .readOnly }).zoneBoundary 1).zone 1 0).st = .readOnly ∧ zmsGood (zoned (zms 5 0) opened) 5 = true := by decide +kernel
theorem test_zoneOffline : ((nxt (exec (.zoneOffline 7) (zoned (zms 5 0) { st := .readOnly }))).zone 1 0).st = .offline ∧
    posted (nxt (exec (.zoneOffline 7) (zoned (zms 5 0) opened))) = some ⟨1, 0xBF⟩ := by decide +kernel

def settled : State := { zoned (zms 4 0) {} with tags := [(7, { (zoned (zms 4 0) {}).tag 7 with built := true, st := .run })] }
theorem witness_Zones_settled : (settled.tag 7).admin = false ∧ (settled.tag 7).built = true ∧ (settled.tag 7).st = .run ∧
    (settled.tag 7).sqe.opcode = 0x79 ∧ Sqe.zsa (settled.tag 7).sqe = 4 ∧ settled.resetWaits 1 (settled.zmsZone 7) = false := by decide +kernel
theorem test_zoneResetSettled : posted (nxt (exec (.zoneResetSettled 7) settled)) = some ⟨0, 0⟩ := by decide +kernel

def zrwaZone : Zone := { opened with zrwa := true, zrwaWritten := [8, 9] }
theorem witness_Zones_zrwa : (zoned (zms 0x11 11) zrwaZone).zmsAt 7 0x11 = true ∧ (((zoned (zms 0x11 11) zrwaZone).zoneBoundary 1).zone 1 0).zrwa = true ∧
    (((zoned (zms 0x11 11) zrwaZone).zoneBoundary 1).zone 1 0).wp ≤ 11 ∧ (11 + 1 - 8) % 4 = 0 ∧ 11 % zoneSize 0 = 11 ∧ 11 / zoneSize 0 = 0 := by
  decide +kernel
theorem test_flushExplicitZrwaRange : ((nxt (exec (.flushExplicitZrwaRange 7) (zoned (zms 0x11 11) zrwaZone))).zone 1 0).wp = 12 ∧
    ((nxt (exec (.flushExplicitZrwaRange 7) (zoned (zms 0x11 11) zrwaZone))).zone 1 0).voids = [(10, 1), (11, 1)] := by decide +kernel

def reports : State := zoned { ent 0x7A 0 0 with nsid := 1, cdw12 := 47 } opened
theorem witness_Zones_report : reports.iot 7 0x7A = true ∧ reports.passes 7 = true ∧
    reports.dptrStatus (reports.qfunc (reports.tag 7).q).1 (reports.qfunc (reports.tag 7).q).2 192 (reports.tag 7).sqe = none ∧
    (reports.tag 7).sqe.slba < (reports.ns 1).nsze := by decide +kernel
theorem test_reportZones : ((nxt (exec (.reportZones 7) reports)).out.map (fun o => match o with
    | .hostBytes _ l => l.take 1
    | _ => [])) = [[2#8]] := by decide +kernel

def idleZone : State := { zoned (zms 1 0) opened with aon := late.aon }
theorem witness_Zones_idle : idleZone.zoneIdle 1 0 1 = true ∧ idleZone.zoneIdle 1 0 2 = true ∧ (idleZone.zone 1 0).inFlight = [] ∧
    (idleZone.zone 1 0).finishRecommended = false ∧ idleZone.jrnHeld = false := by decide +kernel
theorem test_zoneFinishRecommended : ((nxt (exec (.zoneFinishRecommended 1 0) idleZone)).zone 1 0).finishRecommended = true := by decide +kernel
theorem test_zoneFinishedByController : ((nxt (exec (.zoneFinishedByController 1 0) idleZone)).zone 1 0).st = .full := by decide +kernel

def mkNs : NsCreate := ⟨64, 0, 0, 0, 0, [], true⟩
def nsNew : State := flash [] (admCmd (ent 0x0D 0 0) live)
theorem witness_Namespaces_create : let w := (nsNew.boundary 0x5000).boundaryPart 0x7400 (fun f => f == 1 || f == 2)
    nsNew.adm 7 0x0D = true ∧ Sqe.sel (nsNew.tag 7).sqe = 0 ∧ (w.tag 7).st = .build ∧ w.jrnHeld = false ∧
    w.dptrStatus (w.qfunc (w.tag 7).q).1 (w.qfunc (w.tag 7).q).2 4096 (w.tag 7).sqe = none ∧ w.createStatus mkNs 0 = none ∧
    w.freeNsid = some 1 ∧ w.createStatus { mkNs with flbas := 5 } 0 = some ⟨1, 0x0A⟩ := by decide +kernel
theorem test_namespaceCreate : ((nxt (exec (.namespaceCreate 7 mkNs) nsNew)).ns 1).nsze = 64 ∧
    ((nxt (exec (.namespaceCreate 7 mkNs) nsNew)).tag 7).dw0 = 1 := by decide +kernel
/-- Namespace 1 exists, attached to slice 0, with an admin command on it. -/
def nsCmd (op dw10 st : Nat) (att : List Nat) : State :=
  { admCmd { ent op dw10 0 with nsid := 1 } { live with slices := [(0, { st := .bound }), (1, { st := .bound })] } with
    nss := [(1, { st := st, nsze := 64, attached := att, used := 5 })] }
theorem witness_Namespaces_delete : (nsCmd 0x0D 1 1 [0]).adm 7 0x0D = true ∧ Sqe.sel ((nsCmd 0x0D 1 1 [0]).tag 7).sqe = 1 ∧
    ((nsCmd 0x0D 1 1 [0]).ns 1).st = 1 ∧ 1 ≤ Config.namespaces ∧ ((nsCmd 0x0D 1 3 [0]).ns 1).st = 3 ∧ ((nsCmd 0x0D 1 2 []).ns 1).st = 2 := by decide +kernel
theorem test_namespaceDelete : ((nxt (exec (.namespaceDelete 7) (nsCmd 0x0D 1 1 [0]))).ns 1).st = 2 ∧
    posted (nxt (exec (.namespaceDelete 7) (nsCmd 0x0D 1 3 [0]))) = some ⟨0, 0x84⟩ := by decide +kernel
theorem witness_Namespaces_deleteComplete : (nsCmd 0x0D 1 2 []).nsIdle 1 = true ∧ ((nsCmd 0x0D 1 2 []).boundary 0x5800).jrnHeld = false := by decide +kernel
theorem test_namespaceDeleteComplete : (nxt (exec (.namespaceDeleteComplete 1) (nsCmd 0x0D 1 2 []))).ns 1 = {} := by decide +kernel

theorem witness_Namespaces_attach : (nsCmd 0x15 0 1 []).adm 7 0x15 = true ∧ Sqe.sel ((nsCmd 0x15 0 1 []).tag 7).sqe = 0 ∧ (nsCmd 0x15 0 1 []).nsGone 1 = none ∧
    (nsCmd 0x15 0 1 []).listBad [9] = true ∧ (nsCmd 0x15 0 1 []).listBad [1] = false ∧ [1].map (fun c => c - 1) = [0] ∧
    ((nsCmd 0x15 0 1 []).ns 1).attached.length + 1 ≤ 1 ∧ 0 ∈ ((nsCmd 0x15 0 1 [0]).ns 1).attached := by decide +kernel
theorem test_namespaceAttach : ((nxt (exec (.namespaceAttach 7 [1]) (nsCmd 0x15 0 1 []))).ns 1).attached = [0] ∧
    posted (nxt (exec (.namespaceAttach 7 [1]) (nsCmd 0x15 0 1 [0]))) = some ⟨1, 0x18⟩ := by decide +kernel
theorem witness_Namespaces_detach : (nsCmd 0x15 1 1 [0]).adm 7 0x15 = true ∧ Sqe.sel ((nsCmd 0x15 1 1 [0]).tag 7).sqe = 1 ∧
    (nsCmd 0x15 1 1 [0]).nsGone 1 = none ∧ (nsCmd 0x15 1 1 [0]).listBad [1] = false ∧ ((nsCmd 0x15 1 1 [0]).ns 1).owner = none ∧
    1 ∉ ((nsCmd 0x15 1 1 [0]).ns 1).attached := by decide +kernel
theorem test_namespaceDetach : ((nxt (exec (.namespaceDetach 7 [1]) (nsCmd 0x15 1 1 [0]))).ns 1).attached = [] ∧
    posted (nxt (exec (.namespaceDetach 7 [2]) (nsCmd 0x15 1 1 [0]))) = some ⟨1, 0x1A⟩ := by decide +kernel

theorem witness_Namespaces_format : (nsCmd 0x80 1 1 [0]).adm 7 0x80 = true ∧ (nsCmd 0x80 1 1 [0]).nsGone 1 = none ∧
    Sqe.fmtMset ((nsCmd 0x80 1 1 [0]).tag 7).sqe = false ∧ formatOk false (Sqe.fmtLbaf ((nsCmd 0x80 1 1 [0]).tag 7).sqe) = true ∧
    Sqe.fmtSes ((nsCmd 0x80 1 1 [0]).tag 7).sqe ≤ 2 ∧ dpsOk (Sqe.fmtDps ((nsCmd 0x80 1 1 [0]).tag 7).sqe) 1 = true ∧
    Sqe.fmtMset ((nsCmd 0x80 0x10 1 [0]).tag 7).sqe = true := by decide +kernel
theorem test_formatNvm : ((nxt (exec (.formatNvm 7) (nsCmd 0x80 1 1 [0]))).ns 1).formatLbaf = 1 ∧
    posted (nxt (exec (.formatNvm 7) (nsCmd 0x80 0x10 1 [0]))) = some ⟨1, 0x0A⟩ := by decide +kernel
theorem witness_Namespaces_formatComplete : ((nsCmd 0x80 0 3 [0]).ns 1).st = 3 ∧ (nsCmd 0x80 0 3 [0]).nsIdle 1 = true ∧
    ((nsCmd 0x80 0 3 [0]).boundary 0x5800).jrnHeld = false := by decide +kernel
theorem test_formatComplete : ((nxt (exec (.formatComplete 1) (nsCmd 0x80 0 3 [0]))).ns 1).st = 1 ∧
    ((nxt (exec (.formatComplete 1) (nsCmd 0x80 0 3 [0]))).ns 1).used = 0 := by decide +kernel

def sanNow (dw10 : Nat) : State := admCmd (ent 0x84 dw10 0) live
def sanRuns (dw10 : Nat) : State := { sanNow dw10 with sec := { (sanNow dw10).sec with sanRunning := 1 } }
def sanFails : State := { sanNow 1 with sec := { (sanNow 1).sec with sanFailed := true } }
theorem witness_Namespaces_sanitize : (sanNow 2).adm 7 0x84 = true ∧ Sqe.sanact ((sanNow 2).tag 7).sqe = 2 ∧ ((sanNow 2).tag 7).sqe.cdw10.testBit 9 = false ∧
    (sanNow 2).sec.transition = false ∧ (sanNow 2).mode.base = .service ∧ (sanNow 2).sec.sanRunning = 0 ∧ (sanNow 2).mode.maintEntry = false ∧
    Sqe.sanact ((sanNow 4).tag 7).sqe = 4 ∧ (sanRuns 2).sec.sanRunning ≠ 0 ∧ (sanRuns 2).inService = true ∧ Sqe.sanact ((sanNow 3).tag 7).sqe = 3 ∧
    Sqe.sanact (sanFails.tag 7).sqe = 1 ∧ ({ sanNow 4 with mode := { live.mode with base := .maintenance } } : State).inService = true := by decide +kernel
theorem test_sanitize : (nxt (exec (.sanitizeBlockErase 7) (sanNow 2))).sec.sanRunning = 2 ∧
    (nxt (exec (.sanitizeCryptoErase 7) (sanNow 4))).sec.sanRunning = 1 := by decide +kernel
theorem test_sanitize_refused : posted (nxt (exec (.sanitizeBlockErase 7) (sanRuns 2))) = some ⟨0, 0x1D⟩ ∧
    posted (nxt (exec (.sanitizeBlockErase 7) (sanNow 3))) = some ⟨0, 2⟩ := by decide +kernel
theorem test_sanitizeExitFailure : (nxt (exec (.sanitizeExitFailure 7) sanFails)).sec.sanFailed = false := by decide +kernel

def goodImage : FwImage := ⟨0, 0, 1, 1, 1, [], 0, true, true, true⟩
def fwCmd (e : Sqe) (x : Sec) : State := admCmd e { live with sec := x }
def fwStaged : Sec := { live.sec with stagingOwner := some 0, stagingPieces := [(0, 4096)], stagingImage := some goodImage }
def fwTwo : Sec := { live.sec with slot2 := some { goodImage with slot := 2 } }
theorem witness_Firmware_download : (fwCmd (ent 0x11 1023 1024) fwStaged).adm 7 0x11 = true ∧ piecesMeet (4096, 4096) (0, 4096) = false ∧
    piecesMeet (0, 4096) (0, 4096) = true ∧ (fwCmd (ent 0x11 1023 1024) fwStaged).dptrStatus 0 0 4096 (ent 0x11 1023 1024) = none ∧
    (fwCmd (ent 0x11 1023 1024) fwStaged).qfunc ((fwCmd (ent 0x11 1023 1024) fwStaged).tag 7).q = (0, 0) := by decide +kernel
theorem test_firmwareImageDownload :
    (nxt (exec (.firmwareImageDownload 7 goodImage) (fwCmd (ent 0x11 1023 1024) fwStaged))).sec.stagingPieces = [(0, 4096), (4096, 4096)] ∧
    posted (nxt (exec (.firmwareImageDownload 7 goodImage) (fwCmd (ent 0x11 1023 0) fwStaged))) = some ⟨0, 2⟩ := by decide +kernel
theorem witness_Firmware_owner : ({ fwStaged with stagingOwner := some 1 } : Sec).stagingOwner = some 1 ∧ (1 : Nat) ≠ 0 := by decide +kernel

theorem witness_Firmware_replace : (fwCmd (ent 0x10 0x0A 0) fwStaged).adm 7 0x10 = true ∧ Sqe.fwAction (ent 0x10 0x0A 0) = 1 ∧
    (fwCmd (ent 0x10 0x0A 0) fwStaged).fwTarget 7 = 2 ∧ fwStaged.slotInForce = 1 ∧ staged fwStaged.stagingPieces = true ∧
    (fwCmd (ent 0x10 0x0A 0) fwStaged).imageGood goodImage = true ∧ (fwCmd (ent 0x10 0x09 0) fwStaged).fwTarget 7 = 1 := by decide +kernel
theorem test_firmwareCommitReplace : (nxt (exec (.firmwareCommitReplace 7) (fwCmd (ent 0x10 0x0A 0) fwStaged))).sec.nextSlot = 2 ∧
    posted (nxt (exec (.firmwareCommitReplace 7) (fwCmd (ent 0x10 0x09 0) fwStaged))) = some ⟨1, 6⟩ := by decide +kernel

theorem witness_Firmware_next : Sqe.fwAction (ent 0x10 0x12 0) = 2 ∧ (fwCmd (ent 0x10 0x12 0) fwTwo).fwSlot 2 = some { goodImage with slot := 2 } ∧
    (fwCmd (ent 0x10 0x12 0) fwTwo).imageGood { goodImage with slot := 2 } = true ∧ (fwCmd (ent 0x10 0x12 0) live.sec).fwSlot 2 = none := by decide +kernel
theorem test_firmwareCommitActivateNext : (nxt (exec (.firmwareCommitActivateNext 7) (fwCmd (ent 0x10 0x12 0) fwTwo))).sec.acts = [(2, 1)] := by
  decide +kernel

def fwNow : State := fwCmd (ent 0x10 0x1A 0) fwTwo
theorem witness_Firmware_now : Sqe.fwAction (ent 0x10 0x1A 0) = 3 ∧ fwNow.fwTarget 7 = 2 ∧ fwNow.sec.slotInForce = 1 ∧ fwNow.sec.actState ≠ 1 ∧
    fwNow.sec.actState ≠ 2 ∧ fwNow.sec.sanRunning = 0 ∧ fwNow.sec.transition = false ∧ fwNow.mode.base ≠ .flush ∧ fwNow.freeSpares ≠ [] ∧
    (fwNow.fwSlot 2).isSome = true := by decide +kernel
theorem test_firmwareCommitActivateNow : (nxt (exec (.firmwareCommitActivateNow 7) fwNow)).sec.actEnginesLeft = 8 := by decide +kernel

/-- An activation of slot 2 at a cluster, with engines left in it. -/
def hand (c left : Nat) : State :=
  { fwNow with sec := { fwNow.sec with actState := 2, actSlot := 2, actTag := some 7, actEnginesLeft := left, actCluster := c }
               tags := [(7, { fwNow.tag 7 with st := .run, built := true })] }
theorem witness_Firmware_handoff : (hand 12 8).sec.actState = 2 ∧ (hand 12 8).awake = true ∧ 0 < min (hand 12 8).sec.actEnginesLeft (hand 12 8).freeSpares.length ∧
    min (hand 12 1).sec.actEnginesLeft (hand 12 1).freeSpares.length = 1 ∧ actNext 12 = some 13 ∧ actNext 14 = none ∧
    min 8 ({ hand 12 8 with engines := [(120, { failed := true })] } : State).freeSpares.length ≠ 8 ∧ ((hand 14 1).tag 7).st = .run := by decide +kernel
theorem test_activationHandoff : (nxt (exec (.activationHandoff 5) (hand 12 1))).sec.actCluster = 13 ∧
    (nxt (exec (.activationHandoff 5) (hand 14 1))).sec.slotInForce = 2 := by decide +kernel

theorem witness_Sched_epoch : live.awake = true ∧ live.mode.base ≠ .flush := by decide +kernel
/-- One Bound Crisp slice with credit on port 0, whose budget is 1,000 units. -/
def crisp1 : State := conf [((0x4000, 2), 1000), ((0x4000, 4), 40), ((0x4000, 5), 20), ((0x4000, 9), 4), ((0x3000, 11), 10), ((0x3000, 10), 0)]
  { live with slices := [(0, { st := .bound })] }
theorem test_epochStart : (nxt (exec .epochStart { live with sched := { epoch := 4294967295 } })).sched.epoch = 0 ∧
    (nxt (exec .epochStart { live with mode := { live.mode with psNext := 2 } })).mode.psInForce = 2 := by decide +kernel
theorem witness_Sched_port : (crisp1.port 0).linkUp = true ∧ (crisp1.port 1).linkUp = false ∧ crisp1.eligible 0 0 = [0] ∧
    0 < crisp1.share 0 ∧ (crisp1.portEpoch 0).credit 0 = 102400 := by decide +kernel

/-- A LUN of a channel that serves. -/
def lunned (x : Lun) : State := flash [((0x4001, 1), 4), ((0x4001, 2), 4), ((0x4001, 3), 8), ((0x6400, 0x12), 4), ((0x6400, 0x13), 4), ((0x6400, 0x11), 400)]
  { late with chans := [(0, { st := .running })], luns := [(lkey 0 0, x)] }
def aRead : DieOp := ⟨.read, 0, 0, 0, 3, 1, false, 9⟩
def aProgram : DieOp := ⟨.program, 3, 5, 0, 4, 1, false, 9⟩
def fRead : DieOp := ⟨.read, 1, 0, 0, 5, 1, false, 9⟩
def runs (op : DieOp) (n : Nat) : RunOp := ⟨⟨op, 0, 0⟩, 0, 0, 0, n, 0, []⟩
theorem witness_Sched_arrival : (lunned {}).lunServes 0 0 = true ∧ (lunned {}).suspendLimit .program = 4 ∧
    (lunned {}).elapsed (runs aProgram 0).resumedAt (qUsec ((lunned {}).pf 0x10)) = true ∧
    (lunned {}).elapsed (10 ^ 15 + 1) (qUsec ((lunned {}).pf 0x10)) = false := by decide +kernel
theorem test_dieDescriptorArrival :
    ((nxt (exec (.dieDescriptorArrival 0 0 aRead) (lunned { running := some (runs aProgram 0) }))).lun 0 0).running.map (fun r => r.w.op)
      = some aRead ∧
    ((nxt (exec (.dieDescriptorArrival 0 0 aRead) (lunned { running := some (runs aProgram 4) }))).lun 0 0).running
      = some (runs aProgram 4) := by decide +kernel
theorem witness_Sched_minrun : ([⟨aRead, 0, 0⟩] : List WaitOp).any WaitOp.crispRead = true ∧
    (lunned { suspendWanted := true, running := some (runs aProgram 0) }).lun 0 0 = { suspendWanted := true, running := some (runs aProgram 0) } := by
  decide +kernel
theorem test_suspendMinRunReached :
    ((nxt (exec (.suspendMinRunReached 0 0) (lunned { suspendWanted := true, running := some (runs aProgram 0), queue := [⟨aRead, 0, 0⟩] }))).lun 0 0).suspended.map
      (fun r => r.suspends) = some 1 := by decide +kernel
theorem test_suspendLimitReached :
    ((nxt (exec (.suspendLimitReached 0 0) (lunned { suspended := some (runs aProgram 1), queue := [⟨aRead, 0, 0⟩] }))).lun 0 0).running.map
      (fun r => r.w.op) = some aProgram ∧
    (nxt (exec (.suspendLimitReached 0 0) (lunned { suspended := some (runs aProgram 1), queue := [⟨aRead, 0, 0⟩] }))).sched.forcedResumes = 1 := by
  decide +kernel
theorem witness_Sched_limit : ((lunned { suspended := some (runs aProgram 1) }).lun 0 0).running = none ∧
    ((lunned {}).chan 0).st = .running ∧ ((lunned {}).chan 0).retraining = false ∧
    ((lunned { suspended := some (runs aProgram 1) }).lun 0 0).suspended = some (runs aProgram 1) := by decide +kernel

theorem witness_Sched_complete : ((lunned { running := some (runs aProgram 0) }).lun 0 0).running = some (runs aProgram 0) ∧
    aProgram.kind ≠ .read ∧ (runs aRead 0).w.op.kind = .read ∧ (runs aRead 0).joined = [] ∧
    ((lunned { running := some (runs aRead 0) }).chan 0).busActive = none := by decide +kernel
theorem test_dieOperationComplete :
    ((nxt (exec (.dieOperationComplete 0 0 false) (lunned { running := some (runs aProgram 0) }))).chan 0).programFails = 1 ∧
    ((nxt (exec (.dieOperationComplete 0 0 true) (lunned { running := some (runs aRead 0) }))).chan 0).busActive = some ⟨false, 0, 0, 9⟩ := by
  decide +kernel
theorem witness_Sched_pause : ((lunned { pausedUntil := some 7 }).lun 0 0).pausedUntil.isSome = true := by decide +kernel
theorem test_thermalPauseEnd :
    ((nxt (exec (.thermalPauseEnd 0 0) (lunned { pausedUntil := some 7, queue := [⟨aProgram, 0, 5⟩] }))).lun 0 0).running.map (fun r => r.w.op)
      = some aProgram := by decide +kernel
def bused (w : Bool) (l : List BusXfer) : State :=
  { live with chans := [(0, { st := .running, busActive := some ⟨true, 1, 4, 9⟩, busWait := l, retrainWanted := w })] }
theorem witness_Sched_bus : ((bused true []).chan 0).busActive.isSome = true ∧ ((bused true []).chan 0).retrainWanted = true ∧
    ((bused false []).chan 0).busWait = [] ∧ ((bused false [⟨true, 3, 0, 1⟩]).chan 0).busWait ≠ [] := by decide +kernel
theorem test_busTransferComplete :
    ((nxt (exec (.busTransferComplete 0) (bused false [⟨true, 3, 0, 1⟩, ⟨false, 0, 9, 2⟩, ⟨false, 0, 8, 3⟩]))).chan 0).busActive
      = some ⟨false, 0, 8, 3⟩ ∧
    ((nxt (exec (.busTransferComplete 0) (bused true [⟨true, 3, 0, 1⟩]))).chan 0).retraining = true := by decide +kernel
theorem test_arbiterAgingLift : (nxt (exec (.arbiterAgingLift 3 4) live)).sched.lifted = [(3, 4)] := by decide +kernel
theorem witness_Sched_lift : live.awake = true ∧ ((3, 4) : Nat × Nat) ∉ live.sched.lifted := by decide +kernel

def isl (x : Island) : State := { live with islands := [(20, x), (3, x)] }
theorem witness_Sched_island : ((isl {}).island 20).st = .running ∧ (isl {}).islandIdle 20 = true ∧ ((isl {}).entryBoundary 0x4002 1).mayGate 20 = true ∧
    ((isl {}).entryBoundary 0x4002 1).mayGate 14 = false ∧ ((isl { entering := true }).island 20).entering = true ∧
    ((isl { st := .powerGated }).island 3).failed = false := by decide +kernel
theorem test_islands : ((nxt (exec (.islandClockGateIdle 20) (isl {}))).island 20).st = .clockGated ∧
    ((nxt (exec (.islandPowerGateIdle 20) (isl {}))).island 20).entering = true ∧
    ((nxt (exec (.islandPowerGateIdle 14) live)).island 14).entering = false ∧
    (nxt (exec (.islandWake 3 false true) (isl { st := .powerGated }))).sched.pgWakes = 1 ∧
    (nxt (exec (.islandWake 3 false true) (isl { st := .powerGated }))).regs.pwrEvent = 8#32 ∧
    ((nxt (exec (.powerGateEntryComplete 20) (isl { entering := true, wakeAfter := true }))).island 20).st = .running ∧
    ((nxt (exec (.powerGateEntryComplete 20) (isl { entering := true }))).island 20).st = .powerGated := by decide +kernel

def eng (x : Engine) : State := { live with engines := [(3, x)] }
theorem witness_Sched_engine : ((eng { events := [4, 5] }).engine 3).events = [4, 5] ∧ ((eng {}).engine 3).failed = false ∧
    (eng {}).freeSpares.filter (fun k => k != 3) = [120, 121, 122, 123, 124, 125, 126, 127] ∧ 3 < Config.engines := by decide +kernel
theorem test_engines : ((nxt (exec (.engineEvent 3) (eng { events := [4, 5], commitBuf := [1] }))).engine 3).events = [5] ∧
    ((nxt (exec (.engineEventTimeout 3) (eng { events := [4, 5] }))).engine 120).events = [4, 5] ∧
    ((nxt (exec (.engineFailed 3) (eng {}))).engine 3).movedTo = some 120 := by decide +kernel
def measured : State := { live with sched := { samples := [5, 9, 7], completions := 3 }, chans := [(0, { st := .running, busyNs := 250000000 })] }
theorem witness_Sched_measure : measured.awake = true ∧ (measured.chan 0).st = .running ∧ 0 < Config.channels := by decide +kernel
theorem test_measurementIntervalEnd : (nxt (exec .measurementIntervalEnd measured)).sched.p9999 = 9 ∧
    ((nxt (exec .measurementIntervalEnd measured)).chan 0).busPct = 25 := by decide +kernel

theorem witness_Woad : ((lunned {}).boundary 0x4001).psMay 0 0 .read = true ∧ ((lunned {}).boundary 0x4001).cfg 0x4001 3 = 8 ∧ ((lunned {}).boundary 0x4001).aon.now = 10 ^ 15 ∧
    (⟨fRead, 0, 5⟩ : WaitOp).due < 10 ^ 15 ∧ (⟨aRead, 0, 5⟩ : WaitOp).crispRead = true ∧ (⟨aProgram, 0, 5⟩ : WaitOp).crispRead = false ∧
    aProgram.cls < 4 := by decide +kernel
theorem test_Woad :
    (((lunned { queue := [⟨aProgram, 0, 5⟩, ⟨aRead, 0, 9⟩, ⟨{ aRead with plane := 1 }, 0, 8⟩] }).woad 0 0).lun 0 0).running.map
      (fun r => (r.w.due, r.joined.length)) = some (8, 1) ∧
    (((lunned { crispSince := 8, queue := [⟨aRead, 0, 1⟩, ⟨fRead, 0, 9⟩] }).woad 0 0).lun 0 0).running.map (fun r => r.w.op) = some fRead ∧
    (((lunned { queue := [⟨aProgram, 0, 10 ^ 15⟩, ⟨fRead, 0, 10 ^ 15 + 5⟩] }).woad 0 0).lun 0 0).running.map (fun r => r.w.op) = some fRead := by
  decide +kernel

/-- Media in service: every channel runs, and one superblock and one program are as given. -/
def med (b : Sb) (p : Prog) : State :=
  flash [((0x6402, 6), 100), ((0x6402, 0x0A), 1000), ((0x6402, 4), 60), ((0x6402, 1), 10), ((0x6402, 2), 5), ((0x6402, 3), 100), ((0x6400, 0x1B), 60),
    ((0x6400, 0x1A), 3600), ((0x6402, 7), 300), ((0x6402, 13), 4), ((0x6400, 6), 32)]
    { late with chans := (List.range 32).map (fun c => (c, { st := .running }))
                recov := { startAppended := true, seqCeil := 2 ^ 32 }
                media := { sbs := [(5, b)], progs := [(3, p)], nextProg := 4 } }
def mv : ProgItem := ⟨1, 9, false, 77, 88, 0, 0⟩
def cp : ProgItem := ⟨1, 9, true, 6, 88, 0, 0⟩
def withBuf (s : State) : State := { s with wbuf := { s.wbuf with blks := [(6, { nsid := 1, lba := 9, committed := true })] } }
def dense1 : Sb := { st := .open_, kind := .dense, row := [{}, {}], rowOn := [0, 1] }
def lastRow : Sb := { st := .open_, kind := .dense, row := [{ done := true }], parityLeft := 1, rows := 63 }
theorem witness_Media_program : (med dense1 { live := true, kind := .collect, sb := 5, items := [mv] }).prog 3 =
      { live := true, kind := .collect, sb := 5, items := [mv] } ∧ mv.fromBuf = false ∧ cp.fromBuf = true ∧
    cp.src ∈ (withBuf (med dense1 {})).wbuf.blks.map (fun x => x.1) ∧ ((withBuf (med dense1 {})).wblk 6).programmed = false ∧
    ((med lastRow {}).sb 5).parityLeft = 1 ∧ ((med lastRow {}).sb 5).row ≠ [] ∧ ((med lastRow {}).sb 5).filler = false := by decide +kernel
theorem test_programComplete :
    ((nxt (exec (.programComplete 3 true) (med lastRow { live := true, kind := .parity, sb := 5 }))).sb 5).st = .free ∧
    ((nxt (exec (.programComplete 3 false) (med dense1 { live := true, kind := .collect, sb := 5, ch := 7, items := [mv] }))).sb 5).absentCh
      = [7] := by decide +kernel
def erasing (l : List Nat) (x : Sec) : State :=
  { med { st := .open_, kind := .dense, erasing := l, wear := 3 } {} with sec := x }
theorem witness_Media_erase : 4 ∈ ((erasing [4, 9] {}).sb 5).erasing ∧ (erasing [4, 9] {}).sec.sanRunning ≠ 2 ∧
    (erasing [4, 9] {}).allocatable 5 = true ∧ ((erasing [4] {}).sb 5).erasing = [4] ∧
    ({ erasing [4] {} with chans := [] } : State).allocatable 5 = true ∧
    ({ erasing [4] {} with chans := (List.range 32).map (fun c => (c, { st := .failed })) } : State).allocatable 5 = false := by decide +kernel
theorem test_eraseComplete : ((nxt (exec (.eraseComplete 5 4 true) (erasing [4, 9] {}))).sb 5).erasing = [9] ∧
    ((nxt (exec (.eraseComplete 5 4 false) (erasing [4, 9] {}))).sb 5).absentCh = [4] := by decide +kernel
def blockErase : State := { erasing [] { live.sec with sanRunning := 2 } with mode := { live.mode with base := .maintenance } }
theorem witness_Media_block : blockErase.sec.sanRunning = 2 ∧ blockErase.mode.base = .maintenance ∧ blockErase.sanitizeLeft 5 4 = true := by
  decide +kernel
theorem test_eraseComplete_block : (nxt (exec (.eraseComplete 5 4 true) blockErase)).sec.sanErased = [(5, 4)] := by decide +kernel
def heldRow : Sb := { st := .open_, kind := .slc, row := [{ items := [cp] }], rowOn := [0, 1, 2] }
def at5 : Nat := (med {} {}).locOf 0 0 5 0 0 0
def heldZone : State :=
  { med { st := .open_, kind := .zone } {} with
    wbuf := { blks := [(6, { nsid := 1, lba := 9, committed := true, program := some at5 })] } }
theorem witness_Media_hold : ((med heldRow {}).boundary 0x6402).inService = true ∧
    ((med heldRow {}).boundary 0x6402).elapsed (((med heldRow {}).boundary 0x6402).sb 5).rowSince (((med heldRow {}).boundary 0x6402).cfg 0x6402 6 * usec) = true ∧
    (((med heldRow {}).boundary 0x6402).sb 5).row.length < ((med heldRow {}).boundary 0x6402).rowPages 5 ∧
    (((med heldRow {}).boundary 0x6402).sb 5).kind = .slc ∧ ((heldZone.boundary 0x6402).sb 5).kind = .zone ∧
    (heldZone.boundary 0x6402).uncovered 5 = [⟨1, 9, true, 6, at5, 3, 0⟩] := by decide +kernel
theorem test_rowHoldExpiry : ((nxt (exec (.rowHoldExpiry 5) (med heldRow {}))).sb 5).row.all (fun p => p.started) = true ∧
    ((nxt (exec (.rowHoldExpiry 5) heldZone)).prog 4).page = 1 := by decide +kernel

/-- A Closed superblock of a kind, with one slot of namespace 1 in it. -/
def closedSb (k : SbKind) (n : Nat) : State :=
  { med { st := .closed, kind := k, valid := 1, refreshQueued := true, refreshRaised := true } {} with
    map := { ents := [(bkey 1 9, { loc := at5, trim := false })] }, nss := [(1, { st := 1, nsze := 64, attached := [0] })]
    media := { sbs := (5, { st := .closed, kind := k, valid := 1, refreshQueued := true, refreshRaised := true }) ::
                 (List.range n).map (fun i => (10 + i, { st := .closed, kind := .dense, valid := 2, lost := [(0, 0)] })), folding := true } }
theorem witness_Media_fold : ((closedSb .slc 0).boundary 0x6402).upkeepMay = true ∧ ((closedSb .slc 0).boundary 0x6402).foldMay = true ∧
    ((closedSb .slc 0).boundary 0x6402).foldOrder.head? = some 5 ∧ (((closedSb .slc 0).boundary 0x6402).sb 5).st = .closed := by decide +kernel
theorem test_foldTask : ((nxt (exec (.foldTask 5) (closedSb .slc 0))).sb 5).st = .draining ∧
    (nxt (exec (.foldTask 5) (closedSb .slc 0))).media.folding = false := by decide +kernel
def idle10 : State := { closedSb .slc 0 with media := { (closedSb .slc 0).media with folding := false } }
theorem witness_Media_idle : idle10.upkeepMay = true ∧ idle10.media.folding = false ∧ idle10.slcUsed ≠ 0 ∧
    idle10.elapsed idle10.pool.lastWriteAt 10000000000 = true := by decide +kernel
theorem test_foldIdleTimer : (nxt (exec .foldIdleTimer idle10)).media.folding = true := by decide +kernel
/-- Nearly every superblock is taken. -/
def full : State := closedSb .dense 22
/-- A zone superblock that garbage collection empties. -/
def zfull : State :=
  { full with media := { full.media with sbs := (5, { st := .closed, kind := .zone, laneRow := [(0, 64)] }) :: full.media.sbs.drop 1 } }
theorem witness_Media_gc : ((full.boundary 0x6402).upkeepMay = true ∧ 0 < (full.boundary 0x6402).groupCount ∧
    (full.boundary 0x6402).gcTerm 0 ≠ 0 ∧ (full.boundary 0x6402).gcVictim 0 = some 5) ∧ ((full.boundary 0x6402).sb 5).kind = .dense ∧
    (zfull.boundary 0x6402).gcVictim 0 = some 5 ∧ ((zfull.boundary 0x6402).sb 5).kind = .zone := by decide +kernel
theorem test_gcTask : ((nxt (exec (.gcTask 0) full)).sb 5).st = .draining := by decide +kernel
def worn (w : Nat) : State :=
  { med {} {} with media := { sbs := [(5, { st := .closed, kind := .dense, wear := w }), (6, { wear := 500 })] } }
theorem witness_Media_wear : ((worn 3).boundary 0x6402).upkeepMay = true ∧
    ((worn 3).boundary 0x6402).elapsed ((worn 3).boundary 0x6402).media.wearChecked hour = true ∧
    ((med {} {}).boundary 0x6402).wearSpread = false ∧
    (((worn 3).boundary 0x6402).wearSource.map (fun x => x.1)) = some 5 ∧ ((worn 3).boundary 0x6402).wearSpread = true := by decide +kernel
theorem test_wearLevelHourly : (nxt (exec .wearLevelHourly (worn 3))).media.wearChecked = 10 ^ 15 := by decide +kernel
theorem witness_Media_closure : (med { st := .open_, kind := .dense } {}).upkeepMay = true ∧ (med { st := .open_, kind := .dense } {}).closable_ 5 = true ∧
    (med { st := .open_, kind := .dense } {}).elapsed 0 ((med {} {}).pf 0x1A * Machine.sec / 2) = true ∧ (med dense1 {}).closable_ 5 = true ∧
    (med { st := .open_, kind := .zone } {}).closable_ 5 = true ∧ (med { st := .open_, kind := .zone } {}).laneHeld 5 0 = false ∧
    (med dense1 {}).planes = 4 := by decide +kernel
theorem test_idleClosure : ((nxt (exec (.idleClosure 5) (med dense1 {}))).sb 5).filler = true ∧
    (nxt (exec (.idleClosure 5) (med { st := .open_, kind := .dense } {}))).media.fillerCloses = 1 := by decide +kernel
theorem witness_Media_refresh : (closedSb .dense 0).upkeepMay = true ∧ ((closedSb .dense 0).sb 5).refreshQueued = true ∧
    ((closedSb .dense 0).sb 5).st = .closed ∧ ((closedSb .dense 0).sb 5).kind ≠ .zone := by decide +kernel
theorem test_refreshTask : ((nxt (exec (.refreshTask 5) (closedSb .dense 0))).sb 5).st = .draining ∧
    (nxt (exec (.refreshTask 5) (closedSb .dense 0))).media.readRefreshes = 1 := by decide +kernel
theorem witness_Media_patrol : ((med dense1 {}).boundary 0x6402).upkeepMay = true ∧ (((med dense1 {}).boundary 0x6402).sb 5).st ≠ .free ∧
    4 ∈ ((med dense1 {}).boundary 0x6402).members 5 ∧ ((med dense1 {}).boundary 0x6402).pf 0x1B = 60 := by decide +kernel
theorem test_patrolVisit : (nxt (exec (.patrolVisit 5 4 60 false) (med dense1 {}))).media.patrolRefreshes = 1 ∧
    Tbl.get 0 ((nxt (exec (.patrolVisit 5 4 59 false) (med dense1 {}))).sb 5).reads 4 = 1000 := by decide +kernel
def rebuilds (l : List (Nat × Sb)) : State := { med {} {} with media := { sbs := l, rebuildState := 1, degraded := true, rebuildLeft := 9 } }
def lostZone : State :=
  { rebuilds [(5, { st := .closed, kind := .zone, lost := [(3, 9)] })] with
    nss := [(1, { st := 1, kind := 1, nsze := 2 * zoneSize 0, attached := [0] })], zones := [(zkey 1 0, { st := .full, charge := 4, extent := at5 })] }
theorem witness_Media_rebuild : ((rebuilds []).boundary 0x6402).upkeepMay = true ∧ ((rebuilds []).boundary 0x6402).media.rebuildState = 1 ∧
    ((rebuilds []).boundary 0x6402).rebuildLost.rebuildStep.mediaPump.rebuilt = true ∧ (lostZone.boundary 0x6402).rebuilt = false := by
  decide +kernel
theorem test_rebuildTask : (nxt (exec .rebuildTask (rebuilds []))).media.rebuildState = 2 ∧
    (nxt (exec .rebuildTask (rebuilds []))).media.degraded = false := by decide +kernel

/-- Block 0 of a read waits for a codeword at a place. -/
def waitsCw (x : BlkRt) (c : Cmp) : State :=
  { med {} {} with tags := [(7, { st := .run, built := true, mapTaken := true, sqe := rd, nlb := 1, blks := [(0, { x with src := .flash at5 })] })]
                   nss := [(1, { st := 1, nsze := 64, attached := [0] })], cmp := c }
theorem witness_Escalation : (waitsCw {} {}).readWaits 7 0 = some at5 ∧ (waitsCw {} {}).stepNow 7 0 at5 = 1 ∧
    (waitsCw { escalation := 2 } {}).stepNow 7 0 at5 = 2 ∧ (waitsCw { escalation := 4 } {}).stepNow 7 0 at5 = 4 ∧
    (waitsCw {} {}).retryEntries ≤ ((waitsCw {} {}).blk 7 0).tries ∧ (waitsCw {} {}).pf 0x1B = 60 := by decide +kernel
/-- The same with a retry table of two settings. -/
def retries (x : BlkRt) (c : Cmp) : State :=
  let s := waitsCw x c
  { s with dict := { s.dict with inForce := (dkey 0x6400 0x1D, some (.bytes (List.replicate 16 1#8))) :: s.dict.inForce } }
theorem witness_Escalation_retry : (retries {} {}).readWaits 7 0 = some at5 ∧ (retries {} {}).retryEntries = 2 ∧
    ((retries {} {}).lun ((retries {} {}).locChannel at5) ((retries {} {}).locPos at5)).failRun < 63 := by decide +kernel
theorem test_hardDecodeDone : (nxt (exec (.hardDecodeDone 7 0 5 true true [1#8, 2#8]) (waitsCw {} {}))).blk 7 0
      = { (waitsCw {} {}).blk 7 0 with data := [1#8, 2#8], ready := true } ∧
    ((nxt (exec (.hardDecodeDone 7 0 5 false true []) (retries { tries := 1, escalation := 2 } {}))).blk 7 0).tries = 2 ∧
    (nxt (exec (.hardDecodeDone 7 0 5 false true []) (waitsCw {} {}))).cmp.softRun = [(7, 0)] ∧
    ((nxt (exec (.hardDecodeDone 7 0 5 true false []) (retries {} {}))).blk 7 0).wrong = true ∧
    posted (nxt (exec (.hardDecodeDone 7 0 5 false true []) (waitsCw { escalation := 4 } {}))) = some ⟨2, 0x81⟩ := by decide +kernel
theorem witness_Escalation_soft : (7, 0) ∈ (waitsCw { escalation := 3 } { softRun := [(7, 0)] }).cmp.softRun ∧
    (waitsCw { escalation := 3 } { softRun := [(7, 0)] }).readWaits 7 0 = some at5 ∧
    ((waitsCw { escalation := 3, wrong := true } { softRun := [(7, 0)] }).blk 7 0).wrong = true := by decide +kernel
theorem test_softDecodeDone : ((nxt (exec (.softDecodeDone 7 0 true [1#8]) (waitsCw { escalation := 3 } { softRun := [(7, 0)] }))).blk 7 0).ready = true ∧
    ((nxt (exec (.softDecodeDone 7 0 false []) (waitsCw { escalation := 3 } { softRun := [(7, 0)] }))).blk 7 0).escalation = 4 := by decide +kernel

/-- A channel under a profile that has four LUN positions. -/
def chn (c : Chan) (x : Lun) : State :=
  flash [((0x6400, 0x31), 3600), ((0x6400, 0x32), 1200), ((0x6400, 0x3A), 24), ((0x6400, 0x38), 4), ((0x6400, 0x0A), 100), ((0x6400, 8), 4),
    ((0x6402, 13), 4)] { late with chans := [(3, c)], luns := [(lkey 3 0, x)] }
theorem witness_Channels_train : ((chn { st := .training, rate := 3600 } {}).chan 3).st = .training ∧ 3 < Config.channels ∧
    (chn {} {}).pf 0x31 = 3600 ∧ (chn {} {}).pf 0x32 = 1200 ∧ lowerRate 3600 = 3200 ∧ lowerRate 800 = 0 := by decide +kernel
theorem test_channelTrainingResult :
    ((nxt (exec (.channelTrainingResult 3 true) (chn { st := .training, rate := 3600 } {}))).chan 3).st = .running ∧
    ((nxt (exec (.channelTrainingResult 3 true) (chn { st := .training, rate := 3200 } {}))).chan 3).st = .reduced ∧
    ((nxt (exec (.channelTrainingResult 3 false) (chn { st := .training, rate := 3600 } {}))).chan 3).rate = 3200 := by decide +kernel
theorem witness_Channels_fail : ((chn { st := .training, rate := 1200 } {}).chan 3).rate ≤ (chn {} {}).pf 0x32 ∧
    (chn { st := .running } {}).chanServes 3 = true ∧
    ([10 ^ 15] : List Nat).any (fun t => !(chn {} {}).elapsed t hour) = true ∧ ([5] : List Nat).any (fun t => !(chn {} {}).elapsed t hour) = false := by
  decide +kernel
theorem test_channelFails :
    ((nxt (exec (.channelTrainingResult 3 false) (chn { st := .training, rate := 1200 } {}))).chan 3).failCause = 1 ∧
    ((nxt (exec (.syncResetTimeout 3) (chn { st := .running } {}))).lun 3 2).failed = true ∧
    ((nxt (exec (.sequencerParityError 3 true) (chn { st := .running, zqTimes := [10 ^ 15] } {}))).chan 3).failCause = 3 ∧
    ((nxt (exec (.sequencerParityError 3 false) (chn { st := .running, parityTimes := [5] } {}))).chan 3).parityTimes = [10 ^ 15] := by
  decide +kernel
theorem witness_Channels_retrain : ((chn { st := .running } {}).chan 3).retraining = false ∧ ((chn { st := .running } {}).chan 3).retrainWanted = false ∧
    (chn { st := .running } {}).elapsed 0 ((chn {} {}).pf 0x3A * hour) = true := by decide +kernel
theorem test_retrain : ((nxt (exec (.retrain 3) (chn { st := .running } {}))).chan 3).retraining = true ∧
    ((nxt (exec (.retrainHoursTimer 3) (chn { st := .running, busActive := some ⟨true, 1, 4, 9⟩ } {}))).chan 3).retraining = false := by decide +kernel
theorem witness_Channels_step : ((chn { st := .running, retraining := true } {}).chan 3).busWait = [] ∧
    ((chn { st := .running, retraining := true, busWait := [⟨true, 1, 4, 9⟩] } {}).chan 3).busActive = none ∧
    ((chn { st := .running, retraining := true } {}).chan 3).retraining = true := by decide +kernel
theorem test_retrainStepDone :
    ((nxt (exec (.retrainStepDone 3 false false) (chn { st := .running, retraining := true } {}))).chan 3).st = .training ∧
    ((nxt (exec (.retrainStepDone 3 true false) (chn { st := .running, retraining := true, busWait := [⟨true, 1, 4, 9⟩] } {}))).chan 3).busActive
      = some ⟨true, 1, 4, 9⟩ ∧
    ((nxt (exec (.retrainStepDone 3 true true) (chn { st := .running, rate := 3600, retraining := true, retrainWanted := true } {}))).chan 3).retrainWanted
      = false := by decide +kernel
def busyRead : RunOp := ⟨⟨⟨.read, 0, 0, 0, 3, 1, true, 9⟩, 0, 0⟩, 0, 0, 0, 0, 0, []⟩
def busyErase : RunOp := ⟨⟨⟨.erase, 3, 0, 0, 3, 1, true, 9⟩, 0, 0⟩, 0, 0, 0, 0, 0, []⟩
theorem test_rbNHint : Out.dieCommand 3 0 "read status" ∈ (nxt (exec (.rbNHint 3) (chn { st := .running } { running := some busyRead }))).out := by
  decide +kernel
theorem witness_Channels_hint : ((chn { st := .running } { running := some busyRead }).lun 3 0).running.isSome = true ∧
    0 < (chn {} {}).positions := by decide +kernel
theorem witness_Channels_busy : (chn { st := .running } { running := some busyRead }).lunServes 3 0 = true ∧
    (chn { st := .running } { running := some busyRead }).busyTooLong 3 0 = true ∧
    ([10 ^ 15, 10 ^ 15 - 9] : List Nat).filter (fun t => !(chn {} {}).elapsed t (24 * hour)) = [10 ^ 15, 10 ^ 15 - 9] := by decide +kernel
theorem test_lunBusyTimeout :
    ((nxt (exec (.lunBusyTimeout 3 0) (chn { st := .running } { running := some busyRead }))).lun 3 0).resetPending = true ∧
    ((nxt (exec (.lunBusyTimeout 3 0) (chn { st := .running } { running := some busyRead, timeouts := [10 ^ 15, 10 ^ 15 - 9] }))).lun 3 0).failed = true := by
  decide +kernel
theorem witness_Channels_check : ((chn {} { resetPending := true, timeouts := [7] }).lun 3 0).resetPending = true ∧
    (chn {} {}).elapsed (([7] : List Nat).getLastD 0) 10000000 = true ∧ busyRead.w.op.kind ≠ .erase ∧ busyErase.w.op.kind = .erase := by decide +kernel
theorem test_lunResetCheck :
    ((nxt (exec (.lunResetCheck 3 0 true) (chn { st := .running } { resetPending := true, timeouts := [7] }))).lun 3 0).failed = true ∧
    ((nxt (exec (.lunResetCheck 3 0 false) (chn { st := .running } { resetPending := true, timeouts := [7], running := some busyErase }))).lun 3 0).running.map
      (fun r => r.w.op) = some busyErase.w.op := by decide +kernel
def resetRead : State :=
  { chn { st := .running } { resetPending := true, timeouts := [7], running := some busyRead } with
    tags := [(7, { st := .run, built := true, mapTaken := true, sqe := rd, nlb := 1, blks := [(0, { src := .flash ((chn {} {}).locOf 3 0 3 1 0 0) })] })] }
theorem witness_ResetEscalates : (resetRead.tag 7).st = .run ∧ (resetRead.blk 7 0).unread = true ∧
    resetRead.locChannel (resetRead.locOf 3 0 3 1 0 0) = 3 ∧ resetRead.locPos (resetRead.locOf 3 0 3 1 0 0) = 0 ∧
    resetRead.locBlock (resetRead.locOf 3 0 3 1 0 0) = 3 ∧ resetRead.locPlane (resetRead.locOf 3 0 3 1 0 0) = 0 ∧
    resetRead.locPage (resetRead.locOf 3 0 3 1 0 0) = 1 ∧
    ((nxt (exec (.lunResetCheck 3 0 false) resetRead)).blk 7 0).escalation = 4 := by decide +kernel

/-- 4,096 bytes of one value, and the image of one run token that codes them. -/
def sevens : List Byte := List.replicate 4096 7#8
def sevensImage : List Byte := [3#8, 0x10#8, 207#8, 255#8, 7#8]
/-- A write whose block 0 is in stream SRAM and waits for a lane. -/
def codes (mode : Nat) (c : Cmp) : State :=
  { live with tags := [(7, { st := .run, built := true, sqe := io 1 0 0, nlb := 1, mode := mode, blks := [(0, { data := [1#8], arrived := true })] })]
              drams := [(0, { st := 2 }), (1, { st := 2 })], cmp := c }
/-- The same write with a block of 4,096 bytes of one value. -/
def codes7 : State :=
  { codes 1 {} with tags := [(7, { (codes 1 {}).tag 7 with blks := [(0, { data := sevens, arrived := true })] })] }
/-- An image of one run token codes a block of one value. -/
theorem run_image (t x v : Byte) (n : Nat) (h : 192 ≤ t.toNat) (hn : (t.toNat % 64) * 256 + x.toNat + 1 = n) (h4 : n = 4096) :
    slotDecode [3#8, 0x10#8, t, x, v] = some (List.replicate n v) := by
  have h1 : ¬ t.toNat < 64 := by omega
  have h2 : ¬ t.toNat < 128 := by omega
  have h3 : ¬ t.toNat < 192 := by omega
  have hl : (List.replicate n v).length = 4096 := by rw [List.length_replicate, h4]
  have e : slotTokens 4 [t, x, v] [] = some (List.replicate n v) := by
    simp [slotTokens, h1, h2, h3, hn]
  have e' : slotTokens (3 + 1) (List.take 3 [t, x, v]) [] = some (List.replicate n v) := e
  show (if (3 + 256 * 16) / 4096 = 1 ∧ (3 + 256 * 16) % 4096 + 2 ≤ 3072 ∧ (3 + 256 * 16) % 4096 ≤ [t, x, v].length ∧
    (([t, x, v].drop ((3 + 256 * 16) % 4096)).all (fun y => y == 0#8)) = true then
      (match slotTokens ((3 + 256 * 16) % 4096 + 1) ([t, x, v].take ((3 + 256 * 16) % 4096)) [] with
        | some out => if out.length = 4096 then some out.reverse else none
        | none => none) else none) = _
  rw [if_pos (by simp), show (3 + 256 * 16) % 4096 = 3 from rfl, e']
  simp only [hl, if_true, List.reverse_replicate]
theorem witness_Compression_image : slotDecode sevensImage = some (codes7.blk 7 0).data :=
  run_image 207#8 255#8 7#8 4096 (by decide) (by decide) rfl
def laneOut (img : List Byte) (t r : Bool) : Coded := ⟨img, t, r⟩
theorem witness_Compression_unit : (34 : Nat) ≤ 36 ∧ (laneOut [] true true).residueBad = true ∧ (2 : Nat) ∈ ({ unitMismatch := [2] } : Cmp).unitMismatch := by decide
theorem test_unitMismatch : (nxt (exec (.blockEncodeDone 7 0 36 (laneOut [] true true)) (codes 1 {}))).cmp.unitMismatch = [2] ∧
    (nxt (exec (.blockEncodeDone 7 0 36 (laneOut [] true true)) (codes 1 { unitMismatch := [2] }))).cmp.twinUsed = [2] ∧
    (nxt (exec (.blockEncodeDone 7 0 36 (laneOut [] true true)) (codes 1 { unitMismatch := [2], twinUsed := [2] }))).mode.fatal = 4 := by
  decide +kernel
theorem witness_Compression_encode : (codes 1 {}).codable 7 0 = true ∧ ((codes 1 {}).tag 7).mode = 1 ∧ (codes 1 {}).laneServes 5 = true ∧
    (codes7.tag 7).st = .run ∧ codes7.codable 7 0 = true ∧ (codes 1 {}).pairFor 7 = some 0 ∧ slotOf sevensImage.length ≠ 3 := by decide +kernel
theorem test_blockEncodeDone :
    ((nxt (exec (.blockEncodeDone 7 0 5 (laneOut sevensImage false false)) (codes 1 {}))).wblk 1).slot = 3 := by decide +kernel
theorem witness_Compression_mismatch : slotDecode [] ≠ some ((codes 1 {}).blk 7 0).data ∧ laneHalfA 5 = true ∧ laneHalfA 20 = false ∧
    (codes 2 {}).codable 7 0 = true ∧ (5 : Nat) ∈ (codes 1 { firstMismatch := [5] }).cmp.firstMismatch := by decide +kernel
theorem test_laneMismatch :
    (nxt (exec (.blockEncodeDone 7 0 5 (laneOut [] true false)) (codes 1 {}))).cmp.checkMismatches = 1 ∧
    (nxt (exec (.blockEncodeDone 7 0 5 (laneOut [] true true)) (codes 1 { firstMismatch := [5] }))).cmp.spareA = some 5 := by decide +kernel
/-- A read whose block 0 holds an image. -/
def decodes (mode slot : Nat) (img : List Byte) : State :=
  flash [] { codes 1 {} with tags := [(7, { st := .run, built := true, mapTaken := true, sqe := rd, nlb := 1, blks := [(0, { src := .flash 0, mode := mode, slot := slot, coded := img })] })] }
def decodesRetry : State :=
  let s := decodes 1 0 [9#8]
  { s with dict := { s.dict with inForce := (dkey 0x6400 0x1D, some (.bytes (List.replicate 16 1#8))) :: s.dict.inForce } }
theorem witness_Compression_decode : (decodes 1 0 sevensImage).decodable 7 0 1 = true ∧ (decodes 1 0 sevensImage).lanesLeft = true ∧
    (decodes 2 3 sevensImage).decodable 7 0 2 = true ∧ decodesRetry.stepNow 7 0 0 = 1 ∧ 0 < decodesRetry.retryEntries ∧
    slotDecode [9#8] = none ∧ decodesRetry.decodable 7 0 1 = true := by decide +kernel
theorem test_slotDecodeDone : ((nxt (exec (.slotDecodeDone 7 0) (decodes 1 0 sevensImage))).blk 7 0).data.length = 4096 ∧
    ((nxt (exec (.slotDecodeDone 7 0) decodesRetry)).blk 7 0).escalation = 2 := by decide +kernel
theorem test_ocxonCodeDone : ((nxt (exec (.ocxonCodeDone 7 0 5 false (laneOut [] true false)) (decodes 2 3 sevensImage))).blk 7 0).data = sevensImage ∧
    (nxt (exec (.ocxonCodeDone 7 0 5 true (laneOut [] true false)) (codes 2 {}))).cmp.checkMismatches = 1 := by decide +kernel
theorem witness_Compression_ocxon : (codes 2 {}).codable 7 0 = true ∧ ((codes 2 {}).tag 7).mode = 2 ∧ (codes 2 {}).laneServes 5 = true ∧
    (([] : List Byte) ≠ ocxonEncode ((codes 2 {}).cfg 0x5800 0x21) ((codes 2 {}).ocxSetting 1) ((codes 2 {}).cfg 0x5800 0x23) ((codes 2 {}).blk 7 0).data) := by
  decide +kernel

/-- Channel 0 is as given; channels 1 to 3 are in service. -/
def drm (d : Dram) : State :=
  conf [((0x7801, 3), 4), ((0x7801, 4), 8), ((0x7801, 5), 1000), ((0x7801, 6), 10), ((0x7800, 5), 6400), ((0x7800, 9), 1), ((0x7800, 10), 80),
      ((0x7800, 11), 240), ((0x7900, 5), 1), ((0x7900, 3), 100), ((0x7900, 4), 100), ((0x7900, 6), 24)]
    { late with drams := [(0, d), (1, { st := 2 }), (2, { st := 2 }), (3, { st := 2 })] }
def plc : DramPlace := ⟨0, 1, 0, 2, 3, 77, 5⟩
theorem witness_Dram_trefi : (drm { st := 2 }).dramUp 0 = true ∧ ((drm { st := 2, panic := true }).boundary 0x7801).cfg 0x7801 4 = 8 ∧
    ((drm { st := 2, raa := [(3, 90)] }).boundary 0x7801).cfgB 0x7800 9 = true ∧
    ((drm { st := 2, raa := [(3, 90)] }).boundary 0x7801).cfg 0x7800 10 = 80 := by decide +kernel
theorem test_trefiBoundary :
    (Tbl.get {} (nxt (exec (.trefiBoundary 0 1 false) (drm { st := 2, panic := true }))).ranks (rankKey 0 1)).owed = 1 ∧
    (nxt (exec (.trefiBoundary 0 0 true) (drm { st := 2, raa := [(3, 90)] }))).dram 0 = { st := 2, raa := [(3, 10)], rfm := 1 } := by decide +kernel
theorem test_realtimeBurstStaged : ((nxt (exec (.realtimeBurstStaged 0 3 1) (drm { st := 2 }))).dram 0).panic = true ∧
    ((nxt (exec (.realtimeBurstStaged 0 8 1) (drm { st := 2, panic := true, panicSince := 10 ^ 15 - 5000 }))).dram 0).panicUs = 5 := by decide +kernel
theorem witness_Dram_staged : (drm { st := 2 }).dramUp 0 = true ∧ (8 : Nat) ≤ 16 := by decide +kernel
def acted (n : Nat) : State := drm { st := 2, acts := [(bankKey plc, 77, n)] }
theorem witness_Dram_read : (acted 5).dramUp plc.channel = true ∧
    ((acted 5).dram 0).acts.find? (fun x => x.1 == bankKey plc && x.2.1 == plc.row) = some (bankKey plc, 77, 5) ∧
    5 + 1 < (acted 5).cfg 0x7801 5 ∧ (acted 999).cfg 0x7801 5 ≤ 999 + 1 ∧ (acted 5).cfg 0x7801 6 ≥ 2 ∧
    ((acted 5).dram 0).corrTimes = [] ∧ ((acted 5).dram 0).marks = [] ∧ ((acted 5).recent [] hour).length < 3 := by decide +kernel
theorem test_dramReadComplete :
    ((nxt (exec (.dramReadComplete plc .clean true .other) (acted 999))).dram 0).neighbourRefreshes = 1 ∧
    ((nxt (exec (.dramReadComplete plc (.corrected 6 5) true .other) (acted 5))).dram 0).marks = [(2, 6)] ∧
    ((nxt (exec (.dramReadComplete plc (.uncorrectable 6) true .other) (acted 5))).dram 0).mirrorRepairs = 1 ∧
    (nxt (exec (.dramReadComplete plc (.uncorrectable 6) true .other) (acted 5))).regs.eccCount = 1 := by decide +kernel
theorem witness_Dram_fail : ((drm { st := 1, retraining := true }).dram 0).st ≠ 4 ∧ ((drm { st := 1, rate := 4800 }).dram 0).rate ≠ 5600 ∧
    (drm { st := 2, parityTimes := [10 ^ 15] }).recent [10 ^ 15] hour ≠ [] ∧ plc.subch * 2 + plc.rank = 2 ∧
    ([(2, 7)] : List (Nat × Nat)).find? (fun m => m.1 == 2) = some (2, 7) ∧ ((2, 7) : Nat × Nat).2 ≠ 6 ∧
    3 ≤ ((drm { st := 2 }).recent [10 ^ 15, 10 ^ 15, 10 ^ 15] hour).length := by decide +kernel
theorem test_dramFails :
    ((nxt (exec (.dramTrainingResult 0 false true) (drm { st := 1, rate := 4800 }))).dram 0).cause = 1 ∧
    ((nxt (exec (.dramParityError 0) (drm { st := 2, parityTimes := [10 ^ 15] }))).dram 0).cause = 5 ∧
    ((nxt (exec (.dramReadComplete plc (.uncorrectable 6) true .other) (drm { st := 2, marks := [(2, 6)] }))).dram 0).cause = 3 ∧
    ((nxt (exec (.dramReadComplete plc (.corrected 6 5) true .other) (drm { st := 2, marks := [(2, 7)] }))).dram 0).cause = 4 := by decide +kernel
theorem witness_Dram_training : ((drm { st := 1, rate := 6400 }).dram 0).retraining = false ∧ ((drm { st := 1, rate := 5600 }).dram 0).st = 1 ∧
    (drm {}).cfg 0x7800 5 = 6400 := by decide +kernel
theorem test_dramTrainingResult : ((nxt (exec (.dramTrainingResult 0 true true) (drm { st := 1, rate := 5600 }))).dram 0).st = 3 ∧
    ((nxt (exec (.dramTrainingResult 0 false true) (drm { st := 1, rate := 6400 }))).dram 0).rate = 5600 := by decide +kernel
theorem test_dramParityError : ((nxt (exec (.dramParityError 0) (drm { st := 2 }))).dram 0).parityTimes = [10 ^ 15] := by decide +kernel
theorem witness_Dram_remirror : ({ live with regs := { live.regs with eccRemirror := true } } : State).regs.eccRemirror = true ∧
    live.wbuf.blks.any (fun x => x.2.committed && x.2.program.isNone && x.2.copyA != x.2.copyB) = false := by decide +kernel
theorem test_remirrorComplete : (nxt (exec .remirrorComplete { live with regs := { live.regs with eccRemirror := true } })).regs.eccRemirror = false := by
  decide +kernel
theorem witness_Dram_timers : ((drm { st := 2, zqFails := 1 }).dram 0).zqFails ≠ 0 ∧ ((drm { st := 2, dqsFails := 1 }).dram 0).dqsFails ≠ 0 ∧
    ((drm { st := 2 }).dram 0).retraining = false := by decide +kernel
theorem test_dramTimers : ((nxt (exec (.zqCalibrationTimer 0 false) (drm { st := 2, zqFails := 1 }))).dram 0).retraining = true ∧
    ((nxt (exec (.dqsOscillatorTimer 0 3 true) (drm { st := 2 }))).dram 0).dqsDelay = 3 ∧
    ((nxt (exec (.dqsOscillatorTimer 0 3 false) (drm { st := 2, dqsFails := 1 }))).dram 0).retraining = true := by decide +kernel

def tailed9 : State := { drm { st := 2 } with jrn := { tail := [⟨5, 1, 1, 0, 7, 0, 0⟩], next := 6 } }
theorem witness_Chip_merge : tailed9.dramUp 0 = true ∧ tailed9.tailChannel = 0 ∧ tailed9.tailMerges = true ∧ recBytes tailed9.jrn.tail / 64 = 0 := by
  decide +kernel
theorem test_mergeHoldExpiry : (nxt (exec (.mergeHoldExpiry 0 0 .clean true) tailed9)).jrn.merged = (5, recBytes tailed9.jrn.tail) ∧
    (nxt (exec (.mergeHoldExpiry 0 0 .uncorrectable false) tailed9)).chip.partialRefused = 1 := by decide +kernel
theorem witness_Chip_sram : ((drm {}).boundary 0x7900).scrubMay (scrubber .tagStore).1 3 = true ∧ ((drm {}).boundary 0x7900).arrayRuns .tagStore = true ∧
    ((drm {}).boundary 0x7900).scrubMay (scrubber (.engineMemory 3)).1 3 = true ∧ ((drm {}).boundary 0x7900).arrayRuns (.engineMemory 3) = true ∧
    ((drm {}).boundary 0x7900).scrubMay (scrubber (.cmb 1)).1 3 = true ∧ ((drm {}).boundary 0x7900).chip.correctedWords = [] := by decide +kernel
def corrected2 : State := { drm {} with chip := { correctedWords := [(0, 9, 2, 10 ^ 15), (0, 9, 4, 10 ^ 15)] } }
theorem witness_Chip_third : (corrected2.boundary 0x7900).elapsed (10 ^ 15) (24 * hour) = false ∧ macroOf .tagStore 7 = 0 ∧ (2 : Nat) / 2 ≠ 4 / 2 ∧ (2 : Nat) / 2 ≠ 7 := by
  decide +kernel
theorem test_sramScrubStep : (nxt (exec (.sramScrubStep .tagStore 9 7 .clean false) (drm {}))).chip.scrubSteps = [(0, 1)] ∧
    (nxt (exec (.sramScrubStep .tagStore 9 7 .corrected false) corrected2)).chip.failing = [(0, 9)] ∧
    (nxt (exec (.sramScrubStep .tagStore 9 7 .corrected true) (drm {}))).chip.writebackCancelled = 1 ∧
    ((nxt (exec (.sramScrubStep (.engineMemory 3) 9 65536 .uncorrectable false) (drm {}))).engine 25).failed = true ∧
    ((nxt (exec (.sramScrubStep (.cmb 1) 9 80 .uncorrectable false) (drm {}))).port 1).cmbMarked = [(10, true)] := by decide +kernel
def engCorr (l : List Nat) : State := { drm {} with engines := [(24, { corrected := l })] }
theorem witness_Chip_engine : 2 ≤ ((engCorr [10 ^ 15, 10 ^ 15]).recent ((engCorr [10 ^ 15, 10 ^ 15]).engine 24).corrected hour).length ∧
    3 % 16 * 8 + 7 / 65536 % 8 = 24 ∧ (engCorr []).recent ((engCorr []).engine 24).corrected hour = [] := by decide +kernel
theorem test_sramScrubStep_engine :
    ((nxt (exec (.sramScrubStep (.engineMemory 3) 9 7 .corrected false) (engCorr [10 ^ 15, 10 ^ 15]))).engine 24).failed = true := by decide +kernel
theorem witness_Chip_dram : ((drm { st := 2 }).boundary 0x7900).dramUp plc.channel = true ∧ ((drm { st := 2 }).boundary 0x7900).scrubMay 65 4 = true := by
  decide +kernel
theorem test_dramScrubStep : (nxt (exec (.dramScrubStep plc (.corrected 6 4) true .other true) (drm { st := 2 }))).chip.writebackCancelled = 1 ∧
    (nxt (exec (.dramScrubStep plc .clean true .other false) (drm { st := 2 }))).chip.lastStep = [(65, 10 ^ 15)] := by decide +kernel

def inMode (b : Base) (a : Aon) : State := { late with mode := { live.mode with base := b }, aon := { a with now := 10 ^ 15 } }
def railsGood : Aon := { auxOk := true, mainPg := true, crystal25 := true }
theorem witness_Power_aux : (inMode .unpowered {}).aon.auxOk = false ∧ (inMode .dormant railsGood).aon.auxOk = true ∧ (inMode .service railsGood).awake = true := by
  decide +kernel
theorem test_auxPower : (nxt (exec .auxPowerOn (inMode .unpowered {}))).mode.base = .dormant ∧
    (nxt (exec .auxPowerLoss (inMode .dormant railsGood))).mode.base = .unpowered ∧
    (nxt (exec .auxPowerLoss (inMode .service railsGood))).mode.base = .service := by decide +kernel
theorem witness_Power_start : (inMode .dormant railsGood).bootSlot = some 1 ∧ ((inMode .dormant railsGood).aon.strapTest && (inMode .dormant railsGood).debugOpen) = false ∧
    (inMode .dormant railsGood).mayStart = true ∧ (inMode .flush railsGood).flushHeld = false ∧
    (inMode .flush railsGood).elapsed (inMode .flush railsGood).mode.flushAt 10000000 = true := by decide +kernel
theorem test_bringUpBegins :
    (nxt (exec .mainPgTrue (inMode .dormant { railsGood with mainPg := false }))).mode.base = .bringUp ∧
    (nxt (exec .crystalQualified (inMode .dormant { railsGood with crystal25 := false }))).mode.base = .bringUp ∧
    (nxt (exec (.powerControlRelease false) (inMode .dormant { railsGood with pln := true }))).mode.base = .bringUp ∧
    (nxt (exec .thermalHoldEnd { inMode .dormant { railsGood with thermalHold := true } with thermal := { coolSince := some 5 } })).mode.lastCause = 22 ∧
    (nxt (exec .flushRestartTimer { inMode .flush railsGood with mode := { live.mode with base := .flush, restartWait := true } })).mode.lastCause = 21 := by
  decide +kernel
theorem test_pinsAwake : (nxt (exec .mainPgTrue (inMode .service { railsGood with mainPg := false }))).aon.mainPg = true ∧
    (nxt (exec (.powerControlRelease true) (inMode .flush { railsGood with pwrdis := true }))).aon.pwrdis = false := by decide +kernel
theorem witness_Power_pins : (inMode .service { railsGood with mainPg := false }).mode.base ≠ .dormant ∧ (inMode .flush { railsGood with pwrdis := true }).aon.pwrdis = true ∧
    (inMode .service {}).aon.crystal25 = false := by decide +kernel
theorem witness_Power_down : (inMode .service railsGood).aon.mainPg = true ∧ (inMode .bringUp { railsGood with auxOk := false }).awake = true := by decide +kernel
theorem test_mainPgFalse : (nxt (exec .mainPgFalse (inMode .service railsGood))).mode.lastCause = 12 ∧
    (nxt (exec .mainPgFalse (inMode .bringUp { railsGood with auxOk := false }))).mode.base = .unpowered := by decide +kernel
def withCmd : State := { inMode .service railsGood with tags := [(7, { st := .run, built := true, sqe := rd, nlb := 1 })] }
theorem witness_Power_loss : withCmd.inService = true ∧ (withCmd.tag 7).st.uncommitted = true ∧ withCmd.aon.pln = false ∧ withCmd.aon.pwrdis = false := by decide +kernel
theorem test_powerLoss : (nxt (exec .powerLossNotify withCmd)).mode.base = .flush ∧ posted (nxt (exec .powerDisable withCmd)) = some ⟨0, 5⟩ ∧
    (nxt (exec .powerDisable (inMode .bringUp railsGood))).mode.lastCause = 10 := by decide +kernel
def flushing1 (post : Bool) (a : Aon) : State :=
  { inMode .flush a with mode := { live.mode with base := .flush, postWindow := post, flushAt := 5000 } }
theorem witness_Power_flush : (flushing1 true railsGood).elapsed (flushing1 true railsGood).mode.flushAt ((flushing1 true railsGood).cfg 0x8040 2 * usec) = true ∧
    (flushing1 false railsGood).flushHeld = false ∧ (flushing1 false { railsGood with pln := true }).flushHeld = true ∧
    (flushing1 false railsGood).media.progs.any (fun p => p.2.live) = false := by decide +kernel
theorem test_postWindowEnd : ((nxt (exec .postWindowEnd (flushing1 true railsGood))).port 0).stayDown = true ∧
    (nxt (exec .flushEnd (flushing1 false railsGood))).mode.restartWait = true ∧
    (nxt (exec .flushEnd (flushing1 false { railsGood with pln := true }))).mode.base = .dormant ∧
    (nxt (exec .flushEnd (flushing1 false { railsGood with auxOk := false }))).mode.base = .unpowered := by decide +kernel
def found0 : Recovered := ⟨none, true, [], 5, []⟩
def brings (ds : List (Nat × Dram)) : State := { inMode .bringUp railsGood with drams := ds }
theorem witness_Power_bringUp : (brings []).trainingsDone = true ∧ (brings []).fatalNow = 6 ∧ (brings [(0, { st := 2 })]).fatalNow = 0 ∧
    (brings [(0, { st := 2 })]).recov.sanitizeRecord = 0 ∧ (brings []).mode.fatal = 0 ∧ found0.badTargets = [] := by decide +kernel
theorem test_bringUpComplete : (nxt (exec (.bringUpComplete found0) (brings []))).mode.fatal = 6 ∧
    (nxt (exec (.bringUpComplete found0) (brings [(0, { st := 2 })]))).mode.base = .service ∧
    (nxt (exec (.bringUpComplete found0) { brings [(0, { st := 2 })] with mode := { base := .bringUp, bringupEvent := 2 } })).mode.lastCause = 5 := by
  decide +kernel
def entering1 : State := { inMode .service railsGood with mode := { live.mode with maintEntry := true, entryCkpt := true, maintCauses := 1 } }
theorem witness_Power_entry : entering1.mode.maintEntry = true ∧ entering1.mode.entryCkpt = true ∧ entering1.jrn.ckptRunning = false ∧ entering1.inService = true := by
  decide +kernel
theorem test_maintenanceEntryDone : (nxt (exec .maintenanceEntryDone entering1)).mode.lastCause = 16 := by decide +kernel
theorem witness_Power_hold : ({ inMode .dormant { thermalHold := true } with aon := { thermalHold := false } } : State).mayStart = false ∧
    (inMode .dormant {}).elapsed 5 60000000000 = true ∧ (inMode .dormant {}).aon.crystal25 = false := by decide +kernel
theorem test_clocks : (nxt (exec .crystalQualifyTimeout (inMode .dormant {}))).ras.lastSeq = 1 ∧
    (nxt (exec .slowCrystalFailure (inMode .service { railsGood with crystal32 := true }))).aon.crystal32 = false ∧
    (nxt (exec .refclkStop (inMode .service { railsGood with refclk0 := true, refsel := true }))).mode.base = .service ∧
    ((nxt (exec .refclkStop (inMode .service { railsGood with refclk0 := true, refsel := true }))).port 0).dlDowns = 1 ∧
    (nxt (exec .refclkRestored (inMode .service { railsGood with refclk0 := false, refsel := true, pllsOn := true }))).aon.pllOnRefclk = true := by decide +kernel
theorem witness_Power_refclk : ((inMode .service {}).port 0).linkUp = true ∧ (inMode .service { railsGood with crystal32 := true }).aon.crystal32 = true := by
  decide +kernel
theorem test_figures : (nxt (exec (.powerEstimateInterval 41000) live)).mode.overMs = 100 ∧
    Out.led 50 ∈ (nxt (exec .ledActInterval (inMode .service { railsGood with ledCompletion := true }))).out := by decide +kernel

/-- Junction sensor 12 in zone 0, with the shutdown at 100 and the throttling from 80 by 5. -/
def hot (l : List (Nat × Sensor)) (z : TZone) : State :=
  conf [((0x8110, 2), 4096), ((0x8110, 4), 70), ((0x8110, 5), 80), ((0x8110, 6), 5), ((0x8110, 7), 100), ((0x8110, 8), 3), ((0x8100, 1), 105), ((0x8100, 2), 10),
      ((0x8100, 3), 1), ((0x8100, 4), 100), ((0x8100, 5), 3), ((0x8110, 1), 1)]
    { late with thermal := { sensors := l, zones := [(0, z)] } }
def allAt (q : Int) : List Sample := List.replicate 18 (some q)
theorem witness_Heat_round : (allAt 400).length = 18 ∧ (hot [] {}).mode.base ≠ .unpowered ∧
    ((hot [] {}).boundaries (fun i => decide (0x8100 ≤ i ∧ i ≤ 0x8131))).sampleOf 12 ((allAt 400).getD 12 none) = some 400 ∧
    ((hot [] {}).boundaries (fun i => decide (0x8100 ≤ i ∧ i ≤ 0x8131))).sampleOf 12 none = none := by decide +kernel
theorem test_thermalSampleRound : ((nxt (exec (.thermalSampleRound (allAt 400)) (hot [] {}))).sensor 12).readingQ = 400 ∧
    (nxt (exec (.thermalSampleRound (allAt 840)) (hot [] {}))).mode.base = .flush := by decide +kernel
theorem witness_Heat_zone : (List.range 18).filter (fun k => (hot [] {}).inZone 0 k) = [12] ∧
    ((hot [(12, { readingQ := 690 })] {}).sensor 12).readingQ < ((8 * (hot [] {}).cfg 0x8110 7 : Nat) : Int) ∧
    (hot [(12, { readingQ := 690 })] {}).junctionsHot = [] ∧ 2 ≤ (hot [] {}).junctionsGood.length ∧ (hot [] {}).stepFor 0 690 = 2 ∧
    (hot [(12, { broken := true })] {}).junctionsGood.length = 5 := by decide +kernel
theorem test_zoneTake : (((hot [(12, { readingQ := 690 })] {}).zoneTake 0).tzone 0).step = 2 ∧
    (((hot [(12, { readingQ := 610 })] { step := 1 }).zoneTake 0).tzone 0).step = 0 ∧
    (((hot [(12, { broken := true })] {}).zoneTake 0).tzone 0).step = 4 := by decide +kernel
theorem witness_Heat_shutdown : (hot [] {}).inService = true ∧ (flushing1 true railsGood).mode.base = .flush := by decide +kernel

theorem witness_Failures_end : live.awake = true ∧ live.mode.fatal = 0 ∧ (0, 0) ∈ live.funcs.map (fun y => (y.1 / 256, y.1 % 256)) ∧
    (live.func 0 0).here = true := by decide +kernel
theorem test_serviceEnds : (nxt (exec .aonHeartbeatLoss live)).mode.fatal = 1 ∧ ((nxt (exec .fabricCoreFailure live)).func 0 0).cfs = true := by decide +kernel
def links (l : List Nat) : State := { live with cmp := { failedLinks := l } }
theorem witness_Failures_link : (5 : Nat) ∉ (links []).cmp.failedLinks ∧ (5 + 24) % 48 ∈ (links [29]).cmp.failedLinks := by decide +kernel
theorem test_fabricLinkCrcFailure : (nxt (exec (.fabricLinkCrcFailure 5) (links []))).cmp.failedLinks = [5] ∧
    (nxt (exec (.fabricLinkCrcFailure 5) (links [29]))).mode.fatal = 2 := by decide +kernel
theorem witness_Failures_soft : live.softIdle 3 = true := by decide +kernel
theorem test_softDecoderSelfTest : (nxt (exec (.softDecoderSelfTest 3 false) live)).cmp.softFailed = [3] := by decide +kernel
def porty (x : Port) (d : Bool) : State := { live with ports := [(0, { x with perst := false, linkUp := true }), (1, { perst := false, linkUp := true })], aon := { live.aon with portDual := d } }
theorem witness_Failures_port : (porty {} false).portExists 0 = true ∧ ((porty {} false).port 0).failed = false ∧ (porty {} true).dual = true ∧
    (porty {} false).dual = false ∧ (porty { parityErrors := [0] } false).recent [0] hour ≠ [] := by decide +kernel
theorem test_portFailure : ((nxt (exec (.portFailure 0 true) (porty {} false))).port 0).loopbackFails = 1 ∧
    (nxt (exec (.portFailure 0 true) (porty { loopbackFails := 2 } false))).mode.fatal = 7 ∧
    ((nxt (exec (.portFailure 0 false) (porty { parityErrors := [0] } true))).port 0).linkUp = false := by decide +kernel

def mg (m : Mgmt) : State := { late with mgmt := m }
theorem witness_Mi_bus : (mg { i3c := true }).pathUp .twoWire = true ∧ (mg { i3c := true }).mgmt.i3c = true := by decide +kernel
theorem test_dynamicAddress : (nxt (exec (.setDynamicAddress 9) (mg {}))).mgmt.dynAddr = 9 ∧
    (nxt (exec .resetDynamicAddress (mg { i3c := true, dynAddr := 9 }))).mgmt.i3c = false := by decide +kernel
def pkt (som eom : Bool) : McPacket := ⟨.twoWire, 30, 2, false, som, eom, 4, [1#8, 2#8]⟩
def withEid (l : List Reasm) : State := mg { eids := [(0, 20)], reasm := l }
def part : Reasm := ⟨.twoWire, 30, 2, 4, [7#8]⟩
theorem witness_Mi_packet : (withEid []).mctpUp .twoWire = true ∧ (withEid []).packetLimit .twoWire = 64 ∧
    Tbl.get 0 (mg {}).mgmt.eids (MPath.code .twoWire) = 0 ∧ Tbl.get 0 (withEid []).mgmt.eids (MPath.code .twoWire) ≠ 0 ∧
    mctpTypes.contains 4 = true ∧ mctpTypes.contains 9 = false ∧
    ((withEid [part]).mgmt.reasm.filter (fun r => decide (r.path = .twoWire))).find? (sameMessage (pkt false true)) = some part ∧
    ((withEid []).mgmt.reasm.filter (fun r => decide (r.path = .twoWire))).find? (sameMessage (pkt false true)) = none := by decide +kernel
theorem test_mctpPacket : (nxt (exec (.mctpPacket (pkt true false)) (mg {}))).mgmt.mctpDrops = 1 ∧
    (nxt (exec (.mctpPacket (pkt true false)) (withEid []))).mgmt.reasm = [⟨.twoWire, 30, 2, 4, [1#8, 2#8]⟩] ∧
    Out.mgmt .twoWire "message received" 4 ∈ (nxt (exec (.mctpPacket (pkt false true)) (withEid [part]))).out := by decide +kernel
theorem test_mctpControl : (nxt (exec (.setEndpointId .twoWire 8) (mg {}))).mgmt.eids = [(0, 8)] ∧
    (nxt (exec (.setEndpointId .twoWire 255) (mg {}))).mgmt.eids = [] ∧
    (nxt (exec (.getMessageTypeSupport .twoWire) (mg {}))).out.length = 1 := by decide +kernel
def ctl : State := { mg {} with slices := [(0, { st := .bound })] }
theorem witness_Mi_control : (mg {}).mctpUp .twoWire = true ∧ (8 : Nat) ≤ 254 ∧ ctl.ctrlHere 1 = true ∧ ctl.ctrlHere 0 = false ∧ ctl.mctpUp .twoWire = true := by
  decide +kernel
theorem test_nvmeMi : Out.mgmt .twoWire "NVMe-MI data structure" (1 + 65536) ∈ (nxt (exec (.readNvmeMiDataStructure .twoWire 2) ctl)).out ∧
    (nxt (exec (.subsystemHealthStatusPoll .twoWire) ctl)).out.length = 1 ∧
    Out.mgmt .twoWire "controller health: invalid parameter" 9 ∈ (nxt (exec (.controllerHealthStatusPoll .twoWire 9) ctl)).out := by decide +kernel
theorem test_configuration : (nxt (exec (.configurationSet .twoWire 2 5) (mg { healthChange := 7 }))).mgmt.healthChange = 2 ∧
    Out.mgmt .twoWire "transmission unit" 64 ∈ (nxt (exec (.configurationGet .twoWire 3) (mg {}))).out := by decide +kernel
theorem witness_Mi_reset : ctl.awake = true ∧ ctl.dual = false ∧ ({ ctl with aon := { ctl.aon with portDual := true } } : State).dual = true := by decide +kernel
theorem test_nvmeMiReset : ((nxt (exec (.nvmeMiReset .twoWire) ctl)).port 0).lastReset = 5 := by decide +kernel
theorem witness_Mi_admin : ctl.roleOf (.mctp .twoWire none) = .monitor ∧ miMonitor 6 = true ∧ miMonitor 9 = false ∧
    ({ ctl with mgmt := { sessions := [⟨3, .twoWire, 1, 2, true, 0, 0⟩] } } : State).roleOf (.mctp .twoWire (some 3)) = .manager ∧ adminOpcode true 9 = true := by
  decide +kernel
theorem test_nvmeMiAdminCommand : ((nxt (exec (.nvmeMiAdminCommand .twoWire none 1 (ent 6 0 0)) ctl)).tag 0).mi = some .twoWire ∧
    Out.mgmt .twoWire "admin status" 1 ∈ (nxt (exec (.nvmeMiAdminCommand .twoWire none 1 (ent 9 0 0)) ctl)).out := by decide +kernel

theorem witness_Spdm_path : (mg {}).pathUp .twoWire = true ∧ (mg {}).lifecycle ≠ 5 ∧
    Tbl.get false (mg { negotiated := [(0, true)] }).mgmt.negotiated (MPath.code .twoWire) = true ∧
    (4 : Nat) ≤ ((List.replicate 4 (⟨3, .twoWire, 1, 2, true, 0, 0⟩ : Session)).filter (fun x => decide (x.path = .twoWire))).length := by decide +kernel
theorem test_spdm : Out.mgmt .twoWire "VERSION" 0x12 ∈ (nxt (exec (.getVersion .twoWire) (mg {}))).out ∧
    (nxt (exec (.negotiateAlgorithms .twoWire) (mg {}))).mgmt.negotiated = [(0, true)] ∧
    Out.mgmt .twoWire "ERROR" 1 ∈ (nxt (exec (.getCertificate .twoWire 1) (mg {}))).out ∧
    Out.mgmt .twoWire "MEASUREMENTS" 7 ∈ (nxt (exec (.getMeasurements .twoWire 0) (mg {}))).out ∧
    Out.mgmt .twoWire "ERROR" 1 ∈ (nxt (exec (.getMeasurements .twoWire 8) (mg {}))).out := by decide +kernel
theorem test_keyExchange : (nxt (exec (.keyExchange .twoWire 4) (mg { negotiated := [(0, true)], nextSession := 3 }))).mgmt.sessions = [⟨3, .twoWire, 4, 0, false, 10 ^ 15, 0⟩] ∧
    Out.mgmt .twoWire "ERROR" 4 ∈ (nxt (exec (.keyExchange .twoWire 4) (mg {}))).out := by decide +kernel
def ses (o : Bool) : State := mg { sessions := [⟨3, .twoWire, 4, 0, o, 5, 0⟩] }
theorem witness_Spdm_session : (ses false).sessionOn .twoWire 3 false = true ∧ (ses true).sessionOn .twoWire 3 true = true ∧
    (ses true).mgmt.sessions.any (fun x => x.id == 3 && (ses true).elapsed x.lastMsg 180000000000) = true := by decide +kernel
theorem test_sessions : (nxt (exec (.finish .twoWire 3 .maker) (ses false))).mgmt.sessions = [⟨3, .twoWire, 4, 3, true, 10 ^ 15, 0⟩] ∧
    (nxt (exec (.finish .twoWire 3 .stranger) (ses false))).mgmt.authFails = 1 ∧
    (nxt (exec (.heartbeat .twoWire 3) (ses true))).mgmt.sessions = [⟨3, .twoWire, 4, 0, true, 10 ^ 15, 0⟩] ∧
    (nxt (exec (.keyUpdate .twoWire 3) (ses true))).mgmt.sessions = [⟨3, .twoWire, 4, 0, true, 10 ^ 15, 1⟩] ∧
    (nxt (exec (.endSession .twoWire 3) (ses true))).mgmt.sessions = [] ∧
    (nxt (exec (.sessionIdleTimeout 3) (ses true))).mgmt.sessions = [] := by decide +kernel

def fieldUp (l : List ((Nat × Nat) × Nat)) (t : Telem) : State :=
  let s := conf l (mg { t1sUp := true, telem := [(0, t)] })
  { s with dict := { s.dict with inForce := s.dict.inForce ++ [(dkey 0x8810 5, some (.bytes (List.replicate 15 0#8 ++ [9#8]))),
      (dkey 0x8820 1, some (.bytes (List.replicate 15 0#8 ++ [7#8])))] } }
theorem witness_Field : (fieldUp [] {}).pathUp .fieldNet = true ∧ (fieldUp [] {}).ownAddr 9 = true ∧ (fieldUp [] {}).ownAddr 10 = false ∧
    (mg {}).mode.base ≠ .unpowered := by decide +kernel
theorem test_field : Out.ndp 9 ∈ (nxt (exec (.neighborSolicitation 9) (fieldUp [] {}))).out ∧ Out.echo 9 [1#8] ∈ (nxt (exec (.echoRequest 9 [1#8]) (fieldUp [] {}))).out ∧
    (nxt (exec (.t1sLinkUp true) (mg {}))).mgmt.linkLocal = true ∧ (nxt (exec .t1sLinkDown (fieldUp [] {}))).mgmt.t1sUp = false := by decide +kernel
theorem witness_Field_telem : ((fieldUp [((0x8820, 4), 100), ((0x8820, 6), 1)] {}).boundary 0x8820).pathUp .fieldNet = true ∧
    ((fieldUp [((0x8820, 4), 100), ((0x8820, 6), 1)] {}).boundary 0x8820).telemDest 0 = 7 ∧
    ((fieldUp [((0x8820, 4), 100), ((0x8820, 6), 1)] {}).boundary 0x8820).cfgB 0x8820 6 = true ∧
    ((fieldUp [((0x8820, 4), 100), ((0x8820, 6), 0)] {}).boundary 0x8820).cfgB 0x8820 6 = false ∧
    ((fieldUp [((0x8820, 4), 100), ((0x8820, 6), 0)] {}).boundary 0x8820).cfg 0x8820 4 ≠ 0 ∧
    (fieldUp [((0x8820, 5), 1)] { pendingEvent := true }).cfgB 0x8820 5 = true := by decide +kernel
theorem test_telemetry : (Tbl.get {} (nxt (exec (.telemetryPeriod 0) (fieldUp [((0x8820, 4), 100), ((0x8820, 6), 0)] {}))).mgmt.telem 0).seq = 1 ∧
    (Tbl.get {} (nxt (exec (.telemetryEventPush 0) (fieldUp [((0x8820, 5), 1)] { pendingEvent := true }))).mgmt.telem 0).pendingEvent = false := by
  decide +kernel

/-- Channel 3 with four LUN positions, one of them failed and one about to. -/
def halfLost (x : Lun) : State :=
  { chn { st := .running } {} with luns := [(lkey 3 0, x), (lkey 3 1, { failed := true, retired := true })] }
def overdue : Lun := { resetPending := true, timeouts := [7] }
def thrice : Lun := { running := some busyRead, timeouts := [10 ^ 15, 10 ^ 15] }
theorem witness_ChannelFailure_luns : (halfLost {}).positions = 4 ∧ ((halfLost {}).lun 3 0).failed = false ∧
    ((List.range 4).filter (fun p => p != 0 && ((halfLost {}).lun 3 p).failed && ((halfLost {}).lun 3 p).retired)).length = 1 ∧
    ((halfLost overdue).lun 3 0).resetPending = true ∧ (halfLost overdue).elapsed (((halfLost overdue).lun 3 0).timeouts.getLastD 0) 10000000 = true ∧
    (halfLost thrice).lunServes 3 0 = true ∧ (halfLost thrice).busyTooLong 3 0 = true ∧
    (((halfLost thrice).lun 3 0).timeouts.filter (fun t => !(halfLost thrice).elapsed t (24 * hour))).length = 2 := by decide +kernel
theorem test_channelFailure_luns : (((halfLost {}).lunFail 3 0 3).chan 3).failCause = 5 ∧
    ((nxt (exec (.lunResetCheck 3 0 true) (halfLost overdue))).chan 3).st = .failed ∧
    ((nxt (exec (.lunResetCheck 3 0 true) (chn { st := .running } overdue))).chan 3).st = .running := by decide +kernel
/-- A DRAM channel with nine corrections of device 6 of rank 2 within the last day. -/
def nine : Dram := { st := 2, corrTimes := List.replicate 9 (2 * 16 + 6, 10 ^ 15), marks := [(2, 7)] }
theorem witness_DramChannelFailure : (drm nine).dramUp 0 = true ∧ plc.subch * 2 + plc.rank = 2 ∧ (drm nine).cfg 0x7801 6 = 10 ∧
    ((nine.corrTimes.filter (fun c => c.1 == 2 * 16 + 6 && !(drm nine).elapsed c.2 (24 * hour))).length = 9) ∧
    nine.marks.find? (fun m => m.1 == 2) = some (2, 7) ∧ nine.marks.any (fun m => m.1 == 2) = true := by decide +kernel
theorem test_dramChannelFailure :
    ((nxt (exec (.dramReadComplete plc (.corrected 6 1) true .other) (drm nine))).dram 0).cause = 4 ∧
    ((nxt (exec (.dramReadComplete plc (.corrected 6 4) true .other) (drm { nine with corrTimes := [] }))).dram 0).st = 2 ∧
    ((nxt (exec (.dramReadComplete plc (.uncorrectable 6) false .other) (drm { st := 2, uncorrTimes := [10 ^ 15, 10 ^ 15, 10 ^ 15] }))).dram 0).cause = 2 := by
  decide +kernel
/-- Dual-port mode with the link of port 1 down. -/
def oneDown : State := conf [((0x4000, 2), 900), ((0x4000, 3), 450)] { live with aon := { live.aon with portDual := true } }
theorem witness_PortBudgets : oneDown.awake = true ∧ oneDown.dual = true ∧ (nxt (exec .epochStart oneDown)).dual = true ∧
    ((nxt (exec .epochStart oneDown)).port 1).linkUp = false ∧ oneDown.mode.psInForce = 0 := by decide +kernel
theorem test_portBudgets : oneDown.portBudget = 256 * 450 ∧ (nxt (exec .epochStart oneDown)).portPool 1 = { upkeep := 256 * 450 } ∧
    ((nxt (exec .epochStart oneDown)).portPool 0).upkeep = 0 := by decide +kernel
/-- The fetched entry's identifier is that of a command in flight. -/
def twice (x : Cq) : State :=
  { cmbQ with tags := [(7, { st := .run, q := .std 0 0 0, sqe := { rd with opcode := 6, nsid := 0 } }), (8, { st := .run, q := .std 0 0 1, sqe := rd })]
              cqs := [(qcode (.std 0 0 0), x), (qcode (.std 0 0 1), x)] }
def ident5 : Sqe := { rd with opcode := 6, nsid := 0 }
theorem witness_CommandIdConflict : (twice { live := true, size := 8 }).awake = true ∧ ((twice {}).sq (.std 0 0 0)).inCmb = true ∧
    1 ≤ (twice {}).fetchCount (.std 0 0 0) ∧ (twice {}).parseStatus (.std 0 0 0) ((twice {}).lineMarked (.std 0 0 0) ((twice {}).sq (.std 0 0 0)).head) ident5 = none ∧
    (twice {}).held ((twice {}).qfunc (.std 0 0 0)).1 ((twice {}).qfunc (.std 0 0 0)).2 = false ∧
    (∃ x ∈ (twice {}).tags, x.2.st ≠ .free ∧ x.2.q = .std 0 0 0 ∧ x.2.sqe.cid = 5 ∧ x.2.mi = none) ∧
    (twice { live := true, size := 8 }).cqOpen (QKey.withQid (.std 0 0 0) 0) = true ∧ (twice {}).cqOpen (QKey.withQid (.std 0 0 0) 0) = false ∧
    (∃ x ∈ (twice {}).tags, x.2.st ≠ .free ∧ x.2.q = .std 0 0 1 ∧ x.2.sqe.cid = 5 ∧ x.2.mi = none) ∧ (twice {}).parseStatus (.std 0 0 1) false rd = none := by
  decide +kernel
theorem test_commandIdConflict : (nxt (exec (.entryFetch (.std 0 0 0) [ident5]) (twice { live := true, size := 8 }))).tags = (twice {}).tags ∧
    ((nxt (exec (.entryFetch (.std 0 0 0) [ident5]) (twice {}))).cq (.std 0 0 0)).held = [(.std 0 0 0, 5, ⟨0, 3⟩, 0, 0)] ∧
    Out.completion (.std 0 0 0) 0 5 1 true ⟨0, 3⟩ 0 0 ∈ (nxt (exec (.entryFetch (.std 0 0 0) [ident5]) (twice { live := true, size := 8 }))).out ∧
    (nxt (exec (.entryFetch (.std 0 0 1) [rd]) (twice { live := true, size := 8 }))).cmds.idConflicts = 1 := by decide +kernel
/-- Only junction sensor 12 is at its limit. -/
def one12 : List Sample := (List.range 18).map (fun k => some (if k = 12 then 800 else 400))
theorem test_junctionLimits : (hot [] {}).junctionLimit 12 = 800 ∧ (hot [] {}).junctionLimit 13 = 840 ∧
    (nxt (exec (.thermalSampleRound one12) (hot [] {}))).mode.base = .service ∧
    ((nxt (exec (.thermalSampleRound one12) (hot [] {}))).tzone 0).step = 4 ∧
    (nxt (exec (.thermalSampleRound one12) (hot [] {}))).regs.thmEvent.getLsbD 4 = true ∧
    (nxt (exec (.thermalSampleRound (allAt 840)) (hot [] {}))).thermal.shutdowns = 1 := by decide +kernel
theorem witness_JunctionLimits : one12.length = 18 ∧ 12 ∈ (nxt (exec (.thermalSampleRound one12) (hot [] {}))).junctionsHot ∧ (hot [] {}).zoneOn 0 = true ∧
    (hot [] {}).inZone 0 12 = true ∧ ((hot [] {}).tzone 0).step ≠ 4 := by decide +kernel
/-- Dormant, in the hold of a shutdown, cool since the time given. -/
def holding (needs : Bool) (c : Option Nat) : State :=
  { hot [] {} with mode := { base := .dormant }, aon := { railsGood with now := 10 ^ 15, thermalHold := true, holdNeedsPg := needs }, thermal := { coolSince := c } }
theorem witness_ThermalShutdown : (hot [] {}).inService = true ∧ (inMode .bringUp railsGood).mode.base = .bringUp ∧ (flushing1 true railsGood).mode.base = .flush ∧
    (holding false none).mode.base = .dormant ∧ (holding true none).aon.holdNeedsPg = true ∧ (holding true none).aon.thermalHold = true ∧
    (holding true none).aon.mainPg = true ∧ (allAt 800).length = 18 := by decide +kernel
theorem test_thermalShutdown : (hot [] {}).thermalShutdown.mode.flushCause = 11 ∧ (hot [] {}).thermalShutdown.regs.thmEvent = 0x40#32 ∧
    (inMode .bringUp railsGood).thermalShutdown.mode.base = .dormant ∧ (inMode .bringUp railsGood).thermalShutdown.regs.thmEvent = 0x40#32 ∧
    (inMode .bringUp railsGood).thermalShutdown.thermal.shutdowns = 1 ∧ (inMode .bringUp railsGood).thermalShutdown.aon.thermalHold = true ∧
    (flushing1 true railsGood).thermalShutdown.mode.shutdownInFlush = true := by decide +kernel
theorem test_coolSince : (nxt (exec (.thermalSampleRound (allAt 400)) (holding false none))).thermal.coolSince = some (10 ^ 15) ∧
    (nxt (exec (.thermalSampleRound one12) (holding false (some 5)))).thermal.coolSince = none := by decide +kernel
theorem test_thermalHoldEnd : (nxt (exec .thermalHoldEnd (holding false (some (10 ^ 15 - 60000000000))))).mode.base = .bringUp ∧
    (nxt (exec .thermalHoldEnd (holding false (some (10 ^ 15 - 59999999999))))).aon.thermalHold = true ∧
    (nxt (exec .thermalHoldEnd (holding true (some 5)))).mode.base = .dormant := by decide +kernel

/-- A state with two commands waiting. -/
def queued2 : State := { live with pending := [.ledActInterval, .powerEstimateInterval 41000] }
theorem witness_Step : queued2.pending = [.ledActInterval] ++ .powerEstimateInterval 41000 :: [] ∧ live.pending = [] ∧
    Part.ports ∉ (Instr.powerEstimateInterval 41000).parts := by decide +kernel
theorem test_step_runs_front : (nxt (step queued2)).pending = [.powerEstimateInterval 41000] ∧ (stepN 2 queued2).mode.peakMw = 41000 ∧
    (stepN 2 queued2).pending = [] := by decide +kernel
theorem test_step_idles : (nxt (step live)).aon.now = live.aon.now + 1 ∧ (nxt (step live)).mode = live.mode := by decide +kernel
theorem witness_Memory : Mem.wf (({ live with ports := [(0, { cmb := [(64, 7#8), (80, 9#8)] })] } : State).port 0).cmb = true ∧
    Mem.wf live.regs.dmbBuf = true ∧ Mem.wf [(80, 9#8), (64, 7#8)] = false := by decide +kernel
theorem test_reset : State.reset.mode.base = .unpowered ∧ State.reset.slPort 1 = 1 ∧ State.reset.slStdq 0 = true := by decide +kernel
/-- A write to a tail doorbell of slice page 0 of the physical function. -/
def bell2 : RegAccess := ⟨0, 0, 2, 0x808, 4, true, 70000⟩
theorem witness_TailDoorbellIsolation : bell2.off % 4 + bell2.width ≤ 4 ∧ hostQ.pageSlice 0 0 (bell2.off / 0x1000) = some 0 := by decide +kernel
theorem test_tailDoorbell_page : ((nxt (exec (.sqTailDoorbell bell2) hostQ)).slice 0).drops = 1 := by decide +kernel
end

section
/-! SUPPORT. What a step does, from what every command does: the front of the queue runs, an idle step passes one nanosecond, every
step has a next state, and n steps are n single steps one after the other. -/

namespace Sys2Proof

open Machine

/-- A step with a command waiting is that command, on the state with the rest of the queue. -/
theorem step_of_cons {s : State} {i : Instr} {rest : List Instr} (h : s.pending = i :: rest) :
    step s = exec i { s with pending := rest } := by
  unfold step; rw [h]

/-- A step with no command waiting is idle. -/
theorem step_of_nil {s : State} (h : s.pending = []) : step s = .next s.idle := by
  unfold step; rw [h]

/-- Every step has a next state, whose queue is the tail. -/
theorem step_next (s : State) : ∃ t, step s = .next t ∧ t.pending = s.pending.tail := by
  cases h : s.pending with
  | nil => exact ⟨s.idle, step_of_nil h, h⟩
  | cons i rest =>
    obtain ⟨t, ht⟩ := exec_next i { s with pending := rest }
    exact ⟨t, (step_of_cons h).trans ht, exec_pending ht⟩

/-- No part holds the queue of waiting commands. -/
theorem Part.same_withPending (p : Part) (s t : State) (l : List Instr) : p.same { s with pending := l } t ↔ p.same s t := by
  cases p <;> exact Iff.rfl

/-- The idle tick changes only the clock, in the always-on domain. -/
theorem idle_same (s : State) (p : Part) (hp : p ≠ .aon) : p.same s s.idle := by
  cases p with
  | aon => exact absurd rfl hp
  | _ => rfl

theorem stepN_succ {s t : State} (h : step s = .next t) (n : Nat) : stepN (n + 1) s = stepN n t := by
  rw [stepN, h]

/-- The last of n + 1 steps is the step of the state after n. -/
theorem step_stepN (n : Nat) (s : State) : step (stepN n s) = .next (stepN (n + 1) s) := by
  induction n generalizing s with
  | zero =>
    obtain ⟨t, ht, -⟩ := step_next s
    rw [stepN_succ ht]; exact ht
  | succ n ih =>
    obtain ⟨t, ht, -⟩ := step_next s
    rw [stepN_succ ht, stepN_succ ht]; exact ih t

theorem reaches_stepN (n : Nat) (s : State) : Reaches s (stepN n s) := by
  induction n with
  | zero => exact .refl s
  | succ n ih => exact .tail ih (step_stepN n s)

/-- n steps take n commands off the queue. -/
theorem stepN_pending (n : Nat) (s : State) : (stepN n s).pending = s.pending.drop n := by
  induction n generalizing s with
  | zero => rfl
  | succ n ih =>
    obtain ⟨t, ht, hp⟩ := step_next s
    rw [stepN_succ ht, ih, hp, List.drop_tail]

/-- As many steps as commands stand in front leave what came behind them. -/
theorem stepN_pending_of_append {l m : List Instr} {s : State} (h : s.pending = l ++ m) : (stepN l.length s).pending = m := by
  rw [stepN_pending, h, List.drop_left]

end Sys2Proof
end

section
/-! SUPPORT. What a write to a tail doorbell may touch (R7, R68, R72): one lemma for each operation that the write is made of. -/

namespace Sys2Proof.Machine

/-- From s to t no completion queue changed, no submission queue but those whose code is one of `codes`, and no slice but those of
`slices`. -/
structure TouchesOnly (codes slices : Nat → Prop) (s t : State) : Prop where
  cqs : t.cqs = s.cqs
  sq : ∀ q, t.sq q ≠ s.sq q → codes (qcode q)
  slice : ∀ n, t.slice n ≠ s.slice n → slices n

section
variable {codes slices : Nat → Prop}

theorem TouchesOnly.trans {s t u : State} (h : TouchesOnly codes slices s t) (g : TouchesOnly codes slices t u) :
    TouchesOnly codes slices s u where
  cqs := g.cqs.trans h.cqs
  sq q hq := by
    by_cases e : u.sq q = t.sq q
    · exact h.sq q (e ▸ hq)
    · exact g.sq q e
  slice n hn := by
    by_cases e : u.slice n = t.slice n
    · exact h.slice n (e ▸ hn)
    · exact g.slice n e

/-- A change that leaves the queues and the slices touches none of them. -/
theorem TouchesOnly.of_chg {m : Nat} {s t : State} (h : Chg m s t) (hq : m.testBit 11 = false) (hc : m.testBit 12 = false)
    (hn : m.testBit 16 = false) : TouchesOnly codes slices s t where
  cqs := h.cqs hc
  sq q e := absurd (by unfold State.sq; rw [h.sqs hq]) e
  slice n e := absurd (by unfold State.slice; rw [h.slices hn]) e

theorem State.setSq_sq_ne (s : State) {q r : QKey} (x : Sq) (h : qcode q ≠ qcode r) : (s.setSq q x).sq r = s.sq r :=
  Tbl.get_set_ne _ _ _ h

theorem TouchesOnly.setSq (s : State) {q : QKey} (x : Sq) (hq : codes (qcode q)) : TouchesOnly codes slices s (s.setSq q x) where
  cqs := rfl
  sq r hr := by
    by_cases e : qcode q = qcode r
    · exact e ▸ hq
    · exact absurd (s.setSq_sq_ne x e) hr
  slice _ h := absurd rfl h

theorem TouchesOnly.setSlice (s : State) {n : Nat} (x : Slice) (hn : slices n) :
    TouchesOnly codes slices s (s.setSlice n x) where
  cqs := rfl
  sq _ h := absurd rfl h
  slice k hk := by
    by_cases e : n = k
    · exact e ▸ hn
    · exact absurd (s.setSlice_slice_ne x e) hk

theorem State.doorbellEvent_touches (s : State) (q : QKey) (info : Nat) : TouchesOnly codes slices s (s.doorbellEvent q info) :=
  .of_chg (s.doorbellEvent_chg q info) (by decide) (by decide) (by decide)

theorem State.accLog_touches (s : State) (a b c d e : Nat) : TouchesOnly codes slices s (s.accLog a b c d e) :=
  .of_chg (s.accLog_chg a b c d e) (by decide) (by decide) (by decide)

/-- An accepted tail touches its own queue alone. -/
theorem State.bellAccept_tail_touches (s : State) {q : QKey} (v : Nat) (hq : codes (qcode q)) :
    TouchesOnly codes slices s (s.bellAccept q false v) :=
  (TouchesOnly.setSq s _ hq).trans (.of_chg (State.fetchAsk_chg _ q) (by decide) (by decide) (by decide))

/-- A part of a write to a standard tail doorbell touches the function's queues. -/
theorem State.stdBell_tail_touches (s : State) {p f : Nat} {x : Piece} (hx : (x.off % 8 == 4) = false)
    (hq : ∀ i, codes (qcode (.std p f i))) : TouchesOnly codes slices s (s.stdBell p f x) := by
  simp only [State.stdBell, hx]
  split
  · exact (s.accLog_touches ..).trans (State.doorbellEvent_touches ..)
  · split
    · exact s.doorbellEvent_touches ..
    · exact s.bellAccept_tail_touches _ (hq _)

/-- A part of a write to a tail doorbell of a slice page touches the slice and its page's queues. -/
theorem State.pageBell_tail_touches (s : State) {n p f : Nat} {x : Piece} (hx : (x.off % 8 == 4) = false)
    (hq : ∀ i, codes (qcode (.page n i))) (hn : slices n) : TouchesOnly codes slices s (s.pageBell n p f x) := by
  have own : ∀ (t : State) y, TouchesOnly codes slices t (t.setSlice n y) := fun t y => .setSlice t y hn
  simp only [State.pageBell, hx]
  split
  · split
    · exact (own _ _).trans (State.accLog_touches ..)
    · exact (((own _ _).trans (State.accLog_touches ..)).trans (own _ _)).trans (State.doorbellEvent_touches ..)
  · split
    · exact own _ _
    · split
      · exact ((own _ _).trans (own _ _)).trans (State.doorbellEvent_touches ..)
      · split
        · exact (own _ _).trans (own _ _)
        · exact s.bellAccept_tail_touches _ (hq _)

end

/-- The codes of the queues that a doorbell write may name: those of its function, or of the slice page it falls in. -/
def State.bellCodes (s : State) (w : RegAccess) (c : Nat) : Prop :=
  (w.bar = 0 ∧ ∃ i, c = qcode (.std w.port w.fn i)) ∨
    (w.bar ≠ 0 ∧ ∃ n i, s.pageSlice w.port w.fn (w.off / 0x1000) = some n ∧ c = qcode (.page n i))

/-- The slice that owns the page a doorbell write falls in. -/
def State.bellSlice (s : State) (w : RegAccess) (n : Nat) : Prop :=
  w.bar ≠ 0 ∧ s.pageSlice w.port w.fn (w.off / 0x1000) = some n

/-- A part of a tail doorbell write, in the page that the write starts in. -/
theorem State.bellPiece_tail_touches (s : State) (w : RegAccess) {x : Piece} (hx : (x.off % 8 == 4) = false)
    (hp : x.off / 0x1000 = w.off / 0x1000) : TouchesOnly (s.bellCodes w) (s.bellSlice w) s (s.bellPiece w x) := by
  unfold State.bellPiece
  by_cases hb : w.bar = 0
  · rw [if_pos hb]
    exact s.stdBell_tail_touches hx (fun i => .inl ⟨hb, i, rfl⟩)
  · rw [if_neg hb, hp]
    cases h : s.pageSlice w.port w.fn (w.off / 0x1000) with
    | none => exact s.accLog_touches ..
    | some n => exact s.pageBell_tail_touches hx (fun i => .inr ⟨hb, n, i, h, rfl⟩) ⟨hb, h⟩

/-- An access within one register has no part but one, at the register's offset. -/
theorem accPieces_of_fits {w : RegAccess} (h : w.off % 4 + w.width ≤ 4) :
    accPieces w = [] ∨ ∃ x : Piece, accPieces w = [x] ∧ x.off = w.off / 4 * 4 := by
  unfold accPieces
  cases hw : w.width with
  | zero => exact .inl rfl
  | succ k =>
    have hmin : min (k + 1) (4 - w.off % 4) = k + 1 := by omega
    refine .inr ⟨⟨w.off / 4 * 4, w.off % 4, k + 1, w.value % 256 ^ (k + 1)⟩, ?_, rfl⟩
    simp only [piecesFrom, hmin, Nat.sub_self]

/-- A write to one tail doorbell touches only the queues and the slice it names. -/
theorem State.bellWrite_tail_touches (s : State) {w : RegAccess} (h : w.off % 4 + w.width ≤ 4) :
    TouchesOnly (s.bellCodes w) (s.bellSlice w) s (s.bellWrite w 0) := by
  unfold State.bellWrite
  cases hb : s.lands w && accBell w && w.off / 4 * 4 % 8 == 0 with
  | false =>
    rw [State.when_false _ rfl]
    exact .of_chg s.unlisted_chg (by decide) (by decide) (by decide)
  | true =>
    rw [State.when_true _ rfl]
    have half : w.off / 4 * 4 % 8 = 0 := by simpa using (Bool.and_eq_true_iff.mp hb).2
    split
    · exact .of_chg (s.abortAccess_chg w) (by decide) (by decide) (by decide)
    · rcases accPieces_of_fits h with e | ⟨x, e, hx⟩
      · rw [e]; exact .of_chg (Chg.refl 0 s) (by decide) (by decide) (by decide)
      · rw [e]
        exact s.bellPiece_tail_touches w (by rw [hx, half]; rfl) (by omega)

end Sys2Proof.Machine
end

section
/-! The statements about every command and every step, and the isolation of tail doorbells. -/

namespace Sys2Proof

open Machine

/-- Settles O1. -/
theorem stepRunsTheFront : Obligations.StepRunsTheFront :=
  ⟨fun _ _ _ h => step_of_cons h, fun _ h => step_of_nil h⟩

/-- Settles O3: `exec_chg` gives every command a next state with the queue as it was; a step is a command or idle. -/
theorem everyCommandCompletes : Obligations.EveryCommandCompletes := by
  refine ⟨fun i s => ?_, fun s => ?_⟩
  · obtain ⟨t, ht⟩ := exec_next i s
    exact ⟨t, ht, exec_pending ht⟩
  · obtain ⟨t, ht, hp⟩ := step_next s
    exact ⟨⟨t, ht⟩, t, ht, hp⟩

/-- Settles O4: n steps take n commands off the queue, and the next one is the step of the state they leave. -/
theorem queueRunsInOrder : Obligations.QueueRunsInOrder := by
  refine ⟨fun l m s h => ⟨stepN_pending_of_append h, reaches_stepN _ s⟩, fun l m i s h => ?_⟩
  rw [← step_of_cons (stepN_pending_of_append h)]
  exact step_stepN l.length s

/-- Settles O5: the frame of the command at the front (`Instr.parts`), or of the idle tick. -/
theorem frameOfEveryStep : Obligations.FrameOfEveryStep := by
  refine ⟨fun i rest s t h ht => ?_, fun s t h ht => ?_⟩
  · rw [step_of_cons h] at ht
    refine ⟨exec_pending ht, fun p hp => ?_⟩
    exact (p.same_withPending s t rest).mp (exec_same ht p hp)
  · rw [step_of_nil h] at ht
    cases ht
    exact ⟨h, idle_same s⟩

/-- Settles O8: every operation of the write stays within its function's or its slice page's queues. -/
theorem tailDoorbellIsolation : Obligations.TailDoorbellIsolation := by
  intro s w h
  obtain ⟨cqs, sq, slice⟩ := s.bellWrite_tail_touches h
  exact ⟨s.bellWrite w 0, rfl, cqs, sq, slice⟩

end Sys2Proof
end

section
/-! SUPPORT. One unit of state after an operation whose lemma `Chg` leaves out the table that holds the unit: unchanged. -/

namespace Sys2Proof.Machine

section
variable {m : Nat} {s t : State}

theorem Chg.tag_eq (h : Chg m s t) (hm : m.testBit 13 = false) (k : Nat) : t.tag k = s.tag k := by
  unfold State.tag; rw [h.tags hm]

theorem Chg.blk_eq (h : Chg m s t) (hm : m.testBit 13 = false) (k b : Nat) : t.blk k b = s.blk k b := by
  unfold State.blk; rw [h.tag_eq hm]

theorem Chg.island_eq (h : Chg m s t) (hm : m.testBit 21 = false) (k : Nat) : t.island k = s.island k := by
  unfold State.island; rw [h.islands hm]

theorem Chg.engine_eq (h : Chg m s t) (hm : m.testBit 22 = false) (k : Nat) : t.engine k = s.engine k := by
  unfold State.engine; rw [h.engines hm]

theorem Chg.zone_eq (h : Chg m s t) (hm : m.testBit 24 = false) (n z : Nat) : t.zone n z = s.zone n z := by
  unfold State.zone; rw [h.zones hm]

theorem Chg.wblk_eq (h : Chg m s t) (hm : m.testBit 28 = false) (k : Nat) : t.wblk k = s.wblk k := by
  unfold State.wblk; rw [h.wbuf hm]

theorem Chg.sb_eq (h : Chg m s t) (hm : m.testBit 29 = false) (k : Nat) : t.sb k = s.sb k := by
  unfold State.sb; rw [h.media hm]

theorem Chg.dram_eq (h : Chg m s t) (hm : m.testBit 32 = false) (k : Nat) : t.dram k = s.dram k := by
  unfold State.dram; rw [h.drams hm]

end

end Sys2Proof.Machine
end

section
/-! SUPPORT. What the commands of the arbiters, islands, engines and measurements leave (R15 to R24, R184 to R189): one equation for
each command and case. -/

namespace Sys2Proof.Machine

variable {s : State}

/-! ### Arbiters and islands -/

theorem exec_arbiterAgingLift {a b : Nat} (ha : s.awake = true) (h : (a, b) ∉ s.sched.lifted) :
    exec (.arbiterAgingLift a b) s = .next { s with sched := { s.sched with lifted := s.sched.lifted ++ [(a, b)] } } :=
  next_when (by simp [ha, h])

theorem exec_islandClockGateIdle {i : Nat} (ha : s.awake = true) (hi : i < 48) (hr : (s.island i).st = .running)
    (he : (s.island i).entering = false) (hd : s.islandIdle i = true) :
    exec (.islandClockGateIdle i) s = .next (s.setIsland i { s.island i with st := .clockGated }) :=
  next_when (by simp [ha, hi, hr, he, hd])

theorem exec_islandPowerGateIdle {i : Nat} (ha : s.awake = true) (hi : i < 48)
    (hr : (s.island i).st = .running ∨ (s.island i).st = .clockGated) (he : (s.island i).entering = false)
    (hg : (s.entryBoundary 0x4002 1).mayGate i = true) :
    exec (.islandPowerGateIdle i) s =
      .next ((s.entryBoundary 0x4002 1).setIsland i { (s.entryBoundary 0x4002 1).island i with entering := true }) :=
  next_when (by simp [ha, hi, hr, he, hg])

/-- An island that may not gate stays as it is; only the shadow of its limit came into force. -/
theorem exec_islandPowerGateIdle_refused {i : Nat} (hg : (s.entryBoundary 0x4002 1).mayGate i = false) :
    exec (.islandPowerGateIdle i) s = .next (s.entryBoundary 0x4002 1).unlisted :=
  congrArg Host.Outcome.next (State.when_false _ (by simp [hg]))

/-- What a wake makes of an island (R23), before a late one is recorded. -/
def State.woken (s : State) (i : Nat) (past : Bool) : State :=
  let x := s.island i
  if x.entering then
    if past then s.setIsland i { x with wakeAfter := true } else s.setIsland i { x with st := .running, entering := false }
  else if x.st = .powerGated then s.gatedWake i
  else s.setIsland i { x with st := .running }

theorem exec_islandWake {i : Nat} {past late : Bool} (ha : s.awake = true) (hi : i < 48) (hf : (s.island i).failed = false)
    (hw : (s.island i).st ≠ .running ∨ (s.island i).entering = true) :
    exec (.islandWake i past late) s = .next (if late then
      { s.woken i past with regs := { (s.woken i past).regs with pwrEvent := (s.woken i past).regs.pwrEvent ||| 8#32 } }
      else s.woken i past) :=
  next_when (by simp [ha, hi, hf, hw])

theorem exec_powerGateEntryComplete {i : Nat} (he : (s.island i).entering = true) :
    exec (.powerGateEntryComplete i) s = .next (if (s.island i).wakeAfter then s.gatedWake i
      else s.setIsland i { s.island i with
        st := if s.mode.psInForce = 4 ∧ s.islandIdle i = true then .off else .powerGated, entering := false }) :=
  next_when he

/-- The late bit of a wake changes no island. -/
theorem State.late_island (s : State) (late : Bool) (r : Regs) (i : Nat) :
    (if late then { s with regs := r } else s).island i = s.island i := by
  cases late <;> rfl

theorem State.gatedWake_island (s : State) (i : Nat) :
    (s.gatedWake i).island i = { s.island i with st := .running, entering := false, wakeAfter := false } := by
  unfold State.gatedWake
  split <;> exact s.setIsland_island i _

theorem State.gatedWake_pgWakes (s : State) (i : Nat) :
    (s.gatedWake i).sched.pgWakes = if i < 8 then satAdd 64 s.sched.pgWakes 1 else s.sched.pgWakes := by
  unfold State.gatedWake
  split <;> rfl

theorem State.gatedWake_regs (s : State) (i : Nat) : (s.gatedWake i).regs = s.regs := by
  unfold State.gatedWake
  split <;> rfl

/-! ### Engines -/

theorem exec_engineEvent {e : Nat} (ha : s.awake = true) (hf : (s.engine e).failed = false) (hv : (s.engine e).events ≠ []) :
    exec (.engineEvent e) s = .next (s.setEngine e { s.engine e with
      events := (s.engine e).events.drop 1, running := none, commitBuf := [] }) :=
  next_when (by simp [ha, hf, hv])

theorem exec_engineEventTimeout {e : Nat} (ha : s.awake = true) (he : e < Config.engines) (hf : (s.engine e).failed = false)
    (hv : (s.engine e).events ≠ []) : exec (.engineEventTimeout e) s = .next (s.engineFail e) :=
  next_when (by simp [ha, he, hf, hv])

theorem exec_engineFailed {e : Nat} (ha : s.awake = true) (he : e < Config.engines) (hf : (s.engine e).failed = false) :
    exec (.engineFailed e) s = .next (s.engineFail e) :=
  next_when (by simp [ha, he, hf])

/-- The failed engine, out of work. -/
def State.engineDown (s : State) (e : Nat) : State :=
  s.setEngine e { s.engine e with failed := true, events := [], running := none, commitBuf := [] }

/-- R18: a failed engine's work passes to the first free spare, or to the next engine of its role. -/
def State.engineHandover (s : State) (e : Nat) : State :=
  let owner := ((s.engine e).servesFor).getD e
  let evs := (s.engine e).events
  let s1 := s.engineDown e
  match s1.freeSpares.head? with
  | some r =>
    if 120 ≤ owner then s1
    else (s1.setEngine r { s1.engine r with servesFor := some owner, events := evs }).setEngine owner
      { s1.engine owner with movedTo := some r }
  | none => match (s1.survivors owner).head? with
    | some k => s1.setEngine (s1.serving k) { s1.engine (s1.serving k) with events := (s1.engine (s1.serving k)).events ++ evs }
    | none => s1

/-- The hand-over is all that a failure does to the engines. -/
theorem State.engineFail_engines (s : State) (e : Nat) : (s.engineFail e).engines = (s.engineHandover e).engines := by
  have report : ∀ (t : State) (u i k v c : Nat) (d : List Nat), (t.rasReport u i k v c d).engines = t.engines := fun t u i k v c d =>
    (t.rasReport_chg u i k v c d).engines rfl
  have stop : ∀ t : State, t.activationStop.engines = t.engines := fun t => by
    unfold State.activationStop
    split
    · split
      · exact (State.commitTag_chg ..).engines rfl
      · rfl
    · rfl
  have tail : ∀ (b c : Bool) (t : State), (if c then (if b then t.activationStop else t).serviceEnd 3
      else if b then t.activationStop else t).engines = t.engines := fun b c t => by
    cases c with
    | true => exact ((State.serviceEnd_chg ..).engines rfl).trans (by cases b with | true => exact stop t | false => rfl)
    | false => cases b with | true => exact stop t | false => rfl
  unfold State.engineFail
  exact (tail _ _ _).trans (report ..)

theorem State.engineFail_engine (s : State) (e k : Nat) : (s.engineFail e).engine k = (s.engineHandover e).engine k := by
  unfold State.engine; rw [s.engineFail_engines e]

theorem State.engineDown_engine (s : State) (e : Nat) :
    (s.engineDown e).engine e = { s.engine e with failed := true, events := [], running := none, commitBuf := [] } :=
  s.setEngine_engine e _

theorem State.engineDown_engine_ne (s : State) {e k : Nat} (h : e ≠ k) : (s.engineDown e).engine k = s.engine k :=
  s.setEngine_engine_ne _ h

/-- The spares left when an engine fails are the free ones but itself. -/
theorem State.engineDown_freeSpares (s : State) (e : Nat) :
    (s.engineDown e).freeSpares = s.freeSpares.filter (fun k => k != e) := by
  unfold State.freeSpares
  rw [List.filter_filter]
  refine List.filter_congr fun k _ => ?_
  by_cases h : e = k
  · subst h; simp [s.engineDown_engine]
  · simp [s.engineDown_engine_ne h, Ne.symm h]

/-- A write that keeps whether an engine has failed. -/
theorem State.setEngine_failed (s : State) {k e : Nat} {x : Engine} (h : x.failed = (s.engine k).failed) :
    ((s.setEngine k x).engine e).failed = (s.engine e).failed := by
  by_cases hk : k = e
  · subst hk; rw [s.setEngine_engine]; exact h
  · rw [s.setEngine_engine_ne x hk]

theorem State.engineHandover_failed (s : State) (e : Nat) : ((s.engineHandover e).engine e).failed = true := by
  have down : ((s.engineDown e).engine e).failed = true := by rw [s.engineDown_engine]
  unfold State.engineHandover
  dsimp only
  split
  · split
    · exact down
    · rename_i r _ _
      refine (State.setEngine_failed _ ?_).trans ((State.setEngine_failed _ (by rfl)).trans down)
      exact (State.setEngine_failed _ (by rfl)).symm
  · split
    · exact (State.setEngine_failed _ (by rfl)).trans down
    · exact down

theorem State.freeSpares_ge {s : State} {r : Nat} (h : r ∈ s.freeSpares) : 120 ≤ r := by
  obtain ⟨i, -, rfl⟩ := List.mem_map.mp (List.mem_filter.mp h).1
  exact Nat.le_add_right 120 i

/-- The state after a free spare has taken over. -/
theorem State.engineHandover_spare {s : State} {e r : Nat} {l : List Nat} (ho : ((s.engine e).servesFor).getD e < 120)
    (hr : s.freeSpares.filter (fun k => k != e) = r :: l) :
    s.engineHandover e = ((s.engineDown e).setEngine r { s.engine r with
        servesFor := some (((s.engine e).servesFor).getD e), events := (s.engine e).events }).setEngine (((s.engine e).servesFor).getD e)
      { (s.engineDown e).engine (((s.engine e).servesFor).getD e) with movedTo := some r } := by
  have hm : r ∈ s.freeSpares.filter (fun k => k != e) := hr ▸ List.mem_cons_self
  have hne : e ≠ r := fun h => by simp [h] at hm
  unfold State.engineHandover
  simp only [s.engineDown_freeSpares, hr, List.head?_cons, s.engineDown_engine_ne hne, if_neg (Nat.not_le.mpr ho)]

/-! ### Measurements -/

/-- The measurement of one channel, as the end of an interval takes it (R188). -/
def State.measureChan (n : Nat) (s : State) : State :=
  let c := s.chan n
  if c.st = .running ∨ c.st = .reduced then s.setChan n { c with busPct := min 100 (c.busyNs / 10000000), busyNs := 0 } else s

/-- What the end of an interval makes of the latency samples (R184). -/
def Sched.measured (x : Sched) : Sched :=
  { x with p9999 := if 20000000 < x.completions then 0 else p9999Of x.samples, samples := [], completions := 0 }

theorem exec_measurementIntervalEnd (ha : s.awake = true) : exec .measurementIntervalEnd s =
    .next ({ s with sched := s.sched.measured }.forEach (List.range Config.channels) State.measureChan) :=
  next_when ha

theorem State.measureChan_chg (n : Nat) (s : State) : Chg 1048576 s (s.measureChan n) :=
  Chg.ite (State.setChan_chg ..) (Chg.refl _ _)

theorem State.measureChan_chan_ne (s : State) {n k : Nat} (h : n ≠ k) : (s.measureChan n).chan k = s.chan k := by
  unfold State.measureChan
  dsimp only
  split
  · exact s.setChan_chan_ne _ h
  · rfl

theorem State.measureChan_chan {n : Nat} (h : (s.chan n).st = .running ∨ (s.chan n).st = .reduced) :
    (s.measureChan n).chan n = { s.chan n with busPct := min 100 ((s.chan n).busyNs / 10000000), busyNs := 0 } := by
  unfold State.measureChan
  rw [if_pos h, s.setChan_chan]

/-- A channel is not measured again after its own turn. -/
theorem State.measureChans_chan_ne (s : State) {l : List Nat} {k : Nat} (h : k ∉ l) :
    (s.forEach l State.measureChan).chan k = s.chan k := by
  induction l generalizing s with
  | nil => rfl
  | cons n l ih =>
    obtain ⟨hn, hl⟩ := not_or.mp (fun e => h (List.mem_cons.mpr e))
    exact (ih _ hl).trans (s.measureChan_chan_ne (Ne.symm hn))

/-- A channel is measured in its turn, from what it was before the first. -/
theorem State.measureChans_chan {s : State} {l : List Nat} {k : Nat} (hl : l.Nodup) (hk : k ∈ l)
    (h : (s.chan k).st = .running ∨ (s.chan k).st = .reduced) : (s.forEach l State.measureChan).chan k =
      { s.chan k with busPct := min 100 ((s.chan k).busyNs / 10000000), busyNs := 0 } := by
  induction l generalizing s with
  | nil => exact absurd hk List.not_mem_nil
  | cons n l ih =>
    obtain ⟨hn, hl⟩ := List.nodup_cons.mp hl
    show ((s.measureChan n).forEach l State.measureChan).chan k = _
    by_cases e : n = k
    · subst e
      rw [State.measureChans_chan_ne _ hn, State.measureChan_chan h]
    · have same := s.measureChan_chan_ne e
      rw [ih hl ((List.mem_cons.mp hk).resolve_left (Ne.symm e)) (same ▸ h), same]

end Sys2Proof.Machine
end

section
/-! The statement about the arbiters, the clock islands, the engines and the measurements. -/

namespace Sys2Proof

open Machine

/-- The three cases of a wake: past the retention point, before it, and from an island that is gated. -/
theorem islandWake_cases {s : State} {i : Nat} {past late : Bool} (ha : s.awake = true) (hi : i < 48)
    (hf : (s.island i).failed = false) :
    ((s.island i).entering = true → past = true → ∃ t, exec (.islandWake i past late) s = .next t ∧
      (t.island i).wakeAfter = true ∧ (t.island i).entering = true) ∧
    ((s.island i).entering = true → past = false → ∃ t, exec (.islandWake i past late) s = .next t ∧
      (t.island i).st = .running ∧ (t.island i).entering = false) ∧
    ((s.island i).entering = false → (s.island i).st = .clockGated ∨ (s.island i).st = .powerGated →
      ∃ t, exec (.islandWake i past late) s = .next t ∧ (t.island i).st = .running ∧
        t.sched.pgWakes = (if (s.island i).st = .powerGated ∧ i < 8 then satAdd 64 s.sched.pgWakes 1 else s.sched.pgWakes) ∧
        t.regs.pwrEvent = (if late then s.regs.pwrEvent ||| 8#32 else s.regs.pwrEvent)) := by
  refine ⟨fun he hp => ⟨_, exec_islandWake ha hi hf (.inr he), ?_⟩, fun he hp => ⟨_, exec_islandWake ha hi hf (.inr he), ?_⟩,
    fun he hs => ⟨_, exec_islandWake ha hi hf (.inl (by rcases hs with h | h <;> simp [h])), ?_⟩⟩
  · rw [State.late_island]
    simp [State.woken, he, hp]
  · rw [State.late_island]
    simp [State.woken, he, hp]
  · rw [State.late_island]
    rcases hs with h | h
    · cases late <;> simp [State.woken, he, h]
    · cases late <;> simp [State.woken, he, h, State.gatedWake_island, State.gatedWake_pgWakes, State.gatedWake_regs]

/-- A failed engine is out of service, and its first free spare has its work and knows whose it is. -/
theorem engineFail_handsOver (s : State) (e : Nat) : ((s.engineFail e).engine e).failed = true ∧
    (∀ owner r l, owner = ((s.engine e).servesFor).getD e → owner < 120 → s.freeSpares.filter (fun k => k != e) = r :: l →
      ((s.engineFail e).engine e).events = [] ∧ ((s.engineFail e).engine r).servesFor = some owner ∧
      ((s.engineFail e).engine r).events = (s.engine e).events ∧ ((s.engineFail e).engine owner).movedTo = some r) := by
  simp only [s.engineFail_engine e]
  refine ⟨s.engineHandover_failed e, fun owner r l ho hlt hr => ?_⟩
  subst ho
  have hmem : r ∈ s.freeSpares.filter (fun k => k != e) := hr ▸ List.mem_cons_self
  have hre : r ≠ e := by simpa using (List.mem_filter.mp hmem).2
  have hro : ((s.engine e).servesFor).getD e ≠ r :=
    fun h => absurd (State.freeSpares_ge (List.mem_filter.mp hmem).1) (by omega)
  rw [State.engineHandover_spare hlt hr]
  refine ⟨?_, ?_, ?_, ?_⟩
  · by_cases h : ((s.engine e).servesFor).getD e = e
    · rw [h, State.setEngine_engine, s.engineDown_engine]
    · rw [State.setEngine_engine_ne _ _ h, State.setEngine_engine_ne _ _ hre, s.engineDown_engine]
  · rw [State.setEngine_engine_ne _ _ hro, State.setEngine_engine]
  · rw [State.setEngine_engine_ne _ _ hro, State.setEngine_engine]
  · rw [State.setEngine_engine]

/-- Settles O35. -/
theorem islandsAndEngines : Obligations.IslandsAndEngines := by
  refine ⟨fun s a b ha h => ⟨_, exec_arbiterAgingLift ha h, rfl, rfl⟩, fun s i ha hi => ⟨fun hr he hd => ?_, fun hr he hg => ?_, fun hg => ?_⟩,
    fun s i past late ha hi hf => islandWake_cases ha hi hf, fun s i he => ?_, fun s e k l ha hf hv => ?_,
    fun s e owner x ha he hf ho hx => ?_, fun s ha => ?_⟩
  · exact ⟨_, exec_islandClockGateIdle ha hi hr he hd, by rw [s.setIsland_island], fun j hj => s.setIsland_island_ne _ (Ne.symm hj)⟩
  · have same := fun j => (s.entryBoundary_chg 0x4002 1).island_eq rfl j
    refine ⟨_, exec_islandPowerGateIdle ha hi hr he hg, by rw [State.setIsland_island], ?_, fun j hj => ?_⟩
    · rw [State.setIsland_island, same]
    · rw [State.setIsland_island_ne _ _ (Ne.symm hj), same]
  · exact ⟨_, exec_islandPowerGateIdle_refused hg, (s.entryBoundary_chg 0x4002 1).islands rfl⟩
  · refine ⟨_, exec_powerGateEntryComplete he, ?_⟩
    split
    · rw [s.gatedWake_island]; exact ⟨rfl, rfl⟩
    · rw [s.setIsland_island]; exact ⟨rfl, rfl⟩
  · refine ⟨_, exec_engineEvent ha hf (by simp [hv]), ?_, ?_, ?_, fun j hj => s.setEngine_engine_ne _ (Ne.symm hj)⟩ <;>
      simp [hv]
  · have hexec : exec x s = .next (s.engineFail e) := by
      rcases hx with ⟨rfl, hv⟩ | rfl
      · exact exec_engineEventTimeout ha he hf hv
      · exact exec_engineFailed ha he hf
    obtain ⟨hdown, htake⟩ := engineFail_handsOver s e
    exact ⟨_, hexec, hdown, fun r l => htake owner r l ho⟩
  · have keep := (Chg.forEach State.measureChan_chg (Chg.refl 1048576 { s with sched := s.sched.measured })
      (l := List.range Config.channels)).sched rfl
    refine ⟨_, exec_measurementIntervalEnd ha, ?_, ?_, ?_, fun ch hc hs => ?_⟩
    · rw [keep]; rfl
    · rw [keep]; rfl
    · rw [keep]; rfl
    · have hch := State.measureChans_chan (s := { s with sched := s.sched.measured }) List.nodup_range (List.mem_range.mpr hc) hs
      exact ⟨congrArg Chan.busPct hch, congrArg Chan.busyNs hch⟩

end Sys2Proof
end

section
/-! SUPPORT. What a result of the Compression Unit does (R27, R323 to R331, R444, R445): to a lane, to another residue-checked unit,
to a block on its way in and to a block on its way out. -/

namespace Sys2Proof.Machine

/-! ### One block of a command -/

@[simp] theorem State.setBlk_blk (s : State) (t b : Nat) (x : BlkRt) : (s.setBlk t b x).blk t b = x := by
  unfold State.setBlk State.blk
  rw [s.setTag_tag]
  exact Tbl.get_set_same ..

theorem State.setBlk_blk_ne (s : State) (t : Nat) {b c : Nat} (x : BlkRt) (h : b ≠ c) : (s.setBlk t b x).blk t c = s.blk t c := by
  unfold State.setBlk State.blk
  rw [s.setTag_tag]
  exact Tbl.get_set_ne _ _ _ h

/-! ### Lanes -/

/-- The spare of a lane's half is free. -/
def Cmp.spareFree (c : Cmp) (l : Nat) : Bool :=
  if laneHalfA l then c.spareA.isNone && !c.failedLanes.contains 32 else c.spareB.isNone && !c.failedLanes.contains 33

/-- R331: the lane is out of service, and a free spare of its half stands in for it. -/
def Cmp.laneFailed (x : Cmp) (l : Nat) : Cmp :=
  let c : Cmp := { x with failedLanes := x.failedLanes ++ [l], firstMismatch := x.firstMismatch.filter (fun k => k != l) }
  if x.spareFree l then (if laneHalfA l then { c with spareA := some l } else { c with spareB := some l }) else c

theorem Cmp.laneFailed_failedLanes (x : Cmp) (l : Nat) : (x.laneFailed l).failedLanes = x.failedLanes ++ [l] := by
  unfold Cmp.laneFailed
  dsimp only
  split
  · split <;> rfl
  · rfl

/-- A lane that fails changes nothing but the lanes and the spares. -/
theorem Cmp.laneFailed_counts (x : Cmp) (l : Nat) : x.laneFailed l = { x with
    failedLanes := (x.laneFailed l).failedLanes, firstMismatch := (x.laneFailed l).firstMismatch,
    spareA := (x.laneFailed l).spareA, spareB := (x.laneFailed l).spareB } := by
  unfold Cmp.laneFailed
  dsimp only
  split
  · split <;> rfl
  · rfl

theorem Cmp.laneFailed_spareA {x : Cmp} {l : Nat} (hl : laneHalfA l = true) (hs : x.spareA = none) (hf : 32 ∉ x.failedLanes) :
    (x.laneFailed l).spareA = some l ∧ (x.laneFailed l).spareB = x.spareB := by
  have free : x.spareFree l = true := by simp [Cmp.spareFree, hl, hs, hf]
  simp [Cmp.laneFailed, free, hl]

theorem Cmp.laneFailed_spareB {x : Cmp} {l : Nat} (hl : laneHalfA l = false) (hs : x.spareB = none) (hf : 33 ∉ x.failedLanes) :
    (x.laneFailed l).spareB = some l ∧ (x.laneFailed l).spareA = x.spareA := by
  have free : x.spareFree l = true := by simp [Cmp.spareFree, hl, hs, hf]
  simp [Cmp.laneFailed, free, hl]

/-- A Sustain cause that has just been set stands. -/
theorem State.sustainSet_testBit (s : State) (b : Nat) : (s.sustainSet b).mode.sustain.testBit b = true := by
  show (s.mode.sustain ||| 2 ^ b).testBit b = true
  rw [Nat.testBit_or, Nat.testBit_two_pow_self, Bool.or_true]

theorem State.rasReport_cmp (s : State) (u i k v c : Nat) (d : List Nat) : (s.rasReport u i k v c d).cmp = s.cmp :=
  (s.rasReport_chg u i k v c d).cmp rfl

theorem State.rasReport_mode (s : State) (u i k v c : Nat) (d : List Nat) : (s.rasReport u i k v c d).mode = s.mode :=
  (s.rasReport_chg u i k v c d).mode rfl

/-- A failed lane out of service, with its report, before R331 also reports a half that runs with one lane fewer. -/
def State.laneOut (s : State) (l : Nat) : State :=
  (({ s with cmp := s.cmp.laneFailed l }.cmpBit 2).sustainSet 1).rasReport 2 l 3 2 0 [boolNat (s.cmp.spareFree l)]

theorem State.laneFail_eq (s : State) (l : Nat) :
    s.laneFail l = if s.cmp.spareFree l then s.laneOut l else (s.laneOut l).cmpBit 3 := rfl

theorem State.laneFail_cmp (s : State) (l : Nat) : (s.laneFail l).cmp = s.cmp.laneFailed l := by
  have out : (s.laneOut l).cmp = s.cmp.laneFailed l := State.rasReport_cmp ..
  rw [s.laneFail_eq]
  split <;> exact out

theorem State.laneFail_sustain (s : State) (l : Nat) : (s.laneFail l).mode.sustain.testBit 1 = true := by
  have out : (s.laneOut l).mode.sustain.testBit 1 = true := by
    unfold State.laneOut
    rw [State.rasReport_mode]
    exact State.sustainSet_testBit _ 1
  rw [s.laneFail_eq]
  split <;> exact out

/-- A mismatch found by the check decoder is counted (R342). -/
def Cmp.checked (x : Cmp) (check : Bool) : Cmp :=
  { x with checkMismatches := if check then satAdd 32 x.checkMismatches 1 else x.checkMismatches }

/-- The report of a lane's mismatch, which comes before its consequence. -/
def State.laneReport (s : State) (l : Nat) (check : Bool) : State :=
  ({ s with cmp := s.cmp.checked check }.cmpBit (boolNat check)).rasReport 2 l 9 1 0 [boolNat check]

theorem State.laneReport_cmp (s : State) (l : Nat) (check : Bool) : (s.laneReport l check).cmp = s.cmp.checked check :=
  State.rasReport_cmp ..

/-- The first mismatch of a lane (R330): the block is coded again. -/
theorem State.laneMismatch_first {s : State} {l : Nat} (check : Bool) (h : l ∉ s.cmp.firstMismatch) :
    (s.laneMismatch l check).cmp = { s.cmp.checked check with
      residueRetries := satAdd 32 s.cmp.residueRetries 1, firstMismatch := s.cmp.firstMismatch ++ [l] } := by
  have no : (s.laneReport l check).cmp.firstMismatch.contains l = false := by
    rw [s.laneReport_cmp]; simpa [Cmp.checked] using h
  show (if (s.laneReport l check).cmp.firstMismatch.contains l then (s.laneReport l check).laneFail l
    else { s.laneReport l check with cmp := { (s.laneReport l check).cmp with
      residueRetries := satAdd 32 (s.laneReport l check).cmp.residueRetries 1
      firstMismatch := (s.laneReport l check).cmp.firstMismatch ++ [l] } }).cmp = _
  rw [no, s.laneReport_cmp]
  rfl

theorem State.laneMismatch_tags (s : State) (l : Nat) (check : Bool) : (s.laneMismatch l check).tags = s.tags :=
  (s.laneMismatch_chg l check).tags rfl

/-- The second mismatch of a lane fails it (R330). -/
theorem State.laneMismatch_again {s : State} {l : Nat} (check : Bool) (h : l ∈ s.cmp.firstMismatch) :
    s.laneMismatch l check = (s.laneReport l check).laneFail l := by
  have yes : (s.laneReport l check).cmp.firstMismatch.contains l = true := by
    rw [s.laneReport_cmp]; simpa [Cmp.checked] using h
  exact if_pos yes

/-! ### The other residue-checked units (R27, R444) -/

theorem exec_blockEncodeDone_unit {s : State} {tag blk lane : Nat} {c : Coded} (h : 34 ≤ lane) :
    exec (.blockEncodeDone tag blk lane c) s = .next (if c.residueBad then s.unitMismatch (lane - 34)
      else { s with cmp := { s.cmp with unitMismatch := s.cmp.unitMismatch.filter (fun k => k != lane - 34) } }) :=
  congrArg Host.Outcome.next (if_pos h)

/-- A first mismatch of a unit is noted, and its report changes no mode. -/
theorem State.unitMismatch_first {s : State} {u : Nat} (h : u ∉ s.cmp.unitMismatch) :
    (s.unitMismatch u).cmp = { s.cmp with unitMismatch := s.cmp.unitMismatch ++ [u] } ∧ (s.unitMismatch u).mode = s.mode := by
  have no : (!s.cmp.unitMismatch.contains u) = true := by simpa using h
  unfold State.unitMismatch
  simp only [no, if_true]
  exact ⟨by rw [State.rasReport_cmp], State.rasReport_mode ..⟩

/-- A second mismatch of a unit without its twin brings the twin in. -/
theorem State.unitMismatch_twin {s : State} {u : Nat} (h : u ∈ s.cmp.unitMismatch) (ht : u ∉ s.cmp.twinUsed) :
    (s.unitMismatch u).cmp.twinUsed = s.cmp.twinUsed ++ [u] ∧ (s.unitMismatch u).mode.sustain.testBit 1 = true ∧
      (s.unitMismatch u).mode.fatal = s.mode.fatal := by
  have no : (!s.cmp.unitMismatch.contains u) = false := by simpa using h
  have nt : s.cmp.twinUsed.contains u = false := by simpa using ht
  unfold State.unitMismatch
  simp only [no, State.rasReport_cmp, nt, Bool.false_eq_true, if_false, State.rasReport_mode]
  exact ⟨rfl, State.sustainSet_testBit _ 1, rfl⟩

/-- A second mismatch of the twin ends service (R447). -/
theorem State.unitMismatch_ends {s : State} {u : Nat} (h : u ∈ s.cmp.unitMismatch) (ht : u ∈ s.cmp.twinUsed) (hf : s.mode.fatal = 0) :
    (s.unitMismatch u).mode.fatal = 4 ∧ (s.unitMismatch u).mode.drainWanted = true := by
  have no : (!s.cmp.unitMismatch.contains u) = false := by simpa using h
  have nt : s.cmp.twinUsed.contains u = true := by simpa using ht
  unfold State.unitMismatch
  simp only [no, State.rasReport_cmp, nt, Bool.false_eq_true, if_false, if_true]
  unfold State.serviceEnd
  refine ⟨?_, rfl⟩
  simp only [State.rasReport_mode, hf, if_true]

/-! ### A block on its way in (R323, R326, R329) -/

section
variable {s : State} {tag blk lane : Nat} {c : Coded}

theorem exec_blockEncodeDone_lane (hl : lane < 34) (hc : s.codable tag blk = true) (hm : (s.tag tag).mode = 1)
    (hs : s.laneServes lane = true) : exec (.blockEncodeDone tag blk lane c) s = .next (
      if c.residueBad then s.laneMismatch lane false
      else if c.inTime && c.image.length ≤ 3072 && slotDecode c.image != some ((s.blk tag blk).data) then s.laneMismatch lane true
      else s.coded tag blk lane 1 c.image c.inTime) :=
  congrArg Host.Outcome.next ((if_neg (by omega)).trans (State.when_true _ (by simp [hc, hm, hs])))

/-- The image that Ocxon's encoder makes of a block under its namespace's settings. -/
def State.ocxonImage (s : State) (tag blk : Nat) : List Byte :=
  let i := 0x5800 + ((s.tag tag).sqe.nsid - 1)
  ocxonEncode (s.cfg i 0x21) (s.ocxSetting (s.tag tag).sqe.nsid) (s.cfg i 0x23) (s.blk tag blk).data

theorem exec_ocxonCodeDone_in (hc : s.codable tag blk = true) (hm : (s.tag tag).mode = 2) (hs : s.laneServes lane = true) :
    exec (.ocxonCodeDone tag blk lane true c) s = .next (
      if c.residueBad then s.laneMismatch lane false
      else if c.image != s.ocxonImage tag blk then s.laneMismatch lane true
      else s.coded tag blk lane 2 (s.ocxonImage tag blk) true) :=
  congrArg Host.Outcome.next ((if_pos rfl).trans (State.when_true _ (by simp [hc, hm, hs])))

/-- A block on its way out, through a decoder: its image is the block itself where the slot holds it raw (R325). -/
def State.decodedOut (s : State) (tag blk : Nat) (dec : List Byte → Option (List Byte)) : State :=
  if (s.blk tag blk).slot = 3 then s.slotGood tag blk (s.blk tag blk).coded
  else match dec (s.blk tag blk).coded with
    | some d => s.slotGood tag blk d
    | none => s.slotBad tag blk

theorem exec_ocxonCodeDone_out (hd : s.decodable tag blk 2 = true) (hs : s.laneServes lane = true) :
    exec (.ocxonCodeDone tag blk lane false c) s =
      .next (if c.residueBad then s.laneMismatch lane false else s.decodedOut tag blk ocxonDecode) :=
  congrArg Host.Outcome.next ((if_neg Bool.false_ne_true).trans (State.when_true _ (by simp [hd, hs])))

theorem exec_slotDecodeDone (hd : s.decodable tag blk 1 = true) (hs : s.lanesLeft = true) :
    exec (.slotDecodeDone tag blk) s = .next (s.decodedOut tag blk slotDecode) :=
  next_when (by simp [hd, hs])

end

/-- What a coded block counts, and that its lane is sound again (R330, R342). -/
def Cmp.blockCoded (x : Cmp) (lane slot : Nat) : Cmp :=
  { x with firstMismatch := x.firstMismatch.filter (fun k => k != lane)
           blocksCoded := satAdd 64 x.blocksCoded 1
           blocksRaw := if slot = 3 then satAdd 64 x.blocksRaw 1 else x.blocksRaw
           granulesOut := satAdd 64 x.granulesOut (slotGranules slot) }

theorem State.coded_eq (s : State) (t b lane mode : Nat) (image : List Byte) (inTime : Bool) :
    s.coded t b lane mode image inTime =
      { s with cmp := s.cmp.blockCoded lane (if inTime then slotOf image.length else 3) }.stage t b
        (if inTime then slotOf image.length else 3) mode
        (if (if inTime then slotOf image.length else 3) = 3 then (s.blk t b).data else image) := rfl

theorem State.coded_cmp (s : State) (t b lane mode : Nat) (image : List Byte) (inTime : Bool) :
    (s.coded t b lane mode image inTime).cmp = s.cmp.blockCoded lane (if inTime then slotOf image.length else 3) := by
  rw [s.coded_eq]
  exact (State.stage_chg ..).cmp rfl

/-- A block that is staged lies in the next place of the write buffer, with both copies in the pair (R29, R326). -/
theorem State.stage_of_pair {s : State} {t p : Nat} (hp : s.pairFor t = some p) (hf : s.cmp.parityFailed = false) (b slot mode : Nat)
    (image : List Byte) :
    (s.stage t b slot mode image).wblk (s.wbuf.next + 1) =
      { nsid := (s.tag t).sqe.nsid, lba := (s.tag t).slba + b, image := image, info := (s.blk t b).info, slot := slot, mode := mode
        copyA := true, copyB := true, pair := p, slice := (s.tag t).slice } ∧
    ((s.stage t b slot mode image).blk t b).handle = s.wbuf.next + 1 := by
  unfold State.stage
  simp only [hp, hf, Bool.false_eq_true, if_false, State.setBlk_blk]
  exact ⟨s.setWblk_wblk .., trivial⟩

theorem slotOf_big {n : Nat} (h : 3072 < n) : slotOf n = 3 := by
  unfold slotOf
  rw [if_neg (by omega), if_neg (by omega), if_neg (by omega)]

/-! ### A block on its way out (R325, R328) -/

theorem State.decodedOut_good {s : State} {t b : Nat} {dec : List Byte → Option (List Byte)} {d : List Byte}
    (h : (s.blk t b).slot = 3 ∧ d = (s.blk t b).coded ∨ (s.blk t b).slot ≠ 3 ∧ dec (s.blk t b).coded = some d) :
    s.decodedOut t b dec = s.slotGood t b d := by
  unfold State.decodedOut
  rcases h with ⟨h3, rfl⟩ | ⟨h3, hd⟩
  · rw [if_pos h3]
  · rw [if_neg h3, hd]

theorem State.decodedOut_bad {s : State} {t b : Nat} {dec : List Byte → Option (List Byte)} (h3 : (s.blk t b).slot ≠ 3)
    (hd : dec (s.blk t b).coded = none) : s.decodedOut t b dec = s.slotBad t b := by
  unfold State.decodedOut
  rw [if_neg h3, hd]

/-- An invalid block of a flash read whose retry table is not empty goes to its first retry, and is counted once (R265). -/
theorem State.slotBad_retries {s : State} {t b l : Nat} (hsrc : (s.blk t b).src = .flash l) (hstep : s.stepNow t b l = 1)
    (hr : 0 < s.retryEntries) :
    (s.slotBad t b).blk t b = { s.blk t b with invalid := true, coded := [], escalation := 2, tries := 1 } ∧
    (s.slotBad t b).cmp.slotInvalid =
      (if (s.blk t b).invalid then s.cmp.slotInvalid else satAdd 32 s.cmp.slotInvalid 1) := by
  unfold State.slotBad
  simp only [hsrc, hstep, if_neg (Nat.pos_iff_ne_zero.mp hr), State.setBlk_blk]
  exact ⟨trivial, rfl⟩

end Sys2Proof.Machine
end

section
/-! The statement about the Compression Unit. -/

namespace Sys2Proof

open Machine

/-- R27, R444: the results of the residue-checked units other than the lanes. -/
theorem blockEncodeDone_units {s : State} {tag blk lane u : Nat} {c : Coded} (h : 34 ≤ lane) (hu : u = lane - 34) :
    (c.residueBad = false → ∃ t, exec (.blockEncodeDone tag blk lane c) s = .next t ∧
      t.cmp.unitMismatch = s.cmp.unitMismatch.filter (fun k => k != u) ∧ t.tags = s.tags) ∧
    (c.residueBad = true → u ∉ s.cmp.unitMismatch → ∃ t, exec (.blockEncodeDone tag blk lane c) s = .next t ∧
      t.cmp.unitMismatch = s.cmp.unitMismatch ++ [u] ∧ t.cmp.twinUsed = s.cmp.twinUsed ∧ t.mode = s.mode) ∧
    (c.residueBad = true → u ∈ s.cmp.unitMismatch → u ∉ s.cmp.twinUsed → ∃ t, exec (.blockEncodeDone tag blk lane c) s = .next t ∧
      t.cmp.twinUsed = s.cmp.twinUsed ++ [u] ∧ t.mode.sustain.testBit 1 = true ∧ t.mode.fatal = s.mode.fatal) ∧
    (c.residueBad = true → u ∈ s.cmp.unitMismatch → u ∈ s.cmp.twinUsed → s.mode.fatal = 0 →
      ∃ t, exec (.blockEncodeDone tag blk lane c) s = .next t ∧ t.mode.fatal = 4 ∧ t.mode.drainWanted = true) := by
  subst hu
  refine ⟨fun hg => ⟨_, exec_blockEncodeDone_unit h, ?_⟩, fun hb hn => ⟨_, exec_blockEncodeDone_unit h, ?_⟩,
    fun hb hm hn => ⟨_, exec_blockEncodeDone_unit h, ?_⟩, fun hb hm ht hf => ⟨_, exec_blockEncodeDone_unit h, ?_⟩⟩
  · simp [hg]
  · obtain ⟨hc, hmode⟩ := State.unitMismatch_first hn
    rw [if_pos hb, hc, hmode]
    exact ⟨rfl, rfl, rfl⟩
  · rw [if_pos hb]; exact State.unitMismatch_twin hm hn
  · rw [if_pos hb]; exact State.unitMismatch_ends hm ht hf

/-- R330, R331: the first mismatch of a lane has the block coded again, the second one fails the lane. -/
theorem laneMismatch_cases (s : State) (lane : Nat) (check : Bool) :
    (lane ∉ s.cmp.firstMismatch → (s.laneMismatch lane check).cmp.firstMismatch = s.cmp.firstMismatch ++ [lane] ∧
      (s.laneMismatch lane check).cmp.residueRetries = satAdd 32 s.cmp.residueRetries 1 ∧
      (s.laneMismatch lane check).cmp.failedLanes = s.cmp.failedLanes ∧ (s.laneMismatch lane check).tags = s.tags ∧
      (s.laneMismatch lane check).cmp.checkMismatches =
        (if check then satAdd 32 s.cmp.checkMismatches 1 else s.cmp.checkMismatches)) ∧
    (lane ∈ s.cmp.firstMismatch → (s.laneMismatch lane check).cmp.failedLanes = s.cmp.failedLanes ++ [lane] ∧
      (s.laneMismatch lane check).mode.sustain.testBit 1 = true ∧
      (laneHalfA lane = true → s.cmp.spareA = none → 32 ∉ s.cmp.failedLanes →
        (s.laneMismatch lane check).cmp.spareA = some lane ∧ (s.laneMismatch lane check).cmp.spareB = s.cmp.spareB) ∧
      (laneHalfA lane = false → s.cmp.spareB = none → 33 ∉ s.cmp.failedLanes →
        (s.laneMismatch lane check).cmp.spareB = some lane ∧ (s.laneMismatch lane check).cmp.spareA = s.cmp.spareA)) := by
  refine ⟨fun h => ?_, fun h => ?_⟩
  · rw [State.laneMismatch_tags, State.laneMismatch_first check h]
    exact ⟨rfl, rfl, rfl, rfl, rfl⟩
  · rw [State.laneMismatch_again check h, State.laneFail_cmp, State.laneReport_cmp, Cmp.laneFailed_failedLanes]
    exact ⟨rfl, State.laneFail_sustain .., Cmp.laneFailed_spareA (x := s.cmp.checked check),
      Cmp.laneFailed_spareB (x := s.cmp.checked check)⟩

/-- Settles O42. -/
theorem compressionUnit : Obligations.CompressionUnit := by
  refine ⟨fun s tag blk lane u c h hu => blockEncodeDone_units h hu, fun s tag blk lane c hl hc hm hs hr => ⟨fun ht hlen hd => ?_, fun ho => ?_⟩,
    fun s tag blk lane c x check hs hx => ?_, fun s tag blk lane c x dec hx => ?_,
    fun s tag blk lane i c hc hm hs hr hi => ⟨fun himg => ?_, fun himg => ?_⟩⟩
  · have hexec : exec (.blockEncodeDone tag blk lane c) s = .next (s.coded tag blk lane 1 c.image c.inTime) := by
      rw [exec_blockEncodeDone_lane hl hc hm hs]; simp [hr, hd]
    refine ⟨_, hexec, ?_, ?_, ?_, fun p hp hf hslot => ?_⟩
    · rw [State.coded_cmp]; rfl
    · rw [State.coded_cmp, ht]; rfl
    · rw [State.coded_cmp]; rfl
    · rw [s.coded_eq, ht, if_pos rfl, if_neg hslot]
      exact State.stage_of_pair (s := { s with cmp := s.cmp.blockCoded lane (slotOf c.image.length) }) hp hf blk _ 1 c.image
  · have hexec : exec (.blockEncodeDone tag blk lane c) s = .next (s.coded tag blk lane 1 c.image c.inTime) := by
      rw [exec_blockEncodeDone_lane hl hc hm hs]
      rcases ho with h | h
      · simp [hr, h]
      · simp [hr, Nat.not_le.mpr h]
    have raw : (if c.inTime then slotOf c.image.length else 3) = 3 := by
      rcases ho with h | h
      · simp [h]
      · simp [slotOf_big h]
    refine ⟨_, hexec, ?_, fun p hp hf => ?_⟩
    · rw [State.coded_cmp, raw]; rfl
    · rw [s.coded_eq, raw, if_pos rfl]
      obtain ⟨hblk, -⟩ := State.stage_of_pair (s := { s with cmp := s.cmp.blockCoded lane 3 }) hp hf blk 3 1 (s.blk tag blk).data
      exact ⟨congrArg WbBlk.slot hblk, congrArg WbBlk.image hblk⟩
  · have hexec : exec x s = .next (s.laneMismatch lane check) := by
      rcases hx with ⟨rfl, hl, hc, hm, ⟨hr, rfl⟩ | ⟨hr, rfl, ht, hlen, hd⟩⟩ | ⟨rfl, hc, hm, hr, rfl⟩ | ⟨rfl, hd, hr, rfl⟩
      · rw [exec_blockEncodeDone_lane hl hc hm hs, if_pos hr]
      · rw [exec_blockEncodeDone_lane hl hc hm hs]; simp [hr, ht, hlen, hd]
      · rw [exec_ocxonCodeDone_in hc hm hs, if_pos hr]
      · rw [exec_ocxonCodeDone_out hd hs, if_pos hr]
    obtain ⟨first, again⟩ := laneMismatch_cases s lane check
    exact ⟨fun h => ⟨_, hexec, first h⟩, fun h => ⟨_, hexec, again h⟩⟩
  · have hexec : exec x s = .next (s.decodedOut tag blk dec) := by
      rcases hx with ⟨rfl, hd, hs, rfl⟩ | ⟨rfl, hd, hs, hr, rfl⟩
      · exact exec_slotDecodeDone hd hs
      · rw [exec_ocxonCodeDone_out hd hs, hr]; rfl
    refine ⟨fun d hd => ?_, fun h3 hd l hsrc hstep hret => ?_⟩
    · rw [State.decodedOut_good hd] at hexec
      refine ⟨s.setBlk tag blk { s.blk tag blk with data := d, ready := true }, hexec, ?_, ?_, rfl⟩
      · rw [State.setBlk_blk]
      · rw [State.setBlk_blk]
    · rw [State.decodedOut_bad h3 hd] at hexec
      obtain ⟨hblk, hcount⟩ := State.slotBad_retries hsrc hstep hret
      refine ⟨_, hexec, ?_⟩
      rw [hblk]
      exact ⟨rfl, rfl, rfl, rfl, hcount⟩
  · have hexec : exec (.ocxonCodeDone tag blk lane true c) s = .next (s.coded tag blk lane 2 (s.ocxonImage tag blk) true) := by
      subst hi
      rw [exec_ocxonCodeDone_in hc hm hs]; simp [hr, himg, State.ocxonImage]
    refine ⟨_, hexec, ?_⟩
    rw [State.coded_cmp]
    exact ⟨rfl, rfl⟩
  · have hne : c.image ≠ s.ocxonImage tag blk := by subst hi; exact himg
    have hexec : exec (.ocxonCodeDone tag blk lane true c) s = .next (s.laneMismatch lane true) := by
      rw [exec_ocxonCodeDone_in hc hm hs]; simp [hr, hne]
    refine ⟨_, hexec, ?_⟩
    by_cases h : lane ∈ s.cmp.firstMismatch
    · rw [State.laneMismatch_again true h, State.laneFail_cmp, State.laneReport_cmp, Cmp.laneFailed_counts]
      exact ⟨rfl, rfl⟩
    · rw [State.laneMismatch_first true h]
      exact ⟨rfl, rfl⟩

end Sys2Proof
end

section
/-! SUPPORT. The transform jobs of Ocxon (R335 to R338): the commit of a tag, the start of a job, the end of a job with an index, and
its staged output. -/

namespace Sys2Proof.Machine

/-! ### Commits and lists of one tag -/

/-- A commit before the commit point leaves its status to be posted. -/
theorem State.commitTag_posts {s : State} {t : Nat} (h : (s.tag t).st.uncommitted = true) (st : Status) (a b : Nat) :
    Posts (s.commitTag t st a b) t st ∧ ((s.commitTag t st a b).tag t).dw0 = a := by
  unfold State.commitTag Posts
  cases hs : (s.tag t).st with
  | build => simp only [hs, State.setTag_tag, and_self]
  | wait => simp only [hs, State.setTag_tag, and_self]
  | run => simp only [hs, State.setTag_tag, and_self]
  | free => rw [hs] at h; exact absurd h Bool.false_ne_true
  | post => rw [hs] at h; exact absurd h Bool.false_ne_true
  | drain => rw [hs] at h; exact absurd h Bool.false_ne_true

theorem State.commitTag_cmp (s : State) (t : Nat) (st : Status) (a b : Nat) : (s.commitTag t st a b).cmp = s.cmp :=
  (s.commitTag_chg t st a b).cmp rfl

theorem State.listFrom_tagsKept (s : State) (t : Nat) (second : Bool) (at_ : Option (Nat × Nat)) :
    TagsKept s (s.listFrom t second at_) :=
  TagsKept.step (TagsKept.of_chg (State.askList_chg ..) (by decide))
    (TagsKept.setTag _ _ _ ⟨rfl, rfl, rfl, rfl, rfl, rfl, rfl, rfl, rfl, rfl, rfl, Or.inl rfl⟩)

theorem State.secondList_tagsKept (s : State) (t : Nat) : TagsKept s (s.secondList t) := by
  unfold State.secondList
  refine TagsKept.ite (s.listFrom_tagsKept _ _ _) (TagsKept.ite (s.listFrom_tagsKept _ _ _) ?_)
  exact TagsKept.setTag _ _ _ ⟨rfl, rfl, rfl, rfl, rfl, rfl, rfl, rfl, rfl, rfl, rfl, Or.inl rfl⟩

theorem State.startLists_tagsKept (s : State) (t : Nat) : TagsKept s (s.startLists t) := by
  unfold State.startLists
  split
  · exact s.listFrom_tagsKept _ _ _
  · exact s.secondList_tagsKept _

theorem Tag.onward.isJob {x y : Tag} (h : x.onward y) : y.isJob = x.isJob := by
  unfold Tag.isJob; rw [h.admin, h.sqe]

/-- A job that is built carries its plan, and its lists are asked for. -/
theorem State.ioBuild_job {s : State} {t : Nat} (h : (s.tag t).isJob = true) (plan : List PStep) :
    ((s.ioBuild t plan true).tag t).built = true ∧ ((s.ioBuild t plan true).tag t).plan = plan ∧
      ((s.ioBuild t plan true).tag t).nlb = (s.tag t).nlb := by
  have kept := (s.setTag t { s.tag t with built := true, plan := plan }).startLists_tagsKept t t
  rw [State.setTag_tag] at kept
  have eq : s.ioBuild t plan true = (s.setTag t { s.tag t with built := true, plan := plan }).startLists t :=
    if_pos (kept.isJob.trans h)
  rw [eq]
  exact ⟨kept.built, kept.plan, kept.nlb⟩

/-! ### The start of a job (R335, R337) -/

section
variable {s : State} {tag : Nat}

/-- A command in BUILD has not reached its commit point, and one of opcode C0h is a job. -/
theorem State.iot_job (h : s.iot tag 0xC0 = true) :
    (s.tag tag).st = .build ∧ (s.tag tag).isJob = true := by
  unfold State.iot at h
  simp only [Bool.and_eq_true, decide_eq_true_eq] at h
  obtain ⟨⟨⟨hadm, hst⟩, -⟩, hop⟩ := h
  exact ⟨hst, by simp only [Tag.isJob, hadm, hop, Bool.and_self]⟩

theorem exec_transformEncode_start {coded : List (List Byte)} (h : s.iot tag 0xC0 = true) (hd : Sqe.jobDecode (s.tag tag).sqe = false) :
    exec (.transformEncode tag coded) s = .next (s.jobStart tag) :=
  congrArg Host.Outcome.next ((if_pos h).trans (State.when_true _ (by simp [hd])))

theorem exec_transformDecode_start (h : s.iot tag 0xC0 = true) (hd : Sqe.jobDecode (s.tag tag).sqe = true) :
    exec (.transformDecode tag) s = .next (s.jobStart tag) :=
  congrArg Host.Outcome.next ((if_pos h).trans (State.when_true _ hd))

theorem State.jobStart_refused {st : Status} (h : s.jobStatus tag = some st) : s.jobStart tag = s.commitTag tag st := by
  unfold State.jobStart; rw [h]

theorem State.jobStart_noLane (h : s.jobStatus tag = none) (hl : s.lanesLeft = false) :
    s.jobStart tag = s.commitTag tag ⟨0, 1⟩ := by
  unfold State.jobStart; simp [h, hl]

/-- A job that finds no staging space waits in BUILD, and its first wait is counted. -/
theorem State.jobStart_waits (h : s.jobStatus tag = none) (hl : s.lanesLeft = true)
    (hs : s.cfg 0x7400 3 * 2 ^ 20 < s.jobStage + Sqe.outLimit (s.tag tag).sqe) (hw : (s.tag tag).waitsStage = false) :
    s.jobStart tag = { s.setTag tag { s.tag tag with waitsStage := true } with
      cmp := { s.cmp with stageWaits := satAdd 64 s.cmp.stageWaits 1 } } := by
  unfold State.jobStart
  simp only [h, hl, hw, if_pos hs, Bool.not_true, Bool.false_eq_true, if_false]

theorem State.jobStart_builds (h : s.jobStatus tag = none) (hl : s.lanesLeft = true)
    (hs : s.jobStage + Sqe.outLimit (s.tag tag).sqe ≤ s.cfg 0x7400 3 * 2 ^ 20) :
    s.jobStart tag = (s.setTag tag { s.tag tag with nlb := ceilDiv (Sqe.inLen (s.tag tag).sqe) 4096, waitsStage := false }).ioBuild tag
      ([⟨0, .exc⟩, ⟨0, .buf⟩] ++ planOf [.hostrd] (ceilDiv (Sqe.inLen (s.tag tag).sqe) 4096) 4 [.xform, .hostwr, .cmpl]) true := by
  unfold State.jobStart
  simp only [h, hl, if_neg (Nat.not_lt.mpr hs), Bool.not_true, Bool.false_eq_true, if_false]

/-! ### The coding of a job (R336, R338) -/

/-- A job whose whole input is here runs, and is no longer in BUILD. -/
theorem State.jobInput_run (h : s.jobInput tag = true) : (s.tag tag).st = .run ∧ s.iot tag 0xC0 = false := by
  unfold State.jobInput at h
  simp only [Bool.and_eq_true, decide_eq_true_eq] at h
  obtain ⟨⟨⟨⟨⟨-, hst⟩, -⟩, -⟩, -⟩, -⟩ := h
  exact ⟨hst, by simp [State.iot, hst]⟩

/-- The records that a job's blocks are coded to. -/
def State.jobRows (s : State) (tag : Nat) (coded : List (List Byte)) : List (Option (Nat × List Byte)) :=
  (List.range (s.tag tag).blocks).map (fun b => s.jobRecord (s.tag tag).sqe (s.blk tag b).data (coded.getD b []))

/-- The count of a job's coded blocks, and of those that stay raw (R342). -/
def Cmp.jobCoded (c : Cmp) (l : List (Nat × List Byte)) : Cmp :=
  { c with blocksCoded := satAdd 64 c.blocksCoded l.length
           blocksRaw := satAdd 64 c.blocksRaw (l.filter (fun (r : Nat × List Byte) => r.1 == 0)).length }

/-- What the records of an encode make of the job. -/
def State.jobEncoded (s : State) (tag : Nat) : Except (Nat × Bool) (List (Nat × List Byte)) → State
  | .error (_, true) => { s with cmp := { s.cmp with checkMismatches := satAdd 32 s.cmp.checkMismatches 1 } }.cmpBit 1
  | .error (i, false) => s.jobFail tag i true
  | .ok l => { s with cmp := s.cmp.jobCoded l }.jobOut tag (l.map (fun (r : Nat × List Byte) => xformRecord r.1 r.2))

theorem exec_transformEncode_input {coded : List (List Byte)} (h : s.jobInput tag = true) (hd : Sqe.jobDecode (s.tag tag).sqe = false) :
    exec (.transformEncode tag coded) s =
      .next (s.jobEncoded tag (jobRecords (Sqe.outLimit (s.tag tag).sqe) 0 0 (s.jobRows tag coded))) := by
  refine congrArg Host.Outcome.next ((if_neg (by simp [(State.jobInput_run h).2])).trans ((State.when_true _ (by simp [h, hd])).trans rfl))

/-- The blocks of the records that a decode takes in. -/
def State.jobDecoded (s : State) (tag : Nat) : Except (Nat × Bool) (List (List Byte)) → State
  | .error (i, overflow) => s.jobFail tag i overflow
  | .ok ds => s.jobOut tag ds

theorem exec_transformDecode_input {inp : List Byte} (h : s.jobInput tag = true) (hd : Sqe.jobDecode (s.tag tag).sqe = true)
    (hi : inp = ((List.range (s.tag tag).blocks).map (fun b => (s.blk tag b).data)).flatten) :
    exec (.transformDecode tag) s = .next (s.jobDecoded tag (jobBlocks (Sqe.outLimit (s.tag tag).sqe) (inp.length + 1) 0 inp)) := by
  subst hi
  refine congrArg Host.Outcome.next ((if_neg (by simp [(State.jobInput_run h).2])).trans ((State.when_true _ (by simp [h, hd])).trans rfl))

/-- A job that ends with an index posts it, and the failure is counted by its kind. -/
theorem State.jobFail_posts (h : (s.tag tag).st = .run) (i : Nat) (overflow : Bool) :
    Posts (s.jobFail tag i overflow) tag ⟨7, if overflow then 0xA0 else 0xA1⟩ ∧ ((s.jobFail tag i overflow).tag tag).dw0 = i ∧
    (s.jobFail tag i overflow).cmp = { s.cmp with
      jobOverflows := if overflow then satAdd 32 s.cmp.jobOverflows 1 else s.cmp.jobOverflows
      jobInvalid := if overflow then s.cmp.jobInvalid else satAdd 32 s.cmp.jobInvalid 1 } := by
  unfold State.jobFail Posts
  dsimp only
  rw [State.setTag_tag, State.setTag_cmp, State.commitTag_cmp]
  obtain ⟨⟨hst, hstatus⟩, hdw⟩ := State.commitTag_posts (s := { s with cmp := { s.cmp with
      jobOverflows := if overflow then satAdd 32 s.cmp.jobOverflows 1 else s.cmp.jobOverflows
      jobInvalid := if overflow then s.cmp.jobInvalid else satAdd 32 s.cmp.jobInvalid 1 } }) (t := tag)
    (show (s.tag tag).st.uncommitted = true by rw [h]; rfl) ⟨7, if overflow then 0xA0 else 0xA1⟩ i 0
  exact ⟨⟨hst, hstatus⟩, hdw, rfl⟩

end

/-- One block of a job's output is staged. -/
def State.blkOut (s : State) (t b : Nat) (out : List Byte) : State :=
  s.setBlk t b { s.blk t b with coded := out, ready := true }

theorem State.blkOut_ready {s : State} {t b c : Nat} {out : List Byte} (h : c = b ∨ (s.blk t c).ready = true) :
    ((s.blkOut t b out).blk t c).ready = true := by
  unfold State.blkOut
  by_cases e : b = c
  · subst e; rw [State.setBlk_blk]
  · rw [s.setBlk_blk_ne t _ e]; exact h.resolve_left (Ne.symm e)

theorem State.blkOut_st (s : State) (t b : Nat) (out : List Byte) : ((s.blkOut t b out).tag t).st = (s.tag t).st := by
  unfold State.blkOut State.setBlk
  rw [State.setTag_tag]

/-- Blocks staged one after the other are ready, and so are those that were ready before. -/
theorem State.blksOut_ready {t c : Nat} {out : Nat → List Byte} (l : List Nat) {s : State} (h : c ∈ l ∨ (s.blk t c).ready = true) :
    ((s.forEach l (fun b s => s.blkOut t b (out b))).blk t c).ready = true := by
  induction l generalizing s with
  | nil => exact h.resolve_left List.not_mem_nil
  | cons b l ih =>
    refine ih (s := s.blkOut t b (out b)) ?_
    rcases h with h | h
    · rcases List.mem_cons.mp h with rfl | h
      · exact .inr (State.blkOut_ready (.inl rfl))
      · exact .inl h
    · exact .inr (State.blkOut_ready (.inr h))

theorem State.blksOut_st {t : Nat} {out : Nat → List Byte} (l : List Nat) (s : State) :
    ((s.forEach l (fun b s => s.blkOut t b (out b))).tag t).st = (s.tag t).st := by
  induction l generalizing s with
  | nil => rfl
  | cons b l ih => exact (ih (s.blkOut t b (out b))).trans (s.blkOut_st t b (out b))

/-- The staged output of a job: every block is ready, and the command still runs. -/
theorem State.jobOut_ready (s : State) (t : Nat) (outs : List (List Byte)) :
    (∀ b, b < (s.tag t).blocks → ((s.jobOut t outs).blk t b).ready = true) ∧ ((s.jobOut t outs).tag t).st = (s.tag t).st ∧
      (s.jobOut t outs).cmp = s.cmp :=
  ⟨fun _ hb => State.blksOut_ready (List.range _) (.inl (List.mem_range.mpr hb)), State.blksOut_st (List.range _) s,
    (s.jobOut_chg t outs).cmp rfl⟩

end Sys2Proof.Machine
end

section
/-! The statement about the transform jobs. -/

namespace Sys2Proof

open Machine

/-- Settles O28. -/
theorem transformJobs : Obligations.TransformJobs := by
  refine ⟨fun s tag n x hiot hx hn => ?_, fun s tag coded rs hin hd hrs => ?_, fun s tag inp hin hd hi => ?_⟩
  · subst hn
    have hexec : exec x s = .next (s.jobStart tag) := by
      rcases hx with ⟨⟨coded, rfl⟩, hd⟩ | ⟨rfl, hd⟩
      · exact exec_transformEncode_start hiot hd
      · exact exec_transformDecode_start hiot hd
    obtain ⟨hst, hjob⟩ := State.iot_job hiot
    have hun : (s.tag tag).st.uncommitted = true := by rw [hst]; rfl
    refine ⟨fun st h => ?_, fun h hl => ?_, fun h hl hs hw => ?_, fun h hl hs => ?_⟩
    · rw [State.jobStart_refused h] at hexec
      exact ⟨_, hexec, (State.commitTag_posts hun st 0 0).1, State.commitTag_cmp ..⟩
    · rw [State.jobStart_noLane h hl] at hexec
      exact ⟨_, hexec, (State.commitTag_posts hun _ 0 0).1, State.commitTag_cmp ..⟩
    · have htag := s.setTag_tag tag { s.tag tag with waitsStage := true }
      rw [State.jobStart_waits h hl hs hw] at hexec
      exact ⟨_, hexec, congrArg Tag.waitsStage htag, (congrArg Tag.st htag).trans hst, rfl⟩
    · have htag := s.setTag_tag tag { s.tag tag with nlb := ceilDiv (Sqe.inLen (s.tag tag).sqe) 4096, waitsStage := false }
      rw [State.jobStart_builds h hl hs] at hexec
      obtain ⟨hbuilt, hplan, hnlb⟩ := State.ioBuild_job ((congrArg Tag.isJob htag).trans hjob)
        ([⟨0, .exc⟩, ⟨0, .buf⟩] ++ planOf [.hostrd] (ceilDiv (Sqe.inLen (s.tag tag).sqe) 4096) 4 [.xform, .hostwr, .cmpl])
      exact ⟨_, hexec, hbuilt, hnlb.trans (congrArg Tag.nlb htag), hplan, (State.ioBuild_chg ..).media rfl⟩
  · have hexec := exec_transformEncode_input (coded := coded) hin hd
    have hrun := (State.jobInput_run hin).1
    rw [show s.jobRows tag coded = rs from hrs.symm] at hexec
    refine ⟨fun l h => ?_, fun i h => ?_, fun i h => ?_⟩
    · rw [h] at hexec
      obtain ⟨hready, hst, hcmp⟩ := State.jobOut_ready { s with cmp := s.cmp.jobCoded l } tag
        (l.map (fun (r : Nat × List Byte) => xformRecord r.1 r.2))
      exact ⟨_, hexec, congrArg Cmp.blocksCoded hcmp, hready, hst.trans hrun⟩
    · rw [h] at hexec
      obtain ⟨hposts, hdw, hcmp⟩ := State.jobFail_posts hrun i true
      exact ⟨_, hexec, hposts, hdw, congrArg Cmp.jobOverflows hcmp⟩
    · rw [h] at hexec
      exact ⟨_, hexec, rfl, rfl⟩
  · have hexec := exec_transformDecode_input hin hd hi
    have hrun := (State.jobInput_run hin).1
    refine ⟨fun ds h => ?_, fun i h => ?_⟩
    · rw [h] at hexec
      obtain ⟨hready, hst, hcmp⟩ := State.jobOut_ready s tag ds
      exact ⟨_, hexec, hready, hst.trans hrun, hcmp⟩
    · rw [h] at hexec
      obtain ⟨hposts, hdw, hcmp⟩ := State.jobFail_posts hrun i false
      exact ⟨_, hexec, hposts, hdw, congrArg Cmp.jobInvalid hcmp⟩

end Sys2Proof
end

section
/-! SUPPORT. The merge buffer and the scrubbers (R366 to R376, R381): one equation for each command and find, and what a step of a
scrubber, a correction and a failing element leave. -/

namespace Sys2Proof.Machine

/-! ### The merge buffer (R372, R373) -/

/-- The journal tail's last line is merged. -/
def State.tailMerged (s : State) : State := { s with jrn := { s.jrn with merged := s.tailMark } }

/-- The line read for a merge was uncorrectable in its channel. -/
def State.tailBad (s : State) (ch : Nat) : State :=
  ((s.tailMerged.setDram ch { s.tailMerged.dram ch with
    uncorrectable := satAdd 32 (s.tailMerged.dram ch).uncorrectable 1 }).drcBit 1).rasBit 1

theorem State.tailBad_dram (s : State) (ch : Nat) :
    (s.tailBad ch).dram ch = { s.dram ch with uncorrectable := satAdd 32 (s.dram ch).uncorrectable 1 } :=
  ((State.rasBit_chg ..).dram_eq rfl ch).trans (State.setDram_dram ..)

theorem State.tailBad_jrn (s : State) (ch : Nat) : (s.tailBad ch).jrn = s.tailMerged.jrn := (State.rasBit_chg ..).jrn rfl

theorem State.tailBad_chip (s : State) (ch : Nat) : (s.tailBad ch).chip = s.chip := (State.rasBit_chg ..).chip rfl

/-- The merge of the line read in vain is refused. -/
def State.partialRefuse (s : State) : State :=
  { s with chip := { s.chip with partialRefused := satAdd 32 s.chip.partialRefused 1 } }

section
variable {s : State} {ch line : Nat} {good : Bool}

/-- The conditions of R372 for a merge of the journal tail. -/
def State.mergesAt (s : State) (ch line : Nat) : Prop :=
  s.dramUp ch = true ∧ ch = s.tailChannel ∧ s.tailMerges = true ∧ line = recBytes s.jrn.tail / 64

theorem State.mergesAt.may (h : s.mergesAt ch line) :
    (s.dramUp ch && ch == s.tailChannel && s.tailMerges && line == recBytes s.jrn.tail / 64) = true := by
  obtain ⟨hup, hch, hm, hl⟩ := h
  rw [hup, hm, ← hch, ← hl, beq_self_eq_true, beq_self_eq_true]
  rfl

theorem exec_mergeHoldExpiry_clean (h : s.mergesAt ch line) :
    exec (.mergeHoldExpiry ch line .clean good) s = .next s.tailMerged := next_when h.may

theorem exec_mergeHoldExpiry_corrected (h : s.mergesAt ch line) :
    exec (.mergeHoldExpiry ch line .corrected good) s =
      .next (((s.tailMerged.setDram ch { s.dram ch with corrected := satAdd 64 (s.dram ch).corrected 1 }).drcBit 0).rasBit 0) :=
  next_when h.may

theorem exec_mergeHoldExpiry_repaired (h : s.mergesAt ch line) :
    exec (.mergeHoldExpiry ch line .uncorrectable true) s = .next ((s.tailBad ch).setDram ch { (s.tailBad ch).dram ch with
      mirrorRepairs := satAdd 32 ((s.tailBad ch).dram ch).mirrorRepairs 1 }) :=
  next_when h.may

theorem exec_mergeHoldExpiry_lost (h : s.mergesAt ch line) :
    exec (.mergeHoldExpiry ch line .uncorrectable false) s = .next (s.tailBad ch).partialRefuse.tailLost := by
  show execMergeHoldExpiry ch line .uncorrectable false s = _
  unfold execMergeHoldExpiry
  rw [next_when h.may]
  unfold State.partialRefuse State.tailBad State.tailMerged
  dsimp only
  rw [if_neg Bool.false_ne_true]

end

/-! ### One step of a scrubber (R371, R374, R376) -/

/-- A step of a scrubber leaves what the other operations on the chip's memory count and keep. -/
structure Onchip.scrubKept (x y : Onchip) : Prop where
  failing : y.failing = x.failing
  correctedWords : y.correctedWords = x.correctedWords
  sramCorrected : y.sramCorrected = x.sramCorrected
  sramUncorr : y.sramUncorr = x.sramUncorr
  writebackCancelled : y.writebackCancelled = x.writebackCancelled

section
variable (s : State) (k lines : Nat)

theorem State.scrubStep_kept : s.chip.scrubKept (s.scrubStep k lines).chip := by
  by_cases h : Tbl.get 0 s.chip.scrubSteps k + 1 < lines
  · rw [show s.scrubStep k lines = _ from if_pos h]; exact ⟨rfl, rfl, rfl, rfl, rfl⟩
  · rw [show s.scrubStep k lines = _ from if_neg h]; exact ⟨rfl, rfl, rfl, rfl, rfl⟩

theorem State.scrubStep_lastStep : Tbl.get 0 (s.scrubStep k lines).chip.lastStep k = s.aon.now := by
  have set : (s.scrubStep k lines).chip.lastStep = Tbl.set 0 s.chip.lastStep k s.aon.now := by
    by_cases h : Tbl.get 0 s.chip.scrubSteps k + 1 < lines
    · rw [show s.scrubStep k lines = _ from if_pos h]
    · rw [show s.scrubStep k lines = _ from if_neg h]
  rw [set, Tbl.get_set_same]

/-- The step after the last line of a lap starts the next lap. -/
theorem State.scrubStep_scrubSteps : Tbl.get 0 (s.scrubStep k lines).chip.scrubSteps k =
    if Tbl.get 0 s.chip.scrubSteps k + 1 < lines then Tbl.get 0 s.chip.scrubSteps k + 1 else 0 := by
  by_cases h : Tbl.get 0 s.chip.scrubSteps k + 1 < lines
  · have set : (s.scrubStep k lines).chip.scrubSteps = Tbl.set 0 s.chip.scrubSteps k (Tbl.get 0 s.chip.scrubSteps k + 1) := by
      rw [show s.scrubStep k lines = _ from if_pos h]
    rw [set, Tbl.get_set_same, if_pos h]
  · have set : (s.scrubStep k lines).chip.scrubSteps =
        Tbl.set 0 (Tbl.set 0 s.chip.scrubSteps k (Tbl.get 0 s.chip.scrubSteps k + 1)) k 0 := by
      rw [show s.scrubStep k lines = _ from if_neg h]
    rw [set, Tbl.get_set_same, if_neg h]

end

theorem State.scrubStep_aon (s : State) (k lines : Nat) : (s.scrubStep k lines).aon = s.aon := (s.scrubStep_chg k lines).aon rfl

/-! ### Failing elements and corrected words (R369, R370) -/

/-- What the withdrawal of a failing element's memory leaves: the failing elements and the count of uncorrectable words. -/
theorem State.macroWithdraw_chip (s : State) (m : Nat) : (s.macroWithdraw m).chip.failing = s.chip.failing ∧
    (s.macroWithdraw m).chip.sramUncorr = s.chip.sramUncorr := by
  unfold State.macroWithdraw
  split
  · exact ⟨rfl, rfl⟩
  · split
    · split <;> exact ⟨rfl, rfl⟩
    · split <;> exact ⟨rfl, rfl⟩

/-- The record of a failing element, for repair while there is room (R369, R370). -/
def State.elementNoted (s : State) (m el : Nat) : State :=
  let s1 := { s with chip := { s.chip with failing := s.chip.failing ++ [(m, el)] } }
  if s1.chip.repairs.length < 256 then
    { s1 with chip := { s1.chip with repairs := s1.chip.repairs ++ [(m, el)] } }.append
      ⟨0, 0x7902, 1, [], logRecordUnits 6, 0, none, 0, false, 0⟩ false
  else s1

theorem State.elementNoted_chip (s : State) (m el : Nat) : (s.elementNoted m el).chip.failing = s.chip.failing ++ [(m, el)] ∧
    (s.elementNoted m el).chip.sramUncorr = s.chip.sramUncorr := by
  unfold State.elementNoted
  dsimp only
  split <;> exact ⟨rfl, rfl⟩

theorem State.elementFail_eq (s : State) (m el : Nat) : s.elementFail m el =
    if s.chip.failing.contains (m, el) then s
    else if !s.chip.failing.any (fun x => x.1 == m) then (s.elementNoted m el).macroWithdraw m else s.elementNoted m el := rfl

/-- An element that fails is among the failing ones, and the uncorrectable words are counted elsewhere. -/
theorem State.elementFail_chip (s : State) (m el : Nat) : (m, el) ∈ (s.elementFail m el).chip.failing ∧
    (s.elementFail m el).chip.sramUncorr = s.chip.sramUncorr := by
  obtain ⟨noted, uncorr⟩ := s.elementNoted_chip m el
  have here : (m, el) ∈ (s.elementNoted m el).chip.failing := by rw [noted]; exact List.mem_append_right _ List.mem_cons_self
  rw [s.elementFail_eq]
  split
  · rename_i h; exact ⟨List.contains_iff_mem.mp h, rfl⟩
  · split
    · obtain ⟨hf, hu⟩ := (s.elementNoted m el).macroWithdraw_chip m
      exact ⟨hf ▸ here, hu.trans uncorr⟩
    · exact ⟨here, uncorr⟩

/-- The word was corrected and written back before (R369). -/
def State.wordAgain (s : State) (m el word : Nat) : Bool :=
  s.chip.correctedWords.any (fun x => x.1 == m && x.2.1 == el && x.2.2.1 == word * 2)

/-- The distinct words of an element that were corrected within 24 hours, with one corrected now (R369). -/
def State.wordsOf (s : State) (m el word : Nat) : List Nat :=
  (word :: (s.chip.correctedWords.filter (fun x => x.1 == m && x.2.1 == el && !s.elapsed x.2.2.2 (24 * hour))).map
    (fun x => x.2.2.1 / 2)).dedup

/-- A corrected word, counted, kept and written back. -/
def State.wordCorrected (s : State) (m el word : Nat) (over_ : Bool) : State :=
  ({ s with chip := { s.chip with
      sramCorrected := satAdd 64 s.chip.sramCorrected 1
      correctedWords := s.chip.correctedWords ++ [(m, el, word * 2 + boolNat over_, s.aon.now)] } }.writeBack over_).rasBit 0

theorem State.sramCorrect_eq (s : State) (m el word : Nat) (over_ : Bool) : s.sramCorrect m el word over_ =
    if s.wordAgain m el word || decide (3 ≤ (s.wordsOf m el word).length) then (s.wordCorrected m el word over_).elementFail m el
    else s.wordCorrected m el word over_ := rfl

theorem State.wordCorrected_chip (s : State) (m el word : Nat) (over_ : Bool) : (s.wordCorrected m el word over_).chip = { s.chip with
    sramCorrected := satAdd 64 s.chip.sramCorrected 1
    correctedWords := s.chip.correctedWords ++ [(m, el, word * 2 + boolNat over_, s.aon.now)]
    writebackCancelled := if over_ then satAdd 64 s.chip.writebackCancelled 1 else s.chip.writebackCancelled } := by
  unfold State.wordCorrected
  rw [(State.rasBit_chg ..).chip rfl]
  cases over_ <;> rfl

/-- The first correction of an element fails nothing. -/
theorem State.sramCorrect_first {s : State} {m el word : Nat} (over_ : Bool)
    (h : ∀ x ∈ s.chip.correctedWords, x.1 ≠ m ∨ x.2.1 ≠ el) : s.sramCorrect m el word over_ = s.wordCorrected m el word over_ := by
  have other : ∀ x ∈ s.chip.correctedWords, (x.1 == m && x.2.1 == el) = false := fun x hx => by
    rcases h x hx with e | e <;> simp [e]
  have again : s.wordAgain m el word = false := List.any_eq_false.mpr fun x hx => by simp [other x hx]
  have none_ : s.chip.correctedWords.filter (fun x => x.1 == m && x.2.1 == el && !s.elapsed x.2.2.2 (24 * hour)) = [] :=
    List.filter_eq_nil_iff.mpr fun x hx => by simp [other x hx]
  have words : s.wordsOf m el word = [word] := by unfold State.wordsOf; rw [none_]; rfl
  rw [s.sramCorrect_eq, again, words]
  rfl

/-- A word corrected again after its write-back fails its element. -/
theorem State.sramCorrect_again {s : State} {m el word now : Nat} (over_ : Bool)
    (h : (m, el, word * 2, now) ∈ s.chip.correctedWords) : (m, el) ∈ (s.sramCorrect m el word over_).chip.failing := by
  have again : s.wordAgain m el word = true := List.any_eq_true.mpr ⟨_, h, by simp⟩
  rw [s.sramCorrect_eq, again, Bool.true_or, if_pos rfl]
  exact (State.elementFail_chip ..).1

/-- The third distinct word within 24 hours fails its element. -/
theorem State.sramCorrect_third {s : State} {m el word a b : Nat} (over_ : Bool) (hab : a ≠ b) (ha : a ≠ word) (hb : b ≠ word)
    (h : ∀ v ∈ [a, b], ∃ x ∈ s.chip.correctedWords, x.1 = m ∧ x.2.1 = el ∧ s.elapsed x.2.2.2 (24 * hour) = false ∧ x.2.2.1 / 2 = v) :
    (m, el) ∈ (s.sramCorrect m el word over_).chip.failing := by
  have three : [word, a, b].length ≤ (s.wordsOf m el word).length := by
    refine (List.Nodup.subperm ?_ fun v hv => ?_).length_le
    · simp [hab, Ne.symm ha, Ne.symm hb]
    · refine List.mem_dedup.mpr (List.mem_cons.mpr ?_)
      rcases List.mem_cons.mp hv with e | hv
      · exact .inl e
      · obtain ⟨x, hx, hm, he, ht, hw⟩ := h v hv
        exact .inr (List.mem_map.mpr ⟨x, List.mem_filter.mpr ⟨hx, by simp [hm, he, ht]⟩, hw⟩)
  have fails : (s.wordAgain m el word || decide (3 ≤ (s.wordsOf m el word).length)) = true := by
    rw [decide_eq_true (show 3 ≤ _ from three), Bool.or_true]
  rw [s.sramCorrect_eq, if_pos fails]
  exact (State.elementFail_chip ..).1

/-! ### Engines (R18) -/

theorem State.engineFail_failed (s : State) (e : Nat) : ((s.engineFail e).engine e).failed = true := by
  rw [s.engineFail_engine]; exact s.engineHandover_failed e

/-- The third corrected error of an engine's memory within an hour fails the engine. -/
theorem State.engineCorrected_third {s : State} {e : Nat} (hf : (s.engine e).failed = false)
    (h : 2 ≤ (s.recent (s.engine e).corrected hour).length) : ((s.engineCorrected e).engine e).failed = true := by
  have three : 3 ≤ (s.recent (s.engine e).corrected hour ++ [s.aon.now]).length ∧ (s.engine e).failed = false :=
    ⟨by rw [List.length_append]; exact Nat.succ_le_succ h, hf⟩
  unfold State.engineCorrected
  simp only [if_pos three]
  exact State.engineFail_failed ..

/-- The first corrected error of an hour is only kept. -/
theorem State.engineCorrected_first {s : State} {e : Nat} (h : s.recent (s.engine e).corrected hour = []) :
    (s.engineCorrected e).engine e = { s.engine e with corrected := [s.aon.now] } := by
  unfold State.engineCorrected
  rw [h]
  exact (congrArg (fun t : State => t.engine e) (if_neg (fun c => absurd c.1 (by simp)))).trans (s.setEngine_engine e _)

/-! ### SRAM_SCRUB_STEP -/

section
variable {s : State} {a : SramArray} {el word : Nat} {over_ : Bool}

/-- The state in which a scrubber of SRAM judges a word: its step is counted. -/
def State.sramStepped (w : State) (a : SramArray) : State := w.scrubStep (scrubber a).1 (scrubber a).2

/-- The scrubber of an array may take a step after the boundary of its record. -/
def State.sramMay (w : State) (a : SramArray) : Prop := w.scrubMay (scrubber a).1 3 = true ∧ w.arrayRuns a = true

theorem State.sramMay.guard {w : State} (h : w.sramMay a) : (w.scrubMay (scrubber a).1 3 && w.arrayRuns a) = true := by
  rw [h.1, h.2]; rfl

theorem exec_sramScrubStep_clean (h : (s.boundary 0x7900).sramMay a) :
    exec (.sramScrubStep a el word .clean over_) s = .next ((s.boundary 0x7900).sramStepped a) := next_when h.guard

/-- A corrected word of an array that is no engine's memory. -/
theorem exec_sramScrubStep_corrected (h : (s.boundary 0x7900).sramMay a) (ha : ∀ c, a ≠ .engineMemory c) :
    exec (.sramScrubStep a el word .corrected over_) s =
      .next (((s.boundary 0x7900).sramStepped a).sramCorrect (macroOf a word) el word over_) := by
  cases a with
  | engineMemory c => exact absurd rfl (ha c)
  | tagStore => exact next_when h.guard
  | streamBuffer b => exact next_when h.guard
  | lineCache => exact next_when h.guard
  | cmb p => exact next_when h.guard
  | descriptorQueues k => exact next_when h.guard

/-- A corrected word of an engine's memory. -/
theorem exec_sramScrubStep_engine {c : Nat} (h : (s.boundary 0x7900).sramMay (.engineMemory c)) :
    exec (.sramScrubStep (.engineMemory c) el word .corrected over_) s =
      .next ((((s.boundary 0x7900).sramStepped (.engineMemory c)).sramCorrect (macroOf (.engineMemory c) word) el word
        over_).engineCorrected (c % 16 * 8 + word / 65536 % 8)) := next_when h.guard

/-- An uncorrectable word, counted and reported, whose element fails. -/
def State.wordLost (s : State) (m el word : Nat) : State :=
  ({ s with chip := { s.chip with sramUncorr := satAdd 32 s.chip.sramUncorr 1 } }.rasReport 6 m 1 1 0 [el, word]).elementFail m el

theorem exec_sramScrubStep_uncorrectable (h : (s.boundary 0x7900).sramMay a) :
    exec (.sramScrubStep a el word .uncorrectable over_) s =
      .next ((((s.boundary 0x7900).sramStepped a).wordLost (macroOf a word) el word).sramLost a word) := next_when h.guard

end

theorem State.wordLost_chip (s : State) (m el word : Nat) : (m, el) ∈ (s.wordLost m el word).chip.failing ∧
    (s.wordLost m el word).chip.sramUncorr = satAdd 32 s.chip.sramUncorr 1 := by
  obtain ⟨hf, hu⟩ := State.elementFail_chip
    ({ s with chip := { s.chip with sramUncorr := satAdd 32 s.chip.sramUncorr 1 } }.rasReport 6 m 1 1 0 [el, word]) m el
  exact ⟨hf, hu.trans (congrArg Onchip.sramUncorr ((State.rasReport_chg ..).chip rfl))⟩

/-- What becomes of an engine whose memory lost a word: it has failed, now or before (R18). -/
theorem State.sramLost_engine (s : State) (c word : Nat) :
    ((s.sramLost (.engineMemory c) word).engine (c % 16 * 8 + word / 65536 % 8)).failed = true := by
  unfold State.sramLost
  dsimp only
  split
  · rename_i h; exact h
  · exact State.engineFail_failed ..

/-- The lost word of a controller memory buffer is marked (R375). -/
theorem State.sramLost_cmb (s : State) (stop word : Nat) :
    Tbl.get false ((s.sramLost (.cmb stop) word).port (stop % 2)).cmbMarked (word / 8) = true := by
  unfold State.sramLost
  rw [State.setPort_port]
  show Tbl.get false (Tbl.set false (s.port (stop % 2)).cmbMarked (word / 8) true) (word / 8) = true
  rw [Tbl.get_set_same]

/-! ### DRAM_SCRUB_STEP -/

section
variable {s : State} {p : DramPlace} {good over_ : Bool} {user : DramUser}

/-- The state in which a DRAM scrubber judges a code word: its step is counted. -/
def State.dramStepped (w : State) (p : DramPlace) : State :=
  w.scrubStep (64 + p.channel * 2 + p.subch) (w.dramPerChannel * 2 ^ 30 / 128)

/-- The scrubber of a subchannel may take a step after the boundary of its record. -/
def State.dramMay (w : State) (p : DramPlace) : Prop :=
  w.dramUp p.channel = true ∧ w.scrubMay (64 + p.channel * 2 + p.subch) 4 = true

theorem State.dramMay.guard {w : State} (h : w.dramMay p) :
    (w.dramUp p.channel && w.scrubMay (64 + p.channel * 2 + p.subch) 4) = true := by
  rw [h.1, h.2]; rfl

theorem exec_dramScrubStep_clean (h : (s.boundary 0x7900).dramMay p) :
    exec (.dramScrubStep p .clean good user over_) s = .next ((s.boundary 0x7900).dramStepped p) := next_when h.guard

theorem exec_dramScrubStep_corrected {device bytes : Nat} (h : (s.boundary 0x7900).dramMay p) :
    exec (.dramScrubStep p (.corrected device bytes) good user over_) s =
      .next ((((s.boundary 0x7900).dramStepped p).dramCorrected p device bytes).writeBack over_) := next_when h.guard

end

/-- The first correction of a device within 24 hours, of at most four bytes, marks no device (R345). -/
theorem State.dramCorrected_first {s : State} {p : DramPlace} {device bytes : Nat} (hb : bytes < 5) (hc : 2 ≤ s.cfg 0x7801 6)
    (h : ∀ x ∈ (s.dram p.channel).corrTimes, x.1 ≠ (p.subch * 2 + p.rank) * 16 + device) :
    ((s.dramCorrected p device bytes).dram p.channel).corrected = satAdd 64 (s.dram p.channel).corrected 1 ∧
      (s.dramCorrected p device bytes).chip = s.chip := by
  have one : (((s.dram p.channel).corrTimes.filter (fun x => !s.elapsed x.2 (24 * hour)) ++
      [((p.subch * 2 + p.rank) * 16 + device, s.aon.now)]).filter (fun x => x.1 == (p.subch * 2 + p.rank) * 16 + device)).length = 1 := by
    rw [List.filter_append, List.filter_eq_nil_iff.mpr fun x hx => by simpa using h x (List.mem_filter.mp hx).1]
    simp
  have few : ¬ (5 ≤ bytes ∨ s.cfg 0x7801 6 ≤ (((s.dram p.channel).corrTimes.filter (fun x => !s.elapsed x.2 (24 * hour)) ++
      [((p.subch * 2 + p.rank) * 16 + device, s.aon.now)]).filter (fun x => x.1 == (p.subch * 2 + p.rank) * 16 + device)).length) := by
    rw [one]; omega
  unfold State.dramCorrected
  simp only [if_neg few]
  rw [(State.rasBit_chg ..).dram_eq rfl, (State.rasBit_chg ..).chip rfl]
  exact ⟨congrArg Dram.corrected (s.setDram_dram ..), rfl⟩

theorem State.writeBack_drams (s : State) (over_ : Bool) : (s.writeBack over_).drams = s.drams := by cases over_ <;> rfl

theorem State.writeBack_cancelled (s : State) (over_ : Bool) : (s.writeBack over_).chip.writebackCancelled =
    if over_ then satAdd 64 s.chip.writebackCancelled 1 else s.chip.writebackCancelled := by cases over_ <;> rfl

end Sys2Proof.Machine
end

section
/-! The statement about the memories on the chip. -/

namespace Sys2Proof

open Machine

/-- R372, R373: what the read for a merge of the journal tail finds. -/
theorem mergeHoldExpiry_finds {s : State} {ch line : Nat} (good : Bool) (h : s.mergesAt ch line) :
    (∃ t, exec (.mergeHoldExpiry ch line .clean good) s = .next t ∧ t.jrn.merged = s.tailMark ∧ t.drams = s.drams) ∧
    (∃ t, exec (.mergeHoldExpiry ch line .corrected good) s = .next t ∧ t.jrn.merged = s.tailMark ∧
      (t.dram ch).corrected = satAdd 64 (s.dram ch).corrected 1) ∧
    (∃ t, exec (.mergeHoldExpiry ch line .uncorrectable true) s = .next t ∧ t.jrn.merged = s.tailMark ∧
      (t.dram ch).uncorrectable = satAdd 32 (s.dram ch).uncorrectable 1 ∧ (t.dram ch).mirrorRepairs = satAdd 32 (s.dram ch).mirrorRepairs 1) ∧
    (∃ u : State, exec (.mergeHoldExpiry ch line .uncorrectable false) s = .next u.tailLost ∧ u.jrn.merged = s.tailMark ∧
      u.chip.partialRefused = satAdd 32 s.chip.partialRefused 1 ∧ (u.dram ch).mirrorRepairs = (s.dram ch).mirrorRepairs) := by
  refine ⟨⟨_, exec_mergeHoldExpiry_clean h, rfl, rfl⟩, ⟨_, exec_mergeHoldExpiry_corrected h, ?_, ?_⟩,
    ⟨_, exec_mergeHoldExpiry_repaired h, ?_, ?_, ?_⟩, ⟨_, exec_mergeHoldExpiry_lost h, ?_, ?_, ?_⟩⟩
  · rw [(State.rasBit_chg ..).jrn rfl]; rfl
  · rw [(State.rasBit_chg ..).dram_eq rfl]; exact congrArg Dram.corrected (State.setDram_dram ..)
  · exact congrArg Jrn.merged (s.tailBad_jrn ch)
  · rw [State.setDram_dram, s.tailBad_dram]
  · rw [State.setDram_dram, s.tailBad_dram]
  · exact congrArg Jrn.merged (s.tailBad_jrn ch)
  · exact congrArg (fun c : Onchip => satAdd 32 c.partialRefused 1) (s.tailBad_chip ch)
  · show ((s.tailBad ch).dram ch).mirrorRepairs = _
    rw [s.tailBad_dram]

/-- R369, R370: what becomes of a word that a scrubber of SRAM, no engine's memory, found corrected. -/
theorem sramStepped_corrected (w : State) (a : SramArray) (el word : Nat) (over_ : Bool) :
    ((∀ x ∈ w.chip.correctedWords, x.1 ≠ macroOf a word ∨ x.2.1 ≠ el) →
      ((w.sramStepped a).sramCorrect (macroOf a word) el word over_).chip.sramCorrected = satAdd 64 w.chip.sramCorrected 1 ∧
      ((w.sramStepped a).sramCorrect (macroOf a word) el word over_).chip.failing = w.chip.failing ∧
      ((w.sramStepped a).sramCorrect (macroOf a word) el word over_).chip.writebackCancelled =
        (if over_ then satAdd 64 w.chip.writebackCancelled 1 else w.chip.writebackCancelled) ∧
      ((w.sramStepped a).sramCorrect (macroOf a word) el word over_).chip.correctedWords =
        w.chip.correctedWords ++ [(macroOf a word, el, word * 2 + boolNat over_, w.aon.now)]) ∧
    ((macroOf a word, el, word * 2, w.aon.now) ∈ w.chip.correctedWords →
      (macroOf a word, el) ∈ ((w.sramStepped a).sramCorrect (macroOf a word) el word over_).chip.failing) ∧
    (∀ x ∈ w.chip.correctedWords, ∀ y ∈ w.chip.correctedWords, x.1 = macroOf a word → x.2.1 = el → y.1 = macroOf a word → y.2.1 = el →
      w.elapsed x.2.2.2 (24 * hour) = false → w.elapsed y.2.2.2 (24 * hour) = false → x.2.2.1 / 2 ≠ y.2.2.1 / 2 → x.2.2.1 / 2 ≠ word →
      y.2.2.1 / 2 ≠ word → (macroOf a word, el) ∈ ((w.sramStepped a).sramCorrect (macroOf a word) el word over_).chip.failing) := by
  have kept : w.chip.scrubKept (w.sramStepped a).chip := w.scrubStep_kept ..
  have aon : (w.sramStepped a).aon = w.aon := w.scrubStep_aon ..
  refine ⟨fun h => ?_, fun h => ?_, fun x hx y hy hxm hxe hym hye hxt hyt hxy hxw hyw => ?_⟩
  · rw [State.sramCorrect_first over_ (by rw [kept.correctedWords]; exact h), State.wordCorrected_chip, aon]
    exact ⟨by rw [kept.sramCorrected], kept.failing, by rw [kept.writebackCancelled], by rw [kept.correctedWords]⟩
  · exact State.sramCorrect_again over_ (by rw [kept.correctedWords]; exact h)
  · have old : ∀ n, (w.sramStepped a).elapsed n (24 * hour) = w.elapsed n (24 * hour) := fun n => by
      unfold State.elapsed; rw [aon]
    refine State.sramCorrect_third over_ hxy hxw hyw fun v hv => ?_
    rw [kept.correctedWords]
    rcases List.mem_pair.mp hv with rfl | rfl
    · exact ⟨x, hx, hxm, hxe, (old _).trans hxt, rfl⟩
    · exact ⟨y, hy, hym, hye, (old _).trans hyt, rfl⟩

/-- R18: the corrected errors of an engine's memory, as its scrubber finds them. -/
theorem sramStepped_engine (w : State) (a : SramArray) (el word e : Nat) (over_ : Bool) :
    ((w.engine e).failed = false → 2 ≤ (w.recent (w.engine e).corrected hour).length →
      ((((w.sramStepped a).sramCorrect (macroOf a word) el word over_).engineCorrected e).engine e).failed = true) ∧
    (w.recent (w.engine e).corrected hour = [] →
      ((((w.sramStepped a).sramCorrect (macroOf a word) el word over_).engineCorrected e).engine e).corrected = [w.aon.now] ∧
      ((((w.sramStepped a).sramCorrect (macroOf a word) el word over_).engineCorrected e).engine e).failed = (w.engine e).failed) := by
  have aon : ((w.sramStepped a).sramCorrect (macroOf a word) el word over_).aon = w.aon :=
    ((State.sramCorrect_chg ..).aon rfl).trans (w.scrubStep_aon ..)
  have engine : ((w.sramStepped a).sramCorrect (macroOf a word) el word over_).engine e = w.engine e :=
    ((State.sramCorrect_chg ..).engine_eq rfl e).trans ((State.scrubStep_chg ..).engine_eq rfl e)
  have recent : ((w.sramStepped a).sramCorrect (macroOf a word) el word over_).recent (w.engine e).corrected hour =
      w.recent (w.engine e).corrected hour := by
    unfold State.recent State.elapsed; rw [aon]
  refine ⟨fun hf h => State.engineCorrected_third (by rw [engine]; exact hf) (by rw [engine, recent]; exact h), fun h => ?_⟩
  rw [State.engineCorrected_first (by rw [engine, recent]; exact h), engine, aon]
  exact ⟨rfl, rfl⟩

/-- R374, R376, R345: what a DRAM scrubber's step and the correction of at most four bytes leave. -/
theorem dramStepped_corrected {w : State} {p : DramPlace} {device : Nat} (over_ : Bool) (hc : w.cfg 0x7801 6 ≥ 2)
    (h : ∀ x ∈ (w.dram p.channel).corrTimes, x.1 ≠ (p.subch * 2 + p.rank) * 16 + device) :
    ((((w.dramStepped p).dramCorrected p device 4).writeBack over_).dram p.channel).corrected =
      satAdd 64 (w.dram p.channel).corrected 1 ∧
    (((w.dramStepped p).dramCorrected p device 4).writeBack over_).chip.writebackCancelled =
      (if over_ then satAdd 64 w.chip.writebackCancelled 1 else w.chip.writebackCancelled) := by
  have dram : (w.dramStepped p).dram p.channel = w.dram p.channel := (State.scrubStep_chg ..).dram_eq rfl _
  have cfg : (w.dramStepped p).cfg 0x7801 6 = w.cfg 0x7801 6 := State.cfg_congr ((State.scrubStep_chg ..).dict rfl) ..
  obtain ⟨hcorr, hchip⟩ := State.dramCorrected_first (s := w.dramStepped p) (p := p) (device := device) (bytes := 4) (by decide)
    (by rw [cfg]; exact hc) (by rw [dram]; exact h)
  have kept : w.chip.scrubKept (w.dramStepped p).chip := w.scrubStep_kept ..
  refine ⟨?_, by rw [State.writeBack_cancelled, hchip, kept.writebackCancelled]⟩
  rw [show ∀ t : State, (t.writeBack over_).dram p.channel = t.dram p.channel from fun t => by
    unfold State.dram; rw [t.writeBack_drams], hcorr, dram]

/-- Settles O45. -/
theorem onChipMemory : Obligations.OnChipMemory := by
  refine ⟨fun s ch line good hup hch hm hl => mergeHoldExpiry_finds good ⟨hup, hch, hm, hl⟩,
    fun s w a el word m k over_ hw hk hm hmay hruns => ?_, fun s w p good over_ user k lines hw hk hl hup hmay => ?_⟩
  · subst hw hk hm
    have h : (s.boundary 0x7900).sramMay a := ⟨hmay, hruns⟩
    obtain ⟨hfirst, hagain, hthird⟩ := sramStepped_corrected (s.boundary 0x7900) a el word over_
    have kept : (s.boundary 0x7900).chip.scrubKept ((s.boundary 0x7900).sramStepped a).chip := State.scrubStep_kept ..
    refine ⟨⟨_, exec_sramScrubStep_clean h, State.scrubStep_lastStep .., State.scrubStep_scrubSteps .., kept.failing⟩,
      fun ha hx => ⟨_, exec_sramScrubStep_corrected h ha, hfirst hx⟩, fun ha hx => ⟨_, exec_sramScrubStep_corrected h ha, hagain hx⟩,
      fun ha x hx y hy hxm hxe hym hye hxt hyt hxy hxw hyw => ⟨_, exec_sramScrubStep_corrected h ha,
        hthird x hx y hy hxm hxe hym hye hxt hyt hxy hxw hyw⟩,
      ⟨_, exec_sramScrubStep_uncorrectable h, ?_, ?_⟩, fun c e ha he => ?_, fun stop ha => ?_⟩
    · rw [(State.sramLost_chg ..).chip rfl]; exact (State.wordLost_chip ..).1
    · rw [(State.sramLost_chg ..).chip rfl, (State.wordLost_chip ..).2, kept.sramUncorr]
    · subst ha he
      obtain ⟨hmany, hone⟩ := sramStepped_engine (s.boundary 0x7900) (.engineMemory c) el word (c % 16 * 8 + word / 65536 % 8) over_
      exact ⟨⟨_, exec_sramScrubStep_uncorrectable h, State.sramLost_engine ..⟩,
        fun hf hlen => ⟨_, exec_sramScrubStep_engine h, hmany hf hlen⟩, fun hnil => ⟨_, exec_sramScrubStep_engine h, hone hnil⟩⟩
    · subst ha
      exact ⟨_, exec_sramScrubStep_uncorrectable h, State.sramLost_cmb ..⟩
  · subst hw hk hl
    have h : (s.boundary 0x7900).dramMay p := ⟨hup, hmay⟩
    exact ⟨⟨_, exec_dramScrubStep_clean h, State.scrubStep_lastStep .., State.scrubStep_scrubSteps .., (State.scrubStep_chg ..).drams rfl⟩,
      fun device hc hx => ⟨_, exec_dramScrubStep_corrected h, dramStepped_corrected over_ hc hx⟩⟩

end Sys2Proof
end

section
/-! SUPPORT. What programs and erases add and never take back (R267, R268, R293): the START record stands, and a member that is absent
from a superblock stays absent, through every operation of a program's or an erase's end. -/

namespace Sys2Proof.Machine

/-- From `s` to `t` the START record is not withdrawn and no absent member of a superblock returns. -/
structure MediaGrows (s t : State) : Prop where
  started : s.recov.startAppended = true → t.recov.startAppended = true
  absent : ∀ k, (s.sb k).absentCh ⊆ (t.sb k).absentCh

namespace MediaGrows

variable {s t u : State}

theorem refl (s : State) : MediaGrows s s := ⟨id, fun _ => List.Subset.refl _⟩

theorem step (h2 : MediaGrows t u) (h : MediaGrows s t) : MediaGrows s u :=
  ⟨fun x => h2.started (h.started x), fun k => List.Subset.trans (h.absent k) (h2.absent k)⟩

/-- A change that leaves the superblocks and the START record alone. -/
theorem of_eq (hs : t.media.sbs = s.media.sbs) (hr : t.recov.startAppended = s.recov.startAppended) : MediaGrows s t :=
  ⟨fun x => hr.trans x, fun k => by unfold State.sb; rw [hs]; exact List.Subset.refl _⟩

/-- A change that leaves the media alone. -/
theorem of_chg {m : Nat} (h : Chg m s t) (hm : m.testBit 29 = false) (hr : m.testBit 30 = false) : MediaGrows s t :=
  of_eq (by rw [h.media hm]) (by rw [h.recov hr])

theorem ite {c : Prop} [Decidable c] (ht : c → MediaGrows s t) (hu : ¬ c → MediaGrows s u) : MediaGrows s (if c then t else u) := by
  split
  · exact ht ‹_›
  · exact hu ‹_›

theorem forEach {α : Type} {l : List α} {f : α → State → State} (hf : ∀ x t, MediaGrows t (f x t)) (h : MediaGrows s t) :
    MediaGrows s (t.forEach l f) := by
  induction l generalizing t with
  | nil => exact h
  | cons x l ih => exact ih ((hf x t).step h)

theorem setSb {k : Nat} {x : Sb} (h : MediaGrows s t) (hx : (t.sb k).absentCh ⊆ x.absentCh) : MediaGrows s (t.setSb k x) := by
  refine step (t := t) ⟨id, fun j => ?_⟩ h
  by_cases e : k = j
  · subst e; rw [State.setSb_sb]; exact hx
  · rw [State.setSb_sb_ne _ _ e]; exact List.Subset.refl _

theorem u_media (h : MediaGrows s t) (x : Media) (hx : x.sbs = t.media.sbs) : MediaGrows s { t with media := x } := step (t := t) (of_eq hx rfl) h

theorem setProg (h : MediaGrows s t) (k : Nat) (x : Prog) : MediaGrows s (t.setProg k x) := step (t := t) (of_eq rfl rfl) h

theorem u_wbuf (h : MediaGrows s t) (x : Wbuf) : MediaGrows s { t with wbuf := x } := step (t := t) (of_eq rfl rfl) h

end MediaGrows

/-! ### The image (R293) -/

theorem State.section_keeps_started (s : State) : s.section_.recov.startAppended = s.recov.startAppended := by
  unfold State.section_
  dsimp only
  split <;> rfl

theorem State.section_grows (s : State) : MediaGrows s s.section_ :=
  .of_eq (by rw [s.section__chg.media rfl]) s.section_keeps_started

theorem State.seqDraw_grows (s : State) (k : Nat) : MediaGrows s (s.seqDraw k) := by
  refine .of_eq (by rw [(s.seqDraw_chg k).media rfl]) ?_
  unfold State.seqDraw
  dsimp only
  split
  · exact State.section_keeps_started _
  · rfl

theorem State.startRecord_started (s : State) : s.startRecord.recov.startAppended = true := by
  unfold State.startRecord
  split
  · assumption
  · rfl

/-! ### Retirement (R267 to R269) -/

/-- A field that a rewriting of all values leaves alone is the same after it. -/
theorem Tbl.get_map_field {α β : Type} {d : α} {f : Nat → α → α} {π : α → β} (h : ∀ k x, π (f k x) = π x) (l : Tbl α) (k : Nat) :
    π (Tbl.get d (l.map (fun x => (x.1, f x.1 x.2))) k) = π (Tbl.get d l k) := by
  induction l with
  | nil => rfl
  | cons x l ih =>
    obtain ⟨a, v⟩ := x
    simp only [List.map_cons, Tbl.get]
    split
    · exact h a v
    · exact ih

/-- What a LUN's retirement makes of a superblock: it notes the member it lost, and how much of it was written (R270). -/
def State.lunMark (s : State) (ch pos k : Nat) (x : Sb) : Sb :=
  if decide (x.st ≠ .free) && k / max 1 s.blocksPerLun == pos && !x.absentCh.contains ch then
    { x with lost := x.lost ++ [(ch, if x.kind = .zone then s.wordlines else min x.rows (s.wordlines - 1))] }
  else x

theorem State.lunMark_kept (s : State) (ch pos k : Nat) (x : Sb) : (s.lunMark ch pos k x).absentCh = x.absentCh ∧
    (s.lunMark ch pos k x).wear = x.wear := by
  unfold State.lunMark
  split <;> exact ⟨rfl, rfl⟩

theorem State.lunRetire_sbs {s : State} {ch pos : Nat} (h : (s.lun ch pos).retired = false) :
    (s.lunRetire ch pos).media.sbs = s.media.sbs.map (fun x => (x.1, s.lunMark ch pos x.1 x.2)) := by
  rw [show s.lunRetire ch pos = _ from if_neg (by rw [h]; exact Bool.false_ne_true)]
  rfl

/-- The retirement of a LUN leaves the absent members and the wear of every superblock. -/
theorem State.lunRetire_sb (s : State) (ch pos k : Nat) : ((s.lunRetire ch pos).sb k).absentCh = (s.sb k).absentCh ∧
    ((s.lunRetire ch pos).sb k).wear = (s.sb k).wear := by
  cases h : (s.lun ch pos).retired with
  | true => rw [show s.lunRetire ch pos = s from if_pos h]; exact ⟨rfl, rfl⟩
  | false =>
    unfold State.sb
    rw [State.lunRetire_sbs h]
    exact ⟨Tbl.get_map_field (π := Sb.absentCh) (fun j x => (s.lunMark_kept ch pos j x).1) s.media.sbs k,
      Tbl.get_map_field (π := Sb.wear) (fun j x => (s.lunMark_kept ch pos j x).2) s.media.sbs k⟩

theorem State.lunRetire_grows (s : State) (ch pos : Nat) : MediaGrows s (s.lunRetire ch pos) :=
  ⟨fun h => by rw [(s.lunRetire_chg ch pos).recov rfl]; exact h, fun k => by rw [(s.lunRetire_sb ch pos k).1]; exact List.Subset.refl _⟩

/-- The record of a block that is retired: its member is absent, and the image has its defect list and table. -/
def State.blockAbsent (s : State) (k ch : Nat) : State :=
  (s.setSb k { s.sb k with absentCh := (s.sb k).absentCh ++ [ch], erasing := (s.sb k).erasing.filter (fun c => c != ch) }).section_.section_

/-- The count of the block that is retired (R268). -/
def State.blockCounted (s : State) (ch pos now : Nat) : State :=
  { s with media := { s.media with
      bad := Tbl.modify 0 s.media.bad (lkey ch pos) (fun n => n + 1)
      retiredBlocks := s.media.retiredBlocks + 1, grownBad := satAdd 32 s.media.grownBad 1
      badTimes := s.media.badTimes ++ [(lkey ch pos, now)] } }.medBit 0

theorem State.blockCounted_sb (s : State) (ch pos now k : Nat) : (s.blockCounted ch pos now).sb k = s.sb k := rfl

theorem State.blockCounted_grows (s : State) (ch pos now : Nat) : MediaGrows s (s.blockCounted ch pos now) := .of_eq rfl rfl

/-- The LUN position of a superblock. -/
def State.sbPos (s : State) (k : Nat) : Nat := if s.blocksPerLun = 0 then 0 else k / s.blocksPerLun

/-- A LUN with too many recent bad blocks is retired too (R269). -/
def State.lunWatch (s : State) (ch pos : Nat) : State :=
  if s.cfg 0x6402 13 ≤ s.recentBad ch pos then s.lunRetire ch pos else s

theorem State.lunWatch_sb (s : State) (ch pos k : Nat) : ((s.lunWatch ch pos).sb k).absentCh = (s.sb k).absentCh ∧
    ((s.lunWatch ch pos).sb k).wear = (s.sb k).wear := by
  unfold State.lunWatch
  split
  · exact s.lunRetire_sb ch pos k
  · exact ⟨rfl, rfl⟩

theorem State.lunWatch_grows (s : State) (ch pos : Nat) : MediaGrows s (s.lunWatch ch pos) :=
  .ite (fun _ => s.lunRetire_grows ch pos) (fun _ => .refl s)

theorem State.blockRetire_eq (s : State) (k ch : Nat) : s.blockRetire k ch =
    if (s.sb k).absentCh.contains ch then s
    else (((s.blockAbsent k ch).blockCounted ch (s.sbPos k) s.aon.now).lunWatch ch (s.sbPos k)) := by
  unfold State.blockRetire
  rfl

theorem State.blockAbsent_sb (s : State) (k ch j : Nat) : (s.blockAbsent k ch).sb j =
    (s.setSb k { s.sb k with absentCh := (s.sb k).absentCh ++ [ch], erasing := (s.sb k).erasing.filter (fun c => c != ch) }).sb j :=
  ((State.section__chg _).sb_eq rfl j).trans ((State.section__chg _).sb_eq rfl j)

theorem State.blockAbsent_grows (s : State) (k ch : Nat) : MediaGrows s (s.blockAbsent k ch) :=
  (State.section_grows _).step ((State.section_grows _).step ((MediaGrows.refl s).setSb (List.subset_append_left _ _)))

theorem State.blockRetire_grows (s : State) (k ch : Nat) : MediaGrows s (s.blockRetire k ch) := by
  rw [s.blockRetire_eq]
  exact .ite (fun _ => .refl s) fun _ => (State.lunWatch_grows ..).step ((State.blockCounted_grows ..).step (s.blockAbsent_grows k ch))

theorem State.blockRetire_absent (s : State) (k ch : Nat) : ch ∈ ((s.blockRetire k ch).sb k).absentCh := by
  rw [s.blockRetire_eq]
  split
  · rename_i h; exact List.contains_iff_mem.mp h
  · rw [(State.lunWatch_sb ..).1, State.blockCounted_sb, State.blockAbsent_sb, State.setSb_sb]
    exact List.mem_append_right _ List.mem_cons_self

theorem State.blockRetire_wear (s : State) (k ch j : Nat) : ((s.blockRetire k ch).sb j).wear = (s.sb j).wear := by
  rw [s.blockRetire_eq]
  split
  · rfl
  · rw [(State.lunWatch_sb ..).2, State.blockCounted_sb, State.blockAbsent_sb]
    by_cases e : k = j
    · subst e; rw [State.setSb_sb]
    · rw [State.setSb_sb_ne _ _ e]

/-! ### Allocation and rows (R246 to R249) -/

theorem State.sbAlloc_grows (s : State) (kind : SbKind) (group handle : Nat) (ok : Nat → Bool) :
    MediaGrows s (s.sbAlloc kind group handle ok).1 := by
  unfold State.sbAlloc
  dsimp only
  split
  · exact .refl s
  · exact (State.section_grows _).step ((MediaGrows.refl s).setSb (List.Subset.refl _))

theorem State.pageStart_grows (s : State) (k i : Nat) : MediaGrows s (s.pageStart k i) := by
  unfold State.pageStart
  dsimp only
  split
  · exact .refl s
  · refine .ite (fun _ => .refl s) fun _ => ?_
    refine .u_media (.setProg (.setSb (.refl s) ?_) ..) _ rfl
    exact List.Subset.refl _

theorem State.pageFull_grows (s : State) (k i : Nat) : MediaGrows s (s.pageFull k i) := by
  unfold State.pageFull
  split
  · exact .ite (fun _ => s.pageStart_grows k i) (fun _ => .refl s)
  · exact .refl s

/-- A page of the open row changes, and its program starts if it is full. -/
theorem State.setSb_pageFull_grows {s s1 : State} {k i : Nat} {x : Sb} (h : MediaGrows s s1) (hx : (s1.sb k).absentCh ⊆ x.absentCh) :
    MediaGrows s ((s1.setSb k x).pageFull k i) := (State.pageFull_grows ..).step (h.setSb hx)

theorem State.rowPut_grows {s t : State} {k : Nat} {kind : ProgKind} {it : ProgItem} (h : s.rowPut k kind it = some t) :
    MediaGrows s t := by
  have same : ∀ y : Sb, y = (if (s.sb k).row.isEmpty then { s.sb k with rowOn := s.dataMembers k, rowSince := s.aon.now } else s.sb k) →
      y.absentCh = (s.sb k).absentCh := fun y hy => by subst hy; split <;> rfl
  unfold State.rowPut at h
  dsimp only at h
  generalize hy : (if (s.sb k).row.isEmpty then { s.sb k with rowOn := s.dataMembers k, rowSince := s.aon.now } else s.sb k) = y at h
  have opened : MediaGrows s (s.setSb k y) := (MediaGrows.refl s).setSb (by rw [same y hy.symm]; exact List.Subset.refl _)
  have kept : ((s.setSb k y).sb k).absentCh ⊆ y.absentCh := by rw [State.setSb_sb]; exact List.Subset.refl _
  split at h
  · cases h; exact State.setSb_pageFull_grows opened kept
  · split at h
    · cases h; exact State.setSb_pageFull_grows opened kept
    · cases h

theorem State.slotPut_grows {s t : State} {kind : ProgKind} {dest : SbKind} {group handle : Nat} {it : ProgItem}
    (h : s.slotPut kind dest group handle it = some t) : MediaGrows s t := by
  obtain ⟨k, -, hk⟩ := List.exists_of_findSome?_eq_some h
  exact State.rowPut_grows hk

/-! ### Moves (R225, R251, R267) -/

theorem State.moveIssue_grows (s : State) (kind : ProgKind) (dest : SbKind) (group handle n lba : Nat) (e : MEnt) :
    MediaGrows s (s.moveIssue kind dest group handle n lba e) := by
  have drawn := s.seqDraw_grows 1
  unfold State.moveIssue
  refine .ite (fun _ => .refl s) fun _ => .ite (fun _ => (MediaGrows.refl s).u_media _ rfl) fun _ => ?_
  dsimp only
  split
  · rename_i h; exact (State.slotPut_grows h).step drawn
  · refine .ite (fun _ => drawn.u_media _ rfl) fun _ => ?_
    have alloc := ((s.seqDraw 1).sbAlloc_grows dest group handle (fun _ => true)).step drawn
    split
    · rename_i h; rw [h] at alloc; exact alloc.u_media _ rfl
    · rename_i h; rw [h] at alloc; exact alloc.u_media _ rfl

theorem State.relocate_grows (s : State) (kind : ProgKind) (p : Nat → Bool) (dest : Nat → Option SbKind) :
    MediaGrows s (s.relocate kind p dest) := by
  refine MediaGrows.forEach (fun x t => ?_) (.refl s)
  dsimp only
  split
  · exact State.moveIssue_grows ..
  · exact State.moveIssue_grows ..
  · exact .refl t

theorem State.relocateMember_grows (s : State) (k ch : Nat) : MediaGrows s (s.relocateMember k ch) := State.relocate_grows ..

theorem State.reissue_grows (s : State) (kind : ProgKind) (dest : SbKind) (items : List ProgItem) :
    MediaGrows s (s.reissue kind dest items) := by
  refine MediaGrows.forEach (fun i t => ?_) (.refl s)
  exact .ite (fun _ => (MediaGrows.refl t).u_wbuf _) fun _ => (MediaGrows.refl t).u_media _ rfl

/-! ### The end of a program (R247, R254, R267) -/

theorem State.parityStart_grows (s : State) (k ch : Nat) (items : List ProgItem) (interim : Bool) :
    MediaGrows s (s.parityStart k ch items interim) := .u_media (.setProg (.refl s) ..) _ rfl

theorem State.parityDone_grows (s : State) (items : List ProgItem) : MediaGrows s (s.parityDone items) :=
  .of_chg (s.parityDone_chg items) rfl rfl

theorem State.rowEnd_grows (s : State) (k : Nat) : MediaGrows s (s.rowEnd k) := (MediaGrows.refl s).setSb (List.Subset.refl _)

theorem State.rowCheck_grows (s : State) (k : Nat) : MediaGrows s (s.rowCheck k) := by
  unfold State.rowCheck
  dsimp only
  refine .ite (fun _ => .refl s) fun _ => .ite (fun _ => ?_) fun _ => MediaGrows.forEach (fun p t => t.parityStart_grows k p _ _) ?_
  · exact (State.rowEnd_grows ..).step ((State.parityDone_grows ..).step ((MediaGrows.refl s).setSb (List.Subset.refl _)))
  · exact (MediaGrows.refl s).setSb (List.Subset.refl _)

theorem State.pageDone_grows (s : State) (k i : Nat) (items : List ProgItem) : MediaGrows s (s.pageDone k i items) :=
  (State.rowCheck_grows ..).step ((MediaGrows.refl s).setSb (List.Subset.refl _))

theorem State.copyProgrammed_grows (s : State) (h dest : Nat) (done : Bool) : MediaGrows s (s.copyProgrammed h dest done) :=
  .of_chg (s.copyProgrammed_chg h dest done) rfl rfl

theorem State.rowProgram_grows (s : State) (p : Prog) (ok : Bool) : MediaGrows s (s.rowProgram p ok) := by
  refine .ite (fun _ => (State.pageDone_grows ..).step (MediaGrows.forEach (fun i t => ?_) (.refl s))) fun _ => ?_
  · exact .ite (fun _ => t.copyProgrammed_grows ..) fun _ => (MediaGrows.refl t).u_media _ rfl
  · exact (State.relocateMember_grows ..).step ((State.pageDone_grows ..).step ((State.reissue_grows ..).step (s.blockRetire_grows _ _)))

/-- What a parity program that failed makes of one of its slots: it is written again (R267). -/
def State.paritySlot (k : Nat) (x : Sb) (i : ProgItem) (s : State) : State :=
  let e := s.ment i.nsid i.lba
  if i.fromBuf && x.kind != .zone && s.wbuf.blks.any (fun y => y.1 == i.src && !y.2.programmed) then
    { s.setWblk i.src { s.wblk i.src with program := none } with wbuf :=
      { (s.setWblk i.src { s.wblk i.src with program := none }).wbuf with pendingSlc := s.wbuf.pendingSlc ++ [i.src] } }
  else if s.media.moved.contains i then
    { s with media := { s.media with moved := s.media.moved.erase i } }.reissue .refresh ((s.sameKind k).getD .slc) [i]
  else if e.onFlash && e.loc == i.dest then
    s.moveIssue .refresh ((s.sameKind k).getD .slc) (s.placement i.nsid i.lba).1 (s.placement i.nsid i.lba).2 i.nsid i.lba e
  else s

theorem State.paritySlot_grows (k : Nat) (x : Sb) (i : ProgItem) (s : State) : MediaGrows s (s.paritySlot k x i) := by
  unfold State.paritySlot
  refine .ite (fun _ => ?_) fun _ => .ite (fun _ => ?_) fun _ => .ite (fun _ => ?_) fun _ => .refl s
  · exact .u_wbuf (.of_chg (State.setWblk_chg ..) rfl rfl) _
  · exact (State.reissue_grows ..).step (.u_media (.refl s) _ rfl)
  · exact State.moveIssue_grows ..

/-- The row of a parity program ends with it. -/
def State.parityEnds (k : Nat) (x : Sb) (s : State) : State := if x.parityLeft - 1 = 0 ∧ !x.row.isEmpty then s.rowEnd k else s

theorem State.parityEnds_grows (k : Nat) (x : Sb) (s : State) : MediaGrows s (s.parityEnds k x) :=
  .ite (fun _ => s.rowEnd_grows k) fun _ => .refl s

/-- A parity page of a superblock has ended. -/
def State.parityCounted (s : State) (k : Nat) : State :=
  s.setSb k { s.sb k with parityLeft := (s.sb k).parityLeft - 1, lastProgram := s.aon.now }

theorem State.parityCounted_grows (s : State) (k : Nat) : MediaGrows s (s.parityCounted k) := .setSb (.refl s) (List.Subset.refl _)

/-- A row without parity (R267): what its items hold is written again. -/
def State.parityFailed (s : State) (p : Prog) : State :=
  State.forEach { (s.parityCounted p.sb).blockRetire p.sb p.ch with
    media := { ((s.parityCounted p.sb).blockRetire p.sb p.ch).media with parityLost := true } } p.items
    (fun i t => t.paritySlot p.sb (s.sb p.sb) i)

theorem State.parityFailed_grows (s : State) (p : Prog) : MediaGrows s (s.parityFailed p) :=
  .forEach (fun i t => t.paritySlot_grows p.sb (s.sb p.sb) i)
    (.u_media ((State.blockRetire_grows ..).step (s.parityCounted_grows p.sb)) _ rfl)

theorem State.parityProgram_eq (s : State) (p : Prog) (ok : Bool) : s.parityProgram p ok =
    if p.page = 1 then (if ok then s.parityDone p.items else s.setSb p.sb { s.sb p.sb with rowSince := s.aon.now })
    else if ok then
      (if (s.sb p.sb).parityLeft - 1 = 0 then ((s.parityCounted p.sb).parityDone p.items).parityEnds p.sb (s.sb p.sb)
        else s.parityCounted p.sb)
    else (s.parityFailed p).parityEnds p.sb (s.sb p.sb) := rfl

theorem State.parityProgram_grows (s : State) (p : Prog) (ok : Bool) : MediaGrows s (s.parityProgram p ok) := by
  rw [s.parityProgram_eq]
  refine .ite (fun _ => .ite (fun _ => s.parityDone_grows _) fun _ => .setSb (.refl s) (List.Subset.refl _)) fun _ =>
    .ite (fun _ => .ite (fun _ => ?_) fun _ => s.parityCounted_grows _) fun _ => (State.parityEnds_grows ..).step (s.parityFailed_grows p)
  exact (State.parityEnds_grows ..).step ((State.parityDone_grows ..).step (s.parityCounted_grows p.sb))

/-- The copies of a zone's unit are programmed. -/
def State.unitProgrammed (s : State) (p : Prog) (n : Nat) : State :=
  s.forEach p.items (fun i t => t.copyProgrammed i.src i.dest !s.hasMap n)

/-- A row whose copies were all covered opens again: its clock starts (R254). -/
def State.unitClocked (s s1 : State) (k : Nat) : State :=
  if (s.uncovered k).isEmpty then s1.setSb k { s1.sb k with rowSince := s.aon.now } else s1

/-- The programmed part of a zone is noted in its record (R253). -/
def State.unitNoted (s : State) (map : Bool) (n z : Nat) : State :=
  let w := if map then s.packedTo n z else s.programmedTo n z
  if (s.zone n z).programmed < w ∧ (s.zone n z).charge ≠ 0 then (s.setZone n z { s.zone n z with programmed := w }).zoneJournal n z else s

/-- The last unit of a row has its parity started (R254). -/
def State.unitRow (s : State) (p : Prog) (n z now : Nat) : State :=
  let s3 := s.setSb p.sb { s.sb p.sb with lastProgram := now }
  if (s3.rowUnits n z p.page).all (fun u => s3.unitDone n z u) then
    s3.forEach (s3.parityOf p.sb) (fun c s => s.parityStart p.sb c (s.uncovered p.sb))
  else s3

/-- A zone's unit that failed has to be programmed again (R267). -/
def State.unitFailed (s : State) (p : Prog) (n z : Nat) : State :=
  (s.blockRetire p.sb p.ch).setZone n z { s.zone n z with units := (s.zone n z).units.filter (fun u => u != p.page) }

theorem State.zoneProgram_cons {s : State} {p : Prog} {i : ProgItem} {l : List ProgItem} (h : p.items = i :: l) (ok : Bool) :
    s.zoneProgram p ok = if ok then 
        (((s.unitClocked (s.unitProgrammed p i.nsid) p.sb).unitNoted (s.hasMap i.nsid) i.nsid (i.lba / s.zsize i.nsid)).unitRow p i.nsid
          (i.lba / s.zsize i.nsid) s.aon.now)
      else s.unitFailed p i.nsid (i.lba / s.zsize i.nsid) := by
  unfold State.zoneProgram
  rw [h]
  unfold State.unitProgrammed
  rw [h]
  rfl

theorem State.unitProgrammed_grows (s : State) (p : Prog) (n : Nat) : MediaGrows s (s.unitProgrammed p n) :=
  .forEach (fun _ t => t.copyProgrammed_grows ..) (.refl s)

theorem State.unitClocked_grows {s s1 t : State} (k : Nat) (h : MediaGrows t s1) : MediaGrows t (s.unitClocked s1 k) :=
  .ite (fun _ => h.setSb (List.Subset.refl _)) fun _ => h

theorem State.unitClocked_chg (s s1 : State) (k : Nat) : Chg 536870912 s1 (s.unitClocked s1 k) :=
  .ite (State.setSb_chg ..) (.refl _ _)

theorem State.unitNoted_chg (s : State) (map : Bool) (n z : Nat) : Chg 150994944 s (s.unitNoted map n z) :=
  .ite ((State.zoneJournal_chg ..).step ((State.setZone_chg ..).step (.refl _ _) (by decide)) (by decide)) (.refl _ _)

theorem State.unitRow_chg (s : State) (p : Prog) (n z now : Nat) : Chg 536870912 s (s.unitRow p n z now) :=
  .ite (.forEach (fun _ _ => State.parityStart_chg ..) (State.setSb_chg ..)) (State.setSb_chg ..)

theorem State.unitRow_grows (s : State) (p : Prog) (n z now : Nat) : MediaGrows s (s.unitRow p n z now) :=
  .ite (fun _ => .forEach (fun _ t => t.parityStart_grows ..) (.setSb (.refl s) (List.Subset.refl _)))
    fun _ => .setSb (.refl s) (List.Subset.refl _)

theorem State.unitFailed_grows (s : State) (p : Prog) (n z : Nat) : MediaGrows s (s.unitFailed p n z) :=
  (MediaGrows.of_chg (State.setZone_chg ..) rfl rfl).step (s.blockRetire_grows p.sb p.ch)

theorem State.zoneProgram_grows (s : State) (p : Prog) (ok : Bool) : MediaGrows s (s.zoneProgram p ok) := by
  cases h : p.items with
  | nil => unfold State.zoneProgram; rw [h]; exact .refl s
  | cons i l =>
    rw [State.zoneProgram_cons h]
    refine .ite (fun _ => (State.unitRow_grows ..).step ?_) fun _ => s.unitFailed_grows ..
    exact (MediaGrows.of_chg (State.unitNoted_chg ..) rfl rfl).step (State.unitClocked_grows _ (s.unitProgrammed_grows p _))

end Sys2Proof.Machine
end

section
/-! SUPPORT. What the end of a program does to the moves, the copies and the row (R30, R225, R247, R249), and what the end of an
erase does to its superblock (R248, R268, R424). -/

namespace Sys2Proof.Machine

/-- What every step of a sequence leaves alone is the same after the sequence. -/
theorem State.forEach_keeps {α β : Type} {π : State → β} {f : α → State → State} (h : ∀ x t, π (f x t) = π t) (s : State) (l : List α) :
    π (s.forEach l f) = π s := by
  induction l generalizing s with
  | nil => rfl
  | cons x l ih => exact (ih (f x s)).trans (h x s)

/-- What every step of a sequence keeps true is true after the sequence; a step may assume what holds of each of its items. -/
theorem State.forEach_induct {α : Type} {P : State → Prop} {l : List α} {f : α → State → State} {s : State} (h : P s)
    (step : ∀ x ∈ l, ∀ t, P t → P (f x t)) : P (s.forEach l f) := by
  induction l generalizing s with
  | nil => exact h
  | cons x l ih => exact ih (step x List.mem_cons_self s h) fun y hy => step y (List.mem_cons_of_mem _ hy)

/-! ### Moves whose page is programmed (R225) -/

theorem State.parityDone_moved (s : State) (items : List ProgItem) : (s.parityDone items).media.moved = s.media.moved :=
  congrArg Media.moved ((s.parityDone_chg items).media rfl)

theorem State.rowEnd_moved (s : State) (k : Nat) : (s.rowEnd k).media.moved = s.media.moved := rfl

theorem State.parityStart_moved (s : State) (k ch : Nat) (items : List ProgItem) (interim : Bool) :
    (s.parityStart k ch items interim).media.moved = s.media.moved := rfl

theorem State.rowCheck_moved (s : State) (k : Nat) : (s.rowCheck k).media.moved = s.media.moved := by
  unfold State.rowCheck
  dsimp only
  split
  · rfl
  · split
    · rw [State.rowEnd_moved, State.parityDone_moved]; rfl
    · exact State.forEach_keeps (π := fun t => t.media.moved) (fun ch t => t.parityStart_moved k ch _ _) _ _

theorem State.pageDone_moved (s : State) (k i : Nat) (items : List ProgItem) : (s.pageDone k i items).media.moved = s.media.moved :=
  State.rowCheck_moved ..

/-- A programmed item is a move to apply, or a programmed copy. -/
def State.itemProgrammed (i : ProgItem) (s : State) : State :=
  if i.fromBuf then s.copyProgrammed i.src i.dest false
  else { s with media := { s.media with moved := s.media.moved ++ [i] } }

/-- The items of a page, programmed one after the other. -/
def State.itemsProgrammed (s : State) (items : List ProgItem) : State := s.forEach items State.itemProgrammed

theorem State.rowProgram_ok (s : State) (p : Prog) : s.rowProgram p true = (s.itemsProgrammed p.items).pageDone p.sb p.page p.items := rfl

theorem State.itemsProgrammed_moved {items : List ProgItem} (h : ∀ i ∈ items, i.fromBuf = false) (s : State) :
    (s.itemsProgrammed items).media.moved = s.media.moved ++ items := by
  induction items generalizing s with
  | nil => exact (List.append_nil _).symm
  | cons i items ih =>
    have first : (s.itemProgrammed i).media.moved = s.media.moved ++ [i] := by
      unfold State.itemProgrammed
      rw [h i List.mem_cons_self, if_neg Bool.false_ne_true]
    calc (s.itemsProgrammed (i :: items)).media.moved
        = (s.itemProgrammed i).media.moved ++ items := ih (fun j hj => h j (List.mem_cons_of_mem _ hj)) _
      _ = s.media.moved ++ (i :: items) := by rw [first, List.append_assoc]; rfl

/-! ### Programmed copies (R30) -/

theorem Tbl.mem_insertSorted {α : Type} {t : Tbl α} {k : Nat} {v : α} {x : Nat × α} (h : x ∈ Tbl.insertSorted k v t) : x = (k, v) ∨ x ∈ t := by
  induction t with
  | nil => exact .inl (List.mem_singleton.mp h)
  | cons y t ih =>
    unfold Tbl.insertSorted at h
    split at h
    · exact List.mem_cons.mp h
    · rcases List.mem_cons.mp h with rfl | h
      · exact .inr List.mem_cons_self
      · exact (ih h).imp id (List.mem_cons_of_mem _)

/-- A key that was set has no second entry. -/
theorem Tbl.mem_set {α : Type} [DecidableEq α] {d : α} {t : Tbl α} {k : Nat} {v : α} {x : Nat × α} (h : x ∈ Tbl.set d t k v)
    (hx : x.1 = k) : x.2 = v := by
  unfold Tbl.set at h
  split at h
  · exact absurd hx (Tbl.erase_ne t k x h)
  · rcases Tbl.mem_insertSorted h with rfl | h
    · rfl
    · exact absurd hx (Tbl.erase_ne t k x h)

/-- A copy that is in the write buffer. -/
def State.hasCopy (s : State) (h : Nat) : Prop := h ∈ s.wbuf.blks.map (fun x => x.1)

/-- The copy, once its program has ended. -/
def State.copyDone (s : State) (h d : Nat) (done : Bool) : WbBlk :=
  { s.wblk h with program := some d, programmed := (s.wblk h).programmed || done }

theorem State.copyProgrammed_eq {s : State} {h : Nat} (hk : s.hasCopy h) (d : Nat) (done : Bool) :
    s.copyProgrammed h d done = s.setWblk h (s.copyDone h d done) := by
  obtain ⟨x, hx, rfl⟩ := List.mem_map.mp hk
  unfold State.copyProgrammed
  rw [if_pos (List.any_eq_true.mpr ⟨x, hx, beq_self_eq_true x.1⟩)]
  rfl

/-- The program of a copy is named, and its move has not been applied. -/
def WbBlk.waitsAt (b : WbBlk) (d : Nat) : Prop := b.program = some d ∧ b.programmed = false

theorem State.wbFree_waits {s : State} {h d : Nat} (j : Nat) (hw : (s.wblk h).waitsAt d) : ((s.wbFree j).wblk h).waitsAt d := by
  unfold State.wbFree
  dsimp only
  split
  · rename_i hc
    have e : j ≠ h := fun e => by rw [e, hw.2] at hc; exact Bool.false_ne_true hc
    show (Tbl.get {} (Tbl.erase j s.wbuf.blks) h).waitsAt d
    rw [Tbl.get_erase_ne _ _ e]
    exact hw
  · exact hw

/-- Parity frees no copy that waits for its move. -/
theorem State.parityDone_waits {s : State} {h d : Nat} (items : List ProgItem) (hw : (s.wblk h).waitsAt d)
    (only : ∀ x ∈ s.wbuf.blks, x.1 = h → x.2.waitsAt d) : ((s.parityDone items).wblk h).waitsAt d := by
  refine State.forEach_induct (P := fun t => (t.wblk h).waitsAt d) (State.forEach_induct (P := fun t => (t.wblk h).waitsAt d) hw
    fun x hx t ht => ?_) fun j _ t ht => State.wbFree_waits j ht
  split
  · split
    · by_cases e : x.1 = h
      · rw [e, State.setWblk_wblk]; exact only x hx e
      · rw [State.setWblk_wblk_ne _ _ e]; exact ht
    · exact ht
  · exact ht

theorem State.rowCheck_waits {s : State} {h d : Nat} (k : Nat) (hw : (s.wblk h).waitsAt d)
    (only : ∀ x ∈ s.wbuf.blks, x.1 = h → x.2.waitsAt d) : ((s.rowCheck k).wblk h).waitsAt d := by
  unfold State.rowCheck
  dsimp only
  split
  · exact hw
  · split
    · rw [(State.rowEnd_chg ..).wblk_eq rfl]
      exact State.parityDone_waits _ hw only
    · rw [(Chg.forEach (fun _ _ => State.parityStart_chg ..) (.refl 536870912 _)).wblk_eq rfl]
      exact hw

/-- A page with one copy, programmed: the copy's program is named. -/
theorem State.rowProgram_copy {s : State} {p : Prog} {i : ProgItem} (hp : p.items = [i]) (hb : i.fromBuf = true) (hk : s.hasCopy i.src)
    (hn : (s.wblk i.src).programmed = false) : ((s.rowProgram p true).wblk i.src).waitsAt i.dest := by
  have done : s.itemsProgrammed [i] = s.setWblk i.src (s.copyDone i.src i.dest false) :=
    (if_pos hb).trans (State.copyProgrammed_eq hk _ _)
  have waits : (s.copyDone i.src i.dest false).waitsAt i.dest := ⟨rfl, by unfold State.copyDone; rw [hn]; rfl⟩
  rw [State.rowProgram_ok, hp, done]
  refine State.rowCheck_waits _ ?_ fun x hx e => ?_
  · rw [show ∀ k x, ((s.setWblk i.src (s.copyDone i.src i.dest false)).setSb k x).wblk i.src = s.copyDone i.src i.dest false from
      fun k x => State.setWblk_wblk ..]
    exact waits
  · rw [Tbl.mem_set hx e]; exact waits

/-- A zone's unit with one copy, programmed: the copy's program is named. -/
theorem State.zoneProgram_copy {s : State} {p : Prog} {i : ProgItem} (hp : p.items = [i]) (hk : s.hasCopy i.src) :
    ((s.zoneProgram p true).wblk i.src).program = some i.dest := by
  have done : s.unitProgrammed p i.nsid = s.setWblk i.src (s.copyDone i.src i.dest !s.hasMap i.nsid) := by
    unfold State.unitProgrammed
    rw [hp]
    exact State.copyProgrammed_eq hk _ _
  rw [State.zoneProgram_cons hp, if_pos rfl, (State.unitRow_chg ..).wblk_eq rfl, (State.unitNoted_chg ..).wblk_eq rfl,
    (State.unitClocked_chg ..).wblk_eq rfl, done, State.setWblk_wblk]
  rfl

/-! ### The end of a row (R247) -/

theorem State.rowEnd_sb (s : State) (k : Nat) : (s.rowEnd k).sb k =
    { s.sb k with
      row := [], rowOn := [], parityLeft := 0, rows := if (s.sb k).filler then s.wordlines else (s.sb k).rows + 1
      st := if s.wordlines ≤ (if (s.sb k).filler then s.wordlines else (s.sb k).rows + 1) then .closed else (s.sb k).st
      closedAt := if s.wordlines ≤ (if (s.sb k).filler then s.wordlines else (s.sb k).rows + 1) then s.aon.now else (s.sb k).closedAt } :=
  State.setSb_sb ..

/-- The last parity page of a row, programmed, ends it. -/
theorem State.parityProgram_last {s : State} {p : Prog} (hp : p.page ≠ 1) (hl : (s.sb p.sb).parityLeft = 1) (hr : (s.sb p.sb).row ≠ []) :
    s.parityProgram p true = ((s.parityCounted p.sb).parityDone p.items).rowEnd p.sb := by
  rw [s.parityProgram_eq, if_neg hp, if_pos rfl, if_pos (by rw [hl])]
  unfold State.parityEnds
  rw [if_pos ⟨by rw [hl], by rw [List.isEmpty_eq_false_iff.mpr hr]; rfl⟩]

theorem State.parityDone_wordlines (s : State) (items : List ProgItem) : (s.parityDone items).wordlines = s.wordlines :=
  State.cfg_congr ((s.parityDone_chg items).dict rfl) ..

/-! ### Starting pages (R249) -/

/-- Page `i` of the open row has started, or is not there. -/
def State.pageOn (s : State) (k i : Nat) : Prop := ∀ q, (s.sb k).row[i]? = some q → q.started = true

/-- A page starts at its place in the row and nowhere else. -/
theorem State.pageStart_row (s : State) (k i : Nat) : ((s.pageStart k i).sb k).row = (s.sb k).row ∧ s.pageOn k i ∨
    ∃ p : RowPage, ((s.pageStart k i).sb k).row = (s.sb k).row.set i { p with started := true } := by
  unfold State.pageStart
  dsimp only
  split
  · rename_i h; exact .inl ⟨rfl, fun q hq => by rw [h] at hq; cases hq⟩
  · rename_i p h
    split
    · rename_i hs; exact .inl ⟨rfl, fun q hq => by rw [h] at hq; cases hq; exact hs⟩
    · exact .inr ⟨p, congrArg Sb.row (State.setSb_sb ..)⟩

theorem State.pageStart_length (s : State) (k i : Nat) : ((s.pageStart k i).sb k).row.length = (s.sb k).row.length := by
  rcases s.pageStart_row k i with ⟨h, -⟩ | ⟨p, h⟩
  · rw [h]
  · rw [h, List.length_set]

theorem State.pageStart_on (s : State) (k i : Nat) : (s.pageStart k i).pageOn k i := by
  intro q hq
  rcases s.pageStart_row k i with ⟨h, on⟩ | ⟨p, h⟩
  · exact on q (h ▸ hq)
  · rw [h, List.getElem?_set] at hq
    simp only [if_true] at hq
    split at hq
    · cases hq; rfl
    · cases hq

theorem State.pageStart_keeps_on {s : State} {k j : Nat} (i : Nat) (on : s.pageOn k j) : (s.pageStart k i).pageOn k j := by
  by_cases e : i = j
  · exact e ▸ s.pageStart_on k i
  · intro q hq
    rcases s.pageStart_row k i with ⟨h, -⟩ | ⟨p, h⟩
    · exact on q (h ▸ hq)
    · rw [h, List.getElem?_set_ne e] at hq; exact on q hq

theorem State.pagesStart_on (k : Nat) (l : List Nat) (s : State) : ∀ j ∈ l, (s.forEach l (fun i s => s.pageStart k i)).pageOn k j := by
  induction l generalizing s with
  | nil => exact fun j hj => absurd hj List.not_mem_nil
  | cons i l ih =>
    intro j hj
    rcases List.mem_cons.mp hj with rfl | hj
    · exact State.forEach_induct (P := fun t => t.pageOn k j) (s := s.pageStart k j) (l := l) (s.pageStart_on k j)
        fun x _ t ht => State.pageStart_keeps_on x ht
    · exact ih (s.pageStart k i) j hj

/-- An SLC row with the filler of R249. -/
def State.rowPadded (s : State) (k : Nat) : State :=
  s.setSb k { s.sb k with row := (s.sb k).row ++ List.replicate (s.rowPages k - (s.sb k).row.length) { kind := .filler } }

theorem State.rowPadded_pages (s : State) (k : Nat) : (s.rowPadded k).rowPages k = s.rowPages k := by
  unfold State.rowPages State.sbBits State.rowPadded
  rw [State.setSb_sb]
  rfl

theorem State.rowFill_eq (s : State) (k : Nat) : s.rowFill k =
    (s.rowPadded k).forEach (List.range (s.rowPages k)) (fun i s => s.pageStart k i) := by
  rw [← s.rowPadded_pages k]
  rfl

/-- An SLC row that is filled has all its pages, and all have started. -/
theorem State.rowFill_row {s : State} {k : Nat} (h : (s.sb k).row.length < s.rowPages k) :
    ((s.rowFill k).sb k).row.length = s.rowPages k ∧ ∀ p ∈ ((s.rowFill k).sb k).row, p.started = true := by
  have len : ((s.rowFill k).sb k).row.length = s.rowPages k := by
    rw [s.rowFill_eq, State.forEach_keeps (π := fun t => (t.sb k).row.length) (fun i t => t.pageStart_length k i)]
    unfold State.rowPadded
    rw [State.setSb_sb, List.length_append, List.length_replicate]
    omega
  refine ⟨len, fun p hp => ?_⟩
  obtain ⟨i, hi, rfl⟩ := List.mem_iff_getElem.mp hp
  have on : (s.rowFill k).pageOn k i := by
    rw [s.rowFill_eq]
    exact State.pagesStart_on k _ _ i (List.mem_range.mpr (len ▸ hi))
  exact on _ (List.getElem?_eq_getElem hi)

/-! ### Erases of an allocation (R248, R268) -/

theorem State.members_congr {s t : State} {k : Nat} (hs : (t.sb k).absentCh = (s.sb k).absentCh) (hl : t.luns = s.luns)
    (hc : t.chans = s.chans) (hd : t.dict = s.dict) : t.members k = s.members k := by
  unfold State.members State.lun State.chan State.blocksPerLun State.pf
  rw [hs, hl, hc, State.cfg_congr hd]

theorem State.allocatable_congr {s t : State} {k : Nat} (hs : (t.sb k).absentCh = (s.sb k).absentCh) (hl : t.luns = s.luns)
    (hc : t.chans = s.chans) (hd : t.dict = s.dict) : t.allocatable k = s.allocatable k := by
  unfold State.allocatable State.dataMembers State.parityOf State.parityAt State.parityMembers
  rw [State.members_congr hs hl hc hd, State.cfg_congr hd]

/-- A member of an allocated superblock has been erased. -/
def State.memberErased (s : State) (k ch : Nat) : State :=
  s.setSb k { s.sb k with erasing := (s.sb k).erasing.filter (fun c => c != ch) }

theorem State.memberErased_allocatable (s : State) (k ch : Nat) : (s.memberErased k ch).allocatable k = s.allocatable k :=
  State.allocatable_congr (by unfold State.memberErased; rw [State.setSb_sb]) rfl rfl rfl

theorem State.sbOpened_allocatable {s : State} {k : Nat} (h : s.allocatable k = true) : s.sbOpened k = s :=
  if_pos (by rw [h, Bool.or_true])

/-- A superblock with too few members leaves service: Free, with its wear. -/
theorem State.sbOpened_leaves {s : State} {k : Nat} (he : (s.sb k).erasing = []) (h : s.allocatable k = false) :
    ((s.sbOpened k).sb k).st = .free ∧ ((s.sbOpened k).sb k).wear = (s.sb k).wear := by
  have out : s.sbOpened k = _ := if_neg (by rw [he, h]; exact Bool.false_ne_true)
  rw [out, State.setSb_sb]
  exact ⟨rfl, State.forEach_keeps (π := fun t => (t.sb k).wear) (fun c t => t.blockRetire_wear k c k) _ _⟩

theorem State.sbOpened_grows (s : State) (k : Nat) : MediaGrows s (s.sbOpened k) :=
  .ite (fun _ => .refl s) fun _ => .setSb (.forEach (fun c t => t.blockRetire_grows k c) (.refl s)) (List.Subset.refl _)

/-- The superblock, when the erase of one of its members has ended. -/
def State.memberEnded (s : State) (k ch : Nat) (ok : Bool) : State :=
  (if ok then s.memberErased k ch else s.blockRetire k ch).sbOpened k

theorem exec_eraseComplete_member {s : State} {k ch : Nat} (h : ch ∈ (s.sb k).erasing) (hs : s.sec.sanRunning ≠ 2) (ok : Bool) :
    exec (.eraseComplete k ch ok) s = .next ((((s.memberEnded k ch ok).mediaPump.spareCheck).critWatch s).settleWatch) := by
  have block : (s.sec.sanRunning == 2 && decide (s.mode.base = .maintenance) && s.sanitizeLeft k ch) = false := by
    rw [beq_false_of_ne hs]; rfl
  show execEraseComplete k ch ok s = _
  unfold execEraseComplete
  rw [next_when (by rw [block, List.contains_iff_mem.mpr h]; rfl), block, if_neg Bool.false_ne_true]
  rfl

/-! ### Erases of a Block Erase (R424) -/

theorem exec_eraseComplete_block {s : State} {k ch : Nat} (hs : s.sec.sanRunning = 2) (hb : s.mode.base = .maintenance)
    (hl : s.sanitizeLeft k ch = true) (ok : Bool) :
    exec (.eraseComplete k ch ok) s = .next (((s.sanitizeErase k ch ok).spareCheck.critWatch s).settleWatch) := by
  have block : (s.sec.sanRunning == 2 && decide (s.mode.base = .maintenance) && s.sanitizeLeft k ch) = true := by
    rw [hs, hb, hl]; rfl
  show execEraseComplete k ch ok s = _
  unfold execEraseComplete
  rw [next_when (by rw [block]; rfl), block, if_pos rfl]

/-- The erase count of a superblock, counted once in a Block Erase. -/
def State.sanitizeWear (s : State) (k : Nat) : State :=
  if !s.sec.sanErased.any (fun x => x.1 == k) then
    s.setSb k { s.sb k with wear := (s.sb k).wear + (if s.inSlcSet k then s.pf 0x17 else s.pf 0x16) }
  else s

theorem State.sanitizeWear_sec (s : State) (k : Nat) : (s.sanitizeWear k).sec = s.sec := by
  unfold State.sanitizeWear
  split <;> rfl

/-- The member's erase, noted. -/
def State.sanitizeNoted (s : State) (k ch : Nat) : State :=
  { s with sec := { s.sec with sanErased := s.sec.sanErased ++ [(k, ch)] } }

/-- A Block Erase ends with its last member. -/
def State.sanitizeNext (s : State) : State := if s.sanitizeMore then s else s.sanitizeDone

theorem State.sanitizeErase_eq (s : State) (k ch : Nat) (ok : Bool) : s.sanitizeErase k ch ok =
    (if ok then (s.sanitizeWear k).sanitizeNoted k ch else (s.sanitizeWear k).blockRetire k ch).sanitizeNext := rfl

/-- The end of a Block Erase leaves no sanitize running and counts one. -/
theorem State.sanitizeDone_sec (s : State) : s.sanitizeDone.sec.sanRunning = 0 ∧
    s.sanitizeDone.sec.sanitizes = satAdd 32 s.sec.sanitizes 1 := by
  unfold State.sanitizeDone
  rw [(State.maintExit_chg ..).sec rfl, (State.reserveFill_chg ..).sec rfl]
  dsimp only
  split
  · exact ⟨rfl, congrArg (fun x : Sec => satAdd 32 x.sanitizes 1) ((State.section__chg _).sec rfl)⟩
  · exact ⟨rfl, rfl⟩

theorem State.reserveFill_grows (s : State) (fuel : Nat) : MediaGrows s (s.reserveFill fuel) := by
  induction fuel generalizing s with
  | zero => exact .refl s
  | succ fuel ih =>
    refine .ite (fun _ => .refl s) fun _ => ?_
    have alloc := s.sbAlloc_grows .reserve 0 0 (fun _ => true)
    split
    · rename_i h; rw [h] at alloc; exact (ih _).step alloc
    · rename_i h; rw [h] at alloc; exact alloc

/-- A Block Erase that ends has its record withdrawn from the image. -/
def State.sanitizeClosed (s : State) : State :=
  if s.sec.sanRunning == 2 then ({ s with recov := { s.recov with sanitizeRecord := 0 } }).section_ else s

theorem State.sanitizeClosed_grows (s : State) : MediaGrows s s.sanitizeClosed :=
  .ite (fun _ => (State.section_grows _).step (MediaGrows.of_eq rfl rfl)) fun _ => .refl s

theorem State.sanitizeDone_grows (s : State) : MediaGrows s s.sanitizeDone := by
  refine (MediaGrows.of_chg (State.maintExit_chg ..) rfl rfl).step ((State.reserveFill_grows ..).step ?_)
  refine (MediaGrows.of_chg (State.maintSet_chg ..) rfl rfl).step ((MediaGrows.of_chg (State.lcsBit_chg ..) rfl rfl).step ?_)
  exact MediaGrows.step (t := s.sanitizeClosed) (.of_eq rfl rfl) s.sanitizeClosed_grows

theorem State.sanitizeNext_grows (s : State) : MediaGrows s s.sanitizeNext :=
  .ite (fun _ => .refl s) fun _ => s.sanitizeDone_grows

theorem State.sanitizeNext_sec (s : State) : s.sanitizeNext.sec = s.sec ∨
    s.sanitizeNext.sec.sanRunning = 0 ∧ s.sanitizeNext.sec.sanitizes = satAdd 32 s.sec.sanitizes 1 := by
  unfold State.sanitizeNext
  split
  · exact .inl rfl
  · exact .inr s.sanitizeDone_sec

/-- A member's erase in a Block Erase: noted while members are left, else the sanitize is counted and none runs. -/
theorem State.sanitizeErase_sec (s : State) (k ch : Nat) :
    (s.sanitizeErase k ch true).sec.sanRunning = s.sec.sanRunning ∧ (k, ch) ∈ (s.sanitizeErase k ch true).sec.sanErased ∨
    (s.sanitizeErase k ch true).sec.sanRunning = 0 ∧ (s.sanitizeErase k ch true).sec.sanitizes = satAdd 32 s.sec.sanitizes 1 := by
  have noted : ((s.sanitizeWear k).sanitizeNoted k ch).sec = { s.sec with sanErased := s.sec.sanErased ++ [(k, ch)] } := by
    unfold State.sanitizeNoted
    rw [s.sanitizeWear_sec]
  rw [s.sanitizeErase_eq, if_pos rfl]
  refine ((s.sanitizeWear k).sanitizeNoted k ch).sanitizeNext_sec.imp (fun h => ?_) fun h => ?_
  · rw [h, noted]; exact ⟨rfl, List.mem_append_right _ List.mem_cons_self⟩
  · rw [noted] at h; exact h

theorem State.sanitizeErase_absent (s : State) (k ch : Nat) : ch ∈ ((s.sanitizeErase k ch false).sb k).absentCh := by
  rw [s.sanitizeErase_eq, if_neg Bool.false_ne_true]
  exact (State.sanitizeNext_grows _).absent k ((s.sanitizeWear k).blockRetire_absent k ch)

/-! ### PROGRAM_COMPLETE and ROW_HOLD_EXPIRY -/

/-- What the end of a program does before the pumps, by the kind of the program. -/
def State.programDone (s : State) (p : Prog) (ok : Bool) : State :=
  match p.kind with
  | .parity => s.parityProgram p ok
  | .zoneData => s.zoneProgram p ok
  | _ => s.rowProgram p ok

theorem State.programDone_parity {p : Prog} (h : p.kind = .parity) (s : State) (ok : Bool) : s.programDone p ok = s.parityProgram p ok := by
  unfold State.programDone; rw [h]

theorem State.programDone_zone {p : Prog} (h : p.kind = .zoneData) (s : State) (ok : Bool) : s.programDone p ok = s.zoneProgram p ok := by
  unfold State.programDone; rw [h]

theorem State.programDone_row {p : Prog} (hp : p.kind ≠ .parity) (hz : p.kind ≠ .zoneData) (s : State) (ok : Bool) :
    s.programDone p ok = s.rowProgram p ok := by
  unfold State.programDone
  split
  · exact absurd ‹_› hp
  · exact absurd ‹_› hz
  · rfl

theorem State.programDone_grows (s : State) (p : Prog) (ok : Bool) : MediaGrows s (s.programDone p ok) := by
  unfold State.programDone
  split
  · exact s.parityProgram_grows p ok
  · exact s.zoneProgram_grows p ok
  · exact s.rowProgram_grows p ok

/-- The state in which a program's end takes effect: the program is gone, and the START record stands. -/
def State.programTaken (s : State) (id : Nat) : State :=
  { s with media := { s.media with progs := Tbl.erase id s.media.progs } }.startRecord

theorem exec_programComplete {s : State} {id : Nat} (h : (s.prog id).live = true) (ok : Bool) : exec (.programComplete id ok) s =
    .next (((((((s.programTaken id).programDone (s.prog id) ok).mediaPump.parityWatch).spareCheck).critWatch s).rowAgain
      (s.prog id) ok).settleWatch) := next_when h

/-- A failed program of a page or of a unit retires the block it was for. -/
theorem State.programDone_absent {s : State} {p : Prog} (hp : p.kind ≠ .parity) (hi : p.items ≠ []) :
    p.ch ∈ ((s.programDone p false).sb p.sb).absentCh := by
  by_cases hz : p.kind = .zoneData
  · obtain ⟨i, l, h⟩ := List.exists_cons_of_ne_nil hi
    rw [s.programDone_zone hz, State.zoneProgram_cons h, if_neg Bool.false_ne_true]
    exact (MediaGrows.of_chg (State.setZone_chg ..) rfl rfl).absent p.sb (s.blockRetire_absent p.sb p.ch)
  · rw [s.programDone_row hp hz]
    exact ((State.relocateMember_grows ..).step ((State.pageDone_grows ..).step (State.reissue_grows ..))).absent p.sb
      (s.blockRetire_absent p.sb p.ch)

/-- The unit of a failed program is not among its zone's units. -/
theorem State.zoneProgram_units {s : State} {p : Prog} {i : ProgItem} {l : List ProgItem} (h : p.items = i :: l) :
    p.page ∉ ((s.zoneProgram p false).zone i.nsid (i.lba / s.zsize i.nsid)).units := by
  rw [State.zoneProgram_cons h, if_neg Bool.false_ne_true]
  unfold State.unitFailed
  rw [State.setZone_zone]
  intro hm
  simpa using (List.mem_filter.mp hm).2

theorem State.parityStart_prog (s : State) (k ch : Nat) (items : List ProgItem) (interim : Bool) :
    (s.parityStart k ch items interim).prog s.media.nextProg =
      { live := true, kind := .parity, sb := k, ch := ch, page := boolNat interim, items := items } :=
  State.setProg_prog s s.media.nextProg { live := true, kind := .parity, sb := k, ch := ch, page := boolNat interim, items := items }

/-- The conditions of R249 and R254 for the end of an open row's hold. -/
def State.rowHeld (s : State) (k : Nat) : Prop := s.inService = true ∧ s.elapsed (s.sb k).rowSince (s.cfg 0x6402 6 * usec) = true

theorem exec_rowHoldExpiry_slc {s : State} {k : Nat} (h : (s.boundary 0x6402).rowHeld k) (hk : ((s.boundary 0x6402).sb k).kind = .slc)
    (hr : ((s.boundary 0x6402).sb k).row ≠ []) (hl : ((s.boundary 0x6402).sb k).row.length < (s.boundary 0x6402).rowPages k) :
    exec (.rowHoldExpiry k) s = .next ((s.boundary 0x6402).rowFill k) := by
  obtain ⟨hin, hel⟩ := h
  have slc : (decide (((s.boundary 0x6402).sb k).kind = .slc) && !((s.boundary 0x6402).sb k).row.isEmpty &&
      !(decide ((s.boundary 0x6402).rowPages k ≤ ((s.boundary 0x6402).sb k).row.length) &&
        ((s.boundary 0x6402).sb k).row.all (fun p => p.started))) = true := by
    rw [hk, List.isEmpty_eq_false_iff.mpr hr, decide_eq_false (Nat.not_le.mpr hl)]; rfl
  show execRowHoldExpiry k s = _
  unfold execRowHoldExpiry
  dsimp only
  rw [next_when (by rw [slc, hin, hel]; rfl), if_pos slc]

theorem exec_rowHoldExpiry_zone {s : State} {k : Nat} (h : (s.boundary 0x6402).rowHeld k) (hk : ((s.boundary 0x6402).sb k).kind = .zone)
    (hu : (s.boundary 0x6402).uncovered k ≠ []) : exec (.rowHoldExpiry k) s =
      .next ((s.boundary 0x6402).parityStart k (((s.boundary 0x6402).parityOf k).headD 0) ((s.boundary 0x6402).uncovered k) true) := by
  obtain ⟨hin, hel⟩ := h
  show execRowHoldExpiry k s = _
  unfold execRowHoldExpiry
  dsimp only
  rw [next_when (by rw [hk, hin, hel, List.isEmpty_eq_false_iff.mpr hu]; rfl), hk]
  rfl

end Sys2Proof.Machine
end

section
/-! The statement about programs and erases. -/

namespace Sys2Proof

open Machine

/-- R30, R247, R267: what a program that ends, well or badly, does before the pumps. -/
theorem programDone_effects {s w : State} {id : Nat} (p : Prog) (ok : Bool) (hw : w = s.programTaken id) :
    (w.programDone p ok).recov.startAppended = true ∧
    (p.kind ≠ .parity → p.kind ≠ .zoneData → ok = true → (∀ i ∈ p.items, i.fromBuf = false) →
      (w.programDone p ok).media.moved = w.media.moved ++ p.items) ∧
    (p.kind ≠ .parity → p.kind ≠ .zoneData → ok = true → ∀ i, p.items = [i] → i.fromBuf = true →
      i.src ∈ w.wbuf.blks.map (fun x => x.1) → (w.wblk i.src).programmed = false →
      ((w.programDone p ok).wblk i.src).program = some i.dest) ∧
    (p.kind ≠ .parity → ok = false → p.items ≠ [] → p.ch ∈ ((w.programDone p ok).sb p.sb).absentCh) ∧
    (p.kind = .parity → p.page ≠ 1 → ok = true → (w.sb p.sb).parityLeft = 1 → (w.sb p.sb).row ≠ [] → (w.sb p.sb).filler = false →
      ((w.programDone p ok).sb p.sb).rows = (w.sb p.sb).rows + 1 ∧ ((w.programDone p ok).sb p.sb).row = [] ∧
      ((w.programDone p ok).sb p.sb).parityLeft = 0 ∧
      ((w.programDone p ok).sb p.sb).st = (if w.wordlines ≤ (w.sb p.sb).rows + 1 then .closed else (w.sb p.sb).st)) ∧
    (p.kind = .zoneData → ok = true → ∀ i, p.items = [i] → i.src ∈ w.wbuf.blks.map (fun x => x.1) →
      ((w.programDone p ok).wblk i.src).program = some i.dest) ∧
    (p.kind = .zoneData → ok = false → ∀ i l, p.items = i :: l →
      p.page ∉ ((w.programDone p ok).zone i.nsid (i.lba / s.zsize i.nsid)).units) := by
  have started : w.recov.startAppended = true := hw ▸ State.startRecord_started _
  have zsize : ∀ n, w.zsize n = s.zsize n := fun n => by
    unfold State.zsize State.ns; rw [hw, show (s.programTaken id).nss = s.nss from (State.startRecord_chg _).nss rfl]
  refine ⟨(w.programDone_grows p ok).started started, fun hp hz hok hi => ?_, fun hp hz hok i hi hb hk hn => ?_,
    fun hp hok hi => ?_, fun hp hpage hok hl hr hf => ?_, fun hz hok i hi hk => ?_, fun hz hok i l hi => ?_⟩
  · subst hok
    rw [w.programDone_row hp hz, State.rowProgram_ok, State.pageDone_moved, State.itemsProgrammed_moved hi]
  · subst hok
    rw [w.programDone_row hp hz]
    exact (State.rowProgram_copy hi hb hk hn).1
  · subst hok
    exact State.programDone_absent hp hi
  · subst hok
    have sb : ((w.parityCounted p.sb).parityDone p.items).sb p.sb = { w.sb p.sb with parityLeft := (w.sb p.sb).parityLeft - 1, lastProgram := w.aon.now } :=
      ((State.parityDone_chg ..).sb_eq rfl _).trans (State.setSb_sb ..)
    have wordlines : ((w.parityCounted p.sb).parityDone p.items).wordlines = w.wordlines := State.parityDone_wordlines ..
    rw [w.programDone_parity hp, State.parityProgram_last hpage hl hr, State.rowEnd_sb, sb, wordlines]
    simp only [hf, Bool.false_eq_true, if_false, true_and]
  · subst hok
    rw [w.programDone_zone hz]
    exact State.zoneProgram_copy hi hk
  · subst hok
    rw [w.programDone_zone hz, ← zsize]
    exact State.zoneProgram_units hi

/-- R248, R268: the erase of a member that an allocation asked for. -/
theorem memberEnded_effects (s : State) (k ch : Nat) (ok : Bool) :
    (ok = true → s.allocatable k = true → ((s.memberEnded k ch ok).sb k).erasing = (s.sb k).erasing.filter (fun c => c != ch) ∧
      ((s.memberEnded k ch ok).sb k).st = (s.sb k).st) ∧
    (ok = true → (s.sb k).erasing = [ch] → s.allocatable k = false → ((s.memberEnded k ch ok).sb k).st = .free ∧
      ((s.memberEnded k ch ok).sb k).wear = (s.sb k).wear) ∧
    (ok = false → ch ∈ ((s.memberEnded k ch ok).sb k).absentCh) := by
  have erased : (s.memberErased k ch).sb k = { s.sb k with erasing := (s.sb k).erasing.filter (fun c => c != ch) } := State.setSb_sb ..
  refine ⟨fun hok ha => ?_, fun hok he ha => ?_, fun hok => ?_⟩ <;> subst hok
  · rw [show s.memberEnded k ch true = s.memberErased k ch from
      State.sbOpened_allocatable ((s.memberErased_allocatable k ch).trans ha), erased]
    exact ⟨rfl, rfl⟩
  · have none_ : ((s.memberErased k ch).sb k).erasing = [] := by rw [erased, he]; simp
    obtain ⟨hst, hwear⟩ := State.sbOpened_leaves none_ ((s.memberErased_allocatable k ch).trans ha)
    exact ⟨hst, hwear.trans (by rw [erased])⟩
  · exact (State.sbOpened_grows _ k).absent k (s.blockRetire_absent k ch)

/-- Settles O37. -/
theorem programsAndErases : Obligations.ProgramsAndErases := by
  refine ⟨fun s w id p ok hp hlive hw => ?_, fun s k ch ok hch hs => ?_, fun s k ch ok hs hb hl => ?_,
    fun s w k hw hin hel => ⟨fun hk hr hl => ?_, fun hk hu => ?_⟩⟩
  · subst hp
    obtain rfl : w = s.programTaken id := hw
    exact ⟨_, exec_programComplete hlive ok, programDone_effects (s.prog id) ok rfl⟩
  · exact ⟨_, exec_eraseComplete_member hch hs ok, memberEnded_effects s k ch ok⟩
  · refine ⟨_, exec_eraseComplete_block hs hb hl ok, fun hok hrun => ?_, fun hok => ?_, fun hok hrun => ?_⟩ <;> subst hok
    · rcases s.sanitizeErase_sec k ch with ⟨-, h⟩ | ⟨h, -⟩
      · exact h
      · rw [h] at hrun; cases hrun
    · exact s.sanitizeErase_absent k ch
    · rcases s.sanitizeErase_sec k ch with ⟨h, -⟩ | ⟨-, h⟩
      · exact absurd (h.trans hs) hrun
      · exact h
  · subst hw
    obtain ⟨hlen, hall⟩ := State.rowFill_row hl
    exact ⟨_, exec_rowHoldExpiry_slc ⟨hin, hel⟩ hk hr hl, hlen, hall, (State.rowFill_chg ..).map rfl⟩
  · subst hw
    exact ⟨_, exec_rowHoldExpiry_zone ⟨hin, hel⟩ hk hu, State.parityStart_prog .., rfl⟩

end Sys2Proof
end

section
/-! SUPPORT. The transitions of power and the beginning of a Bring-Up (R385, R386, R398, R433, R462): what they leave in the mode, and
that the units that start with a Bring-Up keep its mode, its firmware slot and, where no tag holds a command, the zones. -/

namespace Sys2Proof.Machine

/-! ### One transition -/

theorem State.transition_mode (s : State) (b : Base) (cause : Nat) : (s.transition b cause).mode =
    { s.mode with base := b, changes := satAdd 32 s.mode.changes 1, lastCause := cause } := by
  unfold State.transition
  exact (State.telemEvent_chg _).mode rfl

theorem State.fastOff_base (s : State) : s.fastOff.mode.base = s.mode.base := rfl
theorem State.fastOff_lastCause (s : State) : s.fastOff.mode.lastCause = s.mode.lastCause := rfl
theorem State.fastOff_auxOk (s : State) : s.fastOff.aon.auxOk = s.aon.auxOk := rfl

theorem State.vdmDown_mode (s : State) (p : Nat) : (s.vdmDown p).mode = s.mode := (s.vdmDown_chg p).mode rfl
theorem State.vdmDown_aon (s : State) (p : Nat) : (s.vdmDown p).aon = s.aon := (s.vdmDown_chg p).aon rfl
theorem State.transition_aon (s : State) (b : Base) (cause : Nat) : (s.transition b cause).aon = s.aon := (s.transition_chg b cause).aon rfl

theorem State.enterDormant_mode (s : State) (cause : Nat) : (s.enterDormant cause).mode.base = .dormant ∧
    (s.enterDormant cause).mode.lastCause = cause := by
  unfold State.enterDormant
  rw [State.fastOff_base, State.fastOff_lastCause, State.vdmDown_mode, State.vdmDown_mode, State.transition_mode]
  exact ⟨rfl, rfl⟩

theorem State.enterDormant_auxOk (s : State) (cause : Nat) : (s.enterDormant cause).aon.auxOk = s.aon.auxOk := by
  unfold State.enterDormant
  rw [State.fastOff_auxOk, State.vdmDown_aon, State.vdmDown_aon, State.transition_aon, s.appendTear_chg.aon rfl]

theorem State.auxGone_base (s : State) : s.auxGone.mode.base = s.mode.base := rfl
theorem State.auxGone_held (s : State) : s.auxGone.regs = {} ∧ s.auxGone.aon.thermalHold = false ∧ s.auxGone.ras.ring = [] :=
  ⟨rfl, rfl, rfl⟩

/-- The Always-On Domain without power. -/
theorem State.unpowered_auxGone (s : State) (cause : Nat) : (s.transition .unpowered cause).auxGone.mode.base = .unpowered := by
  rw [State.auxGone_base, State.transition_mode]

theorem State.auxCheck_powered {s : State} (ha : s.aon.auxOk = true) : s.auxCheck = s := by
  simp [State.auxCheck, ha]

/-- Dormant without aux power loses what the Always-On Domain held. -/
theorem State.auxCheck_unpowered {s : State} (hb : s.mode.base = .dormant) (ha : s.aon.auxOk = false) :
    s.auxCheck.mode.base = .unpowered ∧ s.auxCheck.regs = {} ∧ s.auxCheck.aon.thermalHold = false ∧ s.auxCheck.ras.ring = [] := by
  have off : s.auxCheck = (s.transition .unpowered s.mode.lastCause).auxGone := by simp [State.auxCheck, hb, ha]
  rw [off]
  exact ⟨State.unpowered_auxGone .., State.auxGone_held _⟩

/-- MAIN_PG is false, and a thermal hold no longer waits for it. -/
def State.mainGone (s : State) : State := { s with aon := { s.aon with mainPg := false, holdNeedsPg := false } }

/-- The fast domain is off, and aux power holds the Always-On Domain. -/
theorem State.enterDormant_powered {s : State} (ha : s.aon.auxOk = true) (cause : Nat) :
    (s.enterDormant cause).auxCheck.mode.base = .dormant ∧ (s.enterDormant cause).auxCheck.mode.lastCause = cause ∧
    (s.enterDormant cause).auxCheck.tags = [] ∧ (s.enterDormant cause).auxCheck.funcs = [] ∧ (s.enterDormant cause).auxCheck.chans = [] ∧
    (s.enterDormant cause).auxCheck.zones = s.zones ∧ (s.enterDormant cause).auxCheck.nss = s.nss := by
  obtain ⟨hbase, hcause⟩ := s.enterDormant_mode cause
  have hc := s.enterDormant_chg cause
  rw [State.auxCheck_powered ((s.enterDormant_auxOk cause).trans ha)]
  exact ⟨hbase, hcause, rfl, rfl, rfl, hc.zones rfl, hc.nss rfl⟩

/-- Both domains are off. -/
theorem State.enterDormant_unpowered {s : State} (ha : s.aon.auxOk = false) (cause : Nat) :
    (s.enterDormant cause).auxCheck.mode.base = .unpowered ∧ (s.enterDormant cause).auxCheck.regs = {} := by
  obtain ⟨hbase, hregs, -⟩ := State.auxCheck_unpowered (s.enterDormant_mode cause).1 ((s.enterDormant_auxOk cause).trans ha)
  exact ⟨hbase, hregs⟩

theorem State.flushLeave_unpowered {s : State} (ha : s.aon.auxOk = false) : s.flushLeave.mode.base = .unpowered := by
  have off : (s.enterDormant 21).aon.auxOk = false := (s.enterDormant_auxOk 21).trans ha
  unfold State.flushLeave
  simp only [off, Bool.false_eq_true, if_false]
  exact State.unpowered_auxGone ..

/-- The modes in which the fast domain runs. -/
theorem State.awake_cases {s : State} (h : s.awake = true) : s.mode.base = .bringUp ∨ s.mode.base = .service ∨
    s.mode.base = .readOnly ∨ s.mode.base = .flush ∨ s.mode.base = .maintenance := by
  unfold State.awake at h
  cases hb : s.mode.base with
  | unpowered => simp [hb] at h
  | dormant => simp [hb] at h
  | _ => simp

/-! ### Commands on tags that hold none -/

/-- No tag holds a command. -/
def State.noCommands (s : State) : Prop := ∀ k, (s.tag k).st = .free

theorem State.commitTag_free {s : State} {t : Nat} (h : (s.tag t).st = .free) (st : Status) (a b : Nat) : s.commitTag t st a b = s := by
  simp only [State.commitTag, h]

theorem State.drainTag_free {s : State} {t : Nat} (h : (s.tag t).st = .free) : s.drainTag t = s := by
  simp only [State.drainTag, h, true_or, if_true]

theorem State.noCommands_setTag {s : State} (h : s.noCommands) {k : Nat} {x : Tag} (hx : x.st = .free) : (s.setTag k x).noCommands := by
  intro j
  by_cases e : k = j
  · rw [← e, s.setTag_tag]; exact hx
  · rw [s.setTag_tag_ne x e]; exact h j

/-! ### The units that start with a Bring-Up -/

/-- The mode without what a starting unit may set in it. -/
def ModeSt.started (m : ModeSt) : ModeSt := { m with sustain := 0, bringupEvent := 0, fatal := 0, drainWanted := false }

/-- What the start of a unit keeps. -/
structure StartKept (s t : State) : Prop where
  mode : t.mode.started = s.mode.started
  slot : t.sec.slotInForce = s.sec.slotInForce
  aliasNo : t.sec.aliasNo = s.sec.aliasNo
  idle : s.noCommands → t.noCommands ∧ t.zones = s.zones

namespace StartKept

variable {s t u : State}

theorem base (h : StartKept s t) : t.mode.base = s.mode.base := by
  have e := congrArg ModeSt.base h.mode
  exact e
theorem lastCause (h : StartKept s t) : t.mode.lastCause = s.mode.lastCause := by
  have e := congrArg ModeSt.lastCause h.mode
  exact e
theorem mapReady (h : StartKept s t) : t.mode.mapReady = s.mode.mapReady := by
  have e := congrArg ModeSt.mapReady h.mode
  exact e

theorem refl (s : State) : StartKept s s := ⟨rfl, rfl, rfl, fun h => ⟨h, rfl⟩⟩

theorem step (h2 : StartKept t u) (h1 : StartKept s t) : StartKept s u where
  mode := h2.mode.trans h1.mode
  slot := h2.slot.trans h1.slot
  aliasNo := h2.aliasNo.trans h1.aliasNo
  idle h := by
    obtain ⟨ht, zt⟩ := h1.idle h
    obtain ⟨hu, zu⟩ := h2.idle ht
    exact ⟨hu, zu.trans zt⟩

/-- A change that leaves the tags, the zones and the security unit. -/
theorem of_chg_mode {m : Nat} (h : Chg m s t) (hm : t.mode.started = s.mode.started) (ht : m.testBit 13 = false)
    (hz : m.testBit 24 = false) (hs : m.testBit 37 = false) : StartKept s t where
  mode := hm
  slot := congrArg Sec.slotInForce (h.sec hs)
  aliasNo := congrArg Sec.aliasNo (h.sec hs)
  idle hi := ⟨fun k => (congrArg Tag.st (h.tag_eq ht k)).trans (hi k), h.zones hz⟩

theorem of_chg {m : Nat} (h : Chg m s t) (hm : m.testBit 3 = false) (ht : m.testBit 13 = false) (hz : m.testBit 24 = false)
    (hs : m.testBit 37 = false) : StartKept s t :=
  of_chg_mode h (congrArg ModeSt.started (h.mode hm)) ht hz hs

theorem ite {c : Prop} [Decidable c] (ht : StartKept s t) (hu : StartKept s u) : StartKept s (if c then t else u) := by
  split
  · exact ht
  · exact hu

theorem u_dict (h : StartKept s t) (d : Dict) : StartKept s { t with dict := d } := ⟨h.mode, h.slot, h.aliasNo, h.idle⟩
theorem u_slices (h : StartKept s t) (x : Tbl Slice) : StartKept s { t with slices := x } := ⟨h.mode, h.slot, h.aliasNo, h.idle⟩
theorem u_event (h : StartKept s t) (e : Nat) : StartKept s { t with mode := { t.mode with bringupEvent := e } } :=
  ⟨h.mode, h.slot, h.aliasNo, h.idle⟩
theorem u_event_dict (h : StartKept s t) (e : Nat) (d : Dict) :
    StartKept s { t with mode := { t.mode with bringupEvent := e }, dict := d } := ⟨h.mode, h.slot, h.aliasNo, h.idle⟩
theorem u_drams_ranks (h : StartKept s t) (x : Tbl Dram) (y : Tbl Rank) : StartKept s { t with drams := x, ranks := y } :=
  ⟨h.mode, h.slot, h.aliasNo, h.idle⟩

theorem forEach {α : Type} {l : List α} {f : α → State → State} (hf : ∀ x t, StartKept t (f x t)) (h : StartKept s t) :
    StartKept s (t.forEach l f) :=
  State.forEach_induct h fun x _ t ht => (hf x t).step ht

end StartKept

theorem State.setEngine_startKept (s : State) (e : Nat) (x : Engine) : StartKept s (s.setEngine e x) :=
  .of_chg (s.setEngine_chg e x) rfl rfl rfl rfl

theorem State.setSlice_startKept (s : State) (n : Nat) (x : Slice) : StartKept s (s.setSlice n x) :=
  .of_chg (s.setSlice_chg n x) rfl rfl rfl rfl

/-- An update that answers an activation stops no command where no tag holds one. -/
theorem State.activationStop_startKept (s : State) : StartKept s s.activationStop := by
  have commit : ∀ (t : State) (k : Nat) (st : Status), StartKept t (t.commitTag k st) := fun t k st =>
    ⟨congrArg ModeSt.started ((t.commitTag_chg k st 0 0).mode rfl), congrArg Sec.slotInForce ((t.commitTag_chg k st 0 0).sec rfl),
      congrArg Sec.aliasNo ((t.commitTag_chg k st 0 0).sec rfl), fun h => by rw [State.commitTag_free (h k)]; exact ⟨h, rfl⟩⟩
  have stop : ∀ (c : Sec) (r : Regs), c.slotInForce = s.sec.slotInForce → c.aliasNo = s.sec.aliasNo →
      StartKept s { s with sec := c, regs := r } := fun c r h1 h2 => ⟨rfl, h1, h2, fun h => ⟨h, rfl⟩⟩
  unfold State.activationStop
  refine .ite ?_ (.refl s)
  split
  · exact (commit _ _ _).step (stop _ _ rfl rfl)
  · exact stop _ _ rfl rfl

theorem State.serviceEnd_startKept (s : State) (cause : Nat) : StartKept s (s.serviceEnd cause) := by
  have fail : StartKept s (s.forEach s.funcs (fun x s => if (s.func (x.1 / 256) (x.1 % 256)).here then
      s.setFunc (x.1 / 256) (x.1 % 256) { s.func (x.1 / 256) (x.1 % 256) with cfs := true, rdy := false } else s)) :=
    .forEach (fun x t => .ite (.of_chg (t.setFunc_chg ..) rfl rfl rfl rfl) (.refl t)) (.refl s)
  obtain ⟨mode, slot, aliasNo, idle⟩ := fail
  exact ⟨mode, slot, aliasNo, idle⟩

theorem State.engineFail_startKept (s : State) (e : Nat) : StartKept s (s.engineFail e) := by
  have hand : StartKept s (s.engineHandover e) := by
    unfold State.engineHandover
    have down : StartKept s (s.engineDown e) := s.setEngine_startKept ..
    dsimp only
    split
    · exact .ite down (((State.setEngine_startKept ..).step (State.setEngine_startKept ..)).step down)
    · split
      · exact (State.setEngine_startKept ..).step down
      · exact down
  have report : ∀ (t : State) (u i k v c : Nat) (d : List Nat), StartKept t ((t.sustainSet 0).rasReport u i k v c d) := fun t u i k v c d =>
    (StartKept.of_chg (State.rasReport_chg ..) rfl rfl rfl rfl).step (.of_chg_mode (t.sustainSet_chg 0) rfl rfl rfl rfl)
  have tail : ∀ (b c : Bool) (t : State), StartKept t (if c then (if b then t.activationStop else t).serviceEnd 3
      else if b then t.activationStop else t) := fun b c t => by
    have stop : StartKept t (if b then t.activationStop else t) := .ite t.activationStop_startKept (.refl t)
    exact .ite ((State.serviceEnd_startKept ..).step stop) stop
  unfold State.engineFail
  exact (tail _ _ _).step ((report ..).step hand)

theorem State.chipStart_startKept (s : State) : StartKept s s.chipStart := by
  unfold State.chipStart
  refine .forEach (fun m t => ?_) ⟨rfl, rfl, rfl, fun h => ⟨h, rfl⟩⟩
  exact .ite (.ite (.refl t) (t.engineFail_startKept _)) (.of_chg (t.macroWithdraw_chg m) rfl rfl rfl rfl)

/-- No tag holds a command, and the zones are as they were. -/
def ZonesIdle (s t : State) : Prop := t.noCommands ∧ t.zones = s.zones

namespace ZonesIdle

variable {s t u : State}

theorem chg {m : Nat} (h : Chg m t u) (hk : ZonesIdle s t) (ht : m.testBit 13 = false) (hz : m.testBit 24 = false) : ZonesIdle s u :=
  ⟨fun k => (congrArg Tag.st (h.tag_eq ht k)).trans (hk.1 k), (h.zones hz).trans hk.2⟩

theorem u_dmaWait (h : ZonesIdle s t) (l : List Dma) : ZonesIdle s { t with dmaWait := l } := h

theorem drainTags (h : ZonesIdle s t) (l : List Nat) : ZonesIdle s (t.forEach l (fun k s => s.drainTag k)) :=
  State.forEach_induct h fun k _ u hu => by rw [State.drainTag_free (hu.1 k)]; exact hu

theorem renewTags (h : ZonesIdle s t) (n : Nat) (l : List Nat) :
    ZonesIdle s (t.forEach l (fun k s => s.setTag k { s.tag k with gen := (s.slice n).gen })) :=
  State.forEach_induct h fun k _ _ hu => ⟨State.noCommands_setTag hu.1 (hu.1 k), hu.2⟩

theorem dirtyDone (h : ZonesIdle s t) (n : Nat) (c : Prop) [Decidable c] :
    ZonesIdle s (if c then t.dirtyPostAll n else { t with dirty := t.dirty.filter (fun d => d.slice != n) }) := by
  split
  · exact chg (t.dirtyPostAll_chg n) h rfl rfl
  · exact h

end ZonesIdle

/-- A slice's reset drains no tag where none holds a command. -/
theorem State.resetBody_startKept (s : State) (n : Nat) : StartKept s (s.resetBody n) := by
  have hc := s.resetBody_chg n
  refine ⟨congrArg ModeSt.started (hc.mode rfl), congrArg Sec.slotInForce (hc.sec rfl), congrArg Sec.aliasNo (hc.sec rfl), fun h => ?_⟩
  show ZonesIdle s (s.resetBody n)
  unfold State.resetBody
  dsimp only
  refine .chg (State.pageReset_chg ..) ?_ rfl rfl
  refine .chg (State.setupAdmin_chg ..) ?_ rfl rfl
  refine .chg (State.dropSliceQueues_chg ..) ?_ rfl rfl
  refine .chg (State.dmaStale_chg ..) ?_ rfl rfl
  refine .u_dmaWait ?_ _
  refine .chg (State.setSlice_chg ..) ?_ rfl rfl
  refine .dirtyDone ?_ ..
  refine .renewTags ?_ ..
  refine .drainTags ?_ ..
  exact .chg (State.setSlice_chg ..) ⟨h, rfl⟩ rfl rfl

theorem State.sliceStart_startKept (s : State) : StartKept s s.sliceStart := by
  unfold State.sliceStart
  dsimp only
  refine .forEach (fun n t => (State.setSlice_startKept ..).step (t.resetBody_startKept n)) ?_
  refine .u_slices ?_ _
  exact .forEach (fun n t => .of_chg (State.recordClear_chg t (0x3000 + n)) rfl rfl rfl rfl) (.refl s)

theorem State.sustainClear_startKept (s : State) (b : Nat) : StartKept s (s.sustainClear b) := ⟨rfl, rfl, rfl, fun h => ⟨h, rfl⟩⟩

theorem State.sustainStart_startKept (s : State) : StartKept s s.sustainStart := by
  unfold State.sustainStart
  refine (State.sustainClear_startKept _ 7).step ((State.sustainClear_startKept _ 6).step ?_)
  have first : StartKept s (if (List.range Config.engines).any (fun e => (s.engine e).failed) then s else s.sustainClear 0) :=
    .ite (.refl s) (s.sustainClear_startKept 0)
  exact .ite ((State.sustainClear_startKept _ 1).step first) first

theorem State.storeLoad_startKept (s : State) : StartKept s s.storeLoad := by
  unfold State.storeLoad
  dsimp only
  refine .ite (.u_dict (.of_chg (State.setActiveCopy_chg ..) rfl rfl rfl rfl) _) ?_
  exact .ite (.u_dict (.refl s) _) (.ite (.u_event_dict (.refl s) _ _) (.u_dict (.refl s) _))

theorem State.dramStart_startKept (s : State) : StartKept s s.dramStart := by
  unfold State.dramStart
  dsimp only
  refine .ite (.forEach (fun c t => .of_chg (t.setDram_chg ..) rfl rfl rfl rfl) ?_) ?_
  · exact .u_drams_ranks (.refl s) _ _
  · exact ⟨rfl, rfl, rfl, fun h => ⟨h, rfl⟩⟩

theorem State.chanStart_startKept (s : State) : StartKept s s.chanStart := by
  unfold State.chanStart
  refine .ite (.forEach (fun c t => ?_) (.refl s)) (.u_event (.refl s) _)
  exact .ite (.of_chg (t.setChan_chg ..) rfl rfl rfl rfl) (.refl t)

/-! ### The beginning of a Bring-Up -/

/-- The fast domain off, the volatile values at their defaults, the straps sampled. -/
def State.bringUpQuiet (s : State) : State := s.fastOff.volatileClear.strapStart

/-- The mode and the firmware slot with which the units of a Bring-Up start. -/
def State.bringUpSlot (s : State) (k : Nat) : State :=
  { s with
    sec := { s.sec with slotInForce := k, aliasNo := s.sec.aliasNo + 1 }
    mode := { s.mode with noImage := false, bringupEvent := 0, maintCauses := 0, mapReady := false, rerun := false
                          maintStopped := false, fatal := 0 } }

/-- The units that a Bring-Up starts. -/
def State.unitsStart (s : State) : State := ((s.storeLoad.portStart.sliceStart.sustainStart.chipStart).dramStart).chanStart

theorem State.bringUpBegin_eq {s : State} {k : Nat} (ht : (s.aon.strapTest && s.debugOpen) = false) (hk : s.bootSlot = some k)
    (cause : Nat) : s.bringUpBegin cause = ((s.bringUpQuiet.transition .bringUp cause).bringUpSlot k).unitsStart := by
  unfold State.bringUpBegin
  simp only [ht, hk, Bool.false_eq_true, if_false]
  unfold State.unitsStart State.bringUpSlot State.bringUpQuiet
  rfl

theorem State.bringUpQuiet_tags (s : State) : s.bringUpQuiet.tags = [] := (State.strapStart_chg _).tags rfl
theorem State.bringUpQuiet_zones (s : State) : s.bringUpQuiet.zones = s.zones := (State.strapStart_chg _).zones rfl
theorem State.bringUpQuiet_aliasNo (s : State) : s.bringUpQuiet.sec.aliasNo = s.sec.aliasNo := by
  unfold State.bringUpQuiet
  rw [(State.strapStart_chg _).sec rfl]
  rfl

theorem State.unitsStart_startKept (s : State) : StartKept s s.unitsStart := by
  unfold State.unitsStart
  refine (State.chanStart_startKept _).step ((State.dramStart_startKept _).step ((State.chipStart_startKept _).step ?_))
  refine (State.sustainStart_startKept _).step ((State.sliceStart_startKept _).step ?_)
  exact (StartKept.of_chg (State.portStart_chg _) rfl rfl rfl rfl).step s.storeLoad_startKept

/-- The units start in the mode and from the slot that they were given. -/
theorem State.unitsStart_bringUpSlot {s : State} (h : s.noCommands) (k : Nat) :
    (s.bringUpSlot k).unitsStart.mode.base = s.mode.base ∧ (s.bringUpSlot k).unitsStart.mode.lastCause = s.mode.lastCause ∧
    (s.bringUpSlot k).unitsStart.sec.slotInForce = k ∧ (s.bringUpSlot k).unitsStart.mode.mapReady = false ∧
    (s.bringUpSlot k).unitsStart.sec.aliasNo = s.sec.aliasNo + 1 ∧ (s.bringUpSlot k).unitsStart.zones = s.zones := by
  have kept := (s.bringUpSlot k).unitsStart_startKept
  generalize (s.bringUpSlot k).unitsStart = t at kept ⊢
  exact ⟨kept.base, kept.lastCause, kept.slot, kept.mapReady, kept.aliasNo, (kept.idle h).2⟩

/-- A Bring-Up that begins, with its units started. -/
theorem State.bringUpBegin_starts {s : State} {k : Nat} (ht : (s.aon.strapTest && s.debugOpen) = false) (hk : s.bootSlot = some k)
    (cause : Nat) : (s.bringUpBegin cause).mode.base = .bringUp ∧ (s.bringUpBegin cause).mode.lastCause = cause ∧
      (s.bringUpBegin cause).sec.slotInForce = k ∧ (s.bringUpBegin cause).mode.mapReady = false ∧
      (s.bringUpBegin cause).sec.aliasNo = s.sec.aliasNo + 1 ∧ (s.bringUpBegin cause).zones = s.zones := by
  rw [State.bringUpBegin_eq ht hk]
  have quiet : (s.bringUpQuiet.transition .bringUp cause).noCommands := fun j => by
    unfold State.tag
    rw [(State.transition_chg ..).tags rfl, s.bringUpQuiet_tags]; rfl
  obtain ⟨hbase, hcause, hslot, hmap, hnumber, hzones⟩ := State.unitsStart_bringUpSlot quiet k
  rw [State.transition_mode] at hbase hcause
  rw [(State.transition_chg ..).sec rfl, s.bringUpQuiet_aliasNo] at hnumber
  rw [(State.transition_chg ..).zones rfl, s.bringUpQuiet_zones] at hzones
  exact ⟨hbase, hcause, hslot, hmap, hnumber, hzones⟩

theorem State.tryStart_starts {s : State} (h : s.mayStart = true) (cause : Nat) : s.tryStart cause = s.bringUpBegin cause :=
  if_pos h

/-- Only Dormant begins a Bring-Up. -/
theorem State.tryStart_stays {s : State} (h : s.mode.base ≠ .dormant) (cause : Nat) : s.tryStart cause = s :=
  if_neg (by simp [State.mayStart, h])

theorem State.mayStart_dormant {s : State} {a : Aon} (h : ({ s with aon := a } : State).mayStart = true) : s.mode.base = .dormant := by
  simp only [State.mayStart, Bool.and_eq_true, decide_eq_true_eq] at h
  obtain ⟨⟨⟨⟨⟨⟨base, -⟩, -⟩, -⟩, -⟩, -⟩, -⟩ := h
  exact base

end Sys2Proof.Machine
end

section
/-! The statement about aux power, MAIN_PG and what begins a Bring-Up. -/

namespace Sys2Proof

open Machine

/-- Aux power comes. -/
theorem auxPowerOn_comes {s : State} (h : s.aon.auxOk = false) :
    (s.mode.base = .unpowered → ∃ t, exec .auxPowerOn s = .next t ∧ t.mode.base = .dormant ∧ t.mode.lastCause = 1 ∧ t.aon.auxOk = true) ∧
    (s.mode.base ≠ .unpowered → ∃ t, exec .auxPowerOn s = .next t ∧ t.mode = s.mode ∧ t.aon.auxOk = true) := by
  refine ⟨fun hb => ⟨_, next_when (by simp [h]), ?_⟩, fun hb => ⟨_, next_when (by simp [h]), ?_⟩⟩
  · simp only [hb, State.transition_mode, State.transition_aon, and_self]
  · cases hs : s.mode.base with
    | unpowered => exact absurd hs hb
    | _ => exact ⟨rfl, rfl⟩

/-- Aux power goes: Dormant loses what the Always-On Domain held, a mode with main power goes on, and an ended Flush is over. -/
theorem auxPowerLoss_goes {s : State} (h : s.aon.auxOk = true) :
    (s.mode.base = .dormant → ∃ t, exec .auxPowerLoss s = .next t ∧ t.mode.base = .unpowered ∧ t.regs = {} ∧ t.aon.thermalHold = false ∧
      t.ras.ring = [] ∧ t.dict = s.dict ∧ t.media = s.media) ∧
    (s.awake = true → s.mode.base ≠ .flush → ∃ t, exec .auxPowerLoss s = .next t ∧ t.mode = s.mode ∧ t.aon.auxOk = false) ∧
    (s.mode.base = .flush → s.mode.restartWait = true → ∃ t, exec .auxPowerLoss s = .next t ∧ t.mode.base = .unpowered) := by
  refine ⟨fun hb => ⟨_, next_when h, ?_⟩, fun ha hf => ⟨_, next_when h, ?_⟩, fun hb hr => ⟨_, next_when h, ?_⟩⟩
  · simp only [hb]
    have hc := State.auxCheck_chg { s with aon := { s.aon with auxOk := false } }
    obtain ⟨hbase, hregs, hheld, hring⟩ := State.auxCheck_unpowered (s := { s with aon := { s.aon with auxOk := false } }) hb rfl
    exact ⟨hbase, hregs, hheld, hring, hc.dict rfl, hc.media rfl⟩
  · rcases State.awake_cases ha with hb | hb | hb | hb | hb
    case inr.inr.inr.inl => exact absurd hb hf
    all_goals simp only [hb, and_self]
  · simp only [hb, hr, if_true]
    exact State.flushLeave_unpowered rfl

/-- The state that a Bring-Up begins from, whichever event begins it. -/
theorem exec_bringUpBegin {s : State} {a : Aon} {cause : Nat} {pin : Bool} {x : Instr}
    (h : (x = .mainPgTrue ∧ s.aon.mainPg = false ∧ a = { s.aon with mainPg := true } ∧ ({ s with aon := a } : State).mayStart = true ∧ cause = 2) ∨
    (x = .crystalQualified ∧ s.aon.crystal25 = false ∧ a = { s.aon with crystal25 := true } ∧ ({ s with aon := a } : State).mayStart = true ∧ cause = 2) ∨
    (x = .powerControlRelease pin ∧ (if pin then s.aon.pwrdis else s.aon.pln) = true ∧
      a = (if pin then { s.aon with pwrdis := false } else { s.aon with pln := false }) ∧ ({ s with aon := a } : State).mayStart = true ∧ cause = 2) ∨
    (x = .thermalHoldEnd ∧ s.aon.thermalHold = true ∧ (∃ c, s.thermal.coolSince = some c ∧ s.elapsed c 60000000000 = true) ∧
      a = { s.aon with thermalHold := false } ∧ ({ s with aon := a } : State).mayStart = true ∧ cause = 22) ∨
    (x = .flushRestartTimer ∧ s.mode.base = .flush ∧ s.mode.restartWait = true ∧ s.elapsed s.mode.flushAt 10000000 = true ∧
      s.flushHeld = false ∧ a = s.aon ∧ cause = 21)) :
    exec x s = .next (({ s with aon := a } : State).bringUpBegin cause) := by
  rcases h with ⟨rfl, hp, rfl, may, rfl⟩ | ⟨rfl, hp, rfl, may, rfl⟩ | ⟨rfl, hp, rfl, may, rfl⟩ | ⟨rfl, hp, ⟨c, hc, he⟩, rfl, may, rfl⟩ |
    ⟨rfl, hb, hr, he, hh, rfl, rfl⟩
  · rw [← State.tryStart_starts may]
    exact next_when (by simp [hp])
  · have hb : s.mode.base = .dormant := State.mayStart_dormant may
    rw [← State.tryStart_starts may]
    exact next_when (by simp [hp, State.aonOn, hb])
  · have hb : s.mode.base = .dormant := State.mayStart_dormant may
    rw [← State.tryStart_starts may]
    refine (next_when (by simp [hp, State.aonOn, hb])).trans ?_
    cases pin <;> rfl
  · have hb : s.mode.base = .dormant := State.mayStart_dormant may
    rw [← State.tryStart_starts may]
    refine next_when ?_
    simp only [hp, hb, hc, Bool.and_eq_true, decide_true, true_and]
    exact he
  · exact next_when (by
      simp only [hb, hr, hh, decide_true, Bool.and_eq_true, Bool.not_false, and_true, true_and]
      exact he)

/-- Where Dormant is not the mode, a condition of a Bring-Up that comes true changes itself alone. -/
theorem bringUpConditions_noted {s : State} (hb : s.mode.base ≠ .dormant) :
    (s.aon.mainPg = false → ∃ t, exec .mainPgTrue s = .next t ∧ t.aon.mainPg = true ∧ t.mode = s.mode) ∧
    (s.mode.base ≠ .unpowered → s.aon.crystal25 = false → ∃ t, exec .crystalQualified s = .next t ∧ t.aon.crystal25 = true ∧ t.mode = s.mode) ∧
    (s.mode.base ≠ .unpowered → s.aon.pln = true → ∃ t, exec (.powerControlRelease false) s = .next t ∧ t.aon.pln = false ∧ t.mode = s.mode) ∧
    (s.mode.base ≠ .unpowered → s.aon.pwrdis = true → ∃ t, exec (.powerControlRelease true) s = .next t ∧ t.aon.pwrdis = false ∧ t.mode = s.mode) := by
  have stays : ∀ (a : Aon) (cause : Nat), ({ s with aon := a } : State).tryStart cause = { s with aon := a } := fun a cause =>
    State.tryStart_stays (s := { s with aon := a }) hb cause
  refine ⟨fun h => ⟨_, next_when (by simp [h]), ?_⟩, fun hu h => ⟨_, next_when (by simp [h, State.aonOn, hu]), ?_⟩,
    fun hu h => ⟨_, next_when (by simp [h, State.aonOn, hu]), ?_⟩, fun hu h => ⟨_, next_when (by simp [h, State.aonOn, hu]), ?_⟩⟩
  · rw [stays]; exact ⟨rfl, rfl⟩
  · rw [stays]; exact ⟨rfl, rfl⟩
  · simp only [Bool.false_eq_true, if_false, stays, and_self]
  · simp only [if_true, stays, and_self]

/-- MAIN_PG goes false outside Flush: the fast domain goes off, and with no aux power the Always-On Domain too. -/
theorem exec_mainPgFalse_awake {s : State} (h : s.aon.mainPg = true) (ha : s.awake = true) (hf : s.mode.base ≠ .flush) :
    exec .mainPgFalse s = .next ((s.mainGone.enterDormant 12).auxCheck) := by
  refine (next_when h).trans ?_
  rcases State.awake_cases ha with hb | hb | hb | hb | hb
  case inr.inr.inr.inl => exact absurd hb hf
  all_goals simp only [hb]; rfl

theorem mainPgFalse_goes {s : State} (h : s.aon.mainPg = true) :
    (s.mode.base = .dormant ∨ s.mode.base = .unpowered → ∃ t, exec .mainPgFalse s = .next t ∧ t.aon.mainPg = false ∧ t.aon.holdNeedsPg = false ∧ t.mode = s.mode) ∧
    (s.awake = true → s.mode.base ≠ .flush → s.aon.auxOk = true →
      ∃ t, exec .mainPgFalse s = .next t ∧ t.mode.base = .dormant ∧ t.mode.lastCause = 12 ∧ t.tags = [] ∧ t.funcs = [] ∧ t.chans = [] ∧
        t.zones = s.zones ∧ t.nss = s.nss) ∧
    (s.awake = true → s.mode.base ≠ .flush → s.aon.auxOk = false → ∃ t, exec .mainPgFalse s = .next t ∧ t.mode.base = .unpowered ∧ t.regs = {}) := by
  refine ⟨fun hb => ⟨_, next_when h, ?_⟩, fun ha hf hx => ⟨_, exec_mainPgFalse_awake h ha hf, ?_⟩,
    fun ha hf hx => ⟨_, exec_mainPgFalse_awake h ha hf, ?_⟩⟩
  · rcases hb with hb | hb <;> simp only [hb, and_self]
  · exact State.enterDormant_powered (s := s.mainGone) hx 12
  · exact State.enterDormant_unpowered (s := s.mainGone) hx 12

/-- Settles O46. -/
theorem bringUpStarts : Obligations.BringUpStarts := by
  refine ⟨fun s h => auxPowerOn_comes h, fun s h => auxPowerLoss_goes h, fun s a k cause pin x hk ht hs hx => ?_,
    fun s h => bringUpConditions_noted h, fun s h => mainPgFalse_goes h⟩
  have test : (a.strapTest && ({ s with aon := a } : State).debugOpen) = false := by rw [hs]; exact ht
  exact ⟨_, exec_bringUpBegin hx, State.bringUpBegin_starts test hk cause⟩

end Sys2Proof
end

section
/-! SUPPORT. The fields, the shadows and the staging buffers of the dictionary (R36, R48), the bytes of a number (R35), and the commit of
a record up to its log record (R49). -/

namespace Sys2Proof.Machine

/-! ### The bytes of a number -/

theorem leBytes_length (k n : Nat) : (leBytes k n).length = k := by
  simp [leBytes]

theorem leBytes_succ (k n : Nat) : leBytes (k + 1) n = BitVec.ofNat 8 n :: leBytes k (n / 256) := by
  unfold leBytes
  rw [List.range_succ_eq_map, List.map_cons, List.map_map, Nat.pow_zero, Nat.div_one]
  refine congrArg (List.cons _) (List.map_congr_left fun i _ => ?_)
  rw [Function.comp_apply, Nat.pow_succ', Nat.div_div_eq_div_mul]

theorem fromLe_leBytes {k n : Nat} (h : n < 256 ^ k) : fromLe (leBytes k n) = n := by
  induction k generalizing n with
  | zero => simp only [Nat.pow_zero, Nat.lt_one_iff] at h; rw [h]; rfl
  | succ k ih =>
    rw [leBytes_succ, fromLe, ih (by rw [Nat.pow_succ] at h; omega), BitVec.toNat_ofNat]
    omega

/-- A number of its type's size is the value that its bytes hold. -/
theorem DEnt.decode_leBytes {e : DEnt} {n : Nat} (hs : e.ty ≠ .str) (hd : e.ty ≠ .domain) (hn : n < 256 ^ e.ty.size) :
    e.decode (leBytes e.ty.size n) = some (.num n) := by
  unfold DEnt.decode
  cases ht : e.ty with
  | str => exact absurd ht hs
  | domain => exact absurd ht hd
  | _ => simp only [leBytes_length, if_true, fromLe_leBytes (ht ▸ hn)]

/-! ### Fields -/

theorem mem_mergeFields {old new : List (Nat × Val)} {y : Nat × Val} (h : y ∈ new) : y ∈ mergeFields old new :=
  List.mem_append_right _ h

theorem mergeFields_nil (new : List (Nat × Val)) : mergeFields [] new = new := rfl

/-- A field just written is the one that is read. -/
theorem fieldIn_mergeFields {old new : List (Nat × Val)} {sub : Nat} {v : Val} (h : fieldIn new sub = some v) :
    fieldIn (mergeFields old new) sub = some v := by
  obtain ⟨y, hy, rfl⟩ := Option.map_eq_some_iff.mp h
  have hk : (y.1 == sub) = true := List.find?_some (p := fun x : Nat × Val => x.1 == sub) hy
  have gone : (old.filter (fun x => !(new.any (fun y => y.1 == x.1)))).find? (fun x => x.1 == sub) = none := by
    refine List.find?_eq_none.mpr fun x hx hs => ?_
    have hnew := (List.mem_filter.mp hx).2
    rw [Bool.not_eq_true', List.any_eq_false] at hnew
    exact hnew y (List.mem_of_find?_eq_some hy) (by rw [beq_iff_eq] at hk hs ⊢; rw [hk, hs])
  unfold fieldIn mergeFields
  rw [List.find?_append, gone, Option.none_or, hy]; rfl

theorem fieldIn_singleton (k : Nat) (v : Val) : fieldIn [(k, v)] k = some v := by
  simp [fieldIn]

/-! ### Shadows and staging buffers -/

/-- The fields that a record's shadow holds. -/
def State.shadowFields (s : State) (i : Nat) : List (Nat × Val) :=
  match s.shadow i with
  | some x => x.fields
  | none => []

/-- What is left of a list without a key has none of that key. -/
theorem find?_filter_key {α : Type} (l : List (Nat × α)) (i : Nat) : (l.filter (fun x => x.1 != i)).find? (fun x => x.1 == i) = none := by
  refine List.find?_eq_none.mpr fun x hx he => ?_
  have hne := (List.mem_filter.mp hx).2
  rw [bne, he] at hne
  exact Bool.false_ne_true hne

theorem State.shadowWrite_shadow (s : State) (sess i : Nat) (fs : List (Nat × Val)) :
    (s.shadowWrite sess i fs).shadow i = some ⟨sess, mergeFields (s.shadowFields i) fs, s.aon.now⟩ := by
  show ((s.dict.shadows.filter (fun x => x.1 != i) ++ [(i, (⟨sess, mergeFields (s.shadowFields i) fs, s.aon.now⟩ : Shadow))]).find?
    (fun x => x.1 == i)).map (fun x => x.2) = _
  rw [List.find?_append, find?_filter_key, Option.none_or, List.find?_singleton, beq_self_eq_true, if_pos rfl]
  rfl

/-- The first fields of a shadow are all that it holds. -/
theorem State.shadowWrite_shadow_first {s : State} {i : Nat} (h : s.shadow i = none) (sess : Nat) (fs : List (Nat × Val)) :
    (s.shadowWrite sess i fs).shadow i = some ⟨sess, fs, s.aon.now⟩ := by
  rw [s.shadowWrite_shadow, State.shadowFields, h, mergeFields_nil]

theorem State.dropShadow_shadow (s : State) (i : Nat) : (s.dropShadow i).shadow i = none := by
  exact congrArg (Option.map (fun x : Nat × Shadow => x.2)) (find?_filter_key s.dict.shadows i)

theorem State.dropShadow_shadow_ne (s : State) {i j : Nat} (h : j ≠ i) : (s.dropShadow i).shadow j = s.shadow j := by
  refine congrArg (Option.map _) ?_
  show (s.dict.shadows.filter (fun x => x.1 != i)).find? (fun x => x.1 == j) = _
  rw [List.find?_filter]
  refine congrArg (List.find? · s.dict.shadows) (funext fun x => ?_)
  by_cases e : x.1 = j
  · simp [e, h]
  · simp [e]

theorem State.shadowTaken_none {s : State} {i : Nat} (h : s.shadow i = none) (sess : Nat) : s.shadowTaken sess i = false := by
  unfold State.shadowTaken; rw [h]

/-- Without a staging buffer of the entry there is nothing to empty. -/
theorem State.stageDrop_none {s : State} {i sub : Nat} (h : s.stageOf i sub = none) : s.stageDrop i sub = s := by
  have all : s.dict.staging.filter (fun b => !(b.index == i && b.sub == sub)) = s.dict.staging := by
    refine List.filter_eq_self.mpr fun b hb => ?_
    have hno := List.find?_eq_none.mp h b hb
    rw [Bool.not_eq_true] at hno
    rw [hno]; rfl
  unfold State.stageDrop
  rw [all]

/-! ### A commit up to its log record -/

/-- The action that a commit of a record carries (R141). -/
def commitAction (i : Nat) (fs : List (Nat × Val)) : Nat :=
  match fieldIn fs 2 with
  | some (.num n) => if 0x3000 ≤ i ∧ i ≤ 0x3FFF then n else 0
  | _ => 0

/-- The log record of a commit. -/
def State.commitNor (s : State) (sess i : Nat) (fs : List (Nat × Val)) (path : Option DPath) (req : Nat) : NorOp :=
  ⟨s.dict.storeSeq + 1, i, 0xFF, fs, s.recordUnits i, sess, path, req, true, commitAction i fs⟩

section
variable {s : State} {sess i : Nat} {sh : Shadow}

theorem State.commitRec_clean (h : s.shadow i = none) (r : Role) (path : Option DPath) (req : Nat) :
    s.commitRec sess r i path req = (s.setResult sess 1 none, some (rOk, {})) := by
  unfold State.commitRec; rw [h]

theorem State.commitRec_rejected {r : Role} {k : Nat} {st : Status} (h : s.shadow i = some sh) (ho : sh.owner = sess)
    (hr : s.commitReason r i (s.committedFields i sh.fields) = some (k, st)) (path : Option DPath) (req : Nat) :
    s.commitRec sess r i path req = (s.setResult sess 2 (some k), some (rCommit, st)) := by
  unfold State.commitRec
  simp only [h, ho, ne_eq, not_true_eq_false, if_false, hr]

/-- A commit that no rule rejects is one append to the log. -/
theorem State.commitRec_sent {r : Role} (h : s.shadow i = some sh) (ho : sh.owner = sess)
    (hr : s.commitReason r i (s.committedFields i sh.fields) = none) (hs : s.storeRefuses (s.recordUnits i) = none)
    (path : Option DPath) (req : Nat) : ∃ t : State, s.commitRec sess r i path req = (t, none) ∧
      t.dict.appends = s.dict.appends ++ [s.commitNor sess i (s.committedFields i sh.fields) path req] ∧ t.dict.inForce = s.dict.inForce := by
  unfold State.commitRec
  simp only [h, ho, ne_eq, not_true_eq_false, if_false, hr, hs]
  refine ⟨_, rfl, ?_⟩
  split <;> exact ⟨rfl, rfl⟩

end

theorem mem_committedFields (s : State) (i : Nat) {fs : List (Nat × Val)} {y : Nat × Val} (h : y ∈ fs) : y ∈ s.committedFields i fs :=
  mem_mergeFields h

theorem commitAction_slice (s : State) {n action : Nat} {fs : List (Nat × Val)} (hn : n < 4096) (h : fieldIn fs 2 = some (.num action)) :
    commitAction (0x3000 + n) (s.committedFields (0x3000 + n) fs) = action := by
  have hf : fieldIn (s.committedFields (0x3000 + n) fs) 2 = some (.num action) := fieldIn_mergeFields h
  unfold commitAction
  rw [hf]
  exact if_pos ⟨by omega, by omega⟩

theorem State.setResult_sess (s : State) (sess result : Nat) (reason : Option Nat) : Tbl.get {} (s.setResult sess result reason).dict.sess sess =
    { Tbl.get {} s.dict.sess sess with result := result, reason := reason.getD (Tbl.get {} s.dict.sess sess).reason } :=
  Tbl.get_set_same ..

theorem State.setNamed_sess (s : State) (sess i : Nat) :
    Tbl.get {} (s.setNamed sess i).dict.sess sess = { Tbl.get {} s.dict.sess sess with index := i } := Tbl.get_set_same ..

end Sys2Proof.Machine
end

section
/-! SUPPORT. What a dictionary request does when it is performed (R35 to R37, R40, R41, R44, R45, R48 to R51, R58): one equation for
each operation and each class of entry. -/

namespace Sys2Proof.Machine

variable {s : State} {r : Role} {p : DPath} {f : DFrame}

/-! ### The operations that the mode does not refuse -/

theorem State.perform_read (h : f.op = 1) (hm : s.modeRefuses false f.index f.sub (fromLe f.value) (s.sessionOf p) = false) :
    s.perform r p f = (s, some (s.readOp r (s.sessionOf p) p f)) := by
  simp [State.perform, h, hm]

theorem State.perform_write (h : f.op = 2) (hm : s.modeRefuses true f.index f.sub (fromLe f.value) (s.sessionOf p) = false) :
    s.perform r p f = s.writeOp r (s.sessionOf p) p f := by
  simp [State.perform, h, hm]

theorem State.perform_readRecord (h : f.op = 3) (hm : s.modeRefuses false f.index f.sub (fromLe f.value) (s.sessionOf p) = false) :
    s.perform r p f = (s, some (s.readRecordOp r (s.sessionOf p) p f)) := by
  simp [State.perform, h, hm]

theorem State.perform_writeRecord (h : f.op = 4) (hm : s.modeRefuses true f.index f.sub (fromLe f.value) (s.sessionOf p) = false) :
    s.perform r p f = s.writeRecordOp r (s.sessionOf p) p f := by
  simp [State.perform, h, hm]

theorem State.perform_next (h : f.op = 5) (hm : s.modeRefuses false f.index f.sub (fromLe f.value) (s.sessionOf p) = false) :
    s.perform r p f = (s, some (s.nextOp r f.index)) := by
  simp [State.perform, h, hm]

/-- The modes in service refuse nothing (R41). -/
theorem State.modeRefuses_inService (h : s.inService = true) (write : Bool) (i sub named sess : Nat) :
    s.modeRefuses write i sub named sess = false := by
  unfold State.inService at h
  unfold State.modeRefuses
  cases hb : s.mode.base with
  | service => rfl
  | readOnly => rfl
  | maintenance => rfl
  | unpowered => simp [hb] at h
  | dormant => simp [hb] at h
  | bringUp => simp [hb] at h
  | flush => simp [hb] at h

/-! ### Reads -/

theorem State.readOp_denied {e : DEnt} (hi : s.indexRefused r f.index = none) (hs : f.sub ≠ 0) (he : dictEnt f.index f.sub = some e)
    (ha : e.acc.reads r = false) (sess : Nat) : s.readOp r sess p f = { result := rDenied } := by
  simp [State.readOp, hi, hs, he, ha]

theorem State.readOp_value {e : DEnt} (hi : s.indexRefused r f.index = none) (hs : f.sub ≠ 0) (he : dictEnt f.index f.sub = some e)
    (ha : e.acc.reads r = true) (hd : e.ty ≠ .domain) (sess : Nat) : s.readOp r sess p f =
      { ty := e.ty.code, value := e.encode (s.readVal sess f.index e).1, pending := (s.readVal sess f.index e).2 } := by
  simp [State.readOp, hi, hs, he, ha, hd]

/-- An index that is open, but not there or not reached. -/
theorem State.indexRefused_absent {i : Nat} (hc : s.indexClosed i = false) (h : dictExists i = false ∨ s.roleReaches r i = false) :
    s.indexRefused r i = some rNoIndex := by
  rcases h with h | h <;> simp [State.indexRefused, hc, h]

theorem State.readOp_refused {k : Nat} (hi : s.indexRefused r f.index = some k) (sess : Nat) : s.readOp r sess p f = { result := k } := by
  simp [State.readOp, hi]

theorem State.readRecordOp_value {sess : Nat} (hi : s.indexRefused r f.index = none)
    (ho : f.offset ≤ (s.packRecord sess r f.index).1.length) : s.readRecordOp r sess p f =
      { ty := 10, value := readSlice p f (s.packRecord sess r f.index).1, pending := (s.packRecord sess r f.index).2 } := by
  simp [State.readRecordOp, hi, Nat.not_lt.mpr ho]

/-- The value of a field that is not in force yet: of the last commit that waits, else of the shadow. -/
def State.waitingVal (s : State) (i sub : Nat) : Option Val :=
  ((s.pendingCommit i).bind (fun x => fieldIn x.fields sub)).or ((s.shadow i).bind (fun x => fieldIn x.fields sub))

/-- A Staged entry that the block does not report itself reads as the value that waits, else as the one in force. -/
theorem State.readVal_staged {i : Nat} {e : DEnt} (hi : i ≠ 0x1F00) (hn : ¬(0x7000 ≤ i ∧ i ≤ 0x701F ∧ e.sub = 0x12))
    (hv : s.statusVal i e.sub = none) (hc : e.cls = .staged) (sess : Nat) :
    s.readVal sess i e = ((s.waitingVal i e.sub).getD (s.cfgVal i e.sub), (s.waitingVal i e.sub).isSome) := by
  unfold State.readVal State.waitingVal
  rw [if_neg (fun h => hi h.1), if_neg hn, hv]
  cases hp : (s.pendingCommit i).bind (fun x => fieldIn x.fields e.sub) with
  | some v => simp [hc]
  | none => cases hs : (s.shadow i).bind (fun x => fieldIn x.fields e.sub) with
    | some v => simp [hc]
    | none => simp [hc]

/-- The index that follows is the first that the role reaches and reads an entry of. -/
def State.nextReads (s : State) (r : Role) (j : Nat) : Bool :=
  dictExists j && s.roleReaches r j && !s.indexClosed j && (dictRec j).any (fun e => e.acc.reads r)

theorem State.nextReads_iff {j : Nat} : s.nextReads r j = true ↔ dictExists j = true ∧ s.roleReaches r j = true ∧
    s.indexClosed j = false ∧ (dictRec j).any (fun e => e.acc.reads r) = true := by
  simp only [State.nextReads, Bool.and_eq_true, Bool.not_eq_true', and_assoc]

/-- A next index is read, and none before it is. -/
theorem State.nextOp_index {i : Nat} (h : (s.nextOp r i).result = 0) : i < (s.nextOp r i).index ∧ s.nextReads r (s.nextOp r i).index = true ∧
    ∀ j, i < j → j < (s.nextOp r i).index → s.nextReads r j = false := by
  have hop : s.nextOp r i = match (List.range' (i + 1) (65535 - i)).find? (s.nextReads r) with
    | some j => { index := j }
    | none => { result := rNoIndex } := rfl
  cases hf : (List.range' (i + 1) (65535 - i)).find? (s.nextReads r) with
  | none => rw [hop, hf] at h; exact absurd h (by decide)
  | some j =>
    rw [hf] at hop
    rw [hop]
    obtain ⟨hj, l, m, hlm, hl⟩ := List.find?_eq_some_iff_append.mp hf
    have hjm : j ∈ List.range' (i + 1) (65535 - i) := List.mem_of_find?_eq_some hf
    obtain ⟨hlo, hhi⟩ := List.mem_range'_1.mp hjm
    refine ⟨hlo, hj, fun k hik hkj => ?_⟩
    have hkm : k ∈ l ++ j :: m := hlm ▸ List.mem_range'_1.mpr ⟨hik, Nat.lt_trans hkj hhi⟩
    have sorted : (l ++ j :: m).Pairwise (· < ·) := hlm ▸ List.pairwise_lt_range'
    rcases List.mem_append.mp hkm with hk | hk
    · simpa using hl k hk
    · rcases List.mem_cons.mp hk with e | hk
      · exact absurd hkj (e ▸ Nat.lt_irrefl _)
      · have later := (List.pairwise_cons.mp (List.pairwise_append.mp sorted).2.1).1 k hk
        exact absurd hkj (Nat.lt_asymm later)

end Sys2Proof.Machine
end

section
/-! The statement about what a dictionary read answers. -/

namespace Sys2Proof

open Machine

/-- Settles O24. -/
theorem dictionaryReads : Obligations.DictionaryReads := by
  refine ⟨fun s r p f e hop hm hi hs he => ⟨fun ha => ?_, fun ha hd => ?_⟩, fun s sess i e hi hn hv hc => ⟨fun c v hp hf => ?_,
    fun sh v hp hsh hf => ?_, fun hp hsh => ?_⟩, fun s r p f hop hm hc h => ?_, fun s r p f a hop hm hperf hres => ?_,
    fun s r p f hop hm hi ho => ?_⟩
  · rw [State.perform_read hop hm, State.readOp_denied hi hs he ha]; rfl
  · rw [State.perform_read hop hm, State.readOp_value hi hs he ha hd]
  · simp [State.readVal_staged hi hn hv hc, State.waitingVal, hp, hf]
  · simp [State.readVal_staged hi hn hv hc, State.waitingVal, hp, hsh, hf]
  · simp [State.readVal_staged hi hn hv hc, State.waitingVal, hp, hsh]
  · rw [State.perform_read hop hm, State.readOp_refused (State.indexRefused_absent hc h)]; rfl
  · rw [State.perform_next hop hm] at hperf
    obtain rfl : s.nextOp r f.index = a := Option.some.inj (congrArg Prod.snd hperf)
    obtain ⟨hlt, hreads, hfirst⟩ := State.nextOp_index hres
    obtain ⟨hex, hreach, -, hany⟩ := State.nextReads_iff.mp hreads
    refine ⟨hlt, hex, hreach, hany, fun j hj hja ex reach closed => ?_⟩
    have no := hfirst j hj hja
    rw [State.nextReads, ex, reach, closed] at no
    exact no
  · rw [State.perform_readRecord hop hm, State.readRecordOp_value hi ho]

end Sys2Proof
end

section
/-! SUPPORT. What a changing dictionary request does when it is performed (R36, R37, R44, R45, R48 to R51): the checks of a value, the
classes of its fields, and the entries of 1F00h. -/

namespace Sys2Proof.Machine

variable {s : State} {r : Role} {p : DPath} {f : DFrame}

/-! ### A value for one entry -/

/-- What a write of a whole value asks of the role, the path and the entry. -/
structure WriteOpen (s : State) (r : Role) (p : DPath) (i sub : Nat) (e : DEnt) : Prop where
  open_ : s.indexRefused r i = none
  below : sub ≠ 0
  path : (i == 0x9001 && !DPath.inSpdm p) = false
  entry : dictEnt i sub = some e
  writes : e.acc.writes r = true
  whole : e.ty ≠ .domain

theorem State.writeOp_value {e : DEnt} (h : WriteOpen s r p f.index f.sub e) (ht : f.ty = e.ty.code) (sess : Nat) :
    s.writeOp r sess p f = s.writeValue r sess p f e f.value := by
  obtain ⟨hopen, hsub, hpath, hentry, hwrites, hwhole⟩ := h
  simp [State.writeOp, hopen, hsub, hpath, hentry, hwrites, ht, hwhole]

theorem State.writeValue_fields {e : DEnt} {v : Val} {data : List Byte} (hd : e.decode data = some v) (hv : s.valueOk f.index e v = true)
    (hi : f.index ≠ 0x1F00) (sess : Nat) :
    s.writeValue r sess p f e data = s.writeFields sess p f (logRecordUnits data.length) [(e, v)] := by
  simp [State.writeValue, hd, hv, hi]

theorem State.writeValue_range {e : DEnt} {v : Val} {data : List Byte} (hd : e.decode data = some v) (hv : s.valueOk f.index e v = false)
    (sess : Nat) : s.writeValue r sess p f e data = (s, some { result := rRange }) := by
  simp [State.writeValue, hd, hv]

/-! ### Fields of one class -/

/-- The subindices of fields, as a shadow and the log keep them. -/
def fieldPairs (l : List (DEnt × Val)) : List (Nat × Val) := l.map (fun x => (x.1.sub, x.2))

theorem mem_fieldPairs {l : List (DEnt × Val)} {x : DEnt × Val} (h : x ∈ l) : (x.1.sub, x.2) ∈ fieldPairs l :=
  List.mem_map_of_mem (f := fun x : DEnt × Val => (x.1.sub, x.2)) h

section
variable {l : List (DEnt × Val)} {sess units : Nat}

/-- Fields that are all Staged enter the shadow, unless another session owns it. -/
theorem State.writeFields_staged (h : ∀ x ∈ l, x.1.cls = .staged ∧ actsAtOnce f.index x.1.sub = false) (hl : l ≠ []) :
    s.writeFields sess p f units l =
      if s.shadowTaken sess f.index then (s, some { result := rShadowBusy })
      else (s.shadowWrite sess f.index (fieldPairs l), some {}) := by
  have staged : l.filter (fun x => x.1.cls == .staged) = l := List.filter_eq_self.mpr fun x hx => by rw [(h x hx).1]; rfl
  have acts : l.filter (fun x => actsAtOnce f.index x.1.sub) = [] := List.filter_eq_nil_iff.mpr fun x hx => by rw [(h x hx).2]; decide
  have kept : l.filter (fun x => x.1.cls != .staged && !x.1.vol && !actsAtOnce f.index x.1.sub) = [] :=
    List.filter_eq_nil_iff.mpr fun x hx => by rw [(h x hx).1]; simp
  have some_ : (l.map (fun x => (x.1.sub, x.2))).isEmpty = false := by cases l with
    | nil => exact absurd rfl hl
    | cons x l => rfl
  unfold State.writeFields
  dsimp only
  rw [staged, acts, kept]
  simp only [some_, List.map_nil]
  cases s.shadowTaken sess f.index <;> rfl

section
variable {e : DEnt} (v : Val) (hc : e.cls ≠ .staged)

/-- The log record of a persistent field that is not Staged. -/
def fieldNor (f : DFrame) (p : DPath) (sess units : Nat) (e : DEnt) (v : Val) : NorOp :=
  ⟨0, f.index, f.sub, [(e.sub, v)], units, sess, some p, f.reqId, false, 0⟩

include hc

theorem State.writeFields_kept_refused {k : Nat} (hv : e.vol = false) (ha : actsAtOnce f.index e.sub = false)
    (hs : s.storeRefuses units = some k) : s.writeFields sess p f units [(e, v)] = (s, some { result := k }) := by
  simp [State.writeFields, hc, hv, ha, hs]

theorem State.writeFields_kept (hv : e.vol = false) (ha : actsAtOnce f.index e.sub = false) (hs : s.storeRefuses units = none) :
    s.writeFields sess p f units [(e, v)] = (s.append (fieldNor f p sess units e v) true, none) := by
  simp [State.writeFields, hc, hv, ha, hs, fieldNor]

theorem State.writeFields_acts {k : Nat} (ha : actsAtOnce f.index e.sub = true) (hk : (s.actWrite f.index e.sub v).2 = some k) :
    s.writeFields sess p f units [(e, v)] = ((s.actWrite f.index e.sub v).1, some { result := k }) := by
  simp [State.writeFields, hc, ha, hk]

/-- An act that has no answer yet waits with the request for Maintenance. -/
theorem State.writeFields_waits {t : State} (ha : actsAtOnce f.index e.sub = true) (hk : s.actWrite f.index e.sub v = (t, none)) :
    s.writeFields sess p f units [(e, v)] =
      ({ t with mode := { t.mode with maintWaiters := t.mode.maintWaiters ++ [(p, f.reqId)] } }, none) := by
  simp [State.writeFields, hc, ha, hk]

end

end

/-- A write of a whole value of an entry that is checked. -/
theorem State.perform_write_field {e : DEnt} {v : Val} (hop : f.op = 2)
    (hm : s.modeRefuses true f.index f.sub (fromLe f.value) (s.sessionOf p) = false) (h : WriteOpen s r p f.index f.sub e)
    (ht : f.ty = e.ty.code) (hd : e.decode f.value = some v) (hv : s.valueOk f.index e v = true) (hi : f.index ≠ 0x1F00) :
    s.perform r p f = s.writeFields (s.sessionOf p) p f (logRecordUnits f.value.length) [(e, v)] := by
  rw [State.perform_write hop hm, State.writeOp_value h ht, State.writeValue_fields hd hv hi]

/-! ### A write of one number, as the rows that write one entry spell it -/

/-- A write of a number of an entry's type is its whole value. -/
theorem State.perform_writeFrame {i sub value : Nat} {e : DEnt} (h : WriteOpen s r p i sub e) (hn : value < 256 ^ e.ty.size)
    (hm : s.modeRefuses true i sub value (s.sessionOf p) = false) (req : Nat) :
    s.perform r p { writeFrame i sub e.ty.code e.ty.size value with reqId := req } =
      s.writeValue r (s.sessionOf p) p { writeFrame i sub e.ty.code e.ty.size value with reqId := req } e (leBytes e.ty.size value) := by
  rw [State.perform_write rfl (by show s.modeRefuses true i sub (fromLe (leBytes e.ty.size value)) _ = false; rw [fromLe_leBytes hn, hm])]
  exact State.writeOp_value h rfl _

/-! ### The entries of 1F00h (R51) -/

/-- The entry of a commit, of a discard and of a restore. -/
def commitEnt : DEnt := ⟨0x01, .u16, .mgrWtenW, 0, .any, .live, true⟩
def discardEnt : DEnt := ⟨0x02, .u16, .mgrWtenW, 0, .any, .live, true⟩
def restoreEnt : DEnt := ⟨0x05, .u16, .mgrW, 0, .any, .live, true⟩

/-- A manager and a maker write what managers write. -/
theorem writes_of_manager {a : DAcc} (hr : r = .manager ∨ r = .maker) (h : a.writes .manager = true) (hm : a.writes .maker = true) :
    a.writes r = true := by
  rcases hr with rfl | rfl
  · exact h
  · exact hm

theorem State.writeValue_commit {n : Nat} {data : List Byte} (hd : commitEnt.decode data = some (.num n)) (hi : f.index = 0x1F00) (hs : f.sub = 1)
    (sess : Nat) : s.writeValue r sess p f commitEnt data = s.commitOp r sess p f.reqId n := by
  have hv : s.valueOk 0x1F00 commitEnt (.num n) = true := rfl
  simp [State.writeValue, hd, hi, hs, hv, Val.nat]

theorem State.writeValue_discard {n : Nat} {data : List Byte} (hd : discardEnt.decode data = some (.num n)) (hi : f.index = 0x1F00) (hs : f.sub = 2)
    (sess : Nat) : s.writeValue r sess p f discardEnt data = s.discardOp r n := by
  have hv : s.valueOk 0x1F00 discardEnt (.num n) = true := rfl
  simp [State.writeValue, hd, hi, hs, hv, Val.nat]

theorem State.writeValue_restore {n : Nat} {data : List Byte} (hd : restoreEnt.decode data = some (.num n)) (hi : f.index = 0x1F00) (hs : f.sub = 5)
    (sess : Nat) : s.writeValue r sess p f restoreEnt data = s.restoreOp r sess p f n := by
  have hv : s.valueOk 0x1F00 restoreEnt (.num n) = true := rfl
  simp [State.writeValue, hd, hi, hs, hv, Val.nat]

section
variable {i req : Nat} (hi : i < 65536) (ho : s.indexRefused r 0x1F00 = none) (hr : r = .manager ∨ r = .maker)
include hi ho hr

theorem State.perform_commit (hm : s.modeRefuses true 0x1F00 1 i (s.sessionOf p) = false) :
    s.perform r p { writeFrame 0x1F00 1 3 2 i with reqId := req } = s.commitOp r (s.sessionOf p) p req i := by
  have hw : WriteOpen s r p 0x1F00 1 commitEnt :=
    ⟨ho, by decide, rfl, rfl, writes_of_manager hr rfl rfl, by decide⟩
  exact (State.perform_writeFrame hw hi hm req).trans
    (State.writeValue_commit (DEnt.decode_leBytes (by decide) (by decide) hi) rfl rfl _)

theorem State.perform_discard (hm : s.modeRefuses true 0x1F00 2 i (s.sessionOf p) = false) :
    s.perform r p { writeFrame 0x1F00 2 3 2 i with reqId := req } = s.discardOp r i := by
  have hw : WriteOpen s r p 0x1F00 2 discardEnt :=
    ⟨ho, by decide, rfl, rfl, writes_of_manager hr rfl rfl, by decide⟩
  exact (State.perform_writeFrame hw hi hm req).trans
    (State.writeValue_discard (DEnt.decode_leBytes (by decide) (by decide) hi) rfl rfl _)

theorem State.perform_restore (hm : s.modeRefuses true 0x1F00 5 i (s.sessionOf p) = false) :
    s.perform r p { writeFrame 0x1F00 5 3 2 i with reqId := req } =
      s.restoreOp r (s.sessionOf p) p { writeFrame 0x1F00 5 3 2 i with reqId := req } i := by
  have hw : WriteOpen s r p 0x1F00 5 restoreEnt :=
    ⟨ho, by decide, rfl, rfl, writes_of_manager hr rfl rfl, by decide⟩
  exact (State.perform_writeFrame hw hi hm req).trans
    (State.writeValue_restore (DEnt.decode_leBytes (by decide) (by decide) hi) rfl rfl _)

end

theorem State.commitOp_rec {i : Nat} (hi : s.indexRefused r i = none) (hr : r = .manager ∨ r = .maker)
    (hp : (i == 0x9001 && !DPath.inSpdm p) = false) (hd : dictStaged i = true) (sess req : Nat) :
    s.commitOp r sess p req i = (((s.setNamed sess i).commitRec sess r i (some p) req).1,
      ((s.setNamed sess i).commitRec sess r i (some p) req).2.map fun x => { result := x.1 }) := by
  unfold State.commitOp
  rcases hr with rfl | rfl <;> simp only [hi, hp, hd, Bool.not_true, Bool.false_or, if_false, Bool.false_eq_true] <;> split <;> simp_all

theorem State.discardOp_drop {i : Nat} (hi : s.indexRefused r i = none) (hr : r = .manager ∨ r = .maker) (hd : dictStaged i = true) :
    s.discardOp r i = (s.dropShadow i, some {}) := by
  unfold State.discardOp
  rcases hr with rfl | rfl <;> simp [hi, hd]

/-- A restore of everything asks for Maintenance. -/
theorem State.restoreOp_quiesced (h : s.mode.base ≠ .maintenance) (sess : Nat) :
    s.restoreOp r sess p f 0xFFFF = (s, some { result := 6 }) := by
  simp [State.restoreOp, h, rQuiesced]

theorem State.restoreOp_all (h : s.mode.base = .maintenance) (hs : s.storeRefuses (logRecordUnits (fieldsSize (s.restoreAll r))) = none)
    (sess : Nat) : s.restoreOp r sess p f 0xFFFF = (s.append ⟨0, 0xFFFF, 0xFF, s.restoreAll r,
      logRecordUnits (fieldsSize (s.restoreAll r)), sess, some p, f.reqId, false, 0⟩ true, none) := by
  simp [State.restoreOp, h, hs]

/-- In one frame without a staging buffer a record is whole. -/
theorem State.writeRecordOp_whole {l : List (DEnt × Val)} {sess : Nat} (hi : s.indexRefused r f.index = none) (hn : f.index ≠ 0x1F00)
    (hp : (f.index == 0x9001 && !DPath.inSpdm p) = false) (hw : (dictRec f.index).any (fun e => e.acc.writes r) = true)
    (ht : s.shadowTaken sess f.index = false) (hb : s.stageOf f.index 0xFF = none) (hz : f.offset = 0) (hf : f.final = true)
    (hl : s.packedFields r f.index f.value = .ok l) : s.writeRecordOp r sess p f =
      s.writeFields sess p { f with sub := 0xFF } (s.recordUnits f.index) l := by
  have hseg : s.segment sess { f with sub := 0xFF, final := true } = (s, .ok (some f.value)) := by
    simp [State.segment, hb, hz, State.stageDrop_none hb]
  unfold State.writeRecordOp
  rw [hf, Bool.true_or]
  dsimp only
  rw [hi, hw, hp, ht, hseg]
  dsimp only
  rw [hl, beq_eq_false_iff_ne.mpr hn, Bool.and_false]
  rfl

/-! ### Entries whose write acts at once (R387, R440, R457, R458) -/

/-- An entry of one number that a manager writes and whose write acts at once. -/
structure OnceEnt (i : Nat) (e : DEnt) : Prop where
  entry : dictEnt i e.sub = some e
  below : e.sub ≠ 0
  acts : actsAtOnce i e.sub = true
  live : e.cls ≠ .staged
  number : e.ty ≠ .str ∧ e.ty ≠ .domain
  writes : e.acc.writes .manager = true ∧ e.acc.writes .maker = true
  known : dictExists i = true
  block : i ≠ 0x1F00 ∧ i ≠ 0x9001 ∧ i < 0xF000

def ackEnt : DEnt := ⟨3, .u64, .mgrW, 0, .any, .live, true⟩
def timeEnt : DEnt := ⟨1, .u64, .mgrWmonR, 0, .any, .live, true⟩
def minSvnEnt : DEnt := ⟨7, .u8, .mgrWmonR, 0, .any, .live, false⟩
def maintEnt : DEnt := ⟨5, .bool, .mgrW, 0, .any, .live, true⟩

theorem ackEnt_once : OnceEnt 0xA000 ackEnt := ⟨rfl, by decide, rfl, by decide, by decide, ⟨rfl, rfl⟩, rfl, by decide⟩
theorem timeEnt_once : OnceEnt 0xA001 timeEnt := ⟨rfl, by decide, rfl, by decide, by decide, ⟨rfl, rfl⟩, rfl, by decide⟩
theorem minSvnEnt_once : OnceEnt 0x9100 minSvnEnt := ⟨rfl, by decide, rfl, by decide, by decide, ⟨rfl, rfl⟩, rfl, by decide⟩
theorem maintEnt_once : OnceEnt 0x8000 maintEnt := ⟨rfl, by decide, rfl, by decide, by decide, ⟨rfl, rfl⟩, rfl, by decide⟩

/-- A manager reaches every index of its block while the part is not scrapped. -/
theorem State.indexRefused_manager {i : Nat} (hr : r = .manager ∨ r = .maker) (hl : s.lifecycle ≠ 5) (hx : dictExists i = true)
    (hi : i < 0xF000) : s.indexRefused r i = none := by
  have reach : s.roleReaches r i = true := by rcases hr with rfl | rfl <;> rfl
  simp [State.indexRefused, State.indexClosed, hl, hx, reach, Nat.not_le.mpr hi]

section
variable {i v : Nat} {e : DEnt} (he : OnceEnt i e) (hr : r = .manager ∨ r = .maker) (hs : s.inService = true) (hl : s.lifecycle ≠ 5)
  (hv : v < 256 ^ e.ty.size) (req : Nat)
include he hr hs hl hv

theorem State.perform_once_value : s.perform r p { writeFrame i e.sub e.ty.code e.ty.size v with reqId := req } =
    s.writeValue r (s.sessionOf p) p { writeFrame i e.sub e.ty.code e.ty.size v with reqId := req } e (leBytes e.ty.size v) := by
  have hw : WriteOpen s r p i e.sub e := ⟨State.indexRefused_manager hr hl he.known he.block.2.2, he.below,
    by rw [beq_eq_false_iff_ne.mpr he.block.2.1, Bool.false_and], he.entry, writes_of_manager hr he.writes.1 he.writes.2, he.number.2⟩
  exact State.perform_writeFrame hw hv (State.modeRefuses_inService hs ..) req

theorem State.perform_once_range (ho : s.valueOk i e (.num v) = false) :
    s.perform r p { writeFrame i e.sub e.ty.code e.ty.size v with reqId := req } = (s, some { result := 5 }) :=
  (State.perform_once_value he hr hs hl hv req).trans
    (State.writeValue_range (DEnt.decode_leBytes he.number.1 he.number.2 hv) ho _)

variable (ho : s.valueOk i e (.num v) = true)
include ho

theorem State.perform_once_fields : s.perform r p { writeFrame i e.sub e.ty.code e.ty.size v with reqId := req } =
    s.writeFields (s.sessionOf p) p { writeFrame i e.sub e.ty.code e.ty.size v with reqId := req }
      (logRecordUnits (leBytes e.ty.size v).length) [(e, .num v)] :=
  (State.perform_once_value he hr hs hl hv req).trans
    (State.writeValue_fields (DEnt.decode_leBytes he.number.1 he.number.2 hv) ho he.block.1 _)

theorem State.perform_once {t : State} (hk : s.actWrite i e.sub (.num v) = (t, some rOk)) :
    s.perform r p { writeFrame i e.sub e.ty.code e.ty.size v with reqId := req } = (t, some {}) := by
  rw [State.perform_once_fields he hr hs hl hv req ho, State.writeFields_acts (k := rOk) _ he.live he.acts (by exact congrArg Prod.snd hk)]
  exact congrArg (fun x => (x, _)) (congrArg Prod.fst hk)

theorem State.perform_once_waits {t : State} (hk : s.actWrite i e.sub (.num v) = (t, none)) :
    s.perform r p { writeFrame i e.sub e.ty.code e.ty.size v with reqId := req } =
      ({ t with mode := { t.mode with maintWaiters := t.mode.maintWaiters ++ [(p, req)] } }, none) :=
  (State.perform_once_fields he hr hs hl hv req ho).trans (State.writeFields_waits _ he.live he.acts hk)

end

theorem State.maintBegin_maintReq (s : State) : s.maintBegin.mode.maintReq = s.mode.maintReq := by
  unfold State.maintBegin; split <;> rfl

/-- In Service a request for Maintenance waits for the entry (R387). -/
theorem State.maintRequest_service (h : s.mode.base = .service) : ∃ t : State, s.maintRequest true = (t, none) ∧ t.mode.maintReq = true := by
  refine ⟨_, ?_, (({ s with mode := { s.mode with maintReq := true } } : State).maintSet 0 true).maintBegin_maintReq⟩
  simp [State.maintRequest, h]

end Sys2Proof.Machine
end

section
/-! The statement about what a changing dictionary request does. -/

namespace Sys2Proof

open Machine

/-- Settles O25. -/
theorem dictionaryWrites : Obligations.DictionaryWrites := by
  refine ⟨fun s r p f e v hop hm hi hs hn hp he hw ht hd hdec hok hc ha => ?_,
    fun s r p f e v hop hm hi hs hn hp he hw ht hd hdec hok hc hvol ha => ?_,
    fun s r p f l hop hm hi hn hp hw hfree hb hz hf hl hc hne => ?_,
    fun s w r p req i hlt hm ho hi hr hp hd hw => ?_, fun s r p req i hlt hm ho hi hr hd => ?_,
    fun s r p req hr ho => ⟨fun hb => ?_, fun hb hroom => ?_⟩, fun s r p req v hr hs hl hv => ⟨fun h => ?_, fun h => ?_, ?_, fun x hx hb hlo hhi => ?_,
      fun h hb => ?_, fun h => ?_⟩⟩
  · have hperf := State.perform_write_field hop hm ⟨hi, hs, hp, he, hw, hd⟩ ht hdec hok hn
    have hst := State.writeFields_staged (s := s) (p := p) (sess := s.sessionOf p) (units := logRecordUnits f.value.length)
      (f := f) (l := [(e, v)]) (fun x hx => by obtain rfl := List.mem_singleton.mp hx; exact ⟨hc, ha⟩) (List.cons_ne_nil _ _)
    refine ⟨fun h => ?_, fun h => ⟨_, _, ?_, State.shadowWrite_shadow .., rfl, rfl,
      fieldIn_mergeFields (fieldIn_singleton e.sub v), rfl, rfl⟩⟩
    · rw [hperf, hst, if_pos h]; rfl
    · rw [hperf, hst, h]; rfl
  · have hperf := State.perform_write_field hop hm ⟨hi, hs, hp, he, hw, hd⟩ ht hdec hok hn
    refine ⟨fun h => ?_, fun k h => ?_, fun h => ⟨_, _, hperf.trans (State.writeFields_kept v hc hvol ha h), rfl, rfl, rfl, rfl, rfl, rfl, rfl⟩⟩
    · exact hperf.trans (State.writeFields_kept_refused v hc hvol ha (by simp [State.storeRefuses, h, rStore]))
    · exact hperf.trans (State.writeFields_kept_refused v hc hvol ha h)
  · have hperf : s.perform r p f = s.writeFields (s.sessionOf p) p { f with sub := 0xFF } (s.recordUnits f.index) l := by
      rw [State.perform_writeRecord hop hm, State.writeRecordOp_whole hi hn hp hw hfree hb hz hf hl]
    refine ⟨s.shadowWrite (s.sessionOf p) f.index (fieldPairs l), _, ?_, State.shadowWrite_shadow .., rfl,
      fun x hx => mem_mergeFields (mem_fieldPairs hx), rfl⟩
    have hst := State.writeFields_staged (s := s) (p := p) (f := { f with sub := 0xFF }) (sess := s.sessionOf p)
      (units := s.recordUnits f.index) hc hne
    dsimp only at hst
    rw [hperf, hst, hfree]; rfl
  · have hperf := (State.perform_commit hlt ho hr hm (req := req)).trans (State.commitOp_rec hi hr hp hd (s.sessionOf p) req)
    rw [← hw] at hperf
    have hsh : w.shadow i = s.shadow i := hw ▸ rfl
    have hdict : w.dict.appends = s.dict.appends ∧ w.dict.inForce = s.dict.inForce := hw ▸ ⟨rfl, rfl⟩
    have hix : (Tbl.get {} w.dict.sess (s.sessionOf p)).index = i := by rw [hw, State.setNamed_sess]
    refine ⟨fun h => ?_, fun sh k st h hown hk => ?_, fun sh h hown hk hroom => ?_⟩
    · rw [State.commitRec_clean (hsh.trans h)] at hperf
      refine ⟨_, hperf, ?_, ?_, hdict.1⟩
      · rw [State.setResult_sess]
      · rw [State.setResult_sess]; exact hix
    · rw [State.commitRec_rejected (hsh.trans h) hown hk] at hperf
      refine ⟨_, hperf, ?_, ?_, hsh.trans h⟩
      · rw [State.setResult_sess]
      · rw [State.setResult_sess]; rfl
    · obtain ⟨t, ht, happ, hforce⟩ := State.commitRec_sent (hsh.trans h) hown hk hroom (some p) req
      rw [ht] at hperf
      exact ⟨t, _, hperf, hdict.1 ▸ happ, rfl, rfl, rfl, rfl, rfl, hforce.trans hdict.2⟩
  · exact ⟨_, (State.perform_discard hlt ho hr hm).trans (State.discardOp_drop hi hr hd), s.dropShadow_shadow i,
      fun j hj => s.dropShadow_shadow_ne hj, rfl⟩
  · have hm := State.modeRefuses_inService (s := s) (by simp [State.inService, hb]) true 0x1F00 5 0xFFFF (s.sessionOf p)
    rw [State.perform_restore (by decide) ho hr hm]
    exact State.restoreOp_quiesced (by rw [hb]; decide) _
  · have hm := State.modeRefuses_inService (s := s) (by simp [State.inService, hb]) true 0x1F00 5 0xFFFF (s.sessionOf p)
    exact ⟨_, _, (State.perform_restore (by decide) ho hr hm).trans (State.restoreOp_all hb hroom _), rfl, rfl⟩
  · exact ⟨_, State.perform_once ackEnt_once hr hs hl hv req
      (by simp [State.valueOk, State.inRange, State.rangeNow, ackEnt, Val.nat, h]) rfl, rfl⟩
  · exact State.perform_once_range ackEnt_once hr hs hl hv req
      (by simp [State.valueOk, State.inRange, State.rangeNow, ackEnt, Val.nat, Nat.not_le.mpr h])
  · exact ⟨_, State.perform_once timeEnt_once hr hs hl hv req
      (by simp [State.valueOk, State.inRange, State.rangeNow, timeEnt]) rfl, Nat.mod_eq_of_lt hv, rfl⟩
  · exact ⟨_, State.perform_once minSvnEnt_once hr hs hl (Nat.lt_succ_of_le hb) req
      (by simp [State.valueOk, State.inRange, State.rangeNow, minSvnEnt, Val.nat, hx, hlo, hhi]) rfl, rfl⟩
  · exact State.perform_once_range minSvnEnt_once hr hs hl (Nat.lt_succ_of_le hb) req
      (by simp [State.valueOk, State.inRange, State.rangeNow, minSvnEnt, Val.nat, Nat.not_le.mpr h])
  · obtain ⟨t, ht, hreq⟩ := State.maintRequest_service h
    exact ⟨_, State.perform_once_waits maintEnt_once hr hs hl (v := 1) (by decide) req
      (by simp [State.valueOk, State.inRange, State.rangeNow, maintEnt]) (by simpa [State.actWrite, Val.nat] using ht), hreq,
      List.mem_append_right _ (List.mem_singleton.mpr rfl)⟩

end Sys2Proof
end

section
/-! SUPPORT. The slice commands of the admin queue (R137, R142, R143): the commit that each sends, and the flush of the dirty-page log
(R157, R158). -/

namespace Sys2Proof.Machine

variable {s : State} {tag n : Nat}

/-- A command in BUILD has not reached its commit point. -/
theorem State.adm_uncommitted {op : Nat} (h : s.adm tag op = true) : (s.tag tag).st.uncommitted = true := by
  unfold State.adm at h
  simp only [Bool.and_eq_true, decide_eq_true_eq] at h
  rw [h.1.1.2]; rfl

theorem Chg.slice_eq {m : Nat} {t : State} (h : Chg m s t) (hm : m.testBit 16 = false) (k : Nat) : t.slice k = s.slice k := by
  unfold State.slice; rw [h.slices hm]

/-! ### The commit of a slice command -/

section
variable {action : Nat} {fs : List (Nat × Val)}

/-- The state in which a slice command commits: its fields and its action are in the shadow. -/
def State.sliceWrite (s : State) (tag n : Nat) (fs : List (Nat × Val)) (action : Nat) : State :=
  s.shadowWrite (s.sessionOf (.admin tag)) (0x3000 + n) (fs ++ [(2, .num action)])

/-- The fields that a slice command commits. -/
def State.sliceFields (s : State) (tag n : Nat) (fs : List (Nat × Val)) (action : Nat) : List (Nat × Val) :=
  (s.sliceWrite tag n fs action).committedFields (0x3000 + n) (fs ++ [(2, .num action)])

theorem State.sliceWrite_shadow (h : s.shadow (0x3000 + n) = none) : (s.sliceWrite tag n fs action).shadow (0x3000 + n) =
    some ⟨s.sessionOf (.admin tag), fs ++ [(2, .num action)], s.aon.now⟩ :=
  State.shadowWrite_shadow_first h _ _

/-- A slice command that no rule rejects waits for its log record. -/
theorem State.sliceCommit_sent (h : s.shadow (0x3000 + n) = none)
    (hr : (s.sliceWrite tag n fs action).commitReason (s.roleOf (.admin tag)) (0x3000 + n) (s.sliceFields tag n fs action) = none)
    (hs : (s.sliceWrite tag n fs action).storeRefuses ((s.sliceWrite tag n fs action).recordUnits (0x3000 + n)) = none) :
    ((s.sliceCommit tag n fs action).tag tag).st = .run ∧ (s.sliceCommit tag n fs action).slices = s.slices ∧
      (s.sliceCommit tag n fs action).dict.appends = s.dict.appends ++ [(s.sliceWrite tag n fs action).commitNor
        (s.sessionOf (.admin tag)) (0x3000 + n) (s.sliceFields tag n fs action) (some (.admin tag)) (s.tag tag).order] := by
  obtain ⟨t, ht, happ, -⟩ := State.commitRec_sent (State.sliceWrite_shadow h) rfl hr hs (some (.admin tag)) (s.tag tag).order
  have kept := (s.sliceWrite tag n fs action).commitRec_chg (s.sessionOf (.admin tag)) (s.roleOf (.admin tag)) (0x3000 + n)
    (some (.admin tag)) (s.tag tag).order
  have hc : s.sliceCommit tag n fs action = t.setTag tag { t.tag tag with built := true, st := .run } := by
    unfold State.sliceCommit
    simp only [State.shadowTaken_none h, Bool.false_eq_true, if_false]
    unfold State.sliceWrite at ht
    rw [ht]
  rw [ht] at kept
  rw [hc]
  exact ⟨by rw [State.setTag_tag], kept.slices rfl, happ⟩

/-- A slice command that a rule rejects ends with the status of that rule. -/
theorem State.sliceCommit_rejected {k : Nat} {st : Status} (hu : (s.tag tag).st.uncommitted = true) (h : s.shadow (0x3000 + n) = none)
    (hr : (s.sliceWrite tag n fs action).commitReason (s.roleOf (.admin tag)) (0x3000 + n) (s.sliceFields tag n fs action) =
      some (k, st)) :
    Posts (s.sliceCommit tag n fs action) tag st ∧ (s.sliceCommit tag n fs action).dict.appends = s.dict.appends ∧
      (s.sliceCommit tag n fs action).slices = s.slices := by
  have ht := State.commitRec_rejected (State.sliceWrite_shadow h) rfl hr (some (.admin tag)) (s.tag tag).order
  have hc : s.sliceCommit tag n fs action =
      ((s.sliceWrite tag n fs action).setResult (s.sessionOf (.admin tag)) 2 (some k)).commitTag tag st := by
    unfold State.sliceCommit
    simp only [State.shadowTaken_none h, Bool.false_eq_true, if_false]
    unfold State.sliceWrite at ht
    rw [ht]; rfl
  have kept := ((s.sliceWrite tag n fs action).setResult (s.sessionOf (.admin tag)) 2 (some k)).commitTag_chg tag st 0 0
  have posts := State.commitTag_posts (s := (s.sliceWrite tag n fs action).setResult (s.sessionOf (.admin tag)) 2 (some k)) hu st 0 0
  have dict := congrArg Dict.appends (kept.dict rfl)
  rw [hc]
  exact ⟨posts.1, dict, kept.slices rfl⟩

/-- A record that another session's shadow holds refuses the command. -/
theorem State.sliceCommit_taken (h : s.shadowTaken (s.sessionOf (.admin tag)) (0x3000 + n) = true) :
    s.sliceCommit tag n fs action = s.commitTag tag ⟨7, 0x87⟩ :=
  if_pos h

/-- A slice command of a packed record commits its fields. -/
theorem State.sliceCommand_packed {data : List Byte} {sel : Nat → Bool}
    (hd : s.dptrStatus (s.qfunc (s.tag tag).q).1 (s.qfunc (s.tag tag).q).2 data.length (s.tag tag).sqe = none)
    (hp : s.slicePacked data sel = .ok fs) : s.sliceCommand tag n data sel action = s.sliceCommit tag n fs action := by
  unfold State.sliceCommand
  dsimp only
  rw [hd]
  dsimp only
  rw [hp]

end

/-! ### The flush of the dirty-page log -/

theorem State.dirtyPostAll_dirty (s : State) (n : Nat) : ∀ d ∈ (s.dirtyPostAll n).dirty, d.slice ≠ n := fun _ hd =>
  bne_iff_ne.mp (List.mem_filter.mp hd).2

/-- The header of a closed buffer changes neither the number of the flush nor the active buffer. -/
theorem State.dlogClose_slice (s : State) (n : Nat) : ((s.dlogClose n).slice n).dlogMark = (s.slice n).dlogMark ∧
    ((s.dlogClose n).slice n).dlogActiveB = (s.slice n).dlogActiveB := by
  unfold State.dlogClose
  dsimp only
  split <;> rw [State.setSlice_slice] <;> exact ⟨rfl, rfl⟩

/-- A flush counts itself, swaps the buffers and leaves no gathered word of the slice. -/
theorem State.dlogFlush_slice (s : State) (n : Nat) : ((s.dlogFlush n).slice n).dlogMark = ((s.slice n).dlogMark + 1) % 2 ^ 32 ∧
    ((s.dlogFlush n).slice n).dlogActiveB = !(s.slice n).dlogActiveB ∧ ∀ d ∈ (s.dlogFlush n).dirty, d.slice ≠ n := by
  have posted : (s.dirtyPostAll n).slice n = s.slice n := (s.dirtyPostAll_chg n).slice_eq rfl n
  obtain ⟨hmark, hact⟩ := ((s.dirtyPostAll n).setSlice n { (s.dirtyPostAll n).slice n with
    dlogMark := (((s.dirtyPostAll n).slice n).dlogMark + 1) % 2 ^ 32 }).dlogClose_slice n
  rw [State.setSlice_slice] at hmark hact
  refine ⟨?_, ?_, ?_⟩
  · unfold State.dlogFlush
    rw [State.setSlice_slice, ← posted]
    exact hmark
  · unfold State.dlogFlush
    rw [State.setSlice_slice, ← posted]
    exact congrArg not hact
  · have kept : (s.dlogFlush n).dirty = (s.dirtyPostAll n).dirty :=
      (State.dlogClose_chg _ n).dirty rfl
    rw [kept]
    exact s.dirtyPostAll_dirty n

end Sys2Proof.Machine
end

section
/-! The statement about the slice commands of the admin queue. -/

namespace Sys2Proof

open Machine

/-- A slice command without data is one commit of its action. -/
theorem exec_slice_action {s : State} {tag n op action : Nat} {x : Instr} (ha : s.adm tag op = true)
    (hx : (op = 0xC2 ∧ action = 4 ∧ x = .sliceReset tag ∧ n = (if (s.tag tag).manager then Sqe.slice (s.tag tag).sqe else s.owner (s.tag tag).q)) ∨
      (op = 0xC1 ∧ Sqe.unbind (s.tag tag).sqe = true ∧ action = 3 ∧ x = .sliceUnbind tag ∧ n = Sqe.slice (s.tag tag).sqe) ∨
      (op = 0xC3 ∧ action = 5 ∧ x = .sliceDestroy tag ∧ n = Sqe.slice (s.tag tag).sqe)) :
    exec x s = .next (s.sliceCommit tag n [] action) := by
  rcases hx with ⟨rfl, rfl, rfl, rfl⟩ | ⟨rfl, hu, rfl, rfl, rfl⟩ | ⟨rfl, rfl, rfl, rfl⟩
  · exact next_when ha
  · exact next_when (by rw [ha, hu]; rfl)
  · exact next_when ha

/-- A slice command with data is a commit of its packed record. -/
theorem exec_slice_packed {s : State} {tag n op action : Nat} {x : Instr} {data : List Byte} {sel : Nat → Bool} (ha : s.adm tag op = true)
    (hn : n = Sqe.slice (s.tag tag).sqe)
    (hx : (op = 0xC0 ∧ action = 1 ∧ Sqe.anySlice (s.tag tag).sqe = false ∧ x = .sliceCreate tag data ∧ sel = (fun _ => true)) ∨
      (op = 0xC1 ∧ Sqe.unbind (s.tag tag).sqe = false ∧ action = 2 ∧ x = .sliceBind tag data ∧ sel = (fun _ => true)) ∨
      (op = 0xC4 ∧ action = 0 ∧ x = .dirtyLogControl tag data ∧ sel = (fun k => decide (0x20 ≤ k) && decide (k ≤ 0x24)))) :
    exec x s = .next (s.sliceCommand tag n data sel action) := by
  subst hn
  rcases hx with ⟨rfl, rfl, hu, rfl, rfl⟩ | ⟨rfl, hu, rfl, rfl, rfl⟩ | ⟨rfl, rfl, rfl, rfl⟩
  · refine (next_when ha).trans ?_
    dsimp only
    rw [hu]; rfl
  · exact next_when (by rw [ha, hu]; rfl)
  · exact next_when ha

/-- A flush of an enabled log of a Bound slice answers the number of the flush. -/
theorem exec_dirtyLogFlush {s : State} {tag : Nat} (ha : s.adm tag 0xC5 = true) (hon : s.cfgB (0x3000 + Sqe.slice (s.tag tag).sqe) 0x20 = true)
    (hb : (s.slice (Sqe.slice (s.tag tag).sqe)).st = .bound) : exec (.dirtyLogFlush tag) s =
      .next ((s.dlogFlush (Sqe.slice (s.tag tag).sqe)).commitTag tag ⟨0, 0⟩
        ((s.dlogFlush (Sqe.slice (s.tag tag).sqe)).slice (Sqe.slice (s.tag tag).sqe)).dlogMark 0) := by
  refine (next_when ha).trans ?_
  dsimp only
  rw [hon, hb]; rfl

/-- Settles O20. -/
theorem sliceCommands : Obligations.SliceCommands := by
  refine ⟨fun s u tag n op action x hn ha hx hsh hu => ?_, fun s u tag n op action x data sel fs ha hn hx hd hp hsh hu hr hs => ?_,
    fun s tag ha ht => ?_, fun s tag n ha hn hon hb => ?_, fun s tag n ha hn hoff => ?_⟩
  · obtain rfl : u = s.sliceWrite tag n [] action := hu
    refine ⟨fun hr hs => ?_, fun k st hr => ?_⟩
    · obtain ⟨hrun, hsl, happ⟩ := State.sliceCommit_sent hsh hr hs
      exact ⟨_, _, exec_slice_action ha hx, hrun, happ, rfl, rfl, commitAction_slice _ hn (fieldIn_singleton 2 _), rfl, hsl⟩
    · exact ⟨_, exec_slice_action ha hx, State.sliceCommit_rejected (State.adm_uncommitted ha) hsh hr⟩
  · obtain rfl : u = s.sliceWrite tag n fs action := hu
    obtain ⟨hrun, hsl, happ⟩ := State.sliceCommit_sent hsh hr hs
    exact ⟨_, _, (exec_slice_packed ha hn hx).trans (congrArg Host.Outcome.next (State.sliceCommand_packed hd hp)), hrun, happ, rfl, rfl, rfl,
      fun y hy _ => mem_committedFields _ _ (List.mem_append_left _ hy), hsl⟩
  · refine ⟨s.commitTag tag ⟨7, 0x87⟩, ?_, (State.commitTag_posts (State.adm_uncommitted ha) _ 0 0).1, (s.commitTag_chg ..).dict rfl⟩
    exact (exec_slice_action (n := Sqe.slice (s.tag tag).sqe) ha (.inr (.inr ⟨rfl, rfl, rfl, rfl⟩))).trans
      (congrArg Host.Outcome.next (State.sliceCommit_taken ht))
  · subst hn
    have hu : ((s.dlogFlush (Sqe.slice (s.tag tag).sqe)).tag tag).st.uncommitted = true := by
      rw [(s.dlogFlush_chg _).tag_eq rfl]; exact State.adm_uncommitted ha
    obtain ⟨hmark, hact, hdirty⟩ := s.dlogFlush_slice (Sqe.slice (s.tag tag).sqe)
    have posts := State.commitTag_posts hu ⟨0, 0⟩ ((s.dlogFlush (Sqe.slice (s.tag tag).sqe)).slice (Sqe.slice (s.tag tag).sqe)).dlogMark 0
    have kept := State.commitTag_chg (s.dlogFlush (Sqe.slice (s.tag tag).sqe)) tag ⟨0, 0⟩
      ((s.dlogFlush (Sqe.slice (s.tag tag).sqe)).slice (Sqe.slice (s.tag tag).sqe)).dlogMark 0
    refine ⟨_, (exec_dirtyLogFlush ha hon hb), posts.1, posts.2.trans hmark, ?_, ?_, fun d hd => hdirty d ?_⟩
    · rw [kept.slice_eq rfl]; exact hact
    · rw [kept.slice_eq rfl]; exact hmark
    · rw [← kept.dirty rfl]; exact hd
  · subst hn
    refine ⟨s.commitTag tag ⟨7, 0x94⟩, (next_when ha).trans ?_, (State.commitTag_posts (State.adm_uncommitted ha) _ 0 0).1,
      (s.commitTag_chg ..).slices rfl, (s.commitTag_chg ..).dirty rfl⟩
    dsimp only
    rw [hoff]; rfl

end Sys2Proof
end

section
/-! SUPPORT. The paths of a dictionary request (R39, R58 to R62): what an answer leaves on its path, what a served request comes to, and
the rows that carry one request. -/

namespace Sys2Proof.Machine

variable {s : State} {p : DPath} {f : DFrame} {a : Ans}

/-! ### An answer on its path (R59 to R62) -/

theorem State.deliver_tag (s : State) (t k : Nat) (data : List Byte) : (s.deliver t data).tag k = s.tag k :=
  (s.deliver_chg t data).tag_eq rfl k

theorem State.pathLive_uncommitted {t req : Nat} (h : s.pathLive (.admin t) req = true) : (s.tag t).st.uncommitted = true := by
  unfold State.pathLive at h
  exact (Bool.and_eq_true_iff.mp (Bool.and_eq_true_iff.mp h).1).2

/-- In band the answer completes the command. -/
theorem State.answer_admin {t : Nat} (h : s.pathLive (.admin t) f.reqId = true) :
    Posts (s.answer (.admin t) f a) t (if a.result = 0 then ⟨0, 0⟩ else ⟨7, 0x80 + a.result⟩) := by
  have live := State.pathLive_uncommitted h
  unfold State.answer
  simp only [h, Bool.not_true, Bool.false_eq_true, if_false]
  by_cases hr : a.result = 0
  · simp only [hr, ne_eq, not_true_eq_false, if_false, if_true]
    split
    · exact (State.commitTag_posts (by rw [State.deliver_tag]; exact live) _ _ _).1
    · exact (State.commitTag_posts live _ _ _).1
    · exact (State.commitTag_posts live _ _ _).1
    · exact (State.commitTag_posts live _ _ _).1
  · simp only [hr, ne_eq, not_false_eq_true, if_true, if_false]
    exact (State.commitTag_posts live _ _ _).1

theorem State.answer_mailbox {q : Nat} (h : s.pathLive (.mailbox q) f.reqId = true) :
    s.answer (.mailbox q) f a = s.mailboxAnswer a.result a.pending (respFrame f a) := by
  unfold State.answer
  rw [h]; rfl

/-- On the paths that carry frames the answer is a response frame, kept for a session. -/
theorem State.answer_frame (h : s.pathLive p f.reqId = true) (hm : ∀ q, p ≠ .mailbox q) (ha : ∀ t, p ≠ .admin t) :
    s.answer p f a = (s.emit (.dictResponse p (respFrame f a))).remember p f.reqId (respFrame f a) := by
  unfold State.answer
  rw [h]
  cases p with
  | admin t => exact absurd rfl (ha t)
  | mailbox q => exact absurd rfl (hm q)
  | mctp m k => rfl
  | bdp src k => rfl

theorem State.remember_out (s : State) (p : DPath) (req : Nat) (frame : List Byte) : (s.remember p req frame).out = s.out := by
  unfold State.remember; split <;> rfl

theorem State.answer_frame_out (h : s.pathLive p f.reqId = true) (hm : ∀ q, p ≠ .mailbox q) (ha : ∀ t, p ≠ .admin t) :
    Out.dictResponse p (respFrame f a) ∈ (s.answer p f a).out := by
  rw [State.answer_frame h hm ha, State.remember_out, State.emit_out]
  exact List.mem_append_right _ (List.mem_singleton.mpr rfl)

/-- A live path carries its answer. -/
theorem State.answer_answered (h : s.pathLive p f.reqId = true) : Answered (s.answer p f a) p f a := by
  cases p with
  | admin t => exact State.answer_admin h
  | mailbox q => rw [State.answer_mailbox h]; exact ⟨rfl, rfl, rfl, rfl, rfl⟩
  | mctp m k => exact State.answer_frame_out h nofun nofun
  | bdp src k => exact State.answer_frame_out h nofun nofun

/-! ### A served request -/

section
variable {u : State} (hr : s.roleOf p ≠ .nobody) (hn : s.repeated p (s.named p f).reqId = none)
include hr hn

/-- A request that its operation answers is answered on its path. -/
theorem State.serve_answer (hu : (s.arrive p).perform (s.roleOf p) p (s.named p f) = (u, some a)) :
    s.serve p f = u.answer p (s.named p f) a := by
  unfold State.serve
  simp only [hr, if_false, hn, hu]

/-- A request that its operation does not answer yet is held. -/
theorem State.serve_hold (hu : (s.arrive p).perform (s.roleOf p) p (s.named p f) = (u, none)) : s.serve p f = u.hold p := by
  unfold State.serve
  simp only [hr, if_false, hn, hu]

end

/-- A path without a role has no answer, and it is counted (R39). -/
theorem State.serve_nobody (h : s.roleOf p = .nobody) :
    s.serve p f = { s with ras := { s.ras with noRoleDrops := s.ras.noRoleDrops + 1 } } :=
  if_pos h

/-- A repeated request of a session gets its stored response (R62). -/
theorem State.serve_repeated {frame : List Byte} (hr : s.roleOf p ≠ .nobody) (hn : s.repeated p (s.named p f).reqId = some frame) :
    s.serve p f = (s.arrive p).emit (.dictResponse p frame) := by
  unfold State.serve
  simp only [hr, if_false, hn]

theorem State.hold_dict (s : State) (p : DPath) : (s.hold p).dict = s.dict := by
  unfold State.hold; split <;> rfl

theorem State.hold_admin (s : State) (t : Nat) : ((s.hold (.admin t)).tag t).st = .run ∧ ((s.hold (.admin t)).tag t).built = true := by
  unfold State.hold; rw [State.setTag_tag]; exact ⟨rfl, rfl⟩

theorem State.arrive_dict (s : State) (p : DPath) : (s.arrive p).dict = s.dict := by
  unfold State.arrive; split <;> rfl

/-- A command with a write carries its admission order as its REQID. -/
theorem State.named_write {t : Nat} (h : s.adm t 0xC9 = true) (f : DFrame) : s.named (.admin t) f = { f with reqId := (s.tag t).order } := by
  unfold State.adm at h
  simp only [Bool.and_eq_true, beq_iff_eq] at h
  unfold State.named
  dsimp only
  rw [h.2]; rfl

/-- A read keeps its frame. -/
theorem State.named_read {t : Nat} (h : s.adm t 0xC8 = true) (f : DFrame) : s.named (.admin t) f = f := by
  unfold State.adm at h
  simp only [Bool.and_eq_true, beq_iff_eq] at h
  unfold State.named
  dsimp only
  rw [h.2]; rfl

/-! ### The rows that carry one request -/

theorem State.serveOp_open {op : Nat} (h : s.pathOpen p f = true) (ho : f.op = op) : s.serveOp p f op = s.serve p f :=
  State.when_true _ (by simp [h, ho])

/-- A row of one request on an open path serves that request. -/
theorem exec_request {x : Instr} (h : s.pathOpen p f = true)
    (hx : (x = .readEntry p f ∧ f.op = 1) ∨ (x = .writeEntry p f ∧ f.op = 2) ∨ (x = .readWholeRecord p f ∧ f.op = 3) ∨
      (x = .writeWholeRecord p f ∧ f.op = 4) ∨ (x = .nextIndex p f ∧ f.op = 5) ∨
      (∃ i, x = .commitIndex p i ∧ f = writeFrame 0x1F00 1 3 2 i) ∨ (∃ i, x = .discardIndex p i ∧ f = writeFrame 0x1F00 2 3 2 i) ∨
      (∃ i, x = .restoreIndex p i ∧ f = writeFrame 0x1F00 5 3 2 i) ∨
      (∃ b, x = .maintRequest p b ∧ f = writeFrame 0x8000 5 1 1 (boolNat b)) ∨
      (∃ b, x = .writeProtect p b ∧ f = writeFrame 0x8000 4 1 1 (boolNat b)) ∨
      (∃ v, x = .ackSeq p v ∧ f = writeFrame 0xA000 3 5 8 v) ∨ (∃ v, x = .timeNs p v ∧ f = writeFrame 0xA001 1 5 8 v) ∨
      (∃ v, x = .minSvn p v ∧ f = writeFrame 0x9100 7 2 1 v)) : exec x s = .next (s.serve p f) := by
  rcases hx with ⟨rfl, ho⟩ | ⟨rfl, ho⟩ | ⟨rfl, ho⟩ | ⟨rfl, ho⟩ | ⟨rfl, ho⟩ | ⟨i, rfl, rfl⟩ | ⟨i, rfl, rfl⟩ | ⟨i, rfl, rfl⟩ |
    ⟨b, rfl, rfl⟩ | ⟨b, rfl, rfl⟩ | ⟨v, rfl, rfl⟩ | ⟨v, rfl, rfl⟩ | ⟨v, rfl, rfl⟩
  case inl => exact congrArg Host.Outcome.next (State.serveOp_open h ho)
  case inr.inl => exact congrArg Host.Outcome.next (State.serveOp_open h ho)
  case inr.inr.inl => exact congrArg Host.Outcome.next (State.serveOp_open h ho)
  case inr.inr.inr.inl => exact congrArg Host.Outcome.next (State.serveOp_open h ho)
  case inr.inr.inr.inr.inl => exact congrArg Host.Outcome.next (State.serveOp_open h ho)
  all_goals exact next_when h

/-! ### The two admin commands (R59) -/

theorem exec_dictionaryRead {t : Nat} (ha : s.adm t 0xC8 = true) (hm : (s.tag t).manager = true)
    (ho : (s.readFrame t).op = 1 ∨ (s.readFrame t).op = 3 ∨ (s.readFrame t).op = 5) :
    exec (.dictionaryRead t) s = .next (s.serve (.admin t) (s.readFrame t)) := by
  refine (next_when ha).trans ?_
  have known : [1, 3, 5].contains (s.readFrame t).op = true := by rcases ho with h | h | h <;> rw [h] <;> rfl
  dsimp only
  rw [hm, known, Bool.not_true, Bool.and_false]; rfl

theorem exec_dictionaryWrite {t : Nat} {frame : List Byte} (ha : s.adm t 0xC9 = true) (hm : (s.tag t).manager = true)
    (hf : parseFrame false 4096 frame = .ok f) (ho : f.op = 2 ∨ f.op = 4) :
    exec (.dictionaryWrite t frame) s = .next (s.serve (.admin t) f) := by
  refine (next_when ha).trans ?_
  rw [hm, Bool.not_true, Bool.and_false, hf]
  exact congrArg Host.Outcome.next (if_pos ho)

theorem exec_dictionaryWrite_off {t : Nat} (ha : s.adm t 0xC9 = true) (hm : (s.tag t).manager = false) (hc : s.cfgB 0x1100 1 = false)
    (frame : List Byte) : exec (.dictionaryWrite t frame) s = .next (s.commitTag t ⟨0, 1⟩) := by
  refine (next_when ha).trans ?_
  rw [hm, hc]; rfl

end Sys2Proof.Machine
end

section
/-! The statement about the dictionary requests of the dictionary's rows and the two admin commands. -/

namespace Sys2Proof

open Machine

/-- Settles O22. -/
theorem dictionaryInBand : Obligations.DictionaryInBand := by
  refine ⟨fun s u path f x o hx hopen hr hn hu => ⟨fun a ho hlive => ?_, fun ho => ?_⟩, fun s path f hopen hop hr => ?_,
    fun s src k f frame hopen hop hr hn => ?_, fun s u tag f a ha hf hm hop _ hu hlive => ?_,
    fun s u tag frame f a ha hm hf hop hu hlive => ?_, fun s tag frame ha hm hc => ?_⟩
  · subst ho
    rw [exec_request hopen hx, State.serve_answer hr hn hu]
    exact ⟨_, rfl, State.answer_answered hlive⟩
  · subst ho
    rw [exec_request hopen hx, State.serve_hold hr hn hu]
    exact ⟨_, rfl, u.hold_dict path, fun k hk => hk ▸ u.hold_admin k⟩
  · rw [exec_request hopen (.inl ⟨rfl, hop⟩), State.serve_nobody hr]
    exact ⟨_, rfl, rfl, rfl, rfl⟩
  · rw [exec_request hopen (.inr (.inl ⟨rfl, hop⟩)), State.serve_repeated hr hn]
    exact ⟨_, rfl, List.mem_append_right _ (List.mem_singleton.mpr rfl), s.arrive_dict _⟩
  · subst hf
    have hrole : s.roleOf (.admin tag) = .manager := by simp [State.roleOf, hm]
    rw [exec_dictionaryRead ha hm hop, State.serve_answer (u := u) (a := a) (by rw [hrole]; decide) rfl
      (by rw [State.named_read ha, hrole]; exact hu), State.named_read ha]
    exact ⟨_, rfl, State.answer_answered hlive⟩
  · have hrole : s.roleOf (.admin tag) = .manager := by simp [State.roleOf, hm]
    rw [exec_dictionaryWrite ha hm hf hop, State.serve_answer (u := u) (a := a) (by rw [hrole]; decide) rfl
      (by rw [State.named_write ha, hrole]; exact hu), State.named_write ha]
    exact ⟨_, rfl, State.answer_answered hlive⟩
  · exact ⟨_, exec_dictionaryWrite_off ha hm hc frame, (State.commitTag_posts (State.adm_uncommitted ha) _ 0 0).1,
      (s.commitTag_chg ..).dict rfl⟩

end Sys2Proof
end

section
/-! SUPPORT. The out-of-band paths of a dictionary request (R60 to R62): the mailbox, MCTP, the datagrams of the field network with
their limits (R413, R414), and the SPDM relay (R410). -/

namespace Sys2Proof.Machine

variable {s : State} {p : DPath} {f : DFrame}

/-! ### A frame's bytes on a path -/

theorem State.serveBytes_frame {bdp : Bool} {l : List Byte} (h : parseFrame bdp (pathLimit p) l = .ok f) :
    s.serveBytes p bdp l = s.serve p f := by
  unfold State.serveBytes; rw [h]

theorem State.serveBytes_bad {bdp : Bool} {l : List Byte} {req : Nat} (h : parseFrame bdp (pathLimit p) l = .error req) :
    s.serveBytes p bdp l = s.badFrame p req := by
  unfold State.serveBytes; rw [h]

/-- A bad frame in the mailbox is answered there as one. -/
theorem State.badFrame_mailbox (s : State) (q req : Nat) :
    s.badFrame (.mailbox q) req = (s.arrive (.mailbox q)).mailboxAnswer 13 false
      (respFrame ⟨0, false, req, 0, 0, 0, 0, 0, []⟩ { result := 13 }) :=
  State.answer_mailbox (s := s.arrive (.mailbox q)) (q := q) (f := ⟨0, false, req, 0, 0, 0, 0, 0, []⟩) (a := { result := 13 }) rfl

theorem exec_dmbGo {q : Nat} (h : s.pathOpen (.mailbox q) (writeFrame 0 0 0 0 0) = true) :
    exec (.dmbGo q) s = .next (s.serveBytes (.mailbox q) false s.mailboxFrame) :=
  next_when h

theorem exec_dictionaryFrameMessage {m : MPath} {k : Option Nat} (h : s.pathOpen (.mctp m k) (writeFrame 0 0 0 0 0) = true)
    (frame : List Byte) : exec (.dictionaryFrameMessage m k frame) s = .next (s.serveBytes (.mctp m k) false frame) :=
  next_when h

/-! ### Datagrams of the field network (R413, R414) -/

section
variable {src : Nat} {k : Option Nat} {bytes : List Byte}

/-- A datagram to another port, or while BDP is off, is silently dropped. -/
theorem exec_bdpDatagram_deaf {port : Nat} (hu : s.pathUp .fieldNet = true) (h : port ≠ s.cfg 0x1100 2 ∨ s.cfgB 0x1100 3 = false) :
    exec (.bdpDatagram src port k bytes) s = .next s := by
  show execBdpDatagram src port k bytes s = _
  unfold execBdpDatagram
  rw [hu, if_pos h]; rfl

section
variable (hu : s.pathUp .fieldNet = true) (hon : s.cfgB 0x1100 3 = true)
include hu hon

/-- A datagram that the second's limits drop, or that names a session that is not there, goes no further. -/
theorem exec_bdpDatagram_dropped (h : (s.bdpAdmit src).2 = false) :
    exec (.bdpDatagram src (s.cfg 0x1100 2) k bytes) s = .next (s.bdpAdmit src).1 := by
  show execBdpDatagram src (s.cfg 0x1100 2) k bytes s = _
  unfold execBdpDatagram
  simp [hu, hon, h]

/-- An admitted datagram with a request frame is served. -/
theorem exec_bdpDatagram_served (h : (s.bdpAdmit src).2 = true) (hk : k.all (fun k => s.sessionOn .fieldNet k true) = true)
    (hf : parseFrame true 1024 bytes = .ok f) (hop : f.op ≠ 0x10) :
    exec (.bdpDatagram src (s.cfg 0x1100 2) k bytes) s = .next ((s.bdpAdmit src).1.serve (.bdp src k) f) := by
  show execBdpDatagram src (s.cfg 0x1100 2) k bytes s = _
  unfold execBdpDatagram
  simp [hu, hon, h, hk, hf, hop]

end

/-- Beyond the second's limits a datagram is dropped and counted. -/
theorem State.bdpAdmit_over (he : s.elapsed s.mgmt.bdpSecond Machine.sec = false)
    (h : 500 ≤ Tbl.get 0 s.mgmt.bdpBy src ∨ 2000 ≤ s.mgmt.bdpTotal) :
    s.bdpAdmit src = ({ s with mgmt := { s.mgmt with bdpDrops := satAdd 32 s.mgmt.bdpDrops 1 } }, false) := by
  unfold State.bdpAdmit
  simp only [he, Bool.false_eq_true, if_false, h, if_true]

end

/-! ### The SPDM relay (R410) -/

/-- A relay dispatches the request that its frame's value carries. -/
theorem exec_spdmRelay {src : Nat} (h : s.pathOpen (.bdp src none) f = true) (hop : f.op = 0x10) :
    exec (.spdmRelay src f) s = s.relay src f.value :=
  if_pos (by rw [h, hop]; rfl)

section
variable (s : State) (src : Nat) {l : List Byte}

theorem State.relay_version (h : (l.getD 1 0#8).toNat = 0x84) : s.relay src l = execGetVersion .fieldNet s := by
  simp only [State.relay, h]

theorem State.relay_digests (h : (l.getD 1 0#8).toNat = 0x81) : s.relay src l = execGetDigests .fieldNet s := by
  simp only [State.relay, h]

theorem State.relay_keyExchange (h : (l.getD 1 0#8).toNat = 0xE4) : s.relay src l = execKeyExchange .fieldNet src s := by
  simp only [State.relay, h]

/-- A request code of no request is answered with an error. -/
theorem State.relay_unknown (h : (l.getD 1 0#8).toNat = 0xFF) : s.relay src l = .next (s.spdmError .fieldNet 7) := by
  simp only [State.relay, h]

end

end Sys2Proof.Machine
end

section
/-! The statement about the dictionary requests of the mailbox, MCTP and the field network. -/

namespace Sys2Proof

open Machine

/-- Settles O23. -/
theorem dictionaryOutOfBand : Obligations.DictionaryOutOfBand := by
  refine ⟨fun s u q f a hopen hf hu hlive => ?_, fun s q req hopen hf => ?_, fun s u m k frame f a hopen hf hr hu hlive => ?_,
    fun s u src k bytes f a hup hon had hk hf hop hr hn hu hlive => ?_, fun s src port k bytes hup h => exec_bdpDatagram_deaf hup h,
    fun s src k bytes hup hon he h => ?_, fun s src f hopen hop => ⟨fun h => ?_, fun h => ?_, fun h => ?_, fun h => ?_⟩⟩
  · rw [exec_dmbGo hopen, State.serveBytes_frame hf, State.serve_answer (s := s) (p := .mailbox q) (show Role.manager ≠ Role.nobody by decide) rfl hu]
    exact ⟨_, rfl, State.answer_answered hlive⟩
  · rw [exec_dmbGo hopen, State.serveBytes_bad hf, State.badFrame_mailbox]
    exact ⟨_, rfl, rfl, rfl, rfl, rfl⟩
  · rw [exec_dictionaryFrameMessage hopen, State.serveBytes_frame hf, State.serve_answer hr rfl hu]
    exact ⟨_, rfl, State.answer_answered (p := .mctp m k) hlive⟩
  · rw [exec_bdpDatagram_served hup hon had hk hf hop, State.serve_answer hr hn hu]
    exact ⟨_, rfl, State.answer_answered (p := .bdp src k) hlive⟩
  · have hover := State.bdpAdmit_over (src := src) he h
    rw [exec_bdpDatagram_dropped hup hon (by rw [hover]), hover]
    exact ⟨_, rfl, rfl, rfl, rfl⟩
  · exact (exec_spdmRelay hopen hop).trans (s.relay_version src h)
  · exact (exec_spdmRelay hopen hop).trans (s.relay_digests src h)
  · exact (exec_spdmRelay hopen hop).trans (s.relay_keyExchange src h)
  · exact ⟨_, (exec_spdmRelay hopen hop).trans (s.relay_unknown src h), by simp [State.spdmError, State.spdm], rfl⟩

end Sys2Proof
end

section
/-! SUPPORT. What the events of the dictionary's store change (R43, R44, R48, R49, R53 to R55): the parts of the dictionary that an
answer, a field in force, a stored field and a log record write. -/

namespace Sys2Proof.Machine

variable {s t : State}

/-! ### The part of the dictionary that each operation writes -/

/-- An answer keeps the dictionary, but for the responses that sessions may repeat. -/
theorem State.answer_dict (s : State) (p : DPath) (f : DFrame) (a : Ans) : ∃ d, (s.answer p f a).dict = { s.dict with dup := d } := by
  cases hl : s.pathLive p f.reqId with
  | false => exact ⟨s.dict.dup, by unfold State.answer; rw [hl]; rfl⟩
  | true =>
    cases p with
    | admin t =>
      refine ⟨s.dict.dup, ?_⟩
      unfold State.answer
      simp only [hl, Bool.not_true, Bool.false_eq_true, if_false]
      split
      · exact (s.commitTag_chg ..).dict rfl
      · split
        · exact ((State.succeed_chg ..).dict rfl).trans ((s.deliver_chg ..).dict rfl)
        · exact (s.succeed_chg ..).dict rfl
        · exact (s.succeed_chg ..).dict rfl
        · exact (s.succeed_chg ..).dict rfl
    | mailbox q => exact ⟨s.dict.dup, by rw [State.answer_mailbox hl]; rfl⟩
    | mctp m k => exact ⟨s.dict.dup, by rw [State.answer_frame hl nofun nofun]; rfl⟩
    | bdp src k =>
      rw [State.answer_frame hl nofun nofun]
      cases k with
      | none => exact ⟨s.dict.dup, rfl⟩
      | some k => exact ⟨_, rfl⟩

theorem State.answerOp_dict (s : State) (o : NorOp) (k : Nat) (b : Bool) : ∃ d, (s.answerOp o k b).dict = { s.dict with dup := d } := by
  unfold State.answerOp
  split
  · exact ⟨s.dict.dup, rfl⟩
  · exact s.answer_dict _ _ _

theorem State.forceFields_dict (s : State) (i : Nat) (fs : List (Nat × Val)) :
    ∃ d, (s.forceFields i fs).dict = { s.dict with inForce := d } :=
  State.forEach_induct (P := fun t => ∃ d, t.dict = { s.dict with inForce := d }) ⟨s.dict.inForce, rfl⟩ fun x _ t ht => by
    obtain ⟨d, hd⟩ := ht
    exact ⟨_, by rw [State.putInForce, hd]⟩

/-- The fields in force follow from those before alone. -/
theorem State.forceFields_inForce (h : s.dict.inForce = t.dict.inForce) (i : Nat) (fs : List (Nat × Val)) :
    (s.forceFields i fs).dict.inForce = (t.forceFields i fs).dict.inForce := by
  induction fs generalizing s t with
  | nil => exact h
  | cons x fs ih =>
    refine ih (s := s.putInForce i x.1 (some x.2)) (t := t.putInForce i x.1 (some x.2)) ?_
    unfold State.putInForce
    rw [h]

theorem State.inForceHook_dict (s : State) (i : Nat) (was : Bool) : (s.inForceHook i was).dict = s.dict := (s.inForceHook_chg i was).dict rfl

theorem State.liveFields_dict (s : State) (o : NorOp) : ∃ d, (s.liveFields o).dict = { s.dict with inForce := d } := by
  refine State.forEach_induct (P := fun t => ∃ d, t.dict = { s.dict with inForce := d }) ⟨s.dict.inForce, rfl⟩ fun i _ t ht => ?_
  obtain ⟨d, hd⟩ := ht
  dsimp only
  rw [State.inForceHook_dict]
  obtain ⟨e, he⟩ := t.forceFields_dict i ((o.saved.filter (fun x => (dictEnt (x.1 / 256) (x.1 % 256)).any (fun e =>
    e.cls == .live || e.cls == .staged))).filter (fun x => x.1 / 256 == i) |>.map (fun x => (x.1 % 256, x.2)))
  exact ⟨e, by rw [he, hd]⟩

theorem State.storeFields_dict (s : State) (o : NorOp) : ∃ d, (s.storeFields o).dict = { s.dict with stored := d } :=
  State.forEach_induct (P := fun t => ∃ d, t.dict = { s.dict with stored := d }) ⟨s.dict.stored, rfl⟩ fun x _ t ht => by
    obtain ⟨d, hd⟩ := ht
    exact ⟨_, by rw [State.putStored, hd]⟩

theorem State.shadowSettle_dict (s : State) (i : Nat) (fs : List (Nat × Val)) :
    ∃ d, (s.shadowSettle i fs).dict = { s.dict with shadows := d } := by
  unfold State.shadowSettle
  split
  · exact ⟨s.dict.shadows, rfl⟩
  · dsimp only
    split <;> exact ⟨_, rfl⟩

theorem State.norError_dict (s : State) : s.norError.dict = { s.dict with norErrors := satAdd 32 s.dict.norErrors 1 } :=
  (State.rasReport_chg ..).dict rfl

/-! ### The active copy (R53, R54) -/

theorem State.activeCopy_congr (hb : t.dict.activeB = s.dict.activeB) (ha : t.dict.copyA = s.dict.copyA) (hc : t.dict.copyB = s.dict.copyB) :
    t.activeCopy = s.activeCopy := by
  unfold State.activeCopy; rw [hb, ha, hc]

theorem State.setActiveCopy_dict (s : State) (c : StoreCopy) :
    ∃ a b, (s.setActiveCopy c).dict = { s.dict with copyA := a, copyB := b } := by
  unfold State.setActiveCopy
  split
  · exact ⟨s.dict.copyA, c, rfl⟩
  · exact ⟨c, s.dict.copyB, rfl⟩

theorem State.setActiveCopy_activeCopy (s : State) (c : StoreCopy) : (s.setActiveCopy c).activeCopy = c := by
  unfold State.setActiveCopy
  split <;> rename_i h <;> simp [State.activeCopy, h]

/-- A durable log record enters the active copy, and its fields the store's content. -/
theorem State.logDurable_dict (s : State) (o : NorOp) :
    (∃ a b d, (s.logDurable o).dict = { s.dict with copyA := a, copyB := b, stored := d }) ∧
      (s.logDurable o).activeCopy = { s.activeCopy with log := s.activeCopy.log ++ [o], units := s.activeCopy.units + o.units } := by
  unfold State.logDurable
  have copy := s.setActiveCopy_activeCopy { s.activeCopy with log := s.activeCopy.log ++ [o], units := s.activeCopy.units + o.units }
  obtain ⟨a, b, hab⟩ := s.setActiveCopy_dict { s.activeCopy with log := s.activeCopy.log ++ [o], units := s.activeCopy.units + o.units }
  generalize s.setActiveCopy _ = u at copy hab ⊢
  obtain ⟨d, hd⟩ := u.storeFields_dict o
  refine ⟨⟨a, b, d, by rw [hd, hab]⟩, ?_⟩
  exact (State.activeCopy_congr (by rw [hd]) (by rw [hd]) (by rw [hd])).trans copy

/-! ### Commits that wait -/

/-- What is left of the commits without a record's has none of that record. -/
theorem State.commitsOf_filter {i : Nat} (h : t.dict.commits = s.dict.commits.filter (fun x => x.1 != i)) : t.commitsOf i = [] := by
  unfold State.commitsOf
  rw [h, List.filter_filter, List.map_eq_nil_iff, List.filter_eq_nil_iff]
  intro x _
  cases hx : x.1 == i <;> simp [bne, hx]

/-- The last commit of a record is the one that waits. -/
theorem State.pendingCommit_append {i : Nat} {c : PendingCommit} {l : List (Nat × PendingCommit)} (h : t.dict.commits = l ++ [(i, c)]) :
    t.pendingCommit i = some c := by
  simp [State.pendingCommit, State.commitsOf, h, List.filter_append]

/-- A change of some commits of a record is the same change of its list. -/
theorem commitsOf_map_if {P : PendingCommit → Prop} [DecidablePred P] (g : PendingCommit → PendingCommit) (i : Nat)
    (l : List (Nat × PendingCommit)) :
    ((l.map (fun x => if x.1 = i ∧ P x.2 then (i, g x.2) else x)).filter (fun x => x.1 == i)).map (fun x => x.2) =
      ((l.filter (fun x => x.1 == i)).map (fun x => x.2)).map (fun c => if P c then g c else c) := by
  induction l with
  | nil => rfl
  | cons x l ih =>
    rw [List.map_cons]
    by_cases hi : x.1 = i
    · by_cases hp : P x.2 <;> simp [hi, hp, ih]
    · simp [hi, ih]

/-! ### The boundary and the response timeout of a commit (R49) -/

theorem State.commitDone_dict (s : State) (i : Nat) (c : PendingCommit) :
    ∃ d, (s.commitDone i c).dict = { (s.setResult c.session 1 none).dict with dup := d } := by
  unfold State.commitDone
  dsimp only
  split
  · split
    · exact ⟨s.dict.dup, rfl⟩
    · exact State.answer_dict ..
  · exact ⟨s.dict.dup, rfl⟩

/-- The commits of a record are replaced by those that stay. -/
def State.commitsLeft (s : State) (i : Nat) (rest : List PendingCommit) : State :=
  { s with dict := { s.dict with commits := s.dict.commits.filter (fun x => x.1 != i) ++ rest.map (fun c => (i, c)) } }

/-- One commit in force: its fields, its session's result, and no commit of the record waits. -/
theorem State.commitForce_one (s : State) (i : Nat) (c : PendingCommit) :
    (s.commitForce i c [c] []).dict.commits = s.dict.commits.filter (fun x => x.1 != i) ∧
      (s.commitForce i c [c] []).dict.inForce = (s.forceFields i (c.fields.filter (fieldKept i))).dict.inForce ∧
      (Tbl.get {} (s.commitForce i c [c] []).dict.sess c.session).result = 1 ∧
      (s.commitForce i c [c] []).dict.stored = s.dict.stored := by
  have eq : s.commitForce i c [c] [] = (((s.commitsLeft i []).forceFields i (c.fields.filter (fieldKept i))).inForceHook i
    (s.cfgB i 0x20)).commitDone i c := rfl
  have forced := State.forceFields_inForce (s := s.commitsLeft i []) (t := s) rfl i (c.fields.filter (fieldKept i))
  obtain ⟨d, hd⟩ := (s.commitsLeft i []).forceFields_dict i (c.fields.filter (fieldKept i))
  rw [eq]
  generalize (s.commitsLeft i []).forceFields i (c.fields.filter (fieldKept i)) = u at forced hd ⊢
  have hook := u.inForceHook_dict i (s.cfgB i 0x20)
  generalize u.inForceHook i (s.cfgB i 0x20) = v at hook ⊢
  obtain ⟨e, he⟩ := v.commitDone_dict i c
  have result := congrArg SessCommit.result (v.setResult_sess c.session 1 none)
  rw [he]
  refine ⟨?_, ?_, result, ?_⟩
  · show v.dict.commits = _
    rw [hook, hd]; exact List.append_nil _
  · show v.dict.inForce = _
    rw [hook, forced]
  · show v.dict.stored = _
    rw [hook, hd]; rfl

/-- The boundary of a record with one commit that waits, without an action. -/
theorem State.boundary_one {i : Nat} {c : PendingCommit} (h : s.commitsOf i = [c]) (ha : c.action = 0) :
    s.boundary i = s.commitForce i c [c] [] := by
  unfold State.boundary
  simp [h, ha]

theorem exec_commitBoundary_one {i : Nat} {c : PendingCommit} (h : s.commitsOf i = [c]) (ha : c.action = 0) :
    exec (.commitBoundary i) s = .next (s.commitForce i c [c] []) :=
  (next_when (by simp [State.pendingCommit, h])).trans (congrArg Host.Outcome.next (State.boundary_one h ha))

/-- The commits of a record that have waited 100 ms are answered from now on. -/
def State.markOverdue (s : State) (i : Nat) : State :=
  { s with dict := { s.dict with commits := s.dict.commits.map (fun (x : Nat × PendingCommit) =>
    if x.1 = i ∧ s.overdue x.2 = true then (i, { x.2 with answered := !s.slowPath x.2.path }) else x) } }

theorem State.markOverdue_commitsOf (s : State) (i : Nat) : (s.markOverdue i).commitsOf i =
    (s.commitsOf i).map (fun c => if s.overdue c = true then { c with answered := !s.slowPath c.path } else c) :=
  commitsOf_map_if (P := fun c => s.overdue c = true) (fun c => { c with answered := !s.slowPath c.path }) i s.dict.commits

/-- What an overdue commit gets: its session's RESULT is pending, and its response goes out unless its command completes later. -/
def State.pendingAnswer (s : State) (i : Nat) (c : PendingCommit) : State :=
  let s2 := s.setResult c.session 3 none
  match c.path with
  | some p =>
    if s.slowPath c.path then s2
    else s2.answer p (writeFrame 0x1F00 1 3 0 0 |> fun f => { f with reqId := c.reqId }) { index := i, seq := c.seq }
  | none => s2

theorem State.pendingAnswer_dict (s : State) (i : Nat) (c : PendingCommit) :
    ∃ d, (s.pendingAnswer i c).dict = { (s.setResult c.session 3 none).dict with dup := d } := by
  unfold State.pendingAnswer
  dsimp only
  split
  · split
    · exact ⟨s.dict.dup, rfl⟩
    · exact State.answer_dict ..
  · exact ⟨s.dict.dup, rfl⟩

theorem exec_commitResponseTimeout_one {i : Nat} {c : PendingCommit} (h : s.commitsOf i = [c]) (hd : s.overdue c = true) :
    exec (.commitResponseTimeout i) s = .next ((s.markOverdue i).pendingAnswer i c) := by
  have due : (s.commitsOf i).filter (fun c => s.overdue c) = [c] := by rw [h]; simp [hd]
  show execCommitResponseTimeout i s = _
  unfold execCommitResponseTimeout
  dsimp only
  rw [due]
  rfl

/-! ### A log record that is durable, or fails (R43, R49, R55) -/

section
variable {o : NorOp} {l : List NorOp}

/-- The state in which the oldest append has left the queue. -/
def State.unqueue (s : State) (l : List NorOp) : State := { s with dict := { s.dict with appends := l } }

theorem exec_logRecordDurable (h : s.dict.appends = o :: l) : exec (.logRecordDurable true) s = .next ((s.unqueue l).appendDone o) := by
  show execLogRecordDurable true s = _
  unfold execLogRecordDurable
  rw [h]; rfl

theorem exec_logRecordDurable_failed (h : s.dict.appends = o :: l) :
    exec (.logRecordDurable false) s = .next ((s.unqueue []).appendFail (o :: l)) := by
  show execLogRecordDurable false s = _
  unfold execLogRecordDurable
  rw [h]; rfl

/-- A durable append is live and answered, or waits as a commit; a log of 75 % asks for a compaction. -/
theorem State.appendDone_dict (s : State) (o : NorOp) (u : State)
    (hu : u = if o.commit then (s.logDurable o).commitDurable o else ((s.logDurable o).liveFields o).answerOp o rOk false) :
    (∃ b, (s.appendDone o).dict = { u.dict with compacting := b }) ∧ (s.appendDone o).out = u.out := by
  unfold State.appendDone
  dsimp only
  rw [← hu]
  split
  · exact ⟨⟨true, rfl⟩, rfl⟩
  · exact ⟨⟨u.dict.compacting, rfl⟩, rfl⟩

/-- A path that carries frames is live as long as its session is. -/
theorem State.pathLive_mgmt (h : t.mgmt = s.mgmt) {p : DPath} (hm : ∀ q, p ≠ .mailbox q) (ha : ∀ k, p ≠ .admin k) (req : Nat) :
    t.pathLive p req = s.pathLive p req := by
  cases p with
  | admin k => exact absurd rfl (ha k)
  | mailbox q => exact absurd rfl (hm q)
  | mctp m k => cases k <;> simp only [State.pathLive, h]
  | bdp src k => cases k <;> simp only [State.pathLive, h]

/-- The response of a durable write goes out on the path that carried it. -/
theorem State.durable_answers (s : State) {p : DPath} (hp : o.path = some p) (hm : ∀ q, p ≠ .mailbox q) (ha : ∀ k, p ≠ .admin k)
    (hl : s.pathLive p o.reqId = true) : Out.dictResponse p (respFrame o.frame { result := 0, seq := o.seq }) ∈
      (((s.logDurable o).liveFields o).answerOp o rOk false).out := by
  have kept : ((s.logDurable o).liveFields o).mgmt = s.mgmt := ((State.liveFields_chg ..).mgmt rfl).trans ((s.logDurable_chg o).mgmt rfl)
  generalize (s.logDurable o).liveFields o = u at kept ⊢
  unfold State.answerOp
  rw [hp]
  exact State.answer_frame_out ((State.pathLive_mgmt kept hm ha _).trans hl) hm ha

/-- A durable write: what its log record, its live fields and its answer change. -/
theorem State.appendDone_write (s : State) (hc : o.commit = false) : (∃ x y d e g b, (s.appendDone o).dict = { s.dict with
      copyA := x, copyB := y, stored := d, inForce := e, dup := g, compacting := b }) ∧
    (s.appendDone o).activeCopy = (s.logDurable o).activeCopy ∧
    (s.appendDone o).out = (((s.logDurable o).liveFields o).answerOp o rOk false).out := by
  obtain ⟨⟨x, y, d, hlog⟩, -⟩ := s.logDurable_dict o
  obtain ⟨e, hlive⟩ := (s.logDurable o).liveFields_dict o
  obtain ⟨g, hans⟩ := ((s.logDurable o).liveFields o).answerOp_dict o rOk false
  obtain ⟨⟨b, hb⟩, hout⟩ := s.appendDone_dict o _ (by rw [hc, if_neg Bool.false_ne_true])
  have dict := hb.trans (by rw [hans, hlive])
  refine ⟨⟨x, y, d, e, g, b, dict.trans (by rw [hlog])⟩, ?_, hout⟩
  exact State.activeCopy_congr (by rw [dict]) (by rw [dict]) (by rw [dict])

/-- The commit that waits for its boundary once its log record is durable. -/
def State.durableCommit (s : State) (o : NorOp) : PendingCommit := ⟨o.session, o.path, o.reqId, o.fields, s.aon.now, false, o.action, o.seq⟩

/-- A commit whose record has its own boundary waits for it. -/
theorem State.commitDurable_waits (s : State) (h0 : o.index ≠ 0x6400) (h1 : o.index ≠ 0x6401) (h2 : o.index ≠ 0x9001) :
    ∃ d m, (s.commitDurable o).dict = { s.dict with shadows := d, commits := m ++ [(o.index, s.durableCommit o)] } := by
  obtain ⟨d, hd⟩ := s.shadowSettle_dict o.index o.fields
  unfold State.commitDurable
  dsimp only
  split
  · exact absurd ‹_› h0
  · exact absurd ‹_› h1
  · exact absurd ‹_› h2
  · exact ⟨d, _, by rw [hd]; rfl⟩

/-- A durable commit waits, and nothing comes in force. -/
theorem State.appendDone_commit (s : State) (hc : o.commit = true) (h0 : o.index ≠ 0x6400) (h1 : o.index ≠ 0x6401) (h2 : o.index ≠ 0x9001) :
    (∃ x y d e m b, (s.appendDone o).dict = { s.dict with
      copyA := x, copyB := y, stored := d, shadows := e, commits := m ++ [(o.index, s.durableCommit o)], compacting := b }) ∧
    (s.appendDone o).activeCopy = (s.logDurable o).activeCopy := by
  obtain ⟨⟨x, y, d, hlog⟩, -⟩ := s.logDurable_dict o
  have now : (s.logDurable o).durableCommit o = s.durableCommit o := by
    unfold State.durableCommit; rw [(s.logDurable_chg o).aon rfl]
  obtain ⟨e, m, hwait⟩ := (s.logDurable o).commitDurable_waits h0 h1 h2
  obtain ⟨⟨b, hb⟩, -⟩ := s.appendDone_dict o _ (by rw [hc, if_pos rfl])
  have dict := hb.trans (by rw [hwait, now])
  refine ⟨⟨x, y, d, e, m, b, dict.trans (by rw [hlog])⟩, ?_⟩
  exact State.activeCopy_congr (by rw [dict]) (by rw [dict]) (by rw [dict])

/-- A failed append ends every append that waits, and the other copy is compacted into at once. -/
theorem State.appendFail_dict (s : State) (l : List NorOp) : ∃ a b d, (s.appendFail l).dict = { s.dict with
    copyA := a, copyB := b, dup := d, norErrors := satAdd 32 s.dict.norErrors 1, appendFailed := true, compacting := true, retryAt := none } := by
  unfold State.appendFail
  obtain ⟨a, b, hab⟩ := s.setActiveCopy_dict { s.activeCopy with torn := s.activeCopy.torn + (l.head?.map (fun o => o.units)).getD 0 }
  generalize s.setActiveCopy _ = u at hab ⊢
  have hn := u.norError_dict
  generalize u.norError = v at hn ⊢
  dsimp only
  obtain ⟨d, hd⟩ := State.forEach_induct (P := fun t => ∃ d, t.dict =
      { v.dict with appendFailed := true, compacting := true, retryAt := none, dup := d }) (l := l)
    (f := fun o s => s.answerOp o rStore false)
    (s := { v with dict := { v.dict with appendFailed := true, compacting := true, retryAt := none }
                   sec := { v.sec with transition := v.sec.transition && !l.any (fun o => o.index == 0x9001) } })
    ⟨v.dict.dup, rfl⟩ fun o _ t ⟨d, hd⟩ => by
      obtain ⟨e, he⟩ := t.answerOp_dict o rStore false
      exact ⟨e, by rw [he, hd]⟩
  exact ⟨a, b, d, by rw [hd, hn, hab]⟩

end

/-! ### Compaction (R54, R55) -/

/-- A compaction leaves the other copy active, with the whole content and an empty log. -/
theorem State.compacted_dict (s : State) : (∃ a b m, s.compacted.dict = { s.dict with
      activeB := !s.dict.activeB, appendFailed := false, compacting := false, lastCompaction := s.aon.now
      compactions := satAdd 32 s.dict.compactions 1, systemImage := m, copyA := a, copyB := b }) ∧
    s.compacted.activeCopy = { valid := true, imageSeq := s.dict.storeSeq - s.dict.appends.length, image := s.dict.stored } := by
  unfold State.compacted
  refine ⟨?_, State.setActiveCopy_activeCopy ..⟩
  dsimp only
  obtain ⟨a, b, hab⟩ := ({ s with dict := { s.dict with
    activeB := !s.dict.activeB, appendFailed := false, compacting := false, lastCompaction := s.aon.now
    compactions := satAdd 32 s.dict.compactions 1
    systemImage := if (s.awake && s.profile && s.mode.mapReady) = true then s.dict.stored else s.dict.systemImage } } : State).setActiveCopy_dict
    { valid := true, imageSeq := s.dict.storeSeq - s.dict.appends.length, image := s.dict.stored }
  exact ⟨a, b, _, hab⟩

/-- An abandoned compaction costs the copy that it erased, which is not the active one. -/
theorem State.compactFail_dict (s : State) : (∃ a b, s.compactFail.dict = { s.dict with
      copyA := a, copyB := b, compacting := false, retryAt := some s.aon.now, norErrors := satAdd 32 s.dict.norErrors 1 }) ∧
    s.compactFail.activeCopy = s.activeCopy := by
  unfold State.compactFail State.activeCopy
  cases hb : s.dict.activeB with
  | true =>
    rw [if_pos rfl, State.norError_dict]
    exact ⟨⟨_, _, rfl⟩, by simp [hb]⟩
  | false =>
    rw [if_neg Bool.false_ne_true, State.norError_dict]
    exact ⟨⟨_, _, rfl⟩, by simp [hb]⟩

end Sys2Proof.Machine
end

section
/-! The statement about the dictionary log, the shadows and compaction. -/

namespace Sys2Proof

open Machine

/-- Settles O26. -/
theorem dictionaryStore : Obligations.DictionaryStore := by
  refine ⟨fun s i c hc ha => ?_, fun s i c hc ha he hs => ?_, fun s i sh hsh he => ?_, fun s b hb he => ?_,
    fun s o l hl hc => ?_, fun s o l hl hc h0 h1 h2 => ?_, fun s o l hl => ?_, fun s hm he => ?_, fun s hm hc hr he => ?_,
    fun s hc => ?_, fun s hc => ?_, fun s k hk he => ?_⟩
  · obtain ⟨hcommits, hforce, hresult, hstored⟩ := s.commitForce_one i c
    exact ⟨_, exec_commitBoundary_one hc ha, State.commitsOf_filter hcommits, hforce, hresult, hstored⟩
  · have due : s.overdue c = true := by unfold State.overdue; rw [ha, he]; rfl
    obtain ⟨d, hd⟩ := (s.markOverdue i).pendingAnswer_dict i c
    refine ⟨_, exec_commitResponseTimeout_one hc due, ?_, ?_, by rw [hd]; rfl⟩
    · have marked := s.markOverdue_commitsOf i
      rw [hc, List.map_singleton, if_pos due, hs] at marked
      unfold State.commitsOf at marked ⊢
      rw [hd]; exact marked
    · rw [hd]
      exact congrArg SessCommit.result (State.setResult_sess ..)
  · have due : (s.shadow i).any (fun x => s.elapsed x.touched (30 * sec)) = true := by rw [hsh, Option.any_some]; exact he
    exact ⟨_, next_when due, s.dropShadow_shadow i, fun j hj => s.dropShadow_shadow_ne hj, rfl, rfl⟩
  · have due : (!(s.dict.staging.filter (fun b => s.elapsed b.touched (30 * sec))).isEmpty) = true := by
      rw [Bool.not_eq_true', List.isEmpty_eq_false_iff_exists_mem]
      exact ⟨b, List.mem_filter.mpr ⟨hb, he⟩⟩
    refine ⟨_, next_when due, fun hin => ?_, fun c hcin hce => List.mem_filter.mpr ⟨hcin, by rw [hce]; rfl⟩, rfl, rfl⟩
    have kept := (List.mem_filter.mp hin).2
    rw [he] at kept
    exact Bool.false_ne_true kept
  · obtain ⟨⟨x, y, d, e, g, b, hd⟩, hcopy, hout⟩ := (s.unqueue l).appendDone_write hc
    have log := ((s.unqueue l).logDurable_dict o).2
    rw [← hcopy] at log
    refine ⟨_, exec_logRecordDurable hl, by rw [hd]; rfl, by rw [log]; rfl, by rw [log]; rfl, by rw [hd]; rfl, fun p hp hm ha hlive => ?_⟩
    rw [hout]
    exact (s.unqueue l).durable_answers hp hm ha hlive
  · obtain ⟨⟨x, y, d, e, m, b, hd⟩, hcopy⟩ := (s.unqueue l).appendDone_commit hc h0 h1 h2
    have log := ((s.unqueue l).logDurable_dict o).2
    rw [← hcopy] at log
    exact ⟨_, _, exec_logRecordDurable hl, by rw [hd]; rfl, State.pendingCommit_append (by rw [hd]), rfl, rfl, rfl, rfl, by rw [hd]; rfl,
      by rw [log]; rfl⟩
  · obtain ⟨a, b, d, hd⟩ := (s.unqueue []).appendFail_dict (o :: l)
    refine ⟨_, exec_logRecordDurable_failed hl, ?_⟩
    rw [hd]
    exact ⟨rfl, rfl, rfl, rfl, rfl, rfl⟩
  · exact ⟨_, next_when (by simp [hm, he]), rfl, rfl⟩
  · exact ⟨_, next_when (by simp [hm, hc, hr, he]), rfl, rfl⟩
  · obtain ⟨⟨a, b, m, hd⟩, hcopy⟩ := s.compacted_dict
    refine ⟨_, next_when hc, ?_⟩
    rw [if_pos rfl, hcopy, hd]
    exact ⟨rfl, rfl, rfl, rfl, rfl, rfl, rfl, rfl, rfl⟩
  · obtain ⟨⟨a, b, hd⟩, hcopy⟩ := s.compactFail_dict
    refine ⟨_, next_when hc, ?_⟩
    rw [if_neg Bool.false_ne_true, hcopy, hd]
    exact ⟨rfl, rfl, rfl, rfl, rfl⟩
  · have due : s.dict.retryAt.any (fun t => s.elapsed t (60 * sec)) = true := by rw [hk, Option.any_some]; exact he
    exact ⟨_, next_when due, rfl, rfl⟩

end Sys2Proof
end

section
/-! SUPPORT. Invariants of a run: what every step keeps, every run keeps. The canonical form of the byte memories is one: a command
keeps it, because each of its operations does (`Chg.cmb`, `Chg.dmb`), and neither the queue nor the clock is a part of it. -/

namespace Sys2Proof

open Machine

/-- What every step keeps holds at the end of a run that starts with it. -/
theorem Reaches.invariant {P : State → Prop} (keeps : ∀ s t : State, P s → step s = .next t → P t) {s t : State}
    (h : Reaches s t) (hs : P s) : P t := by
  induction h with
  | refl => exact hs
  | tail _ last ih => exact keeps _ _ ih last

/-- The queue of waiting commands is no addressed memory. -/
theorem memoryCanonical_withPending (s : State) (l : List Instr) : MemoryCanonical { s with pending := l } ↔ MemoryCanonical s := Iff.rfl

/-- The idle tick changes no addressed memory. -/
theorem memoryCanonical_idle (s : State) : MemoryCanonical s.idle ↔ MemoryCanonical s := Iff.rfl

/-- A step keeps the canonical form: the command at the front does, and the idle tick does. -/
theorem step_memoryCanonical (s t : State) (hs : MemoryCanonical s) (h : step s = .next t) : MemoryCanonical t := by
  cases hq : s.pending with
  | nil =>
    rw [step_of_nil hq] at h
    cases h
    exact (memoryCanonical_idle s).mpr hs
  | cons i rest =>
    rw [step_of_cons hq] at h
    exact exec_memoryCanonical h ((memoryCanonical_withPending s rest).mpr hs)

end Sys2Proof
end

section
/-! The statement about the canonical form of the byte memories. -/

namespace Sys2Proof

open Machine

/-- Settles O6: every step keeps the canonical form, so every run does. -/
theorem memoriesStayCanonical : Obligations.MemoriesStayCanonical :=
  ⟨step_memoryCanonical, fun _ _ => Reaches.invariant step_memoryCanonical⟩

end Sys2Proof
end

section
/-! SUPPORT. One queue after an operation whose lemma `Chg` leaves out the table of its kind: unchanged; a function after a write of another;
and a table whose values are all changed at once. -/

namespace Sys2Proof.Machine

section
variable {m : Nat} {s t : State}

theorem Chg.sq_eq (h : Chg m s t) (hm : m.testBit 11 = false) (q : QKey) : t.sq q = s.sq q := by
  unfold State.sq; rw [h.sqs hm]

theorem Chg.cq_eq (h : Chg m s t) (hm : m.testBit 12 = false) (q : QKey) : t.cq q = s.cq q := by
  unfold State.cq; rw [h.cqs hm]

end

theorem State.setFunc_func_ne (s : State) {p f a b : Nat} (x : Func) (h : fkey p f ≠ fkey a b) : (s.setFunc p f x).func a b = s.func a b :=
  Tbl.get_set_ne _ _ _ h

/-- A change of every value that keeps the default is read at each key. -/
theorem Tbl.get_map {α : Type} {d : α} {g : α → α} (hd : g d = d) (l : Tbl α) (k : Nat) :
    Tbl.get d (l.map (fun x => (x.1, g x.2))) k = g (Tbl.get d l k) := by
  induction l with
  | nil => exact hd.symm
  | cons x l ih =>
    show (if x.1 = k then g x.2 else _) = g (if x.1 = k then x.2 else _)
    rw [ih, apply_ite g]

end Sys2Proof.Machine
end

section
/-! SUPPORT. Configuration requests, the enables of a function, and the links (R85 to R92, R97, R138): one equation for each command and
case, and what a hold's end and a training leave. -/

namespace Sys2Proof.Machine

variable {s : State} {p f : Nat}

/-! ### Configuration requests (R86, R90) -/

/-- A configuration request reaches its port: the fast domain runs and the link is up. -/
structure State.ConfigReaches (s : State) (p : Nat) : Prop where
  awake : s.awake = true
  present : s.portExists p = true
  linkUp : (s.port p).linkUp = true

/-- Every request but a write that clears VF Enable is served as a configuration request. -/
theorem State.ConfigReaches.guard (h : s.ConfigReaches p) {r : CfgReg} {w : Option Nat} (hv : r = .vfEnable → w ≠ some 0) :
    (s.awake && s.portExists p && (s.port p).linkUp && !(r == .vfEnable && w == some 0 && s.vfOn p)) = true := by
  have hnot : (r == .vfEnable && w == some 0) = false := by
    rw [Bool.and_eq_false_iff]
    by_cases hr : r = .vfEnable
    · exact .inr (beq_false_of_ne (hv hr))
    · exact .inl (beq_false_of_ne hr)
  rw [h.awake, h.present, h.linkUp, hnot]; rfl

theorem exec_configRequest_retry {r : CfgReg} {w : Option Nat} (h : s.ConfigReaches p) (hv : r = .vfEnable → w ≠ some 0)
    (hc : (s.port p).configReady = false) : exec (.configRequest p f r w) s = .next (s.emit (.configRetry p)) :=
  (next_when (h.guard hv)).trans (congrArg Host.Outcome.next (if_pos (by rw [hc]; rfl)))

theorem exec_configRequest_read {r : CfgReg} (h : s.ConfigReaches p) (hc : (s.port p).configReady = true) :
    exec (.configRequest p f r none) s = .next (s.emit (.configData p (s.cfgSpace p f r))) :=
  (next_when (h.guard (w := none) fun _ => (Option.some_ne_none 0).symm)).trans
    (congrArg Host.Outcome.next (if_neg (by rw [hc]; exact Bool.false_ne_true)))

theorem exec_configRequest_write {r : CfgReg} {v : Nat} (h : s.ConfigReaches p) (hv : r ≠ .vfEnable) (hc : (s.port p).configReady = true)
    (hf : (s.func p f).here = true) : exec (.configRequest p f r (some v)) s = .next (s.cfgWrite p f v r) :=
  (next_when (h.guard fun hr => absurd hr hv)).trans
    (congrArg Host.Outcome.next ((if_neg (by rw [hc]; exact Bool.false_ne_true)).trans (if_pos hf)))

/-! ### The enables of a function (R97, R138) -/

theorem exec_busMasterEnableChange {on : Bool} (hf : (s.func p f).here = true) (hb : (s.func p f).bme ≠ on) :
    exec (.busMasterEnableChange p f on) s = .next ((s.setFunc p f { s.func p f with bme := on }).releaseFn p f) :=
  next_when (by rw [hf, bne_iff_ne.mpr hb]; rfl)

theorem exec_d3hotTransition {on : Bool} (hf : (s.func p f).here = true) (hd : (s.func p f).d3hot ≠ on) :
    exec (.d3hotTransition p f on) s = .next ((s.setFunc p f { s.func p f with d3hot := on }).releaseFn p f) :=
  next_when (by rw [hf, bne_iff_ne.mpr hd]; rfl)

theorem exec_msixEnableChange {on mask : Bool} (hf : (s.func p f).here = true) :
    exec (.msixEnableChange p f on mask) s =
      .next ((s.setFunc p f { s.func p f with msixEn := on, msixMask := mask }).releaseFn p f) := next_when hf

/-- What two functions of one core share of their enables. -/
theorem Func.of_core {x y : Func} (h : x.core = y.core) :
    x.bme = y.bme ∧ x.d3hot = y.d3hot ∧ x.msixEn = y.msixEn ∧ x.msixMask = y.msixMask := by
  have e : ∀ {α : Type} (g : Func → α), g x.core = g y.core := fun g => congrArg g h
  exact ⟨e (fun z => z.bme), e (fun z => z.d3hot), e (fun z => z.msixEn), e (fun z => z.msixMask)⟩

/-- The work that resumes when a hold ends leaves the function as it was written, but for its interrupt vectors. -/
theorem State.releaseFn_setFunc (s : State) (p f : Nat) (x : Func) : (((s.setFunc p f x).releaseFn p f).func p f).core = x.core := by
  rw [State.releaseFn_funcsKept, s.setFunc_func]

/-- It leaves every other function as it was, but for its interrupt vectors. -/
theorem State.releaseFn_setFunc_ne (s : State) (x : Func) {a b : Nat} (h : fkey p f ≠ fkey a b) :
    (((s.setFunc p f x).releaseFn p f).func a b).core = (s.func a b).core := by
  rw [State.releaseFn_funcsKept, s.setFunc_func_ne x h]

/-! ### Links (R85, R86, R88, R89, R92) -/

theorem exec_linkUp {speed width : Nat} (hm : s.mayTrain p = true) (hl : (s.port p).linkUp = false) :
    exec (.linkUp p speed width) s = .next (s.trained p speed width) := next_when (by rw [hm, hl]; rfl)

theorem exec_speedChangeRetry {speed width : Nat} (hm : s.mayTrain p = true) (hl : (s.port p).linkUp = true) (hr : (s.port p).rate < 3) :
    exec (.speedChangeRetry p speed width) s = .next (s.trained p speed width) :=
  next_when (by rw [hm, hl, decide_eq_true hr]; rfl)

/-- The training that a retrained link reports, with the note that its rate or its width is another. -/
def State.retrained (s : State) (p speed width : Nat) : State :=
  (s.trained p speed width).setPort p { (s.trained p speed width).port p with
    retrain := ((s.trained p speed width).port p).retrain ||
      (((s.trained p speed width).port p).rate != (s.port p).rate || width != (s.port p).width) }

theorem exec_linkRetrained {speed width : Nat} (hm : s.mayTrain p = true) (hl : (s.port p).linkUp = true) :
    exec (.linkRetrained p speed width) s = .next (s.retrained p speed width) := next_when (by rw [hm, hl]; rfl)

/-- What every training gives (R85, R86): the rate up to MAX_SPEED and the width; below 8 GT/s the attempt is counted. -/
theorem State.trained_link (s : State) (p speed width : Nat) :
    ((s.trained p speed width).port p).linkUp = true ∧ ((s.trained p speed width).port p).rate = min speed s.maxSpeed ∧
      ((s.trained p speed width).port p).width = width ∧
      (((s.trained p speed width).port p).configReady = true ↔ 3 ≤ min speed s.maxSpeed ∧ s.mode.base ≠ .flush) ∧
      ((s.trained p speed width).port p).lowRate =
        (if 3 ≤ min speed s.maxSpeed then (s.port p).lowRate else satAdd 32 (s.port p).lowRate 1) ∧
      ((s.trained p speed width).port p).retrain = (s.port p).retrain := by
  obtain ⟨u, v, h⟩ := s.trained_port p speed width
  rw [h]
  refine ⟨rfl, rfl, rfl, ?_, ?_, rfl⟩
  · show (decide (3 ≤ min speed s.maxSpeed) && decide (s.mode.base ≠ .flush)) = true ↔ _
    rw [Bool.and_eq_true, decide_eq_true_iff, decide_eq_true_iff]
  · exact if_congr decide_eq_true_iff rfl rfl

/-- A retrained link notes a change of rate or width beside what every training gives. -/
theorem State.retrained_link (s : State) (p speed width : Nat) :
    ((s.retrained p speed width).port p).rate = min speed s.maxSpeed ∧ ((s.retrained p speed width).port p).width = width ∧
      (((s.retrained p speed width).port p).retrain = true ↔
        (s.port p).retrain = true ∨ min speed s.maxSpeed ≠ (s.port p).rate ∨ width ≠ (s.port p).width) := by
  obtain ⟨-, hrate, hwidth, -, -, hretrain⟩ := s.trained_link p speed width
  unfold State.retrained
  rw [State.setPort_port]
  refine ⟨hrate, hwidth, ?_⟩
  show (_ || (_ || _)) = true ↔ _
  rw [hrate, hretrain, Bool.or_eq_true, Bool.or_eq_true, bne_iff_ne, bne_iff_ne]

theorem exec_l0pDecision {width : Nat} (hc : s.cfgB 0x2000 3 = true) (hl : (s.port p).linkUp = true) (hr : 3 ≤ (s.port p).rate)
    (hw : [2, 4, 8, 16].contains width = true) (hm : width ≤ (s.port p).width) :
    exec (.l0pDecision p width) s = .next ((s.setPort p { s.port p with
      l0pWidth := if width = (s.port p).width then 0 else width }).emit (.l0pRequest p width)) :=
  next_when (by rw [hc, hl, hw, decide_eq_true hr, decide_eq_true hm]; rfl)

theorem exec_l1IdleEntry (hl : (s.port p).linkUp = true) (hc : s.crispOn p = false) (ht : s.cfg 0x2000 4 ≠ 0) (h1 : (s.port p).l1 = false) :
    exec (.l1IdleEntry p) s = .next (((s.setPort p { s.port p with l1 := true }).emit (.l1Request p)).ltrUpdate p) :=
  next_when (by rw [hl, hc, h1, bne_iff_ne.mpr ht]; rfl)

/-- A latency message is of its own port. -/
theorem State.ltrUpdate_port_ne (s : State) {q : Nat} (h : q ≠ p) : (s.ltrUpdate p).port q = s.port q := by
  unfold State.ltrUpdate
  dsimp only
  split
  · exact s.setPort_port_ne _ h.symm
  · rfl

end Sys2Proof.Machine
end

section
/-! The statement about the ports, their links and the enables of their functions. -/

namespace Sys2Proof

open Machine

/-- Settles O10. -/
theorem portsAndLinks : Obligations.PortsAndLinks := by
  refine ⟨fun s p f r w ha hp hl hv hc => exec_configRequest_retry ⟨ha, hp, hl⟩ hv hc,
    fun s p ha hp hl hc => exec_configRequest_read ⟨ha, hp, hl⟩ hc,
    fun s p f v ha hp hl hc hf => exec_configRequest_write ⟨ha, hp, hl⟩ (by decide) hc hf,
    fun s p f on hf hb => ?_, fun s p f on hf hd => ?_, fun s p f on mask hf => ?_,
    fun s p speed width hm hl => ?_, fun s p speed width hm hl hr => ?_, fun s p speed width hm hl => ?_,
    fun s p width hc hl hr hw hm => exec_l0pDecision hc hl hr hw hm, fun s p hl hc ht h1 => ?_⟩
  · obtain ⟨bme, -⟩ := Func.of_core (s.releaseFn_setFunc p f { s.func p f with bme := on })
    exact ⟨_, exec_busMasterEnableChange hf hb, bme, fun a b hne => s.releaseFn_setFunc_ne _ hne.symm⟩
  · obtain ⟨-, d3hot, -⟩ := Func.of_core (s.releaseFn_setFunc p f { s.func p f with d3hot := on })
    exact ⟨_, exec_d3hotTransition hf hd, d3hot⟩
  · obtain ⟨-, -, msixEn, msixMask⟩ := Func.of_core (s.releaseFn_setFunc p f { s.func p f with msixEn := on, msixMask := mask })
    exact ⟨_, exec_msixEnableChange hf, msixEn, msixMask⟩
  · obtain ⟨up, rate, wide, ready, -, -⟩ := s.trained_link p speed width
    exact ⟨_, exec_linkUp hm hl, up, rate, wide, ready⟩
  · obtain ⟨up, rate, wide, -, low, -⟩ := s.trained_link p speed width
    exact ⟨_, exec_speedChangeRetry hm hl hr, up, rate, wide, low⟩
  · exact ⟨_, exec_linkRetrained hm hl, s.retrained_link p speed width⟩
  · refine ⟨_, exec_l1IdleEntry hl hc ht h1, ?_, fun q hq => ?_⟩
    · obtain ⟨u, hu⟩ := ((s.setPort p { s.port p with l1 := true }).emit (.l1Request p)).ltrUpdate_port p p
      rw [hu, State.emit_port, State.setPort_port]
    · rw [State.ltrUpdate_port_ne _ hq, State.emit_port, State.setPort_port_ne _ _ hq.symm]

end Sys2Proof
end

section
/-! SUPPORT. Requests that fail and invalidations of the translation cache (R96, R98, R131): the counter of the port, the queue that
freezes, and what an invalidation leaves of the cache. -/

namespace Sys2Proof.Machine

variable {s : State}

/-! ### The end of a request (R98) -/

/-- The end of a request changes nothing of a port but the requests that its invalidations wait for. -/
theorem State.dmaEnd_portsKept (s : State) (r : Nat) : PortsKept s (s.dmaEnd r) := by
  unfold State.dmaEnd
  refine PortsKept.step (PortsKept.of_chg (State.dmaPump_chg _) (by decide)) ?_
  exact PortsKept.step (t := { s with dmas := Tbl.erase r s.dmas }) (PortsKept.setPort _ _ _ rfl) (PortsKept.of_ports rfl)

theorem PortsKept.dmaErrors {t : State} (h : PortsKept s t) (p : Nat) : (t.port p).dmaErrors = (s.port p).dmaErrors := by
  show (t.port p).core.dmaErrors = (s.port p).core.dmaErrors
  rw [h p]

/-- A failed request, reported through AER, ended, and counted on its port. -/
def State.dmaCounted (s : State) (r bit : Nat) (what : String) : State :=
  let d := Tbl.get {} s.dmas r
  let s1 := (s.aerReport d.port d.fn bit what).dmaEnd r
  s1.setPort d.port { s1.port d.port with dmaErrors := satAdd 32 (s1.port d.port).dmaErrors 1 }

theorem State.dmaCounted_dmaErrors (s : State) (r bit : Nat) (what : String) :
    ((s.dmaCounted r bit what).port (Tbl.get {} s.dmas r).port).dmaErrors =
      satAdd 32 (s.port (Tbl.get {} s.dmas r).port).dmaErrors 1 := by
  have ended : PortsKept s ((s.aerReport (Tbl.get {} s.dmas r).port (Tbl.get {} s.dmas r).fn bit what).dmaEnd r) :=
    PortsKept.step (State.dmaEnd_portsKept _ r) (PortsKept.of_chg (s.aerReport_chg ..) (by decide))
  unfold State.dmaCounted
  rw [State.setPort_port]
  exact congrArg (satAdd 32 · 1) (ended.dmaErrors _)

/-- What a failed request was for ends beside its port: a queue freezes, or a command ends with a status. -/
theorem State.dmaFail_ports (s : State) (r bit : Nat) (what : String) : (s.dmaFail r bit what).ports = (s.dmaCounted r bit what).ports := by
  have ends : ∀ (u : State) (t : Nat) (st : Status), ((u.dmaCancel t).commitTag t st).ports = u.ports := fun u t st =>
    ((State.commitTag_chg ..).ports rfl).trans ((u.dmaCancel_chg t).ports rfl)
  unfold State.dmaFail
  dsimp only
  cases (Tbl.get {} s.dmas r).use with
  | none => rfl
  | some u =>
    cases u with
    | entries q => exact (State.freezeSq_chg _ q).ports rfl
    | cqEntry cq q cid st dw0 dw1 => exact (State.freezeCq_chg _ cq _).ports rfl
    | blockData t b off => exact ends ..
    | list t => exact ends ..
    | infoData t off => exact ends ..
    | infoList t => exact ends ..
    | hostOut t addr data => exact ends ..
    | stale n => rfl

theorem State.dmaFail_entries {r : Nat} {q : QKey} (h : (Tbl.get {} s.dmas r).use = some (.entries q)) (bit : Nat) (what : String) :
    s.dmaFail r bit what = (s.dmaCounted r bit what).freezeSq q := by
  unfold State.dmaFail
  simp only [h]
  rfl

/-- R131: the report of a freeze leaves the queue frozen. -/
theorem State.freezeSq_frozen (s : State) (q : QKey) : ((s.freezeSq q).sq q).frozen = true := by
  unfold State.freezeSq
  rw [(State.freezeReport_chg ..).sq_eq rfl, State.setSq_sq]

theorem exec_dmaRequestFailure {r : Nat} (h : (Tbl.get {} s.dmas r).use.isSome = true) (why : DmaFail) :
    exec (.dmaRequestFailure r why) s = .next (s.dmaFail r (dmaFailKind why).1 (dmaFailKind why).2) := next_when h

theorem exec_completionTimeout {r : Nat} (h : (Tbl.get {} s.dmas r).use.isSome = true) :
    exec (.completionTimeout r) s = .next (s.dmaFail r aerTimeout "Completion Timeout") := next_when h

/-! ### Invalidations (R96) -/

/-- The requests that use a translation which an invalidation matches. -/
def State.atsWaits (s : State) (p f : Nat) (pasid page : Option Nat) : List Nat :=
  (s.dmas.filter (fun d => d.2.port == p && AtcEntry.hit ⟨d.2.fn, d.2.pasid, d.2.addr / 4096⟩ f pasid page)).map (fun d => d.1)

theorem exec_atsInvalidationRequest {p f itag : Nat} {pasid page : Option Nat} (hf : (s.func p f).here = true)
    (hl : (s.port p).invalidations.length < 32) : exec (.atsInvalidationRequest p f itag pasid page) s =
      .next (s.setPort p { s.port p with
        atc := (s.port p).atc.filter (fun e => !e.hit f pasid page)
        invalidations := (s.port p).invalidations ++ [⟨itag, s.atsWaits p f pasid page⟩] }) :=
  next_when (by rw [hf, decide_eq_true hl]; rfl)

theorem exec_invalidationComplete {p itag : Nat}
    (h : (s.port p).invalidations.any (fun v => v.itag == itag && v.waits.isEmpty) = true) :
    exec (.invalidationComplete p itag) s = .next ((s.setPort p { s.port p with
      invalidations := (s.port p).invalidations.filter (fun v => v.itag != itag)
      atsInvalidations := satAdd 64 (s.port p).atsInvalidations 1 }).emit (.invalidationCompletion p itag)) := next_when h

end Sys2Proof.Machine
end

section
/-! The statement about failed requests and invalidations. -/

namespace Sys2Proof

open Machine

/-- A failed request counts on its port, and the queue whose entries it fetched freezes. -/
theorem dmaFail_counts (s : State) (r bit : Nat) (what : String) :
    ((s.dmaFail r bit what).port (Tbl.get {} s.dmas r).port).dmaErrors = satAdd 32 (s.port (Tbl.get {} s.dmas r).port).dmaErrors 1 ∧
      (∀ q, (Tbl.get {} s.dmas r).use = some (.entries q) → ((s.dmaFail r bit what).sq q).frozen = true) := by
  refine ⟨?_, fun q hq => ?_⟩
  · have counted := s.dmaCounted_dmaErrors r bit what
    unfold State.port at counted ⊢
    rw [s.dmaFail_ports]
    exact counted
  · rw [State.dmaFail_entries hq]
    exact State.freezeSq_frozen _ q

/-- Settles O11. -/
theorem failedRequests : Obligations.FailedRequests := by
  refine ⟨fun s r why h => ⟨_, exec_dmaRequestFailure h why, dmaFail_counts ..⟩,
    fun s r h => ⟨_, exec_completionTimeout h, dmaFail_counts ..⟩,
    fun s p f itag pasid page hf hl => ⟨_, exec_atsInvalidationRequest hf hl, fun e => ?_, s.atsWaits p f pasid page, ?_⟩,
    fun s p itag h => ⟨_, exec_invalidationComplete h, fun v hv => ?_, rfl⟩⟩
  · rw [State.setPort_port, List.mem_filter, Bool.not_eq_true']
  · rw [State.setPort_port]
  · rw [State.emit_port, State.setPort_port] at hv
    exact bne_iff_ne.mp (List.mem_filter.mp hv).2

end Sys2Proof
end

section
/-! SUPPORT. The resets of a port and of the subsystem (R99, R102, R108): what a port reset leaves of its port, and one equation for each
command. -/

namespace Sys2Proof.Machine

variable {s : State} {p : Nat}

/-- What a reset of kind `kind` leaves of a port, and of the slices that were bound there. -/
structure State.PortDown (s t : State) (p kind : Nat) : Prop where
  linkUp : (t.port p).linkUp = false
  lastReset : (t.port p).lastReset = kind
  cmb : (t.port p).cmb = []
  shut : ∀ n, (s.slice n).st = .bound → s.slPort n = p → (t.slice n).shut

theorem State.portReset_down (s : State) (p kind : Nat) (sticky : Bool) : s.PortDown (s.portReset p kind sticky) p kind := by
  obtain ⟨linkUp, lastReset, cmb, -⟩ := Port.of_core (s.portReset_core p kind sticky)
  exact ⟨linkUp, lastReset, cmb, fun n hb hp => s.portReset_shut p kind sticky hb hp⟩

theorem State.portReset_perst (s : State) (p kind : Nat) (sticky : Bool) : ((s.portReset p kind sticky).port p).perst = (s.port p).perst := by
  obtain ⟨-, -, -, perst, -⟩ := Port.of_core (s.portReset_core p kind sticky)
  exact perst

theorem State.portReset_dlDowns (s : State) (p kind : Nat) (sticky : Bool) :
    ((s.portReset p kind sticky).port p).dlDowns = (s.port p).dlDowns := by
  obtain ⟨-, -, -, -, dlDowns, -⟩ := Port.of_core (s.portReset_core p kind sticky)
  exact dlDowns

/-- A fundamental reset leaves nothing of the physical function. -/
theorem State.portReset_func_fundamental (s : State) (p kind : Nat) : (s.portReset p kind false).func p 0 = {} :=
  s.portReset_func p kind false (fun x => x = {}) fun _ => rfl

/-- Any other reset of the port takes the physical function away, and its controller is disabled. -/
theorem State.portReset_func_sticky (s : State) (p kind : Nat) :
    ((s.portReset p kind true).func p 0).here = false ∧ ((s.portReset p kind true).func p 0).ccEn = false :=
  s.portReset_func p kind true (fun x => x.here = false ∧ x.ccEn = false) fun _ => ⟨rfl, rfl⟩

/-! ### PERST# -/

/-- The port whose PERST# is asserted. -/
def State.perstSeen (s : State) (p : Nat) : State := s.setPort p { s.port p with perst := true }

theorem exec_perstAssert_down (hp : p < 2) (ha : s.awake = true) (hx : s.portExists p = true) :
    exec (.perstAssert p) s = .next ((s.perstSeen p).portReset p 1 false) :=
  (next_when (decide_eq_true hp)).trans (congrArg Host.Outcome.next (if_pos (by rw [ha, hx]; rfl)))

theorem exec_perstAssert_pin (hp : p < 2) (h : ¬(s.awake = true ∧ s.portExists p = true)) :
    exec (.perstAssert p) s = .next (s.perstSeen p) :=
  (next_when (decide_eq_true hp)).trans (congrArg Host.Outcome.next (if_neg (by rw [Bool.and_eq_true]; exact h)))

/-! ### Hot reset, link disable, DL_Down, the subsystem -/

theorem exec_hotReset (ha : s.awake = true) (hl : (s.port p).linkUp = true) : exec (.hotReset p) s = .next (s.portReset p 2 true) :=
  next_when (by rw [ha, hl]; rfl)

theorem exec_linkDisable (ha : s.awake = true) (hl : (s.port p).linkUp = true) :
    exec (.linkDisable p) s = .next (s.portReset p 3 true) := next_when (by rw [ha, hl]; rfl)

theorem exec_dlDown (ha : s.awake = true) (hx : s.portExists p = true) (hl : (s.port p).linkUp = true) :
    exec (.dlDown p) s = .next (s.linkLost p) := next_when (by rw [ha, hx, hl]; rfl)

/-- DL_Down is a port reset that is counted. -/
theorem State.linkLost_down (s : State) (p : Nat) : s.PortDown (s.linkLost p) p 4 := by
  obtain ⟨linkUp, lastReset, cmb, shut⟩ := s.portReset_down p 4 true
  unfold State.linkLost
  constructor <;> simp only [State.setPort_port, State.setPort_slice]
  · exact linkUp
  · exact lastReset
  · exact cmb
  · exact shut

theorem State.linkLost_func (s : State) (p a b : Nat) : (s.linkLost p).func a b = (s.portReset p 4 true).func a b := by
  unfold State.linkLost
  rw [State.setPort_func]

theorem State.linkLost_dlDowns (s : State) (p : Nat) : ((s.linkLost p).port p).dlDowns = satAdd 32 (s.port p).dlDowns 1 := by
  unfold State.linkLost
  rw [State.setPort_port, State.portReset_dlDowns]

theorem exec_nvmSubsystemReset_single (hr : s.reaches p 0 = true) (hd : s.dual = false) :
    exec (.nvmSubsystemReset p) s = .next (s.portReset 0 5 false) :=
  (next_when hr).trans (congrArg Host.Outcome.next (if_neg (by rw [hd]; exact Bool.false_ne_true)))

end Sys2Proof.Machine
end

section
/-! The statement about the resets of a port and of the subsystem. -/

namespace Sys2Proof

open Machine

/-- Settles O12. -/
theorem linkResets : Obligations.LinkResets := by
  refine ⟨fun s p hp => ?_, fun s p ha hl => ?_, fun s p ha hl => ?_, fun s p ha hx hl => ?_, fun s p hr hd => ?_⟩
  · by_cases h : s.awake = true ∧ s.portExists p = true
    · obtain ⟨linkUp, lastReset, cmb, shut⟩ := (s.perstSeen p).portReset_down p 1 false
      refine ⟨_, exec_perstAssert_down hp h.1 h.2, ?_, fun _ _ => ⟨linkUp, lastReset, cmb, State.portReset_func_fundamental .., shut⟩⟩
      rw [State.portReset_perst, State.perstSeen, State.setPort_port]
    · exact ⟨_, exec_perstAssert_pin hp h, congrArg Port.perst (s.setPort_port p _), fun ha hx => absurd ⟨ha, hx⟩ h⟩
  · obtain ⟨linkUp, lastReset, cmb, shut⟩ := s.portReset_down p 2 true
    obtain ⟨gone, off⟩ := s.portReset_func_sticky p 2
    exact ⟨_, exec_hotReset ha hl, linkUp, lastReset, cmb, gone, off, shut⟩
  · obtain ⟨linkUp, lastReset, cmb, shut⟩ := s.portReset_down p 3 true
    obtain ⟨gone, off⟩ := s.portReset_func_sticky p 3
    exact ⟨_, exec_linkDisable ha hl, linkUp, lastReset, cmb, gone, off, shut⟩
  · obtain ⟨linkUp, lastReset, cmb, shut⟩ := s.linkLost_down p
    obtain ⟨gone, -⟩ := s.portReset_func_sticky p 4
    rw [← State.linkLost_func] at gone
    exact ⟨_, exec_dlDown ha hx hl, linkUp, lastReset, cmb, s.linkLost_dlDowns p, gone, shut⟩
  · obtain ⟨linkUp, lastReset, cmb, shut⟩ := s.portReset_down 0 5 false
    exact ⟨_, exec_nvmSubsystemReset_single hr hd, linkUp, lastReset, cmb, s.portReset_func_fundamental 0 5, shut⟩

end Sys2Proof
end

section
/-! SUPPORT. The resets of functions, the enabling of a controller and the shutdown of one (R99, R100, R101, R108): what each leaves of
the function, and one equation for each command and case. -/

namespace Sys2Proof.Machine

variable {s : State} {p f : Nat}

/-! ### Functions of a port (R99) -/

theorem State.zero_mem_funcsOf (s : State) (p : Nat) : 0 ∈ s.funcsOf p := List.mem_dedup.mpr List.mem_cons_self

theorem State.slFn_mem_funcsOf {n : Nat} (hb : (s.slice n).st = .bound) (hp : s.slPort n = p) : s.slFn n ∈ s.funcsOf p := by
  have bound : n ∈ s.boundSlices := (List.mem_filter.mp (State.mem_slicesOn (Slice.shut_isBound (.inl hb)) hp rfl)).1
  have onPort : n ∈ s.slicesOnPort p := List.mem_filter.mpr ⟨bound, beq_iff_eq.mpr hp⟩
  exact List.mem_dedup.mpr (List.mem_append_right _ (List.mem_map_of_mem onPort))

/-- The reset of some functions leaves the link and the buffer of their port. -/
theorem State.funcsReset_port (s : State) (p : Nat) (fs : List Nat) (keep : Nat → Func → Func) :
    ((s.funcsReset p fs keep).port p).linkUp = (s.port p).linkUp ∧ ((s.funcsReset p fs keep).port p).cmb = (s.port p).cmb := by
  obtain ⟨linkUp, -, cmb, -⟩ := Port.of_core (s.funcsReset_portsKept p fs keep p)
  exact ⟨linkUp, cmb⟩

/-- A reset function is what the reset makes of it, when that does not depend on what it was. -/
theorem State.funcsReset_func_eq (s : State) {fs : List Nat} {keep : Nat → Func → Func} {y : Func} (hk : ∀ x, keep f x = y) (hf : f ∈ fs) :
    (s.funcsReset p fs keep).func p f = y := s.funcsReset_func p fs keep (fun x => x = y) hk hf

/-- What a function level reset of the physical function leaves of each function: it alone stays. -/
def pfAfter (f : Nat) (_ : Func) : Func := if f = 0 then { here := true } else {}

theorem exec_pfFunctionLevelReset (ha : s.awake = true) (hf : (s.func p 0).here = true) :
    exec (.pfFunctionLevelReset p) s = .next (s.funcsReset p (s.funcsOf p) pfAfter) := next_when (by rw [ha, hf]; rfl)

theorem exec_vfFunctionLevelReset (ha : s.awake = true) (h0 : f ≠ 0) (hf : (s.func p f).here = true) :
    exec (.vfFunctionLevelReset p f) s = .next (s.funcsReset p [f] fun _ _ => { here := true }) :=
  next_when (by rw [ha, hf, bne_iff_ne.mpr h0]; rfl)

/-- The virtual functions of a port. -/
def State.vfsOf (s : State) (p : Nat) : List Nat := (s.funcsOf p).filter (fun f => f != 0)

theorem State.mem_vfsOf (hf : f ∈ s.funcsOf p) (h0 : f ≠ 0) : f ∈ s.vfsOf p := List.mem_filter.mpr ⟨hf, bne_iff_ne.mpr h0⟩

theorem exec_vfEnableCleared (ha : s.awake = true) (hv : s.vfOn p = true) :
    exec (.vfEnableCleared p) s = .next (s.funcsReset p (s.vfsOf p) fun _ _ => {}) := next_when (by rw [ha, hv]; rfl)

/-! ### Controllers (R99, R100, R108) -/

theorem exec_controllerReset (hr : s.reaches p f = true) (he : (s.func p f).ccEn = true) :
    exec (.controllerReset p f) s = .next (s.ctrlReset p f) := next_when (by rw [hr, he]; rfl)

theorem State.ctrlReset_func (s : State) (p f : Nat) : ∃ x : Func, (s.ctrlReset p f).func p f =
    { x with ccEn := false, crime := false, cc := x.cc / 2 * 2, rdy := false, cfs := false, shst := 0, intMask := 0 } := by
  unfold State.ctrlReset
  exact ⟨_, State.setFunc_func ..⟩

/-- A function whose CC.EN is set, before its controller is ready or has failed. -/
def State.ctrlOn (s : State) (p f : Nat) (crime : Bool) : State :=
  s.setFunc p f { s.func p f with
    ccEn := true, crime := crime
    cc := (s.func p f).cc / 2 * 2 % 2 ^ 24 + (s.func p f).cc / 2 ^ 25 * 2 ^ 25 + 1 + bitIf crime 24 }

theorem exec_controllerEnable_serves {crime : Bool} (hr : s.reaches p f = true) (he : (s.func p f).ccEn = false)
    (hb : s.badBases p f = false) (hm : s.mode.fatal = 0) : exec (.controllerEnable p f crime) s =
      .next (((s.ctrlOn p f crime).stdAdmin p f).setFunc p f { ((s.ctrlOn p f crime).stdAdmin p f).func p f with
        rdy := crime || s.mode.mapReady }) :=
  (next_when (by rw [hr, he]; rfl)).trans (congrArg Host.Outcome.next (if_neg (by rw [hb, hm]; exact Bool.false_ne_true)))

theorem exec_controllerEnable_fails {crime : Bool} (hr : s.reaches p f = true) (he : (s.func p f).ccEn = false)
    (h : s.badBases p f = true ∨ s.mode.fatal ≠ 0) : exec (.controllerEnable p f crime) s =
      .next ((s.ctrlOn p f crime).setFunc p f { (s.ctrlOn p f crime).func p f with cfs := true }) :=
  (next_when (by rw [hr, he]; rfl)).trans
    (congrArg Host.Outcome.next (if_pos (by rw [Bool.or_eq_true, bne_iff_ne]; exact h)))

theorem State.stdAdmin_func (s : State) (p f a b : Nat) : (s.stdAdmin p f).func a b = s.func a b := rfl

theorem State.stdAdmin_sq (s : State) (p f : Nat) : ((s.stdAdmin p f).sq (.std p f 0)).live = true ∧
    ((s.stdAdmin p f).sq (.std p f 0)).size = (s.func p f).aqa % 4096 + 1 := by
  unfold State.stdAdmin
  rw [State.setCq_sq, State.setSq_sq]
  exact ⟨rfl, rfl⟩

theorem State.stdAdmin_cq (s : State) (p f : Nat) : ((s.stdAdmin p f).cq (.std p f 0)).live = true ∧
    ((s.stdAdmin p f).cq (.std p f 0)).base = (s.func p f).acq := by
  unfold State.stdAdmin
  rw [State.setCq_cq]
  exact ⟨rfl, rfl⟩

/-! ### Shutdown (R101) -/

/-- A function whose shutdown is complete. -/
def Func.shutDone (x : Func) : Func := if x.shst = 1 then { x with shst := 2 } else x

/-- Both branches leave the functions as they were. -/
theorem State.ite_funcs {a b : State} {c : Prop} [Decidable c] (ha : a.funcs = s.funcs) (hb : b.funcs = s.funcs) :
    (if c then a else b).funcs = s.funcs := by
  split
  · exact ha
  · exact hb

/-- All that the watch on shutdown and Maintenance entry does to the functions is to complete the shutdowns in progress. -/
theorem State.settleWatch_funcs (s : State) :
    s.settleWatch.funcs = s.funcs ∨ s.settleWatch.funcs = s.funcs.map (fun x => (x.1, x.2.shutDone)) := by
  unfold State.settleWatch
  split
  · exact .inl rfl
  · extract_lets entering s1 s2 s3 mode
    have drained : s1.funcs = s.funcs := State.ite_funcs (((State.drainZones_chg ..).funcs rfl).trans (s.drain_chg.funcs rfl)) rfl
    have noted : s3.funcs = s2.funcs := ((State.closeTail_chg _).funcs rfl).trans (s2.checkpoint_chg.funcs rfl)
    split
    · rw [State.ite_funcs (s := s2) (by exact noted) rfl, ← drained]
      by_cases hs : s1.shutting = true
      · have done : s2 = State.stopRecord { s1 with funcs := s1.funcs.map (fun x => (x.1, x.2.shutDone)) } 1 := if_pos hs
        exact .inr (by rw [done]; exact (State.stopRecord_chg ..).funcs rfl)
      · have same : s2 = s1 := if_neg hs
        exact .inl (by rw [same])
    · exact .inl drained

/-- A shutdown in progress stays so or is complete. -/
theorem State.settleWatch_shst (h : (s.func p f).shst = 1) : (s.settleWatch.func p f).shst = 1 ∨ (s.settleWatch.func p f).shst = 2 := by
  unfold State.func at h ⊢
  rcases s.settleWatch_funcs with e | e
  · exact .inl (by rw [e, h])
  · rw [e, Tbl.get_map (g := Func.shutDone) rfl]
    right
    unfold Func.shutDone
    rw [if_pos h]

/-- The function whose CC.SHN asks for a shutdown. -/
def State.shutAsked (s : State) (p f : Nat) : State :=
  s.setFunc p f { s.func p f with shst := 1, cc := (s.func p f).cc - bitsOf (s.func p f).cc 15 14 * 2 ^ 14 + 2 ^ 14 }

theorem exec_shutdownNotification (hr : s.reaches p f = true) (he : (s.func p f).ccEn = true) (h0 : (s.func p f).shst = 0) :
    exec (.shutdownNotification p f) s = .next (s.shutAsked p f).settleWatch := next_when (by rw [hr, he, h0]; rfl)

/-! ### PERST# -/

theorem exec_perstDeassert (hx : s.portExists p = true) (hp : (s.port p).perst = true) :
    exec (.perstDeassert p) s = .next (s.setPort p { s.port p with perst := false, attempts := 0 }) := next_when (by rw [hx, hp]; rfl)

end Sys2Proof.Machine
end

section
/-! The statement about the resets of a function, the enabling of a controller and its shutdown. -/

namespace Sys2Proof

open Machine

/-- Settles O13. -/
theorem functionResets : Obligations.FunctionResets := by
  refine ⟨fun s p ha hf => ?_, fun s p f ha h0 hf => ?_, fun s p ha hv => ?_, fun s p f hr he => ?_, fun s p f crime hr he hb hm => ?_,
    fun s p f crime hr he hbad => ?_, fun s p f hr he h0 => ?_, fun s p hx hp => exec_perstDeassert hx hp⟩
  · obtain ⟨linkUp, cmb⟩ := s.funcsReset_port p (s.funcsOf p) pfAfter
    exact ⟨_, exec_pfFunctionLevelReset ha hf, s.funcsReset_func_eq (fun _ => if_pos rfl) (s.zero_mem_funcsOf p), linkUp, cmb,
      s.funcsReset_atc p _ _, fun n hb hp => s.funcsReset_shut p _ _ hb hp (State.slFn_mem_funcsOf hb hp)⟩
  · have atc := s.funcsReset_atc p [f] fun _ _ => { here := true }
    exact ⟨_, exec_vfFunctionLevelReset ha h0 hf, s.funcsReset_func_eq (fun _ => rfl) List.mem_cons_self, (s.funcsReset_port p _ _).1,
      fun e he heq => atc e he (List.mem_singleton.mpr heq), fun n hb hp hn => s.funcsReset_shut p _ _ hb hp (List.mem_singleton.mpr hn)⟩
  · exact ⟨_, exec_vfEnableCleared ha hv, fun f hf h0 => s.funcsReset_func_eq (fun _ => rfl) (State.mem_vfsOf hf h0),
      (s.funcsReset_port p _ _).1, fun n hb hp hf h0 => s.funcsReset_shut p _ _ hb hp (State.mem_vfsOf hf h0)⟩
  · obtain ⟨x, hx⟩ := s.ctrlReset_func p f
    obtain ⟨linkUp, -, cmb, -⟩ := Port.of_core (s.ctrlReset_portsKept p f p)
    refine ⟨_, exec_controllerReset hr he, ?_⟩
    rw [hx]
    exact ⟨rfl, rfl, rfl, rfl, linkUp, cmb⟩
  · obtain ⟨live, size⟩ := (s.ctrlOn p f crime).stdAdmin_sq p f
    obtain ⟨cqLive, base⟩ := (s.ctrlOn p f crime).stdAdmin_cq p f
    refine ⟨_, exec_controllerEnable_serves hr he hb hm, ?_⟩
    unfold State.ctrlOn at live size cqLive base ⊢
    rw [State.setFunc_func] at size base
    simp only [State.setFunc_func, State.setFunc_sq, State.setFunc_cq, State.stdAdmin_func, true_and]
    exact ⟨live, size, cqLive, base⟩
  · refine ⟨_, exec_controllerEnable_fails hr he hbad, ?_⟩
    unfold State.ctrlOn
    simp only [State.setFunc_func, State.setFunc_sqs, State.setFunc_cqs, and_self]
  · exact ⟨_, exec_shutdownNotification hr he h0, State.settleWatch_shst (congrArg Func.shst (s.setFunc_func p f _))⟩

end Sys2Proof
end

section
/-! SUPPORT. A command from its steps to its completion (R113, R122 to R133, R224, R377 to R380): one equation for each command and
case, and what steps, completions, returned buffers, restarted queues and fills leave. -/

namespace Sys2Proof.Machine

variable {s : State}

/-! ### Steps (R11, R122) -/

theorem exec_stepComplete_done {tag : Nat} {p : PStep} (hn : (s.tag tag).nextStep = some p) (hi : (s.tag tag).inFlight = true)
    (hr : (s.tag tag).st = .run) (hm : p.kind ≠ .mapupd) (hd : s.stepDone tag p = true) :
    exec (.stepComplete tag .done) s = .next (s.stepNext tag p) := by
  show execStepComplete tag .done s = _
  unfold execStepComplete
  simp only [hn, hi, hr, hm, Bool.not_true, Bool.false_eq_true, if_false, decide_false, Bool.false_and, State.when_true _ hd]

/-- The status of an error is committed, and the step is no longer under way. -/
def State.stepFailed (s : State) (tag sct sc : Nat) : State :=
  (s.commitTag tag ⟨sct, sc⟩).setTag tag { (s.commitTag tag ⟨sct, sc⟩).tag tag with inFlight := false }

theorem exec_stepComplete_error {tag sct sc : Nat} {p : PStep} (hn : (s.tag tag).nextStep = some p) (hi : (s.tag tag).inFlight = true)
    (hr : (s.tag tag).st = .run) : exec (.stepComplete tag (.error sct sc)) s = .next (s.stepFailed tag sct sc) := by
  show execStepComplete tag (.error sct sc) s = _
  unfold execStepComplete
  simp only [hn, hi, hr, Bool.not_true, Bool.false_eq_true, if_false]
  rfl

/-- Only the transform step and the map update do something of their own as they end. -/
theorem State.stepEffect_of_mover {tag : Nat} {p : PStep} (hm : p.kind ≠ .mapupd) (hx : p.kind ≠ .xform) : s.stepEffect tag p = s := by
  unfold State.stepEffect
  split
  · exact absurd ‹_› hx
  · exact absurd ‹_› hm
  · rfl

/-- A finished step of a running command is counted, and the command goes on. -/
theorem State.stepNext_mover {tag : Nat} {p : PStep} (hr : (s.tag tag).st = .run) (hm : p.kind ≠ .mapupd) (hx : p.kind ≠ .xform) :
    ((s.stepNext tag p).tag tag).stepsDone = (s.tag tag).stepsDone + 1 ∧ ((s.stepNext tag p).tag tag).sqe = (s.tag tag).sqe := by
  have next : s.stepNext tag p =
      (s.setTag tag { s.tag tag with stepsDone := (s.tag tag).stepsDone + 1, inFlight := false }).advance tag := by
    unfold State.stepNext
    rw [State.stepEffect_of_mover hm hx]
    exact if_pos (by rw [hr]; rfl)
  have onward := State.advance_tagsKept (s.setTag tag { s.tag tag with stepsDone := (s.tag tag).stepsDone + 1, inFlight := false }) tag tag
  rw [State.setTag_tag] at onward
  rw [next]
  exact ⟨onward.stepsDone, onward.sqe⟩

/-! ### The completion (R122, R131) -/

/-- The end of a reservation changes no other tag. -/
theorem State.poolRelease_tag_ne (s : State) {t k : Nat} (h : t ≠ k) : (s.poolRelease t).tag k = s.tag k := s.setTag_tag_ne _ h

/-- A commit changes no other tag. -/
theorem State.commitTag_tag_ne (s : State) {t k : Nat} (h : t ≠ k) (st : Status) (a b : Nat) : (s.commitTag t st a b).tag k = s.tag k := by
  have undone : (((s.zoneSettle t true).poolRelease t).dropStaged t).tag k = s.tag k := by
    rw [(State.dropStaged_chg ..).tag_eq rfl, State.poolRelease_tag_ne _ h, (State.zoneSettle_chg ..).tag_eq rfl]
  have posts : ∀ (c : Bool) (x : Tag),
      ((if c then ((s.zoneSettle t true).poolRelease t).dropStaged t else s).setTag t x).tag k = s.tag k := fun c x => by
    rw [State.setTag_tag_ne _ _ h]
    cases c with
    | true => exact undone
    | false => rfl
  unfold State.commitTag
  dsimp only
  split
  · exact posts ..
  · exact posts ..
  · exact posts ..
  · rfl

/-- The watch on a queue that is being deleted ends no command that is over. -/
theorem State.deleteWatch_free {t : Nat} (q : QKey) (h : s.tag t = {}) : (s.deleteWatch q).tag t = {} := by
  have ends : ∀ d, ((s.dropSq q).commitTag d ⟨0, 0⟩).tag t = {} := fun d => by
    by_cases e : d = t
    · subst e
      have free : ((s.dropSq q).tag d).st = .free := congrArg Tag.st h
      rw [State.commitTag_free free]
      exact h
    · exact (State.commitTag_tag_ne _ e ..).trans h
  unfold State.deleteWatch
  split
  · exact h
  · split
    · exact ends _
    · exact h

theorem State.freeTag_tag (s : State) (t : Nat) : (s.freeTag t).tag t = {} := by
  unfold State.freeTag
  exact State.deleteWatch_free _ (State.setTag_tag ..)

theorem State.postTag_tag (s : State) (t : Nat) : (s.postTag t).tag t = {} := State.freeTag_tag ..

theorem State.sampleRead_completions (s : State) (t : Nat) : (s.sampleRead t).sched.completions = s.sched.completions + 1 := by
  unfold State.sampleRead
  dsimp only
  split <;> rfl

/-- The state after a completion is posted. -/
def State.completed (s : State) (t : Nat) : State := ((((s.readError t).sampleRead t).zoneEndWatch t).postTag t).settleWatch

theorem exec_completionPost {tag : Nat} (hm : (s.tag tag).mi = none) (hr : s.postReady tag = true) (hp : s.portPosts tag = true) :
    exec (.completionPost tag) s = .next (s.completed tag) := by
  show execCompletionPost tag s = _
  unfold execCompletionPost
  simp only [hm]
  exact next_when (by rw [hr, hp]; rfl)

theorem State.completed_tag (s : State) (t : Nat) : (s.completed t).tag t = {} := by
  unfold State.completed
  rw [(State.settleWatch_chg _).tag_eq rfl, State.postTag_tag]

theorem State.completed_completions (s : State) (t : Nat) : (s.completed t).sched.completions = s.sched.completions + 1 := by
  unfold State.completed
  rw [(State.settleWatch_chg _).sched rfl, (State.postTag_chg ..).sched rfl, (State.zoneEndWatch_chg ..).sched rfl,
    State.sampleRead_completions, (State.readError_chg ..).sched rfl]

/-! ### Returned buffers (R379, R380) -/

/-- A return reaches its pool with the pools as the last commit of 7900h left them. -/
theorem exec_bufferReturn {a z n : Nat} (ha : s.awake = true) (hn : 0 < n) :
    ∃ u : State, u.chip = (s.boundary 0x7900).chip ∧ exec (.bufferReturn a z n) s = .next (u.bufReturn a z n) := by
  refine ⟨_, ?_, next_when (by rw [ha, decide_eq_true hn]; rfl)⟩
  split
  · exact (State.setTag_chg ..).chip rfl
  · rfl

/-- Without a waiting request a return serves none. -/
theorem State.bufServe_idle (h : s.chip.waitq = []) : s.bufServe.chip = s.chip := by
  unfold State.bufServe
  simp only [h, sortBy, List.foldl_nil, List.filter_nil]
  rw [← h]

/-- The pool that buffers were returned to. -/
def State.bufGiven (s : State) (a z n : Nat) : State :=
  { s with chip := { s.chip with inUse := Tbl.modify 0 s.chip.inUse (bufKey a z) (fun v => v - n) } }

theorem State.bufReturn_good {a z n : Nat} (hw : s.chip.waitq = []) (hn : n ≤ Tbl.get 0 s.chip.inUse (bufKey a z)) :
    Tbl.get 0 (s.bufReturn a z n).chip.inUse (bufKey a z) = Tbl.get 0 s.chip.inUse (bufKey a z) - n := by
  have served : s.bufReturn a z n = (s.bufGiven a z n).bufServe := if_pos hn
  rw [served, State.bufServe_idle (s := s.bufGiven a z n) hw]
  exact Tbl.get_set_same ..

theorem State.bufReturn_bad {a z n : Nat} (hn : Tbl.get 0 s.chip.inUse (bufKey a z) < n) :
    (s.bufReturn a z n).chip = { s.chip with badReturns := satAdd 32 s.chip.badReturns 1 } := by
  unfold State.bufReturn
  rw [if_neg (Nat.not_le.mpr hn), State.rasRecord_chip]

/-! ### Queue Restart and gathered interrupts (R116, R132) -/

theorem exec_queueRestart_sq {tag : Nat} {q : QKey} (ha : s.adm tag 0xC6 = true) (hc : (s.tag tag).sqe.cdw10.testBit 16 = false)
    (hq : q = (s.tag tag).q.withQid ((s.tag tag).sqe.cdw10 % 65536)) (hl : (s.sq q).live = true) (hf : (s.sq q).frozen = true) :
    exec (.queueRestart tag) s = .next ((s.restart q false).succeed tag) := by
  subst hq
  refine (next_when ha).trans (congrArg Host.Outcome.next ?_)
  dsimp only
  rw [hc]
  exact if_neg (by simp [hl, hf])

/-- A submission queue that is restarted fetches again; no command is touched. -/
theorem State.restart_sq (s : State) (q : QKey) : (s.restart q false).sq q = { s.sq q with frozen := false, fetchFail := false } ∧
    (s.restart q false).tags = s.tags := by
  have fetch := (s.setSq q { s.sq q with frozen := false, fetchFail := false }).fetchAsk_chg q
  exact ⟨(fetch.sq_eq rfl q).trans (s.setSq_sq q _), fetch.tags rfl⟩

theorem exec_interruptCoalescingTimer {q : QKey} (h : 0 < (s.cq q).coalesced) : exec (.interruptCoalescingTimer q) s =
    .next ((s.setCq q { s.cq q with coalesced := 0 }).cqInterrupt q) := next_when (decide_eq_true h)

/-! ### Data that comes back (R97, R153) -/

theorem exec_dmaReadCompletion_block {r tag b off : Nat} {data : List Byte} {d : Dma} (hd : Tbl.get {} s.dmas r = d)
    (hu : d.use = some (.blockData tag b off)) (hl : data.length = d.len) : exec (.dmaReadCompletion r data) s =
      .next ((s.dmaEnd r).dataIn tag fun s => s.partIn tag b off data) := by
  subst hd
  show execDmaReadCompletion r data s = _
  unfold execDmaReadCompletion
  simp only [hu]
  exact next_when (decide_eq_true hl)

theorem exec_dmaReadCompletion_stale {r n : Nat} {data : List Byte} (h : (Tbl.get {} s.dmas r).use = some (.stale (some n))) :
    exec (.dmaReadCompletion r data) s = .next ((s.dmaEnd r).lateDiscard n) := by
  show execDmaReadCompletion r data s = _
  unfold execDmaReadCompletion
  simp only [h]

/-- A part that does not make its block whole only joins the parts before it. -/
theorem State.partIn_parts {tag b off : Nat} {data : List Byte}
    (h : (((s.blk tag b).parts ++ [(off, data)]).map (fun p => p.2.length)).sum ≠ (s.tag tag).blkBytes b) :
    ((s.partIn tag b off data).blk tag b).parts = (s.blk tag b).parts ++ [(off, data)] := by
  have bytes : ((s.setBlk tag b { s.blk tag b with parts := (s.blk tag b).parts ++ [(off, data)] }).tag tag).blkBytes b =
      (s.tag tag).blkBytes b := by
    unfold State.setBlk
    rw [State.setTag_tag]
    rfl
  unfold State.partIn State.blockTry
  dsimp only
  rw [State.setBlk_blk, bytes, if_pos (by rw [Bool.or_eq_true, bne_iff_ne]; exact .inr h), State.setBlk_blk]

theorem State.lateDiscard_slice (s : State) (n : Nat) : ((s.lateDiscard n).slice n).lateDiscards = satAdd 64 (s.slice n).lateDiscards 1 := by
  unfold State.lateDiscard
  rw [State.setPort_slice, State.setSlice_slice]

/-! ### Map fills (R224, R229) -/

theorem exec_mapFillComplete_bad {n p : Nat} {f : Fill} (h : s.fillOf n p = some f) :
    exec (.mapFillComplete n p false) s = .next (s.fillBad f).hmbDone := by
  show execMapFillComplete n p false s = _
  unfold execMapFillComplete
  simp only [h, Bool.false_eq_true, if_false]

/-- A fill from the host memory buffer that fails goes on from flash. -/
theorem State.fillBad_hmb {f : Fill} (h : f.fromHmb = true) : (s.fillBad f).map.flashFills = satAdd 64 s.map.flashFills 1 := by
  unfold State.fillBad
  dsimp only
  rw [if_pos h]
  rfl

end Sys2Proof.Machine
end

section
/-! The statement about the steps of a command and its completion. -/

namespace Sys2Proof

open Machine

/-- Settles O15. -/
theorem stepsAndCompletion : Obligations.StepsAndCompletion := by
  refine ⟨fun s tag p hn hi hr hm hx hd => ⟨_, exec_stepComplete_done hn hi hr hm hd, State.stepNext_mover hr hm hx⟩,
    fun s tag sct sc p hn hi hr hbad => ?_,
    fun s tag hm hr hp => ⟨_, exec_completionPost hm hr hp, s.completed_tag tag, s.completed_completions tag⟩,
    fun s a z n ha hn hw hin => ?_, fun s a z n ha hout => ?_, fun s tag q ha hc hq hl hf => ?_, fun s q hc => ?_,
    fun s r tag b off data d hd hu hl hun _ hsum => ?_, fun s r n data h => ?_, fun s n p f hf hh => ?_⟩
  · obtain ⟨⟨posted, status⟩, -⟩ := State.commitTag_posts (s := s) (by rw [hr]; rfl) ⟨sct, sc⟩ 0 0
    refine ⟨_, exec_stepComplete_error hn hi hr, ?_⟩
    unfold State.stepFailed
    rw [State.setTag_tag, State.setTag_map]
    exact ⟨posted, status, rfl, (State.commitTag_chg ..).map rfl⟩
  · obtain ⟨u, pools, hx⟩ := exec_bufferReturn (a := a) (z := z) ha hn
    rw [← pools] at hw hin ⊢
    exact ⟨_, hx, State.bufReturn_good hw hin⟩
  · obtain ⟨u, pools, hx⟩ := exec_bufferReturn (a := a) (z := z) ha (Nat.zero_lt_of_lt hout)
    rw [← pools] at hout ⊢
    refine ⟨_, hx, ?_⟩
    rw [State.bufReturn_bad hout]
    exact ⟨rfl, rfl⟩
  · obtain ⟨sq, tags⟩ := s.restart_sq q
    have uncommitted : ((s.restart q false).tag tag).st.uncommitted = true := by
      unfold State.tag; rw [tags]; exact State.adm_uncommitted ha
    obtain ⟨⟨posted, status⟩, -⟩ := State.commitTag_posts uncommitted ⟨0, 0⟩ 0 0
    refine ⟨_, exec_queueRestart_sq ha hc hq hl hf, ?_⟩
    rw [(State.succeed_chg ..).sq_eq rfl, sq]
    exact ⟨rfl, rfl, posted, status⟩
  · exact ⟨_, exec_interruptCoalescingTimer hc, ((State.cqInterrupt_chg ..).cq_eq rfl q).trans (s.setCq_cq q _)⟩
  · have ended := s.dmaEnd_chg r
    refine ⟨_, exec_dmaReadCompletion_block hd hu hl, ?_⟩
    unfold State.dataIn
    rw [← ended.tag_eq rfl] at hun
    rw [if_pos hun, State.partIn_parts (by rw [ended.blk_eq rfl, ended.tag_eq rfl]; exact hsum), ended.blk_eq rfl]
  · have ended := s.dmaEnd_chg r
    refine ⟨_, exec_dmaReadCompletion_stale h, ((State.lateDiscard_chg ..).tags rfl).trans (ended.tags rfl), ?_⟩
    rw [State.lateDiscard_slice, ended.slice_eq rfl]
  · refine ⟨_, exec_mapFillComplete_bad hf, ?_⟩
    rw [(State.hmbDone_chg _).map rfl, State.fillBad_hmb hh]

end Sys2Proof
end

section
/-! SUPPORT. What a fetch and an admission go through (R94, R97, R110, R121): the messages that a completion sends stay sent, its
counters, and one equation for a fetch from each memory. -/

namespace Sys2Proof.Machine

variable {s t : State}

/-! ### Messages that stay sent -/

/-- What was sent before is still sent, and comes first. -/
def OutGrows (s t : State) : Prop := s.out <+: t.out

namespace OutGrows

theorem refl (s : State) : OutGrows s s := ⟨[], List.append_nil _⟩

theorem trans {u : State} (h : OutGrows s t) (g : OutGrows t u) : OutGrows s u := List.IsPrefix.trans h g

theorem of_chg {m : Nat} (h : Chg m s t) (hm : m.testBit 1 = false) : OutGrows s t := by
  unfold OutGrows; rw [h.out hm]

theorem emit (s : State) (o : Out) : OutGrows s (s.emit o) := ⟨[o], rfl⟩

theorem ite {c : Prop} [Decidable c] {u : State} (h : OutGrows s t) (g : OutGrows s u) : OutGrows s (if c then t else u) := by
  split
  · exact h
  · exact g

theorem forEach {α : Type} {f : α → State → State} (h : ∀ x t, OutGrows t (f x t)) (s : State) (l : List α) : OutGrows s (s.forEach l f) :=
  State.forEach_induct (P := OutGrows s) (refl s) fun x _ t g => g.trans (h x t)

/-- A message just sent is still there. -/
theorem sent {o : Out} (h : OutGrows (s.emit o) t) : o ∈ t.out :=
  List.IsPrefix.subset h (List.mem_append_right _ (List.mem_singleton.mpr rfl))

end OutGrows

theorem State.dirtyPost_out (s : State) (n w : Nat) : OutGrows s (s.dirtyPost n w) := by
  unfold State.dirtyPost
  split
  · exact .refl s
  · exact OutGrows.emit { s with dirty := _ } _

theorem State.dirtyBit_out (s : State) (n p : Nat) : OutGrows s (s.dirtyBit n p) := by
  unfold State.dirtyBit
  extract_lets w b
  split
  · exact .refl s
  · rename_i s1 _ _
    show OutGrows s s1
    refine .ite ?_ (.refl s)
    split
    · exact s.dirtyPost_out _ _
    · exact .refl s

theorem State.dirtyMark_out (s : State) (n addr len : Nat) : OutGrows s (s.dirtyMark n addr len) := by
  unfold State.dirtyMark
  dsimp only
  refine .ite (.refl s) (.ite (.of_chg (State.setSlice_chg ..) rfl) ?_)
  exact .forEach (fun p t => t.dirtyBit_out n _) s _

theorem State.sliceInterrupt_out (s : State) (n k : Nat) : OutGrows s (s.sliceInterrupt n k) := by
  unfold State.sliceInterrupt
  exact .ite (.of_chg (State.setSlice_chg ..) rfl) ((OutGrows.of_chg (State.setSlice_chg ..) rfl).trans (.emit _ _))

theorem State.msixSend_out (s : State) (p f v : Nat) : OutGrows s (s.msixSend p f v) := by
  unfold State.msixSend
  exact .ite (.emit _ _) (.of_chg (State.setFunc_chg ..) rfl)

theorem State.cqInterrupt_out (s : State) (q : QKey) : OutGrows s (s.cqInterrupt q) := by
  cases q with
  | page n k => exact s.sliceInterrupt_out n _
  | std p f k => exact s.msixSend_out p f _

theorem State.cqNotify_out (s : State) (q : QKey) : OutGrows s (s.cqNotify q) := by
  have setCq : ∀ x, OutGrows s (s.setCq q x) := fun x => .refl s
  unfold State.cqNotify
  dsimp only
  refine .ite (.refl s) ?_
  split
  · exact s.cqInterrupt_out q
  · exact .ite ((setCq _).trans (State.cqInterrupt_out _ q)) (setCq _)

/-- A slot of a completion queue is taken by an entry, and the command is counted. -/
def State.cqStep (s : State) (cqk : QKey) : State :=
  let x := s.cq cqk
  { s.setCq cqk { x with tail := if x.tail + 1 = x.size then 0 else x.tail + 1
                         phase := if x.tail + 1 = x.size then !x.phase else x.phase } with
    cmds := { s.cmds with commands := satAdd 64 s.cmds.commands 1 }
    aon := { s.aon with ledCompletion := true } }

/-- The dirty-page log notes the entry of a slice's queue (R156). -/
def State.cqMark (s : State) (q : QKey) (addr : Nat) : State :=
  match q with
  | .page n _ => s.dirtyMark n addr 16
  | .std p f _ =>
    match s.stdqSlice p f with
    | some n => s.dirtyMark n addr 16
    | none => s

theorem State.cqWrite_eq (s : State) (q : QKey) (cid : Nat) (st : Status) (a b : Nat) {cqk : QKey} (hc : cqk = q.withQid (s.sq q).cqid) :
    s.cqWrite q cid st a b = (((s.cqStep cqk).emit (.completion cqk q.qid cid (s.sq q).head (s.cq cqk).phase st a b)).cqMark q
      ((s.cq cqk).base + 16 * (s.cq cqk).tail)).cqNotify cqk := by
  subst hc
  cases q <;> rfl

theorem State.cqMark_out (s : State) (q : QKey) (addr : Nat) : OutGrows s (s.cqMark q addr) := by
  unfold State.cqMark
  split
  · exact s.dirtyMark_out _ _ _
  · split
    · exact s.dirtyMark_out _ _ _
    · exact .refl s

/-- The entry that a completion writes is sent. -/
theorem State.cqWrite_sent (s : State) (q : QKey) (cid : Nat) (st : Status) (a b : Nat) {cqk : QKey} (hc : cqk = q.withQid (s.sq q).cqid) :
    Out.completion cqk q.qid cid (s.sq q).head (s.cq cqk).phase st a b ∈ (s.cqWrite q cid st a b).out := by
  rw [s.cqWrite_eq q cid st a b hc]
  exact OutGrows.sent ((State.cqMark_out _ _ _).trans (State.cqNotify_out _ _))

theorem State.deliverMark_out (s : State) (t len : Nat) : OutGrows s (s.deliverMark t len) := by
  unfold State.deliverMark
  dsimp only
  refine .ite (.refl s) (.ite (.refl s) (.ite ?_ (s.dirtyMark_out _ _ _)))
  exact (s.dirtyMark_out _ _ _).trans (State.dirtyMark_out ..)

/-! ### The counters of commands -/

/-- Requests that go out draw request numbers and count nothing else. -/
theorem State.dmaPump_cmds (s : State) : ∃ r, s.dmaPump.cmds = { s.cmds with nextReq := r } := by
  unfold State.dmaPump
  show ∃ r, (List.foldl _ _ _ : State × List Dma).1.cmds = { s.cmds with nextReq := r }
  refine List.foldlRecOn (motive := fun acc : State × List Dma => ∃ r, acc.1.cmds = { s.cmds with nextReq := r }) _ _
    ⟨s.cmds.nextReq, rfl⟩ fun acc ⟨r, h⟩ d _ => ?_
  dsimp only
  split
  · exact ⟨_, by rw [State.emit_cmds, h]⟩
  · exact ⟨r, h⟩

theorem State.dmaAsk_cmds (s : State) (d : Dma) : ∃ r, (s.dmaAsk d).cmds = { s.cmds with nextReq := r } :=
  State.dmaPump_cmds { s with dmaWait := s.dmaWait ++ [d] }

theorem State.fetchAsk_cmds (s : State) (q : QKey) : ∃ r, (s.fetchAsk q).cmds = { s.cmds with nextReq := r } := by
  unfold State.fetchAsk
  dsimp only
  split
  · exact ⟨_, rfl⟩
  · exact s.dmaAsk_cmds _

theorem State.dmaEnd_cmds (s : State) (r : Nat) : ∃ k, (s.dmaEnd r).cmds = { s.cmds with nextReq := k } := State.dmaPump_cmds _

theorem State.cqWrite_cmds (s : State) (q : QKey) (cid : Nat) (st : Status) (a b : Nat) :
    (s.cqWrite q cid st a b).cmds = { s.cmds with commands := satAdd 64 s.cmds.commands 1 } := by
  have mark : ∀ (t : State) addr, (t.cqMark q addr).cmds = t.cmds := fun t addr => by
    unfold State.cqMark
    split
    · exact (State.dirtyMark_chg ..).cmds rfl
    · split
      · exact (State.dirtyMark_chg ..).cmds rfl
      · rfl
  rw [s.cqWrite_eq q cid st a b rfl, (State.cqNotify_chg ..).cmds rfl, mark]
  rfl

/-- A completion without a tag notes no identifier conflict of its own. -/
theorem State.cqPut_idConflicts (s : State) (q : QKey) (cid : Nat) (st : Status) (a : Nat) :
    (s.cqPut q cid st a).cmds.idConflicts = s.cmds.idConflicts := by
  have send : (s.cqSend q cid st a 0).cmds.idConflicts = s.cmds.idConflicts := by
    unfold State.cqSend
    dsimp only
    split
    · rw [State.cqWrite_cmds]
    · obtain ⟨r, h⟩ := s.dmaAsk_cmds { port := (s.qfunc q).1, fn := (s.qfunc q).2, pasid := s.qpasid q
                                       addr := (s.cq (q.withQid (s.sq q).cqid)).base + 16 * (s.cq (q.withQid (s.sq q).cqid)).tail
                                       use := some (.cqEntry (q.withQid (s.sq q).cqid) q cid st a 0) }
      rw [h]
  unfold State.cqPut
  dsimp only
  split
  · exact send
  · rfl

end Sys2Proof.Machine
end

section
/-! SUPPORT. The fetch of a command (R110, R112, R121): the entry that a fetch brings, its window, and what a
conflict of identifiers leaves. -/

namespace Sys2Proof.Machine

variable {s : State}

/-! ### One fetched entry (R110, R112, R121) -/

/-- The queue's head passes the entry that was fetched. -/
def State.headOn (s : State) (q : QKey) : State :=
  s.setSq q { s.sq q with head := if (s.sq q).head + 1 = (s.sq q).size then 0 else (s.sq q).head + 1 }

theorem State.headOn_sq (s : State) (q : QKey) : (s.headOn q).sq q =
    { s.sq q with head := if (s.sq q).head + 1 = (s.sq q).size then 0 else (s.sq q).head + 1 } := s.setSq_sq q _

theorem State.entriesIn_one (s : State) (q : QKey) (e : Sqe) :
    s.entriesIn q [e] = (s.headOn q).entryIn q (s.lineMarked q (s.sq q).head) e := rfl

theorem exec_entryFetch_cmb {q : QKey} {e : Sqe} (ha : s.awake = true) (hc : (s.sq q).inCmb = true) (hn : 1 ≤ s.fetchCount q)
    (hh : s.held (s.qfunc q).1 (s.qfunc q).2 = false) :
    exec (.entryFetch q [e]) s = .next ((s.headOn q).entryIn q (s.lineMarked q (s.sq q).head) e) := by
  show execEntryFetch q [e] s = _
  unfold execEntryFetch
  rw [if_pos hc]
  exact next_when (by simp [ha, hn, hh])

/-- Only a line of the controller memory buffer is marked. -/
theorem State.lineMarked_host {q : QKey} (hc : (s.sq q).inCmb = false) (i : Nat) : s.lineMarked q i = false := by
  unfold State.lineMarked; rw [hc]; rfl

theorem exec_entryFetch_host {q : QKey} {e : Sqe} {r : Nat} {d : Dma} (hc : (s.sq q).inCmb = false) (hl : (s.sq q).live = true)
    (hd : s.dmas.find? (fun d => d.2.use == some (.entries q)) = some (r, d)) (hn : d.len = 64) :
    exec (.entryFetch q [e]) s = .next ((((s.dmaEnd r).headOn q).entryIn q false e).fetchAsk q) := by
  have unmarked : (s.dmaEnd r).lineMarked q ((s.dmaEnd r).sq q).head = false :=
    State.lineMarked_host (by rw [(s.dmaEnd_chg r).sq_eq rfl]; exact hc) _
  show execEntryFetch q [e] s = _
  unfold execEntryFetch
  rw [if_neg (by rw [hc]; exact Bool.false_ne_true), hd]
  dsimp only
  rw [if_neg (by simp [hn, hl]), State.entriesIn_one, unmarked]

theorem State.headOn_parseStatus (s : State) (q : QKey) (m : Bool) (e : Sqe) : (s.headOn q).parseStatus q m e = s.parseStatus q m e := rfl

theorem State.headOn_cidTaken (s : State) (q : QKey) (cid : Nat) : (s.headOn q).cidTaken q cid = s.cidTaken q cid := by
  unfold State.cidTaken
  rw [State.headOn_sq]
  rfl

/-- The parser reads the dictionary, the lifecycle and the namespaces, which the end of a request leaves alone. -/
theorem State.dmaEnd_parseStatus (s : State) (r : Nat) (q : QKey) (m : Bool) (e : Sqe) :
    (s.dmaEnd r).parseStatus q m e = s.parseStatus q m e := by
  have ended := s.dmaEnd_chg r
  unfold State.parseStatus State.opcodeOk State.lifecycle State.cfgB State.cfg State.cfgVal State.ns
  rw [ended.dict rfl, ended.sec rfl, ended.nss rfl]

theorem State.dmaEnd_cidTaken (s : State) (r : Nat) (q : QKey) (cid : Nat) : (s.dmaEnd r).cidTaken q cid = s.cidTaken q cid := by
  have ended := s.dmaEnd_chg r
  unfold State.cidTaken
  rw [ended.sq_eq rfl, ended.tags rfl]

theorem State.cidTaken_iff {q : QKey} {cid : Nat} : s.cidTaken q cid = true ↔ (∃ w ∈ (s.sq q).window, w.e.cid = cid) ∨
    ∃ x ∈ s.tags, x.2.st ≠ .free ∧ x.2.q = q ∧ x.2.sqe.cid = cid ∧ x.2.mi = none := by
  unfold State.cidTaken
  simp only [Bool.or_eq_true, List.any_eq_true, Bool.and_eq_true, beq_iff_eq, bne_iff_ne, Option.isNone_iff_eq_none, and_assoc]

/-- An entry that the parser passes, whose identifier is free and whose commands the mode takes joins its window. -/
theorem State.entryIn_window {q : QKey} {m : Bool} {e : Sqe} (hp : s.parseStatus q m e = none) (hc : s.cidTaken q e.cid = false)
    (hf : s.mode.base ≠ .flush) (hm : s.mode.maintStopped = false ∨ q.isAdmin = true) :
    ∃ w, (s.entryIn q m e).sq q = { s.sq q with window := (s.sq q).window ++ [w] } ∧ w.e = e ∧ w.since = s.aon.now := by
  refine ⟨⟨e, s.aon.now, s.arrivesGood q⟩, ?_, rfl, rfl⟩
  have mode : (s.mode.maintStopped && !q.isAdmin) = false := by
    rcases hm with h | h <;> rw [h]
    · rfl
    · exact Bool.and_false _
  unfold State.entryIn
  simp only [hp, hc, mode, if_neg hf, Bool.false_eq_true, if_false]
  split
  · exact s.setSq_sq q _
  · rw [(State.psArrive_chg ..).sq_eq rfl]; exact s.setSq_sq q _

/-- The conflict of an identifier is counted (R136). -/
def State.conflictNoted (s : State) : State := { s with cmds := { s.cmds with idConflicts := satAdd 32 s.cmds.idConflicts 1 } }

/-- An entry that the parser passes and whose identifier is in use completes with Command ID Conflict. -/
theorem State.entryIn_conflict {q : QKey} {m : Bool} {e : Sqe} (hp : s.parseStatus q m e = none) (hc : s.cidTaken q e.cid = true) :
    s.entryIn q m e = s.conflictNoted.cqPut q e.cid ⟨0, 3⟩ := by
  unfold State.entryIn
  rw [hp]
  exact if_pos hc

theorem State.cqPut_held {q cqk : QKey} {cid a : Nat} {st : Status} (hc : cqk = q.withQid (s.sq q).cqid) (ho : s.cqOpen cqk = false) :
    ((s.cqPut q cid st a).cq cqk).held = (s.cq cqk).held ++ [(q, cid, st, a, 0)] := by
  subst hc
  have held : s.cqPut q cid st a = s.setCq (q.withQid (s.sq q).cqid) { s.cq (q.withQid (s.sq q).cqid) with
      held := (s.cq (q.withQid (s.sq q).cqid)).held ++ [(q, cid, st, a, 0)] } := if_neg (by simp [ho])
  rw [held, State.setCq_cq]

theorem State.cqPut_sent {q cqk : QKey} {cid a : Nat} {st : Status} (hc : cqk = q.withQid (s.sq q).cqid) (ho : s.cqOpen cqk = true)
    (hh : (s.cq cqk).held = [])
    (ht : s.atcHit (s.qfunc q).1 (s.qfunc q).2 (s.qpasid q) ((s.cq cqk).base + 16 * (s.cq cqk).tail) = true) :
    Out.completion cqk q.qid cid (s.sq q).head (s.cq cqk).phase st a 0 ∈ (s.cqPut q cid st a).out := by
  have put : s.cqPut q cid st a = s.cqWrite q cid st a 0 := by
    subst hc
    exact (if_pos (by simp [ho, hh])).trans (if_pos ht)
  rw [put]
  exact s.cqWrite_sent q cid st a 0 hc

/-- The completion queue is as open after the head has moved and the conflict is counted. -/
theorem State.conflict_cqOpen (s : State) (q cqk : QKey) : (s.headOn q).conflictNoted.cqOpen cqk = s.cqOpen cqk := rfl

theorem State.conflict_atcHit (s : State) (q : QKey) (addr : Nat) :
    (s.headOn q).conflictNoted.atcHit ((s.headOn q).conflictNoted.qfunc q).1 ((s.headOn q).conflictNoted.qfunc q).2
      ((s.headOn q).conflictNoted.qpasid q) addr = s.atcHit (s.qfunc q).1 (s.qfunc q).2 (s.qpasid q) addr := rfl

/-- What a conflict leaves: every tag, the queue, and the count. -/
theorem State.conflict_frame (s : State) (q : QKey) (cid : Nat) : (s.conflictNoted.cqPut q cid ⟨0, 3⟩).tags = s.tags ∧
    (s.conflictNoted.cqPut q cid ⟨0, 3⟩).sq q = s.sq q ∧
    (s.conflictNoted.cqPut q cid ⟨0, 3⟩).cmds.idConflicts = satAdd 32 s.cmds.idConflicts 1 :=
  have put := s.conflictNoted.cqPut_chg q cid ⟨0, 3⟩ 0
  ⟨put.tags rfl, put.sq_eq rfl q, State.cqPut_idConflicts ..⟩

end Sys2Proof.Machine
end

section
/-! The statement about an identifier in use. -/

namespace Sys2Proof

open Machine

/-- Settles O58: neither the end of the fetch nor the move of the queue's head changes what the identifier is compared with. -/
theorem commandIdConflict : Obligations.CommandIdConflict := by
  intro s q cqk e hk hu
  have taken : s.cidTaken q e.cid = true := State.cidTaken_iff.mpr hu
  refine ⟨fun ha hc hn hh hp => ?_, fun r d hc hl hd hlen hp => ?_⟩
  · have headOn := s.headOn_sq q
    have put := exec_entryFetch_cmb (e := e) ha hc hn hh
    rw [State.entryIn_conflict ((s.headOn_parseStatus ..).trans hp) ((s.headOn_cidTaken ..).trans taken)] at put
    obtain ⟨tags, sq, count⟩ := (s.headOn q).conflict_frame q e.cid
    have hk' : cqk = q.withQid ((s.headOn q).conflictNoted.sq q).cqid := by
      show cqk = q.withQid ((s.headOn q).sq q).cqid
      rw [headOn]; exact hk
    refine ⟨_, put, tags, by rw [sq, headOn], count, fun ho => ?_, fun ho hheld hatc => ?_⟩
    · rw [← s.conflict_cqOpen q] at ho
      exact State.cqPut_held hk' ho
    · rw [← s.conflict_cqOpen q] at ho
      rw [← s.conflict_atcHit q] at hatc
      have sent := State.cqPut_sent (cid := e.cid) (a := 0) (st := ⟨0, 3⟩) hk' ho hheld hatc
      rw [show ((s.headOn q).conflictNoted.sq q).head = _ from congrArg Sq.head headOn] at sent
      exact sent
  · have ended := s.dmaEnd_chg r
    have headOn := (s.dmaEnd r).headOn_sq q
    rw [ended.sq_eq rfl] at headOn
    have put := exec_entryFetch_host (e := e) hc hl hd hlen
    rw [State.entryIn_conflict ((State.headOn_parseStatus ..).trans ((s.dmaEnd_parseStatus ..).trans hp))
      ((State.headOn_cidTaken ..).trans ((s.dmaEnd_cidTaken ..).trans taken))] at put
    obtain ⟨tags, sq, -⟩ := ((s.dmaEnd r).headOn q).conflict_frame q e.cid
    obtain ⟨k, cmds⟩ := s.dmaEnd_cmds r
    refine ⟨_, put, tags.trans (ended.tags rfl), by rw [sq, headOn], ?_⟩
    show satAdd 32 (s.dmaEnd r).cmds.idConflicts 1 = _
    rw [cmds]

end Sys2Proof
end

section
/-! SUPPORT. The admission of a command and its release (R111, R119, R120, R122 to R126): the tag that the entry goes into, and one
equation for each of the admissions. -/

namespace Sys2Proof.Machine

variable {s : State} {q : QKey} {tag : Nat} {w : WinEnt}

/-! ### From the window into a tag -/

/-- The entry at the front of a window is in BUILD at its tag, and the order of admissions goes on. -/
theorem State.tagIn_tag (s : State) (q : QKey) (t : Nat) (w : WinEnt) : ((s.tagIn q t w).tag t).st = .build ∧
    ((s.tagIn q t w).tag t).sqe = w.e ∧ ((s.tagIn q t w).tag t).q = q ∧ ((s.tagIn q t w).tag t).admin = q.isAdmin := by
  unfold State.tagIn
  rw [(State.fetchAsk_chg ..).tag_eq rfl, State.setTag_tag]
  exact ⟨rfl, rfl, rfl, rfl⟩

theorem State.tagIn_window (s : State) (q : QKey) (t : Nat) (w : WinEnt) :
    ((s.tagIn q t w).sq q).window = (s.sq q).window.drop 1 := by
  unfold State.tagIn
  rw [(State.fetchAsk_chg ..).sq_eq rfl]
  exact congrArg Sq.window (s.setSq_sq q _)

theorem State.tagIn_nextOrder (s : State) (q : QKey) (t : Nat) (w : WinEnt) :
    (s.tagIn q t w).cmds.nextOrder = s.cmds.nextOrder + 1 := by
  unfold State.tagIn
  obtain ⟨r, h⟩ := State.fetchAsk_cmds (State.setTag _ t _) q
  rw [h]
  rfl

/-! ### Admin commands (R111, R119) -/

/-- An admin entry is admitted, and the admin commands of its controller in this epoch are counted. -/
def State.admitAdmin (s : State) (q : QKey) (tag : Nat) (w : WinEnt) : State :=
  { s.tagIn q tag w with sched := { (s.tagIn q tag w).sched with
      adminUsed := Tbl.modify 0 s.sched.adminUsed (s.owner q) (fun v => v + 1) } }

/-- What the count of admin commands leaves of the admission. -/
theorem State.admitAdmin_frame (s : State) (q : QKey) (tag : Nat) (w : WinEnt) : (s.admitAdmin q tag w).sqs = (s.tagIn q tag w).sqs ∧
    (s.admitAdmin q tag w).tags = (s.tagIn q tag w).tags ∧ (s.admitAdmin q tag w).cmds = (s.tagIn q tag w).cmds := ⟨rfl, rfl, rfl⟩

theorem exec_commandAdmission_admin {l : List WinEnt} {s0 : State} (hw : (s.sq q).window = w :: l) (ha : s.admits = true)
    (hq : q.isAdmin = true) (h0 : s0 = s.admissionBoundary 0) (ht : s0.tagWaits (s0.owner q) tag = false)
    (hl : s0.adminLeft (s0.owner q) = true) : exec (.commandAdmission q tag) s = .next (s0.admitAdmin q tag w) := by
  subst h0
  show execCommandAdmission q tag s = _
  unfold execCommandAdmission
  simp only [hw, ha, hq, ht, hl, Bool.not_true, Bool.false_eq_true, if_false, if_true]
  rfl

/-! ### I/O commands (R111, R115, R120, R124) -/

theorem exec_commandAdmission_io {l : List WinEnt} {s0 : State} {k : Nat} (hw : (s.sq q).window = w :: l) (ha : s.admits = true)
    (hq : q.isAdmin = false) (h0 : s0 = s.admissionBoundary w.e.nsid) (ht : s0.tagWaits (s0.owner q) tag = false)
    (hf : s0.adminFirst (s0.owner q) = false) (hturn : s0.turnOf (s0.owner q) = some (qcode q)) (hm : s0.mode.maintStopped = false)
    (hp : s0.mode.psInForce < 3) (hr : s0.tracked (s0.homeOf q) < Config.trackerRanges)
    (hroom : (s0.admitStatus q (s0.owner q) w.e).isSome = true ∨
      s0.poolWaits w.e.nsid (Sqe.needs w.e) = false ∧ s0.writeWaits w.e (s0.ctrlClass (s0.owner q)) = false)
    (hk : s0.creditCase (s0.owner q) = some k) : exec (.commandAdmission q tag) s = .next (s0.admitIo q tag k w) := by
  subst h0
  have room : ((((s.admissionBoundary w.e.nsid).admitStatus q ((s.admissionBoundary w.e.nsid).owner q) w.e).isNone) &&
      ((s.admissionBoundary w.e.nsid).poolWaits w.e.nsid (Sqe.needs w.e) ||
        (s.admissionBoundary w.e.nsid).writeWaits w.e ((s.admissionBoundary w.e.nsid).ctrlClass
          ((s.admissionBoundary w.e.nsid).owner q)))) = false := by
    rcases hroom with h | ⟨hpool, hwrite⟩
    · rw [Option.isNone_eq_false_iff.mpr h, Bool.false_and]
    · rw [hpool, hwrite, Bool.or_self, Bool.and_false]
  show execCommandAdmission q tag s = _
  unfold execCommandAdmission
  simp only [hw, ha, hq, ht, hf, hturn, hm, room, hk, Nat.not_le.mpr hp, Nat.not_le.mpr hr, decide_false, bne_self_eq_false,
    Bool.not_true, Bool.or_self, Bool.false_eq_true, if_false]

/-- An I/O entry that was admitted is charged, and its queue's turn is noted. -/
def State.admitted (s : State) (q : QKey) (t k : Nat) (w : WinEnt) : State :=
  ((s.tagIn q t w).charge (s.owner q) k (s.cost w.e 0)).turnTaken (s.owner q) (qcode q)

theorem State.admitted_chg (s : State) (q : QKey) (t k : Nat) (w : WinEnt) : Chg 262160 (s.tagIn q t w) (s.admitted q t k w) := by
  refine Chg.step (State.turnTaken_chg ..) ?_ (by decide)
  exact State.charge_chg ..

/-- An entry that fails a check of admission ends at once with the status of that check. -/
theorem State.admitIo_refused {t k : Nat} {st : Status} (h : s.admitStatus q (s.owner q) w.e = some st) :
    s.admitIo q t k w = ((s.admitted q t k w).countExceeded w.e.nsid st).commitTag t st := by
  unfold State.admitIo
  simp only [h]
  rfl

theorem State.admitIo_posts {t k : Nat} {st : Status} (h : s.admitStatus q (s.owner q) w.e = some st) :
    Posts (s.admitIo q t k w) t st := by
  have build : (((s.admitted q t k w).countExceeded w.e.nsid st).tag t).st = .build := by
    rw [(State.countExceeded_chg ..).tag_eq rfl, (s.admitted_chg q t k w).tag_eq rfl]
    exact (s.tagIn_tag q t w).1
  rw [State.admitIo_refused h]
  exact (State.commitTag_posts (by rw [build]; rfl) st 0 0).1

/-- Whatever the checks say, the charge, the reservation and the buffers leave the queues and the order of admissions alone. -/
theorem State.admitIo_frame (s : State) (q : QKey) (t k : Nat) (w : WinEnt) :
    (s.admitIo q t k w).sqs = (s.tagIn q t w).sqs ∧ (s.admitIo q t k w).cmds = (s.tagIn q t w).cmds := by
  have admitted := s.admitted_chg q t k w
  cases h : s.admitStatus q (s.owner q) w.e with
  | some st =>
    have ends := ((s.admitted q t k w).countExceeded w.e.nsid st).commitTag_chg t st 0 0
    have counts := (s.admitted q t k w).countExceeded_chg w.e.nsid st
    rw [State.admitIo_refused h]
    exact ⟨(ends.sqs rfl).trans ((counts.sqs rfl).trans (admitted.sqs rfl)),
      (ends.cmds rfl).trans ((counts.cmds rfl).trans (admitted.cmds rfl))⟩
  | none =>
    unfold State.admitIo
    simp only [h]
    rw [(State.askBuffers_chg ..).sqs rfl, (State.keyGenerate_chg ..).sqs rfl, (State.askBuffers_chg ..).cmds rfl,
      (State.keyGenerate_chg ..).cmds rfl]
    exact ⟨admitted.sqs rfl, admitted.cmds rfl⟩

/-! ### Chains and overlaps (R11, R122 to R125) -/

/-- The next segment's chain is complete. -/
def State.chained (s : State) (tag : Nat) : State := s.setTag tag { s.tag tag with segs := (s.tag tag).segs + 1 }

/-- The chain of a later segment extends the plan that runs. -/
theorem exec_chainComplete_later (hr : s.chainReady tag = true) (hb : (s.tag tag).st ≠ .build) :
    exec (.chainComplete tag) s = .next ((s.chained tag).advance tag) :=
  (next_when hr).trans (congrArg Host.Outcome.next (if_neg hb))

theorem exec_overlapResolved (hw : (s.tag tag).st = .wait) (ho : s.overlapped tag = false) :
    exec (.overlapResolved tag) s = .next (s.releaseTag tag) := next_when (by rw [hw, ho]; rfl)

/-- The map results that a command takes change no command. -/
theorem State.takeMap_tagsKept (s : State) (t : Nat) : TagsKept s (s.takeMap t) := by
  unfold State.takeMap
  refine TagsKept.step (TagsKept.setTag _ _ _ ⟨rfl, rfl, rfl, rfl, rfl, rfl, rfl, rfl, rfl, rfl, rfl, .inl rfl⟩) ?_
  refine TagsKept.forEach _ _ _ fun b t' => ?_
  have put : ∀ x : Tbl BlkRt, TagsKept t' (t'.setTag t { t'.tag t with blks := x }) := fun x =>
    TagsKept.setTag _ _ _ ⟨rfl, rfl, rfl, rfl, rfl, rfl, rfl, rfl, rfl, rfl, rfl, .inl rfl⟩
  dsimp only
  split
  · exact TagsKept.step (TagsKept.of_chg (State.setWblk_chg ..) rfl) (put _)
  · exact TagsKept.step (TagsKept.of_chg (State.setSb_chg ..) rfl) (put _)
  · exact put _

/-- A command that is released runs, or has failed at its first step. -/
theorem State.releaseTag_tag (s : State) (t : Nat) :
    (((s.releaseTag t).tag t).st = .run ∨ ((s.releaseTag t).tag t).st = .post) ∧ ((s.releaseTag t).tag t).sqe = (s.tag t).sqe := by
  have kept : TagsKept (s.setTag t { s.tag t with st := .run }) (s.releaseTag t) :=
    TagsKept.step (State.advance_tagsKept _ _) (.ite (.refl _) (State.takeMap_tagsKept _ _))
  obtain ⟨sqe, -, -, -, -, -, -, -, -, -, -, st⟩ := kept t
  rw [State.setTag_tag] at sqe st
  exact ⟨st.imp id And.right, sqe⟩

end Sys2Proof.Machine
end

section
/-! The statement about a command from its fetch to its admission. -/

namespace Sys2Proof

open Machine

/-- Settles O14: the boundaries before an admission change neither the queues nor the order of admissions. -/
theorem fetchAndAdmission : Obligations.FetchAndAdmission := by
  refine ⟨fun s q e ha hc hn hh hp hu hf hm => ?_, fun s q e r d hc hl hd hlen hp hu hf hm => ?_,
    fun s q tag w l hw ha hq ht hl => ?_, fun s q tag k w l s0 hw ha hq h0 ht hf hturn hm hp hr hroom hk => ?_,
    fun s tag hr hb => ?_, fun s tag hw ho => ?_⟩
  · obtain ⟨w, sq, entry, since⟩ := State.entryIn_window (s := s.headOn q) hp ((s.headOn_cidTaken ..).trans hu) hf hm
    rw [s.headOn_sq q] at sq
    refine ⟨_, exec_entryFetch_cmb ha hc hn hh, ?_⟩
    rw [sq]
    exact ⟨rfl, w, rfl, entry, since⟩
  · have ended := s.dmaEnd_chg r
    have hp' := (State.headOn_parseStatus ..).trans ((s.dmaEnd_parseStatus r ..).trans hp)
    have hu' := (State.headOn_cidTaken ..).trans ((s.dmaEnd_cidTaken r ..).trans hu)
    have mode : ((s.dmaEnd r).headOn q).mode = s.mode := ended.mode rfl
    rw [← mode] at hf hm
    obtain ⟨w, sq, entry, since⟩ := State.entryIn_window hp' hu' hf hm
    rw [(s.dmaEnd r).headOn_sq q, ended.sq_eq rfl] at sq
    refine ⟨_, exec_entryFetch_host hc hl hd hlen, ?_⟩
    rw [(State.fetchAsk_chg ..).sq_eq rfl, sq]
    exact ⟨rfl, w, rfl, entry, since.trans (congrArg Aon.now (ended.aon rfl))⟩
  · have bound := s.admissionBoundary_chg 0
    obtain ⟨st, sqe, hq', admin⟩ := (s.admissionBoundary 0).tagIn_tag q tag w
    have window := (s.admissionBoundary 0).tagIn_window q tag w
    have order := (s.admissionBoundary 0).tagIn_nextOrder q tag w
    rw [bound.sq_eq rfl, hw] at window
    rw [bound.cmds rfl] at order
    obtain ⟨sqs, tags, cmds⟩ := (s.admissionBoundary 0).admitAdmin_frame q tag w
    refine ⟨_, exec_commandAdmission_admin hw ha hq rfl ht hl, ?_⟩
    unfold State.sq State.tag at *
    rw [sqs, tags, cmds]
    exact ⟨window, st, sqe, hq', admin.trans hq, order⟩
  · have bound := s.admissionBoundary_chg w.e.nsid
    rw [← h0] at bound
    obtain ⟨sqs, cmds⟩ := s0.admitIo_frame q tag k w
    have window := s0.tagIn_window q tag w
    have order := s0.tagIn_nextOrder q tag w
    rw [bound.sq_eq rfl, hw] at window
    rw [bound.cmds rfl] at order
    refine ⟨_, exec_commandAdmission_io hw ha hq h0 ht hf hturn hm hp hr hroom hk, ?_, ?_, fun st h => State.admitIo_posts h⟩
    · unfold State.sq at window ⊢
      rw [sqs]; exact window
    · rw [cmds]; exact order
  · have advanced := (s.chained tag).advance_chg tag
    obtain ⟨sqe, -, -, -, -, segs, -⟩ := (s.chained tag).advance_tagsKept tag tag
    unfold State.chained at segs sqe
    rw [State.setTag_tag] at segs sqe
    exact ⟨_, exec_chainComplete_later hr hb, segs, sqe, advanced.sqs rfl, advanced.cqs rfl⟩
  · have released := s.releaseTag_chg tag
    obtain ⟨st, sqe⟩ := s.releaseTag_tag tag
    exact ⟨_, exec_overlapResolved hw ho, st, sqe, released.sqs rfl, released.cqs rfl⟩

end Sys2Proof
end

section
/-! SUPPORT. What Get Features, the directives, Identify and log pages answer (R114, R116, R117, R132, R209, R455): a commit and a
delivery, one after the other, and one equation for each command and case. -/

namespace Sys2Proof.Machine

variable {s : State} {tag : Nat} {e : Sqe}

/-! ### Answers -/

/-- A commit leaves the setting of flexible data placement alone. -/
theorem State.commitTag_fdp (s : State) (t : Nat) (st : Status) (a b : Nat) :
    (s.commitTag t st a b).pool.fdpEnabled = s.pool.fdpEnabled := by
  have undone : (((s.zoneSettle t true).poolRelease t).dropStaged t).pool.fdpEnabled = s.pool.fdpEnabled := by
    rw [(State.dropStaged_chg ..).pool rfl]
    show (s.zoneSettle t true).pool.fdpEnabled = _
    rw [(s.zoneSettle_chg t true).pool rfl]
  have posts : ∀ (c : Bool) (x : Tag),
      ((if c then ((s.zoneSettle t true).poolRelease t).dropStaged t else s).setTag t x).pool.fdpEnabled = s.pool.fdpEnabled :=
    fun c x => by
      cases c with
      | true => exact undone
      | false => rfl
  unfold State.commitTag
  dsimp only
  split
  · exact posts ..
  · exact posts ..
  · exact posts ..
  · rfl

/-- A delivery through an open fence sends the data. -/
theorem State.deliver_sent {data : List Byte} (h : s.passes tag = true) : Out.hostBytes tag data ∈ (s.deliver tag data).out := by
  unfold State.deliver
  rw [if_pos h]
  exact OutGrows.sent (State.deliverMark_out ..)

theorem State.deliverFields_sent {len : Nat} {l : List (String × Nat)} (h : s.passes tag = true) :
    Out.hostData tag l ∈ (s.deliverFields tag len l).out := by
  unfold State.deliverFields
  rw [if_pos h]
  exact OutGrows.sent (State.deliverMark_out ..)

/-- A command whose data has been delivered ends with Success, and sends nothing more. -/
theorem State.delivered_succeeds {data : List Byte} (hu : (s.tag tag).st.uncommitted = true) (hp : s.passes tag = true) :
    Posts ((s.deliver tag data).succeed tag) tag ⟨0, 0⟩ ∧ Out.hostBytes tag data ∈ ((s.deliver tag data).succeed tag).out ∧
      ((s.deliver tag data).succeed tag).ctrls = s.ctrls := by
  have out := s.deliver_chg tag data
  have ends := (s.deliver tag data).succeed_chg tag 0 0
  rw [← out.tag_eq rfl] at hu
  rw [ends.out rfl, ends.ctrls rfl]
  exact ⟨(State.commitTag_posts hu ⟨0, 0⟩ 0 0).1, State.deliver_sent hp, out.ctrls rfl⟩

/-! ### Get Features (R116, R455) -/

/-- A Get Features of a current value, of a feature that is neither the timestamp nor the host memory buffer. -/
theorem exec_getFeatures_current (ha : s.adm tag 0x0A = true) (he : (s.tag tag).sqe = e) (hf : featureIds.contains (e.cdw10 % 256) = true)
    (ht : e.cdw10 % 256 ≠ 0x0E) (hb : e.cdw10 % 256 ≠ 0x0D) (hs : e.cdw10 / 256 % 8 = 0) :
    exec (.getFeatures tag) s = .next (s.succeed tag (s.featureNow tag e)) := by
  subst he
  refine (next_when ha).trans (congrArg Host.Outcome.next ?_)
  simp only [hf, ht, hs, Nat.reducePow, Bool.not_true, beq_eq_false_iff_ne.mpr hb, Bool.false_and, Bool.or_self, Nat.not_lt_zero,
    decide_false, Bool.false_eq_true, if_false, Nat.zero_ne_one, OfNat.zero_ne_ofNat, or_self]

theorem exec_getFeatures_time (ha : s.adm tag 0x0A = true) (he : (s.tag tag).sqe = e) (hf : e.cdw10 % 256 = 0x0E)
    (hs : e.cdw10 / 256 % 8 = 0)
    (hd : s.dptrStatus (s.qfunc (s.tag tag).q).1 (s.qfunc (s.tag tag).q).2 8 e = none) :
    exec (.getFeatures tag) s = .next ((s.deliver tag
      (leBytes 6 (s.timestamp / 1000000) ++ [BitVec.ofNat 8 (2 * s.aon.tsOrigin), 0#8])).succeed tag) := by
  subst he
  refine (next_when ha).trans (congrArg Host.Outcome.next ?_)
  simp only [hf, hs, hd, Nat.reducePow]
  rfl

/-! ### Directives (R114, R209) -/

/-- The Identify directive asks for data placement as it stands, or is refused. -/
theorem exec_directiveSend_identify (ha : s.adm tag 0x19 = true) (he : (s.tag tag).sqe = e) (ht : Sqe.dirType e = 0)
    (ho : Sqe.dirOp e = 1) (hd : e.cdw12 / 256 % 256 = 2) : exec (.directiveSend tag) s =
      .next (if e.cdw12.testBit 0 = s.pool.fdpEnabled then s.succeed tag else s.commitTag tag ⟨0, 2⟩) := by
  subst he
  refine (next_when ha).trans (congrArg Host.Outcome.next ?_)
  simp only [ht, ho, hd, Nat.reducePow, true_and]

/-- The directives that the Identify type returns: those supported, and those enabled. -/
def State.directiveData (s : State) (len : Nat) : List Byte :=
  (leBytes 32 5 ++ leBytes 32 (if s.pool.fdpEnabled then 5 else 1) ++ leBytes 4032 0).take len

theorem exec_directiveReceive_identify (ha : s.adm tag 0x1A = true) (he : (s.tag tag).sqe = e) (ht : Sqe.dirType e = 0)
    (ho : Sqe.dirOp e = 1)
    (hd : s.dptrStatus (s.qfunc (s.tag tag).q).1 (s.qfunc (s.tag tag).q).2 (4 * (e.cdw10 + 1)) e = none) :
    exec (.directiveReceive tag) s = .next ((s.deliver tag (s.directiveData (4 * (e.cdw10 + 1)))).succeed tag) := by
  have on : 1 + 4 * boolNat s.pool.fdpEnabled = if s.pool.fdpEnabled then 5 else 1 := by
    cases s.pool.fdpEnabled <;> rfl
  subst he
  refine (next_when ha).trans (congrArg Host.Outcome.next ?_)
  simp only [ht, ho, hd, on, ne_eq, not_true_eq_false, or_self, if_false]
  rfl

/-! ### Identify (R114, R198) -/

section
variable {u : State} (ha : s.adm tag 0x06 = true) (hu : u = s.boundary 0x6001)
  (hd : u.dptrStatus (u.qfunc (u.tag tag).q).1 (u.qfunc (u.tag tag).q).2 4096 (u.tag tag).sqe = none)
include ha hu hd

theorem exec_identify_fields {l : List (String × Nat)} (hl : u.identifyData (u.tag tag).q (u.tag tag).sqe = .ok l) :
    exec (.identify tag) s = .next ((u.deliverFields tag 4096 l).succeed tag) := by
  subst hu
  refine (next_when ha).trans (congrArg Host.Outcome.next ?_)
  simp only [hd, hl]

theorem exec_identify_refused {st : Status} (hl : u.identifyData (u.tag tag).q (u.tag tag).sqe = .error st) :
    exec (.identify tag) s = .next (u.commitTag tag st) := by
  subst hu
  refine (next_when ha).trans (congrArg Host.Outcome.next ?_)
  simp only [hd, hl]

end

/-! ### Log pages (R117, R132) -/

/-- The list of frozen queues, as bytes from an offset. -/
def State.frozenPage (s : State) (q : QKey) (off len : Nat) : List Byte :=
  ((leBytes 4 (s.frozenItems q).length ++ ((s.frozenItems q).map (fun n => leBytes 4 n)).flatten).drop off).take len

/-- Reading the list of frozen queues clears no list. -/
theorem State.logClear_frozen (hf : e.cdw10 % 256 = 0xC0) (q : QKey) : s.logClear q e = s := by
  unfold State.logClear
  simp only [hf, ite_self]

theorem exec_getLogPage_frozen {off len : Nat} (ha : s.adm tag 0x02 = true) (he : (s.tag tag).sqe = e) (hf : e.cdw10 % 256 = 0xC0)
    (hoff : off = e.cdw12 + e.cdw13 * 2 ^ 32) (hlen : len = 4 * (e.cdw10 / 65536 + e.cdw11 % 65536 * 65536 + 1)) (h4 : off % 4 = 0)
    (hd : s.dptrStatus (s.qfunc (s.tag tag).q).1 (s.qfunc (s.tag tag).q).2 len e = none) :
    exec (.getLogPage tag) s = .next ((s.deliver tag (s.frozenPage (s.tag tag).q off len)).succeed tag) := by
  have data : s.logData (s.tag tag).q e =
      (leBytes 4 (s.frozenItems (s.tag tag).q).length ++ ((s.frozenItems (s.tag tag).q).map (fun n => leBytes 4 n)).flatten, []) := by
    unfold State.logData
    simp only [hf]
  have bytes : (leBytes 4 (s.frozenItems (s.tag tag).q).length ++
      ((s.frozenItems (s.tag tag).q).map (fun n => leBytes 4 n)).flatten).isEmpty = false := rfl
  subst he hoff hlen
  refine (next_when ha).trans (congrArg Host.Outcome.next ?_)
  simp only [Nat.reducePow] at h4 ⊢
  simp only [hf, h4, hd, data, bytes, State.logClear_frozen hf]
  rfl

theorem exec_getLogPage_refused (ha : s.adm tag 0x02 = true) (hall : logAll.contains ((s.tag tag).sqe.cdw10 % 256) = false)
    (hman : (s.tag tag).manager = false ∨ logManager.contains ((s.tag tag).sqe.cdw10 % 256) = false) :
    exec (.getLogPage tag) s = .next (s.commitTag tag ⟨1, 9⟩) := by
  refine (next_when ha).trans (congrArg Host.Outcome.next (if_pos ?_))
  rw [hall, Bool.false_or, Bool.not_eq_true', Bool.and_eq_false_iff]
  exact hman

end Sys2Proof.Machine
end

section
/-! The statement about Get Features, the directives, Identify and log pages. -/

namespace Sys2Proof

open Machine

/-- Settles O19, with the data of each answer sent before its command ends with Success. -/
theorem identifyAndLogPages : Obligations.IdentifyAndLogPages := by
  refine ⟨fun s tag fid e ha he hfid hf ht hb hs => ?_, fun s tag e ha he hf hs hd hp => ?_, fun s tag e ha he ht ho hd => ?_,
    fun s tag e ha he ht ho hd hp => ?_, fun s u tag l ha hu hst hd hl hp => ?_, fun s u tag st ha hu hst hd hl => ?_,
    fun s tag e ha he hf h4 hp hd => ?_, fun s tag ha hall hman => ?_⟩
  · subst hfid
    obtain ⟨posts, dw0⟩ := State.commitTag_posts (State.adm_uncommitted ha) ⟨0, 0⟩ (s.featureNow tag e) 0
    exact ⟨_, exec_getFeatures_current ha he hf ht hb hs, posts, dw0, (State.succeed_chg ..).ctrls rfl⟩
  · obtain ⟨posts, sent, -⟩ := State.delivered_succeeds (State.adm_uncommitted ha) hp
    exact ⟨_, exec_getFeatures_time ha he hf hs hd, posts, sent⟩
  · have posts := fun st => (State.commitTag_posts (State.adm_uncommitted ha) st 0 0).1
    refine ⟨_, exec_directiveSend_identify ha he ht ho hd, ?_, fun h => ?_, fun h => ?_⟩
    · split
      · exact State.commitTag_fdp ..
      · exact State.commitTag_fdp ..
    · rw [if_pos h]; exact posts _
    · rw [if_neg h]; exact posts _
  · obtain ⟨posts, sent, -⟩ := State.delivered_succeeds (State.adm_uncommitted ha) hp
    exact ⟨_, exec_directiveReceive_identify ha he ht ho hd, posts, sent⟩
  · have bound := s.boundary_chg 0x6001
    rw [← hu] at bound
    have data := u.deliverFields_chg tag 4096 l
    have ends := (u.deliverFields tag 4096 l).succeed_chg tag 0 0
    have uncommitted : ((u.deliverFields tag 4096 l).tag tag).st.uncommitted = true := by
      rw [data.tag_eq rfl, hst]; rfl
    refine ⟨_, exec_identify_fields ha hu hd hl, (State.commitTag_posts uncommitted ⟨0, 0⟩ 0 0).1, ?_, ?_, ?_⟩
    · rw [ends.out rfl]; exact State.deliverFields_sent hp
    · rw [ends.nss rfl, data.nss rfl, bound.nss rfl]
    · rw [ends.ctrls rfl, data.ctrls rfl, bound.ctrls rfl]
  · have bound := s.boundary_chg 0x6001
    rw [← hu] at bound
    have ends := u.commitTag_chg tag st 0 0
    refine ⟨_, exec_identify_refused ha hu hd hl, (State.commitTag_posts (by rw [hst]; rfl) st 0 0).1, ?_, ?_⟩
    · rw [ends.nss rfl, bound.nss rfl]
    · rw [ends.ctrls rfl, bound.ctrls rfl]
  · obtain ⟨posts, sent, ctrls⟩ := State.delivered_succeeds (State.adm_uncommitted ha) hp
    exact ⟨_, exec_getLogPage_frozen ha he hf rfl rfl h4 hd, posts, ctrls, sent⟩
  · have ends := s.commitTag_chg tag ⟨1, 9⟩ 0 0
    exact ⟨_, exec_getLogPage_refused ha hall hman, (State.commitTag_posts (State.adm_uncommitted ha) ⟨1, 9⟩ 0 0).1, ends.out rfl,
      ends.ctrls rfl⟩

end Sys2Proof
end

section
/-! SUPPORT. The plan of an I/O command (R11 to R13, R115): the commits that a boundary answers, the buffers it serves and the map pages a
plan asks for leave every command where it is. -/

namespace Sys2Proof.Machine

/-! ### What a boundary leaves of every tag (R49, R378) -/

theorem State.bufTake_tagsKept (s : State) (t a z n : Nat) (fallback : Bool) : TagsKept s (s.bufTake t a z n fallback) :=
  TagsKept.setTag _ _ _ ⟨rfl, rfl, rfl, rfl, rfl, rfl, rfl, rfl, rfl, rfl, rfl, .inl rfl⟩

theorem State.bufRequest_tagsKept (s : State) (t : Nat) (dram : Bool) (a z n cls : Nat) : TagsKept s (s.bufRequest t dram a z n cls) := by
  unfold State.bufRequest
  split
  · exact s.bufTake_tagsKept _ _ _ _ _
  · exact .of_tags rfl

/-- The requests that a pool serves get buffers, and nothing else. -/
theorem State.bufServe_tagsKept (s : State) : TagsKept s s.bufServe := by
  unfold State.bufServe
  refine List.foldlRecOn (motive := fun acc : State × List BufReq => TagsKept s acc.1) _ _ (.refl s) fun acc kept r _ => ?_
  dsimp only
  split
  · split
    · exact kept
    · exact .step (State.bufTake_tagsKept _ _ _ _ _ _) kept
  · exact kept

theorem State.answer_tagsKept (s : State) (p : DPath) (f : DFrame) (a : Ans) : TagsKept s (s.answer p f a) := by
  unfold State.answer
  dsimp only
  refine .ite (.refl s) ?_
  split
  · refine .ite (s.commitTag_tagsKept _ _ _ _) ?_
    split
    · exact .step (State.succeed_tagsKept _ _ _ _) (.of_chg (State.deliver_chg ..) rfl)
    · exact s.succeed_tagsKept _ _ _
    · exact s.succeed_tagsKept _ _ _
    · exact s.succeed_tagsKept _ _ _
  · exact .of_chg (s.mailboxAnswer_chg _ _ _) rfl
  · exact .step (.of_chg (State.remember_chg _ _ _ _) rfl) (.of_chg (s.emit_chg _) rfl)

theorem State.commitDone_tagsKept (s : State) (i : Nat) (c : PendingCommit) : TagsKept s (s.commitDone i c) := by
  unfold State.commitDone
  dsimp only
  split
  · exact .ite (.refl s) (State.answer_tagsKept (s.setResult _ _ _) _ _ _)
  · exact .refl s

theorem State.inForceHook_tagsKept (s : State) (i : Nat) (wasLog : Bool) : TagsKept s (s.inForceHook i wasLog) := by
  unfold State.inForceHook
  refine .ite ?_ (.ite (.of_chg (State.ltrAll_chg _) rfl) (.ite s.bufServe_tagsKept (.refl s)))
  exact .step (.of_chg (State.ltrAll_chg _) rfl) (.step (.of_chg (State.sliceInterrupts_chg ..) rfl)
    (.of_chg (State.dlogSwitch_chg ..) rfl))

theorem State.boundary_tagsKept (s : State) (i : Nat) : TagsKept s (s.boundary i) := by
  unfold State.boundary
  dsimp only
  split
  · exact .refl s
  · refine .ite (.refl s) ?_
    unfold State.commitForce
    refine .step (TagsKept.forEach _ _ _ fun c t => t.commitDone_tagsKept i c) (.step (State.inForceHook_tagsKept _ _ _) ?_)
    exact .of_tags ((State.forceFields_chg ..).tags rfl)

/-! ### What the map pages of a plan leave of every tag (R224, R230) -/

/-- The detectors and their prefetches change no tag beyond the boundary of their record. -/
theorem State.detect_tagsKept (s : State) (slice n p cls : Nat) : TagsKept s (s.detect slice n p cls) := by
  refine .step (.of_tags ?_) (s.boundary_tagsKept 0x6001)
  unfold State.detect
  dsimp only
  split
  · refine State.forEach_keeps (π := State.tags) (fun i t => ?_) _ _
    split
    · rfl
    · split
      · exact ((State.fillStart_chg ..).tags rfl).trans (t.frameTakeIdle_chg.tags rfl)
      · exact t.frameTakeIdle_chg.tags rfl
  · rfl

theorem State.detectAll_tagsKept (s : State) (t : Nat) : TagsKept s (s.detectAll t) := by
  unfold State.detectAll
  exact .ite (TagsKept.forEach _ _ _ fun p u => u.detect_tagsKept _ _ _ _) (.refl s)

theorem State.mapResolve_tagsKept (s : State) (t : Nat) : TagsKept s (s.mapResolve t) := by
  have waits : ∀ (u : State) (b : Bool), TagsKept u (u.setTag t { u.tag t with waitsFill := b }) := fun u b =>
    TagsKept.setTag _ _ _ ⟨rfl, rfl, rfl, rfl, rfl, rfl, rfl, rfl, rfl, rfl, rfl, .inl rfl⟩
  unfold State.mapResolve
  refine .ite (.step (waits _ _) (.ite (.of_chg (State.lookupAll_chg ..) rfl) (.refl s))) (.step (waits _ _) ?_)
  exact TagsKept.forEach _ _ _ fun p u => .ite (.refl u) (.of_chg (State.fillAsk_chg ..) rfl)

/-! ### The plan -/

variable {s : State} {tag : Nat}

/-- The command of a tag with a plan. -/
def Tag.planned (x : Tag) (plan : List PStep) : Tag := { x with built := true, plan := plan }

/-- A command whose plan is built is the same command, and has the plan. -/
theorem State.ioBuild_onward (s : State) (t : Nat) (plan : List PStep) (data : Bool) :
    ((s.tag t).planned plan).onward ((s.ioBuild t plan data).tag t) := by
  have lists : TagsKept (s.setTag t ((s.tag t).planned plan))
      (if data then (s.setTag t ((s.tag t).planned plan)).startLists t else s.setTag t ((s.tag t).planned plan)) :=
    .ite (State.startLists_tagsKept _ _) (.refl _)
  have kept : TagsKept (s.setTag t ((s.tag t).planned plan)) (s.ioBuild t plan data) :=
    .ite lists (.step (State.detectAll_tagsKept _ _) (.step (State.mapResolve_tagsKept _ _) lists))
  have built := kept t
  rw [State.setTag_tag] at built
  exact built

/-- An I/O command in BUILD has not reached its commit point. -/
theorem State.iot_uncommitted {op : Nat} (h : s.iot tag op = true) : (s.tag tag).st.uncommitted = true := by
  unfold State.iot at h
  simp only [Bool.and_eq_true, decide_eq_true_eq] at h
  obtain ⟨⟨⟨-, build⟩, -⟩, -⟩ := h
  rw [build]; rfl

/-- A plan keeps the range of its command. -/
theorem State.ioBuild_range (s : State) (t : Nat) (plan : List PStep) (data : Bool) :
    ((s.ioBuild t plan data).tag t).slba = (s.tag t).slba ∧ ((s.ioBuild t plan data).tag t).nlb = (s.tag t).nlb :=
  have kept := s.ioBuild_onward t plan data
  ⟨kept.slba, kept.nlb⟩

/-- A built plan: the command has it, and no row of the medium changes. -/
theorem State.ioBuild_planned (s : State) (t : Nat) (plan : List PStep) (data : Bool) :
    ((s.ioBuild t plan data).tag t).built = true ∧ ((s.ioBuild t plan data).tag t).plan = plan ∧
      ((s.ioBuild t plan data).tag t).sqe = (s.tag t).sqe ∧ ((s.ioBuild t plan data).tag t).stepsDone = (s.tag t).stepsDone ∧
      (s.ioBuild t plan data).media = s.media :=
  have kept := s.ioBuild_onward t plan data
  ⟨kept.built, kept.plan, kept.sqe, kept.stepsDone, (s.ioBuild_chg t plan data).media rfl⟩

/-- A command that fails a check ends with its status; neither the map nor the medium changes. -/
theorem State.commitTag_refuses (hu : (s.tag tag).st.uncommitted = true) (st : Status) :
    Posts (s.commitTag tag st) tag st ∧ (s.commitTag tag st).map = s.map ∧ (s.commitTag tag st).media = s.media :=
  have ends := s.commitTag_chg tag st 0 0
  ⟨(State.commitTag_posts hu st 0 0).1, ends.map rfl, ends.media rfl⟩

section
variable {plan : List PStep} {data : Bool}

theorem State.ioRun_refused {st : Status} (h : s.ioStatus tag (if data then 4096 * (s.tag tag).nlb else 0) = some st) :
    s.ioRun tag plan data = s.commitTag tag st := by
  unfold State.ioRun; rw [h]

theorem State.ioRun_builds (h : s.ioStatus tag (if data then 4096 * (s.tag tag).nlb else 0) = none) :
    s.ioRun tag plan data = s.ioBuild tag plan data := by
  unfold State.ioRun; rw [h]

end

/-! ### The commands that move or check blocks (R28, R29, R115) -/

theorem exec_write (h : s.iot tag 0x01 = true) : exec (.write tag) s =
    .next (s.ioRun tag (planOf [.buf, .hostrd, .xform] (s.tag tag).nlb 8 [.mapupd, .cmpl]) true) := next_when h

theorem exec_read (h : s.iot tag 0x02 = true) : exec (.read tag) s =
    .next (s.ioRun tag (planOf [.buf, .die, .xform, .hostwr] (s.tag tag).nlb 8 [.cmpl]) true) := next_when h

theorem exec_compare (h : s.iot tag 0x05 = true) : exec (.compare tag) s =
    .next (s.ioRun tag (planOf [.buf, .hostrd, .die, .xform] (s.tag tag).nlb 8 [.cmpl]) true) := next_when h

theorem exec_verify (h : s.iot tag 0x0C = true) : exec (.verify tag) s =
    .next (s.ioRun tag (planOf [.buf, .die, .xform] (s.tag tag).nlb 8 [.cmpl]) false) := next_when h

/-- Write Zeroes with DEAC only changes the map; without it its blocks pass the transform pipe. -/
theorem exec_writeZeroes (h : s.iot tag 0x08 = true) : exec (.writeZeroes tag) s =
    .next (s.ioRun tag (if Sqe.deac (s.tag tag).sqe then [⟨0, .mapupd⟩, ⟨0, .cmpl⟩]
      else planOf [.buf, .xform] (s.tag tag).nlb 8 [.mapupd, .cmpl]) false) := next_when h

theorem exec_writeUncorrectable (h : s.iot tag 0x04 = true) :
    exec (.writeUncorrectable tag) s = .next (s.ioBuild tag [⟨0, .mapupd⟩, ⟨0, .cmpl⟩] false) := next_when h

theorem exec_flush (h : s.iot tag 0x00 = true) : exec (.flush tag) s = .next (s.ioBuild tag [⟨0, .cmpl⟩] false) := next_when h

/-! ### Dataset Management (R115, R234) -/

theorem State.rangesBad_iff {n : Nat} {l : List (Nat × Nat)} : s.rangesBad n l = true ↔ ∃ r ∈ l, (s.ns n).nsze < r.1 + r.2 := by
  unfold State.rangesBad
  simp only [List.any_eq_true, decide_eq_true_eq]

section
variable {l : List (Nat × Nat)} (h : s.iot tag 0x09 = true) (hl : l.length = (s.tag tag).sqe.cdw10 % 256 + 1)
  (hd : s.dptrStatus (s.qfunc (s.tag tag).q).1 (s.qfunc (s.tag tag).q).2 (16 * l.length) (s.tag tag).sqe = none)
include h hl hd

/-- With its data pointer good, AD and the ranges decide what becomes of the command. -/
theorem exec_datasetManagement : exec (.datasetManagement tag l) s =
    .next (if !(s.tag tag).sqe.cdw11.testBit 2 then s.succeed tag
      else if s.rangesBad (s.tag tag).sqe.nsid l then s.commitTag tag ⟨0, 0x80⟩
      else (s.setTag tag { s.tag tag with ranges := l }).ioBuild tag [⟨0, .mapupd⟩, ⟨0, .cmpl⟩] false) := by
  refine (next_when (by rw [h, hl, beq_self_eq_true]; rfl)).trans (congrArg Host.Outcome.next ?_)
  simp only [hd]

theorem exec_datasetManagement_hint (ha : (s.tag tag).sqe.cdw11.testBit 2 = false) :
    exec (.datasetManagement tag l) s = .next (s.succeed tag) := by
  rw [exec_datasetManagement h hl hd, ha]; rfl

theorem exec_datasetManagement_bad (ha : (s.tag tag).sqe.cdw11.testBit 2 = true) (hr : s.rangesBad (s.tag tag).sqe.nsid l = true) :
    exec (.datasetManagement tag l) s = .next (s.commitTag tag ⟨0, 0x80⟩) := by
  rw [exec_datasetManagement h hl hd, ha, hr]; rfl

theorem exec_datasetManagement_good (ha : (s.tag tag).sqe.cdw11.testBit 2 = true) (hr : s.rangesBad (s.tag tag).sqe.nsid l = false) :
    exec (.datasetManagement tag l) s =
      .next ((s.setTag tag { s.tag tag with ranges := l }).ioBuild tag [⟨0, .mapupd⟩, ⟨0, .cmpl⟩] false) := by
  rw [exec_datasetManagement h hl hd, ha, hr]; rfl

end

/-! ### Copy (R115, R164, R195, R333) -/

/-- The command of a Copy whose source ranges are known. -/
def State.copyRanged (s : State) (tag : Nat) (l : List (Nat × Nat)) : Tag :=
  { s.tag tag with slba := (s.tag tag).sqe.slba, nlb := (l.map (fun r => r.2)).sum, ranges := l }

/-- A Copy has its reservation in the pool (R195). -/
def State.copyReserved (s : State) (tag : Nat) (l : List (Nat × Nat)) : State :=
  let need := 4 * (l.map (fun r => r.2)).sum
  ({ s with pool := { s.pool with inflight := s.pool.inflight + need } }.setTag tag (s.copyRanged tag l)).setTag
    tag { s.copyRanged tag l with need := need }

/-- A Copy is charged (R164). -/
def State.copyCharged (s : State) (tag : Nat) (l : List (Nat × Nat)) : State :=
  (s.copyReserved tag l).charge (s.tag tag).slice 1 ((s.copyReserved tag l).cost (s.tag tag).sqe (l.map (fun r => r.2)).sum)

/-- A Copy has its buffers, or waits for them. -/
def State.copyGranted (s : State) (tag : Nat) (l : List (Nat × Nat)) : State :=
  (s.copyCharged tag l).bufRequest tag true (s.copyCharged tag l).pairWanted 2 (l.map (fun r => r.2)).sum (s.tag tag).cls

/-- What the checks of a Copy make of it: its status, a wait for the pool, or its plan. -/
def State.copyRun (s : State) (tag : Nat) (l : List (Nat × Nat)) : Option Status → State
  | some st => (s.countExceeded (s.tag tag).sqe.nsid st).commitTag tag st
  | none => if s.poolWaits (s.tag tag).sqe.nsid (4 * (l.map (fun r => r.2)).sum) then s
    else (s.copyGranted tag l).ioBuild tag (planOf [.buf, .die, .xform] (l.map (fun r => r.2)).sum 4 [.mapupd, .cmpl]) false

theorem exec_copy {l : List (Nat × Nat)} {o : Option Status} (h : s.iot tag 0x19 = true)
    (hl : l.length = (s.tag tag).sqe.cdw12 % 256 + 1) (hc : (s.setTag tag (s.copyRanged tag l)).copyStatus tag l = o) :
    exec (.copy tag l) s = .next (s.copyRun tag l o) := by
  show execCopy tag l s = _
  unfold execCopy
  rw [State.when_true _ (by rw [h, hl, beq_self_eq_true]; rfl)]
  extract_lets x n total y s0
  generalize hg : s0.copyStatus tag l = o'
  obtain rfl : o' = o := hg.symm.trans hc
  rfl

/-- The reservation of a Copy leaves its command with its ranges. -/
theorem State.copyReserved_tag (s : State) (tag : Nat) (l : List (Nat × Nat)) :
    (s.copyRanged tag l).onward ((s.copyReserved tag l).tag tag) := by
  unfold State.copyReserved
  rw [State.setTag_tag]
  exact ⟨rfl, rfl, rfl, rfl, rfl, rfl, rfl, rfl, rfl, rfl, rfl, .inl rfl⟩

theorem State.copyReserved_media (s : State) (tag : Nat) (l : List (Nat × Nat)) : (s.copyReserved tag l).media = s.media := rfl

theorem State.copyCharged_chg (s : State) (tag : Nat) (l : List (Nat × Nat)) : Chg 262160 (s.copyReserved tag l) (s.copyCharged tag l) := by
  unfold State.copyCharged
  exact State.charge_chg ..

theorem State.copyGranted_chg (s : State) (tag : Nat) (l : List (Nat × Nat)) :
    Chg 17179877376 (s.copyCharged tag l) (s.copyGranted tag l) := by
  unfold State.copyGranted
  exact State.bufRequest_chg ..

theorem State.copyGranted_tagsKept (s : State) (tag : Nat) (l : List (Nat × Nat)) : TagsKept (s.copyReserved tag l) (s.copyGranted tag l) := by
  refine .step ?_ (.of_chg (s.copyCharged_chg tag l) rfl)
  unfold State.copyGranted
  exact State.bufRequest_tagsKept _ _ _ _ _ _ _

/-- A Copy whose checks pass and for which the pool has room has its plan over its source ranges. -/
theorem State.copyRun_planned {l : List (Nat × Nat)}
    (hp : s.poolWaits (s.tag tag).sqe.nsid (4 * (l.map (fun r => r.2)).sum) = false) :
    ((s.copyRun tag l none).tag tag).built = true ∧
      ((s.copyRun tag l none).tag tag).plan = planOf [.buf, .die, .xform] (l.map (fun r => r.2)).sum 4 [.mapupd, .cmpl] ∧
      ((s.copyRun tag l none).tag tag).slba = (s.tag tag).sqe.slba ∧ ((s.copyRun tag l none).tag tag).nlb = (l.map (fun r => r.2)).sum ∧
      (s.copyRun tag l none).media = s.media := by
  have ranged := (s.copyReserved_tag tag l).trans (s.copyGranted_tagsKept tag l tag)
  have granted := ((s.copyGranted_chg tag l).media rfl).trans (((s.copyCharged_chg tag l).media rfl).trans (s.copyReserved_media tag l))
  have plans : s.copyRun tag l none = (s.copyGranted tag l).ioBuild tag
    (planOf [.buf, .die, .xform] (l.map (fun r => r.2)).sum 4 [.mapupd, .cmpl]) false := if_neg (by rw [hp]; exact Bool.false_ne_true)
  obtain ⟨built, plan, -, -, media⟩ := (s.copyGranted tag l).ioBuild_planned tag
    (planOf [.buf, .die, .xform] (l.map (fun r => r.2)).sum 4 [.mapupd, .cmpl]) false
  obtain ⟨slba, nlb⟩ := (s.copyGranted tag l).ioBuild_range tag
    (planOf [.buf, .die, .xform] (l.map (fun r => r.2)).sum 4 [.mapupd, .cmpl]) false
  rw [plans]
  exact ⟨built, plan, slba.trans ranged.slba, nlb.trans ranged.nlb, media.trans granted⟩

end Sys2Proof.Machine
end

section
/-! The statement about the host data commands. -/

namespace Sys2Proof

open Machine

/-- Settles O27: each command is one equation to its checks, and a plan that is built stays through the fills, the detectors and the boundary
that its map pages bring. -/
theorem ioCommands : Obligations.IoCommands := by
  refine ⟨fun s tag op x each last data h hx => ?_, fun s tag h hz hc => ?_, fun s tag h => ?_, fun s tag h => ?_,
    fun s tag l h hl hd => ?_, fun s u tag total l h hl htotal hu => ?_⟩
  · have uncommitted := State.iot_uncommitted h
    have run : exec x s = .next (s.ioRun tag (planOf each (s.tag tag).nlb 8 last) data) := by
      rcases hx with ⟨rfl, rfl, rfl, rfl, rfl⟩ | ⟨rfl, rfl, rfl, rfl, rfl⟩ | ⟨rfl, rfl, rfl, rfl, rfl⟩ | ⟨rfl, rfl, rfl, rfl, rfl⟩ |
        ⟨rfl, rfl, hz, rfl, rfl, rfl⟩
      · exact exec_write h
      · exact exec_read h
      · exact exec_compare h
      · exact exec_verify h
      · rw [exec_writeZeroes h, hz]; rfl
    rw [run]
    refine ⟨fun st hst => ⟨_, rfl, ?_⟩, fun hst => ⟨_, rfl, ?_⟩⟩
    · rw [State.ioRun_refused hst]
      exact State.commitTag_refuses uncommitted st
    · rw [State.ioRun_builds hst]
      exact s.ioBuild_planned ..
  · obtain ⟨built, plan, -, -, media⟩ := s.ioBuild_planned tag [⟨0, .mapupd⟩, ⟨0, .cmpl⟩] false
    refine ⟨_, exec_writeZeroes h, ?_⟩
    rw [hz, if_pos rfl, State.ioRun_builds hc]
    exact ⟨built, plan, media⟩
  · obtain ⟨built, plan, -, -, media⟩ := s.ioBuild_planned tag [⟨0, .mapupd⟩, ⟨0, .cmpl⟩] false
    exact ⟨_, exec_writeUncorrectable h, built, plan, media⟩
  · obtain ⟨built, plan, -, -, media⟩ := s.ioBuild_planned tag [⟨0, .cmpl⟩] false
    exact ⟨_, exec_flush h, built, plan, media⟩
  · have refuses := State.commitTag_refuses (State.iot_uncommitted h)
    refine ⟨fun ha => ?_, fun ha hr => ?_, fun ha hr => ?_⟩
    · obtain ⟨posts, map, -⟩ := refuses ⟨0, 0⟩
      exact ⟨_, exec_datasetManagement_hint h hl hd ha, posts, map⟩
    · obtain ⟨posts, map, -⟩ := refuses ⟨0, 0x80⟩
      exact ⟨_, exec_datasetManagement_bad h hl hd ha (State.rangesBad_iff.mpr hr), posts, map⟩
    · have good : s.rangesBad (s.tag tag).sqe.nsid l = false := by
        rw [← Bool.not_eq_true, State.rangesBad_iff]
        exact fun ⟨r, hmem, hlt⟩ => Nat.not_le.mpr hlt (hr r hmem)
      obtain ⟨built, plan, -, -, media⟩ :=
        (s.setTag tag { s.tag tag with ranges := l }).ioBuild_planned tag [⟨0, .mapupd⟩, ⟨0, .cmpl⟩] false
      exact ⟨_, exec_datasetManagement_good h hl hd ha good, built, plan, media⟩
  · subst htotal hu
    refine ⟨fun st hc => ?_, fun hc hp => ?_, fun hc hp => ?_⟩
    · have counts := s.countExceeded_chg (s.tag tag).sqe.nsid st
      obtain ⟨posts, map, -⟩ := State.commitTag_refuses (s := s.countExceeded (s.tag tag).sqe.nsid st) (tag := tag)
        (by rw [counts.tag_eq rfl]; exact State.iot_uncommitted h) st
      exact ⟨_, exec_copy h hl hc, posts, map.trans (counts.map rfl)⟩
    · exact (exec_copy h hl hc).trans (congrArg Host.Outcome.next (if_pos hp))
    · obtain ⟨built, plan, slba, nlb, media⟩ := s.copyRun_planned hp
      exact ⟨_, exec_copy h hl hc, built, plan, nlb, slba, media⟩

end Sys2Proof
end

section
/-! SUPPORT. The count of the aborts that find no command (R127, R136) and the timestamp that a host sets (R455), with a state for each in
which the width of the count, or of the timestamp, shows. -/

namespace Sys2Proof.Machine

variable {s : State} {tag : Nat}

/-! ### The answer of an Abort (R127) -/

/-- An Abort that names an admin queue finds no command. -/
theorem exec_abort_admin (ha : s.adm tag 0x08 = true) (ho : s.outstanding (s.tag tag).q 0x08 ≤ 64)
    (hq : ((s.tag tag).q.withQid ((s.tag tag).sqe.cdw10 % 65536)).isAdmin = true) :
    exec (.abort tag) s = .next (s.abortAnswer tag false) := by
  refine (next_when ha).trans (congrArg Host.Outcome.next ?_)
  exact (if_neg (Nat.not_lt.mpr ho)).trans (if_pos hq)

/-- An abort that finds no command is counted in 2008h.05, a counter of 32 bits that stays at its highest value. -/
theorem State.abortAnswer_notAborted (s : State) (t : Nat) :
    (s.abortAnswer t false).cmds.notAborted = satAdd 32 s.cmds.notAborted 1 := by
  unfold State.abortAnswer
  rw [(State.succeed_chg ..).cmds rfl]
  rfl

/-! ### The timestamp (R455) -/

theorem exec_setFeaturesTimestamp_set {ms : Nat} (ha : s.adm tag 0x09 = true) (hf : (s.tag tag).sqe.cdw10 % 256 = 0x0E)
    (hs : Sqe.saves (s.tag tag).sqe = false)
    (hd : s.dptrStatus (s.qfunc (s.tag tag).q).1 (s.qfunc (s.tag tag).q).2 8 (s.tag tag).sqe = none) :
    exec (.setFeaturesTimestamp tag ms) s = .next ((s.timeSet (ms % 2 ^ 48 * msec)).succeed tag) := by
  have sets : s.setsFeature tag (fun f => f == 0x0E) = true := by
    unfold State.setsFeature
    rw [ha, hf]; rfl
  refine (next_when sets).trans (congrArg Host.Outcome.next ?_)
  simp only [hs, hd, Bool.false_eq_true, if_false]

/-- The timestamp is kept in nanoseconds, in the 64 bits of A001h.01. -/
theorem State.timeSet_tsBase (s : State) (ns t : Nat) : ((s.timeSet ns).succeed t).aon.tsBase = ns % 2 ^ 64 := by
  rw [(State.succeed_chg ..).aon rfl]
  rfl

/-! ### The two states -/

/-- An entry without data of an admin command. -/
def adminEntry (op dw10 : Nat) : Sqe :=
  { opcode := op, cid := 0, fuse := 0, psdt := 0, nsid := 0, cdw2 := 0, cdw3 := 0, mptr := 0, prp1 := 0, prp2 := 0, cdw10 := dw10
    cdw11 := 0, cdw12 := 0, cdw13 := 0, cdw14 := 0, cdw15 := 0, rsvd := false }

/-- Tag 0 holds a command of the admin queue of port 0. -/
def adminOnly (e : Sqe) : State := { State.reset with tags := [(0, { st := .build, q := .std 0 0 0, admin := true, sqe := e })] }

/-- An Abort that names the admin queue, after as many aborts without a command as the counter holds. -/
def abortsCounted : State := { adminOnly (adminEntry 0x08 0) with cmds := { notAborted := 2 ^ 32 - 1 } }

/-- A Set Features of the timestamp. -/
def setsTimestamp : State := adminOnly (adminEntry 0x09 0x0E)

end Sys2Proof.Machine
end

section
/-! The statements about the admin commands of queues and about Set Features, which the widths of a counter and of the timestamp refute. -/

namespace Sys2Proof

open Machine

/-- Refutes O17: the statement adds to the count of aborts that find no command up to 64 bits, and 2008h.05 is a U32 (R136), which the
model keeps at 2^32 - 1. An Abort of an admin queue with the counter full leaves it there, where the statement has 2^32. -/
theorem not_adminQueues : ¬ Obligations.AdminQueues := by
  rintro ⟨-, -, -, -, -, -, -, abort, -⟩
  obtain ⟨t, ht, -, -, stated, -⟩ := abort abortsCounted 0 (.std 0 0 0) (by decide) (by decide) (by decide) (.inl rfl)
  have run := exec_abort_admin (s := abortsCounted) (tag := 0) (by decide) (by decide) (by decide)
  obtain rfl : t = abortsCounted.abortAnswer 0 false := Host.Outcome.next.inj (ht.symm.trans run)
  rw [State.abortAnswer_notAborted] at stated
  exact absurd stated (by decide)

/-- Refutes O18: the statement keeps the milliseconds of 48 bits times 10^6 whole, and the timestamp is the U64 of A001h.01 (R455), so
that the model keeps it modulo 2^64. A host that sets 2^45 ms gets less than the 2^45 * 10^6 ns of the statement. -/
theorem not_setFeatures : ¬ Obligations.SetFeatures := by
  rintro ⟨-, -, -, -, -, -, -, time, -⟩
  obtain ⟨t, ht, -, stated, -⟩ := time setsTimestamp 0 (2 ^ 45) (by decide) (by decide) (by decide) (by decide)
  have run := exec_setFeaturesTimestamp_set (s := setsTimestamp) (tag := 0) (ms := 2 ^ 45) (by decide) (by decide) (by decide) (by decide)
  obtain rfl := Host.Outcome.next.inj (ht.symm.trans run)
  rw [State.timeSet_tsBase] at stated
  exact absurd stated (by decide)

end Sys2Proof
end

section
/-! SUPPORT. The NVMe-MI messages (R99, R147, R409): one equation for each command, and what the reset of both ports leaves of each. -/

namespace Sys2Proof.Machine

variable {s : State} {m : MPath}

/-- A message that is put on an output stands there. -/
theorem State.emit_sent (s : State) (o : Out) : o ∈ (s.emit o).out := OutGrows.sent (.refl _)

/-! ### Structures and health (R147, R409) -/

/-- The controllers of R147, as NVMe-MI lists them: their number, then the identifiers. -/
def State.controllerList (s : State) : Nat :=
  fromLe (leBytes 2 s.boundSlices.length ++ (s.boundSlices.map (fun n => leBytes 2 (n + 1))).flatten)

theorem exec_readNvmeMiDataStructure_list (h : s.mctpUp m = true) :
    exec (.readNvmeMiDataStructure m 2) s = .next (s.emit (.mgmt m "NVMe-MI data structure" s.controllerList)) := by
  refine (next_when h).trans (congrArg (fun v => Host.Outcome.next (s.emit (.mgmt m "NVMe-MI data structure" v))) ?_)
  rw [if_pos rfl, List.length_map, List.map_map]
  rfl

theorem exec_readNvmeMiDataStructure_field {k : Nat} (h : s.mctpUp m = true) (hk : k ≠ 2) :
    exec (.readNvmeMiDataStructure m k) s = .next (s.emit (.mgmt m "NVMe-MI data structure" (Config.nvmeField 16 k))) :=
  (next_when h).trans (congrArg (fun v => Host.Outcome.next (s.emit (.mgmt m "NVMe-MI data structure" v))) (if_neg hk))

theorem exec_subsystemHealthStatusPoll (h : s.mctpUp m = true) : exec (.subsystemHealthStatusPoll m) s =
    .next (s.emit (.mgmt m "subsystem health" (s.critical + min s.percentUsed 255 * 256 + s.mgmt.healthChange * 65536))) := next_when h

theorem exec_controllerHealthStatusPoll_here {c : Nat} (h : s.mctpUp m = true) (hc : s.ctrlHere c = true) :
    exec (.controllerHealthStatusPoll m c) s =
      .next (s.emit (.mgmt m "controller health" (s.csts (s.slPort (c - 1)) (s.slFn (c - 1)) + s.critical * 256))) :=
  (next_when h).trans (congrArg Host.Outcome.next (if_pos hc))

theorem exec_controllerHealthStatusPoll_absent {c : Nat} (h : s.mctpUp m = true) (hc : s.ctrlHere c = false) :
    exec (.controllerHealthStatusPoll m c) s = .next (s.emit (.mgmt m "controller health: invalid parameter" c)) :=
  (next_when h).trans (congrArg Host.Outcome.next (if_neg (by rw [hc]; exact Bool.false_ne_true)))

/-! ### Configuration (R409) -/

/-- A number without the bits that it shares with another has its own bits that the other lacks. -/
theorem testBit_sub_and (a b i : Nat) : (a - (a &&& b)).testBit i = (a.testBit i && !b.testBit i) := by
  have low (a b : Nat) : (a &&& b) % 2 = a % 2 &&& b % 2 := Nat.and_mod_two_pow (n := 1)
  have le (a b : Nat) : a &&& b ≤ a ∧ (a &&& b) % 2 ≤ a % 2 := ⟨Nat.and_le_left, low a b ▸ Nat.and_le_left⟩
  induction i generalizing a b with
  | zero =>
    have last : (a - (a &&& b)) % 2 = a % 2 - (a % 2 &&& b % 2) := by
      have := le a b
      rw [← low]
      omega
    rw [Nat.testBit_zero, Nat.testBit_zero, Nat.testBit_zero, last]
    rcases Nat.mod_two_eq_zero_or_one a with ha | ha <;> rcases Nat.mod_two_eq_zero_or_one b with hb | hb <;> rw [ha, hb] <;> rfl
  | succ i ih =>
    have half : (a - (a &&& b)) / 2 = a / 2 - (a / 2 &&& b / 2) := by
      have := le a b
      rw [← Nat.and_div_two]
      omega
    rw [Nat.testBit_succ, Nat.testBit_succ, Nat.testBit_succ, half, ih]

theorem exec_configurationGet_smbus (h : s.mctpUp m = true) :
    exec (.configurationGet m 1) s = .next (s.emit (.mgmt m "SMBus frequency" s.mgmt.smbusFreq)) := next_when h

theorem exec_configurationGet_health (h : s.mctpUp m = true) :
    exec (.configurationGet m 2) s = .next (s.emit (.mgmt m "health status change" s.mgmt.healthChange)) := next_when h

theorem exec_configurationGet_unit (h : s.mctpUp m = true) :
    exec (.configurationGet m 3) s = .next (s.emit (.mgmt m "transmission unit" (Tbl.get 64 s.mgmt.mtu (MPath.code m)))) := next_when h

theorem exec_configurationGet_bad {k : Nat} (h : s.mctpUp m = true) (hk : k = 0 ∨ 3 < k) :
    exec (.configurationGet m k) s = .next (s.emit (.mgmt m "configuration: invalid parameter" k)) := by
  rcases hk with rfl | hk
  · exact next_when h
  · obtain ⟨j, rfl⟩ := Nat.exists_eq_add_of_lt hk
    rw [show 3 + j + 1 = j + 4 by omega]
    exact next_when h

/-- The answer to a setting that has been made. -/
def State.configured (s : State) (m : MPath) (item : Nat) (x : Mgmt) : State := { s with mgmt := x }.emit (.mgmt m "configuration set" item)

theorem exec_configurationSet_smbus {v : Nat} (h : s.mctpUp m = true) (hv : v = 1 ∨ v = 2) :
    exec (.configurationSet m 1 v) s = .next (s.configured m 1 { s.mgmt with smbusFreq := v }) :=
  (next_when h).trans (congrArg Host.Outcome.next (if_pos hv))

theorem exec_configurationSet_health {v : Nat} (h : s.mctpUp m = true) : exec (.configurationSet m 2 v) s =
    .next (s.configured m 2 { s.mgmt with healthChange := s.mgmt.healthChange - (s.mgmt.healthChange &&& v) }) := next_when h

theorem exec_configurationSet_unit {v : Nat} (h : s.mctpUp m = true) (hv : 64 ≤ v ∧ v ≤ s.packetLimit m) :
    exec (.configurationSet m 3 v) s =
      .next (s.configured m 3 { s.mgmt with mtu := Tbl.set 64 s.mgmt.mtu (MPath.code m) v }) :=
  (next_when h).trans (congrArg Host.Outcome.next (if_pos hv))

/-- A value that an item does not take, or no item. -/
def State.settingBad (s : State) (m : MPath) (item v : Nat) : Prop :=
  item = 1 ∧ ¬(v = 1 ∨ v = 2) ∨ item = 3 ∧ ¬(64 ≤ v ∧ v ≤ s.packetLimit m) ∨ item = 0 ∨ 3 < item

theorem exec_configurationSet_bad {k v : Nat} (h : s.mctpUp m = true) (hk : s.settingBad m k v) :
    exec (.configurationSet m k v) s = .next (s.emit (.mgmt m "configuration: invalid parameter" k)) := by
  rcases hk with ⟨rfl, hv⟩ | ⟨rfl, hv⟩ | rfl | hk
  · exact (next_when h).trans (congrArg Host.Outcome.next (if_neg hv))
  · exact (next_when h).trans (congrArg Host.Outcome.next (if_neg hv))
  · exact next_when h
  · obtain ⟨j, rfl⟩ := Nat.exists_eq_add_of_lt hk
    rw [show 3 + j + 1 = j + 4 by omega]
    exact next_when h

/-! ### The reset (R99) -/

/-- The reset of one port leaves the other ports but for their discards, their invalidations and their translation caches. -/
theorem State.portReset_core_ne (s : State) {p q : Nat} (h : p ≠ q) (kind : Nat) (sticky : Bool) :
    ((s.portReset p kind sticky).port q).core = (s.port q).core := by
  unfold State.portReset
  extract_lets x ns s1 s2
  rw [State.funcsReset_portsKept]
  have ports : s2.ports = s1.ports := (s1.vdmDown_chg p).ports rfl
  unfold State.port
  rw [ports]
  exact congrArg Port.core (s.setPort_port_ne _ h)

/-- The reset that NVMe-MI asks for: of port 0 alone, or of both ports in dual-port mode. -/
def State.miReset (s : State) (m : MPath) : State :=
  if s.dual then (((s.emit (.mgmt m "Reset" 0)).portReset 0 5 false).portReset 1 5 false)
  else (s.emit (.mgmt m "Reset" 0)).portReset 0 5 false

theorem exec_nvmeMiReset (h : s.mctpUp m = true) (ha : s.awake = true) : exec (.nvmeMiReset m) s = .next (s.miReset m) := by
  have dual : ((s.emit (.mgmt m "Reset" 0)).portReset 0 5 false).dual = s.dual :=
    congrArg Aon.portDual ((State.portReset_chg ..).aon rfl)
  refine (next_when (by rw [h, ha]; rfl)).trans (congrArg Host.Outcome.next ?_)
  dsimp only
  rw [dual]
  rfl

theorem State.miReset_mode (s : State) (m : MPath) : (s.miReset m).mode = s.mode := by
  unfold State.miReset
  split
  · exact ((State.portReset_chg ..).mode rfl).trans ((State.portReset_chg ..).mode rfl)
  · exact (State.portReset_chg ..).mode rfl

theorem State.miReset_port0 (s : State) (m : MPath) : ((s.miReset m).port 0).linkUp = false ∧ ((s.miReset m).port 0).lastReset = 5 := by
  obtain ⟨link, last, -, -⟩ := (s.emit (.mgmt m "Reset" 0)).portReset_down 0 5 false
  unfold State.miReset
  split
  · obtain ⟨hl, hr, -⟩ := Port.of_core (((s.emit (.mgmt m "Reset" 0)).portReset 0 5 false).portReset_core_ne one_ne_zero 5 false)
    exact ⟨hl.trans link, hr.trans last⟩
  · exact ⟨link, last⟩

theorem State.miReset_port1 (hd : s.dual = true) (m : MPath) :
    ((s.miReset m).port 1).linkUp = false ∧ ((s.miReset m).port 1).lastReset = 5 := by
  obtain ⟨link, last, -, -⟩ := ((s.emit (.mgmt m "Reset" 0)).portReset 0 5 false).portReset_down 1 5 false
  unfold State.miReset
  rw [if_pos hd]
  exact ⟨link, last⟩

/-! ### Admin commands (R39, R409) -/

section
variable {k : Option Nat} {c : Nat} {e : Sqe}

theorem exec_nvmeMiAdminCommand_nobody (h : s.mctpUp m = true) (ha : s.awake = true) (hr : s.roleOf (.mctp m k) = .nobody) :
    exec (.nvmeMiAdminCommand m k c e) s = .next { s with ras := { s.ras with noRoleDrops := s.ras.noRoleDrops + 1 } } :=
  (next_when (by rw [h, ha]; rfl)).trans (congrArg Host.Outcome.next (if_pos hr))

/-- The admin commands that a role may send. -/
def miMay (r : Role) (op : Nat) : Bool :=
  match r with
  | .monitor => miMonitor op
  | _ => adminOpcode true op

theorem miMay_of_ne {r : Role} (h : r ≠ .monitor) (op : Nat) : miMay r op = adminOpcode true op := by
  cases r with
  | monitor => exact absurd rfl h
  | _ => rfl

theorem exec_nvmeMiAdminCommand_refused (h : s.mctpUp m = true) (ha : s.awake = true) (hr : s.roleOf (.mctp m k) ≠ .nobody)
    (hm : miMay (s.roleOf (.mctp m k)) e.opcode = false ∨ s.ctrlHere c = false) :
    exec (.nvmeMiAdminCommand m k c e) s = .next (s.emit (.mgmt m "admin status" 1)) := by
  refine (next_when (by rw [h, ha]; rfl)).trans (congrArg Host.Outcome.next ((if_neg hr).trans (if_pos ?_)))
  show (!miMay (s.roleOf (.mctp m k)) e.opcode || !s.ctrlHere c) = true
  rcases hm with hm | hm <;> simp [hm]

/-- The tag of an admin command of the management endpoint. -/
def State.miTag (s : State) (m : MPath) (c : Nat) (e : Sqe) : Tag :=
  { st := .build, slice := c - 1, gen := (s.slice (c - 1)).gen, q := .page (c - 1) 0, sqe := e, admin := true, mi := some m
    manager := true, fenced := false, order := s.cmds.nextOrder }

theorem exec_nvmeMiAdminCommand_taken (h : s.mctpUp m = true) (ha : s.awake = true) (hr : s.roleOf (.mctp m k) ≠ .nobody)
    (hm : miMay (s.roleOf (.mctp m k)) e.opcode = true) (hc : s.ctrlHere c = true) :
    exec (.nvmeMiAdminCommand m k c e) s = .next (s.setTag s.freeTagNo (s.miTag m c e)) := by
  refine (next_when (by rw [h, ha]; rfl)).trans (congrArg Host.Outcome.next ((if_neg hr).trans (if_neg ?_)))
  show ¬(!miMay (s.roleOf (.mctp m k)) e.opcode || !s.ctrlHere c) = true
  simp [hm, hc]

end

end Sys2Proof.Machine
end

section
/-! The statement about the NVMe-MI messages. -/

namespace Sys2Proof

open Machine

/-- Settles O52. -/
theorem nvmeMi : Obligations.NvmeMi := by
  refine ⟨fun s m c h => ⟨?_, fun k hk => ?_, ?_, fun hc => ?_, fun hc => ?_⟩,
    fun s m v h => ⟨fun hv => ?_, fun h1 h2 => ?_, ?_, fun lo hi => ?_, fun hv => ?_, ?_, ?_, ?_, fun k hk => ⟨?_, ?_⟩⟩,
    fun s m h ha => ?_, fun s m k c e r h ha hr => ⟨fun hn => ?_, fun hn hb => ?_, fun hc hb => ?_⟩⟩
  · exact ⟨_, exec_readNvmeMiDataStructure_list h, rfl, State.emit_sent ..⟩
  · exact ⟨_, _, exec_readNvmeMiDataStructure_field h hk, rfl, State.emit_sent ..⟩
  · exact ⟨_, exec_subsystemHealthStatusPoll h, rfl, State.emit_sent ..⟩
  · exact ⟨_, exec_controllerHealthStatusPoll_here h hc, rfl, State.emit_sent ..⟩
  · exact ⟨_, exec_controllerHealthStatusPoll_absent h hc, rfl, State.emit_sent ..⟩
  · exact ⟨_, exec_configurationSet_smbus h hv, rfl, State.emit_sent ..⟩
  · exact ⟨_, exec_configurationSet_bad h (.inl ⟨rfl, by omega⟩), rfl⟩
  · exact ⟨_, exec_configurationSet_health h, testBit_sub_and _ _⟩
  · exact ⟨_, exec_configurationSet_unit h ⟨lo, hi⟩, Tbl.get_set_same ..⟩
  · exact ⟨_, exec_configurationSet_bad h (.inr (.inl ⟨rfl, by omega⟩)), rfl⟩
  · exact ⟨_, exec_configurationGet_smbus h, rfl, State.emit_sent ..⟩
  · exact ⟨_, exec_configurationGet_health h, rfl, State.emit_sent ..⟩
  · exact ⟨_, exec_configurationGet_unit h, rfl, State.emit_sent ..⟩
  · exact ⟨_, exec_configurationGet_bad h hk, rfl, State.emit_sent ..⟩
  · exact ⟨_, exec_configurationSet_bad h (.inr (.inr hk)), rfl⟩
  · obtain ⟨link, last⟩ := s.miReset_port0 m
    exact ⟨_, exec_nvmeMiReset h ha, link, last, fun hd => State.miReset_port1 hd m, s.miReset_mode m⟩
  · exact ⟨_, exec_nvmeMiAdminCommand_nobody h ha (hr ▸ hn), rfl, rfl⟩
  · subst hr
    refine ⟨_, exec_nvmeMiAdminCommand_refused h ha hn ?_, State.emit_sent .., rfl⟩
    rcases hb with hb | ⟨hr, ho⟩
    · exact .inr hb
    · rw [hr]
      exact .inl ho
  · subst hr
    have may : s.roleOf (.mctp m k) ≠ .nobody ∧ miMay (s.roleOf (.mctp m k)) e.opcode = true := by
      rcases hb with ⟨hr, ho⟩ | ⟨hn, hr, ho⟩
      · rw [hr]
        exact ⟨Role.noConfusion, ho⟩
      · exact ⟨hn, (miMay_of_ne hr _).trans ho⟩
    refine ⟨_, exec_nvmeMiAdminCommand_taken h ha may.1 may.2 hc, ?_⟩
    rw [State.setTag_tag]
    exact ⟨rfl, rfl, rfl, rfl, rfl, fun j hj => s.setTag_tag_ne _ hj.symm⟩

end Sys2Proof
end

section
/-! SUPPORT. A success that is due, the journal's numbers and the namespace table: what the commands on namespaces share (R122, R237, R292). -/

namespace Sys2Proof.Machine

variable {s : State}

/-! ### A success that is due (R122) -/

/-- A success changes nothing but its own tag. -/
theorem State.succeed_cases (s : State) (t a b : Nat) : s.succeed t a b = s ∨ ∃ x, s.succeed t a b = s.setTag t x := by
  unfold State.succeed State.commitTag
  cases hs : (s.tag t).st with
  | build => exact .inr ⟨{ s.tag t with st := .post, status := ⟨0, 0⟩, dw0 := a, dw1 := b, committed := true }, by simp only [hs]; rfl⟩
  | wait => exact .inr ⟨{ s.tag t with st := .post, status := ⟨0, 0⟩, dw0 := a, dw1 := b, committed := true }, by simp only [hs]; rfl⟩
  | run => exact .inr ⟨{ s.tag t with st := .post, status := ⟨0, 0⟩, dw0 := a, dw1 := b, committed := true }, by simp only [hs]; rfl⟩
  | free => exact .inl (by simp only [hs])
  | post => exact .inl (by simp only [hs])
  | drain => exact .inl (by simp only [hs])

theorem State.succeed_zones (s : State) (t a b : Nat) : (s.succeed t a b).zones = s.zones := by
  rcases s.succeed_cases t a b with h | ⟨x, h⟩ <;> rw [h]
  rfl

/-- A command that can end in no other way than with Success: it has not reached its commit point, or has it with Success. -/
def State.succeeding (s : State) (t : Nat) : Prop := (s.tag t).st.uncommitted = true ∨ Posts s t ⟨0, 0⟩

theorem State.succeed_posts {t : Nat} (h : s.succeeding t) (a b : Nat) : Posts (s.succeed t a b) t ⟨0, 0⟩ := by
  rcases h with h | ⟨hst, hs⟩
  · exact (State.commitTag_posts h _ a b).1
  · have done : s.succeed t a b = s := by
      simp only [State.succeed, State.commitTag, hst]
    rw [done]
    exact ⟨hst, hs⟩

theorem State.succeed_succeeding {k : Nat} (h : s.succeeding k) (t a b : Nat) : (s.succeed t a b).succeeding k := by
  by_cases e : t = k
  · subst e
    exact .inr (State.succeed_posts h a b)
  · unfold State.succeeding Posts
    rw [show (s.succeed t a b).tag k = s.tag k from State.commitTag_tag_ne s e ..]
    exact h

/-! ### The journal's numbers and the namespace table (R237, R292) -/

theorem State.closeTail_next (s : State) : s.closeTail.jrn.next = s.jrn.next := by
  unfold State.closeTail
  split <;> rfl

/-- Records take the next numbers, one each. -/
theorem State.journal_next (s : State) (rs : List JRec) : (s.journal rs).jrn.next = s.jrn.next + rs.length := by
  have closes (c : Prop) [Decidable c] (u : State) : (if c then u.closeTail else u).jrn.next = u.jrn.next := by
    split
    · exact u.closeTail_next
    · rfl
  unfold State.journal
  cases rs with
  | nil => rfl
  | cons r rs => exact closes _ _

theorem State.nsJournal_next (s : State) (n op : Nat) : (s.nsJournal n op).jrn.next = s.jrn.next + 1 := s.journal_next _

theorem State.section_nsTable (s : State) : s.section_.recov.nsTable = s.recov.nsTable := by
  unfold State.section_
  dsimp only
  split <;> rfl

/-- The table that is written is the one in use. -/
theorem State.nsTableWrite_nsTable (s : State) : s.nsTableWrite.recov.nsTable = s.nss := State.section_nsTable _

theorem Chg.ns_eq {m : Nat} {t : State} (h : Chg m s t) (hm : m.testBit 23 = false) (k : Nat) : t.ns k = s.ns k := by
  unfold State.ns; rw [h.nss hm]

end Sys2Proof.Machine
end

section
/-! SUPPORT. Creating and deleting a namespace (R190 to R193, R422): one equation for each command, and the namespace, the journal and
the map after it. -/

namespace Sys2Proof.Machine

variable {s w : State} {tag n : Nat}

/-! ### Create (R190 to R192) -/

section
variable {d : NsCreate} {csi : Nat}

/-- A namespace as its creation leaves it. -/
def State.newNs (s : State) (d : NsCreate) (csi : Nat) : Ns :=
  { st := 1, kind := s.newKind csi, nsze := d.nsze, lbaf := flbasFormat d.flbas, dps := d.dps, nmic := d.nmic
    phndl := if s.newKind csi = 2 ∧ d.phndl.isEmpty = true then [0] else d.phndl
    compressedMap := s.newKind csi == 1 && s.cfg 0x7400 (if s.newKind csi = 1 then 2 else 1) != 0, createSeq := s.recov.seqNext }

/-- The namespace and its record, before the journal and the table have them. -/
def State.nsRecorded (s : State) (n : Nat) (d : NsCreate) (csi : Nat) : State :=
  let i := 0x5800 + (n - 1)
  let s1 := ((s.recordClear i).setNs n (s.newNs d csi)).putCfg i 4 d.ncap
  let s2 := if s.newKind csi = 1 then (s1.putCfg i 9 (s.cfg 0x5000 2)).putCfg i 0x0A (s.cfg 0x5000 3) else s1
  s2.putCfg i 0x20 (s.cfg 0x7400 (if s.newKind csi = 1 then 2 else 1))

theorem State.nsMake_eq (s : State) (n : Nat) (d : NsCreate) (csi : Nat) :
    s.nsMake n d csi = ((s.nsRecorded n d csi).nsJournal n 0).nsTableWrite := rfl

/-- All but the record is done by the write of the namespace. -/
theorem State.nsRecorded_chg (s : State) (n : Nat) (d : NsCreate) (csi : Nat) :
    Chg 1024 ((s.recordClear (0x5800 + (n - 1))).setNs n (s.newNs d csi)) (s.nsRecorded n d csi) := by
  have put : ∀ (t u : State) (i sub v : Nat), Chg 1024 t u → Chg 1024 t (u.putCfg i sub v) := fun t u i sub v h =>
    (u.putCfg_chg i sub v).step h (by decide)
  unfold State.nsRecorded
  dsimp only
  exact put _ _ _ _ _ (Chg.ite (put _ _ _ _ _ (put _ _ _ _ _ (put _ _ _ _ _ (Chg.refl _ _)))) (put _ _ _ _ _ (Chg.refl _ _)))

theorem State.nsRecorded_jrn (s : State) (n : Nat) (d : NsCreate) (csi : Nat) : (s.nsRecorded n d csi).jrn = s.jrn := by
  rw [(s.nsRecorded_chg n d csi).jrn rfl, State.setNs_jrn, (s.recordClear_chg _).jrn rfl]

theorem State.nsRecorded_ns (s : State) (n : Nat) (d : NsCreate) (csi : Nat) : (s.nsRecorded n d csi).ns n = s.newNs d csi :=
  ((s.nsRecorded_chg n d csi).ns_eq rfl n).trans (State.setNs_ns ..)

theorem State.nsMake_ns (s : State) (n : Nat) (d : NsCreate) (csi : Nat) : (s.nsMake n d csi).ns n = s.newNs d csi := by
  rw [State.nsMake_eq, (State.nsTableWrite_chg _).ns_eq rfl, (State.nsJournal_chg ..).ns_eq rfl, State.nsRecorded_ns]

theorem State.nsMake_next (s : State) (n : Nat) (d : NsCreate) (csi : Nat) : (s.nsMake n d csi).jrn.next = s.jrn.next + 1 := by
  rw [State.nsMake_eq, (State.nsTableWrite_chg _).jrn rfl, State.nsJournal_next, State.nsRecorded_jrn]

theorem State.nsMake_nsTable (s : State) (n : Nat) (d : NsCreate) (csi : Nat) : (s.nsMake n d csi).recov.nsTable = (s.nsMake n d csi).nss := by
  rw [State.nsMake_eq, State.nsTableWrite_nsTable, (State.nsTableWrite_chg _).nss rfl]

/-- A creation that reaches its checks: on which state, with the journal open and its pointers good. -/
structure State.creates (s w : State) (tag csi : Nat) : Prop where
  adm : s.adm tag 0x0D = true
  sel : Sqe.sel (s.tag tag).sqe = 0
  at_ : w = (s.boundary 0x5000).boundaryPart 0x7400 (fun f => f == 1 || f == 2)
  csi : csi = (w.tag tag).sqe.cdw11 / 2 ^ 24
  open_ : w.jrnHeld = false
  dptr : w.dptrStatus (w.qfunc (w.tag tag).q).1 (w.qfunc (w.tag tag).q).2 4096 (w.tag tag).sqe = none

/-- What a creation whose pointers are good comes to. -/
def State.createAnswer (s : State) (tag : Nat) (d : NsCreate) (csi : Nat) : State :=
  match s.createStatus d csi, s.freeNsid with
  | some st, _ => s.commitTag tag st
  | none, some n => (s.nsMake n d csi).succeed tag n
  | none, none => s

theorem exec_namespaceCreate (h : s.creates w tag csi) : exec (.namespaceCreate tag d) s = .next (w.createAnswer tag d csi) := by
  obtain ⟨ha, hs, rfl, rfl, hj, hd⟩ := h
  refine (next_when (by rw [ha, hs]; rfl)).trans (congrArg Host.Outcome.next ?_)
  dsimp only
  rw [hj, if_neg Bool.false_ne_true, hd]
  rfl

theorem State.createAnswer_refused {st : Status} (hc : s.createStatus d csi = some st) : s.createAnswer tag d csi = s.commitTag tag st := by
  unfold State.createAnswer
  rw [hc]

theorem State.createAnswer_made (hc : s.createStatus d csi = none) (hn : s.freeNsid = some n) :
    s.createAnswer tag d csi = (s.nsMake n d csi).succeed tag n := by
  unfold State.createAnswer
  rw [hc, hn]

end

/-! ### A namespace that a controller hears of (R193) -/

/-- An event leaves every controller's list of changed namespaces. -/
theorem State.raise_changedNs (s : State) (c : Nat) (e : AsyncEvent) (k : Nat) :
    ((s.raise c e).ctrl k).changedNs = (s.ctrl k).changedNs := by
  have kept : ∀ x : Ctrl, x.changedNs = (s.ctrl c).changedNs → ((s.setCtrl c x).ctrl k).changedNs = (s.ctrl k).changedNs := fun x hx => by
    by_cases h : c = k
    · subst h; rw [State.setCtrl_ctrl, hx]
    · rw [State.setCtrl_ctrl_ne _ _ h]
  unfold State.raise
  dsimp only
  split
  · unfold State.ctrl
    rw [(State.commitTag_chg ..).ctrls rfl]
    exact kept _ rfl
  · exact kept _ rfl

theorem State.raise_succeeding {k : Nat} (h : s.succeeding k) (c : Nat) (e : AsyncEvent) : (s.raise c e).succeeding k := by
  unfold State.raise
  dsimp only
  split
  · exact State.succeed_succeeding (s := s.setCtrl c _) h _ _ _
  · exact h

theorem State.nsChanged_listed (s : State) (c n : Nat) : n ∈ ((s.nsChanged c n).ctrl c).changedNs := by
  unfold State.nsChanged
  dsimp only
  rw [State.raise_changedNs, State.setCtrl_ctrl]
  dsimp only
  split
  · exact List.contains_iff_mem.mp ‹_›
  · exact List.mem_append_right _ List.mem_cons_self

theorem State.nsChanged_keeps {k m : Nat} (h : m ∈ (s.ctrl k).changedNs) (c n : Nat) : m ∈ ((s.nsChanged c n).ctrl k).changedNs := by
  unfold State.nsChanged
  dsimp only
  rw [State.raise_changedNs]
  by_cases e : c = k
  · subst e
    rw [State.setCtrl_ctrl]
    dsimp only
    split
    · exact h
    · exact List.mem_append_left _ h
  · rw [State.setCtrl_ctrl_ne _ _ e]
    exact h

/-- Controllers hear of a namespace, one after the other. -/
def State.nsHeard (s : State) (cs : List Nat) (n : Nat) : State := s.forEach cs (fun c s => s.nsChanged c n)

theorem State.nsHeard_chg (s : State) (cs : List Nat) (n : Nat) : Chg 318791680 s (s.nsHeard cs n) :=
  Chg.forEach (fun c t => t.nsChanged_chg c n) (Chg.refl _ s)

theorem State.nsHeard_succeeding {k : Nat} (h : s.succeeding k) (cs : List Nat) (n : Nat) : (s.nsHeard cs n).succeeding k :=
  State.forEach_induct (P := fun t => t.succeeding k) h fun c _ t ht =>
    State.raise_succeeding (s := t.setCtrl c _) ht c ⟨2, 0, 4, none⟩

/-- Each of them lists the namespace as changed. -/
theorem State.nsHeard_listed (cs : List Nat) (s : State) {c : Nat} (h : c ∈ cs ∨ n ∈ (s.ctrl c).changedNs) :
    n ∈ ((s.nsHeard cs n).ctrl c).changedNs := by
  induction cs generalizing s with
  | nil => exact h.resolve_left List.not_mem_nil
  | cons x cs ih =>
    refine ih (s.nsChanged x n) ?_
    rcases h with h | h
    · rcases List.mem_cons.mp h with rfl | h
      · exact .inr (s.nsChanged_listed c n)
      · exact .inl h
    · exact .inr (State.nsChanged_keeps h x n)

/-! ### Delete (R193, R422) -/

/-- A delete that has begun. -/
def State.deleteRuns (s : State) (tag n : Nat) : State := (s.nsDrop tag n).setTag tag { s.tag tag with built := true, st := .run }

theorem exec_namespaceDelete_runs (ha : s.adm tag 0x0D = true) (hs : Sqe.sel (s.tag tag).sqe = 1) (hn : n = (s.tag tag).sqe.nsid)
    (hall : n ≠ 0xFFFFFFFF) (hst : (s.ns n).st = 1) (h0 : n ≠ 0) (hle : n ≤ Config.namespaces) :
    exec (.namespaceDelete tag) s = .next (s.deleteRuns tag n) := by
  subst hn
  refine (next_when (by rw [ha, hs]; rfl)).trans (congrArg Host.Outcome.next ?_)
  exact (if_neg hall).trans ((if_neg (by omega)).trans (if_neg (by omega)))

theorem exec_namespaceDelete_formatting (ha : s.adm tag 0x0D = true) (hs : Sqe.sel (s.tag tag).sqe = 1) (hn : n = (s.tag tag).sqe.nsid)
    (hall : n ≠ 0xFFFFFFFF) (hst : (s.ns n).st = 3) : exec (.namespaceDelete tag) s = .next (s.commitTag tag ⟨0, 0x84⟩) := by
  subst hn
  exact (next_when (by rw [ha, hs]; rfl)).trans (congrArg Host.Outcome.next ((if_neg hall).trans (if_pos hst)))

theorem exec_namespaceDelete_absent (ha : s.adm tag 0x0D = true) (hs : Sqe.sel (s.tag tag).sqe = 1) (hn : n = (s.tag tag).sqe.nsid)
    (hall : n ≠ 0xFFFFFFFF) (hst : (s.ns n).st = 0 ∨ (s.ns n).st = 2) : exec (.namespaceDelete tag) s = .next (s.commitTag tag ⟨0, 0x0B⟩) := by
  subst hn
  refine (next_when (by rw [ha, hs]; rfl)).trans (congrArg Host.Outcome.next ?_)
  exact (if_neg hall).trans ((if_neg (by omega)).trans (if_pos (by omega)))

theorem State.deleteRuns_ns (s : State) (tag n : Nat) :
    (s.deleteRuns tag n).ns n = { s.ns n with st := 2, attached := [], workTag := some tag } :=
  ((State.nsHeard_chg (s.setNs n _) (s.ns n).attached n).ns_eq rfl n).trans (s.setNs_ns n _)

theorem State.deleteRuns_map (s : State) (tag n : Nat) : (s.deleteRuns tag n).map = s.map := (s.nsDrop_chg tag n).map rfl

theorem State.homeRelease_map (s : State) (h : Option Nat) : (s.homeRelease h).map.ents = s.map.ents ∧ (s.homeRelease h).map.pages = s.map.pages := by
  cases h <;> exact ⟨rfl, rfl⟩

/-- A namespace without data has neither a map entry nor a page. -/
theorem State.nsVoid_map (s : State) (n : Nat) : (∀ x ∈ (s.nsVoid n).map.ents, x.1 / 2 ^ 64 ≠ n) ∧
    ∀ x ∈ (s.nsVoid n).map.pages, x.1 / 2 ^ 56 ≠ n := by
  unfold State.nsVoid
  extract_lets s1 s2 homes m s3 s4
  have dropped : ∀ u : State, (u.wbufDrop n).map = u.map := fun u => (u.wbufDrop_chg n).map rfl
  have ents : s4.map.ents = s3.map.ents := State.forEach_keeps (π := fun t => t.map.ents) (fun h t => (t.homeRelease_map (some h)).1) ..
  have pages : s4.map.pages = s3.map.pages := State.forEach_keeps (π := fun t => t.map.pages) (fun h t => (t.homeRelease_map (some h)).2) ..
  rw [dropped, State.setNs_map, ents, pages]
  exact ⟨fun _ hx => bne_iff_ne.mp (List.mem_filter.mp hx).2, fun _ hx => bne_iff_ne.mp (List.mem_filter.mp hx).2⟩

/-- The table of zones without those of a namespace. -/
def State.zonesDrop (s : State) (n : Nat) : State := { s with zones := s.zones.filter (fun x => x.1 / 2 ^ 32 != n) }

theorem State.zonesDrop_zones (s : State) (n : Nat) : ∀ x ∈ (s.zonesDrop n).zones, x.1 / 2 ^ 32 ≠ n := fun _ hx =>
  bne_iff_ne.mp (List.mem_filter.mp hx).2

theorem State.zonesDrop_frame (s : State) (n : Nat) : (s.zonesDrop n).map = s.map ∧ (s.zonesDrop n).jrn = s.jrn := ⟨rfl, rfl⟩

/-- A namespace's data, zones and key go, with a record of it in the journal. -/
def State.nsWiped (s : State) (n : Nat) : State := (((s.nsJournal n 1).keyErase n).nsVoid n).zonesDrop n

/-- A namespace is gone from its table, and its record with it. -/
def State.nsRemoved (s : State) (n : Nat) : State :=
  ((((s.nsWiped n).setNs n {}).recordClear (0x5800 + (n - 1))).keyTableWrite).nsTableWrite

/-- The command that asked for the delete ends with the last of its namespaces. -/
def State.nsDeleted (s : State) (n : Nat) : State :=
  match (s.ns n).workTag with
  | some k => (s.nsRemoved n).workEnd k 0x0D
  | none => s.nsRemoved n

theorem exec_namespaceDeleteComplete (hst : (s.ns n).st = 2) (hi : s.nsIdle n = true) (hw : w = s.boundary (0x5800 + (n - 1)))
    (hj : w.jrnHeld = false) : exec (.namespaceDeleteComplete n) s = .next (w.nsDeleted n).commitPump := by
  subst hw
  refine (next_when (by rw [hst, hi]; rfl)).trans (congrArg Host.Outcome.next ?_)
  dsimp only
  rw [hj, if_neg Bool.false_ne_true]
  rfl

theorem State.nsRemoved_chg (s : State) (n : Nat) : Chg 138521084928 (s.nsWiped n) (s.nsRemoved n) :=
  Chg.step (State.nsTableWrite_chg _) (Chg.step (State.keyTableWrite_chg _) (Chg.step (State.recordClear_chg ..)
    (Chg.step (State.setNs_chg ..) (Chg.refl _ _) (by decide)) (by decide)) (by decide)) (by decide)

theorem State.nsWiped_next (s : State) (n : Nat) : (s.nsWiped n).jrn.next = s.jrn.next + 1 := by
  unfold State.nsWiped
  rw [(State.zonesDrop_frame ..).2, (State.nsVoid_chg ..).jrn rfl, (State.keyErase_chg ..).jrn rfl, State.nsJournal_next]

theorem State.nsRemoved_ns (s : State) (n : Nat) : (s.nsRemoved n).ns n = {} := by
  unfold State.nsRemoved
  rw [(State.nsTableWrite_chg _).ns_eq rfl, (State.keyTableWrite_chg _).ns_eq rfl, (State.recordClear_chg ..).ns_eq rfl, State.setNs_ns]

theorem State.workEnd_zones (s : State) (t op : Nat) : (s.workEnd t op).zones = s.zones := by
  unfold State.workEnd
  dsimp only
  split
  · exact s.succeed_zones t 0 0
  · rfl

/-- The end of the command leaves of the namespace what its removal left. -/
theorem State.nsDeleted_frame (s : State) (n : Nat) : (s.nsDeleted n).nss = (s.nsRemoved n).nss ∧
    (s.nsDeleted n).zones = (s.nsRemoved n).zones ∧ (s.nsDeleted n).map = (s.nsRemoved n).map ∧ (s.nsDeleted n).jrn = (s.nsRemoved n).jrn := by
  unfold State.nsDeleted
  split
  · have ends := State.workEnd_chg (s.nsRemoved n)
    exact ⟨(ends ..).nss rfl, State.workEnd_zones .., (ends ..).map rfl, (ends ..).jrn rfl⟩
  · exact ⟨rfl, rfl, rfl, rfl⟩

/-- Nothing of the namespace is left. -/
theorem State.nsDeleted_gone (s : State) (n : Nat) : (s.nsDeleted n).ns n = {} ∧ (∀ x ∈ (s.nsDeleted n).zones, x.1 / 2 ^ 32 ≠ n) ∧
    (∀ x ∈ (s.nsDeleted n).map.pages, x.1 / 2 ^ 56 ≠ n) ∧ (∀ x ∈ (s.nsDeleted n).map.ents, x.1 / 2 ^ 64 ≠ n) ∧
    (s.nsDeleted n).jrn.next = s.jrn.next + 1 := by
  obtain ⟨nss, zones, map, jrn⟩ := s.nsDeleted_frame n
  have removed := s.nsRemoved_chg n
  obtain ⟨ents, pages⟩ := ((s.nsJournal n 1).keyErase n).nsVoid_map n
  have wiped : (s.nsWiped n).map = (((s.nsJournal n 1).keyErase n).nsVoid n).map := (State.zonesDrop_frame ..).1
  rw [zones, map, jrn, removed.zones rfl, removed.map rfl, removed.jrn rfl, wiped]
  refine ⟨?_, State.zonesDrop_zones _ n, pages, ents, s.nsWiped_next n⟩
  unfold State.ns
  rw [nss]
  exact s.nsRemoved_ns n

end Sys2Proof.Machine
end

section
/-! SUPPORT. Attaching and detaching a namespace (R149, R150, R193): one equation for each outcome, and the namespace after it. -/

namespace Sys2Proof.Machine

variable {s : State} {tag n : Nat} {l cs : List Nat}

/-- An attach or a detach that reaches the checks of its list. -/
structure State.attaches (s : State) (tag sel n : Nat) (l cs : List Nat) : Prop where
  adm : s.adm tag 0x15 = true
  sel : Sqe.sel (s.tag tag).sqe = sel
  nsid : n = (s.tag tag).sqe.nsid
  ctrls : cs = (l.map (fun c => c - 1)).dedup
  here : s.nsGone n = none

/-- The namespace after an attach. -/
def Ns.attach (y : Ns) (cs : List Nat) : Ns :=
  { y with attached := y.attached ++ cs, owner := if y.owner.isSome then y.owner else cs.head? }

/-- The namespace after a detach. -/
def Ns.detach (y : Ns) (cs : List Nat) : Ns := { y with attached := y.attached.filter (fun c => !cs.contains c) }

/-- The namespace is as `y` in its table and in the stored one, and each controller of the list hears of it. -/
def State.nsAttached (s : State) (n : Nat) (cs : List Nat) (y : Ns) : State := ((s.setNs n y).nsTableWrite).nsHeard cs n

theorem exec_namespaceAttach_list (h : s.attaches tag 0 n l cs) (hl : s.listBad l = true) :
    exec (.namespaceAttach tag l) s = .next (s.commitTag tag ⟨1, 0x1C⟩) := by
  obtain ⟨ha, hs, rfl, rfl, hn⟩ := h
  refine (next_when (by rw [ha, hs]; rfl)).trans (congrArg Host.Outcome.next ?_)
  dsimp only
  rw [hn]
  exact if_pos hl

theorem exec_namespaceAttach_held (h : s.attaches tag 0 n l cs) (hl : s.listBad l = false) (hc : ∃ c ∈ cs, c ∈ (s.ns n).attached) :
    exec (.namespaceAttach tag l) s = .next (s.commitTag tag ⟨1, 0x18⟩) := by
  obtain ⟨ha, hs, rfl, rfl, hn⟩ := h
  refine (next_when (by rw [ha, hs]; rfl)).trans (congrArg Host.Outcome.next ?_)
  dsimp only
  rw [hn]
  refine (if_neg (by rw [hl]; exact Bool.false_ne_true)).trans (if_pos (Bool.or_eq_true_iff.mpr (.inl ?_)))
  simpa using hc

theorem exec_namespaceAttach_done (h : s.attaches tag 0 n l cs) (hl : s.listBad l = false) (hc : ∀ c ∈ cs, c ∉ (s.ns n).attached)
    (hm : (s.ns n).nmic % 2 = 1 ∨ (s.ns n).attached.length + cs.length ≤ 1) :
    exec (.namespaceAttach tag l) s = .next ((s.nsAttached n cs ((s.ns n).attach cs)).succeed tag) := by
  obtain ⟨ha, hs, rfl, rfl, hn⟩ := h
  refine (next_when (by rw [ha, hs]; rfl)).trans (congrArg Host.Outcome.next ?_)
  dsimp only
  rw [hn]
  refine (if_neg (by rw [hl]; exact Bool.false_ne_true)).trans (if_neg ?_)
  rw [Bool.or_eq_true_iff, not_or]
  refine ⟨by simpa using hc, ?_⟩
  simp only [Bool.and_eq_true, beq_iff_eq, decide_eq_true_eq]
  omega

theorem exec_namespaceDetach_free (h : s.attaches tag 1 n l cs) (hl : s.listBad l = false) (hc : ∃ c ∈ cs, c ∉ (s.ns n).attached) :
    exec (.namespaceDetach tag l) s = .next (s.commitTag tag ⟨1, 0x1A⟩) := by
  obtain ⟨ha, hs, rfl, rfl, hn⟩ := h
  refine (next_when (by rw [ha, hs]; rfl)).trans (congrArg Host.Outcome.next ?_)
  dsimp only
  rw [hn]
  refine (if_neg (by rw [hl]; exact Bool.false_ne_true)).trans (if_pos ?_)
  simpa using hc

theorem exec_namespaceDetach_done (h : s.attaches tag 1 n l cs) (hl : s.listBad l = false) (hc : ∀ c ∈ cs, c ∈ (s.ns n).attached)
    (ho : ∀ o, (s.ns n).owner = some o → o ∉ cs) :
    exec (.namespaceDetach tag l) s = .next ((s.nsAttached n cs ((s.ns n).detach cs)).succeed tag) := by
  obtain ⟨ha, hs, rfl, rfl, hn⟩ := h
  refine (next_when (by rw [ha, hs]; rfl)).trans (congrArg Host.Outcome.next ?_)
  dsimp only
  rw [hn]
  refine (if_neg (by rw [hl]; exact Bool.false_ne_true)).trans ((if_neg (by simpa using hc)).trans (if_neg ?_))
  rw [Bool.and_eq_true, not_and_or]
  left
  cases owner : (s.ns (s.tag tag).sqe.nsid).owner with
  | none => exact Bool.false_ne_true
  | some o => simpa using ho o owner

/-- After the list's controllers have heard of the namespace, its command ends with Success. -/
theorem State.nsAttached_done (hu : (s.tag tag).st.uncommitted = true) (n : Nat) (cs : List Nat) (y : Ns) :
    Posts ((s.nsAttached n cs y).succeed tag) tag ⟨0, 0⟩ ∧ ((s.nsAttached n cs y).succeed tag).ns n = y ∧
      (∀ c ∈ cs, n ∈ (((s.nsAttached n cs y).succeed tag).ctrl c).changedNs) ∧
      ((s.nsAttached n cs y).succeed tag).recov.nsTable = ((s.nsAttached n cs y).succeed tag).nss := by
  have ends : Chg 318775296 (s.nsAttached n cs y) ((s.nsAttached n cs y).succeed tag) := State.commitTag_chg ..
  have heard : Chg 318791680 (s.setNs n y).nsTableWrite (s.nsAttached n cs y) := State.nsHeard_chg ..
  have table := (s.setNs n y).nsTableWrite_chg
  have due : (s.setNs n y).nsTableWrite.succeeding tag := .inl (by rw [table.tag_eq rfl]; exact hu)
  refine ⟨State.succeed_posts (State.nsHeard_succeeding due cs n) 0 0, ?_, fun c hc => ?_, ?_⟩
  · rw [ends.ns_eq rfl, heard.ns_eq rfl, table.ns_eq rfl, State.setNs_ns]
  · unfold State.ctrl
    rw [ends.ctrls rfl]
    exact State.nsHeard_listed cs _ (.inl hc)
  · rw [ends.recov rfl, heard.recov rfl, State.nsTableWrite_nsTable, ends.nss rfl, heard.nss rfl, table.nss rfl]

theorem Ns.mem_detach {y : Ns} {c : Nat} : c ∈ (y.detach cs).attached ↔ c ∈ y.attached ∧ c ∉ cs := by
  simp [Ns.detach]

end Sys2Proof.Machine
end

section
/-! The statement about creating, deleting, attaching and detaching a namespace. -/

namespace Sys2Proof

open Machine

/-- Settles O31. -/
theorem namespaceCommands : Obligations.NamespaceCommands := by
  refine ⟨fun s w tag n d csi ha hs hw hb hcsi hj hd => ?_, fun s tag n ha hs hn hall => ⟨fun hst h0 hle => ?_, fun hst => ?_, fun hst => ?_⟩,
    fun s w n hst hi hw hj => ⟨_, exec_namespaceDeleteComplete hst hi hw hj, w.nsDeleted_gone n⟩,
    fun s tag n l cs ha hs hn hcs hg => ?_, fun s tag n l cs ha hs hn hcs hg hl => ?_⟩
  · have run := exec_namespaceCreate (d := d) (State.creates.mk ha hs hw hcsi hj hd)
    have hu : (w.tag tag).st.uncommitted = true := by rw [hb]; rfl
    refine ⟨fun st hc => ?_, fun hc hn => ?_⟩
    · rw [State.createAnswer_refused hc] at run
      have ends := w.commitTag_chg tag st 0 0
      exact ⟨_, run, (State.commitTag_posts hu st 0 0).1, ends.nss rfl, ends.jrn rfl⟩
    · rw [State.createAnswer_made hc hn] at run
      have made := w.nsMake_ns n d csi
      have ends : Chg 318775296 (w.nsMake n d csi) ((w.nsMake n d csi).succeed tag n) := State.commitTag_chg ..
      obtain ⟨posts, dw0⟩ := State.commitTag_posts (s := w.nsMake n d csi) (by rw [(w.nsMake_chg n d csi).tag_eq rfl]; exact hu) ⟨0, 0⟩ n 0
      refine ⟨_, run, posts, dw0, ?_⟩
      rw [ends.ns_eq rfl, made, ends.jrn rfl, ends.recov rfl, ends.nss rfl]
      exact ⟨rfl, rfl, rfl, rfl, rfl, rfl, rfl, w.nsMake_next n d csi, w.nsMake_nsTable n d csi⟩
  · have dropped := s.deleteRuns_ns tag n
    refine ⟨_, exec_namespaceDelete_runs ha hs hn hall hst h0 hle, congrArg Tag.st (State.setTag_tag ..), ?_⟩
    rw [dropped]
    exact ⟨rfl, rfl, rfl, s.deleteRuns_map tag n⟩
  · exact ⟨_, exec_namespaceDelete_formatting ha hs hn hall hst, (State.commitTag_posts (State.adm_uncommitted ha) _ 0 0).1,
      (State.commitTag_chg ..).nss rfl⟩
  · exact ⟨_, exec_namespaceDelete_absent ha hs hn hall hst, (State.commitTag_posts (State.adm_uncommitted ha) _ 0 0).1,
      (State.commitTag_chg ..).nss rfl⟩
  · have call := State.attaches.mk ha hs hn hcs hg
    have hu := State.adm_uncommitted ha
    refine ⟨fun hl => ⟨_, exec_namespaceAttach_list call hl, (State.commitTag_posts hu _ 0 0).1, (State.commitTag_chg ..).nss rfl⟩,
      fun hl hc => ⟨_, exec_namespaceAttach_held call hl hc, (State.commitTag_posts hu _ 0 0).1, (State.commitTag_chg ..).nss rfl⟩,
      fun hl hc hm => ?_⟩
    obtain ⟨posts, ns, listed, table⟩ := State.nsAttached_done hu n cs ((s.ns n).attach cs)
    exact ⟨_, exec_namespaceAttach_done call hl hc hm, posts, congrArg Ns.attached ns, listed, table⟩
  · have call := State.attaches.mk ha hs hn hcs hg
    have hu := State.adm_uncommitted ha
    refine ⟨fun hc => ⟨_, exec_namespaceDetach_free call hl hc, (State.commitTag_posts hu _ 0 0).1, (State.commitTag_chg ..).nss rfl⟩,
      fun hc ho => ?_⟩
    obtain ⟨posts, ns, listed, -⟩ := State.nsAttached_done hu n cs ((s.ns n).detach cs)
    refine ⟨_, exec_namespaceDetach_done call hl hc ho, posts, ?_, ?_, listed⟩
    · rw [ns]
      exact fun c hin hat => (Ns.mem_detach.mp hat).2 hin
    · rw [ns]
      exact fun c hat hout => Ns.mem_detach.mpr ⟨hat, hout⟩

end Sys2Proof
end

section
/-! SUPPORT. The start of an epoch (R163 to R166, R387, R390): what counts the epochs, what the modes keep, and the division of a port's
budget with the credit of a slice that is alone in its class. -/

namespace Sys2Proof.Machine

section
variable {m : Nat} {s t : State}

theorem Chg.lun_eq (h : Chg m s t) (hm : m.testBit 19 = false) (ch pos : Nat) : t.lun ch pos = s.lun ch pos := by
  unfold State.lun; rw [h.luns hm]

theorem Chg.chan_eq (h : Chg m s t) (hm : m.testBit 20 = false) (k : Nat) : t.chan k = s.chan k := by
  unfold State.chan; rw [h.chans hm]

end

variable {s : State} {ch pos : Nat}

/-! ### The choice at a LUN (R177) -/

/-- What a choice at a LUN comes to, after the boundary of its settings: nothing, the operation that resumes, one that is overdue, or
one that goes with those that join it. -/
theorem State.woad_cases (s : State) (ch pos : Nat) : s.woad ch pos = s.boundary 0x4001 ∨
    (∃ r forced, s.woad ch pos = (s.boundary 0x4001).dieResume ch pos r forced) ∨
    (∃ w, s.woad ch pos = (s.boundary 0x4001).dieOverdue ch pos w) ∨
    (∃ w x, s.woad ch pos = ((s.boundary 0x4001).dieOverdue ch pos w).setLun ch pos x) ∨
    ∃ w l, s.woad ch pos = (s.boundary 0x4001).dieIssue ch pos w l := by
  unfold State.woad
  dsimp only
  split
  · exact .inl rfl
  · split
    · exact .inr (.inl ⟨_, _, rfl⟩)
    · exact .inr (.inr (.inr (.inl ⟨_, _, rfl⟩)))
    · exact .inr (.inr (.inr (.inr ⟨_, _, rfl⟩)))
    · exact .inl rfl
    · split
      · exact .inr (.inr (.inl ⟨_, rfl⟩))
      · split
        · exact .inr (.inr (.inr (.inr ⟨_, _, rfl⟩)))
        · exact .inl rfl

theorem State.dieResume_epoch (s : State) (ch pos : Nat) (r : RunOp) (forced : Bool) :
    (s.dieResume ch pos r forced).sched.epoch = s.sched.epoch := by
  cases forced <;> rfl

theorem State.dieIssue_sched (s : State) (ch pos : Nat) (w : WaitOp) (l : List WaitOp) : (s.dieIssue ch pos w l).sched = s.sched :=
  (s.dieIssue_chg ch pos w l).sched rfl

theorem State.dieOverdue_epoch (s : State) (ch pos : Nat) (w : WaitOp) : (s.dieOverdue ch pos w).sched.epoch = s.sched.epoch := by
  show (s.dieIssue ch pos w []).sched.epoch = s.sched.epoch
  rw [State.dieIssue_sched]

/-- A choice at a LUN counts no epoch. -/
theorem State.woad_epoch (s : State) (ch pos : Nat) : (s.woad ch pos).sched.epoch = s.sched.epoch := by
  have bounded : (s.boundary 0x4001).sched = s.sched := (s.boundary_chg _).sched rfl
  rw [← bounded]
  rcases s.woad_cases ch pos with h | ⟨r, f, h⟩ | ⟨w, h⟩ | ⟨w, x, h⟩ | ⟨w, l, h⟩ <;> rw [h]
  · exact State.dieResume_epoch ..
  · exact State.dieOverdue_epoch ..
  · exact State.dieOverdue_epoch ..
  · exact congrArg Sched.epoch (State.dieIssue_sched ..)

theorem State.woadAll_epoch (s : State) (ch : Nat) : (s.woadAll ch).sched.epoch = s.sched.epoch :=
  State.forEach_keeps (π := fun t => t.sched.epoch) (fun p t => t.woad_epoch ch p) ..

/-! ### Grants of credit (R166) -/

theorem State.setPortPool_portPool (s : State) (p : Nat) (x : PortPool) : (s.setPortPool p x).portPool p = x := by
  unfold State.setPortPool State.portPool
  by_cases h : p = 0
  · rw [if_pos h, if_pos h]
  · rw [if_neg h, if_neg h]

theorem State.setPortPool_sched (s : State) (p : Nat) (x : PortPool) : (s.setPortPool p x).sched.credit = s.sched.credit ∧
    (s.setPortPool p x).sched.epoch = s.sched.epoch := by
  unfold State.setPortPool
  split <;> exact ⟨rfl, rfl⟩

theorem State.setCredit_credit (s : State) (n : Nat) (v : Int) : (s.setCredit n v).credit n = v := Tbl.get_set_same ..

theorem State.setCredit_credit_ne (s : State) {n k : Nat} (h : n ≠ k) (v : Int) : (s.setCredit n v).credit k = s.credit k :=
  Tbl.get_set_ne _ _ _ h

/-- The grant of one slice out of a pool that all shares of its class divide. -/
def State.grantOne (pool total : Nat) (acc : State × Nat) (n : Nat) : State × Nat :=
  let s := acc.1
  let g := if total = 0 then 0 else pool * s.share n / total
  let s1 := s.setCredit n (min (s.credit n + (g : Int)) ((s.cfg 0x4000 9 * g : Nat) : Int))
  ({ s1 with sched := { s1.sched with grant := Tbl.set 0 s1.sched.grant n g } }, acc.2 + g)

theorem State.grantClass_eq (s : State) (l : List Nat) (pool : Nat) :
    s.grantClass l pool = l.foldl (State.grantOne pool (l.map (fun n => s.share n)).sum) (s, 0) := rfl

/-- What every grant keeps, the grants of a class keep. -/
theorem State.grantClass_keeps {β : Type} {π : State → β} {l : List Nat}
    (h : ∀ pool total acc, ∀ n ∈ l, π (State.grantOne pool total acc n).1 = π acc.1) (s : State) (pool : Nat) :
    π (s.grantClass l pool).1 = π s := by
  rw [State.grantClass_eq]
  have keeps : ∀ (total : Nat) (l' : List Nat) (acc : State × Nat), (∀ n ∈ l', n ∈ l) → π (l'.foldl (State.grantOne pool total) acc).1 = π acc.1 := by
    intro total l'
    induction l' with
    | nil => exact fun _ _ => rfl
    | cons n l' ih => exact fun acc sub => (ih _ fun k hk => sub k (List.mem_cons_of_mem n hk)).trans (h pool total acc n (sub n List.mem_cons_self))
  exact keeps _ l (s, 0) fun _ hn => hn

theorem State.grantClass_epoch (s : State) (l : List Nat) (pool : Nat) : (s.grantClass l pool).1.sched.epoch = s.sched.epoch :=
  State.grantClass_keeps (π := fun t => t.sched.epoch) (fun _ _ _ _ _ => rfl) s pool

theorem State.grantClass_credit_ne {l : List Nat} {n : Nat} (h : n ∉ l) (s : State) (pool : Nat) :
    (s.grantClass l pool).1.credit n = s.credit n :=
  State.grantClass_keeps (π := fun t => t.credit n) (fun _ _ acc _ hk => acc.1.setCredit_credit_ne (ne_of_mem_of_not_mem hk h) _) s pool

/-- A slice that is alone in its class takes the whole pool. -/
theorem State.grantClass_credit_alone {n : Nat} (h : 0 < s.share n) (pool : Nat) :
    (s.grantClass [n] pool).1.credit n = min (s.credit n + (pool : Int)) ((s.cfg 0x4000 9 * pool : Nat) : Int) := by
  have whole : (if s.share n + 0 = 0 then 0 else pool * s.share n / (s.share n + 0)) = pool := by
    rw [if_neg (by omega), Nat.add_zero, Nat.mul_div_cancel _ h]
  refine (s.setCredit_credit n _).trans ?_
  simp only [List.map_cons, List.map_nil, List.sum_cons, List.sum_nil, whole]

/-! ### The budget of a port (R165, R166) -/

/-- The credit of the slices of a port, after the grants of its three classes and the losses of those that take none. -/
def State.portGranted (s : State) (p : Nat) : State :=
  let b := s.portBudget
  let u := b * s.upkeepShare / 100
  let c := b * s.cfg 0x4000 4 / 100
  let f := b * s.cfg 0x4000 5 / 100
  let g0 := s.grantClass (s.eligible p 0) c
  let g1 := g0.1.grantClass (s.eligible p 1) (b - u - c - f)
  (g1.1.grantClass (s.eligible p 2) f).1.forEach (s.ineligible p) (fun n s => s.setCredit n (min (s.credit n) 0))

/-- The pools of a port, whose spill is what no slice took. -/
def State.epochPool (s : State) (spill : Nat) : PortPool :=
  let b := s.portBudget
  { upkeep := b * s.upkeepShare / 100, crisp := b * s.cfg 0x4000 4 / 100, bulk := b * s.cfg 0x4000 5 / 100
    standard := b - b * s.upkeepShare / 100 - b * s.cfg 0x4000 4 / 100 - b * s.cfg 0x4000 5 / 100, spill := spill }

theorem State.portEpoch_down {p : Nat} (h : (s.port p).linkUp = false) : s.portEpoch p = s.setPortPool p { upkeep := s.portBudget } :=
  if_pos (by rw [h]; rfl)

theorem State.portEpoch_up {p : Nat} (h : (s.port p).linkUp = true) :
    ∃ spill, s.portEpoch p = (s.portGranted p).setPortPool p (s.epochPool spill) :=
  ⟨_, if_neg (by rw [h]; exact Bool.false_ne_true)⟩

theorem State.portGranted_epoch (s : State) (p : Nat) : (s.portGranted p).sched.epoch = s.sched.epoch := by
  unfold State.portGranted
  dsimp only
  rw [State.forEach_keeps (π := fun t => t.sched.epoch) (f := fun n t => t.setCredit n (min (t.credit n) 0)) (fun _ _ => rfl),
    State.grantClass_epoch, State.grantClass_epoch,
    State.grantClass_epoch]

theorem State.portEpoch_epoch (s : State) (p : Nat) : (s.portEpoch p).sched.epoch = s.sched.epoch := by
  cases h : (s.port p).linkUp with
  | false => rw [State.portEpoch_down h, (State.setPortPool_sched ..).2]
  | true =>
    obtain ⟨spill, e⟩ := State.portEpoch_up h
    rw [e, (State.setPortPool_sched ..).2, State.portGranted_epoch]

theorem State.mem_eligible {p k n : Nat} (h : n ∈ s.eligible p k) : s.slClass n = k := by
  have := (List.mem_filter.mp h).2
  simp only [Bool.and_eq_true, beq_iff_eq] at this
  exact this.1

theorem State.mem_ineligible {p n : Nat} (h : n ∈ s.ineligible p) : s.slClass n ≠ 0 := by
  have := (List.mem_filter.mp h).2
  simp only [Bool.and_eq_true, bne_iff_ne] at this
  exact this.1

/-- A Crisp slice that is alone in its class takes the whole Crisp pool of its port. -/
theorem State.portGranted_credit {p n : Nat} (h : s.eligible p 0 = [n]) (hs : 0 < s.share n) : (s.portGranted p).credit n =
    min (s.credit n + ((s.portBudget * s.cfg 0x4000 4 / 100 : Nat) : Int))
      ((s.cfg 0x4000 9 * (s.portBudget * s.cfg 0x4000 4 / 100) : Nat) : Int) := by
  have crisp : s.slClass n = 0 := State.mem_eligible (h ▸ List.mem_singleton_self n)
  have other (k : Nat) (hk : k ≠ 0) : n ∉ s.eligible p k := fun hn => hk ((State.mem_eligible hn).symm.trans crisp)
  unfold State.portGranted
  dsimp only
  rw [State.forEach_induct (P := fun t => t.credit n = _) rfl fun k hk t ht =>
      (t.setCredit_credit_ne (fun e => State.mem_ineligible hk (e ▸ crisp)) _).trans ht,
    State.grantClass_credit_ne (other 2 (by decide)), State.grantClass_credit_ne (other 1 (by decide)), h,
    State.grantClass_credit_alone hs]

/-! ### EPOCH_START -/

/-- All that the watch on shutdown and Maintenance entry does to the mode is to note its checkpoint. -/
theorem State.settleWatch_mode (s : State) : ∃ b, s.settleWatch.mode = { s.mode with entryCkpt := b } := by
  unfold State.settleWatch
  split
  · exact ⟨_, rfl⟩
  · extract_lets entering s1 s2 s3 mode
    have drained : s1.mode = s.mode := by
      by_cases h : (s.shutting || s.mode.drainWanted || entering) = true
      · rw [show s1 = s.drain.drainZones (fun _ => true) from if_pos h, (State.drainZones_chg ..).mode rfl, s.drain_chg.mode rfl]
      · rw [show s1 = s from if_neg h]
    have stopped : s2.mode = s.mode := by
      by_cases h : s1.shutting = true
      · exact (congrArg State.mode (if_pos h)).trans (((State.stopRecord_chg ..).mode rfl).trans drained)
      · rw [show s2 = s1 from if_neg h, drained]
    have noted : s3.mode = s.mode := ((State.closeTail_chg _).mode rfl).trans ((s2.checkpoint_chg.mode rfl).trans stopped)
    split
    · split
      · exact ⟨true, congrArg (fun x : ModeSt => { x with entryCkpt := true }) noted⟩
      · exact ⟨_, stopped⟩
    · exact ⟨_, drained⟩

/-- The settings, the power state and the count of an epoch that begins. -/
def State.epochBegun (s : State) : State :=
  let s1 := s.boundaries (fun i => decide (0x3000 ≤ i ∧ i ≤ 0x3FFF) || i == 0x4000)
  { s1 with
    mode := { s1.mode with psInForce := s1.mode.psNext
                           maintStopped := s1.mode.maintEntry || decide (s1.mode.base = Base.maintenance) }
    sched := { s1.sched with epoch := (s1.sched.epoch + 1) % 2 ^ 32, adminUsed := [], grant := [], upkeepPct := s1.upkeepShare } }

/-- A power state that changes lets every LUN choose again. -/
def State.epochChosen (s : State) : State :=
  s.epochBegun.also (s.mode.psInForce != s.epochBegun.mode.psInForce) (fun s => s.forEach (List.range Config.channels) (fun c s => s.woadAll c))

/-- What waited for the epoch, then the pools of port 0. -/
def State.epochPort0 (s : State) : State := s.epochChosen.psDone.maintWindows.settleWatch.portEpoch 0

/-- Then the pools of port 1, in dual-port mode. -/
def State.epochDone (s : State) : State := if s.epochPort0.dual then s.epochPort0.portEpoch 1 else s.epochPort0

theorem exec_epochStart (ha : s.awake = true) : exec .epochStart s = .next s.epochDone := next_when ha

theorem State.epochBegun_epoch (s : State) : s.epochBegun.sched.epoch = (s.sched.epoch + 1) % 4294967296 :=
  congrArg (fun x : Sched => (x.epoch + 1) % 4294967296) ((s.boundaries_chg _).sched rfl)

theorem State.epochBegun_mode (s : State) : s.epochBegun.mode = { s.mode with
    psInForce := s.mode.psNext, maintStopped := s.mode.maintEntry || decide (s.mode.base = Base.maintenance) } :=
  congrArg (fun x : ModeSt => { x with psInForce := x.psNext, maintStopped := x.maintEntry || decide (x.base = Base.maintenance) })
    ((s.boundaries_chg _).mode rfl)

/-- Choices at the LUNs of channels change no mode and count no epoch. -/
theorem State.woadEach_frame (s : State) (l : List Nat) : (s.forEach l (fun c t => t.woadAll c)).mode = s.mode ∧
    (s.forEach l (fun c t => t.woadAll c)).sched.epoch = s.sched.epoch :=
  ⟨State.forEach_keeps (π := fun t => t.mode) (fun c t => (t.woadAll_chg c).mode rfl) s l,
    State.forEach_keeps (π := fun t => t.sched.epoch) (fun c t => t.woadAll_epoch c) s l⟩

theorem State.epochChosen_frame (s : State) : s.epochChosen.mode = s.epochBegun.mode ∧
    s.epochChosen.sched.epoch = s.epochBegun.sched.epoch := by
  unfold State.epochChosen
  generalize s.epochBegun = u
  unfold State.also
  beta_reduce
  split
  · exact u.woadEach_frame _
  · exact ⟨rfl, rfl⟩

theorem State.epochDone_epoch (s : State) : s.epochDone.sched.epoch = (s.sched.epoch + 1) % 4294967296 := by
  have port0 : s.epochPort0.sched.epoch = (s.sched.epoch + 1) % 4294967296 := by
    unfold State.epochPort0
    rw [State.portEpoch_epoch, (State.settleWatch_chg _).sched rfl, (State.maintWindows_chg _).sched rfl, (State.psDone_chg _).sched rfl,
      s.epochChosen_frame.2, s.epochBegun_epoch]
  unfold State.epochDone
  split
  · rw [State.portEpoch_epoch, port0]
  · exact port0

theorem State.epochDone_mode (s : State) : ∃ b, s.epochDone.mode = { s.mode with
    psInForce := s.mode.psNext, maintStopped := s.mode.maintEntry || decide (s.mode.base = Base.maintenance), entryCkpt := b } := by
  obtain ⟨b, watched⟩ := s.epochChosen.psDone.maintWindows.settleWatch_mode
  have port0 : s.epochPort0.mode = { s.epochBegun.mode with entryCkpt := b } := by
    unfold State.epochPort0
    rw [(State.portEpoch_chg ..).mode rfl, watched, (State.maintWindows_chg _).mode rfl, (State.psDone_chg _).mode rfl, s.epochChosen_frame.1]
  rw [s.epochBegun_mode] at port0
  refine ⟨b, ?_⟩
  unfold State.epochDone
  split
  · rw [(State.portEpoch_chg ..).mode rfl, port0]
  · exact port0

theorem State.epochDone_frame (s : State) (ha : s.awake = true) : s.epochDone.nss = s.nss ∧ s.epochDone.sec = s.sec := by
  obtain ⟨t, ht, chg⟩ := execEpochStart_chg s
  obtain rfl : s.epochDone = t := Host.Outcome.next.inj ((exec_epochStart ha).symm.trans ht)
  exact ⟨chg.nss rfl, chg.sec rfl⟩

/-! ### The portEpoch clauses, as the obligation words them -/

theorem State.portEpoch_pool_down {p : Nat} (h : (s.port p).linkUp = false) :
    (s.portEpoch p).portPool p = { upkeep := s.portBudget } ∧ (s.portEpoch p).sched.credit = s.sched.credit := by
  rw [State.portEpoch_down h]
  exact ⟨State.setPortPool_portPool .., (State.setPortPool_sched ..).1⟩

theorem State.portEpoch_pool_up {p : Nat} (h : (s.port p).linkUp = true) : ∃ spill, (s.portEpoch p).portPool p = s.epochPool spill := by
  obtain ⟨spill, e⟩ := State.portEpoch_up h
  exact ⟨spill, by rw [e, State.setPortPool_portPool]⟩

theorem State.portEpoch_credit_alone {p n : Nat} (h : (s.port p).linkUp = true) (alone : s.eligible p 0 = [n]) (hs : 0 < s.share n) :
    (s.portEpoch p).credit n = min (s.credit n + ((s.portBudget * s.cfg 0x4000 4 / 100 : Nat) : Int))
      ((s.cfg 0x4000 9 * (s.portBudget * s.cfg 0x4000 4 / 100) : Nat) : Int) := by
  obtain ⟨spill, e⟩ := State.portEpoch_up h
  rw [← State.portGranted_credit alone hs, e]
  exact congrArg (fun c => Tbl.get 0 c n) (State.setPortPool_sched ..).1

end Sys2Proof.Machine
end

section
/-! SUPPORT. The operations of a die, the suspends and pauses of its LUN, and the transfers of its bus (R175 to R179, R182). -/

namespace Sys2Proof.Machine

variable {s : State} {ch pos : Nat}

/-! ### DIE_DESCRIPTOR_ARRIVAL and the suspends (R175, R176) -/

/-- A state in which a die operation waits at the end of its LUN's queue. -/
def State.dieQueued (s : State) (ch pos : Nat) (op : DieOp) : State :=
  s.setLun ch pos { s.lun ch pos with queue := (s.lun ch pos).queue ++ [⟨op, s.aon.now, s.dieDue op⟩] }

theorem State.dieQueued_lun (s : State) (ch pos : Nat) (op : DieOp) : (s.dieQueued ch pos op).lun ch pos =
    { s.lun ch pos with queue := (s.lun ch pos).queue ++ [⟨op, s.aon.now, s.dieDue op⟩] } :=
  s.setLun_lun ch pos _

theorem State.dieQueued_running (s : State) (ch pos : Nat) (op : DieOp) :
    ((s.dieQueued ch pos op).lun ch pos).running = (s.lun ch pos).running :=
  by rw [State.dieQueued_lun]

theorem exec_dieDescriptorArrival (op : DieOp) (h : s.lunServes ch pos = true) :
    exec (.dieDescriptorArrival ch pos op) s = .next (s.dieArrive ch pos op) :=
  next_when h

/-- A program, an erase or a read of another class only waits. -/
theorem State.dieArrive_calm (op : DieOp) (h : op.kind ≠ .read ∨ op.cls ≠ 0) :
    s.dieArrive ch pos op = (s.dieQueued ch pos op).woad ch pos := by
  have calm : ¬ (op.kind == .read && op.cls == 0) = true := by
    rw [Bool.and_eq_true, beq_iff_eq, beq_iff_eq]
    exact fun ⟨hk, hc⟩ => h.elim (· hk) (· hc)
  exact congrArg (State.woad · ch pos) (if_neg calm)

/-- A Crisp read may suspend what its LUN has in progress. -/
theorem State.dieArrive_crisp {op : DieOp} (hk : op.kind = .read) (hc : op.cls = 0) :
    s.dieArrive ch pos op = ((s.dieQueued ch pos op).crispArrives ch pos).woad ch pos := by
  have crisp : (op.kind == .read && op.cls == 0) = true := by rw [hk, hc]; rfl
  exact congrArg (State.woad · ch pos) (if_pos crisp)

theorem State.crispArrives_idle (h : (s.lun ch pos).running = none) : s.crispArrives ch pos = s := by
  simp only [State.crispArrives, h]

section
variable {r : RunOp} (hr : (s.lun ch pos).running = some r) (hk : r.w.op.kind ≠ .read)
include hr hk

theorem State.crispArrives_spent (h : s.suspendLimit r.w.op.kind ≤ r.suspends) : s.crispArrives ch pos =
    { s.schBit 11 with sched := { s.sched with spentWaits := satAdd 32 s.sched.spentWaits 1 } } := by
  simp only [State.crispArrives, hr, if_neg hk, if_pos h]

theorem State.crispArrives_suspends (h : r.suspends < s.suspendLimit r.w.op.kind)
    (ran : s.elapsed r.resumedAt (qUsec (s.pf 0x10)) = true) : s.crispArrives ch pos = s.dieSuspend ch pos := by
  simp only [State.crispArrives, hr, if_neg hk, if_neg (Nat.not_le.mpr h), if_pos ran]

theorem State.crispArrives_waits (h : r.suspends < s.suspendLimit r.w.op.kind)
    (young : s.elapsed r.resumedAt (qUsec (s.pf 0x10)) = false) :
    s.crispArrives ch pos = s.setLun ch pos { s.lun ch pos with suspendWanted := true } := by
  have young' : ¬ s.elapsed r.resumedAt (qUsec (s.pf 0x10)) = true := by rw [young]; exact Bool.false_ne_true
  simp only [State.crispArrives, hr, if_neg hk, if_neg (Nat.not_le.mpr h), if_neg young']

end

/-- An operation as it stands suspended (R176). -/
def State.suspendedOp (s : State) (r : RunOp) : RunOp :=
  { r with suspends := r.suspends + 1, busy := r.busy + (s.aon.now - r.resumedAt), suspendedAt := s.aon.now }

/-- A LUN that lets go of its operation in progress, counted, before it chooses again. -/
def State.dieSuspended (s : State) (ch pos : Nat) (r : RunOp) : State :=
  let s1 := s.setLun ch pos { s.lun ch pos with
    running := none, suspendWanted := false, windowReads := 0, limitHit := false, suspended := some (s.suspendedOp r) }
  let s2 := { s1 with sched := { s1.sched with suspends := satAdd 64 s1.sched.suspends 1 } }
  (s2.setChan ch { s2.chan ch with suspends := satAdd 64 (s2.chan ch).suspends 1 }).emit (.dieCommand ch pos "suspend")

theorem State.dieSuspend_eq {r : RunOp} (h : (s.lun ch pos).running = some r) :
    s.dieSuspend ch pos = (s.dieSuspended ch pos r).woad ch pos := by
  unfold State.dieSuspend
  simp only [h]
  rfl

theorem State.dieSuspended_lun (s : State) (ch pos : Nat) (r : RunOp) : (s.dieSuspended ch pos r).lun ch pos =
    { s.lun ch pos with
      running := none, suspendWanted := false, windowReads := 0, limitHit := false, suspended := some (s.suspendedOp r) } :=
  s.setLun_lun ch pos _

theorem State.mem_dieSuspended_out (s : State) (ch pos : Nat) (r : RunOp) :
    Out.dieCommand ch pos "suspend" ∈ (s.dieSuspended ch pos r).out :=
  List.mem_append_right _ List.mem_cons_self

theorem exec_suspendMinRunReached {r : RunOp} (hw : (s.lun ch pos).suspendWanted = true) (hr : (s.lun ch pos).running = some r)
    (hq : (s.lun ch pos).queue.any WaitOp.crispRead = true) :
    exec (.suspendMinRunReached ch pos) s = .next ((s.dieSuspended ch pos r).woad ch pos) := by
  rw [← State.dieSuspend_eq hr]
  exact next_when (by rw [hw, hr, hq]; rfl)

/-! ### SUSPEND_LIMIT_REACHED (R177) -/

theorem State.boundary_lun (s : State) (i : Nat) : (s.boundary i).lun ch pos = s.lun ch pos := (s.boundary_chg i).lun_eq rfl ..

/-- A suspended operation that has reached its limit resumes, at a LUN that may start one. -/
theorem State.woad_resumes {r : RunOp} (hs : (s.lun ch pos).suspended = some r) (hl : (s.lun ch pos).limitHit = true)
    (hr : (s.lun ch pos).running = none) (hp : (s.lun ch pos).pausedUntil = none) (hf : (s.lun ch pos).failed = false)
    (hres : (s.lun ch pos).resetPending = false) (hst : (s.chan ch).st = .running) (hre : (s.chan ch).retraining = false) :
    ∃ forced, s.woad ch pos = (s.boundary 0x4001).dieResume ch pos r forced := by
  have lun : (s.boundary 0x4001).lun ch pos = s.lun ch pos := s.boundary_lun _
  have chan : (s.boundary 0x4001).chan ch = s.chan ch := (s.boundary_chg _).chan_eq rfl ch
  unfold State.woad
  simp only [lun, chan, hs, hl, hr, hp, hf, hres, hst, hre]
  exact ⟨_, rfl⟩

theorem State.dieResume_lun (s : State) (ch pos : Nat) (r : RunOp) (forced : Bool) : (s.dieResume ch pos r forced).lun ch pos =
    { s.lun ch pos with
      running := some { r with resumedAt := s.aon.now }, suspended := none, windowReads := 0, limitHit := false, suspendWanted := false } := by
  cases forced <;> exact s.setLun_lun ch pos _

theorem State.mem_dieResume_out (s : State) (ch pos : Nat) (r : RunOp) (forced : Bool) :
    Out.dieCommand ch pos "resume" ∈ (s.dieResume ch pos r forced).out :=
  List.mem_append_right _ List.mem_cons_self

theorem exec_suspendLimitReached {r : RunOp} (hs : (s.lun ch pos).suspended = some r) : exec (.suspendLimitReached ch pos) s =
    .next ((s.setLun ch pos { s.lun ch pos with limitHit := true }).woad ch pos) :=
  next_when (by rw [hs]; rfl)

/-! ### DIE_OPERATION_COMPLETE (R177 to R179, R263) -/

/-- A LUN whose operation has ended, with its thermal pause. -/
def State.dieFreed (s : State) (ch pos : Nat) (r : RunOp) : State :=
  s.setLun ch pos { s.lun ch pos with
    running := none, suspendWanted := false
    pausedUntil := if pauseQuarters (s.stepOf ch) = 0 then none
      else some (s.aon.now + pauseQuarters (s.stepOf ch) * (r.busy + (s.aon.now - r.resumedAt)) / 4) }

/-- What an operation that has ended leaves on its channel and its blocks. -/
def State.dieResult (s : State) (ch pos : Nat) (ok : Bool) (r : RunOp) : State :=
  match r.w.op.kind with
  | .read => (r.w :: r.joined).foldl (fun (s : State) (w : WaitOp) => s.busAsk ch ⟨false, w.op.cls, w.due, w.op.owner⟩)
      ((blocksOnce (r.w :: r.joined)).foldl (fun (s : State) (w : WaitOp) => s.blockRead ch pos w.op) s)
  | .program => if ok then s else s.setChan ch { s.chan ch with programFails := satAdd 32 (s.chan ch).programFails 1 }
  | .erase => if ok then s else s.setChan ch { s.chan ch with eraseFails := satAdd 32 (s.chan ch).eraseFails 1 }

theorem exec_dieOperationComplete {r : RunOp} (ok : Bool) (h : (s.lun ch pos).running = some r) :
    exec (.dieOperationComplete ch pos ok) s = .next (((s.dieFreed ch pos r).dieResult ch pos ok r).woadFreed ch pos) := by
  refine (next_when (by rw [h]; rfl)).trans ?_
  simp only [h]
  rfl

theorem State.dieFreed_lun (s : State) (ch pos : Nat) (r : RunOp) : ((s.dieFreed ch pos r).lun ch pos).running = none ∧
    ((s.dieFreed ch pos r).lun ch pos).pausedUntil = (if pauseQuarters (s.stepOf ch) = 0 then none
      else some (s.aon.now + pauseQuarters (s.stepOf ch) * (r.busy + (s.aon.now - r.resumedAt)) / 4)) := by
  unfold State.dieFreed
  rw [State.setLun_lun]
  exact ⟨rfl, rfl⟩

/-- The result of an operation changes no LUN. -/
theorem State.dieResult_lun (s : State) (ch pos : Nat) (ok : Bool) (r : RunOp) : (s.dieResult ch pos ok r).lun ch pos = s.lun ch pos := by
  have chg : Chg 537919490 s (s.dieResult ch pos ok r) := by
    unfold State.dieResult
    split
    · exact Chg.foldl (fun t w => (t.busAsk_chg ..).mono (by decide))
        (Chg.foldl (fun t w => (t.blockRead_chg ..).mono (by decide)) (Chg.refl _ _) _) _
    · exact Chg.ite (Chg.refl _ _) ((State.setChan_chg ..).mono (by decide))
    · exact Chg.ite (Chg.refl _ _) ((State.setChan_chg ..).mono (by decide))
  exact chg.lun_eq rfl ch pos

/-- A program or erase counts on its channel only where it fails. -/
theorem State.dieResult_fails (ok : Bool) {r : RunOp} (h : r.w.op.kind ≠ .read) :
    ((s.dieResult ch pos ok r).chan ch).programFails = (if ok = false ∧ r.w.op.kind = .program then satAdd 32 (s.chan ch).programFails 1
      else (s.chan ch).programFails) ∧
    ((s.dieResult ch pos ok r).chan ch).eraseFails = (if ok = false ∧ r.w.op.kind = .erase then satAdd 32 (s.chan ch).eraseFails 1
      else (s.chan ch).eraseFails) := by
  unfold State.dieResult
  cases hk : r.w.op.kind with
  | read => exact absurd hk h
  | program => cases ok <;> simp
  | erase => cases ok <;> simp

/-- A read that no other joins counts once on its block, then asks for the bus. -/
theorem State.dieResult_read (ok : Bool) {r : RunOp} (h : r.w.op.kind = .read) (alone : r.joined = []) : s.dieResult ch pos ok r =
    (s.blockRead ch pos r.w.op).busAsk ch ⟨false, r.w.op.cls, r.w.due, r.w.op.owner⟩ := by
  simp only [State.dieResult, h, alone]
  rfl

theorem State.busAsk_busy {b : BusXfer} (h : (s.chan ch).busActive = some b) (x : BusXfer) :
    ((s.busAsk ch x).chan ch).busActive = some b ∧ ((s.busAsk ch x).chan ch).busWait = (s.chan ch).busWait ++ [x] := by
  simp [State.busAsk, h]

theorem State.busAsk_free (h : (s.chan ch).busActive = none) (x : BusXfer) : ((s.busAsk ch x).chan ch).busActive = some x := by
  simp only [State.busAsk, h]
  exact congrArg Chan.busActive (s.setChan_chan ch _)

theorem State.blockRead_reads (s : State) (ch pos : Nat) (op : DieOp) :
    Tbl.get 0 ((s.blockRead ch pos op).sb (pos * s.blocksPerLun + op.block)).reads ch =
      satAdd 32 (Tbl.get 0 (s.sb (pos * s.blocksPerLun + op.block)).reads ch) 1 := by
  unfold State.blockRead State.readsAdd
  rw [State.setSb_sb]
  exact Tbl.get_set_same ..

theorem exec_thermalPauseEnd (h : (s.lun ch pos).pausedUntil.isSome = true) : exec (.thermalPauseEnd ch pos) s =
    .next ((s.setLun ch pos { s.lun ch pos with pausedUntil := none }).woad ch pos) :=
  next_when h

/-! ### BUS_TRANSFER_COMPLETE (R178) -/

/-- The order of the transfers of a bus: by class, then by deadline. -/
def BusXfer.Before (x y : BusXfer) : Prop := x.cls < y.cls ∨ (x.cls = y.cls ∧ x.due ≤ y.due)

/-- The choice between the transfer chosen so far and another. -/
def BusXfer.better (b x : BusXfer) : BusXfer := if x.cls < b.cls ∨ (x.cls = b.cls ∧ x.due < b.due) then x else b

theorem BusXfer.better_before (b x : BusXfer) : (b.better x).Before b ∧ (b.better x).Before x := by
  unfold BusXfer.better BusXfer.Before
  split <;> omega

theorem BusXfer.Before.trans {x y z : BusXfer} (h : x.Before y) (h' : y.Before z) : x.Before z := by
  unfold BusXfer.Before at *
  omega

/-- The fold from a first choice ends at it or at a later transfer, and at none that another comes before. -/
theorem BusXfer.foldl_better (l : List BusXfer) (b : BusXfer) : l.foldl BusXfer.better b ∈ b :: l ∧
    ∀ y ∈ b :: l, (l.foldl BusXfer.better b).Before y := by
  induction l generalizing b with
  | nil => exact ⟨List.mem_cons_self, fun y hy => by rw [List.mem_singleton.mp hy]; exact .inr ⟨rfl, Nat.le_refl _⟩⟩
  | cons x l ih =>
    obtain ⟨mem, least⟩ := ih (b.better x)
    have first := least _ List.mem_cons_self
    refine ⟨?_, fun y hy => ?_⟩
    · have either : b.better x = x ∨ b.better x = b := by unfold BusXfer.better; exact ite_eq_or_eq ..
      rcases List.mem_cons.mp mem with h | h
      · rw [List.foldl_cons, h]
        rcases either with e | e <;> simp [e]
      · exact List.mem_cons_of_mem _ (List.mem_cons_of_mem _ h)
    · rcases List.mem_cons.mp hy with rfl | hy
      · exact first.trans (y.better_before x).1
      · rcases List.mem_cons.mp hy with rfl | hy
        · exact first.trans (b.better_before y).2
        · exact least y (List.mem_cons_of_mem _ hy)

theorem pickXfer_cons (b : BusXfer) (l : List BusXfer) : pickXfer (b :: l) = some (l.foldl BusXfer.better b) := by
  unfold pickXfer
  rw [List.foldl_cons]
  induction l generalizing b with
  | nil => rfl
  | cons x l ih =>
    rw [List.foldl_cons, List.foldl_cons, ← ih]
    congr 1
    exact (apply_ite some _ _ _).symm

/-- The transfer that goes next is one that waits, and none that waits comes before it. -/
theorem pickXfer_least {l : List BusXfer} (h : l ≠ []) : ∃ x, pickXfer l = some x ∧ x ∈ l ∧ ∀ y ∈ l, x.Before y := by
  cases l with
  | nil => exact absurd rfl h
  | cons b l => exact ⟨_, pickXfer_cons b l, BusXfer.foldl_better l b⟩

theorem State.readMoved_chan (s : State) (c k : Nat) : (s.readMoved c).chan k = s.chan k := (s.readMoved_chg c).chan_eq rfl k

theorem exec_busTransferComplete_stops (h : (s.chan ch).busActive.isSome = true)
    (stop : (if (s.chan ch).retrainWanted then none else pickXfer (s.chan ch).busWait) = none) : exec (.busTransferComplete ch) s =
      .next ((s.readMoved ch).setChan ch
        { s.chan ch with busActive := none, retraining := (s.chan ch).retraining || (s.chan ch).retrainWanted }) := by
  refine (next_when h).trans ?_
  simp only [State.readMoved_chan, stop]

theorem exec_busTransferComplete_next {x : BusXfer} (h : (s.chan ch).busActive.isSome = true) (hr : (s.chan ch).retrainWanted = false)
    (hx : pickXfer (s.chan ch).busWait = some x) : exec (.busTransferComplete ch) s =
      .next (((s.readMoved ch).setChan ch { s.chan ch with busActive := some x, busWait := (s.chan ch).busWait.erase x }).emit
        (.busTransfer ch x.program)) := by
  refine (next_when h).trans ?_
  simp only [State.readMoved_chan, hr, hx]
  rfl

end Sys2Proof.Machine
end

section
namespace Sys2Proof
open Machine

/-- The clause of EPOCH_START. -/
theorem dieScheduling_epoch (s : State) (ha : s.awake = true) :
    ∃ t, exec .epochStart s = .next t ∧ t.sched.epoch = (s.sched.epoch + 1) % 4294967296 ∧ t.mode.psInForce = s.mode.psNext ∧
      t.mode.maintStopped = (s.mode.maintEntry || decide (s.mode.base = .maintenance)) ∧ t.nss = s.nss ∧ t.sec = s.sec := by
  obtain ⟨b, mode⟩ := s.epochDone_mode
  refine ⟨_, exec_epochStart ha, s.epochDone_epoch, ?_, ?_, s.epochDone_frame ha⟩ <;> rw [mode]

/-- The clause of DIE_DESCRIPTOR_ARRIVAL for a Crisp read at a LUN that runs a program or an erase. -/
theorem dieScheduling_crisp (s : State) (ch pos : Nat) (op : DieOp) (r : RunOp) (h : s.lunServes ch pos = true)
    (hk : op.kind = .read) (hc : op.cls = 0) (hr : (s.lun ch pos).running = some r) (hw : r.w.op.kind ≠ .read) :
    (s.suspendLimit r.w.op.kind ≤ r.suspends → ∃ u : State, exec (.dieDescriptorArrival ch pos op) s = .next (u.woad ch pos) ∧
      (u.lun ch pos).running = some r ∧ u.sched.spentWaits = satAdd 32 s.sched.spentWaits 1 ∧
      u.regs.schStatus = s.regs.schStatus ||| 0x800#32) ∧
    (r.suspends < s.suspendLimit r.w.op.kind → s.elapsed r.resumedAt (qUsec (s.pf 0x10)) = true →
      ∃ u : State, exec (.dieDescriptorArrival ch pos op) s = .next ((u.woad ch pos).woad ch pos) ∧ (u.lun ch pos).running = none ∧
        (u.lun ch pos).suspended = some (s.suspendedOp r) ∧
        u.sched.suspends = satAdd 64 s.sched.suspends 1 ∧ Out.dieCommand ch pos "suspend" ∈ u.out) ∧
    (r.suspends < s.suspendLimit r.w.op.kind → s.elapsed r.resumedAt (qUsec (s.pf 0x10)) = false →
      ∃ u : State, exec (.dieDescriptorArrival ch pos op) s = .next (u.woad ch pos) ∧ (u.lun ch pos).running = some r ∧
        (u.lun ch pos).suspendWanted = true) := by
  have run : ((s.dieQueued ch pos op).lun ch pos).running = some r := (s.dieQueued_running ch pos op).trans hr
  have arrives := (exec_dieDescriptorArrival op h).trans (congrArg Host.Outcome.next (State.dieArrive_crisp hk hc))
  refine ⟨fun spent => ⟨_, arrives, ?_⟩, fun left ran => ⟨(s.dieQueued ch pos op).dieSuspended ch pos r, ?_, ?_⟩,
    fun left young => ⟨_, arrives, ?_⟩⟩
  · rw [State.crispArrives_spent run hw spent]
    exact ⟨run, rfl, rfl⟩
  · rw [arrives, State.crispArrives_suspends run hw left ran, State.dieSuspend_eq run]
  · rw [State.dieSuspended_lun]
    exact ⟨rfl, rfl, rfl, State.mem_dieSuspended_out ..⟩
  · rw [State.crispArrives_waits run hw left young, State.setLun_lun]
    exact ⟨run, rfl⟩

/-- The clause of SUSPEND_LIMIT_REACHED. -/
theorem dieScheduling_limit (s : State) (ch pos : Nat) (r : RunOp) (hs : (s.lun ch pos).suspended = some r)
    (hr : (s.lun ch pos).running = none) (hp : (s.lun ch pos).pausedUntil = none) (hf : (s.lun ch pos).failed = false)
    (hres : (s.lun ch pos).resetPending = false) (hst : (s.chan ch).st = .running) (hre : (s.chan ch).retraining = false) :
    ∃ t, exec (.suspendLimitReached ch pos) s = .next t ∧ (t.lun ch pos).suspended = none ∧
      (t.lun ch pos).running = some { r with resumedAt := s.aon.now } ∧ Out.dieCommand ch pos "resume" ∈ t.out := by
  let u := s.setLun ch pos { s.lun ch pos with limitHit := true }
  have lun : u.lun ch pos = { s.lun ch pos with limitHit := true } := s.setLun_lun ch pos _
  obtain ⟨forced, resumes⟩ := State.woad_resumes (s := u) (ch := ch) (pos := pos) (by rw [lun]; exact hs) (by rw [lun])
    (by rw [lun]; exact hr) (by rw [lun]; exact hp) (by rw [lun]; exact hf) (by rw [lun]; exact hres) hst hre
  have now : (u.boundary 0x4001).aon.now = s.aon.now := congrArg Aon.now ((u.boundary_chg _).aon rfl)
  refine ⟨_, (exec_suspendLimitReached hs).trans (congrArg Host.Outcome.next resumes), ?_⟩
  rw [State.dieResume_lun, now]
  exact ⟨rfl, rfl, State.mem_dieResume_out ..⟩

/-- The clause of DIE_OPERATION_COMPLETE for a read that no other joins. -/
theorem dieScheduling_read (s : State) (ch pos : Nat) (ok : Bool) (r : RunOp) (hr : (s.lun ch pos).running = some r)
    (hk : r.w.op.kind = .read) (alone : r.joined = []) :
    ∃ u : State, exec (.dieOperationComplete ch pos ok) s = .next (u.woadFreed ch pos) ∧
      (u.lun ch pos).running = none ∧ (u.lun ch pos).pausedUntil = (if pauseQuarters (s.stepOf ch) = 0 then none
        else some (s.aon.now + pauseQuarters (s.stepOf ch) * (r.busy + (s.aon.now - r.resumedAt)) / 4)) ∧
      Tbl.get 0 (u.sb (pos * s.blocksPerLun + r.w.op.block)).reads ch =
        satAdd 32 (Tbl.get 0 (s.sb (pos * s.blocksPerLun + r.w.op.block)).reads ch) 1 ∧
      (∀ b, (s.chan ch).busActive = some b → (u.chan ch).busActive = some b ∧
        (u.chan ch).busWait = (s.chan ch).busWait ++ [⟨false, r.w.op.cls, r.w.due, r.w.op.owner⟩]) ∧
      ((s.chan ch).busActive = none → (u.chan ch).busActive = some ⟨false, r.w.op.cls, r.w.due, r.w.op.owner⟩) := by
  let counted := (s.dieFreed ch pos r).blockRead ch pos r.w.op
  have chan : counted.chan ch = s.chan ch := (State.blockRead_chg ..).chan_eq rfl ch
  have result := State.dieResult_read (s := s.dieFreed ch pos r) (ch := ch) (pos := pos) ok hk alone
  obtain ⟨running, paused⟩ := s.dieFreed_lun ch pos r
  refine ⟨_, exec_dieOperationComplete ok hr, ?_⟩
  rw [State.dieResult_lun]
  refine ⟨running, paused, ?_⟩
  rw [result, (State.busAsk_chg ..).sb_eq rfl]
  refine ⟨State.blockRead_reads (s.dieFreed ch pos r) ch pos r.w.op, fun b hb => ?_, fun hb => ?_⟩
  · rw [← chan] at hb ⊢
    exact State.busAsk_busy hb _
  · rw [← chan] at hb
    exact State.busAsk_free hb _

/-- The clause of BUS_TRANSFER_COMPLETE. -/
theorem dieScheduling_bus (s : State) (ch : Nat) (h : (s.chan ch).busActive.isSome = true) :
    ((s.chan ch).retrainWanted = true → ∃ t, exec (.busTransferComplete ch) s = .next t ∧ (t.chan ch).busActive = none ∧
      (t.chan ch).retraining = true ∧ (t.chan ch).busWait = (s.chan ch).busWait) ∧
    ((s.chan ch).retrainWanted = false → (s.chan ch).busWait = [] →
      ∃ t, exec (.busTransferComplete ch) s = .next t ∧ (t.chan ch).busActive = none) ∧
    ((s.chan ch).retrainWanted = false → (s.chan ch).busWait ≠ [] →
      ∃ t x, exec (.busTransferComplete ch) s = .next t ∧ (t.chan ch).busActive = some x ∧ x ∈ (s.chan ch).busWait ∧
        (t.chan ch).busWait = (s.chan ch).busWait.erase x ∧
        (∀ y ∈ (s.chan ch).busWait, x.cls < y.cls ∨ (x.cls = y.cls ∧ x.due ≤ y.due)) ∧ Out.busTransfer ch x.program ∈ t.out) := by
  refine ⟨fun hr => ⟨_, exec_busTransferComplete_stops h (by rw [hr]; rfl), ?_⟩,
    fun hr hw => ⟨_, exec_busTransferComplete_stops h (by rw [hr, hw]; rfl), ?_⟩, fun hr hw => ?_⟩
  · rw [State.setChan_chan, hr]
    exact ⟨rfl, Bool.or_true _, rfl⟩
  · rw [State.setChan_chan]
  · obtain ⟨x, picked, mem, least⟩ := pickXfer_least hw
    refine ⟨_, x, exec_busTransferComplete_next h hr picked, ?_⟩
    rw [State.emit_chan, State.setChan_chan]
    exact ⟨rfl, mem, rfl, least, List.mem_append_right _ List.mem_cons_self⟩

/-- Settles O34. An epoch is counted before all that may read it (`State.epochDone`); a die operation leaves its LUN in a state that this
text names (`dieQueued`, `dieSuspended`, `dieFreed`), and Woad chooses from there; the next transfer is a least one of those that wait
(`pickXfer_least`). -/
theorem dieScheduling : Obligations.DieScheduling := by
  unfold Obligations.DieScheduling
  refine ⟨fun s ha _ => dieScheduling_epoch s ha, ?_, ?_, ?_, dieScheduling_limit, ?_, ?_, dieScheduling_bus⟩
  · rintro s p _ - rfl
    exact ⟨State.portEpoch_pool_down, State.portEpoch_pool_up, fun n => State.portEpoch_credit_alone⟩
  · refine fun s ch pos op h => ⟨fun calm => ?_, fun r hk hc hr hw => dieScheduling_crisp s ch pos op r h hk hc hr hw⟩
    by_cases crisp : op.kind ≠ .read ∨ op.cls ≠ 0
    · exact ⟨_, (exec_dieDescriptorArrival op h).trans (congrArg Host.Outcome.next (State.dieArrive_calm op crisp)),
        by rw [State.dieQueued_lun]⟩
    · have idle : ((s.dieQueued ch pos op).lun ch pos).running = none :=
        (s.dieQueued_running ch pos op).trans (calm.resolve_right crisp)
      obtain ⟨hk, hc⟩ := not_or.mp crisp
      refine ⟨s.dieQueued ch pos op, ?_, by rw [State.dieQueued_lun]⟩
      rw [exec_dieDescriptorArrival op h, State.dieArrive_crisp (not_not.mp hk) (not_not.mp hc), State.crispArrives_idle idle]
  · refine fun s ch pos r hw hr hq => ⟨_, exec_suspendMinRunReached hw hr hq, ?_⟩
    rw [State.dieSuspended_lun]
    exact ⟨rfl, rfl, rfl, rfl⟩
  · rintro s ch pos _ _ ok r hr rfl rfl
    refine ⟨fun hk => ⟨_, exec_dieOperationComplete ok hr, ?_⟩, dieScheduling_read s ch pos ok r hr⟩
    obtain ⟨running, paused⟩ := s.dieFreed_lun ch pos r
    rw [State.dieResult_lun]
    exact ⟨running, paused, State.dieResult_fails (s := s.dieFreed ch pos r) ok hk⟩
  · refine fun s ch pos h => ⟨_, exec_thermalPauseEnd h, ?_⟩
    rw [State.setLun_lun]
    exact ⟨rfl, rfl⟩

end Sys2Proof
end

section
/-! SUPPORT. The life of a slice (R137, R141, R144, R153 to R157): what draining and the end of a generation hold keep of it, what an
action, a reset's end and a destroy's end leave, and the words of the dirty-page log. -/

namespace Sys2Proof.Machine

variable {s : State} {n : Nat}

/-! ### The generation, the hold and the state of a slice -/

/-- What a reset's drain leaves alone in a slice. -/
def Slice.life (x : Slice) : Nat × Bool × SliceSt := (x.gen, x.genHeld, x.st)

theorem Chg.slice_life {m : Nat} {s t : State} (h : Chg m s t) (hm : m.testBit 16 = false) : (t.slice n).life = (s.slice n).life := by
  rw [h.slice_eq hm]

theorem Chg.ctrl_eq {m : Nat} {s t : State} (h : Chg m s t) (hm : m.testBit 14 = false) (c : Nat) : t.ctrl c = s.ctrl c := by
  unfold State.ctrl
  rw [h.ctrls hm]

/-- A write of one slice that keeps its life keeps that of every slice. -/
theorem State.setSlice_life {k : Nat} {x : Slice} (h : x.life = (s.slice k).life) : ((s.setSlice k x).slice n).life = (s.slice n).life := by
  by_cases e : k = n
  · subst e
    rw [State.setSlice_slice, h]
  · rw [State.setSlice_slice_ne _ _ e]

theorem State.lateDiscard_life (s : State) (k : Nat) : ((s.lateDiscard k).slice n).life = (s.slice n).life := by
  unfold State.lateDiscard
  rw [State.setPort_slice]
  exact State.setSlice_life rfl

/-- A tag that gives back what it staged, or whose entry is discarded late, before it drains. -/
def State.drainBegun (s : State) (t : Nat) : State :=
  if (s.tag t).st.uncommitted then ((s.zoneSettle t true).poolRelease t).dropStaged t else s.lateDiscard (s.tag t).slice

theorem State.drainBegun_life (s : State) (t : Nat) : ((s.drainBegun t).slice n).life = (s.slice n).life := by
  unfold State.drainBegun
  split
  · rw [(State.dropStaged_chg ..).slice_life rfl, (State.poolRelease_chg ..).slice_life rfl, (State.zoneSettle_chg ..).slice_life rfl]
  · exact State.lateDiscard_life ..

/-- A tag with nothing in flight is free at once, and counted. -/
theorem State.freeTag_life (s : State) (t : Nat) (x : CmdStats) : (({ s.freeTag t with cmds := x } : State).slice n).life = (s.slice n).life :=
  (State.freeTag_chg s t).slice_life rfl

theorem State.drainTag_life (s : State) (t : Nat) : ((s.drainTag t).slice n).life = (s.slice n).life := by
  have begun := s.drainBegun_life (n := n) t
  unfold State.drainTag
  dsimp only
  split
  · rfl
  · rw [← State.drainBegun]
    generalize s.drainBegun t = u at begun ⊢
    have cancelled : (((u.dmaCancel t).setTag t { u.tag t with st := .drain }).slice n).life = (s.slice n).life :=
      ((State.dmaCancel_chg u t).slice_life rfl).trans begun
    split
    · exact cancelled
    · exact (State.freeTag_life _ t _).trans cancelled

/-! ### The admin queue and the page of a slice (R70, R145) -/

/-- Admin queue 0 of the slice's page is there. -/
def State.adminLive (s : State) (n : Nat) : Prop := (s.sq (.page n 0)).live = true ∧ (s.cq (.page n 0)).live = true

theorem State.setupAdmin_live (s : State) (n : Nat) : (s.setupAdmin n).adminLive n := by
  unfold State.setupAdmin State.adminLive
  dsimp only
  rw [State.setCq_sq, State.setSq_sq, State.setCq_cq]
  exact ⟨rfl, rfl⟩

/-- The queues of a page that is dropped are gone. -/
theorem State.dropSliceQueues_sq (s : State) (n q : Nat) (h : q < 256) : (s.dropSliceQueues n).sq (.page n q) = {} := by
  by_contra c
  have mem := (List.mem_filter.mp (Tbl.mem_of_get _ _ _ c)).2
  have odd : qcode (.page n q) % 2 = 1 := by simp only [qcode]; omega
  have page : qcode (.page n q) / 2 / 256 = n := by simp only [qcode]; omega
  simp [odd, page] at mem

theorem State.dropSliceQueues_slice (s : State) (k : Nat) : (s.dropSliceQueues k).slice n = s.slice n :=
  (s.dropSliceQueues_chg k).slice_eq rfl n

theorem State.ltrAll_slice (s : State) : s.ltrAll.slice n = s.slice n := s.ltrAll_chg.slice_eq rfl n

/-! ### The reset's body (R154) -/

/-- The part of a reset before the queues go: the next generation, the drain, the dirty words and the pending interrupts. -/
def State.resetDrained (s : State) (n : Nat) : State :=
  let s1 := s.setSlice n { s.slice n with gen := ((s.slice n).gen + 1) % 65536, genHeld := false }
  let olds := (s1.tagsOfSlice n).filter (fun t => (s1.tag t).fenced && !((s1.slice n).resetTags.contains t))
  let s2 := s1.forEach olds (fun t s => s.drainTag t)
  let s3 := s2.forEach (s2.slice n).resetTags (fun t s =>
    s.setTag t { s.tag t with gen := (s.slice n).gen })
  if s3.cfgB (0x3000 + n) 0x20 && (s3.port (s3.slPort n)).linkUp then s3.dirtyPostAll n
  else { s3 with dirty := s3.dirty.filter (fun d => d.slice != n) }

theorem State.resetDrained_life (s : State) (n : Nat) :
    ((s.resetDrained n).slice n).life = (((s.slice n).gen + 1) % 65536, false, (s.slice n).st) := by
  let s1 := s.setSlice n { s.slice n with gen := ((s.slice n).gen + 1) % 65536, genHeld := false }
  have begun : (s1.slice n).life = (((s.slice n).gen + 1) % 65536, false, (s.slice n).st) := congrArg Slice.life (s.setSlice_slice n _)
  have drained (l : List Nat) : ((s1.forEach l (fun t s => s.drainTag t)).slice n).life = (s1.slice n).life :=
    State.forEach_keeps (π := fun u => (u.slice n).life) (fun t u => u.drainTag_life t) s1 l
  have released (u : State) (l : List Nat) : ((u.forEach l (fun t s => s.setTag t { s.tag t with gen := (s.slice n).gen })).slice n).life =
      (u.slice n).life :=
    State.forEach_keeps (π := fun u => (u.slice n).life) (f := fun t s => s.setTag t { s.tag t with gen := (s.slice n).gen }) (fun _ _ => rfl) u l
  unfold State.resetDrained
  dsimp only
  split
  · rw [(State.dirtyPostAll_chg ..).slice_life rfl, released, drained, begun]
  · exact (released ..).trans ((drained _).trans begun)

/-- The reset's body ends with the queues, the admin queue and the page, and so far keeps the slice's life. -/
theorem State.resetBody_ends (s : State) (n : Nat) : ∃ u : State, s.resetBody n = (u.setupAdmin n).pageReset n ∧
    (u.slice n).life = ((s.resetDrained n).slice n).life := by
  refine ⟨_, rfl, ?_⟩
  rw [(State.dropSliceQueues_chg ..).slice_life rfl, (State.dmaStale_chg ..).slice_life rfl]
  exact State.setSlice_life rfl

theorem State.pageReset_drops (s : State) (n : Nat) : ((s.pageReset n).slice n).drops = 0 :=
  congrArg Slice.drops (s.setSlice_slice n _)

theorem State.resetBody_page (s : State) (n : Nat) : (s.resetBody n).adminLive n ∧ ((s.resetBody n).slice n).drops = 0 := by
  obtain ⟨u, e, -⟩ := s.resetBody_ends n
  rw [e]
  exact ⟨u.setupAdmin_live n, State.pageReset_drops ..⟩

theorem State.resetBody_life (s : State) (n : Nat) :
    ((s.resetBody n).slice n).life = (((s.slice n).gen + 1) % 65536, false, (s.slice n).st) := by
  obtain ⟨u, e, kept⟩ := s.resetBody_ends n
  rw [e, ← s.resetDrained_life, ← kept, ← (u.setupAdmin_chg n).slice_life rfl]
  exact State.setSlice_life rfl

/-! ### SLICE_ACTION_APPLY (R137, R141) -/

section
variable {k : Nat} {c : PendingCommit} (hc : s.actionOf n = some c) (idle : (s.slice n).acting = 0)
include hc idle

theorem exec_sliceActionApply : exec (.sliceActionApply n k) s = .next (s.actionApply n k c) := by
  change execSliceActionApply n k s = _
  unfold execSliceActionApply
  rw [hc]
  exact next_when (by rw [idle]; rfl)

end

section
variable {k : Nat} {c : PendingCommit}

/-- An action that no longer fits. -/
theorem State.actionApply_conflict (h : s.actionAllowed n c.action = false) : s.actionApply n k c = s.actionConflict n c :=
  if_pos (by rw [h]; rfl)

theorem State.actionApply_create (ha : c.action = 1) (h : (s.slice n).st = .absent) (free : s.keySlotFree k = true) :
    s.actionApply n k c = s.sliceMake n k := by
  have allowed : s.actionAllowed n 1 = true := by simp only [State.actionAllowed, h]
  simp only [State.actionApply, allowed, ha, free]
  rfl

theorem State.actionApply_bind (ha : c.action = 2) (h : (s.slice n).st = .created)
    (binds : ((((s.forceFields (0x3000 + n) (c.fields.filter (fieldKept (0x3000 + n)))).bindRules n) ++
      ((s.forceFields (0x3000 + n) (c.fields.filter (fieldKept (0x3000 + n)))).queueRules n true)).all (fun x => x.1)) = true) :
    s.actionApply n k c = s.sliceJoin n := by
  have allowed : s.actionAllowed n 2 = true := by simp only [State.actionAllowed, h]
  simp only [State.actionApply, allowed, ha, binds]
  rfl

theorem State.actionApply_reset (ha : c.action = 4) (h : (s.slice n).st = .bound) : s.actionApply n k c = s.sliceLeave n 4 c := by
  have allowed : s.actionAllowed n 4 = true := by simp only [State.actionAllowed, h]
  simp only [State.actionApply, allowed, ha]
  rfl

theorem State.actionApply_destroy (ha : c.action = 5) (h : (s.slice n).st = .created) (bare : s.sliceHasNs n = false) :
    s.actionApply n k c = s.setSlice n { s.slice n with st := .destroying, acting := 5 } := by
  have allowed : s.actionAllowed n 5 = true := by
    simp only [State.actionAllowed, h, bare]
    rfl
  simp only [State.actionApply, allowed, ha, h]
  rfl

end

/-- A bind sets up admin queue 0; the page and the LTR messages leave it. -/
theorem State.sliceJoin_live (s : State) (n : Nat) : (s.sliceJoin n).adminLive n := by
  unfold State.sliceJoin State.adminLive
  rw [(State.ltrAll_chg _).sq_eq rfl, (State.ltrAll_chg _).cq_eq rfl]
  exact State.setupAdmin_live ..

/-- A Bound slice that leaves by a reset is shut, and the action is in progress on it. -/
theorem State.sliceLeave_shut (a : Nat) (c : PendingCommit) (h : (s.slice n).st = .bound) :
    ((s.sliceLeave n a c).slice n).shut ∧ ((s.sliceLeave n a c).slice n).acting = a := by
  unfold State.sliceLeave
  dsimp only
  rw [State.setSlice_slice]
  exact ⟨s.sliceReset_shut n _ h, rfl⟩

/-- A commit list in which one commit has lost its action. -/
theorem commit_unset {l : List (Nat × PendingCommit)} {i : Nat} {c d : PendingCommit} (hd : d.action = 0) {x : Nat × PendingCommit}
    (h : x ∈ l.map (fun x => if x.1 = i ∧ x.2.seq = c.seq then (i, d) else x)) (hi : x.1 = i) (hs : x.2.seq = c.seq) : x.2.action = 0 := by
  obtain ⟨y, -, rfl⟩ := List.mem_map.mp h
  by_cases e : y.1 = i ∧ y.2.seq = c.seq
  · rw [if_pos e]
    exact hd
  · rw [if_neg e] at hi hs
    exact absurd ⟨hi, hs⟩ e

/-- A conflict takes the commit's action away and completes no more than one tag. -/
theorem State.actionConflict_frame (s : State) (n : Nat) (c : PendingCommit) : (s.actionConflict n c).slices = s.slices ∧
    ∀ x ∈ (s.actionConflict n c).dict.commits, x.1 = 0x3000 + n → x.2.seq = c.seq → x.2.action = 0 := by
  unfold State.actionConflict
  dsimp only
  split
  · refine ⟨(State.commitTag_chg ..).slices rfl, ?_⟩
    rw [(State.commitTag_chg ..).dict rfl]
    exact fun x hx => commit_unset rfl hx
  · exact ⟨rfl, fun x hx => commit_unset rfl hx⟩

/-! ### The ends of a reset and of a destroy (R137, R154, R172) -/

/-- A reset that ends, with the queues of a slice that is no longer Bound dropped. -/
def State.resetLeft (s : State) (n : Nat) : State :=
  let s1 := s.setSlice n (s.slice n).afterReset
  if decide ((s1.slice n).st = .bound) then s1 else s1.dropSliceQueues n

section
variable (h : (s.slice n).st = .resetting) (free : (s.slice n).genHeld = false)
include h free

theorem exec_resetSequenceEnd : exec (.resetSequenceEnd n) s =
    .next (let s2 := s.resetLeft n
           let s3 := if (s.slice n).acting = 4 ∨ (s.slice n).acting = 3 then s2.actionEnd n else s2
           (if decide (((s.setSlice n (s.slice n).afterReset).slice n).st = .bound) && (s.slice n).acting == 4 then s3.setupAdmin n else s3).ltrAll) :=
  next_when (by rw [h, free]; rfl)

/-- The end of a reset without a slice command. -/
theorem exec_resetSequenceEnd_bare (ha : (s.slice n).acting = 0) : exec (.resetSequenceEnd n) s = .next (s.resetLeft n).ltrAll := by
  rw [exec_resetSequenceEnd h free, ha]
  simp

/-- The end of the reset of an unbind. -/
theorem exec_resetSequenceEnd_unbind (ha : (s.slice n).acting = 3) :
    exec (.resetSequenceEnd n) s = .next ((s.resetLeft n).actionEnd n).ltrAll := by
  rw [exec_resetSequenceEnd h free, ha]
  simp

end

theorem State.resetLeft_slice (s : State) (n : Nat) : (s.resetLeft n).slice n = (s.slice n).afterReset := by
  unfold State.resetLeft
  dsimp only
  split
  · exact State.setSlice_slice ..
  · rw [State.dropSliceQueues_slice, State.setSlice_slice]

theorem Slice.afterReset_counts (x : Slice) : x.afterReset.resets = satAdd 32 x.resets 1 ∧ x.afterReset.resetTags = [] := by
  unfold Slice.afterReset
  dsimp only
  split
  · exact ⟨rfl, rfl⟩
  · split <;> exact ⟨rfl, rfl⟩

theorem Slice.afterReset_st (x : Slice) :
    x.afterReset.st = if x.destroyPending then .destroying else if x.unbindPending then .created else .bound := by
  unfold Slice.afterReset
  dsimp only
  split
  · rfl
  · split <;> rfl

/-- An unbind leaves a Created slice whose fence is closed and that has no page queues. -/
theorem State.resetLeft_unbound (hu : (s.slice n).unbindPending = true) (hd : (s.slice n).destroyPending = false) :
    ((s.resetLeft n).slice n).st = .created ∧ ((s.resetLeft n).slice n).fenceOpen = false ∧ (s.resetLeft n).sq (.page n 0) = {} := by
  have st : (s.slice n).afterReset.st = .created := by rw [Slice.afterReset_st, hd, hu]; rfl
  have fence : (s.slice n).afterReset.fenceOpen = false := by simp [Slice.afterReset, hd, hu]
  refine ⟨by rw [State.resetLeft_slice, st], by rw [State.resetLeft_slice, fence], ?_⟩
  unfold State.resetLeft
  dsimp only
  rw [if_neg (by rw [State.setSlice_slice, st]; decide)]
  exact State.dropSliceQueues_sq _ n 0 (by decide)

/-- A slice that is destroyed: its record is at its defaults, and of the slice only its generation is left. -/
def State.destroyed (s : State) (n : Nat) : State :=
  ((((s.actionEnd n).recordClear (0x3000 + n)).setSlice n { gen := (s.slice n).gen }).setCtrl n {}).setCredit n 0

theorem exec_sliceDestroyComplete (h : (s.slice n).st = .destroying) (bare : s.tagsOfSlice n = []) :
    exec (.sliceDestroyComplete n) s = .next (s.destroyed n) :=
  next_when (by rw [h, bare]; rfl)

theorem State.destroyed_slice (s : State) (n : Nat) : (s.destroyed n).slice n = { gen := (s.slice n).gen } :=
  State.setSlice_slice ..

theorem State.destroyed_ctrl (s : State) (n : Nat) : (s.destroyed n).ctrl n = {} := by
  unfold State.destroyed
  rw [(State.setCredit_chg ..).ctrl_eq rfl, State.setCtrl_ctrl]

/-- A record at its defaults has no stored field and none in force. -/
theorem State.recordClear_gone (s : State) (i : Nat) : (∀ x ∈ (s.recordClear i).dict.stored, x.1 / 256 ≠ i) ∧
    ∀ x ∈ (s.recordClear i).dict.inForce, x.1 / 256 ≠ i :=
  ⟨fun _ hx => bne_iff_ne.mp (List.mem_filter.mp hx).2, fun _ hx => bne_iff_ne.mp (List.mem_filter.mp hx).2⟩

/-! ### The words of the dirty-page log (R156) -/

section
variable {w : Nat} {d : DirtyWord}

/-- A gathered word that waits is posted. -/
theorem State.dirtyPost_eq (h : s.dirtyWord n w false = some d) : s.dirtyPost n w =
    { s with dirty := s.dirty.map (fun (e : DirtyWord) => if e.slice = n ∧ e.word = w then { e with posting := true } else e) }.emit
      (.dirtyPost (s.slPort n) (s.dlogBase n + 64 + 8 * w) d.bits) := by
  have found : s.dirty.find? (fun d => d.slice == n && d.word == w && !d.posting) = some d := by
    simpa only [State.dirtyWord, beq_false] using h
  unfold State.dirtyPost
  rw [found]

theorem exec_dirtyLogPostTimer (h : s.dirtyWord n w false = some d) (due : s.elapsed d.since (100 * usec) = true) :
    exec (.dirtyLogPostTimer n w) s = .next (s.dirtyPost n w) := by
  change execDirtyLogPostTimer n w s = _
  unfold execDirtyLogPostTimer
  rw [h]
  exact next_when due

/-- A state without the words of the log whose post has ended. -/
def State.dirtyPosted (s : State) (n w : Nat) : State :=
  { s with dirty := s.dirty.filter (fun d => !(d.slice == n && d.word == w && d.posting)) }

theorem exec_dirtyLogPostDone (h : s.dirtyWord n w true = some d) : exec (.dirtyLogPostDone n w) s = .next (s.dirtyPosted n w) :=
  next_when (by rw [h]; rfl)

theorem mem_dirty_marked {l : List DirtyWord} {e : DirtyWord}
    (h : e ∈ l.map (fun (e : DirtyWord) => if e.slice = n ∧ e.word = w then { e with posting := true } else e)) (hn : e.slice = n) (hw : e.word = w) :
    e.posting = true := by
  obtain ⟨y, -, rfl⟩ := List.mem_map.mp h
  by_cases c : y.slice = n ∧ y.word = w
  · rw [if_pos c]
  · rw [if_neg c] at hn hw
    exact absurd ⟨hn, hw⟩ c

theorem State.mem_dirtyPosted {e : DirtyWord} : e ∈ (s.dirtyPosted n w).dirty ↔
    e ∈ s.dirty ∧ ¬ (e.slice = n ∧ e.word = w ∧ e.posting = true) := by
  simp only [State.dirtyPosted, List.mem_filter, Bool.not_eq_true', Bool.and_eq_false_iff, beq_eq_false_iff_ne, not_and_or, or_assoc,
    Bool.not_eq_true, ne_eq]

end

end Sys2Proof.Machine
end

section
namespace Sys2Proof
open Machine

/-- Settles O21. A reset's body keeps the slice's state and takes its next generation (`State.resetBody_life`), and leaves admin queue 0
and the page as a bind does; the other clauses name the state that each event leaves. -/
theorem sliceLife : Obligations.SliceLife := by
  unfold Obligations.SliceLife
  refine ⟨?create, ?bind, ?reset, ?destroy, ?conflict, ?hold, ?resetEnd, ?unbindEnd, ?destroyEnd, ?timer, ?posted⟩
  case create =>
    intro s n k c hc idle ha hst free
    refine ⟨_, (exec_sliceActionApply hc idle).trans (congrArg Host.Outcome.next (State.actionApply_create ha hst free)), ?_⟩
    rw [State.setSlice_slice]
    exact ⟨rfl, rfl, rfl⟩
  case bind =>
    intro s n k c hc idle ha hst binds
    refine ⟨_, _, (exec_sliceActionApply hc idle).trans (congrArg Host.Outcome.next (State.actionApply_bind ha hst binds)), rfl, ?_⟩
    rw [State.setSlice_slice]
    exact ⟨rfl, rfl, s.sliceJoin_live n⟩
  case reset =>
    intro s n k c hc idle ha hst
    obtain ⟨⟨resetting, fence⟩, acting⟩ := State.sliceLeave_shut 4 c hst
    exact ⟨_, (exec_sliceActionApply hc idle).trans (congrArg Host.Outcome.next (State.actionApply_reset ha hst)), resetting, fence, acting⟩
  case destroy =>
    intro s n k c hc idle ha hst bare
    exact ⟨_, (exec_sliceActionApply hc idle).trans (congrArg Host.Outcome.next (State.actionApply_destroy ha hst bare)),
      State.setSlice_slice .., rfl⟩
  case conflict =>
    intro s n k c hc idle h
    exact ⟨_, (exec_sliceActionApply hc idle).trans (congrArg Host.Outcome.next (State.actionApply_conflict h)), s.actionConflict_frame n c⟩
  case hold =>
    intro s n held open_
    obtain ⟨live, drops⟩ := s.resetBody_page n
    obtain ⟨gen, life⟩ := Prod.mk.inj (s.resetBody_life n)
    obtain ⟨free, st⟩ := Prod.mk.inj life
    exact ⟨_, next_when (by rw [held, open_]; rfl), gen, free, st, live.1, drops⟩
  case resetEnd =>
    intro s n hst free ha
    refine ⟨_, exec_resetSequenceEnd_bare hst free ha, ?_⟩
    rw [State.ltrAll_slice, State.resetLeft_slice]
    obtain ⟨resets, tags⟩ := (s.slice n).afterReset_counts
    exact ⟨rfl, resets, tags, Slice.afterReset_st _⟩
  case unbindEnd =>
    intro s n hst free ha hu hd
    exact ⟨_, exec_resetSequenceEnd_unbind hst free ha, State.resetLeft_unbound hu hd⟩
  case destroyEnd =>
    intro s n hst bare
    exact ⟨_, exec_sliceDestroyComplete hst bare, s.destroyed_slice n, s.destroyed_ctrl n, State.recordClear_gone ..⟩
  case timer =>
    intro s n w d h due
    refine ⟨_, exec_dirtyLogPostTimer h due, ?_⟩
    rw [State.dirtyPost_eq h]
    exact ⟨fun e he => mem_dirty_marked he, rfl⟩
  case posted =>
    intro s n w d h
    refine ⟨_, exec_dirtyLogPostDone h, fun e he hn hw => ?_, fun e he other => ?_, rfl⟩
    · exact eq_false_of_ne_true fun hp => (State.mem_dirtyPosted.mp he).2 ⟨hn, hw, hp⟩
    · exact State.mem_dirtyPosted.mpr ⟨he, fun ⟨hn, hw, _⟩ => other.elim (· hn) (· hw)⟩

end Sys2Proof
end

section
/-! SUPPORT. What Woad chooses at a LUN (R177, R390): the earliest deadline, the reads that join a Crisp read, one equation of the choice
for each of its branches, and the LUN that a start leaves. -/

namespace Sys2Proof.Machine

/-! ### The earliest deadline (R177) -/

section
variable {l : List WaitOp} {t : WaitOp → Bool}

theorem earliest_eq_argmin (l : List WaitOp) (t : WaitOp → Bool) : earliest l t = (l.filter t).argmin WaitOp.due := by
  unfold earliest List.argmin
  congr 1
  funext acc x
  cases acc <;> rfl

theorem earliest_eq_none : earliest l t = none ↔ ∀ x ∈ l, t x = false := by
  rw [earliest_eq_argmin, List.argmin_eq_none, List.filter_eq_nil_iff]
  simp only [Bool.not_eq_true]

theorem earliest_least {b : WaitOp} (h : earliest l t = some b) : b ∈ l ∧ t b = true ∧ ∀ x ∈ l, t x = true → b.due ≤ x.due := by
  rw [earliest_eq_argmin] at h
  obtain ⟨mem, sel⟩ := List.mem_filter.mp (List.argmin_mem h)
  exact ⟨mem, sel, fun x hx ht => List.le_of_mem_argmin (List.mem_filter.mpr ⟨hx, ht⟩) h⟩

theorem earliest_found {x : WaitOp} (hx : x ∈ l) (ht : t x = true) :
    ∃ b, earliest l t = some b ∧ b ∈ l ∧ t b = true ∧ b.due ≤ x.due := by
  cases h : earliest l t with
  | none => exact absurd ht (Bool.eq_false_iff.mp (earliest_eq_none.mp h x hx))
  | some b =>
    obtain ⟨mem, sel, least⟩ := earliest_least h
    exact ⟨b, rfl, mem, sel, least x hx ht⟩

end

/-- The first operation of the highest class that has one, over the four classes. -/
def firstOfClasses (l : List WaitOp) : Option WaitOp := (List.range 4).findSome? (fun k => earliest l (fun x => x.op.cls == k))

/-- It stands at or before every operation of the four classes, by class and then by deadline. -/
theorem firstOfClasses_found {l : List WaitOp} {x : WaitOp} (hx : x ∈ l) (hc : x.op.cls < 4) :
    ∃ b, firstOfClasses l = some b ∧ b ∈ l ∧ (b.op.cls < x.op.cls ∨ (b.op.cls = x.op.cls ∧ b.due ≤ x.due)) := by
  obtain ⟨c, own, -⟩ := earliest_found (t := fun y => y.op.cls == x.op.cls) hx (beq_self_eq_true _)
  have some_ : (firstOfClasses l).isSome = true :=
    List.findSome?_isSome_iff.mpr ⟨x.op.cls, List.mem_range.mpr hc, by rw [own]; rfl⟩
  obtain ⟨b, hb⟩ := Option.isSome_iff_exists.mp some_
  obtain ⟨before, k, after, split, found, none_⟩ := List.findSome?_eq_some_iff.mp hb
  obtain ⟨mem, cls, least⟩ := earliest_least found
  have cls : b.op.cls = k := beq_iff_eq.mp cls
  have sorted := List.pairwise_lt_range (n := 4)
  rw [split, List.pairwise_append, List.pairwise_cons] at sorted
  obtain ⟨-, ⟨later, -⟩, -⟩ := sorted
  have place : x.op.cls ∈ before ++ k :: after := split ▸ List.mem_range.mpr hc
  refine ⟨b, hb, mem, ?_⟩
  rw [cls]
  rcases List.mem_append.mp place with h | h
  · exact absurd (none_ _ h) (by rw [own]; exact Option.some_ne_none c)
  · rcases List.mem_cons.mp h with h | h
    · exact .inr ⟨h.symm, least x hx (beq_iff_eq.mpr h)⟩
    · exact .inl (later _ h)

/-! ### The reads that join a Crisp read (R177) -/

/-- The waiting Crisp reads of one page of each other plane. -/
def crispMates (l : List WaitOp) (w : WaitOp) : List WaitOp :=
  l.filter (fun x => x.crispRead && x != w && x.op.block == w.op.block && x.op.page == w.op.page && x.op.slc == w.op.slc
    && x.op.plane != w.op.plane)

/-- The first of a list on each plane. -/
def onePerPlane (l : List WaitOp) : List WaitOp :=
  l.foldl (fun acc x => if acc.any (fun y => y.op.plane == x.op.plane) then acc else acc ++ [x]) []

theorem onePerPlane_subset (l : List WaitOp) : onePerPlane l ⊆ l := by
  refine List.foldlRecOn (motive := fun acc => acc ⊆ l) l _ (List.nil_subset l) fun acc sub x hx => ?_
  split
  · exact sub
  · exact List.append_subset.mpr ⟨sub, List.cons_subset.mpr ⟨hx, List.nil_subset l⟩⟩

theorem mem_onePerPlane_crispMates {l : List WaitOp} {w y : WaitOp} (h : y ∈ onePerPlane (crispMates l w)) :
    y ∈ l ∧ y.crispRead = true ∧ y.op.block = w.op.block ∧ y.op.page = w.op.page ∧ y.op.plane ≠ w.op.plane := by
  obtain ⟨mem, joins⟩ := List.mem_filter.mp (onePerPlane_subset _ h)
  simp only [Bool.and_eq_true, beq_iff_eq, bne_iff_ne] at joins
  obtain ⟨⟨⟨⟨⟨crisp, -⟩, block⟩, page⟩, -⟩, plane⟩ := joins
  exact ⟨mem, crisp, block, page, plane⟩

/-! ### The branches of the choice (R177) -/

variable {s w : State} {ch pos : Nat} {r : RunOp} {x y : WaitOp}

/-- A LUN at which Woad chooses: nothing runs, pauses or fails there, and its channel serves. -/
structure State.lunOpen (w : State) (ch pos : Nat) : Prop where
  idle : (w.lun ch pos).running = none
  unpaused : (w.lun ch pos).pausedUntil = none
  works : (w.lun ch pos).failed = false
  quiet : (w.lun ch pos).resetPending = false
  runs : (w.chan ch).st = .running
  trained : (w.chan ch).retraining = false

/-- The operations that wait at a LUN and that the power state lets start (R390). -/
def State.startable (w : State) (ch pos : Nat) : List WaitOp := (w.lun ch pos).queue.filter (fun x => w.psMay ch pos x.op.kind)

/-- The choice at a LUN of `s`, whose settings are in force in `w`. -/
structure State.chooses (s w : State) (ch pos : Nat) : Prop where
  settings : s.boundary 0x4001 = w
  lun : w.lunOpen ch pos

/-- The overdue read of a class other than Crisp that goes first where Crisp reads have had their run. -/
def State.lateRead (w : State) (ch pos : Nat) : Option WaitOp :=
  earliest (w.startable ch pos) (fun x => x.op.kind == .read && x.op.cls != 0 && decide (x.due < w.aon.now))

/-- The Crisp read of the earliest deadline. -/
def State.firstCrisp (w : State) (ch pos : Nat) : Option WaitOp := earliest (w.startable ch pos) WaitOp.crispRead

/-- The overdue operation of the earliest deadline. -/
def State.firstOverdue (w : State) (ch pos : Nat) : Option WaitOp :=
  earliest (w.startable ch pos) (fun x => decide (x.due < w.aon.now))

/-- A channel that serves, as the choice tests it. -/
theorem State.lunOpen.guard (h : w.lunOpen ch pos) : ((w.lun ch pos).running.isSome || (w.lun ch pos).pausedUntil.isSome ||
    (w.lun ch pos).failed || (w.lun ch pos).resetPending ||
    !(((w.chan ch).st = .running || (w.chan ch).st = .reduced) && !(w.chan ch).retraining)) = false := by
  obtain ⟨idle, unpaused, works, quiet, runs, trained⟩ := h
  simp [idle, unpaused, works, quiet, runs, trained]

/-- A suspended operation resumes at its limit, after a window of reads, or where no Crisp read waits. -/
def State.resumeDue (w : State) (ch pos : Nat) (r : RunOp) : Bool :=
  (w.lun ch pos).limitHit || w.elapsed r.suspendedAt (qUsec (w.pf 0x11) * 9 / 10) ||
    decide (w.cfg 0x4001 3 ≤ (w.lun ch pos).windowReads) || (w.firstCrisp ch pos).isNone

theorem State.resumeDue_iff : w.resumeDue ch pos r = true ↔ (w.lun ch pos).limitHit = true ∨
    w.elapsed r.suspendedAt (qUsec (w.pf 0x11) * 9 / 10) = true ∨ w.cfg 0x4001 3 ≤ (w.lun ch pos).windowReads ∨
      ∀ x ∈ w.startable ch pos, x.crispRead = false := by
  unfold State.resumeDue State.firstCrisp
  rw [← earliest_eq_none]
  simp only [Bool.or_eq_true, decide_eq_true_eq, Option.isNone_iff_eq_none, or_assoc]

theorem State.woad_resume (h : s.chooses w ch pos) (hs : (w.lun ch pos).suspended = some r) (due : w.resumeDue ch pos r = true) :
    ∃ forced, s.woad ch pos = w.dieResume ch pos r forced := by
  obtain ⟨rfl, lun⟩ := h
  unfold State.resumeDue State.firstCrisp State.startable at due
  unfold State.woad
  simp only [lun.guard, hs, due]
  exact ⟨_, rfl⟩

/-- An overdue read of another class goes before the Crisp reads. -/
def State.lateTurn (w : State) (ch pos : Nat) : Bool :=
  (w.lateRead ch pos).isSome && decide (w.cfg 0x4001 3 ≤ (w.lun ch pos).crispSince)

theorem State.lateRead_found (hx : x ∈ w.startable ch pos) (hk : x.op.kind = .read) (hc : x.op.cls ≠ 0) (late : x.due < w.aon.now) :
    ∃ y, w.lateRead ch pos = some y ∧ y ∈ w.startable ch pos ∧ y.op.kind = .read ∧ y.op.cls ≠ 0 ∧ y.due ≤ x.due := by
  obtain ⟨y, found, mem, sel, due⟩ := earliest_found
    (t := fun x => x.op.kind == .read && x.op.cls != 0 && decide (x.due < w.aon.now)) hx (by simp [hk, hc, late])
  simp only [Bool.and_eq_true, beq_iff_eq, bne_iff_ne] at sel
  obtain ⟨⟨read, cls⟩, -⟩ := sel
  exact ⟨y, found, mem, read, cls, due⟩

theorem State.lateTurn_of_none_late (h : ∀ y ∈ w.startable ch pos, y.op.kind = .read → y.op.cls ≠ 0 → w.aon.now ≤ y.due) :
    w.lateTurn ch pos = false := by
  have none_ : w.lateRead ch pos = none := earliest_eq_none.mpr fun y hy => by
    simpa only [Bool.and_eq_false_imp, Bool.and_eq_true, beq_iff_eq, bne_iff_ne, decide_eq_false_iff_not, not_lt, and_imp] using h y hy
  unfold State.lateTurn
  rw [none_]
  rfl

theorem State.lateTurn_of_run_short (h : (w.lun ch pos).crispSince < w.cfg 0x4001 3) : w.lateTurn ch pos = false := by
  unfold State.lateTurn
  rw [decide_eq_false (Nat.not_le.mpr h), Bool.and_false]

section
variable (h : s.chooses w ch pos) (hs : (w.lun ch pos).suspended = none)
include h hs

theorem State.woad_late (hl : w.lateRead ch pos = some y) (run : w.cfg 0x4001 3 ≤ (w.lun ch pos).crispSince) : s.woad ch pos =
    (w.dieOverdue ch pos y).setLun ch pos { (w.dieOverdue ch pos y).lun ch pos with crispSince := 0 } := by
  obtain ⟨rfl, lun⟩ := h
  simp only [State.lateRead, State.startable] at hl
  simp only [State.woad, lun.guard, hs, hl, run]
  rfl

theorem State.woad_crisp (hl : w.lateTurn ch pos = false) (hc : w.firstCrisp ch pos = some y) :
    s.woad ch pos = w.dieIssue ch pos y (onePerPlane (crispMates (w.startable ch pos) y)) := by
  obtain ⟨rfl, lun⟩ := h
  simp only [State.lateTurn, State.lateRead, State.firstCrisp, State.startable] at hl hc
  simp only [State.woad, lun.guard, hs, hl, hc]
  rfl

/-- Without a Crisp read the choice is between an overdue operation and the classes. -/
theorem State.woad_other (hl : w.lateTurn ch pos = false) (hc : w.firstCrisp ch pos = none) :
    s.woad ch pos = (w.firstOverdue ch pos).elim
      ((firstOfClasses (w.startable ch pos)).elim w (w.dieIssue ch pos · [])) (w.dieOverdue ch pos) := by
  obtain ⟨rfl, lun⟩ := h
  simp only [State.lateTurn, State.lateRead, State.firstCrisp, State.startable] at hl hc
  simp only [State.woad, lun.guard, hs, hl, hc, State.firstOverdue, State.startable, firstOfClasses]
  generalize earliest _ _ = o, List.findSome? _ _ = f
  cases o <;> cases f <;> rfl

end

/-! ### The LUN after a start -/

/-- A start puts its operation, with those that join it, in progress and takes them off the queue. -/
theorem State.dieIssue_lun (s : State) (ch pos : Nat) (y : WaitOp) (joined : List WaitOp) :
    ((s.dieIssue ch pos y joined).lun ch pos).running = some ⟨y, s.aon.now, s.aon.now, 0, 0, 0, joined⟩ ∧
    ((s.dieIssue ch pos y joined).lun ch pos).queue = (s.lun ch pos).queue.filter (fun x => !(y :: joined).contains x) := by
  have reads (u : State) : (u.forEach (y :: joined) (fun g t => t.readIssued g)).lun ch pos = u.lun ch pos :=
    State.forEach_keeps (π := fun t => t.lun ch pos) (fun g t => (t.readIssued_chg g).lun_eq rfl ch pos) u _
  have bus (u : State) (k : BusXfer) : (if y.op.kind = .program then u.busAsk ch k else u).lun ch pos = u.lun ch pos :=
    (Chg.ite (u.busAsk_chg ch k) (Chg.refl _ u)).lun_eq rfl ch pos
  unfold State.dieIssue
  dsimp only
  rw [bus, (State.emit_chg ..).lun_eq rfl, reads, State.setLun_lun]
  exact ⟨rfl, rfl⟩

/-- An overdue operation starts alone. -/
theorem State.dieOverdue_running (s : State) (ch pos : Nat) (y : WaitOp) :
    ((s.dieOverdue ch pos y).lun ch pos).running = some ⟨y, s.aon.now, s.aon.now, 0, 0, 0, []⟩ := (s.dieIssue_lun ch pos y []).1

theorem State.dieOverdue_counted (s : State) (ch pos : Nat) (y : WaitOp) :
    (s.dieOverdue ch pos y).sched.overdueIssues = satAdd 64 s.sched.overdueIssues 1 := by
  show satAdd 64 (s.dieIssue ch pos y []).sched.overdueIssues 1 = _
  rw [State.dieIssue_sched]

end Sys2Proof.Machine
end

section
/-! The statement about what Woad starts at a LUN. -/

namespace Sys2Proof

open Machine

/-- Settles O36. Each clause is one branch of the choice; what it starts is the earliest of the operations that its test selects. -/
theorem woadChooses : Obligations.WoadChooses := by
  unfold Obligations.WoadChooses
  rintro s w ch pos _ q settings rfl startable idle unpaused works quiet runs trained
  have at_ : s.chooses w ch pos := ⟨settings.symm, ⟨idle, unpaused, works, quiet, runs, trained⟩⟩
  obtain rfl : q = w.startable ch pos := startable
  refine ⟨?resume, ?late, ?crisp, ?other, ?nothing⟩
  case resume =>
    intro r hs due
    obtain ⟨forced, e⟩ := State.woad_resume at_ hs (State.resumeDue_iff.mpr due)
    rw [e, State.dieResume_lun]
    exact ⟨rfl, rfl, rfl⟩
  case late =>
    intro x hx hs run hk hcls late
    obtain ⟨y, found, mem, read, cls, due⟩ := State.lateRead_found hx hk hcls late
    rw [State.woad_late at_ hs found run, State.setLun_lun]
    exact ⟨_, w.dieOverdue_running ch pos y, mem, read, cls, due, rfl, w.dieOverdue_counted ch pos y⟩
  case crisp =>
    intro x hx hs hcrisp calm
    obtain ⟨y, found, mem, crisp, due⟩ := earliest_found hx hcrisp
    obtain ⟨running, queue⟩ := w.dieIssue_lun ch pos y (onePerPlane (crispMates (w.startable ch pos) y))
    rw [State.woad_crisp at_ hs (State.lateTurn_of_none_late calm) found]
    refine ⟨_, running, mem, crisp, due, fun z hz => mem_onePerPlane_crispMates hz, ?_⟩
    rw [queue]
    simp
  case other =>
    intro x hx hs short plain
    have none_ : w.firstCrisp ch pos = none := earliest_eq_none.mpr fun y hy => (plain y hy).1
    rw [State.woad_other at_ hs (State.lateTurn_of_run_short short) none_]
    cases ho : w.firstOverdue ch pos with
    | some y =>
      obtain ⟨mem, late, least⟩ := earliest_least ho
      refine ⟨_, w.dieOverdue_running ch pos y, mem, rfl, fun hx' => least x hx (decide_eq_true hx'), fun calm => ?_⟩
      exact absurd (of_decide_eq_true late) (Nat.not_lt.mpr (calm y mem))
    | none =>
      obtain ⟨y, first, mem, before⟩ := firstOfClasses_found hx (plain x hx).2
      rw [first]
      refine ⟨_, (w.dieIssue_lun ch pos y []).1, mem, rfl, fun late => ?_, fun _ => before⟩
      exact absurd late (of_decide_eq_false (earliest_eq_none.mp ho x hx))
  case nothing =>
    intro empty hs
    rw [State.woad_other at_ hs]
    · simp only [State.firstOverdue, empty]
      rfl
    · exact State.lateTurn_of_none_late (by simp [empty])
    · exact earliest_eq_none.mpr (by simp [empty])

end Sys2Proof
end

section
/-! SUPPORT. The budgets of the two ports (R165): what dividing one port's budget leaves of the other's. -/

namespace Sys2Proof.Machine

variable {s t : State} {p q : Nat}

/-- A budget depends on the number of ports, the settings and the power state alone. -/
theorem State.portBudget_congr (aon : t.aon = s.aon) (mode : t.mode = s.mode) (dict : t.dict = s.dict) : t.portBudget = s.portBudget := by
  unfold State.portBudget State.dual
  rw [aon, mode, State.cfg_congr dict, State.cfg_congr dict]

theorem State.portBudget_full (h : s.mode.psInForce = 0) :
    s.portBudget = 256 * (if s.dual then s.cfg 0x4000 3 else s.cfg 0x4000 2) := by
  simp only [State.portBudget, h]

theorem State.portEpoch_portBudget (s : State) (p : Nat) : (s.portEpoch p).portBudget = s.portBudget :=
  State.portBudget_congr ((s.portEpoch_chg p).aon rfl) ((s.portEpoch_chg p).mode rfl) ((s.portEpoch_chg p).dict rfl)

theorem State.portEpoch_port (s : State) (p q : Nat) : (s.portEpoch p).port q = s.port q := by
  unfold State.port
  rw [(s.portEpoch_chg p).ports rfl]

theorem State.setPortPool_portPool_ne (s : State) (x : PortPool) (h : ¬(p = 0 ↔ q = 0)) :
    (s.setPortPool p x).portPool q = s.portPool q := by
  unfold State.setPortPool State.portPool
  by_cases hp : p = 0
  · have hq : q ≠ 0 := by simpa [hp] using h
    rw [if_pos hp, if_neg hq, if_neg hq]
  · have hq : q = 0 := by simpa [hp] using h
    rw [if_neg hp, if_pos hq, if_pos hq]

theorem State.grantClass_portPool (s : State) (l : List Nat) (pool q : Nat) : (s.grantClass l pool).1.portPool q = s.portPool q :=
  State.grantClass_keeps (π := fun t => t.portPool q) (fun _ _ _ _ _ => rfl) s pool

/-- Grants of credit fill no pool. -/
theorem State.portGranted_portPool (s : State) (p q : Nat) : (s.portGranted p).portPool q = s.portPool q := by
  unfold State.portGranted
  dsimp only
  rw [State.forEach_keeps (π := fun t => t.portPool q) (f := fun n t => t.setCredit n (min (t.credit n) 0)) (fun _ _ => rfl),
    State.grantClass_portPool, State.grantClass_portPool, State.grantClass_portPool]

theorem State.portEpoch_portPool_ne (s : State) (h : ¬(p = 0 ↔ q = 0)) : (s.portEpoch p).portPool q = s.portPool q := by
  cases up : (s.port p).linkUp with
  | false => rw [State.portEpoch_down up, State.setPortPool_portPool_ne _ _ h]
  | true =>
    obtain ⟨spill, e⟩ := State.portEpoch_up up
    rw [e, State.setPortPool_portPool_ne _ _ h, State.portGranted_portPool]

/-- The pools of a port whose link is down, after its own division: its link and its budget are as before. -/
theorem State.portEpoch_down_upkeep (h : ((s.portEpoch p).port p).linkUp = false) :
    (s.portEpoch p).portPool p = { upkeep := (s.portEpoch p).portBudget } := by
  rw [State.portEpoch_port] at h
  rw [(State.portEpoch_pool_down h).1, State.portEpoch_portBudget]

/-- The other port's division keeps what a port whose link is down has. -/
theorem State.portEpoch_keeps_upkeep (h : ¬(p = 0 ↔ q = 0))
    (own : (s.port q).linkUp = false → s.portPool q = { upkeep := s.portBudget })
    (down : ((s.portEpoch p).port q).linkUp = false) : (s.portEpoch p).portPool q = { upkeep := (s.portEpoch p).portBudget } := by
  rw [State.portEpoch_port] at down
  rw [State.portEpoch_portPool_ne s h, State.portEpoch_portBudget, own down]

end Sys2Proof.Machine
end

section
/-! The statement about the budget of a port. -/

namespace Sys2Proof

open Machine

/-- Settles O57. The state that EPOCH_START leaves is `State.epochDone`, whose last operations divide the ports' budgets. -/
theorem portBudgets : Obligations.PortBudgets := by
  unfold Obligations.PortBudgets
  refine ⟨fun s h => State.portBudget_full h, fun s ha => ⟨_, exec_epochStart ha, ?_⟩, fun s p hp => ?_⟩
  · have port0 : (s.epochPort0.port 0).linkUp = false → s.epochPort0.portPool 0 = { upkeep := s.epochPort0.portBudget } :=
      State.portEpoch_down_upkeep
    unfold State.epochDone
    split
    · exact ⟨State.portEpoch_keeps_upkeep (by decide) port0, fun _ => State.portEpoch_down_upkeep⟩
    · next single => exact ⟨port0, fun dual => absurd dual single⟩
  · exact ⟨s.portEpoch_portBudget p, s.portEpoch_portPool_ne (by omega)⟩

end Sys2Proof
end

section
/-! SUPPORT. One zone after each operation of the zone table (R200 to R206): its descriptor, and the record of it in the journal. -/

namespace Sys2Proof.Machine

variable {s : State} {n z : Nat}

/-! ### Charges and records (R203, R204) -/

@[simp] theorem State.setCharge_zone (s : State) (n z c : Nat) : (s.setCharge n z c).zone n z = { s.zone n z with charge := c } := by
  unfold State.setCharge
  dsimp only
  split
  · rw [State.setSb_zone, State.setZone_zone]
  · rw [State.setZone_zone]

/-- The use of a namespace follows a charge; its format stays. -/
theorem State.setCharge_lbaf (s : State) (n z c : Nat) : ((s.setCharge n z c).ns n).lbaf = (s.ns n).lbaf := by
  unfold State.setCharge
  dsimp only
  split
  · rw [State.setSb_ns, State.setZone_ns, State.setNs_ns]
  · rw [State.setZone_ns, State.setNs_ns]

@[simp] theorem State.zoneJournal_zone (s : State) (n z : Nat) :
    (s.zoneJournal n z).zone n z = { s.zone n z with jseq := s.jrn.next } := by
  unfold State.zoneJournal
  rw [(State.journal_chg ..).zone_eq rfl, State.setZone_zone]

@[simp] theorem State.zoneJournal_next (s : State) (n z : Nat) : (s.zoneJournal n z).jrn.next = s.jrn.next + 1 :=
  State.journal_next _ _

@[simp] theorem State.zoneTo_zone (s : State) (n z : Nat) (st : ZoneSt) :
    (s.zoneTo n z st).zone n z = { s.zone n z with st := st, jseq := s.jrn.next } := by
  unfold State.zoneTo
  rw [State.zoneJournal_zone, State.setZone_zone, State.setZone_jrn]

@[simp] theorem State.zoneTo_next (s : State) (n z : Nat) (st : ZoneSt) : (s.zoneTo n z st).jrn.next = s.jrn.next + 1 :=
  State.zoneJournal_next _ _ _

/-! ### The window of a ZRWA (R206) -/

/-- A zone whose write pointer is at least at a block: blocks that it passes and no write reached are voided. -/
def Zone.advance (y : Zone) (w : Nat) : Zone :=
  if w ≤ y.wp then y
  else { y with
    wp := w, adm := max y.adm w, voids := y.voids ++ unwritten y.zrwaWritten y.wp (w - y.wp)
    zrwaWritten := y.zrwaWritten.filter (fun b => decide (w ≤ b)) }

@[simp] theorem State.zrwaAdvance_zone (s : State) (n z w : Nat) : (s.zrwaAdvance n z w).zone n z = (s.zone n z).advance w := by
  unfold State.zrwaAdvance Zone.advance
  dsimp only
  split
  · rfl
  · rw [State.setZone_zone]

/-- An advance moves the pointers and what they passed, and nothing else of the zone that a command can see. -/
theorem Zone.advance_keeps (y : Zone) (w : Nat) : (y.advance w).zrwa = y.zrwa ∧ (y.advance w).inFlight = y.inFlight ∧
    (y.advance w).finishedByController = y.finishedByController := by
  unfold Zone.advance
  split <;> exact ⟨rfl, rfl, rfl⟩

theorem Zone.advance_wp {y : Zone} {w : Nat} (h : y.wp ≤ w) : (y.advance w).wp = w := by
  unfold Zone.advance
  split
  · omega
  · rfl

/-- An advance to a block that a write reaches is no more than the write itself admits. -/
theorem Zone.advance_adm {y : Zone} {w last : Nat} (h : w ≤ last) : max (y.advance w).adm last = max y.adm last := by
  unfold Zone.advance
  split
  · rfl
  · dsimp only
    omega

/-- A zone without its ZRWA, whose blocks are flushed. -/
def Zone.release (y : Zone) : Zone := if y.zrwa then { y.advance y.zrwaEnd with zrwa := false, zrwaWritten := [] } else y

@[simp] theorem State.zrwaRelease_zone (s : State) (n z : Nat) : (s.zrwaRelease n z).zone n z = (s.zone n z).release := by
  unfold State.zrwaRelease Zone.release
  dsimp only
  split
  · rw [State.setZone_zone, State.zrwaAdvance_zone]
  · rfl

theorem Zone.release_keeps (y : Zone) : y.release.zrwa = false ∧ y.release.finishedByController = y.finishedByController := by
  obtain ⟨-, -, finished⟩ := y.advance_keeps y.zrwaEnd
  unfold Zone.release
  split
  · exact ⟨rfl, finished⟩
  · exact ⟨Bool.eq_false_iff.mpr ‹_›, rfl⟩

/-! ### The actions on one zone (R200, R204) -/

/-- A finished zone is Full up to its end, without a ZRWA. -/
theorem State.zoneFinish_zone (s : State) (n z : Nat) : ((s.zoneFinish n z).zone n z).st = .full ∧
    ((s.zoneFinish n z).zone n z).wp = s.zsize n ∧ ((s.zoneFinish n z).zone n z).zrwa = false ∧
    ((s.zoneFinish n z).zone n z).finishedByController = (s.zone n z).finishedByController := by
  obtain ⟨zrwa, finished⟩ := (s.zone n z).release_keeps
  unfold State.zoneFinish State.trimCharge
  simp only [State.zoneTo_zone, State.setCharge_zone, State.setZone_zone, State.zrwaRelease_zone, true_and]
  exact ⟨zrwa, finished⟩

/-- An open zone with nothing written and no ZRWA is Empty again. -/
abbrev Zone.untouched (y : Zone) : Prop := y.adm = 0 ∧ y.wp = 0 ∧ y.zrwa = false

theorem State.zoneClose_empties (h : (s.zone n z).untouched) :
    s.zoneClose n z = ((s.setCharge n z 0).zoneUnpin n z false).zoneTo n z .empty := by
  obtain ⟨adm, wp, zrwa⟩ := h
  exact if_pos ⟨adm, wp, by rw [zrwa]; rfl⟩

theorem State.zoneClose_closes (h : ¬(s.zone n z).untouched) : s.zoneClose n z = s.zoneTo n z .closed :=
  if_neg fun ⟨adm, wp, zrwa⟩ => h ⟨adm, wp, by simpa using zrwa⟩

/-- A close is one record, and leaves the write pointer. -/
theorem State.zoneClose_frame (s : State) (n z : Nat) : ((s.zoneClose n z).zone n z).wp = (s.zone n z).wp ∧
    (s.zoneClose n z).jrn.next = s.jrn.next + 1 := by
  by_cases h : (s.zone n z).untouched
  · rw [State.zoneClose_empties h, State.zoneTo_zone, State.zoneTo_next, (State.zoneUnpin_chg ..).zone_eq rfl,
      (State.zoneUnpin_chg ..).jrn rfl, State.setCharge_zone, (State.setCharge_chg ..).jrn rfl]
    exact ⟨rfl, rfl⟩
  · rw [State.zoneClose_closes h, State.zoneTo_zone, State.zoneTo_next]
    exact ⟨rfl, rfl⟩

theorem State.zoneClose_st (s : State) (n z : Nat) :
    ((s.zoneClose n z).zone n z).st = if (s.zone n z).untouched then .empty else .closed := by
  split
  · rw [State.zoneClose_empties ‹_›, State.zoneTo_zone]
  · rw [State.zoneClose_closes ‹_›, State.zoneTo_zone]

/-- A zone without its data: its charge is 0, its pages and its buffered blocks are gone. -/
def State.zoneWiped (s : State) (n z : Nat) : State := ((s.setCharge n z 0).zoneForget n z).zoneVoid n z |>.zoneUnpin n z true

theorem State.zoneWiped_chg (s : State) (n z : Nat) : Chg 335544320 (s.setCharge n z 0) (s.zoneWiped n z) :=
  Chg.step (State.zoneUnpin_chg ..) (Chg.step (State.zoneVoid_chg ..) ((State.zoneForget_chg ..).mono (by decide)) (by decide)) (by decide)

theorem State.zoneReset_eq (s : State) (n z : Nat) : s.zoneReset n z =
    ((s.zoneWiped n z).setZone n z { epochNo := (s.zone n z).epochNo + 1, extent := (s.zone n z).extent }).zoneJournal n z := rfl

/-- A reset zone is new but for its extent, and its writes of before belong to an older epoch. -/
theorem State.zoneReset_zone (s : State) (n z : Nat) : (s.zoneReset n z).zone n z =
    { epochNo := (s.zone n z).epochNo + 1, extent := (s.zone n z).extent, jseq := s.jrn.next } := by
  rw [State.zoneReset_eq, State.zoneJournal_zone, State.setZone_zone, State.setZone_jrn, (State.zoneWiped_chg ..).jrn rfl,
    (State.setCharge_chg ..).jrn rfl]

theorem State.zoneReset_zsize (s : State) (n z : Nat) : (s.zoneReset n z).zsize n = s.zsize n := by
  unfold State.zsize
  rw [State.zoneReset_eq, (State.zoneJournal_chg ..).ns_eq rfl, State.setZone_ns, (State.zoneWiped_chg ..).ns_eq rfl, State.setCharge_lbaf]

theorem State.zoneOffline_zone (s : State) (n z : Nat) : (s.zoneOffline n z).zone n z =
    { s.zone n z with charge := 0, st := .offline, jseq := s.jrn.next } := by
  unfold State.zoneOffline
  rw [State.zoneTo_zone, (State.zoneVoid_chg ..).zone_eq rfl, (State.zoneVoid_chg ..).jrn rfl, (State.zoneForget_chg ..).zone_eq rfl,
    (State.zoneForget_chg ..).jrn rfl, (State.zoneUnpin_chg ..).zone_eq rfl, (State.zoneUnpin_chg ..).jrn rfl, State.setCharge_zone,
    (State.setCharge_chg ..).jrn rfl]

/-- A zone that a command enters is in the state that the command asks for. -/
theorem State.zoneEnter_st {need : ZoneNeed} {st : ZoneSt} {zrwa : Bool} {t : State} (h : s.zoneEnter n z need st zrwa = some t) :
    (t.zone n z).st = st := by
  unfold State.zoneEnter at h
  obtain ⟨u, -, rfl⟩ := Option.map_eq_some_iff.mp h
  rw [State.zoneTo_zone]

/-! ### The changed-zone event (R204) -/

theorem State.raise_zones (s : State) (c : Nat) (e : AsyncEvent) : (s.raise c e).zones = s.zones := by
  unfold State.raise
  dsimp only
  split
  · exact State.succeed_zones (s.setCtrl c _) _ _ _
  · rfl

/-- The Changed Zone List of a namespace with one more zone. -/
def Ns.zoneListed (y : Ns) (z : Nat) : Ns :=
  { y with changedZones := if y.changedZones.contains z then y.changedZones else y.changedZones ++ [z] }

theorem Ns.mem_zoneListed (y : Ns) (z : Nat) : z ∈ (y.zoneListed z).changedZones := by
  unfold Ns.zoneListed
  dsimp only
  split
  · exact List.contains_iff_mem.mp ‹_›
  · exact List.mem_append_right _ List.mem_cons_self

/-- The controllers that hear of a changed zone leave the lists and the zones alone. -/
theorem State.zoneChanged_frame (s : State) (n z : Nat) : (s.zoneChanged n z).ns n = (s.ns n).zoneListed z ∧
    (s.zoneChanged n z).zones = s.zones := by
  have heard : Chg 318791680 (s.setNs n ((s.ns n).zoneListed z)) (s.zoneChanged n z) :=
    Chg.forEach (fun c t => t.raise_chg c _) (Chg.refl _ _)
  exact ⟨(heard.ns_eq rfl n).trans (s.setNs_ns n _),
    State.forEach_keeps (π := State.zones) (fun c t => t.raise_zones c _) (s.setNs n ((s.ns n).zoneListed z)) _⟩

theorem State.zoneChanged_listed (s : State) (n z : Nat) : z ∈ ((s.zoneChanged n z).ns n).changedZones := by
  rw [(s.zoneChanged_frame n z).1]
  exact Ns.mem_zoneListed _ _

@[simp] theorem State.zoneChanged_zone (s : State) (n z i j : Nat) : (s.zoneChanged n z).zone i j = s.zone i j := by
  unfold State.zone
  rw [(s.zoneChanged_frame n z).2]

/-! ### Statuses (R122, R200) -/

@[simp] theorem State.succeed_zone (s : State) (t a b i j : Nat) : (s.succeed t a b).zone i j = s.zone i j := by
  unfold State.zone
  rw [s.succeed_zones t a b]

/-- A write that settles leaves every zone in its state. -/
theorem State.zoneSettle_st (s : State) (t : Nat) (void : Bool) (i j : Nat) : ((s.zoneSettle t void).zone i j).st = (s.zone i j).st := by
  have settled (y : Zone) (off cnt : Nat) : (y.settle off cnt void).st = y.st := by
    unfold Zone.settle
    dsimp only
    split <;> rfl
  have put (k l : Nat) (y : Zone) (h : y.st = (s.zone k l).st) : ((s.setZone k l y).zone i j).st = (s.zone i j).st := by
    by_cases e : zkey k l = zkey i j
    · have same (u : State) : u.zone i j = u.zone k l := by
        unfold State.zone
        rw [e]
      rw [same, same s, State.setZone_zone, h]
    · exact congrArg Zone.st (Tbl.get_set_ne _ _ _ e)
  unfold State.zoneSettle
  dsimp only
  split
  · split
    · exact put _ _ _ (settled ..)
    · rfl
  · rfl

/-- A status, good or bad, leaves every zone in its state. -/
theorem State.commitTag_zone_st (s : State) (t : Nat) (st : Status) (a b i j : Nat) :
    ((s.commitTag t st a b).zone i j).st = (s.zone i j).st := by
  have undone : ((((s.zoneSettle t true).poolRelease t).dropStaged t).zone i j).st = (s.zone i j).st := by
    rw [(State.dropStaged_chg ..).zone_eq rfl]
    exact s.zoneSettle_st t true i j
  have posts (c : Bool) (x : Tag) :
      (((if c then ((s.zoneSettle t true).poolRelease t).dropStaged t else s).setTag t x).zone i j).st = (s.zone i j).st := by
    cases c with
    | true => exact undone
    | false => rfl
  unfold State.commitTag
  dsimp only
  split
  · exact posts ..
  · exact posts ..
  · exact posts ..
  · rfl

/-- A refusal before its status goes out: its counts. -/
def State.roomCounted (s : State) (t : Nat) (r : Status × Bool) : State :=
  let s1 := s.countExceeded (s.tag t).sqe.nsid r.1
  if r.2 then { s1 with map := { s1.map with pinRefused := satAdd 32 s1.map.pinRefused 1 } } else s1

theorem State.roomCounted_chg (s : State) (t : Nat) (r : Status × Bool) : Chg 109051904 s (s.roomCounted t r) := by
  have counts := (s.countExceeded_chg (s.tag t).sqe.nsid r.1).mono (m := 109051904) (by decide)
  unfold State.roomCounted
  exact Chg.ite (counts.u_map _ rfl) counts

/-- A refused command ends with its status, and its zone stays in its state. -/
theorem State.roomRefuse_posts {t : Nat} (h : (s.tag t).st.uncommitted = true) (r : Status × Bool) :
    Posts (s.roomRefuse t r) t r.1 ∧ ∀ i j, ((s.roomRefuse t r).zone i j).st = (s.zone i j).st := by
  have counts := s.roomCounted_chg t r
  rw [← counts.tag_eq rfl] at h
  refine ⟨(State.commitTag_posts h r.1 0 0).1, fun i j => ?_⟩
  rw [← counts.zone_eq rfl]
  exact State.commitTag_zone_st ..

end Sys2Proof.Machine
end

section
/-! SUPPORT. The zone table's decision on a write or an append (R200 to R202, R206, R213): one equation for each outcome, and the write's
range once it has passed. -/

namespace Sys2Proof.Machine

variable {s w : State} {tag n z off : Nat}

/-! ### Appends and actions that are not supported (R202, R205) -/

theorem exec_zoneAppend (h : s.iot tag 0x7D = true) : exec (.zoneAppend tag) s =
    .next (s.ioRun tag (planOf [.buf, .hostrd, .xform] (s.tag tag).nlb 8 [.mapupd, .cmpl]) true) := next_when h

theorem exec_zoneTableDecision_unsupported (h : s.iot tag 0x79 = true) (hz : zoneActions.contains (Sqe.zsa (s.tag tag).sqe) = false) :
    exec (.zoneTableDecision tag) s = .next (s.commitTag tag ⟨0, 2⟩) := by
  show execZoneTableDecision tag s = _
  unfold execZoneTableDecision
  rw [if_pos h, State.when_true _ (by rw [hz]; rfl)]

/-! ### A write that reaches the zone table -/

section
variable (h : s.iot tag 0x79 = false) (hz : s.zoneWaits tag = true)
include h hz

theorem exec_zoneTableDecision_held (hj : s.jrnHeld = true) : exec (.zoneTableDecision tag) s = .next s.jrnWait := by
  show execZoneTableDecision tag s = _
  unfold execZoneTableDecision
  rw [if_neg (by rw [h]; exact Bool.false_ne_true), State.when_true _ hz, if_pos hj]

theorem exec_zoneTableDecision (hj : s.jrnHeld = false) : exec (.zoneTableDecision tag) s =
    .next ((s.zoneBoundary (s.tag tag).sqe.nsid).zoneWrite tag).commitPump := by
  show execZoneTableDecision tag s = _
  unfold execZoneTableDecision
  rw [if_neg (by rw [h]; exact Bool.false_ne_true), State.when_true _ hz, if_neg (by rw [hj]; exact Bool.false_ne_true)]

end

/-- A write at an offset of a zone. -/
structure State.writesAt (s : State) (tag n z off : Nat) : Prop where
  nsid : (s.tag tag).sqe.nsid = n
  zone : z = (s.tag tag).slba / s.zsize n
  off : off = (s.tag tag).slba % s.zsize n

section
variable (h : s.writesAt tag n z off)
include h

theorem State.zoneWrite_refused {st : Status}
    (hw : s.writeStatus n z off (s.tag tag).nlb ((s.tag tag).sqe.opcode == 0x7D) = some st) : s.zoneWrite tag = s.commitTag tag st := by
  obtain ⟨rfl, rfl, rfl⟩ := h
  unfold State.zoneWrite
  dsimp only
  rw [hw]

variable (hw : s.writeStatus n z off (s.tag tag).nlb ((s.tag tag).sqe.opcode == 0x7D) = none)
include hw

theorem State.zoneWrite_noRoom {r : Status × Bool} (hr : s.roomStatus n z (s.zone n z).st.writeNeed false = some r) :
    s.zoneWrite tag = s.roomRefuse tag r := by
  obtain ⟨rfl, rfl, rfl⟩ := h
  unfold State.zoneWrite
  dsimp only
  rw [hw]
  dsimp only
  rw [hr]

theorem State.zoneWrite_passes (hn : (s.zone n z).st.writeNeed = .nothing) (hr : s.roomStatus n z .nothing false = none) :
    s.zoneWrite tag = s.zonePass tag n z off ((s.tag tag).sqe.opcode == 0x7D) := by
  obtain ⟨rfl, rfl, rfl⟩ := h
  unfold State.zoneWrite
  dsimp only
  rw [hw]
  dsimp only
  rw [hn, hr]
  exact if_pos rfl

end

/-! ### The range of a write that passes (R201, R202, R206) -/

/-- Where a write of a zone begins: an append at the admission pointer. -/
def Zone.begins (y : Zone) (off : Nat) (append : Bool) : Nat := if append then y.adm else off

/-- The implicit flush of a ZRWA before a write up to a block. -/
def Zone.flushedFor (y : Zone) (last : Nat) : Zone :=
  if y.zrwa ∧ y.wp + 256 < last then y.advance (y.wp + roundUp4 (last - 256 - y.wp)) else y

/-- A zone that has admitted a write. -/
def Zone.withWrite (y : Zone) (off cnt : Nat) : Zone :=
  { y.flushedFor (off + cnt) with adm := max (y.flushedFor (off + cnt)).adm (off + cnt)
                                  inFlight := (y.flushedFor (off + cnt)).inFlight ++ [(off, cnt)] }

/-- The implicit flush stays behind the write's last block, so the admission pointer follows the write alone. -/
theorem Zone.withWrite_range (y : Zone) (off cnt : Nat) : (y.withWrite off cnt).adm = max y.adm (off + cnt) ∧
    (y.withWrite off cnt).inFlight = y.inFlight ++ [(off, cnt)] := by
  unfold Zone.withWrite Zone.flushedFor
  split
  · next flush =>
    obtain ⟨-, inFlight, -⟩ := y.advance_keeps (y.wp + roundUp4 (off + cnt - 256 - y.wp))
    have behind : y.wp + roundUp4 (off + cnt - 256 - y.wp) ≤ off + cnt := by
      obtain ⟨-, beyond⟩ := flush
      unfold roundUp4
      omega
    exact ⟨Zone.advance_adm behind, by rw [inFlight]⟩
  · exact ⟨rfl, rfl⟩

/-- A write that has passed the zone table, before its map pages are resolved. -/
def State.zoneAdmitted (s : State) (t n z off : Nat) (append : Bool) : State :=
  let x := s.tag t
  let first := (s.zone n z).begins off append
  let last := first + x.nlb
  let y := s.zone n z
  let s1 := if y.zrwa ∧ y.wp + 256 < last then s.zrwaAdvance n z (y.wp + roundUp4 (last - 256 - y.wp)) else s
  (s1.setZone n z { s1.zone n z with adm := max (s1.zone n z).adm last, inFlight := (s1.zone n z).inFlight ++ [(first, x.nlb)] }).setTag t
    { x with slba := z * s.zsize n + first, passedZone := true, zoneEpoch := (s1.zone n z).epochNo }

theorem State.zonePass_eq (s : State) (t n z off : Nat) (append : Bool) :
    s.zonePass t n z off append = (s.zoneAdmitted t n z off append).mapResolve t := rfl

theorem State.zoneAdmitted_zone (s : State) (t n z off : Nat) (append : Bool) :
    (s.zoneAdmitted t n z off append).zone n z = (s.zone n z).withWrite ((s.zone n z).begins off append) (s.tag t).nlb := by
  have flushed (c : Prop) [Decidable c] (k : Nat) :
      (if c then s.zrwaAdvance n z k else s).zone n z = if c then (s.zone n z).advance k else s.zone n z := by
    split
    · exact s.zrwaAdvance_zone n z k
    · rfl
  unfold State.zoneAdmitted
  dsimp only
  rw [State.setTag_zone, State.setZone_zone, flushed]
  rfl

theorem State.zoneAdmitted_tag (s : State) (t n z off : Nat) (append : Bool) :
    ((s.zoneAdmitted t n z off append).tag t).passedZone = true ∧
      ((s.zoneAdmitted t n z off append).tag t).slba = z * s.zsize n + (s.zone n z).begins off append := by
  unfold State.zoneAdmitted
  dsimp only
  rw [State.setTag_tag]
  exact ⟨rfl, rfl⟩

end Sys2Proof.Machine
end

section
/-! SUPPORT. Zone Management Send (R204 to R206): the namespace, the zone and the journal that it meets, and its end. -/

namespace Sys2Proof.Machine

variable {s w v : State} {tag n z : Nat}

/-! ### The checks before an action -/

/-- A Zone Management Send that names a zone, and the state on which its action is decided. -/
structure State.sends (s w : State) (tag n : Nat) : Prop where
  nsid : n = (s.tag tag).sqe.nsid
  at_ : w = s.zoneBoundary n
  build : (w.tag tag).st = .build
  single : Sqe.selectAll (s.tag tag).sqe = false

section
variable {act : State → Nat → ZoneDo} (h : s.sends w tag n)
include h

theorem State.zms_held (hj : w.jrnHeld = true) : s.zms tag act = w.jrnWait := by
  obtain ⟨rfl, rfl, -, -⟩ := h
  exact if_pos hj

theorem State.zms_beyond (hj : w.jrnHeld = false) (hn : (w.ns n).nsze ≤ (s.tag tag).sqe.slba) :
    s.zms tag act = w.commitTag tag ⟨0, 0x80⟩ := by
  obtain ⟨rfl, rfl, -, single⟩ := h
  exact (if_neg (Bool.eq_false_iff.mp hj)).trans ((if_neg (Bool.eq_false_iff.mp single)).trans (if_pos hn))

theorem State.zms_misaligned (hj : w.jrnHeld = false) (hn : (s.tag tag).sqe.slba < (w.ns n).nsze)
    (hm : (s.tag tag).sqe.slba % w.zsize n ≠ 0) : s.zms tag act = w.commitTag tag ⟨0, 2⟩ := by
  obtain ⟨rfl, rfl, -, single⟩ := h
  exact (if_neg (Bool.eq_false_iff.mp hj)).trans ((if_neg (Bool.eq_false_iff.mp single)).trans
    ((if_neg (Nat.not_le.mpr hn)).trans (if_pos hm)))

end

/-- A Zone Management Send that reaches its zone: the journal is open and the zone's first block is named. -/
structure State.sendsTo (s w : State) (tag n z : Nat) : Prop extends s.sends w tag n where
  open_ : w.jrnHeld = false
  inside : (s.tag tag).sqe.slba < (w.ns n).nsze
  aligned : (s.tag tag).sqe.slba % w.zsize n = 0
  zone : z = (s.tag tag).sqe.slba / w.zsize n
  same : (w.tag tag).sqe = (s.tag tag).sqe

/-- What the decision on a zone makes of the command. -/
def State.zoneDone (s : State) (t : Nat) : ZoneDo → State
  | .same => s.zmsEnd t
  | .refuse st pin => s.roomRefuse t (st, pin)
  | .change s1 => (s1.zmsEnd t).commitPump
  | .wait => s

theorem State.zms_zone (h : s.sendsTo w tag n z) (act : State → Nat → ZoneDo) : s.zms tag act = w.zoneDone tag (act w z) := by
  obtain ⟨⟨rfl, rfl, -, single⟩, open_, inside, aligned, rfl, -⟩ := h
  refine (if_neg (Bool.eq_false_iff.mp open_)).trans ((if_neg (Bool.eq_false_iff.mp single)).trans
    ((if_neg (Nat.not_le.mpr inside)).trans ((if_neg (not_not.mpr aligned)).trans ?_)))
  generalize s.zoneBoundary (s.tag tag).sqe.nsid = w
  cases act w ((s.tag tag).sqe.slba / w.zsize (s.tag tag).sqe.nsid) <;> rfl

/-! ### The actions -/

theorem exec_zoneClose (h : s.zmsAt tag 1 = true) : exec (.zoneClose tag) s =
    .next (s.zms tag (fun s z => s.doClose (s.tag tag).sqe.nsid z)) := next_when h

theorem exec_zoneFinish (h : s.zmsAt tag 2 = true) : exec (.zoneFinish tag) s =
    .next (s.zms tag (fun s z => s.doFinish (s.tag tag).sqe.nsid z)) := next_when h

theorem exec_zoneOpen (h : s.zmsAt tag 3 = true) : exec (.zoneOpen tag) s =
    .next (s.zms tag (fun s z => s.doOpen (s.tag tag).sqe.nsid z (Sqe.zrwaa (s.tag tag).sqe))) := next_when h

theorem exec_zoneReset (h : s.zmsAt tag 4 = true) : exec (.zoneReset tag) s =
    .next (s.zms tag (fun s z => s.doReset (s.tag tag).sqe.nsid z)) := next_when h

theorem exec_zoneOffline (h : s.zmsAt tag 5 = true) : exec (.zoneOffline tag) s =
    .next (s.zms tag (fun s z => s.doOffline (s.tag tag).sqe.nsid z)) := next_when h

/-- Each of the five commands is a Zone Management Send of its action. -/
theorem exec_zoneSend {zsa : Nat} {x : Instr} (hx : (zsa = 1 ∧ x = .zoneClose tag) ∨ (zsa = 2 ∧ x = .zoneFinish tag) ∨
    (zsa = 3 ∧ x = .zoneOpen tag) ∨ (zsa = 4 ∧ x = .zoneReset tag) ∨ (zsa = 5 ∧ x = .zoneOffline tag)) (h : s.zmsAt tag zsa = true) :
    ∃ act, exec x s = .next (s.zms tag act) := by
  rcases hx with ⟨rfl, rfl⟩ | ⟨rfl, rfl⟩ | ⟨rfl, rfl⟩ | ⟨rfl, rfl⟩ | ⟨rfl, rfl⟩
  · exact ⟨_, exec_zoneClose h⟩
  · exact ⟨_, exec_zoneFinish h⟩
  · exact ⟨_, exec_zoneOpen h⟩
  · exact ⟨_, exec_zoneReset h⟩
  · exact ⟨_, exec_zoneOffline h⟩

section
variable (g : s.sendsTo w tag n z)
include g

theorem State.sendsTo.nsidHere : (w.tag tag).sqe.nsid = n := (congrArg Sqe.nsid g.same).trans g.nsid.symm

theorem exec_zoneClose_zone (h : s.zmsAt tag 1 = true) : exec (.zoneClose tag) s = .next (w.zoneDone tag (w.doClose n z)) := by
  rw [exec_zoneClose h, State.zms_zone g, g.nsidHere]

theorem exec_zoneFinish_zone (h : s.zmsAt tag 2 = true) : exec (.zoneFinish tag) s = .next (w.zoneDone tag (w.doFinish n z)) := by
  rw [exec_zoneFinish h, State.zms_zone g, g.nsidHere]

theorem exec_zoneOpen_zone (h : s.zmsAt tag 3 = true) : exec (.zoneOpen tag) s =
    .next (w.zoneDone tag (w.doOpen n z (Sqe.zrwaa (s.tag tag).sqe))) := by
  rw [exec_zoneOpen h, State.zms_zone g, g.nsidHere, g.same]

theorem exec_zoneReset_zone (h : s.zmsAt tag 4 = true) : exec (.zoneReset tag) s = .next (w.zoneDone tag (w.doReset n z)) := by
  rw [exec_zoneReset h, State.zms_zone g, g.nsidHere]

theorem exec_zoneOffline_zone (h : s.zmsAt tag 5 = true) : exec (.zoneOffline tag) s = .next (w.zoneDone tag (w.doOffline n z)) := by
  rw [exec_zoneOffline h, State.zms_zone g, g.nsidHere]

end

/-! ### The decision on one zone -/

theorem ZoneSt.isActive_iff {st : ZoneSt} : st.isActive = true ↔ st = .implicitOpen ∨ st = .explicitOpen ∨ st = .closed := by
  cases st <;> decide

theorem State.doClose_change (h : (s.zone n z).st = .implicitOpen ∨ (s.zone n z).st = .explicitOpen) :
    s.doClose n z = .change (s.zoneClose n z) := by
  unfold State.doClose
  rcases h with h | h <;> rw [h]

theorem State.doClose_same (h : (s.zone n z).st = .closed) : s.doClose n z = .same := by
  unfold State.doClose
  rw [h]

theorem State.doClose_refuse (h : (s.zone n z).st = .empty ∨ (s.zone n z).st = .full ∨ (s.zone n z).st = .readOnly ∨
    (s.zone n z).st = .offline) : s.doClose n z = .refuse ⟨1, 0xBF⟩ false := by
  unfold State.doClose
  rcases h with h | h | h | h <;> rw [h]

theorem State.doFinish_wait (h : (s.zone n z).inFlight ≠ []) : s.doFinish n z = .wait :=
  if_pos (by simpa using h)

section
variable (hi : (s.zone n z).inFlight = [])
include hi

theorem State.doFinish_settled : s.doFinish n z =
    if (s.zone n z).st = .full then .same
    else if (s.zone n z).st = .empty then (if s.activeRoom n then .change (s.zoneFinish n z) else .refuse ⟨1, 0xBD⟩ false)
    else if (s.zone n z).st.isActive then .change (s.zoneFinish n z) else .refuse ⟨1, 0xBF⟩ false := by
  unfold State.doFinish
  dsimp only
  rw [hi]
  rfl

theorem State.doFinish_change (h : (s.zone n z).st.isActive = true ∨ ((s.zone n z).st = .empty ∧ s.activeRoom n = true)) :
    s.doFinish n z = .change (s.zoneFinish n z) := by
  rw [State.doFinish_settled hi]
  rcases h with h | ⟨h, room⟩
  · rcases ZoneSt.isActive_iff.mp h with h | h | h <;> rw [h] <;> rfl
  · rw [h, room]
    rfl

theorem State.doFinish_refuse (h : (s.zone n z).st = .readOnly ∨ (s.zone n z).st = .offline) :
    s.doFinish n z = .refuse ⟨1, 0xBF⟩ false := by
  rw [State.doFinish_settled hi]
  rcases h with h | h <;> rw [h] <;> rfl

end

/-- What Open needs of a zone, by its state, and whether it gives the zone a ZRWA. -/
def openNeeds (st : ZoneSt) (zrwaa : Bool) (need : ZoneNeed) (zrwa : Bool) : Prop :=
  (st = .empty ∧ need = .activate ∧ zrwa = zrwaa) ∨ (st = .implicitOpen ∧ need = .nothing ∧ zrwa = zrwaa) ∨
    (st = .closed ∧ need = .open_ ∧ zrwa = false)

section
variable {zrwaa zrwa : Bool} {need : ZoneNeed} (h : openNeeds (s.zone n z).st zrwaa need zrwa)
include h

theorem State.doOpen_refuse {r : Status × Bool} (hr : s.roomStatus n z need zrwa = some r) :
    s.doOpen n z zrwaa = .refuse r.1 r.2 := by
  unfold State.doOpen
  dsimp only
  rcases h with ⟨hs, rfl, rfl⟩ | ⟨hs, rfl, rfl⟩ | ⟨hs, rfl, rfl⟩ <;> simp only [hs, hr]

theorem State.doOpen_change (hr : s.roomStatus n z need zrwa = none) (hv : s.zoneEnter n z need .explicitOpen zrwa = some v) :
    s.doOpen n z zrwaa = .change v := by
  unfold State.doOpen
  dsimp only
  rcases h with ⟨hs, rfl, rfl⟩ | ⟨hs, rfl, rfl⟩ | ⟨hs, rfl, rfl⟩ <;> simp only [hs, hr, hv]

end

theorem State.doReset_change (h : (s.zone n z).st.isActive = true ∨ (s.zone n z).st = .full) :
    s.doReset n z = .change (s.zoneReset n z) := by
  unfold State.doReset
  rcases h with h | h
  · rcases ZoneSt.isActive_iff.mp h with h | h | h <;> rw [h]
  · rw [h]

theorem State.doOffline_change (h : (s.zone n z).st = .readOnly) (hi : (s.zone n z).inFlight = []) :
    s.doOffline n z = .change (s.zoneOffline n z) := by
  unfold State.doOffline
  dsimp only
  rw [h, hi]
  rfl

theorem State.doOffline_refuse (h : (s.zone n z).st ≠ .readOnly) : s.doOffline n z = .refuse ⟨1, 0xBF⟩ false := if_pos h

/-! ### The end of an action (R200) -/

theorem State.zmsAt_zsa {zsa : Nat} (h : s.zmsAt tag zsa = true) : Sqe.zsa (s.tag tag).sqe = zsa :=
  beq_iff_eq.mp (Bool.and_eq_true_iff.mp h).2

theorem State.zmsEnd_succeeds (h : Sqe.zsa (s.tag tag).sqe ≠ 4) : s.zmsEnd tag = s.succeed tag :=
  if_neg (by simp [h])

/-- A Reset ends once every write that passed before it has settled. -/
theorem State.zmsEnd_settled (h : s.resetWaits (s.tag tag).sqe.nsid (s.zmsZone tag) = false) : s.zmsEnd tag = s.succeed tag :=
  if_neg (by simp [h])

theorem State.zmsEnd_waits (hz : Sqe.zsa (s.tag tag).sqe = 4) (h : s.resetWaits (s.tag tag).sqe.nsid (s.zmsZone tag) = true) :
    s.zmsEnd tag = s.setTag tag { s.tag tag with built := true, st := .run } :=
  if_pos (by simp [hz, h])

/-- A refused action: its status is posted and its zone stays in its state. -/
theorem State.zoneDone_refuse (h : (s.tag tag).st = .build) (st : Status) (pin : Bool) :
    Posts (s.zoneDone tag (.refuse st pin)) tag st ∧ ((s.zoneDone tag (.refuse st pin)).zone n z).st = (s.zone n z).st := by
  obtain ⟨posts, kept⟩ := State.roomRefuse_posts (by rw [h]; rfl) (st, pin)
  exact ⟨posts, kept n z⟩

/-- An action other than Reset, once decided, ends with Success; the zones and the journal are as the action left them. -/
theorem State.zmsEnd_ends {zsa : Nat} (h : s.zmsAt tag zsa = true) (h4 : zsa ≠ 4) (build : (v.tag tag).st = .build)
    (sqe : (v.tag tag).sqe = (s.tag tag).sqe) :
    v.zmsEnd tag = v.succeed tag ∧ Posts (v.succeed tag) tag ⟨0, 0⟩ ∧ (v.succeed tag).jrn = v.jrn :=
  ⟨State.zmsEnd_succeeds (by rw [sqe, State.zmsAt_zsa h]; exact h4), State.succeed_posts (.inl (by rw [build]; rfl)) 0 0,
    (v.succeed_chg tag 0 0).jrn rfl⟩

section
variable (g : s.sendsTo w tag n z)
include g

/-- An action that leaves the commands where they are has changed its zone, and ends with Success. -/
theorem State.sendsTo.changes {zsa : Nat} (h : s.zmsAt tag zsa = true) (h4 : zsa ≠ 4) (kept : v.tag tag = w.tag tag) :
    w.zoneDone tag (.change v) = (v.succeed tag).commitPump ∧ Posts (v.succeed tag) tag ⟨0, 0⟩ ∧ (v.succeed tag).jrn = v.jrn := by
  obtain ⟨ends, posts, jrn⟩ := State.zmsEnd_ends h h4 (v := v) (by rw [kept, g.build]) (by rw [kept, g.same])
  exact ⟨congrArg State.commitPump ends, posts, jrn⟩

/-! ### Reset (R200) -/

/-- After its Reset a zone is the one that the command names, of the same size. -/
theorem State.sendsTo.zmsZone_reset : (w.zoneReset n z).zmsZone tag = some z := by
  have kept : ((w.zoneReset n z).tag tag).sqe = (s.tag tag).sqe := by rw [(State.zoneReset_chg ..).tag_eq rfl, g.same]
  unfold State.zmsZone
  dsimp only
  rw [kept, g.single, if_neg Bool.false_ne_true, ← g.nsid, State.zoneReset_zsize, g.zone]

/-- Whether the writes before a Reset have settled decides if it ends at once or waits. -/
theorem State.sendsTo.resets (h : s.zmsAt tag 4 = true) :
    ((w.zoneReset n z).resetWaits n (some z) = false → Posts ((w.zoneReset n z).zmsEnd tag) tag ⟨0, 0⟩) ∧
      ((w.zoneReset n z).resetWaits n (some z) = true → (((w.zoneReset n z).zmsEnd tag).tag tag).st = .run) := by
  have tags := (w.zoneReset_chg n z).tag_eq rfl tag
  have names : ((w.zoneReset n z).tag tag).sqe.nsid = n := by rw [tags, g.nsidHere]
  refine ⟨fun settled => ?_, fun waits => ?_⟩
  · rw [State.zmsEnd_settled (by rw [names, g.zmsZone_reset, settled])]
    exact State.succeed_posts (.inl (by rw [tags, g.build]; rfl)) 0 0
  · rw [State.zmsEnd_waits (by rw [tags, g.same, State.zmsAt_zsa h]) (by rw [names, g.zmsZone_reset, waits]), State.setTag_tag]

end

/-- The end of an action, or its wait, leaves the zones as the action left them. -/
theorem State.zmsEnd_zone (s : State) (t i j : Nat) : (s.zmsEnd t).zone i j = s.zone i j := by
  unfold State.zmsEnd
  dsimp only
  split
  · rfl
  · exact State.succeed_zone ..

theorem exec_zoneResetSettled (ha : (s.tag tag).admin = false) (hb : (s.tag tag).built = true) (hs : (s.tag tag).st = .run)
    (ho : (s.tag tag).sqe.opcode = 0x79) (hz : Sqe.zsa (s.tag tag).sqe = 4)
    (hw : s.resetWaits (s.tag tag).sqe.nsid (s.zmsZone tag) = false) : exec (.zoneResetSettled tag) s = .next (s.succeed tag) :=
  next_when (by rw [ha, hb, hs, ho, hz, hw]; rfl)

/-! ### FLUSH_EXPLICIT_ZRWA_RANGE (R205, R206) -/

/-- A flush of a ZRWA that reaches an active zone. -/
structure State.flushes (s w : State) (tag n z off : Nat) : Prop extends s.sends w tag n where
  at11 : s.zmsAt tag 0x11 = true
  open_ : w.jrnHeld = false
  inside : (s.tag tag).sqe.slba < (w.ns n).nsze
  zone : z = (s.tag tag).sqe.slba / w.zsize n
  off : off = (s.tag tag).sqe.slba % w.zsize n
  active : (w.zone n z).st.isActive = true

/-- A ZRWA flushed up to a block, with its record. -/
def State.zrwaFlushed (s : State) (n z off : Nat) : State := (s.zrwaAdvance n z (off + 1)).zoneJournal n z

section
variable {off : Nat} (h : s.flushes w tag n z off)
include h

theorem exec_flushExplicitZrwaRange_none (hz : (w.zone n z).zrwa = false) :
    exec (.flushExplicitZrwaRange tag) s = .next (w.commitTag tag ⟨1, 0xBF⟩) := by
  obtain ⟨⟨rfl, rfl, -, single⟩, at11, open_, inside, rfl, rfl, -⟩ := h
  refine (next_when at11).trans (congrArg Host.Outcome.next ?_)
  exact (if_neg (Bool.eq_false_iff.mp open_)).trans ((if_neg (Bool.eq_false_iff.mp single)).trans
    ((if_neg (Nat.not_le.mpr inside)).trans (if_pos (by rw [hz, Bool.not_false, Bool.or_true]))))

theorem exec_flushExplicitZrwaRange_done (hz : (w.zone n z).zrwa = true) (hlo : (w.zone n z).wp ≤ off)
    (h4 : (off + 1 - (w.zone n z).wp) % 4 = 0) (hhi : off + 1 - (w.zone n z).wp ≤ 256) :
    exec (.flushExplicitZrwaRange tag) s = .next (((w.zrwaFlushed n z off).zoneFullWatch n z).succeed tag).commitPump := by
  obtain ⟨⟨rfl, rfl, -, single⟩, at11, open_, inside, rfl, rfl, active⟩ := h
  refine (next_when at11).trans (congrArg Host.Outcome.next ?_)
  exact (if_neg (Bool.eq_false_iff.mp open_)).trans ((if_neg (Bool.eq_false_iff.mp single)).trans
    ((if_neg (Nat.not_le.mpr inside)).trans ((if_neg (by rw [active, hz]; exact Bool.false_ne_true)).trans (if_neg (by omega)))))

end

theorem State.zrwaFlushed_zone {off : Nat} (h : (s.zone n z).wp ≤ off) : ((s.zrwaFlushed n z off).zone n z).wp = off + 1 ∧
    ((s.zrwaFlushed n z off).zone n z).zrwa = (s.zone n z).zrwa ∧ (s.zrwaFlushed n z off).jrn.next = s.jrn.next + 1 := by
  obtain ⟨zrwa, -, -⟩ := (s.zone n z).advance_keeps (off + 1)
  unfold State.zrwaFlushed
  rw [State.zoneJournal_zone, State.zrwaAdvance_zone, State.zoneJournal_next, (State.zrwaAdvance_chg ..).jrn rfl]
  exact ⟨Zone.advance_wp (by omega), zrwa, rfl⟩

end Sys2Proof.Machine
end

section
/-! SUPPORT. Zone Management Receive and the changes that the PK9 makes by itself (R204, R205). -/

namespace Sys2Proof.Machine

variable {s : State} {tag n z : Nat}

/-- What a report of every zone from one on holds after their number, before it is cut to the length asked for. -/
def State.reportRest (s : State) (n first len : Nat) : List Byte :=
  leBytes 56 0 ++ ((((List.range (s.zoneCount n - first)).map (fun i => first + i)).take ((len - 64) / 64)).map
    (fun z => s.zoneReport n z)).flatten

/-- A report of every zone from one on begins with their number. -/
def State.report (s : State) (n first len : Nat) : List Byte :=
  (leBytes 8 (s.zoneCount n - first) ++ s.reportRest n first len).take len

theorem exec_reportZones {e : Sqe} (h : s.iot tag 0x7A = true) (he : (s.tag tag).sqe = e) (h0 : e.cdw13 % 65536 = 0)
    (hp : e.cdw13.testBit 16 = false) (hd : e.psdt ≠ 3) (hn : e.slba < (s.ns e.nsid).nsze)
    (hs : s.dptrStatus (s.qfunc (s.tag tag).q).1 (s.qfunc (s.tag tag).q).2 (4 * (e.cdw12 + 1)) e = none) :
    exec (.reportZones tag) s =
      .next ((s.deliver tag (s.report e.nsid (e.slba / s.zsize e.nsid) (4 * (e.cdw12 + 1)))).succeed tag) := by
  subst he
  have every : (s.tag tag).sqe.cdw13 / 2 ^ 8 % 256 = 0 := by omega
  have all (l : List Nat) : l.filter (fun z => reportTakes 0 (s.zone (s.tag tag).sqe.nsid z).st) = l := List.filter_true l
  refine (next_when h).trans (congrArg Host.Outcome.next ?_)
  refine (if_neg (by omega)).trans ((if_neg (Nat.not_le.mpr hn)).trans ?_)
  rw [hs]
  dsimp only
  rw [every, all, hp, if_neg Bool.false_ne_true, List.length_map, List.length_range, List.append_assoc]
  rfl

theorem exec_zoneFinishRecommended (hi : s.zoneIdle n z 1 = true) (hf : (s.zone n z).finishRecommended = false) (hj : s.jrnHeld = false) :
    exec (.zoneFinishRecommended n z) s =
      .next (((s.setZone n z { s.zone n z with finishRecommended := true }).zoneJournal n z).zoneChanged n z) :=
  (next_when (by rw [hi, hf]; rfl)).trans (congrArg Host.Outcome.next (if_neg (Bool.eq_false_iff.mp hj)))

theorem exec_zoneFinishedByController (hi : s.zoneIdle n z 2 = true) (hf : (s.zone n z).inFlight = []) (hj : s.jrnHeld = false) :
    exec (.zoneFinishedByController n z) s =
      .next (((s.setZone n z { s.zone n z with finishedByController := true }).zoneFinish n z).zoneChanged n z).commitPump :=
  (next_when (by rw [hi, hf]; rfl)).trans (congrArg Host.Outcome.next (if_neg (Bool.eq_false_iff.mp hj)))

end Sys2Proof.Machine
end

section
/-! The statement about the zone table's decision on a write, an append and a Zone Management Send. -/

namespace Sys2Proof

open Machine

/-- Settles O29. A write that passes is admitted up to its own last block: the implicit flush of a ZRWA stays behind it. -/
theorem zoneWrites : Obligations.ZoneWrites := by
  unfold Obligations.ZoneWrites
  refine ⟨fun s tag h => ⟨fun st hs => ?_, fun hs => ?_⟩, fun s tag h hz => ?_, fun s tag h hz hj => ?_,
    fun s w tag n z off x h hz hj hn hw hx build hxn hzone hoff => ?_, fun s w tag n zsa x hx h hn hw build single => ?_⟩
  · have ends := s.commitTag_chg tag st 0 0
    refine ⟨_, exec_zoneAppend h, ?_⟩
    rw [State.ioRun_refused hs]
    exact ⟨(State.commitTag_posts (State.iot_uncommitted h) st 0 0).1, ends.map rfl, ends.jrn rfl⟩
  · obtain ⟨built, plan, -, -, media⟩ := s.ioBuild_planned tag (planOf [.buf, .hostrd, .xform] (s.tag tag).nlb 8 [.mapupd, .cmpl]) true
    refine ⟨_, exec_zoneAppend h, ?_⟩
    rw [State.ioRun_builds hs]
    exact ⟨built, plan, media⟩
  · exact ⟨_, exec_zoneTableDecision_unsupported h hz, (State.commitTag_posts (State.iot_uncommitted h) _ 0 0).1,
      (s.commitTag_chg tag _ 0 0).jrn rfl⟩
  · exact ⟨_, exec_zoneTableDecision_held h hz hj, rfl, rfl, rfl⟩
  · have run := exec_zoneTableDecision h hz hj
    rw [← hn, ← hw] at run
    have jrn : w.jrn = s.jrn := by rw [hw, (s.zoneBoundary_chg n).jrn rfl]
    subst hx
    have write : w.writesAt tag n z off := ⟨hxn, hzone, hoff⟩
    have due : (w.tag tag).st.uncommitted = true := by rw [build]; rfl
    refine ⟨fun st refused => ⟨_, ?_, (State.commitTag_posts due st 0 0).1, ((w.commitTag_chg tag st 0 0).jrn rfl).trans jrn⟩,
      fun good need room => ⟨w.zoneAdmitted tag n z off ((w.tag tag).sqe.opcode == 0x7D), ?_, ?_⟩, fun r good none_ => ?_⟩
    · rw [run, State.zoneWrite_refused write refused]
    · rw [run, State.zoneWrite_passes write good need room, State.zonePass_eq]
    · have begins : (w.zone n z).begins off ((w.tag tag).sqe.opcode == 0x7D) =
          if (w.tag tag).sqe.opcode = 0x7D then (w.zone n z).adm else off := by
        unfold Zone.begins
        simp only [beq_iff_eq]
      obtain ⟨passed, slba⟩ := w.zoneAdmitted_tag tag n z off ((w.tag tag).sqe.opcode == 0x7D)
      obtain ⟨adm, inFlight⟩ := (w.zone n z).withWrite_range ((w.zone n z).begins off ((w.tag tag).sqe.opcode == 0x7D)) (w.tag tag).nlb
      rw [← State.zoneAdmitted_zone] at adm inFlight
      rw [begins] at slba adm inFlight
      exact ⟨passed, adm, inFlight, slba⟩
    · obtain ⟨posts, kept⟩ := State.roomRefuse_posts due r
      refine ⟨_, ?_, posts, kept n z⟩
      rw [run, State.zoneWrite_noRoom write good none_]
  · obtain ⟨act, run⟩ := exec_zoneSend hx h
    have sends : s.sends w tag n := ⟨hn, hw, build, single⟩
    have due : (w.tag tag).st.uncommitted = true := by rw [build]; rfl
    refine ⟨fun held => ⟨w.jrnWait, ?_, rfl, rfl, rfl⟩, fun open_ beyond => ⟨_, ?_, (State.commitTag_posts due ⟨0, 0x80⟩ 0 0).1⟩,
      fun open_ inside misaligned => ⟨_, ?_, (State.commitTag_posts due ⟨0, 2⟩ 0 0).1⟩⟩
    · rw [run, State.zms_held sends held]
    · rw [run, State.zms_beyond sends open_ beyond]
    · rw [run, State.zms_misaligned sends open_ inside misaligned]

end Sys2Proof
end

section
/-! The statement about what zone management does to a zone. -/

namespace Sys2Proof

open Machine

/-- Settles O30. Each command is the decision of its action on the one zone that it names, and what that decision makes of the zone. -/
theorem zoneManagement : Obligations.ZoneManagement := by
  unfold Obligations.ZoneManagement
  refine ⟨?close, ?finish, ?open_, ?reset, ?offline, ?settled, ?flush, ?report, ?recommended, ?byController⟩
  case close =>
    intro s w tag n z h hn hw build single open_ inside aligned hz same
    have sends : s.sendsTo w tag n z := ⟨⟨hn, hw, build, single⟩, open_, inside, aligned, hz, same⟩
    have run := exec_zoneClose_zone sends h
    refine ⟨fun opened => ?_, fun closed => ?_, fun other => ?_⟩
    · obtain ⟨ends, posts, jrn⟩ := sends.changes h (by decide) ((w.zoneClose_chg n z).tag_eq rfl tag)
      obtain ⟨wp, next⟩ := w.zoneClose_frame n z
      rw [State.doClose_change opened, ends] at run
      refine ⟨_, run, posts, ?_⟩
      rw [State.succeed_zone, jrn]
      exact ⟨w.zoneClose_st n z, wp, next⟩
    · obtain ⟨ends, done⟩ := State.zmsEnd_ends h (by decide) build same
      rw [State.doClose_same closed] at run
      exact ⟨_, run.trans (congrArg Host.Outcome.next ends), done⟩
    · rw [State.doClose_refuse other] at run
      exact ⟨_, run, State.zoneDone_refuse build _ _⟩
  case finish =>
    intro s w tag n z h hn hw build single open_ inside aligned hz same
    have sends : s.sendsTo w tag n z := ⟨⟨hn, hw, build, single⟩, open_, inside, aligned, hz, same⟩
    have run := exec_zoneFinish_zone sends h
    refine ⟨fun busy => ?_, fun settled may => ?_, fun settled gone => ?_⟩
    · rw [run, State.doFinish_wait busy]
      rfl
    · obtain ⟨ends, posts, -⟩ := sends.changes h (by decide) ((w.zoneFinish_chg n z).tag_eq rfl tag)
      obtain ⟨full, wp, zrwa, -⟩ := w.zoneFinish_zone n z
      rw [State.doFinish_change settled may, ends] at run
      refine ⟨_, run, posts, ?_⟩
      rw [State.succeed_zone]
      exact ⟨full, wp, zrwa⟩
    · rw [State.doFinish_refuse settled gone] at run
      exact ⟨_, run, State.zoneDone_refuse build _ _⟩
  case open_ =>
    intro s w v tag n z need zr h hn hw build single open_ inside aligned hz same needs
    have sends : s.sendsTo w tag n z := ⟨⟨hn, hw, build, single⟩, open_, inside, aligned, hz, same⟩
    have run := exec_zoneOpen_zone sends h
    refine ⟨fun room enters built sqe => ?_, fun r none_ => ?_⟩
    · obtain ⟨ends, posts, -⟩ := State.zmsEnd_ends h (by decide) built sqe
      rw [State.doOpen_change needs room enters] at run
      refine ⟨_, run.trans (congrArg (fun u : State => Host.Outcome.next u.commitPump) ends), posts, ?_⟩
      rw [State.succeed_zone]
      exact State.zoneEnter_st enters
    · rw [State.doOpen_refuse needs none_] at run
      exact ⟨_, run, State.zoneDone_refuse build _ _⟩
  case reset =>
    intro s w tag n z h hn hw build single open_ inside aligned hz same may
    have sends : s.sendsTo w tag n z := ⟨⟨hn, hw, build, single⟩, open_, inside, aligned, hz, same⟩
    have run := exec_zoneReset_zone sends h
    rw [State.doReset_change may] at run
    refine ⟨_, run, ?_⟩
    rw [State.zmsEnd_zone, State.zoneReset_zone]
    exact ⟨rfl, rfl, rfl, rfl, rfl, sends.resets h⟩
  case offline =>
    intro s w tag n z h hn hw build single open_ inside aligned hz same
    have sends : s.sendsTo w tag n z := ⟨⟨hn, hw, build, single⟩, open_, inside, aligned, hz, same⟩
    have run := exec_zoneOffline_zone sends h
    refine ⟨fun readOnly settled => ?_, fun other => ?_⟩
    · obtain ⟨ends, posts, -⟩ := sends.changes h (by decide) ((w.zoneOffline_chg n z).tag_eq rfl tag)
      rw [State.doOffline_change readOnly settled, ends] at run
      refine ⟨_, run, posts, ?_⟩
      rw [State.succeed_zone, State.zoneOffline_zone]
      exact ⟨rfl, rfl⟩
    · rw [State.doOffline_refuse other] at run
      exact ⟨_, run, State.zoneDone_refuse build _ _⟩
  case settled =>
    intro s tag ha hb hs ho hz hw
    exact ⟨_, exec_zoneResetSettled ha hb hs ho hz hw, State.succeed_posts (.inl (by rw [hs]; rfl)) 0 0, s.succeed_zones tag 0 0⟩
  case flush =>
    intro s w tag n z off h hn hw build open_ single inside hz hoff active
    have flush : s.flushes w tag n z off := ⟨⟨hn, hw, build, single⟩, h, open_, inside, hz, hoff, active⟩
    refine ⟨fun zrwa lo by4 hi => ?_, fun none_ => ?_⟩
    · obtain ⟨wp, kept, next⟩ := State.zrwaFlushed_zone lo
      exact ⟨_, exec_flushExplicitZrwaRange_done flush zrwa lo by4 hi, wp, kept.trans zrwa, next⟩
    · exact ⟨_, exec_flushExplicitZrwaRange_none flush none_, (State.commitTag_posts (by rw [build]; rfl) ⟨1, 0xBF⟩ 0 0).1⟩
  case report =>
    intro s tag e h he h0 hp hd hn hs passes
    obtain ⟨posts, sent, -⟩ := State.delivered_succeeds (data := s.report e.nsid (e.slba / s.zsize e.nsid) (4 * (e.cdw12 + 1)))
      (State.iot_uncommitted h) passes
    exact ⟨_, exec_reportZones h he h0 hp hd hn hs, posts, (State.succeed_zones ..).trans ((s.deliver_chg ..).zones rfl), _, sent⟩
  case recommended =>
    intro s n z hi hf hj
    refine ⟨_, exec_zoneFinishRecommended hi hf hj, ?_⟩
    rw [State.zoneChanged_zone, State.zoneJournal_zone, State.setZone_zone, (State.zoneChanged_chg ..).jrn rfl, State.zoneJournal_next]
    exact ⟨rfl, rfl, State.zoneChanged_listed .., rfl⟩
  case byController =>
    intro s n z hi hf hj
    obtain ⟨full, wp, -, finished⟩ := (s.setZone n z { s.zone n z with finishedByController := true }).zoneFinish_zone n z
    refine ⟨_, exec_zoneFinishedByController hi hf hj, ?_⟩
    rw [State.zoneChanged_zone, full, wp, finished, State.setZone_zone]
    exact ⟨rfl, rfl, rfl, State.zoneChanged_listed ..⟩

end Sys2Proof
end

section
/-! SUPPORT. The journal's pages, the checkpoints and the write-backs (R227, R228, R237 to R239): what the commands of the Sepia journal
leave of the journal, of the map's pages and of its released home slots. -/

namespace Sys2Proof.Machine

variable {s : State}

/-! ### The journal's pages (R237) -/

theorem exec_journalPageTimer (ht : s.jrn.tail.isEmpty = false) (he : s.elapsed s.jrn.tailSince (200 * usec) = true) :
    exec .journalPageTimer s = .next s.closeTail := next_when (by rw [ht, he]; rfl)

/-- A tail that is not empty becomes the last page in progress. -/
theorem State.closeTail_jrn (h : s.jrn.tail.isEmpty = false) : s.closeTail.jrn = { s.jrn with
    tail := [], flushing := s.jrn.flushing ++ [s.jrn.tail], bytesFromReplay := s.jrn.bytesFromReplay + 16384 } := by
  unfold State.closeTail
  rw [if_neg (Bool.eq_false_iff.mp h)]

theorem exec_journalPageDurable {p : List JRec} {l : List (List JRec)} (h : s.jrn.flushing = p :: l) :
    exec .journalPageDurable s = .next s.pageDurable.jrnWatch.mediaPump.settleWatch := next_when (by rw [h]; rfl)

theorem State.pageDurable_jrn {p : List JRec} {l : List (List JRec)} (h : s.jrn.flushing = p :: l) : s.pageDurable.jrn = { s.jrn with
    flushing := l, log := s.jrn.log ++ p, durable := p.foldl (fun m r => max m r.jseq) s.jrn.durable } := by
  unfold State.pageDurable
  rw [h]

/-- The durable number covers every record of the page, and never falls. -/
theorem JRec.durable_covers (p : List JRec) (d : Nat) :
    d ≤ p.foldl (fun m r => max m r.jseq) d ∧ ∀ r ∈ p, r.jseq ≤ p.foldl (fun m r => max m r.jseq) d := by
  induction p generalizing d with
  | nil => exact ⟨le_rfl, nofun⟩
  | cons x p ih =>
    obtain ⟨grows, covers⟩ := ih (max d x.jseq)
    exact ⟨(le_max_left ..).trans grows, List.forall_mem_cons.mpr ⟨(le_max_right ..).trans grows, covers⟩⟩

/-! ### Checkpoints (R238, R239) -/

/-- CHECKPOINT_INTERVAL in a state whose boundary leaves it due. -/
theorem exec_checkpointInterval {w : State} (hw : s.boundary 0x6001 = w) (hi : w.inService = true) (hc : w.jrn.changed = true)
    (hr : w.jrn.ckptRunning = false) (he : w.elapsed w.jrn.lastCkptAt (w.cfg 0x6001 5 * sec) = true) :
    exec .checkpointInterval s = .next w.checkpoint := by
  subst hw
  show execCheckpointInterval s = _
  unfold execCheckpointInterval
  dsimp only
  rw [hi, hc, hr, he]
  rfl

/-- A checkpoint runs between two records, which take the next two numbers. -/
theorem State.checkpoint_jrn (h : s.jrn.ckptRunning = false) : s.checkpoint.jrn.ckptRunning = true ∧
    s.checkpoint.jrn.ckptNo = s.jrn.ckptNo + 1 ∧ s.checkpoint.jrn.ckptBegin = s.jrn.next ∧
    s.checkpoint.jrn.ckptEnd = s.jrn.next + 1 ∧ s.checkpoint.jrn.next = s.jrn.next + 2 := by
  unfold State.checkpoint
  rw [if_neg (Bool.eq_false_iff.mp h)]
  simp only [State.journal_next, List.length_cons, List.length_nil, and_self]

theorem exec_checkpointEndDurable (hr : s.jrn.ckptRunning = true) (hd : s.jrn.ckptEnd ≤ s.jrn.durable) :
    exec .checkpointEndDurable s = .next s.checkpointDone.settleWatch := next_when (by rw [hr, decide_eq_true hd]; rfl)

/-- A checkpoint that ends moves the replay start, below which no record and before which no released home slot is left, and then
looks at the journal's length. -/
theorem State.checkpointDone_moves (s : State) : ∃ u : State, s.checkpointDone = u.jrnWatch ∧ u.jrn.ckptRunning = false ∧
    u.jrn.replayStart = s.jrn.ckptStart ∧ u.jrn.checkpoints = satAdd 32 s.jrn.checkpoints 1 ∧ u.jrn.lastCkptAt = s.aon.now ∧
    (∀ r ∈ u.jrn.log, s.jrn.ckptStart ≤ r.jseq) ∧ ∀ x ∈ u.map.freedHomes, s.jrn.ckptBegin ≤ x.2 :=
  ⟨_, rfl, rfl, rfl, rfl, rfl, fun _ hr => of_decide_eq_true (List.mem_filter.mp hr).2,
    fun _ hx => of_decide_eq_true (List.mem_filter.mp hx).2⟩

/-! ### Write-backs (R227, R228) -/

theorem exec_writebackProgramDone {n p slot : Nat} {ok : Bool} (h : (s.page n p).writingBack = true) :
    exec (.writebackProgramDone n p slot ok) s = .next (s.writebackDone n p slot ok) := next_when h

/-- A page that a program of its copy gives a home. -/
def Page.homed (x : Page) (slot : Nat) : Page :=
  { x with home := some slot, version := (x.version + 1) % 256, writingBack := false, dirty := x.changedAfterCopy
           changedAfterCopy := false }

theorem State.homeRelease_writebacks (s : State) (h : Option Nat) : (s.homeRelease h).map.writebacks = s.map.writebacks := by
  cases h <;> rfl

/-- A write-back that succeeds gives the page its home, with one record and one more on the count, and then looks at the dirty pages. -/
theorem State.writebackDone_homes (s : State) (n p slot : Nat) : ∃ u : State, s.writebackDone n p slot true = u.writebackPump ∧
    u.page n p = (s.page n p).homed slot ∧ u.map.writebacks = satAdd 64 s.map.writebacks 1 ∧ u.jrn.next = s.jrn.next + 1 := by
  let x := s.page n p
  let v := (s.homeRelease x.home).setPage n p (x.homed slot)
  have page : v.page n p = x.homed slot := State.setPage_page ..
  have map := (v.journal_chg [pageRec n p (x.homed slot)]).map rfl
  have released : v.jrn = s.jrn := (s.homeRelease_chg x.home).jrn rfl
  unfold State.writebackDone
  dsimp only
  rw [if_pos rfl]
  refine ⟨_, rfl, ?_, ?_, ?_⟩
  · exact (congrArg (fun m : MapSt => Tbl.get ({} : Page) m.pages (pkey n p)) map).trans page
  · exact congrArg (satAdd 64 · 1) ((congrArg MapSt.writebacks map).trans (s.homeRelease_writebacks x.home))
  · exact (v.journal_next _).trans (congrArg (fun j : Jrn => j.next + 1) released)

end Sys2Proof.Machine
end

section
/-! The statement about the journal, its pages and its checkpoints. -/

namespace Sys2Proof

open Machine

/-- Settles O16. That the checkpoint's end record is appended in the step that begins it, so that it takes the number after the first
record's, is the model's choice (log entry 89). -/
theorem journalAndCheckpoints : Obligations.JournalAndCheckpoints := by
  unfold Obligations.JournalAndCheckpoints
  refine ⟨fun s ht he => ⟨_, exec_journalPageTimer ht he, ?_⟩, fun s p l h => ⟨_, exec_journalPageDurable h, ?_⟩,
    fun s hi hc hr he => ?_, fun s hr hd => ?_, fun s n p slot h => ?_, fun s n p slot h => ⟨_, exec_writebackProgramDone h, ?_⟩⟩
  · rw [State.closeTail_jrn ht]
    exact ⟨rfl, rfl, rfl, rfl, s.closeTail_chg.map rfl⟩
  · obtain ⟨grows, covers⟩ := JRec.durable_covers p s.jrn.durable
    rw [State.pageDurable_jrn h]
    exact ⟨rfl, rfl, covers, grows, s.pageDurable_chg.map rfl, rfl⟩
  · have bounded := s.boundary_chg 0x6001
    have jrn := bounded.jrn rfl
    rw [← jrn] at hc hr he ⊢
    obtain ⟨running, number, begins, ends, next⟩ := State.checkpoint_jrn hr
    exact ⟨_, exec_checkpointInterval rfl hi hc hr he, running, number, begins, ends, next,
      ((State.checkpoint_chg _).map rfl).trans (bounded.map rfl)⟩
  · obtain ⟨u, done, moved⟩ := s.checkpointDone_moves
    exact ⟨u, (exec_checkpointEndDurable hr hd).trans (congrArg (fun t => Host.Outcome.next t.settleWatch) done), moved⟩
  · obtain ⟨u, done, page, count, next⟩ := s.writebackDone_homes n p slot
    refine ⟨u, (exec_writebackProgramDone h).trans (congrArg Host.Outcome.next done), ?_⟩
    rw [page]
    exact ⟨rfl, rfl, rfl, rfl, count, next⟩
  · have restored : (s.writebackDone n p slot false).page n p = { s.page n p with dirty := true, recJseq := (s.page n p).copyRec } :=
      s.setPage_page n p _
    rw [restored]
    exact ⟨rfl, rfl, rfl, rfl⟩

end Sys2Proof
end

section
/-! SUPPORT. A codeword that a block of a command waits for (R265, R266, R311 to R313, R315): what an answer of a decoder counts, what a
codeword that decodes or is lost leaves of the block, its channel, its LUN and its superblock, and one equation for each answer. -/

namespace Sys2Proof.Machine

variable {s u : State} {t b l : Nat}

/-! ### What the wait for a codeword rests on -/

theorem State.profile_congr (h : u.dict = s.dict) : u.profile = s.profile := by
  unfold State.profile State.cfgBytes State.cfgVal; rw [h]

theorem State.retryEntries_congr (h : u.dict = s.dict) : u.retryEntries = s.retryEntries := by
  unfold State.retryEntries State.cfgBytes State.cfgVal; rw [h]

theorem State.readWaits_congr (ht : u.tags = s.tags) (hd : u.dict = s.dict) : u.readWaits t b = s.readWaits t b := by
  unfold State.readWaits State.blk State.tag; rw [ht, State.profile_congr hd]

theorem State.denseBits_congr (h : u.dict = s.dict) : u.denseBits = s.denseBits := by
  unfold State.denseBits State.pf; rw [State.cfg_congr h]

theorem State.locChannel_congr (h : u.dict = s.dict) (l : Nat) : u.locChannel l = s.locChannel l := by
  simp only [State.locChannel, State.positions, State.blocksPerLun, State.pagesPerBlock, State.wordlines, State.planes, State.pageKib,
    State.pf, State.denseBits_congr h, State.cfg_congr h]

theorem State.locPos_congr (h : u.dict = s.dict) (l : Nat) : u.locPos l = s.locPos l := by
  simp only [State.locPos, State.positions, State.blocksPerLun, State.pagesPerBlock, State.wordlines, State.planes, State.pageKib,
    State.pf, State.denseBits_congr h, State.cfg_congr h]

theorem State.locSb_congr (h : u.dict = s.dict) (l : Nat) : u.locSb l = s.locSb l := by
  simp only [State.locSb, State.locPos_congr h, State.locBlock, State.blocksPerLun, State.pagesPerBlock, State.wordlines, State.planes,
    State.pageKib, State.pf, State.denseBits_congr h, State.cfg_congr h]

/-! ### A hard decode counted (R312, R320) -/

/-- A hard decode of steps 1 and 2, counted: a codeword with many corrected bits queues a refresh for retention. -/
def State.hardSeen (s : State) (l bits : Nat) (ok directed : Bool) : State :=
  if ok && decide (s.pf 0x1B ≤ bits) then (s.hardCount l bits ok directed).refreshRetention (s.locSb l)
  else s.hardCount l bits ok directed

theorem State.hardSeen_chg (s : State) (l bits : Nat) (ok directed : Bool) : Chg 537919488 s (s.hardSeen l bits ok directed) :=
  .ite ((State.refreshRetention_chg ..).step ((State.hardCount_chg ..).mono (by decide)) (by decide)) ((State.hardCount_chg ..).mono (by decide))

theorem State.hardSeen_blk (s : State) (l bits : Nat) (ok directed : Bool) (t b : Nat) : (s.hardSeen l bits ok directed).blk t b = s.blk t b :=
  (s.hardSeen_chg l bits ok directed).blk_eq rfl t b

theorem State.hardSeen_chan (s : State) (l bits : Nat) (ok directed : Bool) (c : Nat) :
    (s.hardSeen l bits ok directed).chan c = (s.hardCount l bits ok directed).chan c := by
  unfold State.hardSeen
  split <;> rfl

theorem State.hardCount_chan (s : State) (l bits : Nat) (ok directed : Bool) :
    (s.hardCount l bits ok directed).chan (s.locChannel l) = { s.chan (s.locChannel l) with
      codewords := satAdd 64 (s.chan (s.locChannel l)).codewords 1
      hardFails := if ok then (s.chan (s.locChannel l)).hardFails else satAdd 64 (s.chan (s.locChannel l)).hardFails 1
      correctedBits := if ok then satAdd 64 (s.chan (s.locChannel l)).correctedBits bits else (s.chan (s.locChannel l)).correctedBits
      maxBits := if ok then max (s.chan (s.locChannel l)).maxBits bits else (s.chan (s.locChannel l)).maxBits
      misdirected := if ok && !directed then satAdd 32 (s.chan (s.locChannel l)).misdirected 1
        else (s.chan (s.locChannel l)).misdirected } := State.setChan_chan ..

theorem State.refreshRetention_queued (s : State) (k : Nat) : ((s.refreshRetention k).sb k).refreshQueued = true :=
  congrArg Sb.refreshQueued (s.setSb_sb k { s.sb k with refreshQueued := true })

theorem State.hardSeen_queued (s : State) (l bits : Nat) (directed : Bool) :
    ((s.hardSeen l bits true directed).sb (s.locSb l)).refreshQueued = ((s.sb (s.locSb l)).refreshQueued || decide (s.pf 0x1B ≤ bits)) := by
  unfold State.hardSeen
  rw [Bool.true_and]
  split
  · rename_i h; rw [State.refreshRetention_queued, h, Bool.or_true]
  · rename_i h; rw [Bool.eq_false_iff.mpr h, Bool.or_false]; rfl

theorem State.hardSeen_recovered (s : State) (l bits : Nat) (ok directed : Bool) :
    (s.hardSeen l bits ok directed).media.recovered = s.media.recovered := by
  unfold State.hardSeen
  split <;> rfl

/-! ### A codeword that is decoded -/

/-- The block with its data or its stored slot, as far as the codeword carries it. -/
def BlkRt.decoded (x : BlkRt) (data : List Byte) (m : Nat) : BlkRt :=
  { (if x.mode = 0 then { x with data := data.take m, ready := true } else { x with coded := data.take m }) with info := data.drop m }

theorem BlkRt.decoded_plain {x : BlkRt} (h : x.mode = 0) (data : List Byte) (m : Nat) :
    (x.decoded data m).ready = true ∧ (x.decoded data m).data = data.take m := by
  unfold BlkRt.decoded
  rw [if_pos h]
  exact ⟨rfl, rfl⟩

theorem BlkRt.decoded_coded {x : BlkRt} (h : x.mode ≠ 0) (data : List Byte) (m : Nat) : (x.decoded data m).coded = data.take m := by
  unfold BlkRt.decoded
  rw [if_neg h]

/-- A recovery at steps 2 to 4 is counted. -/
def State.recoveryCounted (s : State) (step : Nat) : State :=
  if 2 ≤ step then { s with media := { s.media with recovered := satAdd 64 s.media.recovered 1 } } else s

/-- A recovery at steps 3 and 4 queues a refresh. -/
def State.recoveryAsked (s : State) (k step : Nat) : State := if 3 ≤ step then s.refreshAsk k else s

/-- Step 4 is remembered for R265, any other step ends the run of lost codewords of the LUN. -/
def State.recoveryNoted (s : State) (step now ch pos k : Nat) : State :=
  if step = 4 then s.setSb k { s.sb k with step4 := (s.sb k).step4 ++ [now * 32 + ch] }
  else s.setLun ch pos { s.lun ch pos with failRun := 0, failBlocks := [] }

theorem State.recoveryCounted_chg (s : State) (step : Nat) : Chg 536870912 s (s.recoveryCounted step) :=
  .ite ((Chg.refl _ s).u_media _ (by decide)) (.refl _ s)

theorem State.recoveryAsked_chg (s : State) (k step : Nat) : Chg 536870912 s (s.recoveryAsked k step) :=
  .ite (s.refreshAsk_chg k) (.refl _ s)

theorem State.recoveryNoted_chg (s : State) (step now ch pos k : Nat) : Chg 537395200 s (s.recoveryNoted step now ch pos k) :=
  .ite ((State.setSb_chg ..).mono (by decide)) ((State.setLun_chg ..).mono (by decide))

theorem State.recoveryAsked_recovered (s : State) (k step : Nat) : (s.recoveryAsked k step).media.recovered = s.media.recovered := by
  unfold State.recoveryAsked
  split <;> rfl

theorem State.recoveryNoted_recovered (s : State) (step now ch pos k : Nat) :
    (s.recoveryNoted step now ch pos k).media.recovered = s.media.recovered := by
  unfold State.recoveryNoted
  split <;> rfl

theorem State.recoveryCounted_recovered (s : State) (step : Nat) :
    (s.recoveryCounted step).media.recovered = if 2 ≤ step then satAdd 64 s.media.recovered 1 else s.media.recovered := by
  unfold State.recoveryCounted
  split <;> rfl

theorem State.recoveryCounted_sb (s : State) (step k : Nat) : (s.recoveryCounted step).sb k = s.sb k := by
  unfold State.recoveryCounted
  split <;> rfl

theorem State.recoveryAsked_queued (s : State) (k step : Nat) :
    ((s.recoveryAsked k step).sb k).refreshQueued = ((s.sb k).refreshQueued || decide (3 ≤ step)) := by
  unfold State.recoveryAsked
  split
  · rename_i h
    rw [show (s.refreshAsk k).sb k = { s.sb k with refreshQueued := true } from s.setSb_sb ..]
    simp only [h, decide_true, Bool.or_true]
  · rename_i h; rw [decide_eq_false h, Bool.or_false]

theorem State.recoveryNoted_queued (s : State) (step now ch pos k : Nat) :
    ((s.recoveryNoted step now ch pos k).sb k).refreshQueued = (s.sb k).refreshQueued := by
  unfold State.recoveryNoted
  split
  · rw [State.setSb_sb]
  · rfl

/-- A decoded codeword, before the block's read of its superblock ends. -/
def State.decodedHere (s : State) (t b l step : Nat) (data : List Byte) : State :=
  (((s.setBlk t b ((s.blk t b).decoded data (data.length - s.infoBytes (s.tag t).sqe.nsid))).recoveryCounted step).recoveryAsked
    (s.locSb l) step).recoveryNoted step s.aon.now (s.locChannel l) (s.locPos l) (s.locSb l)

theorem State.decoded_eq (s : State) (t b l step : Nat) (data : List Byte) : s.decoded t b l step data =
    if (s.blk t b).mode = 0 then (s.decodedHere t b l step data).readEnd l else s.decodedHere t b l step data := rfl

theorem State.decodedHere_blk (s : State) (t b l step : Nat) (data : List Byte) : (s.decodedHere t b l step data).blk t b =
    (s.blk t b).decoded data (data.length - s.infoBytes (s.tag t).sqe.nsid) := by
  unfold State.decodedHere
  rw [(State.recoveryNoted_chg ..).blk_eq rfl, (State.recoveryAsked_chg ..).blk_eq rfl, (State.recoveryCounted_chg ..).blk_eq rfl,
    State.setBlk_blk]

theorem State.decodedHere_chan (s : State) (t b l step : Nat) (data : List Byte) (c : Nat) :
    (s.decodedHere t b l step data).chan c = s.chan c := by
  unfold State.decodedHere
  rw [(State.recoveryNoted_chg ..).chan_eq rfl, (State.recoveryAsked_chg ..).chan_eq rfl, (State.recoveryCounted_chg ..).chan_eq rfl,
    (State.setBlk_chg ..).chan_eq rfl]

theorem State.decodedHere_recovered (s : State) (t b l step : Nat) (data : List Byte) : (s.decodedHere t b l step data).media.recovered =
    if 2 ≤ step then satAdd 64 s.media.recovered 1 else s.media.recovered := by
  unfold State.decodedHere
  rw [State.recoveryNoted_recovered, State.recoveryAsked_recovered, State.recoveryCounted_recovered]
  rfl

theorem State.decodedHere_queued (s : State) (t b l step : Nat) (data : List Byte) :
    ((s.decodedHere t b l step data).sb (s.locSb l)).refreshQueued = ((s.sb (s.locSb l)).refreshQueued || decide (3 ≤ step)) := by
  unfold State.decodedHere
  rw [State.recoveryNoted_queued, State.recoveryAsked_queued, State.recoveryCounted_sb]
  rfl

/-! ### A codeword that is lost -/

/-- The LUN with one more lost codeword in its run (R315). -/
def State.lunMissed (s : State) (l : Nat) : State :=
  let x := s.lun (s.locChannel l) (s.locPos l)
  s.setLun (s.locChannel l) (s.locPos l) { x with
    failRun := x.failRun + 1
    failBlocks := if x.failBlocks.contains (s.locBlock l) then x.failBlocks else x.failBlocks ++ [s.locBlock l] }

/-- Before the 64th codeword of a run the LUN only counts. -/
theorem State.codewordLost_counts (h : (s.lun (s.locChannel l) (s.locPos l)).failRun < 63) : s.codewordLost l = s.lunMissed l := by
  unfold State.codewordLost
  exact if_neg fun hc => by omega

theorem State.lunMissed_chg (s : State) (l : Nat) : Chg 524288 s (s.lunMissed l) := State.setLun_chg ..

theorem State.lunMissed_failRun (s : State) (l : Nat) : ((s.lunMissed l).lun (s.locChannel l) (s.locPos l)).failRun =
    (s.lun (s.locChannel l) (s.locPos l)).failRun + 1 := congrArg Lun.failRun (State.setLun_lun ..)

/-- A codeword with a retry setting left takes it. -/
theorem State.hardFailed_retry (h : (s.blk t b).tries < s.retryEntries) :
    s.hardFailed t b l = s.setBlk t b { s.blk t b with escalation := 2, tries := (s.blk t b).tries + 1 } := if_pos h

/-- A codeword that asks for a soft decoder (R313). -/
def State.softAsked (s : State) (t b l : Nat) : State :=
  let u := s.setBlk t b { s.blk t b with escalation := 3 }
  let v := u.setChan (s.locChannel l) { u.chan (s.locChannel l) with softDecodes := satAdd 64 (u.chan (s.locChannel l)).softDecodes 1 }
  { v with cmp := { v.cmp with softQueue := v.cmp.softQueue ++ [(t, b, s.aon.now)] } }

/-- After the last setting the codeword goes to the soft decoders, while one of them works. -/
theorem State.hardFailed_soft (h : s.retryEntries ≤ (s.blk t b).tries) (hs : s.cmp.softFailed.length < 8) :
    s.hardFailed t b l = (s.softAsked t b l).softPump 8 :=
  (if_neg (Nat.not_lt.mpr h)).trans (if_neg (Nat.not_le.mpr hs))

theorem State.softAsked_blk (s : State) (t b l : Nat) : (s.softAsked t b l).blk t b = { s.blk t b with escalation := 3 } := s.setBlk_blk ..

theorem State.softAsked_chan (s : State) (t b l : Nat) : (s.softAsked t b l).chan (s.locChannel l) =
    { s.chan (s.locChannel l) with softDecodes := satAdd 64 (s.chan (s.locChannel l)).softDecodes 1 } := State.setChan_chan ..

/-- The block whose step 5 is reached, before its status is committed. -/
def State.unrecoveredHere (s : State) (t b : Nat) : State :=
  let u := s.setBlk t b { s.blk t b with failed := true }
  { u with media := { u.media with unrecovered := satAdd 64 u.media.unrecovered 1 } }.medBit 4

theorem State.unrecovered_eq (s : State) (t b l : Nat) :
    s.unrecovered t b l = ((s.unrecoveredHere t b).commitTag t ⟨2, 0x81⟩).readEnd l := rfl

theorem State.unrecoveredHere_blk (s : State) (t b : Nat) : (s.unrecoveredHere t b).blk t b = { s.blk t b with failed := true } :=
  s.setBlk_blk ..

/-! ### HARD_DECODE_DONE -/

/-- A codeword that decodes and names another block is noted, and counts against its LUN once (R311). -/
def State.wrongNoted (s : State) (t b l : Nat) (ok : Bool) : State :=
  if ok && !(s.blk t b).wrong then (s.setBlk t b { s.blk t b with wrong := true }).codewordLost l else s

/-- The block is marked, and the codeword counts against its LUN. -/
def State.wrongMarked (s : State) (t b l : Nat) : State := (s.setBlk t b { s.blk t b with wrong := true }).lunMissed l

theorem State.wrongNoted_first (hn : (s.blk t b).wrong = false) (hr : (s.lun (s.locChannel l) (s.locPos l)).failRun < 63) :
    s.wrongNoted t b l true = s.wrongMarked t b l :=
  (if_pos (by rw [hn]; rfl)).trans (State.codewordLost_counts hr)

theorem State.wrongMarked_chg (s : State) (t b l : Nat) : Chg 532480 s (s.wrongMarked t b l) :=
  (State.lunMissed_chg ..).step ((State.setBlk_chg ..).mono (by decide)) (by decide)

theorem State.wrongMarked_blk (s : State) (t b l : Nat) : (s.wrongMarked t b l).blk t b = { s.blk t b with wrong := true } :=
  ((State.lunMissed_chg ..).blk_eq rfl t b).trans (s.setBlk_blk ..)

theorem State.wrongMarked_failRun (s : State) (t b l : Nat) : ((s.wrongMarked t b l).lun (s.locChannel l) (s.locPos l)).failRun =
    (s.lun (s.locChannel l) (s.locPos l)).failRun + 1 := State.lunMissed_failRun ..

/-- An answer of steps 1 and 2. -/
theorem exec_hardDecodeDone_early (hw : s.readWaits t b = some l) (h : s.stepNow t b l ≤ 2) (bits : Nat) (ok directed : Bool)
    (data : List Byte) : exec (.hardDecodeDone t b bits ok directed data) s = .next
      (if ok && directed then (s.hardSeen l bits ok directed).decoded t b l (s.stepNow t b l) data
       else ((s.hardSeen l bits ok directed).wrongNoted t b l ok).hardFailed t b l) := by
  show execHardDecodeDone t b bits ok directed data s = _
  unfold execHardDecodeDone
  simp only [hw]
  rw [if_neg (by omega), if_neg (by omega)]
  rfl

/-- A failed decode of steps 1 and 2. -/
theorem exec_hardDecodeDone_failed (hw : s.readWaits t b = some l) (h : s.stepNow t b l ≤ 2) (bits : Nat) (directed : Bool)
    (data : List Byte) : exec (.hardDecodeDone t b bits false directed data) s =
      .next ((s.hardSeen l bits false directed).hardFailed t b l) := exec_hardDecodeDone_early hw h bits false directed data

/-- The answer of a reconstruction (log entry 98). -/
theorem exec_hardDecodeDone_rebuilt (hw : s.readWaits t b = some l) (h : s.stepNow t b l = 4) (bits : Nat) (ok directed : Bool)
    (data : List Byte) : exec (.hardDecodeDone t b bits ok directed data) s = .next
      (if ok && directed then s.decoded t b l 4 data else s.unrecovered t b l) := by
  show execHardDecodeDone t b bits ok directed data s = _
  unfold execHardDecodeDone
  simp only [hw, h]
  rfl

/-! ### SOFT_DECODE_DONE -/

/-- A soft decoder has answered for a codeword and goes to the next that waits. -/
def State.softTaken (s : State) (t b : Nat) : State :=
  State.softPump { s with cmp := { s.cmp with softRun := s.cmp.softRun.erase (t, b) } } 8

theorem State.softTaken_chg (s : State) (t b : Nat) : Chg 2147483648 s (s.softTaken t b) :=
  (State.softPump_chg ..).step ((Chg.refl _ s).u_cmp _ (by decide)) (by decide)

theorem State.softPump_parityFailed (s : State) (n : Nat) : (s.softPump n).cmp.parityFailed = s.cmp.parityFailed := by
  induction n generalizing s with
  | zero => rfl
  | succ n ih =>
    unfold State.softPump
    split
    · rfl
    · dsimp only
      split
      · rfl
      · exact ih _

theorem State.softTaken_parityFailed (s : State) (t b : Nat) : (s.softTaken t b).cmp.parityFailed = s.cmp.parityFailed :=
  State.softPump_parityFailed ..

theorem exec_softDecodeDone (hr : (t, b) ∈ s.cmp.softRun) (hw : s.readWaits t b = some l) (ok : Bool) (data : List Byte) :
    exec (.softDecodeDone t b ok data) s = .next
      (if ok then (s.softTaken t b).decoded t b l 3 data
       else if (s.blk t b).wrong then (s.softTaken t b).toParity t b l else ((s.softTaken t b).toParity t b l).codewordLost l) := by
  have waits : (s.softTaken t b).readWaits t b = some l :=
    (State.readWaits_congr ((s.softTaken_chg t b).tags rfl) ((s.softTaken_chg t b).dict rfl)).trans hw
  refine (next_when (List.contains_iff_mem.mpr hr)).trans (congrArg Host.Outcome.next ?_)
  unfold State.softTaken at waits
  simp only [waits]
  rfl

/-- While the Parity Engine works the codeword goes to step 4. -/
theorem State.toParity_rebuilds (h : s.cmp.parityFailed = false) :
    s.toParity t b l = s.setBlk t b { s.blk t b with escalation := 4 } := if_neg (by rw [h]; exact Bool.false_ne_true)

end Sys2Proof.Machine
end

section
/-! The statement about a codeword that a block of a command waits for. -/

namespace Sys2Proof

open Machine

/-- R265, R312: a codeword that decodes at steps 1 and 2. -/
theorem hardDecode_good {s : State} {tag blk l : Nat} (hw : s.readWaits tag blk = some l) (h : s.stepNow tag blk l ≤ 2) (bits : Nat)
    (data : List Byte) :
    ∃ u : State, exec (.hardDecodeDone tag blk bits true true data) s = .next (if (s.blk tag blk).mode = 0 then u.readEnd l else u) ∧
      ((s.blk tag blk).mode = 0 → (u.blk tag blk).ready = true ∧
        (u.blk tag blk).data = data.take (data.length - s.infoBytes (s.tag tag).sqe.nsid)) ∧
      ((s.blk tag blk).mode ≠ 0 → (u.blk tag blk).coded = data.take (data.length - s.infoBytes (s.tag tag).sqe.nsid)) ∧
      (u.chan (s.locChannel l)).codewords = satAdd 64 (s.chan (s.locChannel l)).codewords 1 ∧
      (u.chan (s.locChannel l)).correctedBits = satAdd 64 (s.chan (s.locChannel l)).correctedBits bits ∧
      (u.sb (s.locSb l)).refreshQueued = ((s.sb (s.locSb l)).refreshQueued || decide (s.pf 0x1B ≤ bits)) ∧
      u.media.recovered = (if 2 ≤ s.stepNow tag blk l then satAdd 64 s.media.recovered 1 else s.media.recovered) := by
  have seen := s.hardSeen_chg l bits true true
  have blk_ := s.hardSeen_blk l bits true true tag blk
  have place : (s.hardSeen l bits true true).locSb l = s.locSb l := State.locSb_congr (seen.dict rfl) l
  have info : (s.hardSeen l bits true true).infoBytes ((s.hardSeen l bits true true).tag tag).sqe.nsid =
      s.infoBytes (s.tag tag).sqe.nsid := by unfold State.infoBytes; rw [seen.tag_eq rfl, seen.ns_eq rfl]
  refine ⟨(s.hardSeen l bits true true).decodedHere tag blk l (s.stepNow tag blk l) data, ?_, ?_⟩
  · rw [exec_hardDecodeDone_early hw h, Bool.and_self, if_pos rfl, State.decoded_eq, blk_]
  · have queued := (s.hardSeen l bits true true).decodedHere_queued tag blk l (s.stepNow tag blk l) data
    rw [place, s.hardSeen_queued, decide_eq_false (by omega : ¬ 3 ≤ s.stepNow tag blk l), Bool.or_false] at queued
    rw [State.decodedHere_blk, State.decodedHere_chan, State.decodedHere_recovered, s.hardSeen_chan, s.hardCount_chan,
      s.hardSeen_recovered, blk_, info]
    exact ⟨fun hm => BlkRt.decoded_plain hm .., fun hm => BlkRt.decoded_coded hm .., rfl, rfl, queued, rfl⟩

/-- R265: a failed decode takes the next retry setting. -/
theorem hardDecode_retry {s : State} {tag blk l : Nat} (hw : s.readWaits tag blk = some l) (h : s.stepNow tag blk l ≤ 2)
    (ht : (s.blk tag blk).tries < s.retryEntries) (bits : Nat) (directed : Bool) (data : List Byte) :
    ∃ t, exec (.hardDecodeDone tag blk bits false directed data) s = .next t ∧ (t.blk tag blk).escalation = 2 ∧
      (t.blk tag blk).tries = (s.blk tag blk).tries + 1 ∧
      (t.chan (s.locChannel l)).hardFails = satAdd 64 (s.chan (s.locChannel l)).hardFails 1 := by
  have seen := s.hardSeen_chg l bits false directed
  rw [← s.hardSeen_blk l bits false directed, ← State.retryEntries_congr (seen.dict rfl)] at ht
  refine ⟨_, (exec_hardDecodeDone_failed hw h ..).trans (congrArg Host.Outcome.next (State.hardFailed_retry ht)), ?_⟩
  rw [State.setBlk_blk, (State.setBlk_chg ..).chan_eq rfl, s.hardSeen_blk, s.hardSeen_chan, s.hardCount_chan]
  exact ⟨rfl, rfl, rfl⟩

/-- R265, R313: after the last retry setting the codeword asks for a soft decoder. -/
theorem hardDecode_soft {s : State} {tag blk l : Nat} (hw : s.readWaits tag blk = some l) (h : s.stepNow tag blk l ≤ 2)
    (ht : s.retryEntries ≤ (s.blk tag blk).tries) (hs : s.cmp.softFailed.length < 8) (bits : Nat) (directed : Bool) (data : List Byte) :
    ∃ u : State, exec (.hardDecodeDone tag blk bits false directed data) s = .next (u.softPump 8) ∧ (u.blk tag blk).escalation = 3 ∧
      u.cmp.softQueue = s.cmp.softQueue ++ [(tag, blk, s.aon.now)] ∧
      (u.chan (s.locChannel l)).softDecodes = satAdd 64 (s.chan (s.locChannel l)).softDecodes 1 := by
  have seen := s.hardSeen_chg l bits false directed
  have asked := (s.hardSeen l bits false directed).softAsked_chan tag blk l
  rw [← s.hardSeen_blk l bits false directed, ← State.retryEntries_congr (seen.dict rfl)] at ht
  rw [← seen.cmp rfl] at hs
  rw [State.locChannel_congr (seen.dict rfl), s.hardSeen_chan, s.hardCount_chan] at asked
  refine ⟨_, (exec_hardDecodeDone_failed hw h ..).trans (congrArg Host.Outcome.next (State.hardFailed_soft ht hs)), ?_, ?_, ?_⟩
  · rw [State.softAsked_blk]
  · rw [← seen.cmp rfl, ← seen.aon rfl]; rfl
  · rw [asked]

/-- R311, R315: a codeword that decodes and names another block is noted, counts against its LUN, and takes the next retry setting. -/
theorem hardDecode_misdirected {s : State} {tag blk l : Nat} (hw : s.readWaits tag blk = some l) (h : s.stepNow tag blk l ≤ 2)
    (hn : (s.blk tag blk).wrong = false) (hr : (s.lun (s.locChannel l) (s.locPos l)).failRun < 63)
    (ht : (s.blk tag blk).tries < s.retryEntries) (bits : Nat) (data : List Byte) :
    ∃ t, exec (.hardDecodeDone tag blk bits true false data) s = .next t ∧ (t.blk tag blk).wrong = true ∧
      (t.blk tag blk).escalation = 2 ∧ (t.chan (s.locChannel l)).misdirected = satAdd 32 (s.chan (s.locChannel l)).misdirected 1 ∧
      (t.lun (s.locChannel l) (s.locPos l)).failRun = (s.lun (s.locChannel l) (s.locPos l)).failRun + 1 := by
  have seen := s.hardSeen_chg l bits true false
  have blk_ := s.hardSeen_blk l bits true false tag blk
  have marked := (s.hardSeen l bits true false).wrongMarked_chg tag blk l
  have markedBlk := (s.hardSeen l bits true false).wrongMarked_blk tag blk l
  have run := (s.hardSeen l bits true false).wrongMarked_failRun tag blk l
  have noted := (s.hardSeen l bits true false).wrongNoted_first (t := tag) (b := blk) (l := l)
  rw [State.locChannel_congr (seen.dict rfl), State.locPos_congr (seen.dict rfl), seen.lun_eq rfl] at run noted
  have tries : (((s.hardSeen l bits true false).wrongMarked tag blk l).blk tag blk).tries <
      ((s.hardSeen l bits true false).wrongMarked tag blk l).retryEntries := by
    rw [markedBlk, blk_, State.retryEntries_congr ((marked.dict rfl).trans (seen.dict rfl))]; exact ht
  have exec_ := exec_hardDecodeDone_early hw h bits true false data
  rw [if_neg (by decide), noted (blk_ ▸ hn) hr, State.hardFailed_retry tries] at exec_
  refine ⟨_, exec_, ?_⟩
  rw [State.setBlk_blk, markedBlk, (State.setBlk_chg ..).chan_eq rfl, marked.chan_eq rfl, s.hardSeen_chan, s.hardCount_chan,
    (State.setBlk_chg ..).lun_eq rfl, run]
  exact ⟨rfl, rfl, rfl, rfl⟩

/-- R265: a codeword that step 4 gives back. -/
theorem hardDecode_rebuilt {s : State} {tag blk l : Nat} (hw : s.readWaits tag blk = some l) (h : s.stepNow tag blk l = 4) (bits : Nat)
    (data : List Byte) :
    ∃ u : State, exec (.hardDecodeDone tag blk bits true true data) s = .next (if (s.blk tag blk).mode = 0 then u.readEnd l else u) ∧
      ((s.blk tag blk).mode = 0 → (u.blk tag blk).ready = true) ∧ u.media.recovered = satAdd 64 s.media.recovered 1 ∧
      (u.sb (s.locSb l)).refreshQueued = true := by
  refine ⟨s.decodedHere tag blk l 4 data, exec_hardDecodeDone_rebuilt hw h .., fun hm => ?_, s.decodedHere_recovered .., ?_⟩
  · rw [s.decodedHere_blk]; exact (BlkRt.decoded_plain hm ..).1
  · rw [s.decodedHere_queued]; exact Bool.or_true _

/-- R265: what step 5 answers. -/
theorem hardDecode_lost {s : State} {tag blk l : Nat} (hw : s.readWaits tag blk = some l) (h : s.stepNow tag blk l = 4) {ok directed : Bool}
    (hn : ok = false ∨ directed = false) (bits : Nat) (data : List Byte) :
    ∃ u : State, exec (.hardDecodeDone tag blk bits ok directed data) s = .next ((u.commitTag tag ⟨2, 0x81⟩).readEnd l) ∧
      (u.blk tag blk).failed = true ∧ u.media.unrecovered = satAdd 64 s.media.unrecovered 1 ∧
      u.regs.medEvent = s.regs.medEvent ||| 0x10#32 := by
  have lost : (ok && directed) = false := by
    rcases hn with rfl | rfl
    · rfl
    · exact Bool.and_false ok
  refine ⟨s.unrecoveredHere tag blk, ?_, congrArg BlkRt.failed (s.unrecoveredHere_blk tag blk), rfl, rfl⟩
  rw [exec_hardDecodeDone_rebuilt hw h, lost, if_neg Bool.false_ne_true, State.unrecovered_eq]

/-- R265, R313: a codeword that a soft decoder gives back. -/
theorem softDecode_good {s : State} {tag blk l : Nat} (hr : (tag, blk) ∈ s.cmp.softRun) (hw : s.readWaits tag blk = some l)
    (data : List Byte) :
    ∃ u : State, exec (.softDecodeDone tag blk true data) s = .next (if (s.blk tag blk).mode = 0 then u.readEnd l else u) ∧
      ((s.blk tag blk).mode = 0 → (u.blk tag blk).ready = true) ∧ u.media.recovered = satAdd 64 s.media.recovered 1 ∧
      (u.sb (s.locSb l)).refreshQueued = true := by
  have taken := s.softTaken_chg tag blk
  refine ⟨(s.softTaken tag blk).decodedHere tag blk l 3 data, ?_, fun hm => ?_, ?_, ?_⟩
  · rw [exec_softDecodeDone hr hw, if_pos rfl, State.decoded_eq, taken.blk_eq rfl]
  · rw [State.decodedHere_blk, taken.blk_eq rfl]; exact (BlkRt.decoded_plain hm ..).1
  · rw [State.decodedHere_recovered, taken.media rfl]; rfl
  · rw [← State.locSb_congr (taken.dict rfl), State.decodedHere_queued]; exact Bool.or_true _

/-- R265, R315: a codeword that fails its soft decode goes to step 4; it counts against its LUN unless it already has. -/
theorem softDecode_failed {s : State} {tag blk l : Nat} (hr : (tag, blk) ∈ s.cmp.softRun) (hw : s.readWaits tag blk = some l)
    (hp : s.cmp.parityFailed = false) (data : List Byte) :
    ((s.blk tag blk).wrong = false → (s.lun (s.locChannel l) (s.locPos l)).failRun < 63 →
      ∃ t, exec (.softDecodeDone tag blk false data) s = .next t ∧ (t.blk tag blk).escalation = 4 ∧
        (t.lun (s.locChannel l) (s.locPos l)).failRun = (s.lun (s.locChannel l) (s.locPos l)).failRun + 1) ∧
    ((s.blk tag blk).wrong = true →
      ∃ t, exec (.softDecodeDone tag blk false data) s = .next t ∧ (t.blk tag blk).escalation = 4 ∧ t.luns = s.luns) := by
  have exec_ := exec_softDecodeDone hr hw false data
  rw [if_neg Bool.false_ne_true, State.toParity_rebuilds ((s.softTaken_parityFailed tag blk).trans hp)] at exec_
  have fourth : (((s.softTaken tag blk).setBlk tag blk { (s.softTaken tag blk).blk tag blk with escalation := 4 }).blk tag blk).escalation = 4 :=
    congrArg BlkRt.escalation (State.setBlk_blk ..)
  have kept : Chg 2147491840 s _ := (State.setBlk_chg _ tag blk { (s.softTaken tag blk).blk tag blk with escalation := 4 }).step
    ((s.softTaken_chg tag blk).mono (by decide)) (by decide)
  generalize (s.softTaken tag blk).setBlk tag blk _ = u at exec_ fourth kept
  refine ⟨fun hn hf => ?_, fun hn => ⟨u, by rw [exec_, if_pos hn], fourth, kept.luns rfl⟩⟩
  have run := u.lunMissed_failRun l
  rw [State.locChannel_congr (kept.dict rfl), State.locPos_congr (kept.dict rfl), kept.lun_eq rfl] at run
  have lost : u.codewordLost l = u.lunMissed l := State.codewordLost_counts (by
    rw [State.locChannel_congr (kept.dict rfl), State.locPos_congr (kept.dict rfl), kept.lun_eq rfl]; exact hf)
  refine ⟨u.lunMissed l, ?_, ?_, run⟩
  · rw [exec_, hn, if_neg Bool.false_ne_true, lost]
  · rw [(u.lunMissed_chg l).blk_eq rfl, fourth]

/-- Settles O39. That the event carries the result of the reconstruction while a block is at step 4 is the model's choice (log entry 98). -/
theorem readEscalation : Obligations.ReadEscalation := by
  unfold Obligations.ReadEscalation
  refine ⟨fun s tag blk bits l ok directed data hw => ⟨fun h hok hd => ?_, fun h hok ht => ?_, fun h hok ht hs => ?_,
    fun h hok hd _ hn hr ht => ?_, fun h hok hd => ?_, fun h hn => hardDecode_lost hw h hn bits data⟩,
    fun s tag blk l ok data hr hw => ⟨fun hok => ?_, fun hok hp hn hf => ?_, fun hok hp hn => ?_⟩⟩ <;> subst hok
  · subst hd; exact hardDecode_good hw h bits data
  · exact hardDecode_retry hw h ht bits directed data
  · exact hardDecode_soft hw h ht hs bits directed data
  · subst hd; exact hardDecode_misdirected hw h hn hr ht bits data
  · subst hd; exact hardDecode_rebuilt hw h bits data
  · exact softDecode_good hr hw data
  · exact (softDecode_failed hr hw hp data).1 hn hf
  · exact (softDecode_failed hr hw hp data).2 hn

end Sys2Proof
end

section
/-! SUPPORT. What the moves of the media tasks leave alone (R225, R232, R246 to R249): a superblock that drains goes on draining with its
row as it was, no refresh is queued, and the clock of wear levelling and the count of refreshes for reads stand. -/

namespace Sys2Proof.Machine

/-- What a move leaves of a superblock: no refresh is queued, and one that drains goes on draining with its row. -/
structure Sb.Keeps (x y : Sb) : Prop where
  calm : x.refreshQueued = false → y.refreshQueued = false
  drains : x.st = .draining → y.st = .draining ∧ y.row = x.row

namespace Sb.Keeps

variable {x y z : Sb}

theorem refl (x : Sb) : x.Keeps x := ⟨id, fun h => ⟨h, rfl⟩⟩

theorem trans (h1 : x.Keeps y) (h2 : y.Keeps z) : x.Keeps z :=
  ⟨fun h => h2.calm (h1.calm h), fun h => ⟨(h2.drains (h1.drains h).1).1, (h2.drains (h1.drains h).1).2.trans (h1.drains h).2⟩⟩

theorem of_eq (hq : y.refreshQueued = x.refreshQueued) (hs : y.st = x.st) (hr : y.row = x.row) : x.Keeps y :=
  ⟨fun h => hq.trans h, fun h => ⟨hs.trans h, hr⟩⟩

/-- A superblock that does not drain may change its state and its row. -/
theorem of_calm (hq : y.refreshQueued = x.refreshQueued) (hs : x.st ≠ .draining) : x.Keeps y :=
  ⟨fun h => hq.trans h, fun h => absurd h hs⟩

end Sb.Keeps

/-- From `s` to `t` moves were issued and places were taken for them, and nothing else of the media tasks went on. -/
structure MovesKeep (s t : State) : Prop where
  checked : t.media.wearChecked = s.media.wearChecked
  refreshes : t.media.readRefreshes = s.media.readRefreshes
  sb : ∀ k, (s.sb k).Keeps (t.sb k)

namespace MovesKeep

variable {s t u : State}

theorem refl (s : State) : MovesKeep s s := ⟨rfl, rfl, fun _ => .refl _⟩

theorem step (h2 : MovesKeep t u) (h : MovesKeep s t) : MovesKeep s u :=
  ⟨h2.checked.trans h.checked, h2.refreshes.trans h.refreshes, fun k => (h.sb k).trans (h2.sb k)⟩

/-- A change that leaves the media alone. -/
theorem of_chg {m : Nat} (h : Chg m s t) (hm : m.testBit 29 = false) : MovesKeep s t := by
  have media := h.media hm
  exact ⟨by rw [media], by rw [media], fun k => by rw [h.sb_eq hm]; exact .refl _⟩

theorem ite {c : Prop} [Decidable c] (ht : c → MovesKeep s t) (hu : ¬ c → MovesKeep s u) : MovesKeep s (if c then t else u) := by
  split
  · exact ht ‹_›
  · exact hu ‹_›

theorem forEach {α : Type} {l : List α} {f : α → State → State} (hf : ∀ x t, MovesKeep t (f x t)) (h : MovesKeep s t) :
    MovesKeep s (t.forEach l f) :=
  State.forEach_induct (P := MovesKeep s) h fun x _ t ht => (hf x t).step ht

theorem setSb {k : Nat} {x : Sb} (h : MovesKeep s t) (hx : (t.sb k).Keeps x) : MovesKeep s (t.setSb k x) := by
  refine step (t := t) ⟨rfl, rfl, fun j => ?_⟩ h
  by_cases e : k = j
  · subst e; rw [State.setSb_sb]; exact hx
  · rw [State.setSb_sb_ne _ _ e]; exact .refl _

/-- A change of the media beside its superblocks, the clock of wear levelling and the count of refreshes. -/
theorem u_media (h : MovesKeep s t) (x : Media) (hs : x.sbs = t.media.sbs) (hc : x.wearChecked = t.media.wearChecked)
    (hr : x.readRefreshes = t.media.readRefreshes) : MovesKeep s { t with media := x } :=
  step (t := t) ⟨hc, hr, fun k => by
    rw [show ({ t with media := x } : State).sb k = t.sb k from congrArg (fun l => Tbl.get ({} : Sb) l k) hs]; exact .refl _⟩ h

theorem setProg (h : MovesKeep s t) (k : Nat) (x : Prog) : MovesKeep s (t.setProg k x) := h.u_media _ rfl rfl rfl

end MovesKeep

/-! ### Places in open superblocks (R246 to R249) -/

/-- A choice that keeps its candidate or takes the next one is a choice from the list. -/
theorem foldl_choice_mem {α : Type} {f : Option α → α → Option α} (hf : ∀ m x, f m x = m ∨ f m x = some x) {l : List α} {y : α}
    (h : l.foldl f none = some y) : y ∈ l := by
  refine List.foldlRecOn (motive := fun m => m = some y → y ∈ l) l f (by simp : (none : Option α) = some y → y ∈ l)
    (fun m hm x hx e => ?_) h
  rcases hf m x with k | k
  · exact hm (k.symm.trans e)
  · cases k.symm.trans e; exact hx

/-- Only a Free superblock is allocated. -/
theorem State.sbAlloc_moves (s : State) (kind : SbKind) (group handle : Nat) (ok : Nat → Bool) :
    MovesKeep s (s.sbAlloc kind group handle ok).1 := by
  unfold State.sbAlloc
  dsimp only
  split
  · exact .refl s
  · rename_i k best
    have may := (List.mem_filter.mp (foldl_choice_mem (fun m x => ?_) best)).2
    simp only [State.mayAlloc, Bool.and_eq_true, decide_eq_true_eq] at may
    obtain ⟨⟨⟨⟨free, -⟩, -⟩, -⟩, -⟩ := may
    refine (MovesKeep.of_chg (State.section__chg _) rfl).step ((MovesKeep.refl s).setSb ⟨fun _ => rfl, fun h => ?_⟩)
    · rw [free] at h; cases h
    · cases m with
      | none => exact .inr rfl
      | some b => exact (ite_eq_or_eq ..).symm

theorem State.pageStart_moves {s : State} {k : Nat} (h : (s.sb k).st ≠ .draining) (i : Nat) : MovesKeep s (s.pageStart k i) := by
  unfold State.pageStart
  dsimp only
  split
  · exact .refl s
  · refine .ite (fun _ => .refl s) fun _ => ?_
    refine .u_media (.setProg (.setSb (.refl s) ?_) ..) _ rfl rfl rfl
    exact .of_calm rfl h

theorem State.pageFull_moves {s : State} {k : Nat} (h : (s.sb k).st ≠ .draining) (i : Nat) : MovesKeep s (s.pageFull k i) := by
  unfold State.pageFull
  split
  · exact .ite (fun _ => State.pageStart_moves h i) (fun _ => .refl s)
  · exact .refl s

/-- A superblock that does not drain gets a slot, and the page that is full with it starts. -/
theorem State.setSb_pageFull_moves {s t : State} {k : Nat} {x : Sb} (h : MovesKeep s t) (hx : (t.sb k).Keeps x) (hs : x.st ≠ .draining)
    (i : Nat) : MovesKeep s ((t.setSb k x).pageFull k i) :=
  (State.pageFull_moves (by rw [State.setSb_sb]; exact hs) i).step (h.setSb hx)

theorem State.rowPut_moves {s t : State} {k : Nat} {kind : ProgKind} {it : ProgItem} (hk : (s.sb k).st ≠ .draining)
    (h : s.rowPut k kind it = some t) : MovesKeep s t := by
  unfold State.rowPut at h
  dsimp only at h
  generalize hy : (if (s.sb k).row.isEmpty then { s.sb k with rowOn := s.dataMembers k, rowSince := s.aon.now } else s.sb k) = y at h
  have same : y.st = (s.sb k).st ∧ y.refreshQueued = (s.sb k).refreshQueued := by subst hy; split <;> exact ⟨rfl, rfl⟩
  have opened : MovesKeep s (s.setSb k y) := (MovesKeep.refl s).setSb (.of_calm same.2 hk)
  have open_ : y.st ≠ .draining := same.1 ▸ hk
  have slot : ∀ x : Sb, x.refreshQueued = y.refreshQueued → ((s.setSb k y).sb k).Keeps x := fun x hx => by
    rw [State.setSb_sb]; exact .of_calm hx open_
  split at h
  · cases h
    refine State.setSb_pageFull_moves opened (slot _ ?_) ?_ _
    · rfl
    · exact open_
  · split at h
    · cases h
      refine State.setSb_pageFull_moves opened (slot _ ?_) ?_ _
      · rfl
      · exact open_
    · cases h

theorem mem_of_mem_sortBy {α : Type} {le : α → α → Bool} {l : List α} {x : α} (h : x ∈ sortBy le l) : x ∈ l := by
  have inserted : ∀ (y : α) (l : List α), x ∈ insertBy le y l → x = y ∨ x ∈ l := fun y l h => by
    induction l with
    | nil => exact .inl (List.mem_singleton.mp h)
    | cons z l ih =>
      unfold insertBy at h
      split at h
      · rcases List.mem_cons.mp h with rfl | h
        · exact .inr List.mem_cons_self
        · exact (ih h).imp id (List.mem_cons_of_mem _)
      · exact List.mem_cons.mp h
  refine List.foldlRecOn (motive := fun acc => x ∈ acc → x ∈ l) l _ (fun h => absurd h List.not_mem_nil) (fun acc hacc y hy h => ?_) h
  rcases inserted y acc h with rfl | h
  · exact hy
  · exact hacc h

/-- A superblock that takes slots is Open. -/
theorem State.openSbs_open {s : State} {kind : SbKind} {group handle k : Nat} (h : k ∈ s.openSbs kind group handle) :
    (s.sb k).st = .open_ := by
  unfold State.openSbs at h
  dsimp only at h
  have listed := (List.mem_append.mp h).elim List.mem_of_mem_filter fun h => List.mem_of_mem_filter (mem_of_mem_sortBy h)
  obtain ⟨x, hx, rfl⟩ := List.mem_map.mp listed
  have may : s.rowMay x.1 = true := (Bool.and_eq_true_iff.mp (List.mem_filter.mp hx).2).2
  simp only [State.rowMay, Bool.and_eq_true, decide_eq_true_eq] at may
  obtain ⟨⟨⟨⟨open_, -⟩, -⟩, -⟩, -⟩ := may
  exact open_

theorem State.slotPut_moves {s t : State} {kind : ProgKind} {dest : SbKind} {group handle : Nat} {it : ProgItem}
    (h : s.slotPut kind dest group handle it = some t) : MovesKeep s t := by
  obtain ⟨k, mem, hk⟩ := List.exists_of_findSome?_eq_some h
  exact State.rowPut_moves (by rw [State.openSbs_open mem]; decide) hk

/-! ### Moves of slots (R225, R251, R258, R263, R270) -/

theorem State.moveIssue_moves (s : State) (kind : ProgKind) (dest : SbKind) (group handle n lba : Nat) (e : MEnt) :
    MovesKeep s (s.moveIssue kind dest group handle n lba e) := by
  have drawn : MovesKeep s (s.seqDraw 1) := .of_chg (s.seqDraw_chg 1) rfl
  unfold State.moveIssue
  refine .ite (fun _ => .refl s) fun _ => .ite (fun _ => (MovesKeep.refl s).u_media _ rfl rfl rfl) fun _ => ?_
  dsimp only
  split
  · rename_i h; exact (State.slotPut_moves h).step drawn
  · refine .ite (fun _ => drawn.u_media _ rfl rfl rfl) fun _ => ?_
    have alloc := ((s.seqDraw 1).sbAlloc_moves dest group handle (fun _ => true)).step drawn
    split
    · rename_i h; rw [h] at alloc; exact alloc.u_media _ rfl rfl rfl
    · rename_i h; rw [h] at alloc; exact alloc.u_media _ rfl rfl rfl

theorem State.relocate_moves (s : State) (kind : ProgKind) (p : Nat → Bool) (dest : Nat → Option SbKind) :
    MovesKeep s (s.relocate kind p dest) := by
  refine MovesKeep.forEach (fun x t => ?_) (.refl s)
  dsimp only
  split
  · exact State.moveIssue_moves ..
  · exact State.moveIssue_moves ..
  · exact .refl t

/-! ### Moves of zones (R232) -/

theorem State.zonePlace_moves (s : State) (n : Nat) (except : Nat → Bool) : MovesKeep s (s.zonePlace n except).1 := by
  unfold State.zonePlace
  dsimp only
  split
  · exact (MovesKeep.refl s).setSb (.of_eq rfl rfl rfl)
  · have alloc := s.sbAlloc_moves .zone 0 0 (fun k => decide (s.zoneRows n k ≤ s.wordlines))
    split
    · rename_i h; rw [h] at alloc; exact alloc.setSb (.of_eq rfl rfl rfl)
    · rename_i h; rw [h] at alloc; exact alloc

/-- The granules of a zone leave its old superblock. -/
def State.extentLeft (s : State) (k g : Nat) : State := s.setSb k { s.sb k with valid := (s.sb k).valid - g }

/-- The granules of a zone come to a superblock. -/
def State.extentTaken (s : State) (k g : Nat) : State := s.setSb k { s.sb k with valid := (s.sb k).valid + g }

/-- The block of a zone of so many blocks at a place of its old extent. -/
def State.extentBlock (s : State) (n z zs l : Nat) : Option Nat :=
  ((List.range zs).find? (fun b => s.zoneLoc n z b / 4 == l / 4)).map (fun b => b)

/-- The entries of a compressed zone follow its extent. -/
def State.entriesFollow (s : State) (n z old : Nat) (moved : Nat → Option Nat) : State :=
  s.forEach (s.entsOf n (fun l => l / s.zsize n == z)) (fun m t =>
    if m.2.onFlash && t.locSb m.2.loc == old then
      match moved m.2.loc with
      | some b => t.setMent n m.1 { m.2 with loc := t.zoneLoc n z b + m.2.loc % 4 }
      | none => t
    else t)

/-- The old superblock of a zone waits for the record of the move. -/
def State.extentStamped (s : State) (k : Nat) : State := s.setSb k { s.sb k with lastMoveJseq := s.jrn.next - 1 }

/-- A zone with its new extent, and its entries with it. -/
def State.extentMoved (s : State) (n z old e g : Nat) : State :=
  let t := s.extentLeft old g
  (t.setZone n z { t.zone n z with extent := e }).entriesFollow n z old (s.extentBlock n z (t.zsize n))

/-- A zone that finds a place goes there, in one decision (R232). -/
def State.zoneRehomed (s : State) (n z old e g : Nat) : State :=
  let t := s.extentMoved n z old e g
  ((t.extentTaken (t.locSb e) g).zoneJournal n z).extentStamped old

theorem State.zoneRelocate_eq (s : State) (n z : Nat) (except : Nat → Bool) : s.zoneRelocate n z except =
    match (s.seqDraw 1).zonePlace n except with
    | (s1, none) => { s1 with media := { s1.media with stranded := satAdd 64 s1.media.stranded 1 } }
    | (s1, some e) => s1.zoneRehomed n z (s.locSb (s.zone n z).extent) e (s.zone n z).charge := rfl

theorem State.extentLeft_moves (s : State) (k g : Nat) : MovesKeep s (s.extentLeft k g) := (MovesKeep.refl s).setSb (.of_eq rfl rfl rfl)

theorem State.extentTaken_moves (s : State) (k g : Nat) : MovesKeep s (s.extentTaken k g) := (MovesKeep.refl s).setSb (.of_eq rfl rfl rfl)

theorem State.extentStamped_moves (s : State) (k : Nat) : MovesKeep s (s.extentStamped k) := (MovesKeep.refl s).setSb (.of_eq rfl rfl rfl)

theorem State.entriesFollow_chg (s : State) (n z old : Nat) (moved : Nat → Option Nat) :
    Chg 67108864 s (s.entriesFollow n z old moved) := by
  refine .forEach (fun m t => .ite ?_ (.refl _ t)) (.refl _ s)
  split
  · exact State.setMent_chg ..
  · exact .refl _ t

theorem State.extentMoved_moves (s : State) (n z old e g : Nat) : MovesKeep s (s.extentMoved n z old e g) :=
  MovesKeep.step (.of_chg ((State.entriesFollow_chg ..).step ((State.setZone_chg ..).mono (by decide : _ ||| 83886080 = _)) (by decide)) rfl)
    (s.extentLeft_moves old g)

theorem State.zoneRehomed_moves (s : State) (n z old e g : Nat) : MovesKeep s (s.zoneRehomed n z old e g) :=
  (State.extentStamped_moves ..).step (MovesKeep.step (.of_chg (State.zoneJournal_chg ..) rfl)
    ((State.extentTaken_moves ..).step (s.extentMoved_moves n z old e g)))

theorem State.zoneRelocate_moves (s : State) (n z : Nat) (except : Nat → Bool) : MovesKeep s (s.zoneRelocate n z except) := by
  have placed := ((s.seqDraw 1).zonePlace_moves n except).step (.of_chg (s.seqDraw_chg 1) rfl)
  rw [s.zoneRelocate_eq]
  split
  · rename_i h; rw [h] at placed; exact placed.u_media _ rfl rfl rfl
  · rename_i h; rw [h] at placed; exact (State.zoneRehomed_moves ..).step placed

theorem State.zonesOut_moves (s : State) (k : Nat) (except : Nat → Bool) : MovesKeep s (s.zonesOut k except) :=
  .forEach (fun _ t => t.zoneRelocate_moves ..) (.refl s)

/-! ### Draining -/

theorem State.sbDrain_closed {s : State} {k : Nat} (h : (s.sb k).st = .closed) :
    s.sbDrain k = s.setSb k { s.sb k with st := .draining } := if_pos h

theorem State.sbDrain_moves (s : State) (k : Nat) : MovesKeep s (s.sbDrain k) :=
  .ite (fun h => (MovesKeep.refl s).setSb (.of_calm rfl (by rw [h]; decide))) fun _ => .refl s

/-- The slots of a Closed superblock are moved: it drains, its row stands, and the map does not change yet. -/
theorem State.drained_sb {s t : State} {k : Nat} (h : (s.sb k).st = .closed) (moves : MovesKeep (s.sbDrain k) t) :
    (t.sb k).st = .draining ∧ (t.sb k).row = (s.sb k).row := by
  have sb : (s.sbDrain k).sb k = { s.sb k with st := .draining } := by rw [State.sbDrain_closed h, State.setSb_sb]
  have kept := (moves.sb k).drains (by rw [sb])
  rw [sb] at kept
  exact kept

/-- An event of the FDP log, where a condition holds, changes the pool alone. -/
theorem State.fdpNoted_chg (s : State) (c : Bool) (ev : Nat) : Chg 33554432 s (s.also c (fun t => t.fdpEvent ev)) :=
  .also (s.fdpEvent_chg ev) (.refl _ s)

end Sys2Proof.Machine
end

section
/-! SUPPORT. The media tasks (R251, R256 to R264, R270): one equation for each command and case, the superblock that a choice takes, and
what a task leaves of its superblock, its counters and the map. -/

namespace Sys2Proof.Machine

variable {s w : State} {g k : Nat}

/-! ### The superblock that comes first by two numbers (R258, R262) -/

theorem le_of_mem_argmin_lex {α : Type} {f g : α → Nat} {l : List α} {x y : α} (hx : x ∈ l)
    (hy : y ∈ l.argmin (fun z => toLex (f z, g z))) : f y < f x ∨ f y = f x ∧ g y ≤ g x :=
  Prod.Lex.toLex_le_toLex.mp (List.le_of_mem_argmin hx hy)

/-- A choice that keeps the first of the least, by `f` and then by `g`. -/
theorem foldl_eq_argmin_lex {α : Type} {f g : α → Nat} {c : Option α → α → Option α} (hn : ∀ x, c none x = some x)
    (hs : ∀ b x, c (some b) x = if f x < f b ∨ f x = f b ∧ g x < g b then some x else some b) (l : List α) :
    l.foldl c none = l.argmin (fun z => toLex (f z, g z)) := by
  unfold List.argmin
  congr 1
  funext m x
  cases m with
  | none => exact hn x
  | some b =>
    rw [hs]
    exact if_congr (Prod.Lex.toLex_lt_toLex (x := (f x, g x)) (y := (f b, g b))).symm rfl rfl

/-- The candidates of a reclaim group. -/
def State.gcCandidates (s : State) (g : Nat) : List (Nat × Sb) := s.media.sbs.filter (fun x => s.gcCandidate g x.1 x.2)

theorem State.gcVictim_eq_argmin (s : State) (g : Nat) : s.gcVictim g =
    ((s.gcCandidates g).argmin (fun x => toLex (x.2.valid, x.2.closedAt))).map (fun x => x.1) :=
  congrArg (Option.map _) (foldl_eq_argmin_lex (fun _ => rfl) (fun _ _ => rfl) _)

/-- The victim is a candidate, and no candidate has fewer valid granules, or as many and an earlier close. -/
theorem State.gcVictim_least (h : s.gcVictim g = some k) {x : Nat × Sb} (hx : x ∈ s.gcCandidates g) :
    ∃ y ∈ s.gcCandidates g, y.1 = k ∧ (y.2.valid < x.2.valid ∨ y.2.valid = x.2.valid ∧ y.2.closedAt ≤ x.2.closedAt) := by
  rw [s.gcVictim_eq_argmin] at h
  obtain ⟨y, hy, rfl⟩ := Option.map_eq_some_iff.mp h
  exact ⟨y, List.argmin_mem hy, rfl, le_of_mem_argmin_lex (f := fun x => x.2.valid) hx hy⟩

/-- The Closed superblocks that levelling may move. -/
def State.wearSources (s : State) : List (Nat × Sb) :=
  s.media.sbs.filter (fun x => x.2.st = .closed && (x.2.kind = .dense || x.2.kind = .slc || x.2.kind = .zone))

theorem State.wearSource_eq_argmin (s : State) :
    s.wearSource = s.wearSources.argmin (fun x => toLex (x.2.wear, x.2.closedAt)) :=
  foldl_eq_argmin_lex (fun _ => rfl) (fun _ _ => rfl) _

theorem State.wearSource_least {y : Nat × Sb} (h : s.wearSource = some y) {x : Nat × Sb} (hx : x ∈ s.wearSources) : y.2.wear ≤ x.2.wear := by
  rw [s.wearSource_eq_argmin] at h
  have := le_of_mem_argmin_lex (f := fun x => x.2.wear) hx h
  omega

/-! ### FOLD_TASK, FOLD_IDLE_TIMER (R251) -/

/-- A superblock drains into others. -/
def State.drainedTo (s : State) (kind : ProgKind) (k : Nat) (dest : Nat → Option SbKind) : State :=
  (s.sbDrain k).relocate kind (fun l => s.locSb l == k) dest

/-- Folding ends with the last Closed superblock of the SLC region. -/
def State.foldWatch (s : State) : State := if s.foldOrder.isEmpty then { s with media := { s.media with folding := false } } else s

theorem State.foldWatch_sb (s : State) (k : Nat) : s.foldWatch.sb k = s.sb k := by
  unfold State.foldWatch
  split <;> rfl

theorem State.foldWatch_map (s : State) : s.foldWatch.map = s.map := by
  unfold State.foldWatch
  split <;> rfl

theorem State.drainedTo_chg (s : State) (kind : ProgKind) (k : Nat) (dest : Nat → Option SbKind) :
    Chg 1610612736 s (s.drainedTo kind k dest) := (State.relocate_chg ..).step ((s.sbDrain_chg k).mono (by decide)) (by decide)

theorem State.drainedTo_sb (h : (s.sb k).st = .closed) (kind : ProgKind) (dest : Nat → Option SbKind) :
    ((s.drainedTo kind k dest).sb k).st = .draining ∧ ((s.drainedTo kind k dest).sb k).row = (s.sb k).row :=
  State.drained_sb h (State.relocate_moves ..)

theorem exec_foldTask (hw : w = s.boundary 0x6402) (hu : w.upkeepMay = true) (hf : w.foldMay = true) (ho : w.foldOrder.head? = some k) :
    exec (.foldTask k) s = .next (w.drainedTo .fold k (fun _ => some .dense)).foldWatch.mediaPump := by
  subst hw
  exact next_when (by rw [hu, hf, ho]; exact beq_self_eq_true _)

theorem exec_foldIdleTimer (hu : s.upkeepMay = true) (hf : s.media.folding = false) (hn : s.slcUsed ≠ 0)
    (he : s.elapsed s.pool.lastWriteAt 10000000000 = true) :
    exec .foldIdleTimer s = .next { s with media := { s.media with folding := true } } := by
  have he : s.elapsed s.pool.lastWriteAt (10 * Machine.sec) = true := he
  exact next_when (by rw [hu, hf, he, bne_iff_ne.mpr hn]; rfl)

/-! ### GC_TASK (R258) -/

/-- A dense victim drains, and the FDP log hears of it. -/
def State.collected (s : State) (k : Nat) : State :=
  (s.drainedTo .collect k (fun _ => some .dense)).also (s.fdpHeld k) (fun t => t.fdpEvent 0x80)

/-- The zones of a sparse lane of a victim move out. -/
def State.lanesOut (s : State) (k : Nat) : State :=
  s.forEach ((s.zonesIn k).filter (fun z => (List.range s.planes).any (fun q => s.laneSparse k q && s.zoneInLane k q z)))
    (fun z t => t.zoneRelocate z.1 z.2 (fun j => j == k))

theorem exec_gcTask (hw : w = s.boundary 0x6402) (hu : w.upkeepMay = true) (hg : g < w.groupCount) (ht : w.gcTerm g ≠ 0)
    (hv : w.gcVictim g = some k) : exec (.gcTask g) s =
      .next (if (w.sb k).kind = .zone then (w.lanesOut k).mediaPump else (w.collected k).mediaPump) := by
  subst hw
  refine (next_when (by rw [hu, decide_eq_true hg, bne_iff_ne.mpr ht, hv]; rfl)).trans (congrArg Host.Outcome.next ?_)
  rw [hv]
  rfl

theorem State.collected_sb (s : State) (k : Nat) : (s.collected k).sb k = (s.drainedTo .collect k (fun _ => some .dense)).sb k :=
  (State.fdpNoted_chg ..).sb_eq rfl k

theorem State.collected_map (s : State) (k : Nat) : (s.collected k).map = s.map :=
  ((State.fdpNoted_chg ..).map rfl).trans ((State.drainedTo_chg ..).map rfl)

/-! ### WEAR_LEVEL_HOURLY (R262) -/

theorem State.wearMove_moves (s : State) : MovesKeep s s.wearMove := by
  unfold State.wearMove
  split
  · exact .refl s
  · rename_i k x _
    split
    · exact .refl s
    · have opened := fun ok => ((s.sbDrain k).sbAlloc_moves x.kind x.group 255 ok).step (s.sbDrain_moves k)
      dsimp only
      split
      · exact (State.zonesOut_moves ..).step (opened _)
      · exact .forEach (fun _ t => t.moveIssue_moves ..) (opened _)

theorem State.wearMoves_moves (s : State) (n : Nat) : MovesKeep s (s.wearMoves n) := by
  induction n generalizing s with
  | zero => exact .refl s
  | succ n ih => exact .ite (fun _ => (ih _).step s.wearMove_moves) fun _ => .refl s

theorem State.wearMoves_even (h : s.wearSpread = false) (n : Nat) : s.wearMoves n = s := by
  cases n with
  | zero => rfl
  | succ n => exact if_neg (by rw [h]; exact Bool.false_ne_true)

/-- The hour of wear levelling begins again. -/
def State.wearClocked (s : State) : State := { s with media := { s.media with wearChecked := s.aon.now } }

/-- The moves of one hour, and the event of the FDP log. -/
def State.wearLevelled (s : State) : State :=
  (s.wearClocked.wearMoves (s.cfg 0x6402 8)).also (s.wearSpread && s.wearSource.any (fun x => s.fdpHeld x.1)) (fun t => t.fdpEvent 0x80)

theorem exec_wearLevelHourly (hw : w = s.boundary 0x6402) (hu : w.upkeepMay = true) (he : w.elapsed w.media.wearChecked hour = true) :
    exec .wearLevelHourly s = .next w.wearLevelled.mediaPump := by
  subst hw
  exact next_when (by rw [hu, he]; rfl)

theorem State.wearLevelled_media (s : State) : s.wearLevelled.media = (s.wearClocked.wearMoves (s.cfg 0x6402 8)).media :=
  (State.fdpNoted_chg ..).media rfl

/-! ### IDLE_CLOSURE (R256) -/

/-- A closure by filler is counted, and reported. -/
def State.closureNoted (s : State) (k : Nat) : State :=
  ({ s with media := { s.media with fillerCloses := satAdd 32 s.media.fillerCloses 1 } }.medBit 6).also
    (decide ((s.sb k).kind = SbKind.dense)) (fun t => t.fdpEvent 0)

theorem State.closureNoted_media (s : State) (k : Nat) :
    (s.closureNoted k).media = { s.media with fillerCloses := satAdd 32 s.media.fillerCloses 1 } := (State.fdpNoted_chg ..).media rfl

/-- The rows of a zone superblock's lanes once the lanes that no active zone holds are full. -/
def State.lanesFilled (s : State) (k : Nat) (l : List Nat) : Tbl Nat :=
  l.foldl (fun t q => if s.laneHeld k q then t else Tbl.set 0 t q s.wordlines) (s.sb k).laneRow

theorem State.fillerClose_zone (h : (s.sb k).kind = .zone) : s.fillerClose k = (s.closureNoted k).setSb k
    { s.sb k with lastProgram := s.aon.now, laneRow := s.lanesFilled k (List.range s.planes) } := if_pos h

theorem State.fillerClose_rowless (h : (s.sb k).kind ≠ .zone) (hr : (s.sb k).row = []) : s.fillerClose k = (s.closureNoted k).setSb k
    { s.sb k with rows := s.wordlines, st := .closed, closedAt := s.aon.now, lastProgram := s.aon.now } :=
  (if_neg h).trans (if_pos (by rw [hr]; rfl))

theorem State.fillerClose_row (h : (s.sb k).kind ≠ .zone) (hr : (s.sb k).row ≠ []) : s.fillerClose k =
    ((s.closureNoted k).setSb k { s.sb k with filler := true }).forEach (List.range (s.sb k).row.length) (fun i t => t.pageStart k i) :=
  (if_neg h).trans (if_neg (by rw [List.isEmpty_eq_false_iff.mpr hr]; exact Bool.false_ne_true))

theorem State.pageStart_fillerCloses (s : State) (k i : Nat) : (s.pageStart k i).media.fillerCloses = s.media.fillerCloses := by
  unfold State.pageStart
  dsimp only
  split
  · rfl
  · split <;> rfl

/-- The start of a page changes its row and nothing else of its superblock. -/
theorem State.pageStart_sb (s : State) (k i : Nat) : ∃ row, (s.pageStart k i).sb k = { s.sb k with row := row } := by
  unfold State.pageStart
  dsimp only
  split
  · exact ⟨_, rfl⟩
  · split
    · exact ⟨_, rfl⟩
    · exact ⟨_, State.setSb_sb ..⟩

theorem State.pagesStart_sb (s : State) (k : Nat) (l : List Nat) :
    ∃ row, (s.forEach l (fun i t => t.pageStart k i)).sb k = { s.sb k with row := row } :=
  State.forEach_induct (P := fun t => ∃ row, t.sb k = { s.sb k with row := row }) ⟨_, rfl⟩ fun i _ t ⟨row, h⟩ => by
    obtain ⟨row', h'⟩ := t.pageStart_sb k i
    exact ⟨row', by rw [h', h]⟩

theorem State.fillerClose_counts (s : State) (k : Nat) : (s.fillerClose k).media.fillerCloses = satAdd 32 s.media.fillerCloses 1 := by
  have noted := congrArg Media.fillerCloses (s.closureNoted_media k)
  by_cases h : (s.sb k).kind = .zone
  · rw [State.fillerClose_zone h]; exact noted
  · by_cases hr : (s.sb k).row = []
    · rw [State.fillerClose_rowless h hr]; exact noted
    · rw [State.fillerClose_row h hr, State.forEach_keeps (π := fun t => t.media.fillerCloses) (fun i t => t.pageStart_fillerCloses k i)]
      exact noted

/-- Every lane that no active zone holds is full. -/
theorem State.lanesFilled_free {q : Nat} (h : s.laneHeld k q = false) {l : List Nat} (hq : q ∈ l) :
    Tbl.get 0 (s.lanesFilled k l) q = s.wordlines := by
  have keeps : ∀ (l : List Nat) (t : Tbl Nat), Tbl.get 0 t q = s.wordlines →
      Tbl.get 0 (l.foldl (fun t q => if s.laneHeld k q then t else Tbl.set 0 t q s.wordlines) t) q = s.wordlines := fun l t ht => by
    refine List.foldlRecOn (motive := fun t => Tbl.get 0 t q = s.wordlines) l _ ht fun t ht j _ => ?_
    split
    · exact ht
    · by_cases e : j = q
      · subst e; exact Tbl.get_set_same ..
      · rw [Tbl.get_set_ne _ _ _ e]; exact ht
  obtain ⟨before, after, rfl⟩ := List.append_of_mem hq
  unfold State.lanesFilled
  rw [List.foldl_append, List.foldl_cons, h]
  exact keeps after _ (Tbl.get_set_same ..)

theorem exec_idleClosure (hu : s.upkeepMay = true) (hc : s.closable_ k = true)
    (he : s.elapsed (s.sb k).lastProgram (s.pf 0x1A * Machine.sec / 2) = true) :
    exec (.idleClosure k) s = .next (s.fillerClose k).mediaPump := next_when (by rw [hu, hc, he]; rfl)

/-! ### REFRESH_TASK (R263) -/

/-- The refresh of a superblock begins: it is queued no more, and a Closed one drains. -/
def State.refreshBegun (s : State) (k : Nat) : State := (s.setSb k { s.sb k with refreshQueued := false }).sbDrain k

/-- A refresh that reads have raised is counted. -/
def State.refreshCounted (s : State) (raised : Bool) : State :=
  if raised then { s with media := { s.media with readRefreshes := satAdd 64 s.media.readRefreshes 1 } } else s

/-- What a superblock's refresh moves. -/
def State.refreshOut (s t : State) (k : Nat) : State :=
  if (s.sb k).kind = .zone then t.zonesOut k (fun j => j == k)
  else (t.relocate .refresh (fun l => s.locSb l == k) s.sameKind).also (s.fdpHeld k) (fun t => t.fdpEvent 0x80)

/-- The state after a refresh task, before the pumps. -/
def State.refreshed (s : State) (k : Nat) : State := s.refreshOut ((s.refreshBegun k).refreshCounted (s.sb k).refreshRaised) k

theorem exec_refreshTask (hu : s.upkeepMay = true) (hq : (s.sb k).refreshQueued = true) :
    exec (.refreshTask k) s = .next (s.refreshed k).mediaPump := next_when (by rw [hu, hq]; rfl)

theorem State.refreshOut_moves (s t : State) (k : Nat) : MovesKeep t (s.refreshOut t k) :=
  .ite (fun _ => t.zonesOut_moves ..) fun _ => (MovesKeep.of_chg (State.fdpNoted_chg ..) rfl).step (t.relocate_moves ..)

theorem State.refreshOut_map (h : (s.sb k).kind ≠ .zone) (t : State) : (s.refreshOut t k).map = t.map := by
  unfold State.refreshOut
  rw [if_neg h, (State.fdpNoted_chg ..).map rfl, (State.relocate_chg ..).map rfl]

theorem State.refreshCounted_sb (s : State) (raised : Bool) (k : Nat) : (s.refreshCounted raised).sb k = s.sb k := by
  unfold State.refreshCounted
  split <;> rfl

theorem State.refreshCounted_map (s : State) (raised : Bool) : (s.refreshCounted raised).map = s.map := by
  unfold State.refreshCounted
  split <;> rfl

theorem State.refreshCounted_refreshes (s : State) (raised : Bool) : (s.refreshCounted raised).media.readRefreshes =
    if raised then satAdd 64 s.media.readRefreshes 1 else s.media.readRefreshes := by
  unfold State.refreshCounted
  split <;> rfl

/-- The superblock whose refresh begins. -/
theorem State.refreshBegun_sb (s : State) (k : Nat) : ((s.refreshBegun k).sb k).refreshQueued = false ∧
    ((s.sb k).st = .closed → ((s.refreshBegun k).sb k).st = .draining) := by
  have own : (s.setSb k { s.sb k with refreshQueued := false }).sb k = { s.sb k with refreshQueued := false } := State.setSb_sb ..
  unfold State.refreshBegun
  refine ⟨((State.sbDrain_moves _ k).sb k).calm (by rw [own]), fun h => ?_⟩
  rw [State.sbDrain_closed (by rw [own]; exact h), State.setSb_sb]

theorem State.refreshBegun_map (s : State) (k : Nat) : (s.refreshBegun k).map = s.map := (State.sbDrain_chg ..).map rfl

theorem State.refreshBegun_refreshes (s : State) (k : Nat) : (s.refreshBegun k).media.readRefreshes = s.media.readRefreshes :=
  (State.sbDrain_moves _ k).refreshes

/-! ### PATROL_VISIT (R263, R264) -/

/-- A visited block with many corrected bits, or one that failed, asks for a refresh. -/
def State.visitAsked (s : State) (k bits : Nat) (failed : Bool) : State :=
  if s.pf 0x1B ≤ bits ∨ failed = true then s.refreshRetention k else s

/-- A visited block joins its lap. -/
def State.visitSeen (s : State) (now k ch : Nat) : State :=
  { s with media := { s.media with
      patrolSeen := if s.media.patrolSeen.contains (k, ch) then s.media.patrolSeen else s.media.patrolSeen ++ [(k, ch)]
      patrolStart := if s.media.patrolSeen.isEmpty then now else s.media.patrolStart } }

/-- A lap that is done begins again. -/
def State.lapWatch (s : State) (now : Nat) : State :=
  if s.lapDone then { s with media := { s.media with patrolSeen := [], patrolLapH := (now - s.media.patrolStart) / hour } } else s

theorem exec_patrolVisit {ch : Nat} (hw : w = s.boundary 0x6402) (hu : w.upkeepMay = true) (hs : (w.sb k).st ≠ .free)
    (hm : ch ∈ w.members k) (bits : Nat) (failed : Bool) : exec (.patrolVisit k ch bits failed) s = .next
      ((((w.readsAdd k ch (w.cfg 0x6402 0x0A) (w.sbBits k == 1)).visitAsked k bits failed).visitSeen w.aon.now k ch).lapWatch w.aon.now) := by
  subst hw
  exact next_when (by rw [hu, decide_eq_true hs, List.contains_iff_mem.mpr hm]; rfl)

/-- The reads of a block that reach the limit of R263 for the first time. -/
def State.readsHit (s : State) (k ch cnt : Nat) (slc : Bool) : Bool :=
  let limit := if slc then s.pf 0x19 else s.pf 0x18
  limit != 0 && decide (limit ≤ satAdd 32 (Tbl.get 0 (s.sb k).reads ch) cnt) && !(s.sb k).refreshRaised

theorem State.readsAdd_sb (s : State) (k ch cnt : Nat) (slc : Bool) : (s.readsAdd k ch cnt slc).sb k =
    { s.sb k with reads := Tbl.set 0 (s.sb k).reads ch (satAdd 32 (Tbl.get 0 (s.sb k).reads ch) cnt)
                  refreshQueued := (s.sb k).refreshQueued || s.readsHit k ch cnt slc
                  refreshRaised := (s.sb k).refreshRaised || s.readsHit k ch cnt slc } := State.setSb_sb ..

theorem State.visitAsked_sb (s : State) (k bits : Nat) (failed : Bool) : (s.visitAsked k bits failed).sb k =
    { s.sb k with refreshQueued := (s.sb k).refreshQueued || failed || decide (s.pf 0x1B ≤ bits) } := by
  unfold State.visitAsked
  split
  · rename_i h
    have asks : ((s.sb k).refreshQueued || failed || decide (s.pf 0x1B ≤ bits)) = true := by
      rcases h with h | h <;> simp [h]
    rw [asks]
    exact State.setSb_sb ..
  · rename_i h
    obtain ⟨few, fine⟩ := not_or.mp h
    rw [decide_eq_false few, Bool.eq_false_iff.mpr fine, Bool.or_false, Bool.or_false]

theorem State.visitAsked_refreshes (s : State) (k bits : Nat) (failed : Bool) : (s.visitAsked k bits failed).media.patrolRefreshes =
    if failed = true ∨ s.pf 0x1B ≤ bits then satAdd 64 s.media.patrolRefreshes (if (s.sb k).refreshQueued = true then 0 else 1)
    else s.media.patrolRefreshes := by
  unfold State.visitAsked
  by_cases h : s.pf 0x1B ≤ bits ∨ failed = true
  · rw [if_pos h, if_pos h.symm]
    show satAdd 64 s.media.patrolRefreshes (boolNat !(s.sb k).refreshQueued) = _
    cases (s.sb k).refreshQueued <;> rfl
  · rw [if_neg h, if_neg fun c => h c.symm]

theorem State.lapWatch_sb (s : State) (now k : Nat) : (s.lapWatch now).sb k = s.sb k := by
  unfold State.lapWatch
  split <;> rfl

theorem State.lapWatch_refreshes (s : State) (now : Nat) : (s.lapWatch now).media.patrolRefreshes = s.media.patrolRefreshes := by
  unfold State.lapWatch
  split <;> rfl

/-- A lap keeps what it has seen, or begins again. -/
theorem State.lapWatch_seen (s : State) (now : Nat) :
    (s.lapWatch now).media.patrolSeen = s.media.patrolSeen ∨ (s.lapWatch now).media.patrolSeen = [] := by
  unfold State.lapWatch
  split
  · exact .inr rfl
  · exact .inl rfl

theorem State.visitSeen_seen (s : State) (now k ch : Nat) : (k, ch) ∈ (s.visitSeen now k ch).media.patrolSeen := by
  show (k, ch) ∈ if s.media.patrolSeen.contains (k, ch) then s.media.patrolSeen else s.media.patrolSeen ++ [(k, ch)]
  split
  · exact List.contains_iff_mem.mp ‹_›
  · exact List.mem_append_right _ List.mem_cons_self

/-! ### REBUILD_TASK (R270) -/

/-- What is left to rebuild is noted. -/
def State.rebuildNoted (s : State) : State := { s with media := { s.media with rebuildLeft := s.lostGranules } }

/-- A rebuild that has restored every row ends. -/
def State.rebuildEnded (s : State) : State :=
  (({ s with media := { s.media with rebuildState := 2, degraded := false, rebuildLeft := 0 } }).medBit 5).sustainClear 5

/-- The part of a rebuild after its moves: what is left is noted, and a rebuild with nothing left ends. -/
def State.rebuildWatch (s : State) : State := if s.rebuilt then s.rebuildNoted.rebuildEnded else s.rebuildNoted

/-- The superblocks of an FDP namespace that a rebuild moves are reported. -/
def State.rebuildReports (s : State) : Bool :=
  !s.slotsLost [.slc, .reserve] && s.zonesLost.isEmpty && s.slotsLost [.dense] && s.media.sbs.any (fun x => !x.2.lost.isEmpty && s.fdpHeld x.1)

theorem exec_rebuildTask (hw : w = s.boundary 0x6402) (hu : w.upkeepMay = true) (hr : w.media.rebuildState = 1) :
    exec .rebuildTask s = .next
      ((w.rebuildLost.rebuildStep.mediaPump.also w.rebuildReports (fun t => t.fdpEvent 0x80)).rebuildWatch.critWatch w) := by
  subst hw
  exact next_when (by rw [hu, hr]; rfl)

/-- An event of the FDP log leaves what is lost. -/
theorem State.fdpNoted_lost (s : State) (c : Bool) (ev : Nat) :
    (s.also c (fun t => t.fdpEvent ev)).rebuilt = s.rebuilt ∧ (s.also c (fun t => t.fdpEvent ev)).lostGranules = s.lostGranules := by
  unfold State.also State.fdpEvent
  split
  · dsimp only
    split <;> exact ⟨rfl, rfl⟩
  · exact ⟨rfl, rfl⟩

end Sys2Proof.Machine
end

section
/-! The statement about the media tasks. -/

namespace Sys2Proof

open Machine

/-- R258: the victim of a reclaim group, and what becomes of it. -/
theorem gcTask_takes {s w : State} {g k : Nat} (hw : w = s.boundary 0x6402) (hu : w.upkeepMay = true) (hg : g < w.groupCount)
    (ht : w.gcTerm g ≠ 0) (hv : w.gcVictim g = some k) :
    (∀ x ∈ w.media.sbs, w.gcCandidate g x.1 x.2 = true → ∃ y ∈ w.media.sbs, y.1 = k ∧ w.gcCandidate g y.1 y.2 = true ∧
      (y.2.valid < x.2.valid ∨ (y.2.valid = x.2.valid ∧ y.2.closedAt ≤ x.2.closedAt))) ∧
    ((w.sb k).kind = .dense → (w.sb k).st = .closed →
      ∃ u : State, exec (.gcTask g) s = .next u.mediaPump ∧ (u.sb k).st = .draining ∧ u.map = w.map) ∧
    ((w.sb k).kind = .zone → exec (.gcTask g) s = .next (w.lanesOut k).mediaPump) := by
  have exec_ := exec_gcTask hw hu hg ht hv
  refine ⟨fun x hx hc => ?_, fun hk hs => ⟨w.collected k, ?_, ?_, w.collected_map k⟩, fun hk => ?_⟩
  · obtain ⟨y, hy, e, least⟩ := State.gcVictim_least hv (List.mem_filter.mpr ⟨hx, hc⟩)
    obtain ⟨mem, cand⟩ := List.mem_filter.mp hy
    exact ⟨y, mem, e, cand, least⟩
  · rw [exec_, if_neg (by rw [hk]; decide)]
  · rw [w.collected_sb]; exact (State.drainedTo_sb hs ..).1
  · rw [exec_, if_pos hk]

/-- R262: what an hour of wear levelling does, and where it starts. -/
theorem wearLevelHourly_levels {s w : State} (hw : w = s.boundary 0x6402) (hu : w.upkeepMay = true)
    (he : w.elapsed w.media.wearChecked hour = true) :
    ∃ u : State, exec .wearLevelHourly s = .next u.mediaPump ∧ u.media.wearChecked = w.aon.now ∧
      (w.wearSpread = false → u.media.sbs = w.media.sbs) ∧ (∀ k x, w.wearSource = some (k, x) → ∀ y ∈ w.media.sbs, y.2.st = .closed →
        y.2.kind = .dense ∨ y.2.kind = .slc ∨ y.2.kind = .zone → x.wear ≤ y.2.wear) := by
  refine ⟨w.wearLevelled, exec_wearLevelHourly hw hu he, ?_, fun hs => ?_, fun k x hx y hy hst hk => ?_⟩
  · rw [w.wearLevelled_media, (State.wearMoves_moves ..).checked]
    rfl
  · rw [w.wearLevelled_media, State.wearMoves_even (s := w.wearClocked) hs]
    rfl
  · refine State.wearSource_least hx (List.mem_filter.mpr ⟨hy, ?_⟩)
    simpa [hst, or_assoc] using hk

/-- R256: what filler closes. -/
theorem idleClosure_closes {s : State} {k : Nat} (hu : s.upkeepMay = true) (hc : s.closable_ k = true)
    (he : s.elapsed (s.sb k).lastProgram (s.pf 0x1A * Machine.sec / 2) = true) :
    ∃ u : State, exec (.idleClosure k) s = .next u.mediaPump ∧ u.media.fillerCloses = satAdd 32 s.media.fillerCloses 1 ∧
      ((s.sb k).kind ≠ .zone → (s.sb k).row = [] → (u.sb k).st = .closed ∧ (u.sb k).rows = s.wordlines ∧ (u.sb k).closedAt = s.aon.now) ∧
      ((s.sb k).kind ≠ .zone → (s.sb k).row ≠ [] → (u.sb k).filler = true ∧ (u.sb k).st = (s.sb k).st) ∧
      ((s.sb k).kind = .zone → (u.sb k).st = (s.sb k).st ∧
        ∀ q, q < s.planes → s.laneHeld k q = false → Tbl.get 0 (u.sb k).laneRow q = s.wordlines) := by
  refine ⟨s.fillerClose k, exec_idleClosure hu hc he, s.fillerClose_counts k, fun hk hr => ?_, fun hk hr => ?_, fun hk => ?_⟩
  · rw [State.fillerClose_rowless hk hr, State.setSb_sb]
    exact ⟨rfl, rfl, rfl⟩
  · obtain ⟨row, h⟩ := State.pagesStart_sb ((s.closureNoted k).setSb k { s.sb k with filler := true }) k (List.range (s.sb k).row.length)
    rw [State.fillerClose_row hk hr, h, State.setSb_sb]
    exact ⟨rfl, rfl⟩
  · rw [State.fillerClose_zone hk, State.setSb_sb]
    exact ⟨rfl, fun q hq hl => State.lanesFilled_free hl (List.mem_range.mpr hq)⟩

/-- R263: what a refresh does to its superblock and to the counters. -/
theorem refreshTask_refreshes {s : State} {k : Nat} (hu : s.upkeepMay = true) (hq : (s.sb k).refreshQueued = true) :
    ∃ u : State, exec (.refreshTask k) s = .next u.mediaPump ∧ (u.sb k).refreshQueued = false ∧
      ((s.sb k).kind ≠ .zone → (s.sb k).st = .closed → (u.sb k).st = .draining ∧ u.map = s.map) ∧
      u.media.readRefreshes = (if (s.sb k).refreshRaised then satAdd 64 s.media.readRefreshes 1 else s.media.readRefreshes) := by
  have moves := s.refreshOut_moves ((s.refreshBegun k).refreshCounted (s.sb k).refreshRaised) k
  obtain ⟨calm, drains⟩ := s.refreshBegun_sb k
  rw [← (s.refreshBegun k).refreshCounted_sb (s.sb k).refreshRaised] at calm drains
  refine ⟨s.refreshed k, exec_refreshTask hu hq, (moves.sb k).calm calm, fun hk hs => ⟨((moves.sb k).drains (drains hs)).1, ?_⟩, ?_⟩
  · exact (State.refreshOut_map hk _).trans ((State.refreshCounted_map ..).trans (s.refreshBegun_map k))
  · exact moves.refreshes.trans ((State.refreshCounted_refreshes ..).trans (by rw [s.refreshBegun_refreshes]))

/-- R263, R264: what a visit of the patrol counts and queues. -/
theorem patrolVisit_counts {s w : State} {k ch bits n limit : Nat} {failed hit : Bool} (hw : w = s.boundary 0x6402)
    (hu : w.upkeepMay = true) (hs : (w.sb k).st ≠ .free) (hm : ch ∈ w.members k)
    (hn : n = satAdd 32 (Tbl.get 0 (w.sb k).reads ch) (w.cfg 0x6402 0x0A)) (hl : limit = (if w.sbBits k = 1 then w.pf 0x19 else w.pf 0x18))
    (hh : hit = (limit != 0 && decide (limit ≤ n) && !(w.sb k).refreshRaised)) :
    ∃ t, exec (.patrolVisit k ch bits failed) s = .next t ∧
      Tbl.get 0 (t.sb k).reads ch = n ∧ (t.sb k).refreshRaised = ((w.sb k).refreshRaised || hit) ∧
      (t.sb k).refreshQueued = ((w.sb k).refreshQueued || hit || failed || decide (w.pf 0x1B ≤ bits)) ∧
      t.media.patrolRefreshes = (if failed = true ∨ w.pf 0x1B ≤ bits
        then satAdd 64 w.media.patrolRefreshes (if ((w.sb k).refreshQueued || hit) = true then 0 else 1) else w.media.patrolRefreshes) ∧
      ((k, ch) ∈ t.media.patrolSeen ∨ t.media.patrolSeen = []) := by
  have hit_ : w.readsHit k ch (w.cfg 0x6402 0x0A) (w.sbBits k == 1) = hit := by
    subst hh hl hn
    simp only [State.readsHit, beq_iff_eq]
  have read := w.readsAdd_sb k ch (w.cfg 0x6402 0x0A) (w.sbBits k == 1)
  rw [hit_, ← hn] at read
  generalize hr : w.readsAdd k ch (w.cfg 0x6402 0x0A) (w.sbBits k == 1) = r at read
  have pf : r.pf 0x1B = w.pf 0x1B := by subst hr; rfl
  have count : r.media.patrolRefreshes = w.media.patrolRefreshes := by subst hr; rfl
  have sb : (((r.visitAsked k bits failed).visitSeen w.aon.now k ch).lapWatch w.aon.now).sb k = (r.visitAsked k bits failed).sb k :=
    State.lapWatch_sb ..
  refine ⟨_, hr ▸ exec_patrolVisit hw hu hs hm bits failed, ?_, ?_, ?_, ?_, ?_⟩
  · rw [sb, r.visitAsked_sb, read]; exact Tbl.get_set_same ..
  · rw [sb, r.visitAsked_sb, read]
  · rw [sb, r.visitAsked_sb, read, pf]
  · rw [State.lapWatch_refreshes, show ((r.visitAsked k bits failed).visitSeen w.aon.now k ch).media.patrolRefreshes =
      (r.visitAsked k bits failed).media.patrolRefreshes from rfl, r.visitAsked_refreshes, read, pf, count]
  · exact (State.lapWatch_seen ..).imp (fun h => by rw [h]; exact State.visitSeen_seen ..) id

/-- R270: a rebuild that has restored every row ends; one that has not notes what is left. -/
theorem rebuildTask_rebuilds {s w v : State} (hw : w = s.boundary 0x6402) (hu : w.upkeepMay = true) (hr : w.media.rebuildState = 1)
    (hv : v = w.rebuildLost.rebuildStep.mediaPump) :
    (v.rebuilt = true → ∃ u : State, exec .rebuildTask s = .next (u.critWatch w) ∧ u.media.rebuildState = 2 ∧ u.media.degraded = false ∧
      u.media.rebuildLeft = 0 ∧ u.regs.medEvent = v.regs.medEvent ||| 0x20#32) ∧
    (v.rebuilt = false → ∃ u : State, exec .rebuildTask s = .next (u.critWatch w) ∧ u.media.rebuildState = v.media.rebuildState ∧
      u.media.rebuildLeft = v.lostGranules) := by
  have exec_ := exec_rebuildTask hw hu hr
  rw [← hv] at exec_
  obtain ⟨rebuilt, left⟩ := v.fdpNoted_lost w.rebuildReports 0x80
  have noted := v.fdpNoted_chg w.rebuildReports 0x80
  generalize v.also w.rebuildReports (fun t => t.fdpEvent 0x80) = r at exec_ rebuilt left noted
  refine ⟨fun h => ⟨r.rebuildNoted.rebuildEnded, ?_, rfl, rfl, rfl, congrArg (fun x : Regs => x.medEvent ||| 0x20#32) (noted.regs rfl)⟩,
    fun h => ⟨r.rebuildNoted, ?_, (congrArg Media.rebuildState (noted.media rfl) :), left⟩⟩
  · rw [exec_, show r.rebuildWatch = _ from if_pos (rebuilt.trans h)]
  · rw [exec_, show r.rebuildWatch = _ from if_neg (by rw [rebuilt, h]; exact Bool.false_ne_true)]

/-- Settles O38. That wear stands with each superblock, and the order of those with equal wear, are the model's choice (log entry 96). -/
theorem mediaTasks : Obligations.MediaTasks := by
  unfold Obligations.MediaTasks
  refine ⟨fun s w k hw hu hf ho hs => ?_, fun s hu hf hn he => ⟨_, exec_foldIdleTimer hu hf hn he, rfl, rfl⟩,
    fun s w g k hw hu hg ht hv => gcTask_takes hw hu hg ht hv, fun s w hw hu he => wearLevelHourly_levels hw hu he,
    fun s k hu hc he => idleClosure_closes hu hc he, fun s k hu hq => refreshTask_refreshes hu hq,
    fun s w k ch bits n limit failed hit hw hu hs hm hn hl hh => patrolVisit_counts hw hu hs hm hn hl hh,
    fun s w v hw hu hr hv => rebuildTask_rebuilds hw hu hr hv⟩
  obtain ⟨drains, row⟩ := State.drainedTo_sb hs .fold (fun _ => some .dense)
  refine ⟨_, exec_foldTask hw hu hf ho, ?_, ?_, ?_⟩
  · rw [State.foldWatch_sb]; exact drains
  · rw [State.foldWatch_sb]; exact row
  · rw [State.foldWatch_map]; exact (State.drainedTo_chg ..).map rfl

end Sys2Proof
end

section
/-! SUPPORT. The fuse history of a run (R427), and the slices, queues and memories of the state after reset (R140, R385). -/

namespace Sys2Proof

open Machine

/-- A step appends to the fuse history or leaves it: the command at the front does, and the idle tick leaves it. -/
theorem step_fuses {s t : State} (h : step s = .next t) : s.sec.fuses <+: t.sec.fuses := by
  cases hq : s.pending with
  | nil =>
    rw [step_of_nil hq] at h
    cases h
    exact List.prefix_rfl
  | cons i rest =>
    rw [step_of_cons hq] at h
    exact (exec_fuses h :)

/-- What stood in the fuse history at the start of a run stands at the front of it at the end. -/
theorem Reaches.fuses {s t : State} (h : Reaches s t) : s.sec.fuses <+: t.sec.fuses :=
  h.invariant (P := fun u => s.sec.fuses <+: u.sec.fuses) (fun _ _ hu hstep => hu.trans (step_fuses hstep)) List.prefix_rfl

/-- A new store holds no slice but 0 and 1. -/
theorem reset_slice_absent {n : Nat} (h0 : n ≠ 0) (h1 : n ≠ 1) : (State.reset.slice n).st = .absent := by
  have : State.reset.slice n = {} := by
    simp only [State.slice, State.reset, Tbl.get, if_neg h0.symm, if_neg h1.symm]
  rw [this]

/-- The byte memories of a new device are empty. -/
theorem reset_memoryCanonical : MemoryCanonical State.reset := ⟨fun _ => rfl, rfl⟩

end Sys2Proof
end

section
/-! The statements about the fuse history and the state after reset. -/

namespace Sys2Proof

open Machine

/-- Settles O7: the history of a step's state is a prefix of the next one's, so it is of every later one. -/
theorem fuseHistoryOnlyGrows : Obligations.FuseHistoryOnlyGrows :=
  ⟨fun _ _ => step_fuses, fun _ _ h => ⟨h.fuses, fun _ hk => (List.prefix_iff_getElem?.mp h.fuses _ hk).trans (List.getElem?_eq_getElem hk).symm⟩⟩

/-- Settles O2. The ports of the two slices are the defaults of their records; slice 1 Created is the model's choice (log entry 69). -/
theorem resetState : Obligations.ResetState := by
  refine ⟨rfl, rfl, rfl, rfl, rfl, by decide +kernel, by decide +kernel, by decide +kernel, rfl, rfl, by decide +kernel, by decide +kernel, by decide +kernel,
    fun n h0 h1 => reset_slice_absent h0 h1, rfl, rfl, rfl, fun _ => ⟨rfl, rfl⟩, fun _ => rfl, fun _ => rfl, reset_memoryCanonical⟩

end Sys2Proof
end

section
/-! SUPPORT. What programs, erases and moves leave of a LUN (R267 to R269): everything but its retirement, which is not taken back. -/

namespace Sys2Proof.Machine

/-- A LUN without its retirement. -/
def Lun.core (x : Lun) : Lun := { x with retired := false }

/-- From `s` to `t` each LUN keeps everything but its retirement, and no retirement is taken back. -/
structure LunsRetire (s t : State) : Prop where
  kept : ∀ ch pos, (t.lun ch pos).core = (s.lun ch pos).core
  stays : ∀ ch pos, (s.lun ch pos).retired = true → (t.lun ch pos).retired = true

namespace LunsRetire

variable {s t u : State}

theorem refl (s : State) : LunsRetire s s := ⟨fun _ _ => rfl, fun _ _ => id⟩

theorem step (h2 : LunsRetire t u) (h : LunsRetire s t) : LunsRetire s u :=
  ⟨fun c p => (h2.kept c p).trans (h.kept c p), fun c p x => h2.stays c p (h.stays c p x)⟩

/-- A change that leaves the LUNs alone. -/
theorem of_eq (h : t.luns = s.luns) : LunsRetire s t := by
  have same : ∀ c p, t.lun c p = s.lun c p := fun c p => by unfold State.lun; rw [h]
  exact ⟨fun c p => by rw [same], fun c p x => by rw [same]; exact x⟩

theorem of_chg {m : Nat} (h : Chg m s t) (hm : m.testBit 19 = false) : LunsRetire s t := of_eq (h.luns hm)

theorem ite {c : Prop} [Decidable c] (ht : LunsRetire s t) (hu : LunsRetire s u) : LunsRetire s (if c then t else u) := by
  split
  · exact ht
  · exact hu

theorem forEach {α : Type} {l : List α} {f : α → State → State} (hf : ∀ x t, LunsRetire t (f x t)) (h : LunsRetire s t) :
    LunsRetire s (t.forEach l f) := State.forEach_induct h fun x _ t ht => (hf x t).step ht

theorem running (h : LunsRetire s t) (ch pos : Nat) : (t.lun ch pos).running = (s.lun ch pos).running := (congrArg Lun.running (h.kept ch pos) :)
theorem failed (h : LunsRetire s t) (ch pos : Nat) : (t.lun ch pos).failed = (s.lun ch pos).failed := (congrArg Lun.failed (h.kept ch pos) :)
theorem queue (h : LunsRetire s t) (ch pos : Nat) : (t.lun ch pos).queue = (s.lun ch pos).queue := (congrArg Lun.queue (h.kept ch pos) :)
theorem resetPending (h : LunsRetire s t) (ch pos : Nat) : (t.lun ch pos).resetPending = (s.lun ch pos).resetPending :=
  (congrArg Lun.resetPending (h.kept ch pos) :)

end LunsRetire

/-- A LUN written is read at each channel and position that have its key; every other LUN is as it was. -/
theorem State.setLun_lun_cases (s : State) (ch pos c p : Nat) (x : Lun) :
    (s.lun c p = s.lun ch pos ∧ (s.setLun ch pos x).lun c p = x) ∨ (s.setLun ch pos x).lun c p = s.lun c p := by
  unfold State.lun State.setLun
  by_cases h : lkey ch pos = lkey c p
  · rw [h]; exact .inl ⟨rfl, Tbl.get_set_same _ _ _ _⟩
  · exact .inr (Tbl.get_set_ne _ _ _ h)

/-- The retirement of a LUN, before it is reported. -/
theorem State.lunRetire_luns {s : State} {ch pos : Nat} (h : (s.lun ch pos).retired = false) :
    (s.lunRetire ch pos).luns = (s.setLun ch pos { s.lun ch pos with retired := true }).luns := by
  rw [show s.lunRetire ch pos = _ from if_neg (by rw [h]; exact Bool.false_ne_true)]
  rfl

theorem State.lunRetire_retires (s : State) (ch pos : Nat) : LunsRetire s (s.lunRetire ch pos) := by
  cases h : (s.lun ch pos).retired with
  | true => rw [show s.lunRetire ch pos = s from if_pos h]; exact .refl s
  | false =>
    refine LunsRetire.step (.of_eq (State.lunRetire_luns h)) ⟨fun c p => ?_, fun c p hr => ?_⟩
    · obtain ⟨same, e⟩ | e := s.setLun_lun_cases ch pos c p { s.lun ch pos with retired := true }
      · rw [e, same]; rfl
      · rw [e]
    · obtain ⟨-, e⟩ | e := s.setLun_lun_cases ch pos c p { s.lun ch pos with retired := true }
      · rw [e]
      · rw [e]; exact hr

theorem State.lunRetire_retired (s : State) (ch pos : Nat) : ((s.lunRetire ch pos).lun ch pos).retired = true := by
  cases h : (s.lun ch pos).retired with
  | true => rw [show s.lunRetire ch pos = s from if_pos h]; exact h
  | false =>
    exact (LunsRetire.of_eq (State.lunRetire_luns h)).stays ch pos (by rw [State.setLun_lun])

theorem State.blockRetire_retires (s : State) (k ch : Nat) : LunsRetire s (s.blockRetire k ch) := by
  rw [s.blockRetire_eq]
  refine .ite (.refl s) (LunsRetire.step (t := (s.blockAbsent k ch).blockCounted ch (s.sbPos k) s.aon.now) ?_ (.of_eq ?_))
  · exact .ite (State.lunRetire_retires ..) (.refl _)
  · exact ((State.section__chg _).luns rfl).trans ((State.section__chg _).luns rfl)

theorem State.sbFree_retires (s : State) (k : Nat) : LunsRetire s (s.sbFree k) := by
  unfold State.sbFree
  exact .ite (LunsRetire.step (.of_chg (State.setSb_chg ..) rfl) (.forEach (fun c t => t.blockRetire_retires k c) (.refl s))) (.refl s)

theorem State.sbSweep_retires (s : State) : LunsRetire s s.sbSweep :=
  .forEach (fun k t => t.sbFree_retires k) (.forEach (fun k t => .of_chg (t.laneClose_chg k) rfl) (.refl s))

theorem State.mediaPump_retires (s : State) : LunsRetire s s.mediaPump := by
  unfold State.mediaPump
  refine .ite ((State.sbSweep_retires _).step (.of_chg s.movesApply_chg rfl)) ((State.sbSweep_retires _).step (.forEach (fun k t => ?_) ?_))
  · exact .of_chg (State.zonePump_chg ..) rfl
  · exact (LunsRetire.of_chg (State.movesApply_chg _) rfl).step ((LunsRetire.of_chg (State.movePump_chg _) rfl).step (.of_chg s.slcPump_chg rfl))

/-! ### The end of a program (R267, R315) -/

theorem State.rowProgram_retires (s : State) (p : Prog) (ok : Bool) : LunsRetire s (s.rowProgram p ok) := by
  refine .ite ((LunsRetire.of_chg (State.pageDone_chg ..) rfl).step (.forEach (fun i t => ?_) (.refl s))) ?_
  · exact .ite (.of_chg (State.copyProgrammed_chg ..) rfl) (.of_eq rfl)
  · refine (LunsRetire.of_chg (State.relocateMember_chg ..) rfl).step ?_
    exact (LunsRetire.of_chg (State.pageDone_chg ..) rfl).step ((LunsRetire.of_chg (State.reissue_chg ..) rfl).step (s.blockRetire_retires _ _))

theorem State.paritySlot_retires (k : Nat) (x : Sb) (i : ProgItem) (s : State) : LunsRetire s (s.paritySlot k x i) := by
  unfold State.paritySlot
  refine .ite (.of_eq rfl) (.ite (.of_chg ?_ (m := 536870912 ||| 268435456) rfl) (.ite (.of_chg (State.moveIssue_chg ..) rfl) (.refl s)))
  exact (State.reissue_chg ..).step (.u_media (.refl _ s) _ (by decide)) (by decide)

theorem State.parityEnds_retires (k : Nat) (x : Sb) (s : State) : LunsRetire s (s.parityEnds k x) :=
  .ite (.of_chg (s.rowEnd_chg k) rfl) (.refl s)

theorem State.parityProgram_retires (s : State) (p : Prog) (ok : Bool) : LunsRetire s (s.parityProgram p ok) := by
  have counted : LunsRetire s (s.parityCounted p.sb) := .of_chg (State.setSb_chg ..) rfl
  rw [s.parityProgram_eq]
  refine .ite (.ite (.of_chg (State.parityDone_chg ..) rfl) (.of_chg (State.setSb_chg ..) rfl)) (.ite (.ite ?_ counted) ?_)
  · exact (State.parityEnds_retires ..).step ((LunsRetire.of_chg (State.parityDone_chg ..) rfl).step counted)
  · refine (State.parityEnds_retires ..).step (.forEach (fun i t => t.paritySlot_retires p.sb (s.sb p.sb) i) ?_)
    exact LunsRetire.step (t := (s.parityCounted p.sb).blockRetire p.sb p.ch) (.of_eq rfl) ((State.blockRetire_retires ..).step counted)

theorem State.zoneProgram_retires (s : State) (p : Prog) (ok : Bool) : LunsRetire s (s.zoneProgram p ok) := by
  cases h : p.items with
  | nil => unfold State.zoneProgram; rw [h]; exact .refl s
  | cons i l =>
    rw [State.zoneProgram_cons h]
    refine .ite ((LunsRetire.of_chg (State.unitRow_chg ..) rfl).step ?_) ((LunsRetire.of_chg (State.setZone_chg ..) rfl).step (s.blockRetire_retires ..))
    refine (LunsRetire.of_chg (State.unitNoted_chg ..) rfl).step ((LunsRetire.of_chg (State.unitClocked_chg ..) rfl).step ?_)
    exact .forEach (fun _ t => .of_chg (t.copyProgrammed_chg ..) rfl) (.refl s)

theorem State.programDone_retires (s : State) (p : Prog) (ok : Bool) : LunsRetire s (s.programDone p ok) := by
  unfold State.programDone
  split
  · exact s.parityProgram_retires p ok
  · exact s.zoneProgram_retires p ok
  · exact s.rowProgram_retires p ok

theorem State.programEnd_retires (s : State) (id : Nat) (ok : Bool) : LunsRetire s (s.programEnd id ok) := by
  have taken : LunsRetire s (s.programTaken id) := LunsRetire.step (.of_chg (State.startRecord_chg _) rfl) (.of_eq rfl)
  have done := (State.mediaPump_retires _).step ((State.programDone_retires _ (s.prog id) ok).step taken)
  exact (LunsRetire.of_chg (State.critWatch_chg ..) rfl).step ((LunsRetire.of_chg (State.spareCheck_chg _) rfl).step
    ((LunsRetire.of_chg (State.parityWatch_chg _) rfl).step done))

theorem State.programAgain_retires (s : State) (id : Nat) : LunsRetire s (s.programAgain id) := by
  unfold State.programAgain
  refine (State.mediaPump_retires _).step ?_
  dsimp only
  split
  · exact .of_eq rfl
  · split
    · exact .of_eq rfl
    · exact .of_eq rfl
  · exact (LunsRetire.of_chg (State.pageDone_chg ..) rfl).step ((LunsRetire.of_chg (State.reissue_chg ..) rfl).step (.of_eq rfl))

/-! ### The end of a LUN (R317) -/

/-- A LUN out of service: it has failed, is retired, and runs nothing. -/
def State.lunOut (s : State) (ch pos : Nat) : Prop :=
  (s.lun ch pos).failed = true ∧ (s.lun ch pos).retired = true ∧ (s.lun ch pos).running = none

theorem LunsRetire.out {s t : State} (h : LunsRetire s t) {ch pos : Nat} (ho : s.lunOut ch pos) : t.lunOut ch pos := by
  obtain ⟨hf, hr, hn⟩ := ho
  exact ⟨(h.failed ch pos).trans hf, h.stays ch pos hr, (h.running ch pos).trans hn⟩

/-- What the end of a LUN does after the LUN's own mark. -/
theorem State.lunEnd_retires (s : State) (ch pos : Nat) :
    LunsRetire (s.setLun ch pos { failed := true, retired := (s.lun ch pos).retired, timeouts := (s.lun ch pos).timeouts }) (s.lunEnd ch pos) ∧
      ((s.lunEnd ch pos).lun ch pos).retired = true := by
  have pumped := State.mediaPump_retires
  constructor
  · refine (pumped _).step ((State.lunRetire_retires ..).step (.forEach (fun k t => ?_) (.forEach (fun i t => ?_) (.of_eq rfl))))
    · exact (State.blockRetire_retires ..).step (.of_eq rfl)
    · exact (State.programEnd_retires ..).step (.of_eq rfl)
  · exact (pumped _).stays ch pos (State.lunRetire_retired ..)

theorem State.lunEnd_out (s : State) (ch pos : Nat) : (s.lunEnd ch pos).lunOut ch pos := by
  obtain ⟨rest, retired⟩ := s.lunEnd_retires ch pos
  exact ⟨by rw [rest.failed, State.setLun_lun], retired, by rw [rest.running, State.setLun_lun]⟩

/-- A LUN that is out of service stays out when a LUN ends. -/
theorem State.lunEnd_keeps_out {s : State} {c p : Nat} (ch pos : Nat) (h : s.lunOut c p) : (s.lunEnd ch pos).lunOut c p := by
  obtain ⟨hf, hr, hn⟩ := h
  refine (s.lunEnd_retires ch pos).1.out ?_
  unfold State.lunOut
  obtain ⟨same, e⟩ | e := s.setLun_lun_cases ch pos c p { failed := true, retired := (s.lun ch pos).retired, timeouts := (s.lun ch pos).timeouts }
  · rw [e]; exact ⟨rfl, same ▸ hr, rfl⟩
  · rw [e]; exact ⟨hf, hr, hn⟩

theorem State.chanFail_keeps_out {s : State} {c p : Nat} (ch cause : Nat) (h : s.lunOut c p) : (s.chanFail ch cause).lunOut c p := by
  unfold State.chanFail
  split
  · exact h
  · refine LunsRetire.out (.of_chg (State.critWatch_chg ..) rfl) (LunsRetire.out (.of_chg (State.spareCheck_chg _) rfl)
      (LunsRetire.out (.of_chg (State.rasReport_chg ..) rfl) (LunsRetire.out (.of_chg (State.reducedWatch_chg _) rfl) ?_)))
    exact State.forEach_induct (P := fun t => t.lunOut c p) h fun q _ t ht => State.lunEnd_keeps_out ch q ht

/-- A LUN that fails is out of service. -/
theorem State.lunFail_out {s : State} {ch pos : Nat} (h : (s.lun ch pos).failed = false) (cause : Nat) : (s.lunFail ch pos cause).lunOut ch pos := by
  have reported : ∀ t : State, t.lunOut ch pos →
      (((t.sanitizeLun.rasReport 8 (lkey ch pos) 5 2 cause [ch, pos]).spareCheck).critWatch s).lunOut ch pos := fun t ht =>
    LunsRetire.out (.of_chg (State.critWatch_chg ..) rfl) (LunsRetire.out (.of_chg (State.spareCheck_chg _) rfl)
      (LunsRetire.out (.of_chg (State.rasReport_chg ..) rfl) (LunsRetire.out (.of_chg (State.sanitizeLun_chg _) rfl) ht)))
  rw [show s.lunFail ch pos cause = _ from if_neg (by rw [h]; exact Bool.false_ne_true)]
  dsimp only
  split
  · exact State.chanFail_keeps_out ch 5 (reported _ (s.lunEnd_out ch pos))
  · exact reported _ (s.lunEnd_out ch pos)

end Sys2Proof.Machine
end

section
/-! SUPPORT. Training, retraining, polling and resets of flash channels (R303 to R309, R315 to R317): one equation for each command and
outcome. -/

namespace Sys2Proof.Machine

/-- A step of a sequence that makes something true leaves it true at the end, when every other step keeps it; each step may assume what
every step keeps. -/
theorem State.forEach_makes {α : Type} {I P : State → Prop} {l : List α} {f : α → State → State} {s : State} {x : α} (hx : x ∈ l) (h : I s)
    (keeps : ∀ y t, I t → I (f y t)) (stays : ∀ y t, P t → P (f y t)) (makes : ∀ t, I t → P (f x t)) : P (s.forEach l f) := by
  induction l generalizing s with
  | nil => cases hx
  | cons y l ih =>
    rcases List.mem_cons.mp hx with rfl | hx
    · show P ((f x s).forEach l f)
      exact State.forEach_induct (P := P) (makes s h) fun z _ t => stays z t
    · exact ih hx (keeps y s h)

/-! ### Training (R303, R307, R308) -/

/-- A channel whose training passed, before its queued operations go. -/
def State.trainingNoted (s : State) (ch : Nat) : State :=
  (s.setChan ch { s.chan ch with
    st := if (s.chan ch).rate = s.pf 0x31 then .running else .reduced, trainings := satAdd 32 (s.chan ch).trainings 1
    retrainWanted := false, retraining := false, trainedAt := s.aon.now, trainedTempQ := s.chanTempQ ch }).reducedWatch

theorem State.chanTrained_eq (s : State) (ch : Nat) : s.chanTrained ch = (s.trainingNoted ch).woadAll ch := rfl

theorem State.reducedWatch_chan (s : State) (ch : Nat) : s.reducedWatch.chan ch = s.chan ch :=
  congrArg (fun l => Tbl.get ({} : Chan) l ch) (s.reducedWatch_chg.chans rfl)

theorem State.trainingNoted_chan (s : State) (ch : Nat) : (s.trainingNoted ch).chan ch = { s.chan ch with
    st := if (s.chan ch).rate = s.pf 0x31 then .running else .reduced, trainings := satAdd 32 (s.chan ch).trainings 1
    retrainWanted := false, retraining := false, trainedAt := s.aon.now, trainedTempQ := s.chanTempQ ch } :=
  (State.reducedWatch_chan _ ch).trans (s.setChan_chan ch _)

/-- A Reduced channel is a cause of Sustain (R388). -/
theorem State.reducedWatch_sustains {s : State} {ch : Nat} (hc : ch < Config.channels) (h : (s.chan ch).st = .reduced) :
    s.reducedWatch.mode.sustain.testBit 3 = true := by
  have some : (List.range Config.channels).any (fun c => decide ((s.chan c).st = .reduced)) = true :=
    List.any_eq_true.mpr ⟨ch, List.mem_range.mpr hc, decide_eq_true h⟩
  unfold State.reducedWatch
  rw [if_pos some]
  exact s.sustainSet_testBit 3

theorem exec_channelTrainingResult {s : State} {ch : Nat} (h : (s.chan ch).st = .training) (pass : Bool) :
    exec (.channelTrainingResult ch pass) s = .next (if pass then s.chanTrained ch
      else if s.pf 0x32 < (s.chan ch).rate ∧ lowerRate (s.chan ch).rate ≠ 0 then
        s.setChan ch { s.chan ch with rate := lowerRate (s.chan ch).rate }
      else s.chanFail ch 1) := next_when (decide_eq_true h)

/-- R307: a training that passed. -/
theorem channelTrainingResult_passes {s : State} {ch : Nat} (h : (s.chan ch).st = .training) :
    ∃ u : State, exec (.channelTrainingResult ch true) s = .next (u.woadAll ch) ∧
      (u.chan ch).st = (if (s.chan ch).rate = s.pf 0x31 then .running else .reduced) ∧
      (u.chan ch).trainings = satAdd 32 (s.chan ch).trainings 1 ∧ (u.chan ch).retraining = false ∧ (u.chan ch).trainedAt = s.aon.now ∧
      (u.chan ch).trainedTempQ = s.chanTempQ ch ∧
      ((s.chan ch).rate ≠ s.pf 0x31 → ch < Config.channels → u.mode.sustain.testBit 3 = true) := by
  refine ⟨s.trainingNoted ch, exec_channelTrainingResult h true, ?_, ?_, ?_, ?_, ?_, fun hr hc => State.reducedWatch_sustains hc ?_⟩
  all_goals simp only [State.trainingNoted_chan, State.setChan_chan]
  rw [if_neg hr]

/-! ### Parity and calibration (R316) -/

/-- An error of the command sequencer that is alone within its hour is only noted. -/
theorem exec_sequencerParityError_first {s : State} {ch : Nat} (zq : Bool) (hs : s.chanServes ch = true ∨ (s.chan ch).st = .training)
    (h : (if zq then (s.chan ch).zqTimes else (s.chan ch).parityTimes).any (fun t => !s.elapsed t hour) = false) :
    exec (.sequencerParityError ch zq) s = .next (s.setChan ch
      (if zq then { s.chan ch with zqTimes := [s.aon.now] } else { s.chan ch with parityTimes := [s.aon.now] })) := by
  have old : (if zq then (s.chan ch).zqTimes else (s.chan ch).parityTimes).filter (fun t => !s.elapsed t hour) = [] :=
    List.filter_eq_nil_iff.mpr fun t ht => List.any_eq_false.mp h t ht
  have listed : (s.chanServes ch || decide ((s.chan ch).st = .training)) = true := by
    rcases hs with h | h <;> simp [h]
  refine (next_when listed).trans ?_
  dsimp only
  rw [old]
  rfl

/-! ### Retraining (R308, R320) -/

/-- A channel is to retrain; with an idle bus at once. -/
def State.retrainNoted (s : State) (ch : Nat) : State :=
  s.setChan ch { s.chan ch with retrainWanted := true, retraining := (s.chan ch).busActive.isNone }

theorem State.retrainAsk_eq {s : State} {ch : Nat} (hs : s.chanServes ch = true) (hr : (s.chan ch).retraining = false) :
    s.retrainAsk ch = s.retrainNoted ch := if_pos ⟨by simpa [State.chanServes] using hs, hr⟩

theorem exec_retrain {s : State} {ch : Nat} (hs : s.chanServes ch = true) (hr : (s.chan ch).retraining = false) :
    exec (.retrain ch) s = .next (s.retrainNoted ch) := by
  rw [← State.retrainAsk_eq hs hr]; exact next_when hs

theorem exec_retrainHoursTimer {s : State} {ch : Nat} (hs : s.chanServes ch = true) (hr : (s.chan ch).retraining = false)
    (hw : (s.chan ch).retrainWanted = false) (he : s.elapsed (s.chan ch).trainedAt (s.pf 0x3A * hour) = true) :
    exec (.retrainHoursTimer ch) s = .next (s.retrainNoted ch) := by
  rw [← State.retrainAsk_eq hs hr]; exact next_when (by rw [hs, hw, he]; rfl)

theorem exec_retrainStepDone {s : State} {ch : Nat} (h : (s.chan ch).retraining = true) (ok last : Bool) :
    exec (.retrainStepDone ch ok last) s = .next (
      if !ok then (s.setChan ch { s.chan ch with st := .training, retraining := false, retrainWanted := false }).reducedWatch
      else if last then (s.chanTrained ch).busNext ch
      else if (s.chan ch).busWait.isEmpty then s
      else (s.setChan ch { s.chan ch with retraining := false }).busNext ch) := next_when h

theorem exec_retrainStepDone_last {s : State} {ch : Nat} (h : (s.chan ch).retraining = true) :
    exec (.retrainStepDone ch true true) s = .next (((s.trainingNoted ch).woadAll ch).busNext ch) := by
  rw [exec_retrainStepDone h, if_neg (by decide), if_pos rfl, s.chanTrained_eq]

theorem exec_retrainStepDone_between {s : State} {ch : Nat} (h : (s.chan ch).retraining = true) :
    exec (.retrainStepDone ch true false) s = .next (if (s.chan ch).busWait.isEmpty then s
      else (s.setChan ch { s.chan ch with retraining := false }).busNext ch) := by
  rw [exec_retrainStepDone h, if_neg (by decide), if_neg Bool.false_ne_true]

/-- The bus of a channel is given to a transfer. -/
theorem State.busNext_takes {s : State} {ch : Nat} {x : BusXfer} (ha : (s.chan ch).busActive = none) (hx : pickXfer (s.chan ch).busWait = some x) :
    s.busNext ch = (s.setChan ch { s.chan ch with busActive := some x, busWait := (s.chan ch).busWait.erase x }).emit (.busTransfer ch x.program) := by
  unfold State.busNext
  dsimp only
  rw [ha, hx]

/-- R308: between the steps of a retraining the bus takes the transfer that waits. -/
theorem retrainStepDone_yields {s : State} {ch : Nat} (h : (s.chan ch).retraining = true) (hw : (s.chan ch).busWait ≠ [])
    (ha : (s.chan ch).busActive = none) :
    ∃ t x, exec (.retrainStepDone ch true false) s = .next t ∧ (t.chan ch).retraining = false ∧ (t.chan ch).busActive = some x ∧
      pickXfer (s.chan ch).busWait = some x ∧ (t.chan ch).busWait = (s.chan ch).busWait.erase x ∧
      (t.chan ch).retrainWanted = (s.chan ch).retrainWanted := by
  obtain ⟨x, picked, -⟩ := pickXfer_least hw
  have run := exec_retrainStepDone_between h
  rw [if_neg (by simpa using hw), State.busNext_takes (x := x) (by rw [State.setChan_chan]; exact ha) (by rw [State.setChan_chan]; exact picked)] at run
  refine ⟨_, x, run, ?_, ?_, picked, ?_, ?_⟩
  all_goals simp only [State.emit_chan, State.setChan_chan]

/-! ### Polling (R304) -/

/-- The poll of one LUN. -/
def State.lunPolled (s : State) (ch p : Nat) : State :=
  if (s.lun ch p).running.isSome || (s.lun ch p).resetPending then s.emit (.dieCommand ch p "read status") else s

theorem State.lunPolled_chg (s : State) (ch p : Nat) : Chg 2 s (s.lunPolled ch p) := .ite (State.emit_chg ..) (.refl _ _)

theorem exec_rbNHint {s : State} {ch : Nat} (h : s.chanServes ch = true) :
    exec (.rbNHint ch) s = .next (s.forEach (List.range s.positions) (fun p s => s.lunPolled ch p)) := next_when h

theorem State.lunsPolled_chg (s : State) (ch : Nat) (l : List Nat) : Chg 2 s (s.forEach l (fun p s => s.lunPolled ch p)) :=
  .forEach (fun p t => t.lunPolled_chg ch p) (.refl _ _)

/-- Every busy LUN is polled. -/
theorem State.lunsPolled_out {s : State} {ch p : Nat} {l : List Nat} (hp : p ∈ l)
    (h : ((s.lun ch p).running.isSome || (s.lun ch p).resetPending) = true) :
    Out.dieCommand ch p "read status" ∈ (s.forEach l (fun p s => s.lunPolled ch p)).out := by
  have grows : ∀ q (t : State), OutGrows t (t.lunPolled ch q) := fun q t => .ite (.emit _ _) (.refl t)
  refine State.forEach_makes (I := fun t => t.luns = s.luns) (P := fun t => _ ∈ t.out) hp rfl (fun q t ht => ?_) (fun q t ht => ?_) fun t ht => ?_
  · exact ((t.lunPolled_chg ch q).luns rfl).trans ht
  · exact (grows q t).subset ht
  · have same : t.lun ch p = s.lun ch p := by unfold State.lun; rw [ht]
    rw [State.lunPolled, same, if_pos h]
    exact List.mem_append_right _ (List.mem_singleton.mpr rfl)

/-! ### Busy LUNs and their reset (R315, R317) -/

/-- The busy timeouts of a LUN within the last 24 hours. -/
def State.lateTimes (s : State) (ch pos : Nat) : List Nat := (s.lun ch pos).timeouts.filter (fun t => !s.elapsed t (24 * hour))

/-- A LUN that was busy too long is reset. -/
def State.lunReset (s : State) (ch pos : Nat) : State :=
  ((s.setLun ch pos { s.lun ch pos with resetPending := true, timeouts := s.lateTimes ch pos ++ [s.aon.now] }).setChan ch
    { s.chan ch with timeouts := satAdd 32 (s.chan ch).timeouts 1 }).emit (.dieCommand ch pos "reset LUN")

theorem State.lunReset_lun (s : State) (ch pos : Nat) : (s.lunReset ch pos).lun ch pos =
    { s.lun ch pos with resetPending := true, timeouts := s.lateTimes ch pos ++ [s.aon.now] } := s.setLun_lun ch pos _

theorem exec_lunBusyTimeout {s : State} {ch pos : Nat} (hs : s.lunServes ch pos = true) (hr : (s.lun ch pos).resetPending = false)
    (hb : s.busyTooLong ch pos = true) : exec (.lunBusyTimeout ch pos) s =
      .next (if 3 ≤ (s.lateTimes ch pos ++ [s.aon.now]).length then (s.lunReset ch pos).lunFail ch pos 2 else s.lunReset ch pos) := by
  have listed : (s.lunServes ch pos && !(s.lun ch pos).resetPending && s.busyTooLong ch pos) = true := by rw [hs, hr, hb]; rfl
  exact next_when listed

theorem State.lunServes_failed {s : State} {ch pos : Nat} (h : s.lunServes ch pos = true) : (s.lun ch pos).failed = false := by
  simp only [State.lunServes, Bool.and_eq_true, Bool.not_eq_true'] at h
  exact h.1.2

/-- R315: the first two busy timeouts of 24 hours reset the LUN. -/
theorem lunBusyTimeout_resets {s : State} {ch pos : Nat} (hs : s.lunServes ch pos = true) (hr : (s.lun ch pos).resetPending = false)
    (hb : s.busyTooLong ch pos = true) (hn : (s.lateTimes ch pos).length < 2) :
    ∃ t, exec (.lunBusyTimeout ch pos) s = .next t ∧ (t.lun ch pos).resetPending = true ∧ (t.lun ch pos).running = (s.lun ch pos).running ∧
      (t.lun ch pos).timeouts = s.lateTimes ch pos ++ [s.aon.now] ∧ (t.chan ch).timeouts = satAdd 32 (s.chan ch).timeouts 1 ∧
      Out.dieCommand ch pos "reset LUN" ∈ t.out := by
  refine ⟨s.lunReset ch pos, (exec_lunBusyTimeout hs hr hb).trans (by rw [if_neg (by rw [List.length_append, List.length_singleton]; omega)]), ?_, ?_, ?_, ?_, ?_⟩
  · rw [s.lunReset_lun]
  · rw [s.lunReset_lun]
  · rw [s.lunReset_lun]
  · exact congrArg Chan.timeouts (State.setChan_chan _ ch _)
  · exact List.mem_append_right _ (List.mem_singleton.mpr rfl)

/-- R315: the third fails it. -/
theorem lunBusyTimeout_fails {s : State} {ch pos : Nat} (hs : s.lunServes ch pos = true) (hr : (s.lun ch pos).resetPending = false)
    (hb : s.busyTooLong ch pos = true) (hn : 2 ≤ (s.lateTimes ch pos).length) :
    ∃ t, exec (.lunBusyTimeout ch pos) s = .next t ∧ t.lunOut ch pos := by
  refine ⟨_, (exec_lunBusyTimeout hs hr hb).trans (by rw [if_pos (by rw [List.length_append, List.length_singleton]; omega)]), State.lunFail_out ?_ 2⟩
  rw [s.lunReset_lun]
  exact State.lunServes_failed hs

/-- A LUN whose reset succeeded. -/
def State.lunFreed (s : State) (ch pos : Nat) : State :=
  s.setLun ch pos { s.lun ch pos with resetPending := false, running := none, suspended := none, suspendWanted := false, limitHit := false
                                      windowReads := 0 }

theorem exec_lunResetCheck {s : State} {ch pos : Nat} (hr : (s.lun ch pos).resetPending = true)
    (he : s.elapsed ((s.lun ch pos).timeouts.getLastD 0) 10000000 = true) (busy : Bool) : exec (.lunResetCheck ch pos busy) s =
      .next (if busy then s.lunFail ch pos 1
        else ((s.lunFreed ch pos).forEach ((s.lun ch pos).running.toList ++ (s.lun ch pos).suspended.toList)
          (fun r s => s.opEnded ch pos r)).woad ch pos) := next_when (by rw [hr, show 10 * msec = 10000000 from rfl, he]; rfl)

/-- With nothing suspended, the reset ends the operation in progress alone. -/
theorem exec_lunResetCheck_freed {s : State} {ch pos : Nat} (hr : (s.lun ch pos).resetPending = true)
    (he : s.elapsed ((s.lun ch pos).timeouts.getLastD 0) 10000000 = true) (hs : (s.lun ch pos).suspended = none) :
    exec (.lunResetCheck ch pos false) s = .next (((s.lunFreed ch pos).forEach (s.lun ch pos).running.toList
      (fun r s => s.opEnded ch pos r)).woad ch pos) := by
  rw [exec_lunResetCheck hr he, hs, Option.toList_none, List.append_nil]
  rfl

/-- What the end of a read or a program leaves of the LUNs. -/
theorem State.opEnded_retires {s : State} {ch pos : Nat} {r : RunOp} (h : r.w.op.kind ≠ .erase) : LunsRetire s (s.opEnded ch pos r) := by
  unfold State.opEnded
  dsimp only
  split
  · exact .of_eq rfl
  · split
    · exact (State.programAgain_retires ..).step (.of_eq rfl)
    · exact .refl s
  · exact absurd ‹_› h

/-- R315: a reset that succeeded, of a LUN that ran a read, a program, or nothing. -/
theorem lunResetCheck_frees {s : State} {ch pos : Nat} (hr : (s.lun ch pos).resetPending = true)
    (he : s.elapsed ((s.lun ch pos).timeouts.getLastD 0) 10000000 = true) (hs : (s.lun ch pos).suspended = none)
    (hk : ∀ r, (s.lun ch pos).running = some r → r.w.op.kind ≠ .erase) :
    ∃ u : State, exec (.lunResetCheck ch pos false) s = .next (u.woad ch pos) ∧ (u.lun ch pos).resetPending = false ∧
      (u.lun ch pos).running = none ∧ (u.lun ch pos).queue = (s.lun ch pos).queue := by
  have ended : LunsRetire (s.lunFreed ch pos) ((s.lunFreed ch pos).forEach (s.lun ch pos).running.toList (fun r s => s.opEnded ch pos r)) :=
    State.forEach_induct (.refl _) fun r hm t ht => (State.opEnded_retires (hk r (Option.mem_toList.mp hm))).step ht
  have freed : (s.lunFreed ch pos).lun ch pos = _ := s.setLun_lun ch pos _
  refine ⟨_, exec_lunResetCheck_freed hr he hs, ?_, ?_, ?_⟩
  · rw [ended.resetPending, freed]
  · rw [ended.running, freed]
  · rw [ended.queue, freed]

/-- R317: an erase that the reset ended runs again. -/
theorem lunResetCheck_erases {s : State} {ch pos : Nat} {r : RunOp} (hr : (s.lun ch pos).resetPending = true)
    (he : s.elapsed ((s.lun ch pos).timeouts.getLastD 0) 10000000 = true) (hs : (s.lun ch pos).suspended = none)
    (hn : (s.lun ch pos).running = some r) (hk : r.w.op.kind = .erase) :
    ∃ u : State, exec (.lunResetCheck ch pos false) s = .next ((u.dieArrive ch pos r.w.op).woad ch pos) ∧
      (u.lun ch pos).resetPending = false ∧ (u.lun ch pos).running = none ∧ u.media = s.media := by
  have again : (s.lunFreed ch pos).opEnded ch pos r = (s.lunFreed ch pos).dieArrive ch pos r.w.op := by
    unfold State.opEnded; dsimp only; rw [hk]
  have freed : (s.lunFreed ch pos).lun ch pos = _ := s.setLun_lun ch pos _
  refine ⟨s.lunFreed ch pos, (exec_lunResetCheck_freed hr he hs).trans ?_, ?_, ?_, rfl⟩
  · rw [hn, ← again]; rfl
  · rw [freed]
  · rw [freed]

/-! ### Reads that a reset ended (R265, R317) -/

/-- A flash place that operations on a LUN read. -/
def State.readAt (s : State) (ch pos : Nat) (ops : List DieOp) (l : Nat) : Bool :=
  s.locChannel l == ch && s.locPos l == pos &&
    ops.any (fun o => o.block == s.locBlock l && o.plane == s.locPlane l && o.page == s.locPage l)

theorem State.opEnded_read {s : State} {ch pos : Nat} {r : RunOp} (h : r.w.op.kind = .read) : s.opEnded ch pos r =
    s.readsEscalate (s.readAt ch pos ((r.w :: r.joined).map (fun w => w.op))) := by
  unfold State.opEnded; dsimp only; rw [h]; rfl

/-- A block whose codeword a test selects goes to step 4 of R265. -/
def BlkRt.escalated (sel : Nat → Bool) (b : BlkRt) : BlkRt :=
  match b.src with
  | .flash l => if b.unread && sel l then { b with escalation := 4 } else b
  | _ => b

/-- The blocks of a command that waits for data, so escalated. -/
def Tag.escalated (sel : Nat → Bool) (x : Tag) : Tag :=
  if x.mapTaken && x.st.uncommitted then { x with blks := x.blks.map (fun y => (y.1, y.2.escalated sel)) } else x

theorem State.readsEscalate_tag (s : State) (sel : Nat → Bool) (k : Nat) : (s.readsEscalate sel).tag k = (s.tag k).escalated sel := by
  have pairs : (s.readsEscalate sel).tags = s.tags.map (fun x => (x.1, x.2.escalated sel)) :=
    List.map_congr_left fun x _ => by unfold Tag.escalated; split <;> rfl
  unfold State.tag
  rw [pairs]
  exact Tbl.get_map rfl s.tags k

theorem BlkRt.escalated_flash {sel : Nat → Bool} {b : BlkRt} {l : Nat} (hb : b.src = .flash l) (hu : b.unread = true) (hs : sel l = true) :
    (b.escalated sel).escalation = 4 := by
  unfold BlkRt.escalated
  rw [hb]
  dsimp only
  rw [if_pos (by rw [hu, hs]; rfl)]

theorem Tag.escalated_blk {x : Tag} (hm : x.mapTaken = true) (hu : x.st.uncommitted = true) (sel : Nat → Bool) (k : Nat) :
    Tbl.get {} (x.escalated sel).blks k = (Tbl.get {} x.blks k).escalated sel := by
  rw [show x.escalated sel = _ from if_pos (by rw [hm, hu]; rfl)]
  exact Tbl.get_map rfl x.blks k

/-! ### A channel of two LUNs whose number of positions changes while one fails -/

/-- Two LUN positions on each channel, and a commit of the map record 6001h that waits for its boundary with a field that no subindex of
eight bits names: its key 6001h × 256 + 3FF08h is that of 6400h.08, the dies of a channel. -/
def positionsChange : State := { State.reset with dict := {
  inForce := [(dkey 0x6400 7, some (.num 1)), (dkey 0x6400 8, some (.num 2))]
  commits := [(0x6001, { session := 0, path := none, reqId := 0, fields := [(0x3FF08, .num 8)], durableAt := 0, answered := true, action := 0
                         seq := 0 })] } }

end Sys2Proof.Machine
end

section
/-! The statements about training, timeouts and resets of flash channels, about a read that a reset ended, and about the failure of a
channel. -/

namespace Sys2Proof

open Machine

/-- Settles O40. The erase that runs again after a reset and the sensor of a channel's temperature are the model's choice (log entries 106
and 95). -/
theorem channelCommands : Obligations.ChannelCommands := by
  refine ⟨fun s ch h => ⟨channelTrainingResult_passes h, fun hr hl => ?_⟩, fun s ch zq hs h => ?_, fun s ch x hs hr hx => ?_,
    fun s ch last h => ⟨?_, ?_, fun hw => ?_, retrainStepDone_yields h⟩, fun s ch h => ?_,
    fun s ch pos hs hr hb => ⟨lunBusyTimeout_resets hs hr hb, lunBusyTimeout_fails hs hr hb⟩,
    fun s ch pos hr he => ⟨fun hf => ?_, lunResetCheck_frees hr he, fun r => lunResetCheck_erases hr he⟩⟩
  · refine ⟨_, (exec_channelTrainingResult h false).trans (by rw [if_neg Bool.false_ne_true, if_pos ⟨hr, hl⟩]), ?_, ?_,
      fun c hc => s.setChan_chan_ne _ hc.symm⟩
    · rw [s.setChan_chan]
    · rw [s.setChan_chan]; exact h
  · refine ⟨_, exec_sequencerParityError_first zq hs h, ?_, ?_, rfl⟩
    · rw [s.setChan_chan]; cases zq <;> rfl
    · rw [s.setChan_chan]; cases zq <;> rfl
  · have run : exec x s = .next (s.retrainNoted ch) := by
      rcases hx with rfl | ⟨rfl, hw, he⟩
      · exact exec_retrain hs hr
      · exact exec_retrainHoursTimer hs hr hw he
    have noted : (s.retrainNoted ch).chan ch = _ := s.setChan_chan ch _
    refine ⟨_, run, ?_, ?_, ?_, ?_, rfl⟩ <;> rw [noted]
  · refine ⟨_, (exec_retrainStepDone h false last).trans (by rw [if_pos (by decide)]), ?_, ?_, ?_⟩ <;> rw [State.reducedWatch_chan, State.setChan_chan]
  · refine ⟨s.trainingNoted ch, exec_retrainStepDone_last h, ?_, ?_, ?_⟩ <;> rw [s.trainingNoted_chan]
  · rw [exec_retrainStepDone_between h, hw]; rfl
  · have polled := s.lunsPolled_chg ch (List.range s.positions)
    refine ⟨_, exec_rbNHint h, polled.luns rfl, polled.chans rfl, fun p hp hb => State.lunsPolled_out (List.mem_range.mpr hp) ?_⟩
    rw [Bool.or_eq_true]; exact hb
  · exact ⟨_, exec_lunResetCheck hr he true, State.lunFail_out hf 1⟩

/-- Settles O41. That the reset leaves the blocks of the LUN in service is the model's reading of R315 (log entry 106). -/
theorem resetEscalatesReads : Obligations.ResetEscalatesReads := by
  intro s ch pos tag blk l r b hr he hs hn hk hj hm ht hb hsrc hu hc hp hblock hplane hpage
  have hit : (s.lunFreed ch pos).readAt ch pos [r.w.op] l = true := by
    show s.readAt ch pos [r.w.op] l = true
    simp [State.readAt, hc, hp, hblock, hplane, hpage]
  refine ⟨_, exec_lunResetCheck_freed hr he hs, ?_⟩
  rw [hn]
  show (Tbl.get {} (((s.lunFreed ch pos).opEnded ch pos r).tag tag).blks blk).escalation = 4
  have same : (s.lunFreed ch pos).tag tag = s.tag tag := rfl
  rw [State.opEnded_read hk, hj, State.readsEscalate_tag, same, Tag.escalated_blk hm (by rw [ht]; rfl), hb]
  exact BlkRt.escalated_flash hsrc hu hit

/-- Refutes O55: the statement counts half of the channel's LUNs by the positions of the state in which the LUN fails, and the model by
those of the state after the failed LUN's work has been moved (R317), where the boundary of 6001h (R49) puts a waiting commit in force. A
commit whose field reaches the key of 6400h.08 leaves eight positions in place of two, of which one LUN is no half. -/
theorem not_channelFailure : ¬ Obligations.ChannelFailure := by
  rintro ⟨-, half, -⟩
  have stated := (half positionsChange 0 0 1 (by decide +kernel) (by decide +kernel) (by decide +kernel)).1
  exact absurd stated (by decide +kernel)

end Sys2Proof
end

section
/-! SUPPORT. The DRAM channels (R343 to R365): what an activate, a mark and a failure leave of a channel, and one equation for each
command. -/

namespace Sys2Proof.Machine

/-! ### The event register of the RAS collector (R84) and of the DRAM controller (R365) -/

/-- A bit of RAS_SUMMARY changes no other register of the collector. -/
theorem State.rasBit_regs (s : State) (b : Nat) :
    (s.rasBit b).regs = { s.regs with rasSummary := s.regs.rasSummary ||| (1#32 <<< b) } := by
  have sent : ∀ u : State, (u.forEach [0, 1] (fun p t => if (t.port p).linkUp then t.msixSend p 0 2047 else t)).regs = u.regs := fun u =>
    State.forEach_keeps (π := State.regs) (fun p t => (Chg.ite (t.msixSend_chg p 0 2047) (.refl _ t)).regs rfl) u _
  unfold State.rasBit
  dsimp only
  split
  · rfl
  · split
    · rw [sent, (State.telemEvent_chg _).regs rfl]
    · rw [(State.telemEvent_chg _).regs rfl]

theorem State.rasReport_regs (s : State) (u i k v c : Nat) (d : List Nat) :
    (s.rasReport u i k v c d).regs = { s.regs with rasSummary := s.regs.rasSummary ||| (1#32 <<< k) } := s.rasBit_regs k

theorem State.drcBit_dram (s : State) (b c : Nat) : (s.drcBit b).dram c = s.dram c := rfl

/-- A word of 32 bits with one bit set. -/
theorem getLsbD_or_bit (x : BitVec 32) {b k : Nat} (hb : b < 32) : (x ||| 1#32 <<< b).getLsbD k = (x.getLsbD k || decide (k = b)) := by
  rw [BitVec.getLsbD_or, BitVec.getLsbD_shiftLeft]
  by_cases hk : k = b
  · subst hk; simp [hb]
  · by_cases hl : k < b
    · simp [hk, hl]
    · have : k - b ≠ 0 := by omega
      simp [hk, this]

/-- A bit of DRC_EVENT that an operation sets is set, and every other is as it was. -/
theorem State.drcBit_getLsbD (s : State) {b k : Nat} (hb : b < 32) : (s.drcBit b).regs.drcEvent.getLsbD k = (s.regs.drcEvent.getLsbD k || decide (k = b)) :=
  getLsbD_or_bit _ hb

theorem State.rasReport_dram (s : State) (u i k v c : Nat) (d : List Nat) (j : Nat) : (s.rasReport u i k v c d).dram j = s.dram j :=
  (s.rasReport_chg u i k v c d).dram_eq rfl j

/-! ### The failure of a channel (R360, R361) -/

/-- A channel that fails, as it is marked and reported. -/
def State.dramMarked (s : State) (c cause : Nat) : State :=
  (((s.setDram c { s.dram c with st := 4, cause := cause, panic := false, retraining := false }).drcBit 3).sustainSet 7).rasReport 7 c 4 2 cause []

/-- What a failure takes with it outside Bring-Up (R361): frames, copies, zones, or service. -/
def State.dramSpread (s : State) (c : Nat) (t : State) : State :=
  let s3 := if s.jrn.tail.isEmpty then t else { t with jrn := { t.jrn with merged := t.tailMark } }
  let s4 := (s3.framesLost c).copiesLost c
  let s5 := if s4.mode.base = .flush then s4 else { s4 with regs := { s4.regs with eccRemirror := s4.pairUp 0 || s4.pairUp 1 } }
  if (List.range 4).any (fun k => s5.dramUp k) then
    s5.mediaPump.also (decide (s5.mode.base ≠ Base.flush)) (fun s => s.drainZones (fun b => b.copyA != b.copyB))
  else s5.serviceEnd 6

theorem State.dramFail_eq {s : State} {c : Nat} (h : (s.dram c).st ≠ 4) (cause : Nat) : s.dramFail c cause =
    if s.mode.base = .bringUp then s.dramMarked c cause else s.dramSpread c (s.dramMarked c cause) := if_neg h

/-- A failure's consequences touch no DRAM channel. -/
theorem State.dramSpread_chg (s : State) (c : Nat) (t : State) : Chg 88039220474 t (s.dramSpread c t) := by
  have lost : Chg 88039220474 t (((if s.jrn.tail.isEmpty then t else { t with jrn := { t.jrn with merged := t.tailMark } }).framesLost c).copiesLost c) :=
    (State.copiesLost_chg ..).step ((State.framesLost_chg ..).step (.ite (.refl _ t) (.u_jrn (.refl _ t) _ (by decide))) (by decide)) (by decide)
  unfold State.dramSpread
  dsimp only
  generalize ((if s.jrn.tail.isEmpty then t else { t with jrn := { t.jrn with merged := t.tailMark } }).framesLost c).copiesLost c = u at lost ⊢
  have mirrored : Chg 88039220474 t (if u.mode.base = .flush then u else { u with regs := { u.regs with eccRemirror := u.pairUp 0 || u.pairUp 1 } }) :=
    .ite lost (.u_regs lost _ id (by decide))
  refine .ite (.also ?_ ?_) ((State.serviceEnd_chg ..).step mirrored (by decide))
  · exact (State.drainZones_chg ..).step ((State.mediaPump_chg _).step mirrored (by decide)) (by decide)
  · exact (State.mediaPump_chg _).step mirrored (by decide)

theorem State.dramMarked_dram (s : State) (c cause j : Nat) : (s.dramMarked c cause).dram j =
    (s.setDram c { s.dram c with st := 4, cause := cause, panic := false, retraining := false }).dram j := State.rasReport_dram ..

theorem State.dramFail_dram {s : State} {c : Nat} (h : (s.dram c).st ≠ 4) (cause j : Nat) : (s.dramFail c cause).dram j =
    (s.setDram c { s.dram c with st := 4, cause := cause, panic := false, retraining := false }).dram j := by
  rw [State.dramFail_eq h, ← s.dramMarked_dram]
  split
  · rfl
  · exact (s.dramSpread_chg c _).dram_eq rfl j

/-- What R360 makes of a channel, and of no other. -/
theorem State.dramFail_fails {s : State} {c : Nat} (h : (s.dram c).st ≠ 4) (cause : Nat) :
    ((s.dramFail c cause).dram c).st = 4 ∧ ((s.dramFail c cause).dram c).cause = cause ∧ ((s.dramFail c cause).dram c).panic = false ∧
      ((s.dramFail c cause).dram c).retraining = false ∧ ∀ j, j ≠ c → (s.dramFail c cause).dram j = s.dram j := by
  refine ⟨?_, ?_, ?_, ?_, fun j hj => ?_⟩
  iterate 4 rw [State.dramFail_dram h, State.setDram_dram]
  rw [State.dramFail_dram h, State.setDram_dram_ne _ _ hj.symm]

theorem State.dramUp_serves {s : State} {c : Nat} (h : s.dramUp c = true) : (s.dram c).st ≠ 4 := by
  intro e
  rw [State.dramUp, e] at h
  exact absurd h (by decide)

/-! ### Rows and refresh management (R356, R357) -/

/-- A channel without its row tables and the counts of refreshes. -/
def Dram.core (x : Dram) : Dram := { x with acts := [], raa := [], neighbourRefreshes := 0, rfm := 0, forcedRefreshes := 0 }

/-- The rows of the activated bank that the table holds, and the one with the lowest count. -/
def State.bankRows (s : State) (p : DramPlace) : List (Nat × Nat × Nat) := (s.dram p.channel).acts.filter (fun x => x.1 == bankKey p)
def State.lowRow (s : State) (p : DramPlace) : Nat × Nat × Nat :=
  (s.bankRows p).foldl (fun m x => if x.2.2 < m.2.2 then x else m) ((s.bankRows p).headD (bankKey p, 0, 0))

/-- The count of an activated row, and the table without it or without the row that it displaces. -/
def State.rowCount (s : State) (p : DramPlace) : Nat :=
  match (s.bankRows p).find? (fun x => x.2.1 == p.row) with
  | some x => x.2.2 + 1
  | none => if (s.bankRows p).length < 32 then 1 else (s.lowRow p).2.2 + 1
def State.rowRest (s : State) (p : DramPlace) : List (Nat × Nat × Nat) :=
  match (s.bankRows p).find? (fun x => x.2.1 == p.row) with
  | some x => (s.dram p.channel).acts.erase x
  | none => if (s.bankRows p).length < 32 then (s.dram p.channel).acts else (s.dram p.channel).acts.erase (s.lowRow p)

/-- The activate's row is listed with its count (R356). -/
def State.rowListed (s : State) (p : DramPlace) : State :=
  s.setDram p.channel { s.dram p.channel with acts := s.rowRest p ++ [(bankKey p, p.row, s.rowCount p)] }

/-- Its neighbours are refreshed at the limit (R356). -/
def State.rowCounted (s : State) (p : DramPlace) : State :=
  if s.cfg 0x7801 5 ≤ s.rowCount p then (s.rowListed p).neighbours p.channel (bankKey p) p.row else s.rowListed p

/-- The activate counts in its bank (R357). -/
def State.bankAdded (s : State) (p : DramPlace) : State :=
  s.setDram p.channel { s.dram p.channel with raa := Tbl.modify 0 (s.dram p.channel).raa (bankKey p) (fun v => v + 1) }

/-- An RFM that the bank's limit forces (R357). -/
def State.rfmForced (s : State) (c b : Nat) : State :=
  ((s.rfmIssue c b).setDram c { (s.rfmIssue c b).dram c with forcedRefreshes := satAdd 64 (s.dram c).forcedRefreshes 1 }).drcBit 4

/-- The bank's count, and the RFM at its limit. -/
def State.bankCounted (s : State) (p : DramPlace) : State :=
  if !s.cfgB 0x7800 9 then s
  else if (s.bankAdded p).cfg 0x7800 11 ≤ Tbl.get 0 ((s.bankAdded p).dram p.channel).raa (bankKey p) then
    (s.bankAdded p).rfmForced p.channel (bankKey p)
  else s.bankAdded p

theorem State.activate_eq (s : State) (p : DramPlace) : s.activate p = (s.rowCounted p).bankCounted p := rfl

/-- From `s` to `t` no DRAM channel but one changed, nor any register but DRC_EVENT, whose set bits stay. -/
structure RowsOnly (c : Nat) (s t : State) : Prop where
  core : (t.dram c).core = (s.dram c).core
  other : ∀ j, j ≠ c → t.dram j = s.dram j
  regs : { t.regs with drcEvent := 0 } = { s.regs with drcEvent := 0 }
  event : ∀ k, s.regs.drcEvent.getLsbD k = true → t.regs.drcEvent.getLsbD k = true

namespace RowsOnly

variable {c : Nat} {s t u : State}

theorem refl (s : State) : RowsOnly c s s := ⟨rfl, fun _ _ => rfl, rfl, fun _ => id⟩

theorem step (h2 : RowsOnly c t u) (h : RowsOnly c s t) : RowsOnly c s u :=
  ⟨h2.core.trans h.core, fun j hj => (h2.other j hj).trans (h.other j hj), h2.regs.trans h.regs, fun k hk => h2.event k (h.event k hk)⟩

theorem setDram {x : Dram} (hx : x.core = (s.dram c).core) : RowsOnly c s (s.setDram c x) :=
  ⟨by rw [s.setDram_dram]; exact hx, fun _ hj => s.setDram_dram_ne x (Ne.symm hj), rfl, fun _ => id⟩

theorem drcBit (s : State) {b : Nat} (hb : b < 32) : RowsOnly c s (s.drcBit b) :=
  ⟨rfl, fun _ _ => rfl, rfl, fun k hk => by rw [s.drcBit_getLsbD hb, hk, Bool.true_or]⟩

theorem ite {q : Prop} [Decidable q] (ht : RowsOnly c s t) (hu : RowsOnly c s u) : RowsOnly c s (if q then t else u) := by
  split
  · exact ht
  · exact hu

end RowsOnly

theorem State.neighbours_rowsOnly (s : State) (c b row : Nat) : RowsOnly c s (s.neighbours c b row) :=
  (RowsOnly.drcBit _ (by decide)).step (.setDram rfl)

theorem State.rowCounted_rowsOnly (s : State) (p : DramPlace) : RowsOnly p.channel s (s.rowCounted p) := by
  have listed : RowsOnly p.channel s (s.rowListed p) := .setDram rfl
  exact .ite ((State.neighbours_rowsOnly ..).step listed) listed

theorem State.rfmIssue_rowsOnly (s : State) (c b : Nat) : RowsOnly c s (s.rfmIssue c b) := .setDram rfl

theorem State.rfmForced_rowsOnly (s : State) (c b : Nat) : RowsOnly c s (s.rfmForced c b) := by
  have issued := s.rfmIssue_rowsOnly c b
  generalize he : s.rfmIssue c b = u at issued
  unfold State.rfmForced
  rw [he]
  exact (RowsOnly.drcBit _ (by decide)).step (RowsOnly.step (.setDram rfl) issued)

theorem State.bankCounted_rowsOnly (s : State) (p : DramPlace) : RowsOnly p.channel s (s.bankCounted p) := by
  have added : RowsOnly p.channel s (s.bankAdded p) := .setDram rfl
  exact .ite (.refl s) (.ite ((State.rfmForced_rowsOnly ..).step added) added)

theorem State.activate_rowsOnly (s : State) (p : DramPlace) : RowsOnly p.channel s (s.activate p) := by
  rw [s.activate_eq]
  exact (State.bankCounted_rowsOnly ..).step (s.rowCounted_rowsOnly p)

theorem State.activate_dict (s : State) (p : DramPlace) : (s.activate p).dict = s.dict := (s.activate_chg p).dict rfl

/-- The bank's count leaves the table of rows and its refreshes of neighbours. -/
theorem State.bankCounted_acts (s : State) (p : DramPlace) : ((s.bankCounted p).dram p.channel).acts = (s.dram p.channel).acts ∧
    ((s.bankCounted p).dram p.channel).neighbourRefreshes = (s.dram p.channel).neighbourRefreshes := by
  have added : (s.bankAdded p).dram p.channel = _ := s.setDram_dram p.channel _
  unfold State.bankCounted
  split
  · exact ⟨rfl, rfl⟩
  · split
    · unfold State.rfmForced
      rw [State.drcBit_dram, State.setDram_dram]
      unfold State.rfmIssue
      rw [State.setDram_dram, added]
      exact ⟨rfl, rfl⟩
    · rw [added]
      exact ⟨rfl, rfl⟩

/-- An activate of a row that the table holds. -/
theorem State.bankRows_find {s : State} {p : DramPlace} {n : Nat}
    (h : (s.dram p.channel).acts.find? (fun x => x.1 == bankKey p && x.2.1 == p.row) = some (bankKey p, p.row, n)) :
    (s.bankRows p).find? (fun x => x.2.1 == p.row) = some (bankKey p, p.row, n) := by
  unfold State.bankRows
  rw [List.find?_filter]
  simpa only [Bool.decide_and, Bool.decide_eq_true] using h

/-- A row whose count stays under the limit keeps it. -/
theorem State.activate_under {s : State} {p : DramPlace} {n : Nat}
    (h : (s.dram p.channel).acts.find? (fun x => x.1 == bankKey p && x.2.1 == p.row) = some (bankKey p, p.row, n))
    (hn : n + 1 < s.cfg 0x7801 5) : (bankKey p, p.row, n + 1) ∈ ((s.activate p).dram p.channel).acts ∧
      ((s.activate p).dram p.channel).neighbourRefreshes = (s.dram p.channel).neighbourRefreshes := by
  have count : s.rowCount p = n + 1 := by unfold State.rowCount; rw [State.bankRows_find h]
  have listed : (s.rowListed p).dram p.channel = _ := s.setDram_dram p.channel _
  have counted : s.rowCounted p = s.rowListed p := if_neg (by omega)
  rw [s.activate_eq, (State.bankCounted_acts ..).1, (State.bankCounted_acts ..).2, counted, listed]
  exact ⟨List.mem_append_right _ (by rw [count]; exact List.mem_singleton.mpr rfl), rfl⟩

/-- A row whose count reaches the limit has its neighbours refreshed and starts again at 0. -/
theorem State.activate_reaches {s : State} {p : DramPlace} {n : Nat}
    (h : (s.dram p.channel).acts.find? (fun x => x.1 == bankKey p && x.2.1 == p.row) = some (bankKey p, p.row, n))
    (hn : s.cfg 0x7801 5 ≤ n + 1) : (bankKey p, p.row, 0) ∈ ((s.activate p).dram p.channel).acts ∧
      ((s.activate p).dram p.channel).neighbourRefreshes = satAdd 64 (s.dram p.channel).neighbourRefreshes 1 ∧
      (s.activate p).regs.drcEvent.getLsbD 5 = true := by
  have count : s.rowCount p = n + 1 := by unfold State.rowCount; rw [State.bankRows_find h]
  have listed : (s.rowListed p).dram p.channel = _ := s.setDram_dram p.channel _
  have counted : s.rowCounted p = (s.rowListed p).neighbours p.channel (bankKey p) p.row := if_pos (by omega)
  have refreshed : ((s.rowListed p).neighbours p.channel (bankKey p) p.row).dram p.channel = _ := (s.rowListed p).setDram_dram p.channel _
  have bit : ((s.rowListed p).neighbours p.channel (bankKey p) p.row).regs.drcEvent.getLsbD 5 = true := by
    unfold State.neighbours
    dsimp only
    rw [State.drcBit_getLsbD _ (by decide), decide_eq_true rfl, Bool.or_true]
  refine ⟨?_, ?_, ?_⟩
  · rw [s.activate_eq, (State.bankCounted_acts ..).1, counted, refreshed, listed]
    exact List.mem_map.mpr ⟨_, List.mem_append_right _ (List.mem_singleton.mpr rfl), if_pos ⟨rfl, rfl⟩⟩
  · rw [s.activate_eq, (State.bankCounted_acts ..).2, counted, refreshed, listed]
  · rw [s.activate_eq, counted]
    exact (State.bankCounted_rowsOnly _ p).event 5 bit

theorem exec_dramReadComplete {s : State} {p : DramPlace} (h : s.dramUp p.channel = true) (code : DramCode) (good : Bool) (user : DramUser) :
    exec (.dramReadComplete p code good user) s = .next ((s.activate p).dramDecode p code good user) := next_when h

end Sys2Proof.Machine
end

section
/-! SUPPORT. Refresh, panic, code words, training and the periodic steps of the DRAM channels (R344 to R361). -/

namespace Sys2Proof.Machine

/-! ### Refresh (R354 to R357) -/

/-- The refreshes that a rank owes at a boundary (R354). -/
def owedAt (d : Dram) (owed top : Nat) (done : Bool) : Nat :=
  if d.panic then (if done then owed else min top (owed + 1)) else (if done then 0 else owed)

/-- A channel at a boundary of one of its ranks. -/
def Dram.refreshed (d : Dram) (rank owed top n : Nat) : Dram := { d with
  maxOwed := max d.maxOwed owed
  forcedRefreshes := if decide (owed = top) then satAdd 64 d.forcedRefreshes 1 else d.forcedRefreshes
  acts := if n = 0 then d.acts.filter (fun x => x.1 / 32 != rank) else d.acts }

/-- The refresh boundary of a rank, after its RFMs. -/
def State.rankRefreshed (s : State) (ch rank : Nat) (done : Bool) : State :=
  let r := Tbl.get {} s.ranks (rankKey ch rank)
  let owed := owedAt (s.dram ch) r.owed (s.cfg 0x7801 4) done
  let n := (r.boundaries + 1) % 8192
  let s2 := ({ s with ranks := Tbl.set {} s.ranks (rankKey ch rank) { owed := owed, boundaries := n } }).setDram ch
    ((s.dram ch).refreshed rank owed (s.cfg 0x7801 4) n)
  if decide (owed = s.cfg 0x7801 4) then s2.drcBit 4 else s2

theorem exec_trefiBoundary {s : State} {ch : Nat} (h : s.dramUp ch = true) (rank : Nat) (done : Bool) :
    exec (.trefiBoundary ch rank done) s = .next (((s.boundary 0x7801).rfmRank ch rank).rankRefreshed ch rank done) := next_when h

theorem State.rankRefreshed_ranks (s : State) (ch rank : Nat) (done : Bool) :
    Tbl.get {} (s.rankRefreshed ch rank done).ranks (rankKey ch rank) =
      { owed := owedAt (s.dram ch) (Tbl.get {} s.ranks (rankKey ch rank)).owed (s.cfg 0x7801 4) done
        boundaries := ((Tbl.get {} s.ranks (rankKey ch rank)).boundaries + 1) % 8192 } := by
  unfold State.rankRefreshed
  dsimp only
  split <;> exact Tbl.get_set_same ..

theorem State.rankRefreshed_dram (s : State) (ch rank : Nat) (done : Bool) : (s.rankRefreshed ch rank done).dram ch =
    (s.dram ch).refreshed rank (owedAt (s.dram ch) (Tbl.get {} s.ranks (rankKey ch rank)).owed (s.cfg 0x7801 4) done) (s.cfg 0x7801 4)
      (((Tbl.get {} s.ranks (rankKey ch rank)).boundaries + 1) % 8192) := by
  unfold State.rankRefreshed
  dsimp only
  split
  · rw [State.drcBit_dram, State.setDram_dram]
  · rw [State.setDram_dram]

/-- A forced refresh is an event (R363). -/
theorem State.rankRefreshed_event {s : State} {ch rank : Nat} {done : Bool}
    (h : owedAt (s.dram ch) (Tbl.get {} s.ranks (rankKey ch rank)).owed (s.cfg 0x7801 4) done = s.cfg 0x7801 4) :
    (s.rankRefreshed ch rank done).regs.drcEvent = s.regs.drcEvent ||| 0x10#32 := by
  unfold State.rankRefreshed
  dsimp only
  rw [if_pos (decide_eq_true h)]
  rfl

/-- A channel without what refresh management changes (R357). -/
def Dram.unmanaged (x : Dram) : Dram := { x with raa := [], rfm := 0 }

/-- Refresh management changes no more than the counts of its channel's banks and of its commands. -/
theorem State.rfmIssue_frame (s : State) (c b : Nat) : ((s.rfmIssue c b).dram c).unmanaged = (s.dram c).unmanaged ∧
    (s.rfmIssue c b).ranks = s.ranks ∧ (s.rfmIssue c b).regs = s.regs ∧ (s.rfmIssue c b).dict = s.dict := by
  refine ⟨?_, rfl, rfl, rfl⟩
  unfold State.rfmIssue
  rw [State.setDram_dram]
  rfl

theorem State.rfmRank_frame (s : State) (c r : Nat) : ((s.rfmRank c r).dram c).unmanaged = (s.dram c).unmanaged ∧
    (s.rfmRank c r).ranks = s.ranks ∧ (s.rfmRank c r).regs = s.regs ∧ (s.rfmRank c r).dict = s.dict := by
  unfold State.rfmRank
  split
  · exact ⟨rfl, rfl, rfl, rfl⟩
  · refine State.forEach_induct (P := fun t : State => (t.dram c).unmanaged = (s.dram c).unmanaged ∧ t.ranks = s.ranks ∧ t.regs = s.regs ∧
      t.dict = s.dict) ⟨rfl, rfl, rfl, rfl⟩ fun x _ t ht => ?_
    exact ⟨(t.rfmIssue_frame c x.1).1.trans ht.1, ht.2⟩

/-- The only bank of a rank that counts, at RAAIMT or above, has one command issued. -/
theorem State.rfmRank_single {s : State} {c r : Nat} {x : Nat × Nat} (h : s.cfgB 0x7800 9 = true) (hx : (s.dram c).raa = [x])
    (hr : x.1 / 32 = r) (hl : s.cfg 0x7800 10 ≤ x.2) : s.rfmRank c r = s.rfmIssue c x.1 := by
  unfold State.rfmRank
  rw [if_neg (by rw [h]; decide), hx, List.filter_cons_of_pos (by simp [hr, hl])]
  rfl

/-- R354 to R357: a boundary of a rank, `w` being the state after the waiting commit of 7801h. -/
theorem trefiBoundary_refreshes {s w : State} {ch rank owed n : Nat} {done : Bool} (hs : s.dramUp ch = true) (hw : w = s.boundary 0x7801)
    (ho : owed = owedAt (w.dram ch) (Tbl.get {} w.ranks (rankKey ch rank)).owed (w.cfg 0x7801 4) done)
    (hn : n = ((Tbl.get {} w.ranks (rankKey ch rank)).boundaries + 1) % 8192) :
    ∃ t, exec (.trefiBoundary ch rank done) s = .next t ∧ Tbl.get {} t.ranks (rankKey ch rank) = { owed := owed, boundaries := n } ∧
      (t.dram ch).maxOwed = max (w.dram ch).maxOwed owed ∧ (t.dram ch).st = (w.dram ch).st ∧
      (owed = w.cfg 0x7801 4 → (t.dram ch).forcedRefreshes = satAdd 64 (w.dram ch).forcedRefreshes 1 ∧
        t.regs.drcEvent = w.regs.drcEvent ||| 0x10#32) ∧
      (n = 0 → ∀ x ∈ (t.dram ch).acts, x.1 / 32 ≠ rank) ∧
      (w.cfgB 0x7800 9 = true → ∀ x ∈ (w.dram ch).raa, x.1 / 32 = rank → w.cfg 0x7800 10 ≤ x.2 → (w.dram ch).raa = [x] →
        (t.dram ch).rfm = satAdd 64 (w.dram ch).rfm 1 ∧ Tbl.get 0 (t.dram ch).raa x.1 = x.2 - w.cfg 0x7800 10) := by
  subst hw
  generalize hw : s.boundary 0x7801 = w at ho hn ⊢
  obtain ⟨managed, ranks, regs, dict⟩ := w.rfmRank_frame ch rank
  have dram := (w.rfmRank ch rank).rankRefreshed_dram ch rank done
  have panic : ((w.rfmRank ch rank).dram ch).panic = (w.dram ch).panic := (congrArg Dram.panic managed :)
  have owes : owedAt ((w.rfmRank ch rank).dram ch) (Tbl.get {} (w.rfmRank ch rank).ranks (rankKey ch rank)).owed
      ((w.rfmRank ch rank).cfg 0x7801 4) done = owed := by
    rw [ho, ranks, State.cfg_congr dict]
    unfold owedAt
    rw [panic]
  rw [owes, ranks, ← hn, State.cfg_congr dict] at dram
  refine ⟨(w.rfmRank ch rank).rankRefreshed ch rank done, by rw [exec_trefiBoundary hs, hw], ?_, ?_, ?_, fun hl => ⟨?_, ?_⟩, fun h0 => ?_,
    fun hc x _ hr hl hx => ?_⟩
  · rw [State.rankRefreshed_ranks, owes, ranks, ← hn]
  · rw [dram]; exact (congrArg (fun d : Dram => max d.maxOwed owed) managed :)
  · rw [dram]; exact (congrArg Dram.st managed :)
  · rw [dram]
    refine (if_pos (decide_eq_true hl)).trans ?_
    exact (congrArg (fun d : Dram => satAdd 64 d.forcedRefreshes 1) managed :)
  · rw [State.rankRefreshed_event (owes.trans (hl.trans (State.cfg_congr dict ..).symm)), regs]
  · intro x hx
    rw [dram] at hx
    unfold Dram.refreshed at hx
    rw [if_pos h0] at hx
    simpa using (List.mem_filter.mp hx).2
  · have issued : (w.rfmIssue ch x.1).dram ch = _ := w.setDram_dram ch _
    rw [dram, State.rfmRank_single hc hx hr hl, issued]
    refine ⟨rfl, ?_⟩
    show Tbl.get 0 (Tbl.modify 0 (w.dram ch).raa x.1 (fun v => v - w.cfg 0x7800 10)) x.1 = x.2 - w.cfg 0x7800 10
    rw [Tbl.modify, Tbl.get_set_same, hx]
    exact congrArg (· - w.cfg 0x7800 10) (if_pos rfl)

/-! ### Panic (R350) -/

/-- A channel in panic: in Flush, while too few bursts are staged, or when bursts wait and fewer still are staged. -/
def State.panics (s : State) (ch staged waiting : Nat) : Bool :=
  decide (s.mode.base = .flush) || (if (s.dram ch).panic then decide (staged < s.cfg 0x7801 3 + 4) else decide (waiting ≠ 0 ∧ staged < s.cfg 0x7801 3))

theorem exec_realtimeBurstStaged {s : State} {ch staged : Nat} (hs : s.dramUp ch = true) (hl : staged ≤ 16) (waiting : Nat) :
    exec (.realtimeBurstStaged ch staged waiting) s = .next (s.setDram ch { s.dram ch with
      staged := staged, panic := s.panics ch staged waiting
      panicSince := if (s.dram ch).panic then (s.dram ch).panicSince else s.aon.now
      panicUs := satAdd 64 (s.dram ch).panicUs
        (if (s.dram ch).panic && !s.panics ch staged waiting then (s.aon.now - (s.dram ch).panicSince) / usec else 0) }) :=
  next_when (by rw [hs, decide_eq_true hl]; rfl)

theorem State.panics_iff (s : State) (ch staged waiting : Nat) : s.panics ch staged waiting = true ↔ s.mode.base = .flush ∨
    ((s.dram ch).panic = true ∧ staged < s.cfg 0x7801 3 + 4) ∨ ((s.dram ch).panic = false ∧ waiting ≠ 0 ∧ staged < s.cfg 0x7801 3) := by
  unfold State.panics
  cases (s.dram ch).panic <;> simp

/-! ### Code words (R344 to R348) -/

/-- The key of a device among a channel's corrections. -/
def deviceKey (p : DramPlace) (device : Nat) : Nat := (p.subch * 2 + p.rank) * 16 + device

/-- The corrections of a channel within 24 hours, with the one that is made. -/
def State.corrections (s : State) (p : DramPlace) (device : Nat) : List (Nat × Nat) :=
  (s.dram p.channel).corrTimes.filter (fun x => !s.elapsed x.2 (24 * hour)) ++ [(deviceKey p device, s.aon.now)]

/-- A corrected code word, as it is counted. -/
def State.correctionNoted (s : State) (p : DramPlace) (device : Nat) : State :=
  ((s.setDram p.channel { s.dram p.channel with
    corrected := satAdd 64 (s.dram p.channel).corrected 1, corrTimes := s.corrections p device }).drcBit 0).rasBit 0

theorem State.dramCorrected_eq (s : State) (p : DramPlace) (device bytes : Nat) : s.dramCorrected p device bytes =
    if 5 ≤ bytes ∨ s.cfg 0x7801 6 ≤ ((s.corrections p device).filter (fun x => x.1 == deviceKey p device)).length
    then (s.correctionNoted p device).deviceMark p device else s.correctionNoted p device := rfl

theorem State.correctionNoted_dram (s : State) (p : DramPlace) (device j : Nat) : (s.correctionNoted p device).dram j =
    (s.setDram p.channel { s.dram p.channel with
      corrected := satAdd 64 (s.dram p.channel).corrected 1, corrTimes := s.corrections p device }).dram j := (State.rasBit_chg ..).dram_eq rfl j

theorem State.correctionNoted_event (s : State) (p : DramPlace) (device : Nat) : (s.correctionNoted p device).regs.drcEvent.getLsbD 0 = true := by
  unfold State.correctionNoted
  rw [State.rasBit_regs]
  show (State.drcBit _ 0).regs.drcEvent.getLsbD 0 = true
  rw [State.drcBit_getLsbD _ (by decide), decide_eq_true rfl, Bool.or_true]

/-- The corrections of the device, counted. -/
theorem State.corrections_count (s : State) (p : DramPlace) (device : Nat) :
    ((s.corrections p device).filter (fun x => x.1 == deviceKey p device)).length =
      ((s.dram p.channel).corrTimes.filter (fun x => x.1 == deviceKey p device && !s.elapsed x.2 (24 * hour))).length + 1 := by
  unfold State.corrections
  rw [List.filter_append, List.length_append, List.filter_filter, List.filter_cons_of_pos (by simp)]
  rfl

/-- An activate changes nothing that the corrections rest on. -/
theorem State.corrections_activate (s : State) (p : DramPlace) (device : Nat) : (s.activate p).corrections p device = s.corrections p device := by
  have times : ((s.activate p).dram p.channel).corrTimes = (s.dram p.channel).corrTimes := (congrArg Dram.corrTimes (s.activate_rowsOnly p).core :)
  have clock : (s.activate p).aon = s.aon := (s.activate_chg p).aon rfl
  unfold State.corrections State.elapsed
  rw [times, clock]

theorem State.deviceMark_first {s : State} {p : DramPlace} (h : (s.dram p.channel).marks.find? (fun m => m.1 == p.subch * 2 + p.rank) = none)
    (device : Nat) : s.deviceMark p device =
      ((s.setDram p.channel { s.dram p.channel with marks := (s.dram p.channel).marks ++ [(p.subch * 2 + p.rank, device)] }).drcBit 2).rasReport
        7 p.channel 0 1 0 [p.channel, p.subch, p.rank, device] := by
  unfold State.deviceMark; dsimp only; rw [h]

theorem State.deviceMark_second {s : State} {p : DramPlace} {m : Nat × Nat} {device : Nat}
    (h : (s.dram p.channel).marks.find? (fun m => m.1 == p.subch * 2 + p.rank) = some m) (hm : m.2 ≠ device) :
    s.deviceMark p device = s.dramFail p.channel 4 := by
  unfold State.deviceMark; dsimp only; rw [h]; exact if_neg hm

/-- An uncorrectable code word, as it is counted (R360). -/
def State.uncorrNoted (s : State) (p : DramPlace) (device : Nat) : State :=
  ((s.setDram p.channel { s.dram p.channel with
    uncorrectable := satAdd 32 (s.dram p.channel).uncorrectable 1
    uncorrTimes := s.recent (s.dram p.channel).uncorrTimes hour ++ [s.aon.now] }).drcBit 1).rasReport 7 p.channel 1 1 0
    [p.channel, p.subch, p.rank, p.bg, p.bank, p.row, p.column, device]

/-- The copy of the other channel mends the code word, or its user gets a bus error (R347, R375). -/
def State.uncorrServed (s : State) (p : DramPlace) (good : Bool) (user : DramUser) : State :=
  if mirroredUser user && good then
    s.setDram p.channel { s.dram p.channel with mirrorRepairs := satAdd 32 (s.dram p.channel).mirrorRepairs 1 }
  else s.busError user

theorem State.dramDecode_uncorrectable (s : State) (p : DramPlace) (device : Nat) (good : Bool) (user : DramUser) :
    s.dramDecode p (.uncorrectable device) good user = (((s.uncorrNoted p device).eccCapture p device).uncorrServed p good user).uncorrRule p := rfl

theorem State.uncorrNoted_dram (s : State) (p : DramPlace) (device j : Nat) : ((s.uncorrNoted p device).eccCapture p device).dram j =
    (s.setDram p.channel { s.dram p.channel with
      uncorrectable := satAdd 32 (s.dram p.channel).uncorrectable 1
      uncorrTimes := s.recent (s.dram p.channel).uncorrTimes hour ++ [s.aon.now] }).dram j :=
  ((State.eccCapture_chg ..).dram_eq rfl j).trans (State.rasReport_dram ..)

/-- DRC_ECCLOG counts the code word, and captures it if it is the first (R365). -/
theorem State.eccCapture_log (s : State) (p : DramPlace) (device : Nat) : (s.eccCapture p device).regs.eccValid = true ∧
    (s.eccCapture p device).regs.eccCount = satAdd 16 s.regs.eccCount 1 ∧
    (s.regs.eccValid = true → (s.eccCapture p device).regs.eccLog = s.regs.eccLog) := by
  unfold State.eccCapture
  dsimp only
  split
  · exact ⟨‹_›, rfl, fun _ => rfl⟩
  · exact ⟨rfl, rfl, fun h => absurd h ‹_›⟩

/-- What serves the code word leaves the marks, the times and the state of its channel, and every other channel. -/
theorem State.uncorrServed_dram (s : State) (p : DramPlace) (good : Bool) (user : DramUser) :
    { (s.uncorrServed p good user).dram p.channel with mirrorRepairs := 0 } = { s.dram p.channel with mirrorRepairs := 0 } ∧
      ∀ j, j ≠ p.channel → (s.uncorrServed p good user).dram j = s.dram j := by
  unfold State.uncorrServed
  split
  · exact ⟨by rw [State.setDram_dram], fun j hj => s.setDram_dram_ne _ hj.symm⟩
  · have same := fun j => (s.busError_chg user).dram_eq rfl j
    exact ⟨by rw [same], fun j _ => same j⟩

end Sys2Proof.Machine
end

section
/-! SUPPORT. What a read makes of its code word (R344 to R348, R356, R360), and the equations of the services of a DRAM channel (R358 to R361). -/

namespace Sys2Proof.Machine

section
variable {s : State} {p : DramPlace}

/-- The fields of its channel that an activate leaves. -/
theorem State.activate_dram (s : State) (p : DramPlace) : ((s.activate p).dram p.channel).st = (s.dram p.channel).st ∧
    ((s.activate p).dram p.channel).marks = (s.dram p.channel).marks ∧
    ((s.activate p).dram p.channel).corrected = (s.dram p.channel).corrected ∧
    ((s.activate p).dram p.channel).uncorrectable = (s.dram p.channel).uncorrectable ∧
    ((s.activate p).dram p.channel).uncorrTimes = (s.dram p.channel).uncorrTimes ∧
    ((s.activate p).dram p.channel).mirrorRepairs = (s.dram p.channel).mirrorRepairs := by
  have core := (s.activate_rowsOnly p).core
  exact ⟨(congrArg Dram.st core :), (congrArg Dram.marks core :), (congrArg Dram.corrected core :), (congrArg Dram.uncorrectable core :),
    (congrArg Dram.uncorrTimes core :), (congrArg Dram.mirrorRepairs core :)⟩

theorem State.activate_recent (s : State) (p : DramPlace) : (s.activate p).recent ((s.activate p).dram p.channel).uncorrTimes hour =
    s.recent (s.dram p.channel).uncorrTimes hour := by
  have clock : (s.activate p).aon = s.aon := (s.activate_chg p).aon rfl
  obtain ⟨-, -, -, -, times, -⟩ := s.activate_dram p
  unfold State.recent State.elapsed
  rw [times, clock]

/-- A corrected code word of a device that has not been corrected lately. -/
theorem dramReadComplete_corrects {device : Nat} (h : s.dramUp p.channel = true) (hl : s.cfg 0x7801 6 ≥ 2)
    (hd : ∀ x ∈ (s.dram p.channel).corrTimes, x.1 ≠ (p.subch * 2 + p.rank) * 16 + device) (good : Bool) (user : DramUser) :
    ∃ t, exec (.dramReadComplete p (.corrected device 4) good user) s = .next t ∧
      (t.dram p.channel).corrected = satAdd 64 (s.dram p.channel).corrected 1 ∧ (t.dram p.channel).marks = (s.dram p.channel).marks ∧
      t.regs.drcEvent.getLsbD 0 = true := by
  have fresh : ((s.dram p.channel).corrTimes.filter (fun x => x.1 == deviceKey p device && !s.elapsed x.2 (24 * hour))) = [] :=
    List.filter_eq_nil_iff.mpr fun x hx => by
      have := hd x hx
      simp [deviceKey, this]
  have few : ¬ (5 ≤ 4 ∨ (s.activate p).cfg 0x7801 6 ≤
      (((s.activate p).corrections p device).filter (fun x => x.1 == deviceKey p device)).length) := by
    rw [s.corrections_activate, s.corrections_count, fresh, State.cfg_congr (s.activate_dict p), List.length_nil]
    omega
  obtain ⟨-, marks, corrected, -⟩ := s.activate_dram p
  refine ⟨_, (exec_dramReadComplete h ..).trans (congrArg _ ((State.dramCorrected_eq ..).trans (if_neg few))), ?_, ?_, State.correctionNoted_event ..⟩
  · rw [State.correctionNoted_dram, State.setDram_dram, corrected]
  · rw [State.correctionNoted_dram, State.setDram_dram, marks]

/-- Five bytes of one device mark it, in a rank without a mark. -/
theorem dramReadComplete_marks {device : Nat} (h : s.dramUp p.channel = true)
    (hm : (s.dram p.channel).marks.find? (fun m => m.1 == p.subch * 2 + p.rank) = none) (good : Bool) (user : DramUser) :
    ∃ t, exec (.dramReadComplete p (.corrected device 5) good user) s = .next t ∧
      (t.dram p.channel).marks = (s.dram p.channel).marks ++ [(p.subch * 2 + p.rank, device)] ∧ t.regs.drcEvent.getLsbD 2 = true := by
  obtain ⟨-, marks, -⟩ := s.activate_dram p
  have noted : (((s.activate p).correctionNoted p device).dram p.channel).marks = (s.dram p.channel).marks := by
    rw [State.correctionNoted_dram, State.setDram_dram, marks]
  refine ⟨_, (exec_dramReadComplete h ..).trans (congrArg Host.Outcome.next (((s.activate p).dramCorrected_eq p device 5).trans
    ((if_pos (.inl (Nat.le_refl 5))).trans (State.deviceMark_first (by rw [noted]; exact hm) device)))), ?_, ?_⟩
  · rw [State.rasReport_dram, State.drcBit_dram, State.setDram_dram, noted]
  · rw [State.rasReport_regs]
    show (State.drcBit _ 2).regs.drcEvent.getLsbD 2 = true
    rw [State.drcBit_getLsbD _ (by decide), decide_eq_true rfl, Bool.or_true]

/-- What is counted and served of an uncorrectable code word, before the failure rules: its channel's marks, times and state. -/
theorem State.uncorrectable_dram (s : State) (p : DramPlace) (device : Nat) (good : Bool) (user : DramUser) :
    ∃ u : State, (s.activate p).dramDecode p (.uncorrectable device) good user = u.uncorrRule p ∧
      (u.dram p.channel).st = (s.dram p.channel).st ∧ (u.dram p.channel).marks = (s.dram p.channel).marks ∧
      (u.dram p.channel).uncorrTimes = s.recent (s.dram p.channel).uncorrTimes hour ++ [s.aon.now] ∧
      ∀ j, j ≠ p.channel → u.dram j = s.dram j := by
  obtain ⟨st, marks, -⟩ := s.activate_dram p
  have clock : (s.activate p).aon = s.aon := (s.activate_chg p).aon rfl
  obtain ⟨same, other⟩ := (((s.activate p).uncorrNoted p device).eccCapture p device).uncorrServed_dram p good user
  rw [State.uncorrNoted_dram, State.setDram_dram] at same
  refine ⟨_, (s.activate p).dramDecode_uncorrectable p device good user, ?_, ?_, ?_, fun j hj => ?_⟩
  · exact (congrArg Dram.st same :).trans st
  · exact (congrArg Dram.marks same :).trans marks
  · refine (congrArg Dram.uncorrTimes same :).trans ?_
    show (s.activate p).recent ((s.activate p).dram p.channel).uncorrTimes hour ++ [(s.activate p).aon.now] = _
    rw [s.activate_recent, clock]
  · rw [other j hj, State.uncorrNoted_dram, State.setDram_dram_ne _ _ hj.symm]
    exact (s.activate_rowsOnly p).other j hj

/-- A code word of an unmarked rank with fewer than four uncorrectable ones in its hour fails no channel. -/
theorem State.uncorrRule_passes (hm : (s.dram p.channel).marks.any (fun m => m.1 == p.subch * 2 + p.rank) = false)
    (hn : (s.dram p.channel).uncorrTimes.length < 4) : s.uncorrRule p = s := by
  unfold State.uncorrRule
  dsimp only
  rw [hm, if_neg Bool.false_ne_true, if_neg (by omega)]

/-- A user that answers no bus error leaves a code word that has no good copy. -/
theorem State.uncorrServed_other (s : State) (p : DramPlace) (good : Bool) : (s.uncorrServed p good .other).regs = s.regs ∧
    (s.uncorrServed p good .other).dram p.channel = { s.dram p.channel with
      mirrorRepairs := if good then satAdd 32 (s.dram p.channel).mirrorRepairs 1 else (s.dram p.channel).mirrorRepairs } := by
  cases good with
  | true => exact ⟨rfl, s.setDram_dram p.channel _⟩
  | false => exact ⟨rfl, rfl⟩

/-- The registers that capture an uncorrectable code word, after its activate. -/
theorem State.uncorrNoted_log (s : State) (p : DramPlace) (device : Nat) :
    (((s.activate p).uncorrNoted p device).eccCapture p device).regs.eccValid = true ∧
    (((s.activate p).uncorrNoted p device).eccCapture p device).regs.eccCount = satAdd 16 s.regs.eccCount 1 ∧
    (s.regs.eccValid = true → (((s.activate p).uncorrNoted p device).eccCapture p device).regs.eccLog = s.regs.eccLog) := by
  have kept := (s.activate_rowsOnly p).regs
  have noted : ((s.activate p).uncorrNoted p device).regs = _ := State.rasReport_regs ..
  obtain ⟨valid, count, first⟩ := ((s.activate p).uncorrNoted p device).eccCapture_log p device
  refine ⟨valid, count.trans ?_, fun h => (first ?_).trans ?_⟩ <;> rw [noted]
  · exact (congrArg (fun r : Regs => satAdd 16 r.eccCount 1) kept :)
  · exact (congrArg Regs.eccValid kept :).trans h
  · exact (congrArg Regs.eccLog kept :)

/-- An uncorrectable code word that fails no rule of R360, of a user that answers no bus error. -/
theorem dramReadComplete_uncorrectable (h : s.dramUp p.channel = true)
    (hm : (s.dram p.channel).marks.any (fun m => m.1 == p.subch * 2 + p.rank) = false)
    (hn : (s.recent (s.dram p.channel).uncorrTimes hour).length < 3) (device : Nat) (good : Bool) :
    ∃ t, exec (.dramReadComplete p (.uncorrectable device) good .other) s = .next t ∧
      (t.dram p.channel).uncorrectable = satAdd 32 (s.dram p.channel).uncorrectable 1 ∧ (t.dram p.channel).st = (s.dram p.channel).st ∧
      t.regs.eccValid = true ∧ t.regs.eccCount = satAdd 16 s.regs.eccCount 1 ∧ (s.regs.eccValid = true → t.regs.eccLog = s.regs.eccLog) ∧
      (t.dram p.channel).mirrorRepairs = (if good then satAdd 32 (s.dram p.channel).mirrorRepairs 1 else (s.dram p.channel).mirrorRepairs) := by
  obtain ⟨st, marks, -, uncorrectable, -, repairs⟩ := s.activate_dram p
  have counted := (s.activate p).uncorrNoted_dram p device p.channel
  rw [State.setDram_dram] at counted
  have log := s.uncorrNoted_log p device
  obtain ⟨regs, dram⟩ := (((s.activate p).uncorrNoted p device).eccCapture p device).uncorrServed_other p good
  rw [counted] at dram
  have run := exec_dramReadComplete h (.uncorrectable device) good .other
  rw [(s.activate p).dramDecode_uncorrectable, State.uncorrRule_passes] at run
  · refine ⟨_, run, ?_, ?_, by rw [regs]; exact log.1, by rw [regs]; exact log.2.1, by rw [regs]; exact log.2.2, ?_⟩ <;> rw [dram]
    · exact congrArg (satAdd 32 · 1) uncorrectable
    · exact st
    · rw [← repairs]
  · rw [dram]; exact (congrArg (List.any · _) marks).trans hm
  · rw [dram]
    show ((s.activate p).recent ((s.activate p).dram p.channel).uncorrTimes hour ++ [_]).length < 4
    rw [s.activate_recent, List.length_append, List.length_singleton]
    omega

end

/-! ### Training and the periodic steps (R358 to R360) -/

section
variable {s : State} {ch : Nat}

theorem exec_dramTrainingResult_retraining (h : (s.dram ch).retraining = true) (pass agree : Bool) :
    exec (.dramTrainingResult ch pass agree) s = .next (if pass && agree then s.setDram ch { s.dram ch with retraining := false } else s.dramFail ch 1) :=
  congrArg Host.Outcome.next (if_pos h)

theorem exec_dramTrainingResult (h : (s.dram ch).retraining = false) (hs : (s.dram ch).st = 1) (pass agree : Bool) :
    exec (.dramTrainingResult ch pass agree) s = .next (
      if pass && agree then
        (if decide ((s.dram ch).rate = s.cfg 0x7800 5) then s.setDram ch { s.dram ch with st := if decide ((s.dram ch).rate = s.cfg 0x7800 5) then 2 else 3 }
          else (s.setDram ch { s.dram ch with st := if decide ((s.dram ch).rate = s.cfg 0x7800 5) then 2 else 3 }).sustainSet 6)
      else if pass then s.dramFail ch 1
      else if (s.dram ch).rate = 6400 then s.setDram ch { s.dram ch with rate := 5600 }
      else if (s.dram ch).rate = 5600 then s.setDram ch { s.dram ch with rate := 4800 }
      else s.dramFail ch 1) :=
  congrArg Host.Outcome.next ((if_neg (by rw [h]; decide)).trans (State.when_true _ (by rw [hs]; rfl)))

theorem exec_dramParityError (h : s.dramUp ch = true) : exec (.dramParityError ch) s = .next (
    if 2 ≤ (s.recent (s.dram ch).parityTimes hour ++ [s.aon.now]).length then
      ((s.setDram ch { s.dram ch with parityTimes := s.recent (s.dram ch).parityTimes hour ++ [s.aon.now] }).rasRecord 7 ch 4 1 5 []).dramFail ch 5
    else (s.setDram ch { s.dram ch with parityTimes := s.recent (s.dram ch).parityTimes hour ++ [s.aon.now] }).rasRecord 7 ch 4 1 5 []) := next_when h

theorem exec_zqCalibrationTimer (h : s.dramUp ch = true) (hr : (s.dram ch).retraining = false) (ok : Bool) :
    exec (.zqCalibrationTimer ch ok) s = .next (if ok then s.setDram ch { s.dram ch with zqFails := 0 }
      else if (s.dram ch).zqFails = 0 then s.setDram ch { s.dram ch with zqFails := 1 } else s.dramRetrain ch) := next_when (by rw [h, hr]; rfl)

theorem exec_dqsOscillatorTimer (h : s.dramUp ch = true) (hr : (s.dram ch).retraining = false) (drift : Nat) (ok : Bool) :
    exec (.dqsOscillatorTimer ch drift ok) s = .next (if ok then s.setDram ch { s.dram ch with dqsFails := 0, dqsDelay := (s.dram ch).dqsDelay + drift }
      else if (s.dram ch).dqsFails = 0 then s.setDram ch { s.dram ch with dqsFails := 1 } else s.dramRetrain ch) := next_when (by rw [h, hr]; rfl)

theorem State.dramRetrain_dram (s : State) (ch : Nat) : (s.dramRetrain ch).dram ch = { s.dram ch with retraining := true, zqFails := 0, dqsFails := 0 } :=
  s.setDram_dram ch _

theorem State.dramRetrain_event (s : State) (ch : Nat) : (s.dramRetrain ch).regs.drcEvent.getLsbD 6 = true := by
  unfold State.dramRetrain
  rw [State.drcBit_getLsbD _ (by decide), decide_eq_true rfl, Bool.or_true]

end

/-- R358: a first training of a channel: it passes, or the rate steps down. -/
theorem dramTrainingResult_trains {s : State} {ch : Nat} (agree : Bool) (hs : (s.dram ch).st = 1) (hr : (s.dram ch).retraining = false) :
    (∃ t, exec (.dramTrainingResult ch true true) s = .next t ∧ (t.dram ch).st = (if (s.dram ch).rate = s.cfg 0x7800 5 then 2 else 3) ∧
      ((s.dram ch).rate ≠ s.cfg 0x7800 5 → t.mode.sustain.testBit 6 = true)) ∧
    ((s.dram ch).rate = 6400 → ∃ t, exec (.dramTrainingResult ch false agree) s = .next t ∧ (t.dram ch).rate = 5600 ∧ (t.dram ch).st = 1) ∧
    ((s.dram ch).rate = 5600 → ∃ t, exec (.dramTrainingResult ch false agree) s = .next t ∧ (t.dram ch).rate = 4800 ∧ (t.dram ch).st = 1) := by
  refine ⟨?_, fun h => ?_, fun h => ?_⟩
  · refine ⟨_, exec_dramTrainingResult hr hs true true, ?_, fun hne => ?_⟩
    · rw [if_pos (by decide)]
      by_cases h : (s.dram ch).rate = s.cfg 0x7800 5
      · rw [if_pos (decide_eq_true h), State.setDram_dram, if_pos (decide_eq_true h), if_pos h]
      · rw [if_neg (by simpa using h), if_neg h]
        show ((State.setDram ..).dram ch).st = 3
        rw [State.setDram_dram, if_neg (by simpa using h)]
    · rw [if_pos (by decide), if_neg (by simpa using hne)]
      exact State.sustainSet_testBit _ 6
  · refine ⟨_, (exec_dramTrainingResult hr hs false agree).trans (by rw [Bool.false_and, if_neg Bool.false_ne_true, if_neg Bool.false_ne_true, if_pos h]), ?_, ?_⟩
    · rw [State.setDram_dram]
    · rw [State.setDram_dram]; exact hs
  · have ne : (s.dram ch).rate ≠ 6400 := by omega
    refine ⟨_, (exec_dramTrainingResult hr hs false agree).trans (by
      rw [Bool.false_and, if_neg Bool.false_ne_true, if_neg Bool.false_ne_true, if_neg ne, if_pos h]), ?_, ?_⟩
    · rw [State.setDram_dram]
    · rw [State.setDram_dram]; exact hs

/-- R359: the periodic steps: good, a first failure, a second one. -/
theorem dramTimers_step {s : State} {ch : Nat} (drift : Nat) (hs : s.dramUp ch = true) (hr : (s.dram ch).retraining = false) :
    (∃ t, exec (.zqCalibrationTimer ch true) s = .next t ∧ (t.dram ch).zqFails = 0) ∧
    ((s.dram ch).zqFails = 0 → ∃ t, exec (.zqCalibrationTimer ch false) s = .next t ∧ (t.dram ch).zqFails = 1 ∧ (t.dram ch).retraining = false) ∧
    ((s.dram ch).zqFails ≠ 0 → ∃ t, exec (.zqCalibrationTimer ch false) s = .next t ∧ (t.dram ch).zqFails = 0 ∧ (t.dram ch).retraining = true ∧
      (t.dram ch).rate = (s.dram ch).rate ∧ t.regs.drcEvent.getLsbD 6 = true) ∧
    (∃ t, exec (.dqsOscillatorTimer ch drift true) s = .next t ∧ (t.dram ch).dqsFails = 0 ∧ (t.dram ch).dqsDelay = (s.dram ch).dqsDelay + drift) ∧
    ((s.dram ch).dqsFails = 0 → ∃ t, exec (.dqsOscillatorTimer ch drift false) s = .next t ∧ (t.dram ch).dqsFails = 1 ∧
      (t.dram ch).dqsDelay = (s.dram ch).dqsDelay ∧ (t.dram ch).retraining = false) ∧
    ((s.dram ch).dqsFails ≠ 0 → ∃ t, exec (.dqsOscillatorTimer ch drift false) s = .next t ∧ (t.dram ch).dqsFails = 0 ∧
      (t.dram ch).retraining = true) := by
  have no : ¬ (false = true) := Bool.false_ne_true
  have zq := exec_zqCalibrationTimer hs hr
  have dqs := exec_dqsOscillatorTimer hs hr drift
  refine ⟨⟨_, (zq true).trans (by rw [if_pos rfl]), ?_⟩, fun h => ⟨_, (zq false).trans (by rw [if_neg no, if_pos h]), ?_, ?_⟩,
    fun h => ⟨_, (zq false).trans (by rw [if_neg no, if_neg h]), ?_, ?_, ?_, s.dramRetrain_event ch⟩,
    ⟨_, (dqs true).trans (by rw [if_pos rfl]), ?_, ?_⟩, fun h => ⟨_, (dqs false).trans (by rw [if_neg no, if_pos h]), ?_, ?_, ?_⟩,
    fun h => ⟨_, (dqs false).trans (by rw [if_neg no, if_neg h]), ?_, ?_⟩⟩
  all_goals simp only [State.dramRetrain_dram, State.setDram_dram, hr]

end Sys2Proof.Machine
end

section
/-! The statements about the traffic, the services and the failure of a DRAM channel. -/

namespace Sys2Proof

open Machine

/-- Settles O43. What an RFM takes off its count, one activation for each read, and the count of forced refreshes are the model's choice
(log entry 102). -/
theorem dramTraffic : Obligations.DramTraffic := by
  refine ⟨fun s w ch rank owed n done hs hw ho hn => trefiBoundary_refreshes hs hw ho hn, fun s ch staged waiting hs hl => ?_,
    fun s p good user hs => ⟨fun n h => ⟨fun hn => ?_, fun hn => ?_⟩, fun device hl hd => dramReadComplete_corrects hs hl hd good user,
      fun device hm => dramReadComplete_marks hs hm good user,
      fun device hm hn hu => hu ▸ dramReadComplete_uncorrectable hs hm hn device good⟩⟩
  · refine ⟨_, exec_realtimeBurstStaged hs hl waiting, ?_, ?_, fun hp ht => ?_⟩
    · rw [State.setDram_dram]
    · rw [State.setDram_dram]; exact s.panics_iff ch staged waiting
    · rw [State.setDram_dram] at ht ⊢
      have ends : ((s.dram ch).panic && !s.panics ch staged waiting) = true := by
        rw [hp, show s.panics ch staged waiting = false from ht]; rfl
      exact congrArg (satAdd 64 (s.dram ch).panicUs) (if_pos ends)
  · exact ⟨_, exec_dramReadComplete hs .clean good user, State.activate_under h hn⟩
  · exact ⟨_, exec_dramReadComplete hs .clean good user, State.activate_reaches h hn⟩

/-- Settles O44. -/
theorem dramService : Obligations.DramService := by
  refine ⟨fun s ch agree hs hr => dramTrainingResult_trains agree hs hr, fun s ch hr => ?_, fun s ch hs hp => ?_, fun s hr hw => ?_,
    fun s ch drift hs hr => dramTimers_step drift hs hr⟩
  · refine ⟨_, (exec_dramTrainingResult_retraining hr true true).trans (by rw [if_pos (by decide)]), ?_, ?_, ?_⟩ <;> rw [State.setDram_dram]
  · have run := exec_dramParityError hs
    rw [hp, List.nil_append, List.length_singleton, if_neg (by decide)] at run
    refine ⟨_, run, ?_, ?_⟩ <;> rw [State.rasRecord_dram, State.setDram_dram]
  · exact ⟨_, next_when (by rw [hr, hw]; rfl), rfl, rfl⟩

/-- Settles O56. -/
theorem dramChannelFailure : Obligations.DramChannelFailure := by
  refine ⟨fun s ch cause pass agree x hs hx => ?_, fun s p code good user rank device bytes cause hs hrank hx => ?_⟩
  · have fails : ∀ u : State, (u.dram ch).st = (s.dram ch).st → (∀ j, j ≠ ch → u.dram j = s.dram j) → exec x s = .next (u.dramFail ch cause) →
        ∃ t, exec x s = .next t ∧ (t.dram ch).st = 4 ∧ (t.dram ch).cause = cause ∧ (t.dram ch).panic = false ∧
          (t.dram ch).retraining = false ∧ (∀ c, c ≠ ch → t.dram c = s.dram c) := fun u hu hj hr => by
      obtain ⟨st, code, panic, retraining, other⟩ := State.dramFail_fails (s := u) (c := ch) (by rw [hu]; exact hs) cause
      exact ⟨_, hr, st, code, panic, retraining, fun c hc => (other c hc).trans (hj c hc)⟩
    rcases hx with ⟨rfl, hr, hp, rfl⟩ | ⟨rfl, hr, h1, hp, rfl⟩ | ⟨rfl, hu, hp, rfl⟩
    · exact fails s rfl (fun _ _ => rfl) ((exec_dramTrainingResult_retraining hr pass agree).trans (by rw [hp, if_neg Bool.false_ne_true]))
    · refine fails s rfl (fun _ _ => rfl) ((exec_dramTrainingResult hr h1 pass agree).trans ?_)
      rcases hp with ⟨rfl, rfl⟩ | ⟨rfl, n64, n56⟩
      · rw [if_neg (by decide), if_pos rfl]
      · rw [if_neg (by rw [Bool.false_and]; decide), if_neg Bool.false_ne_true, if_neg n64, if_neg n56]
    · have two : 2 ≤ (s.recent (s.dram ch).parityTimes hour ++ [s.aon.now]).length := by
        have := List.length_pos_iff.mpr hp
        rw [List.length_append, List.length_singleton]
        omega
      refine fails _ ?_ (fun j hj => ?_) ((exec_dramParityError hu).trans (by rw [if_pos two]))
      · rw [State.rasRecord_dram, State.setDram_dram]
      · rw [State.rasRecord_dram, State.setDram_dram_ne _ _ hj.symm]
  · subst hrank
    have fails : ∀ u : State, (u.dram p.channel).st = (s.dram p.channel).st → (∀ j, j ≠ p.channel → u.dram j = s.dram j) →
        exec (.dramReadComplete p code good user) s = .next (u.dramFail p.channel cause) →
        ∃ t, exec (.dramReadComplete p code good user) s = .next t ∧ (t.dram p.channel).st = 4 ∧ (t.dram p.channel).cause = cause ∧
          (∀ c, c ≠ p.channel → t.dram c = s.dram c) := fun u hu hj hr => by
      obtain ⟨st, code, -, -, other⟩ := State.dramFail_fails (s := u) (c := p.channel) (by rw [hu]; exact State.dramUp_serves hs) cause
      exact ⟨_, hr, st, code, fun c hc => (other c hc).trans (hj c hc)⟩
    rcases hx with ⟨rfl, hm, hn, rfl⟩ | ⟨rfl, hm, rfl⟩ | ⟨rfl, ⟨m, hm, hd⟩, hn, rfl⟩
    · obtain ⟨u, run, st, marks, times, other⟩ := s.uncorrectable_dram p device good user
      refine fails u st other ((exec_dramReadComplete hs ..).trans ?_)
      rw [run, State.uncorrRule, marks, hm, times, if_neg Bool.false_ne_true, if_pos (by rw [List.length_append, List.length_singleton]; omega)]
    · obtain ⟨u, run, st, marks, -, other⟩ := s.uncorrectable_dram p device good user
      refine fails u st other ((exec_dramReadComplete hs ..).trans ?_)
      rw [run, State.uncorrRule, marks, hm, if_pos rfl]
    · obtain ⟨st, marks, -⟩ := s.activate_dram p
      have noted := (s.activate p).correctionNoted_dram p device
      have met : 5 ≤ bytes ∨ (s.activate p).cfg 0x7801 6 ≤
          (((s.activate p).corrections p device).filter (fun x => x.1 == deviceKey p device)).length := by
        rw [s.corrections_activate, s.corrections_count, State.cfg_congr (s.activate_dict p)]
        exact hn
      refine fails ((s.activate p).correctionNoted p device) ?_ (fun j hj => ?_) ((exec_dramReadComplete hs ..).trans (congrArg _
        ((State.dramCorrected_eq ..).trans ((if_pos met).trans (State.deviceMark_second ?_ hd)))))
      · rw [noted, State.setDram_dram]; exact st
      · rw [noted, State.setDram_dram_ne _ _ hj.symm]; exact (s.activate_rowsOnly p).other j hj
      · rw [noted, State.setDram_dram, marks]; exact hm

end Sys2Proof
end

section
/-! SUPPORT. A thermal sample round (R392 to R399): one sensor after its sample, one zone after the round, the junction sensors and their
limits, and the round as its steps. -/

namespace Sys2Proof.Machine

/-! ### One sample of a sensor (R393) -/

theorem State.sampleOf_congr {s t : State} (h : t.dict = s.dict) (k : Nat) (v : Sample) : t.sampleOf k v = s.sampleOf k v := by
  unfold State.sampleOf
  rw [State.cfg_congr h]

theorem State.sensor_congr {s t : State} (h : t.thermal = s.thermal) (k : Nat) : t.sensor k = s.sensor k := by
  unfold State.sensor
  rw [h]

theorem State.tzone_congr {s t : State} (h : t.thermal = s.thermal) (z : Nat) : t.tzone z = s.tzone z := by
  unfold State.tzone
  rw [h]

/-- The report of a broken sensor. -/
theorem State.brokenReport_sensor (s : State) (k j : Nat) : ((s.thmBit 2).rasReport 0x0C k 11 2 0 [k]).sensor j = s.sensor j :=
  State.sensor_congr (((State.rasReport_chg ..).thermal rfl).trans ((s.thmBit_chg 2).thermal rfl)) j

theorem State.sensorTake_sensor_ne (s : State) {j k : Nat} (h : j ≠ k) (v : Sample) : (s.sensorTake j v).sensor k = s.sensor k := by
  have other : ∀ x, (s.setSensor j x).sensor k = s.sensor k := fun x => s.setSensor_sensor_ne x h
  unfold State.sensorTake
  cases s.sampleOf j v with
  | none =>
    dsimp only
    split
    · exact other _
    · exact (State.brokenReport_sensor ..).trans (other _)
  | some r =>
    dsimp only
    split
    · split <;> exact other _
    · exact other _

/-- A sensor after a good sample. -/
theorem State.sensorTake_good {s : State} {k : Nat} {v : Sample} {r : Int} (h : s.sampleOf k v = some r) :
    ((s.sensorTake k v).sensor k).readingQ = r ∧
    ((s.sensorTake k v).sensor k).broken = ((s.sensor k).broken && decide ((s.sensor k).goodRun + 1 < s.cfg 0x8100 5)) := by
  have same : ∀ x, (s.setSensor k x).sensor k = x := s.setSensor_sensor k
  unfold State.sensorTake
  rw [h]
  dsimp only
  cases hb : (s.sensor k).broken with
  | false =>
    rw [if_neg Bool.false_ne_true, same]
    exact ⟨rfl, rfl⟩
  | true =>
    rw [if_pos rfl]
    by_cases hg : s.cfg 0x8100 5 ≤ (s.sensor k).goodRun + 1
    · rw [if_pos hg]
      refine ⟨(congrArg Sensor.readingQ (same _) :), (congrArg Sensor.broken (same _)).trans ?_⟩
      rw [Bool.true_and, decide_eq_false (by omega)]
    · rw [if_neg hg, same]
      exact ⟨rfl, by rw [Bool.true_and, decide_eq_true (by omega)]⟩

/-- A sensor after a sample that is none or out of range. -/
theorem State.sensorTake_bad {s : State} {k : Nat} {v : Sample} (h : s.sampleOf k v = none) :
    ((s.sensorTake k v).sensor k).broken = true ∧ ((s.sensorTake k v).sensor k).readingQ = (s.sensor k).readingQ ∧
    ((s.sensorTake k v).sensor k).breaks = (if (s.sensor k).broken then (s.sensor k).breaks else satAdd 32 (s.sensor k).breaks 1) := by
  unfold State.sensorTake
  rw [h]
  dsimp only
  cases hb : (s.sensor k).broken with
  | true =>
    rw [if_pos rfl, if_pos rfl, s.setSensor_sensor]
    exact ⟨rfl, rfl, rfl⟩
  | false =>
    rw [if_neg Bool.false_ne_true, if_neg Bool.false_ne_true]
    rw [State.brokenReport_sensor, s.setSensor_sensor]
    exact ⟨rfl, rfl, rfl⟩

theorem State.sensorTake_tzone (s : State) (k : Nat) (v : Sample) (z : Nat) : (s.sensorTake k v).tzone z = s.tzone z := by
  unfold State.sensorTake
  cases s.sampleOf k v with
  | none =>
    dsimp only
    split
    · rfl
    · exact State.tzone_congr ((State.rasReport_chg ..).thermal rfl) z
  | some r =>
    dsimp only
    split
    · split <;> rfl
    · rfl

/-- The samples of a round, each for its sensor. -/
def State.sensorsTake (s : State) (samples : List Sample) : State :=
  s.forEach (samples.zip (List.range 18)) (fun v s => s.sensorTake v.2 v.1)

theorem State.sensorsTake_chg (s : State) (samples : List Sample) : Chg 103079215282 s (s.sensorsTake samples) :=
  Chg.forEach (fun v t => t.sensorTake_chg v.2 v.1) (Chg.refl _ _)

theorem State.sensorsTake_tzone (s : State) (samples : List Sample) (z : Nat) : (s.sensorsTake samples).tzone z = s.tzone z :=
  State.forEach_keeps (π := fun t => t.tzone z) (f := fun (v : Sample × Nat) (s : State) => s.sensorTake v.2 v.1)
    (fun v t => t.sensorTake_tzone v.2 v.1 z) s _

theorem State.forEach_sensorTake_ne {k : Nat} {l : List (Sample × Nat)} (h : ∀ x ∈ l, x.2 ≠ k) (s : State) :
    (s.forEach l (fun v s => s.sensorTake v.2 v.1)).sensor k = s.sensor k :=
  State.forEach_induct (P := fun t => t.sensor k = s.sensor k) rfl fun x hx _ ht => (State.sensorTake_sensor_ne _ (h x hx) _).trans ht

/-- Each sensor takes its sample once, from a state with its value and the same configuration. -/
theorem State.sensorsTake_sensor (s : State) {samples : List Sample} (hl : samples.length = 18) {k : Nat} (hk : k < 18) :
    ∃ w : State, w.dict = s.dict ∧ w.sensor k = s.sensor k ∧
      (s.sensorsTake samples).sensor k = (w.sensorTake k (samples.getD k none)).sensor k := by
  have hz : k < (samples.zip (List.range 18)).length := by rw [List.length_zip, hl, List.length_range]; exact hk
  have at_k : (samples.zip (List.range 18))[k] = (samples.getD k none, k) := by
    rw [List.getElem_zip, List.getElem_range, List.getD_eq_getElem?_getD, List.getElem?_eq_getElem (by omega), Option.getD_some]
  have once : ((samples.zip (List.range 18)).map Prod.snd).Nodup := by
    rw [List.map_snd_zip (by rw [hl, List.length_range])]
    exact List.nodup_range
  obtain ⟨before, after, split⟩ := List.append_of_mem (at_k ▸ List.getElem_mem hz)
  rw [split, List.map_append, List.map_cons] at once
  obtain ⟨-, tail, apart⟩ := List.nodup_append.mp once
  have notAfter : ∀ x ∈ after, x.2 ≠ k := fun x hx e => (List.nodup_cons.mp tail).1 (List.mem_map.mpr ⟨x, hx, e⟩)
  have notBefore : ∀ x ∈ before, x.2 ≠ k := fun x hx => apart _ (List.mem_map_of_mem hx) _ List.mem_cons_self
  refine ⟨s.forEach before (fun v s => s.sensorTake v.2 v.1), ?_, State.forEach_sensorTake_ne notBefore s, ?_⟩
  · exact State.forEach_keeps (π := State.dict) (fun x t => (t.sensorTake_chg x.2 x.1).dict rfl) s before
  · unfold State.sensorsTake State.forEach
    rw [split, List.foldl_append, List.foldl_cons]
    exact State.forEach_sensorTake_ne notAfter _

/-! ### One zone after a round (R394, R395, R397, R399) -/

/-- The sensors of a zone. -/
def State.zoneSensors (s : State) (z : Nat) : List Nat := (List.range 18).filter (fun k => s.inZone z k)

/-- The temperature of a zone: the highest reading of its good sensors. -/
def State.zoneTemp (s : State) (z : Nat) : Int :=
  match ((s.zoneSensors z).filter (fun k => !(s.sensor k).broken)).map (fun k => (s.sensor k).readingQ) with
  | [] => (s.tzone z).tempQ
  | a :: l => l.foldl max a

/-- A junction sensor of the zone is at its limit. -/
def State.zoneHot (s : State) (z : Nat) : Bool := s.junctionsHot.any (fun k => (s.zoneSensors z).contains k)

/-- What sends a zone to step 4 whatever its entry points say. -/
def State.zoneForced (s : State) (z : Nat) : Bool :=
  (s.zoneSensors z).any (fun k => (s.sensor k).broken) || decide (((8 * s.cfg (0x8110 + z) 7 : Nat) : Int) ≤ s.zoneTemp z) || s.zoneHot z
    || decide (s.junctionsGood.length < 2)

/-- The temperature below which a zone may leave its step. -/
def State.zoneBelow (s : State) (z : Nat) : Int :=
  ((8 * (s.cfg (0x8110 + z) 5 + ((s.tzone z).step - 1) * s.cfg (0x8110 + z) 6) : Nat) : Int) - ((8 * s.cfg (0x8110 + z) 8 : Nat) : Int)

/-- The step of a zone after the round. -/
def State.zoneStep (s : State) (z : Nat) : Nat :=
  if s.zoneForced z then 4
  else if (s.tzone z).step < s.stepFor z (s.zoneTemp z) then s.stepFor z (s.zoneTemp z)
  else if 0 < (s.tzone z).step ∧ s.zoneTemp z < s.zoneBelow z ∧ s.elapsed (s.tzone z).changedAt (s.cfg 0x8100 4 * msec) = true then
    (s.tzone z).step - 1
  else (s.tzone z).step

/-- A zone after the round. -/
def State.zoneAfter (s : State) (z : Nat) : TZone :=
  { s.tzone z with
    step := s.zoneStep z, tempQ := s.zoneTemp z, warned := decide (((8 * s.cfg (0x8110 + z) 4 : Nat) : Int) ≤ s.zoneTemp z)
    changedAt := if s.zoneStep z = (s.tzone z).step then (s.tzone z).changedAt else s.aon.now }

/-- A sensor of the zone is at its limit. -/
def State.zoneCritical (s : State) (z : Nat) : Bool :=
  s.zoneHot z || (s.zoneSensors z).any (fun k => decide (k < 12) && !(s.sensor k).broken
    && decide (((8 * s.cfg (0x8110 + z) 7 : Nat) : Int) ≤ (s.sensor k).readingQ))

/-- The bits of THM_EVENT that a change of a zone sets. -/
def State.zoneEvents (s : State) (old new : TZone) (critical : Bool) : State :=
  let s1 := if new.warned && !old.warned then s.thmBit 0 else s
  let s2 := if old.step < new.step then s1.thmBit 1 else s1
  if critical && old.step != 4 then s2.thmBit 4 else s2

theorem State.zoneTake_eq (s : State) (z : Nat) :
    s.zoneTake z = (s.setTzone z (s.zoneAfter z)).zoneEvents (s.tzone z) (s.zoneAfter z) (s.zoneCritical z) := rfl

theorem State.thmBit_getLsbD (s : State) {b k : Nat} (hb : b < 32) : (s.thmBit b).regs.thmEvent.getLsbD k = (s.regs.thmEvent.getLsbD k || decide (k = b)) :=
  getLsbD_or_bit _ hb

theorem State.zoneEvents_thermal (s : State) (old new : TZone) (critical : Bool) : (s.zoneEvents old new critical).thermal = s.thermal := by
  unfold State.zoneEvents
  split <;> split <;> split <;> rfl

/-- An event that was set stays set, and a critical zone that was not at step 4 sets CRITICAL. -/
theorem State.zoneEvents_getLsbD (s : State) (old new : TZone) (critical : Bool) {b : Nat}
    (h : s.regs.thmEvent.getLsbD b = true ∨ (b = 4 ∧ critical = true ∧ old.step ≠ 4)) :
    (s.zoneEvents old new critical).regs.thmEvent.getLsbD b = true := by
  have also : ∀ (t : State) (k : Nat) (c : Bool), k < 32 → t.regs.thmEvent.getLsbD b = true →
      (if c = true then t.thmBit k else t).regs.thmEvent.getLsbD b = true := fun t k c hk ht => by
    split
    · rw [t.thmBit_getLsbD hk, ht, Bool.true_or]
    · exact ht
  unfold State.zoneEvents
  rcases h with h | ⟨rfl, hc, hs⟩
  · refine also _ 4 _ (by decide) ?_
    split
    · rw [State.thmBit_getLsbD _ (by decide), also s 0 _ (by decide) h, Bool.true_or]
    · exact also s 0 _ (by decide) h
  · dsimp only
    rw [if_pos (by rw [hc, Bool.true_and]; exact bne_iff_ne.mpr hs), State.thmBit_getLsbD _ (by decide), decide_eq_true rfl, Bool.or_true]

theorem State.zoneTake_tzone (s : State) (z : Nat) : (s.zoneTake z).tzone z = s.zoneAfter z := by
  rw [s.zoneTake_eq]
  exact (State.tzone_congr (State.zoneEvents_thermal ..) z).trans (s.setTzone_tzone z _)

theorem State.zoneTake_tzone_ne (s : State) {z y : Nat} (h : z ≠ y) : (s.zoneTake z).tzone y = s.tzone y := by
  rw [s.zoneTake_eq]
  exact (State.tzone_congr (State.zoneEvents_thermal ..) y).trans (s.setTzone_tzone_ne _ h)

theorem State.zoneTake_sensor (s : State) (z k : Nat) : (s.zoneTake z).sensor k = s.sensor k := by
  rw [s.zoneTake_eq]
  exact State.sensor_congr (State.zoneEvents_thermal ..) k

theorem State.zoneTake_dict (s : State) (z : Nat) : (s.zoneTake z).dict = s.dict := (s.zoneTake_chg z).dict rfl

/-- A zone that a broken sensor, its temperature or a junction sensor forces is at step 4. -/
theorem State.zoneTake_forced {s : State} {z : Nat} (h : s.zoneForced z = true) : ((s.zoneTake z).tzone z).step = 4 := by
  rw [s.zoneTake_tzone]
  exact if_pos h

/-- The highest reading of sensors that are all good. -/
theorem State.zoneTemp_good {s : State} {z : Nat} (hl : s.zoneSensors z ≠ []) (hg : ∀ k ∈ s.zoneSensors z, (s.sensor k).broken = false) :
    (∀ k ∈ s.zoneSensors z, (s.sensor k).readingQ ≤ s.zoneTemp z) ∧ ∃ k ∈ s.zoneSensors z, (s.sensor k).readingQ = s.zoneTemp z := by
  have all : (s.zoneSensors z).filter (fun k => !(s.sensor k).broken) = s.zoneSensors z :=
    List.filter_eq_self.mpr fun k hk => by rw [hg k hk]; rfl
  have top : ((s.zoneSensors z).map fun k => (s.sensor k).readingQ).max? = some (s.zoneTemp z) := by
    unfold State.zoneTemp
    rw [all]
    cases e : (s.zoneSensors z).map fun k => (s.sensor k).readingQ with
    | nil => exact absurd (List.map_eq_nil_iff.mp e) hl
    | cons a l => exact List.max?_cons'
  obtain ⟨mem, le⟩ := List.max?_eq_some_iff.mp top
  exact ⟨fun k hk => le _ (List.mem_map_of_mem hk), List.mem_map.mp mem⟩

/-- A zone that nothing forces. -/
theorem State.zoneForced_false {s : State} {z : Nat} (hl : s.zoneSensors z ≠ [])
    (hg : ∀ k ∈ s.zoneSensors z, (s.sensor k).broken = false ∧ (s.sensor k).readingQ < ((8 * s.cfg (0x8110 + z) 7 : Nat) : Int) ∧ k ∉ s.junctionsHot)
    (hj : 2 ≤ s.junctionsGood.length) : s.zoneForced z = false := by
  obtain ⟨-, k, hk, top⟩ := State.zoneTemp_good hl fun k hk => (hg k hk).1
  have broken : (s.zoneSensors z).any (fun k => (s.sensor k).broken) = false := List.any_eq_false.mpr fun k hk => by rw [(hg k hk).1]; decide
  have shut : ¬((8 * s.cfg (0x8110 + z) 7 : Nat) : Int) ≤ s.zoneTemp z := by have := (hg k hk).2.1; omega
  have hot : s.zoneHot z = false := List.any_eq_false.mpr fun k hk hc => (hg k (List.contains_iff_mem.mp hc)).2.2 hk
  have few : ¬s.junctionsGood.length < 2 := by omega
  unfold State.zoneForced
  rw [broken, decide_eq_false shut, hot, decide_eq_false few]
  rfl

/-! ### The junction sensors (R397) -/

/-- The limit of a junction sensor is the least of SHUTDOWN_C and the limits of its zones. -/
theorem State.junctionLimit_least (s : State) (k : Nat) :
    (∀ n ∈ s.cfg 0x8100 1 :: (s.zonesOn.filter (fun z => s.inZone z k)).map (fun z => s.cfg (0x8110 + z) 7),
      s.junctionLimit k ≤ ((8 * n : Nat) : Int)) ∧
    ∃ n ∈ s.cfg 0x8100 1 :: (s.zonesOn.filter (fun z => s.inZone z k)).map (fun z => s.cfg (0x8110 + z) 7),
      s.junctionLimit k = ((8 * n : Nat) : Int) := by
  obtain ⟨mem, le⟩ := List.min?_eq_some_iff.mp
    (List.min?_cons' (x := s.cfg 0x8100 1) (xs := (s.zonesOn.filter (fun z => s.inZone z k)).map (fun z => s.cfg (0x8110 + z) 7)))
  unfold State.junctionLimit
  exact ⟨fun n hn => by have := le n hn; omega, _, mem, by push_cast; rfl⟩

theorem State.mem_zonesOn {s : State} {z : Nat} : z ∈ s.zonesOn ↔ z < 8 ∧ s.zoneOn z = true := by
  unfold State.zonesOn
  rw [List.mem_filter, List.mem_range]

theorem State.mem_zoneSensors {s : State} {z k : Nat} : k ∈ s.zoneSensors z ↔ k < 18 ∧ s.inZone z k = true := by
  unfold State.zoneSensors
  rw [List.mem_filter, List.mem_range]

theorem State.mem_junctionsGood {s : State} {k : Nat} : k ∈ s.junctionsGood ↔ (12 ≤ k ∧ k ≤ 17) ∧ (s.sensor k).broken = false := by
  have range : k ∈ [12, 13, 14, 15, 16, 17] ↔ 12 ≤ k ∧ k ≤ 17 := by
    simp only [List.mem_cons, List.not_mem_nil, or_false]
    omega
  unfold State.junctionsGood
  rw [List.mem_filter, range, Bool.not_eq_true']

theorem State.mem_junctionsHot {s : State} {k : Nat} : k ∈ s.junctionsHot ↔
    12 ≤ k ∧ k ≤ 17 ∧ (s.sensor k).broken = false ∧ s.junctionLimit k ≤ (s.sensor k).readingQ := by
  unfold State.junctionsHot
  rw [List.mem_filter, State.mem_junctionsGood, decide_eq_true_iff]
  tauto

theorem State.junctionsHot_nodup (s : State) : s.junctionsHot.Nodup :=
  ((by decide : [12, 13, 14, 15, 16, 17].Nodup).filter _).filter _

/-- The limits, the good and the hot junction sensors follow the sensors and the configuration. -/
theorem State.junctions_congr {s t : State} (hd : t.dict = s.dict) (hs : ∀ k, t.sensor k = s.sensor k) :
    (∀ k, t.junctionLimit k = s.junctionLimit k) ∧ t.junctionsGood = s.junctionsGood ∧ t.junctionsHot = s.junctionsHot := by
  have zones : t.zonesOn = s.zonesOn := List.filter_congr fun z _ => State.cfgB_congr hd ..
  have within : ∀ z k, t.inZone z k = s.inZone z k := fun z k => congrArg (Nat.testBit · k) (State.cfg_congr hd ..)
  have limit : ∀ k, t.junctionLimit k = s.junctionLimit k := fun k => by
    unfold State.junctionLimit
    simp only [zones, within, State.cfg_congr hd]
  have good : t.junctionsGood = s.junctionsGood := List.filter_congr fun k _ => by rw [hs k]
  refine ⟨limit, good, ?_⟩
  unfold State.junctionsHot
  rw [good]
  exact List.filter_congr fun k _ => by rw [limit, hs]

/-- A junction sensor at its limit sends its zones to step 4, and sets CRITICAL where one was not there. -/
theorem State.zoneTake_hot {s : State} {k z : Nat} (hk : k ∈ s.junctionsHot) (hz : s.inZone z k = true) :
    ((s.zoneTake z).tzone z).step = 4 ∧ ((s.tzone z).step ≠ 4 → (s.zoneTake z).regs.thmEvent.getLsbD 4 = true) := by
  have hot : s.zoneHot z = true := by
    have h18 : k < 18 := by have := (State.mem_junctionsHot.mp hk).2.1; omega
    exact List.any_eq_true.mpr ⟨k, hk, List.contains_iff_mem.mpr (State.mem_zoneSensors.mpr ⟨h18, hz⟩)⟩
  refine ⟨State.zoneTake_forced ?_, fun h4 => ?_⟩
  · unfold State.zoneForced
    rw [hot, Bool.or_true, Bool.true_or]
  · rw [s.zoneTake_eq]
    refine State.zoneEvents_getLsbD _ _ _ _ (.inr ⟨rfl, ?_, h4⟩)
    unfold State.zoneCritical
    rw [hot, Bool.true_or]

/-! ### The round -/

/-- The boundary entries of a round in force, and each sensor with its sample. -/
def State.roundSampled (s : State) (samples : List Sample) : State :=
  (s.boundaries (fun i => decide (0x8100 ≤ i ∧ i ≤ 0x8131))).sensorsTake samples

/-- Every zone after the samples. -/
def State.roundZoned (s : State) (samples : List Sample) : State :=
  (s.roundSampled samples).forEach (s.roundSampled samples).zonesOn (fun z s => s.zoneTake z)

/-- The sample round, before a thermal shutdown or the retraining of channels. -/
def State.roundTaken (s : State) (samples : List Sample) : State :=
  ((s.roundZoned samples).sensorWatch.thermalTimes s.samplePeriod).critWatch s

theorem exec_thermalSampleRound {s : State} {samples : List Sample} (hb : s.mode.base ≠ .unpowered) (hl : samples.length = 18) :
    exec (.thermalSampleRound samples) s = .next (if (s.roundTaken samples).awake && decide (2 ≤ (s.roundTaken samples).junctionsHot.length) then
      (s.roundTaken samples).thermalShutdown else (s.roundTaken samples).retrainHeat) := by
  refine next_when ?_
  unfold State.aonOn
  rw [decide_eq_true hb, hl]
  rfl

section
variable (s : State) (samples : List Sample)

theorem State.roundSampled_dict : (s.roundSampled samples).dict = (s.boundaries (fun i => decide (0x8100 ≤ i ∧ i ≤ 0x8131))).dict :=
  (State.sensorsTake_chg ..).dict rfl

theorem State.roundZoned_sensors : (s.roundZoned samples).dict = (s.roundSampled samples).dict ∧
    ∀ k, (s.roundZoned samples).sensor k = (s.roundSampled samples).sensor k :=
  State.forEach_induct (P := fun t => t.dict = (s.roundSampled samples).dict ∧ ∀ k, t.sensor k = (s.roundSampled samples).sensor k)
    ⟨rfl, fun _ => rfl⟩ fun z _ t ⟨hd, hs⟩ => ⟨(t.zoneTake_dict z).trans hd, fun k => (t.zoneTake_sensor z k).trans (hs k)⟩

theorem State.sensorWatch_thermal (s : State) : s.sensorWatch.thermal = s.thermal := s.sensorWatch_chg.thermal rfl

theorem State.roundTaken_thermal : (s.roundTaken samples).thermal = ((s.roundZoned samples).sensorWatch.thermalTimes s.samplePeriod).thermal :=
  (State.critWatch_chg ..).thermal rfl

theorem State.thermalTimes_sensor (s : State) (n k : Nat) : (s.thermalTimes n).sensor k = s.sensor k := rfl
theorem State.thermalTimes_tzone (s : State) (n z : Nat) : (s.thermalTimes n).tzone z = s.tzone z := rfl

/-- After the round the sensors and the configuration are those of the samples. -/
theorem State.roundTaken_sensors : (s.roundTaken samples).dict = (s.roundSampled samples).dict ∧
    (∀ k, (s.roundTaken samples).sensor k = (s.roundSampled samples).sensor k) ∧
    ∀ z, (s.roundTaken samples).tzone z = (s.roundZoned samples).tzone z := by
  obtain ⟨hd, hs⟩ := s.roundZoned_sensors samples
  have ht := s.roundTaken_thermal samples
  have hw := (s.roundZoned samples).sensorWatch_thermal
  refine ⟨?_, fun k => ?_, fun z => ?_⟩
  · exact ((State.critWatch_chg ..).dict rfl).trans (((State.thermalTimes_chg ..).dict rfl).trans (((State.sensorWatch_chg _).dict rfl).trans hd))
  · exact (State.sensor_congr ht k).trans ((State.thermalTimes_sensor ..).trans ((State.sensor_congr hw k).trans (hs k)))
  · exact (State.tzone_congr ht z).trans ((State.thermalTimes_tzone ..).trans (State.tzone_congr hw z))

theorem State.thermalTimes_lastRound (s : State) (n : Nat) : (s.thermalTimes n).thermal.lastRound = s.aon.now := rfl

theorem State.roundTaken_lastRound : (s.roundTaken samples).thermal.lastRound = s.aon.now := by
  rw [s.roundTaken_thermal, State.thermalTimes_lastRound]
  have zoned : (s.roundZoned samples).aon = (s.roundSampled samples).aon :=
    State.forEach_keeps (π := State.aon) (fun z t => (t.zoneTake_chg z).aon rfl) _ _
  have sampled : (s.roundSampled samples).aon = s.aon := ((State.sensorsTake_chg ..).aon rfl).trans ((State.boundaries_chg ..).aon rfl)
  exact congrArg Aon.now (((State.sensorWatch_chg _).aon rfl).trans (zoned.trans sampled))

end

/-- The event of a zone stays set. -/
theorem State.sensorWatch_getLsbD {s : State} {b : Nat} (h : s.regs.thmEvent.getLsbD b = true) : s.sensorWatch.regs.thmEvent.getLsbD b = true := by
  have few : ∀ (t : State) (c : Bool), t.regs.thmEvent.getLsbD b = true →
      (if c then (if t.mode.sustain.testBit 9 then t else (t.sustainSet 9).thmBit 5) else t.sustainClear 9).regs.thmEvent.getLsbD b = true :=
    fun t c ht => by
      split
      · split
        · exact ht
        · rw [State.thmBit_getLsbD _ (by decide)]
          exact Bool.or_eq_true_iff.mpr (.inl ht)
      · exact ht
  unfold State.sensorWatch
  refine few _ _ ?_
  split <;> exact h

theorem State.roundTaken_getLsbD {s : State} {samples : List Sample} {b : Nat} (h : (s.roundZoned samples).regs.thmEvent.getLsbD b = true) :
    (s.roundTaken samples).regs.thmEvent.getLsbD b = true := by
  have regs : (s.roundTaken samples).regs = (s.roundZoned samples).sensorWatch.regs :=
    ((State.critWatch_chg ..).regs rfl).trans ((State.thermalTimes_chg ..).regs rfl)
  rw [regs]
  exact State.sensorWatch_getLsbD h

/-- What a zone with a junction sensor at its limit has come to. -/
def State.ZoneShut (s t : State) (z : Nat) : Prop :=
  (t.tzone z).step = 4 ∧ ((s.tzone z).step ≠ 4 → t.regs.thmEvent.getLsbD 4 = true)

theorem State.zonesTake_hot {s : State} {k z : Nat} (hk : k ∈ s.junctionsHot) (hz : s.inZone z k = true) {l : List Nat} (hm : z ∈ l) :
    s.ZoneShut (s.forEach l (fun z s => s.zoneTake z)) z := by
  have keeps : ∀ (y : Nat) (t : State), (t.dict = s.dict ∧ ∀ j, t.sensor j = s.sensor j) → ((t.zoneTake y).dict = s.dict ∧ ∀ j, (t.zoneTake y).sensor j = s.sensor j) :=
    fun y t ⟨hd, hs⟩ => ⟨(t.zoneTake_dict y).trans hd, fun j => (t.zoneTake_sensor y j).trans (hs j)⟩
  have makes : ∀ t : State, (t.dict = s.dict ∧ ∀ j, t.sensor j = s.sensor j) → (t.tzone z = s.tzone z ∨ s.ZoneShut t z) → s.ZoneShut (t.zoneTake z) z := by
    intro t ⟨hd, hs⟩ hz0
    have hot := (State.junctions_congr hd hs).2.2
    have within : t.inZone z k = true := (congrArg (Nat.testBit · k) (State.cfg_congr hd ..)).trans hz
    obtain ⟨four, event⟩ := State.zoneTake_hot (hot ▸ hk) within
    refine ⟨four, fun h4 => ?_⟩
    rcases hz0 with same | ⟨-, set⟩
    · exact event (same ▸ h4)
    · rw [t.zoneTake_eq]
      exact State.zoneEvents_getLsbD _ _ _ _ (.inl (set h4))
  have stays : ∀ (y : Nat) (t : State), s.ZoneShut t z → y ≠ z → s.ZoneShut (t.zoneTake y) z := fun y t ⟨four, set⟩ hy => by
    refine ⟨(congrArg TZone.step (t.zoneTake_tzone_ne hy)).trans four, fun h4 => ?_⟩
    rw [t.zoneTake_eq]
    exact State.zoneEvents_getLsbD _ _ _ _ (.inl (set h4))
  have all := State.forEach_makes (I := fun t => (t.dict = s.dict ∧ ∀ j, t.sensor j = s.sensor j) ∧ (t.tzone z = s.tzone z ∨ s.ZoneShut t z))
    (P := fun t => (t.dict = s.dict ∧ ∀ j, t.sensor j = s.sensor j) ∧ s.ZoneShut t z) (f := fun z s => s.zoneTake z) hm
    ⟨⟨rfl, fun _ => rfl⟩, .inl rfl⟩
    (fun y t ⟨ht, h0⟩ => ⟨keeps y t ht, by
      by_cases hy : y = z
      · subst hy; exact .inr (makes t ht h0)
      · exact h0.imp (t.zoneTake_tzone_ne hy).trans (stays y t · hy)⟩)
    (fun y t ⟨ht, h0⟩ => ⟨keeps y t ht, by
      by_cases hy : y = z
      · subst hy; exact makes t ht (.inr h0)
      · exact stays y t h0 hy⟩)
    (fun t ⟨ht, h0⟩ => ⟨keeps z t ht, makes t ht h0⟩)
  exact all.2

end Sys2Proof.Machine
end

section
/-! The statements about a thermal sample round and the limits of the junction sensors. -/

namespace Sys2Proof
open Machine

/-- Settles O49. -/
theorem heat : Obligations.Heat := by
  refine ⟨fun s w samples hb hl hw => ⟨s.roundTaken samples, exec_thermalSampleRound hb hl, s.roundTaken_lastRound samples, fun k hk => ?_⟩,
    fun s z x l hx hl => ⟨fun h => State.zoneTake_forced ?_, fun hne hg hj => ?_⟩⟩
  · obtain ⟨v, hd, hs, taken⟩ := (s.boundaries (fun i => decide (0x8100 ≤ i ∧ i ≤ 0x8131))).sensorsTake_sensor hl hk
    rw [← hw] at hd hs
    rw [(s.roundTaken_sensors samples).2.1 k, State.roundSampled, taken]
    refine ⟨fun r hr => ?_, fun hr => ?_⟩
    · rw [← hs, ← State.cfg_congr hd]
      exact State.sensorTake_good ((State.sampleOf_congr hd ..).trans hr)
    · rw [← hs]
      exact State.sensorTake_bad ((State.sampleOf_congr hd ..).trans hr)
  · subst hl
    unfold State.zoneForced
    rcases h with h | h
    · rw [show (s.zoneSensors z).any (fun k => (s.sensor k).broken) = true from h, Bool.true_or, Bool.true_or, Bool.true_or]
    · rw [decide_eq_true h, Bool.or_true]
  · subst hx
    change l = s.zoneSensors z at hl
    subst hl
    obtain ⟨top, meets⟩ := State.zoneTemp_good hne fun k hk => (hg k hk).1
    have free := State.zoneForced_false hne hg hj
    rw [s.zoneTake_tzone]
    refine ⟨top, meets, fun hup => ?_, fun hup hpos hbelow => ?_⟩
    · show s.zoneStep z = _
      unfold State.zoneStep
      rw [if_neg (by rw [free]; decide)]
      exact if_pos hup
    · show s.zoneStep z = _
      change s.zoneTemp z < s.zoneBelow z at hbelow
      change s.stepFor z (s.zoneTemp z) ≤ (s.tzone z).step at hup
      unfold State.zoneStep
      rw [if_neg (by rw [free]; decide), if_neg (Nat.not_lt.mpr hup)]
      simp only [hpos, hbelow, true_and]

/-- Settles O59. -/
theorem junctionLimits : Obligations.JunctionLimits := by
  refine ⟨fun s k => ?_, fun s samples hb hl => ⟨s.roundTaken samples, exec_thermalSampleRound hb hl, fun k => State.mem_junctionsHot,
    State.junctionsHot_nodup _, fun k z hk h8 hz hin => ?_⟩⟩
  · obtain ⟨least, n, mem, meets⟩ := s.junctionLimit_least k
    have ofZone : ∀ z, z < 8 → s.zoneOn z = true → s.inZone z k = true → s.cfg (0x8110 + z) 7 ∈
        (s.zonesOn.filter (fun z => s.inZone z k)).map (fun z => s.cfg (0x8110 + z) 7) := fun z h8 hz hin =>
      List.mem_map_of_mem (List.mem_filter.mpr ⟨State.mem_zonesOn.mpr ⟨h8, hz⟩, hin⟩)
    refine ⟨least _ List.mem_cons_self, fun z h8 hz hin => least _ (List.mem_cons_of_mem _ (ofZone z h8 hz hin)), ?_⟩
    rcases List.mem_cons.mp mem with rfl | mem
    · exact .inl meets
    · obtain ⟨z, hz, rfl⟩ := List.mem_map.mp mem
      obtain ⟨on, hin⟩ := List.mem_filter.mp hz
      obtain ⟨h8, hon⟩ := State.mem_zonesOn.mp on
      exact .inr ⟨z, h8, hon, hin, meets⟩
  · obtain ⟨hd, hs, hzones⟩ := s.roundTaken_sensors samples
    have hot := (State.junctions_congr hd hs).2.2 ▸ hk
    have on : (s.roundSampled samples).zoneOn z = true := (State.cfgB_congr hd ..).symm.trans hz
    have within : (s.roundSampled samples).inZone z k = true := (congrArg (Nat.testBit · k) (State.cfg_congr hd ..)).symm.trans hin
    obtain ⟨four, event⟩ := State.zonesTake_hot hot within (State.mem_zonesOn.mpr ⟨h8, on⟩)
    refine ⟨(congrArg TZone.step (hzones z)).trans four, fun h4 => ?_⟩
    have kept : (s.roundSampled samples).tzone z = s.tzone z :=
      (State.sensorsTake_tzone ..).trans (State.tzone_congr ((State.boundaries_chg ..).thermal rfl) z)
    exact State.roundTaken_getLsbD (event (kept ▸ h4))

end Sys2Proof
end

section
/-! SUPPORT. The beginning of Flush and of Dormant (R280, R284, R385, R398): what each leaves of the mode, of the Always-On Domain, of the
thermal events and of the tags, and the hold of a thermal shutdown. -/

namespace Sys2Proof.Machine

/-! ### Completions light the LED and leave the rest of the Always-On Domain -/

/-- The Always-On Domain without the LED's note of a completion. -/
def Aon.core (a : Aon) : Aon := { a with ledCompletion := false }

theorem State.cqWrite_aon (s : State) (q : QKey) (cid : Nat) (st : Status) (a b : Nat) : (s.cqWrite q cid st a b).aon.core = s.aon.core := by
  have mark : ∀ (t : State) addr, (t.cqMark q addr).aon = t.aon := fun t addr => by
    unfold State.cqMark
    split
    · exact (State.dirtyMark_chg ..).aon rfl
    · split
      · exact (State.dirtyMark_chg ..).aon rfl
      · rfl
  rw [s.cqWrite_eq q cid st a b rfl, (State.cqNotify_chg ..).aon rfl, mark]
  rfl

theorem State.cqPut_aon (s : State) (q : QKey) (cid : Nat) (st : Status) (a : Nat) : (s.cqPut q cid st a).aon.core = s.aon.core := by
  unfold State.cqPut State.cqSend
  dsimp only
  split
  · split
    · exact s.cqWrite_aon ..
    · exact congrArg Aon.core ((State.dmaAsk_chg ..).aon rfl)
  · rfl

theorem State.windowsEnd_aon (s : State) (st : Status) (sel : QKey → Sqe → Bool) : (s.windowsEnd st sel).aon.core = s.aon.core := by
  unfold State.windowsEnd
  refine State.forEach_keeps (π := fun t => t.aon.core) (fun x t => ?_) s s.sqs
  dsimp only
  refine (State.forEach_keeps (π := fun t => t.aon.core) (fun e t => ?_) _ _).trans rfl
  split
  · exact t.cqPut_aon ..
  · rfl

theorem Aon.of_core {a b : Aon} (h : a.core = b.core) : a.now = b.now ∧ a.thermalHold = b.thermalHold ∧ a.holdNeedsPg = b.holdNeedsPg ∧
    a.pln = b.pln ∧ a.pwrdis = b.pwrdis :=
  ⟨(congrArg Aon.now h :), (congrArg Aon.thermalHold h :), (congrArg Aon.holdNeedsPg h :), (congrArg Aon.pln h :), (congrArg Aon.pwrdis h :)⟩

/-! ### Flush begins (R284) -/

theorem State.transition_thmEvent (s : State) (b : Base) (cause : Nat) : (s.transition b cause).regs.thmEvent = s.regs.thmEvent := by
  unfold State.transition
  rw [(State.telemEvent_chg _).regs rfl]
  rfl

theorem State.activationFlush_thmEvent (s : State) : s.activationFlush.regs.thmEvent = s.regs.thmEvent := by
  unfold State.activationFlush
  split
  · rfl
  · split <;> rfl

/-- The transition to Flush, and the end of an activation. -/
def State.flushTurn (s : State) (cause : Nat) : State := (s.transition .flush cause).activationFlush

theorem State.flushTurn_chg (s : State) (cause : Nat) : Chg 206158430264 s (s.flushTurn cause) :=
  (State.activationFlush_chg _).step ((s.transition_chg .flush cause).mono (by decide)) (by decide)

theorem State.flushTurn_mode (s : State) (cause : Nat) : (s.flushTurn cause).mode =
    { s.mode with base := .flush, changes := satAdd 32 s.mode.changes 1, lastCause := cause } :=
  ((State.activationFlush_chg (s.transition .flush cause)).mode rfl).trans (s.transition_mode .flush cause)

theorem State.flushTurn_thmEvent (s : State) (cause : Nat) : (s.flushTurn cause).regs.thmEvent = s.regs.thmEvent := by
  unfold State.flushTurn
  rw [State.activationFlush_thmEvent, State.transition_thmEvent]

/-- Flush as it begins, before the uncommitted commands end. -/
def State.flushQuiet (s : State) (cause : Nat) : State :=
  let s1 := s.flushTurn cause
  { s1 with
    mode := { s1.mode with flushAt := s.aon.now, flushCause := cause, postWindow := true, maintReq := false
                           maintEntry := false, maintStopped := false, entryCkpt := false, drainWanted := false
                           maintWaiters := [], maintCauses := 0 }
    luns := s1.luns.map (fun (x : Nat × Lun) => (x.1, flushLun x.2))
    media := { s1.media with moveWait := [], folding := false }
    chip := { s1.chip with waitq := [] }
    jrn := { s1.jrn with merged := s1.tailMark }
    drams := s1.drams.map (fun (x : Nat × Dram) => (x.1, { x.2 with
      panicSince := if x.2.panic then x.2.panicSince else s.aon.now, panic := x.2.panic || x.2.st == 2 || x.2.st == 3 })) }

theorem State.flushQuiet_kept (s : State) (cause : Nat) : (s.flushQuiet cause).aon = (s.flushTurn cause).aon ∧
    (s.flushQuiet cause).regs = (s.flushTurn cause).regs ∧ (s.flushQuiet cause).tags = (s.flushTurn cause).tags := by
  simp only [State.flushQuiet, and_self]

/-- The tags whose command is not committed. -/
def State.uncommitted (s : State) : List Nat := (s.tags.filter (fun x => x.2.st.uncommitted)).map (fun x => x.1)

/-- An uncommitted command ends as Flush begins. -/
def State.flushTag (s : State) (t : Nat) : State := (s.dmaCancel t).commitTag t ⟨0, 5⟩

/-- Every uncommitted command has ended. -/
def State.flushTags (s : State) (cause : Nat) : State :=
  (s.flushQuiet cause).forEach (s.flushQuiet cause).uncommitted (fun t s => s.flushTag t)

theorem State.flushStart_eq (s : State) (cause : Nat) : s.flushStart cause = (s.flushTags cause).windowsEnd ⟨0, 5⟩ (fun _ _ => true) := by
  unfold State.flushStart State.flushTags State.flushTag State.uncommitted State.flushQuiet State.flushTurn
  rfl

theorem State.flushTag_chg (s : State) (t : Nat) : Chg 318775808 s (s.flushTag t) :=
  (State.commitTag_chg ..).step ((s.dmaCancel_chg t).mono (by decide)) (by decide)

theorem State.flushTags_chg (s : State) (cause : Nat) : Chg 318775808 (s.flushQuiet cause) (s.flushTags cause) :=
  Chg.forEach (fun t s => s.flushTag_chg t) (Chg.refl _ _)

/-- The mode as Flush begins. -/
def ModeSt.flush (m : ModeSt) (now cause : Nat) : ModeSt :=
  { m with
    base := .flush, changes := satAdd 32 m.changes 1, lastCause := cause, flushAt := now, flushCause := cause, postWindow := true
    maintReq := false, maintEntry := false, maintStopped := false, entryCkpt := false, drainWanted := false, maintWaiters := []
    maintCauses := 0 }

theorem State.flushQuiet_mode (s : State) (cause : Nat) : (s.flushQuiet cause).mode = s.mode.flush s.aon.now cause := by
  unfold State.flushQuiet
  dsimp only
  rw [State.flushTurn_mode]
  rfl

theorem State.flushStart_mode (s : State) (cause : Nat) : (s.flushStart cause).mode = s.mode.flush s.aon.now cause := by
  rw [s.flushStart_eq, (State.windowsEnd_chg ..).mode rfl, (s.flushTags_chg cause).mode rfl, s.flushQuiet_mode]

theorem State.flushStart_aon (s : State) (cause : Nat) : (s.flushStart cause).aon.core = s.aon.core := by
  rw [s.flushStart_eq, State.windowsEnd_aon, (s.flushTags_chg cause).aon rfl, (s.flushQuiet_kept cause).1, (s.flushTurn_chg cause).aon rfl]

theorem State.flushStart_thermal (s : State) (cause : Nat) : (s.flushStart cause).thermal = s.thermal := (s.flushStart_chg cause).thermal rfl

theorem State.flushStart_thmEvent (s : State) (cause : Nat) : (s.flushStart cause).regs.thmEvent = s.regs.thmEvent := by
  rw [s.flushStart_eq, (State.windowsEnd_chg ..).regs rfl, (s.flushTags_chg cause).regs rfl, (s.flushQuiet_kept cause).2.1,
    State.flushTurn_thmEvent]

theorem State.flushQuiet_tags (s : State) (cause : Nat) : (s.flushQuiet cause).tags = s.tags :=
  (s.flushQuiet_kept cause).2.2.trans ((s.flushTurn_chg cause).tags rfl)

theorem State.mem_uncommitted {s : State} {t : Nat} (h : (s.tag t).st.uncommitted = true) : t ∈ s.uncommitted := by
  have ne : s.tag t ≠ {} := fun e => by rw [e] at h; exact absurd h (by decide)
  exact List.mem_map.mpr ⟨_, List.mem_filter.mpr ⟨Tbl.mem_of_get _ _ _ ne, h⟩, rfl⟩

/-- A command that is not committed when Flush begins ends with Commands Aborted due to Power Loss Notification. -/
theorem State.flushStart_aborts {s : State} {t : Nat} (h : (s.tag t).st.uncommitted = true) (cause : Nat) :
    ((s.flushStart cause).tag t).st = .post ∧ ((s.flushStart cause).tag t).status = ⟨0, 5⟩ := by
  have same : (s.flushQuiet cause).tag t = s.tag t := by
    unfold State.tag
    rw [s.flushQuiet_tags]
  have posts : ∀ u : State, (u.tag t).st.uncommitted = true → Posts (u.flushTag t) t ⟨0, 5⟩ := fun u hu =>
    (State.commitTag_posts (s := u.dmaCancel t) hu ⟨0, 5⟩ 0 0).1
  have stays : ∀ (k : Nat) (u : State), Posts u t ⟨0, 5⟩ → Posts (u.flushTag k) t ⟨0, 5⟩ := fun k u hu => by
    by_cases e : k = t
    · have done : ((u.dmaCancel k).tag k).st = .post := e ▸ hu.1
      have same : u.flushTag k = u.dmaCancel k := by simp only [State.flushTag, State.commitTag, done]
      rw [same]
      exact hu
    · unfold Posts
      rw [show (u.flushTag k).tag t = u.tag t from State.commitTag_tag_ne _ e _ _ _]
      exact hu
  have ended : Posts (s.flushTags cause) t ⟨0, 5⟩ :=
    State.forEach_makes (I := fun u => (u.tag t).st.uncommitted = true ∨ Posts u t ⟨0, 5⟩) (P := fun u => Posts u t ⟨0, 5⟩)
      (State.mem_uncommitted (by rw [same]; exact h)) (.inl (by rw [same]; exact h))
      (fun k u hu => by
        rcases hu with hu | hu
        · by_cases e : k = t
          · exact .inr (e ▸ posts u hu)
          · exact .inl (by rw [show (u.flushTag k).tag t = u.tag t from State.commitTag_tag_ne _ e _ _ _]; exact hu)
        · exact .inr (stays k u hu))
      stays
      (fun u hu => hu.elim (posts u) (stays t u))
  rw [s.flushStart_eq, (State.windowsEnd_chg ..).tag_eq rfl]
  exact ended

/-! ### Dormant begins (R385) -/

theorem State.vdmDown_thmEvent (s : State) (p : Nat) : (s.vdmDown p).regs.thmEvent = s.regs.thmEvent := by
  unfold State.vdmDown State.sessionsEnd
  dsimp only
  split <;> rfl

theorem State.enterDormant_thmEvent (s : State) (cause : Nat) : (s.enterDormant cause).regs.thmEvent = s.regs.thmEvent := by
  unfold State.enterDormant
  rw [(State.fastOff_chg _).regs rfl, State.vdmDown_thmEvent, State.vdmDown_thmEvent, State.transition_thmEvent, s.appendTear_chg.regs rfl]

theorem State.enterDormant_aon (s : State) (cause : Nat) : (s.enterDormant cause).aon = { s.aon with pllsOn := false } := by
  have before : (((s.appendTear.transition .dormant cause).vdmDown 0).vdmDown 1).aon = s.aon := by
    rw [State.vdmDown_aon, State.vdmDown_aon, State.transition_aon, s.appendTear_chg.aon rfl]
  unfold State.enterDormant
  rw [← before]
  rfl

/-! ### A thermal shutdown (R398) -/

/-- A shutdown that is counted and shown. -/
def State.shutdownNoted (s : State) : State :=
  ({ s with thermal := { s.thermal with shutdowns := satAdd 32 s.thermal.shutdowns 1 } }).thmBit 6

/-- A shutdown whose hold begins. -/
def State.shutdownHeld (s : State) : State :=
  { s.shutdownNoted with
    aon := { s.aon with thermalHold := true, holdNeedsPg := !s.cfgB 0x8100 3 }
    thermal := { s.shutdownNoted.thermal with coolSince := none } }

theorem State.thermalShutdown_bringUp {s : State} (h : s.mode.base = .bringUp) : s.thermalShutdown = s.shutdownHeld.enterDormant 11 := by
  unfold State.thermalShutdown
  rw [h]
  rfl

theorem State.thermalShutdown_flush {s : State} (h : s.mode.base = .flush) :
    s.thermalShutdown = { s.shutdownNoted with mode := { s.mode with shutdownInFlush := true } } := by
  unfold State.thermalShutdown
  rw [h]
  rfl

theorem State.thermalShutdown_other {s : State} (h1 : s.mode.base ≠ .bringUp) (h2 : s.mode.base ≠ .flush) :
    s.thermalShutdown = s.shutdownHeld.flushStart 11 := by
  unfold State.thermalShutdown
  cases hb : s.mode.base with
  | bringUp => exact absurd hb h1
  | flush => exact absurd hb h2
  | _ => rfl

theorem State.shutdownNoted_event (s : State) : s.shutdownNoted.regs.thmEvent.getLsbD 6 = true := by
  unfold State.shutdownNoted
  rw [State.thmBit_getLsbD _ (by decide), decide_eq_true rfl, Bool.or_true]

theorem State.inService_cases {s : State} (h : s.inService = true) : s.mode.base = .service ∨ s.mode.base = .readOnly ∨ s.mode.base = .maintenance := by
  unfold State.inService at h
  cases hb : s.mode.base <;> simp_all

/-- A shutdown that starts Flush. -/
theorem State.shutdownHeld_flush (s : State) : (s.shutdownHeld.flushStart 11).thermal.shutdowns = satAdd 32 s.thermal.shutdowns 1 ∧
    (s.shutdownHeld.flushStart 11).regs.thmEvent.getLsbD 6 = true ∧ (s.shutdownHeld.flushStart 11).mode.base = .flush ∧
    (s.shutdownHeld.flushStart 11).mode.flushCause = 11 ∧ (s.shutdownHeld.flushStart 11).aon.thermalHold = true ∧
    (s.shutdownHeld.flushStart 11).aon.holdNeedsPg = !s.cfgB 0x8100 3 := by
  obtain ⟨-, hold, needs, -, -⟩ := Aon.of_core (s.shutdownHeld.flushStart_aon 11)
  rw [State.flushStart_thermal, State.flushStart_thmEvent, State.flushStart_mode, hold, needs]
  exact ⟨rfl, s.shutdownNoted_event, rfl, rfl, rfl, rfl⟩

/-- A shutdown in Bring-Up. -/
theorem State.shutdownHeld_dormant (s : State) : (s.shutdownHeld.enterDormant 11).thermal.shutdowns = satAdd 32 s.thermal.shutdowns 1 ∧
    (s.shutdownHeld.enterDormant 11).regs.thmEvent.getLsbD 6 = true ∧ (s.shutdownHeld.enterDormant 11).mode.base = .dormant ∧
    (s.shutdownHeld.enterDormant 11).aon.thermalHold = true ∧ (s.shutdownHeld.enterDormant 11).aon.holdNeedsPg = !s.cfgB 0x8100 3 := by
  rw [(State.enterDormant_chg _ 11).thermal rfl, State.enterDormant_thmEvent, State.enterDormant_aon]
  exact ⟨rfl, s.shutdownNoted_event, (State.enterDormant_mode _ 11).1, rfl, rfl⟩

/-! ### The time below the limits, and the end of the hold -/

theorem State.junctionsCool_iff (s : State) : s.junctionsCool = true ↔ ∀ k, 12 ≤ k → k ≤ 17 → (s.sensor k).broken = false →
    (s.sensor k).readingQ < s.junctionLimit k - ((8 * s.cfg 0x8100 2 : Nat) : Int) := by
  unfold State.junctionsCool
  rw [List.all_eq_true]
  exact ⟨fun h k h1 h2 hg => of_decide_eq_true (h k (State.mem_junctionsGood.mpr ⟨⟨h1, h2⟩, hg⟩)),
    fun h k hk => decide_eq_true (h k (State.mem_junctionsGood.mp hk).1.1 (State.mem_junctionsGood.mp hk).1.2 (State.mem_junctionsGood.mp hk).2)⟩

theorem State.junctionsCool_congr {s t : State} (hd : t.dict = s.dict) (hs : ∀ k, t.sensor k = s.sensor k) : t.junctionsCool = s.junctionsCool := by
  obtain ⟨limit, -, -⟩ := State.junctions_congr hd hs
  rw [Bool.eq_iff_iff, t.junctionsCool_iff, s.junctionsCool_iff]
  simp only [hs, limit, State.cfg_congr hd]

theorem State.sensorTake_coolSince (s : State) (k : Nat) (v : Sample) : (s.sensorTake k v).thermal.coolSince = s.thermal.coolSince := by
  unfold State.sensorTake
  cases s.sampleOf k v with
  | none =>
    dsimp only
    split
    · rfl
    · exact (congrArg Thermal.coolSince ((State.rasReport_chg ..).thermal rfl) :)
  | some r =>
    dsimp only
    split
    · split <;> rfl
    · rfl

theorem State.zoneTake_coolSince (s : State) (z : Nat) : (s.zoneTake z).thermal.coolSince = s.thermal.coolSince := by
  rw [s.zoneTake_eq, State.zoneEvents_thermal]
  rfl

theorem State.roundZoned_kept (s : State) (samples : List Sample) : (s.roundZoned samples).thermal.coolSince = s.thermal.coolSince ∧
    (s.roundZoned samples).aon = s.aon ∧ (s.roundZoned samples).mode = s.mode := by
  have cool : ∀ t : State, (t.sensorsTake samples).thermal.coolSince = t.thermal.coolSince := fun t =>
    State.forEach_keeps (π := fun t => t.thermal.coolSince) (f := fun (v : Sample × Nat) (s : State) => s.sensorTake v.2 v.1)
      (fun v t => t.sensorTake_coolSince v.2 v.1) t _
  refine ⟨?_, ?_, ?_⟩
  · refine (State.forEach_keeps (π := fun t => t.thermal.coolSince) (fun z t => t.zoneTake_coolSince z) _ _).trans ((cool _).trans ?_)
    exact (congrArg Thermal.coolSince ((State.boundaries_chg ..).thermal rfl) :)
  · refine (State.forEach_keeps (π := State.aon) (fun z t => (t.zoneTake_chg z).aon rfl) _ _).trans ?_
    exact ((State.sensorsTake_chg ..).aon rfl).trans ((State.boundaries_chg ..).aon rfl)
  · refine (State.forEach_keeps (π := State.mode) (fun z t => (t.zoneTake_chg z).mode rfl) _ _).trans ?_
    exact ((State.sensorsTake_chg ..).mode rfl).trans ((State.boundaries_chg ..).mode rfl)

theorem State.thermalTimes_coolSince (s : State) (n : Nat) : (s.thermalTimes n).thermal.coolSince =
    if s.junctionsCool then some (s.thermal.coolSince.getD s.aon.now) else none := rfl

/-- The time since which every good junction sensor has been below its limit. -/
theorem State.roundTaken_coolSince (s : State) (samples : List Sample) : (s.roundTaken samples).thermal.coolSince =
    if (s.roundTaken samples).junctionsCool then some (s.thermal.coolSince.getD s.aon.now) else none := by
  obtain ⟨cool, aon, -⟩ := s.roundZoned_kept samples
  obtain ⟨hd, hs⟩ := s.roundZoned_sensors samples
  obtain ⟨kd, ks, -⟩ := s.roundTaken_sensors samples
  have watched := (s.roundZoned samples).sensorWatch_thermal
  have same : (s.roundZoned samples).sensorWatch.junctionsCool = (s.roundTaken samples).junctionsCool :=
    (State.junctionsCool_congr ((State.sensorWatch_chg _).dict rfl) (State.sensor_congr watched)).trans
      ((State.junctionsCool_congr hd hs).trans (State.junctionsCool_congr kd ks).symm)
  rw [s.roundTaken_thermal, State.thermalTimes_coolSince, same, watched, cool, (State.sensorWatch_chg _).aon rfl, aon]

theorem State.sensorWatch_base (s : State) : s.sensorWatch.mode.base = s.mode.base := by
  have few : ∀ (t : State) (c : Bool), (if c then (if t.mode.sustain.testBit 9 then t else (t.sustainSet 9).thmBit 5)
      else t.sustainClear 9).mode.base = t.mode.base := fun t c => by
    split
    · split <;> rfl
    · rfl
  unfold State.sensorWatch
  refine (few _ _).trans ?_
  split <;> rfl

theorem State.roundTaken_base (s : State) (samples : List Sample) : (s.roundTaken samples).mode.base = s.mode.base := by
  have mode : (s.roundTaken samples).mode = (s.roundZoned samples).sensorWatch.mode :=
    ((State.critWatch_chg ..).mode rfl).trans ((State.thermalTimes_chg ..).mode rfl)
  rw [mode, State.sensorWatch_base, (s.roundZoned_kept samples).2.2]

/-- In Dormant a round ends with the channels, which are off. -/
theorem exec_thermalSampleRound_dormant {s : State} {samples : List Sample} (hb : s.mode.base = .dormant) (hl : samples.length = 18) :
    exec (.thermalSampleRound samples) s = .next (s.roundTaken samples).retrainHeat := by
  have asleep : (s.roundTaken samples).awake = false := by
    unfold State.awake
    rw [s.roundTaken_base, hb]
  rw [exec_thermalSampleRound (by rw [hb]; decide) hl, asleep, Bool.false_and, if_neg Bool.false_ne_true]

theorem State.strapStart_hold (s : State) : s.strapStart.aon.thermalHold = s.aon.thermalHold := by
  unfold State.strapStart
  dsimp only
  split
  · exact (congrArg Aon.thermalHold ((State.rasRecord_chg ..).aon rfl) :)
  · rfl

/-- A Bring-Up that begins leaves the holds of the Always-On Domain. -/
theorem State.bringUpBegin_hold (s : State) (cause : Nat) : (s.bringUpBegin cause).aon.thermalHold = s.aon.thermalHold := by
  by_cases ht : (s.aon.strapTest && s.debugOpen) = true
  · unfold State.bringUpBegin
    rw [if_pos ht]
  · cases hk : s.bootSlot with
    | none =>
      unfold State.bringUpBegin
      rw [if_neg ht, hk]
    | some k =>
      have units : ∀ u : State, u.unitsStart.aon.thermalHold = u.aon.thermalHold := fun u => by
        unfold State.unitsStart
        rw [(State.chanStart_chg _).aon rfl, (State.dramStart_chg _).aon rfl, (State.chipStart_chg _).aon rfl, (State.sustainStart_chg _).aon rfl,
          (State.sliceStart_chg _).aon rfl]
        exact (congrArg Aon.thermalHold (u.storeLoad_chg.aon rfl) :)
      have quiet : s.bringUpQuiet.aon.thermalHold = s.aon.thermalHold := by
        unfold State.bringUpQuiet
        rw [State.strapStart_hold]
        rfl
      rw [State.bringUpBegin_eq (by simpa using ht) hk, units]
      have slot : ∀ u : State, (u.bringUpSlot k).aon = u.aon := fun u => rfl
      rw [slot, State.transition_aon, quiet]

/-- The hold has ended. -/
def State.holdOver (s : State) : State := { s with aon := { s.aon with thermalHold := false } }

/-- The hold has lasted its 60 s below the limits. -/
def State.holdDone (s : State) : Bool := match s.thermal.coolSince with
  | some t => s.elapsed t (60 * Machine.sec)
  | none => false

theorem exec_thermalHoldEnd_eq (s : State) : exec .thermalHoldEnd s =
    .next (s.when (s.aon.thermalHold && decide (s.mode.base = .dormant) && s.holdDone) (fun s => s.holdOver.tryStart 22)) := rfl

theorem exec_thermalHoldEnd {s : State} (hb : s.mode.base = .dormant) (hh : s.aon.thermalHold = true) :
    exec .thermalHoldEnd s = .next (if s.holdDone then s.holdOver.tryStart 22 else s.unlisted) := by
  rw [exec_thermalHoldEnd_eq, hh, hb, decide_eq_true rfl, Bool.true_and, Bool.true_and]
  rfl

theorem State.tryStart_hold (s : State) (cause : Nat) : (s.tryStart cause).aon.thermalHold = s.aon.thermalHold := by
  unfold State.tryStart
  split
  · exact s.bringUpBegin_hold cause
  · rfl

theorem State.holdDone_iff (s : State) : s.holdDone = true ↔ ∃ c, s.thermal.coolSince = some c ∧ c + 60000000000 ≤ s.aon.now := by
  unfold State.holdDone
  cases s.thermal.coolSince with
  | none => exact ⟨fun h => absurd h Bool.false_ne_true, fun ⟨c, h, _⟩ => by cases h⟩
  | some c =>
    unfold State.elapsed
    rw [decide_eq_true_iff, show 60 * Machine.sec = 60000000000 from rfl]
    exact ⟨fun h => ⟨c, rfl, h⟩, fun ⟨d, hd, h⟩ => by cases hd; exact h⟩

/-- A hold that waits for MAIN_PG begins no Bring-Up. -/
theorem State.mayStart_needsPg {s : State} (h : s.aon.holdNeedsPg = true) : s.mayStart = false := by
  unfold State.mayStart
  rw [h, Bool.not_true, Bool.and_false, Bool.false_and]

theorem exec_mainPgFalse_dormant {s : State} (hb : s.mode.base = .dormant) (hm : s.aon.mainPg = true) :
    exec .mainPgFalse s = .next s.mainGone :=
  (next_when hm).trans (by dsimp only; rw [hb]; rfl)

end Sys2Proof.Machine
end

section
/-! The statement about a thermal shutdown. -/

namespace Sys2Proof
open Machine

/-- Settles O60. -/
theorem thermalShutdown : Obligations.ThermalShutdown := by
  refine ⟨fun s t ht => ?_, fun s samples hb hl => ?_, fun s hb hh => ?_, fun s hb hh hn => ?_, fun s hb hn => ⟨State.mayStart_needsPg hn,
    fun hm => ⟨s.mainGone, exec_mainPgFalse_dormant hb hm, rfl, rfl, hb⟩⟩⟩
  · subst ht
    by_cases h1 : s.mode.base = .bringUp
    · obtain ⟨count, event, base, hold, needs⟩ := s.shutdownHeld_dormant
      rw [State.thermalShutdown_bringUp h1]
      exact ⟨count, event, fun h => (by simp [State.inService, h1] at h), fun _ => ⟨base, hold, needs⟩, fun h => (by rw [h1] at h; cases h)⟩
    · by_cases h2 : s.mode.base = .flush
      · rw [State.thermalShutdown_flush h2]
        exact ⟨rfl, s.shutdownNoted_event, fun h => (by simp [State.inService, h2] at h), fun h => absurd h h1, fun _ => ⟨h2, rfl⟩⟩
      · obtain ⟨count, event, base, cause, hold, needs⟩ := s.shutdownHeld_flush
        rw [State.thermalShutdown_other h1 h2]
        exact ⟨count, event, fun _ => ⟨base, cause, hold, needs⟩, fun h => absurd h h1, fun h => absurd h h2⟩
  · refine ⟨_, exec_thermalSampleRound_dormant hb hl, ?_⟩
    have hc := (s.roundTaken samples).retrainHeat_chg
    have hd := hc.dict rfl
    have hs := State.sensor_congr (hc.thermal rfl)
    have cool := State.junctionsCool_congr hd hs
    rw [hc.thermal rfl, s.roundTaken_coolSince, ← cool]
    refine ⟨fun h => if_pos ((State.junctionsCool_iff _).mpr h), fun k h1 h2 hg hk => if_neg fun h => ?_⟩
    have := (State.junctionsCool_iff _).mp h k h1 h2 hg
    omega
  · refine ⟨_, exec_thermalHoldEnd hb hh, ?_⟩
    rw [← s.holdDone_iff]
    cases s.holdDone with
    | true => exact ⟨fun _ => rfl, fun _ => State.tryStart_hold s.holdOver 22⟩
    | false => exact ⟨fun h => (by rw [if_neg Bool.false_ne_true] at h; exact absurd (hh.symm.trans h) (by decide)), nofun⟩
  · refine ⟨_, exec_thermalHoldEnd hb hh, ?_⟩
    cases s.holdDone with
    | true =>
      have stays : s.holdOver.tryStart 22 = s.holdOver := if_neg (by rw [State.mayStart_needsPg (s := s.holdOver) hn]; decide)
      rw [if_pos rfl, stays]
      exact ⟨hb, hn⟩
    | false => exact ⟨hb, hn⟩

end Sys2Proof
end

section
/-! SUPPORT. The crystals, the reference clock, the power estimate and the LED (R389 to R391, R466, R467): one equation for each command. -/

namespace Sys2Proof.Machine

variable {s : State}

theorem State.aonOn_true (h : s.mode.base ≠ .unpowered) : s.aonOn = true := decide_eq_true h

theorem exec_crystalQualifyTimeout (hb : s.mode.base = .dormant) (hc : s.aon.crystal25 = false) :
    exec .crystalQualifyTimeout s = .next (s.rasRecord 0x0E 0 0x20 3 0 []) := next_when (by rw [hb, hc]; rfl)

/-- The slow crystal has failed. -/
def State.slowCrystalGone (s : State) : State := { s with aon := { s.aon with crystal32 := false } }

theorem exec_slowCrystalFailure (hb : s.mode.base ≠ .unpowered) (hc : s.aon.crystal32 = true) :
    exec .slowCrystalFailure s = .next (s.slowCrystalGone.rasRecord 0x0E 0 0x20 2 0 []) := next_when (by rw [State.aonOn_true hb, hc]; rfl)

/-- The reference clock has stopped, and the fast PLLs run from the crystal. -/
def State.refclkGone (s : State) : State := { s with aon := { s.aon with refclk0 := false, pllOnRefclk := false } }

theorem exec_refclkStop (hb : s.mode.base ≠ .unpowered) (hc : s.aon.refclk0 = true) :
    exec .refclkStop s = .next (if s.awake && s.aon.refsel && (s.port 0).linkUp then s.refclkGone.linkLost 0 else s.refclkGone) :=
  next_when (by rw [State.aonOn_true hb, hc]; rfl)

theorem exec_refclkRestored (hb : s.mode.base ≠ .unpowered) (hc : s.aon.refclk0 = false) :
    exec .refclkRestored s = .next { s with aon := { s.aon with refclk0 := true, pllOnRefclk := s.aon.refsel && s.aon.pllsOn } } :=
  next_when (by rw [State.aonOn_true hb, hc]; rfl)

theorem exec_ledActInterval (hb : s.mode.base ≠ .unpowered) : exec .ledActInterval s =
    .next (if s.aon.ledCompletion then ({ s with aon := { s.aon with ledCompletion := false } } : State).emit (.led 50) else s) :=
  next_when (State.aonOn_true hb)

/-- A hold that ends where a Bring-Up may not start. -/
theorem exec_thermalHoldEnd_stays {c : Nat} (hh : s.aon.thermalHold = true) (hb : s.mode.base = .dormant) (hc : s.thermal.coolSince = some c)
    (he : s.elapsed c 60000000000 = true) (hm : s.holdOver.mayStart = false) : exec .thermalHoldEnd s = .next s.holdOver := by
  have done : s.holdDone = true := s.holdDone_iff.mpr ⟨c, hc, of_decide_eq_true he⟩
  have stays : s.holdOver.tryStart 22 = s.holdOver := if_neg (by rw [hm]; exact Bool.false_ne_true)
  rw [exec_thermalHoldEnd hb hh, if_pos done, stays]

end Sys2Proof.Machine
end

section
/-! The statement about the crystals, the clocks, the power figures and the LED. -/

namespace Sys2Proof
open Machine

/-- Settles O48. The records of the crystals and the links that the reference clock drops are the model's choice (log entries 12 and 26). -/
theorem clocksAndFigures : Obligations.ClocksAndFigures := by
  refine ⟨fun s c hh hb hc he hm => ⟨_, exec_thermalHoldEnd_stays hh hb hc he hm, rfl, rfl⟩,
    fun s hb hc => ⟨_, exec_crystalQualifyTimeout hb hc, rfl, rfl, rfl, rfl⟩,
    fun s hb hc => ⟨_, exec_slowCrystalFailure hb hc, rfl, rfl, rfl⟩, fun s hb hc => ⟨_, exec_refclkStop hb hc, ?_⟩,
    fun s hb hc => ⟨_, exec_refclkRestored hb hc, rfl, rfl, rfl⟩,
    fun s mw ha => ⟨_, next_when ha, rfl, rfl, rfl, rfl, rfl⟩, fun s hb => ⟨fun hl => ?_, fun hl => ?_⟩⟩
  · by_cases hd : (s.awake && s.aon.refsel && (s.port 0).linkUp) = true
    · rw [if_pos hd]
      have hk := s.refclkGone.linkLost_chg 0
      have refsel : s.aon.refsel = true := by
        rw [Bool.and_eq_true, Bool.and_eq_true] at hd
        exact hd.1.2
      rw [hk.aon rfl, hk.mode rfl]
      exact ⟨rfl, rfl, rfl, fun _ _ _ => ⟨State.linkLost_dlDowns .., (State.linkLost_down ..).linkUp⟩,
        fun h => absurd (refsel.symm.trans h) (by decide)⟩
    · rw [if_neg hd]
      exact ⟨rfl, rfl, rfl, fun ha hr hl => absurd (by rw [ha, hr, hl]; rfl) hd, fun _ => rfl⟩
  · exact ⟨_, (exec_ledActInterval hb).trans (by rw [if_pos hl]), rfl, List.mem_append_right _ (List.mem_singleton.mpr rfl)⟩
  · exact (exec_ledActInterval hb).trans (by rw [if_neg (by rw [hl]; exact Bool.false_ne_true)])

end Sys2Proof
end

section
/-! SUPPORT. What starts and ends Flush, the end of Bring-Up, and the entry of Maintenance (R280, R284 to R286, R294, R385, R387, R447): one
equation for each command, and what its steps leave of the counters, the mode, the ports and the islands. -/

namespace Sys2Proof.Machine

/-! ### The recovery counters that programs and allocations keep -/

/-- The completed Flush sequences, and the sanitize that a power loss interrupted. -/
def Recov.marks (r : Recov) : Nat × Nat := (r.flushes, r.sanitizeRecord)

theorem Recov.marks_lossReport (r : Recov) (l : List (Nat × Nat × Nat)) : ({ r with lossReport := l } : Recov).marks = r.marks := rfl
theorem Recov.marks_recovered (r : Recov) (seq path n ms cause unsafeStops scans replayed : Nat) :
    ({ r with seqNext := seq, lastRecovery := path, recoveries := n, recoveryMs := ms, lastStop := cause, unsafeStops := unsafeStops
              scans := scans, recordsReplayed := replayed } : Recov).marks = r.marks := rfl

/-- A step keeps the marks of the recovery. -/
def MarksKept (s t : State) : Prop := t.recov.marks = s.recov.marks

namespace MarksKept

variable {s t u : State}

theorem refl (s : State) : MarksKept s s := rfl
theorem step (h : MarksKept t u) (g : MarksKept s t) : MarksKept s u := h.trans g
theorem chg {m : Nat} (h : Chg m t u) (g : MarksKept s t) (hm : m.testBit 30 = false) : MarksKept s u :=
  (congrArg Recov.marks (h.recov hm)).trans g
theorem of_chg {m : Nat} (h : Chg m s t) (hm : m.testBit 30 = false) : MarksKept s t := congrArg Recov.marks (h.recov hm)

theorem parts (h : MarksKept s t) : t.recov.flushes = s.recov.flushes ∧ t.recov.sanitizeRecord = s.recov.sanitizeRecord :=
  Prod.mk.inj h

theorem forEach {α : Type} {l : List α} {f : α → State → State} (hf : ∀ x t, MarksKept t (f x t)) (h : MarksKept s t) :
    MarksKept s (t.forEach l f) := by
  unfold MarksKept
  rw [State.forEach_keeps (π := fun t => t.recov.marks) hf]
  exact h

theorem ite {c : Prop} [Decidable c] (ht : MarksKept s t) (hu : MarksKept s u) : MarksKept s (if c then t else u) := by
  split
  · exact ht
  · exact hu

theorem u_map_jrn (h : MarksKept s t) (x : MapSt) (y : Jrn) : MarksKept s { t with map := x, jrn := y } := h
theorem u_map_jrn_recov (h : MarksKept s t) (x : MapSt) (y : Jrn) {r : Recov} (hr : r.marks = t.recov.marks) :
    MarksKept s { t with map := x, jrn := y, recov := r } := hr.trans h
theorem u_recov (h : MarksKept s t) {r : Recov} (hr : r.marks = t.recov.marks) : MarksKept s { t with recov := r } := hr.trans h

end MarksKept

theorem State.section_marks (s : State) : MarksKept s s.section_ := by
  unfold State.section_
  exact .ite rfl rfl

theorem State.stopRecord_marks (s : State) (cause : Nat) : MarksKept s (s.stopRecord cause) := s.section_marks

/-- A block that Flush cannot read from either copy is reported. -/
def State.flushLoss (s : State) (x : Nat × Nat) : State :=
  { s.staleRun x.1 x.2 1 with recov := { (s.staleRun x.1 x.2 1).recov with lossReport := (s.staleRun x.1 x.2 1).recov.lossReport ++ [(x.1, x.2, 1)] } }

theorem State.flushLoss_marks (s : State) (x : Nat × Nat) : MarksKept s (s.flushLoss x) := by
  have stale : MarksKept s (s.staleRun x.1 x.2 1) := .of_chg (State.staleRun_chg s x.1 x.2 1) rfl
  unfold State.flushLoss
  exact .u_recov stale (Recov.marks_lossReport ..)

theorem State.flushPrograms_marks (s : State) : MarksKept s s.flushPrograms := by
  unfold State.flushPrograms
  refine (State.stopRecord_marks _ 2).step (.chg (State.allDurable_chg _) ?_ rfl)
  refine .forEach (fun z t => .ite (.refl t) (.of_chg (State.zoneJournal_chg ..) rfl)) ?_
  refine .forEach (fun x t => t.flushLoss_marks x) ?_
  refine .forEach (fun h t => .of_chg (State.flushRecord_chg ..) rfl) ?_
  refine .chg (State.reserveRows_chg _) ?_ rfl
  exact .forEach (fun h t => .of_chg (State.flushBlock_chg ..) rfl) (.refl s)

theorem State.sbAlloc_marks (s : State) (kind : SbKind) (group handle : Nat) (ok : Nat → Bool) :
    MarksKept s (s.sbAlloc kind group handle ok).1 := by
  unfold State.sbAlloc
  dsimp only
  split
  · rfl
  · exact (State.section_marks _).step rfl

theorem State.reserveFill_marks (s : State) (fuel : Nat) : MarksKept s (s.reserveFill fuel) := by
  induction fuel generalizing s with
  | zero => rfl
  | succ fuel ih =>
    have alloc := s.sbAlloc_marks .reserve 0 0 (fun _ => true)
    unfold State.reserveFill
    refine .ite (.refl s) ?_
    split
    · rename_i e
      rw [e] at alloc
      exact (ih _).step alloc
    · rename_i e
      rw [e] at alloc
      exact alloc

theorem State.spareStart_marks (s : State) : MarksKept s s.spareStart := by
  unfold State.spareStart
  have fill := s.reserveFill_marks 64
  exact .ite (.refl s) (.ite fill fill)

theorem State.recoverMap_marks (s : State) (f : Recovered) : MarksKept s (s.recoverMap f) := by
  have pages : ∀ (x : MapSt) (y : Jrn) (r : Recov) (d : Durable) (w : Bool) (l : List (Nat × Nat × Nat)), r.marks = s.recov.marks →
      MarksKept s ((({ s with map := x, jrn := y, recov := r } : State).recoverZones d w).recoverPages d l) := fun x y r d w l hr =>
    .chg (State.recoverPages_chg ..) (.chg (State.recoverZones_chg ..) (.u_map_jrn_recov (.refl s) x y hr) rfl) rfl
  unfold State.recoverMap
  refine .forEach (fun n t => .of_chg (State.recoverUse_chg ..) rfl) (.chg (State.recoverSbs_chg ..) (.ite (.u_map_jrn ?_ _ _) ?_) rfl)
  · exact pages _ _ _ _ _ _ (Recov.marks_recovered ..)
  · exact pages _ _ _ _ _ _ (Recov.marks_recovered ..)

theorem State.mapIn_marks (s : State) (f : Recovered) : MarksKept s (s.mapIn f) := by
  unfold State.mapIn
  refine .ite (.refl s) (.chg (State.indexFill_chg _) (.forEach (fun x t => .of_chg (State.deferredError_chg t x.1 x.2.1 x.2.2) rfl) ?_) rfl)
  have found : MarksKept s (if s.recov.sanitizeRecord ≠ 0 then s.recoverNothing
      else if s.recov.started then (s.unitsCut.recoverMap f).scanEvent f else s) := by
    refine .ite (.of_chg s.recoverNothing_chg rfl) (.ite ?_ (.refl s))
    exact .chg (State.scanEvent_chg ..) ((State.recoverMap_marks _ f).step (.of_chg s.unitsCut_chg rfl)) rfl
  exact found

end Sys2Proof.Machine
end

section
/-! SUPPORT. The commands that start and end Flush, Bring-Up and the entry of Maintenance (R103, R280, R284 to R286, R294, R385, R387, R447). -/

namespace Sys2Proof.Machine

variable {s : State}

/-! ### The power controls (R280) -/

theorem State.inService_on (h : s.inService = true) : s.mode.base ≠ .unpowered ∧ s.awake = true := by
  rcases State.inService_cases h with hb | hb | hb <;> exact ⟨by rw [hb]; decide, by simp only [State.awake, hb]⟩

theorem State.powerEvent_inService (h : s.inService = true) (cause : Nat) : s.powerEvent cause = s.flushStart cause := if_pos h

theorem State.powerEvent_bringUp (h : s.mode.base = .bringUp) (cause : Nat) : s.powerEvent cause = s.enterDormant cause := by
  unfold State.powerEvent State.inService
  rw [h]
  rfl

theorem State.powerEvent_dormant (h : s.mode.base = .dormant) (cause : Nat) : s.powerEvent cause = s := by
  unfold State.powerEvent State.inService
  rw [h]
  rfl

/-- A power control that is asserted: its pin, its event where the fast domain runs. -/
def State.controlled (s : State) (pwrdis : Bool) : State :=
  let s1 := if pwrdis then { s with aon := { s.aon with pwrdis := true } } else { s with aon := { s.aon with pln := true } }
  if s.awake then s1.pwrBit (if pwrdis then 2 else 1) else s1

theorem State.controlled_kept (s : State) (pwrdis : Bool) : (s.controlled pwrdis).mode = s.mode ∧ (s.controlled pwrdis).tags = s.tags ∧
    (s.controlled pwrdis).aon = (if pwrdis then { s.aon with pwrdis := true } else { s.aon with pln := true }) := by
  unfold State.controlled
  cases pwrdis <;> dsimp only <;> split <;> exact ⟨rfl, rfl, rfl⟩

theorem exec_powerLossNotify (hb : s.mode.base ≠ .unpowered) (hp : s.aon.pln = false) :
    exec .powerLossNotify s = .next ((s.controlled false).powerEvent 9) := next_when (by rw [State.aonOn_true hb, hp]; rfl)

theorem exec_powerDisable (hb : s.mode.base ≠ .unpowered) (hp : s.aon.pwrdis = false) :
    exec .powerDisable s = .next ((s.controlled true).powerEvent 10) := next_when (by rw [State.aonOn_true hb, hp]; rfl)

/-- Both power controls. -/
theorem exec_powerControl {cause : Nat} {x : Instr} (hb : s.mode.base ≠ .unpowered)
    (h : (x = .powerLossNotify ∧ s.aon.pln = false ∧ cause = 9) ∨ (x = .powerDisable ∧ s.aon.pwrdis = false ∧ cause = 10)) :
    ∃ pwrdis : Bool, exec x s = .next ((s.controlled pwrdis).powerEvent cause) ∧
      (s.controlled pwrdis).aon.pln = (s.aon.pln || cause == 9) ∧ (s.controlled pwrdis).aon.pwrdis = (s.aon.pwrdis || cause == 10) := by
  rcases h with ⟨rfl, hp, rfl⟩ | ⟨rfl, hp, rfl⟩
  · refine ⟨false, exec_powerLossNotify hb hp, ?_⟩
    rw [(s.controlled_kept false).2.2]
    exact ⟨(Bool.or_true _).symm, (Bool.or_false _).symm⟩
  · refine ⟨true, exec_powerDisable hb hp, ?_⟩
    rw [(s.controlled_kept true).2.2]
    exact ⟨(Bool.or_false _).symm, (Bool.or_true _).symm⟩

/-- A power control in service. -/
theorem State.controlled_flush (h : s.inService = true) (pwrdis : Bool) (cause : Nat) :
    (s.controlled pwrdis).powerEvent cause = (s.controlled pwrdis).flushStart cause ∧
    ((s.controlled pwrdis).flushStart cause).mode = s.mode.flush s.aon.now cause ∧
    ∀ tag, (s.tag tag).st.uncommitted = true → (((s.controlled pwrdis).flushStart cause).tag tag).st = .post ∧
      (((s.controlled pwrdis).flushStart cause).tag tag).status = ⟨0, 5⟩ := by
  obtain ⟨mode, tags, aon⟩ := s.controlled_kept pwrdis
  have serves : (s.controlled pwrdis).inService = true := by unfold State.inService; rw [mode]; exact h
  have now : (s.controlled pwrdis).aon.now = s.aon.now := by rw [aon]; cases pwrdis <;> rfl
  refine ⟨State.powerEvent_inService serves cause, ?_, fun tag ht => State.flushStart_aborts ?_ cause⟩
  · rw [State.flushStart_mode, mode, now]
  · unfold State.tag
    rw [tags]
    exact ht

/-! ### The end of the posting window (R103, R284) -/

theorem State.linkLost_core_ne (s : State) {p q : Nat} (h : p ≠ q) : ((s.linkLost p).port q).core = (s.port q).core := by
  unfold State.linkLost
  dsimp only
  rw [State.setPort_port_ne _ _ h]
  exact s.portReset_core_ne h 4 true

/-- The PHY of a port powers down. -/
def State.phyDown (s : State) (p : Nat) : State :=
  let s1 := if (s.port p).linkUp then s.linkLost p else s
  s1.setPort p { s1.port p with stayDown := true }

theorem State.phyDown_stays (s : State) (p : Nat) : ((s.phyDown p).port p).stayDown = true := by
  unfold State.phyDown
  dsimp only
  rw [State.setPort_port]

theorem State.phyDown_core_ne (s : State) {p q : Nat} (h : p ≠ q) : ((s.phyDown p).port q).core = (s.port q).core := by
  unfold State.phyDown
  dsimp only
  rw [State.setPort_port_ne _ _ h]
  split
  · exact s.linkLost_core_ne h
  · rfl

/-- The clusters of the host interface, of upkeep and of the spares. -/
def windowIslands : List Nat := [0, 1, 2, 3, 4, 5, 6, 7, 12, 13, 15]

/-- A cluster goes Off. -/
def State.islandOff (s : State) (k : Nat) : State := s.setIsland k { s.island k with st := .off, entering := false }

theorem State.islandsOff_off (s : State) {l : List Nat} {k : Nat} (hk : k ∈ l) :
    ((s.forEach l (fun k s => s.islandOff k)).island k).st = .off :=
  State.forEach_makes (I := fun _ => True) (P := fun t => (t.island k).st = .off) hk trivial (fun _ _ _ => trivial)
    (fun j t ht => by
      unfold State.islandOff
      by_cases e : j = k
      · subst e; rw [State.setIsland_island]
      · rw [State.setIsland_island_ne _ _ e]; exact ht)
    (fun t _ => by unfold State.islandOff; rw [State.setIsland_island])

/-- Both ports and the clusters of the posting window are down. -/
def State.windowShut (s : State) : State := ((s.phyDown 0).phyDown 1).forEach windowIslands (fun k s => s.islandOff k)

/-- A state with its posting window over. -/
def State.windowOver (s : State) : State := { s with mode := { s.mode with postWindow := false } }

theorem State.windowOver_port (s : State) (p : Nat) : s.windowOver.port p = s.port p := rfl
theorem State.windowOver_island (s : State) (k : Nat) : s.windowOver.island k = s.island k := rfl
theorem State.windowOver_postWindow (s : State) : s.windowOver.mode.postWindow = false := rfl

/-- The end of the posting window. -/
def State.windowEnded (s : State) : State := s.windowShut.windowOver

theorem exec_postWindowEnd (hb : s.mode.base = .flush) (hw : s.mode.postWindow = true)
    (he : s.elapsed s.mode.flushAt (s.cfg 0x8040 2 * usec) = true) : exec .postWindowEnd s = .next s.windowEnded :=
  next_when (by rw [hb, hw, he]; rfl)

theorem State.windowEnded_stays (s : State) : (s.windowEnded.port 0).stayDown = true ∧ (s.windowEnded.port 1).stayDown = true := by
  have ports : s.windowShut.ports = ((s.phyDown 0).phyDown 1).ports :=
    State.forEach_keeps (π := State.ports) (fun k t => rfl) ((s.phyDown 0).phyDown 1) windowIslands
  have down : ∀ p, s.windowEnded.port p = ((s.phyDown 0).phyDown 1).port p := fun p => by
    rw [State.windowEnded, State.windowOver_port]
    unfold State.port
    rw [ports]
  have zero : (((s.phyDown 0).phyDown 1).port 0).stayDown = ((s.phyDown 0).port 0).stayDown :=
    (congrArg Port.stayDown ((s.phyDown 0).phyDown_core_ne (p := 1) (q := 0) (by decide)) :)
  rw [down, down, zero]
  exact ⟨s.phyDown_stays 0, (s.phyDown 0).phyDown_stays 1⟩

theorem State.windowEnded_off (s : State) {k : Nat} (h : k < 8 ∨ k = 12 ∨ k = 13 ∨ k = 15) : (s.windowEnded.island k).st = .off := by
  have mem : k ∈ windowIslands := by
    unfold windowIslands
    simp only [List.mem_cons, List.not_mem_nil, or_false]
    omega
  rw [State.windowEnded, State.windowOver_island]
  exact State.islandsOff_off _ mem

end Sys2Proof.Machine
end

section
/-! SUPPORT. The end of Flush, of Bring-Up and of the entry of Maintenance (R284 to R286, R294, R385, R387, R424, R447): one equation for
each command and case. -/

namespace Sys2Proof.Machine

variable {s : State}

/-! ### The end of Flush (R284 to R286) -/

/-- What Flush programs is programmed, and its append finishes. -/
def State.flushWritten (s : State) : State := s.flushPrograms.appendFinish

theorem State.flushWritten_kept (s : State) : s.flushWritten.mode = s.mode ∧ s.flushWritten.aon = s.aon ∧
    s.flushWritten.recov.flushes = s.recov.flushes ∧ s.flushWritten.dict.appends = [] := by
  have hp := s.flushPrograms_chg
  have hf := s.flushPrograms.appendFinish_chg
  refine ⟨(hf.mode rfl).trans (hp.mode rfl), (hf.aon rfl).trans (hp.aon rfl), ?_, ?_⟩
  · exact (congrArg Recov.flushes (hf.recov rfl)).trans s.flushPrograms_marks.parts.1
  · unfold State.flushWritten State.appendFinish
    split
    · assumption
    · rfl

/-- A Flush that is counted, before Dormant or a Bring-Up follows. -/
def State.flushCounted (t s : State) : State :=
  { t with
    recov := { t.recov with flushUs := (s.aon.now - s.mode.flushAt) / usec, flushes := satAdd 32 t.recov.flushes 1 }
    aon := { t.aon with thermalHold := t.aon.thermalHold || t.mode.shutdownInFlush
                        holdNeedsPg := t.aon.holdNeedsPg || (t.mode.shutdownInFlush && !s.cfgB 0x8100 3) }
    mode := { t.mode with shutdownInFlush := false, flushAt := s.aon.now, restartWait := true }
    islands := (List.range 48).map (fun k => (k, ({ st := .off } : Island))) }

theorem State.flushCounted_kept (t s : State) : (t.flushCounted s).recov.flushes = satAdd 32 t.recov.flushes 1 ∧
    (t.flushCounted s).recov.flushUs = (s.aon.now - s.mode.flushAt) / usec ∧ (t.flushCounted s).dict = t.dict ∧
    (t.flushCounted s).mode.base = t.mode.base ∧ (t.flushCounted s).mode.restartWait = true ∧ (t.flushCounted s).mode.flushAt = s.aon.now ∧
    (t.flushCounted s).aon.auxOk = t.aon.auxOk ∧ (t.flushCounted s).aon.thermalHold = (t.aon.thermalHold || t.mode.shutdownInFlush) ∧
    (t.flushCounted s).flushHeld = (t.flushHeld || t.mode.shutdownInFlush) := by
  refine ⟨rfl, rfl, rfl, rfl, rfl, rfl, rfl, rfl, ?_⟩
  unfold State.flushHeld State.flushCounted
  dsimp only
  cases t.mode.shutdownInFlush
  · simp only [Bool.or_false]
  · simp only [Bool.or_true, Bool.true_or]

theorem State.flushDone_eq (s : State) : s.flushDone = if (s.flushWritten.flushCounted s).flushHeld then (s.flushWritten.flushCounted s).flushLeave
    else s.flushWritten.flushCounted s := by
  unfold State.flushDone State.flushCounted State.flushWritten
  rfl

theorem exec_flushEnd (hb : s.mode.base = .flush) (hw : s.mode.postWindow = false) (hr : s.mode.restartWait = false)
    (hp : s.media.progs.any (fun p => p.2.live) = false) : exec .flushEnd s = .next s.flushDone :=
  next_when (by rw [hb, hw, hr, hp]; rfl)

theorem State.flushLeave_powered (ha : s.aon.auxOk = true) : s.flushLeave = s.enterDormant 21 := by
  have on : (s.enterDormant 21).aon.auxOk = true := (s.enterDormant_auxOk 21).trans ha
  unfold State.flushLeave
  simp only [on, if_true]

theorem State.enterDormant_off (s : State) (cause : Nat) : (s.enterDormant cause).tags = [] ∧ (s.enterDormant cause).islands = [] := by
  unfold State.enterDormant State.fastOff
  exact ⟨rfl, rfl⟩

/-- The fast domain is off after Flush, with aux power or without it. -/
theorem State.flushLeave_left (s : State) : s.flushLeave.mode.base = (if s.aon.auxOk then .dormant else .unpowered) ∧
    s.flushLeave.recov = s.recov ∧ s.flushLeave.tags = [] ∧ s.flushLeave.islands = [] := by
  obtain ⟨tags, islands⟩ := s.enterDormant_off 21
  refine ⟨?_, s.flushLeave_chg.recov rfl, ?_⟩
  · cases ha : s.aon.auxOk with
    | true => rw [State.flushLeave_powered ha, (s.enterDormant_mode 21).1]; rfl
    | false => exact State.flushLeave_unpowered ha
  · cases ha : s.aon.auxOk with
    | true => rw [State.flushLeave_powered ha]; exact ⟨tags, islands⟩
    | false =>
      have off : (s.enterDormant 21).aon.auxOk = false := (s.enterDormant_auxOk 21).trans ha
      have left : s.flushLeave = ((s.enterDormant 21).transition .unpowered 21).auxGone := by
        unfold State.flushLeave
        simp only [off, Bool.false_eq_true, if_false]
      have gone := State.auxGone_chg ((s.enterDormant 21).transition .unpowered 21)
      have turn := (s.enterDormant 21).transition_chg .unpowered 21
      rw [left]
      exact ⟨(gone.tags rfl).trans ((turn.tags rfl).trans tags), (gone.islands rfl).trans ((turn.islands rfl).trans islands)⟩

/-! ### The end of Bring-Up (R294, R385, R447) -/

theorem State.serviceEnd_mode (s : State) (cause : Nat) : (s.serviceEnd cause).mode =
    { s.mode with fatal := if s.mode.fatal = 0 then cause else s.mode.fatal, drainWanted := true } := by
  have kept : (s.forEach s.funcs (fun x s =>
      if (s.func (x.1 / 256) (x.1 % 256)).here then
        s.setFunc (x.1 / 256) (x.1 % 256) { s.func (x.1 / 256) (x.1 % 256) with cfs := true, rdy := false } else s)).mode = s.mode :=
    State.forEach_keeps (π := State.mode) (fun x t => by split <;> rfl) s s.funcs
  unfold State.serviceEnd
  dsimp only
  rw [kept]

/-- The map is in, and the causes of a mode other than Service are known. -/
def State.bringUpRead (s : State) (f : Recovered) : State := (((s.mapIn f).spareStart).bringUpCauses f).mapCacheCheck

/-- A state whose map serves. -/
def State.mapServes (s : State) : State := { s with mode := { s.mode with mapReady := true, rerun := false } }

/-- A state in which admission stops where its base mode is Maintenance. -/
def State.stopsMaint (s : State) : State := { s with mode := { s.mode with maintStopped := decide (s.mode.base = Base.maintenance) } }

/-- The end of Bring-Up in its mode, with a sanitize that goes on. -/
def State.bringUpClose (s : State) : State :=
  let s3 := ({ s with mode := { s.mode with mapReady := true, rerun := false } } : State).readyAll.bringUpEnd
  let s4 := { s3 with mode := { s3.mode with maintStopped := decide (s3.mode.base = Base.maintenance) } }
  if s4.recov.sanitizeRecord ≠ 0 then ({ s4 with sec := { s4.sec with sanRunning := 2 } } : State).sanitizeRun
  else s4

theorem State.bringUpClose_eq (s : State) (h : s.mapServes.readyAll.bringUpEnd.stopsMaint.recov.sanitizeRecord = 0) :
    s.bringUpClose = s.mapServes.readyAll.bringUpEnd.stopsMaint := if_neg (not_not.mpr h)

/-- Bring-Up has ended. -/
def State.broughtUp (s : State) (f : Recovered) : State := (s.bringUpRead f).mapServes.readyAll.bringUpEnd.stopsMaint

theorem exec_bringUpComplete {f : Recovered} (hb : s.mode.base = .bringUp) (hf : s.mode.fatal = 0) (ht : s.trainingsDone = true)
    (hg : f.badTargets = []) : exec (.bringUpComplete f) s = .next (if s.fatalNow ≠ 0 then s.serviceEnd s.fatalNow
      else (s.bringUpRead f).bringUpClose) := by
  show execBringUpComplete f s = _
  unfold execBringUpComplete
  have unused : s.forEach ([] : List (Nat × Nat)) (fun t s => s.targetUnused t) = s := rfl
  rw [State.when_true _ (by rw [hb, hf, ht]; rfl), hg, unused]
  unfold State.bringUpRead State.bringUpClose
  dsimp only

theorem State.broughtUp_sanitizeRecord (s : State) (f : Recovered) : (s.broughtUp f).recov.sanitizeRecord = s.recov.sanitizeRecord := by
  have stops : ∀ t : State, t.stopsMaint.recov = t.recov := fun t => rfl
  have serves : ∀ t : State, t.mapServes.recov = t.recov := fun t => rfl
  have read : MarksKept s (s.bringUpRead f) :=
    .chg (State.mapCacheCheck_chg _) (.chg (State.bringUpCauses_chg _ f) ((State.spareStart_marks _).step (s.mapIn_marks f)) rfl) rfl
  unfold State.broughtUp
  rw [stops, (State.bringUpEnd_chg _).recov rfl, (State.readyAll_chg _).recov rfl, serves]
  exact read.parts.2

theorem State.bringUpEnd_mode (s : State) : s.bringUpEnd.mode.base =
      (if s.mode.maintCauses ≠ 0 then .maintenance else if s.mode.readonlyCauses ≠ 0 then .readOnly else .service) ∧
    s.bringUpEnd.mode.maintCauses = s.mode.maintCauses ∧ s.bringUpEnd.mode.readonlyCauses = s.mode.readonlyCauses ∧
    s.bringUpEnd.mode.mapReady = s.mode.mapReady := by
  have turn : ∀ (b : Base) (c : Nat), (s.transition b c).mode.base = b ∧ (s.transition b c).mode.maintCauses = s.mode.maintCauses ∧
      (s.transition b c).mode.readonlyCauses = s.mode.readonlyCauses ∧ (s.transition b c).mode.mapReady = s.mode.mapReady := fun b c => by
    rw [State.transition_mode]
    exact ⟨rfl, rfl, rfl, rfl⟩
  unfold State.bringUpEnd
  by_cases hm : s.mode.maintCauses ≠ 0
  · rw [if_pos hm, if_pos hm]
    exact turn ..
  · by_cases hr : s.mode.readonlyCauses ≠ 0
    · rw [if_neg hm, if_neg hm, if_pos hr, if_pos hr]
      exact turn ..
    · rw [if_neg hm, if_neg hm, if_neg hr, if_neg hr]
      exact turn ..

/-- The mode in which Bring-Up ends follows the causes that it has found. -/
theorem State.broughtUp_mode (s : State) (f : Recovered) : (s.broughtUp f).mode.mapReady = true ∧
    (s.broughtUp f).mode.maintCauses = (s.bringUpRead f).mode.maintCauses ∧
    (s.broughtUp f).mode.base = (if (s.broughtUp f).mode.maintCauses ≠ 0 then .maintenance
      else if (s.broughtUp f).mode.readonlyCauses ≠ 0 then .readOnly else .service) := by
  have stops : ∀ t : State, t.stopsMaint.mode.base = t.mode.base ∧ t.stopsMaint.mode.maintCauses = t.mode.maintCauses ∧
      t.stopsMaint.mode.readonlyCauses = t.mode.readonlyCauses ∧ t.stopsMaint.mode.mapReady = t.mode.mapReady := fun t => ⟨rfl, rfl, rfl, rfl⟩
  have serves : ∀ t : State, t.mapServes.mode.maintCauses = t.mode.maintCauses ∧ t.mapServes.mode.mapReady = true := fun t => ⟨rfl, rfl⟩
  obtain ⟨sBase, sMaint, sRead, sReady⟩ := stops (s.bringUpRead f).mapServes.readyAll.bringUpEnd
  obtain ⟨eBase, eMaint, eRead, eReady⟩ := (s.bringUpRead f).mapServes.readyAll.bringUpEnd_mode
  have ready := (s.bringUpRead f).mapServes.readyAll_chg.mode rfl
  unfold State.broughtUp
  rw [sBase, sMaint, sRead, sReady, eBase, eMaint, eRead, eReady, ready]
  exact ⟨(serves _).2, (serves _).1, rfl⟩

theorem State.maintSet_causes (s : State) (b : Nat) (on : Bool) : (s.maintSet b on).mode.maintCauses =
    if on then s.mode.maintCauses ||| 2 ^ b else if s.mode.maintCauses.testBit b then s.mode.maintCauses - 2 ^ b else s.mode.maintCauses := rfl

/-- A request for Maintenance, or an event of the Bring-Up, is a cause of Maintenance. -/
theorem State.bringUpCauses_maint {f : Recovered} (h : s.mode.maintReq = true ∨ s.mode.bringupEvent ≠ 0) :
    (s.bringUpCauses f).mode.maintCauses ≠ 0 := by
  have keeps : ∀ (t : State) (b : Bool), 2 ^ 2 ≤ t.mode.maintCauses → 2 ≤ (t.maintSet 1 b).mode.maintCauses := fun t b ht => by
    rw [t.maintSet_causes]
    have := Nat.left_le_or (n := t.mode.maintCauses) (m := 2 ^ 1)
    split
    · omega
    · split <;> omega
  have last : ∀ (t : State) (b : Bool), b = true ∨ 2 ≤ t.mode.maintCauses → (t.maintSet 0 b).mode.maintCauses ≠ 0 := fun t b ht => by
    rw [t.maintSet_causes]
    have hl := Nat.left_le_or (n := t.mode.maintCauses) (m := 2 ^ 0)
    have hr := Nat.right_le_or (n := t.mode.maintCauses) (m := 2 ^ 0)
    split
    · omega
    · rename_i hb
      have := ht.resolve_left hb
      split <;> omega
  have event : ∀ (t : State), t.mode.bringupEvent ≠ 0 → 2 ^ 2 ≤ (t.maintSet 2 (t.mode.bringupEvent != 0)).mode.maintCauses := fun t ht => by
    rw [t.maintSet_causes, if_pos (bne_iff_ne.mpr ht)]
    exact Nat.right_le_or
  unfold State.bringUpCauses
  dsimp only
  refine last _ _ (h.imp (fun hq => ?_) fun he => keeps _ _ (event _ ?_))
  · split <;> exact hq
  · split
    · exact Nat.succ_ne_zero 2
    · exact he

theorem State.bringUpRead_maint {f : Recovered} (h : s.mode.maintReq = true ∨ s.mode.bringupEvent ≠ 0) :
    (s.bringUpRead f).mode.maintCauses ≠ 0 := by
  have mode : ((s.mapIn f).spareStart).mode = s.mode := ((State.spareStart_chg _).mode rfl).trans ((s.mapIn_chg f).mode rfl)
  unfold State.bringUpRead
  rw [(State.mapCacheCheck_chg _).mode rfl]
  exact State.bringUpCauses_maint (by rw [mode]; exact h)

/-! ### The entry of Maintenance (R385, R387) -/

/-- The entry is over, and its writers are answered. -/
def State.maintEntered (s : State) : State :=
  (({ s with mode := { s.mode with maintEntry := false, entryCkpt := false, maintWaiters := [] } } : State).transition .maintenance
    (if s.mode.maintCauses.testBit 1 then 17 else 16)).forEach s.mode.maintWaiters (fun w s => s.answer w.1
      { op := 2, final := true, reqId := w.2, index := 0x8000, sub := 5, ty := 0, offset := 0, length := 0, value := [] } {})

theorem exec_maintenanceEntryDone (h1 : s.mode.maintEntry = true) (h2 : s.mode.entryCkpt = true) (h3 : s.jrn.ckptRunning = false)
    (h4 : s.inService = true) : exec .maintenanceEntryDone s = .next s.maintEntered.sanitizeRun :=
  next_when (by rw [h1, h2, h3, h4]; rfl)

theorem State.maintEntered_mode (s : State) : s.maintEntered.mode.base = .maintenance ∧ s.maintEntered.mode.maintEntry = false ∧
    s.maintEntered.mode.maintWaiters = [] ∧ s.maintEntered.mode.lastCause = (if s.mode.maintCauses.testBit 1 then 17 else 16) := by
  have answered : ∀ (t : State), (t.forEach s.mode.maintWaiters (fun w s => s.answer w.1
      { op := 2, final := true, reqId := w.2, index := 0x8000, sub := 5, ty := 0, offset := 0, length := 0, value := [] } {})).mode = t.mode :=
    fun t => State.forEach_keeps (π := State.mode) (fun w t => (State.answer_chg ..).mode rfl) t _
  unfold State.maintEntered
  rw [answered, State.transition_mode]
  exact ⟨rfl, rfl, rfl, rfl⟩

end Sys2Proof.Machine
end

section
/-! The statement about Flush, Bring-Up and the entry of Maintenance. -/

namespace Sys2Proof
open Machine

/-- Settles O47. The programs that Flush awaits and a shutdown recorded in Flush are the model's choice (log entries 92 and 94). -/
theorem flushAndBringUp : Obligations.FlushAndBringUp := by
  refine ⟨fun s cause x hx => ⟨fun hs => ?_, fun hb => ?_, fun hb => ?_⟩,
    fun s hb hw he => ⟨_, exec_postWindowEnd hb hw he, s.windowShut.windowOver_postWindow, s.windowEnded_stays.1, s.windowEnded_stays.2,
      fun k hk => s.windowEnded_off hk⟩, fun s hb hw hr hp => ?_, fun s f hb hf ht hg => ⟨fun hn => ?_, fun hn hz => ?_⟩,
    fun s h1 h2 h3 h4 => ⟨_, exec_maintenanceEntryDone h1 h2 h3 h4, s.maintEntered_mode⟩⟩
  · obtain ⟨pin, run, -, -⟩ := exec_powerControl (State.inService_on hs).1 hx
    obtain ⟨starts, mode, aborts⟩ := State.controlled_flush hs pin cause
    refine ⟨_, run.trans (congrArg _ starts), ?_⟩
    rw [mode]
    exact ⟨rfl, rfl, rfl, rfl, rfl, aborts⟩
  · obtain ⟨pin, run, -, -⟩ := exec_powerControl (by rw [hb]; decide) hx
    have bring : (s.controlled pin).mode.base = .bringUp := by rw [(s.controlled_kept pin).1]; exact hb
    exact ⟨_, run.trans (congrArg _ (State.powerEvent_bringUp bring cause)), State.enterDormant_mode ..⟩
  · obtain ⟨pin, run, pln, pwrdis⟩ := exec_powerControl (by rw [hb]; decide) hx
    have dormant : (s.controlled pin).mode.base = .dormant := by rw [(s.controlled_kept pin).1]; exact hb
    exact ⟨_, run.trans (congrArg _ (State.powerEvent_dormant dormant cause)), (s.controlled_kept pin).1, pln, pwrdis⟩
  · obtain ⟨mode, aon, flushes, appends⟩ := s.flushWritten_kept
    obtain ⟨cFlushes, cUs, cDict, cBase, cWait, cAt, cAux, cHold, cHeld⟩ := s.flushWritten.flushCounted_kept s
    have same : s.flushWritten.flushHeld = s.flushHeld := by unfold State.flushHeld; rw [aon]
    rw [flushes] at cFlushes
    rw [mode, same] at cHeld
    rw [mode] at cBase cHold
    rw [aon] at cAux cHold
    have run := (exec_flushEnd hb hw hr hp).trans (congrArg _ s.flushDone_eq)
    refine ⟨fun hh hs => ?_, fun hh => ?_, fun hs ha => ?_⟩
    · rw [cHeld, hh, hs, Bool.false_or, if_neg Bool.false_ne_true] at run
      exact ⟨_, run, cBase.trans hb, cWait, cAt, cFlushes, cUs, (congrArg Dict.appends cDict).trans appends⟩
    · rw [cHeld, hh, Bool.true_or, if_pos rfl] at run
      obtain ⟨base, recov, tags, islands⟩ := (s.flushWritten.flushCounted s).flushLeave_left
      refine ⟨_, run, ?_, ?_, tags, islands⟩
      · rw [base, cAux]
      · rw [recov, cFlushes]
    · rw [cHeld, hs, Bool.or_true, if_pos rfl, State.flushLeave_powered (cAux.trans ha)] at run
      refine ⟨_, run, (State.enterDormant_mode ..).1, ?_⟩
      rw [State.enterDormant_aon]
      exact cHold.trans (by rw [hs, Bool.or_true])
  · refine ⟨_, (exec_bringUpComplete hb hf ht hg).trans (by rw [if_pos hn]), ?_⟩
    rw [State.serviceEnd_mode]
    exact ⟨if_pos hf, hb⟩
  · obtain ⟨ready, causes, base⟩ := s.broughtUp_mode f
    have closed : (s.bringUpRead f).bringUpClose = s.broughtUp f :=
      State.bringUpClose_eq (s.bringUpRead f) ((s.broughtUp_sanitizeRecord f).trans hz)
    refine ⟨_, (exec_bringUpComplete hb hf ht hg).trans (by rw [if_neg (not_not.mpr hn), closed]), ready, base, fun h => ?_⟩
    rw [base, if_pos (by rw [causes]; exact State.bringUpRead_maint h)]

end Sys2Proof
end

section
/-! SUPPORT. The failures of units (R442, R447, R448): the end of service, a Fabric link, a soft decoder and a port, with one equation for
each command. -/

namespace Sys2Proof.Machine

variable {s : State} {p : Nat}

/-! ### The end of service (R447) -/

/-- A controller of a function reports that service has ended. -/
def State.fnFatal (s : State) (x : Nat × Func) : State :=
  if (s.func (x.1 / 256) (x.1 % 256)).here then
    s.setFunc (x.1 / 256) (x.1 % 256) { s.func (x.1 / 256) (x.1 % 256) with cfs := true, rdy := false } else s

theorem State.fnFatal_func_ne (s : State) {x : Nat × Func} {a b : Nat} (h : fkey (x.1 / 256) (x.1 % 256) ≠ fkey a b) :
    (s.fnFatal x).func a b = s.func a b := by
  unfold State.fnFatal
  split
  · exact s.setFunc_func_ne _ h
  · rfl

theorem State.fnFatal_func (x : Nat × Func) (h : (s.func (x.1 / 256) (x.1 % 256)).here = true) :
    (s.fnFatal x).func (x.1 / 256) (x.1 % 256) = { s.func (x.1 / 256) (x.1 % 256) with cfs := true, rdy := false } := by
  unfold State.fnFatal
  rw [if_pos h, State.setFunc_func]

theorem State.serviceEnd_funcs (s : State) (cause : Nat) : (s.serviceEnd cause).funcs = (s.forEach s.funcs (fun x t => t.fnFatal x)).funcs := rfl

/-- Every function that is there reports it. -/
theorem State.serviceEnd_func {p f : Nat} (cause : Nat) (hm : (p, f) ∈ s.funcs.map (fun y => (y.1 / 256, y.1 % 256)))
    (hh : (s.func p f).here = true) : ((s.serviceEnd cause).func p f).cfs = true ∧ ((s.serviceEnd cause).func p f).rdy = false := by
  obtain ⟨x, hx, e⟩ := List.mem_map.mp hm
  obtain ⟨rfl, rfl⟩ := Prod.mk.inj e
  have same : (s.serviceEnd cause).func (x.1 / 256) (x.1 % 256) = (s.forEach s.funcs (fun x t => t.fnFatal x)).func (x.1 / 256) (x.1 % 256) := by
    unfold State.func
    rw [s.serviceEnd_funcs]
  have at_key : ∀ (y : Nat × Func) (t : State), fkey (y.1 / 256) (y.1 % 256) = fkey (x.1 / 256) (x.1 % 256) →
      y.1 / 256 = x.1 / 256 ∧ y.1 % 256 = x.1 % 256 := fun y _ h => by unfold fkey at h; omega
  have reports : ∀ (y : Nat × Func) (t : State), y.1 / 256 = x.1 / 256 ∧ y.1 % 256 = x.1 % 256 → (t.func (x.1 / 256) (x.1 % 256)).here = true →
      ((t.fnFatal y).func (x.1 / 256) (x.1 % 256)).here = true ∧ ((t.fnFatal y).func (x.1 / 256) (x.1 % 256)).cfs = true ∧
      ((t.fnFatal y).func (x.1 / 256) (x.1 % 256)).rdy = false := fun y t ⟨hd, hr⟩ ht => by
    rw [← hd, ← hr] at ht ⊢
    rw [State.fnFatal_func y ht]
    exact ⟨ht, rfl, rfl⟩
  have all := State.forEach_makes (I := fun t => (t.func (x.1 / 256) (x.1 % 256)).here = true)
    (P := fun t => (t.func (x.1 / 256) (x.1 % 256)).here = true ∧ (t.func (x.1 / 256) (x.1 % 256)).cfs = true ∧
      (t.func (x.1 / 256) (x.1 % 256)).rdy = false) (f := fun x t => t.fnFatal x) hx hh
    (fun y t ht => by
      by_cases e : fkey (y.1 / 256) (y.1 % 256) = fkey (x.1 / 256) (x.1 % 256)
      · exact (reports y t (at_key y t e) ht).1
      · rw [t.fnFatal_func_ne e]; exact ht)
    (fun y t ht => by
      by_cases e : fkey (y.1 / 256) (y.1 % 256) = fkey (x.1 / 256) (x.1 % 256)
      · exact reports y t (at_key y t e) ht.1
      · rw [t.fnFatal_func_ne e]; exact ht)
    (fun t ht => reports x t ⟨rfl, rfl⟩ ht)
  rw [same]
  exact all.2

/-- A record, and the end of service. -/
theorem State.recordedEnd {u : State} {l : List Nat} (unit inst kind sev code cause : Nat) (hu : u = s.rasRecord unit inst kind sev code l)
    (hf : s.mode.fatal = 0) : (u.serviceEnd cause).mode.fatal = cause ∧ (u.serviceEnd cause).mode.drainWanted = true ∧
      (u.serviceEnd cause).ras.lastSeq = s.ras.lastSeq + 1 ∧
      ∀ p f, (p, f) ∈ s.funcs.map (fun y => (y.1 / 256, y.1 % 256)) → (s.func p f).here = true →
        ((u.serviceEnd cause).func p f).cfs = true ∧ ((u.serviceEnd cause).func p f).rdy = false := by
  subst hu
  rw [State.serviceEnd_mode, (State.serviceEnd_chg ..).ras rfl]
  exact ⟨if_pos hf, rfl, rfl, fun p f hm hh => State.serviceEnd_func (s := s.rasRecord unit inst kind sev code l) cause hm hh⟩

theorem exec_aonHeartbeatLoss (ha : s.awake = true) : exec .aonHeartbeatLoss s = .next ((s.rasRecord 0x0E 0 0x20 3 1 []).serviceEnd 1) :=
  next_when ha
theorem exec_fabricCoreFailure (ha : s.awake = true) : exec .fabricCoreFailure s = .next ((s.rasRecord 0x0B 0 8 3 0 []).serviceEnd 2) :=
  next_when ha

/-! ### A Fabric link, a soft decoder (R442) -/

/-- A link that has failed. -/
def State.linkFailed (s : State) (l : Nat) : State :=
  ({ s with cmp := { s.cmp with failedLinks := s.cmp.failedLinks ++ [l] } } : State).rasReport 0x0B l 8 2 0 []

theorem State.linkFailed_kept (s : State) (l : Nat) : (s.linkFailed l).cmp.failedLinks = s.cmp.failedLinks ++ [l] ∧
    (s.linkFailed l).mode = s.mode ∧ (s.linkFailed l).ras.lastSeq = s.ras.lastSeq + 1 := by
  unfold State.linkFailed
  refine ⟨?_, State.rasReport_mode .., ?_⟩
  · rw [State.rasReport_cmp]
  · unfold State.rasReport State.rasRecord
    dsimp only
    rw [(State.rasBit_chg ..).ras rfl]

theorem exec_fabricLinkCrcFailure {l : Nat} (ha : s.awake = true) (hl : l ∉ s.cmp.failedLinks) : exec (.fabricLinkCrcFailure l) s =
    .next (if (l + 24) % 48 ∈ s.cmp.failedLinks then (s.linkFailed l).fabricLost l else s.linkFailed l) := by
  refine (next_when (by rw [ha, List.contains_eq_mem, decide_eq_false hl]; rfl)).trans (congrArg _ ?_)
  by_cases h : (l + 24) % 48 ∈ s.cmp.failedLinks
  · rw [if_pos h]
    exact if_pos (by rw [otherLink, List.contains_eq_mem, decide_eq_true h])
  · rw [if_neg h]
    exact if_neg (by rw [otherLink, List.contains_eq_mem, decide_eq_false h]; exact Bool.false_ne_true)

/-- A soft decoder that has failed. -/
def State.decoderFailed (s : State) (d : Nat) : State :=
  ({ s with cmp := { s.cmp with softFailed := s.cmp.softFailed ++ [d] } } : State).laneFailed 5 d 2

theorem exec_softDecoderSelfTest {d : Nat} (ha : s.awake = true) (hd : s.softIdle d = true) (pass : Bool) :
    exec (.softDecoderSelfTest d pass) s = .next (if pass then s else s.decoderFailed d) := next_when (by rw [ha, hd]; rfl)

theorem State.decoderFailed_kept (s : State) (d : Nat) : (s.decoderFailed d).cmp.softFailed = s.cmp.softFailed ++ [d] ∧
    (s.decoderFailed d).mode.sustain.testBit 1 = true ∧ (s.decoderFailed d).cmp.softQueue = s.cmp.softQueue := by
  unfold State.decoderFailed State.laneFailed
  rw [State.rasReport_cmp, State.rasReport_mode]
  exact ⟨rfl, State.sustainSet_testBit .., rfl⟩

/-! ### A port (R448) -/

/-- The state of a port after an error of it. -/
def Port.erred (x : Port) (s : State) (loopback : Bool) : Port :=
  if loopback then { x with loopbackFails := x.loopbackFails + 1 } else { x with parityErrors := s.recent x.parityErrors hour ++ [s.aon.now] }

/-- The error is one that fails the port. -/
def State.portFails (s : State) (p : Nat) (loopback : Bool) : Prop :=
  if loopback then 2 ≤ (s.port p).loopbackFails else s.recent (s.port p).parityErrors hour ≠ []

theorem exec_portFailure_loopback (ha : s.awake = true) (hx : s.portExists p = true) (hf : (s.port p).failed = false) :
    exec (.portFailure p true) s = .next (if 3 ≤ (s.port p).loopbackFails + 1 then (s.setPort p ((s.port p).erred s true)).portFail p
      else s.setPort p ((s.port p).erred s true)) := next_when (by rw [ha, hx, hf]; rfl)

theorem exec_portFailure_parity (ha : s.awake = true) (hx : s.portExists p = true) (hf : (s.port p).failed = false) :
    exec (.portFailure p false) s = .next (if 2 ≤ (s.recent (s.port p).parityErrors hour ++ [s.aon.now]).length then
      (s.setPort p ((s.port p).erred s false)).portFail p else s.setPort p ((s.port p).erred s false)) := next_when (by rw [ha, hx, hf]; rfl)

theorem exec_portFailure_stays {loopback : Bool} (ha : s.awake = true) (hx : s.portExists p = true) (hf : (s.port p).failed = false)
    (hn : ¬s.portFails p loopback) : exec (.portFailure p loopback) s = .next (s.setPort p ((s.port p).erred s loopback)) := by
  cases loopback with
  | true =>
    have few : ¬2 ≤ (s.port p).loopbackFails := hn
    rw [exec_portFailure_loopback ha hx hf, if_neg (by omega)]
  | false =>
    have first : s.recent (s.port p).parityErrors hour = [] := not_not.mp hn
    rw [exec_portFailure_parity ha hx hf, first, List.nil_append, List.length_singleton, if_neg (by decide)]

theorem exec_portFailure_fails {loopback : Bool} (ha : s.awake = true) (hx : s.portExists p = true) (hf : (s.port p).failed = false)
    (hn : s.portFails p loopback) : exec (.portFailure p loopback) s = .next ((s.setPort p ((s.port p).erred s loopback)).portFail p) := by
  cases loopback with
  | true =>
    have two : 2 ≤ (s.port p).loopbackFails := hn
    rw [exec_portFailure_loopback ha hx hf, if_pos (by omega)]
  | false =>
    have some : 0 < (s.recent (s.port p).parityErrors hour).length := List.length_pos_iff.mpr hn
    rw [exec_portFailure_parity ha hx hf, if_pos (by rw [List.length_append, List.length_singleton]; omega)]

theorem State.linkLost_failed (s : State) (p : Nat) : ((s.linkLost p).port p).failed = (s.port p).failed := by
  unfold State.linkLost
  rw [State.setPort_port]
  exact (congrArg Port.failed (s.portReset_core p 4 true) :)

/-- In single-port mode the failure of the port ends service. -/
theorem State.portFail_single (hd : s.dual = false) (hf : s.mode.fatal = 0) : ((s.portFail p).port p).failed = true ∧ (s.portFail p).mode.fatal = 7 := by
  unfold State.portFail
  rw [if_neg (by rw [hd]; exact Bool.false_ne_true)]
  generalize hu : (s.setPort p { s.port p with failed := true }).rasRecord 0x0A p 5 3 7 [p] = u
  have port : (u.serviceEnd 7).port p = u.port p := by
    unfold State.port
    rw [(State.serviceEnd_chg u 7).ports rfl]
  have down : u.port p = { s.port p with failed := true } := by rw [← hu]; exact State.setPort_port ..
  have mode : u.mode = s.mode := by rw [← hu]; rfl
  rw [port, down, State.serviceEnd_mode, mode]
  exact ⟨rfl, if_pos hf⟩

/-- In dual-port mode the failed port loses its link. -/
theorem State.portFail_dual (hd : s.dual = true) : ((s.portFail p).port p).failed = true ∧ ((s.portFail p).port p).linkUp = false ∧
    (s.portFail p).mode = s.mode ∧ ((s.portFail p).port p).dlDowns = satAdd 32 (s.port p).dlDowns 1 := by
  unfold State.portFail
  rw [if_pos hd]
  generalize hu : (s.setPort p { s.port p with failed := true }).rasRecord 0x0A p 5 2 0 [p] = u
  have down : u.port p = { s.port p with failed := true } := by rw [← hu]; exact State.setPort_port ..
  have mode : u.mode = s.mode := by rw [← hu]; rfl
  rw [u.linkLost_failed, (u.linkLost_down p).linkUp, (u.linkLost_chg p).mode rfl, u.linkLost_dlDowns, down, mode]
  exact ⟨rfl, rfl, rfl, rfl⟩

end Sys2Proof.Machine
end

section
/-! The statement about the failures of units. -/

namespace Sys2Proof
open Machine

/-- Settles O50. The pairs of fabric links and the test of an idle decoder are the model's choice (log entries 23 and 25). -/
theorem unitFailures : Obligations.UnitFailures := by
  refine ⟨fun s cause x ha hf hx => ?_, fun s l ha hl => ⟨fun ho => ?_, fun ho hf => ?_⟩, fun s d ha hd => ⟨exec_softDecoderSelfTest ha hd true,
    _, exec_softDecoderSelfTest ha hd false, s.decoderFailed_kept d⟩, fun s p ha hx hf => ⟨fun hn => ?_, fun hn => ?_, fun x h => ?_⟩⟩
  · rcases hx with ⟨rfl, rfl⟩ | ⟨rfl, rfl⟩
    · exact ⟨_, exec_aonHeartbeatLoss ha, State.recordedEnd _ _ _ _ _ 1 rfl hf⟩
    · exact ⟨_, exec_fabricCoreFailure ha, State.recordedEnd _ _ _ _ _ 2 rfl hf⟩
  · exact ⟨_, (exec_fabricLinkCrcFailure ha hl).trans (by rw [if_neg ho]), s.linkFailed_kept l⟩
  · obtain ⟨links, mode, -⟩ := s.linkFailed_kept l
    refine ⟨(s.linkFailed l).fabricLost l, (exec_fabricLinkCrcFailure ha hl).trans (by rw [if_pos ho]), ?_, (State.recordedEnd _ _ _ _ _ 2 rfl (by rw [mode]; exact hf)).1⟩
    exact (congrArg Cmp.failedLinks ((State.fabricLost_chg ..).cmp rfl)).trans links
  · refine ⟨_, exec_portFailure_stays (loopback := true) ha hx hf (Nat.not_le.mpr hn), ?_⟩
    rw [State.setPort_port]
    exact ⟨rfl, hf, rfl⟩
  · refine ⟨_, exec_portFailure_stays (loopback := false) ha hx hf (not_not.mpr hn), ?_⟩
    rw [State.setPort_port]
    refine ⟨?_, hf, rfl⟩
    show s.recent (s.port p).parityErrors hour ++ [s.aon.now] = _
    rw [hn, List.nil_append]
  · obtain ⟨loopback, rfl, fails⟩ : ∃ loopback, x = .portFailure p loopback ∧ s.portFails p loopback := by
      rcases h with ⟨rfl, h⟩ | ⟨rfl, h⟩
      · exact ⟨true, rfl, h⟩
      · exact ⟨false, rfl, h⟩
    have run := exec_portFailure_fails ha hx hf fails
    have counted : ((s.setPort p ((s.port p).erred s loopback)).port p).dlDowns = (s.port p).dlDowns := by
      rw [State.setPort_port]
      cases loopback <;> rfl
    refine ⟨fun hd h0 => ⟨_, run, State.portFail_single hd h0⟩, fun hd => ⟨_, run, ?_⟩⟩
    rw [← counted]
    exact State.portFail_dual (s := s.setPort p ((s.port p).erred s loopback)) hd

end Sys2Proof
end

section
/-! SUPPORT. The two-wire bus, MCTP and SPDM (R406 to R411, R425, R426, R428): one equation for each command and case. -/

namespace Sys2Proof.Machine

variable {s : State}

/-! ### The messages of MCTP (R408) -/

theorem State.mctpDrop_mgmt (s : State) : s.mctpDrop.mgmt.mctpDrops = satAdd 32 s.mgmt.mctpDrops 1 ∧ s.mctpDrop.mgmt.reasm = s.mgmt.reasm :=
  ⟨rfl, rfl⟩

/-- The messages in progress on the path of a packet. -/
def State.reasmOn (s : State) (p : McPacket) : List Reasm := s.mgmt.reasm.filter (fun r => decide (r.path = p.path))

/-- What drops a packet. -/
def State.packetBad (s : State) (p : McPacket) : Prop :=
  s.packetLimit p.path < p.bytes.length ∨
  (Tbl.get 0 s.mgmt.eids (MPath.code p.path) = 0 ∧ (p.msgType ≠ 0 ∨ p.nullEid = false)) ∨
  (p.som = true ∧ mctpTypes.contains p.msgType = false) ∨
  (p.som = true ∧ (s.reasmOn p).find? (sameMessage p) = none ∧ 4 ≤ (s.reasmOn p).length) ∨
  (p.som = false ∧ (s.reasmOn p).find? (sameMessage p) = none)

/-- A packet that is taken on a path with an endpoint. -/
def State.packetTaken (s : State) (p : McPacket) : State :=
  if p.som then
    if !mctpTypes.contains p.msgType then s.mctpDrop
    else if ((s.reasmOn p).find? (sameMessage p)).isNone && decide (4 ≤ (s.reasmOn p).length) then s.mctpDrop
    else s.mctpGrow p ⟨p.path, p.source, p.msgTag, p.msgType, p.bytes⟩
  else match (s.reasmOn p).find? (sameMessage p) with
    | some r => s.mctpGrow p { r with data := r.data ++ p.bytes }
    | none => s.mctpDrop

theorem exec_mctpPacket {p : McPacket} (hu : s.mctpUp p.path = true) : exec (.mctpPacket p) s =
    .next (if decide (s.packetLimit p.path < p.bytes.length) then s.mctpDrop
      else if (Tbl.get 0 s.mgmt.eids (MPath.code p.path) == 0) && !(p.msgType == 0 && p.nullEid) then s.mctpDrop else s.packetTaken p) := next_when hu

theorem State.packetTaken_bad {p : McPacket} (h : (p.som = true ∧ mctpTypes.contains p.msgType = false) ∨
    (p.som = true ∧ (s.reasmOn p).find? (sameMessage p) = none ∧ 4 ≤ (s.reasmOn p).length) ∨
    (p.som = false ∧ (s.reasmOn p).find? (sameMessage p) = none)) : s.packetTaken p = s.mctpDrop := by
  unfold State.packetTaken
  rcases h with ⟨hs, ht⟩ | ⟨hs, hn, h4⟩ | ⟨hs, hn⟩
  · rw [if_pos hs, if_pos (by rw [ht]; rfl)]
  · rw [if_pos hs, hn, decide_eq_true h4]
    exact ite_self _
  · rw [if_neg (by rw [hs]; exact Bool.false_ne_true), hn]

theorem exec_mctpPacket_bad {p : McPacket} (hu : s.mctpUp p.path = true) (h : s.packetBad p) : exec (.mctpPacket p) s = .next s.mctpDrop := by
  rw [exec_mctpPacket hu]
  refine congrArg _ ?_
  rcases h with h | ⟨he, hm⟩ | h
  · exact if_pos (decide_eq_true h)
  · have null : ((Tbl.get 0 s.mgmt.eids (MPath.code p.path) == 0) && !(p.msgType == 0 && p.nullEid)) = true := by
      rw [he]
      rcases hm with hm | hm
      · rw [beq_eq_false_iff_ne.mpr hm]; rfl
      · rw [hm, Bool.and_false]; rfl
    rw [if_pos null]
    exact ite_self _
  · rw [State.packetTaken_bad h, ite_self, ite_self]

theorem exec_mctpPacket_taken {p : McPacket} (hu : s.mctpUp p.path = true) (hl : p.bytes.length ≤ s.packetLimit p.path)
    (he : Tbl.get 0 s.mgmt.eids (MPath.code p.path) ≠ 0) : exec (.mctpPacket p) s = .next (s.packetTaken p) := by
  rw [exec_mctpPacket hu, if_neg (by rw [decide_eq_false (Nat.not_lt.mpr hl)]; exact Bool.false_ne_true),
    if_neg (by rw [beq_eq_false_iff_ne.mpr he]; exact Bool.false_ne_true)]

theorem State.packetTaken_first {p : McPacket} (hs : p.som = true) (ht : mctpTypes.contains p.msgType = true) (h4 : (s.reasmOn p).length < 4) :
    s.packetTaken p = s.mctpGrow p ⟨p.path, p.source, p.msgTag, p.msgType, p.bytes⟩ := by
  unfold State.packetTaken
  rw [if_pos hs, if_neg (by rw [ht]; exact Bool.false_ne_true),
    if_neg (by rw [decide_eq_false (Nat.not_le.mpr h4), Bool.and_false]; exact Bool.false_ne_true)]

theorem State.packetTaken_later {p : McPacket} {r : Reasm} (hs : p.som = false) (hr : (s.reasmOn p).find? (sameMessage p) = some r) :
    s.packetTaken p = s.mctpGrow p { r with data := r.data ++ p.bytes } := by
  unfold State.packetTaken
  rw [if_neg (by rw [hs]; exact Bool.false_ne_true), hr]

/-- A message that goes on, and one that has ended. -/
theorem State.mctpGrow_eq (p : McPacket) {r : Reasm} (h : r.data.length ≤ 4224) :
    (p.eom = false → (s.mctpGrow p r).mgmt.mctpDrops = s.mgmt.mctpDrops ∧
      (s.mctpGrow p r).mgmt.reasm = s.mgmt.reasm.filter (fun x => !sameMessage p x) ++ [r]) ∧
    (p.eom = true → Out.mgmt p.path "message received" r.msgType ∈ (s.mctpGrow p r).out ∧
      (s.mctpGrow p r).mgmt.reasm = s.mgmt.reasm.filter (fun x => !sameMessage p x)) := by
  unfold State.mctpGrow
  dsimp only
  rw [if_neg (Nat.not_lt.mpr h)]
  refine ⟨fun he => ?_, fun he => ?_⟩
  · rw [if_neg (by rw [he]; exact Bool.false_ne_true)]
    exact ⟨rfl, rfl⟩
  · rw [if_pos he]
    exact ⟨List.mem_append_right _ (List.mem_singleton.mpr rfl), rfl⟩

/-! ### Answers on a path -/

theorem State.mem_emit (s : State) (o : Out) : o ∈ (s.emit o).out := List.mem_append_right _ (List.mem_singleton.mpr rfl)

theorem exec_setEndpointId {m : MPath} (hu : s.mctpUp m = true) (e : Nat) : exec (.setEndpointId m e) s = .next (if 8 ≤ e ∧ e ≤ 254 then
      ({ s with mgmt := { s.mgmt with eids := Tbl.set 0 s.mgmt.eids (MPath.code m) e } } : State).emit (.mgmt m "Set Endpoint ID" e)
    else s.emit (.mgmt m "Set Endpoint ID: invalid data" e)) := next_when hu

end Sys2Proof.Machine
end

section
/-! The statement about the two-wire bus and MCTP. -/

namespace Sys2Proof
open Machine

/-- Settles O51. The range of endpoint identifiers and the limit of packets are the model's choice (log entry 86). -/
theorem mctp : Obligations.Mctp := by
  refine ⟨fun s a hu => ⟨⟨_, next_when hu, rfl, rfl, rfl⟩, fun hi => ⟨_, next_when (by rw [hu, hi]; rfl), rfl, rfl⟩⟩,
    fun s p mine hu hmine => ?_, fun s m e hu => ⟨fun h8 h254 => ?_, fun h => ?_, _, next_when hu, rfl, State.mem_emit ..⟩⟩
  · change mine = s.reasmOn p at hmine
    subst hmine
    refine ⟨fun h => ⟨_, exec_mctpPacket_bad hu h, s.mctpDrop_mgmt⟩, fun hl hmax he hs ht h4 => ?_, fun r hl he hs hr hmax => ?_⟩
    · have run := (exec_mctpPacket_taken hu hl he).trans (congrArg _ (State.packetTaken_first hs ht h4))
      obtain ⟨goesOn, ends⟩ := State.mctpGrow_eq (s := s) p (r := ⟨p.path, p.source, p.msgTag, p.msgType, p.bytes⟩) hmax
      exact ⟨fun hm => ⟨_, run, goesOn hm⟩, fun hm => ⟨_, run, ends hm⟩⟩
    · have run := (exec_mctpPacket_taken hu hl he).trans (congrArg _ (State.packetTaken_later hs hr))
      obtain ⟨goesOn, ends⟩ := State.mctpGrow_eq (s := s) p (r := { r with data := r.data ++ p.bytes }) hmax
      exact ⟨fun hm => ⟨_, run, (goesOn hm).2⟩, fun hm => ⟨_, run, ends hm⟩⟩
  · refine ⟨_, (exec_setEndpointId hu e).trans (by rw [if_pos ⟨h8, h254⟩]), Tbl.get_set_same .., fun k hk => Tbl.get_set_ne _ _ _ hk.symm⟩
  · exact ⟨s.emit (.mgmt m "Set Endpoint ID: invalid data" e), (exec_setEndpointId hu e).trans (by rw [if_neg (by omega)]), rfl, State.mem_emit ..⟩

end Sys2Proof
end

section
/-! SUPPORT. SPDM (R410, R411, R425, R426, R428): what a message on a path leaves of the measured records, and one equation for each command
and case. -/

namespace Sys2Proof.Machine

variable {s : State} {m : MPath} {k : Nat}

/-! ### A measurement does not see the messages that are out (R426) -/

/-- The records that a measurement digests. -/
def measuredRecord (i : Nat) : Prop := i = 0x9000 ∨ i = 0x9100 ∨ i = 0x8802 ∨ i = 0x6400

theorem State.statusVal_emit (s : State) (o : Out) {i : Nat} (hi : measuredRecord i) (sub : Nat) : (s.emit o).statusVal i sub = s.statusVal i sub := by
  have life : ∀ t : State, t.statusVal 0x9000 sub = t.statusLife sub := fun t => rfl
  have fw : ∀ t : State, t.statusVal 0x9100 sub = t.statusFw sub := fun t => rfl
  have policy : ∀ t : State, t.statusVal 0x8802 sub = none := fun t => rfl
  have profile : ∀ t : State, t.statusVal 0x6400 sub = none := fun t => rfl
  rcases hi with rfl | rfl | rfl | rfl
  · rw [life, life]; rfl
  · rw [fw, fw]; rfl
  · rw [policy, policy]
  · rw [profile, profile]

theorem State.readVal_emit (s : State) (o : Out) {i : Nat} (hi : measuredRecord i) (sess : Nat) (e : DEnt) :
    (s.emit o).readVal sess i e = s.readVal sess i e := by
  have hc : ¬(i = 0x1F00 ∧ e.sub ≠ 6) := by unfold measuredRecord at hi; omega
  have hr : ¬(0x7000 ≤ i ∧ i ≤ 0x701F ∧ e.sub = 0x12) := by unfold measuredRecord at hi; omega
  unfold State.readVal
  rw [if_neg hc, if_neg hc, if_neg hr, if_neg hr, s.statusVal_emit o hi]
  rfl

theorem State.wholeRecord_emit (s : State) (o : Out) {i : Nat} (hi : measuredRecord i) : (s.emit o).wholeRecord i = s.wholeRecord i := by
  unfold State.wholeRecord State.packRecord
  simp only [s.readVal_emit o hi]

theorem State.measurement_emit (s : State) (o : Out) (k : Nat) : (s.emit o).measurement k = s.measurement k := by
  unfold State.measurement
  rw [s.wholeRecord_emit o (.inl rfl), s.wholeRecord_emit o (.inr (.inl rfl)), s.wholeRecord_emit o (.inr (.inr (.inl rfl))),
    s.wholeRecord_emit o (.inr (.inr (.inr rfl)))]
  rfl

/-- Every block of the measurements. -/
def State.measuredAll (s : State) (m : MPath) : State :=
  s.forEach [1, 2, 3, 4, 5, 6, 7] (fun k s => s.spdm m "MEASUREMENTS" (s.measurement k))

theorem State.measuredAll_sends (s : State) (m : MPath) {j : Nat} (h0 : 0 < j) (h8 : j < 8) :
    Out.mgmt m "MEASUREMENTS" (s.measurement j) ∈ (s.measuredAll m).out := by
  have mem : j ∈ [1, 2, 3, 4, 5, 6, 7] := by
    simp only [List.mem_cons, List.not_mem_nil, or_false]
    omega
  exact State.forEach_makes (I := fun t => ∀ i, t.measurement i = s.measurement i) (P := fun t => Out.mgmt m "MEASUREMENTS" (s.measurement j) ∈ t.out)
    mem (fun _ => rfl) (fun k t ht i => (t.measurement_emit _ i).trans (ht i)) (fun k t ht => List.mem_append_left _ ht)
    (fun t ht => by rw [← ht j]; exact State.mem_emit ..)

theorem State.measuredAll_mgmt (s : State) (m : MPath) : (s.measuredAll m).mgmt = s.mgmt :=
  State.forEach_keeps (π := State.mgmt) (fun _ _ => rfl) s [1, 2, 3, 4, 5, 6, 7]

theorem exec_getMeasurements (hu : s.pathUp m = true) (k : Nat) : exec (.getMeasurements m k) s = .next (if k = 0 then s.spdm m "MEASUREMENTS" 7
    else if k ≤ 7 then s.spdm m "MEASUREMENTS" (s.measurement k) else if k = 0xFF then s.measuredAll m else s.spdm m "ERROR" 1) := next_when hu

theorem exec_getCertificate (hu : s.pathUp m = true) (k : Nat) : exec (.getCertificate m k) s =
    .next (if k = 0 then s.spdm m "CERTIFICATE" (fromLe s.chainBytes) else s.spdm m "ERROR" 1) := next_when hu

theorem State.spdm_sends (s : State) (m : MPath) (what : String) (v : Nat) : Out.mgmt m what v ∈ (s.spdm m what v).out ∧
    (s.spdm m what v).mgmt = s.mgmt := ⟨State.mem_emit .., rfl⟩

/-! ### Sessions (R411, R428) -/

/-- A session that a key exchange begins. -/
def State.sessionBegun (s : State) (m : MPath) (peer : Nat) : State :=
  { s with mgmt := { s.mgmt with sessions := s.mgmt.sessions ++ [(⟨s.mgmt.nextSession, m, peer, 0, false, s.aon.now, 0⟩ : Session)]
                                 nextSession := s.mgmt.nextSession + 1 } }

theorem exec_keyExchange (hu : s.pathUp m = true) (peer : Nat) : exec (.keyExchange m peer) s = .next
    (if s.lifecycle = 5 ∨ Tbl.get false s.mgmt.negotiated (MPath.code m) = false then s.spdm m "ERROR" 4
      else if 8 ≤ s.mgmt.sessions.length ∨ 4 ≤ (s.mgmt.sessions.filter (fun x => decide (x.path = m))).length then s.spdm m "ERROR" 0x0A
      else (s.sessionBegun m peer).spdm m "KEY_EXCHANGE_RSP" s.mgmt.nextSession) := next_when hu

/-- A requester whose chain the device does not know. -/
def State.sessionRefused (s : State) (k : Nat) : State :=
  ({ s with mgmt := { s.mgmt with sessions := s.mgmt.sessions.filter (fun x => x.id != k)
                                  authFails := satAdd 32 s.mgmt.authFails 1 } } : State).mgtBit 2

theorem exec_finish_stranger (hu : s.pathUp m = true) (hs : s.sessionOn m k false = true) :
    exec (.finish m k .stranger) s = .next ((s.sessionRefused k).spdm m "ERROR" 6) := next_when (by rw [hu, hs]; rfl)

/-- A session that its requester has finished. -/
def State.sessionOpened (s : State) (k : Nat) (c : Chain) : State :=
  (s.sessionSet k (fun x => { x with opened := true, role := if c = Chain.maker then 3 else 2 })).mgtBit 0

theorem exec_finish_known {c : Chain} (hu : s.pathUp m = true) (hs : s.sessionOn m k false = true) (hc : c ≠ .stranger) :
    exec (.finish m k c) s = .next ((s.sessionOpened k c).spdm m "FINISH_RSP" k) := by
  refine (next_when (by rw [hu, hs]; rfl)).trans (congrArg _ ?_)
  cases c with
  | stranger => exact absurd rfl hc
  | _ => rfl

theorem exec_heartbeat (hu : s.pathUp m = true) (hs : s.sessionOn m k true = true) :
    exec (.heartbeat m k) s = .next ((s.sessionSet k (fun x => x)).spdm m "HEARTBEAT_ACK" k) := next_when (by rw [hu, hs]; rfl)

theorem exec_keyUpdate (hu : s.pathUp m = true) (hs : s.sessionOn m k true = true) :
    exec (.keyUpdate m k) s = .next ((s.sessionSet k (fun x => { x with keyNo := x.keyNo + 1 })).spdm m "KEY_UPDATE_ACK" k) :=
  next_when (by rw [hu, hs]; rfl)

theorem exec_endSession (hu : s.pathUp m = true) (hs : s.sessionOn m k true = true) :
    exec (.endSession m k) s = .next ((s.sessionsEnd (fun x => x.id == k)).spdm m "END_SESSION_ACK" k) := next_when (by rw [hu, hs]; rfl)

theorem exec_sessionIdleTimeout (h : s.mgmt.sessions.any (fun x => x.id == k && s.elapsed x.lastMsg 180000000000) = true) :
    exec (.sessionIdleTimeout k) s = .next (s.sessionsEnd (fun x => x.id == k)) := next_when h

theorem State.sessionsEnd_sessions (s : State) (p : Session → Bool) : (s.sessionsEnd p).mgmt.sessions = s.mgmt.sessions.filter (fun x => !p x) := by
  unfold State.sessionsEnd
  dsimp only
  split <;> rfl

end Sys2Proof.Machine
end

section
/-! The statement about SPDM messages and sessions. -/

namespace Sys2Proof
open Machine

/-- Settles O53. A KEY_EXCHANGE refused before NEGOTIATE_ALGORITHMS is the model's choice (log entry 83). -/
theorem spdmMessages : Obligations.SpdmMessages := by
  refine ⟨fun s m k hu => ⟨⟨_, next_when hu, State.spdm_sends ..⟩, ⟨_, _, next_when hu, State.spdm_sends ..⟩,
      ⟨_, _, next_when hu, (State.spdm_sends ..).1, Tbl.get_set_same false s.mgmt.negotiated (MPath.code m) true, rfl⟩, ⟨_, next_when hu, State.spdm_sends ..⟩,
      ⟨_, (exec_getCertificate hu 0).trans (by rw [if_pos rfl]), State.spdm_sends ..⟩,
      fun hk => ⟨_, (exec_getCertificate hu k).trans (by rw [if_neg hk]), State.spdm_sends ..⟩, ⟨_, next_when hu, State.spdm_sends ..⟩,
      ⟨_, (exec_getMeasurements hu 0).trans (by rw [if_pos rfl]), State.spdm_sends ..⟩,
      fun hk h7 => ⟨_, (exec_getMeasurements hu k).trans (by rw [if_neg hk, if_pos h7]), State.spdm_sends ..⟩,
      ⟨_, (exec_getMeasurements hu 0xFF).trans (by rw [if_neg (by decide), if_neg (by decide), if_pos rfl]),
        fun j h0 h8 => s.measuredAll_sends m h0 h8, s.measuredAll_mgmt m⟩,
      fun h7 hk => ⟨_, (exec_getMeasurements hu k).trans (by rw [if_neg (by omega), if_neg (by omega), if_neg hk]), State.spdm_sends ..⟩⟩,
    fun s m peer hu => ⟨fun h => ⟨_, (exec_keyExchange hu peer).trans (by rw [if_pos h]), State.spdm_sends ..⟩, fun hl hn => ?_⟩,
    fun s m k c hu hs => ⟨fun hc => ?_, fun hc => ?_⟩, fun s m k hu hs => ⟨⟨_, exec_heartbeat hu hs, State.mem_emit .., rfl⟩,
      ⟨_, exec_keyUpdate hu hs, State.mem_emit .., rfl⟩, _, exec_endSession hu hs, State.mem_emit .., State.sessionsEnd_sessions ..⟩,
    fun s k h => ⟨_, exec_sessionIdleTimeout h, State.sessionsEnd_sessions ..⟩⟩
  · have talks : ¬(s.lifecycle = 5 ∨ Tbl.get false s.mgmt.negotiated (MPath.code m) = false) := by
      rw [hn]
      exact fun h => h.elim hl (by decide)
    refine ⟨fun h => ⟨_, (exec_keyExchange hu peer).trans (by rw [if_neg talks, if_pos h]), State.spdm_sends ..⟩, fun h8 h4 => ?_⟩
    exact ⟨(s.sessionBegun m peer).spdm m "KEY_EXCHANGE_RSP" s.mgmt.nextSession,
      (exec_keyExchange hu peer).trans (by rw [if_neg talks, if_neg (by omega)]), rfl, rfl, State.mem_emit ..⟩
  · subst hc
    exact ⟨_, exec_finish_stranger hu hs, rfl, rfl, State.mem_emit ..⟩
  · exact ⟨_, exec_finish_known hu hs hc, State.mem_emit .., rfl, rfl⟩

end Sys2Proof
end

section
/-! SUPPORT. The field network and telemetry (R413, R415, R416): one equation for each command, and what a push leaves of its subscription. -/

namespace Sys2Proof.Machine

variable {s : State} {k : Nat}

/-- The counters and marks of a subscription. -/
def State.telem (s : State) (k : Nat) : Telem := Tbl.get {} s.mgmt.telem k

/-- What sending datagrams may make of a subscription, with a limit of datagrams and one of bytes in a second. -/
structure Telem.Sends (grams bytes : Nat) (x y : Telem) : Prop where
  seq : y.seq = x.seq
  pendingEvent : y.pendingEvent = x.pendingEvent
  lastEventPush : y.lastEventPush = x.lastEventPush
  grams : y.sentGrams ≤ max grams x.sentGrams
  bytes : y.sentBytes ≤ max bytes x.sentBytes

theorem Telem.Sends.refl {g b : Nat} (x : Telem) : Telem.Sends g b x x := ⟨rfl, rfl, rfl, le_max_right _ _, le_max_right _ _⟩

theorem Telem.Sends.trans {g b : Nat} {x y z : Telem} (h1 : Telem.Sends g b x y) (h2 : Telem.Sends g b y z) : Telem.Sends g b x z where
  seq := h2.seq.trans h1.seq
  pendingEvent := h2.pendingEvent.trans h1.pendingEvent
  lastEventPush := h2.lastEventPush.trans h1.lastEventPush
  grams := h2.grams.trans (max_le (le_max_left _ _) h1.grams)
  bytes := h2.bytes.trans (max_le (le_max_left _ _) h1.bytes)

/-- The counters of a subscription in the second that runs. -/
def State.telemSecond (s : State) (k : Nat) : Telem :=
  if s.elapsed (s.telem k).secondAt Machine.sec then { s.telem k with secondAt := s.aon.now, sentBytes := 0, sentGrams := 0 } else s.telem k

theorem State.telemSecond_kept (s : State) (k : Nat) : (s.telemSecond k).seq = (s.telem k).seq ∧
    (s.telemSecond k).pendingEvent = (s.telem k).pendingEvent ∧ (s.telemSecond k).lastEventPush = (s.telem k).lastEventPush := by
  unfold State.telemSecond
  split <;> exact ⟨rfl, rfl, rfl⟩

/-- A subscription whose datagram has gone out. -/
def Telem.sent (x : Telem) (n : Nat) : Telem := { x with sentBytes := x.sentBytes + n, sentGrams := x.sentGrams + 1 }

theorem Telem.sent_sends {g b n : Nat} {x y : Telem} (hs : y.seq = x.seq) (hp : y.pendingEvent = x.pendingEvent)
    (hl : y.lastEventPush = x.lastEventPush) (hg : y.sentGrams + 1 ≤ g) (hb : y.sentBytes + n ≤ b) : Telem.Sends g b x (y.sent n) :=
  ⟨hs, hp, hl, le_max_of_le_left hg, le_max_of_le_left hb⟩

/-- The device's bytes in the second that runs. -/
def State.telemBytesNow (s : State) : Nat := if s.elapsed s.mgmt.telemSecond Machine.sec then 0 else s.mgmt.telemBytes

/-- A datagram that goes out. -/
def State.telemOut (s : State) (k dest port : Nat) (frame : List Byte) : State :=
  ({ s with mgmt := { s.mgmt with
      telem := Tbl.set {} s.mgmt.telem k ((s.telemSecond k).sent frame.length)
      telemSecond := if s.elapsed s.mgmt.telemSecond Machine.sec then s.aon.now else s.mgmt.telemSecond
      telemBytes := s.telemBytesNow + frame.length } } : State).emit (.udp dest port frame)

theorem State.telemOut_telem (s : State) (k dest port : Nat) (frame : List Byte) :
    (s.telemOut k dest port frame).telem k = (s.telemSecond k).sent frame.length := Tbl.get_set_same ..

theorem State.telemSend_eq (s : State) (k dest port : Nat) (frame : List Byte) : s.telemSend k dest port frame =
    if 200 ≤ (s.telemSecond k).sentGrams ∨ 65536 < (s.telemSecond k).sentBytes + frame.length ∨ 262144 < s.telemBytesNow + frame.length then (s, false)
    else (s.telemOut k dest port frame, true) := rfl

/-- One datagram goes out within the limits, or not at all. -/
theorem State.telemSend_sends (s : State) (k dest port : Nat) (frame : List Byte) :
    Telem.Sends 200 65536 (s.telem k) ((s.telemSend k dest port frame).1.telem k) := by
  rw [s.telemSend_eq]
  split
  · exact .refl _
  · rename_i within
    obtain ⟨seq, pending, last⟩ := s.telemSecond_kept k
    rw [State.telemOut_telem]
    exact Telem.sent_sends seq pending last (by omega) (by omega)

/-- The datagrams of a push, until one does not fit. -/
def State.telemFrames (s : State) (k dest port : Nat) (frames : List (List Byte)) : State × Bool :=
  frames.foldl (fun (acc : State × Bool) f => if acc.2 then acc.1.telemSend k dest port f else acc) (s, true)

theorem State.telemFrames_sends (s : State) (k dest port : Nat) (frames : List (List Byte)) :
    Telem.Sends 200 65536 (s.telem k) ((s.telemFrames k dest port frames).1.telem k) := by
  refine List.foldlRecOn (motive := fun acc : State × Bool => Telem.Sends 200 65536 (s.telem k) (acc.1.telem k)) _ _ (.refl _) fun acc h f _ => ?_
  split
  · exact h.trans (acc.1.telemSend_sends k dest port f)
  · exact h

/-- A subscription whose push is numbered. -/
def Telem.pushed (x : Telem) : Telem := { x with seq := x.seq + 1 }

def State.telemCounted (s : State) (k : Nat) : State :=
  { s with mgmt := { s.mgmt with telem := Tbl.set {} s.mgmt.telem k (s.telem k).pushed } }

/-- A push that was cut short. -/
def State.telemSkipped (s : State) (k : Nat) : State :=
  ({ s with mgmt := { s.mgmt with telem := Tbl.set {} s.mgmt.telem k { s.telem k with skipped := satAdd 32 (s.telem k).skipped 1 } } } : State).mgtBit 4

theorem State.telemSkipped_sends (s : State) (k : Nat) : Telem.Sends 200 65536 (s.telem k) ((s.telemSkipped k).telem k) := by
  have skipped : (s.telemSkipped k).telem k = { s.telem k with skipped := satAdd 32 (s.telem k).skipped 1 } := Tbl.get_set_same ..
  rw [skipped]
  exact ⟨rfl, rfl, rfl, le_max_right _ _, le_max_right _ _⟩

/-- The open sessions with a subscription's destination. -/
def State.telemSessions (s : State) (k : Nat) : List Session :=
  s.mgmt.sessions.filter (fun x => x.opened && decide (x.path = .fieldNet) && x.peer == s.telemDest k)

/-- A subscription that pushes nothing: no destination, or none of the sessions that it needs. -/
def State.telemSilent (s : State) (k : Nat) : Bool := decide (s.telemDest k = 0) || (s.cfgB (0x8820 + k) 6 && (s.telemSessions k).isEmpty)

theorem State.telemPush_silent (h : s.telemSilent k = true) : s.telemPush k = s := if_pos h

theorem State.telemPush_sends (h : s.telemSilent k = false) : Telem.Sends 200 65536 (s.telem k) { (s.telemPush k).telem k with seq := (s.telem k).seq } ∧
    ((s.telemPush k).telem k).seq = (s.telem k).seq + 1 := by
  have counted : (s.telemCounted k).telem k = (s.telem k).pushed := Tbl.get_set_same ({} : Telem) s.mgmt.telem k (s.telem k).pushed
  obtain ⟨dest, port, frames, push⟩ : ∃ dest port frames, s.telemPush k = if ((s.telemCounted k).telemFrames k dest port frames).2 then
      ((s.telemCounted k).telemFrames k dest port frames).1 else ((s.telemCounted k).telemFrames k dest port frames).1.telemSkipped k :=
    ⟨_, _, _, if_neg (by change ¬s.telemSilent k = true; rw [h]; exact Bool.false_ne_true)⟩
  have sent := (s.telemCounted k).telemFrames_sends k dest port frames
  have all : Telem.Sends 200 65536 ((s.telemCounted k).telem k) ((s.telemPush k).telem k) := by
    rw [push]
    split
    · exact sent
    · exact sent.trans (State.telemSkipped_sends ..)
  rw [counted] at all
  exact ⟨⟨rfl, all.pendingEvent, all.lastEventPush, all.grams, all.bytes⟩, all.seq⟩

theorem exec_telemetryPeriod {w : State} (hw : w = s.boundary (0x8820 + k)) (hk : k < 4) (hu : w.pathUp .fieldNet = true)
    (hp : w.cfg (0x8820 + k) 4 ≠ 0) : exec (.telemetryPeriod k) s = .next (w.telemPush k) := by
  subst hw
  exact next_when (by rw [decide_eq_true hk, hu, bne_iff_ne.mpr hp]; rfl)

/-- An event push as it begins. -/
def State.telemAnswered (s : State) (k : Nat) : State :=
  { s with mgmt := { s.mgmt with telem := Tbl.set {} s.mgmt.telem k { s.telem k with pendingEvent := false, lastEventPush := some s.aon.now } } }

theorem exec_telemetryEventPush (hk : k < 4) (hu : s.pathUp .fieldNet = true) (he : s.cfgB (0x8820 + k) 5 = true)
    (hp : (s.telem k).pendingEvent = true) (hd : ∀ c, (s.telem k).lastEventPush = some c → s.elapsed c 1000000000 = true) :
    exec (.telemetryEventPush k) s = .next ((s.telemAnswered k).telemPush k) := by
  have due : (match (s.telem k).lastEventPush with
    | some t => s.elapsed t Machine.sec
    | none => true) = true := by
    split
    · rename_i c e
      exact hd c e
    · rfl
  refine next_when (b := _ && (match (s.telem k).lastEventPush with
    | some t => s.elapsed t Machine.sec
    | none => true)) ?_
  rw [due, decide_eq_true hk, hu, he]
  show (true && true && true && (s.telem k).pendingEvent && true) = true
  rw [hp]
  rfl

end Sys2Proof.Machine
end

section
/-! The statement about the field network and telemetry. -/

namespace Sys2Proof
open Machine

/-- Settles O54. -/
theorem fieldNetwork : Obligations.FieldNetwork := by
  refine ⟨fun s a l hu => ⟨fun ho => ?_, fun ho => ?_⟩, fun s u hb => ⟨fun h => ⟨_, next_when (by rw [decide_eq_true hb, h]; rfl), rfl, rfl, rfl⟩,
    fun h => ⟨_, next_when h, rfl, rfl, rfl⟩⟩, fun s w k hk hw hu => ⟨fun hp hd => ?_, fun hp hd hc hn => ?_, fun hp hd hc => ?_⟩,
    fun s k hk hu he hp hd => ?_⟩
  · exact ⟨⟨s.emit (.ndp a), (next_when hu).trans (by rw [if_pos ho]), State.mem_emit ..⟩,
      s.emit (.echo a l), (next_when hu).trans (by rw [if_pos ho]), State.mem_emit ..⟩
  · have other : ¬s.ownAddr a = true := by rw [ho]; exact Bool.false_ne_true
    exact ⟨(next_when hu).trans (by rw [if_neg other]), (next_when hu).trans (by rw [if_neg other])⟩
  · have silent : w.telemSilent k = true := by unfold State.telemSilent; rw [decide_eq_true hd, Bool.true_or]
    rw [exec_telemetryPeriod hw hk hu hp, State.telemPush_silent silent]
  · have none : w.telemSessions k = [] := List.filter_eq_nil_iff.mpr fun x hx => List.any_eq_false.mp hn x hx
    have silent : w.telemSilent k = true := by unfold State.telemSilent; rw [hc, none]; exact Bool.or_true _
    rw [exec_telemetryPeriod hw hk hu hp, State.telemPush_silent silent]
  · have speaks : w.telemSilent k = false := by
      unfold State.telemSilent
      rw [decide_eq_false hd, Bool.false_or]
      rcases hc with hc | hc
      · rw [hc, Bool.false_and]
      · obtain ⟨x, hx, open_⟩ := List.any_eq_true.mp hc
        have some : (w.telemSessions k).isEmpty = false := List.isEmpty_eq_false_iff.mpr (List.ne_nil_of_mem (List.mem_filter.mpr ⟨hx, open_⟩))
        rw [some, Bool.and_false]
    obtain ⟨sends, seq⟩ := State.telemPush_sends speaks
    exact ⟨_, exec_telemetryPeriod hw hk hu hp, seq, sends.grams, sends.bytes⟩
  · refine ⟨_, exec_telemetryEventPush hk hu he hp hd, ?_⟩
    have begun : (s.telemAnswered k).telem k = { s.telem k with pendingEvent := false, lastEventPush := some s.aon.now } := Tbl.get_set_same ..
    show (((s.telemAnswered k).telemPush k).telem k).pendingEvent = false ∧ (((s.telemAnswered k).telemPush k).telem k).lastEventPush = some s.aon.now
    cases hs : (s.telemAnswered k).telemSilent k with
    | true =>
      rw [State.telemPush_silent hs, begun]
      exact ⟨rfl, rfl⟩
    | false =>
      obtain ⟨sends, -⟩ := State.telemPush_sends hs
      rw [begun] at sends
      exact ⟨sends.pendingEvent, sends.lastEventPush⟩

end Sys2Proof
end

section
/-! SUPPORT. Format NVM (R193, R422): one equation for each command, and the namespace after it. -/

namespace Sys2Proof.Machine

variable {s w : State} {tag n : Nat} {e : Sqe}

/-! ### A command that ends at once (R122) -/

/-- A command that ends before its commit point changes neither namespaces nor the state of firmware, keys and sanitize. -/
theorem State.adm_ends {op : Nat} (h : s.adm tag op = true) (st : Status) :
    Posts (s.commitTag tag st) tag st ∧ (s.commitTag tag st).nss = s.nss ∧ (s.commitTag tag st).sec = s.sec :=
  have ends := s.commitTag_chg tag st 0 0
  ⟨(State.commitTag_posts (State.adm_uncommitted h) st 0 0).1, ends.nss rfl, ends.sec rfl⟩

/-- A command whose tag its work has left alone ends with Success; of the work's modes and security state nothing changes. -/
theorem State.adm_succeeds {u : State} {op : Nat} (h : s.adm tag op = true) (hu : u.tag tag = s.tag tag) :
    Posts (u.succeed tag) tag ⟨0, 0⟩ ∧ (u.succeed tag).mode = u.mode ∧ (u.succeed tag).sec = u.sec :=
  have ends := u.commitTag_chg tag ⟨0, 0⟩ 0 0
  ⟨(State.commitTag_posts (by rw [hu]; exact State.adm_uncommitted h) _ 0 0).1, ends.mode rfl, ends.sec rfl⟩

/-! ### The start of a format -/

/-- A format that has begun. -/
def State.formatRuns (s : State) (tag n : Nat) (e : Sqe) : State :=
  (s.setNs n { s.ns n with st := 3, workTag := some tag, formatLbaf := Sqe.fmtLbaf e, formatSes := Sqe.fmtSes e
                           formatDps := Sqe.fmtDps e }).setTag tag { s.tag tag with built := true, st := .run }

theorem exec_formatNvm_set (ha : s.adm tag 0x80 = true) (he : (s.tag tag).sqe = e) (hn : s.nsGone e.nsid = none)
    (hm : Sqe.fmtMset e = true) : exec (.formatNvm tag) s = .next (s.commitTag tag ⟨1, 0x0A⟩) := by
  subst he
  refine (next_when ha).trans (congrArg Host.Outcome.next ?_)
  dsimp only
  rw [hn, hm]
  rfl

theorem exec_formatNvm_runs (ha : s.adm tag 0x80 = true) (he : (s.tag tag).sqe = e) (hn : s.nsGone e.nsid = none)
    (hm : Sqe.fmtMset e = false) (hf : formatOk ((s.ns e.nsid).kind == 1) (Sqe.fmtLbaf e) = true) (hs : Sqe.fmtSes e ≤ 2)
    (hd : dpsOk (Sqe.fmtDps e) (Sqe.fmtLbaf e) = true)
    (hz : (s.ns e.nsid).kind ≠ 1 ∨ (s.ns e.nsid).nsze % zoneSize (Sqe.fmtLbaf e) = 0) :
    exec (.formatNvm tag) s = .next (s.formatRuns tag e.nsid e) := by
  subst he
  refine (next_when ha).trans (congrArg Host.Outcome.next ?_)
  dsimp only
  rw [hn, hm, hf]
  refine (if_neg Bool.false_ne_true).trans (if_neg ?_)
  rintro (h | h | ⟨hk, h⟩)
  · omega
  · rw [hd] at h; exact Bool.noConfusion h
  · exact hz.elim (fun hz => hz (beq_iff_eq.mp hk)) h

theorem State.formatRuns_ns (s : State) (tag n : Nat) (e : Sqe) : (s.formatRuns tag n e).ns n =
    { s.ns n with st := 3, workTag := some tag, formatLbaf := Sqe.fmtLbaf e, formatSes := Sqe.fmtSes e, formatDps := Sqe.fmtDps e } := by
  unfold State.formatRuns
  rw [State.setTag_ns, State.setNs_ns]

theorem State.formatRuns_tag (s : State) (tag n : Nat) (e : Sqe) : ((s.formatRuns tag n e).tag tag).st = .run := by
  unfold State.formatRuns
  rw [State.setTag_tag]

/-! ### The end of a format -/

/-- The keys of a namespace go where its format asks for a secure erase. -/
def State.formatErase (s : State) (n : Nat) : State :=
  if (s.ns n).formatSes = 0 then s else (s.keyErase n).keyTableWrite

/-- A namespace as its format leaves it; `s` is the state without its data, and `y` the namespace as the format found it. -/
def State.formattedNs (s : State) (n : Nat) (y : Ns) : Ns :=
  { s.ns n with st := 1, lbaf := y.formatLbaf, dps := y.formatDps, owner := (s.ns n).attached.head?, createSeq := s.recov.seqNext
                workTag := none, formatLbaf := 0, formatSes := 0, formatDps := 0 }

theorem State.formattedNs_new (s : State) (n : Nat) (y : Ns) : (s.formattedNs n y).st = 1 ∧ (s.formattedNs n y).lbaf = y.formatLbaf ∧
    (s.formattedNs n y).dps = y.formatDps ∧ (s.formattedNs n y).workTag = none := ⟨rfl, rfl, rfl, rfl⟩

theorem State.formattedNs_kept (s : State) (n : Nat) (y : Ns) : (s.formattedNs n y).used = (s.ns n).used ∧
    (s.formattedNs n y).nuse = (s.ns n).nuse ∧ (s.formattedNs n y).key = (s.ns n).key := ⟨rfl, rfl, rfl⟩

/-- The namespace is formatted, in the journal and in its table. -/
def State.nsFormatted (s : State) (n : Nat) : State :=
  let v := (s.formatErase n).nsVoid n
  ((v.setNs n (v.formattedNs n (s.ns n))).nsJournal n 2).nsTableWrite

/-- The command that asked for the format ends. -/
def State.formatEnds (s : State) (n : Nat) : State :=
  match (s.ns n).workTag with
  | some t => (s.nsFormatted n).workEnd t 0x80
  | none => s.nsFormatted n

theorem exec_formatComplete (hst : (s.ns n).st = 3) (hi : s.nsIdle n = true) (hw : w = s.boundary (0x5800 + (n - 1)))
    (hj : w.jrnHeld = false) : exec (.formatComplete n) s = .next (w.formatEnds n).commitPump := by
  subst hw
  refine (next_when (by rw [hst, hi]; rfl)).trans (congrArg Host.Outcome.next ?_)
  dsimp only
  rw [hj, if_neg Bool.false_ne_true]
  rfl

/-- A namespace without its key pair, of which one more has been erased. -/
def State.keyDropped (s : State) (n : Nat) : State :=
  { s.setNs n { s.ns n with key := none } with sec := { s.sec with cryptoErases := satAdd 32 s.sec.cryptoErases 1 } }

theorem State.keyDropped_key (s : State) (n : Nat) : ((s.keyDropped n).ns n).key = none := by
  have dropped : (s.keyDropped n).ns n = (s.setNs n { s.ns n with key := none }).ns n := rfl
  rw [dropped, State.setNs_ns]

theorem State.keyErase_key (s : State) (n : Nat) : ((s.keyErase n).ns n).key = none := by
  unfold State.keyErase
  split
  · rw [(State.lcsBit_chg ..).ns_eq rfl]
    exact s.keyDropped_key n
  · exact Option.not_isSome_iff_eq_none.mp ‹_›

theorem State.formatErase_key (h : (s.ns n).formatSes ≠ 0) : ((s.formatErase n).ns n).key = none := by
  unfold State.formatErase
  rw [if_neg h, (State.keyTableWrite_chg _).ns_eq rfl]
  exact s.keyErase_key n

theorem State.setCharge_key (s : State) (n z c k : Nat) : ((s.setCharge n z c).ns k).key = (s.ns k).key := by
  have written : ((s.setNs n { s.ns n with used := (s.ns n).used + c - (s.zone n z).charge }).ns k).key = (s.ns k).key := by
    by_cases h : n = k
    · subst h; rw [State.setNs_ns]
    · rw [State.setNs_ns_ne _ _ h]
  unfold State.setCharge
  extract_lets x y s1 sb
  have zone : (s1.ns k).key = (s.ns k).key := (congrArg Ns.key (State.setZone_ns ..)).trans written
  split
  · exact (congrArg Ns.key (State.setSb_ns ..)).trans zone
  · exact zone

theorem State.blocksInvalid_ns (s : State) (l : List (Nat × MEnt)) (n : Nat) : (s.forEach l (fun x s => s.validSub x.2)).ns n = s.ns n :=
  (Chg.forEach (fun (x : Nat × MEnt) t => t.validSub_chg x.2) (Chg.refl _ s)).ns_eq rfl n

theorem State.chargesCleared_key (s : State) (l : List (Nat × Zone)) (n : Nat) :
    ((s.forEach l (fun z s => s.setCharge n z.1 0)).ns n).key = (s.ns n).key :=
  State.forEach_induct (P := fun t => (t.ns n).key = (s.ns n).key) rfl fun z _ t h => (t.setCharge_key n z.1 0 n).trans h

theorem State.homesReleased_ns (s : State) (l : List Nat) (n : Nat) : (s.forEach l (fun h s => s.homeRelease (some h))).ns n = s.ns n :=
  (Chg.forEach (fun h t => t.homeRelease_chg (some h)) (Chg.refl _ s)).ns_eq rfl n

/-- A namespace without data: nothing in use, and its key as it was. -/
theorem State.nsVoid_ns (s : State) (n : Nat) :
    ((s.nsVoid n).ns n).used = 0 ∧ ((s.nsVoid n).ns n).nuse = 0 ∧ ((s.nsVoid n).ns n).key = (s.ns n).key := by
  unfold State.nsVoid
  extract_lets s1 s2 homes m s3 s4
  have valid : s1.ns n = s.ns n := s.blocksInvalid_ns _ n
  have charges : (s2.ns n).key = (s1.ns n).key := s1.chargesCleared_key _ n
  have released : s4.ns n = s3.ns n := s3.homesReleased_ns homes n
  have emptied : s3.ns n = s2.ns n := rfl
  rw [(State.wbufDrop_chg ..).ns_eq rfl, State.setNs_ns]
  exact ⟨rfl, rfl, (congrArg Ns.key (released.trans emptied)).trans (charges.trans (congrArg Ns.key valid))⟩

theorem State.nsFormatted_ns (s : State) (n : Nat) :
    (s.nsFormatted n).ns n = ((s.formatErase n).nsVoid n).formattedNs n (s.ns n) := by
  unfold State.nsFormatted
  dsimp only
  rw [(State.nsTableWrite_chg _).ns_eq rfl, (State.nsJournal_chg ..).ns_eq rfl, State.setNs_ns]

theorem State.nsFormatted_map (s : State) (n : Nat) : (s.nsFormatted n).map = ((s.formatErase n).nsVoid n).map := by
  unfold State.nsFormatted
  dsimp only
  rw [(State.nsTableWrite_chg _).map rfl, (State.nsJournal_chg ..).map rfl, State.setNs_map]

/-- The end of the command leaves of the namespace what its format left. -/
theorem State.formatEnds_frame (s : State) (n : Nat) :
    (s.formatEnds n).ns n = (s.nsFormatted n).ns n ∧ (s.formatEnds n).map = (s.nsFormatted n).map := by
  unfold State.formatEnds
  split
  · have ends := State.workEnd_chg (s.nsFormatted n)
    exact ⟨(ends ..).ns_eq rfl n, (ends ..).map rfl⟩
  · exact ⟨rfl, rfl⟩

/-- A formatted namespace is Ready, in its new format and empty; a secure erase has taken its key. -/
theorem State.formatEnds_done (s : State) (n : Nat) : ((s.formatEnds n).ns n).st = 1 ∧ ((s.formatEnds n).ns n).lbaf = (s.ns n).formatLbaf ∧
    ((s.formatEnds n).ns n).dps = (s.ns n).formatDps ∧ ((s.formatEnds n).ns n).workTag = none ∧ ((s.formatEnds n).ns n).used = 0 ∧
    ((s.formatEnds n).ns n).nuse = 0 ∧ ((s.ns n).formatSes ≠ 0 → ((s.formatEnds n).ns n).key = none) ∧
    ∀ x ∈ (s.formatEnds n).map.ents, x.1 / 2 ^ 64 ≠ n := by
  obtain ⟨used, nuse, key⟩ := (s.formatErase n).nsVoid_ns n
  obtain ⟨ns, map⟩ := s.formatEnds_frame n
  obtain ⟨st, lbaf, dps, work⟩ := State.formattedNs_new ((s.formatErase n).nsVoid n) n (s.ns n)
  obtain ⟨used', nuse', key'⟩ := State.formattedNs_kept ((s.formatErase n).nsVoid n) n (s.ns n)
  rw [ns, map, State.nsFormatted_ns, State.nsFormatted_map]
  exact ⟨st, lbaf, dps, work, used'.trans used, nuse'.trans nuse, fun h => key'.trans (key.trans (State.formatErase_key h)),
    ((s.formatErase n).nsVoid_map n).1⟩

end Sys2Proof.Machine
end

section
/-! SUPPORT. Sanitize (R423, R424): what a command that is accepted comes to, in a mode of service and in Maintenance, and the refusals. -/

namespace Sys2Proof.Machine

variable {s : State} {tag kind : Nat} {x : Instr}

/-- A sanitize of some kind whose bits are good, at no handoff of the mode. -/
structure State.sanitizes (s : State) (tag kind : Nat) (x : Instr) : Prop where
  adm : s.adm tag 0x84 = true
  which : (Sqe.sanact (s.tag tag).sqe = 2 ∧ kind = 2 ∧ x = .sanitizeBlockErase tag) ∨
    (Sqe.sanact (s.tag tag).sqe = 4 ∧ kind = 1 ∧ x = .sanitizeCryptoErase tag)
  noDeallocate : (s.tag tag).sqe.cdw10.testBit 9 = false
  steady : s.sec.transition = false

/-- An accepted sanitize, with its Maintenance cause. -/
def State.sanitizeBegun (s : State) (tag kind : Nat) : State :=
  (({ s with sec := { s.sec with sanRunning := kind, sanAuse := (s.tag tag).sqe.cdw10.testBit 3 } } : State).maintSet 1 true).maintBegin

theorem exec_sanitize (h : s.sanitizes tag kind x) : exec x s = .next (s.sanitizeAccept tag kind) := by
  obtain ⟨ha, ⟨hs, rfl, rfl⟩ | ⟨hs, rfl, rfl⟩, -, -⟩ := h
  · exact (next_when (by rw [ha, hs]; rfl)).trans (congrArg Host.Outcome.next (if_pos hs))
  · exact next_when (by rw [ha, hs]; rfl)

theorem State.sanitizeAccept_running (hb : (s.tag tag).sqe.cdw10.testBit 9 = false) (ht : s.sec.transition = false) (hi : s.inService = true)
    (hr : s.sec.sanRunning ≠ 0) : s.sanitizeAccept tag kind = s.commitTag tag ⟨0, 0x1D⟩ := by
  unfold State.sanitizeAccept
  dsimp only
  rw [hb, ht, hi, if_neg Bool.false_ne_true, if_neg (by decide), if_pos hr]

theorem State.sanitizeAccept_begins (hb : (s.tag tag).sqe.cdw10.testBit 9 = false) (ht : s.sec.transition = false) (hi : s.inService = true)
    (hr : s.sec.sanRunning = 0) : s.sanitizeAccept tag kind = ((s.sanitizeBegun tag kind).succeed tag).sanitizeRun := by
  unfold State.sanitizeAccept State.sanitizeBegun
  dsimp only
  rw [hb, ht, hi, if_neg Bool.false_ne_true, if_neg (by decide), if_neg (not_not_intro hr)]

theorem exec_sanitize_running (h : s.sanitizes tag kind x) (hi : s.inService = true) (hr : s.sec.sanRunning ≠ 0) :
    exec x s = .next (s.commitTag tag ⟨0, 0x1D⟩) := by
  rw [exec_sanitize h, State.sanitizeAccept_running h.noDeallocate h.steady hi hr]

theorem exec_sanitize_accepted (h : s.sanitizes tag kind x) (hi : s.inService = true) (hr : s.sec.sanRunning = 0) :
    exec x s = .next ((s.sanitizeBegun tag kind).succeed tag).sanitizeRun := by
  rw [exec_sanitize h, State.sanitizeAccept_begins h.noDeallocate h.steady hi hr]

/-- Outside Maintenance the work of a sanitize waits. -/
theorem State.sanitizeRun_waits (h : s.mode.base ≠ .maintenance) : s.sanitizeRun = s := by
  unfold State.sanitizeRun
  exact if_neg fun hm => h hm.1

theorem State.maintBegin_kept (s : State) : s.maintBegin.mode.base = s.mode.base ∧ s.maintBegin.mode.maintCauses = s.mode.maintCauses ∧
    (s.mode.base ≠ .maintenance → s.maintBegin.mode.maintEntry = true) := by
  unfold State.maintBegin
  split
  case isTrue h => exact ⟨rfl, rfl, fun hb => by simpa [hb] using h⟩
  case isFalse => exact ⟨rfl, rfl, fun _ => rfl⟩

/-- The Maintenance cause of a sanitize stands; the mode is as it was, and outside Maintenance its entry has begun. -/
theorem State.sanitizeBegun_mode (s : State) (tag kind : Nat) : (s.sanitizeBegun tag kind).mode.base = s.mode.base ∧
    (s.sanitizeBegun tag kind).mode.maintCauses.testBit 1 = true ∧
    (s.mode.base ≠ .maintenance → (s.sanitizeBegun tag kind).mode.maintEntry = true) := by
  obtain ⟨base, causes, entry⟩ := State.maintBegin_kept (({ s with sec := { s.sec with
    sanRunning := kind, sanAuse := (s.tag tag).sqe.cdw10.testBit 3 } } : State).maintSet 1 true)
  refine ⟨base, (congrArg (Nat.testBit · 1) causes).trans ?_, entry⟩
  rw [State.maintSet_causes, if_pos rfl, Nat.testBit_or]
  exact Bool.or_eq_true_iff.mpr (.inr (by decide))

theorem State.sanitizeBegun_sec (s : State) (tag kind : Nat) :
    (s.sanitizeBegun tag kind).sec = { s.sec with sanRunning := kind, sanAuse := (s.tag tag).sqe.cdw10.testBit 3 } := by
  unfold State.sanitizeBegun
  rw [(State.maintBegin_chg _).sec rfl, (State.maintSet_chg ..).sec rfl]

theorem State.sanitizeBegun_tag (s : State) (tag kind k : Nat) : (s.sanitizeBegun tag kind).tag k = s.tag k := by
  unfold State.sanitizeBegun
  rw [(State.maintBegin_chg _).tag_eq rfl, (State.maintSet_chg ..).tag_eq rfl]
  rfl

/-- An accepted sanitize whose command has ended. -/
theorem State.sanitizeBegun_succeeds (h : s.adm tag 0x84 = true) (kind : Nat) :
    Posts ((s.sanitizeBegun tag kind).succeed tag) tag ⟨0, 0⟩ ∧ ((s.sanitizeBegun tag kind).succeed tag).mode = (s.sanitizeBegun tag kind).mode ∧
      ((s.sanitizeBegun tag kind).succeed tag).sec.sanRunning = kind := by
  obtain ⟨posts, mode, sec⟩ := State.adm_succeeds h (s.sanitizeBegun_tag tag kind tag)
  exact ⟨posts, mode, by rw [sec, State.sanitizeBegun_sec]⟩

theorem exec_sanitizeOverwrite (ha : s.adm tag 0x84 = true) (hs : Sqe.sanact (s.tag tag).sqe = 3) :
    exec (.sanitizeBlockErase tag) s = .next (s.commitTag tag ⟨0, 2⟩) :=
  (next_when (by rw [ha, hs]; rfl)).trans (congrArg Host.Outcome.next (if_neg (by rw [hs]; decide)))

/-- The failure state of a sanitize ends, and the hold it had on the mode. -/
def State.sanitizeExits (s : State) : State :=
  let s1 : State := { s with sec := { s.sec with sanFailed := false } }
  if s.sec.sanFailed then s1.maintExit else s1

theorem exec_sanitizeExitFailure (ha : s.adm tag 0x84 = true) (hs : Sqe.sanact (s.tag tag).sqe = 1)
    (hb : (s.tag tag).sqe.cdw10.testBit 9 = false) (ht : s.sec.transition = false) (hm : s.mode.base ≠ .flush) :
    exec (.sanitizeExitFailure tag) s = .next (s.sanitizeExits.succeed tag) := by
  refine (next_when (by rw [ha, hs]; rfl)).trans (congrArg Host.Outcome.next ?_)
  unfold State.sanitizeExits
  dsimp only
  rw [hb, ht, decide_eq_false hm, if_neg Bool.false_ne_true, if_neg (by decide)]

theorem State.sanitizeExits_chg (s : State) :
    Chg 68719476792 { s with sec := { s.sec with sanFailed := false } } s.sanitizeExits :=
  Chg.ite (State.maintExit_chg _) (Chg.refl _ _)

end Sys2Proof.Machine
end

section
/-! The statement about Format NVM and sanitize. -/

namespace Sys2Proof
open Machine

/-- Settles O32. The status of a second sanitize is the model's choice (log entry 66). -/
theorem formatAndSanitize : Obligations.FormatAndSanitize := by
  refine ⟨fun s tag n e ha he hn hg => ?_, fun s w n hst hi hw hj => ?_, fun s tag kind x ha hx hb ht => ?_, fun s tag ha hs => ?_,
    fun s tag ha hs hb ht hm => ?_⟩
  · subst hn
    refine ⟨fun hset => ?_, fun hset hf hs hd hz => ?_⟩
    · obtain ⟨posts, nss, -⟩ := State.adm_ends ha ⟨1, 0x0A⟩
      exact ⟨_, exec_formatNvm_set ha he hg hset, posts, nss⟩
    · have ns := s.formatRuns_ns tag e.nsid e
      exact ⟨_, exec_formatNvm_runs ha he hg hset hf hs hd hz, s.formatRuns_tag tag e.nsid e, by rw [ns], by rw [ns], by rw [ns], by rw [ns], rfl⟩
  · exact ⟨_, exec_formatComplete hst hi hw hj, w.formatEnds_done n⟩
  · have good : s.sanitizes tag kind x := ⟨ha, hx, hb, ht⟩
    obtain ⟨base, cause, entry⟩ := s.sanitizeBegun_mode tag kind
    obtain ⟨posts, mode, running⟩ := State.sanitizeBegun_succeeds ha kind
    refine ⟨fun hservice hr _ => ?_, fun _ hi hr => ?_, fun hi hr => ?_⟩
    · have outside : s.mode.base ≠ .maintenance := by rw [hservice]; decide
      refine ⟨(s.sanitizeBegun tag kind).succeed tag, ?_, posts, running, by rw [mode]; exact cause, by rw [mode]; exact entry outside⟩
      rw [exec_sanitize_accepted good (by unfold State.inService; rw [hservice]) hr, State.sanitizeRun_waits]
      rw [mode, base]
      exact outside
    · exact ⟨_, exec_sanitize_accepted good hi hr, posts, running, by rw [mode]; exact cause⟩
    · obtain ⟨refused, -, sec⟩ := State.adm_ends ha ⟨0, 0x1D⟩
      exact ⟨_, exec_sanitize_running good hi hr, refused, sec⟩
  · obtain ⟨refused, -, sec⟩ := State.adm_ends ha ⟨0, 2⟩
    exact ⟨_, exec_sanitizeOverwrite ha hs, refused, sec⟩
  · have exits := s.sanitizeExits_chg
    obtain ⟨posts, -, sec⟩ := State.adm_succeeds ha (exits.tag_eq rfl tag)
    refine ⟨_, exec_sanitizeExitFailure ha hs hb ht hm, posts, ?_, ?_⟩ <;> rw [sec, exits.sec rfl]

end Sys2Proof
end

section
/-! SUPPORT. Firmware (R432 to R434): one equation for each outcome of a download and of a commit, and the firmware slots after it. -/

namespace Sys2Proof.Machine

variable {s : State} {tag k : Nat} {f : FwImage}

/-! ### A piece of an image -/

/-- The piece that a download names: its place in the staging area and its length. -/
def Sqe.piece (e : Sqe) : Nat × Nat := (4 * e.cdw11, 4 * (e.cdw10 + 1))

/-- The piece of a download stands in the staging area. -/
def State.pieceStaged (s : State) (tag : Nat) (f : FwImage) : State :=
  { s with sec := { s.sec with stagingOwner := some (s.qfunc (s.tag tag).q).1
                               stagingPieces := s.sec.stagingPieces ++ [(Sqe.piece (s.tag tag).sqe)], stagingImage := some f } }

/-- A piece that its function may stage: the staging area is its own, and the piece is aligned and within it. -/
structure State.downloads (s : State) (tag : Nat) : Prop where
  adm : s.adm tag 0x11 = true
  owner : ∀ o, s.sec.stagingOwner = some o → o = (s.qfunc (s.tag tag).q).1
  start : (Sqe.piece (s.tag tag).sqe).1 % 4096 = 0
  length : (Sqe.piece (s.tag tag).sqe).2 % 4096 = 0
  within : (Sqe.piece (s.tag tag).sqe).1 + (Sqe.piece (s.tag tag).sqe).2 ≤ 2 ^ 24

theorem exec_firmwareImageDownload_owned {o : Nat} (ha : s.adm tag 0x11 = true) (ho : s.sec.stagingOwner = some o)
    (hne : o ≠ (s.qfunc (s.tag tag).q).1) : exec (.firmwareImageDownload tag f) s = .next (s.commitTag tag ⟨0, 0x0C⟩) := by
  refine (next_when ha).trans (congrArg Host.Outcome.next ?_)
  refine if_pos ?_
  rw [ho]
  exact bne_iff_ne.mpr hne

theorem State.downloads.unowned (h : s.downloads tag) : ¬ s.sec.stagingOwner.any (fun o => o != (s.qfunc (s.tag tag).q).1) = true := by
  cases ho : s.sec.stagingOwner with
  | none => exact Bool.false_ne_true
  | some o => simpa using h.owner o ho

theorem State.downloads.placed (h : s.downloads tag) : ¬ ((Sqe.piece (s.tag tag).sqe).1 % 4096 ≠ 0 ∨ (Sqe.piece (s.tag tag).sqe).2 % 4096 ≠ 0 ∨
    2 ^ 24 < (Sqe.piece (s.tag tag).sqe).1 + (Sqe.piece (s.tag tag).sqe).2) := by
  rintro (h1 | h2 | h3)
  · exact h1 h.start
  · exact h2 h.length
  · exact Nat.not_lt.mpr h.within h3

theorem exec_firmwareImageDownload_meets (h : s.downloads tag) (hp : ∃ q ∈ s.sec.stagingPieces, piecesMeet (Sqe.piece (s.tag tag).sqe) q = true) :
    exec (.firmwareImageDownload tag f) s = .next (s.commitTag tag ⟨0, 2⟩) := by
  refine (next_when h.adm).trans (congrArg Host.Outcome.next ?_)
  exact (if_neg h.unowned).trans ((if_neg h.placed).trans (if_pos (List.any_eq_true.mpr hp)))

theorem exec_firmwareImageDownload_staged (h : s.downloads tag)
    (hp : ∀ q ∈ s.sec.stagingPieces, piecesMeet (Sqe.piece (s.tag tag).sqe) q = false)
    (hd : s.dptrStatus (s.qfunc (s.tag tag).q).1 (s.qfunc (s.tag tag).q).2 (Sqe.piece (s.tag tag).sqe).2 (s.tag tag).sqe = none) :
    exec (.firmwareImageDownload tag f) s = .next ((s.pieceStaged tag f).succeed tag) := by
  refine (next_when h.adm).trans (congrArg Host.Outcome.next ?_)
  refine (if_neg h.unowned).trans ((if_neg h.placed).trans ((if_neg (by simpa [Sqe.piece] using hp)).trans ?_))
  unfold Sqe.piece at hd
  rw [hd]
  rfl

/-! ### Images and slots -/

theorem State.slotWrite_fwSlot (s : State) (f : FwImage) (h1 : 1 ≤ k) (h2 : k ≤ 2) :
    ∃ g, (s.slotWrite k f).fwSlot k = some g ∧ g.svn = f.svn ∧ g.slot = k := by
  obtain rfl | rfl : k = 1 ∨ k = 2 := by omega
  · exact ⟨_, rfl, rfl, rfl⟩
  · exact ⟨_, rfl, rfl, rfl⟩

/-- A written slot changes neither the slot in force nor the activation records. -/
theorem State.slotWrite_kept (s : State) (k : Nat) (f : FwImage) :
    (s.slotWrite k f).sec.slotInForce = s.sec.slotInForce ∧ (s.slotWrite k f).sec.nextActSeq = s.sec.nextActSeq := by
  unfold State.slotWrite
  dsimp only
  split <;> exact ⟨rfl, rfl⟩

theorem State.actRecord_fwSlot (s : State) (k j : Nat) : (s.actRecord k).fwSlot j = s.fwSlot j := rfl

/-- An activation record: the slot is the next one to start, under the next number. -/
theorem State.actRecord_sec (s : State) (k : Nat) : (s.actRecord k).sec.nextSlot = k ∧
    (s.actRecord k).sec.nextActSeq = s.sec.nextActSeq + 1 ∧ (k, s.sec.nextActSeq) ∈ (s.actRecord k).sec.acts ∧
    (s.actRecord k).sec.slotInForce = s.sec.slotInForce :=
  ⟨rfl, rfl, List.mem_append_right _ List.mem_cons_self, rfl⟩

/-! ### Firmware Commit -/

theorem State.fwCommit_of (ha : s.adm tag 0x10 = true) {p : Nat → Bool} (hp : p (Sqe.fwAction (s.tag tag).sqe) = true) :
    s.fwCommit tag p = true := by
  unfold State.fwCommit
  rw [ha, hp]; rfl

/-- The staging area is empty and free. -/
def State.stagingFreed (s : State) : State :=
  { s with sec := { s.sec with stagingOwner := none, stagingPieces := [], stagingImage := none } }

/-- The staged image is in its slot, the slot has its record, and the staging area is free. -/
def State.slotReplaced (s : State) (k : Nat) (f : FwImage) : State := ((s.slotWrite k f).actRecord k).stagingFreed

/-- A Firmware Commit in BUILD, with its action and its slot. -/
structure State.commits (s : State) (tag action k : Nat) : Prop where
  adm : s.adm tag 0x10 = true
  action : Sqe.fwAction (s.tag tag).sqe = action
  slot : k = s.fwTarget tag

/-- What a replace makes of the staged image. -/
def State.replaceAnswer (s : State) (tag k : Nat) : State :=
  match s.sec.stagingImage with
  | some f => if staged s.sec.stagingPieces && s.imageGood f then (s.slotReplaced k f).succeed tag else s.commitTag tag ⟨1, 7⟩
  | none => s.commitTag tag ⟨1, 7⟩

theorem exec_firmwareCommitReplace (h : s.commits tag 1 k) : exec (.firmwareCommitReplace tag) s =
    .next (if 2 < k ∨ k = s.sec.slotInForce then s.commitTag tag ⟨1, 6⟩ else s.replaceAnswer tag k) := by
  obtain ⟨ha, hp, rfl⟩ := h
  refine (next_when (State.fwCommit_of ha (by rw [hp]; rfl))).trans (congrArg Host.Outcome.next ?_)
  exact if_neg (not_not_intro hp)

theorem State.slotReplaced_fwSlot (s : State) (k j : Nat) (f : FwImage) : (s.slotReplaced k f).fwSlot j = (s.slotWrite k f).fwSlot j := rfl

theorem State.slotReplaced_staging (s : State) (k : Nat) (f : FwImage) : (s.slotReplaced k f).sec.stagingPieces = [] ∧
    (s.slotReplaced k f).sec.stagingImage = none ∧ (s.slotReplaced k f).sec.stagingOwner = none := ⟨rfl, rfl, rfl⟩

theorem State.slotReplaced_sec (s : State) (k : Nat) (f : FwImage) : (s.slotReplaced k f).sec.nextSlot = k ∧
    (s.slotReplaced k f).sec.nextActSeq = s.sec.nextActSeq + 1 ∧ (s.slotReplaced k f).sec.slotInForce = s.sec.slotInForce := by
  obtain ⟨inForce, seq⟩ := s.slotWrite_kept k f
  exact ⟨rfl, congrArg (· + 1) seq, inForce⟩

theorem State.slotReplaced_tag (s : State) (k : Nat) (f : FwImage) (t : Nat) : (s.slotReplaced k f).tag t = s.tag t :=
  (Chg.step (State.actRecord_chg _ k) (State.slotWrite_chg s k f) (by decide)).tag_eq rfl t

/-- What ACTIVATE_NEXT makes of the image of its slot. -/
def State.activateNextAnswer (s : State) (tag k : Nat) : State :=
  match s.fwSlot k with
  | some f => if s.imageGood f then (s.actRecord k).succeed tag else s.commitTag tag ⟨1, 7⟩
  | none => s.commitTag tag ⟨1, 7⟩

theorem exec_firmwareCommitActivateNext (h : s.commits tag 2 k) (hk : k ≤ 2) :
    exec (.firmwareCommitActivateNext tag) s = .next (s.activateNextAnswer tag k) := by
  obtain ⟨ha, hp, rfl⟩ := h
  refine (next_when (State.fwCommit_of ha (by rw [hp]; rfl))).trans (congrArg Host.Outcome.next ?_)
  exact if_neg (Nat.not_lt.mpr hk)

/-! ### The start of a hitless activation (R435) -/

/-- An activation that has begun, with the first cluster of its order. -/
def State.activationBegun (s : State) (tag k : Nat) : State :=
  { s with sec := { s.sec with actState := 1, actSlot := k, actTag := some tag, actEnginesLeft := 8, actCluster := 12, lastHoldUs := 0 } }.setTag
    tag { s.tag tag with built := true, st := .run }

/-- Something stands against an activation: one that runs, a sanitize, a mode that is not steady, or the lack of a free spare engine. -/
def State.activationHeld (s : State) : Prop :=
  s.sec.actState = 1 ∨ s.sec.actState = 2 ∨ s.sec.sanRunning ≠ 0 ∨ s.sec.transition = true ∨ s.mode.base = .flush ∨ s.freeSpares.isEmpty = true

theorem exec_firmwareCommitActivateNow_inForce (h : s.commits tag 3 k) (hk : k ≤ 2) (hf : k = s.sec.slotInForce) :
    exec (.firmwareCommitActivateNow tag) s = .next (s.succeed tag) := by
  obtain ⟨ha, hp, rfl⟩ := h
  refine (next_when (State.fwCommit_of ha (by rw [hp]; rfl))).trans (congrArg Host.Outcome.next ?_)
  exact (if_neg (Nat.not_lt.mpr hk)).trans (if_pos hf)

theorem exec_firmwareCommitActivateNow_held (h : s.commits tag 3 k) (hk : k ≤ 2) (hf : k ≠ s.sec.slotInForce) (hh : s.activationHeld) :
    exec (.firmwareCommitActivateNow tag) s = .next (s.commitTag tag ⟨1, 0x13⟩) := by
  obtain ⟨ha, hp, rfl⟩ := h
  refine (next_when (State.fwCommit_of ha (by rw [hp]; rfl))).trans (congrArg Host.Outcome.next ?_)
  exact (if_neg (Nat.not_lt.mpr hk)).trans ((if_neg hf).trans (if_pos hh))

theorem exec_firmwareCommitActivateNow_begins (h : s.commits tag 3 k) (hk : k ≤ 2) (hf : k ≠ s.sec.slotInForce) (hh : ¬ s.activationHeld)
    (hs : s.fwSlot k = some f) (hg : s.imageGood f = true) :
    exec (.firmwareCommitActivateNow tag) s = .next (s.activationBegun tag k) := by
  obtain ⟨ha, hp, rfl⟩ := h
  refine (next_when (State.fwCommit_of ha (by rw [hp]; rfl))).trans (congrArg Host.Outcome.next ?_)
  refine (if_neg (Nat.not_lt.mpr hk)).trans ((if_neg hf).trans ((if_neg hh).trans ?_))
  dsimp only
  rw [hs]
  exact if_pos hg

theorem State.activationBegun_tag (s : State) (tag k : Nat) : ((s.activationBegun tag k).tag tag).st = .run := by
  unfold State.activationBegun
  rw [State.setTag_tag]

end Sys2Proof.Machine
end

section
/-! SUPPORT. The handoffs of a hitless activation (R435, R436): the engines of a group, the next cluster, and the end of the activation. -/

namespace Sys2Proof.Machine

variable {s : State} {us g c : Nat}

/-! ### A group of engines -/

/-- The engines that a handoff moves. -/
def State.handoffEngines (s : State) (g : Nat) : List Nat :=
  (List.range g).map (fun i => 8 * s.sec.actCluster + (8 - s.sec.actEnginesLeft) + i)

/-- A group of engines runs the new image. -/
def State.enginesMoved (s : State) (g : Nat) : State :=
  s.forEach (s.handoffEngines g) (fun e s => s.setEngine e { s.engine e with newImage := true })

/-- A handoff: its engines have moved, and the activation counts them. -/
def State.handedOff (s : State) (us g : Nat) : State :=
  { s.enginesMoved g with sec := { (s.enginesMoved g).sec with
      actState := 2, lastHoldUs := max (s.enginesMoved g).sec.lastHoldUs us, actEnginesLeft := s.sec.actEnginesLeft - g } }

/-- The activation goes on with a cluster. -/
def State.nextCluster (s : State) (c : Nat) : State := { s with sec := { s.sec with actCluster := c, actEnginesLeft := 8 } }

/-- A handoff of a running activation with at least one engine to move. -/
structure State.handsOff (s : State) (g : Nat) : Prop where
  runs : s.sec.actState = 1 ∨ s.sec.actState = 2
  awake : s.awake = true
  group : g = min s.sec.actEnginesLeft s.freeSpares.length
  some_ : 0 < g

theorem exec_activationHandoff (h : s.handsOff g) : exec (.activationHandoff us) s = .next
    (if s.sec.actEnginesLeft - g ≠ 0 then s.handedOff us g
     else match actNext s.sec.actCluster with
       | some k => (s.handedOff us g).nextCluster k
       | none => (s.handedOff us g).actDone) := by
  obtain ⟨hr, ha, rfl, hg⟩ := h
  refine (next_when ?_).trans (congrArg Host.Outcome.next ?_)
  · rw [ha, Bool.and_true, Bool.or_eq_true, beq_iff_eq, beq_iff_eq]
    exact hr
  · exact if_neg (by omega)

theorem exec_activationHandoff_within (h : s.handsOff g) (hl : s.sec.actEnginesLeft ≠ g) :
    exec (.activationHandoff us) s = .next (s.handedOff us g) := by
  have left : s.sec.actEnginesLeft - g ≠ 0 := by
    have := h.group
    omega
  rw [exec_activationHandoff h, if_pos left]

theorem exec_activationHandoff_cluster (h : s.handsOff g) (hl : s.sec.actEnginesLeft = g) (hc : actNext s.sec.actCluster = some c) :
    exec (.activationHandoff us) s = .next ((s.handedOff us g).nextCluster c) := by
  rw [exec_activationHandoff h, if_neg (by omega), hc]

theorem exec_activationHandoff_last (h : s.handsOff g) (hl : s.sec.actEnginesLeft = g) (hc : actNext s.sec.actCluster = none) :
    exec (.activationHandoff us) s = .next (s.handedOff us g).actDone := by
  rw [exec_activationHandoff h, if_neg (by omega), hc]

theorem State.enginesMoved_chg (s : State) (g : Nat) : Chg 4194304 s (s.enginesMoved g) :=
  Chg.forEach (fun e t => t.setEngine_chg e { t.engine e with newImage := true }) (Chg.refl _ s)

theorem State.setEngine_newImage (s : State) (e k : Nat) (h : (s.engine k).newImage = true) :
    ((s.setEngine e { s.engine e with newImage := true }).engine k).newImage = true := by
  by_cases he : e = k
  · subst he; rw [State.setEngine_engine]
  · rw [State.setEngine_engine_ne _ _ he]; exact h

theorem State.enginesMoved_engine (s : State) (g : Nat) {k : Nat} (hk : k ∈ s.handoffEngines g) :
    ((s.enginesMoved g).engine k).newImage = true :=
  State.forEach_makes (I := fun _ => True) (P := fun t => (t.engine k).newImage = true) hk trivial (fun _ _ _ => trivial)
    (fun e t => t.setEngine_newImage e k) (fun t _ => by rw [State.setEngine_engine])

/-- The record of the activation after a handoff. -/
theorem State.handedOff_sec (s : State) (us g : Nat) : (s.handedOff us g).sec =
    { s.sec with actState := 2, lastHoldUs := max s.sec.lastHoldUs us, actEnginesLeft := s.sec.actEnginesLeft - g } := by
  unfold State.handedOff
  dsimp only
  rw [(s.enginesMoved_chg g).sec rfl]

theorem State.handedOff_engine (s : State) (us g : Nat) {i : Nat} (hi : i < g) :
    ((s.handedOff us g).engine (8 * s.sec.actCluster + (8 - s.sec.actEnginesLeft) + i)).newImage = true :=
  s.enginesMoved_engine g (List.mem_map_of_mem (List.mem_range.mpr hi))

theorem State.handedOff_tag (s : State) (us g k : Nat) : (s.handedOff us g).tag k = s.tag k := (s.enginesMoved_chg g).tag_eq rfl k

/-! ### The end of an activation (R436) -/

/-- Every engine runs the image in force, which is the old one for the next activation. -/
def State.imagesSettled (s : State) : State :=
  { s with
    engines := (s.engines.map (fun (x : Nat × Engine) => (x.1, { x.2 with newImage := false }))).filter
      (fun x => !decide (x.2 = ({} : Engine))) }

/-- The new image is in force: the record of the activation, its count, and the Alias key. -/
def State.imageInForce (s : State) (k : Nat) : State :=
  { s.actRecord k with sec := { (s.actRecord k).sec with
      slotInForce := k, activations := satAdd 32 (s.actRecord k).sec.activations 1, aliasNo := (s.actRecord k).sec.aliasNo + 1
      actState := 0, actTag := none, actEnginesLeft := 0 } }

/-- The activation has ended; its command has not. -/
def State.activated (s : State) : State := ((s.imageInForce s.sec.actSlot).imagesSettled).lcsBit 2

theorem State.actDone_eq (s : State) : s.actDone = match s.sec.actTag with
    | some t => s.activated.succeed t
    | none => s.activated := by
  unfold State.actDone State.activated State.imagesSettled State.imageInForce
  rfl

theorem State.imageInForce_sec (s : State) (k : Nat) : (s.imageInForce k).sec.actState = 0 ∧ (s.imageInForce k).sec.slotInForce = k ∧
    (s.imageInForce k).sec.activations = satAdd 32 s.sec.activations 1 ∧ (s.imageInForce k).sec.aliasNo = s.sec.aliasNo + 1 ∧
    (s.imageInForce k).sec.actTag = none := ⟨rfl, rfl, rfl, rfl, rfl⟩

theorem State.imagesSettled_engine (s : State) (e : Nat) : (s.imagesSettled.engine e).newImage = false := by
  by_cases h : s.imagesSettled.engine e = {}
  · rw [h]
  · obtain ⟨x, -, hx⟩ := List.mem_map.mp (List.mem_filter.mp (Tbl.mem_of_get _ _ _ h)).1
    exact (congrArg (fun y : Nat × Engine => y.2.newImage) hx).symm

theorem State.imagesSettled_sec (s : State) : s.imagesSettled.sec = s.sec := rfl

theorem State.activated_sec (s : State) : s.activated.sec = (s.imageInForce s.sec.actSlot).sec := by
  unfold State.activated
  rw [(State.lcsBit_chg ..).sec rfl, State.imagesSettled_sec]

theorem State.activated_engine (s : State) (e : Nat) : (s.activated.engine e).newImage = false :=
  State.imagesSettled_engine (s.imageInForce s.sec.actSlot) e

theorem State.imageInForce_tag (s : State) (j k : Nat) : (s.imageInForce j).tag k = s.tag k := rfl

theorem State.imagesSettled_tag (s : State) (k : Nat) : s.imagesSettled.tag k = s.tag k := rfl

theorem State.activated_tag (s : State) (k : Nat) : s.activated.tag k = s.tag k := by
  unfold State.activated
  rw [(State.lcsBit_chg ..).tag_eq rfl, State.imagesSettled_tag, State.imageInForce_tag]

/-- The command's end leaves of the activation what its last handoff left. -/
theorem State.actDone_frame (s : State) : s.actDone.sec = s.activated.sec ∧ s.actDone.engines = s.activated.engines := by
  rw [State.actDone_eq]
  split
  · have ends := State.commitTag_chg s.activated
    exact ⟨(ends ..).sec rfl, (ends ..).engines rfl⟩
  · exact ⟨rfl, rfl⟩

/-- The image of the activation's slot is in force, and every engine has it. -/
theorem State.actDone_done (s : State) : s.actDone.sec.actState = 0 ∧ s.actDone.sec.slotInForce = s.sec.actSlot ∧
    s.actDone.sec.activations = satAdd 32 s.sec.activations 1 ∧ s.actDone.sec.aliasNo = s.sec.aliasNo + 1 ∧ s.actDone.sec.actTag = none ∧
    ∀ e, (s.actDone.engine e).newImage = false := by
  obtain ⟨sec, engines⟩ := s.actDone_frame
  obtain ⟨st, slot, count, aliasNo, tag⟩ := s.imageInForce_sec s.sec.actSlot
  rw [sec, s.activated_sec]
  refine ⟨st, slot, count, aliasNo, tag, fun e => ?_⟩
  unfold State.engine
  rw [engines]
  exact s.activated_engine e

/-- The command that asked for the activation ends with Success. -/
theorem State.actDone_posts {k : Nat} (hk : s.sec.actTag = some k) (hr : (s.tag k).st = .run) : Posts s.actDone k ⟨0, 0⟩ := by
  rw [State.actDone_eq, hk]
  exact (State.commitTag_posts (by rw [s.activated_tag, hr]; rfl) _ 0 0).1

end Sys2Proof.Machine
end

section
/-! The statement about firmware. -/

namespace Sys2Proof
open Machine

/-- Settles O33. The slot of FS 0 and the verification at once are the model's choice (log entry 67). -/
theorem firmwareCommands : Obligations.FirmwareCommands := by
  refine ⟨fun s tag f e p ha he hp ho h1 h2 h3 => ?_, fun s tag f o ha ho hne => ?_, fun s tag k ha hact hk => ?_,
    fun s tag k ha hact hk hle => ?_, fun s tag k ha hact hk hle => ?_, fun s us g hr haw hg hpos => ?_⟩
  · subst he hp
    have good : s.downloads tag := ⟨ha, ho, h1, h2, h3⟩
    refine ⟨fun hm => ?_, fun hm hd => ?_⟩
    · obtain ⟨refused, -, sec⟩ := State.adm_ends ha ⟨0, 2⟩
      exact ⟨_, exec_firmwareImageDownload_meets good hm, refused, sec⟩
    · obtain ⟨posts, -, sec⟩ := State.adm_succeeds (u := s.pieceStaged tag f) ha rfl
      refine ⟨_, exec_firmwareImageDownload_staged good hm hd, posts, ?_⟩
      rw [sec]
      exact ⟨rfl, rfl, rfl, rfl⟩
  · obtain ⟨refused, -, sec⟩ := State.adm_ends ha ⟨0, 0x0C⟩
    exact ⟨_, exec_firmwareImageDownload_owned ha ho hne, refused, sec⟩
  · have replaces := exec_firmwareCommitReplace ⟨ha, hact, hk⟩
    refine ⟨fun hbad => ?_, fun f hpos hle hne hf hst hgood => ?_, fun hle hne hf => ?_⟩
    · obtain ⟨refused, -, sec⟩ := State.adm_ends ha ⟨1, 6⟩
      exact ⟨_, replaces.trans (by rw [if_pos hbad]), refused, sec⟩
    · obtain ⟨posts, -, sec⟩ := State.adm_succeeds ha (s.slotReplaced_tag k f tag)
      obtain ⟨image, stored, svn, slot⟩ := s.slotWrite_fwSlot f hpos hle
      obtain ⟨pieces, staging, owner⟩ := s.slotReplaced_staging k f
      have answer : s.replaceAnswer tag k = (s.slotReplaced k f).succeed tag := by
        unfold State.replaceAnswer
        rw [hf]
        exact if_pos (by rw [hst, hgood]; rfl)
      refine ⟨(s.slotReplaced k f).succeed tag, replaces.trans (by rw [if_neg (by omega), answer]), posts, ⟨image, ?_, svn, slot⟩, ?_⟩
      · unfold State.fwSlot
        rw [sec]
        exact stored
      · rw [sec]
        exact ⟨pieces, staging, owner, s.slotReplaced_sec k f⟩
    · obtain ⟨refused, -, sec⟩ := State.adm_ends ha ⟨1, 7⟩
      refine ⟨s.commitTag tag ⟨1, 7⟩, replaces.trans ?_, refused, sec⟩
      rw [if_neg (by omega)]
      unfold State.replaceAnswer
      rw [hf]
  · have activates := exec_firmwareCommitActivateNext ⟨ha, hact, hk⟩ hle
    unfold State.activateNextAnswer at activates
    refine ⟨fun f hf hgood => ?_, fun hf => ?_⟩
    · obtain ⟨posts, -, sec⟩ := State.adm_succeeds ha ((s.actRecord_chg k).tag_eq rfl tag)
      rw [hf] at activates
      refine ⟨_, activates.trans (congrArg Host.Outcome.next (if_pos hgood)), posts, ?_⟩
      rw [sec]
      exact s.actRecord_sec k
    · obtain ⟨refused, -, sec⟩ := State.adm_ends ha ⟨1, 7⟩
      rw [hf] at activates
      exact ⟨_, activates, refused, sec⟩
  · have good : s.commits tag 3 k := ⟨ha, hact, hk⟩
    refine ⟨fun hin => ?_, fun f hne h1 h2 hsan ht hm hsp hf hgood => ?_, fun hne hsp => ?_⟩
    · obtain ⟨posts, -, sec⟩ := State.adm_succeeds (u := s) ha rfl
      exact ⟨_, exec_firmwareCommitActivateNow_inForce good hle hin, posts, sec⟩
    · have clear : ¬ s.activationHeld := by
        rintro (h | h | h | h | h | h)
        · exact h1 h
        · exact h2 h
        · exact h hsan
        · exact Bool.noConfusion (ht.symm.trans h)
        · exact hm h
        · exact hsp (List.isEmpty_iff.mp h)
      exact ⟨_, exec_firmwareCommitActivateNow_begins good hle hne clear hf hgood, s.activationBegun_tag tag k, rfl, rfl, rfl, rfl, rfl, rfl⟩
    · obtain ⟨refused, -, sec⟩ := State.adm_ends ha ⟨1, 0x13⟩
      have held : s.activationHeld := .inr (.inr (.inr (.inr (.inr (List.isEmpty_iff.mpr hsp)))))
      exact ⟨_, exec_firmwareCommitActivateNow_held good hle hne held, refused, sec⟩
  · have good : s.handsOff g := ⟨hr, haw, hg, hpos⟩
    have sec := s.handedOff_sec us g
    refine ⟨fun hl => ?_, fun c hl hc => ?_, fun hl hc => ?_⟩
    · refine ⟨_, exec_activationHandoff_within good hl, ?_⟩
      rw [sec]
      exact ⟨rfl, rfl, rfl, rfl, fun i hi => s.handedOff_engine us g hi⟩
    · refine ⟨_, exec_activationHandoff_cluster good hl hc, rfl, rfl, ?_⟩
      unfold State.nextCluster
      dsimp only
      rw [sec]
      exact ⟨rfl, rfl⟩
    · obtain ⟨st, slot, count, aliasNo, tag, images⟩ := (s.handedOff us g).actDone_done
      rw [sec] at slot count aliasNo
      exact ⟨_, exec_activationHandoff_last good hl hc, st, slot, count, aliasNo, tag,
        fun k hk hrun => State.actDone_posts (by rw [sec]; exact hk) (by rw [s.handedOff_tag]; exact hrun), images⟩

end Sys2Proof
end
